-- ==== Sys2Proof/Word.lean ====
section
/-! DEFINITION. The byte type and the sparse table type every keyed family of state is held in. -/

namespace Sys2Proof

/-- One byte as the manual carries it (R5, R509). -/
abbrev Byte := BitVec 8

/-- A sparse table: (key, value) pairs, keys strictly rising. An unlisted key holds the family's default. -/
abbrev Tab (α : Type) := List (Nat × α)

/-- A dictionary value (R508): a number for the basic types, bytes for strings, DOMAINs and the like. -/
inductive Val where
  | num (n : Int)
  | bytes (b : List Byte)
  deriving DecidableEq, Repr

/-- The two logic dies (R80). -/
inductive Die where
  | e | w
  deriving DecidableEq, Repr

/-- Bit 10 of an address: 0 E, 1 W (Table 2.5). -/
def Die.idx : Die → Nat
  | .e => 0
  | .w => 1

/-- The other die. -/
def Die.other : Die → Die
  | .e => .w
  | .w => .e

end Sys2Proof
end

