-- ==== Sys2Proof/Syntax.lean ====
section
/-! DEFINITION. The commands: one constructor per row of the operation table, in the table's order, and the
types of their operands. Every constructor's first operand `t` is the clocked tick (2.5 ns, R159) at which the
event is handled; `r` is the requester of a dictionary access (R517). -/

namespace Sys2Proof

/-- Who sends a dictionary request: a CAN port, a ZDP session, a mailbox ring (R517), or the package itself for an
entry of an applied change set (R577). -/
inductive Req where
  | can (c : Nat)
  | zdp (sess : Nat)
  | mailbox (ring : Nat)
  | changeSet
  deriving DecidableEq, Repr

/-- The five restartable processors of Table 2.3 (LVS is handled by R69). -/
inductive Proc where
  | sys | net | med | cmp | tch
  deriving DecidableEq, Repr

/-- What Table 3.3 reads of an IP packet. `proto` 0 is any IP that is not UDP. -/
structure IpInfo where
  v6 : Bool
  hdrSumOk : Bool
  options : Bool
  fragment : Bool
  hopByHop : Bool
  otherExt : Bool
  udp : Bool
  udpSumZero : Bool
  udpSumOk : Bool
  dstAddr : List Byte
  srcAddr : List Byte
  srcPort : Nat
  dstPort : Nat
  deriving DecidableEq, Repr

/-- A received Ethernet frame as Tables 3.2 and 3.3 read it; `len` counts destination address to FCS inclusive, `dst` is the
destination MAC address. -/
structure Frame where
  fcsOk : Bool
  len : Nat
  tpid88a8 : Bool
  vid : Option Nat
  dst : Nat
  etherType : Nat
  ip : Option IpInfo
  data : List Byte
  deriving DecidableEq, Repr

/-- What a sequence parameter set tells (R136, R152, R204, R211, R229, R254): its identifier; what the declaration bounds; the
coded size, and the conformance window by its offsets and size; the CTU (macroblock) size; the bumping limits
(pictures held back, latency in pictures, buffering); and the VUI's range, matrix, transfer and primaries codes. -/
structure ParamSet where
  id : Nat
  h264 : Bool
  profile : Nat
  interlaced : Bool
  chroma420 : Bool
  bitDepth : Nat
  extension : Bool
  codedW : Nat
  codedH : Nat
  confX : Nat
  confY : Nat
  width : Nat
  height : Nat
  ctu : Nat
  reorder : Nat
  latency : Nat
  buffering : Nat
  fullRange : Bool
  matrix : Nat
  transfer : Nat
  primaries : Nat
  deriving DecidableEq, Repr

/-- What a picture parameter set tells: its identifiers, the tile columns and rows in CTUs, and wavefronts (R204). -/
structure PicSet where
  id : Nat
  sps : Nat
  tileCols : List Nat
  tileRows : List Nat
  wavefront : Bool
  deriving DecidableEq, Repr

/-- A slice segment (a slice in H.264): its NAL unit type, its first CTU in raster order, whether it depends on the
segment before it, its parameter set, the pictures its reference lists name, and the bits of each of its CTUs in coding order. -/
structure Slice where
  nut : Nat
  first : Nat
  dependent : Bool
  pps : Nat
  refs : List Nat
  ctus : List Nat
  deriving DecidableEq, Repr

/-- What a NAL unit holds. SEI content is raw, emulation prevention bytes included (R134); `bad` is a parameter set that cannot
be parsed (R202), `endSeq` an end of sequence. -/
inductive NalBody where
  | sei (suffix : Bool) (ptype : Nat) (raw : List Byte)
  | sps (p : ParamSet)
  | pps (p : PicSet)
  | bad
  | vcl (x : Slice)
  | endSeq
  | other
  deriving DecidableEq, Repr

/-- One NAL unit, with its nuh_layer_id (Table 5.2). -/
structure Nal where
  body : NalBody
  layer : Nat := 0
  deriving DecidableEq, Repr

/-- An RTP payload (Table 3.4): the type of its payload header, the start and end bits of a fragmentation unit, and the NAL
units it carries; the last fragment of a unit carries the unit put together. -/
structure RtpBody where
  ptype : Nat
  first : Bool := true
  last : Bool := true
  nals : List Nal
  deriving DecidableEq, Repr

/-- A received RTP packet; `mac` is its MAC stamp in ticks, and `ringFull` says that the session's ring had no space for it
(R133). -/
structure RtpPkt where
  mac : Nat
  version : Nat
  pt : Nat
  ssrc : Nat
  seq : Nat
  ts : Nat
  marker : Bool
  body : RtpBody
  ringFull : Bool := false
  deriving DecidableEq, Repr

/-- An RTCP item of a compound packet (R131). -/
inductive RtcpItem where
  | sr (ssrc ntpSec ntpFrac rtpTs : Nat)
  | bye (ssrc : Nat)
  | other
  deriving DecidableEq, Repr

/-- A rectangle by its columns and lines, the ends exclusive; empty when an end is not after its start. -/
structure Area where
  x0 : Nat
  x1 : Nat
  y0 : Nat
  y1 : Nat
  deriving DecidableEq, Repr

/-- How a block is predicted (R219): from neighbouring samples of its picture (none read where unavailable or excluded), or
from reference pictures, each with the motion vector in quarter luma samples. -/
inductive Pred where
  | intra (neigh : List Area)
  | inter (vecs : List (Nat × Int × Int))
  deriving DecidableEq, Repr

/-- A decoded block in decode order: its luma samples and its prediction. -/
structure Block where
  area : Area
  pred : Pred
  deriving DecidableEq, Repr

/-- An in-loop filter operation applied (R220), in luma positions: the samples it reads and those it modifies. An edge that
is not filtered has none. -/
structure FilterOp where
  ins : List Area
  outs : List Area
  deriving DecidableEq, Repr

/-- What the decoder reports of a picture when it completes (chapter 5). `number` is its place in output order within its
coded video sequence; `keep` are the pictures that stay marked as reference after it; `noPrior` discards those waiting for
output; `errors` names the slice segments (by position) that had a bitstream error, with the CTUs decoded before
it; `y`, `cb`, `cr` are the native samples of the coded size in raster order, darned ones not filled; `ended` are the cores
that finished their segments since they were last reported, each with its tick. -/
structure PicDesc where
  number : Nat
  isRef : Bool
  output : Bool
  noPrior : Bool
  keep : List Nat
  errors : List (Nat × Nat)
  blocks : List Block
  filters : List FilterOp
  y : List Nat
  cb : List Nat
  cr : List Nat
  ended : List (Nat × Nat) := []
  deriving DecidableEq, Repr

/-- The fields of a received PTP message that R167 to R175 read. Times are in ns. -/
structure PtpMsg where
  kind : Nat
  domain : Nat
  seqId : Nat
  logInterval : Int
  twoStep : Bool
  originNs : Nat
  correction : Int
  rxNs : Nat
  transport : Nat
  requester : Nat
  priority1 : Nat
  clockClass : Nat
  accuracy : Nat
  variance : Nat
  priority2 : Nat
  gmIdentity : Nat
  steps : Nat
  senderIdentity : Nat
  utcOffset : Int
  utcValid : Bool
  deriving DecidableEq, Repr

/-- What a sink reports when HPD rises (R325): DPCD 0x0000 to 0x000F, VSC colorimetry support, EDID. -/
structure Sink where
  dpcd : List Byte
  vscColorimetry : Bool
  edid : List Byte
  deriving DecidableEq, Repr

/-- A link tried in a DisplayPort training (R326, R327): rate code and lanes; per iteration of clock recovery and of
equalisation, the swing and pre-emphasis levels the sink requested for each lane. -/
structure LinkTry where
  rate : Nat
  lanes : Nat
  cr : List (List (Nat × Nat))
  eq : List (List (Nat × Nat))
  deriving DecidableEq, Repr

/-- A pixel that arrived at the transmitter input with other components than the scan-out unit sent (R70). -/
structure LinkPx where
  x : Nat
  y : Nat
  r : Nat
  g : Nat
  b : Nat
  deriving DecidableEq, Repr

/-- What the encode core reports of a coded picture (R349, R351, R354, R356): the bits of each CTU in coding order, as coded
normally and as coded skip; its blocks with the prediction it chose for each; the reconstructed luma samples in raster order;
the bits of each slice header, the bits of the other NAL units with the label's map at full length, the time to the frame
start of the next picture, and the RTP packets the unit takes. -/
structure EncInfo where
  ctus : List (Nat × Nat)
  blocks : List Block
  recon : List Nat
  headers : List Nat
  nonVclBits : Nat
  nextDeltaNs : Nat
  packets : Nat
  deriving DecidableEq, Repr

/-- Where a ZTT message came from: a UDP datagram or a descriptor of a host ring (R371). -/
inductive ZttVia where
  | udp (port : Nat) (dstAddr srcAddr : List Byte) (dstPort srcPort : Nat)
  | ring (q : Nat)
  deriving DecidableEq, Repr

/-- A ZTT message as it comes in (R371, R498): in a UDP datagram, or by a host ring's descriptor of 32 bytes. -/
inductive ZttIn where
  | udp (port : Nat) (dstAddr srcAddr : List Byte) (dstPort srcPort : Nat)
  | ring (q : Nat) (desc : List Byte)
  deriving DecidableEq, Repr

def ZttIn.via : ZttIn → ZttVia
  | .udp p d s dp sp => .udp p d s dp sp
  | .ring q _ => .ring q

/-- A core that takes work (R196), and the cores that finished their segments since, with the time. -/
structure CoreStart where
  core : Nat
  ended : List (Nat × Nat)
  deriving DecidableEq, Repr

/-- A host ring descriptor as fetched: its 32 bytes (Table 14.6), and the bytes of its buffer A. -/
structure DescWire where
  bytes : List Byte
  data : List Byte
  deriving DecidableEq, Repr

/-- A symbol of a serial lane: data, the control symbols the manual uses, or none of the code. -/
inductive Sym where
  | d (b : Byte)
  | k280
  | k285
  | k277
  | k297
  | bad
  deriving DecidableEq, Repr

/-- The symbols a lane received since its lock was last looked at, each with its place in the bit stream (R451). -/
structure LaneSyms where
  lane : Nat
  line : List (Sym × Nat)
  deriving DecidableEq, Repr

/-- What came on a lane: of each symbol whether it was invalid (R451), or the bits a checker was given (R462). -/
structure LaneBits where
  lane : Nat
  line : List Bool
  deriving DecidableEq, Repr

/-- A received Spaydun frame as it came (R465 to R467): the columns from its start column, each with the symbols of logical
lanes 0 upwards; `rxNs` is the port's time stamp of its start. -/
structure SpWire where
  cols : List (List Sym)
  rxNs : Nat
  deriving DecidableEq, Repr

/-- A training set received on a Spaydun port: symbols 3 to 7 of R474, on the lane it names. -/
structure TrainSet where
  lane : Nat
  mask : Nat
  pkgPort : Nat
  flags : Nat
  check : Nat
  deriving DecidableEq, Repr

/-- The ZDP frame as received (Table 15.11), its bytes whole, with its UDP destination and source. -/
structure ZdpFrame where
  port : Nat
  v6 : Bool
  dstAddr : List Byte
  dstPort : Nat
  srcAddr : List Byte
  srcPort : Nat
  bytes : List Byte
  deriving DecidableEq, Repr

/-- A USDO request on a CAN port: a whole read or write, or one segment of a segmented transfer (R517, R519). -/
inductive Usdo where
  | read (idx sub : Nat)
  | write (idx sub : Nat) (data : List Byte)
  | writeSegment (idx sub : Nat) (data : List Byte) (first last : Bool)
  | readSegment (idx sub : Nat) (first : Bool) (size : Nat)
  deriving DecidableEq, Repr

/-- A completed item at a snoop point (Table 16.4): a displayed picture, with the core whose result it is; a scanned frame, with
the pixels that arrived at the transmitter input otherwise than they were sent; a received Spaydun frame; an executed write. -/
inductive Item where
  | picture (core : Option Nat)
  | scan (wrong : List LinkPx)
  | frame (x : SpWire)
  | write (idx sub : Nat) (data : List Byte)
  deriving DecidableEq, Repr

/-- What the ROM finds of a slot (R590): 6, its image cannot be read; else, of an image the package was delivered with, its verdict (a
cause of Table 18.6; 0 accepts it). -/
abbrev RomVerdict := Nat

/-- What the ROM finds of slot A and of slot B. -/
structure RomSlots where
  a : RomVerdict
  b : RomVerdict
  deriving DecidableEq, Repr

/-- What the ROM finds of the new slot (R601), and the units whose self-tests fail at that reset. -/
structure RomCheck where
  verdict : RomVerdict
  bad : List Nat
  deriving DecidableEq, Repr

/-- The commands of the operation table, in its order. -/
inductive Instr where
  | dictionaryWrite (t : Nat) (r : Req) (idx sub : Nat) (data : List Byte)
  | counterReadClear (t : Nat) (r : Req) (idx sub : Nat)
  | mappingAgeExpiry (t n : Nat)
  | layerLatch (t s : Nat)
  | lvsStripRecheck (t s k : Nat)
  | readBackCompare (t slot : Nat) (wrong : List LinkPx)
  | lvsFault (t : Nat) (d : Die)
  | lvsSelfTestDone (t : Nat) (d : Die) (pass : Bool)
  | lvsSelfTestRetry (t : Nat) (d : Die)
  | lvsStatusRead (t : Nat) (r : Req)
  | dieHeartbeatSend (t : Nat) (d : Die)
  | dieHeartbeatTimeout (t : Nat) (d : Die)
  | dieLinkCrcFailure (t xfer : Nat)
  | survivorReloadComplete (t : Nat)
  | dieTimeCompare (t : Nat) (wAhead : Int)
  | processorWatchdogExpiry (t : Nat) (p : Proc) (d : Die)
  | processorRestartComplete (t : Nat) (p : Proc) (d : Die)
  | paceLow (t region pace : Nat)
  | paceRestored (t region pace : Nat)
  | unitSoftFault (t addr : Nat)
  | correctedSramError (t addr : Nat)
  | unitHardFault (t addr : Nat)
  | retestComplete (t addr : Nat) (pass : Bool)
  | staleEpochTransfer (t addr epoch : Nat)
  | sparePeriodicTest (t addr : Nat) (pass : Bool)
  | addressSelect (t : Nat) (r : Req) (addr : Nat)
  | healthDeclareDead (t : Nat) (r : Req)
  | healthReturnToService (t : Nat) (r : Req) (pass : Bool)
  | healthClearFaultCount (t : Nat) (r : Req)
  | quadModeChange (t : Nat) (r : Req) (q mode : Nat)
  | quadLanesUp (t q : Nat)
  | ethernetFrameDiscard (t p : Nat) (f : Frame)
  | arpRequest (t p : Nat) (target : Nat) (sender : List Byte)
  | icmpEchoRequest (t p : Nat) (v6 : Bool) (target : List Byte) (data : List Byte)
  | neighbourSolicitation (t p : Nat) (target : List Byte)
  | multicastQuery (t p : Nat) (v6 : Bool) (version : Nat)
  | rawFrameToHost (t p : Nat) (f : Frame)
  | rtpPacket (t n : Nat) (pkt : RtpPkt)
  | reorderWindowExpiry (t n : Nat)
  | accessUnitRelease (t n : Nat)
  | rtcpPacket (t n : Nat) (mac : Nat) (items : List RtcpItem)
  | rtcpRrSend (t n : Nat)
  | sessionOpen (t : Nat) (r : Req) (n rnd : Nat)
  | sessionClose (t : Nat) (r : Req) (n : Nat)
  | sessionRelease (t : Nat) (r : Req) (n : Nat)
  | sessionResync (t : Nat) (r : Req) (n : Nat)
  | joinTimeout (t n : Nat)
  | starvationTimeout (t n : Nat)
  | ptpMessage (t p : Nat) (m : PtpMsg) (data : List Byte)
  | ptpAnnounceTimeout (t p : Nat)
  | ptpMasterSend (t p : Nat)
  | hostOffsetWrite (t : Nat) (r : Req) (o : Int)
  | servoSourceWrite (t : Nat) (r : Req) (src : Nat)
  | servoLossTimeout (t : Nat)
  | uRefresh (t : Nat)
  | timeMarkSend (t q : Nat)
  | timeMark (t q : Nat) (f : SpWire)
  | triggerArm (t : Nat) (r : Req) (u mode : Nat)
  | triggerDisarm (t : Nat) (r : Req) (u : Nat)
  | triggerFire (t u : Nat)
  | triggerPulseEnd (t u : Nat)
  | triggerLateRead (t : Nat) (r : Req) (u : Nat)
  | captureEdge (t c : Nat) (rising : Bool)
  | captureRecordRead (t : Nat) (r : Req) (c : Nat)
  | segmentDispatch (t : Nat) (go : CoreStart)
  | pictureComplete (t n : Nat) (d : PicDesc)
  | startWaitRead (t : Nat) (r : Req) (n : Option Nat)
  | toneMapApply (t : Nat) (r : Req) (m : Nat)
  | commitRequest (t : Nat) (r : Req) (data : List Byte)
  | commitDiscardStaged (t : Nat) (r : Req)
  | commitCancel (t : Nat) (r : Req)
  | commitSamplePoint (t s : Nat)
  | scheduledCommitDue (t id : Nat)
  | receiptSelect (t : Nat) (r : Req) (id : Nat)
  | pressComplete (t s : Nat)
  | leaseEnd (t n b : Nat)
  | leaseWaitLimit (t : Nat)
  | frameStart (t s : Nat)
  | stripComposeStart (t s k : Nat)
  | stripWrite (t s c k : Nat)
  | stripDrop (t s k : Nat)
  | blankingStart (t s : Nat)
  | lineMatch (t s line : Nat)
  | timingApply (t : Nat) (r : Req) (s : Nat)
  | timingApplyRunning (t s : Nat)
  | linkTrainingComplete (t s : Nat) (failed : List LinkTry) (last : Option LinkTry) (ok : Bool)
  | hpdRise (t s : Nat) (sink : Sink)
  | hpdIrq (t s : Nat) (status align : Nat)
  | hpdUnplug (t s : Nat)
  | dpPrbsGenerator (t : Nat) (r : Req) (s code : Nat)
  | encodeStart (t : Nat) (r : Req) (e ssrc seq : Nat)
  | encodeStop (t : Nat) (r : Req) (e : Nat)
  | encodePictureComplete (t e : Nat) (i : EncInfo)
  | mirrorPacketSend (t e : Nat)
  | mirrorSrSend (t e : Nat)
  | nextHopResolve (t e : Nat)
  | zttMessage (t : Nat) (via : ZttIn) (bytes : List Byte)
  | zttMessageDispatch (t eng : Nat)
  | zttMessageApplied (t eng : Nat)
  | blockCompress (t ctx : Nat) (input : List Byte) (mismatch : Bool)
  | compressResume (t ctx space : Nat)
  | decompressResume (t ctx : Nat) (input : List Byte) (space : Nat)
  | touchFrameStart (t p : Nat)
  | touchFrameProcessed (t p : Nat) (counts : List Nat) (mCur mCand : Nat)
  | touchPortEnable (t : Nat) (r : Req) (p : Nat)
  | touchPortDisable (t : Nat) (r : Req) (p : Nat)
  | touchGeometryWrite (t : Nat) (r : Req) (p sub v : Nat)
  | touchCaptureReference (t : Nat) (r : Req) (p : Nat)
  | touchAcquireBaselines (t : Nat) (r : Req) (p : Nat)
  | touchEraseReferences (t : Nat) (r : Req) (p : Nat)
  | zoneEnable (t : Nat) (r : Req) (z : Nat)
  | zoneDisable (t : Nat) (r : Req) (z : Nat)
  | refreshDue (t : Nat) (bursts : List (Nat × Nat))
  | refreshEnd (t : Nat)
  | dramTemperaturePoll (t : Nat) (temps : List Int)
  | demandMeasure (t demand : Nat)
  | setPointRequest (t : Nat) (r : Req) (sp : Nat)
  | setPointChangeStart (t : Nat)
  | setPointTrainingDone (t : Nat) (ok : Bool)
  | dramTrainingComplete (t : Nat) (reached : List (Option Nat))
  | scrubPass (t : Nat) (w7Errors : List Nat)
  | dramCorrectedError (t w : Nat)
  | dramUncorrectableError (t w addr : Nat) (hit : List Nat)
  | sramUncorrectableError (t s k x : Nat) (ledger : Bool)
  | laneLockGain (t : Nat) (l : LaneSyms)
  | laneLockLoss (t : Nat) (l : LaneBits)
  | boardTableApply (t : Nat) (r : Req)
  | lintSetSend (t q : Nat)
  | lintSetReceive (t q fill : Nat)
  | elasticError (t q : Nat)
  | laneTestMode (t : Nat) (r : Req) (l code : Nat)
  | prbsGenerator (t : Nat) (r : Req) (l code : Nat)
  | prbsChecker (t : Nat) (r : Req) (l code : Nat)
  | spaydunPortEnable (t : Nat) (r : Req) (q : Nat)
  | spaydunPortDisable (t : Nat) (r : Req) (q : Nat)
  | laneLockHold (t q l : Nat)
  | trainingSet (t q : Nat) (ts : TrainSet)
  | spaydunTrainingTimeout (t q : Nat)
  | restripeTimeout (t q : Nat)
  | restoreHoldExpiry (t q l : Nat)
  | retransmitTimeout (t q : Nat)
  | ackOnlySend (t q : Nat)
  | acknowledgement (t q : Nat) (f : SpWire)
  | spaydunFrameSend (t q : Nat)
  | pixelStrip (t q : Nat) (f : SpWire)
  | streamRelay (t q : Nat) (f : SpWire)
  | relayPictureTimeout (t n : Nat)
  | pcieFunctionReset (t : Nat) (kind : Nat)
  | pcieFunctionReady (t : Nat)
  | pcieLinkUp (t speed width : Nat)
  | ringEnable (t q : Nat)
  | ringDisable (t q : Nat)
  | doorbell (t q index : Nat)
  | writeBackConsumer (t q index : Nat)
  | functionEventClear (t bits : Nat)
  | barRegisterWrite (t off size v : Nat)
  | rawTransmit (t q : Nat) (d : DescWire) (stamp : Nat)
  | rawReceiveDescriptor (t q : Nat) (d : DescWire)
  | mailboxRequest (t q : Nat) (d : DescWire)
  | eventBufferDescriptor (t q : Nat) (d : DescWire)
  | eventBufferTimeout (t q : Nat)
  | touchReportDescriptor (t q : Nat) (d : DescWire)
  | busError (t q : Nat) (desc : Option Nat)
  | interruptModerationExpiry (t q : Nat)
  | readPart (t : Nat) (r : Req) (idx sub offset len : Nat)
  | writePart (t : Nat) (r : Req) (idx sub offset : Nat) (last : Bool) (data : List Byte)
  | partTransferTimeout (t : Nat) (r : Req)
  | usdoRequest (t c : Nat) (u : Usdo)
  | usdoSegmentTimeout (t c : Nat)
  | nmtStart (t c : Nat)
  | nmtStop (t c : Nat)
  | nmtEnterPreOperational (t c : Nat)
  | nmtResetNode (t c : Nat)
  | nmtResetCommunication (t c : Nat)
  | sync (t c : Nat)
  | tpdoEventTimer (t k : Nat)
  | tpdoChange (t k : Nat)
  | canHeartbeatSend (t c : Nat)
  | emcySend (t c : Nat)
  | canErrorPassive (t c tec rec : Nat)
  | canBusOff (t c : Nat)
  | canBusOffRecovered (t c : Nat)
  | canPortEnable (t : Nat) (r : Req) (c : Nat)
  | canPortDisable (t : Nat) (r : Req) (c : Nat)
  | zdpHello (t : Nat) (f : ZdpFrame) (nonce : List Byte)
  | zdpRequest (t : Nat) (f : ZdpFrame)
  | zdpClose (t : Nat) (f : ZdpFrame)
  | zdpIdleTimeout (t sess : Nat)
  | zdpKeyWrite (t : Nat) (r : Req) (slot : Nat) (key : List Byte)
  | zdpDisable (t : Nat) (r : Req)
  | storeAll (t : Nat) (r : Req) (ok : Bool)
  | storeCommunication (t : Nat) (r : Req) (ok : Bool)
  | storeApplication (t : Nat) (r : Req) (ok : Bool)
  | restoreDefaultsAll (t : Nat) (r : Req)
  | restoreDefaultsCommunication (t : Nat) (r : Req)
  | restoreDefaultsApplication (t : Nat) (r : Req)
  | configExport (t : Nat) (r : Req)
  | configImport (t : Nat) (r : Req) (data : List Byte)
  | errorHistoryClear (t : Nat) (r : Req)
  | dictionaryLoaded (t : Nat) (readable : Bool)
  | eventArbitrate (t src : Nat)
  | recordSelect (t : Nat) (r : Req) (pos : Nat)
  | checkItem (t u : Nat) (i : Item)
  | checkUnitConfigure (t : Nat) (r : Req) (sub v : Nat)
  | checkRunningValueWrite (t : Nat) (r : Req) (v : Nat)
  | tallySummaryRead (t : Nat)
  | fastReadSnapshot (t k : Nat)
  | tallyCheckWordUpdate (t : Nat)
  | fastReadRefresh (t : Nat)
  | fastReadMapWrite (t : Nat) (r : Req) (data : List Byte)
  | presenceSend (t : Nat)
  | presence (t q : Nat) (f : SpWire)
  | packageAbsent (t p : Nat)
  | joinGraceExpiry (t p : Nat)
  | selfFence (t : Nat)
  | rejoinRequestSend (t : Nat)
  | rejoinRequest (t q : Nat) (f : SpWire)
  | rejoinGrant (t q : Nat) (f : SpWire)
  | imagePart (t q : Nat) (f : SpWire)
  | relayOpen (t q : Nat) (f : SpWire)
  | relayResult (t q : Nat) (f : SpWire)
  | relayClose (t q : Nat) (f : SpWire)
  | relayResync (t q : Nat) (f : SpWire)
  | changeSetWrite (t : Nat) (r : Req) (data : List Byte)
  | stage (t q : Nat) (f : SpWire)
  | staged (t q : Nat) (f : SpWire)
  | changeSetStageTimeout (t : Nat)
  | arm (t q : Nat) (f : SpWire)
  | armed (t q : Nat) (f : SpWire)
  | changeSetArmTimeout (t : Nat)
  | changeSetApply (t : Nat)
  | changeSetSettled (t : Nat)
  | applied (t q : Nat) (f : SpWire)
  | abort (t q : Nat) (f : SpWire)
  | systemAbortChange (t : Nat) (r : Req)
  | systemAdopt (t : Nat) (r : Req)
  | systemDeclareDead (t : Nat) (r : Req)
  | systemRejoin (t : Nat) (r : Req)
  | digestBroadcast (t : Nat)
  | digestFrame (t q : Nat) (f : SpWire)
  | updateOpen (t : Nat) (r : Req)
  | updateClose (t : Nat) (r : Req)
  | updateFinish (t : Nat) (r : Req)
  | updateActivate (t : Nat) (r : Req)
  | updateConfirm (t : Nat) (r : Req)
  | updateFallBack (t : Nat) (r : Req)
  | updateAbandon (t : Nat) (r : Req)
  | updateRevokeKey (t : Nat) (r : Req)
  | updateChunk (t : Nat) (r : Req) (data : List Byte)
  | chunkProgrammed (t : Nat)
  | verifyComplete (t : Nat) (wrong : List (Nat × Byte))
  | updateLockTimeout (t : Nat)
  | confirmWindowExpiry (t : Nat)
  | convertedStoreWritten (t : Nat)
  | romWatchdogExpiry (t : Nat)
  | vinGood (t : Nat) (rom : RomSlots) (bad : List Nat)
  | powerFail (t : Nat)
  | holdUpEnd (t : Nat)
  | supplyOutOfRange (t mV : Nat)
  | supplyRestored (t mV : Nat)
  | resetAssert (t lowNs : Nat)
  | resetRelease (t : Nat) (rom : RomSlots) (bad : List Nat)
  | quietCommand (t : Nat) (r : Req)
  | quietPinLow (t : Nat)
  | quietPinRise (t : Nat)
  | temperatureOverLimit (t : Nat) (d : Die) (temp : Int)
  | temperatureRestored (t : Nat) (d : Die) (temp : Int)
  | thermalTrip (t : Nat) (d : Die)
  | thermalTripRelease (t : Nat) (rom : RomSlots) (bad : List Nat)
  | boundaryScanInstruction (t code : Nat)
  | autoNegotiationComplete (t p : Nat)
  | arpOrNeighbourReply (t p : Nat) (addr : List Byte)
  | prbsCheckerLock (t : Nat) (l : LaneBits)
  | prbsCheckerLockLoss (t l errors bits : Nat)
  | canErrorActive (t c : Nat)
  | suspectWindowExpiry (t addr : Nat)
  | romSlotCheckComplete (t : Nat) (slot : RomCheck)
  | lowerJunctionLimitReached (t : Nat) (rom : Option RomSlots) (bad : List Nat)
  | internalRailOrResonatorFailure (t : Nat)
  | pciePerstDeassert (t : Nat)
  deriving DecidableEq, Repr

end Sys2Proof
end

