-- ==== Sys2Proof/Decode.lean ====
section
/-! DEFINITION. The decoder over table words. No row of the operation table gives its command any bits: the commands
are events and dictionary requests, not words. No word spells a command. -/

namespace Sys2Proof

/-- The command a word spells by the table's bits: none, since no row has bits (log 2). -/
def decodeTableWord (_nbits _w : Nat) : Option Instr := none

end Sys2Proof
end

