-- ==== Sys2Proof/Config.lean ====
section
/-! DEFINITION. What the manual leaves open: opaque constants with no body (free values), applied to the plain
counter `State.free` or to the operands they depend on. -/

namespace Sys2Proof

/-- A free natural number for each use (assumption log 5): nothing constrains it. -/
opaque Config.free : Nat → Nat

/-- A NAL unit of the out-of-band parameter sets (R130), by whether the session is H.264 and its bytes: how a parameter set's
bits are read is the standards' text, not the manual's. -/
opaque Config.parseSet : Bool → List Byte → Option NalBody

/-- The NAL units of an access unit's bytes that came by a relay (R574), for the same reason. -/
opaque Config.parseUnit : List Byte → List Nal

/-- A component of the picture scaled to a destination pixel (Table 6.1 step 3: the filters' coefficients are not given): whether it
is a chroma component, both ratios as (source, destination) sizes, the destination column and line, and the samples of its
footprint in raster order. -/
opaque Config.scaled : Bool → Nat × Nat → Nat × Nat → Nat → Nat → List Nat → Nat

/-- Whether a result of the colour path that is no whole number is rounded up, by the rule that computes it (254, 256, 257 or
345, none of which says), its numerator and its denominator. -/
opaque Config.roundUp : Nat → Int → Nat → Bool

/-- Whether an entry of a BT.1886, PQ or HLG table that is no whole number of its units is rounded up (R256 does not say), by EOTF code,
code value and SDR white or HLG peak. -/
opaque Config.eotfUp : Nat → Nat → Nat → Bool

/-- Whether a session of another package carries graphics, by package and session: the source's kind is a fact outside this
package, which the relay table does not tell (R570, R571). -/
opaque Config.relayGraphics : Nat → Nat → Bool

/-- The increment by which the servo allows for the resonator's frequency error as it has learnt it at an update (R161: how it divides
a correction between phase and frequency is not defined). It is clamped to R161's range where it is used. -/
opaque Config.servoIncrement : Nat → Int

/-- In how many ticks the servo removes an offset at an update (R161). It is held to R161's bound where it is used. -/
opaque Config.servoTicks : Nat → Nat

/-- R170 does not say whether σ divides by the count or by the count less one: the choice is free (log 12). -/
opaque Config.sigmaBessel : Bool

/-- Whether a RESET_N pulse between 1 µs and 10 µs resets the package (R616). -/
opaque Config.shortReset : Nat → Bool

/-- Whether a pixel of the 48 × 48 glyph of a state is set (R57: the glyphs' shapes are not given). -/
opaque Config.glyphPixel : Nat → Nat → Nat → Bool

/-- Whether a pixel of a readout's text is set, by the age shown (tenths of a second, none: unknown) and the pixel's place
in the box (R55: the characters' shapes are not given). -/
opaque Config.readoutPixel : Option Nat → Nat → Nat → Bool

/-- The pace of a region above 1,000 ‰ at a tick (R92): the regulators hold it there; its measure is not given. -/
opaque Config.pace : Nat → Nat → Nat

/-- What the package measures of itself between the reports of the commands, by subindex of 0x2500 and tick: the input voltage and
power, the die temperatures and the highest of them (R614, R621; log 171). -/
opaque Config.measured : Nat → Nat → Nat

/-- The software version string of a firmware version (0x100A). -/
opaque Config.softwareVersion : Nat → List Byte

/-- The EDS of a firmware version and variant (R535: generated at boot; its text is not given). -/
opaque Config.eds : Nat → Nat → List Byte

/-- The boundary-scan description (0x2500:0F). -/
opaque Config.bsdl : List Byte

/-- The objects of the internal rings Q32 to Q63, by ring and subindex (R489 leaves them to the firmware). -/
opaque Config.internalRing : Nat → Nat → Nat

end Sys2Proof
end

