-- ==== Sys2Proof/Machine/Flags.lean ====
section
/-! DEFINITION. Serial-number arithmetic (R12), parity (R552), bit fields, integer roots and the check algorithms of
Table 16.3. -/

namespace Sys2Proof.Machine

/-- (a − b) mod 2^n (R12). -/
def serialDiff (n a b : Nat) : Nat := (a % 2 ^ n + 2 ^ n - b % 2 ^ n) % 2 ^ n

/-- R12: `a` is after `b` for an `n`-bit wrapping counter. -/
def serialAfter (n a b : Nat) : Bool :=
  decide (1 ≤ serialDiff n a b) && decide (serialDiff n a b ≤ 2 ^ (n - 1) - 1)

/-- R12: equal as serial numbers. -/
def serialEq (n a b : Nat) : Bool := decide (serialDiff n a b = 0)

/-- A wrapping counter's next value (code W, Table 0.4). -/
def wrapInc (n v : Nat) : Nat := (v + 1) % 2 ^ n

/-- A wrapping counter's value before `v`. -/
def wrapDec (n v : Nat) : Nat := (v + 2 ^ n - 1) % 2 ^ n

/-- Bits [hi:lo] of a word (R4). -/
def bits (v hi lo : Nat) : Nat := (v >>> lo) % 2 ^ (hi + 1 - lo)

/-- Bit `i` of a word as a Bool. -/
def bit (v i : Nat) : Bool := v.testBit i

/-- A word with bit `i` set or cleared. -/
def setBit (v i : Nat) (b : Bool) : Nat :=
  if b then Nat.lor v (2 ^ i) else v - (if v.testBit i then 2 ^ i else 0)

/-- 1 for true (BOOLEAN, Table 15.1). -/
def b2n (b : Bool) : Nat := if b then 1 else 0

/-- Ones among the low `n` bits. -/
def popCount : Nat → Nat → Nat
  | 0, _ => 0
  | n + 1, v => v % 2 + popCount n (v / 2)

/-- R552: a 15-bit field with bit 15 set exactly when bits [14:0] hold an even number of ones. -/
def oddParity (v : Nat) : Nat := v % 2 ^ 15 + (if popCount 15 v % 2 = 0 then 2 ^ 15 else 0)

/-- Integer ceiling of a quotient. -/
def ceilDiv (a b : Nat) : Nat := if b = 0 then 0 else (a + b - 1) / b

/-- One bit of the integer square root, from bit `n` down. -/
def isqrtAux (v : Nat) : Nat → Nat → Nat
  | 0, r => r
  | n + 1, r => isqrtAux v n (if (r + 2 ^ n) * (r + 2 ^ n) ≤ v then r + 2 ^ n else r)

/-- The integer square root, rounded down, of a value below 2^400. -/
def isqrt (v : Nat) : Nat := isqrtAux v 200 0

/-- The integer square root rounded up. -/
def isqrtUp (v : Nat) : Nat := if isqrt v * isqrt v = v then isqrt v else isqrt v + 1

/-- Eight shifts of a reflected CRC register. -/
def crcShiftR (poly : Nat) : Nat → Nat → Nat
  | 0, c => c
  | k + 1, c => crcShiftR poly k (if c % 2 = 1 then Nat.xor (c / 2) poly else c / 2)

/-- Eight shifts of an unreflected CRC register of width `w`. -/
def crcShiftL (w poly : Nat) : Nat → Nat → Nat
  | 0, c => c
  | k + 1, c => crcShiftL w poly k
      (if c.testBit (w - 1) then Nat.xor (c * 2 % 2 ^ w) poly else c * 2 % 2 ^ w)

/-- A row of Table 16.3. `poly` is given in reflected order where the input is reflected. -/
structure CrcAlg where
  width : Nat
  poly : Nat
  init : Nat
  reflected : Bool
  xorOut : Nat
  deriving DecidableEq, Repr

/-- Table 16.3 by code. -/
def crcAlg : Nat → CrcAlg
  | 0 => ⟨32, 0xEDB88320, 0xFFFFFFFF, true, 0xFFFFFFFF⟩
  | 1 => ⟨32, 0x82F63B78, 0xFFFFFFFF, true, 0xFFFFFFFF⟩
  | 2 => ⟨64, 0x42F0E1EBA9EA3693, 0, false, 0⟩
  | _ => ⟨16, 0x1021, 0xFFFF, false, 0⟩

/-- The running value after one more byte (R546). -/
def crcByte (a : CrcAlg) (c : Nat) (b : Byte) : Nat :=
  if a.reflected then crcShiftR a.poly 8 (Nat.xor c b.toNat)
  else crcShiftL a.width a.poly 8 (Nat.xor c (b.toNat * 2 ^ (a.width - 8)))

/-- The running value over bytes, from a running value (R546): a left fold of `crcByte`, which takes each value apart before the next
byte, so that evaluating it never nests one byte's work in another's. -/
def crcRun (a : CrcAlg) : Nat → List Byte → Nat
  | c, [] => c
  | c, b :: bs =>
    match crcByte a c b with
    | 0 => crcRun a 0 bs
    | n + 1 => crcRun a (n + 1) bs

/-- A result: the running value XOR the final XOR (R546). -/
def crcResult (a : CrcAlg) (c : Nat) : Nat := Nat.xor c a.xorOut

/-- The check value of bytes under an algorithm of Table 16.3. -/
def crc (code : Nat) (bs : List Byte) : Nat := crcResult (crcAlg code) (crcRun (crcAlg code) (crcAlg code).init bs)

end Sys2Proof.Machine
end

