-- ==== Sys2Proof/Machine/Objects.lean ====
section
/-! DEFINITION. The object dictionary's tables (R507 to R512, R529 and every chapter's object tables): one row per
subindex or run of alike subindices, with type, access, storage class, configuration class, default and the check
of R17 that needs no other state. -/

namespace Sys2Proof.Machine

/-- Table 15.1. -/
inductive Ty where
  | bool | i8 | i16 | i32 | i64 | u8 | u16 | u32 | u48 | u64
  | str | oct (n : Nat) | domain | time96 | uuid
  deriving DecidableEq, Repr

/-- Table 0.5 (rwm: none, R511); `konst` is the code the tables write const. -/
inductive Acc where
  | konst | ro | wo | rw
  deriving DecidableEq, Repr

/-- The check of R17 that an object's own table gives. `mask m`: no bit outside `m` set. `size`: bytes. `size4`: and a
multiple of 4. -/
inductive Chk where
  | any
  | rng (lo hi : Int)
  | rngOr (lo hi x : Int)
  | oneOf (l : List Int)
  | mask (m : Nat)
  | size (lo hi : Nat)
  | size4 (lo hi : Nat)
  deriving DecidableEq, Repr

/-- A row: it stands for subindices `lo` to `hi` of the `count` indices from `base`. `sat` marks a counter of code S
(R11, R13). -/
structure Obj where
  base : Nat
  count : Nat
  lo : Nat
  hi : Nat
  ty : Ty
  acc : Acc
  stored : Bool
  cfg : Bool
  sat : Bool
  dflt : Val
  chk : Chk
  deriving DecidableEq, Repr

/-- The identity tone curve (R257): point k is 2,048 × k, the last 65,535; 33 UNSIGNED16 little-endian. -/
def identityCurve : List Byte :=
  (List.range 32).flatMap (fun k => [0, BitVec.ofNat 8 (8 * k)]) ++ [0xFF, 0xFF]

/-- Objects 0x1000 to 0x10FF, from the tables of 15_object_dictionary.md. -/
def page10 : List Obj := [
  ⟨0x1000, 1, 0x00, 0x00, .u32, .konst, false, false, false, (.num 0), .any⟩,
  ⟨0x1001, 1, 0x00, 0x00, .u8, .ro, false, false, false, (.num 0), .any⟩,
  ⟨0x1003, 1, 0x00, 0x00, .u8, .rw, false, false, false, (.num 0), .oneOf [0]⟩,
  ⟨0x1003, 1, 0x01, 0x08, .u32, .ro, false, false, false, (.num 0), .any⟩,
  ⟨0x1005, 1, 0x00, 0x00, .u32, .rw, true, true, false, (.num 128), .mask 0x7FF⟩,
  ⟨0x1008, 1, 0x00, 0x00, .str, .konst, false, false, false, (.bytes [90, 76, 77, 45, 50, 52, 49, 54]), .any⟩,
  ⟨0x1009, 1, 0x00, 0x00, .str, .konst, false, false, false, (.bytes []), .any⟩,
  ⟨0x100A, 1, 0x00, 0x00, .str, .ro, false, false, false, (.bytes []), .any⟩,
  ⟨0x1010, 1, 0x00, 0x00, .u8, .konst, false, false, false, (.num 3), .any⟩,
  ⟨0x1010, 1, 0x01, 0x03, .u32, .rw, false, false, false, (.num 1), .oneOf [0x65766173]⟩,
  ⟨0x1011, 1, 0x00, 0x00, .u8, .konst, false, false, false, (.num 3), .any⟩,
  ⟨0x1011, 1, 0x01, 0x03, .u32, .rw, false, false, false, (.num 1), .oneOf [0x64616F6C]⟩,
  ⟨0x1014, 1, 0x00, 0x00, .u32, .rw, true, true, false, (.num 0), .mask 0x800007FF⟩,
  ⟨0x1017, 1, 0x00, 0x00, .u16, .rw, true, true, false, (.num 100), .any⟩,
  ⟨0x1018, 1, 0x00, 0x00, .u8, .konst, false, false, false, (.num 4), .any⟩,
  ⟨0x1018, 1, 0x01, 0x01, .u32, .konst, false, false, false, (.num 2685), .any⟩,
  ⟨0x1018, 1, 0x02, 0x02, .u32, .konst, false, false, false, (.num 9238), .any⟩,
  ⟨0x1018, 1, 0x03, 0x03, .u32, .ro, false, false, false, (.num 0), .any⟩,
  ⟨0x1018, 1, 0x04, 0x04, .u32, .konst, false, false, false, (.num 0), .any⟩,
  ⟨0x1021, 1, 0x00, 0x00, .domain, .ro, false, false, false, (.bytes []), .any⟩,
  ⟨0x1022, 1, 0x00, 0x00, .u8, .konst, false, false, false, (.num 0), .any⟩]

/-- Objects 0x1800 to 0x18FF, from the tables of 15_object_dictionary.md. -/
def page18 : List Obj := [
  ⟨0x1800, 8, 0x00, 0x00, .u8, .konst, false, false, false, (.num 5), .any⟩,
  ⟨0x1800, 8, 0x01, 0x01, .u32, .rw, true, true, false, (.num 0), .mask 0x800007FF⟩,
  ⟨0x1800, 8, 0x02, 0x02, .u8, .rw, true, true, false, (.num 254), .rngOr 0 240 254⟩,
  ⟨0x1800, 8, 0x03, 0x03, .u16, .rw, true, true, false, (.num 100), .any⟩,
  ⟨0x1800, 8, 0x05, 0x05, .u16, .rw, true, true, false, (.num 100), .any⟩]

/-- Objects 0x1A00 to 0x1AFF, from the tables of 15_object_dictionary.md. -/
def page1A : List Obj := [
  ⟨0x1A00, 8, 0x00, 0x00, .u8, .rw, true, true, false, (.num 0), .rng 0 64⟩,
  ⟨0x1A00, 8, 0x01, 0x40, .u32, .rw, true, true, false, (.num 0), .any⟩]

/-- Objects 0x2000 to 0x20FF, from the tables of 15_object_dictionary.md. -/
def page20 : List Obj := [
  ⟨0x2000, 1, 0x00, 0x00, .u8, .konst, false, false, false, (.num 7), .any⟩,
  ⟨0x2000, 1, 0x01, 0x01, .u8, .konst, false, false, false, (.num 0), .any⟩,
  ⟨0x2000, 1, 0x02, 0x02, .u64, .konst, false, false, false, (.num 0), .any⟩,
  ⟨0x2000, 1, 0x03, 0x03, .uuid, .konst, false, false, false, (.bytes (List.replicate 16 0)), .any⟩,
  ⟨0x2000, 1, 0x04, 0x04, .u48, .konst, false, false, false, (.num 0), .any⟩,
  ⟨0x2000, 1, 0x05, 0x05, .u16, .konst, false, false, false, (.num 0), .any⟩,
  ⟨0x2000, 1, 0x06, 0x06, .bool, .ro, false, false, false, (.num 0), .any⟩,
  ⟨0x2000, 1, 0x07, 0x07, .domain, .ro, false, false, false, (.bytes (List.replicate 16 0)), .any⟩,
  ⟨0x2001, 1, 0x00, 0x00, .u8, .konst, false, false, false, (.num 3), .any⟩,
  ⟨0x2001, 1, 0x01, 0x01, .domain, .ro, false, false, false, (.bytes []), .any⟩,
  ⟨0x2001, 1, 0x02, 0x02, .domain, .wo, false, false, false, (.bytes []), .size 0 4194304⟩,
  ⟨0x2001, 1, 0x03, 0x03, .u32, .ro, false, false, false, (.num 0), .any⟩,
  ⟨0x2010, 1, 0x00, 0x00, .u8, .konst, false, false, false, (.num 2), .any⟩,
  ⟨0x2010, 1, 0x01, 0x01, .u8, .rw, true, true, false, (.num 16), .rng 1 127⟩,
  ⟨0x2010, 1, 0x02, 0x02, .bool, .rw, true, true, false, (.num 0), .rng 0 1⟩,
  ⟨0x2011, 2, 0x00, 0x00, .u8, .konst, false, false, false, (.num 7), .any⟩,
  ⟨0x2011, 2, 0x01, 0x01, .bool, .rw, true, true, false, (.num 1), .rng 0 1⟩,
  ⟨0x2011, 2, 0x02, 0x02, .u8, .rw, true, true, false, (.num 2), .rng 0 3⟩,
  ⟨0x2011, 2, 0x03, 0x03, .u8, .rw, true, true, false, (.num 1), .rng 0 4⟩,
  ⟨0x2011, 2, 0x04, 0x04, .u8, .ro, false, false, false, (.num 0), .any⟩,
  ⟨0x2011, 2, 0x05, 0x05, .u8, .ro, false, false, false, (.num 0), .any⟩,
  ⟨0x2011, 2, 0x06, 0x06, .u32, .ro, false, false, true, (.num 0), .any⟩,
  ⟨0x2011, 2, 0x07, 0x07, .u32, .ro, false, false, true, (.num 0), .any⟩,
  ⟨0x2020, 1, 0x00, 0x00, .u8, .konst, false, false, false, (.num 13), .any⟩,
  ⟨0x2020, 1, 0x01, 0x01, .bool, .rw, true, true, false, (.num 1), .rng 0 1⟩,
  ⟨0x2020, 1, 0x02, 0x02, .u16, .rw, true, true, false, (.num 47220), .rng 1 65535⟩,
  ⟨0x2020, 1, 0x03, 0x03, .u16, .rw, true, true, false, (.num 65535), .any⟩,
  ⟨0x2020, 1, 0x04, 0x07, (.oct 32), .wo, true, false, false, (.bytes []), .any⟩,
  ⟨0x2020, 1, 0x08, 0x08, .u8, .rw, true, false, false, (.num 85), .mask 0x55⟩,
  ⟨0x2020, 1, 0x09, 0x09, (.oct 16), .ro, false, false, false, (.bytes (List.replicate 16 0)), .any⟩,
  ⟨0x2020, 1, 0x0A, 0x0A, .u16, .rw, true, true, false, (.num 60), .rng 10 3600⟩,
  ⟨0x2020, 1, 0x0B, 0x0B, .u8, .ro, false, false, false, (.num 0), .any⟩,
  ⟨0x2020, 1, 0x0C, 0x0C, .u32, .ro, false, false, true, (.num 0), .any⟩,
  ⟨0x2020, 1, 0x0D, 0x0D, .u32, .ro, false, false, true, (.num 0), .any⟩]

/-- Objects 0x2100 to 0x21FF, from the tables of 02_package_architecture.md. -/
def page21 : List Obj := [
  ⟨0x2100, 1, 0x00, 0x00, .u8, .konst, false, false, false, (.num 24), .any⟩,
  ⟨0x2100, 1, 0x01, 0x01, .u16, .ro, false, false, false, (.num 0), .any⟩,
  ⟨0x2100, 1, 0x02, 0x02, .u8, .ro, false, false, false, (.num 3), .any⟩,
  ⟨0x2100, 1, 0x03, 0x03, .u8, .ro, false, false, false, (.num 0), .any⟩,
  ⟨0x2100, 1, 0x04, 0x04, .u32, .rw, false, false, false, (.num 0), .any⟩,
  ⟨0x2100, 1, 0x05, 0x05, .u8, .ro, false, false, false, (.num 0), .any⟩,
  ⟨0x2100, 1, 0x06, 0x06, .u16, .ro, false, false, false, (.num 0), .any⟩,
  ⟨0x2100, 1, 0x07, 0x07, .u32, .ro, false, false, false, (.num 4294967295), .any⟩,
  ⟨0x2100, 1, 0x08, 0x08, .u16, .ro, false, false, true, (.num 0), .any⟩,
  ⟨0x2100, 1, 0x09, 0x09, .u16, .ro, false, false, false, (.num 0), .any⟩,
  ⟨0x2100, 1, 0x0A, 0x0A, .u8, .wo, false, false, false, (.num 0), .rng 1 3⟩,
  ⟨0x2100, 1, 0x0B, 0x0B, .u16, .rw, true, true, false, (.num 10000), .rng 100 60000⟩,
  ⟨0x2100, 1, 0x0C, 0x0C, .u16, .rw, true, true, false, (.num 60), .rng 10 3600⟩,
  ⟨0x2100, 1, 0x0D, 0x0D, .u16, .ro, false, false, false, (.num 0), .any⟩,
  ⟨0x2100, 1, 0x0E, 0x0E, .u16, .ro, false, false, false, (.num 0), .any⟩,
  ⟨0x2100, 1, 0x0F, 0x0F, .u16, .ro, false, false, false, (.num 0), .any⟩,
  ⟨0x2100, 1, 0x10, 0x10, .u16, .ro, false, false, false, (.num 0), .any⟩,
  ⟨0x2100, 1, 0x11, 0x11, .u32, .ro, false, false, true, (.num 0), .any⟩,
  ⟨0x2100, 1, 0x12, 0x17, .u16, .ro, false, false, false, (.num 0), .any⟩,
  ⟨0x2100, 1, 0x18, 0x18, .u8, .ro, false, false, false, (.num 0), .any⟩]

/-- Objects 0x2200 to 0x22FF, from the tables of 16_events_checks_tally.md. -/
def page22 : List Obj := [
  ⟨0x2200, 1, 0x00, 0x00, .u8, .konst, false, false, false, (.num 6), .any⟩,
  ⟨0x2200, 1, 0x01, 0x01, .u64, .ro, false, false, false, (.num 0), .any⟩,
  ⟨0x2200, 1, 0x02, 0x02, .u64, .ro, false, false, false, (.num 0), .any⟩,
  ⟨0x2200, 1, 0x03, 0x03, .u64, .rw, false, false, false, (.num 0), .any⟩,
  ⟨0x2200, 1, 0x04, 0x04, .domain, .ro, false, false, false, (.bytes []), .any⟩,
  ⟨0x2200, 1, 0x05, 0x05, .u32, .ro, false, false, true, (.num 0), .any⟩,
  ⟨0x2200, 1, 0x06, 0x06, .domain, .ro, false, false, false, (.bytes []), .any⟩]

/-- Objects 0x2300 to 0x23FF, from the tables of 16_events_checks_tally.md. -/
def page23 : List Obj := [
  ⟨0x2300, 1, 0x00, 0x00, .u8, .konst, false, false, false, (.num 15), .any⟩,
  ⟨0x2300, 1, 0x01, 0x01, .u8, .rw, false, false, false, (.num 12), .rng 0 47⟩,
  ⟨0x2300, 1, 0x02, 0x02, .u64, .ro, false, false, false, (.num 68702703615), .any⟩,
  ⟨0x2300, 1, 0x03, 0x03, .u8, .rw, false, false, false, (.num 0), .rng 0 3⟩,
  ⟨0x2300, 1, 0x04, 0x04, .u8, .rw, false, false, false, (.num 0), .rng 0 3⟩,
  ⟨0x2300, 1, 0x05, 0x05, .u8, .rw, false, false, false, (.num 0), .rng 0 4⟩,
  ⟨0x2300, 1, 0x06, 0x06, .u32, .rw, false, false, false, (.num 0), .any⟩,
  ⟨0x2300, 1, 0x07, 0x07, .u64, .rw, false, false, false, (.num 0), .any⟩,
  ⟨0x2300, 1, 0x08, 0x08, .u64, .rw, false, false, false, (.num 0), .any⟩,
  ⟨0x2300, 1, 0x09, 0x09, .u64, .ro, false, false, false, (.num 0), .any⟩,
  ⟨0x2300, 1, 0x0A, 0x0A, .u64, .rw, false, false, false, (.num 18446744073709551615), .any⟩,
  ⟨0x2300, 1, 0x0B, 0x0B, .u32, .ro, false, false, true, (.num 0), .any⟩,
  ⟨0x2300, 1, 0x0C, 0x0C, .u32, .ro, false, false, true, (.num 0), .any⟩,
  ⟨0x2300, 1, 0x0D, 0x0D, .u32, .ro, false, false, true, (.num 0), .any⟩,
  ⟨0x2300, 1, 0x0E, 0x0E, .u32, .ro, false, false, true, (.num 0), .any⟩,
  ⟨0x2300, 1, 0x0F, 0x0F, .u8, .rw, false, false, false, (.num 3), .rng 0 255⟩]

/-- Objects 0x2400 to 0x24FF, from the tables of 18_field_update.md. -/
def page24 : List Obj := [
  ⟨0x2400, 1, 0x00, 0x00, .u8, .konst, false, false, false, (.num 17), .any⟩,
  ⟨0x2400, 1, 0x01, 0x01, .u8, .wo, false, false, false, (.num 0), .rng 1 8⟩,
  ⟨0x2400, 1, 0x02, 0x02, .u8, .ro, false, false, false, (.num 0), .any⟩,
  ⟨0x2400, 1, 0x03, 0x03, .u16, .ro, false, false, false, (.num 65535), .any⟩,
  ⟨0x2400, 1, 0x04, 0x04, .u32, .ro, false, false, false, (.num 0), .any⟩,
  ⟨0x2400, 1, 0x05, 0x05, .domain, .wo, false, false, false, (.bytes []), .size 5 65540⟩,
  ⟨0x2400, 1, 0x06, 0x06, .u32, .ro, false, false, false, (.num 0), .any⟩,
  ⟨0x2400, 1, 0x07, 0x07, .u8, .ro, false, false, false, (.num 0), .any⟩,
  ⟨0x2400, 1, 0x08, 0x08, .u8, .ro, false, false, false, (.num 0), .any⟩,
  ⟨0x2400, 1, 0x09, 0x09, .u32, .ro, false, false, false, (.num 0), .any⟩,
  ⟨0x2400, 1, 0x0A, 0x0A, .u32, .ro, false, false, false, (.num 0), .any⟩,
  ⟨0x2400, 1, 0x0B, 0x0B, .u32, .rw, true, false, false, (.num 600), .rng 60 86400⟩,
  ⟨0x2400, 1, 0x0C, 0x0C, .u32, .ro, false, false, false, (.num 4294967295), .any⟩,
  ⟨0x2400, 1, 0x0D, 0x0D, .u16, .ro, true, false, false, (.num 0), .any⟩,
  ⟨0x2400, 1, 0x0E, 0x0E, .u8, .rw, false, false, false, (.num 0), .rng 0 3⟩,
  ⟨0x2400, 1, 0x0F, 0x0F, .u8, .ro, false, false, false, (.num 0), .any⟩,
  ⟨0x2400, 1, 0x10, 0x10, .u8, .ro, false, false, false, (.num 0), .any⟩,
  ⟨0x2400, 1, 0x11, 0x11, .u32, .ro, false, false, false, (.num 0), .any⟩]

/-- Objects 0x2500 to 0x25FF, from the tables of 19_package_power_electrical.md. -/
def page25 : List Obj := [
  ⟨0x2500, 1, 0x00, 0x00, .u8, .konst, false, false, false, (.num 15), .any⟩,
  ⟨0x2500, 1, 0x01, 0x01, .u16, .ro, false, false, false, (.num 0), .any⟩,
  ⟨0x2500, 1, 0x02, 0x02, .u32, .ro, false, false, false, (.num 0), .any⟩,
  ⟨0x2500, 1, 0x03, 0x03, .i8, .konst, false, false, false, (.num 100), .any⟩,
  ⟨0x2500, 1, 0x04, 0x04, .i16, .ro, false, false, false, (.num 0), .any⟩,
  ⟨0x2500, 1, 0x05, 0x05, .i16, .ro, false, false, false, (.num 0), .any⟩,
  ⟨0x2500, 1, 0x06, 0x06, .i16, .ro, false, false, false, (.num 0), .any⟩,
  ⟨0x2500, 1, 0x07, 0x07, .bool, .ro, false, false, false, (.num 0), .any⟩,
  ⟨0x2500, 1, 0x08, 0x08, .u16, .ro, true, false, true, (.num 0), .any⟩,
  ⟨0x2500, 1, 0x09, 0x09, .u32, .ro, false, false, true, (.num 0), .any⟩,
  ⟨0x2500, 1, 0x0A, 0x0A, .u8, .wo, false, false, false, (.num 0), .rng 1 1⟩,
  ⟨0x2500, 1, 0x0B, 0x0B, .u8, .rw, true, true, false, (.num 255), .rngOr 0 15 255⟩,
  ⟨0x2500, 1, 0x0C, 0x0C, .u8, .ro, false, false, false, (.num 0), .any⟩,
  ⟨0x2500, 1, 0x0D, 0x0D, .u8, .rw, true, true, false, (.num 3), .mask 3⟩,
  ⟨0x2500, 1, 0x0E, 0x0E, .u16, .rw, true, true, false, (.num 0), .any⟩,
  ⟨0x2500, 1, 0x0F, 0x0F, .domain, .ro, false, false, false, (.bytes []), .any⟩]

/-- Objects 0x2800 to 0x28FF, from the tables of 04_time_base.md. -/
def page28 : List Obj := [
  ⟨0x2800, 1, 0x00, 0x00, .u8, .konst, false, false, false, (.num 21), .any⟩,
  ⟨0x2800, 1, 0x01, 0x01, .time96, .ro, false, false, false, (.num 0), .any⟩,
  ⟨0x2800, 1, 0x02, 0x02, .u64, .ro, false, false, false, (.num 10737418240), .any⟩,
  ⟨0x2800, 1, 0x03, 0x03, .u8, .rw, true, true, false, (.num 0), .rng 0 3⟩,
  ⟨0x2800, 1, 0x04, 0x04, .u8, .ro, false, false, false, (.num 0), .any⟩,
  ⟨0x2800, 1, 0x05, 0x05, .u32, .rw, true, true, false, (.num 100000), .rng 1000 100000000⟩,
  ⟨0x2800, 1, 0x06, 0x06, .u32, .rw, true, true, false, (.num 10000), .rng 100 10000000⟩,
  ⟨0x2800, 1, 0x07, 0x07, .u16, .rw, true, true, false, (.num 2000), .rng 100 60000⟩,
  ⟨0x2800, 1, 0x08, 0x08, .u32, .rw, true, true, false, (.num 1000), .rng 10 100000⟩,
  ⟨0x2800, 1, 0x09, 0x09, .u32, .rw, true, true, false, (.num 200), .rng 0 1000000⟩,
  ⟨0x2800, 1, 0x0A, 0x0A, .i16, .ro, false, false, false, (.num 37), .any⟩,
  ⟨0x2800, 1, 0x0B, 0x0B, .i16, .rw, true, true, false, (.num 37), .rng 0 255⟩,
  ⟨0x2800, 1, 0x0C, 0x0C, .i64, .ro, false, false, false, (.num 0), .any⟩,
  ⟨0x2800, 1, 0x0D, 0x0D, .u32, .ro, false, false, false, (.num 0), .any⟩,
  ⟨0x2800, 1, 0x0E, 0x0E, .u8, .ro, false, false, false, (.num 0), .any⟩,
  ⟨0x2800, 1, 0x0F, 0x0F, .u32, .ro, false, false, true, (.num 0), .any⟩,
  ⟨0x2800, 1, 0x10, 0x10, .u32, .ro, false, false, true, (.num 0), .any⟩,
  ⟨0x2800, 1, 0x11, 0x11, .i64, .wo, false, false, false, (.num 0), .any⟩,
  ⟨0x2800, 1, 0x12, 0x12, .u32, .wo, false, false, false, (.num 0), .any⟩,
  ⟨0x2800, 1, 0x13, 0x13, .u32, .rw, true, true, false, (.num 0), .rng 0 1000000⟩,
  ⟨0x2800, 1, 0x14, 0x14, .u16, .ro, false, false, false, (.num 0), .any⟩,
  ⟨0x2800, 1, 0x15, 0x15, .u16, .rw, true, true, false, (.num 20), .rng 0 10000⟩,
  ⟨0x2820, 16, 0x00, 0x00, .u8, .konst, false, false, false, (.num 11), .any⟩,
  ⟨0x2820, 16, 0x01, 0x01, .u8, .rw, true, true, false, (.num 0), .rng 0 3⟩,
  ⟨0x2820, 16, 0x02, 0x02, .time96, .rw, true, true, false, (.num 0), .any⟩,
  ⟨0x2820, 16, 0x03, 0x03, .u64, .rw, true, true, false, (.num 1000000000), .rng 100 18446744073709551615⟩,
  ⟨0x2820, 16, 0x04, 0x04, .u8, .rw, true, true, false, (.num 0), .mask 0x0F⟩,
  ⟨0x2820, 16, 0x05, 0x05, .u8, .rw, true, true, false, (.num 255), .rngOr 0 15 255⟩,
  ⟨0x2820, 16, 0x06, 0x06, .u32, .rw, true, true, false, (.num 1000000), .rng 10 999999999⟩,
  ⟨0x2820, 16, 0x07, 0x07, .bool, .rw, true, true, false, (.num 0), .rng 0 1⟩,
  ⟨0x2820, 16, 0x08, 0x08, .u32, .rw, true, true, false, (.num 0), .mask 0xFFFFFF⟩,
  ⟨0x2820, 16, 0x09, 0x09, .time96, .ro, false, false, false, (.num 0), .any⟩,
  ⟨0x2820, 16, 0x0A, 0x0A, .u32, .ro, false, false, true, (.num 0), .any⟩,
  ⟨0x2820, 16, 0x0B, 0x0B, .bool, .ro, false, false, false, (.num 0), .any⟩,
  ⟨0x2840, 8, 0x00, 0x00, .u8, .konst, false, false, false, (.num 7), .any⟩,
  ⟨0x2840, 8, 0x01, 0x01, .u8, .rw, true, true, false, (.num 0), .rng 0 3⟩,
  ⟨0x2840, 8, 0x02, 0x02, .u8, .rw, true, true, false, (.num 255), .rngOr 0 15 255⟩,
  ⟨0x2840, 8, 0x03, 0x03, .u8, .ro, false, false, false, (.num 0), .any⟩,
  ⟨0x2840, 8, 0x04, 0x04, .domain, .ro, false, false, false, (.bytes []), .any⟩,
  ⟨0x2840, 8, 0x05, 0x05, .u32, .ro, false, false, true, (.num 0), .any⟩,
  ⟨0x2840, 8, 0x06, 0x06, .u32, .ro, false, false, true, (.num 0), .any⟩,
  ⟨0x2840, 8, 0x07, 0x07, .u16, .ro, false, false, false, (.num 0), .any⟩]

/-- Objects 0x2900 to 0x29FF, from the tables of 03_sources_sessions.md. -/
def page29 : List Obj := [
  ⟨0x2900, 1, 0x00, 0x00, .u8, .konst, false, false, false, (.num 5), .any⟩,
  ⟨0x2900, 1, 0x01, 0x04, .u8, .rw, true, true, false, (.num 1), .rng 0 3⟩,
  ⟨0x2900, 1, 0x05, 0x05, .u16, .ro, false, false, false, (.num 0), .any⟩,
  ⟨0x2910, 16, 0x00, 0x00, .u8, .konst, false, false, false, (.num 18), .any⟩,
  ⟨0x2910, 16, 0x01, 0x01, .bool, .rw, true, true, false, (.num 1), .rng 0 1⟩,
  ⟨0x2910, 16, 0x02, 0x02, .u48, .konst, false, false, false, (.num 0), .any⟩,
  ⟨0x2910, 16, 0x03, 0x03, .u32, .rw, true, true, false, (.num 0), .any⟩,
  ⟨0x2910, 16, 0x04, 0x04, .u8, .rw, true, true, false, (.num 24), .rng 8 30⟩,
  ⟨0x2910, 16, 0x05, 0x05, .u32, .rw, true, true, false, (.num 0), .any⟩,
  ⟨0x2910, 16, 0x06, 0x06, (.oct 16), .rw, true, true, false, (.bytes (List.replicate 16 0)), .any⟩,
  ⟨0x2910, 16, 0x07, 0x07, .u8, .rw, true, true, false, (.num 64), .rng 16 127⟩,
  ⟨0x2910, 16, 0x08, 0x08, .u16, .rw, true, true, false, (.num 1500), .rng 576 9194⟩,
  ⟨0x2910, 16, 0x09, 0x09, .bool, .rw, true, true, false, (.num 1), .rng 0 1⟩,
  ⟨0x2910, 16, 0x0A, 0x0A, .u8, .ro, false, false, false, (.num 0), .any⟩,
  ⟨0x2910, 16, 0x0B, 0x0B, .u16, .rw, true, true, false, (.num 0), .rng 0 4094⟩,
  ⟨0x2910, 16, 0x0C, 0x0C, .u32, .ro, false, false, true, (.num 0), .any⟩,
  ⟨0x2910, 16, 0x0D, 0x0D, .u32, .ro, false, false, true, (.num 0), .any⟩,
  ⟨0x2910, 16, 0x0E, 0x0E, .u32, .ro, false, false, true, (.num 0), .any⟩,
  ⟨0x2910, 16, 0x0F, 0x0F, .u32, .ro, false, false, true, (.num 0), .any⟩,
  ⟨0x2910, 16, 0x10, 0x10, .u32, .ro, false, false, true, (.num 0), .any⟩,
  ⟨0x2910, 16, 0x11, 0x11, .bool, .rw, true, true, false, (.num 0), .rng 0 1⟩,
  ⟨0x2910, 16, 0x12, 0x12, .u32, .ro, false, false, true, (.num 0), .any⟩]

/-- Objects 0x2A00 to 0x2AFF, from the tables of 04_time_base.md. -/
def page2A : List Obj := [
  ⟨0x2A00, 1, 0x00, 0x00, .u8, .konst, false, false, false, (.num 12), .any⟩,
  ⟨0x2A00, 1, 0x01, 0x01, .u16, .rw, true, true, false, (.num 0), .any⟩,
  ⟨0x2A00, 1, 0x02, 0x02, .u8, .rw, true, true, false, (.num 0), .rng 0 1⟩,
  ⟨0x2A00, 1, 0x03, 0x03, .u8, .rw, true, true, false, (.num 0), .rng 0 127⟩,
  ⟨0x2A00, 1, 0x04, 0x04, .u8, .rw, true, true, false, (.num 0), .rng 0 1⟩,
  ⟨0x2A00, 1, 0x05, 0x05, .u8, .rw, true, true, false, (.num 128), .rng 0 255⟩,
  ⟨0x2A00, 1, 0x06, 0x06, .u8, .rw, true, true, false, (.num 128), .rng 0 255⟩,
  ⟨0x2A00, 1, 0x07, 0x07, .u8, .rw, true, true, false, (.num 1), .rng 0 1⟩,
  ⟨0x2A00, 1, 0x08, 0x08, .u64, .konst, false, false, false, (.num 0), .any⟩,
  ⟨0x2A00, 1, 0x09, 0x09, .u8, .ro, false, false, false, (.num 255), .any⟩,
  ⟨0x2A00, 1, 0x0A, 0x0A, .i8, .rw, true, true, false, (.num 0), .rng (-1) 1⟩,
  ⟨0x2A00, 1, 0x0B, 0x0B, .i8, .rw, true, true, false, (.num 1), .rng 0 4⟩,
  ⟨0x2A00, 1, 0x0C, 0x0C, .u8, .rw, true, true, false, (.num 3), .rng 2 10⟩,
  ⟨0x2A10, 16, 0x00, 0x00, .u8, .konst, false, false, false, (.num 6), .any⟩,
  ⟨0x2A10, 16, 0x01, 0x01, .u8, .rw, true, true, false, (.num 0), .rng 0 2⟩,
  ⟨0x2A10, 16, 0x02, 0x02, .i32, .rw, true, true, false, (.num 0), .rng (-1000000) 1000000⟩,
  ⟨0x2A10, 16, 0x03, 0x03, .u8, .ro, false, false, false, (.num 1), .any⟩,
  ⟨0x2A10, 16, 0x04, 0x04, .u32, .ro, false, false, false, (.num 0), .any⟩,
  ⟨0x2A10, 16, 0x05, 0x05, .u32, .ro, false, false, true, (.num 0), .any⟩,
  ⟨0x2A10, 16, 0x06, 0x06, .u32, .ro, false, false, true, (.num 0), .any⟩]

/-- Objects 0x3000 to 0x30FF, from the tables of 03_sources_sessions.md. -/
def page30 : List Obj := [
  ⟨0x3000, 160, 0x00, 0x00, .u8, .konst, false, false, false, (.num 48), .any⟩,
  ⟨0x3000, 160, 0x01, 0x01, .u8, .wo, false, false, false, (.num 0), .rng 1 4⟩,
  ⟨0x3000, 160, 0x02, 0x02, .u8, .ro, false, false, false, (.num 0), .any⟩,
  ⟨0x3000, 160, 0x03, 0x03, .u8, .ro, false, false, false, (.num 0), .any⟩,
  ⟨0x3000, 160, 0x04, 0x04, .u8, .rw, true, true, false, (.num 0), .rng 0 4⟩,
  ⟨0x3000, 160, 0x05, 0x05, .u8, .rw, true, true, false, (.num 0), .rng 0 15⟩,
  ⟨0x3000, 160, 0x07, 0x07, .u8, .rw, true, true, false, (.num 0), .rng 0 1⟩,
  ⟨0x3000, 160, 0x08, 0x08, (.oct 16), .rw, true, true, false, (.bytes (List.replicate 16 0)), .any⟩,
  ⟨0x3000, 160, 0x09, 0x09, (.oct 16), .rw, true, true, false, (.bytes (List.replicate 16 0)), .any⟩,
  ⟨0x3000, 160, 0x0A, 0x0A, .u16, .rw, true, true, false, (.num 5004), .rng 1 65534⟩,
  ⟨0x3000, 160, 0x0B, 0x0B, .u8, .rw, true, true, false, (.num 4), .mask 0x0F⟩,
  ⟨0x3000, 160, 0x0C, 0x0C, .u8, .rw, true, true, false, (.num 96), .rng 96 127⟩,
  ⟨0x3000, 160, 0x0D, 0x0D, .u32, .rw, true, true, false, (.num 0), .any⟩,
  ⟨0x3000, 160, 0x0E, 0x0E, .u64, .rw, true, true, false, (.num 0), .any⟩,
  ⟨0x3000, 160, 0x0F, 0x0F, .u8, .rw, true, true, false, (.num 1), .rng 0 1⟩,
  ⟨0x3000, 160, 0x10, 0x10, .u16, .rw, true, true, false, (.num 1920), .rng 16 4096⟩,
  ⟨0x3000, 160, 0x11, 0x11, .u16, .rw, true, true, false, (.num 1080), .rng 16 2304⟩,
  ⟨0x3000, 160, 0x12, 0x12, .u32, .rw, true, true, false, (.num 30000), .rng 1000 120000⟩,
  ⟨0x3000, 160, 0x13, 0x13, .u32, .rw, true, true, false, (.num 20000), .rng 100 800000⟩,
  ⟨0x3000, 160, 0x14, 0x14, .u8, .rw, true, true, false, (.num 1), .rng 0 2⟩,
  ⟨0x3000, 160, 0x15, 0x15, .u8, .rw, true, true, false, (.num 6), .rng 1 16⟩,
  ⟨0x3000, 160, 0x16, 0x16, .bool, .rw, true, true, false, (.num 0), .rng 0 1⟩,
  ⟨0x3000, 160, 0x17, 0x17, .u8, .rw, true, true, false, (.num 0), .rng 0 2⟩,
  ⟨0x3000, 160, 0x18, 0x18, .u8, .rw, true, true, false, (.num 4), .rng 0 7⟩,
  ⟨0x3000, 160, 0x19, 0x19, .u16, .rw, true, true, false, (.num 500), .rng 20 60000⟩,
  ⟨0x3000, 160, 0x1A, 0x1A, .u16, .rw, true, true, false, (.num 1000), .rng 0 20000⟩,
  ⟨0x3000, 160, 0x1B, 0x1B, .u16, .rw, true, true, false, (.num 2000), .rngOr 100 60000 0⟩,
  ⟨0x3000, 160, 0x1C, 0x1C, .u8, .rw, true, true, false, (.num 5), .rng 1 60⟩,
  ⟨0x3000, 160, 0x1D, 0x1D, .domain, .rw, true, true, false, (.bytes []), .size 0 1024⟩,
  ⟨0x3000, 160, 0x1E, 0x1E, .bool, .rw, true, true, false, (.num 0), .rng 0 1⟩,
  ⟨0x3000, 160, 0x1F, 0x1F, .u32, .ro, false, false, false, (.num 0), .any⟩,
  ⟨0x3000, 160, 0x20, 0x20, .u32, .ro, false, false, false, (.num 0), .any⟩,
  ⟨0x3000, 160, 0x21, 0x21, .u16, .ro, false, false, false, (.num 0), .any⟩,
  ⟨0x3000, 160, 0x22, 0x22, .u32, .ro, false, false, false, (.num 0), .any⟩,
  ⟨0x3000, 160, 0x23, 0x23, .u32, .ro, false, false, false, (.num 0), .any⟩,
  ⟨0x3000, 160, 0x24, 0x24, .u32, .ro, false, false, true, (.num 0), .any⟩,
  ⟨0x3000, 160, 0x25, 0x25, .u32, .ro, false, false, true, (.num 0), .any⟩,
  ⟨0x3000, 160, 0x26, 0x26, .u32, .ro, false, false, true, (.num 0), .any⟩,
  ⟨0x3000, 160, 0x27, 0x27, .u32, .ro, false, false, true, (.num 0), .any⟩,
  ⟨0x3000, 160, 0x28, 0x28, .u32, .ro, false, false, true, (.num 0), .any⟩,
  ⟨0x3000, 160, 0x29, 0x29, .u32, .ro, false, false, true, (.num 0), .any⟩,
  ⟨0x3000, 160, 0x2A, 0x2A, .u32, .ro, false, false, false, (.num 0), .any⟩,
  ⟨0x3000, 160, 0x2B, 0x2B, .u32, .ro, false, false, false, (.num 0), .any⟩,
  ⟨0x3000, 160, 0x2C, 0x2C, .u32, .ro, false, false, true, (.num 0), .any⟩,
  ⟨0x3000, 160, 0x2D, 0x2D, .u32, .ro, false, false, true, (.num 0), .any⟩,
  ⟨0x3000, 160, 0x2E, 0x2E, .u32, .ro, false, false, true, (.num 0), .any⟩,
  ⟨0x3000, 160, 0x2F, 0x2F, .u32, .ro, false, false, false, (.num 4294967295), .any⟩,
  ⟨0x3000, 160, 0x30, 0x30, .u32, .ro, false, false, true, (.num 0), .any⟩]

/-- Objects 0x3100 to 0x31FF, from the tables of 03_sources_sessions.md. -/
def page31 : List Obj := [
  ⟨0x3100, 1, 0x00, 0x00, .u8, .konst, false, false, false, (.num 9), .any⟩,
  ⟨0x3100, 1, 0x01, 0x01, .u8, .rw, true, true, false, (.num 100), .rng 50 100⟩,
  ⟨0x3100, 1, 0x02, 0x02, .u32, .rw, true, true, false, (.num 8192), .rng 1024 26624⟩,
  ⟨0x3100, 1, 0x03, 0x03, .u8, .rw, true, true, false, (.num 10), .rng 0 50⟩,
  ⟨0x3100, 1, 0x04, 0x04, .u8, .rw, true, true, false, (.num 90), .rng 50 100⟩,
  ⟨0x3100, 1, 0x05, 0x05, .u16, .ro, false, false, false, (.num 0), .any⟩,
  ⟨0x3100, 1, 0x06, 0x06, .u8, .ro, false, false, false, (.num 12), .any⟩,
  ⟨0x3100, 1, 0x07, 0x07, .u32, .ro, false, false, false, (.num 0), .any⟩,
  ⟨0x3100, 1, 0x08, 0x08, .u8, .ro, false, false, false, (.num 0), .any⟩,
  ⟨0x3100, 1, 0x09, 0x09, .u32, .ro, false, false, true, (.num 0), .any⟩]

/-- Objects 0x3400 to 0x34FF, from the tables of 05_decode_and_darning.md. -/
def page34 : List Obj := [
  ⟨0x3400, 1, 0x00, 0x00, .u8, .konst, false, false, false, (.num 10), .any⟩,
  ⟨0x3400, 1, 0x01, 0x01, .u16, .rw, true, true, false, (.num 8256), .mask 0x3FFF⟩,
  ⟨0x3400, 1, 0x02, 0x02, .u8, .rw, true, true, false, (.num 0), .rng 0 1⟩,
  ⟨0x3400, 1, 0x03, 0x03, .u8, .rw, true, true, false, (.num 2), .rng 0 2⟩,
  ⟨0x3400, 1, 0x04, 0x04, .u8, .rw, true, true, false, (.num 4), .rng 1 4⟩,
  ⟨0x3400, 1, 0x05, 0x05, .u8, .ro, false, false, false, (.num 2), .any⟩,
  ⟨0x3400, 1, 0x06, 0x06, .u16, .ro, false, false, false, (.num 8127), .any⟩,
  ⟨0x3400, 1, 0x07, 0x07, .bool, .ro, false, false, false, (.num 0), .any⟩,
  ⟨0x3400, 1, 0x08, 0x08, .u32, .ro, false, false, true, (.num 0), .any⟩,
  ⟨0x3400, 1, 0x09, 0x09, .u32, .ro, false, false, true, (.num 0), .any⟩,
  ⟨0x3400, 1, 0x0A, 0x0A, .u32, .ro, false, false, false, (.num 0), .any⟩,
  ⟨0x3410, 14, 0x00, 0x00, .u8, .konst, false, false, false, (.num 5), .any⟩,
  ⟨0x3410, 14, 0x01, 0x01, .u32, .ro, false, false, false, (.num 0), .any⟩,
  ⟨0x3410, 14, 0x02, 0x02, .u8, .ro, false, false, false, (.num 0), .any⟩,
  ⟨0x3410, 14, 0x03, 0x03, .u8, .ro, false, false, false, (.num 255), .any⟩,
  ⟨0x3410, 14, 0x04, 0x04, .u32, .ro, false, false, true, (.num 0), .any⟩,
  ⟨0x3410, 14, 0x05, 0x05, .u16, .ro, false, false, false, (.num 0), .any⟩,
  ⟨0x3440, 160, 0x00, 0x00, .u8, .konst, false, false, false, (.num 13), .any⟩,
  ⟨0x3440, 160, 0x01, 0x01, .bool, .ro, false, false, false, (.num 0), .any⟩,
  ⟨0x3440, 160, 0x02, 0x02, .u16, .ro, false, false, false, (.num 0), .any⟩,
  ⟨0x3440, 160, 0x03, 0x03, .u32, .ro, false, false, true, (.num 0), .any⟩,
  ⟨0x3440, 160, 0x04, 0x04, .u32, .ro, false, false, true, (.num 0), .any⟩,
  ⟨0x3440, 160, 0x05, 0x05, .u32, .ro, false, false, true, (.num 0), .any⟩,
  ⟨0x3440, 160, 0x06, 0x06, .u32, .ro, false, false, true, (.num 0), .any⟩,
  ⟨0x3440, 160, 0x07, 0x07, .u32, .ro, false, false, true, (.num 0), .any⟩,
  ⟨0x3440, 160, 0x08, 0x08, .u16, .ro, false, false, false, (.num 100), .any⟩,
  ⟨0x3440, 160, 0x09, 0x09, .u32, .ro, false, false, false, (.num 0), .any⟩,
  ⟨0x3440, 160, 0x0A, 0x0A, .u32, .ro, false, false, false, (.num 0), .any⟩,
  ⟨0x3440, 160, 0x0B, 0x0B, .u32, .ro, false, false, false, (.num 0), .any⟩,
  ⟨0x3440, 160, 0x0C, 0x0C, .u32, .ro, false, false, true, (.num 0), .any⟩,
  ⟨0x3440, 160, 0x0D, 0x0D, .u32, .ro, false, false, true, (.num 0), .any⟩]

/-- Objects 0x3500 to 0x35FF, from the tables of 09_encode_mirrors.md. -/
def page35 : List Obj := [
  ⟨0x3500, 1, 0x00, 0x00, .u8, .konst, false, false, false, (.num 7), .any⟩,
  ⟨0x3500, 1, 0x01, 0x01, .u16, .ro, false, false, false, (.num 0), .any⟩,
  ⟨0x3500, 1, 0x02, 0x02, .u16, .ro, false, false, false, (.num 0), .any⟩,
  ⟨0x3500, 1, 0x03, 0x03, .u8, .ro, false, false, false, (.num 15), .any⟩,
  ⟨0x3500, 1, 0x04, 0x04, .u8, .ro, false, false, false, (.num 0), .any⟩,
  ⟨0x3500, 1, 0x05, 0x05, .u32, .ro, false, false, true, (.num 0), .any⟩,
  ⟨0x3500, 1, 0x06, 0x06, .u32, .ro, false, false, true, (.num 0), .any⟩,
  ⟨0x3500, 1, 0x07, 0x07, .u32, .ro, false, false, true, (.num 0), .any⟩,
  ⟨0x3510, 16, 0x00, 0x00, .u8, .konst, false, false, false, (.num 42), .any⟩,
  ⟨0x3510, 16, 0x01, 0x01, .u8, .wo, false, false, false, (.num 0), .rng 1 2⟩,
  ⟨0x3510, 16, 0x02, 0x02, .u8, .ro, false, false, false, (.num 0), .any⟩,
  ⟨0x3510, 16, 0x03, 0x03, .u8, .ro, false, false, false, (.num 0), .any⟩,
  ⟨0x3510, 16, 0x04, 0x04, .u8, .rw, true, true, false, (.num 0), .rng 0 1⟩,
  ⟨0x3510, 16, 0x05, 0x05, .u8, .rw, true, true, false, (.num 0), .any⟩,
  ⟨0x3510, 16, 0x06, 0x06, .u16, .rw, true, true, false, (.num 0), .rng 0 3839⟩,
  ⟨0x3510, 16, 0x07, 0x07, .u16, .rw, true, true, false, (.num 0), .rng 0 2399⟩,
  ⟨0x3510, 16, 0x08, 0x08, .u16, .rw, true, true, false, (.num 1920), .rng 64 3840⟩,
  ⟨0x3510, 16, 0x09, 0x09, .u16, .rw, true, true, false, (.num 1080), .rng 64 2400⟩,
  ⟨0x3510, 16, 0x0A, 0x0A, .u8, .rw, true, true, false, (.num 0), .rng 0 2⟩,
  ⟨0x3510, 16, 0x0B, 0x0B, .u32, .rw, true, true, false, (.num 30000), .rng 1000 60000⟩,
  ⟨0x3510, 16, 0x0C, 0x0C, .u8, .rw, true, true, false, (.num 0), .rng 0 1⟩,
  ⟨0x3510, 16, 0x0D, 0x0D, .u32, .rw, true, true, false, (.num 8000), .rng 100 22000⟩,
  ⟨0x3510, 16, 0x0E, 0x0E, .u32, .rw, true, true, false, (.num 4000), .rng 100 22000⟩,
  ⟨0x3510, 16, 0x0F, 0x0F, .u16, .rw, true, true, false, (.num 100), .rng 50 2000⟩,
  ⟨0x3510, 16, 0x10, 0x10, .u16, .rw, true, true, false, (.num 11542), .any⟩,
  ⟨0x3510, 16, 0x11, 0x11, .u8, .rw, true, true, false, (.num 2), .rng 1 8⟩,
  ⟨0x3510, 16, 0x12, 0x12, .u8, .rw, true, true, false, (.num 2), .rng 1 16⟩,
  ⟨0x3510, 16, 0x13, 0x13, .bool, .rw, true, true, false, (.num 1), .rng 0 1⟩,
  ⟨0x3510, 16, 0x14, 0x14, .u64, .rw, true, true, false, (.num 0), .any⟩,
  ⟨0x3510, 16, 0x15, 0x15, .u8, .rw, true, true, false, (.num 0), .rng 0 15⟩,
  ⟨0x3510, 16, 0x16, 0x16, .u8, .rw, true, true, false, (.num 0), .rng 0 1⟩,
  ⟨0x3510, 16, 0x17, 0x17, (.oct 16), .rw, true, true, false, (.bytes (List.replicate 16 0)), .any⟩,
  ⟨0x3510, 16, 0x18, 0x18, .u16, .rw, true, true, false, (.num 5004), .rng 1 65534⟩,
  ⟨0x3510, 16, 0x19, 0x19, .u8, .rw, true, true, false, (.num 96), .rng 96 127⟩,
  ⟨0x3510, 16, 0x1A, 0x1A, .u8, .rw, true, true, false, (.num 34), .rng 0 63⟩,
  ⟨0x3510, 16, 0x1B, 0x1B, .u8, .rw, true, true, false, (.num 16), .rng 1 255⟩,
  ⟨0x3510, 16, 0x1C, 0x1C, .u8, .rw, true, true, false, (.num 0), .mask 3⟩,
  ⟨0x3510, 16, 0x1D, 0x1D, .bool, .rw, true, true, false, (.num 0), .rng 0 1⟩,
  ⟨0x3510, 16, 0x1E, 0x1E, .u8, .ro, false, false, false, (.num 255), .any⟩,
  ⟨0x3510, 16, 0x1F, 0x1F, .u16, .ro, false, false, false, (.num 0), .any⟩,
  ⟨0x3510, 16, 0x20, 0x20, .u32, .ro, false, false, false, (.num 0), .any⟩,
  ⟨0x3510, 16, 0x21, 0x21, .u32, .ro, false, false, false, (.num 0), .any⟩,
  ⟨0x3510, 16, 0x22, 0x22, .u8, .ro, false, false, false, (.num 0), .any⟩,
  ⟨0x3510, 16, 0x23, 0x23, .u32, .ro, false, false, false, (.num 0), .any⟩,
  ⟨0x3510, 16, 0x24, 0x24, .u32, .ro, false, false, true, (.num 0), .any⟩,
  ⟨0x3510, 16, 0x25, 0x25, .u32, .ro, false, false, true, (.num 0), .any⟩,
  ⟨0x3510, 16, 0x26, 0x26, .u32, .ro, false, false, true, (.num 0), .any⟩,
  ⟨0x3510, 16, 0x27, 0x27, .u32, .ro, false, false, true, (.num 0), .any⟩,
  ⟨0x3510, 16, 0x28, 0x28, .u32, .ro, false, false, true, (.num 0), .any⟩,
  ⟨0x3510, 16, 0x29, 0x29, .u32, .ro, false, false, true, (.num 0), .any⟩,
  ⟨0x3510, 16, 0x2A, 0x2A, .u32, .ro, false, false, true, (.num 0), .any⟩]

/-- Objects 0x4000 to 0x40FF, from the tables of 01_the_live_promise.md, 06_layers_scaling_tone.md. -/
def page40 : List Obj := [
  ⟨0x4000, 256, 0x00, 0x00, .u8, .konst, false, false, false, (.num 53), .any⟩,
  ⟨0x4000, 256, 0x01, 0x01, .bool, .rw, true, true, false, (.num 0), .rng 0 1⟩,
  ⟨0x4000, 256, 0x02, 0x02, .u8, .rw, true, true, false, (.num 0), .rng 0 23⟩,
  ⟨0x4000, 256, 0x03, 0x03, .u8, .rw, true, true, false, (.num 255), .rngOr 0 159 255⟩,
  ⟨0x4000, 256, 0x04, 0x04, .u8, .rw, true, true, false, (.num 1), .rng 0 1⟩,
  ⟨0x4000, 256, 0x05, 0x05, .u16, .rw, true, true, false, (.num 0), .rng 0 4095⟩,
  ⟨0x4000, 256, 0x06, 0x06, .u16, .rw, true, true, false, (.num 0), .rng 0 2303⟩,
  ⟨0x4000, 256, 0x07, 0x07, .u16, .rw, true, true, false, (.num 0), .rng 0 4096⟩,
  ⟨0x4000, 256, 0x08, 0x08, .u16, .rw, true, true, false, (.num 0), .rng 0 2304⟩,
  ⟨0x4000, 256, 0x09, 0x09, .u8, .rw, true, true, false, (.num 0), .rng 0 1⟩,
  ⟨0x4000, 256, 0x0A, 0x0A, .i32, .rw, true, true, false, (.num 0), .rng (-65536) 65535⟩,
  ⟨0x4000, 256, 0x0B, 0x0B, .i32, .rw, true, true, false, (.num 0), .rng (-65536) 65535⟩,
  ⟨0x4000, 256, 0x0C, 0x0C, .u16, .rw, true, true, false, (.num 1920), .rng 1 65535⟩,
  ⟨0x4000, 256, 0x0D, 0x0D, .u16, .rw, true, true, false, (.num 1080), .rng 1 65535⟩,
  ⟨0x4000, 256, 0x0E, 0x0E, .u8, .rw, true, true, false, (.num 0), .rng 0 15⟩,
  ⟨0x4000, 256, 0x0F, 0x0F, .u8, .rw, true, true, false, (.num 0), .rng 0 2⟩,
  ⟨0x4000, 256, 0x10, 0x10, .u16, .rw, true, true, false, (.num 1023), .rng 0 1023⟩,
  ⟨0x4000, 256, 0x11, 0x11, .u8, .rw, true, true, false, (.num 2), .rng 0 2⟩,
  ⟨0x4000, 256, 0x12, 0x12, .u8, .rw, true, true, false, (.num 255), .rngOr 0 63 255⟩,
  ⟨0x4000, 256, 0x13, 0x13, .u8, .rw, true, true, false, (.num 0), .rng 0 5⟩,
  ⟨0x4000, 256, 0x14, 0x14, .u16, .ro, false, false, false, (.num 65535), .any⟩,
  ⟨0x4000, 256, 0x15, 0x15, .u8, .ro, false, false, false, (.num 255), .any⟩,
  ⟨0x4000, 256, 0x16, 0x16, .u32, .ro, false, false, false, (.num 0), .any⟩,
  ⟨0x4000, 256, 0x17, 0x17, .u16, .ro, false, false, false, (.num 0), .any⟩,
  ⟨0x4000, 256, 0x18, 0x18, .u16, .ro, false, false, false, (.num 0), .any⟩,
  ⟨0x4000, 256, 0x19, 0x19, .u8, .ro, false, false, false, (.num 0), .any⟩,
  ⟨0x4000, 256, 0x1A, 0x1A, .u32, .ro, false, false, false, (.num 0), .any⟩,
  ⟨0x4000, 256, 0x20, 0x20, .u32, .rw, true, true, false, (.num 400), .rng 10 60000⟩,
  ⟨0x4000, 256, 0x21, 0x21, .u8, .rw, true, true, false, (.num 3), .rng 0 255⟩,
  ⟨0x4000, 256, 0x22, 0x22, .u8, .rw, true, true, false, (.num 2), .rng 1 60⟩,
  ⟨0x4000, 256, 0x23, 0x23, .u8, .rw, true, true, false, (.num 0), .rng 0 1⟩,
  ⟨0x4000, 256, 0x24, 0x24, .u8, .rw, true, true, false, (.num 2), .oneOf [1, 2, 3, 4]⟩,
  ⟨0x4000, 256, 0x25, 0x25, .u8, .rw, true, true, false, (.num 2), .oneOf [1, 2, 3, 4]⟩,
  ⟨0x4000, 256, 0x26, 0x26, .u8, .rw, true, true, false, (.num 1), .oneOf [1, 3, 4]⟩,
  ⟨0x4000, 256, 0x27, 0x27, .u8, .rw, true, true, false, (.num 1), .oneOf [1, 2, 3, 4]⟩,
  ⟨0x4000, 256, 0x28, 0x28, .u8, .rw, true, true, false, (.num 5), .rng 1 5⟩,
  ⟨0x4000, 256, 0x29, 0x29, .u8, .rw, true, true, false, (.num 2), .oneOf [1, 2, 3, 4]⟩,
  ⟨0x4000, 256, 0x2A, 0x2A, .u8, .rw, true, true, false, (.num 3), .oneOf [1, 3, 4]⟩,
  ⟨0x4000, 256, 0x2B, 0x2B, .u8, .rw, true, true, false, (.num 0), .mask 0x83⟩,
  ⟨0x4000, 256, 0x2C, 0x2C, .u8, .ro, false, false, false, (.num 0), .any⟩,
  ⟨0x4000, 256, 0x2D, 0x2D, .u8, .ro, false, false, false, (.num 0), .any⟩,
  ⟨0x4000, 256, 0x2E, 0x2E, .u8, .ro, false, false, false, (.num 0), .any⟩,
  ⟨0x4000, 256, 0x2F, 0x2F, .u8, .ro, false, false, false, (.num 3), .any⟩,
  ⟨0x4000, 256, 0x30, 0x30, .u32, .ro, false, false, false, (.num 4294967295), .any⟩,
  ⟨0x4000, 256, 0x31, 0x31, .u32, .ro, false, false, false, (.num 0), .any⟩,
  ⟨0x4000, 256, 0x32, 0x32, .u32, .ro, false, false, false, (.num 0), .any⟩,
  ⟨0x4000, 256, 0x33, 0x33, .u32, .ro, false, false, true, (.num 0), .any⟩,
  ⟨0x4000, 256, 0x34, 0x34, .u32, .ro, false, false, true, (.num 0), .any⟩,
  ⟨0x4000, 256, 0x35, 0x35, .u32, .ro, false, false, true, (.num 0), .any⟩]

/-- Objects 0x4100 to 0x41FF, from the tables of 06_layers_scaling_tone.md. -/
def page41 : List Obj := [
  ⟨0x4100, 1, 0x00, 0x00, .u8, .konst, false, false, false, (.num 6), .any⟩,
  ⟨0x4100, 1, 0x01, 0x01, .u8, .ro, false, false, false, (.num 60), .any⟩,
  ⟨0x4100, 1, 0x02, 0x02, .u8, .ro, false, false, false, (.num 60), .any⟩,
  ⟨0x4100, 1, 0x03, 0x03, .u8, .ro, false, false, false, (.num 60), .any⟩,
  ⟨0x4100, 1, 0x04, 0x04, .u8, .ro, false, false, false, (.num 60), .any⟩,
  ⟨0x4100, 1, 0x05, 0x05, .u32, .ro, false, false, true, (.num 0), .any⟩,
  ⟨0x4100, 1, 0x06, 0x06, .u32, .ro, false, false, true, (.num 0), .any⟩,
  ⟨0x4110, 128, 0x00, 0x00, .u8, .konst, false, false, false, (.num 5), .any⟩,
  ⟨0x4110, 128, 0x01, 0x01, .u32, .ro, false, false, false, (.num 0), .any⟩,
  ⟨0x4110, 128, 0x02, 0x02, .u8, .ro, false, false, false, (.num 0), .any⟩,
  ⟨0x4110, 128, 0x03, 0x03, .u16, .ro, false, false, false, (.num 65535), .any⟩,
  ⟨0x4110, 128, 0x04, 0x04, .u8, .ro, false, false, false, (.num 255), .any⟩,
  ⟨0x4110, 128, 0x05, 0x05, .u16, .ro, false, false, false, (.num 0), .any⟩]

/-- Objects 0x4200 to 0x42FF, from the tables of 06_layers_scaling_tone.md. -/
def page42 : List Obj := [
  ⟨0x4200, 1, 0x00, 0x00, .u8, .konst, false, false, false, (.num 1), .any⟩,
  ⟨0x4200, 1, 0x01, 0x01, .u8, .ro, false, false, false, (.num 0), .any⟩,
  ⟨0x4210, 64, 0x00, 0x00, .u8, .konst, false, false, false, (.num 16), .any⟩,
  ⟨0x4210, 64, 0x01, 0x01, .u8, .rw, true, true, false, (.num 0), .rng 0 4⟩,
  ⟨0x4210, 64, 0x02, 0x02, .u16, .rw, true, true, false, (.num 100), .rng 48 1000⟩,
  ⟨0x4210, 64, 0x03, 0x03, .u16, .rw, true, true, false, (.num 1000), .rng 400 4000⟩,
  ⟨0x4210, 64, 0x04, 0x04, .domain, .rw, true, true, false, (.bytes []), .size 4096 4096⟩,
  ⟨0x4210, 64, 0x05, 0x05, .i32, .rw, true, true, false, (.num 65536), .rng (-524288) 524288⟩,
  ⟨0x4210, 64, 0x06, 0x08, .i32, .rw, true, true, false, (.num 0), .rng (-524288) 524288⟩,
  ⟨0x4210, 64, 0x09, 0x09, .i32, .rw, true, true, false, (.num 65536), .rng (-524288) 524288⟩,
  ⟨0x4210, 64, 0x0A, 0x0C, .i32, .rw, true, true, false, (.num 0), .rng (-524288) 524288⟩,
  ⟨0x4210, 64, 0x0D, 0x0D, .i32, .rw, true, true, false, (.num 65536), .rng (-524288) 524288⟩,
  ⟨0x4210, 64, 0x0E, 0x0E, .domain, .rw, true, true, false, (.bytes identityCurve), .size 66 66⟩,
  ⟨0x4210, 64, 0x0F, 0x0F, .u8, .wo, false, false, false, (.num 0), .rng 1 1⟩,
  ⟨0x4210, 64, 0x10, 0x10, .u16, .ro, false, false, false, (.num 0), .any⟩]

/-- Objects 0x4300 to 0x43FF, from the tables of 07_commit_press_leases.md. -/
def page43 : List Obj := [
  ⟨0x4300, 1, 0x00, 0x00, .u8, .konst, false, false, false, (.num 18), .any⟩,
  ⟨0x4300, 1, 0x01, 0x01, .domain, .wo, false, false, false, (.bytes []), .size 24 24⟩,
  ⟨0x4300, 1, 0x02, 0x02, .u8, .wo, false, false, false, (.num 0), .oneOf [2, 3]⟩,
  ⟨0x4300, 1, 0x03, 0x03, .u32, .rw, false, false, false, (.num 0), .mask 0xFFFFFF⟩,
  ⟨0x4300, 1, 0x04, 0x04, .u16, .rw, false, false, false, (.num 0), .any⟩,
  ⟨0x4300, 1, 0x05, 0x05, .u16, .rw, false, false, false, (.num 0), .any⟩,
  ⟨0x4300, 1, 0x06, 0x06, .domain, .ro, false, false, false, (.bytes []), .any⟩,
  ⟨0x4300, 1, 0x07, 0x07, .u16, .rw, true, true, false, (.num 1000), .rng 10 60000⟩,
  ⟨0x4300, 1, 0x08, 0x08, .u16, .ro, false, false, false, (.num 0), .any⟩,
  ⟨0x4300, 1, 0x09, 0x09, .u8, .ro, false, false, false, (.num 0), .any⟩,
  ⟨0x4300, 1, 0x0A, 0x0A, .u32, .ro, false, false, true, (.num 0), .any⟩,
  ⟨0x4300, 1, 0x0B, 0x0B, .u16, .rw, true, true, false, (.num 20), .rng 5 1000⟩,
  ⟨0x4300, 1, 0x0C, 0x0C, .u32, .ro, false, false, true, (.num 0), .any⟩,
  ⟨0x4300, 1, 0x0D, 0x0D, .u16, .ro, false, false, false, (.num 0), .any⟩,
  ⟨0x4300, 1, 0x0E, 0x0E, .u16, .ro, false, false, false, (.num 0), .any⟩,
  ⟨0x4300, 1, 0x0F, 0x0F, .u32, .ro, false, false, false, (.num 0), .any⟩,
  ⟨0x4300, 1, 0x10, 0x10, .u32, .ro, false, false, true, (.num 0), .any⟩,
  ⟨0x4300, 1, 0x11, 0x11, .u32, .ro, false, false, true, (.num 0), .any⟩,
  ⟨0x4300, 1, 0x12, 0x12, .u32, .ro, false, false, true, (.num 0), .any⟩,
  ⟨0x4310, 24, 0x00, 0x00, .u8, .konst, false, false, false, (.num 8), .any⟩,
  ⟨0x4310, 24, 0x01, 0x01, .u8, .rw, true, true, false, (.num 0), .rng 0 16⟩,
  ⟨0x4310, 24, 0x02, 0x02, .u16, .ro, false, false, false, (.num 0), .any⟩,
  ⟨0x4310, 24, 0x03, 0x03, .u8, .ro, false, false, false, (.num 0), .any⟩,
  ⟨0x4310, 24, 0x04, 0x04, .u32, .ro, false, false, true, (.num 0), .any⟩,
  ⟨0x4310, 24, 0x05, 0x05, .u32, .ro, false, false, true, (.num 0), .any⟩,
  ⟨0x4310, 24, 0x06, 0x06, .u32, .ro, false, false, false, (.num 0), .any⟩,
  ⟨0x4310, 24, 0x07, 0x07, .u16, .ro, false, false, false, (.num 0), .any⟩,
  ⟨0x4310, 24, 0x08, 0x08, .u32, .ro, false, false, false, (.num 0), .any⟩]

/-- Objects 0x4800 to 0x48FF, from the tables of 01_the_live_promise.md, 06_layers_scaling_tone.md, 08_scanout_displayport.md. -/
def page48 : List Obj := [
  ⟨0x4800, 24, 0x00, 0x00, .u8, .konst, false, false, false, (.num 55), .any⟩,
  ⟨0x4800, 24, 0x01, 0x01, .bool, .rw, true, true, false, (.num 1), .rng 0 1⟩,
  ⟨0x4800, 24, 0x02, 0x02, .u8, .rw, true, true, false, (.num 0), .rng 0 1⟩,
  ⟨0x4800, 24, 0x03, 0x03, .u8, .rw, true, true, false, (.num 2), .rng 0 2⟩,
  ⟨0x4800, 24, 0x04, 0x04, .u32, .rw, true, true, false, (.num 154133), .any⟩,
  ⟨0x4800, 24, 0x05, 0x05, .u16, .rw, true, true, false, (.num 1920), .any⟩,
  ⟨0x4800, 24, 0x06, 0x06, .u16, .rw, true, true, false, (.num 48), .rng 8 1024⟩,
  ⟨0x4800, 24, 0x07, 0x07, .u16, .rw, true, true, false, (.num 32), .rng 8 1024⟩,
  ⟨0x4800, 24, 0x08, 0x08, .u16, .rw, true, true, false, (.num 80), .rng 8 1024⟩,
  ⟨0x4800, 24, 0x09, 0x09, .u16, .rw, true, true, false, (.num 1200), .any⟩,
  ⟨0x4800, 24, 0x0A, 0x0A, .u16, .rw, true, true, false, (.num 3), .rng 1 1023⟩,
  ⟨0x4800, 24, 0x0B, 0x0B, .u8, .rw, true, true, false, (.num 6), .rng 1 63⟩,
  ⟨0x4800, 24, 0x0C, 0x0C, .u8, .rw, true, true, false, (.num 26), .rng 1 255⟩,
  ⟨0x4800, 24, 0x0D, 0x0D, .u16, .rw, true, true, false, (.num 1544), .any⟩,
  ⟨0x4800, 24, 0x0E, 0x0E, .u8, .rw, true, true, false, (.num 2), .mask 3⟩,
  ⟨0x4800, 24, 0x10, 0x10, .u8, .rw, true, true, false, (.num 3), .rng 0 3⟩,
  ⟨0x4800, 24, 0x11, 0x11, .u8, .rw, true, true, false, (.num 2), .oneOf [1, 2]⟩,
  ⟨0x4800, 24, 0x12, 0x12, .bool, .rw, true, true, false, (.num 1), .rng 0 1⟩,
  ⟨0x4800, 24, 0x13, 0x13, .u8, .wo, false, false, false, (.num 0), .rng 1 1⟩,
  ⟨0x4800, 24, 0x14, 0x14, .u8, .ro, false, false, false, (.num 4), .any⟩,
  ⟨0x4800, 24, 0x15, 0x15, .u16, .ro, false, false, false, (.num 65535), .any⟩,
  ⟨0x4800, 24, 0x16, 0x16, .u32, .ro, false, false, false, (.num 0), .any⟩,
  ⟨0x4800, 24, 0x17, 0x17, .u8, .rw, true, false, false, (.num 0), .mask 0x3F⟩,
  ⟨0x4800, 24, 0x18, 0x18, .u16, .rw, true, false, false, (.num 65535), .any⟩,
  ⟨0x4800, 24, 0x19, 0x19, .u16, .rw, true, false, false, (.num 65535), .any⟩,
  ⟨0x4800, 24, 0x1A, 0x1A, .u32, .ro, false, false, true, (.num 0), .any⟩,
  ⟨0x4800, 24, 0x1B, 0x1B, .u32, .ro, false, false, true, (.num 0), .any⟩,
  ⟨0x4800, 24, 0x1C, 0x1C, .u32, .ro, false, false, true, (.num 0), .any⟩,
  ⟨0x4800, 24, 0x1D, 0x1D, .u16, .ro, false, false, false, (.num 0), .any⟩,
  ⟨0x4800, 24, 0x1E, 0x1E, .u32, .ro, false, false, true, (.num 0), .any⟩,
  ⟨0x4800, 24, 0x1F, 0x1F, .u8, .ro, false, false, false, (.num 0), .any⟩,
  ⟨0x4800, 24, 0x20, 0x20, .u8, .rw, true, true, false, (.num 0), .rng 0 1⟩,
  ⟨0x4800, 24, 0x21, 0x21, .u16, .rw, true, true, false, (.num 100), .rng 48 1000⟩,
  ⟨0x4800, 24, 0x22, 0x22, .u8, .rw, true, true, false, (.num 0), .rng 0 1⟩,
  ⟨0x4800, 24, 0x23, 0x23, .u32, .rw, true, true, false, (.num 0), .mask 0x3FFFFFFF⟩,
  ⟨0x4800, 24, 0x24, 0x24, .u8, .rw, true, true, false, (.num 255), .rngOr 0 31 255⟩,
  ⟨0x4800, 24, 0x25, 0x25, .i32, .rw, true, true, false, (.num 0), .rng 0 65535⟩,
  ⟨0x4800, 24, 0x26, 0x26, .i32, .rw, true, true, false, (.num 0), .rng 0 65535⟩,
  ⟨0x4800, 24, 0x27, 0x27, .u8, .ro, false, false, false, (.num 0), .any⟩,
  ⟨0x4800, 24, 0x28, 0x28, .u8, .ro, false, false, false, (.num 0), .any⟩,
  ⟨0x4800, 24, 0x30, 0x30, .u32, .rw, true, true, false, (.num 1073478656), .mask 0x3FFFFFFF⟩,
  ⟨0x4800, 24, 0x31, 0x31, .u32, .rw, true, true, false, (.num 537395712), .mask 0x3FFFFFFF⟩,
  ⟨0x4800, 24, 0x32, 0x32, .u32, .rw, true, true, false, (.num 0), .mask 0x3FFFFFFF⟩,
  ⟨0x4800, 24, 0x33, 0x33, .u8, .rw, true, true, false, (.num 2), .rng 0 255⟩,
  ⟨0x4800, 24, 0x34, 0x34, .u8, .rw, true, true, false, (.num 3), .oneOf [1, 3, 4]⟩,
  ⟨0x4800, 24, 0x35, 0x35, .u8, .ro, false, false, false, (.num 0), .any⟩,
  ⟨0x4800, 24, 0x36, 0x36, .u32, .ro, false, false, true, (.num 0), .any⟩,
  ⟨0x4800, 24, 0x37, 0x37, .u32, .ro, false, false, true, (.num 0), .any⟩,
  ⟨0x4820, 32, 0x00, 0x00, .u8, .konst, false, false, false, (.num 3), .any⟩,
  ⟨0x4820, 32, 0x01, 0x01, .u16, .rw, true, true, false, (.num 7680), .rng 1 65535⟩,
  ⟨0x4820, 32, 0x02, 0x02, .u16, .rw, true, true, false, (.num 2160), .rng 1 65535⟩,
  ⟨0x4820, 32, 0x03, 0x03, .u32, .ro, false, false, false, (.num 0), .any⟩]

/-- Objects 0x4900 to 0x49FF, from the tables of 08_scanout_displayport.md. -/
def page49 : List Obj := [
  ⟨0x4900, 1, 0x00, 0x00, .u8, .konst, false, false, false, (.num 3), .any⟩,
  ⟨0x4900, 1, 0x01, 0x01, .u32, .ro, false, false, false, (.num 0), .any⟩,
  ⟨0x4900, 1, 0x02, 0x02, .u8, .ro, false, false, false, (.num 0), .any⟩,
  ⟨0x4900, 1, 0x03, 0x03, .u32, .ro, false, false, false, (.num 0), .any⟩,
  ⟨0x4910, 24, 0x00, 0x00, .u8, .konst, false, false, false, (.num 12), .any⟩,
  ⟨0x4910, 24, 0x01, 0x01, .domain, .ro, false, false, false, (.bytes []), .any⟩,
  ⟨0x4910, 24, 0x02, 0x02, .domain, .ro, false, false, false, (.bytes []), .any⟩,
  ⟨0x4910, 24, 0x03, 0x03, .bool, .ro, false, false, false, (.num 0), .any⟩,
  ⟨0x4910, 24, 0x04, 0x04, .u16, .rw, true, true, false, (.num 1000), .rng 0 65535⟩,
  ⟨0x4910, 24, 0x05, 0x05, .u16, .rw, true, true, false, (.num 400), .rng 0 65535⟩,
  ⟨0x4910, 24, 0x06, 0x06, .u16, .rw, true, true, false, (.num 1000), .rng 1 65535⟩,
  ⟨0x4910, 24, 0x07, 0x07, .u16, .rw, true, true, false, (.num 50), .rng 0 65535⟩,
  ⟨0x4910, 24, 0x08, 0x08, .u32, .ro, false, false, true, (.num 0), .any⟩,
  ⟨0x4910, 24, 0x09, 0x09, .u32, .ro, false, false, true, (.num 0), .any⟩,
  ⟨0x4910, 24, 0x0A, 0x0A, .u32, .ro, false, false, true, (.num 0), .any⟩,
  ⟨0x4910, 24, 0x0B, 0x0B, .u32, .ro, false, false, false, (.num 0), .any⟩,
  ⟨0x4910, 24, 0x0C, 0x0C, .u8, .ro, false, false, false, (.num 0), .any⟩]

/-- Objects 0x5000 to 0x50FF, from the tables of 01_the_live_promise.md. -/
def page50 : List Obj := [
  ⟨0x5000, 1, 0x00, 0x00, .u8, .konst, false, false, false, (.num 33), .any⟩,
  ⟨0x5000, 1, 0x01, 0x01, .u32, .rw, true, true, false, (.num 1000000), .rng 1000 10000000⟩,
  ⟨0x5000, 1, 0x02, 0x02, .u32, .ro, false, false, false, (.num 4294967295), .any⟩,
  ⟨0x5000, 1, 0x03, 0x03, .bool, .ro, false, false, false, (.num 0), .any⟩,
  ⟨0x5000, 1, 0x04, 0x04, .u32, .konst, false, false, false, (.num 2000), .any⟩,
  ⟨0x5000, 1, 0x05, 0x05, .u16, .rw, true, true, false, (.num 5), .rng 1 50⟩,
  ⟨0x5000, 1, 0x06, 0x06, .u8, .rw, true, true, false, (.num 10), .rng 1 60⟩,
  ⟨0x5000, 1, 0x07, 0x07, .u8, .ro, false, false, false, (.num 0), .any⟩,
  ⟨0x5000, 1, 0x08, 0x08, .u8, .ro, false, false, false, (.num 0), .any⟩,
  ⟨0x5000, 1, 0x10, 0x10, .u32, .ro, false, false, true, (.num 0), .any⟩,
  ⟨0x5000, 1, 0x11, 0x11, .u32, .ro, false, false, true, (.num 0), .any⟩,
  ⟨0x5000, 1, 0x12, 0x12, .u32, .ro, false, false, true, (.num 0), .any⟩,
  ⟨0x5000, 1, 0x13, 0x13, .u32, .ro, false, false, true, (.num 0), .any⟩,
  ⟨0x5000, 1, 0x14, 0x14, .u16, .ro, false, false, true, (.num 0), .any⟩,
  ⟨0x5000, 1, 0x20, 0x20, .u32, .rw, false, false, false, (.num 0), .any⟩,
  ⟨0x5000, 1, 0x21, 0x21, .domain, .ro, false, false, false, (.bytes []), .any⟩]

/-- Objects 0x5100 to 0x51FF, from the tables of 16_events_checks_tally.md. -/
def page51 : List Obj := [
  ⟨0x5100, 1, 0x00, 0x00, .u8, .konst, false, false, false, (.num 4), .any⟩,
  ⟨0x5100, 1, 0x01, 0x01, .u8, .ro, false, false, false, (.num 0), .any⟩,
  ⟨0x5100, 1, 0x02, 0x02, .domain, .rw, true, true, false, (.bytes []), .size4 0 1024⟩,
  ⟨0x5100, 1, 0x03, 0x03, .u8, .rw, true, true, false, (.num 6), .mask 0x0F⟩,
  ⟨0x5100, 1, 0x04, 0x04, .u8, .ro, false, false, false, (.num 0), .any⟩]

/-- Objects 0x5400 to 0x54FF, from the tables of 11_console_touch.md. -/
def page54 : List Obj := [
  ⟨0x5400, 1, 0x00, 0x00, .u8, .konst, false, false, false, (.num 4), .any⟩,
  ⟨0x5400, 1, 0x01, 0x01, .u8, .ro, false, false, false, (.num 3), .any⟩,
  ⟨0x5400, 1, 0x02, 0x02, .u8, .rw, true, true, false, (.num 3), .mask 3⟩,
  ⟨0x5400, 1, 0x03, 0x03, .u32, .ro, false, false, true, (.num 0), .any⟩,
  ⟨0x5400, 1, 0x04, 0x04, .u32, .ro, false, false, true, (.num 0), .any⟩,
  ⟨0x5410, 2, 0x00, 0x00, .u8, .konst, false, false, false, (.num 38), .any⟩,
  ⟨0x5410, 2, 0x01, 0x01, .bool, .rw, true, true, false, (.num 1), .rng 0 1⟩,
  ⟨0x5410, 2, 0x02, 0x02, .u8, .rw, true, true, false, (.num 0), .rng 0 1⟩,
  ⟨0x5410, 2, 0x03, 0x03, .u8, .rw, true, true, false, (.num 64), .rng 2 64⟩,
  ⟨0x5410, 2, 0x04, 0x04, .u8, .rw, true, true, false, (.num 112), .rng 2 112⟩,
  ⟨0x5410, 2, 0x05, 0x05, .u16, .rw, true, true, false, (.num 5000), .rng 1000 20000⟩,
  ⟨0x5410, 2, 0x06, 0x06, .u16, .rw, true, true, false, (.num 5000), .rng 1000 20000⟩,
  ⟨0x5410, 2, 0x07, 0x07, .domain, .rw, true, true, false, (.bytes [100, 0, 120, 0, 140, 0, 160, 0, 180, 0, 200, 0, 225, 0, 250, 0, 19, 1, 44, 1, 74, 1, 104, 1, 134, 1, 164, 1, 204, 1, 244, 1]), .size 32 32⟩,
  ⟨0x5410, 2, 0x08, 0x08, .u16, .rw, true, true, false, (.num 65535), .any⟩,
  ⟨0x5410, 2, 0x09, 0x09, .u8, .rw, true, true, false, (.num 6), .rng 0 15⟩,
  ⟨0x5410, 2, 0x0A, 0x0A, .u16, .rw, true, true, false, (.num 48), .rng 4 1000⟩,
  ⟨0x5410, 2, 0x0B, 0x0B, .u16, .rw, true, true, false, (.num 16), .rng 1 500⟩,
  ⟨0x5410, 2, 0x0C, 0x0C, .u16, .rw, true, true, false, (.num 192), .rng 8 4095⟩,
  ⟨0x5410, 2, 0x0D, 0x0D, .u16, .rw, true, true, false, (.num 120), .rng 20 2000⟩,
  ⟨0x5410, 2, 0x0E, 0x0E, .u16, .rw, true, true, false, (.num 400), .rng 20 4000⟩,
  ⟨0x5410, 2, 0x0F, 0x0F, .u16, .rw, true, true, false, (.num 120), .rng 20 4000⟩,
  ⟨0x5410, 2, 0x10, 0x10, .u16, .rw, true, true, false, (.num 40), .rng 10 4000⟩,
  ⟨0x5410, 2, 0x11, 0x11, .u16, .rw, true, true, false, (.num 150), .rng 20 2000⟩,
  ⟨0x5410, 2, 0x12, 0x12, .u16, .rw, true, true, false, (.num 30), .rng 0 1440⟩,
  ⟨0x5410, 2, 0x13, 0x13, .u8, .rw, true, true, false, (.num 255), .rngOr 0 23 255⟩,
  ⟨0x5410, 2, 0x14, 0x15, .u16, .rw, true, true, false, (.num 0), .any⟩,
  ⟨0x5410, 2, 0x16, 0x16, .u16, .rw, true, true, false, (.num 1919), .any⟩,
  ⟨0x5410, 2, 0x17, 0x17, .u16, .rw, true, true, false, (.num 1199), .any⟩,
  ⟨0x5410, 2, 0x18, 0x18, .bool, .rw, true, true, false, (.num 0), .rng 0 1⟩,
  ⟨0x5410, 2, 0x19, 0x19, .domain, .ro, true, false, false, (.bytes []), .any⟩,
  ⟨0x5410, 2, 0x1A, 0x1A, .domain, .ro, true, false, false, (.bytes []), .any⟩,
  ⟨0x5410, 2, 0x1B, 0x1B, .u8, .wo, false, false, false, (.num 0), .rng 1 3⟩,
  ⟨0x5410, 2, 0x1C, 0x1C, .u8, .ro, false, false, false, (.num 0), .any⟩,
  ⟨0x5410, 2, 0x1D, 0x1D, .u8, .ro, false, false, false, (.num 6), .any⟩,
  ⟨0x5410, 2, 0x1E, 0x1E, .domain, .ro, false, false, false, (.bytes (List.replicate 32 0xFF)), .any⟩,
  ⟨0x5410, 2, 0x1F, 0x1F, .u8, .ro, false, false, false, (.num 0), .any⟩,
  ⟨0x5410, 2, 0x20, 0x20, .u16, .ro, false, false, false, (.num 0), .any⟩,
  ⟨0x5410, 2, 0x21, 0x21, .u8, .ro, false, false, false, (.num 0), .any⟩,
  ⟨0x5410, 2, 0x22, 0x22, .u16, .ro, false, false, false, (.num 0), .any⟩,
  ⟨0x5410, 2, 0x23, 0x23, .u32, .ro, false, false, true, (.num 0), .any⟩,
  ⟨0x5410, 2, 0x24, 0x24, .u32, .ro, false, false, true, (.num 0), .any⟩,
  ⟨0x5410, 2, 0x25, 0x25, .u32, .ro, false, false, true, (.num 0), .any⟩,
  ⟨0x5410, 2, 0x26, 0x26, .domain, .ro, false, false, false, (.bytes []), .any⟩,
  ⟨0x5440, 32, 0x00, 0x00, .u8, .konst, false, false, false, (.num 8), .any⟩,
  ⟨0x5440, 32, 0x01, 0x01, .bool, .rw, true, true, false, (.num 0), .rng 0 1⟩,
  ⟨0x5440, 32, 0x02, 0x02, .u8, .rw, true, true, false, (.num 0), .rng 0 63⟩,
  ⟨0x5440, 32, 0x03, 0x03, .u8, .rw, true, true, false, (.num 0), .rng 0 63⟩,
  ⟨0x5440, 32, 0x04, 0x04, .u8, .rw, true, true, false, (.num 0), .rng 0 111⟩,
  ⟨0x5440, 32, 0x05, 0x05, .u8, .rw, true, true, false, (.num 0), .rng 0 111⟩,
  ⟨0x5440, 32, 0x06, 0x06, .u8, .ro, false, false, false, (.num 2), .any⟩,
  ⟨0x5440, 32, 0x07, 0x07, .u8, .ro, false, false, false, (.num 3), .any⟩,
  ⟨0x5440, 32, 0x08, 0x08, .u32, .ro, false, false, true, (.num 0), .any⟩]

/-- Objects 0x5800 to 0x58FF, from the tables of 10_graphics_transport.md. -/
def page58 : List Obj := [
  ⟨0x5800, 1, 0x00, 0x00, .u8, .konst, false, false, false, (.num 23), .any⟩,
  ⟨0x5800, 1, 0x01, 0x01, .u8, .rw, true, true, false, (.num 80), .rng 50 100⟩,
  ⟨0x5800, 1, 0x02, 0x02, .u16, .ro, false, false, false, (.num 0), .any⟩,
  ⟨0x5800, 1, 0x03, 0x03, .u8, .ro, false, false, false, (.num 15), .any⟩,
  ⟨0x5800, 1, 0x04, 0x04, .u32, .ro, false, false, true, (.num 0), .any⟩,
  ⟨0x5800, 1, 0x05, 0x05, .u32, .ro, false, false, true, (.num 0), .any⟩,
  ⟨0x5800, 1, 0x06, 0x06, .u32, .ro, false, false, true, (.num 0), .any⟩,
  ⟨0x5800, 1, 0x07, 0x07, .u32, .ro, false, false, true, (.num 0), .any⟩,
  ⟨0x5800, 1, 0x11, 0x17, .domain, .rw, true, true, false, (.bytes []), .size 0 4096⟩,
  ⟨0x5810, 160, 0x00, 0x00, .u8, .konst, false, false, false, (.num 19), .any⟩,
  ⟨0x5810, 160, 0x01, 0x01, .u8, .rw, true, true, false, (.num 2), .rng 1 4⟩,
  ⟨0x5810, 160, 0x02, 0x02, .u8, .rw, true, true, false, (.num 0), .rng 0 7⟩,
  ⟨0x5810, 160, 0x03, 0x03, .u32, .rw, true, true, false, (.num 8388608), .rng 65536 37748736⟩,
  ⟨0x5810, 160, 0x04, 0x04, .u16, .rw, true, true, false, (.num 64), .rng 4 1024⟩,
  ⟨0x5810, 160, 0x05, 0x05, .u16, .ro, false, false, false, (.num 0), .any⟩,
  ⟨0x5810, 160, 0x06, 0x06, .u8, .ro, false, false, false, (.num 0), .any⟩,
  ⟨0x5810, 160, 0x07, 0x07, .u16, .ro, false, false, false, (.num 257), .any⟩,
  ⟨0x5810, 160, 0x08, 0x08, .u8, .ro, false, false, false, (.num 9), .any⟩,
  ⟨0x5810, 160, 0x09, 0x09, .u32, .ro, false, false, false, (.num 0), .any⟩,
  ⟨0x5810, 160, 0x0A, 0x0A, .u8, .ro, false, false, false, (.num 255), .any⟩,
  ⟨0x5810, 160, 0x0B, 0x0B, .u32, .ro, false, false, false, (.num 0), .any⟩,
  ⟨0x5810, 160, 0x0C, 0x0C, .u16, .ro, false, false, false, (.num 0), .any⟩,
  ⟨0x5810, 160, 0x0D, 0x0D, .u32, .ro, false, false, true, (.num 0), .any⟩,
  ⟨0x5810, 160, 0x0E, 0x0E, .u32, .ro, false, false, true, (.num 0), .any⟩,
  ⟨0x5810, 160, 0x0F, 0x0F, .u32, .ro, false, false, true, (.num 0), .any⟩,
  ⟨0x5810, 160, 0x10, 0x10, .u32, .ro, false, false, true, (.num 0), .any⟩,
  ⟨0x5810, 160, 0x11, 0x11, .u8, .ro, false, false, false, (.num 0), .any⟩,
  ⟨0x5810, 160, 0x12, 0x12, .u32, .ro, false, false, true, (.num 0), .any⟩,
  ⟨0x5810, 160, 0x13, 0x13, .domain, .ro, false, false, false, (.bytes []), .any⟩]

/-- Objects 0x6000 to 0x60FF, from the tables of 12_memory.md. -/
def page60 : List Obj := [
  ⟨0x6000, 1, 0x00, 0x00, .u8, .konst, false, false, false, (.num 16), .any⟩,
  ⟨0x6000, 1, 0x01, 0x01, .u32, .konst, false, false, false, (.num 16384), .any⟩,
  ⟨0x6000, 1, 0x02, 0x02, .u8, .rw, true, true, false, (.num 0), .rng 0 2⟩,
  ⟨0x6000, 1, 0x03, 0x03, .u8, .ro, false, false, false, (.num 0), .any⟩,
  ⟨0x6000, 1, 0x04, 0x04, .u8, .ro, false, false, false, (.num 0), .any⟩,
  ⟨0x6000, 1, 0x05, 0x05, .u32, .ro, false, false, true, (.num 0), .any⟩,
  ⟨0x6000, 1, 0x06, 0x06, .u16, .ro, false, false, false, (.num 3900), .any⟩,
  ⟨0x6000, 1, 0x07, 0x07, .i8, .ro, false, false, false, (.num 0), .any⟩,
  ⟨0x6000, 1, 0x08, 0x08, .u32, .ro, false, false, true, (.num 0), .any⟩,
  ⟨0x6000, 1, 0x09, 0x09, .u32, .ro, false, false, true, (.num 0), .any⟩,
  ⟨0x6000, 1, 0x0A, 0x0A, .u32, .ro, false, false, false, (.num 0), .any⟩,
  ⟨0x6000, 1, 0x0B, 0x0B, .u32, .ro, false, false, false, (.num 0), .any⟩,
  ⟨0x6000, 1, 0x0C, 0x0C, .bool, .ro, false, false, false, (.num 0), .any⟩,
  ⟨0x6000, 1, 0x0D, 0x0D, .u8, .rw, true, true, false, (.num 8), .rng 1 168⟩,
  ⟨0x6000, 1, 0x0E, 0x0E, .u32, .ro, false, false, true, (.num 0), .any⟩,
  ⟨0x6000, 1, 0x0F, 0x0F, .u8, .ro, false, false, false, (.num 255), .any⟩,
  ⟨0x6000, 1, 0x10, 0x10, .u32, .ro, false, false, true, (.num 0), .any⟩,
  ⟨0x6010, 8, 0x00, 0x00, .u8, .konst, false, false, false, (.num 7), .any⟩,
  ⟨0x6010, 8, 0x01, 0x01, .u32, .ro, false, false, false, (.num 0), .any⟩,
  ⟨0x6010, 8, 0x02, 0x02, .u8, .rw, true, true, false, (.num 0), .rng 0 2⟩,
  ⟨0x6010, 8, 0x03, 0x03, .bool, .rw, true, true, false, (.num 1), .rng 0 1⟩,
  ⟨0x6010, 8, 0x04, 0x04, .u32, .konst, false, false, false, (.num 0), .any⟩,
  ⟨0x6010, 8, 0x05, 0x05, .u32, .ro, false, false, true, (.num 0), .any⟩,
  ⟨0x6010, 8, 0x06, 0x06, .u32, .ro, false, false, true, (.num 0), .any⟩,
  ⟨0x6010, 8, 0x07, 0x07, .u32, .ro, false, false, false, (.num 0), .any⟩]

/-- Objects 0x6400 to 0x64FF, from the tables of 13_serial_lanes_spaydun.md. -/
def page64 : List Obj := [
  ⟨0x6400, 1, 0x00, 0x00, .u8, .konst, false, false, false, (.num 6), .any⟩,
  ⟨0x6400, 1, 0x01, 0x01, .u32, .rw, true, true, false, (.num 0), .any⟩,
  ⟨0x6400, 1, 0x02, 0x02, .u64, .ro, false, false, false, (.num 0), .any⟩,
  ⟨0x6400, 1, 0x03, 0x03, .u64, .ro, false, false, false, (.num 0), .any⟩,
  ⟨0x6400, 1, 0x04, 0x04, .u32, .ro, false, false, true, (.num 0), .any⟩,
  ⟨0x6400, 1, 0x05, 0x05, .u32, .ro, false, false, true, (.num 0), .any⟩,
  ⟨0x6400, 1, 0x06, 0x06, .u8, .wo, false, false, false, (.num 0), .rng 1 1⟩,
  ⟨0x6410, 36, 0x00, 0x00, .u8, .konst, false, false, false, (.num 12), .any⟩,
  ⟨0x6410, 36, 0x01, 0x01, .u16, .rw, true, true, false, (.num 25608), .mask 0xFF7F⟩,
  ⟨0x6410, 36, 0x02, 0x02, .u8, .rw, true, true, false, (.num 8), .rng 0 15⟩,
  ⟨0x6410, 36, 0x03, 0x03, .u8, .rw, true, true, false, (.num 0), .mask 3⟩,
  ⟨0x6410, 36, 0x04, 0x04, .u8, .rw, false, false, false, (.num 0), .rng 0 3⟩,
  ⟨0x6410, 36, 0x05, 0x05, .u8, .rw, false, false, false, (.num 0), .rng 0 4⟩,
  ⟨0x6410, 36, 0x06, 0x06, .u8, .rw, false, false, false, (.num 0), .rng 0 4⟩,
  ⟨0x6410, 36, 0x07, 0x07, .bool, .ro, false, false, false, (.num 0), .any⟩,
  ⟨0x6410, 36, 0x08, 0x08, .u32, .ro, false, false, true, (.num 0), .any⟩,
  ⟨0x6410, 36, 0x09, 0x09, .u64, .ro, false, false, true, (.num 0), .any⟩,
  ⟨0x6410, 36, 0x0A, 0x0A, .u8, .ro, false, false, false, (.num 0), .any⟩,
  ⟨0x6410, 36, 0x0B, 0x0B, .u32, .ro, false, false, true, (.num 0), .any⟩,
  ⟨0x6410, 36, 0x0C, 0x0C, .u32, .ro, false, false, true, (.num 0), .any⟩,
  ⟨0x6440, 24, 0x00, 0x00, .u8, .konst, false, false, false, (.num 11), .any⟩,
  ⟨0x6440, 24, 0x01, 0x01, .u16, .rw, true, true, false, (.num 4), .mask 0x8F7F⟩,
  ⟨0x6440, 24, 0x02, 0x02, .u16, .rw, true, true, false, (.num 1028), .mask 0x8F7F⟩,
  ⟨0x6440, 24, 0x03, 0x03, .u16, .rw, true, true, false, (.num 2052), .mask 0x8F7F⟩,
  ⟨0x6440, 24, 0x04, 0x04, .u16, .rw, true, true, false, (.num 3076), .mask 0x8F7F⟩,
  ⟨0x6440, 24, 0x05, 0x05, .u16, .rw, true, true, false, (.num 7), .mask 0x8F7F⟩,
  ⟨0x6440, 24, 0x06, 0x06, .u16, .rw, true, true, false, (.num 1031), .mask 0x8F7F⟩,
  ⟨0x6440, 24, 0x07, 0x07, .u16, .rw, true, true, false, (.num 2055), .mask 0x8F7F⟩,
  ⟨0x6440, 24, 0x08, 0x08, .u16, .rw, true, true, false, (.num 10), .mask 0x8F7F⟩,
  ⟨0x6440, 24, 0x09, 0x09, .u16, .rw, true, true, false, (.num 1034), .mask 0x8F7F⟩,
  ⟨0x6440, 24, 0x0A, 0x0A, .u16, .rw, true, true, false, (.num 13), .mask 0x8F7F⟩,
  ⟨0x6440, 24, 0x0B, 0x0B, .u8, .rw, false, false, false, (.num 0), .rng 0 4⟩]

/-- Objects 0x6500 to 0x65FF, from the tables of 13_serial_lanes_spaydun.md. -/
def page65 : List Obj := [
  ⟨0x6500, 1, 0x00, 0x00, .u8, .konst, false, false, false, (.num 4), .any⟩,
  ⟨0x6500, 1, 0x01, 0x01, .u16, .rw, true, true, false, (.num 1280), .rng 256 1280⟩,
  ⟨0x6500, 1, 0x02, 0x02, .u16, .rw, true, true, false, (.num 100), .rng 20 1000⟩,
  ⟨0x6500, 1, 0x03, 0x03, .u8, .rw, true, true, false, (.num 16), .rng 2 64⟩,
  ⟨0x6500, 1, 0x04, 0x04, .u16, .rw, true, true, false, (.num 1000), .rng 100 60000⟩,
  ⟨0x6510, 2, 0x00, 0x00, .u8, .konst, false, false, false, (.num 19), .any⟩,
  ⟨0x6510, 2, 0x01, 0x01, .bool, .rw, true, true, false, (.num 1), .rng 0 1⟩,
  ⟨0x6510, 2, 0x02, 0x02, .u8, .rw, true, true, false, (.num 2), .rng 0 2⟩,
  ⟨0x6510, 2, 0x03, 0x03, .u8, .rw, true, true, false, (.num 1), .oneOf [1, 2, 4, 8]⟩,
  ⟨0x6510, 2, 0x04, 0x04, .u8, .ro, false, false, false, (.num 1), .any⟩,
  ⟨0x6510, 2, 0x05, 0x05, .u8, .ro, false, false, false, (.num 0), .any⟩,
  ⟨0x6510, 2, 0x06, 0x06, .u8, .ro, false, false, false, (.num 0), .any⟩,
  ⟨0x6510, 2, 0x07, 0x07, .u8, .ro, false, false, false, (.num 255), .any⟩,
  ⟨0x6510, 2, 0x08, 0x08, .u32, .ro, false, false, false, (.num 0), .any⟩,
  ⟨0x6510, 2, 0x09, 0x09, .u32, .ro, false, false, true, (.num 0), .any⟩,
  ⟨0x6510, 2, 0x0A, 0x0A, .u32, .ro, false, false, true, (.num 0), .any⟩,
  ⟨0x6510, 2, 0x0B, 0x0B, .u32, .ro, false, false, true, (.num 0), .any⟩,
  ⟨0x6510, 2, 0x0C, 0x0C, .u32, .ro, false, false, true, (.num 0), .any⟩,
  ⟨0x6510, 2, 0x0D, 0x0D, .u32, .ro, false, false, true, (.num 0), .any⟩,
  ⟨0x6510, 2, 0x0E, 0x0E, .u32, .ro, false, false, true, (.num 0), .any⟩,
  ⟨0x6510, 2, 0x0F, 0x0F, .u32, .ro, false, false, true, (.num 0), .any⟩,
  ⟨0x6510, 2, 0x10, 0x10, .u32, .ro, false, false, true, (.num 0), .any⟩,
  ⟨0x6510, 2, 0x11, 0x11, .u32, .ro, false, false, true, (.num 0), .any⟩,
  ⟨0x6510, 2, 0x12, 0x12, .u32, .ro, false, false, true, (.num 0), .any⟩,
  ⟨0x6510, 2, 0x13, 0x13, .u32, .ro, false, false, false, (.num 0), .any⟩]

/-- Objects 0x6600 to 0x66FF, from the tables of 14_pcie_rings.md. -/
def page66 : List Obj := [
  ⟨0x6600, 1, 0x00, 0x00, .u8, .konst, false, false, false, (.num 12), .any⟩,
  ⟨0x6600, 1, 0x01, 0x01, .u8, .rw, true, true, false, (.num 0), .rng 0 1⟩,
  ⟨0x6600, 1, 0x02, 0x02, .u8, .rw, true, true, false, (.num 1), .rng 0 1⟩,
  ⟨0x6600, 1, 0x03, 0x03, .u8, .rw, true, true, false, (.num 4), .oneOf [1, 2, 4]⟩,
  ⟨0x6600, 1, 0x04, 0x04, .u8, .ro, false, false, false, (.num 0), .any⟩,
  ⟨0x6600, 1, 0x05, 0x05, .u16, .ro, false, false, false, (.num 65535), .any⟩,
  ⟨0x6600, 1, 0x06, 0x06, .bool, .rw, true, true, false, (.num 1), .rng 0 1⟩,
  ⟨0x6600, 1, 0x07, 0x07, .u32, .ro, false, false, false, (.num 0), .any⟩,
  ⟨0x6600, 1, 0x08, 0x08, .u32, .ro, false, false, true, (.num 0), .any⟩,
  ⟨0x6600, 1, 0x09, 0x09, .u32, .ro, false, false, true, (.num 0), .any⟩,
  ⟨0x6600, 1, 0x0A, 0x0A, .u32, .ro, false, false, true, (.num 0), .any⟩,
  ⟨0x6600, 1, 0x0B, 0x0B, .u32, .ro, false, false, true, (.num 0), .any⟩,
  ⟨0x6600, 1, 0x0C, 0x0C, .u32, .ro, false, false, true, (.num 0), .any⟩,
  ⟨0x6610, 64, 0x00, 0x00, .u8, .konst, false, false, false, (.num 11), .any⟩,
  ⟨0x6610, 64, 0x01, 0x01, .u8, .konst, false, false, false, (.num 0), .any⟩,
  ⟨0x6610, 64, 0x02, 0x02, .u8, .ro, false, false, false, (.num 0), .any⟩,
  ⟨0x6610, 64, 0x03, 0x03, .u8, .ro, false, false, false, (.num 0), .any⟩,
  ⟨0x6610, 64, 0x04, 0x04, .u32, .ro, false, false, false, (.num 0), .any⟩,
  ⟨0x6610, 64, 0x05, 0x05, .u8, .ro, false, false, false, (.num 0), .any⟩,
  ⟨0x6610, 64, 0x06, 0x06, .u8, .ro, false, false, false, (.num 0), .any⟩,
  ⟨0x6610, 64, 0x07, 0x07, .u32, .ro, false, false, false, (.num 0), .any⟩,
  ⟨0x6610, 64, 0x08, 0x08, .u32, .ro, false, false, false, (.num 0), .any⟩,
  ⟨0x6610, 64, 0x09, 0x09, .u32, .ro, false, false, false, (.num 0), .any⟩,
  ⟨0x6610, 64, 0x0A, 0x0A, .u32, .ro, false, false, false, (.num 0), .any⟩,
  ⟨0x6610, 64, 0x0B, 0x0B, .u32, .ro, false, false, true, (.num 0), .any⟩]

/-- Objects 0x6800 to 0x68FF, from the tables of 17_system_cascade.md. -/
def page68 : List Obj := [
  ⟨0x6800, 1, 0x00, 0x00, .u8, .konst, false, false, false, (.num 26), .any⟩,
  ⟨0x6800, 1, 0x01, 0x01, .u8, .rw, true, false, false, (.num 0), .rng 0 15⟩,
  ⟨0x6800, 1, 0x02, 0x02, .u16, .rw, true, true, false, (.num 0), .any⟩,
  ⟨0x6800, 1, 0x03, 0x03, .u16, .rw, true, true, false, (.num 0), .any⟩,
  ⟨0x6800, 1, 0x04, 0x04, .u8, .rw, true, true, false, (.num 0), .rng 0 1⟩,
  ⟨0x6800, 1, 0x05, 0x05, .u16, .rw, true, true, false, (.num 100), .rng 30 5000⟩,
  ⟨0x6800, 1, 0x06, 0x06, .u16, .rw, true, true, false, (.num 30), .rng 5 600⟩,
  ⟨0x6800, 1, 0x07, 0x07, .u16, .rw, true, true, false, (.num 200), .rng 50 10000⟩,
  ⟨0x6800, 1, 0x08, 0x08, .u32, .ro, false, false, false, (.num 0), .any⟩,
  ⟨0x6800, 1, 0x09, 0x09, .u8, .ro, false, false, false, (.num 0), .any⟩,
  ⟨0x6800, 1, 0x0A, 0x0A, .u8, .ro, false, false, false, (.num 255), .any⟩,
  ⟨0x6800, 1, 0x0B, 0x0B, .u8, .ro, false, false, false, (.num 255), .any⟩,
  ⟨0x6800, 1, 0x0C, 0x0C, .u8, .ro, false, false, false, (.num 0), .any⟩,
  ⟨0x6800, 1, 0x0D, 0x0D, .domain, .rw, false, false, false, (.bytes []), .size 0 1048576⟩,
  ⟨0x6800, 1, 0x0E, 0x0E, .bool, .rw, true, true, false, (.num 1), .rng 0 1⟩,
  ⟨0x6800, 1, 0x0F, 0x0F, .bool, .rw, true, true, false, (.num 1), .rng 0 1⟩,
  ⟨0x6800, 1, 0x10, 0x10, .u8, .wo, false, false, false, (.num 0), .rng 1 4⟩,
  ⟨0x6800, 1, 0x11, 0x11, .u8, .rw, false, false, false, (.num 0), .rng 0 15⟩,
  ⟨0x6800, 1, 0x12, 0x12, .u16, .ro, false, false, false, (.num 0), .any⟩,
  ⟨0x6800, 1, 0x13, 0x13, .u8, .ro, false, false, false, (.num 0), .any⟩,
  ⟨0x6800, 1, 0x14, 0x14, .u32, .ro, false, false, false, (.num 4294967295), .any⟩,
  ⟨0x6800, 1, 0x15, 0x15, .u64, .ro, false, false, false, (.num 0), .any⟩,
  ⟨0x6800, 1, 0x16, 0x16, .u64, .ro, false, false, false, (.num 0), .any⟩,
  ⟨0x6800, 1, 0x17, 0x17, .u64, .ro, false, false, false, (.num 0), .any⟩,
  ⟨0x6800, 1, 0x18, 0x18, .domain, .rw, true, true, false, (.bytes (List.replicate 640 0)), .size 640 640⟩,
  ⟨0x6800, 1, 0x19, 0x19, .u32, .ro, false, false, true, (.num 0), .any⟩,
  ⟨0x6800, 1, 0x1A, 0x1A, .u32, .ro, false, false, true, (.num 0), .any⟩]

/-- The rows of one page of 256 indices (R512). -/
def page (p : Nat) : List Obj :=
  match p with
  | 0x10 => page10
  | 0x18 => page18
  | 0x1A => page1A
  | 0x20 => page20
  | 0x21 => page21
  | 0x22 => page22
  | 0x23 => page23
  | 0x24 => page24
  | 0x25 => page25
  | 0x28 => page28
  | 0x29 => page29
  | 0x2A => page2A
  | 0x30 => page30
  | 0x31 => page31
  | 0x34 => page34
  | 0x35 => page35
  | 0x40 => page40
  | 0x41 => page41
  | 0x42 => page42
  | 0x43 => page43
  | 0x48 => page48
  | 0x49 => page49
  | 0x50 => page50
  | 0x51 => page51
  | 0x54 => page54
  | 0x58 => page58
  | 0x60 => page60
  | 0x64 => page64
  | 0x65 => page65
  | 0x66 => page66
  | 0x68 => page68
  | _ => []

/-- The pages of Table 15.2 that hold objects. -/
def pages : List Nat := [0x10, 0x18, 0x1A, 0x20, 0x21, 0x22, 0x23, 0x24, 0x25, 0x28, 0x29, 0x2A, 0x30, 0x31, 0x34, 0x35, 0x40, 0x41, 0x42, 0x43, 0x48, 0x49, 0x50, 0x51, 0x54, 0x58, 0x60, 0x64, 0x65, 0x66, 0x68]

/-- The row that defines an index and subindex, if one does (R507). -/
def findObj (idx sub : Nat) : Option Obj :=
  (page (idx / 256)).find? (fun o => o.base ≤ idx && idx < o.base + o.count && o.lo ≤ sub && sub ≤ o.hi)

/-- Whether an index is allocated (R507, Table 15.2). -/
def idxExists (idx : Nat) : Bool := (page (idx / 256)).any (fun o => o.base ≤ idx && idx < o.base + o.count)

/-- Every object of the dictionary, in ascending order of index (R512). -/
def objects : List Obj := pages.flatMap page

/-- Bytes of a type of fixed size (Table 15.1); none where the table gives limits. -/
def Ty.size : Ty → Option Nat
  | .bool | .i8 | .u8 => some 1
  | .i16 | .u16 => some 2
  | .i32 | .u32 => some 4
  | .u48 => some 6
  | .i64 | .u64 => some 8
  | .time96 => some 12
  | .uuid => some 16
  | .oct n => some n
  | .str | .domain => none

/-- Whether a type's value is a number here. TIME96 is held as seconds × 2^32 + nanoseconds (R164). -/
def Ty.isNum : Ty → Bool
  | .str | .domain | .uuid | .oct _ => false
  | _ => true

/-- Whether a type is two's complement. -/
def Ty.signed : Ty → Bool
  | .i8 | .i16 | .i32 | .i64 => true
  | _ => false

/-- A basic type of 8 to 64 bits, as R511 asks of a mapped object. -/
def Ty.mappable : Ty → Bool
  | .str | .domain | .uuid | .oct _ | .time96 => false
  | _ => true

/-- The largest value of a counter object of this type. -/
def Ty.maxNat (t : Ty) : Nat := 2 ^ (8 * t.size.getD 0) - 1

/-- The check of R17 that needs no state. -/
def Chk.ok : Chk → Val → Bool
  | .any, _ => true
  | .rng lo hi, .num n => decide (lo ≤ n) && decide (n ≤ hi)
  | .rngOr lo hi x, .num n => (decide (lo ≤ n) && decide (n ≤ hi)) || decide (n = x)
  | .oneOf l, .num n => l.contains n
  | .mask m, .num n => decide (0 ≤ n) && decide (Nat.land n.toNat m = n.toNat)
  | .size lo hi, .bytes b => decide (lo ≤ b.length) && decide (b.length ≤ hi)
  | .size4 lo hi, .bytes b => decide (lo ≤ b.length) && decide (b.length ≤ hi) && decide (b.length % 4 = 0)
  | _, _ => false

end Sys2Proof.Machine
end

