-- ==== Sys2Proof/Machine/Operands.lean ====
section
/-! DEFINITION. Operand forms: byte images of values (R509), unit addresses (Tables 2.2 and 2.5), TIME96 (R164) and
the placement of units. -/

namespace Sys2Proof.Machine

/-- `n` bytes of a number, least significant first (R509). -/
def leBytes : Nat → Nat → List Byte
  | 0, _ => []
  | n + 1, v => BitVec.ofNat 8 v :: leBytes n (v / 256)

/-- `n` bytes of a number, most significant first (R5). -/
def beBytes (n v : Nat) : List Byte := (leBytes n v).reverse

/-- The number little-endian bytes carry. -/
def leNat : List Byte → Nat
  | [] => 0
  | b :: bs => b.toNat + 256 * leNat bs

/-- The number big-endian bytes carry. -/
def beNat (bs : List Byte) : Nat := leNat bs.reverse

/-- An integer as an `n`-byte two's complement number. -/
def wrapInt (n : Nat) (v : Int) : Nat := (v % (2 ^ (8 * n) : Nat)).toNat

/-- An `n`-byte two's complement number as an integer. -/
def signExt (n : Nat) (v : Nat) : Int := if v < 2 ^ (8 * n - 1) then (v : Int) else (v : Int) - (2 ^ (8 * n) : Nat)

/-- The byte image of a value (R509). -/
def encodeVal (t : Ty) : Val → List Byte
  | .num v => leBytes (t.size.getD 0) (wrapInt (t.size.getD 0) v)
  | .bytes b => b

/-- A value from its byte image; none where the size is not the type's (R510) or a type's own form fails. -/
def decodeVal (t : Ty) (b : List Byte) : Option Val :=
  if t.isNum then
    if b.length = t.size.getD 0 then
      some (.num (if t.signed then signExt b.length (leNat b) else (leNat b : Int)))
    else none
  else some (.bytes b)

/-- The type's own legal values: BOOLEAN 0 or 1 (Table 15.1); TIME96 of R164; VISIBLE_STRING characters. -/
def Ty.valOk : Ty → Val → Bool
  | .bool, .num v => decide (0 ≤ v) && decide (v ≤ 1)
  | .time96, .num v => decide (v.toNat % 2 ^ 32 < 1000000000)
  | .str, .bytes b => b.all (fun c => decide (0x20 ≤ c.toNat) && decide (c.toNat ≤ 0x7E))
  | _, _ => true

/-- R510: whether the number of bytes fits the type and, for strings and DOMAINs, the object's limits. -/
def sizeOk (o : Obj) (n : Nat) : Bool :=
  match o.ty.size with
  | some k => decide (n = k)
  | none => match o.chk with
    | .size lo hi => decide (lo ≤ n) && decide (n ≤ hi)
    | .size4 lo hi => decide (lo ≤ n) && decide (n ≤ hi)
    | _ => match o.ty with
      | .str => decide (1 ≤ n) && decide (n ≤ 255)
      | _ => decide (n ≤ 4194304)

/-- The key of a dictionary value in the state's tables. -/
def key (idx sub : Nat) : Nat := idx * 256 + sub

/-- TIME96 of seconds and nanoseconds, as the number the dictionary holds. -/
def time96 (sec ns : Nat) : Nat := sec * 2 ^ 32 + ns

/-- The nanoseconds since the PTP epoch that a TIME96 names. -/
def time96Ns (v : Nat) : Nat := v / 2 ^ 32 * 1000000000 + v % 2 ^ 32

/-- A unit, cluster, region, die or package address (Table 2.5). -/
structure Addr where
  unit : Nat
  cluster : Nat
  region : Nat
  die : Nat
  pkg : Nat
  level : Nat
  deriving DecidableEq, Repr

/-- Table 2.5 from a 32-bit value. -/
def Addr.ofNat (v : Nat) : Addr := ⟨bits v 1 0, bits v 6 2, bits v 9 8, bits v 10 10, bits v 15 12, bits v 18 16⟩

/-- The 32-bit value of an address (Table 2.5). -/
def Addr.toNat (a : Addr) : Nat :=
  a.unit + 4 * a.cluster + 256 * a.region + 1024 * a.die + 4096 * a.pkg + 65536 * a.level

/-- The number of units Table 2.2 places in a cluster. Regions: 0 M, 1 C, 2 I. -/
def clusterUnits (die region cluster : Nat) : Nat :=
  match region with
  | 0 => match cluster with
    | 0 => 1 | 1 => 4 | 2 => 3 | 3 => 2 | _ => 0
  | 1 => if cluster = 0 then 1 else if cluster ≤ 19 then 4 else if cluster = 20 then 3 else 0
  | 2 =>
    if cluster = 0 then 2 else if cluster = 1 then 4 else if cluster = 2 then 1
    else if cluster ≤ 12 then 4
    else if cluster = 13 then (if die = 0 then 4 else 0)
    else if cluster = 14 then 1
    else if cluster ≤ 21 then 4
    else if cluster = 22 then 1
    else if cluster ≤ 25 then 4 else 0
  | _ => 0

/-- Whether Table 2.2 defines the unit. -/
def unitDefined (die region cluster unit : Nat) : Bool := decide (unit < clusterUnits die region cluster)

/-- R100: whether a written value is a legal address. -/
def addrOk (v : Nat) : Bool :=
  let a := Addr.ofNat v
  decide (a.toNat = v) && decide (a.level ≤ 5) &&
  (match a.level with
   | 0 => unitDefined a.die a.region a.cluster a.unit
   | 1 => decide (a.unit = 0) && decide (0 < clusterUnits a.die a.region a.cluster)
   | 2 => decide (a.unit = 0) && decide (a.cluster = 0) && decide (a.region ≤ 2)
   | 3 => decide (a.unit = 0) && decide (a.cluster = 0) && decide (a.region = 0)
   | 4 => decide (a.unit = 0) && decide (a.cluster = 0) && decide (a.region = 0) && decide (a.die = 0)
   | _ => decide (v = 5 * 65536))

/-- A unit's key: its address without package and level. -/
def unitKey (die region cluster unit : Nat) : Nat := unit + 4 * cluster + 256 * region + 1024 * die

/-- Every unit of Table 2.2 in a cluster range of one region of one die, in ascending address order. -/
def unitsOfRegion (die region : Nat) : List Nat :=
  (List.range 32).flatMap (fun c => (List.range (clusterUnits die region c)).map (unitKey die region c))

/-- Every unit of a die in ascending address order. -/
def unitsOfDie (die : Nat) : List Nat :=
  unitsOfRegion die 0 ++ unitsOfRegion die 1 ++ unitsOfRegion die 2

/-- Every unit of the package. -/
def allUnits : List Nat := unitsOfDie 0 ++ unitsOfDie 1

/-- The die, region, cluster and unit fields of a unit key. -/
def keyDie (k : Nat) : Nat := bits k 10 10
def keyRegion (k : Nat) : Nat := bits k 9 8
def keyCluster (k : Nat) : Nat := bits k 6 2
def keyUnit (k : Nat) : Nat := bits k 1 0

/-- Decode core DC00 to DC13 (Table 2.2). -/
def coreKey (c : Nat) : Nat := unitKey (c / 7) 0 (1 + c % 7 / 4) (c % 7 % 4)

/-- The decode core at a unit key. -/
def keyCore (k : Nat) : Option Nat := (List.range 14).find? (fun c => coreKey c = k)

/-- Encode core EC0 to EC3. -/
def encKey (e : Nat) : Nat := unitKey (e / 2) 0 3 (e % 2)

/-- Compositor of output s. -/
def compKey (s : Nat) : Nat := unitKey (s / 12) 1 (1 + s % 12 / 4) (s % 4)

/-- Scaler pipe SP000 to SP127. -/
def pipeKey (x : Nat) : Nat := unitKey (x / 64) 1 (4 + x % 64 / 4) (x % 4)

/-- The scaler pipe at a unit key. -/
def keyPipe (k : Nat) : Option Nat := (List.range 128).find? (fun x => pipeKey x = k)

/-- Press engine and coder engines ZC0 to ZC3. -/
def pressKey (die : Nat) : Nat := unitKey die 1 20 0
def coderKey (z : Nat) : Nat := unitKey (z / 2) 1 20 (1 + z % 2)

/-- The processors: SYS, NET in I.0; MED in M.0; CMP in C.0; TCH in I.1. -/
def procKey (die : Nat) : Proc → Nat
  | .sys => unitKey die 2 0 0
  | .net => unitKey die 2 0 1
  | .med => unitKey die 0 0 0
  | .cmp => unitKey die 1 0 0
  | .tch => unitKey die 2 1 0

/-- Touch port p, event arbiter, LVS pair, CAN controller c. -/
def touchKey (p : Nat) : Nat := unitKey p 2 1 1
def arbiterKey (die : Nat) : Nat := unitKey die 2 1 3
def lvsKey (die : Nat) : Nat := unitKey die 2 2 0
def canKey (c : Nat) : Nat := unitKey c 2 14 0

/-- Check unit CU00 to CU47. -/
def checkKey (u : Nat) : Nat := unitKey (u / 24) 2 (3 + u % 24 / 4) (u % 4)

/-- Ethernet lane, Spaydun lane (port 0 A, 1 B), PCIe lane. -/
def ethKey (p : Nat) : Nat := unitKey (p / 8) 2 (9 + p % 8 / 4) (p % 4)
def spayKey (q l : Nat) : Nat := unitKey q 2 (11 + l / 4) (l % 4)
def pcieKey (l : Nat) : Nat := unitKey 0 2 13 l

/-- Scan-out unit and transmitter of output s; DRAM channel; time base; trigger and capture units. -/
def scanKey (s : Nat) : Nat := unitKey (s / 12) 2 (15 + s % 12 / 4) (s % 4)
def txKey (s : Nat) : Nat := unitKey (s / 12) 2 (18 + s % 12 / 4) (s % 4)
def dramKey (c : Nat) : Nat := unitKey (c / 4) 2 21 (c % 4)
def timeKey (die : Nat) : Nat := unitKey die 2 22 0
def trigKey (u : Nat) : Nat := unitKey (u / 8) 2 (23 + u % 8 / 4) (u % 4)
def capKey (c : Nat) : Nat := unitKey (c / 4) 2 25 (c % 4)

end Sys2Proof.Machine
end

