-- ==== Sys2Proof/Machine/State.lean ====
section
/-! DEFINITION. The state of the block: everything the manual gives the machine, as plain data, and the state right
after reset. Dictionary values, counters and status codes live in `od` under the object's own index and subindex;
what the manual gives the machine beside its dictionary stands in the structures below. -/

namespace Sys2Proof.Machine

/-- A host ring descriptor (Table 14.6) with the bytes of its buffer A. -/
structure Desc where
  addrA : Nat
  lenA : Nat
  stampReq : Bool
  rsvdA : Nat
  addrB : Nat
  lenB : Nat
  rsvdB : Nat
  data : List Byte
  deriving DecidableEq, Repr

/-- The header of a received Spaydun frame (Table 13.3) with what Table 13.4 checks; the payload after it. -/
structure SpFrame where
  framingOk : Bool
  crcOk : Bool
  ftype : Nat
  src : Nat
  dst : Nat
  flags : Nat
  hops : Nat
  epoch : Nat
  gen : Nat
  seq : Nat
  ack : Nat
  payload : List Byte
  rxNs : Nat
  deriving DecidableEq, Repr

/-- A raised event (R537, Table 16.1) before the arbiter numbers it: type, severity, source address (Table 2.5),
time raised (R541) and payload fields as (width in bits, value), in order (R542); `emcy` is the EMCY error
code it carries when it begins a condition of Table 15.8 (0: none). -/
structure Ev where
  ty : Nat
  sev : Nat
  src : Nat
  sec : Nat
  ns : Nat
  pay : List (Nat × Nat)
  emcy : Nat := 0
  deriving DecidableEq, Repr

/-- A record of the log: its 48-bit position, epoch × 2^32 + sequence (R538), and its event. -/
structure LogRec where
  pos : Nat
  ev : Ev
  deriving DecidableEq, Repr

/-- The event arbiter and log (R537 to R544). `queues` holds the events each source has waiting (oldest first), keyed
by source unit; `lost` the events a source dropped since its last record of type events dropped. `records` is newest
first, at most 16,384. `next` is the next position. -/
structure LogS where
  queues : Tab (List Ev) := []
  lost : Tab Nat := []
  records : List LogRec := []
  next : Nat := 0
  deriving DecidableEq, Repr

/-- One-time programmable values (R535, Table 15.3, R591): variant code, serial number, UUID, base MAC address, the
silicon revision string, the four key slots' public-key digests and their revoked bits. -/
structure Otp where
  variant : Nat := 0
  serial : Nat := 0
  uuid : List Byte := []
  mac : Nat := 0
  revision : List Byte := []
  keys : List (List Byte) := []
  revoked : Nat := 0
  deriving DecidableEq, Repr

/-- The time bases and the servo (R159 to R170). `sec`, `ns` and `frac` are E's, `wSec`, `wNs` and `wFrac` W's; `offsets` the
last 16 accepted offsets, newest first; `run` the consecutive valid updates without a step in ACQUIRING; `outRun` the
consecutive outliers; `lastValid` the tick of the last valid update; `learnt` the increment that allows for the resonator's
frequency error as learnt, and `slewEnd` the tick at which a slew ends and the increment returns to it (R161); `freeDue` a
write of the source waits for the NET that runs the servo (R637); `hostUnc` the uncertainty of the last host update; `u` is
U (none: unknown), `dieExtra` the term of R95. -/
structure TimeS where
  sec : Nat := 0
  ns : Nat := 0
  frac : Nat := 0
  wSec : Nat := 0
  wNs : Nat := 0
  wFrac : Nat := 0
  learnt : Nat := 0x0280000000
  slewEnd : Option Nat := none
  freeDue : Bool := false
  offsets : List Int := []
  run : Nat := 0
  outRun : Nat := 0
  lastValid : Nat := 0
  u : Option Nat := none
  hostUnc : Nat := 0
  senderU : Nat := 0
  dieExtra : Nat := 0
  deriving DecidableEq, Repr

/-- A PTP port's protocol state (R172 to R175): the announced master it follows, the Sync waiting for its Follow_Up,
the delay request in flight with its times, the mean path delay, and the tick of the last Announce. -/
structure PtpS where
  best : Option PtpMsg := none
  lastAnnounce : Nat := 0
  syncSeq : Nat := 0
  syncRx : Option Nat := none
  syncCorr : Int := 0
  twoStep : Bool := false
  syncDelta : Option Int := none
  reqSeq : Nat := 0
  reqTx : Option Nat := none
  turn : Option Int := none
  respRx : Nat := 0
  pathDelay : Option Int := none
  deriving DecidableEq, Repr

/-- A trigger unit beside its objects (R179 to R182): armed, spent, waiting for the servo's first lock after reset,
the next fire time in ns since the PTP epoch, whether its pin is active, which one, its level when inactive, and the tick its
pulse ends. -/
structure TrigS where
  armed : Bool := false
  spent : Bool := false
  waitLock : Bool := false
  nextNs : Nat := 0
  late : Bool := false
  pinActive : Bool := false
  pin : Nat := 0xFF
  idle : Bool := false
  until' : Nat := 0
  deriving DecidableEq, Repr

/-- A capture record (Table 4.3). -/
structure CapRec where
  time : Nat
  seq : Nat
  gen : Nat
  edge : Bool
  deriving DecidableEq, Repr

/-- A capture unit beside its objects (R184, R185): its records, oldest first, the tick of its last stamped edge, and
whether it has discarded since it was last not full. -/
structure CapS where
  recs : List CapRec := []
  lastAt : Option Nat := none
  full : Bool := false
  deriving DecidableEq, Repr

/-- A unit's row of the health table (R102 to R110): state code of Table 2.6, W16 epoch, advances since reset, S16
faults, the prior state a SUSPECT unit remembers, the tick its suspect window ends, its partner's address, the ticks of
its corrected SRAM errors in the last second, and whether its power gate is open. -/
structure UnitS where
  st : Nat := 0
  epoch : Nat := 0
  adv : Nat := 0
  faults : Nat := 0
  prior : Nat := 0
  window : Option Nat := none
  partner : Option Nat := none
  sram : List Nat := []
  gate : Bool := false
  deriving DecidableEq, Repr

/-- The die-to-die link and the dies (R81 to R84, R113): failures of transfers under way, ticks of soft faults in the
last second, the ticks of the last heartbeats from E and W, the lost die, and whether the survivor is reloading. -/
structure LinkS where
  fails : Tab Nat := []
  soft : List Nat := []
  hbE : Nat := 0
  hbW : Nat := 0
  lost : Bool := false
  lostDie : Option Die := none
  reloading : Bool := false
  deriving DecidableEq, Repr

/-- A processor's restarts (R88, R89): the ticks of its restarts in the last 10 min, whether it is restarting, and for SYS
whether the dictionary waits for it: it was primary when it restarted. -/
structure ProcS where
  restarts : List Nat := []
  restarting : Bool := false
  failover : Bool := false
  deriving DecidableEq, Repr

/-- Where the package is in its power states (R614 to R622). -/
inductive Phase where
  | off | held | booting | running | quiet
  deriving DecidableEq, Repr

/-- Supply, reset and thermal conditions (R614 to R622, R634). `resetN` RESET_N low; `trip` a thermal trip holds;
`cold` below the lower junction limit; `scan` a boundary-scan instruction holds; `fail` power fail with hold-up
running; `rail` an internal rail or the resonator has failed; `noSlot` the ROM found no bootable slot; `range` VIN is
out of the operating range; `instr` the TAP instruction, IDCODE (2) once the port has power; `wake` a wake stroke asks to leave quiet mode (R425); `quietWait` a quiet pin held low waits for the update state; `tripNote` a thermal trip awaits its event, `tripFull` its count reached the maximum. -/
structure PowerS where
  phase : Phase := .booting
  vinGood : Bool := true
  fail : Bool := false
  resetN : Bool := false
  trip : Bool := false
  cold : Bool := false
  scan : Bool := false
  rail : Bool := false
  noSlot : Bool := false
  range : Bool := false
  instr : Nat := 2
  quietWait : Bool := false
  overE : Bool := false
  overW : Bool := false
  tripNote : Bool := false
  tripFull : Bool := false
  wake : Bool := false
  deriving DecidableEq, Repr

/-- A check unit (R545 to R550): its objects 0x2300:03 to :0F, the held flag of bit 63 in alive mode, its repeat run
and the tick of its last alert. -/
structure CheckS where
  mode : Nat := 0
  alg : Nat := 0
  point : Nat := 0
  param : Nat := 0
  window : Nat := 0
  run : Nat := 0xFFFFFFFF
  last : Nat := 0
  expected : Nat := 0xFFFFFFFFFFFFFFFF
  items : Nat := 0
  mism : Nat := 0
  repeats : Nat := 0
  replays : Nat := 0
  limit : Nat := 3
  repRun : Nat := 0
  alertAt : Option Nat := none
  deriving DecidableEq, Repr

/-- The tally port (R551 to R557): whether LVS has filled the shadow since reset, the pattern word's phase, the W15
heartbeat and the tick they were last updated, the change latch, and per fast-read object its W8 refresh count, refreshed words 0 to 5
and snapshot. -/
structure TallyS where
  filled : Bool := false
  pattern : Bool := false
  heart : Nat := 0
  checkAt : Option Nat := none
  change : Bool := false
  words : Tab (List Nat) := []
  counts : Tab Nat := []
  snaps : Tab (List Nat) := []
  deriving DecidableEq, Repr

/-- An EMCY condition of Table 15.8, with the unit, die or port it concerns. -/
inductive EmcyCond where
  | unitLost (key : Nat)
  | lvs (die : Nat)
  | memory
  | tooHot
  | passive (c : Nat)
  | busOff (c : Nat)
  | storeLost
  deriving DecidableEq, Repr

/-- A CAN port beside its objects (R519 to R523): EMCYs waiting as (error code, sequence), the tick of the last sent, that of the last heartbeat,
a segmented transfer in progress (index, subindex, bytes, writing, tick of its last segment), and the
node-ID and bit rates in force. -/
structure CanS where
  emcy : List (Nat × Nat) := []
  lastEmcy : Option Nat := none
  beatAt : Option Nat := none
  seg : Option (Nat × Nat × List Byte × Bool × Nat) := none
  node : Nat := 16
  nominal : Nat := 2
  data : Nat := 1
  deriving DecidableEq, Repr

/-- A TPDO's transmission state (R521), per TPDO: the SYNCs counted, the values last sent, the tick last sent, and the
tick the event timer last started. -/
structure TpdoS where
  syncs : Nat := 0
  sent : List Byte := []
  lastSent : Option Nat := none
  timer : Nat := 0
  deriving DecidableEq, Repr

/-- An open ZDP session (R524 to R528): key slot, session key, source, Ethernet port, last sequence accepted, the held
response, and the tick of the last valid REQUEST. -/
structure ZdpS where
  slot : Nat
  key : List Byte
  v6 : Bool
  addr : List Byte
  srcPort : Nat
  port : Nat
  seq : Nat
  held : List Byte
  last : Nat
  deriving DecidableEq, Repr

/-- A part read's snapshot or a part write in progress (R517). -/
structure PartS where
  idx : Nat
  sub : Nat
  data : List Byte
  last : Nat
  deriving DecidableEq, Repr

/-- A PTP message sent (R172 to R174): its type, the port's transport, domain, sequence id, time carried (the transmit or receive
stamp of its type), correctionField in ns, log interval, whether a Follow_Up follows, of an Announce the grandmaster's data
(priority1, class, accuracy, variance, priority2, identity, steps removed) and UTC offset, and the UDP checksum: 0 there is none
to touch, 1 updated, 2 cleared (one-step, IPv6 and IPv4). -/
structure PtpOut where
  kind : Nat
  transport : Nat
  domain : Nat
  seq : Nat
  time : Nat
  correction : Int := 0
  logInterval : Int := 0
  twoStep : Bool := false
  gm : List Nat := []
  utc : Int := 0
  sum : Nat := 0
  deriving DecidableEq, Repr

/-- What leaves the package: the model's own record of outputs, newest first in `State.out`. -/
inductive Out where
  /-- A response to a dictionary request: status of Table 15.4 and the value bytes. -/
  | resp (r : Req) (idx sub status : Nat) (value : List Byte)
  /-- A response to a part request: with offset and total length. -/
  | part (r : Req) (idx sub status offset total : Nat) (value : List Byte)
  /-- A die's heartbeat across the link (R82). -/
  | heartbeat (d : Die)
  /-- A PTP message of a port (R172, R173). -/
  | ptp (port : Nat) (m : PtpOut)
  /-- A GPIO edge: the pin and its level (R181). -/
  | pin (p : Nat) (level : Bool)
  /-- A power-good or alert line change. -/
  | line (name : Nat) (level : Bool)
  /-- A multicast join or leave report (R123): port, whether MLD, the protocol's version, the group, and the filter state: INCLUDE
or EXCLUDE with its sources. -/
  | join (port : Nat) (v6 : Bool) (version : Nat) (group : List Byte) (incl : Bool) (sources : List (List Byte))
  | leave (port : Nat) (v6 : Bool) (version : Nat) (group : List Byte)
  /-- Answers of NET on a port: ARP, echo, neighbour advertisement (R121). -/
  | arp (port : Nat) (target : Nat) (dst : List Byte)
  | echo (port : Nat) (v6 : Bool) (data : List Byte)
  | neighbour (port : Nat) (target : List Byte)
  /-- A duplicate address detection probe for an address, and clause 37's advertised abilities of a port: full duplex, pause, PS1
  and PS2 (R119, R121). -/
  | dadProbe (port : Nat) (target : List Byte)
  | advertise (port : Nat) (fullDuplex pause ps1 ps2 : Bool)
  /-- RTCP of a session: a receiver report (fraction lost, lost, highest, jitter, last SR, delay) or a BYE. -/
  | rtcpRr (n : Nat) (ssrc : Nat) (fields : List Nat)
  | rtcpBye (n : Nat) (ssrc : Nat)
  /-- A ZTT STATUS of a session over UDP (R384, Table 10.3), to the source of the message it answers. -/
  | zttStatus (n : Nat) (via : ZttVia) (bytes : List Byte)
  /-- Bytes a coder context released: compressed (R391) or decompressed (R392). -/
  | coded (c : Nat) (bytes : List Byte)
  | decoded (c : Nat) (bytes : List Byte)
  /-- PCIe: data written to a buffer of a ring, a write-back entry, an MSI-X message (R494, R495, R505). -/
  | dma (q desc : Nat) (bytes : List Byte)
  | writeBack (q : Nat) (bytes : List Byte)
  | msix (vector : Nat)
  /-- A Spaydun frame leaving a port, as columns of symbols (R466, R467), and a lint set (R457). -/
  | frame (q : Nat) (cols : List (List Sym))
  | lint (q : Nat)
  /-- Training sets on the locked lanes of a Spaydun port, which it repeats while it trains (R474). -/
  | training (q : Nat) (lanes : List (Nat × List Sym))
  /-- A DRAM refresh with the burst remainders served first after it (R437). -/
  | refresh (bursts : List (Nat × Nat))
  | resumed (bursts : List (Nat × Nat))
  /-- A raw frame of the host on a port (R500). -/
  | ethernet (port : Nat) (bytes : List Byte)
  /-- CAN frames of a port: COB-ID and data. -/
  | can (c cob : Nat) (data : List Byte)
  /-- A ZDP frame to the source of the frame it answers. -/
  | zdp (port : Nat) (v6 : Bool) (addr : List Byte) (dst : Nat) (bytes : List Byte)
  /-- A mirror packet of a context (sequence, timestamp, marker, the care label and the VUI where it carries them), its RTCP sender report
  and BYE (R358, R359); an ARP request or neighbour solicitation on a port (R361). -/
  | mirror (e seq ts : Nat) (marker : Bool) (label : List Byte) (vui : List Nat)
  | mirrorSr (e ssrc ntpSec ntpFrac ts packets : Nat)
  | mirrorBye (e ssrc : Nat)
  | resolve (port : Nat) (v6 : Bool) (addr : List Byte)
  /-- A DPCD write of a screen's sink over AUX: address and bytes (R306, R326, R333). -/
  | aux (x addr : Nat) (bytes : List Byte)
  /-- A link tried in training: rate code, lanes and the training pattern of its equalisation (Table 8.7). -/
  | dpTrain (x rate lanes pattern : Nat)
  /-- The settings a lane of an output is driven with: an entry of its drive map (R326, R456). -/
  | dpDrive (output lane entry : Nat)
  /-- The 26 data bytes of a Dynamic Range and Mastering InfoFrame (R334). -/
  | infoFrame (x : Nat) (bytes : List Byte)
  /-- A tally read's data. -/
  | tally (addr word : Nat)
  deriving DecidableEq, Repr

/-- What a session or layer holds of one complete picture or surface version (R211 to R217, R30): the buffer it stands in,
as its own number within the session; its place in output order; its size (conformance window) with the window's offsets; its
coded size; the VUI's matrix, transfer and primaries codes and full range (R254); its tainted source tiles on the grid of R96;
its capture time in ns (none: unknown), alive counter, label grade (R24: 0 unverifiable, 1 derived, 2 labelled), whether it is
exact, whether its own CRC comparison failed, whether it is a graphics surface and which buffer of it; the 32-bit words of the
picture and of its reduced copy in P10 packing (Table 5.3), and the bits of its native samples (R137). -/
structure PicS where
  num : Nat := 0
  poc : Nat := 0
  w : Nat := 0
  h : Nat := 0
  confX : Nat := 0
  confY : Nat := 0
  codedW : Nat := 0
  codedH : Nat := 0
  matrix : Nat := 2
  transfer : Nat := 2
  primaries : Nat := 2
  fullRange : Bool := false
  taint : List Nat := []
  cap : Option Nat := none
  alive : Nat := 0
  grade : Nat := 0
  exact : Bool := true
  crcBad : Bool := false
  graphics : Bool := false
  surface : Nat := 0
  words : List Nat := []
  copy : List Nat := []
  depth : Nat := 10
  deriving DecidableEq, Repr

/-- A care label as parsed (Table 3.6). -/
structure Label where
  flags : Nat
  ident : Nat
  alive : Nat
  cap : Nat
  crc : Nat
  rows : List Byte
  deriving DecidableEq, Repr

/-- How the continuity check judged an access unit's alive value (R35). -/
inductive Judge where
  | fresh | again | replay
  deriving DecidableEq, Repr

/-- A coded picture waiting for or in decode (R196 to R207, R229): the parameter sets active for it, its slice segments in order of arrival with
whether the sets they name were held, parameter sets before it that could not be parsed; whether it is an IRAP picture, and one that begins a
sequence; the tick its first segment started; segments lost with their cores; the core each share is on; whether it
waited for a buffer (R210). -/
structure CodedS where
  sps : Option ParamSet := none
  pps : Option PicSet := none
  slices : List (Slice × Bool) := []
  badSets : Nat := 0
  irap : Bool := false
  newSeq : Bool := false
  start : Option Nat := none
  lost : List Nat := []
  binds : Tab Nat := []
  waited : Bool := false
  deriving DecidableEq, Repr

/-- An access unit released to decode with its label's outcome (R28, R127): grade, alive value, capture time, how
continuity judged it, HEARTBEAT, the CRC to compare, marked tile rows, the tick it became available, and its picture. -/
structure AuInfo where
  ts : Nat
  grade : Nat
  alive : Nat
  cap : Option Nat
  judge : Judge
  heartbeat : Bool
  crc : Option Nat
  rows : List Nat
  avail : Nat
  coded : CodedS := {}
  deriving DecidableEq, Repr

/-- An access unit being received (R127): its timestamp, the packets held as (extended sequence, body) in arrival
order, whether it has ended, whether its marker came, whether its reorder window has run out, and the MAC stamp of its
last packet. -/
structure AuS where
  ts : Nat
  pkts : List (Nat × RtpBody)
  ended : Bool
  marked : Bool
  expired : Bool
  lastMac : Nat
  deriving DecidableEq, Repr

/-- A session beside its objects (chapter 3). `ext` is the extended highest sequence number, `seen` the sequence
numbers received from it back to 100 behind, `restart` the number that follows a discarded far packet; `doneSeq` the
last sequence number of the last access unit released and `doneTs` its timestamp; `aus` the access units in reception
by rising timestamp; `queue` those waiting for decode; `sr` the latest valid SR as (NTP time in ns, RTP timestamp, MAC
tick); `alive` the continuity reference; `synth` the synthesised counter and its timestamp (R26); the label conditions
of reasons 7 to 10; `replayFrom` the tick a replay run began; `disp` the displayed picture; `refs` the reference
pictures in decode order; `last` the tick of the last accepted packet, `since` the tick of entry to the state;
`clean` a clean picture held; `dropNote` and `shortNote` events raised since entry to ACQUIRING; `errAt` the tick of
the last bitstream error event; `jitter` in 1/16 units; `share` the latest picture's effective sharing (R205); `sps` and `pps` the parameter sets held, `badSets` those that could not be
parsed since the last picture; `ident` the last label's identity; `rrAt` the tick of the last RR; `was` the state before
STARVED where no packet came in time; `active` the last active sequence parameter set; `startSeq` the next
picture begins a coded video sequence, and `skipRasl` its RASL pictures are discarded (R229); `waiting` the pictures not
yet output, in decode order, with the pictures each has waited (R211); `nextPic` the next buffer number. -/
structure SessS where
  ssrc : Option Nat := none
  ext : Option Nat := none
  base : Nat := 0
  seen : List Nat := []
  restart : Option Nat := none
  doneSeq : Option Nat := none
  doneTs : Option Nat := none
  aus : List AuS := []
  queue : List AuInfo := []
  sr : Option (Nat × Nat × Nat) := none
  mapOk : Bool := false
  alive : Option Nat := none
  gradeIn : Nat := 3
  synth : Nat := 0
  synthTs : Option Nat := none
  invalid : Bool := false
  future : Bool := false
  fault : Bool := false
  test : Bool := false
  replayFrom : Option Nat := none
  disp : Option PicS := none
  refs : List PicS := []
  last : Nat := 0
  since : Nat := 0
  joinAt : Nat := 0
  dropNote : Bool := false
  shortNote : Bool := false
  errAt : Option Nat := none
  jitter : Nat := 0
  transit : Option Nat := none
  share : Nat × Nat := (1, 1)
  sps : List ParamSet := []
  pps : List PicSet := []
  badSets : Nat := 0
  rrAt : Nat := 0
  startSeq : Bool := true
  active : Option ParamSet := none
  was : Nat := 0
  skipRasl : Bool := false
  waiting : List (PicS × AuInfo × Nat) := []
  nextPic : Nat := 0
  lastSr : Nat := 0
  expPrior : Nat := 0
  recvPrior : Nat := 0
  recv : Nat := 0
  ident : Nat := 0
  fenced : Bool := false
  deriving DecidableEq, Repr

/-- A port beside its objects (R117 to R123): the ticks its lanes come back, whether clause 37 has completed, the
IGMP and MLD versions of the oldest querier heard, and the tick it was last heard (R123). -/
structure PortS where
  lanes : Nat := 0
  negotiated : Bool := false
  compat4 : Nat := 3
  compat6 : Nat := 2
  old4 : Nat := 0
  old6 : Nat := 0
  deriving DecidableEq, Repr

/-- A multicast table entry (R123): one group on one port, with the sessions that use it. -/
structure McastS where
  port : Nat
  v6 : Bool
  group : List Byte
  users : List Nat
  deriving DecidableEq, Repr

/-- A decode core's work (R188, R196): the session whose segment it decodes, with its picture (RTP timestamp), the
segment's number, its share and the tick of dispatch; the segments decoded in the last second as (from, until). -/
structure CoreS where
  sess : Option Nat := none
  pic : Nat := 0
  seg : Nat := 0
  share : Nat := 0
  at' : Nat := 0
  runs : List (Nat × Nat) := []
  deriving DecidableEq, Repr

/-- A segment waiting for a core (R196): availability tick, session priority, session, picture, segment number, and the share
of the picture it is assigned to (R204). -/
structure SegWait where
  avail : Nat
  prio : Nat
  sess : Nat
  pic : Nat
  seg : Nat
  share : Nat
  deriving DecidableEq, Repr

/-- A ledger segment (Table 1.10), with what LVS keeps beside its 16 bytes: the budget latched for its frame (R67), of the
pressed plane each member's slot, capture time and budget (R289), and where the stitch plate stands (R70). -/
structure Segm where
  xs : Nat
  xe : Nat
  slot : Nat
  state : Nat
  stitch : Bool
  pressed : Bool
  taint : Bool
  stitchVal : Nat
  cap : Option Nat
  budget : Nat
  members : List (Nat × Option Nat × Nat)
  plate : Option (Int × Int) := none
  deriving DecidableEq, Repr

/-- A ledger entry (Table 1.9). -/
structure Ledger where
  frame : Nat := 0
  pressed : Bool := false
  strip : Nat := 0
  segs : List Segm := []
  deriving DecidableEq, Repr

/-- A layer slot beside its objects (chapters 1 and 6). The flags `first`, `cap`, `rback`, `stepped` are reasons 1, 12, 13
and 14; `gen` counts the settings of reason 1, and `drawing` says that the last latch found only it in the way; `run` the recovery run; `alive` the layer's
continuity reference and `reps` its repeat run; `sel` the picture selected at the last latch, `copy` the copy read and
`good` the last picture that passed R242 and R243; `tiles` the visible and `tainted` the tainted screen tiles of the
frame composed from the last latch; `late` an age found over budget by LVS since that latch; `hidden` the stitch is
hidden; `rbOk` the last comparison matched and `compared` one was made in the frame being scanned (R71, R313); `uLate` LVS found
U over the threshold since that latch (R68); `age` the age of the latest compose-time check in ns (R55, none: no capture
time held); `pipes` the pipe places held; `fence` the layer is fenced by epoch. -/
structure LayerS where
  first : Bool := false
  gen : Nat := 0
  cap : Bool := false
  rback : Bool := false
  stepped : Bool := false
  drawing : Bool := false
  run : Nat := 0
  alive : Option Nat := none
  reps : Nat := 0
  sel : Option PicS := none
  copy : Nat := 0
  good : Option PicS := none
  tiles : List Nat := []
  tainted : List Nat := []
  late : Bool := false
  hidden : Bool := false
  rbOk : Bool := false
  compared : Bool := false
  uLate : Bool := false
  age : Option Nat := none
  pipes : List Nat := []
  fence : Bool := false
  deriving DecidableEq, Repr

/-- A tone map as a latch finds it (R255 to R259): the EOTF code, SDR white, HLG peak, the custom table's bytes, the matrix
row by row in 1/65,536, the curve's bytes (empty: identity). -/
structure ToneS where
  eotf : Nat := 0
  white : Nat := 100
  peak : Nat := 1000
  custom : List Byte := []
  matrix : List Int := []
  curve : List Byte := []
  deriving DecidableEq, Repr

/-- How a layer's pixels are read and converted in the frame composed from a latch (R232 to R237, R254 to R258): the session, the picture
selected, the copy read with its crop (start and size by axis), the whole destination, the matrix code (0 BT.709, 1 BT.601, 2
BT.2020) and full range, and the tone map. -/
structure PathS where
  sess : Nat := 0xFF
  pic : Option PicS := none
  copy : Nat := 0
  cx : Nat := 0
  cw : Nat := 0
  cy : Nat := 0
  ch : Nat := 0
  dx : Int := 0
  dy : Int := 0
  dw : Nat := 1
  dh : Nat := 1
  matrix : Nat := 0
  full : Bool := false
  tone : ToneS := {}
  deriving DecidableEq, Repr

/-- What a latch fixes of one layer for the frame composed from it (R46, R272): its slot and z-order, its on-screen
destination (x and y, the ends exclusive), its state, the treatment code drawn (0 none), alpha mode and global alpha,
the stitch plate's corner and value where one is drawn, the capture time and budget, the age readout in tenths of a
second (none: unknown), the tainted screen tiles, whether the layer is in the pressed run, the session and buffer of
the surface read, and, where the latch found every condition but the drawn one and the recovery rule true, the first
use (`LayerS.gen`) that the end of this composition clears (R43), and how its pixels are read. -/
structure PlanL where
  slot : Nat
  z : Nat
  x0 : Nat
  x1 : Nat
  y0 : Nat
  y1 : Nat
  state : Nat
  treat : Nat
  mode : Nat
  alpha : Nat
  stitch : Option (Int × Int × Nat)
  cap : Option Nat
  budget : Nat
  age : Option Nat
  tainted : List Nat
  pressed : Bool
  buf : Option (Nat × Nat)
  draws : Option Nat := none
  path : PathS := {}
  deriving DecidableEq, Repr

/-- What a latch fixes for one frame of a screen: its number, its layers from the lowest z-order, the background,
crease, card and blank colours, the output transfer and primaries (R264, R334), and the screen white. -/
structure Plan where
  frame : Nat
  layers : List PlanL
  back : Nat
  crease : Nat
  card : Nat
  blank : Nat
  sig : Nat × Nat := (0, 0)
  white : Nat := 100
  deriving DecidableEq, Repr

/-- A pending commit (R267 to R276): its request, the staged values it took, when it became due (ns), its flags, the
screens still to land, and those that have taken it at a sample point. -/
structure CommitS where
  id : Nat
  tag : Nat
  timing : Nat
  trig : Nat
  wall : Nat
  mask : Nat
  time : Nat
  vals : List (Nat × Val)
  due : Option Nat
  late : Bool
  unlocked : Bool
  left : Nat
  taken : Nat
  defer : Nat
  landed : Bool
  deriving DecidableEq, Repr

/-- A commit receipt (Table 7.4). -/
structure Receipt where
  id : Nat
  tag : Nat
  kind : Nat
  screen : Nat := 0xFF
  reason : Nat := 0
  check : Nat := 0
  slot : Nat := 0xFFFF
  deferred : Bool := false
  unlocked : Bool := false
  late : Bool := false
  frame : Nat := 0
  time : Nat := 0
  deriving DecidableEq, Repr

/-- A screen beside its objects (chapters 7 and 8). `run` says that the timing generator runs, `start` is the frame
start and `prev` the one before, in ns; `latched` the latch of this frame has passed; `plan` the frame being composed and
`next` one latched while another was still composed (R307); `composing` the strip under way; `written` and `dropped` the
strips of `plan`; `done` the number and the
strips written of the last frame whose composition has ended; `scanWritten` the strips of the frame being scanned written
for it; `fresh` those written since the
last timing apply; `blanked` the active area has been scanned; `under` the frame last scanned had an
underrun; `repeats` the output repeat run and `band` the crease
band, `bandNew` one that began with the frame being scanned (R73); `service` the service pattern; `align` a held frame-start request; `applying` an apply before step 3 of Table 8.6;
`hpd` and `sink` the sink, `fixed` that Vmax is Vmin under R306; `tries` the links tried in the last training, whose last
requests keep their settings (R327), and `from'` the link a retrain starts from (R330); `sending` that the stream of this frame
reaches the connector (R331); `sig` the output transfer and primaries of the frame scanned, `sigNext` those of the next (R334); `crease` the
columns creased by scan-out in this frame as (strip, first, last), `uFault` a U fault found in this frame; `implicit` the
implicit commit has landed; `ledger` by strip; `snoop` the entry and bytes of the strips with a
stitch that the scan of this frame has read and the next composition has replaced (R70); `buffer` the frame buffer's bytes. `planeCur` is the current pressed plane
(0 none, 1 A, 2 B) and `planeKey` what it holds; `pressing` the tick of the re-press under way for `pressKey`, whose
plane is complete when `planeDone` is set; `pressMs` the members whose surfaces the press reads. -/
structure ScreenS where
  run : Bool := true
  start : Nat := 0
  prev : Nat := 0
  latched : Bool := false
  plan : Option Plan := none
  next : Option Plan := none
  composing : Option Nat := none
  written : List Nat := []
  dropped : List Nat := []
  done : Option (Nat × List Nat) := none
  scanWritten : List Nat := []
  fresh : List Nat := []
  blanked : Bool := false
  under : Bool := false
  repeats : Nat := 0
  band : Bool := false
  bandNew : Bool := false
  service : Bool := true
  align : Bool := false
  applying : Bool := false
  hpd : Bool := false
  sink : Option Sink := none
  fixed : Bool := false
  tries : List LinkTry := []
  from' : Option (Nat × Nat) := none
  sending : Bool := false
  sig : Nat × Nat := (0, 0)
  sigNext : Option (Nat × Nat) := none
  crease : List (Nat × Nat × Nat) := []
  uFault : Bool := false
  implicit : Bool := false
  ledger : Tab Ledger := []
  snoop : Tab (Ledger × List Byte) := []
  buffer : List Host.Cell := []
  planeCur : Nat := 0
  planeKey : List (Nat × Val) := []
  pressing : Option Nat := none
  planeDone : Bool := false
  pressKey : List (Nat × Val) := []
  pressMs : List (Nat × Nat) := []
  deriving DecidableEq, Repr

/-- A ZTT message's header (Table 10.1), its care label's fields among them. -/
structure ZttHdr where
  magic : Nat
  version : Nat
  typ : Nat
  flags : Nat
  buf : Nat
  fmt : Nat
  cls : Nat
  sess : Nat
  rsv : Nat
  seq : Nat
  x : Nat
  y : Nat
  w : Nat
  h : Nat
  len : Nat
  rsv2 : Nat
  ident : Nat
  alive : Nat
  cap : Nat
  capNs : Nat
  crc : Nat
  lflags : Nat
  rsv3 : Nat
  deriving DecidableEq, Repr

/-- A ZTT message waiting for an engine, or on one (R386): where it came from, the index of its descriptor on a ring, its
header, payload and arrival tick; `gap` that it came after a gap, `defer` that the gap's effects (R383) are still to be
taken, behind an earlier message. -/
structure ZttWait where
  sess : Nat
  via : ZttVia
  desc : Nat
  hdr : ZttHdr
  payload : List Byte
  arrived : Nat
  gap : Bool
  defer : Bool
  deriving DecidableEq, Repr

/-- A queued write to a leased buffer (R292, R293): the message and its decompressed pixels. -/
structure QWrite where
  msg : ZttWait
  pixels : List Byte
  deriving DecidableEq, Repr

/-- A buffer of a surface (R365, R366): its format, whether it is complete, its version, taint, bytes, whether a gap taints
it at its next write (R383), its lease (R291), whether the version's PRESENT was a replay (R28), and the version as a
picture. -/
structure BufS where
  fmt : Option Nat := none
  complete : Bool := false
  version : Nat := 0
  taint : List Nat := []
  data : List Host.Cell := []
  gap : Bool := false
  leased : Bool := false
  replay : Bool := false
  pic : Option PicS := none
  deriving DecidableEq, Repr

/-- A coder context (R375 to R392): learnt entries from 258 as (prefix code, last byte), the previous code of the run,
whether it awaits reset; the bits of the last partial byte (of a compressor) or partial code (of a decompressor); the
compressor's codes waiting for output space and the bytes free; the decompressor's input not yet read, and the rest of
the current string with the bytes of it already output. -/
structure CtxS where
  learnt : List (Nat × Byte) := []
  prev : Option Nat := none
  await : Bool := false
  resid : List Bool := []
  pend : List (List Bool) := []
  space : Nat := 0
  input : List Byte := []
  held : List Byte := []
  off : Nat := 0
  deriving DecidableEq, Repr

/-- A ZTT session's surface (R365, R366, R381): its buffers, the next version number, the expected sequence (none before
the first message), the newest complete buffer. -/
structure GfxS where
  bufs : Tab BufS := []
  nextVer : Nat := 1
  expected : Option Nat := none
  newest : Option Nat := none
  deriving DecidableEq, Repr

/-- A write-back (Table 14.8) before its phase bit. -/
structure WriteBack where
  desc : Nat
  status : Nat
  final : Bool
  timeValid : Bool
  flag : Bool
  fieldA : Nat
  length : Nat
  time : Nat
  fieldB : Nat
  deriving DecidableEq, Repr

/-- A host ring (Table 14.5): bits [255:0] of its block as written (`cfg`, the host index among them), the fetch,
write-back and consumer indices, state and stop cause; descriptors fetched without a final write-back (`open'`), those
offered as buffers with their content (`bufs`), write-backs waiting for space; for kind 5 the records put in the buffer
under way, with the tick of the first and the next record's position; the tick the vector was last sent, and whether a
moderated one waits. -/
structure RingS where
  cfg : Nat := 0
  fetch : Nat := 0
  wb : Nat := 0
  cons : Nat := 0
  state : Nat := 0
  cause : Nat := 0
  open' : List Nat := []
  bufs : List (Nat × Desc) := []
  waits : List WriteBack := []
  recs : List LogRec := []
  recAt : Nat := 0
  nextRec : Nat := 0
  gap : Bool := false
  lastInt : Option Nat := none
  intWait : Bool := false
  deriving DecidableEq, Repr

/-- The MSI-X table at reset: 64 entries of 16 bytes, zero but for the mask bit of each vector control (R482, the PCI Express
Base Specification). -/
def msixReset : List Host.Cell := (List.range 64).map (fun v => (16 * v + 12, 1))

/-- The PCIe function (R483 to R488): whether it answers configuration requests, the link, function events [66:64], event
vector and enable, the MSI-X table's bytes and pending bits, and the clocking mode in effect. -/
structure PcieS where
  answers : Bool := false
  reset : Bool := true
  ready : Bool := false
  events : Nat := 0
  vector : Nat := 0
  enable : Bool := false
  msix : List Host.Cell := msixReset
  pending : Nat := 0
  mode : Nat := 0
  deriving DecidableEq, Repr

/-- A coded picture under way of a context (R346, R347): its screen's frame number, its frame start, what the label of a
layer source takes from the layer (fault, capture, alive), and for a screen source the strips whose entries have been
counted, the oldest capture time among them and whether stage 4 or 5 altered the screen; `test` the service pattern; `pix` the window's
pixels taken so far, by line of the window (R341, R342), each as red + 1,024 × green + 1,048,576 × blue of 10 bits. -/
structure CodeS where
  frame : Nat
  start : Nat
  layer : Option (Bool × Option Nat × Nat) := none
  strips : List Nat := []
  cap : Option Nat := none
  fault : Bool := false
  test : Bool := false
  fresh : Option Bool := none
  pix : Tab (List Nat) := []
  deriving DecidableEq, Repr

/-- An access unit of a mirror waiting to leave (R360): its timestamp, label, the VUI of the parameter sets it carries (colour primaries,
transfer, matrix and chroma location; empty: it carries none) and the packets not yet sent. -/
structure EncAu where
  ts : Nat
  label : List Byte
  vui : List Nat
  first : Bool
  left : Nat
  deriving DecidableEq, Repr

/-- An encode context beside its objects (chapter 9): `idr` the next picture is an IDR, with the alive counter starting
where `zero`; `coding` the picture being coded; `last` the frame number and start of the previous encoded frame; `fresh`
a strip of the window was composed since; `lay` what the layer latched for a frame; `aliveIn` the layer's counter at the
previous encoded frame; `full` the fullness; `col` the refresh column of the next picture (none before the first sweep);
`dirty` the tiles of the dirty map; `lines` a layer source's lines composed for a frame that has not ended, keyed by frame number ×
4,096 + line (R341); `preds` the blocks of the last picture with the prediction they took (R351), and `input` its source samples in P10 packing (R345); `bad` the CTU rows of the picture being coded that read
a bad word (Table 12.7); `queue`, `seq`; the resolved next hop; ticks of the last budget cut event and SR. -/
structure EncS where
  idr : Bool := true
  zero : Bool := true
  coding : Option CodeS := none
  last : Option (Nat × Nat) := none
  fresh : Bool := false
  lay : Option (Nat × Bool × Option Nat × Nat) := none
  aliveIn : Nat := 0
  full : Nat := 0
  col : Nat := 0
  dirty : List Nat := []
  lines : Tab (List Nat) := []
  preds : List Block := []
  input : List Nat := []
  queue : List EncAu := []
  seq : Nat := 0
  bad : List Nat := []
  hop : Bool := false
  cutAt : Option Nat := none
  srAt : Nat := 0
  deriving DecidableEq, Repr

/-- A sensor node (R399, R407 to R411): its baseline, the average of the last acquisition and the reacquisition under way
(frames and sum), runs of negative signals, of bad and of good counts, and whether it is faulted. -/
structure NodeS where
  base : Int := 0
  avg : Nat := 0
  n : Nat := 0
  sum : Nat := 0
  again : Bool := false
  neg : Nat := 0
  bad : Nat := 0
  good : Nat := 0
  fault : Bool := false
  deriving DecidableEq, Repr

/-- A frame started and not yet processed (R400): number, start in ns, current and candidate index, hop frame. -/
structure TFrame where
  num : Nat
  start : Nat
  cur : Nat
  cand : Nat
  hop : Bool
  deriving DecidableEq, Repr

/-- A contact (R416 to R419): its ID, whether it has appeared, whether it hovers and wears a glove, its peak node and
position in node/16 units, strength and area, the frame number and start of its down frame, the run of frames below its
release threshold and of frames in the other class, the state to report, whether the ID is free from the next frame, and
the positions it touched while the port scans for a wake stroke. -/
structure ContactS where
  id : Nat
  shown : Bool
  hov : Bool
  glove : Bool
  d : Nat
  s : Nat
  x : Nat
  y : Nat
  strength : Nat
  area : Nat
  frame : Nat
  start : Nat
  low : Nat
  other : Nat
  report : Nat
  gone : Bool
  path : List (Nat × Nat)
  crowd : Bool
  deriving DecidableEq, Repr

/-- A zone beside its objects (R421 to R423): runs of touched and clear frames, the frame whose start the clear timer counts
from, the start (ns) of the first touched frame, and a reference mismatch. -/
structure ZoneS where
  touched : Nat := 0
  clear : Nat := 0
  timer : Option Nat := none
  from' : Nat := 0
  first : Nat := 0
  mismatch : Bool := false
  deriving DecidableEq, Repr

/-- A touch port beside its objects (chapter 11): frames in flight, the next frame number, the last start, the last
candidate, whether the last frame was severe, frames since the last hop (none: no hop yet) and the hop decided;
acquisition: the first frame still to come, frames averaged, a change to ACQUIRING at the next frame start; the nodes, the
offset of R408, runs of frames over and under the film limit, used frames; contacts; zones; the report sequence. -/
structure TouchS where
  frames : List TFrame := []
  num : Nat := 0
  last : Option Nat := none
  cand : Nat := 0
  severe : Bool := false
  since : Option Nat := none
  hopTo : Option Nat := none
  first : Bool := true
  acq : Nat := 0
  change : Bool := false
  nodes : List NodeS := []
  offset : Int := 0
  over' : Nat := 0
  under : Nat := 0
  used : Nat := 0
  contacts : List ContactS := []
  overflow : Bool := false
  zones : Tab ZoneS := []
  seq : Nat := 0
  deriving DecidableEq, Repr

/-- A serial lane beside its objects (R451, R475): the tick it gained lock. -/
structure LaneS where
  lockAt : Nat := 0
  deriving DecidableEq, Repr

/-- A Spaydun frame ready to leave a port (Table 13.3), before its sequence, acknowledgement and length. -/
structure SpOut where
  ftype : Nat
  src : Nat
  dst : Nat
  flags : Nat
  hops : Nat
  epoch : Nat
  gen : Nat
  payload : List Byte
  deriving DecidableEq, Repr

/-- A Spaydun port beside its objects (R465 to R477, R177): the tick of entry to its state and the rate in use; frames
ready, oldest first; control frames not acknowledged, with their sequences; the next sequence sent and expected, by type
(unlisted: 0 for control, not known for the others); when an acknowledgement came to be owed; the tick of the last
advance and the resends since; per lane the valid training sets in a row with their mask and partner; the last loss and
the first of the re-stripe; the tick of the last presence sent for a stale frame; the time marks: link delay, hop count and
tick of the last valid one and of the last sent; whether a valid training set has come since the port began to train. -/
structure SpayS where
  since : Nat := 0
  rate : Nat := 2
  ready : List SpOut := []
  unacked : List (Nat × SpOut) := []
  txSeq : Tab Nat := []
  rxSeq : Tab Nat := []
  ackAt : Option Nat := none
  progress : Nat := 0
  rounds : Nat := 0
  sets : Tab (Nat × Nat × Nat) := []
  lossAt : Nat := 0
  firstLoss : Nat := 0
  replyAt : Option Nat := none
  delay : Option Int := none
  hops : Option Nat := none
  markAt : Nat := 0
  markSent : Option Nat := none
  heard : Bool := false
  deriving DecidableEq, Repr

/-- The DRAM controller beside its objects (R436 to R445): whether a training runs, of which set point, and the set point
queued; a refresh in progress with its bursts, the refresh interval from the next refresh, readings in a row at 82 °C or
below; the demands of the last second with their ticks and the tick of the last excess; the mapping orders and ECC
settings in force, by window (unlisted: the default). -/
structure MemS where
  training : Bool := true
  target : Nat := 0
  want : Option Nat := none
  queued : Option Nat := none
  refreshing : Bool := false
  bursts : List (Nat × Nat) := []
  next : Nat := 3900
  cool : Nat := 0
  demands : List (Nat × Nat) := []
  excess : Option Nat := none
  order : Tab Nat := []
  ecc : Tab Nat := []
  deriving DecidableEq, Repr

/-- An entry of the system table (Table 17.1): recorded epoch, role (0 not configured, 1 member, 2 spare, 3 vacant, 4
joining), health, summary, the holder's serial number, recorded root. -/
structure EntS where
  epoch : Nat := 0
  role : Nat := 0
  health : Nat := 0
  summary : Nat := 0
  serial : Nat := 0
  root : Nat := 0
  deriving DecidableEq, Repr

/-- What this package last heard of another by presence (R561): the tick, its generation, joined flag, the neighbours of
its ports A and B (none: no partner) as (package, port), and its serial number; `present` within the dead timeout. -/
structure PeerS where
  tick : Nat := 0
  gen : Nat := 0
  joined : Bool := false
  nbA : Option (Nat × Nat) := none
  nbB : Option (Nat × Nat) := none
  present : Bool := false
  deriving DecidableEq, Repr

/-- A change set in progress at the supervisor (R576 to R578): its id, tag, bytes, targets, phase (0 staging, 1 armed, 2
applied), start tick, apply time in ns, the reports staged (package, root, roots of role images), armed and applied, and
whether a root differs. -/
structure ChangeS where
  id : Nat
  tag : Nat
  data : List Byte
  targets : Nat
  phase : Nat
  start : Nat
  time : Nat
  staged : Tab (Nat × List (Nat × Nat))
  armed : Nat
  applied : Nat
  differs : Bool
  deriving DecidableEq, Repr

/-- A change set at a target (R577, R579): its supervisor and id, bytes received, whether it is staged, the apply time in
ns once armed; the tick it executed, and whether late; the tree it staged, the commits it submitted and the screens whose
timing it applied. -/
structure TargetS where
  from' : Nat
  id : Nat
  data : List Byte
  staged : Bool
  time : Option Nat
  done : Option Nat
  late : Bool
  tree : Tab (Nat × Nat) := []
  commits : List Nat := []
  screens : List Nat := []
  deriving DecidableEq, Repr

/-- An outgoing relay (R571): its source and mode, the traffic charged in bit/s, its port and coder context, milli-engines,
whether it is shed, the next record number, the bytes of its stream sent, and the alive counter of a plane's heartbeats. -/
structure RelayS where
  source : Nat
  mode : Nat
  cost : Nat
  port : Nat
  ctx : Option Nat
  load : Nat
  shed : Bool := false
  number : Nat := 0
  sent : Nat := 0
  alive : Nat := 0
  deriving DecidableEq, Repr

/-- A relay received by a session of kind 4 (R572 to R574): the stream's next offset, bytes of a block not yet whole, bytes
decoded and not yet consumed; the record of the picture under way with the tick it came and the tiles received with their
taint and words, and whether a break is being passed over. -/
structure RelayInS where
  offset : Nat := 0
  raw : List Byte := []
  data : List Byte := []
  record : Option (List Byte) := none
  start : Nat := 0
  tiles : List (Nat × Bool × List Nat) := []
  lost : Bool := false
  deriving DecidableEq, Repr

/-- The package in its system (chapter 17): the table; what was heard of others; joined; quorum, held since the last reset,
and the tick it was lost; the tick the generation began; the IDs present since; whether command 4 asks to rejoin; change
sets and the next id; relays; role images by role ID, the image parts received and the roles whose image has come; the
recorded tree as (own, node) digests by address; whether an applied change suspends comparison; the failing entry of a
result 5; the roots found to differ at the supervisor, as 16 × sender + ID; the ticks of the last periodic presence, digest and rejoin
request sent. -/
structure SysS where
  table : Tab EntS := []
  peers : Tab PeerS := []
  joined : Bool := false
  quorum : Bool := false
  held : Bool := false
  lostAt : Option Nat := none
  genAt : Nat := 0
  seen : Nat := 0
  rejoin : Bool := false
  change : Option ChangeS := none
  nextId : Nat := 0
  target : Option TargetS := none
  relays : Tab RelayS := []
  relayIn : Tab RelayInS := []
  images : Tab (Tab Val) := []
  parts : Tab (List Byte) := []
  got : Nat := 0
  tree : Tab (Nat × Nat) := []
  suspended : Bool := false
  failed : Nat := 0
  differ : List Nat := []
  presAt : Option Nat := none
  digestAt : Option Nat := none
  rejoinAt : Option Nat := none
  deriving DecidableEq, Repr

/-- The latest valid boot record (Table 18.2). -/
structure BootS where
  seq : Nat := 0
  slotA : Nat := 4
  slotB : Nat := 0
  active : Nat := 0
  booted : Bool := false
  store : Nat := 0
  oldHeld : Bool := false
  result : Nat := 0
  cause : Nat := 0
  window : Nat := 600
  lenA : Nat := 0
  lenB : Nat := 0
  deriving DecidableEq, Repr

/-- The flash (Table 18.1): the latest boot record, the records programmed into the pages of boot record copies 0 and 1 in order (R588),
the bytes programmed into the slots, the dictionary stores X and Y, the touch references, role images and recorded tree of the
persistent area. -/
structure FlashS where
  boot : BootS := {}
  copy0 : List BootS := [{}]
  copy1 : List BootS := []
  slots : Tab (List Byte) := []
  stores : Tab (Tab Val) := []
  refs : Tab Val := []
  images : Tab (Tab Val) := []
  tree : Tab (Nat × Nat) := []
  deriving DecidableEq, Repr

/-- The update under way (R592 to R602): the lock's owner and the tick of its last request, the chunks staged, the last
accepted chunk as (offset, bytes), the slot that runs, the confirm window's start, whether the converted store is written,
whether FINISH waits for the last chunks, whether the restarted processors wait for the ROM, into the old slot (`back`), and the tick of that restart. -/
structure UpdS where
  owner : Option Req := none
  last : Nat := 0
  chunks : List (List Byte) := []
  prev : Option (Nat × List Byte) := none
  slot : Nat := 0
  trialAt : Option Nat := none
  converted : Bool := false
  finish : Bool := false
  rom : Bool := false
  back : Bool := false
  since : Nat := 0
  deriving DecidableEq, Repr

/-- The units designated spare at reset (R110, R189): DC06, DC13 and the pipes of cluster C.19 of each die. -/
def spareUnits : Tab UnitS :=
  [(10, { st := 3 }), (332, { st := 3 }), (333, { st := 3 }), (334, { st := 3 }), (335, { st := 3 }),
   (1034, { st := 3 }), (1356, { st := 3 }), (1357, { st := 3 }), (1358, { st := 3 }), (1359, { st := 3 })]

/-- The whole state. -/
structure State where
  /-- Clocked 2.5 ns ticks since the model began (R159): every command carries its tick. -/
  clock : Nat := 0
  /-- The model's own counter of free values used (log 5). -/
  free : Nat := 0
  /-- Dictionary values as they read, by index × 256 + subindex; unlisted: the object's default. -/
  od : Tab Val := []
  /-- Values in force of the staged classes (R264, R321, R455, R259); unlisted: the object's default. -/
  force : Tab Val := []
  /-- One-time programmable values. -/
  otp : Otp := {}
  log : LogS := {}
  time : TimeS := {}
  ptp : Tab PtpS := []
  trigs : Tab TrigS := []
  caps : Tab CapS := []
  units : Tab UnitS := spareUnits
  /-- Clusters, regions and dies declared DEAD as a whole (R107): address values without the package. -/
  declared : List Nat := []
  /-- Dies whose LVS self-test is running (R69), and the tick it last began by die. -/
  lvsTest : List Nat := []
  lvsTestAt : Tab Nat := []
  link : LinkS := {}
  procs : Tab ProcS := []
  /-- The die whose SYS is primary (R87). -/
  primary : Die := .e
  power : PowerS := {}
  /-- The dictionary is loaded (Table 19.6 step 6). -/
  loaded : Bool := false
  checks : Tab CheckS := []
  tally : TallyS := {}
  /-- EMCY conditions now true (R523). -/
  conds : List EmcyCond := []
  cans : Tab CanS := []
  tpdos : Tab TpdoS := []
  zdp : Tab ZdpS := []
  partReads : Tab PartS := []
  partWrites : Tab PartS := []
  sess : Tab SessS := []
  ports : Tab PortS := []
  /-- The multicast table, at most 512 entries (R123). -/
  mcast : List McastS := []
  cores : Tab CoreS := []
  /-- Segments waiting for a core, in order of dispatch (R196). -/
  segs : List SegWait := []
  /-- Cores of the active set (R188) by the place they fill; `unpatched` are its DEAD cores without a patch. -/
  active : List Nat := [0, 1, 2, 3, 4, 5, 7, 8, 9, 10, 11, 12]
  unpatched : List Nat := []
  /-- The pipe that serves each pipe place (R241); unlisted: the place's own pipe. -/
  places : Tab Nat := []
  layers : Tab LayerS := []
  screens : Tab ScreenS := []
  /-- Pending commits in order of submission (R269). -/
  commits : List CommitS := []
  /-- Receipts held, by commit id, newest id last (R279). -/
  receipts : List (Nat × List Receipt) := []
  /-- Writes queued behind leases, in arrival order (R293). -/
  queued : List QWrite := []
  gfx : Tab GfxS := []
  /-- Coder contexts: 0 to 159 of the sessions, 160 to 167 of exports and relays (R386, R571). -/
  ctxs : Tab CtxS := []
  /-- ZTT messages waiting for an engine, in arrival order, and those on the engines (R386). -/
  zttQ : List ZttWait := []
  engines : Tab ZttWait := []
  /-- The context each engine last held (R386). -/
  engLast : Tab Nat := []
  /-- Encode contexts (chapter 9). -/
  encs : Tab EncS := []
  touch : Tab TouchS := []
  rings : Tab RingS := []
  pcie : PcieS := {}
  lanes : Tab LaneS := []
  spay : Tab SpayS := []
  mem : MemS := {}
  sys : SysS := {}
  flash : FlashS := {}
  upd : UpdS := {}
  /-- What has left the package, newest first. -/
  out : List Out := []
  /-- The commands waiting, first in, first out. -/
  pending : List Instr := []
  deriving DecidableEq, Repr

/-- Why a step stops. No command of this block stops: the type is closed with the one reason a malformed model
would need. -/
inductive Fault where
  /-- Raised by nothing. Safe. -/
  | none
  deriving DecidableEq, Repr

/-- Why a command has no meaning. -/
inductive Refusal where
  /-- Raised by the arms of commands that have no meaning yet. Safe: the machine stops. -/
  | notModelled (mnemonic : String)
  deriving DecidableEq, Repr

/-- The log's first record after a reset (R539). -/
def logStarted (cause : Nat) : LogRec := ⟨0, ⟨0x0001, 0, 0, 0, 0, [(8, cause)], 0⟩⟩

/-- The machine right after reset: VIN good, RESET_N high, the package booting with cause 0 and the dictionary not
yet loaded; every other field as its structure states, every dictionary value at its default. -/
def State.reset : State := { log := { records := [logStarted 0], next := 1 } }

end Sys2Proof.Machine
end

