-- ==== Sys2Proof/Machine/Ops.lean ====
section
/-! DEFINITION. The shared operations: sparse tables, dictionary values, counters, events, the time base's advance, free
values and the outcome of dictionary requests (Table 15.4). -/

namespace Sys2Proof

/-- A value as a number. -/
def Val.int : Val → Int
  | .num n => n
  | .bytes b => Machine.leNat b

/-- A value as bytes. -/
def Val.bs : Val → List Byte
  | .num _ => []
  | .bytes b => b

/-- The value listed at a key. -/
def Tab.look {α : Type} : Tab α → Nat → Option α
  | [], _ => none
  | (k, v) :: t, i => if i = k then some v else Tab.look t i

/-- The value at a key, or the family's default. -/
def Tab.at' {α : Type} (t : Tab α) (i : Nat) (d : α) : α := (t.look i).getD d

/-- The table with a key set; keys stay in rising order. -/
def Tab.put {α : Type} : Tab α → Nat → α → Tab α
  | [], i, v => [(i, v)]
  | (k, w) :: t, i, v =>
    if i < k then (i, v) :: (k, w) :: t
    else if i = k then (i, v) :: t
    else (k, w) :: Tab.put t i v

/-- The table without a key. -/
def Tab.cut {α : Type} : Tab α → Nat → Tab α
  | [], _ => []
  | (k, w) :: t, i => if i = k then Tab.cut t i else (k, w) :: Tab.cut t i

/-- Keys strictly rising: the canonical form of every table of the state. -/
def Tab.wf {α : Type} : Tab α → Bool
  | [] => true
  | [_] => true
  | (k, _) :: (k', w) :: t => decide (k < k') && Tab.wf ((k', w) :: t)

end Sys2Proof

namespace Sys2Proof.Machine

/-! ### Dictionary values -/

/-- An object's default (the object tables). -/
def dfltVal (idx sub : Nat) : Val :=
  match findObj idx sub with
  | some o => o.dflt
  | none => .num 0

/-- The value an object holds. -/
def State.val (s : State) (idx sub : Nat) : Val :=
  match s.od.look (key idx sub) with
  | some v => v
  | none => dfltVal idx sub

/-- The value in force of an object of a staged class. -/
def State.fval (s : State) (idx sub : Nat) : Val :=
  match s.force.look (key idx sub) with
  | some v => v
  | none => dfltVal idx sub

/-- An object's number. -/
def State.rd (s : State) (idx sub : Nat) : Int := (s.val idx sub).int

/-- An object's number as a natural. -/
def State.rn (s : State) (idx sub : Nat) : Nat := (s.rd idx sub).toNat

/-- An object's bytes. -/
def State.rb (s : State) (idx sub : Nat) : List Byte := (s.val idx sub).bs

/-- The number in force of an object of a staged class. -/
def State.fn (s : State) (idx sub : Nat) : Nat := (s.fval idx sub).int.toNat

/-- The number in force as an integer. -/
def State.fi (s : State) (idx sub : Nat) : Int := (s.fval idx sub).int

/-- Set an object's value. -/
def State.wv (s : State) (idx sub : Nat) (v : Val) : State := { s with od := s.od.put (key idx sub) v }

/-- Set an object's number. -/
def State.wn (s : State) (idx sub v : Nat) : State := s.wv idx sub (.num v)

/-- Set an object's integer. -/
def State.wi (s : State) (idx sub : Nat) (v : Int) : State := s.wv idx sub (.num v)

/-- Set an object's bytes. -/
def State.wb (s : State) (idx sub : Nat) (b : List Byte) : State := s.wv idx sub (.bytes b)

/-- Set the value in force of an object of a staged class. -/
def State.setForce (s : State) (idx sub : Nat) (v : Val) : State := { s with force := s.force.put (key idx sub) v }

/-- Whether an output leaves on Ethernet. -/
def Out.onEthernet : Out → Bool
  | .ptp .. | .dadProbe .. | .advertise .. | .join .. | .leave .. | .arp .. | .echo .. | .neighbour .. | .rtcpRr .. | .rtcpBye .. | .zttStatus ..
  | .ethernet .. | .zdp .. | .mirror .. | .mirrorSr .. | .mirrorBye .. | .resolve .. => true
  | _ => false

/-- Whether an output leaves whatever the package's power state: the tally port and the status lines (R616, R618). -/
def Out.always : Out → Bool
  | .line .. | .tally .. => true
  | _ => false

/-- Record an output. Held in reset or quiet, nothing but the tally port and the status lines leaves (R616, R618); a fenced
package sends nothing on Ethernet (R568). -/
def State.say (s : State) (o : Out) : State :=
  if (!o.always && s.power.phase ≠ .booting && s.power.phase ≠ .running) || (o.onEthernet && s.rn 0x6800 0x09 = 3) then s
  else { s with out := o :: s.out }

/-- A free value, and the state that has used it. -/
def State.fresh (s : State) : Nat × State := (Config.free s.free, { s with free := s.free + 1 })

/-! ### Units -/

/-- A unit's row of the health table. -/
def State.unit (s : State) (k : Nat) : UnitS := s.units.at' k {}

/-- Set a unit's row. -/
def State.setUnit (s : State) (k : Nat) (u : UnitS) : State := { s with units := s.units.put k u }

/-- Whether a unit serves: OK or PATCHED (Table 2.6). -/
def State.serves (s : State) (k : Nat) : Bool := (s.unit k).st = 0 || (s.unit k).st = 4

/-- Whether a unit is DEAD or FENCED. -/
def State.gone (s : State) (k : Nat) : Bool := (s.unit k).st = 2 || (s.unit k).st = 5

/-- Whether a processor of a die is restarting. -/
def State.restarting (s : State) (die : Nat) (p : Proc) : Bool := (s.procs.at' (procKey die p) {}).restarting

/-- Whether a die is lost (R113). -/
def State.dieLost (s : State) (d : Nat) : Bool :=
  match s.link.lostDie with
  | some .e => d = 0
  | some .w => d = 1
  | none => false

/-! ### Events (R537 to R542) -/

/-- The package ID in force (R570's role: 0x6800:0A; 0xFF before joining counts as 0x6800:01). -/
def State.pkgId (s : State) : Nat :=
  if s.rn 0x6800 0x0A = 0xFF then s.fn 0x6800 0x01 else s.rn 0x6800 0x0A

/-- The address of a unit of this package (Table 2.5). -/
def State.addrOf (s : State) (k : Nat) : Nat := k + 4096 * s.pkgId

/-- The seconds and nanoseconds of a die's time base (R159): W's own, which also stands for the package's once E is lost (R637). -/
def State.clockOf (s : State) (die : Nat) : Nat × Nat :=
  if (die = 1 && !s.dieLost 1) || s.dieLost 0 then (s.time.wSec, s.time.wNs) else (s.time.sec, s.time.ns)

/-- Put an event in a source's queue that has room. -/
def State.queueEv (s : State) (k : Nat) (e : Ev) : State :=
  { s with log := { s.log with queues := s.log.queues.put k (s.log.queues.at' k [] ++ [e]) } }

/-- A source drops an event for a full queue (R540): it counts in 0x2200:05, and the count that reaches its maximum raises one counter
saturated event at the arbiter (R13). -/
def State.dropEv (s : State) (k : Nat) : State :=
  let n := s.rn 0x2200 0x05
  let s := { s with log := { s.log with lost := s.log.lost.put k (min 0xFFFF (s.log.lost.at' k 0 + 1)) } }
  let a := arbiterKey (keyDie k)
  if 0xFFFFFFFF ≤ n then s
  else
    let s := s.wn 0x2200 0x05 (n + 1)
    if n + 1 = 0xFFFFFFFF && (s.log.queues.at' a []).length < 16 then
      s.queueEv a ⟨0x0003, 1, s.addrOf a, (s.clockOf (keyDie k)).1, (s.clockOf (keyDie k)).2, [(16, 0x2200), (8, 0x05), (8, 0)], 0⟩
    else s

/-- Put an event in its source's queue; a full queue drops it and counts (R540). -/
def State.enqueue (s : State) (k : Nat) (e : Ev) : State :=
  if (s.log.queues.at' k []).length < 16 then s.queueEv k e else s.dropEv k

/-- Raise an event at a source unit with its type, severity and payload, at the current time of its die (R541). -/
def State.raise (s : State) (k ty sev : Nat) (pay : List (Nat × Nat)) : State :=
  s.enqueue k ⟨ty, sev, s.addrOf k, (s.clockOf (keyDie k)).1, (s.clockOf (keyDie k)).2, pay, 0⟩

/-- The first index of the per-instance family an index belongs to: the instance number of R13 is the index less it. -/
def instanceOf (idx : Nat) : Nat :=
  match (page (idx / 256)).find? (fun o => o.base ≤ idx && idx < o.base + o.count) with
  | some o => if o.count ≤ 1 then 0 else idx - o.base
  | none => 0

/-- Increment a saturating counter (code S, Table 0.4): at its maximum it stays, and the increment that reaches the
maximum raises one counter saturated event (R13). `k` is the source unit. -/
def State.bump (s : State) (k idx sub : Nat) (by' : Nat := 1) : State :=
  let m := match findObj idx sub with
    | some o => o.ty.maxNat
    | none => 0xFFFFFFFF
  let n := s.rn idx sub
  if by' = 0 || m ≤ n then s
  else if m ≤ n + by' then
    (s.wn idx sub m).raise k 0x0003 1 [(16, idx), (8, sub), (8, instanceOf idx)]
  else s.wn idx sub (n + by')

/-- Increment a wrapping counter of `n` bits (code W). -/
def State.wrap (s : State) (n idx sub : Nat) : State := s.wn idx sub (wrapInc n (s.rn idx sub))

/-- R13: set a saturating counter to 0 and place the value it held in 0x2000:07 with index and subindex, counting the
read-clears (W32). -/
def State.readClear (s : State) (idx sub : Nat) : State :=
  let held := s.rn idx sub
  let cnt := wrapInc 32 (leNat ((s.rb 0x2000 0x07).drop 4 |>.take 4))
  (s.wn idx sub 0).wb 0x2000 0x07
    (leBytes 2 idx ++ leBytes 1 sub ++ [0] ++ leBytes 4 cnt ++ leBytes 8 held)

/-! ### Time -/

/-- The nanoseconds since the PTP epoch on a die's time base. -/
def State.nowAt (s : State) (die : Nat) : Nat := (s.clockOf die).1 * 1000000000 + (s.clockOf die).2

/-- The nanoseconds since the PTP epoch on the time base that the servo steers (R637). -/
def State.nowNs (s : State) : Nat := s.nowAt 0

/-- The seconds and nanoseconds of that time base. -/
def State.nowSec (s : State) : Nat × Nat := s.clockOf 0

/-- Seconds, nanoseconds and fraction after `n` ticks at an increment of 8.32 ns (R160). -/
def ticked (sec ns frac inc n : Nat) : Nat × Nat × Nat :=
  let total := ns * 2 ^ 32 + frac + inc * n
  let k := total / 2 ^ 32
  (sec + k / 1000000000, k % 1000000000, total % 2 ^ 32)

/-- Both time bases after `n` ticks: W takes the same increments (R95). -/
def TimeS.after (t : TimeS) (inc n : Nat) : TimeS :=
  let e := ticked t.sec t.ns t.frac inc n
  let w := ticked t.wSec t.wNs t.wFrac inc n
  { t with sec := e.1, ns := e.2.1, frac := e.2.2, wSec := w.1, wNs := w.2.1, wFrac := w.2.2 }

/-- The clock and the time bases after `n` ticks at the increment in force. -/
def State.advance (s : State) (n : Nat) : State :=
  if n = 0 then s else { s with clock := s.clock + n, time := s.time.after (s.rn 0x2800 0x02) n }

/-- A slew has ended (R161): the increment returns to the learnt one. -/
def State.endSlew (s : State) : State :=
  { s with time := { s.time with slewEnd := none } }.wn 0x2800 0x02 s.time.learnt

/-- Time passes up to the tick of a command: the clock and the time bases advance (R159, R160), past the end of a slew with the
learnt increment (R161). A tick in the past changes nothing (log 1). -/
def State.tick (s : State) (t : Nat) : State :=
  match s.time.slewEnd with
  | some e =>
    if e ≤ t then
      let s := (s.advance (e - s.clock)).endSlew
      s.advance (t - s.clock)
    else s.advance (t - s.clock)
  | none => s.advance (t - s.clock)

/-- Ticks per microsecond, millisecond and second (R159). -/
def usTicks : Nat := 400
def msTicks : Nat := 400000
def sTicks : Nat := 400000000

/-! ### Requests (R513 to R518) -/

/-- Whether what happens once in a time is due: it has not happened, or the time has passed since. -/
def State.due (s : State) (last : Option Nat) (time : Nat) : Bool :=
  match last with
  | some a => decide (a + time ≤ s.clock)
  | none => true

/-- Whether a SYS is restarting that the dictionary waits for, or fails over from (Table 2.3). -/
def State.sysBusy (s : State) : Bool :=
  [0, 1].any (fun d => (s.procs.at' (procKey d .sys) {}).restarting && (s.procs.at' (procKey d .sys) {}).failover)

/-- Whether the dictionary answers: loaded, the package booting or running, and a SYS there to answer (Tables 2.3 and
19.6). -/
def State.dictReady (s : State) : Bool :=
  s.loaded && (s.power.phase = .booting || s.power.phase = .running) && !s.sysBusy && !s.gone (procKey s.primary.idx .sys)

/-- Whether a requester may not write: a ZDP session of a role 0 slot (R528). -/
def State.readOnlyReq (s : State) : Req → Bool
  | .zdp n => match s.zdp.look n with
    | some z => bits (s.rn 0x2020 0x08) (2 * z.slot + 1) (2 * z.slot) = 0
    | none => true
  | _ => false

/-- Whether a path's writes are switched off: mailbox writes (R502). -/
def State.writesOff (s : State) : Req → Bool
  | .mailbox _ => s.rn 0x6600 0x06 = 0
  | _ => false

/-- The checks of Table 15.4 on an access, in its order, up to the value's own range. -/
def State.checkWrite (s : State) (r : Req) (idx sub : Nat) (data : List Byte) : Except Nat (Obj × Val) :=
  if !idxExists idx then .error 1
  else match findObj idx sub with
    | none => .error 2
    | some o =>
      if !s.dictReady then .error 8
      else if s.readOnlyReq r then .error 11
      else if (o.acc = .ro || o.acc = .konst) && !(o.sat && decodeVal o.ty data = some (.num 0)) then .error 3
      else if s.writesOff r then .error 3
      else if !sizeOk o data.length then .error 5
      else match decodeVal o.ty data with
        | none => .error 5
        | some v => if o.sat || (o.ty.valOk v && o.chk.ok v) then .ok (o, v) else .error 6

/-- The checks on a read. -/
def State.checkRead (s : State) (_r : Req) (idx sub : Nat) : Except Nat Obj :=
  if !idxExists idx then .error 1
  else match findObj idx sub with
    | none => .error 2
    | some o =>
      if !s.dictReady then .error 8
      else if o.acc = .wo then .error 4
      else .ok o

/-- Answer a request; the package's own requests of a change set are not answered. -/
def State.respond (s : State) (r : Req) (idx sub st : Nat) (v : List Byte) : State :=
  match r with
  | .changeSet => s
  | _ => s.say (.resp r idx sub st v)

/-- A requester's number in the tables of part transfers. -/
def Req.code : Req → Nat
  | .can c => c
  | .zdp n => 2 + n
  | .mailbox q => 16 + q
  | .changeSet => 64

/-- The key of a requester's part write of an object. -/
def partKey (r : Req) (idx sub : Nat) : Nat := Req.code r * 2 ^ 24 + key idx sub

/-- R518: a part write of the object by another requester is abandoned. -/
def State.abandonParts (s : State) (r : Req) (idx sub : Nat) : State :=
  { s with partWrites := s.partWrites.filter (fun p =>
      p.1 % 2 ^ 24 ≠ key idx sub || p.1 / 2 ^ 24 = Req.code r) }

/-- A write request: checked, then given its effect, which answers a status; a refused write changes nothing (R16). -/
def State.write (s : State) (r : Req) (idx sub : Nat) (data : List Byte)
    (eff : State → Val → State × Nat) : State × Nat :=
  match s.checkWrite r idx sub data with
  | .error c => (s, c)
  | .ok (_, v) =>
    let p := eff s v
    if p.2 = 0 then (p.1.abandonParts r idx sub, 0) else (s, p.2)

/-- A write request with its response. -/
def State.request (s : State) (r : Req) (idx sub : Nat) (data : List Byte)
    (eff : State → Val → State × Nat) : State :=
  let p := s.write r idx sub data eff
  p.1.respond r idx sub p.2 []

/-- A read request: its effect answers the state, a status and the value. -/
def State.readReq (s : State) (r : Req) (idx sub : Nat) (eff : State → State × Nat × Val) : State :=
  match s.checkRead r idx sub with
  | .error c => s.respond r idx sub c []
  | .ok o =>
    let p := eff s
    if p.2.1 = 0 then p.1.respond r idx sub 0 (encodeVal o.ty p.2.2) else s.respond r idx sub p.2.1 []

/-- The effect of a plain write: the object takes the value. -/
def plainWrite (idx sub : Nat) (s : State) (v : Val) : State × Nat := (s.wv idx sub v, 0)

end Sys2Proof.Machine
end

