-- ==== Sys2Proof/Machine/Events.lean ====
section
/-! DEFINITION. The event arbiter and its log (R537 to R544), the EMCY conditions (R523) and the command
RECORD_SELECT. -/

namespace Sys2Proof.Machine

/-! ### EMCY conditions (R523, Table 15.8) -/

/-- The 0x1001 bit of a condition (Table 15.8). -/
def EmcyCond.bit : EmcyCond → Nat
  | .tooHot => 3
  | .passive _ => 4
  | .busOff _ => 4
  | _ => 7

/-- The error register 0x1001 while conditions hold: their bits, and bit 0 while any other is set. -/
def errReg (cs : List EmcyCond) : Nat :=
  cs.foldl (fun a c => Nat.lor a (2 ^ c.bit)) 0 ||| (if cs.isEmpty then 0 else 1)

/-- Queue an EMCY on each port in PRE-OPERATIONAL or OPERATIONAL: at most 8 held, further ones counted lost. -/
def State.emcyPort (s : State) (code seq c : Nat) : State :=
  let nmt := s.rn (0x2011 + c) 0x04
  if (nmt = 127 || nmt = 5) && !bit (s.rn 0x1014 0) 31 then
    let p := s.cans.at' c {}
    if p.emcy.length < 8 then
      { s with cans := s.cans.put c { p with emcy := p.emcy ++ [(code, seq)] } }
    else s.bump (canKey c) (0x2011 + c) 0x07
  else s

/-- An EMCY on both ports. -/
def State.emcyAll (s : State) (code seq : Nat) : State := (s.emcyPort code seq 0).emcyPort code seq 1

/-- A new error code at the head of 0x1003, which holds the last 8. -/
def State.pushError (s : State) (code : Nat) : State :=
  let n := s.rn 0x1003 0
  let old := (List.range (min n 7)).map (fun i => s.rn 0x1003 (i + 1))
  let s := (code :: old).zipIdx.foldl (fun s p => s.wn 0x1003 (p.2 + 1) p.1) s
  s.wn 0x1003 0 (min 8 (n + 1))

/-- Raise an event that begins a condition of Table 15.8; a condition already true only raises the event. -/
def State.raiseCond (s : State) (c : EmcyCond) (code k ty sev : Nat) (pay : List (Nat × Nat)) : State :=
  if s.conds.contains c then s.raise k ty sev pay
  else
    let cs := c :: s.conds
    ({ s with conds := cs }.wn 0x1001 0 (errReg cs)).enqueue k
      ⟨ty, sev, s.addrOf k, (s.clockOf (keyDie k)).1, (s.clockOf (keyDie k)).2, pay, code⟩

/-- The newest position in the log (R543). -/
def LogS.newest (l : LogS) : Nat := (l.next + 2 ^ 48 - 1) % 2 ^ 48

/-- A condition ends; when it was the last, error code 0x0000 is sent with the newest sequence number. -/
def State.endCond (s : State) (c : EmcyCond) : State :=
  if s.conds.contains c then
    let cs := s.conds.filter (fun x => x ≠ c)
    let s := { s with conds := cs }.wn 0x1001 0 (errReg cs)
    if cs.isEmpty then s.emcyAll 0 (s.log.newest % 2 ^ 32) else s
  else s

/-! ### The log -/

/-- The most records held (R543). -/
def logSize : Nat := 16384

/-- Give an event the next position and write it into the log (R537, R538). -/
def State.logEv (s : State) (e : Ev) : State :=
  { s with log := { s.log with
      records := (⟨s.log.next, e⟩ :: s.log.records).take logSize, next := (s.log.next + 1) % 2 ^ 48 } }

/-- The arbiter takes the oldest event a source has waiting; a source that dropped events is first given one record of
type events dropped (R537, R540). -/
def State.arbitrate (s : State) (k : Nat) : State :=
  match s.log.queues.at' k [] with
  | [] => s
  | e :: q =>
    let l := s.log.lost.at' k 0
    let s := { s with log := { s.log with queues := s.log.queues.put k q, lost := s.log.lost.put k 0 } }
    let s := if l = 0 then s
      else s.logEv ⟨0x0002, 2, s.addrOf k, (s.clockOf (keyDie k)).1, (s.clockOf (keyDie k)).2, [(32, s.addrOf k), (16, l)], 0⟩
    let p := s.log.next
    let s := s.logEv e
    if e.emcy = 0 then s else (s.pushError e.emcy).emcyAll e.emcy (p % 2 ^ 32)

/-- Place payload fields by R542: whole fields from bit 0 of the 64-bit payload; from the first that does not fit on,
in the 24-bit extension. Answers (payload, extension). -/
def placeFields : List (Nat × Nat) → Nat → Nat → Bool → Nat × Nat
  | [], _, _, _ => (0, 0)
  | (w, v) :: fs, a, b, full =>
    if !full && a + w ≤ 64 then
      let r := placeFields fs (a + w) b false
      (r.1 + v % 2 ^ w * 2 ^ a, r.2)
    else
      let r := placeFields fs a (b + w) true
      (r.1, r.2 + v % 2 ^ w * 2 ^ b)

/-- A record's 32 bytes (Table 16.1). -/
def LogRec.bytes (r : LogRec) : List Byte :=
  let p := placeFields r.ev.pay 0 0 false
  leBytes 4 (r.pos % 2 ^ 32) ++ leBytes 2 (r.pos / 2 ^ 32) ++ leBytes 2 r.ev.ty ++
  leBytes 4 (bits r.ev.src 15 12 + 16 * bits r.ev.src 10 10 + 32 * r.ev.sev + 256 * p.2) ++
  leBytes 4 r.ev.ns ++ leBytes 8 r.ev.sec ++ leBytes 8 p.1

/-- The oldest position held (R543). -/
def LogS.oldest (l : LogS) : Nat := (l.next + 2 ^ 48 - l.records.length) % 2 ^ 48

/-- R544: select a record; a position after the newest held is refused with status 9. -/
def recordSelect (s : State) (v : Val) : State × Nat :=
  if serialAfter 48 (v.int.toNat % 2 ^ 48) s.log.newest then (s, 9)
  else (s.wv 0x2200 0x03 v, 0)

/-- R544: up to 64 records from the selected one in sequence order, after the position returned. -/
def State.readRecords (s : State) : List Byte :=
  let want := s.rn 0x2200 0x03 % 2 ^ 48
  let start := if serialAfter 48 s.log.oldest want then s.log.oldest else want
  let recs := (s.log.records.filter (fun r => !serialAfter 48 start r.pos)).reverse.take 64
  leBytes 8 start ++ recs.flatMap LogRec.bytes

/-- RECORD_SELECT (R544). -/
def execRecordSelect (t : Nat) (r : Req) (pos : Nat) (s : State) : Host.Outcome State Fault Refusal :=
  .next ((s.tick t).request r 0x2200 0x03 (leBytes 8 pos) recordSelect)

end Sys2Proof.Machine
end

