-- ==== Sys2Proof/Machine/Rings.lean ====
section
/-! DEFINITION. Host rings as every kind uses them: ring blocks, write-backs and interrupts (R489 to R505), and the STATUS
of a ZTT message (R384, R498). -/

namespace Sys2Proof.Machine

/-- A descriptor out of its 32 bytes (Table 14.6, little-endian). -/
def readDesc (w : DescWire) : Desc :=
  let v := leNat w.bytes
  ⟨bits v 63 0, bits v 95 64, bit v 96, bits v 127 97, bits v 191 128, bits v 223 192, bits v 255 224, w.data⟩

/-- R497: fields that a kind other than 4 does not use. -/
def plainDesc (d : Desc) : Bool := d.rsvdA = 0 && d.addrB = 0 && d.lenB = 0 && d.rsvdB = 0

/-- An invalid descriptor's final write-back. -/
def invalidDesc (i : Nat) : WriteBack := ⟨i, 1, true, false, false, 0, 0, 0, 0⟩

/-- A host ring's row. -/
def State.ring (s : State) (q : Nat) : RingS := s.rings.at' q {}

/-- Set a ring's row. -/
def State.setRing (s : State) (q : Nat) (g : RingS) : State := { s with rings := s.rings.put q g }

/-- Fields of a ring block (Table 14.5). -/
def RingS.size (g : RingS) : Nat := 64 * 2 ^ bits g.cfg 131 128
def RingS.kind (g : RingS) : Nat := bits g.cfg 139 136
def RingS.param (g : RingS) : Nat := bits g.cfg 151 144
def RingS.enable (g : RingS) : Bool := bit g.cfg 160
def RingS.vector (g : RingS) : Nat := bits g.cfg 197 192
def RingS.intOn (g : RingS) : Bool := bit g.cfg 199
def RingS.moderation (g : RingS) : Nat := bits g.cfg 223 208
def RingS.host (g : RingS) : Nat := bits g.cfg 255 224

/-- Whether a ring runs. -/
def RingS.running (g : RingS) : Bool := g.state = 1

/-- Whether there is write-back space (R494). -/
def RingS.space (g : RingS) : Bool := decide (serialDiff 32 g.wb g.cons < g.size)

/-- Set bits [hi:lo] of a word. -/
def setBits (w hi lo v : Nat) : Nat := w - bits w hi lo * 2 ^ lo + v % 2 ^ (hi + 1 - lo) * 2 ^ lo

/-! ### Interrupts (R505) -/

/-- A masked vector sets its pending bit; otherwise its message is sent. The mask is bit 0 of the entry's vector control
(PCIe: byte 12 of 16). -/
def State.sendVector (s : State) (v : Nat) : State :=
  let masked : Bool := s.pcie.msix.any (fun c => decide (c.1 = 16 * v + 12) && decide (c.2.toNat % 2 = 1))
  if masked then { s with pcie := { s.pcie with pending := setBit s.pcie.pending v true } } else s.say (.msix v)

/-- A ring's vector after a write-back, sent now or deferred by its moderation time. -/
def State.ringInt (s : State) (q : Nat) : State :=
  let g := s.ring q
  if !g.intOn then s
  else if (match g.lastInt with | some a => decide (s.clock < a + g.moderation * usTicks) | none => false) then
    s.setRing q { g with intWait := true }
  else (s.setRing q { g with lastInt := some s.clock, intWait := false }).sendVector g.vector

/-- A function event (Table 14.3): bits [66:64] as 0 to 2, with its vector where enabled. -/
def State.funcEvent (s : State) (i : Nat) : State :=
  let s := { s with pcie := { s.pcie with events := setBit s.pcie.events i true } }
  if s.pcie.enable then s.sendVector s.pcie.vector else s

/-- The ready bit (Table 14.3): a change of it is a function event of its own. -/
def State.setReady (s : State) (b : Bool) : State :=
  if s.pcie.ready = b then s else { s with pcie := { s.pcie with ready := b } }.funcEvent 1

/-! ### Write-backs (R494, R495) -/

/-- A write-back's 32 bytes with its phase bit (Table 14.8). -/
def WriteBack.bytes (w : WriteBack) (phase : Nat) : List Byte :=
  leBytes 4 w.desc ++ leBytes 1 w.status ++
  leBytes 1 (phase + 2 * b2n w.final + 4 * b2n w.timeValid + 8 * b2n w.flag) ++ leBytes 2 w.fieldA ++
  leBytes 4 w.length ++ leBytes 12 (if w.timeValid then w.time else 0) ++ leBytes 8 w.fieldB

/-- A write-back is written where there is space; otherwise it waits, in order. A descriptor that has been abandoned
(R485) gets none. -/
def State.writeBack (s : State) (q : Nat) (w : WriteBack) : State :=
  let g := s.ring q
  if !g.open'.contains w.desc then s
  else if g.space && g.waits.isEmpty then
    let ph := 1 - g.wb / g.size % 2
    let s := s.setRing q { g with
      wb := wrapInc 32 g.wb, open' := if w.final then g.open'.filter (· ≠ w.desc) else g.open' }
    let s := s.say (.writeBack q (w.bytes ph))
    let s := if w.final then s.bump (pcieKey 0) (0x6610 + q) 0x0B else s
    let s := if w.status = 8 then s.funcEvent 2 else s
    s.ringInt q
  else s.setRing q { g with waits := g.waits ++ [w] }

/-- Write-backs that waited go out as space allows, oldest first: at most `n` of them. -/
def State.drainWb (q : Nat) : Nat → State → State
  | 0, s => s
  | n + 1, s =>
    let g := s.ring q
    match g.waits with
    | [] => s
    | w :: ws =>
      if g.space then
        let s := (s.setRing q { g with waits := [] }).writeBack q w
        State.drainWb q n (s.setRing q { s.ring q with waits := ws })
      else s

/-- A ring stops with a cause (R491, R493, R495): one event and function event bit 64. -/
def State.stopRing (s : State) (q cause : Nat) : State :=
  let g := s.ring q
  ((s.setRing q { g with state := 2, cause := cause }).raise (pcieKey 0) 0x0D01 2 [(8, q), (8, cause)]).funcEvent 0

/-- The next descriptor of a running ring of a kind is fetched, if the doorbell covers one (R493): its index. -/
def State.fetchDesc (s : State) (q kind : Nat) : Option (Nat × State) :=
  let g := s.ring q
  if q < 32 && g.running && g.kind = kind && serialAfter 32 g.host g.fetch then
    some (g.fetch, s.setRing q { g with fetch := wrapInc 32 g.fetch, open' := g.open' ++ [g.fetch] })
  else none

/-- The running host ring of a kind and parameter. -/
def State.ringOf (s : State) (kind param : Nat) : Option Nat :=
  (List.range 32).find? (fun q => (s.ring q).running && (s.ring q).kind = kind && (s.ring q).param = param)

/-- Data for the host on a ring (R495): the oldest offered buffer takes it, and its write-back follows; none where no
buffer is offered or there is no write-back space. -/
def State.deliver (s : State) (q : Nat) (bytes : Desc → List Byte) (wb : Nat → Desc → WriteBack) : Option State :=
  let g := s.ring q
  match g.bufs with
  | [] => none
  | (d, b) :: rest =>
    if g.space && g.waits.isEmpty then
      some (((s.setRing q { g with bufs := rest }).say (.dma q d (bytes b))).writeBack q (wb d b))
    else none

/-- A frame for the host (R120, R122, R175, R501): it goes, without its FCS, into the oldest buffer offered on the port's kind
3 ring, as far as that holds it; with no ring running, no buffer or no write-back space it is discarded. -/
def State.toHost (s : State) (p : Nat) (data : List Byte) : State :=
  let lost := s.bump (pcieKey 0) 0x6600 0x0C
  match s.ringOf 3 p with
  | none => lost
  | some q =>
    (s.deliver q (fun d => data.take d.lenA) (fun i d =>
      ⟨i, if d.lenA < data.length then 3 else 0, true, true, false, p, data.length, time96 (s.clockOf (p / 8)).1 (s.clockOf (p / 8)).2, 0⟩)).getD lost

/-! ### ZTT status (R384, R498) -/

/-- A session's surface and coder context. -/
def State.gfxOf (s : State) (n : Nat) : GfxS := s.gfx.at' n {}
def State.setGfx (s : State) (n : Nat) (g : GfxS) : State := { s with gfx := s.gfx.put n g }
def State.ctx (s : State) (n : Nat) : CtxS := s.ctxs.at' n {}
def State.setCtx (s : State) (n : Nat) (c : CtxS) : State := { s with ctxs := s.ctxs.put n c }

/-- The version number of the newest complete buffer, 0 if none. -/
def GfxS.newestVersion (g : GfxS) : Nat :=
  match g.newest with
  | some b => (g.bufs.at' b {}).version
  | none => 0

/-- The next expected sequence. -/
def GfxS.next (g : GfxS) : Nat := g.expected.getD 0

/-- A STATUS message (Table 10.3). -/
def State.statusBytes (s : State) (n : Nat) (h : ZttHdr) (lease err : Nat) : List Byte :=
  let g := s.gfxOf n
  beBytes 2 0x5A54 ++ [1, 3] ++ beBytes 1 lease ++ beBytes 1 err ++ beBytes 2 n ++ beBytes 4 h.seq ++ beBytes 4 g.next ++
  beBytes 1 (b2n (s.ctx n).await) ++ beBytes 1 h.buf ++ [0, 0] ++ beBytes 4 g.newestVersion

/-- Answer a ZTT message: over UDP where it asks for it, or an error or lease status stands, or it is a queued write's
second answer (`more`); on a ring always, by a write-back. -/
def State.zttReply (s : State) (m : ZttWait) (lease err : Nat) (final more : Bool) : State :=
  let n := m.sess
  match m.via with
  | .udp .. =>
    if bit m.hdr.flags 5 || lease ≠ 0 || err ≠ 0 || more then s.say (.zttStatus n m.via (s.statusBytes n m.hdr lease err))
    else s
  | .ring q =>
    let g := s.gfxOf n
    s.writeBack q ⟨m.desc, 0, final, true, (s.ctx n).await, lease + 256 * err, 64 + m.payload.length,
      time96 s.nowSec.1 s.nowSec.2, g.next + 2 ^ 32 * g.newestVersion⟩

end Sys2Proof.Machine
end

