-- ==== Sys2Proof/Machine/Time.lean ====
section
/-! DEFINITION. The time base, its servo and U (chapter 4), the die comparison (R95), PTP, trigger units and capture
units. -/

namespace Sys2Proof.Machine

/-! ### Layers as the time base sees them -/

/-- Slots with any object written: the only ones that can be enabled. -/
def State.slotsUsed (s : State) : List Nat :=
  ((s.od.map (fun p => p.1 / 256)).filter (fun i => 0x4000 ≤ i && i < 0x4100)).eraseDups.map (fun i => i - 0x4000)

/-- Whether a slot is enabled in force. -/
def State.layerOn (s : State) (n : Nat) : Bool := s.fn (0x4000 + n) 0x01 = 1

/-- A slot's row. -/
def State.layer (s : State) (n : Nat) : LayerS := s.layers.at' n {}

/-- Set a slot's row. -/
def State.setLayer (s : State) (n : Nat) (l : LayerS) : State := { s with layers := s.layers.put n l }

/-- R32: a step makes every enabled layer that is not FENCED take reason 14, with its recovery run at 0. -/
def State.stepLayers (s : State) : State :=
  (s.slotsUsed.filter s.layerOn).foldl
    (fun s n => if s.rn (0x4000 + n) 0x2C = 7 then s else s.setLayer n { s.layer n with stepped := true, run := 0 }) s

/-! ### U and the lock (R31, R170) -/

/-- The servo states of Table 4.1. -/
def servoFree : Nat := 0
def servoAcquiring : Nat := 1
def servoLocked : Nat := 2
def servoHoldover : Nat := 3
def servoLocal : Nat := 4

/-- The servo's state code. -/
def State.servo (s : State) : Nat := s.rn 0x2800 0x04

/-- The sum of the offsets on record. -/
def offSum (l : List Int) : Int := l.foldl (· + ·) 0

/-- The sum of their squares. -/
def offSquares (l : List Int) : Nat := l.foldl (fun a o => a + o.natAbs * o.natAbs) 0

/-- `n` × Σo² − (Σo)²: the record's variance times n². -/
def offSpread (l : List Int) : Nat := l.length * offSquares l - (offSum l).natAbs * (offSum l).natAbs

/-- The variance's divisor over n: n, or n − 1 (Config.sigmaBessel, log 12). -/
def sigmaDiv (n : Nat) : Nat := if Config.sigmaBessel && 1 < n then n - 1 else n

/-- R170: |ō| + 3σ + A + H + S, rounded up to a whole nanosecond. `ticks` is the time since the last valid update. -/
def uValue (l : List Int) (a drift ticks extra : Nat) : Nat :=
  let n := l.length
  if n = 0 then a + extra + ceilDiv (drift * ticks * 25) (10 ^ 10)
  else
    let whole := (offSum l).natAbs * 10 ^ 10 + drift * ticks * 25 * n + (a + extra) * n * 10 ^ 10
    let root := isqrtUp (ceilDiv (9 * offSpread l * 10 ^ 20 * n) (sigmaDiv n))
    ceilDiv (whole + root) (n * 10 ^ 10)

/-- S of R170 with the host's uncertainty (R178). -/
def State.uExtra (s : State) : Nat :=
  match s.rn 0x2800 0x03 with
  | 1 => s.time.hostUnc
  | 2 => s.time.senderU + s.rn 0x2800 0x15
  | _ => 0

/-- Put U in force with 0x5000:02 and 0x5000:03 (R31). -/
def State.setU (s : State) (u : Option Nat) : State :=
  let s := { s with time := { s.time with u := u } }
  match u with
  | none => (s.wn 0x5000 0x02 0xFFFFFFFF).wn 0x5000 0x03 0
  | some v => (s.wn 0x5000 0x02 (min v 0xFFFFFFFF)).wn 0x5000 0x03 (b2n (v ≤ s.rn 0x5000 0x01))

/-- U for the screens of a die: the term of R95 is added on W. -/
def State.uFor (s : State) (die : Nat) : Option Nat :=
  if die = 0 then s.time.u else s.time.u.map (· + s.time.dieExtra)

/-- R31 for a die's screens. -/
def State.lockedFor (s : State) (die : Nat) : Bool :=
  match s.uFor die with
  | some v => v ≤ s.rn 0x5000 0x01
  | none => false

/-- Recompute U (R170): in LOCKED and HOLDOVER from the record; in LOCAL 0x2800:13; otherwise unknown. -/
def State.refreshU (s : State) : State :=
  if s.servo = servoLocked || s.servo = servoHoldover then
    s.setU (some (uValue s.time.offsets (s.rn 0x2800 0x09) (s.rn 0x2800 0x08) (s.clock - s.time.lastValid) s.uExtra))
  else if s.servo = servoLocal then s.setU (some (s.rn 0x2800 0x13))
  else s.setU none

/-! ### Servo (R161, R166 to R169) -/

/-- The nominal increment and R161's bounds of ±500 ppm. -/
def nominalInc : Nat := 0x0280000000
def incLow : Nat := 10732049531
def incHigh : Nat := 10742786949

/-- R161's bound on a slew in ticks: the longer of 1 s and |o| ÷ 400 ppm. -/
def slewBound (o : Int) : Nat := max sTicks (o.natAbs * 1000)

/-- A slew (R161): the servo learns an increment, and removes the offset in a number of ticks, both of its own choosing within the
bounds of R161. -/
def State.slew (s : State) (o : Int) : State :=
  let learnt := min incHigh (max incLow (Config.servoIncrement s.free).toNat)
  let n := 1 + Config.servoTicks s.free % slewBound o
  let s := { s with free := s.free + 1, time := { s.time with learnt := learnt, slewEnd := some (s.clock + n) } }
  s.wn 0x2800 0x02 (min incHigh (max incLow ((learnt : Int) - o * 2 ^ 32 / n).toNat))

/-- The servo's standard deviation in whole ns, rounded down (0x2800:0D). -/
def sigmaNs (l : List Int) : Nat :=
  if l.length = 0 then 0 else isqrt (offSpread l / (l.length * sigmaDiv l.length))

/-- Triggers of a die that a forward step or reload passes fire late; the fire times passed but one are missed (R182). -/
def State.stepTriggers (s : State) (die now : Nat) : State :=
  s.trigs.foldl (fun s p =>
    let u := p.1
    let g := p.2
    if g.armed && g.nextNs < now && u / 8 = die then
      let per := if s.rn (0x2820 + u) 0x01 = 3 then 1000000000 else s.rn (0x2820 + u) 0x03
      let passed := if per = 0 then 1 else (now - 1 - g.nextNs) / per + 1
      let s := { s with trigs := s.trigs.put u { g with late := true } }
      if s.rn (0x2820 + u) 0x01 = 1 then s else s.bump (trigKey u) (0x2820 + u) 0x0A (passed - 1)
    else s) s

/-- Scheduled commits that a forward step passes become due late (R280). -/
def State.stepCommits (s : State) (now : Nat) : State :=
  { s with commits := s.commits.map (fun c =>
      if c.timing = 1 && c.due = none && time96Ns c.time < now then { c with late := true } else c) }

/-- What is clocked keeps its place in its frame across a step or reload of its die's time base: the times that screens, touch ports
and contexts count from move with it (R300 counts lines, not time of day). -/
def State.shiftFrames (s : State) (die : Nat) (o : Int) : State :=
  let move := fun (t : Nat) => ((t : Int) - o).toNat
  { s with
    screens := s.screens.map (fun p =>
      if p.1 / 12 = die then (p.1, { p.2 with start := move p.2.start, prev := move p.2.prev }) else p)
    touch := s.touch.map (fun p =>
      if p.1 = die then (p.1, { p.2 with
        last := p.2.last.map move
        zones := p.2.zones.map (fun z => (z.1, { z.2 with from' := move z.2.from', first := move z.2.first })) }) else p)
    encs := s.encs.map (fun p =>
      if s.rn (0x3510 + p.1) 0x1E / 2 = die then (p.1, { p.2 with last := p.2.last.map (fun f => (f.1, move f.2)) }) else p) }

/-- Load the time base that the servo steers (R169, R637). -/
def State.loadTime (s : State) (now : Nat) (o : Int) : State :=
  if s.dieLost 0 then
    { s with time := { s.time with wSec := now / 1000000000, wNs := now % 1000000000 } }.shiftFrames 1 o
  else { s with time := { s.time with sec := now / 1000000000, ns := now % 1000000000 } }.shiftFrames 0 o

/-- R169: a step loads the time base with its value − o, advances the step generation, counts, raises one event with
the signed step size, and R32 applies. The record of offsets is cleared (R170), and the increment is the learnt one. W follows at
the next comparison (R95). -/
def State.stepTime (s : State) (o : Int) : State :=
  let now := ((s.nowNs : Int) - o).toNat
  let s := { s with time := { s.time with offsets := [], run := 0 } }.loadTime now o
  let s := s.endSlew
  let s := (s.wrap 8 0x2800 0x0E).bump (timeKey 0) 0x2800 0x0F
  let s := s.raise (timeKey 0) 0x0401 2 [(64, wrapInt 8 (-o))]
  ((s.stepLayers).stepTriggers (if s.dieLost 0 then 1 else 0) now).stepCommits now

/-- Triggers that wait for the servo's first lock after reset are armed (R180). -/
def State.armWaiting (s : State) : State :=
  { s with trigs := s.trigs.map (fun p =>
      (p.1, if p.2.waitLock then
        { p.2 with waitLock := false, armed := true, late := decide (p.2.nextNs < s.nowAt (p.1 / 8)) } else p.2)) }

/-- Set the servo state; reaching LOCKED or LOCAL arms what waits (R180). -/
def State.setServo (s : State) (st : Nat) : State :=
  let s := s.wn 0x2800 0x04 st
  if st = servoLocked || st = servoLocal then s.armWaiting else s

/-- FREE: U unknown, the record cleared (Table 4.1); with the local source the increment is nominal (R166). -/
def State.servoToFree (s : State) : State :=
  let s := { s with time := { s.time with offsets := [], run := 0, outRun := 0, freeDue := false } }
  let s := if s.rn 0x2800 0x03 = 3 then
      { s with time := { s.time with learnt := nominalInc, slewEnd := none } }.wn 0x2800 0x02 nominalInc
    else s
  (s.setServo servoFree).setU none

/-- Whether this package is PTP grandmaster (R173): master-capable with its own clock selected. -/
def State.grandmaster (s : State) : Bool := s.rn 0x2A00 0x04 = 1 && s.rn 0x2A00 0x09 = 0xFF

/-- Whether this package is the system's supervisor (0x6800:0B names it). -/
def State.supervisor (s : State) : Bool :=
  s.rn 0x6800 0x0B ≠ 0xFF && s.rn 0x6800 0x0B = s.rn 0x6800 0x0A

/-- The NET that runs the servo (R637), and whether it restarts. -/
def State.servoNet (s : State) : Nat := procKey (if s.dieLost 0 then 1 else 0) .net
def State.servoDown (s : State) : Bool := (s.procs.at' s.servoNet {}).restarting

/-- FREE to LOCAL and back (Table 4.1); not while the NET that runs the servo restarts (R637). -/
def State.servoLocalCheck (s : State) : State :=
  let ok := s.rn 0x2800 0x03 = 3 && (s.grandmaster || s.supervisor)
  if s.servoDown then s
  else if s.servo = servoFree && ok then
    ((s.wn 0x2800 0x02 nominalInc).setServo servoLocal).setU (some (s.rn 0x2800 0x13))
  else if s.servo = servoLocal && !ok then s.servoToFree
  else s

/-- Enter an offset in the record of the last 16 (R170). -/
def TimeS.enter (t : TimeS) (o : Int) : TimeS := { t with offsets := (o :: t.offsets).take 16 }

/-- R167: whether an update is an outlier: only in LOCKED or HOLDOVER, by its distance from ō. -/
def State.outlier (s : State) (o : Int) : Bool :=
  (s.servo = servoLocked || s.servo = servoHoldover) && !s.time.offsets.isEmpty &&
  decide (s.rn 0x2800 0x06 * s.time.offsets.length < ((s.time.offsets.length : Int) * o - offSum s.time.offsets).natAbs)

/-- A valid update (Table 4.1). A host update takes the uncertainty last written (R166). -/
def State.validUpdate (s : State) (o : Int) : State :=
  let big := decide (s.rn 0x2800 0x05 ≤ o.natAbs)
  let s := { s with time := { s.time with
    lastValid := s.clock, dieExtra := 0, outRun := 0, hostUnc := s.rn 0x2800 0x12 } }
  let s := s.wi 0x2800 0x0C o
  let slewed : State → State := fun s => ({ s with time := s.time.enter o }).slew o
  let s :=
    if big then (s.stepTime o).setServo servoAcquiring
    else if s.servo = servoFree then
      let s := slewed s
      { s with time := { s.time with run := 1 } }.setServo servoAcquiring
    else if s.servo = servoAcquiring then
      let s := slewed s
      let n : Nat := s.time.run + 1
      let s := { s with time := { s.time with run := n } }
      if 16 ≤ n then s.setServo servoLocked else s
    else if s.servo = servoHoldover then (slewed s).setServo servoLocked
    else slewed s
  (s.wn 0x2800 0x0D (sigmaNs s.time.offsets)).refreshU

/-- An update of the servo with offset `o` (R167): the outlier rule first. The fourth consecutive outlier is valid. -/
def State.servoUpdate (s : State) (o : Int) : State :=
  if s.servo = servoLocal || s.servoDown then s
  else if s.outlier o && s.time.outRun < 3 then
    { s with time := { s.time with outRun := s.time.outRun + 1 } }.bump (timeKey 0) 0x2800 0x10
  else s.validUpdate o

/-- R166: a write of 0x2800:11 is one host update; it is refused unless the source is 1. -/
def hostOffset (s : State) (v : Val) : State × Nat :=
  if s.rn 0x2800 0x03 = 1 then (s.servoUpdate v.int, 0) else (s, 7)

/-- HOST_OFFSET_WRITE (R166). -/
def execHostOffsetWrite (t : Nat) (r : Req) (o : Int) (s : State) : Host.Outcome State Fault Refusal :=
  .next ((s.tick t).request r 0x2800 0x11 (leBytes 8 (wrapInt 8 o)) hostOffset)

/-- FREE with its statistics cleared (Table 4.1). -/
def State.servoFreed (s : State) : State := (s.servoToFree.wn 0x2800 0x0D 0).servoLocalCheck

/-- R166: a write of the source puts the servo into FREE and clears its statistics; while the NET that runs it restarts, when that NET
is back (R637; DEDUCED, log 158). -/
def servoSource (s : State) (v : Val) : State × Nat :=
  let s := s.wv 0x2800 0x03 v
  if s.servoDown then ({ s with time := { s.time with freeDue := true } }, 0) else (s.servoFreed, 0)

/-- A NET is back after a restart: a write of the source that waited for it takes effect. -/
def State.servoBack (s : State) : State := if s.time.freeDue && !s.servoDown then s.servoFreed else s

/-- SERVO_SOURCE_WRITE (R166). -/
def execServoSourceWrite (t : Nat) (r : Req) (src : Nat) (s : State) : Host.Outcome State Fault Refusal :=
  .next ((s.tick t).request r 0x2800 0x03 (leBytes 1 src) servoSource)

/-- SERVO_LOSS_TIMEOUT (Table 4.1): no valid update for the loss timeout moves LOCKED to HOLDOVER, which holds the learnt
increment (R161): a slew still under way ends (DEDUCED, log 159). -/
def State.servoLoss (s : State) : State :=
  if s.servo = servoLocked && s.time.lastValid + s.rn 0x2800 0x07 * msTicks ≤ s.clock then
    (if s.time.slewEnd.isSome then s.endSlew else s).setServo servoHoldover
  else s

def execServoLossTimeout (t : Nat) (s : State) : Host.Outcome State Fault Refusal :=
  .next (s.tick t).servoLoss

/-- U_REFRESH (R170, Table 4.1): U is recomputed every 1 ms; in HOLDOVER a U above 0xFFFF_FFFE frees the servo, but not while its NET
restarts (R637). -/
def State.uTick (s : State) : State :=
  let s := s.servoLocalCheck.refreshU
  match s.time.u with
  | some v => if s.servo = servoHoldover && 0xFFFFFFFE < v && !s.servoDown then s.servoToFree else s
  | none => s

def execURefresh (t : Nat) (s : State) : Host.Outcome State Fault Refusal :=
  .next (s.tick t).uTick

/-- DIE_TIME_COMPARE (R95): the two time bases are compared. `drift` is what W's has gained on E's since the last comparison beyond
the increments both take, in ns. Beyond 10 ns W is reloaded from E and U is raised by the difference until the next servo update. -/
def State.dieCompare (s : State) (drift : Int) : State :=
  if s.link.lost then s
  else
    let t := s.time
    let e := t.sec * 1000000000 + t.ns
    let w := ((t.wSec * 1000000000 + t.wNs : Nat) : Int) + drift
    let d := (w - e).natAbs
    let s := s.wn 0x2800 0x14 (min 0xFFFF d)
    if 10 < d then
      { s with time := { t with wSec := t.sec, wNs := t.ns, wFrac := t.frac, dieExtra := d } }.shiftFrames 1 (w - e) |>.stepTriggers 1 e
    else { s with time := { t with wSec := w.toNat / 1000000000, wNs := w.toNat % 1000000000 } }

def execDieTimeCompare (t : Nat) (drift : Int) (s : State) : Host.Outcome State Fault Refusal :=
  .next ((s.tick t).dieCompare drift)

/-! ### PTP (R172 to R175) -/

/-- IEEE 1588 message types and port states. -/
def ptpSync : Nat := 0
def ptpDelayReq : Nat := 1
def ptpPdelayReq : Nat := 2
def ptpPdelayResp : Nat := 3
def ptpFollowUp : Nat := 8
def ptpDelayResp : Nat := 9
def ptpPdelayFollowUp : Nat := 10
def ptpAnnounce : Nat := 11
def portInitializing : Nat := 1
def portListening : Nat := 4
def portMaster : Nat := 6
def portPassive : Nat := 7
def portSlave : Nat := 9

/-- Whether a port takes part in PTP: enabled in 0x2A00:01 and up (R173). -/
def State.ptpOn (s : State) (p : Nat) : Bool := bit (s.rn 0x2A00 0x01) p && s.rn (0x2910 + p) 0x0A = 1

/-- A data set's order in the best master comparison: lower is better. -/
def rankOf (m : PtpMsg) : List Nat :=
  [m.priority1, m.clockClass, m.accuracy, m.variance, m.priority2, m.gmIdentity, m.steps, m.senderIdentity]

/-- Lexicographic order of ranks. -/
def rankLt : List Nat → List Nat → Bool
  | a :: as, b :: bs => if a < b then true else if b < a then false else rankLt as bs
  | _, _ => false

/-- The clock identity: EUI-64 of the base MAC address (Table 4.8). -/
def State.clockIdentity (s : State) : Nat :=
  s.otp.mac / 2 ^ 24 * 2 ^ 40 + 0xFFFE * 2 ^ 24 + s.otp.mac % 2 ^ 24

/-- This package's own data set (R173); its variance is the standard's default (log 13). -/
def State.ownRank (s : State) : List Nat :=
  [s.rn 0x2A00 0x05, 248, 0xFE, 0xFFFF, s.rn 0x2A00 0x06, s.clockIdentity, 0, s.clockIdentity]

/-- The best announced master over the ports that take part. -/
def State.bestMaster (s : State) : Option (Nat × List Nat) :=
  (List.range 16).foldl (fun b p =>
    if s.ptpOn p then
      match (s.ptp.at' p {}).best with
      | none => b
      | some m => match b with
        | none => some (p, (rankOf m))
        | some (q, r) => if rankLt (rankOf m) r then some (p, (rankOf m)) else some (q, r)
    else b) none

/-- The BMCA (R173): reselect every port's state and the parent port, and take the UTC offset (R171). A port that takes no part has
the state it has at reset (DESIGN CHOICE, log 160). -/
def State.bmca (s : State) : State :=
  let own := s.rn 0x2A00 0x04 = 1 && (match s.bestMaster with
    | none => true
    | some (_, r) => rankLt s.ownRank r)
  let parent : Option Nat := if own then none else s.bestMaster.map (·.1)
  let s := (List.range 16).foldl (fun s p =>
    let st := if !s.ptpOn p then portInitializing
      else if own then portMaster
      else if parent = some p then portSlave
      else if s.rn 0x2A00 0x04 = 0 then portListening
      else if (s.ptp.at' p {}).best.isSome then portPassive else portMaster
    if s.rn (0x2A10 + p) 0x03 = st then s else s.wn (0x2A10 + p) 0x03 st) s
  let s := s.wn 0x2A00 0x09 (parent.getD 0xFF)
  let utc := match parent with
    | some p => match (s.ptp.at' p {}).best with
      | some m => if m.utcValid then m.utcOffset else s.rd 0x2800 0x0B
      | none => s.rd 0x2800 0x0B
    | none => s.rd 0x2800 0x0B
  (s.wi 0x2800 0x0A utc).servoLocalCheck

/-- One offset from a Sync's times (R166, R174): needs a current path delay. -/
def State.ptpOffset (s : State) (p : Nat) (delta : Int) : State :=
  let g := s.ptp.at' p {}
  let s := { s with ptp := s.ptp.put p { g with syncDelta := some delta } }
  match g.pathDelay with
  | some d => s.servoUpdate (delta - d)
  | none => s

/-- The time base of the die a port stands on (R174). -/
def State.portNow (s : State) (p : Nat) : Nat := s.nowAt (p / 8)

/-- Whether a message type is an event message, which carries the time it was sent. -/
def ptpEvent (kind : Nat) : Bool := kind ≤ 3

/-- A PTP message sent on a port (R172, R174): over the port's transport, with the log interval of its type; one-step transmission
writes an event message in hardware and updates its UDP checksum for IPv6, or clears it for IPv4. -/
def State.ptpSend (s : State) (p kind seq time : Nat) (corr : Int := 0) (follow : Bool := false) (gm : List Nat := []) : State :=
  let tr := s.rn (0x2A10 + p) 0x01
  let log : Int := if kind = ptpAnnounce then s.rd 0x2A00 0x0B else if kind = ptpSync || kind = ptpFollowUp then s.rd 0x2A00 0x0A else 0
  let sum := if s.rn 0x2A00 0x07 = 0 && ptpEvent kind then (match tr with | 0 => 2 | 1 => 1 | _ => 0) else 0
  s.say (.ptp p { kind := kind, transport := tr, domain := s.rn 0x2A00 0x03, seq := seq, time := time, correction := corr, logInterval := log, twoStep := follow, gm := gm, utc := if gm.isEmpty then 0 else s.rd 0x2800 0x0A, sum := sum })

/-- This package's port identity: the clock identity with the port's number from 1 (PRESUMED of IEEE 1588-2019, log 161). -/
def State.portIdentity (s : State) (p : Nat) : Nat := s.clockIdentity * 65536 + p + 1

/-- A delay request: E2E Delay_Req or P2P Pdelay_Req, its correctionField less the port's asymmetry (R174). -/
def State.ptpRequest (s : State) (p : Nat) : State :=
  let g := s.ptp.at' p {}
  let n := wrapInc 16 g.reqSeq
  let kind := if s.rn 0x2A00 0x02 = 0 then ptpDelayReq else ptpPdelayReq
  ({ s with ptp := s.ptp.put p { g with reqSeq := n, reqTx := some (s.portNow p), turn := none } }).ptpSend p kind n
    (s.portNow p) (-(s.rd (0x2A10 + p) 0x02))

/-- Set a port's mean path delay (0x2A10+p:04). -/
def State.setPathDelay (s : State) (p : Nat) (d : Int) : State :=
  ({ s with ptp := s.ptp.put p { s.ptp.at' p {} with pathDelay := some d } }).wn (0x2A10 + p) 0x04 d.toNat

/-- NET takes a PTP message (R172, R173). `asym` is the port's delayAsymmetry. -/
def State.ptpTake (s : State) (p : Nat) (m : PtpMsg) : State :=
  let g := s.ptp.at' p {}
  let asym := s.rd (0x2A10 + p) 0x02
  let isParent : Bool := s.rn 0x2A00 0x09 = p && g.best.map (·.senderIdentity) = some m.senderIdentity
  let mine : Bool := m.requester = s.portIdentity p
  let drop := s.bump (ethKey p) (0x2A10 + p) 0x06
  if m.domain ≠ s.rn 0x2A00 0x03 || m.transport ≠ s.rn (0x2A10 + p) 0x01 then drop
  else if (m.kind = ptpSync || m.kind = ptpFollowUp) && (m.logInterval < -7 || 1 < m.logInterval) then drop
  else if m.kind = ptpAnnounce then
    let better : Bool := match g.best with
      | none => true
      | some b => b.senderIdentity = m.senderIdentity || rankLt (rankOf m) (rankOf b)
    let s := if better then { s with ptp := s.ptp.put p { g with best := some m, lastAnnounce := s.clock } } else s
    s.bmca
  else if m.kind = ptpSync then
    if !isParent then s
    else
      let s := s.bump (ethKey p) (0x2A10 + p) 0x05
      let s := s.ptpRequest p
      if m.twoStep then
        { s with ptp := s.ptp.put p { s.ptp.at' p {} with
            twoStep := true, syncSeq := m.seqId, syncRx := some m.rxNs, syncCorr := m.correction } }
      else s.ptpOffset p ((m.rxNs : Int) - m.originNs - m.correction - asym)
  else if m.kind = ptpFollowUp then
    match g.syncRx with
    | some rx =>
      if isParent && g.twoStep && m.seqId = g.syncSeq then
        let s := { s with ptp := s.ptp.put p { g with syncRx := none, twoStep := false } }
        s.ptpOffset p ((rx : Int) - m.originNs - m.correction - g.syncCorr - asym)
      else s
    | none => s
  else if m.kind = ptpDelayResp && s.rn 0x2A00 0x02 = 0 then
    match g.reqTx, g.syncDelta with
    | some tx, some d =>
      if mine && m.seqId = g.reqSeq then s.setPathDelay p ((d + (m.originNs : Int) - tx - m.correction) / 2) else s
    | _, _ => s
  else if m.kind = ptpPdelayResp && s.rn 0x2A00 0x02 = 1 then
    match g.reqTx with
    | some tx =>
      if !mine || m.seqId ≠ g.reqSeq then s
      else if m.twoStep then
        { s with ptp := s.ptp.put p { g with turn := some ((m.originNs : Int) - m.correction), respRx := m.rxNs } }
      else s.setPathDelay p (((m.rxNs : Int) - tx - m.correction - asym) / 2)
    | none => s
  else if m.kind = ptpPdelayFollowUp && s.rn 0x2A00 0x02 = 1 then
    match g.reqTx, g.turn with
    | some tx, some t2 =>
      if mine && m.seqId = g.reqSeq then
        s.setPathDelay p (((g.respRx : Int) - tx - ((m.originNs : Int) + m.correction - t2) - asym) / 2)
      else s
    | _, _ => s
  else if m.kind = ptpDelayReq && s.rn (0x2A10 + p) 0x03 = portMaster then
    s.ptpSend p ptpDelayResp m.seqId m.rxNs m.correction
  else if m.kind = ptpPdelayReq && s.rn 0x2A00 0x02 = 1 then
    if s.rn 0x2A00 0x07 = 1 then
      (s.ptpSend p ptpPdelayResp m.seqId m.rxNs 0 true).ptpSend p ptpPdelayFollowUp m.seqId (s.portNow p) m.correction
    else s.ptpSend p ptpPdelayResp m.seqId 0 (m.correction + s.portNow p - m.rxNs)
  else s

/-- R175: who takes a PTP frame. A port that is not up receives none. -/
def State.ptpMessage (s : State) (p : Nat) (m : PtpMsg) (data : List Byte) : State :=
  if (s.procs.at' (procKey (p / 8) .net) {}).restarting || s.rn (0x2910 + p) 0x0A ≠ 1 then s
  else if bit (s.rn 0x2A00 0x01) p && s.rn 0x2800 0x03 = 0 then s.ptpTake p m
  else if s.rn (0x2910 + p) 0x11 = 1 then s.toHost p data
  else s.bump (ethKey p) (0x2A10 + p) 0x06

/-- PTP_MESSAGE (R175). -/
def execPtpMessage (t p : Nat) (m : PtpMsg) (data : List Byte) (s : State) : Host.Outcome State Fault Refusal :=
  .next ((s.tick t).ptpMessage p m data)

/-- The announce receipt timeout in ticks: 0x2A00:0C announce intervals. -/
def State.announceTicks (s : State) : Nat := s.rn 0x2A00 0x0C * 2 ^ s.rn 0x2A00 0x0B * sTicks

/-- PTP_ANNOUNCE_TIMEOUT (R173): the master a port follows is forgotten and the BMCA reselects. -/
def State.announceTimeout (s : State) (p : Nat) : State :=
  let g := s.ptp.at' p {}
  if g.best.isSome && g.lastAnnounce + s.announceTicks ≤ s.clock then
    ({ s with ptp := s.ptp.put p { g with best := none } }).bmca
  else s

def execPtpAnnounceTimeout (t p : Nat) (s : State) : Host.Outcome State Fault Refusal :=
  .next ((s.tick t).announceTimeout p)

/-- The grandmaster's data an Announce carries (R173): this package's own, or, of a boundary clock with a parent, that of the parent's
grandmaster one step further (PRESUMED of IEEE 1588-2019, log 161). -/
def State.announced (s : State) : List Nat :=
  match s.bestMaster with
  | some (p, r) => if s.rn 0x2A00 0x09 = p then (r.take 6) ++ [(r[6]?).getD 0 + 1] else s.ownRank.take 7
  | none => s.ownRank.take 7

/-- PTP_MASTER_SEND (R172, R173): a MASTER port sends Announce and Sync, with a Follow_Up in two-step mode, and its peer delay
request in P2P. -/
def State.masterSend (s : State) (p : Nat) : State :=
  if s.ptpOn p && s.rn (0x2A10 + p) 0x03 = portMaster then
    let g := s.ptp.at' p {}
    let n := wrapInc 16 g.syncSeq
    let s := { s with ptp := s.ptp.put p { g with syncSeq := n } }
    let two : Bool := s.rn 0x2A00 0x07 = 1
    let now := s.portNow p
    let s := (s.ptpSend p ptpAnnounce n now 0 false s.announced).ptpSend p ptpSync n (if two then 0 else now) 0 two
    let s := if two then s.ptpSend p ptpFollowUp n now else s
    if s.rn 0x2A00 0x02 = 1 then s.ptpRequest p else s
  else s

def execPtpMasterSend (t p : Nat) (s : State) : Host.Outcome State Fault Refusal :=
  .next ((s.tick t).masterSend p)

/-! ### Trigger units (R179 to R183) -/

/-- A unit's row. -/
def State.trig (s : State) (u : Nat) : TrigS := s.trigs.at' u {}

/-- The time base of a unit's die. -/
def State.trigNow (s : State) (u : Nat) : Nat := s.nowAt (u / 8)

/-- The period in force: 1 s in PPS mode. -/
def State.trigPeriod (s : State) (u : Nat) (mode : Nat) : Nat :=
  if mode = 3 then 1000000000 else s.rn (0x2820 + u) 0x03

/-- The first fire time: the start, rounded up to a whole second in PPS mode (R179). -/
def State.trigStart (s : State) (u : Nat) (mode : Nat) : Nat :=
  let st := time96Ns (s.rn (0x2820 + u) 0x02)
  if mode = 3 then ceilDiv st 1000000000 * 1000000000 else st

/-- TIME96 of a time in ns. -/
def nsTime96 (n : Nat) : Nat := time96 (n / 1000000000) (n % 1000000000)

/-- The pins owned by trigger and capture units other than the one at `skip` (index). -/
def State.pinOwned (s : State) (pin skip : Nat) : Bool :=
  pin ≠ 0xFF &&
  ((List.range 16).any (fun u => 0x2820 + u ≠ skip && s.rn (0x2820 + u) 0x05 = pin) ||
   (List.range 8).any (fun c => 0x2840 + c ≠ skip && s.rn (0x2840 + c) 0x02 = pin))

/-- R180, R183: a write of a unit's mode. Non-zero arms it, anew where it was armed in another mode; 0 disarms it. A spent unit is
armed only once mode 0 has been written. A write of mode 2 is refused while the pulse width is at or above the period. -/
def trigMode (u : Nat) (s : State) (v : Val) : State × Nat :=
  let m := v.int.toNat
  if m = 2 && s.rn (0x2820 + u) 0x03 ≤ s.rn (0x2820 + u) 0x06 then (s, 6)
  else if m = 0 then
    ({ s.wv (0x2820 + u) 0x01 v with trigs := s.trigs.put u { s.trig u with armed := false, spent := false, waitLock := false } }, 0)
  else if (s.trig u).spent then (s.wv (0x2820 + u) 0x01 v, 0)
  else
    let n := s.trigStart u m
    let s' := s.wv (0x2820 + u) 0x01 v
    (({ s' with trigs := s.trigs.put u { s.trig u with
        armed := true, spent := false, waitLock := false, nextNs := n, late := decide (n < s.trigNow u) } }).wn
      (0x2820 + u) 0x09 (nsTime96 n), 0)

/-- R180, R183: the other objects of a unit take writes only in mode 0, with R183's checks. -/
def trigConfig (u sub : Nat) (s : State) (v : Val) : State × Nat :=
  let i := 0x2820 + u
  if s.rn i 0x01 ≠ 0 then (s, 7)
  else if sub = 0x06 && s.rn i 0x03 ≤ v.int.toNat then (s, 6)
  else if sub = 0x03 && v.int.toNat ≤ s.rn i 0x06 then (s, 6)
  else if sub = 0x05 && s.pinOwned v.int.toNat i then (s, 7)
  else if sub = 0x05 && v.int.toNat ≠ 0xFF && s.rn 0x2500 0x0B = v.int.toNat then (s, 7)
  else (s.wv i sub v, 0)

/-- R183: a capture unit's pin. -/
def capPin (c : Nat) (s : State) (v : Val) : State × Nat :=
  if s.pinOwned v.int.toNat (0x2840 + c) then (s, 7)
  else if v.int.toNat ≠ 0xFF && s.rn 0x2500 0x0B = v.int.toNat then (s, 7)
  else (s.wv (0x2840 + c) 0x02 v, 0)

/-- TRIGGER_ARM (R180). -/
def execTriggerArm (t : Nat) (r : Req) (u mode : Nat) (s : State) : Host.Outcome State Fault Refusal :=
  .next ((s.tick t).request r (0x2820 + u) 0x01 (leBytes 1 mode) (trigMode u))

/-- TRIGGER_DISARM (R180). -/
def execTriggerDisarm (t : Nat) (r : Req) (u : Nat) (s : State) : Host.Outcome State Fault Refusal :=
  .next ((s.tick t).request r (0x2820 + u) 0x01 [0] (trigMode u))

/-- Whether a unit is an armed one with its frame-start target and this screen in its mask (R303). -/
def State.trigAligns (s : State) (u scr : Nat) : Bool :=
  (s.trig u).armed && bit (s.rn (0x2820 + u) 0x04) 1 && bit (s.rn (0x2820 + u) 0x08) scr

/-- The unit that aligns a screen: the lowest-numbered of its armed units (R304). -/
def State.aligner (s : State) (scr : Nat) : Option Nat := (List.range 16).find? (fun u => s.trigAligns u scr)

/-- A screen's row. -/
def State.screen (s : State) (x : Nat) : ScreenS := s.screens.at' x {}

/-- Set a screen's row. -/
def State.setScreen (s : State) (x : Nat) (c : ScreenS) : State := { s with screens := s.screens.put x c }

/-- The frame-start target (R181, R304): screens in the mask that take requests from this unit; those on a DEAD or
FENCED die are ignored. -/
def State.trigFrames (s : State) (u : Nat) : State :=
  (List.range 24).foldl (fun s x =>
    if s.aligner x = some u && !s.dieLost (x / 12) then s.setScreen x { s.screen x with align := true } else s) s

/-- The scheduled-commit target (R181, R268): commits waiting on the unit become due now. -/
def State.trigCommits (s : State) (u : Nat) : State :=
  { s with commits := s.commits.map (fun c =>
      if c.timing = 2 && c.trig = u && c.due = none then
        { c with due := some s.nowNs, unlocked := !s.lockedFor 0 } else c) }

/-- R181, R182: a unit reaches its fire time and acts on its targets; it is then spent, or takes its next fire time. -/
def State.trigFire (s : State) (u : Nat) : State :=
  let g := s.trig u
  let i := 0x2820 + u
  let m := s.rn i 0x01
  if !g.armed || s.trigNow u < g.nextNs then s
  else
    let tg := s.rn i 0x04
    let drives : Bool := bit tg 0 && s.rn i 0x05 ≠ 0xFF
    let s := if drives then s.say (.pin (s.rn i 0x05) (s.rn i 0x07 = 0)) else s
    let s := if bit tg 1 then s.trigFrames u else s
    let s := if bit tg 2 then s.trigCommits u else s
    let s := if bit tg 3 then s.raise (trigKey u) 0x0402 0 [(8, u), (56, nsTime96 g.nextNs)] else s
    let per := s.trigPeriod u m
    let next := if m = 1 || per = 0 then g.nextNs
      else if g.late then g.nextNs + ((s.trigNow u - g.nextNs) / per + 1) * per
      else g.nextNs + per
    let s := if m = 1 && g.late then s.wn i 0x0B 1 else s
    let g' := { g with armed := decide (m ≠ 1), spent := decide (m = 1), late := false, nextNs := next }
    let g' := if drives then
        { g' with pinActive := true, pin := s.rn i 0x05, idle := decide (s.rn i 0x07 ≠ 0), until' := s.clock + ceilDiv (2 * s.rn i 0x06) 5 }
      else g'
    let s := { s with trigs := s.trigs.put u g' }
    if m = 1 then s else s.wn i 0x09 (nsTime96 next)

/-- TRIGGER_FIRE (R181). -/
def execTriggerFire (t u : Nat) (s : State) : Host.Outcome State Fault Refusal :=
  .next ((s.tick t).trigFire u)

/-- TRIGGER_PULSE_END (R181): once the pulse width has run, the pin that fired returns to its inactive level. -/
def State.pulseEnd (s : State) (u : Nat) : State :=
  let g := s.trig u
  if g.pinActive && g.until' ≤ s.clock then
    ({ s with trigs := s.trigs.put u { g with pinActive := false } }).say (.pin g.pin g.idle)
  else s

def execTriggerPulseEnd (t u : Nat) (s : State) : Host.Outcome State Fault Refusal :=
  .next ((s.tick t).pulseEnd u)

/-- A read that returns an object and clears it to 0. -/
def clearRead (idx sub : Nat) (s : State) : State × Nat × Val := (s.wn idx sub 0, 0, s.val idx sub)

/-- TRIGGER_LATE_READ (R182). -/
def execTriggerLateRead (t : Nat) (r : Req) (u : Nat) (s : State) : Host.Outcome State Fault Refusal :=
  .next ((s.tick t).readReq r (0x2820 + u) 0x0B (clearRead (0x2820 + u) 0x0B))

/-! ### Capture units (R184, R185) -/

/-- A unit's row. -/
def State.cap (s : State) (c : Nat) : CapS := s.caps.at' c {}

/-- Whether an edge mode stamps an edge. -/
def edgeOn (mode : Nat) (rising : Bool) : Bool := mode = 3 || (mode = 1 && rising) || (mode = 2 && !rising)

/-- R184, R185: an edge on a unit's pin; one less than 10 ns (4 ticks) after the last stamped is not stamped. -/
def State.captureEdge (s : State) (c : Nat) (rising : Bool) : State :=
  let g := s.cap c
  let i := 0x2840 + c
  let now := s.clockOf (c / 4)
  if !edgeOn (s.rn i 0x01) rising || s.rn i 0x02 = 0xFF then s
  else if (match g.lastAt with | some p => decide (s.clock < p + 4) | none => false) then s.bump (capKey c) i 0x06
  else
    let r : CapRec := ⟨time96 now.1 now.2, s.rn i 0x07, s.rn 0x2800 0x0E, rising⟩
    let s := s.wrap 16 i 0x07
    if g.recs.length < 16 then
      ({ s with caps := s.caps.put c { g with recs := g.recs ++ [r], lastAt := some s.clock } }).wn i 0x03 (g.recs.length + 1)
    else
      let s := { s with caps := s.caps.put c { g with lastAt := some s.clock, full := true } }
      let s := s.bump (capKey c) i 0x05
      if g.full then s else s.raise (capKey c) 0x0403 1 [(8, c)]

/-- CAPTURE_EDGE (R184). -/
def execCaptureEdge (t c : Nat) (rising : Bool) (s : State) : Host.Outcome State Fault Refusal :=
  .next ((s.tick t).captureEdge c rising)

/-- A record's 16 bytes (Table 4.3). -/
def CapRec.bytes (r : CapRec) : List Byte :=
  leBytes 12 r.time ++ leBytes 2 r.seq ++ leBytes 1 r.gen ++ leBytes 1 (b2n r.edge)

/-- R185: the oldest record is returned and removed; with none held, status 9. -/
def capRead (c : Nat) (s : State) : State × Nat × Val :=
  let g := s.cap c
  match g.recs with
  | [] => (s, 9, .bytes [])
  | r :: rs =>
    (({ s with caps := s.caps.put c { g with recs := rs, full := false } }).wn (0x2840 + c) 0x03 rs.length, 0,
     .bytes r.bytes)

/-- CAPTURE_RECORD_READ (R185). -/
def execCaptureRecordRead (t : Nat) (r : Req) (c : Nat) (s : State) : Host.Outcome State Fault Refusal :=
  .next ((s.tick t).readReq r (0x2840 + c) 0x04 (capRead c))

end Sys2Proof.Machine
end

