-- ==== Sys2Proof/Machine/Spaydun.lean ====
section
/-! DEFINITION. The Spaydun Link as every chapter uses it: routes (R559, R560), frames made ready (R465 to R473), received
frames and their checks (Table 13.4, R562), go-back-N (R471) and port capacity (R477). -/

namespace Sys2Proof.Machine

/-- A port's dictionary index and row. -/
def spIdx (q : Nat) : Nat := 0x6510 + q
def State.sp (s : State) (q : Nat) : SpayS := s.spay.at' q {}
def State.setSp (s : State) (q : Nat) (g : SpayS) : State := { s with spay := s.spay.put q g }

/-- Port states (Table 13.6). -/
def spDisabled : Nat := 0
def spDown : Nat := 1
def spTraining : Nat := 2
def spUp : Nat := 3
def spRestriping : Nat := 4
def spTest : Nat := 5
def State.spState (s : State) (q : Nat) : Nat := s.rn (spIdx q) 0x04

/-- Frame types (Table 13.3) and control opcodes (Table 17.6). -/
def ftPixel : Nat := 1
def ftStream : Nat := 2
def ftControl : Nat := 3
def ftDigest : Nat := 4
def ftMark : Nat := 5
def opPresence : Nat := 1
def opRejoin : Nat := 12

/-- R559: a package whose home ID lies in neither mask in force is standalone. -/
def State.memberMask (s : State) : Nat := s.fn 0x6800 0x02
def State.spareMaskIds (s : State) : Nat := s.fn 0x6800 0x03
def State.standalone (s : State) : Bool :=
  !bit (Nat.lor s.memberMask s.spareMaskIds) (s.fn 0x6800 0x01)

/-- The fenced role (0x6800:09). -/
def State.isFencedPkg (s : State) : Bool := s.rn 0x6800 0x09 = 3

/-- A spare that serves no role (R566): it composes nothing. -/
def State.idleSpare (s : State) : Bool :=
  s.rn 0x6800 0x09 = 2 || (s.rn 0x6800 0x09 = 4 && (s.sys.joined || bit s.spareMaskIds (s.fn 0x6800 0x01)))

/-- An entry of the system table; the role of one not yet known follows the masks. -/
def State.ent (s : State) (p : Nat) : EntS := s.sys.table.at' p {}
def State.setEnt (s : State) (p : Nat) (e : EntS) : State := { s with sys := { s.sys with table := s.sys.table.put p e } }
def State.peer (s : State) (p : Nat) : PeerS := s.sys.peers.at' p {}

/-! ### Routes (R560) -/

/-- The neighbour on a port of a package: this package's own from its ports (0x6510+q:07), another's from its presence
frames. -/
def State.neighbour (s : State) (p q : Nat) : Option (Nat × Nat) :=
  if p = s.pkgId then
    let v := s.rn (spIdx q) 0x07
    if (s.spState q = spUp || s.spState q = spRestriping) && v ≠ 0xFF then some (v % 16, v / 16 % 2) else none
  else if q = 0 then (s.peer p).nbA else (s.peer p).nbB

/-- Packages passed from package `p` leaving by port `q` until `dst` is reached; none where the path ends before it. -/
def State.pathLen (s : State) (dst : Nat) : Nat → Nat → Nat → Option Nat
  | 0, _, _ => none
  | n + 1, p, q =>
    match s.neighbour p q with
    | none => none
    | some (r, rq) => if r = dst then some 1 else (s.pathLen dst n r (1 - rq)).map (· + 1)

/-- The preferred port of a package toward another: the one on the shorter path, port A when both are equal. -/
def State.prefer (s : State) (p dst : Nat) : Option Nat :=
  match s.pathLen dst 16 p 0, s.pathLen dst 16 p 1 with
  | some a, some b => if b < a then some 1 else some 0
  | some _, none => some 0
  | none, some _ => some 1
  | none, none => none

/-! ### Lanes (R451, R463) -/

/-- A lane's dictionary index, and whether its test mode, generator or checker is not 0. -/
def laneIdx (l : Nat) : Nat := 0x6410 + l
def State.inTest (s : State) (l : Nat) : Bool :=
  s.rn (laneIdx l) 0x04 ≠ 0 || s.rn (laneIdx l) 0x05 ≠ 0 || s.rn (laneIdx l) 0x06 ≠ 0

/-- Whether a lane holds lock and is in service. -/
def State.laneLocked (s : State) (l : Nat) : Bool := s.rn (laneIdx l) 0x0A = 1

/-- Set a lane's lock (0x6410+l:0A, 0x6400:02); a lane in test shows 2. -/
def State.setLock (s : State) (l : Nat) (b : Bool) : State :=
  let s := s.wn (laneIdx l) 0x0A (if s.inTest l then 2 else b2n b)
  let s := s.wn 0x6400 0x02 (setBit (s.rn 0x6400 0x02) l (b && !s.inTest l))
  if b then { s with lanes := s.lanes.put l ⟨s.clock⟩ } else s

/-! ### Sending (R467 to R473) -/

/-- A frame becomes ready on a port that is up or re-striping. -/
def State.ready (s : State) (q : Nat) (f : SpOut) : State :=
  if s.spState q = spUp || s.spState q = spRestriping then
    s.setSp q { s.sp q with ready := (s.sp q).ready ++ [f] }
  else s

/-- Whether this package may send a frame (R559, R568). -/
def State.maySend (s : State) (ftype opcode : Nat) : Bool :=
  if s.standalone then ftype = ftMark
  else if s.isFencedPkg then ftype = ftControl && (opcode = opPresence || opcode = opRejoin)
  else true

/-- A frame of this package, with its epoch and generation; bit 1 of `flags` unsequenced, bit 2 broadcast. -/
def State.ownFrame (s : State) (ftype dst flags : Nat) (payload : List Byte) : SpOut :=
  ⟨ftype, s.pkgId, dst, flags, 0, s.rn 0x2100 0x01, s.rn 0x6800 0x08, payload⟩

/-- Send a unicast frame on the preferred port. -/
def State.unicast (s : State) (ftype opcode dst : Nat) (payload : List Byte) : State :=
  if !s.maySend ftype opcode then s
  else match s.prefer s.pkgId dst with
    | some q => s.ready q (s.ownFrame ftype dst 0 payload)
    | none => s

/-- Send a broadcast on both ports. -/
def State.broadcast (s : State) (ftype opcode : Nat) (payload : List Byte) : State :=
  if !s.maySend ftype opcode then s
  else
    let f := s.ownFrame ftype 0 4 payload
    (s.ready 0 f).ready 1 f

/-- A control frame of an opcode (Table 17.6). -/
def State.control (s : State) (dst opcode : Nat) (body : List Byte) : State :=
  s.unicast ftControl opcode dst (beBytes 2 opcode ++ body)

/-- A frame's header, payload and CRC-32C (R467). -/
def SpOut.bytes (f : SpOut) (seq ack : Nat) (payload : List Byte) : List Byte :=
  let b := beBytes 1 f.ftype ++ beBytes 1 (16 * f.src + f.dst) ++ beBytes 1 (Nat.lor f.flags 1) ++ beBytes 1 f.hops ++
    beBytes 2 f.epoch ++ beBytes 4 f.gen ++ beBytes 2 seq ++ beBytes 2 ack ++ beBytes 2 payload.length ++ payload
  b ++ beBytes 4 (crc 1 b)

/-! ### Symbols on the lanes (R457, R465 to R467) -/

/-- D5.6, which fills the rest of a frame's last column and every second idle column. -/
def d56 : Sym := .d 0xC5

/-- A sequence of symbols in columns of `w` lanes, the last filled with D5.6. The first number bounds the columns. -/
def symCols : Nat → Nat → List Sym → List (List Sym)
  | 0, _, _ => []
  | k + 1, w, l =>
    if l.isEmpty || w = 0 then []
    else ((l ++ List.replicate w d56).take w) :: symCols k w (l.drop w)

/-- A frame on `w` lanes (R466): K27.7 on logical lane 0, byte i on lane (i + 1) mod w in column ⌊(i + 1) ÷ w⌋, K29.7 in the
next position, D5.6 in the rest of that column. -/
def frameCols (w : Nat) (bytes : List Byte) : List (List Sym) :=
  symCols (bytes.length + 2) w (.k277 :: bytes.map Sym.d ++ [.k297])

/-- Columns without lint sets: a column of K28.5 with the columns of K28.0 that follow it (R457; the elastic buffer deletes or
inserts one, R458). -/
def dropLint : Bool → List (List Sym) → List (List Sym)
  | _, [] => []
  | inLint, c :: cs =>
    if !c.isEmpty && c.all (· = .k285) then dropLint true cs
    else if inLint && !c.isEmpty && c.all (· = .k280) then dropLint true cs
    else c :: dropLint false cs

/-- The data bytes at the start of symbols. -/
def dataRun : List Sym → List Byte
  | .d b :: l => b :: dataRun l
  | _ => []

/-- The bytes of a received frame, from its header on. -/
def frameData (x : SpWire) : List Byte := dataRun ((dropLint false x.cols).flatten.drop 1)

/-- A received frame's fields (Table 13.3) out of its columns on `w` lanes: framing holds where every column has `w` symbols,
the frame starts with K27.7, and K29.7 stands at the position the length gives with data alone before it. -/
def parseFrame (w : Nat) (x : SpWire) : SpFrame :=
  let cols := dropLint false x.cols
  let syms := cols.flatten
  let b := frameData x
  let at' := fun (i n : Nat) => beNat ((b.drop i).take n)
  let len := at' 14 2
  let ok : Bool := cols.all (fun c => c.length = w) && syms.head? = some .k277 && 16 ≤ b.length && len ≤ 8192 &&
    b.length = 20 + len && syms[21 + len]? = some .k297 && cols.length = (22 + len + w - 1) / w
  ⟨ok, at' (16 + len) 4 = crc 1 (b.take (16 + len)), at' 0 1, at' 1 1 / 16, at' 1 1 % 16, at' 2 1, at' 3 1, at' 4 2, at' 6 4,
   at' 10 2, at' 12 2, (b.drop 16).take len, x.rxNs⟩

/-- A frame received by a port, on the lanes it has in use. -/
def State.spFrame (s : State) (q : Nat) (x : SpWire) : SpFrame := parseFrame (s.rn (spIdx q) 0x05) x

/-- The next sequence a port sends for a type, and the next control sequence it expects. -/
def SpayS.seqOf (g : SpayS) (ty : Nat) : Nat := g.txSeq.at' ty 0
def SpayS.expects (g : SpayS) : Nat := g.rxSeq.at' ftControl 0

/-- A time mark with its transmit stamp (R470). -/
def stampMark (payload : List Byte) (stamp : Nat) : List Byte :=
  payload.take 8 ++ beBytes 12 stamp ++ payload.drop 20

/-- A frame leaves a port: it takes its type's next sequence, carries the acknowledgement, and a sequenced control frame
is kept until acknowledged. -/
def State.emit (s : State) (q : Nat) (f : SpOut) : State :=
  let g := s.sp q
  let seqd := f.ftype ≠ ftControl || !bit f.flags 1
  let n := if seqd then g.seqOf f.ftype else 0
  let pl := if f.ftype = ftMark then stampMark f.payload (time96 (s.clockOf q).1 (s.clockOf q).2) else f.payload
  let g := if seqd then { g with txSeq := g.txSeq.put f.ftype (wrapInc 16 n) } else g
  let g := if f.ftype = ftControl && seqd then
      { g with unacked := g.unacked ++ [(n, f)], progress := if g.unacked.isEmpty then s.clock else g.progress }
    else g
  (s.setSp q { g with ackAt := none }).say (.frame q (frameCols (s.rn (spIdx q) 0x05) (f.bytes n g.expects pl)))

/-- The place of a type in the order of R473. -/
def typeRank (ty : Nat) : Nat :=
  if ty = ftControl || ty = ftMark then 0 else if ty = ftDigest then 1 else if ty = ftStream then 2 else 3

/-- Whether a ready frame may go: at most 32 control frames are unacknowledged. -/
def SpayS.mayGo (g : SpayS) (f : SpOut) : Bool := f.ftype ≠ ftControl || bit f.flags 1 || g.unacked.length < 32

/-- The first frame of the lowest rank that may go. -/
def SpayS.pick (g : SpayS) : Option SpOut :=
  match [0, 1, 2, 3].filterMap (fun r => g.ready.find? (fun f => typeRank f.ftype = r && g.mayGo f)) with
  | f :: _ => some f
  | [] => none

/-! ### Presence (R561, Table 17.1) -/

/-- A neighbour field: package, partner port, valid. -/
def State.neighbourByte (s : State) (q : Nat) : Nat :=
  match s.neighbour s.pkgId q with
  | some (r, rq) => r + 16 * rq + 32
  | none => 0

/-- An entry of the presence body; this package's own carries its epoch, health, summary, serial number, the role it has and
the root of its own recorded tree. -/
def State.entryBytes (s : State) (p : Nat) : List Byte :=
  let e := s.ent p
  let role := s.rn 0x6800 0x09
  let e := if p = s.pkgId then
      { e with
        epoch := s.rn 0x2100 0x01, health := s.rn 0x2100 0x03, summary := s.rn 0x5000 0x07, serial := s.otp.serial
        root := (s.sys.tree.at' (4 * 65536) (0, 0)).2
        role := if s.sys.joined && (role = 1 || role = 2 || role = 4) then role else e.role }
    else e
  beBytes 2 e.epoch ++ beBytes 1 (e.role + 8 * e.health) ++ beBytes 1 e.summary ++ beBytes 8 e.serial ++ beBytes 8 e.root

/-- A presence frame's payload. -/
def State.presenceBody (s : State) : List Byte :=
  beBytes 2 opPresence ++ beBytes 1 (s.rn 0x6800 0x0B) ++
  beBytes 1 (b2n s.sys.quorum + 2 * b2n (s.sys.change.isSome || s.sys.target.isSome) + 4 * b2n s.sys.joined) ++
  beBytes 1 (s.neighbourByte 0) ++ beBytes 1 (s.neighbourByte 1) ++ [0, 0] ++ (List.range 16).flatMap s.entryBytes

/-- This package's own presence, unicast to the source of a stale frame on the port it came by (R562). -/
def State.ownPresence (s : State) (q dst : Nat) : State :=
  if s.standalone then s else s.ready q (s.ownFrame ftControl dst 0 s.presenceBody)

/-! ### Capacity (R477) -/

/-- C in Mbit/s: w × b × 0.8 × (I − 4) ÷ I × 0.99, with b in Mbaud. -/
def spCapacity (w rate lint : Nat) : Nat :=
  let b := match rate with | 0 => 3125 | 1 => 6250 | _ => 10000
  if lint = 0 then 0 else w * b * 8 * 99 * (lint - 4) / (lint * 1000)

/-- The relays charged on a port that are not shed, in the order they were opened. -/
def State.relaysOn (s : State) (q : Nat) : List (Nat × RelayS) :=
  s.sys.relays.filter (fun r => r.2.port = q && !r.2.shed)

/-- The traffic of relays in bit/s. -/
def relayTraffic (l : List (Nat × RelayS)) : Nat := (l.map (fun r => r.2.cost)).foldl (· + ·) 0

/-! ### Receiving (Table 13.4, R562, R471) -/

/-- The opcode of a control payload. -/
def opcodeOf (b : List Byte) : Nat := beNat (b.take 2)

/-- A byte of a payload. -/
def byteAt (b : List Byte) (i : Nat) : Nat := ((b[i]?).getD 0).toNat

/-- The form check: reserved types, flags, fields and opcodes (R467, R469, Table 17.6). -/
def spFormOk (f : SpFrame) : Bool :=
  let b := f.payload
  1 ≤ f.ftype && f.ftype ≤ 5 && f.flags < 8 && f.hops ≤ 15 &&
  (if f.ftype = ftPixel then
     16 ≤ b.length && 1 ≤ byteAt b 10 && byteAt b 10 ≤ 14 && byteAt b 11 = 0 && byteAt b 14 = 0 && byteAt b 15 = 0 &&
     beNat ((b.drop 12).take 2) < 2 ^ byteAt b 10 && b.length = 16 + 576 * byteAt b 10
   else if f.ftype = ftStream then 6 ≤ b.length
   else if f.ftype = ftControl then 2 ≤ b.length && opcodeOf b ≤ 14
   else if f.ftype = ftDigest then b.length = 16 && beNat (b.drop 12) = 0
   else b.length = 44 && byteAt b 0 ≤ 1 && byteAt b 2 = 0 && byteAt b 3 = 0)

/-- Whether a frame is a control frame of an opcode. -/
def spIsOp (f : SpFrame) (op : Nat) : Bool := f.ftype = ftControl && opcodeOf f.payload = op

/-- R562: whether the epoch check passes. Standalone packages accept time marks alone (R559). -/
def State.epochOk (s : State) (f : SpFrame) : Bool :=
  let g := s.rn 0x6800 0x08
  let e := (s.ent f.src).epoch
  if s.standalone then f.ftype = ftMark
  else (spIsOp f opPresence && f.gen = 0) || (f.gen = g && f.epoch = e) ||
    (spIsOp f opPresence && f.gen = g && serialAfter 16 f.epoch e) ||
    (spIsOp f opPresence && serialAfter 32 f.gen g) || spIsOp f opRejoin

/-- A received acknowledgement advances the window (R471). -/
def State.acked (s : State) (q : Nat) (f : SpFrame) : State :=
  let g := s.sp q
  let rest := g.unacked.filter (fun u => !serialAfter 16 f.ack u.1)
  if !bit f.flags 0 || serialAfter 16 f.ack (g.seqOf ftControl) || rest.length = g.unacked.length then s
  else s.setSp q { g with unacked := rest, progress := s.clock, rounds := 0 }

/-- What the sequence rules say of a frame that passed the checks: whether it is taken, and the port after it. -/
def State.sequence (s : State) (q : Nat) (f : SpFrame) : State × Bool :=
  let g := s.sp q
  if f.ftype = ftControl then
    if bit f.flags 1 then (s, true)
    else if f.seq = g.expects then
      (s.setSp q { g with
        rxSeq := g.rxSeq.put ftControl (wrapInc 16 f.seq), ackAt := some (g.ackAt.getD s.clock) }, true)
    else (s, false)
  else
    let gap : Bool := match g.rxSeq.look f.ftype with
      | some n => f.seq ≠ n
      | none => false
    let s := s.setSp q { g with rxSeq := g.rxSeq.put f.ftype (wrapInc 16 f.seq) }
    (if gap then s.bump (spayKey q 0) (spIdx q) 0x11 else s, true)

/-- A frame as it is forwarded: one more hop (R560). -/
def spForward (f : SpFrame) : SpOut :=
  ⟨f.ftype, f.src, f.dst, f.flags % 8 - f.flags % 2, f.hops + 1, f.epoch, f.gen, f.payload⟩

/-- Forward on the other port, unless hops would go above 15. -/
def State.forwardOn (s : State) (q : Nat) (f : SpFrame) : State :=
  if f.hops < 15 then s.ready (1 - q) (spForward f) else s

/-- Whether a broadcast is acted on here: it came on the preferred port toward its source. Before any route to the source is
known, on whichever port it came. A fenced package's own ID may be another's. -/
def State.actsOn (s : State) (q : Nat) (f : SpFrame) : Bool :=
  (f.src ≠ s.pkgId || s.isFencedPkg) && (match s.prefer s.pkgId f.src with | some r => r = q | none => true)

/-- Route a taken frame (R560): whether it is for this package. Time marks go no further than one link. -/
def State.routed (s : State) (q : Nat) (f : SpFrame) : State × Bool :=
  if f.ftype = ftMark then (s, true)
  else if bit f.flags 2 then
    let on : Bool := match s.neighbour s.pkgId (1 - q) with
      | some (r, rq) => r ≠ f.src && s.prefer r f.src = some rq
      | none => false
    let here := s.actsOn q f
    (if here && on then s.forwardOn q f else s, here)
  else if f.dst = s.pkgId then (s, true)
  else (s.forwardOn q f, false)

/-- Every check of Table 13.4 in order, the acknowledgement, the sequence rules and the route; a frame that fails the epoch
check is answered with this package's own presence, at most once in 10 ms. The frame is taken where the result says so. -/
def State.receive (s : State) (q : Nat) (f : SpFrame) : State × Bool :=
  let k := spayKey q 0
  if 1 < q || s.spState q ≠ spUp then (s, false)
  else if !f.framingOk || 8192 < f.payload.length then (s.bump k (spIdx q) 0x0F, false)
  else if !f.crcOk then (s.bump k (spIdx q) 0x0D, false)
  else if !spFormOk f then (s.bump k (spIdx q) 0x0F, false)
  else if s.standalone && f.ftype ≠ ftMark then (s, false)
  else if !s.epochOk f then
    let s := s.bump k (spIdx q) 0x0E
    let due : Bool := match (s.sp q).replyAt with
      | some a => decide (a + 10 * msTicks ≤ s.clock)
      | none => true
    (if due then (s.setSp q { s.sp q with replyAt := some s.clock }).ownPresence q f.src else s, false)
  else
    let s := s.acked q f
    let p := s.sequence q f
    if p.2 then p.1.routed q f else (p.1, false)

/-- A received frame of a type, taken or not (Table 13.4): what it does where it is taken. A frame of another type, or of
another opcode, is not this command's. -/
def State.onFrame (s : State) (q : Nat) (f : SpFrame) (mine : Bool) (act : State → State) : State :=
  if !mine then s
  else
    let p := s.receive q f
    if p.2 then act p.1 else p.1

end Sys2Proof.Machine
end

