-- ==== Sys2Proof/Machine/Coder.lean ====
section
/-! DEFINITION. The dictionary coder (R375 to R380) and what the Mladdan compresses and decompresses itself (R389 to
R392). -/

namespace Sys2Proof.Machine

/-! ### Bits -/

/-- `w` bits of a number, most significant first. -/
def bitsOf : Nat → Nat → List Bool
  | 0, _ => []
  | w + 1, v => v.testBit w :: bitsOf w v

/-- The bits of bytes, bit 7 first. -/
def byteBits (bs : List Byte) : List Bool := bs.flatMap (fun b => bitsOf 8 b.toNat)

/-- The number bits spell, most significant first. -/
def bitsNat (l : List Bool) : Nat := l.foldl (fun a b => 2 * a + b2n b) 0

/-- `n` whole bytes from bits. -/
def bytesOf : Nat → List Bool → List Byte
  | 0, _ => []
  | n + 1, l => BitVec.ofNat 8 (bitsNat (l.take 8)) :: bytesOf n (l.drop 8)

/-! ### The dictionary (R375 to R378) -/

/-- The entries that can be learnt: 258 to 65,535. -/
def learntMax : Nat := 65278

/-- The highest entry assigned. -/
def topEntry (learnt : List (Nat × Byte)) : Nat := 257 + learnt.length

/-- The width of codes for E (R378). -/
def codeWidth (e : Nat) : Nat :=
  if e < 512 then 9 else if e < 1024 then 10 else if e < 2048 then 11 else if e < 4096 then 12
  else if e < 8192 then 13 else if e < 16384 then 14 else if e < 32768 then 15 else 16

/-- The string of a code; the fuel bounds the chain of prefixes. -/
def stringOf (learnt : List (Nat × Byte)) : Nat → Nat → List Byte
  | 0, _ => []
  | f + 1, c =>
    if c < 256 then [BitVec.ofNat 8 c]
    else match learnt[c - 258]? with
      | some (p, b) => stringOf learnt f p ++ [b]
      | none => []

/-- The string of a code in a dictionary. -/
def codeString (learnt : List (Nat × Byte)) (c : Nat) : List Byte := stringOf learnt (learnt.length + 1) c

/-- The code of a string extended by a byte, if the dictionary holds it. -/
def findEntry (learnt : List (Nat × Byte)) (p : Nat) (b : Byte) : Option Nat :=
  (learnt.findIdx? (fun e => e = (p, b))).map (· + 258)

/-- A dictionary with one more entry, unless it is full. -/
def addEntry (learnt : List (Nat × Byte)) (p : Nat) (b : Byte) : List (Nat × Byte) :=
  if learnt.length < learntMax then learnt ++ [(p, b)] else learnt

/-- A code as it is written with entries assigned so far. -/
def emit (learnt : List (Nat × Byte)) (c : Nat) : List Bool := bitsOf (codeWidth (topEntry learnt)) c

/-- What the encoder holds: the dictionary, its current string's code, and the codes emitted, newest first. -/
structure EncState where
  learnt : List (Nat × Byte)
  cur : Option Nat
  codes : List (List Bool)
  deriving DecidableEq, Repr

/-- R376: one input byte. -/
def encByte (e : EncState) (b : Byte) : EncState :=
  match e.cur with
  | none => { e with cur := some b.toNat }
  | some c =>
    match findEntry e.learnt c b with
    | some d => { e with cur := some d }
    | none => ⟨addEntry e.learnt c b, some b.toNat, emit e.learnt c :: e.codes⟩

/-- R376: a special code, after the code of any current string. -/
def encSpecial (e : EncState) (code : Nat) : EncState :=
  let codes := match e.cur with
    | some c => emit e.learnt c :: e.codes
    | none => e.codes
  ⟨e.learnt, none, emit e.learnt code :: codes⟩

/-- R375: the primed dictionary of a primer's bytes. -/
def primed (primer : List Byte) : List (Nat × Byte) := (primer.foldl encByte ⟨[], none, []⟩).learnt

/-- FLUSH with its padding to a byte boundary (R376), the codes in order. -/
def flushed (e : EncState) : List (List Bool) :=
  let e := encSpecial e 257
  match e.codes with
  | [] => []
  | f :: rest =>
    let n := (e.codes.map List.length).foldl (· + ·) 0
    ((f ++ List.replicate ((8 - n % 8) % 8) false) :: rest).reverse

/-- Whether no entry can be added. -/
def dictFull (learnt : List (Nat × Byte)) : Bool := learntMax ≤ learnt.length

/-- What one code does to the decoder (R377, R378): its string and the dictionary after it, or none for a code error. -/
def decCode (learnt : List (Nat × Byte)) (prev : Option Nat) (c : Nat) : Option (List Byte × List (Nat × Byte)) :=
  let hi := topEntry learnt
  let e := if prev.isSome && !dictFull learnt then hi + 1 else hi
  if e < c then none
  else match prev with
    | none => some (codeString learnt c, learnt)
    | some p =>
      let s := if c ≤ hi then codeString learnt c
        else codeString learnt p ++ (codeString learnt p).take 1
      some (s, addEntry learnt p (s.head?.getD 0))

/-- The width the decoder reads with. -/
def decWidth (learnt : List (Nat × Byte)) (prev : Option Nat) : Nat :=
  codeWidth (if prev.isSome && !dictFull learnt then topEntry learnt + 1 else topEntry learnt)

/-- What decoding a message ends with: its error (0 none), the dictionary, the previous code and the bytes. -/
structure DecEnd where
  err : Nat
  learnt : List (Nat × Byte)
  prev : Option Nat
  out : List Byte
  deriving DecidableEq, Repr

/-- R377, R380, codes 8 and 9 of Table 10.2: a whole code stream that must give `need` bytes and end in FLUSH with its
padding. `prime` is the primed dictionary of the session's class. -/
def decodeRun (prime : List (Nat × Byte)) (need : Nat) : Nat → List (Nat × Byte) → Option Nat → List Bool → List Byte → DecEnd
  | 0, learnt, prev, _, out => ⟨9, learnt, prev, out⟩
  | f + 1, learnt, prev, bits, out =>
    let w := decWidth learnt prev
    if bits.length < w then ⟨9, learnt, prev, out⟩
    else
      let c := bitsNat (bits.take w)
      let rest := bits.drop w
      if c = 257 then
        if rest.length < 8 && out.length = need then ⟨0, learnt, none, out⟩ else ⟨9, learnt, none, out⟩
      else if c = 256 then
        if out.length = need then ⟨9, prime, none, out⟩ else decodeRun prime need f prime none rest out
      else match decCode learnt prev c with
        | none => ⟨8, learnt, prev, out⟩
        | some (s, learnt') =>
          if need < out.length + s.length then ⟨9, learnt', some c, out⟩
          else decodeRun prime need f learnt' (some c) rest (out ++ s)

/-- R379: the filter reversed on one row, left to right. -/
def undoRow (b : Nat) : Nat → List Byte → List Byte → List Byte
  | _, done, [] => done
  | i, done, x :: xs =>
    let y := if i < b then x else x + (done[i - b]?).getD 0
    undoRow b (i + 1) (done ++ [y]) xs

/-- R379: the filter reversed on `n` rows of `row` bytes. -/
def undoDelta (b row : Nat) : Nat → List Byte → List Byte
  | 0, _ => []
  | n + 1, px => undoRow b 0 [] (px.take row) ++ undoDelta b row n (px.drop row)

/-! ### Contexts -/

/-- A session's primer bytes (R375). -/
def State.primer (s : State) (n : Nat) : List Byte :=
  let k := s.rn (0x5810 + n) 0x02
  if k = 0 then [] else s.rb 0x5800 (0x10 + k)

/-- Prime a session's context: a new run, nothing awaited where `await` is false. -/
def State.primeCtx (s : State) (n : Nat) (await : Bool) : State :=
  s.setCtx n { learnt := primed (s.primer n), await := await }

/-! ### Blocks and full buffers (R389 to R392) -/

/-- Write codes while the whole bytes they complete fit: the bytes written, the bits kept, the codes kept. -/
def fitCodes : Nat → List Bool → List (List Bool) → List Byte × List Bool × List (List Bool) × Nat
  | sp, r, [] => ([], r, [], sp)
  | sp, r, c :: cs =>
    let l := r ++ c
    let n := l.length / 8
    if sp < n then ([], r, c :: cs, sp)
    else
      let x := fitCodes (sp - n) (l.drop (8 * n)) cs
      (bytesOf n l ++ x.1, x.2.1, x.2.2.1, x.2.2.2)

/-- Release what fits of a compressor's codes (R391). -/
def State.releaseCodes (s : State) (c : Nat) : State :=
  let x := s.ctx c
  let f := fitCodes x.space x.resid x.pend
  let s := s.setCtx c { x with resid := f.2.1, pend := f.2.2.1, space := f.2.2.2 }
  if f.1.isEmpty then s else s.say (.coded c f.1)

/-- A block header (Table 10.5) as one code of 48 bits: it is written only when 6 bytes are free. -/
def blockHeader (kind input payload : Nat) : List Bool :=
  byteBits (beBytes 1 kind ++ [0] ++ beBytes 2 (input - 1) ++ beBytes 2 payload)

/-- The contexts of exports and relay streams, which start primed with class 0 (R389). -/
def outContext (c : Nat) : Bool := 160 ≤ c && c < 168

/-- BLOCK_COMPRESS (R389, R390): one block of at most 16,384 bytes. `mismatch` says that the shadow decode differed. -/
def State.compress (s : State) (c : Nat) (input : List Byte) (mismatch : Bool) : State :=
  if input.isEmpty || 16384 < input.length || !outContext c then s
  else
    let x := s.ctx c
    let k := coderKey 0
    let begin' : EncState := if dictFull x.learnt then ⟨[], none, (encSpecial ⟨x.learnt, none, []⟩ 256).codes⟩ else ⟨x.learnt, none, []⟩
    let e := input.foldl encByte begin'
    let codes := flushed e
    let len := (codes.map List.length).foldl (· + ·) 0 / 8
    let stored := fun (kind : Nat) => blockHeader kind input.length input.length :: input.map (fun b => bitsOf 8 b.toNat)
    let s := if mismatch then
        let s := s.setCtx c { x with learnt := [], pend := x.pend ++ stored 2 }
        ((s.bump k 0x5800 0x06).bump k 0x5800 0x07).raise k 0x0902 2 [(8, c)]
      else if input.length < len then
        (s.setCtx c { x with pend := x.pend ++ stored 1 }).bump k 0x5800 0x07
      else s.setCtx c { x with learnt := e.learnt, pend := x.pend ++ blockHeader 0 input.length len :: codes }
    s.releaseCodes c

def execBlockCompress (t ctx : Nat) (input : List Byte) (mismatch : Bool) (s : State) : Host.Outcome State Fault Refusal :=
  .next ((s.tick t).compress ctx input mismatch)

/-- COMPRESS_RESUME (R391): bytes of output space are given. -/
def State.compressResume (s : State) (c space : Nat) : State :=
  (s.setCtx c { s.ctx c with space := space }).releaseCodes c

def execCompressResume (t ctx space : Nat) (s : State) : Host.Outcome State Fault Refusal :=
  .next ((s.tick t).compressResume ctx space)

/-- What a decompressor does with bits and output space (R392): it stops part-way through a code or through a string. -/
def expand (prime : List (Nat × Byte)) : Nat → CtxS → List Bool → Nat → List Byte → CtxS × List Bool × List Byte
  | 0, x, bits, _, out => (x, bits, out)
  | f + 1, x, bits, space, out =>
    let n := min space x.held.length
    let out := out ++ x.held.take n
    let x := { x with held := x.held.drop n, off := if n < x.held.length then x.off + n else 0 }
    if !x.held.isEmpty then (x, bits, out)
    else
      let w := decWidth x.learnt x.prev
      if x.await || bits.length < w then (x, bits, out)
      else
        let c := bitsNat (bits.take w)
        let rest := bits.drop w
        if c = 257 then expand prime f { x with prev := none } (rest.drop (rest.length % 8)) (space - n) out
        else if c = 256 then expand prime f { x with learnt := prime, prev := none } rest (space - n) out
        else match decCode x.learnt x.prev c with
          | none => ({ x with await := true }, [], out)
          | some (str, l) => expand prime f { x with learnt := l, prev := some c, held := str } rest (space - n) out

/-- DECOMPRESS_RESUME (R392): input or output space is given to a decompressor, which goes on where it stopped. -/
def State.decompress (s : State) (c : Nat) (input : List Byte) (space : Nat) : State :=
  let x := s.ctx c
  let bits := x.resid ++ byteBits (x.input ++ input)
  let r := expand (primed (if c < 160 then s.primer c else [])) (bits.length + 2) { x with resid := [], input := [] } bits space []
  let odd := r.2.1.length % 8
  let part := if r.1.held.isEmpty then r.2.1.length else odd
  let s := s.setCtx c { r.1 with resid := r.2.1.take part, input := bytesOf ((r.2.1.length - part) / 8) (r.2.1.drop part) }
  if r.2.2.isEmpty then s else s.say (.decoded c r.2.2)

def execDecompressResume (t ctx : Nat) (input : List Byte) (space : Nat) (s : State) : Host.Outcome State Fault Refusal :=
  .next ((s.tick t).decompress ctx input space)

end Sys2Proof.Machine
end

