-- ==== Sys2Proof/Machine/Admission.lean ====
section
/-! DEFINITION. Admission of sessions (R150 to R157), the Ethernet ports and the multicast table it charges, and the
session states it moves (R143 to R147). -/

namespace Sys2Proof.Machine

/-! ### Session states (Table 3.7) -/

def sessIdle : Nat := 0
def sessJoining : Nat := 1
def sessAcquiring : Nat := 2
def sessRunning : Nat := 3
def sessStarved : Nat := 4
def sessClosed : Nat := 5

/-- A session's dictionary index. -/
def sIdx (n : Nat) : Nat := 0x3000 + n

/-- A session's state code. -/
def State.sst (s : State) (n : Nat) : Nat := s.rn (sIdx n) 0x02

/-- A session's row. -/
def State.ses (s : State) (n : Nat) : SessS := s.sess.at' n {}

/-- Set a session's row. -/
def State.setSes (s : State) (n : Nat) (x : SessS) : State := { s with sess := s.sess.put n x }

/-- Sessions with any object written: the others are IDLE with every default. -/
def State.sessUsed (s : State) : List Nat :=
  ((s.od.map (fun p => p.1 / 256)).filter (fun i => 0x3000 ≤ i && i < 0x30A0)).eraseDups.map (fun i => i - 0x3000)

/-- Whether a state is admitted: JOINING, ACQUIRING, RUNNING or STARVED. -/
def admittedState (st : Nat) : Bool := 1 ≤ st && st ≤ 4

/-- Whether a session is admitted. -/
def State.admitted (s : State) (n : Nat) : Bool := admittedState (s.sst n)

/-- A session's kind (Table 3.10). -/
def State.kind (s : State) (n : Nat) : Nat := s.rn (sIdx n) 0x04

/-- Set a session's state and reason; the tick of entry is kept. -/
def State.enterSess (s : State) (n st reason : Nat) : State :=
  let s := (s.wn (sIdx n) 0x02 st).wn (sIdx n) 0x03 reason
  s.setSes n { s.ses n with since := s.clock }

/-! ### Ports (Table 3.1) -/

/-- A quad's mode. -/
def State.quadMode (s : State) (q : Nat) : Nat := s.rn 0x2900 (q + 1)

/-- Whether the quad modes create a port. -/
def State.portExists (s : State) (p : Nat) : Bool :=
  match s.quadMode (p / 4) with
  | 0 => false
  | 1 => p % 4 = 0
  | _ => true

/-- A port's rate in kbit/s. -/
def State.portRate (s : State) (p : Nat) : Nat :=
  match s.quadMode (p / 4) with
  | 1 => 10000000
  | 2 => 1000000
  | 3 => 2500000
  | _ => 0

/-- Whether a port is in service: it exists and its die is not DEAD (Table 3.9 check 9). -/
def State.portInService (s : State) (p : Nat) : Bool :=
  s.portExists p && !s.dieLost (p / 8) && !s.gone (procKey (p / 8) .net)

/-- A port's row. -/
def State.port (s : State) (p : Nat) : PortS := s.ports.at' p {}

/-! ### Declarations (R152) -/

/-- A relay table entry of a session (R570): source package, source, mode. -/
def State.relayEntry (s : State) (n : Nat) : Nat × Nat × Nat :=
  let b := (s.rb 0x6800 0x18).drop (4 * n)
  (((b[0]?).getD 0).toNat % 16, ((b[1]?).getD 0).toNat, ((b[2]?).getD 0).toNat)

/-- Whether a relay carries a graphics surface: a pressed plane, or the stream of a session that is one at its source. -/
def State.relaySurface (s : State) (n : Nat) : Bool :=
  let e := s.relayEntry n
  160 ≤ e.2.1 || (e.2.2 = 1 && Config.relayGraphics e.1 e.2.1)

/-- Whether a session is a relay in pixel mode. -/
def State.relayPixel (s : State) (n : Nat) : Bool :=
  s.kind n = 4 && (s.relayEntry n).2.1 < 160 && (s.relayEntry n).2.2 = 0

/-- One picture of the declared maximum in P10 packing (R156), in bytes. -/
def p10Bytes (w h : Nat) : Nat := 6 * ceilDiv (ceilDiv w 16 * 16) 3 * (ceilDiv h 16 * 16)

/-- The traffic in bit/s that a relay of a session is charged (R571): its pictures, or its bit rate, and one per cent. -/
def State.relayBits (s : State) (pixel : Bool) (n : Nat) : Nat :=
  let i := sIdx n
  if pixel then ceilDiv (p10Bytes (s.rn i 0x10) (s.rn i 0x11) * 8 * s.rn i 0x12 * 101) 100000
  else ceilDiv (s.rn i 0x13 * 1000 * 101) 100

/-- Whether a session receives coded video: RTP, or the stream of a video session of a package. -/
def State.isVideo (s : State) (n : Nat) : Bool := s.kind n ≤ 1 || (s.kind n = 4 && !s.relayPixel n && !s.relaySurface n)

/-- Whether a session's pictures are graphics surfaces. -/
def State.isSurface (s : State) (n : Nat) : Bool := !s.isVideo n && !s.relayPixel n

/-- Level 5.1's bounds of the declared standard on rate (log 14): H.265 MaxLumaSr and MaxBR of the Main tier, H.264
MaxMBPS and MaxBR. -/
def levelOk (kind prof w h f b : Nat) : Bool :=
  if kind = 1 then
    ceilDiv w 16 * ceilDiv h 16 * f ≤ 983040 * 1000 && b ≤ (if prof = 2 then 300000 else 240000)
  else w * h * f ≤ 534773760 * 1000 && b ≤ 40000

/-- R152: whether a declaration is supported. -/
def State.declOk (s : State) (n : Nat) : Bool :=
  let i := sIdx n
  let k := s.kind n
  let w := s.rn i 0x10
  let h := s.rn i 0x11
  let prof := s.rn i 0x14
  let size := 16 ≤ w && w ≤ 4096 && 16 ≤ h && h ≤ 2304 && w * h ≤ 9437184
  if s.isSurface n then size
  else size && (if k = 1 then prof ≤ 2 && s.rn i 0x0F ≤ 1 else prof ≤ 1) &&
    levelOk k prof w h (s.rn i 0x12) (s.rn i 0x13)

/-! ### Charges -/

/-- R153: the decode load of a declaration in milli-cores. -/
def decodeLoad (w h f b : Nat) : Nat := max (ceilDiv (w * h * f) 500000000) (ceilDiv b 150)

/-- R387: the coder load in milli-engines. -/
def coderLoad (w h f b : Nat) : Nat := max (ceilDiv (w * h * 4 * f) 1000000000) (ceilDiv b 2000)

/-- A session's charges: decode load, KiB of frame pool, kbit/s of its port, milli-engines (R153, R154, R156, R387,
R571). Graphics charge one buffer of W × H × 4 bytes for each buffer declared at 0x5810+n:01. The kbit/s are rounded up
(DESIGN CHOICE, log 148). -/
def State.charge (s : State) (n : Nat) : Nat × Nat × Nat × Nat :=
  let i := sIdx n
  let w := s.rn i 0x10
  let h := s.rn i 0x11
  let f := s.rn i 0x12
  let b := s.rn i 0x13
  let p := p10Bytes w h
  let net := ceilDiv (b * (100 + s.rn 0x3100 0x03)) 100
  let copy := match s.rn i 0x17 with
    | 1 => ceilDiv (3 * p) 4
    | 2 => ceilDiv (3 * p) 16
    | _ => 0
  let video := ceilDiv ((s.rn i 0x15 + 3) * p + copy) 1024
  let surf := s.rn (0x5810 + n) 0x01 * ceilDiv (w * h * 4) 1024
  match s.kind n with
  | 0 | 1 => (decodeLoad w h f b, video, net, 0)
  | 2 => (0, surf, net, coderLoad w h f b)
  | 3 => (0, surf, 0, coderLoad w h f b)
  | _ =>
    if s.isVideo n then (decodeLoad w h f b, video, 0, 0)
    else if s.relayPixel n then (0, ceilDiv (3 * p) 1024, 0, 0)
    else (0, surf, 0, coderLoad w h f b)

/-- Put a session's charges on its objects. -/
def State.putCharge (s : State) (n : Nat) (c : Nat × Nat × Nat × Nat) : State :=
  (((s.wn (sIdx n) 0x21 c.1).wn (sIdx n) 0x22 c.2.1).wn (sIdx n) 0x23 c.2.2.1).wn (0x5810 + n) 0x05 c.2.2.2

/-- A sum over the sessions admitted other than `n`. -/
def State.sumOthers (s : State) (n : Nat) (f : Nat → Nat) : Nat :=
  ((s.sessUsed.filter (fun m => m ≠ n && s.admitted m)).map f).foldl (· + ·) 0

/-- Active coder engines: OK or SUSPECT (R385). -/
def State.activeEngines (s : State) : Nat :=
  ((List.range 4).filter (fun z => s.serves (coderKey z) || (s.unit (coderKey z)).st = 1)).length

/-- The frame pool size in MiB: 0x3100:02, whose default is the variant's (Table 3.11); on one die at most what half of W2
offers (R433). -/
def State.poolMiB (s : State) : Nat :=
  let big : Bool := 2 ≤ s.otp.variant
  let v := match s.od.look (key 0x3100 0x02) with
    | some v => v.int.toNat
    | none => if big then 20480 else 8192
  if s.link.lostDie.isSome then min v (if big then 13440 else 5280) else v

/-- Milli-engines charged for compressed outgoing relays (R571). -/
def State.relayLoad (s : State) : Nat := (s.sys.relays.map (fun r => r.2.load)).foldl (· + ·) 0

/-- Active decode cores (R188). -/
def State.activeCores (s : State) : Nat := s.active.length

/-- Whether an address is a multicast group. -/
def isGroup (v6 : Bool) (a : List Byte) : Bool :=
  match a with
  | b :: _ => if v6 then b = 0xFF else 224 ≤ b.toNat && b.toNat ≤ 239
  | [] => false

/-- A session's group entry, if its destination is a group. -/
def State.groupOf (s : State) (n : Nat) : Option (Nat × Bool × List Byte) :=
  let i := sIdx n
  let v6 := s.rn i 0x07 = 1
  if s.kind n ≤ 2 && isGroup v6 (s.rb i 0x08) then some (s.rn i 0x05, v6, s.rb i 0x08) else none

/-- Check 11: a session over PCIe (kind 3) or a relay has no address, and the address family is part of one (DESIGN CHOICE, log
147). Whether two sessions name the same port, destination, UDP port and source filter (check 11). -/
def State.sameAddress (s : State) (n m : Nat) : Bool :=
  s.kind n ≤ 2 && s.kind m ≤ 2 &&
  s.rn (sIdx n) 0x05 = s.rn (sIdx m) 0x05 && s.rn (sIdx n) 0x07 = s.rn (sIdx m) 0x07 &&
  s.rb (sIdx n) 0x08 = s.rb (sIdx m) 0x08 && s.rn (sIdx n) 0x0A = s.rn (sIdx m) 0x0A &&
  s.rb (sIdx n) 0x09 = s.rb (sIdx m) 0x09

/-- Table 3.9, in order: the reason of the first check that fails, or 0. Checks 9 and 11 are not applied to a session over PCIe
(DESIGN CHOICE, log 147). -/
def State.admission (s : State) (n : Nat) : Nat :=
  let i := sIdx n
  let k := s.kind n
  let c := s.charge n
  let p := s.rn i 0x05
  let ceil := s.rn 0x3100 0x01
  if !s.declOk n then 5
  else if s.sessUsed.any (fun m => m ≠ n && s.sst m ≠ sessIdle && s.sst m ≠ sessClosed && s.sameAddress n m) then 11
  else if k ≤ 2 && !s.portInService p then 9
  else if (match s.groupOf n with
      | some (q, v6, g) => !s.mcast.any (fun e => e.port = q && e.v6 = v6 && e.group = g) && 512 ≤ s.mcast.length
      | none => false) then 4
  else if s.isVideo n && ((s.sumOthers n (fun m => s.rn (sIdx m) 0x21) + c.1) * 100 > 1000 * s.activeCores * ceil ||
      (1000 < c.1 && s.rn i 0x16 = 0) || 1000 * s.rn 0x3400 0x04 < c.1) then 1
  else if k ≤ 2 &&
      (s.sumOthers n (fun m => if s.kind m ≤ 2 && s.rn (sIdx m) 0x05 = p then s.rn (sIdx m) 0x13 else 0) + s.rn i 0x13) *
        (100 + s.rn 0x3100 0x03) > s.portRate p * s.rn 0x3100 0x04 then 2
  else if s.sumOthers n (fun m => s.rn (sIdx m) 0x22) + c.2.1 > s.poolMiB * 1024 then 3
  else if 0 < c.2.2.2 &&
      (s.sumOthers n (fun m => s.rn (0x5810 + m) 0x05) + s.relayLoad + c.2.2.2) * 100 > 1000 * s.activeEngines * s.rn 0x5800 0x01 then 10
  else 0

/-- The package's admission objects after a change (Table 3.11, 0x5800:02). -/
def State.refreshAdmission (s : State) : State :=
  let sum := fun (f : Nat → Nat) => ((s.sessUsed.filter s.admitted).map f).foldl (· + ·) 0
  ((((s.wn 0x3100 0x05 (sum (fun m => s.rn (sIdx m) 0x21))).wn 0x3100 0x06 s.activeCores).wn 0x3100 0x07
    (sum (fun m => s.rn (sIdx m) 0x22))).wn 0x3100 0x08 (s.sessUsed.filter s.admitted).length).wn 0x5800 0x02
    (sum (fun m => s.rn (0x5810 + m) 0x05) + s.relayLoad)

/-! ### Joins and leaves (R123) -/

/-- How long an older querier keeps a port in its compatibility mode: 260 s, those RFCs' default (PRESUMED, log 146). -/
def olderQuerier : Nat := 260 * sTicks

/-- The protocol version a port reports in: IGMPv3 or MLDv2, or the compatibility mode of an older querier heard (R123). -/
def State.groupVersion (s : State) (p : Nat) (v6 : Bool) : Nat :=
  let g := s.port p
  if v6 then (if g.compat6 < 2 && s.clock < g.old6 + olderQuerier then g.compat6 else 2)
  else (if g.compat4 < 3 && s.clock < g.old4 + olderQuerier then g.compat4 else 3)

/-- The filter state of a group from the sessions that use it (R123): EXCLUDE nothing where one takes any source, otherwise
INCLUDE all their sources. -/
def State.groupFilter (s : State) (users : List Nat) : Bool × List (List Byte) :=
  let src := users.map (fun n => s.rb (sIdx n) 0x09)
  if src.any (fun a => a.all (· = 0)) then (false, []) else (true, src.eraseDups)

/-- A membership report of a group; a compatibility mode carries no sources. -/
def State.report (s : State) (e : McastS) : State :=
  let v := s.groupVersion e.port e.v6
  let old : Bool := v < (if e.v6 then 2 else 3)
  let f := s.groupFilter e.users
  s.say (.join e.port e.v6 v e.group (f.1 && !old) (if old then [] else f.2))

/-- Join a session's group: its table entry, shared with others on the port, and a join report. -/
def State.join (s : State) (n : Nat) : State :=
  match s.groupOf n with
  | none => s
  | some (q, v6, g) =>
    match s.mcast.find? (fun e => e.port = q && e.v6 = v6 && e.group = g) with
    | some e =>
      let new := { e with users := n :: e.users.filter (· ≠ n) }
      { s with mcast := s.mcast.map (fun x => if x = e then new else x) }.report new
    | none =>
      let tab := s.mcast ++ [⟨q, v6, g, [n]⟩]
      ({ s with mcast := tab }.wn 0x2900 0x05 tab.length).report ⟨q, v6, g, [n]⟩

/-- Leave a session's group: a leave is sent when the last session using the entry closes; while others use it, a report where
its filter state changes. -/
def State.leave (s : State) (n : Nat) : State :=
  match s.mcast.find? (fun e => e.users.contains n) with
  | none => s
  | some e =>
    let rest := e.users.filter (· ≠ n)
    if rest.isEmpty then
      let tab := s.mcast.filter (· ≠ e)
      ({ s with mcast := tab }.wn 0x2900 0x05 tab.length).say (.leave e.port e.v6 (s.groupVersion e.port e.v6) e.group)
    else
      let new := { e with users := rest }
      let t := { s with mcast := s.mcast.map (fun x => if x = e then new else x) }
      if s.groupFilter rest = s.groupFilter e.users then t else t.report new

/-! ### Open and close (R144, R145) -/

/-- R125, R139, R38: the continuity reference of a session and of every layer showing it is reset. -/
def State.resetContinuity (s : State) (n : Nat) : State :=
  let s := s.setSes n { s.ses n with alive := none, synthTs := none, replayFrom := none }
  (s.slotsUsed.filter (fun x => s.fn (0x4000 + x) 0x03 = n)).foldl
    (fun s x => s.setLayer x { s.layer x with alive := none, reps := 0 }) s

/-- R366, R375: at an open, every buffer of a ZTT session's surface is open, wholly tainted and without a format, the
version numbers start at 1, and both ends prime. -/
def State.openSurface (s : State) (n : Nat) : State :=
  if s.isSurface n then
    let tiles := List.range (ceilDiv (s.rn (sIdx n) 0x10) 16 * ceilDiv (s.rn (sIdx n) 0x11) 16)
    let bufs : Tab BufS := (List.range (s.rn (0x5810 + n) 0x01)).map (fun b => (b, { taint := tiles }))
    (s.setGfx n { bufs := bufs }).primeCtx n false
  else (s.setGfx n {}).setCtx n {}

/-- Reception starts afresh: nothing received, no references, no clean picture (R228 from JOINING). -/
def State.freshSession (s : State) (n : Nat) : State :=
  let o := s.ses n
  let s := s.setSes n { disp := o.disp, since := o.since, joinAt := s.clock, rrAt := s.clock, ssrc := none, refs := [], gradeIn := 3 }
  ((s.resetContinuity n).wn (0x3440 + n) 0x01 0).openSurface n

/-- A control frame of a relay session to the source package, with its relay number: receiving package × 256 + session
(R570, Table 17.6). -/
def State.relayFrame (s : State) (n opcode : Nat) (body : List Byte) : State :=
  s.control (s.relayEntry n).1 opcode (beBytes 2 (256 * s.pkgId + n) ++ body)

/-- Budgets charged, JOINING, joins sent, a relay asked of its source (Table 3.8, R571). -/
def State.toJoining (s : State) (n : Nat) : State :=
  let s := s.putCharge n (s.charge n)
  let s := ((s.enterSess n sessJoining 0).freshSession n).join n
  let s := if s.kind n = 4 then
      let e := s.relayEntry n
      { s with sys := { s.sys with relayIn := s.sys.relayIn.put n {} } }.relayFrame n 8 [BitVec.ofNat 8 e.2.1, BitVec.ofNat 8 e.2.2]
    else s
  s.refreshAdmission

/-- A message fails with an error of Table 10.2 (R381): counted, reported and answered. -/
def State.zttFail (s : State) (m : ZttWait) (err : Nat) : State :=
  let i := 0x5810 + m.sess
  let s := ((s.bump (coderKey 0) i 0x0E).bump (coderKey 0) 0x5800 0x05).wn i 0x11 err
  s.zttReply m 0 err true false

/-- Messages of a closing session that wait for an engine, or are on one, fail with error 2: the session is CLOSED or IDLE
(log 20). -/
def State.dropWaiting (s : State) (n : Nat) : State :=
  let mine := s.zttQ.filter (fun m => m.sess = n) ++ (s.engines.filter (fun p => p.2.sess = n)).map (·.2)
  let s := { s with
    zttQ := s.zttQ.filter (fun m => m.sess ≠ n), engines := s.engines.filter (fun p => p.2.sess ≠ n) }
  mine.foldl (fun s m => s.zttFail m 2) s

/-- R293: every queued write of a session is discarded with status 5. -/
def State.dropQueued (s : State) (n : Nat) : State :=
  let s := s.dropWaiting n
  let mine := s.queued.filter (fun q => q.msg.sess = n)
  let s := { s with queued := s.queued.filter (fun q => q.msg.sess ≠ n) }
  let s := mine.foldl (fun s q => (s.zttReply q.msg 5 0 true true).bump (coderKey 0) 0x4300 0x12) s
  (s.wn 0x4300 0x0E s.queued.length).wn 0x4300 0x0F ((s.queued.map (fun q => q.pixels.length)).foldl (· + ·) 0)

/-- Segments of a session that wait for a core, or are on one, are dropped with it. -/
def State.dropSegs (s : State) (n : Nat) : State :=
  let s := { s with segs := s.segs.filter (fun x => x.sess ≠ n) }
  (List.range 14).foldl (fun s c =>
    let g := s.cores.at' c {}
    if g.sess = some n then { s with cores := s.cores.put c { runs := g.runs ++ [(g.at', s.clock)] } }.wn (0x3410 + c) 0x03 0xFF
    else s) s

/-- Close a session with a reason: queued writes first, budgets released, a BYE where the session reports (R131), leave
sent. -/
def State.closeSess (s : State) (n reason : Nat) : State :=
  let s := s.dropQueued n
  let s := if s.kind n ≤ 1 && bit (s.rn (sIdx n) 0x0B) 2 then s.say (.rtcpBye n (s.rn (sIdx n) 0x1F)) else s
  let s := if s.kind n = 4 then s.relayFrame n 10 [] else s
  let s := (s.putCharge n (0, 0, 0, 0)).leave n
  let s := (s.setSes n { s.ses n with aus := [], queue := [], waiting := [] }).dropSegs n
  (s.enterSess n sessClosed reason).refreshAdmission

/-! ### Parameter sets (R130, R152, R202) -/

/-- R152: whether a parameter set lies outside the declaration. -/
def State.setOutside (s : State) (n : Nat) (p : ParamSet) : Bool :=
  let i := sIdx n
  let k := s.kind n
  (k ≠ 4 && p.h264 != (k = 1)) || p.profile ≠ s.rn i 0x14 || p.interlaced || !p.chroma420 || p.extension ||
  (if !p.h264 && s.rn i 0x14 = 1 then 10 else 8) < p.bitDepth ||
  s.rn i 0x10 < p.width || s.rn i 0x11 < p.height

/-- A parameter set is held in place of one with its identifier (R130); one that cannot be parsed is a bitstream error (R202). -/
def SessS.hold (g : SessS) (b : NalBody) : SessS :=
  match b with
  | .sps p => { g with sps := p :: g.sps.filter (fun q => q.id ≠ p.id) }
  | .pps p => { g with pps := p :: g.pps.filter (fun q => q.id ≠ p.id) }
  | .bad => { g with badSets := g.badSets + 1 }
  | _ => g

/-- The NAL units of a DOMAIN, each preceded by a 2-byte big-endian length (R130). -/
def unitsOf : Nat → List Byte → List (List Byte)
  | 0, _ => []
  | k + 1, b =>
    if b.length < 2 then []
    else
      let l := beNat (b.take 2)
      (b.drop 2).take l :: unitsOf k (b.drop (2 + l))

/-- The out-of-band parameter sets of a session, as its declaration gives them. -/
def State.outOfBand (s : State) (n : Nat) : List NalBody :=
  let b := s.rb (sIdx n) 0x1D
  (unitsOf b.length b).map (fun u => (Config.parseSet (s.kind n = 1) u).getD .bad)

/-- R130, R152: the decoder takes the out-of-band sets at an entry to ACQUIRING; one outside the declaration closes the
session. -/
def State.takeSets (s : State) (n : Nat) : State :=
  let l := if s.kind n ≤ 1 then s.outOfBand n else []
  let s := s.setSes n (l.foldl SessS.hold (s.ses n))
  if l.any (fun b => match b with | .sps p => s.setOutside n p | _ => false) then s.closeSess n 6 else s

/-- STARVATION_TIMEOUT (Table 3.8, R146): no accepted packet for the starvation time. A packet stamped at or before the
deadline prevents it. -/
def State.starvationTimeout (s : State) (n : Nat) : State :=
  if (s.sst n = sessAcquiring || s.sst n = sessRunning) &&
      (s.ses n).last + s.rn (sIdx n) 0x19 * msTicks < s.clock then
    (s.setSes n { s.ses n with was := s.sst n }).enterSess n sessStarved 0
  else s

/-- JOIN_TIMEOUT (Table 3.8): one event, the join reports sent again, the timer restarted. -/
def State.joinTimeout (s : State) (n : Nat) : State :=
  if s.sst n = sessJoining && (s.ses n).joinAt + s.rn (sIdx n) 0x1C * sTicks ≤ s.clock then
    let s := (s.setSes n { s.ses n with joinAt := s.clock }).join n
    s.raise (procKey 0 .net) 0x0301 1 [(8, n)]
  else s

/-- The timed transitions due of a session (R146). -/
def State.dueFirst (s : State) (n : Nat) : State := (s.starvationTimeout n).joinTimeout n

/-- Session command 1 (R144, R145, R150): `rnd` is the random SSRC of the session's own RTCP (0x3000+n:1F). -/
def sessOpen (n rnd : Nat) (s : State) (_ : Val) : State × Nat :=
  if s.sst n ≠ sessIdle && s.sst n ≠ sessClosed then (s, 7)
  else
    let c := s.admission n
    if c = 0 then
      let s := (s.wn (sIdx n) 0x1F (rnd % 2 ^ 32)).toJoining n
      (s, 0)
    else (((s.enterSess n sessClosed c).bump (procKey 0 .net) 0x3100 0x09), 0)

/-- Session command 2 (R144, R145). -/
def sessClose (n : Nat) (s : State) (_ : Val) : State × Nat :=
  let s := s.dueFirst n
  if s.admitted n then (s.closeSess n 8, 0) else (s, 7)

/-- Session command 3 (R144): closed first if open, then IDLE with reason 0. -/
def sessRelease (n : Nat) (s : State) (_ : Val) : State × Nat :=
  let s := s.dueFirst n
  let s := if s.admitted n then s.closeSess n 8 else s.dropQueued n
  (s.enterSess n sessIdle 0, 0)

/-- Back to ACQUIRING by resync: continuity reset, references released, a clean picture required again (Table 3.8,
R228). -/
def State.resync (s : State) (n : Nat) : State :=
  let s := s.resetContinuity n
  let s := s.setSes n { s.ses n with refs := [], waiting := [], startSeq := true, dropNote := false, shortNote := false }
  ((s.wn (0x3440 + n) 0x01 0).enterSess n sessAcquiring 0).takeSets n

/-- Session command 4 (R144, R145). -/
def sessResync (n : Nat) (s : State) (_ : Val) : State × Nat :=
  let s := s.dueFirst n
  if s.sst n = sessAcquiring || s.sst n = sessRunning then (s.resync n, 0) else (s, 7)

/-- SESSION_OPEN (R144). -/
def execSessionOpen (t : Nat) (r : Req) (n rnd : Nat) (s : State) : Host.Outcome State Fault Refusal :=
  .next ((s.tick t).request r (sIdx n) 0x01 [1] (sessOpen n rnd))

/-- SESSION_CLOSE (R144). -/
def execSessionClose (t : Nat) (r : Req) (n : Nat) (s : State) : Host.Outcome State Fault Refusal :=
  .next ((s.tick t).request r (sIdx n) 0x01 [2] (sessClose n))

/-- SESSION_RELEASE (R144). -/
def execSessionRelease (t : Nat) (r : Req) (n : Nat) (s : State) : Host.Outcome State Fault Refusal :=
  .next ((s.tick t).request r (sIdx n) 0x01 [3] (sessRelease n))

/-- SESSION_RESYNC (R144). -/
def execSessionResync (t : Nat) (r : Req) (n : Nat) (s : State) : Host.Outcome State Fault Refusal :=
  .next ((s.tick t).request r (sIdx n) 0x01 [4] (sessResync n))

/-- JOIN_TIMEOUT (Table 3.8). -/
def execJoinTimeout (t n : Nat) (s : State) : Host.Outcome State Fault Refusal :=
  .next ((s.tick t).joinTimeout n)

/-- STARVATION_TIMEOUT (Table 3.8). -/
def execStarvationTimeout (t n : Nat) (s : State) : Host.Outcome State Fault Refusal :=
  .next ((s.tick t).starvationTimeout n)

/-! ### Reruns (R155) -/

/-- Insert a session in ascending priority and then number. -/
def insertPrio (x : Nat × Nat) : List (Nat × Nat) → List (Nat × Nat)
  | [] => [x]
  | y :: ys => if x.1 < y.1 || (x.1 = y.1 && x.2 < y.2) then x :: y :: ys else y :: insertPrio x ys

/-- Sessions in ascending priority and then ascending number. -/
def State.prioOrder (s : State) (ns : List Nat) : List Nat :=
  ((ns.map (fun n => (s.rn (sIdx n) 0x18, n))).foldl (fun l x => insertPrio x l) []).map (·.2)

/-- One session of a rerun, with the states before the rerun in `was`. A session CLOSED with reason 7 that passes
joins; one that does not pass is closed with reason 7. -/
def State.rerunOne (s : State) (n was : Nat) : State :=
  let c := s.admission n
  if c = 0 then
    if was = sessClosed then s.toJoining n
    else (s.wn (sIdx n) 0x02 was).putCharge n (s.charge n)
  else
    let s := s.bump (procKey 0 .net) 0x3100 0x09
    if was = sessClosed then s.wn (sIdx n) 0x03 7
    else (s.wn (sIdx n) 0x02 was).closeSess n 7

/-- R155: every charge is released, then each session visited is charged or closed, in order. While a session waits
for its visit its state is set aside, so that only those already visited count. -/
def State.rerun (s : State) : State :=
  let visit := s.prioOrder (s.sessUsed.filter (fun n =>
    s.sst n ≠ sessIdle && !(s.sst n = sessClosed && s.rn (sIdx n) 0x03 ≠ 7)))
  let was := visit.map (fun n => (n, s.sst n))
  let s := visit.foldl (fun s n => (s.putCharge n (0, 0, 0, 0)).wn (sIdx n) 0x02 sessIdle) s
  (was.foldl (fun s p => s.rerunOne p.1 p.2) s).refreshAdmission

/-- R113, R566: the sessions that a rerun admits go through JOINING again, with nothing held, and their joins sent. -/
def State.rejoinSessions (s : State) : State :=
  (s.prioOrder (s.sessUsed.filter s.admitted)).foldl (fun s n => s.toJoining n) s

/-- R157: every session with auto-open set is opened, in the order of R155. -/
def State.autoOpen (s : State) : State :=
  (s.prioOrder (s.sessUsed.filter (fun n => s.rn (sIdx n) 0x1E = 1))).foldl (fun s n =>
    let p := s.fresh
    (sessOpen n p.1 p.2 (.num 1)).1) s

/-- R151: the declaration objects take writes only while the session is IDLE or CLOSED. -/
def sessDecl (n sub : Nat) (s : State) (v : Val) : State × Nat :=
  let i := sIdx n
  let mux := bit (s.rn i 0x0B) 0
  if s.sst n ≠ sessIdle && s.sst n ≠ sessClosed then (s, 7)
  else if sub = 0x0A && v.int.toNat % 2 = 1 && s.kind n ≤ 1 && !mux then (s, 6)
  else if sub = 0x14 && s.kind n ≠ 1 && 2 ≤ v.int.toNat then (s, 6)
  else (s.wv i sub v, 0)

/-- R117: a change of quad mode takes the quad's lanes down and reruns admission. -/
def quadMode (q : Nat) (s : State) (v : Val) : State × Nat :=
  if s.quadMode q = v.int.toNat then (s, 0)
  else
    let s := s.wv 0x2900 (q + 1) v
    let s := (List.range 4).foldl (fun s j =>
      ((s.wn (0x2910 + (4 * q + j)) 0x0A 0).setLock (4 * q + j) false) |> fun s =>
        { s with ports := s.ports.put (4 * q + j) { s.port (4 * q + j) with lanes := s.clock + 50 * msTicks, negotiated := false } }) s
    (s.rerun, 0)

/-- QUAD_MODE_CHANGE (R117). -/
def execQuadModeChange (t : Nat) (r : Req) (q mode : Nat) (s : State) : Host.Outcome State Fault Refusal :=
  .next ((s.tick t).request r 0x2900 (q + 1) (leBytes 1 mode) (quadMode q))

/-- The lanes of a port: the four of a quad in XAUI, else its own (R117). -/
def State.portLanes (s : State) (p : Nat) : List Nat :=
  if s.quadMode (p / 4) = 1 then (List.range 4).map (· + p) else [p]

/-- A port's link state: down unless every lane of it holds lock (R478); negotiating where clause 37 has not completed,
otherwise up (R119). A port that begins to negotiate advertises full duplex and no pause. -/
def State.portUp (s : State) (p : Nat) : State :=
  if !s.portExists p || s.rn (0x2910 + p) 0x01 = 0 || !(s.portLanes p).all s.laneLocked then s.wn (0x2910 + p) 0x0A 0
  else if s.quadMode (p / 4) = 2 && s.rn (0x2910 + p) 0x09 = 1 && !(s.port p).negotiated then
    if s.rn (0x2910 + p) 0x0A = 2 then s else (s.wn (0x2910 + p) 0x0A 2).say (.advertise p true false false false)
  else s.wn (0x2910 + p) 0x0A 1

/-- QUAD_LANES_UP (R117): the lanes of a changed quad are back. -/
def State.quadUp (s : State) (q : Nat) : State :=
  let s := (List.range 4).foldl (fun s j => s.setLock (4 * q + j) true) s
  (List.range 4).foldl (fun s j =>
    let p := 4 * q + j
    ({ s with ports := s.ports.put p { s.port p with lanes := 0 } }).portUp p) s

def execQuadLanesUp (t q : Nat) (s : State) : Host.Outcome State Fault Refusal :=
  .next (if q < 4 then (s.tick t).quadUp q else s.tick t)

/-- AUTO_NEGOTIATION_COMPLETE (R119): a 1000BASE-X port goes from negotiating to up. -/
def State.negotiated (s : State) (p : Nat) : State :=
  if s.rn (0x2910 + p) 0x0A = 2 then
    ({ s with ports := s.ports.put p { s.port p with negotiated := true } }).wn (0x2910 + p) 0x0A 1
  else s

def execAutoNegotiationComplete (t p : Nat) (s : State) : Host.Outcome State Fault Refusal :=
  .next ((s.tick t).negotiated p)

end Sys2Proof.Machine
end

