-- ==== Sys2Proof/Machine/Colour.lean ====
section
/-! DEFINITION. Colour and tone (R254 to R258, R260): Y′CbCr conversion both ways, the EOTF tables, the matrix in linear light, the
tone curve, and the OETF. The real functions of the rules are computed in fixed point with 64 fraction bits; where a rule
does not say how a result is rounded, the rounding is free (log 163). -/

namespace Sys2Proof.Machine

/-! ### Rounding -/

/-- A quotient rounded down, or up where the free rounding of the rule says so. -/
def quot (rule : Nat) (n : Int) (d : Nat) : Int := if n % d = 0 then n / d else n / d + b2n (Config.roundUp rule n d)

/-- A component clipped to 10 bits. -/
def clip10 (v : Int) : Nat := min 1023 v.toNat

/-- The largest linear light, 10,000 cd/m² in units of 2^−16 cd/m² (R256). -/
def maxLight : Nat := 655360000

/-! ### Fixed point -/

/-- One in fixed point. -/
def fxOne : Int := 2 ^ 64

/-- The product of two fixed-point numbers. -/
def fxMul (a b : Int) : Int := a * b / fxOne

/-- A fraction in fixed point. -/
def fxOf (n d : Nat) : Int := (n : Int) * fxOne / d

/-- z + z³/3 + z⁵/5 + …: `k` terms from the odd number `i`, `p` the power of z reached. -/
def atanhSeries (z2 : Int) : Nat → Nat → Int → Int
  | 0, _, _ => 0
  | k + 1, i, p => p / i + atanhSeries z2 k (i + 2) (fxMul p z2)

/-- ln m for m = n ÷ d between 1/2 and 2. -/
def lnNear (n d : Nat) : Int :=
  let z := ((n : Int) - d) * fxOne / (n + d)
  2 * atanhSeries (fxMul z z) 40 1 z

/-- ln 2. -/
def fxLn2 : Int := lnNear 2 1

/-- ln (n ÷ d) for n and d above 0. -/
def fxLn (n d : Nat) : Int :=
  let a := n.log2
  let b := d.log2
  lnNear (n * 2 ^ (b - a)) (d * 2 ^ (a - b)) + ((a : Int) - b) * fxLn2

/-- 1 + r + r²/2 + …: `k` terms from the `i`-th, `t` the term reached. -/
def expSeries (r : Int) : Nat → Nat → Int → Int
  | 0, _, _ => 0
  | k + 1, i, t => t + expSeries r k (i + 1) (fxMul t r / (i + 1))

/-- e^x. -/
def fxExp (x : Int) : Int :=
  let k := x / fxLn2
  let v := expSeries (x - k * fxLn2) 32 0 fxOne
  if 0 ≤ k then v * 2 ^ k.toNat else v / 2 ^ (-k).toNat

/-- A fixed-point number to the power p ÷ q; 0 of what is not above 0. -/
def fxPow (b : Int) (p q : Nat) : Int := if b ≤ 0 then 0 else fxExp (fxLn b.toNat (2 ^ 64) * p / q)

/-! ### PQ (SMPTE ST 2084; its constants PRESUMED, log 164) -/

/-- PQ: linear light as a part of 10,000 cd/m² from a code value between 0 and 1. -/
def pqLight (e : Int) : Int :=
  let t := fxPow e 32 2523
  let n := t - fxOf 3424 4096
  let d := fxOf 2413 128 - fxMul (fxOf 2392 128) t
  if n ≤ 0 || d ≤ 0 then 0 else fxPow (n * fxOne / d) 16384 2610

/-- PQ⁻¹: the code value between 0 and 1 of linear light. -/
def pqCode (l : Int) : Int :=
  let y := fxPow l 2610 16384
  fxPow ((fxOf 3424 4096 + fxMul (fxOf 2413 128) y) * fxOne / (fxOne + fxMul (fxOf 2392 128) y)) 2523 32

/-! ### EOTF tables (R256) -/

/-- One bit of the fifth root of `t` ÷ 1,023^12, from bit `n` down. -/
def root5Aux (t : Nat) : Nat → Nat → Nat
  | 0, r => r
  | n + 1, r => root5Aux t n (if (r + 2 ^ n) ^ 5 * 1023 ^ 12 ≤ t then r + 2 ^ n else r)

/-- BT.1886: W × (c ÷ 1,023)^2.4 in units of 2^−16. -/
def bt1886Entry (white c : Nat) : Nat :=
  let t := (65536 * white) ^ 5 * c ^ 12
  let n := root5Aux t 27 0
  if n ^ 5 * 1023 ^ 12 = t then n else n + b2n (Config.eotfUp 0 c white)

/-- PQ. Both ends of the table are whole numbers. -/
def pqEntry (c : Nat) : Nat :=
  if c = 0 then 0
  else if 1023 ≤ c then maxLight
  else min maxLight ((pqLight (fxOf c 1023) * maxLight / fxOne).toNat + b2n (Config.eotfUp 2 c 0))

/-- HLG: the inverse OETF of BT.2100 (its constants PRESUMED, log 164), then the OOTF on the component. -/
def hlgEntry (peak c : Nat) : Nat :=
  let e := fxOf c 1023
  let scene := if 2 * c ≤ 1023 then fxMul e e / 3
    else (fxExp ((e - fxOf 55991073 100000000) * fxOne / fxOf 17883277 100000000) + fxOf 28466892 100000000) / 12
  let gamma := fxOf 12 10 + fxMul (fxOf 42 100) (fxLn peak 1000 * fxOne / fxLn 10 1)
  let v := if scene ≤ 0 then 0 else fxExp (fxMul gamma (fxLn scene.toNat (2 ^ 64)))
  if c = 0 then 0 else min maxLight ((v * (65536 * peak : Nat) / fxOne).toNat + b2n (Config.eotfUp 1 c peak))

/-- The BT.1886 table at the default SDR white, which custom tables begin with. -/
def bt1886 : List Byte := (List.range 1024).flatMap (fun c => leBytes 4 (bt1886Entry 100 c))

/-- The EOTF of a tone map: 0 BT.1886, 1 HLG, 2 PQ, 3 linear, 4 custom. -/
def ToneS.light (t : ToneS) (c : Nat) : Nat :=
  match t.eotf with
  | 0 => bt1886Entry t.white c
  | 1 => hlgEntry t.peak c
  | 2 => pqEntry c
  | 3 => (quot 256 (65536 * t.white * c : Nat) 1023).toNat
  | _ => if t.custom.isEmpty then bt1886Entry 100 c else leNat ((t.custom.drop (4 * c)).take 4)

/-! ### Matrix and curve (R256, R257) -/

/-- One row of the matrix on linear light, clipped to 10,000 cd/m². -/
def matrixRow (m : List Int) (k : Nat) (l : Nat × Nat × Nat) : Nat :=
  let c := fun (j : Nat) => (m[3 * k + j]?).getD (if j = k then 65536 else 0)
  min maxLight (quot 256 (c 0 * l.1 + c 1 * l.2.1 + c 2 * l.2.2) 65536).toNat

/-- Little-endian numbers of `n` bytes. -/
def words (n : Nat) : Nat → List Byte → List Nat
  | 0, _ => []
  | k + 1, b => leNat (b.take n) :: words n k (b.drop n)

/-- The curve at a PQ code value scaled to 0 to 65,535, in fixed point. -/
def curveAt (points : List Nat) (x : Int) : Int :=
  let k := min 31 (x / fxOne / 2048).toNat
  let a : Nat := 2048 * k
  let b : Nat := if k = 31 then 65535 else a + 2048
  let p := (points[k]?).getD 0
  let q := (points[k + 1]?).getD 0
  p * fxOne + ((q : Int) - p) * (x - a * fxOne) / ((b : Int) - a)

/-- The tone curve on linear light: M′ ÷ M on every component. The identity changes nothing. -/
def ToneS.toned (t : ToneS) (l : Nat × Nat × Nat) : Nat × Nat × Nat :=
  let m := max l.1 (max l.2.1 l.2.2)
  if m = 0 || t.curve.isEmpty || t.curve = identityCurve then l
  else
    let m' := pqLight (curveAt (words 2 33 t.curve) (pqCode (fxOf m maxLight) * 65535) / 65535)
    let f := fun (c : Nat) => min maxLight (quot 257 (c * maxLight * m') (m * 2 ^ 64)).toNat
    (f l.1, f l.2.1, f l.2.2)

/-- Table 6.3 in parts of 10,000, row by row, by source and screen primaries (0 BT.709, 1 BT.2020). -/
def primariesMatrix (source screen : Nat) : List Int :=
  let t : List Int := match source, screen with
    | 1, 0 => [16605, -5876, -728, -1246, 11329, -83, -182, -1006, 11187]
    | 0, 1 => [6274, 3293, 433, 691, 9195, 114, 164, 880, 8956]
    | _, _ => [10000, 0, 0, 0, 10000, 0, 0, 0, 10000]
  t.map (fun v => (2 * 65536 * v + 10000) / 20000)

/-! ### OETF (R258) -/

/-- The largest code `c` up to `r` + 2^n − 1 with (c − 1/2) ÷ 1,023 at or below (L ÷ Ws)^(1/2.4), L and Ws in the same units. -/
def sdrAux (l ws : Nat) : Nat → Nat → Nat
  | 0, r => r
  | n + 1, r =>
    let c := r + 2 ^ n
    sdrAux l ws n (if (2 * c - 1) ^ 12 * ws ^ 5 ≤ 2046 ^ 12 * l ^ 5 then c else r)

/-- floor(1,023 × min(1, L ÷ Ws)^(1 ÷ 2.4) + 0.5), L in units of 2^−16 and Ws in cd/m². -/
def sdrCode (white l : Nat) : Nat := sdrAux (min l (65536 * white)) (65536 * white) 10 0

/-- floor(1,023 × PQ⁻¹(L) + 0.5). -/
def pqOut (l : Nat) : Nat := min 1023 ((2 * 1023 * pqCode (fxOf l maxLight) + fxOne) / (2 * fxOne)).toNat

/-- The OETF of a screen: SDR (transfer 0) at its white, or PQ. -/
def oetf (transfer white l : Nat) : Nat := if transfer = 0 then sdrCode white l else pqOut l

/-! ### Y′CbCr (R254, R345) -/

/-- Kr, Kg and Kb in parts of 10,000 by matrix code: 0 BT.709, 1 BT.601, 2 BT.2020 (PRESUMED of the standards R254 names, log 164). -/
def lumaWeights (m : Nat) : Nat × Nat × Nat :=
  match m with
  | 1 => (2990, 5870, 1140)
  | 2 => (2627, 6780, 593)
  | _ => (2126, 7152, 722)

/-- Y′CbCr to R′G′B′ of 10 bits (R254). -/
def rgbOfYcc (m : Nat) (full : Bool) (y cb cr : Nat) : Nat × Nat × Nat :=
  let k := lumaWeights m
  let yn : Int := if full then y else (y : Int) - 64
  let yd : Nat := if full then 1023 else 876
  let cd : Nat := if full then 1023 else 896
  let b : Int := (cb : Int) - 512
  let r : Int := (cr : Int) - 512
  let one := fun (w : Nat) (c : Int) => clip10 (quot 254 (1023 * (yn * 10000 * cd + 2 * (10000 - (w : Int)) * c * yd)) (yd * 10000 * cd))
  (one k.1 r,
   clip10 (quot 254 (1023 * (yn * cd * 10000 * k.2.1 - 2 * k.2.2 * (10000 - (k.2.2 : Int)) * b * yd - 2 * k.1 * (10000 - (k.1 : Int)) * r * yd))
     (yd * cd * 10000 * k.2.1)),
   one k.2.2 b)

/-- R′G′B′ of 10 bits to limited-range Y′CbCr of 10 bits (R345). -/
def yccOfRgb (m : Nat) (c : Nat × Nat × Nat) : Nat × Nat × Nat :=
  let k := lumaWeights m
  let y : Int := k.1 * c.1 + k.2.1 * c.2.1 + k.2.2 * c.2.2
  let diff := fun (v w : Nat) => clip10 (512 + quot 345 (896 * (10000 * (v : Int) - y)) (1023 * 2 * (10000 - w)))
  (clip10 (64 + quot 345 (876 * y) (1023 * 10000)), diff c.2.2 k.2.2, diff c.1 k.1)

/-! ### The tone path of one pixel (Table 6.1, steps 6 to 9) -/

/-- EOTF, matrix, tone curve and OETF on the R′G′B′ components of a pixel. -/
def ToneS.encode (t : ToneS) (transfer white : Nat) (c : Nat × Nat × Nat) : Nat × Nat × Nat :=
  let l := (t.light c.1, t.light c.2.1, t.light c.2.2)
  let l := t.toned (matrixRow t.matrix 0 l, matrixRow t.matrix 1 l, matrixRow t.matrix 2 l)
  (oetf transfer white l.1, oetf transfer white l.2.1, oetf transfer white l.2.2)

/-! ### Graphics formats (R260) -/

/-- 5, 6 and 8 bits widened to 10. -/
def widen5 (v : Nat) : Nat := v * 32 + v
def widen6 (v : Nat) : Nat := v * 16 + v / 4
def widen8 (v : Nat) : Nat := v * 4 + v / 64

/-- A graphics pixel of Table 6.4: red, green, blue and alpha of 10 bits. -/
def graphicsPixel (fmt : Nat) (b : List Byte) : Nat × Nat × Nat × Nat :=
  let v := leNat b
  match fmt with
  | 0 => (widen5 (bits v 15 11), widen6 (bits v 10 5), widen5 (bits v 4 0), 1023)
  | 1 => (widen8 (bits v 23 16), widen8 (bits v 15 8), widen8 (bits v 7 0), 1023)
  | 2 => (widen8 (bits v 23 16), widen8 (bits v 15 8), widen8 (bits v 7 0), widen8 (bits v 31 24))
  | _ => (bits v 29 20, bits v 19 10, bits v 9 0, bits v 31 30 * 341)

end Sys2Proof.Machine
end

