-- ==== Sys2Proof/Machine/Picture.lean ====
section
/-! DEFINITION. Pictures in the frame pool: P10 packing (R213, R214), reduced copies (R215), the luma CRC (R137), and the
tiles of a pixel relay (Table 13.5). -/

namespace Sys2Proof.Machine

/-! ### Planes -/

/-- The sample of a plane given in raster order with `w` samples a row. -/
def planeAt (w : Nat) (p : List Nat) (x y : Nat) : Nat := (p[y * w + x]?).getD 0

/-- A plane of `w` × `h` samples from what stands at each place. -/
def plane (w h : Nat) (f : Nat → Nat → Nat) : List Nat :=
  (List.range h).flatMap (fun y => (List.range w).map (fun x => f x y))

/-! ### P10 packing (R213) -/

/-- Samples up to the next multiple of 16. -/
def round16 (n : Nat) : Nat := ceilDiv n 16 * 16

/-- Words of one row of samples: three samples a word, unused positions 0. -/
def packRow : Nat → List Nat → List Nat
  | 0, _ => []
  | k + 1, l =>
    ((l[0]?).getD 0 % 1024 + 1024 * ((l[1]?).getD 0 % 1024) + 1048576 * ((l[2]?).getD 0 % 1024)) :: packRow k (l.drop 3)

/-- Words of one row of a picture of this width (Table 5.3). -/
def rowWords (w : Nat) : Nat := ceilDiv (round16 w) 3

/-- A picture packed (Table 5.3): luma rows, then chroma rows with Cb and Cr interleaved. `y` and `c` give the samples at a
place, 0 beyond the coded size. -/
def packPicture (w h : Nat) (y : Nat → Nat → Nat) (cb cr : Nat → Nat → Nat) : List Nat :=
  let wc := round16 w
  let hc := round16 h
  (List.range hc).flatMap (fun j => packRow (rowWords w) ((List.range wc).map (fun i => if i < w && j < h then y i j else 0))) ++
  (List.range (hc / 2)).flatMap (fun j => packRow (rowWords w) ((List.range (wc / 2)).flatMap (fun i =>
    if 2 * i < w && 2 * j < h then [cb i j, cr i j] else [0, 0])))

/-- The sample at a position of a row of words. -/
def rowSample (words : List Nat) (at' i : Nat) : Nat :=
  let v := (words[at' + i / 3]?).getD 0
  bits v (10 * (i % 3) + 9) (10 * (i % 3))

/-- A luma sample of a packed picture of this coded size. -/
def lumaAt (w : Nat) (words : List Nat) (x y : Nat) : Nat := rowSample words (y * rowWords w) x

/-- A chroma sample: `k` 0 for Cb, 1 for Cr. -/
def chromaAt (w h : Nat) (words : List Nat) (k x y : Nat) : Nat :=
  rowSample words ((round16 h + y) * rowWords w) (2 * x + k)

/-- A native sample as stored: an 8-bit one as its value × 4 (R214). -/
def storedSample (depth v : Nat) : Nat := if depth = 8 then 4 * v else v

/-! ### Reduced copies (R215) -/

/-- The average of an f × f block of a plane of w × h samples, rounded, the last column and row repeated. -/
def blockMean (f w h : Nat) (p : Nat → Nat → Nat) (x y : Nat) : Nat :=
  (((List.range f).flatMap (fun j => (List.range f).map (fun i =>
    p (min (f * x + i) (w - 1)) (min (f * y + j) (h - 1))))).foldl (· + ·) 0 + f * f / 2) / (f * f)

/-- The reduced copy of a picture in P10 packing: its conformance window of w × h samples reduced by f. -/
def reducedCopy (f w h : Nat) (y cb cr : Nat → Nat → Nat) : List Nat :=
  let cw := ceilDiv w 2
  let ch := ceilDiv h 2
  packPicture (ceilDiv w f) (ceilDiv h f) (blockMean f w h y) (blockMean f cw ch cb) (blockMean f cw ch cr)

/-! ### The luma CRC (R137) -/

/-- The luma samples of a window in raster order, each as two big-endian bytes. -/
def lumaBytes (cw ch : Nat) (f : Nat → Nat → Nat) : List Byte := (plane cw ch f).flatMap (beBytes 2)

/-- CRC-32 over the luma samples of a window. -/
def lumaCrc (w confX confY cw ch : Nat) (y : List Nat) : Nat :=
  crc 0 (lumaBytes cw ch (fun i j => planeAt w y (confX + i) (confY + j)))

/-- The native value of a stored sample (R137, R214). -/
def nativeSample (depth v : Nat) : Nat := if depth = 8 then v / 4 else v

/-- A stored picture's luma as its CRC is taken. -/
def PicS.luma (p : PicS) : List Byte :=
  lumaBytes p.w p.h (fun i j => nativeSample p.depth (lumaAt p.codedW p.words (p.confX + i) (p.confY + j)))

/-! ### Tiles -/

/-- The words of one 16 × 16 tile of a packed picture (Table 13.5): 16 luma rows, then 8 chroma rows, of six words each. -/
def tileWords (w h : Nat) (words : List Nat) (col row : Nat) : List Nat :=
  (List.range 16).flatMap (fun j => packRow 6 ((List.range 16).map (fun i => lumaAt w words (16 * col + i) (16 * row + j)))) ++
  (List.range 8).flatMap (fun j => packRow 6 ((List.range 8).flatMap (fun i =>
    [chromaAt w h words 0 (8 * col + i) (8 * row + j), chromaAt w h words 1 (8 * col + i) (8 * row + j)])))

/-- A luma sample of a tile's words, and a chroma sample. -/
def tileLuma (t : List Nat) (x y : Nat) : Nat := rowSample t (6 * y) x
def tileChroma (t : List Nat) (k x y : Nat) : Nat := rowSample t (96 + 6 * y) (2 * x + k)

/-- The bytes of 32-bit words (little-endian, R213), and words from bytes. -/
def wordBytes (l : List Nat) : List Byte := l.flatMap (leBytes 4)
def bytesWords : Nat → List Byte → List Nat
  | 0, _ => []
  | k + 1, b => leNat (b.take 4) :: bytesWords k (b.drop 4)

/-- Mid-grey of a 10-bit component (R223, R249). -/
def midGrey : Nat := 512

end Sys2Proof.Machine
end

