-- ==== Sys2Proof/Machine/Relay.lean ====
section
/-! DEFINITION. Outgoing relays (R571 to R574): records, pixel pictures, access units, surfaces and pressed planes as the
source package sends them. -/

namespace Sys2Proof.Machine

/-! ### Bytes -/

/-- Bytes the state does not hold: free values (log 5). -/
def State.freeBytes (s : State) (n : Nat) : List Byte × State :=
  let p := s.fresh
  (leBytes n p.1, p.2)

/-- Bytes cut into pieces of at most `k`. -/
def pieces (k : Nat) : Nat → List Byte → List (List Byte)
  | 0, _ => []
  | n + 1, b => if b.isEmpty then [] else b.take k :: pieces k n (b.drop k)

/-- Blocks of a kind that stores its input (Table 10.5). -/
def storedBlocks (kind : Nat) (b : List Byte) : List Byte :=
  (pieces 16384 (b.length / 16384 + 1) b).flatMap (fun p =>
    beBytes 1 kind ++ [0] ++ beBytes 2 (p.length - 1) ++ beBytes 2 p.length ++ p)

/-- Bytes 32 to 63 of Table 10.1: a care label. -/
def labelBody (ident alive : Nat) (cap : Option Nat) (crc flags : Nat) : List Byte :=
  let c := cap.getD 0
  beBytes 8 ident ++ beBytes 4 alive ++ beBytes 6 (c / 1000000000) ++ beBytes 4 (c % 1000000000) ++ beBytes 4 crc ++
  beBytes 1 flags ++ [0, 0, 0, 0, 0]

/-- A relay record (Table 17.3). -/
def recordBytes (number w h grade kind : Nat) (window : List Nat) (vui : List Byte) (len : Nat) (label : List Byte) :
    List Byte :=
  beBytes 4 number ++ beBytes 2 w ++ beBytes 2 h ++ beBytes 1 grade ++ beBytes 1 kind ++ window.flatMap (beBytes 2) ++
  vui ++ [0, 0] ++ beBytes 4 len ++ [0, 0, 0, 0] ++ label

/-! ### The stream of a relay -/

/-- The receiving package of a relay number. -/
def relayTo (no : Nat) : Nat := no / 256

/-- An outgoing relay's row. -/
def State.relay (s : State) (no : Nat) : RelayS :=
  s.sys.relays.at' no { source := 0, mode := 0, cost := 0, port := 0, ctx := none, load := 0 }
def State.setRelay (s : State) (no : Nat) (g : RelayS) : State :=
  { s with sys := { s.sys with relays := s.sys.relays.put no g } }

/-- Bytes of a relay's block stream leave in stream relay frames, each with the offset it starts at (Table 13.5). -/
def State.relayStream (s : State) (no : Nat) (b : List Byte) : State :=
  (pieces 8186 (b.length / 8186 + 1) b).foldl (fun s p =>
    let g := s.relay no
    (s.setRelay no { g with sent := (g.sent + p.length) % 2 ^ 32 }).unicast ftStream 0 (relayTo no)
      (beBytes 2 no ++ beBytes 4 g.sent ++ p)) s

/-- Bytes leave in coded blocks from the relay's context; a block longer than its input is stored (R389, R390). -/
def State.relayCoded (s : State) (no : Nat) (b : List Byte) : State :=
  match (s.relay no).ctx with
  | none => s
  | some c =>
    (pieces 16384 (b.length / 16384 + 1) b).foldl (fun s i =>
      let x := s.ctx c
      let start : EncState :=
        if dictFull x.learnt then ⟨[], none, (encSpecial ⟨x.learnt, none, []⟩ 256).codes⟩ else ⟨x.learnt, none, []⟩
      let e := i.foldl encByte start
      let bits := (flushed e).flatten
      let len := bits.length / 8
      if i.length < len then (s.bump (coderKey 0) 0x5800 0x07).relayStream no (storedBlocks 1 i)
      else
        (s.setCtx c { x with learnt := e.learnt }).relayStream no
          (beBytes 1 0 ++ [0] ++ beBytes 2 (i.length - 1) ++ beBytes 2 len ++ bytesOf len bits)) s

/-- Bytes leave in kind 2 blocks, after which both ends prime (R574). -/
def State.relayPrimed (s : State) (no : Nat) (b : List Byte) : State :=
  let s := match (s.relay no).ctx with
    | some c => s.setCtx c {}
    | none => s
  let n := ceilDiv b.length 16384
  ((s.bump (coderKey 0) 0x5800 0x07 n)).relayStream no (storedBlocks 2 b)

/-- The relays of a source that send now: not shed, a session only while RUNNING (R571). -/
def State.relaysOf (s : State) (source mode : Nat) : List Nat :=
  if source < 160 && s.sst source ≠ sessRunning then []
  else (s.sys.relays.filter (fun r => r.2.source = source && r.2.mode = mode && !r.2.shed)).map (·.1)

/-- The next record or message number of a relay, and the state that has used it. -/
def State.relayNumber (s : State) (no : Nat) : Nat × State :=
  let g := s.relay no
  (g.number, s.setRelay no { g with number := wrapInc 32 g.number })

/-! ### Video -/

/-- The label flags of a session's picture: HEARTBEAT, SOURCE_FAULT, TEST and CRC_PRESENT (Table 1.2). -/
def State.labelFlags (s : State) (n : Nat) (heartbeat crc : Bool) : Nat :=
  b2n heartbeat + 2 * b2n (s.ses n).fault + 4 * b2n (s.ses n).test + 8 * b2n crc

/-- The label a relay sends for an access unit of a session. -/
def State.relayLabel (s : State) (n : Nat) (au : AuInfo) : List Byte :=
  labelBody (if au.grade = 2 then (s.ses n).ident else 0) au.alive au.cap (au.crc.getD 0)
    (s.labelFlags n au.heartbeat au.crc.isSome)

/-- The VUI bytes of a record: matrix, transfer, primaries, full range. -/
def vuiBytes (matrix transfer primaries : Nat) (full : Bool) : List Byte :=
  beBytes 1 matrix ++ beBytes 1 transfer ++ beBytes 1 primaries ++ beBytes 1 (b2n full)

/-- A displayed picture leaves by every pixel relay of its session (R573): its record, then its tiles in raster order, up to
14 in a frame, each with its taint. -/
def State.relayPicture (s : State) (n : Nat) (pic : PicS) (au : AuInfo) : State :=
  let w := pic.codedW
  let h := pic.codedH
  let cols := ceilDiv w 16
  (s.relaysOf n 0).foldl (fun s no =>
    let p := s.relayNumber no
    let s := p.2.relayStream no (storedBlocks 1
      (recordBytes p.1 w h au.grade 0 [pic.confX, pic.confY, pic.w, pic.h]
        (vuiBytes pic.matrix pic.transfer pic.primaries pic.fullRange) 0 (s.relayLabel n au)))
    (List.range (ceilDiv h 16)).foldl (fun s row =>
      (List.range (ceilDiv cols 14)).foldl (fun s k =>
        let count := min 14 (cols - 14 * k)
        let taint := (List.range count).foldl (fun a j => a + (if pic.taint.contains (row * cols + 14 * k + j) then 2 ^ j else 0)) 0
        let px := (List.range count).flatMap (fun j => wordBytes (tileWords w h pic.words (14 * k + j) row))
        s.unicast ftPixel 0 (relayTo no)
          (beBytes 2 no ++ beBytes 4 p.1 ++ beBytes 2 row ++ beBytes 2 (14 * k) ++ beBytes 1 count ++ [0] ++
            beBytes 2 taint ++ [0, 0] ++ px)) s) s) s

/-- An access unit released to decode leaves by every stream relay of its session (R574): its record, then its bytes. The state
holds its NAL units as parsed, not their bits: the bytes' length and content are free (log 5). -/
def State.relayUnit (s : State) (n : Nat) (au : AuInfo) : State :=
  let z := au.coded.sps
  let f := fun (g : ParamSet → Nat) => (z.map g).getD 0
  (s.relaysOf n 1).foldl (fun s no =>
    let p := s.relayNumber no
    let l := p.2.fresh
    let len := l.1 % 2 ^ 32
    let b := l.2.freeBytes len
    b.2.relayStream no (storedBlocks 1
      (recordBytes p.1 (f (·.codedW)) (f (·.codedH)) au.grade 1 [f (·.confX), f (·.confY), f (·.width), f (·.height)]
        (vuiBytes (f (·.matrix)) (f (·.transfer)) (f (·.primaries)) ((z.map (·.fullRange)).getD false)) len
        (s.relayLabel n au)) ++ storedBlocks 1 b.1)) s

/-! ### Surfaces and pressed planes -/

/-- A ZTT message of a relay (Table 10.1): uncoded, with a label where it presents a version or is a heartbeat. -/
def relayZtt (typ flags buf fmt seq x y w h : Nat) (label payload : List Byte) : List Byte :=
  beBytes 2 0x5A54 ++ beBytes 1 1 ++ beBytes 1 typ ++ beBytes 1 flags ++ beBytes 1 buf ++ beBytes 1 fmt ++ [0] ++ [0, 0] ++
  [0, 0] ++ beBytes 4 seq ++ beBytes 2 x ++ beBytes 2 y ++ beBytes 2 w ++ beBytes 2 h ++ beBytes 4 payload.length ++
  [0, 0, 0, 0] ++ label ++ payload

/-- A message that took effect on a session's surface leaves by every stream relay of it. -/
def State.relayMessage (s : State) (n : Nat) (h : ZttHdr) (px : List Byte) : State :=
  let label := if bit h.flags 4 then
      labelBody h.ident h.alive (some (h.cap * 1000000000 + h.capNs)) h.crc h.lflags else List.replicate 32 0
  (s.relaysOf n 1).foldl (fun s no =>
    let p := s.relayNumber no
    p.2.relayCoded no (relayZtt h.typ (h.flags &&& 0x11) h.buf h.fmt p.1 h.x h.y h.w h.h label px)) s

/-- The newest complete version of a session's surface as one message (R574). -/
def State.relayVersion (s : State) (n seq : Nat) (bpp : Nat → Nat) (read : List Host.Cell → Nat → List Byte) : List Byte :=
  let g := s.gfxOf n
  match g.newest with
  | none => []
  | some b =>
    let u := g.bufs.at' b {}
    let w := s.rn (sIdx n) 0x10
    let h := s.rn (sIdx n) 0x11
    let fmt := u.fmt.getD 0
    let p := u.pic.getD {}
    relayZtt 1 0x11 b fmt seq 0 0 w h
      (labelBody (s.ses n).ident p.alive p.cap 0 (s.labelFlags n false false)) (read u.data (w * h * bpp fmt))

/-- The pressed plane of a screen as one message: ARGB2101010, PRESENT (R574). Its pixels are not in the state: they are
free. -/
def State.planeMessage (s : State) (no w h : Nat) (cap : Option Nat) : List Byte × State :=
  let p := s.relayNumber no
  let b := p.2.freeBytes (w * h * 4)
  (relayZtt 1 0x11 0 3 p.1 0 0 w h (labelBody 1 (p.2.relay no).alive cap 0 0) b.1, b.2)

/-- A new plane leaves by every stream relay of the screen's pressed plane. -/
def State.relayPlane (s : State) (x w h : Nat) (cap : Option Nat) : State :=
  (s.relaysOf (160 + x) 1).foldl (fun s no =>
    let m := s.planeMessage no w h cap
    m.2.relayCoded no m.1) s

/-- A latch of the source screen: a heartbeat with the oldest member capture time; its alive counter advances only when every
member is LIVE (R574). -/
def State.relayBeat (s : State) (x : Nat) (cap : Option Nat) (live : Bool) : State :=
  (s.relaysOf (160 + x) 1).foldl (fun s no =>
    let g := s.relay no
    let s := s.setRelay no { g with alive := if live then wrapInc 32 g.alive else g.alive }
    let p := s.relayNumber no
    p.2.relayCoded no (relayZtt 2 0x10 0 0 p.1 0 0 0 0 (labelBody 1 (p.2.relay no).alive cap 0 1) [])) s

end Sys2Proof.Machine
end

