-- ==== Sys2Proof/Machine/Segments.lean ====
section
/-! DEFINITION. How a coded picture is cut into segments and shared (R204, R205), and which of its CTUs are missing (R201,
R202, R106). -/

namespace Sys2Proof.Machine

/-! ### CTUs (macroblocks in H.264) -/

/-- CTU columns and rows of a coded picture. -/
def ctuCols (p : ParamSet) : Nat := ceilDiv p.codedW (max 1 p.ctu)
def ctuRows (p : ParamSet) : Nat := ceilDiv p.codedH (max 1 p.ctu)

/-- The start of each run of the given lengths. -/
def starts : Nat → List Nat → List Nat
  | _, [] => []
  | a, n :: ns => a :: starts (a + n) ns

/-- The tile columns or rows of a picture as (start, length): the whole extent where none is given. -/
def tileRuns (total : Nat) (l : List Nat) : List (Nat × Nat) :=
  if l.isEmpty then [(0, total)] else (starts 0 l).zip l

/-- The tiles of a picture in order, as areas of CTUs: none of H.264. -/
def tilesIn (p : ParamSet) (q : PicSet) : List Area :=
  let cols := tileRuns (ctuCols p) (if p.h264 then [] else q.tileCols)
  let rows := tileRuns (ctuRows p) (if p.h264 then [] else q.tileRows)
  rows.flatMap (fun r => cols.map (fun c => ⟨c.1, min (ctuCols p) (c.1 + c.2), r.1, min (ctuRows p) (r.1 + r.2)⟩))

/-- The CTUs of a picture in decode order, each with its place in raster order and its tile: tile after tile, in raster order
within a tile. -/
def ctuOrder (p : ParamSet) (q : PicSet) : List (Nat × Nat) :=
  (tilesIn p q).zipIdx.flatMap (fun t => (List.range (t.1.y1 - t.1.y0)).flatMap (fun j =>
    (List.range (t.1.x1 - t.1.x0)).map (fun i => ((t.1.y0 + j) * ctuCols p + t.1.x0 + i, t.2))))

/-- The luma samples of a CTU, clipped to the coded size. -/
def ctuArea (p : ParamSet) (a : Nat) : Area :=
  let c := max 1 (ctuCols p)
  ⟨a % c * p.ctu, min p.codedW (a % c * p.ctu + p.ctu), a / c * p.ctu, min p.codedH (a / c * p.ctu + p.ctu)⟩

/-- A CTU as coded: its place in decode order and in raster order, its tile, the position of its slice segment, that of the
independent slice segment it stands under, and its bits. -/
structure CtuS where
  pos : Nat
  addr : Nat
  tile : Nat
  seg : Nat
  slice : Nat
  bits : Nat
  deriving DecidableEq, Repr

/-- The slice segments that can be decoded, each with its position, its independent segment's and the place in decode order it
starts at (R202): those whose sets are held; a dependent one only directly after another of its slice. -/
def usable (order : List (Nat × Nat)) : Nat → Option (Nat × Nat) → List (Slice × Bool) → List (Slice × Nat × Nat × Nat)
  | _, _, [] => []
  | i, prev, (x, held) :: l =>
    let pos := order.findIdx (fun c => c.1 = x.first)
    if !held || order.length ≤ pos then usable order (i + 1) none l
    else if x.dependent then
      match prev with
      | some (own, next) =>
        if next = pos then (x, i, own, pos) :: usable order (i + 1) (some (own, pos + x.ctus.length)) l
        else usable order (i + 1) none l
      | none => usable order (i + 1) none l
    else (x, i, i, pos) :: usable order (i + 1) (some (i, pos + x.ctus.length)) l

/-- The CTUs that arrived of a coded picture, in order of arrival. -/
def CodedS.ctus (c : CodedS) : List CtuS :=
  match c.sps with
  | none => []
  | some p =>
    let order := ctuOrder p (c.pps.getD ⟨0, 0, [], [], false⟩)
    (usable order 0 none c.slices).flatMap (fun u => u.1.ctus.zipIdx.filterMap (fun b =>
      (order[u.2.2.2 + b.2]?).map (fun o => ⟨u.2.2.2 + b.2, o.1, o.2, u.2.1, u.2.2.1, b.1⟩)))

/-! ### Segments (R204) -/

/-- Whether a picture's rows are wavefronts. -/
def CodedS.wavefront (c : CodedS) : Bool :=
  match c.sps, c.pps with
  | some p, some q => !p.h264 && q.wavefront
  | _, _ => false

/-- The CTU row of a CTU. -/
def CodedS.rowOf (c : CodedS) (x : CtuS) : Nat :=
  match c.sps with
  | some p => x.addr / max 1 (ctuCols p)
  | none => 0

/-- Whether a parallel boundary stands between two CTUs: of tiles, of slices with their dependent segments, of wavefront rows. -/
def CodedS.cutAt (c : CodedS) (a b : CtuS) : Bool :=
  a.tile ≠ b.tile || a.slice ≠ b.slice || (c.wavefront && c.rowOf a ≠ c.rowOf b)

/-- CTUs cut at the parallel boundaries. -/
def CodedS.split (c : CodedS) : List CtuS → List (List CtuS)
  | [] => []
  | [a] => [[a]]
  | a :: b :: l =>
    match c.split (b :: l) with
    | s :: r => if c.cutAt a b then [a] :: s :: r else (a :: s) :: r
    | [] => [[a]]

/-- The segments of a picture: cut at its boundaries where the session is parallel, otherwise one. -/
def CodedS.segments (c : CodedS) (parallel : Bool) : List (List CtuS) :=
  let l := if parallel then c.split c.ctus else [c.ctus]
  if l.isEmpty then [[]] else l

/-- The place of the smallest number, the first of equals. -/
def leastAt (l : List Nat) : Nat :=
  (l.zipIdx.foldl (fun b x => if x.1 < b.1 then x else b) ((l[0]?).getD 0, 0)).2

/-- The share each segment is assigned to over `k` cores (R204): wavefront row r to share r mod k; others, in order, to the share
that has the fewest CTUs so far. `acc` holds the CTUs of each share. -/
def CodedS.assign (c : CodedS) (k : Nat) : List Nat → List (List CtuS) → List Nat
  | _, [] => []
  | acc, s :: l =>
    let j := if c.wavefront then ((s.head?.map c.rowOf).getD 0) % max 1 k else leastAt acc
    j :: c.assign k (acc.set j ((acc[j]?).getD 0 + s.length)) l

/-- The cores a picture is shared over: no more than its segments. -/
def shareCount (maxCores : Nat) (segs : List (List CtuS)) : Nat := max 1 (min maxCores segs.length)

/-- Segments with their shares. -/
def CodedS.shares (c : CodedS) (maxCores : Nat) (parallel : Bool) : List (List CtuS × Nat) :=
  let segs := c.segments parallel
  let k := shareCount maxCores segs
  segs.zip (c.assign k (List.replicate k 0) segs)

/-! ### Effective sharing (R205) -/

/-- The sum of a list. -/
def sumOf (l : List Nat) : Nat := l.foldl (· + ·) 0

/-- R205: the effective sharing as an exact fraction, at least 1: the smaller of the pixel and the bit sharing, with a start lag of
2 × (c − 1) CTUs on each share of a wavefront, whose bits are taken at the picture's average (DEDUCED, log 157). -/
def CodedS.sharing (c : CodedS) (maxCores : Nat) (parallel : Bool) : Nat × Nat :=
  let l := c.shares maxCores parallel
  let k := shareCount maxCores (l.map (·.1))
  let lag := if c.wavefront && 1 < k then 2 * (k - 1) else 0
  let p := sumOf (l.map (fun s => s.1.length))
  let b := sumOf (l.map (fun s => sumOf (s.1.map (·.bits))))
  let mine := fun (j : Nat) => l.filter (fun s => s.2 = j)
  let pj := (List.range k).map (fun j => sumOf ((mine j).map (fun s => s.1.length)) + lag)
  let bj := (List.range k).map (fun j => sumOf ((mine j).map (fun s => sumOf (s.1.map (·.bits)))) * p + lag * b)
  let pm := pj.foldl max 0
  let bm := bj.foldl max 0
  let q := if bm = 0 || p * bm ≤ b * p * pm then (p, pm) else (b * p, bm)
  if q.1 ≤ q.2 then (1, 1) else q

/-! ### Missing CTUs (R201, R202, R106) -/

/-- The CTUs of a picture that were decoded, as (decode order, raster) places: those that arrived, up to where a bitstream error ended
their slice segment, and not in a segment lost with its core. `errors` are (slice segment, CTUs decoded before the error). -/
def CodedS.decoded (c : CodedS) (parallel : Bool) (errors : List (Nat × Nat)) : List CtuS :=
  let lost := (c.segments parallel).zipIdx.flatMap (fun s => if c.lost.contains s.2 then s.1 else [])
  let l := c.ctus
  l.filter (fun x => !lost.contains x && errors.all (fun e =>
    e.1 ≠ x.seg || x.pos < ((l.filter (fun y => y.seg = x.seg)).foldl (fun a y => min a y.pos) x.pos) + e.2))

/-- The CTUs missing, by raster place. -/
def CodedS.missing (c : CodedS) (parallel : Bool) (errors : List (Nat × Nat)) : List Nat :=
  match c.sps with
  | none => []
  | some p =>
    let got := c.decoded parallel errors
    (List.range (ctuCols p * ctuRows p)).filter (fun a => !got.any (fun x => x.addr = a))

/-- Whether the slice a CTU stands in was received whole: no CTU is missing from its independent segment's first to the next
independent segment, in decode order. -/
def CodedS.sliceWhole (c : CodedS) (missing : List Nat) (addr : Nat) : Bool :=
  match c.sps with
  | none => false
  | some p =>
    let order := ctuOrder p (c.pps.getD ⟨0, 0, [], [], false⟩)
    let heads := (c.slices.filter (fun x => !x.1.dependent)).map (fun x => order.findIdx (fun o => o.1 = x.1.first))
    let pos := order.findIdx (fun o => o.1 = addr)
    let first := (heads.filter (· ≤ pos)).foldl max 0
    let next := (heads.filter (pos < ·)).foldl min order.length
    ((order.drop first).take (next - first)).all (fun o => !missing.contains o.1)

end Sys2Proof.Machine
end

