-- ==== Sys2Proof/Machine/Sessions.lean ====
section
/-! DEFINITION. Reception: Ethernet frames and NET's answers (R117 to R123), RTP and RTCP (R124 to R133), care labels and
their arrival checks (R23 to R30, R134 to R142). -/

namespace Sys2Proof.Machine

/-! ### Ethernet frames (Tables 3.2 and 3.3) -/

/-- What becomes of a received frame. -/
inductive Fate where
  | count (sub : Nat)
  | silent
  | arp
  | ptp
  | session (n : Nat)
  | rtcp (n : Nat)
  | zdp
  | host
  deriving DecidableEq, Repr

/-- A port's MAC address: base + p (Table 15.3). -/
def State.portMac (s : State) (p : Nat) : Nat := s.otp.mac + p

/-- R121: the link-local address, fe80::/64 with the modified EUI-64 of the port's MAC address. -/
def State.linkLocal (s : State) (p : Nat) : List Byte :=
  let m := beBytes 6 (s.portMac p)
  [0xFE, 0x80, 0, 0, 0, 0, 0, 0, (m[0]?).getD 0 ^^^ 2, (m[1]?).getD 0, (m[2]?).getD 0, 0xFF, 0xFE, (m[3]?).getD 0,
    (m[4]?).getD 0, (m[5]?).getD 0]

/-- Whether an IPv6 or IPv4 address is the port's own (R121). -/
def State.ownAddr (s : State) (p : Nat) (v6 : Bool) (a : List Byte) : Bool :=
  if v6 then a = s.linkLocal p || (a = s.rb (0x2910 + p) 0x06 && !a.all (· = 0))
  else beNat a ≠ 0 && beNat a = s.rn (0x2910 + p) 0x03 && a.length = 4

/-- Whether a port's interface has an address family (R121): IPv4 with an address; IPv6 always has its link-local one. -/
def State.hasFamily (s : State) (p : Nat) (v6 : Bool) : Bool := v6 || s.rn (0x2910 + p) 0x03 ≠ 0

/-- Whether a session's destination is valid: a group, or its port's own address, of a family the port has (R121, R158). A session
whose destination is not receives nothing. -/
def State.destValid (s : State) (n : Nat) : Bool :=
  let i := sIdx n
  let v6 : Bool := s.rn i 0x07 = 1
  let a := if v6 then s.rb i 0x08 else (s.rb i 0x08).take 4
  s.hasFamily (s.rn i 0x05) v6 && (isGroup v6 a || s.ownAddr (s.rn i 0x05) v6 a)

/-- The session that a UDP packet is for: admitted, on this port, with this destination and source (R123). RTCP comes
on the RTP port + 1 unless muxed (R131). -/
def State.udpSession (s : State) (p : Nat) (i : IpInfo) (rtcp : Bool) : Option Nat :=
  s.sessUsed.find? (fun n =>
    let x := sIdx n
    let mux := bit (s.rn x 0x0B) 0
    let port := s.rn x 0x0A + (if rtcp && !mux then 1 else 0)
    s.admitted n && s.kind n ≤ 2 && (!rtcp || s.kind n ≤ 1) && s.rn x 0x05 = p && port = i.dstPort &&
    (s.rn x 0x07 = 1) = i.v6 && s.destValid n && (s.rb x 0x08).take i.dstAddr.length = i.dstAddr &&
    ((s.rb x 0x09).all (· = 0) || (s.rb x 0x09).take i.srcAddr.length = i.srcAddr))

/-- Table 3.3. -/
def State.ipFate (s : State) (p : Nat) (i : IpInfo) : Fate :=
  let other := if s.rn (0x2910 + p) 0x11 = 1 then Fate.host else .silent
  if !s.hasFamily p i.v6 then other
  else if !i.v6 && !i.hdrSumOk then .count 0x0D
  else if !i.v6 && i.fragment then .count 0x12
  else if i.v6 && i.otherExt then .count 0x0D
  else if !i.udp then other
  else if i.v6 && i.udpSumZero then .count 0x0D
  else if !i.udpSumZero && !i.udpSumOk then .count 0x0D
  else match s.udpSession p i false with
    | some n => .session n
    | none => match s.udpSession p i true with
      | some n => .rtcp n
      | none =>
        if i.dstPort = 319 || i.dstPort = 320 then .ptp
        else if s.rn 0x2020 0x01 = 1 && i.dstPort = s.rn 0x2020 0x02 && bit (s.rn 0x2020 0x03) p then .zdp
        else other

/-- The MAC address a multicast group's frames go to (RFC 1112, RFC 2464). -/
def groupMac (v6 : Bool) (g : List Byte) : Nat :=
  if v6 then 0x333300000000 + beNat ((g.drop 12).take 4) else 0x01005E000000 + beNat (g.take 4) % 2 ^ 23

/-- The groups NET itself uses on a port (DEDUCED, log 151): all hosts, all nodes and the solicited nodes of its addresses, and PTP's where the port runs
PTP. -/
def State.ownGroups (s : State) (p : Nat) : List Nat :=
  let sol := fun (a : List Byte) => 0x3333FF000000 + beNat ((a.drop 13).take 3)
  (if s.hasFamily p false then [0x01005E000001] else []) ++ [0x333300000001, sol (s.linkLocal p)] ++
  (if (s.rb (0x2910 + p) 0x06).all (· = 0) then [] else [sol (s.rb (0x2910 + p) 0x06)]) ++
  (if s.ptpOn p then [0x01005E000181, 0x01005E00006B, 0x333300000181, 0x33330000006B, 0x011B19000000, 0x0180C200000E] else [])

/-- Whether a destination MAC address is the port's own, broadcast, or of a group in use on it (Table 3.2). -/
def State.macMine (s : State) (p dst : Nat) : Bool :=
  dst = s.portMac p || dst = 2 ^ 48 - 1 || (s.ownGroups p).contains dst ||
  s.mcast.any (fun e => e.port = p && groupMac e.v6 e.group = dst)

/-- Table 3.2, then Table 3.3. A frame of an IP EtherType whose header cannot be read is discarded and counted (DESIGN CHOICE, log 152). -/
def State.frameFate (s : State) (p : Nat) (f : Frame) : Fate :=
  let vlan := s.rn (0x2910 + p) 0x0B
  let tag := f.vid.getD 0
  if !f.fcsOk || f.len < 64 then .count 0x0E
  else if 9216 < f.len then .count 0x0F
  else if f.tpid88a8 then .count 0x0D
  else if f.etherType = 0x8808 then .count 0x10
  else if tag ≠ vlan then .count 0x0D
  else if !s.macMine p f.dst then .silent
  else if f.etherType = 0x0806 then .arp
  else if f.etherType = 0x88F7 then .ptp
  else if f.etherType = 0x0800 || f.etherType = 0x86DD then
    match f.ip with
    | some i => s.ipFate p i
    | none => .count 0x0D
  else if s.rn (0x2910 + p) 0x11 = 1 then .host else .count 0x0D

/-- A frame arrives only on a port that is up, and whose die's NET is not restarting (R148). -/
def State.portHears (s : State) (p : Nat) : Bool :=
  s.rn (0x2910 + p) 0x0A = 1 && !(s.procs.at' (procKey (p / 8) .net) {}).restarting

/-- A received frame counts in frames received, and where Tables 3.2 or 3.3 reject it, in its counter (R120, R122). -/
def State.frameDiscard (s : State) (p : Nat) (f : Frame) : State :=
  if !s.portHears p then s
  else
    let s := s.bump (ethKey p) (0x2910 + p) 0x0C
    match s.frameFate p f with
    | .count sub => s.bump (ethKey p) (0x2910 + p) sub
    | _ => s

/-- ETHERNET_FRAME_DISCARD (R120). -/
def execEthernetFrameDiscard (t p : Nat) (f : Frame) (s : State) : Host.Outcome State Fault Refusal :=
  .next ((s.tick t).frameDiscard p f)

/-- RAW_FRAME_TO_HOST (R120, R122, R501): a frame nothing of the Mladdan's matches goes to the host raw receive ring if
0x2910+p:11 is 1; otherwise it is discarded as its row says. -/
def State.rawFrame (s : State) (p : Nat) (f : Frame) : State :=
  if !s.portHears p then s
  else
    let s := s.bump (ethKey p) (0x2910 + p) 0x0C
    match s.frameFate p f with
    | .host => s.toHost p f.data
    | .count sub => s.bump (ethKey p) (0x2910 + p) sub
    | _ => s

def execRawFrameToHost (t p : Nat) (f : Frame) (s : State) : Host.Outcome State Fault Refusal :=
  .next ((s.tick t).rawFrame p f)

/-- ARP_REQUEST (R121): answered when it asks for the port's own IPv4 address. -/
def State.arpRequest (s : State) (p target : Nat) (sender : List Byte) : State :=
  if s.portHears p && target ≠ 0 && target = s.rn (0x2910 + p) 0x03 then s.say (.arp p target sender) else s

def execArpRequest (t p : Nat) (target : Nat) (sender : List Byte) (s : State) : Host.Outcome State Fault Refusal :=
  .next ((s.tick t).arpRequest p target sender)

/-- ICMP_ECHO_REQUEST (R121). -/
def State.echoRequest (s : State) (p : Nat) (v6 : Bool) (target data : List Byte) : State :=
  if s.portHears p && s.ownAddr p v6 target then s.say (.echo p v6 data) else s

def execIcmpEchoRequest (t p : Nat) (v6 : Bool) (target data : List Byte) (s : State) : Host.Outcome State Fault Refusal :=
  .next ((s.tick t).echoRequest p v6 target data)

/-- NEIGHBOUR_SOLICITATION (R121). -/
def State.solicitation (s : State) (p : Nat) (target : List Byte) : State :=
  if s.portHears p && s.ownAddr p true target then s.say (.neighbour p target) else s

def execNeighbourSolicitation (t p : Nat) (target : List Byte) (s : State) : Host.Outcome State Fault Refusal :=
  .next ((s.tick t).solicitation p target)

/-- MULTICAST_QUERY (R123): every group in use on the port is reported again; an older querier than the mode in use selects its
compatibility mode. -/
def State.query (s : State) (p : Nat) (v6 : Bool) (version : Nat) : State :=
  if !s.portHears p then s
  else
    let g := s.port p
    let now := s.groupVersion p v6
    let g := if version < (if v6 then 2 else 3) && version ≤ now then
        (if v6 then { g with compat6 := version, old6 := s.clock } else { g with compat4 := version, old4 := s.clock })
      else g
    let s := { s with ports := s.ports.put p g }
    (s.mcast.filter (fun e => e.port = p && e.v6 = v6)).foldl State.report s

def execMulticastQuery (t p : Nat) (v6 : Bool) (version : Nat) (s : State) : Host.Outcome State Fault Refusal :=
  .next ((s.tick t).query p v6 version)

/-! ### RTP (R124 to R129) -/

/-- The first accepted packet in JOINING or STARVED (R125, Table 3.8): the session goes to ACQUIRING and the decoder takes the
out-of-band sets. Adopting an SSRC resets the continuity references; a fixed one is only matched. -/
def State.acquire (s : State) (n ssrc : Nat) : State :=
  let s := s.enterSess n sessAcquiring 0
  let s := if bit (s.rn (sIdx n) 0x0B) 3 then s else s.resetContinuity n
  let s := s.setSes n { s.ses n with ssrc := some ssrc, dropNote := false, shortNote := false }
  ((s.wn (sIdx n) 0x20 ssrc).wn (0x3440 + n) 0x01 0).takeSets n

/-- What a session holds of the packets of its SSRC: nothing where a packet of another SSRC is the first it accepts. -/
def SessS.ofSsrc (g : SessS) (ssrc : Nat) : SessS :=
  if g.ssrc = some ssrc then g
  else { g with
    ext := none, seen := [], restart := none, doneSeq := none, doneTs := none, aus := [], transit := none, sr := none
    mapOk := false }

/-- R126: a 16-bit sequence number extended against the extended highest. -/
def extendSeq (ext : Nat) (q : Nat) : Nat :=
  let d := serialDiff 16 q ext
  if d < 2 ^ 15 then (ext + d) % 2 ^ 32 else (ext + 2 ^ 32 + d - 2 ^ 16) % 2 ^ 32

/-- Insert an access unit by rising timestamp. -/
def insertAu (a : AuS) : List AuS → List AuS
  | [] => [a]
  | b :: bs => if serialAfter 32 b.ts a.ts then a :: b :: bs else b :: insertAu a bs

/-- Put an accepted packet into its access unit (R127). A marker ends the unit; a later timestamp ends every earlier. A reorder
window that had run out runs again from a packet of the unit. -/
def addPacket (aus : List AuS) (ext : Nat) (pkt : RtpPkt) : List AuS :=
  let aus := aus.map (fun a => if serialAfter 32 pkt.ts a.ts then { a with ended := true } else a)
  if aus.any (fun a => a.ts = pkt.ts) then
    aus.map (fun a => if a.ts = pkt.ts then
      { a with
        pkts := a.pkts ++ [(ext, pkt.body)], marked := a.marked || pkt.marker, expired := false
        ended := a.marked || pkt.marker || aus.any (fun b => serialAfter 32 b.ts a.ts), lastMac := max a.lastMac pkt.mac }
      else a)
  else insertAu ⟨pkt.ts, [(ext, pkt.body)],
    pkt.marker || aus.any (fun a => serialAfter 32 a.ts pkt.ts), pkt.marker, false, pkt.mac⟩ aus

/-- RFC 3550's interarrival jitter in 1/16 units of 90 kHz. -/
def jitterStep (j : Nat) (prev now : Nat) : Nat :=
  let d := serialDiff 32 now prev
  let d := if d < 2 ^ 31 then d else 2 ^ 32 - d
  j + d - (j + 8) / 16

/-- Ring discards and packets outside the subset count in 0x3000+n:29 (R124, R128, R133). -/
def State.rtpDrop (s : State) (n sub : Nat) : State := s.bump (ethKey (s.rn (sIdx n) 0x05)) (sIdx n) sub

/-- An accepted packet: counters, jitter, starvation timing and the access unit it belongs to. -/
def State.rtpAccept (s : State) (n : Nat) (pkt : RtpPkt) (ext : Nat) : State :=
  let g := s.ses n
  let arr := pkt.mac * 9 / 40000 % 2 ^ 32
  let transit := serialDiff 32 arr pkt.ts
  let j := match g.transit with
    | some p => jitterStep g.jitter p transit
    | none => g.jitter
  let top := match g.ext with
    | some h => if serialAfter 32 ext h then ext else h
    | none => ext
  let g := { g with
    ext := some top, base := if g.ext.isSome then g.base else ext,
    seen := (ext :: g.seen).filter (fun q => serialDiff 32 top q ≤ 100), restart := none, last := pkt.mac,
    aus := addPacket g.aus ext pkt, jitter := j, transit := some transit
    recv := (if g.ext.isSome then g.recv else 0) + 1, expPrior := if g.ext.isSome then g.expPrior else 0
    recvPrior := if g.ext.isSome then g.recvPrior else 0 }
  let s := s.setSes n g
  let s := s.rtpDrop n 0x24
  (s.wn (sIdx n) 0x2A (j / 16)).wn (sIdx n) 0x2B top

/-- Whether a payload type is of H.264's packetization mode 2 (Table 3.4). -/
def isMode2 (h264 : Bool) (ty : Nat) : Bool := h264 && (ty = 25 || ty = 26 || ty = 27 || ty = 29)

/-- Whether a payload type is supported (Table 3.4). DONL fields leave no mark in a packet: a stream that carries them is not
told apart (DEDUCED, log 153). -/
def payloadOk (h264 : Bool) (ty : Nat) : Bool :=
  if h264 then (1 ≤ ty && ty ≤ 24) || ty = 28 else ty ≤ 49

/-- A packet that passed the checks is accepted: from JOINING or STARVED it acquires the session first. One stamped at or
before the starvation deadline undoes a starvation that was handled before it (R146). -/
def State.rtpTake (s : State) (n : Nat) (pkt : RtpPkt) (ext : Nat) : State :=
  let st := s.sst n
  let g := s.ses n
  if st = sessStarved && g.was ≠ 0 && g.ssrc = some pkt.ssrc && pkt.mac ≤ g.last + s.rn (sIdx n) 0x19 * msTicks then
    (s.enterSess n g.was 0).rtpAccept n pkt ext
  else if st = sessJoining || st = sessStarved then
    let s := s.acquire n pkt.ssrc
    if s.sst n = sessAcquiring then s.rtpAccept n pkt ext else s
  else s.rtpAccept n pkt ext

/-- R126, R127: a packet that passed the checks of R124, R125 and R128, by its sequence number and timestamp. A restart is made
by the very next packet alone. At a restart the access units under reception are dropped, unreleased and not counted, and
the timestamp last released stands (DESIGN CHOICE, log 154). -/
def State.rtpSeq (s : State) (n : Nat) (pkt : RtpPkt) : State :=
  let g := (s.ses n).ofSsrc pkt.ssrc
  let again : Bool := g.restart = some pkt.seq
  let g := { g with restart := none }
  let s := s.setSes n g
  match g.ext with
  | none => s.rtpTake n pkt pkt.seq
  | some h =>
    let e := extendSeq h pkt.seq
    let ahead := serialAfter 32 e h
    if g.seen.contains e then s.rtpDrop n 0x26
    else if again then
      let s := s.rtpDrop n 0x2E
      (s.setSes n { g with ext := none, seen := [], aus := [], doneSeq := none }).rtpTake n pkt pkt.seq
    else if (ahead && 3000 < serialDiff 32 e h) || (!ahead && 100 < serialDiff 32 h e) then
      s.setSes n { g with restart := some ((pkt.seq + 1) % 2 ^ 16) }
    else if (match g.doneTs with | some d => !serialAfter 32 pkt.ts d | none => false) then
      let top := if ahead then e else h
      let s := s.setSes n { g with ext := some top, seen := (e :: g.seen).filter (fun q => serialDiff 32 top q ≤ 100) }
      (s.wn (sIdx n) 0x2B top).rtpDrop n 0x28
    else
      let s := if !ahead then s.rtpDrop n 0x27 else s
      s.rtpTake n pkt e

/-- RTP_PACKET (R124 to R128, R133, Table 3.8). A packet for a full ring is discarded and counted. The sequence number of a
discarded packet is not recorded as received (DESIGN CHOICE, log 155). -/
def State.rtpPacket (s : State) (n : Nat) (pkt : RtpPkt) : State :=
  let i := sIdx n
  let g := s.ses n
  let fixed := bit (s.rn i 0x0B) 3
  let st := s.sst n
  let h264 : Bool := s.kind n = 1
  let ssrcOk := if fixed then pkt.ssrc = s.rn i 0x0D
    else if st = sessJoining || st = sessStarved then true else g.ssrc = some pkt.ssrc
  if !s.admitted n || 2 ≤ s.kind n || !s.portHears (s.rn i 0x05) || !s.destValid n then s
  else if pkt.ringFull || pkt.version ≠ 2 || pkt.pt ≠ s.rn i 0x0C || !ssrcOk then s.rtpDrop n 0x29
  else if isMode2 h264 pkt.body.ptype then
    if st = sessAcquiring || st = sessRunning then (s.rtpDrop n 0x29).closeSess n 6 else s.rtpDrop n 0x29
  else if !payloadOk h264 pkt.body.ptype then s.rtpDrop n 0x29
  else s.rtpSeq n pkt

def execRtpPacket (t n : Nat) (pkt : RtpPkt) (s : State) : Host.Outcome State Fault Refusal :=
  .next ((s.tick t).rtpPacket n pkt)

/-- REORDER_WINDOW_EXPIRY (R127): the window has run since the last packet of an access unit: it ends, and may be
released with its missing NAL units. -/
def State.reorderExpiry (s : State) (n : Nat) : State :=
  let g := s.ses n
  let w := s.rn (sIdx n) 0x1A * usTicks
  s.setSes n { g with aus := g.aus.map (fun a =>
    if a.lastMac + w ≤ s.clock then { a with ended := true, expired := true } else a) }

def execReorderWindowExpiry (t n : Nat) (s : State) : Host.Outcome State Fault Refusal :=
  .next ((s.tick t).reorderExpiry n)

/-! ### Care labels (R134 to R137) -/

/-- The care-label UUID (Table 3.6). -/
def labelUuid : List Byte :=
  [0x5A, 0x4C, 0xD1, 0x7E, 0x0B, 0x93, 0x4C, 0x2A, 0x9E, 0x61, 0x3F, 0x08, 0xC5, 0xA2, 0x7D, 0x14]

/-- R134: emulation prevention bytes are removed: a 3 after two zeros. `z` counts the zeros before. -/
def unescape : Nat → List Byte → List Byte
  | _, [] => []
  | z, b :: bs =>
    if 2 ≤ z && b = 3 then unescape 0 bs
    else b :: unescape (if b = 0 then z + 1 else 0) bs

/-- R135, R136: a label from a payload, given the tile rows of the access unit's own picture (none: no parameter set is
held). Answers none when malformed. -/
def parseLabel (rows : Option Nat) (b : List Byte) : Option Label :=
  let at' := fun i n => beNat ((b.drop i).take n)
  let l := at' 44 1
  let flags := at' 17 1
  let nsf := at' 36 4
  if b.length < 45 || b.length ≠ 45 + l || at' 16 1 ≠ 1 || at' 18 8 = 0 || 1000000000 ≤ nsf || 18 < l then none
  else if bit flags 4 && (match rows with | some r => l ≠ ceilDiv r 8 | none => true) then none
  else some ⟨flags, at' 18 8, at' 26 4, at' 30 6 * 1000000000 + nsf, at' 40 4, b.drop 45⟩

/-- The tile rows a rows-not-refreshed map marks: bit 7 of byte 0 is row 0. -/
def mapRows (b : List Byte) : List Nat :=
  b.zipIdx.flatMap (fun p => (List.range 8).filterMap (fun k => if p.1.toNat.testBit (7 - k) then some (8 * p.2 + k) else none))

/-- The raw labels of an access unit: prefix SEI of payload type 5 with the UUID, before the first VCL NAL unit. -/
def rawLabels : List Nal → List (List Byte)
  | [] => []
  | ⟨.vcl _, _⟩ :: _ => []
  | ⟨.sei false 5 raw, _⟩ :: ns =>
    let b := unescape 0 raw
    if b.take 16 = labelUuid then b :: rawLabels ns else rawLabels ns
  | _ :: ns => rawLabels ns

/-- NAL units of the packets of an access unit in sequence order: whole ones, and those whose fragments all arrived
(R129). `frag` is the fragment chain under way: its next sequence number. -/
def reassemble (h264 : Bool) : List (Nat × RtpBody) → Option Nat → List Nal
  | [], _ => []
  | (q, b) :: ps, frag =>
    if b.ptype = (if h264 then 28 else 49) then
      let ok := b.first || frag = some q
      if ok && b.last then b.nals ++ reassemble h264 ps none
      else if ok then reassemble h264 ps (some ((q + 1) % 2 ^ 32)) else reassemble h264 ps none
    else b.nals ++ reassemble h264 ps none

/-- Insert a packet in sequence order. -/
def insertPkt (x : Nat × RtpBody) : List (Nat × RtpBody) → List (Nat × RtpBody)
  | [] => [x]
  | y :: ys => if serialAfter 32 y.1 x.1 then x :: y :: ys else y :: insertPkt x ys

/-- Packets in sequence order. -/
def sortPkts (l : List (Nat × RtpBody)) : List (Nat × RtpBody) := l.foldl (fun a x => insertPkt x a) []

/-! ### Arrival checks (Table 1.3) -/

/-- Layers showing a session, enabled in force. -/
def State.layersOf (s : State) (n : Nat) : List Nat :=
  s.slotsUsed.filter (fun x => s.layerOn x && s.fn (0x4000 + x) 0x03 = n)

/-- R35 on an alive value against a reference: none accepts it as new (R38). -/
def judge (ref : Option Nat) (a : Nat) : Judge :=
  match ref with
  | none => .fresh
  | some r => if serialAfter 32 a r then .fresh else if serialEq 32 a r then .again else .replay

/-- One layer's continuity (R35 to R38): its reference, repeat run and counters. -/
def State.layerAlive (s : State) (x a : Nat) : State :=
  let l := s.layer x
  let i := 0x4000 + x
  let k := compKey (s.fn i 0x02)
  match judge l.alive a with
  | .fresh =>
    let gap := match l.alive with
      | some r => decide (1 < serialDiff 32 a r)
      | none => false
    let s := (s.setLayer x { l with alive := some a, reps := 0 }).wn i 0x31 a
    if gap then s.bump k i 0x35 else s
  | .again =>
    (s.setLayer x { l with reps := min (l.reps + 1) (s.fn i 0x21 + 1) }).bump k i 0x34
  | .replay => s.bump k i 0x33

/-- R149: a replay run is judged when a replay label arrives; complete after the replay resync time, it resyncs the
session with one event. A label arrives when its access unit is released (DESIGN CHOICE, log 156). -/
def State.replayRun (s : State) (n : Nat) : State :=
  let g := s.ses n
  let w := s.rn (sIdx n) 0x1B
  match g.replayFrom with
  | none => s.setSes n { g with replayFrom := some s.clock }
  | some f =>
    if w ≠ 0 && f + w * msTicks ≤ s.clock && (s.sst n = sessAcquiring || s.sst n = sessRunning) then
      (s.resync n).raise (procKey 0 .net) 0x0303 1 [(8, n)]
    else s

/-- The continuity check on an alive value of a session (R28, R35, R149): the session's reference, every layer showing
it, and the replay counters. -/
def State.continuity (s : State) (n a : Nat) : State × Judge :=
  let j := judge (s.ses n).alive a
  let s := (s.layersOf n).foldl (fun s x => s.layerAlive x a) s
  match j with
  | .fresh => (s.setSes n { s.ses n with alive := some a, replayFrom := none }, j)
  | .again => (s.setSes n { s.ses n with replayFrom := none }, j)
  | .replay => ((s.bump (procKey 0 .net) 0x5000 0x10).replayRun n, j)

/-- R139: a change between labelled and another grade resets the continuity references. -/
def State.gradeChange (s : State) (n grade : Nat) : State :=
  let old := (s.ses n).gradeIn
  let s := if old ≤ 2 && (old = 2) != (grade = 2) then s.resetContinuity n else s
  s.setSes n { s.ses n with gradeIn := grade }

/-- R26: the synthesised counter at an RTP timestamp: a later timestamp advances it, an equal one is a repeat, any other
a replay, which leaves it unchanged and is judged as a value before it. -/
def State.synthAlive (s : State) (n ts : Nat) : State × Nat :=
  let g := s.ses n
  match g.synthTs with
  | none => (s.setSes n { g with synthTs := some ts }, g.synth)
  | some p =>
    if serialAfter 32 ts p then
      (s.setSes n { g with synth := wrapInc 32 g.synth, synthTs := some ts }, wrapInc 32 g.synth)
    else if ts = p then (s, g.synth)
    else (s, wrapDec 32 g.synth)

/-- R165: 48 bits of seconds extended to the value nearest the local seconds. `cap` and the result are in ns. -/
def extend48 (local' cap : Nat) : Nat :=
  let c := cap / 1000000000 % 2 ^ 48
  let r := cap % 1000000000
  let base := local' / 2 ^ 48 * 2 ^ 48 + c
  let dist := fun v => if v < local' then local' - v else v - local'
  let best := if 2 ^ 48 ≤ base && dist (base - 2 ^ 48) ≤ dist base then base - 2 ^ 48
    else if dist (base + 2 ^ 48) < dist base then base + 2 ^ 48 else base
  best * 1000000000 + r

/-- R28: whether a capture time lies in the future: later than local time + U + the tolerance. -/
def State.inFuture (s : State) (cap : Nat) : Bool :=
  match s.time.u with
  | some u => s.nowNs + u + s.rn 0x5000 0x05 * 1000000 < cap
  | none => s.nowNs + s.rn 0x5000 0x05 * 1000000 < cap

/-- R140: the capture time of a derived access unit: t_sr + d ÷ 90,000 s, truncated to whole ns. -/
def derivedCap (sr : Nat × Nat × Nat) (ts : Nat) : Nat :=
  let d := serialDiff 32 ts sr.2.1
  if d < 2 ^ 31 then sr.1 + d * 100000 / 9
  else sr.1 - ceilDiv ((2 ^ 32 - d) * 100000) 9

/-- R25: whether a session's SR mapping is valid: no older than the mapping age limit. -/
def State.mapValid (s : State) (n : Nat) : Bool :=
  match (s.ses n).sr with
  | some r => (s.ses n).mapOk && s.clock ≤ r.2.2 + s.rn 0x5000 0x06 * sTicks
  | none => false

/-- A labelled access unit's checks (R28): form and identity, continuity, repeat, future time, flags. -/
def State.labelled (s : State) (n ts : Nat) (l : Option Label) : State × AuInfo :=
  let want := s.rn (sIdx n) 0x0E
  let s := s.gradeChange n 2
  match l with
  | none =>
    let s := (s.setSes n { s.ses n with invalid := true, replayFrom := none }).bump (ethKey (s.rn (sIdx n) 0x05)) (sIdx n) 0x2D
    (s, ⟨ts, 2, ((s.ses n).alive.getD 0), none, .fresh, false, none, [], s.clock, {}⟩)
  | some l =>
    if want ≠ 0 && l.ident ≠ want then
      let s := s.setSes n { s.ses n with invalid := true, replayFrom := none }
      (s, ⟨ts, 2, ((s.ses n).alive.getD 0), none, .fresh, false, none, [], s.clock, {}⟩)
    else
      let s := s.setSes n { s.ses n with invalid := false, ident := l.ident }
      let p := s.continuity n l.alive
      let cap := extend48 s.nowSec.1 l.cap
      let late := p.2 = .fresh && p.1.inFuture cap
      let g := p.1.ses n
      let g := if p.2 = .replay then g
        else { g with fault := bit l.flags 1, test := bit l.flags 2, future := if p.2 = .fresh then late else g.future }
      let s := p.1.setSes n g
      let s := if late then s.bump (procKey 0 .net) 0x5000 0x11 else s
      (s, ⟨ts, 2, l.alive, if p.2 = .fresh then some cap else none, p.2, bit l.flags 0,
        if bit l.flags 3 && p.2 = .fresh && !late then some l.crc else none, if bit l.flags 4 then mapRows l.rows else [], s.clock, {}⟩)

/-- An access unit without a label: derived where the mapping is valid, unverifiable otherwise (R24 to R27). The conditions that
only a label clears stand; the future-time check is made on the derived capture time (DEDUCED, log 150). -/
def State.unlabelled (s : State) (n ts : Nat) : State × AuInfo :=
  let grade := if s.mapValid n then 1 else 0
  let s := s.gradeChange n grade
  let p := s.synthAlive n ts
  let q := p.1.continuity n p.2
  let cap := match (q.1.ses n).sr with
    | some r => if grade = 1 && q.2 = .fresh then some (derivedCap r ts) else none
    | none => none
  let late := match cap with
    | some c => q.1.inFuture c
    | none => false
  let g := q.1.ses n
  let g := if cap.isSome then { g with future := late } else g
  let s := q.1.setSes n g
  let s := if late then s.bump (procKey 0 .net) 0x5000 0x11 else s
  (s, ⟨ts, grade, p.2, cap, q.2, false, none, [], s.clock, {}⟩)

/-- Whether an access unit may be released: ended, and with no sequence number missing up to its end, or its window run out (R127).
`next` is the first sequence number of the unit after it. -/
def AuS.ready (a : AuS) (doneSeq next : Option Nat) : Bool :=
  let p := (sortPkts a.pkts).map (·.1)
  let first := p.head?.getD 0
  let last := p.getLast?.getD 0
  let whole := serialDiff 32 last first + 1 = p.length &&
    (match doneSeq with | some d => (d + 1) % 2 ^ 32 = first | none => true) &&
    (a.marked || next = some ((last + 1) % 2 ^ 32))
  a.ended && (whole || a.expired)

/-- Insert a waiting segment: by availability in µs, then session priority, then session number. -/
def insertSeg (x : SegWait) : List SegWait → List SegWait
  | [] => [x]
  | y :: ys =>
    let a := x.avail / usTicks
    let b := y.avail / usTicks
    if a < b || (a = b && (x.prio < y.prio || (x.prio = y.prio && x.sess < y.sess))) then x :: y :: ys
    else y :: insertSeg x ys

/-- R196, R204: a picture available to decode is cut into segments, each assigned to its share of the cores. -/
def State.cut (s : State) (n ts : Nat) (c : CodedS) : State :=
  let l := c.shares (s.rn 0x3400 0x04) (s.rn (sIdx n) 0x16 = 1)
  { s with segs := l.zipIdx.foldl (fun q x => insertSeg ⟨s.clock, s.rn (sIdx n) 0x18, n, ts, x.2, x.1.2⟩ q) s.segs }

/-- How many sequence numbers are missing up to the end of an access unit: since the last one released, or since its own first. -/
def seqsMissing (done : Option Nat) (pk : List (Nat × RtpBody)) : Nat :=
  let lastQ := (pk.getLast?.map (·.1)).getD 0
  let firstQ := (pk.head?.map (·.1)).getD 0
  let span := serialDiff 32 lastQ (match done with | some d => d | none => wrapDec 32 firstQ)
  if span < 2 ^ 31 then span - pk.length else 0

/-- R127: an access unit leaves its session's queue and is done; the sequence numbers missing before its end are lost. -/
def State.takeAu (s : State) (n : Nat) (a : AuS) (rest : List AuS) (lost : Nat) : State :=
  let g := s.ses n
  let s := s.setSes n
    { g with aus := rest, doneSeq := some (((sortPkts a.pkts).getLast?.map (·.1)).getD 0), doneTs := some a.ts }
  s.bump (ethKey (s.rn (sIdx n) 0x05)) (sIdx n) 0x25 lost

/-- The parameter sets a slice names, where the session holds them. -/
def SessS.setsOf (g : SessS) (x : Slice) : Option (ParamSet × PicSet) :=
  match g.pps.find? (fun q => q.id = x.pps) with
  | some q => (g.sps.find? (fun p => p.id = q.sps)).map (fun p => (p, q))
  | none => none

/-- The NAL units of an access unit in order (R130, R202): parameter sets are held as they come; each slice segment with whether
the sets it names are held, and the sets of the first one. -/
def SessS.takeNals (g : SessS) : List Nal → SessS × List (Slice × Bool) × Option (ParamSet × PicSet)
  | [] => (g, [], none)
  | x :: l =>
    match x.body with
    | .vcl y =>
      let r := g.takeNals l
      (r.1, (y, (g.setsOf y).isSome) :: r.2.1, g.setsOf y)
    | b => (g.hold b).takeNals l

/-- Whether a slice's picture is an IRAP picture (IDR in H.264), one that begins a sequence, a RASL picture (R229). -/
def isIrap (h264 : Bool) (nut : Nat) : Bool := if h264 then nut = 5 else 16 ≤ nut && nut ≤ 21
def beginsSeq (h264 : Bool) (nut : Nat) : Bool := if h264 then nut = 5 else 16 ≤ nut && nut ≤ 20
def isRasl (h264 : Bool) (nut : Nat) : Bool := !h264 && (nut = 8 || nut = 9)

/-- An access unit with its label's outcome is handed to decode (step 4 of Table 3.5). A RASL picture of an IRAP picture that begins a
sequence is discarded (R229). A picture whose size no parameter set tells is none (DEDUCED, log 149). -/
def State.toDecode (s : State) (n : Nat) (au : AuInfo) (nals : List Nal) : State :=
  let g := s.ses n
  let r := g.takeNals nals
  let h264 := match r.2.2 with
    | some z => z.1.h264
    | none => s.kind n = 1
  let nut := (r.2.1.head?.map (fun x => x.1.nut)).getD 1
  let irap := isIrap h264 nut
  let newSeq := irap && (beginsSeq h264 nut || g.startSeq)
  let sps := match r.2.2 with
    | some z => some z.1
    | none => g.active
  let c : CodedS := {
    sps := sps, pps := r.2.2.map (·.2), slices := r.2.1, badSets := r.1.badSets, irap := irap, newSeq := newSeq }
  let au := { au with coded := c }
  let drop : Bool := (g.skipRasl && isRasl h264 nut) || sps.isNone
  let g := { r.1 with
    active := sps, skipRasl := if irap then newSeq else g.skipRasl
    startSeq := nals.any (fun x => decide (x.body = .endSeq)), badSets := if drop then r.1.badSets else 0
    queue := if drop then g.queue else g.queue ++ [au] }
  let s := s.setSes n g
  (if drop then s else s.cut n au.ts c).relayUnit n au

/-- R132, R152: the NAL units of an access unit, those of a higher layer ignored (Table 5.2): its parameter sets are kept, or
close the session where they leave its limits; its label is checked and it is handed to decode. Without a VCL NAL unit it
makes no picture and its label is not applied. -/
def State.useAu (s : State) (n ts : Nat) (nals : List Nal) : State :=
  let nals := nals.filter (fun x => x.layer = 0)
  if nals.any (fun x => match x.body with | .sps p => s.setOutside n p | _ => false) &&
      (s.sst n = sessAcquiring || s.sst n = sessRunning) then s.closeSess n 6
  else
    let g := (s.ses n).takeNals nals
    if g.2.1.isEmpty then
      s.setSes n { g.1 with startSeq := g.1.startSeq || nals.any (fun x => decide (x.body = .endSeq)) }
    else
      let rows := g.2.2.map (fun z => ceilDiv z.1.codedH 16)
      let r := match rawLabels nals with
        | [] => s.unlabelled n ts
        | [b] => s.labelled n ts (parseLabel rows b)
        | _ => s.labelled n ts none
      (r.1.bump (ethKey (r.1.rn (sIdx n) 0x05)) (sIdx n) 0x2C).toDecode n r.2 nals

/-- ACCESS_UNIT_RELEASE (R127, R132): the earliest access unit, when it may be released, is depacketised, its label
checked, and it is handed to decode. Missing sequence numbers count as lost. -/
def State.releaseAu (s : State) (n : Nat) : State :=
  match (s.ses n).aus with
  | [] => s
  | a :: rest =>
    let next := rest.head?.bind (fun b => (sortPkts b.pkts).head?.map (·.1))
    if !a.ready (s.ses n).doneSeq next then s
    else (s.takeAu n a rest (seqsMissing (s.ses n).doneSeq (sortPkts a.pkts))).useAu n a.ts
      (reassemble (s.kind n = 1) (sortPkts a.pkts) none)

def execAccessUnitRelease (t n : Nat) (s : State) : Host.Outcome State Fault Refusal :=
  .next ((s.tick t).releaseAu n)

/-! ### RTCP (R131, R140 to R142) -/

/-- R141: an SR's NTP timestamp as PTP time in ns. -/
def State.ntpToPtp (s : State) (n sec frac : Nat) : Nat :=
  let base := (sec : Int) - 2208988800 + (if bit (s.rn (sIdx n) 0x0B) 1 then 0 else s.rd 0x2800 0x0A)
  base.toNat * 1000000000 + frac * 1000000000 / 2 ^ 32

/-- A valid SR: the mapping, with a jump of more than 10 ms counted and raised (R142). -/
def State.senderReport (s : State) (n mac ssrc sec frac ts : Nat) : State :=
  let g := s.ses n
  if g.ssrc ≠ some ssrc then s
  else
    let t := s.ntpToPtp n sec frac
    let jump := match g.sr with
      | some r => let p := derivedCap r ts
        decide (10000000 < (if p < t then t - p else p - t))
      | none => false
    let s := s.setSes n { g with sr := some (t, ts, mac), mapOk := true, lastSr := sec % 2 ^ 16 * 2 ^ 16 + frac / 2 ^ 16 }
    if jump then
      (s.bump (ethKey (s.rn (sIdx n) 0x05)) (sIdx n) 0x30).raise (procKey 0 .net) 0x0302 1 [(8, n)]
    else s

/-- One RTCP item: SR and BYE are read, others ignored (R131). A BYE for the adopted SSRC starves the session. -/
def State.rtcpItem (s : State) (n mac : Nat) (i : RtcpItem) : State :=
  match i with
  | .sr ssrc sec frac ts => s.senderReport n mac ssrc sec frac ts
  | .bye ssrc =>
    if (s.sst n = sessAcquiring || s.sst n = sessRunning) && (s.ses n).ssrc = some ssrc then
      (s.setSes n { s.ses n with was := 0 }).enterSess n sessStarved 0
    else s
  | .other => s

/-- RTCP_PACKET (R131). -/
def State.rtcpPacket (s : State) (n mac : Nat) (items : List RtcpItem) : State :=
  if s.admitted n && s.kind n ≤ 1 && s.portHears (s.rn (sIdx n) 0x05) && s.destValid n then
    items.foldl (fun s i => s.rtcpItem n mac i) s
  else s

def execRtcpPacket (t n : Nat) (mac : Nat) (items : List RtcpItem) (s : State) : Host.Outcome State Fault Refusal :=
  .next ((s.tick t).rtcpPacket n mac items)

/-- RTCP_RR_SEND (R131): a session with flag bit 2 reports every 5 s, as RFC 3550 lays the report out: with no report block before
its first packet. The period runs from the last report, or from the open. -/
def State.rrSend (s : State) (n : Nat) : State :=
  let g := s.ses n
  if s.admitted n && s.kind n ≤ 1 && bit (s.rn (sIdx n) 0x0B) 2 && g.rrAt + 5 * sTicks ≤ s.clock then
    let own := s.rn (sIdx n) 0x1F
    match g.ssrc, g.ext with
    | some ssrc, some h =>
      let expected := serialDiff 32 h g.base + 1
      let lost := expected - g.recv
      let ei := expected - g.expPrior
      let ri := g.recv - g.recvPrior
      let frac := if ei = 0 || ei ≤ ri then 0 else (ei - ri) * 256 / ei
      let delay := match g.sr with
        | some r => (s.clock - r.2.2) * 65536 / sTicks
        | none => 0
      (s.setSes n { g with expPrior := expected, recvPrior := g.recv, rrAt := s.clock }).say
        (.rtcpRr n own [ssrc, frac, lost, h, g.jitter / 16, g.lastSr, delay])
    | _, _ => (s.setSes n { g with rrAt := s.clock }).say (.rtcpRr n own [])
  else s

def execRtcpRrSend (t n : Nat) (s : State) : Host.Outcome State Fault Refusal :=
  .next ((s.tick t).rrSend n)

/-- MAPPING_AGE_EXPIRY (R25): the mapping is older than the limit: the source is unverifiable from the next frame. -/
def State.mappingExpiry (s : State) (n : Nat) : State :=
  match (s.ses n).sr with
  | some r =>
    if r.2.2 + s.rn 0x5000 0x06 * sTicks < s.clock then s.setSes n { s.ses n with mapOk := false } else s
  | none => s

def execMappingAgeExpiry (t n : Nat) (s : State) : Host.Outcome State Fault Refusal :=
  .next ((s.tick t).mappingExpiry n)

end Sys2Proof.Machine
end

