-- ==== Sys2Proof/Machine/Taint.lean ====
section
/-! DEFINITION. Taint, darning and the stored samples of a completed picture (R213 to R225), and its exactness (R30). -/

namespace Sys2Proof.Machine

/-! ### Areas and tiles -/

/-- Tiles of a picture (R96). -/
def tilesOf (w h : Nat) : Nat := ceilDiv w 16 * ceilDiv h 16

/-- Whether two areas share a sample. -/
def areaMeets (a b : Area) : Bool :=
  a.x0 < a.x1 && a.y0 < a.y1 && b.x0 < b.x1 && b.y0 < b.y1 && a.x0 < b.x1 && b.x0 < a.x1 && a.y0 < b.y1 && b.y0 < a.y1

/-- Whether an area shares a sample with one of several. -/
def areaIn (l : List Area) (a : Area) : Bool := l.any (areaMeets a)

/-- The tiles an area touches, of a picture of this width. -/
def areaTiles (w : Nat) (a : Area) : List Nat :=
  if a.x1 ≤ a.x0 || a.y1 ≤ a.y0 then []
  else (List.range ((a.y1 - 1) / 16 + 1 - a.y0 / 16)).flatMap (fun j =>
    (List.range ((a.x1 - 1) / 16 + 1 - a.x0 / 16)).map (fun i => (a.y0 / 16 + j) * ceilDiv w 16 + a.x0 / 16 + i))

/-- Tiles of marked tile rows (R30, R218). -/
def rowTiles (w h : Nat) (rows : List Nat) : List Nat :=
  let tw := ceilDiv w 16
  rows.flatMap (fun r => if r < ceilDiv h 16 then (List.range tw).map (fun c => r * tw + c) else [])

/-! ### What an inter block reads (R219, Table 5.5) -/

/-- The samples read along one axis of `n` samples, first and last, for a block's [a, b) at a vector in `u`-th samples: the
integer reference block, with `lo` samples before and `hi` after where the component is fractional. Positions outside the picture are its
edge samples. -/
def readSpan (n a b : Nat) (mv : Int) (u lo hi : Nat) : Nat × Nat :=
  let i := mv / (u : Int)
  let frac : Bool := mv % (u : Int) ≠ 0
  let first : Int := a + i - (if frac then (lo : Int) else 0)
  let last : Int := (b : Int) - 1 + i + (if frac then (hi : Int) else 0)
  let top : Int := (n : Int) - 1
  ((max 0 (min top first)).toNat, (max 0 (min top last)).toNat)

/-- The area read, in luma positions, of luma and of chroma. -/
def readAreas (p : ParamSet) (a : Area) (mv : Int × Int) : List Area :=
  let l := if p.h264 then (2, 3) else (3, 4)
  let c := if p.h264 then (0, 1) else (1, 2)
  let x := readSpan p.codedW a.x0 a.x1 mv.1 4 l.1 l.2
  let y := readSpan p.codedH a.y0 a.y1 mv.2 4 l.1 l.2
  let cx := readSpan (ceilDiv p.codedW 2) (a.x0 / 2) (ceilDiv a.x1 2) mv.1 8 c.1 c.2
  let cy := readSpan (ceilDiv p.codedH 2) (a.y0 / 2) (ceilDiv a.y1 2) mv.2 8 c.1 c.2
  [⟨x.1, x.2 + 1, y.1, y.2 + 1⟩, ⟨2 * cx.1, 2 * cx.2 + 1, 2 * cy.1, 2 * cy.2 + 1⟩]

/-! ### References (R223, R224) -/

/-- A reference named by a slice, where the session holds it in the picture's coded size (R224). -/
def refHeld (refs : List PicS) (p : ParamSet) (num : Nat) : Option PicS :=
  refs.find? (fun r => r.poc = num && r.codedW = p.codedW && r.codedH = p.codedH)

/-- How far two pictures lie apart in output order. -/
def outDist (a b : Nat) : Nat := if a < b then b - a else a - b

/-- The reference nearest in output order, the earlier of two equally near. -/
def nearest (refs : List PicS) (num : Nat) : Option PicS :=
  refs.foldl (fun b r => match b with
    | none => some r
    | some q =>
      if outDist r.poc num < outDist q.poc num || (outDist r.poc num = outDist q.poc num && r.poc < q.poc) then some r else b) none

/-- The words of a mid-grey picture. -/
def greyWords (w h : Nat) : List Nat := packPicture w h (fun _ _ => midGrey) (fun _ _ => midGrey) (fun _ _ => midGrey)

/-- The picture a block reads as a reference: the one held, otherwise the nearest one held of that size, or mid-grey, read
through a view whose map marks every tile tainted (R224). -/
def refView (refs : List PicS) (p : ParamSet) (num : Nat) : PicS :=
  match refHeld refs p num with
  | some r => r
  | none =>
    let all := List.range (tilesOf p.codedW p.codedH)
    match nearest (refs.filter (fun r => r.codedW = p.codedW && r.codedH = p.codedH)) num with
    | some r => { r with taint := all }
    | none => {
        codedW := p.codedW, codedH := p.codedH, w := p.width, h := p.height, confX := p.confX, confY := p.confY, taint := all
        exact := false, words := greyWords p.codedW p.codedH }

/-! ### Taint of a picture (R218 to R221) -/

/-- Whether a decoded block predicts from tainted samples (R219). `whole` says that its slice was received whole. -/
def blockTainted (refs : List PicS) (p : ParamSet) (irap whole : Bool) (bad : List Area) (b : Block) : Bool :=
  match b.pred with
  | .intra neigh => !(irap && whole) && neigh.any (areaIn bad)
  | .inter vecs => vecs.any (fun v =>
      let t := (refView refs p v.1).taint
      (readAreas p b.area v.2).any (fun a => (areaTiles p.codedW a).any (fun k => t.contains k)))

/-- The CTU of a block, by raster place. -/
def blockCtu (p : ParamSet) (b : Block) : Nat := b.area.y0 / max 1 p.ctu * ctuCols p + b.area.x0 / max 1 p.ctu

/-- The tainted areas after prediction: the missing ones, then block after block. -/
def predTaint (refs : List PicS) (c : CodedS) (p : ParamSet) (miss : List Nat) (bs : List Block) : List Area :=
  let lost := miss.map (ctuArea p)
  bs.foldl (fun bad b =>
    if areaIn lost b.area then bad
    else if blockTainted refs p c.irap (c.sliceWhole miss (blockCtu p b)) bad b then b.area :: bad else bad) lost

/-- R220: filter operations in order: what one modifies is tainted if any sample it reads is. None is applied to darned samples, or
across an edge to them. -/
def filterTaint (lost : List Area) (fs : List FilterOp) (bad : List Area) : List Area :=
  fs.foldl (fun bad f =>
    if (f.ins ++ f.outs).any (areaIn lost) then bad
    else if f.ins.any (areaIn bad) then f.outs ++ bad else bad) bad

/-- The taint map of a completed picture without CRC and rows (R217 to R221). -/
def pictureTaint (refs : List PicS) (c : CodedS) (p : ParamSet) (miss : List Nat) (d : PicDesc) : List Nat :=
  ((filterTaint (miss.map (ctuArea p)) d.filters (predTaint refs c p miss d.blocks)).flatMap (areaTiles p.codedW)).eraseDups

/-- The slices of a picture, decoded, that name a reference the session does not hold (R224). -/
def missingRefSlices (refs : List PicS) (c : CodedS) (p : ParamSet) : Nat :=
  ((usable (ctuOrder p (c.pps.getD ⟨0, 0, [], [], false⟩)) 0 none c.slices).filter (fun u =>
    u.1.refs.any (fun r => (refHeld refs p r).isNone))).length

/-- The references a picture reads: those its inter blocks predict from. -/
def readRefs (d : PicDesc) : List Nat :=
  (d.blocks.flatMap (fun b => match b.pred with
    | .inter vecs => vecs.map (·.1)
    | .intra _ => [])).eraseDups

/-- R30: whether a completed picture is exact. -/
def pictureExact (refs : List PicS) (c : CodedS) (p : ParamSet) (miss : List Nat) (d : PicDesc) : Bool :=
  miss.isEmpty && d.errors.isEmpty && c.slices.all (·.2) && missingRefSlices refs c p = 0 &&
  (readRefs d).all (fun r => match refHeld refs p r with
    | some q => q.exact && !q.crcBad
    | none => false)

/-! ### Stored samples (R213, R214, R223) -/

/-- The picture a missing tile is copied from (R223): the nearest reference whose co-located tile is clean, otherwise the nearest. -/
def darnFrom (refs : List PicS) (num tile : Nat) : Option PicS :=
  match nearest (refs.filter (fun r => !r.taint.contains tile)) num with
  | some r => some r
  | none => nearest refs num

/-- The stored words of a completed picture: its samples, with missing tiles darned. Only a reference of the picture's size can be copied
from. -/
def pictureWords (refs : List PicS) (p : ParamSet) (d : PicDesc) (darned : List Nat) : List Nat :=
  let w := p.codedW
  let cw := ceilDiv w 2
  let same := refs.filter (fun r => r.codedW = w && r.codedH = p.codedH)
  let fill := fun (x y : Nat) => darnFrom same d.number (y / 16 * ceilDiv w 16 + x / 16)
  let isMiss := fun (x y : Nat) => darned.contains (y / 16 * ceilDiv w 16 + x / 16)
  let chroma := fun (k : Nat) (pl : List Nat) (x y : Nat) =>
    if isMiss (2 * x) (2 * y) then
      (match fill (2 * x) (2 * y) with | some r => chromaAt w p.codedH r.words k x y | none => midGrey)
    else storedSample p.bitDepth (planeAt cw pl x y)
  packPicture w p.codedH
    (fun x y => if isMiss x y then (match fill x y with | some r => lumaAt w r.words x y | none => midGrey)
      else storedSample p.bitDepth (planeAt w d.y x y))
    (chroma 0 d.cb) (chroma 1 d.cr)

/-- The reduced copy that a session writes with a displayed picture (R215): `f` 2 or 4, of its conformance window. -/
def copyWords (f : Nat) (q : PicS) : List Nat :=
  reducedCopy f q.w q.h (fun x y => lumaAt q.codedW q.words (q.confX + x) (q.confY + y))
    (fun x y => chromaAt q.codedW q.codedH q.words 0 (q.confX / 2 + x) (q.confY / 2 + y))
    (fun x y => chromaAt q.codedW q.codedH q.words 1 (q.confX / 2 + x) (q.confY / 2 + y))

end Sys2Proof.Machine
end

