-- ==== Sys2Proof/Machine/Decoding.lean ====
section
/-! DEFINITION. Health changes of a unit, the decode core pool (R188 to R194), dispatch (R196, R197), taint, darning and
the displayed picture (R208 to R229). -/

namespace Sys2Proof.Machine

/-! ### Health changes (R105) -/

/-- The health counts 0x2100:0D to :10 and the package health 0x2100:03 (R107). -/
def State.refreshHealth (s : State) : State :=
  let n := fun (st : Nat) => (s.units.filter (fun p => p.2.st = st)).length
  let s := (((s.wn 0x2100 0x0D (n 2)).wn 0x2100 0x0E (n 4)).wn 0x2100 0x0F (n 3)).wn 0x2100 0x10 (n 5)
  if s.rn 0x2100 0x03 = 2 || s.rn 0x2100 0x03 = 5 then s
  else s.wn 0x2100 0x03 (if n 1 = 0 then 0 else 1)

/-- A change of a unit's health: one event of type health change with address, old state, new state and epoch; DEAD and
FENCED are EMCY conditions (Table 15.8). -/
def State.setHealth (s : State) (k : Nat) (u : UnitS) (old : Nat) : State :=
  let s := (s.setUnit k u).refreshHealth
  let pay := [(32, s.addrOf k), (8, old), (8, u.st), (16, u.epoch)]
  let sev := if u.st = 2 then 3 else 2
  if u.st = 2 || u.st = 5 then s.raiseCond (.unitLost k) 0x5000 k 0x0201 sev pay
  else (s.raise k 0x0201 sev pay).endCond (.unitLost k)

/-- The unit's row on becoming DEAD (R105, R108): epoch and advances up by one, power gate open. -/
def UnitS.dead (u : UnitS) : UnitS :=
  { u with st := 2, epoch := wrapInc 16 u.epoch, adv := u.adv + 1, gate := true, window := none, sram := [] }

/-- A spare takes a DEAD unit's place: PATCHED, each named as the other's partner (R110, 0x2100:07). -/
def State.patch (s : State) (dead spare : Nat) : State :=
  let s := s.setUnit dead { s.unit dead with partner := some (s.addrOf spare) }
  s.setHealth spare { s.unit spare with st := 4, partner := some (s.addrOf dead) } (s.unit spare).st

/-! ### The pool of cores (R188 to R194) -/

/-- Cores in health state SPARE, lowest address first. -/
def State.spareCores (s : State) : List Nat := (List.range 14).filter (fun c => (s.unit (coreKey c)).st = 3)

/-- The pool's objects 0x3400:05 to :07, with the events of R193. -/
def State.refreshCores (s : State) : State :=
  let n := s.spareCores.length
  let mask := s.active.foldl (fun m c => m + 2 ^ c) 0
  let s := ((s.wn 0x3400 0x05 n).wn 0x3400 0x06 mask).wn 0x3100 0x06 s.active.length
  let low := n < s.rn 0x3400 0x03
  if low && s.rn 0x3400 0x07 = 0 then (s.wn 0x3400 0x07 1).raise (procKey 0 .med) 0x0501 2 [(8, n)]
  else if !low && s.rn 0x3400 0x07 = 1 then (s.wn 0x3400 0x07 0).raise (procKey 0 .med) 0x0502 0 [(8, n)]
  else s

/-- Whether the spare policy gives a SPARE core up now (R190). -/
def State.policyGives (s : State) : Bool :=
  match s.spareCores with
  | [] => false
  | l => s.rn 0x3400 0x02 = 0 || s.rn 0x3400 0x03 + 1 < l.length

/-- R190, R192: an active core has become DEAD: patched by the lowest-addressed SPARE under the policy, or left
unpatched, when the active count falls and admission reruns. `whole` says that the function is lost with a whole region
or die: nothing is patched. -/
def State.coreLost (s : State) (c : Nat) (whole : Bool) : State :=
  if !s.active.contains c then s.refreshCores
  else match s.spareCores with
    | sp :: _ =>
      if s.policyGives && !whole then
        let s := { s with active := (s.active.filter (· ≠ c)) ++ [sp] }
        (s.patch (coreKey c) (coreKey sp)).refreshCores
      else
        ({ s with active := s.active.filter (· ≠ c), unpatched := c :: s.unpatched }).refreshCores.rerun
    | [] => ({ s with active := s.active.filter (· ≠ c), unpatched := c :: s.unpatched }).refreshCores.rerun

/-- An active core is lost with its region or die: it leaves the set unpatched; the pool is settled after (R107, R194). -/
def State.coreGone (s : State) (c : Nat) : State :=
  if s.active.contains c then { s with active := s.active.filter (· ≠ c), unpatched := c :: s.unpatched } else s

/-- R194: whether the spare policy is set aside for the cores of a die: the other die's region M is DEAD, or the package runs on one
die. -/
def State.noSpares (s : State) (die : Nat) : Bool :=
  s.dieLost (1 - die) || s.declared.contains (256 * 0 + 1024 * (1 - die) + 2 * 65536)

/-- R194: every core of the surviving region M whose health is OK or SPARE is active, and a SPARE one becomes OK. One that is SUSPECT,
or returns, joins when it is OK or SPARE. -/
def State.poolOf (s : State) (die : Nat) : State :=
  let cs := (List.range 7).map (fun i => 7 * die + i)
  let s := cs.foldl (fun s c =>
    if (s.unit (coreKey c)).st = 3 then s.setHealth (coreKey c) { s.unit (coreKey c) with st := 0 } 3 else s) s
  ({ s with
    active := cs.filter (fun c => s.serves (coreKey c) || (s.active.contains c && (s.unit (coreKey c)).st = 1))
    unpatched := [] }).refreshCores

/-- A core of a surviving region M that is OK or SPARE again, where the spare policy is set aside (R194): it is active, and admission
reruns. -/
def State.poolAgain (s : State) (c : Nat) : State :=
  let n := s.active.length
  let s := s.poolOf (c / 7)
  if s.active.length = n then s else s.rerun

/-- R191: a core has returned as SPARE; a DEAD core of the active set left unpatched is patched by it under the same
policy, and admission reruns. On one die, or with one region M, it is active again (R194). -/
def State.coreReturned (s : State) (c : Nat) : State :=
  if s.noSpares (c / 7) then s.poolAgain c else
  match s.unpatched with
  | d :: ds =>
    if s.policyGives then
      let s := { s with active := s.active ++ [c], unpatched := ds }
      let s := if (s.unit (coreKey d)).st = 2 || (s.unit (coreKey d)).st = 5 then s.patch (coreKey d) (coreKey c)
        else s.setHealth (coreKey c) { s.unit (coreKey c) with st := 4 } 3
      s.refreshCores.rerun
    else s.refreshCores
  | [] => s.refreshCores

/-- A core's row. -/
def State.core' (s : State) (c : Nat) : CoreS := s.cores.at' c {}

/-! ### Dispatch (R188, R196 to R199, R210) -/

/-- R197: a segment may go when no earlier picture of its session still waits or is being decoded. -/
def State.segReady (s : State) (x : SegWait) : Bool :=
  !s.segs.any (fun y => y.sess = x.sess && serialAfter 32 x.pic y.pic) &&
  !(List.range 14).any (fun c => (s.core' c).sess = some x.sess && (s.core' c).pic ≠ x.pic)

/-- The access unit of a picture in decode. -/
def State.auOf (s : State) (n pic : Nat) : Option AuInfo := (s.ses n).queue.find? (fun a => a.ts = pic)

/-- Change what is held of a coded picture. -/
def State.setCoded (s : State) (n pic : Nat) (f : CodedS → CodedS) : State :=
  let g := s.ses n
  s.setSes n { g with queue := g.queue.map (fun a => if a.ts = pic then { a with coded := f a.coded } else a) }

/-- R204: whether a core may take a segment: its share is on that core already, or on none that serves while the core has no
other share of the picture. -/
def State.shareFits (s : State) (c : Nat) (x : SegWait) : Bool :=
  let b : Tab Nat := ((s.auOf x.sess x.pic).map (·.coded.binds)).getD []
  match b.look x.share with
  | some k => k = c || !(s.active.contains k && s.serves (coreKey k))
  | none => !b.any (fun p => p.2 = c)

/-- The picture buffers of a session that the compositor reads: of frames latched and not yet composed (R208). -/
def State.picReads (s : State) (n : Nat) : List Nat :=
  (s.screens.flatMap (fun p => ((p.2.plan.toList ++ p.2.next.toList).flatMap (fun q =>
    q.layers.filterMap (fun l => if l.path.sess = n then l.path.pic.map (·.num) else none))))).eraseDups

/-- R210: whether every buffer of a session that is no reference is held by reads: its next picture does not start. -/
def State.buffersHeld (s : State) (n : Nat) : Bool :=
  let refs := (s.ses n).refs.map (·.num)
  s.rn (sIdx n) 0x15 + 3 ≤ refs.length + ((s.picReads n).filter (fun k => !refs.contains k)).length

/-- Whether a segment is held back by R210: the first of its picture. -/
def State.segHeld (s : State) (x : SegWait) : Bool :=
  (match s.auOf x.sess x.pic with | some a => a.coded.start.isNone | none => true) && s.buffersHeld x.sess

/-- A core is free again; what it spent counts in its occupancy (0x3410+k:05), up to the tick it finished. -/
def State.coreFreeAt (s : State) (c at' : Nat) : State :=
  let g := s.core' c
  let runs := g.runs.filter (fun p => s.clock < p.2 + sTicks)
  { s with cores := s.cores.put c { runs := if g.sess.isSome then runs ++ [(g.at', max g.at' (min at' s.clock))] else runs } }.wn
    (0x3410 + c) 0x03 0xFF

def State.coreFree (s : State) (c : Nat) : State := s.coreFreeAt c s.clock

/-- A core that serves has finished its segment (R196); a SUSPECT one has stopped where it is (R188). -/
def State.coreEnd (s : State) (c at' : Nat) : State :=
  if (s.core' c).sess.isSome && s.serves (coreKey c) then
    (s.coreFreeAt c at').bump (coreKey c) (0x3410 + c) 0x04
  else s

/-- The work of a core that becomes DEAD is lost (R106, R188): its segment is missing from its picture. -/
def State.coreDies (s : State) (c : Nat) : State :=
  let g := s.core' c
  let s := match g.sess with
    | some n => s.setCoded n g.pic (fun x => { x with lost := g.seg :: x.lost })
    | none => s
  s.coreFree c

/-- A segment goes to a core: with the first of a picture its wait ends, the largest of which is kept (R199). -/
def State.startSeg (s : State) (c : Nat) (x : SegWait) : State :=
  let first : Bool := match s.auOf x.sess x.pic with
    | some a => a.coded.start.isNone
    | none => false
  let s := { s with
    segs := s.segs.filter (· ≠ x)
    cores := s.cores.put c { s.core' c with sess := some x.sess, pic := x.pic, seg := x.seg, share := x.share, at' := s.clock } }
  let s := s.setCoded x.sess x.pic (fun y => { y with
    start := some (y.start.getD s.clock), binds := y.binds.put x.share c })
  let wait := min 0xFFFFFFFF ((s.clock - x.avail) / usTicks)
  let s := if first then
      (s.wn (0x3440 + x.sess) 0x0B (max (s.rn (0x3440 + x.sess) 0x0B) wait)).wn 0x3400 0x0A (max (s.rn 0x3400 0x0A) wait)
    else s
  s.wn (0x3410 + c) 0x03 x.sess

/-- A picture that waits for a buffer counts once (R210). -/
def State.countHeld (s : State) (x : SegWait) : State :=
  match s.auOf x.sess x.pic with
  | some a =>
    if a.coded.waited then s
    else (s.setCoded x.sess x.pic (fun y => { y with waited := true })).bump (procKey 0 .med) (0x3440 + x.sess) 0x0C
  | none => s

/-- SEGMENT_DISPATCH (R196): the cores that finished since are free; MED gives a free active core the first segment that may
go. A SUSPECT core takes no new work (R188). -/
def State.dispatch (s : State) (c : Nat) (ended : List (Nat × Nat)) : State :=
  let s := ended.foldl (fun s e => s.coreEnd e.1 e.2) s
  if !s.active.contains c || !s.serves (coreKey c) || (s.core' c).sess.isSome ||
      (s.procs.at' (procKey (c / 7) .med) {}).restarting then s
  else
    let can := s.segs.filter (fun x => s.segReady x && s.shareFits c x)
    let held := can.takeWhile s.segHeld
    let s := held.foldl State.countHeld s
    match (can.drop held.length).head? with
    | none => s
    | some x => s.startSeg c x

def execSegmentDispatch (t : Nat) (go : CoreStart) (s : State) : Host.Outcome State Fault Refusal :=
  .next ((s.tick t).dispatch go.core go.ended)

/-- The ‰ of the last second a core spent decoding. -/
def State.occupancy (s : State) (c : Nat) : Nat :=
  let g := s.core' c
  let runs := if g.sess.isSome then g.runs ++ [(g.at', s.clock)] else g.runs
  let from' := s.clock - sTicks
  (runs.map (fun p => p.2 - max p.1 from')).foldl (· + ·) 0 * 1000 / sTicks

/-- The cores that decode a session's picture have finished their segments. -/
def State.freeCores (s : State) (n : Nat) : State :=
  (List.range 14).foldl (fun s c => if (s.core' c).sess = some n then s.coreEnd c s.clock else s) s

/-- Whether a picture is still in decode: a segment of it waits, or stands on a core. -/
def State.inDecode (s : State) (n pic : Nat) : Bool :=
  s.segs.any (fun x => x.sess = n && x.pic = pic) || (List.range 14).any (fun c => (s.core' c).sess = some n && (s.core' c).pic = pic)

/-- Table 5.1's maximum from start to completion, in µs: 0.3 ms and the larger of the pixel and bit terms, at an effective
sharing given as a fraction. -/
def decodeMicros (pixels bits : Nat) (c : Nat × Nat) : Nat :=
  300 + max (ceilDiv (pixels * c.2) (500 * c.1)) (ceilDiv (bits * c.2) (150 * c.1))

/-! ### Counters and events of a picture -/

/-- R209: the references kept after a picture: those it keeps, itself if it is one; above D the earliest is dropped. -/
def keepRefs (refs : List PicS) (d : PicDesc) (pic : PicS) (dpb : Nat) : List PicS × Nat :=
  let l := (refs.filter (fun p => d.keep.contains p.poc)) ++ (if d.isRef then [pic] else [])
  (l.drop (l.length - dpb), l.length - dpb)

/-- R205: effective sharing × 100, truncated, 100 to 400. -/
def shareCode (c : Nat × Nat) : Nat := max 100 (min 400 (c.1 * 100 / max 1 c.2))

/-- Counters of a completed picture (Tables 5.6 and 5.8). -/
def State.pictureCounts (s : State) (n : Nat) (c : CodedS) (p : ParamSet) (errors missRefs taint darned : Nat) : State :=
  let i := 0x3440 + n
  let k := procKey 0 .med
  let s := ((s.bump k i 0x04).bump k 0x3400 0x08).bump k i 0x03 darned
  let s := (s.bump k i 0x05 errors).bump k 0x3400 0x09 errors
  let s := s.bump k i 0x06 missRefs
  let share := c.sharing (s.rn 0x3400 0x04) (s.rn (sIdx n) 0x16 = 1)
  let s := s.setSes n { s.ses n with share := share }
  let s := ((s.wn i 0x02 taint).wn i 0x08 (shareCode share)).wn i 0x0A
    (min 0xFFFFFFFF ((s.clock - c.start.getD s.clock) / usTicks))
  s.wn i 0x09 (p.width + 65536 * p.height)

/-- Events of a completed picture: bitstream error at most once a second, parallelism short and reference dropped once
since entry to ACQUIRING (R201, R207, R209). -/
def State.pictureEvents (s : State) (n : Nat) (errors segments drops : Nat) : State :=
  let k := procKey 0 .med
  let g := s.ses n
  let errNow := 0 < errors && (match g.errAt with | some a => a + sTicks ≤ s.clock | none => true)
  let s := if errNow then (s.setSes n { g with errAt := some s.clock }).raise k 0x0503 1 [(8, n)] else s
  let short := s.rn (sIdx n) 0x16 = 1 && segments < ceilDiv (s.rn (sIdx n) 0x21) 1000
  let s := if short then s.bump k (0x3440 + n) 0x0D else s
  let g := s.ses n
  let s := if short && !g.shortNote then (s.setSes n { g with shortNote := true }).raise k 0x0504 1 [(8, n)] else s
  let s := s.bump k (0x3440 + n) 0x07 drops
  let g := s.ses n
  if 0 < drops && !g.dropNote then (s.setSes n { g with dropNote := true }).raise k 0x0505 1 [(8, n)] else s

/-- A clean picture completed: the flag, and RUNNING from ACQUIRING (R226, R227). -/
def State.cleanPicture (s : State) (n : Nat) : State :=
  let s := s.wn (0x3440 + n) 0x01 1
  if s.sst n = sessAcquiring then s.enterSess n sessRunning 0 else s

/-! ### Output (R211) -/

/-- The displayed picture after one is output (R24, R28, R29, R138, R203, R211): a replay changes nothing; a heartbeat gives the
displayed picture its alive value, capture time and grade; a repeat is shown with the capture time of the last new frame. -/
def display (old : Option PicS) (pic : PicS) (au : AuInfo) (output : Bool) : Option PicS :=
  match au.judge with
  | .replay => old
  | .fresh =>
    if au.heartbeat then old.map (fun p => { p with alive := au.alive, cap := au.cap, grade := au.grade })
    else if output then some pic else old
  | .again =>
    if au.heartbeat || !output then old
    else some { pic with cap := (old.map (·.cap)).getD none }

/-- One picture is output: it is displayed, and leaves by the session's pixel relays (R573). -/
def State.outputPic (s : State) (n : Nat) (pic : PicS) (au : AuInfo) : State :=
  let f := match s.rn (sIdx n) 0x17 with
    | 1 => 2
    | 2 => 4
    | _ => 0
  let pic := if f = 0 then pic else { pic with copy := copyWords f pic }
  let g := s.ses n
  let s := s.setSes n { g with disp := display g.disp pic au true }
  if au.judge ≠ .replay then s.relayPicture n (((s.ses n).disp).getD pic) au else s

/-- The waiting picture first in output order. -/
def firstOut (l : List (PicS × AuInfo × Nat)) : Option (PicS × AuInfo × Nat) :=
  l.foldl (fun b x => match b with
    | none => some x
    | some y => if x.1.poc < y.1.poc then some x else b) none

/-- Whether the bumping process outputs a picture now: more wait than the stream holds back, or one has waited its latency, or the decoded
picture buffer is full (`refs` the references held). -/
def bumps (p : ParamSet) (refs : List Nat) (l : List (PicS × AuInfo × Nat)) (all : Bool) : Bool :=
  !l.isEmpty && (all || p.reorder < l.length || (p.latency ≠ 0 && l.any (fun x => p.latency ≤ x.2.2)) ||
    (p.buffering ≠ 0 && p.buffering < (refs ++ l.map (·.1.num)).eraseDups.length))

/-- The bumping process (R211): pictures are output in output order while it asks for one, or all of them. The first number bounds
the pictures. -/
def State.bump' (n : Nat) (p : ParamSet) (all : Bool) : Nat → State → State
  | 0, s => s
  | k + 1, s =>
    let g := s.ses n
    if !bumps p (g.refs.map (·.num)) g.waiting all then s
    else match firstOut g.waiting with
      | none => s
      | some x =>
        State.bump' n p all k ((s.setSes n { g with waiting := g.waiting.filter (fun y => y.1.num ≠ x.1.num) }).outputPic n x.1 x.2.1)

/-- A completed picture joins those waiting for output, where it is output at all; a heartbeat's label takes its place in the same
order (R138). -/
def State.queueOut (s : State) (n : Nat) (p : ParamSet) (pic : PicS) (au : AuInfo) (output : Bool) : State :=
  let g := s.ses n
  let old := g.waiting.map (fun x => (x.1, x.2.1, x.2.2 + 1))
  let g := { g with waiting := if output || au.heartbeat then old ++ [(pic, au, 0)] else old }
  State.bump' n p false (g.waiting.length + 1) (s.setSes n g)

/-- PICTURE_COMPLETE (R198, R212): the oldest picture of the session in decode is complete in the pool with its taint map, once each of its
segments has been decoded or lost. -/
def State.pictureComplete (s : State) (n : Nat) (d : PicDesc) : State :=
  let s := d.ended.foldl (fun s e => s.coreEnd e.1 e.2) s
  match (s.ses n).queue with
  | [] => s
  | au :: _ =>
    let s := s.freeCores n
    let au := (s.auOf n au.ts).getD au
    let c := au.coded
    match c.sps with
    | none => s
    | some p =>
      if !s.isVideo n || s.inDecode n au.ts then s
      else
        let par : Bool := s.rn (sIdx n) 0x16 = 1
        let g := s.ses n
        let s := s.setSes n { g with queue := g.queue.drop 1 }
        let s := if c.irap && c.newSeq then
            (if d.noPrior then s.setSes n { s.ses n with waiting := [] } else State.bump' n p true (g.waiting.length + 1) s)
          else s
        let refs := if c.irap then g.refs.filter (fun r => r.codedW = p.codedW && r.codedH = p.codedH) else g.refs
        let refs := if c.irap && refs.length < g.refs.length then [] else refs
        let miss := c.missing par d.errors
        let exact := pictureExact refs c p miss d
        let bad := exact && (match au.crc with
          | some v => decide (v ≠ lumaCrc p.codedW p.confX p.confY p.width p.height d.y)
          | none => false)
        let all := List.range (tilesOf p.codedW p.codedH)
        let darned := ((miss.map (ctuArea p)).flatMap (areaTiles p.codedW)).eraseDups
        let taint := if bad then all else (pictureTaint refs c p miss d ++ rowTiles p.codedW p.codedH au.rows).eraseDups
        let pic : PicS := {
          num := g.nextPic, poc := d.number, w := p.width, h := p.height, confX := p.confX, confY := p.confY
          codedW := p.codedW, codedH := p.codedH, matrix := p.matrix, transfer := p.transfer, primaries := p.primaries
          fullRange := p.fullRange, taint := taint, cap := au.cap, alive := au.alive, grade := au.grade, exact := exact
          crcBad := bad, depth := p.bitDepth, words := pictureWords refs p d darned }
        let kept := keepRefs refs d pic (s.rn (sIdx n) 0x15)
        let errors := d.errors.length + c.badSets
        let s := s.setSes n { s.ses n with refs := kept.1, nextPic := g.nextPic + 1 }
        let s := if bad then s.bump (procKey 0 .med) 0x5000 0x12 else s
        let s := (s.pictureCounts n c p errors (missingRefSlices refs c p) taint.length darned.length).pictureEvents n errors
          (c.segments par).length kept.2
        let s := s.queueOut n p pic au d.output
        if taint.isEmpty then s.cleanPicture n else s

def execPictureComplete (t n : Nat) (d : PicDesc) (s : State) : Host.Outcome State Fault Refusal :=
  .next ((s.tick t).pictureComplete n d)

/-- The read of 0x3440+n:0B: the largest wait, cleared (R199); 0 for a session whose kind is ZTT or relay (R230). -/
def sessWaitRead (n : Nat) (s : State) : State × Nat × Val :=
  if 1 < s.kind n then (s, 0, .num 0) else clearRead (0x3440 + n) 0x0B s

/-- START_WAIT_READ (R199): the largest wait is returned and cleared, of a session or of the package. -/
def execStartWaitRead (t : Nat) (r : Req) (n : Option Nat) (s : State) : Host.Outcome State Fault Refusal :=
  .next (match n with
    | some n => (s.tick t).readReq r (0x3440 + n) 0x0B (sessWaitRead n)
    | none => (s.tick t).readReq r 0x3400 0x0A (clearRead 0x3400 0x0A))

/-- R189: the designated-spares mask takes effect at the next reset; fewer than two bits are refused. -/
def spareMask (s : State) (v : Val) : State × Nat :=
  if popCount 14 v.int.toNat < 2 then (s, 6) else (s.wv 0x3400 0x01 v, 0)

end Sys2Proof.Machine
end

