-- ==== Sys2Proof/Machine/Geometry.lean ====
section
/-! DEFINITION. Where a layer's pixels stand: screens and their timing in force (R296 to R301), placement, crops, ratios,
footprints and the line store (R231 to R249), visible and tainted tiles (R251 to R253), and the stitch plate (R61 to
R64). -/

namespace Sys2Proof.Machine

/-! ### Bytes of a buffer -/

/-- The byte at an address; an unlisted address reads 0 (log 7). -/
def cellRead : List Host.Cell → Nat → Byte
  | [], _ => 0
  | (k, v) :: t, i => if i = k then v else cellRead t i

/-- Write a byte; keys stay rising, and writing 0 removes the entry. -/
def cellWrite : List Host.Cell → Nat → Byte → List Host.Cell
  | [], i, v => if v = 0 then [] else [(i, v)]
  | (k, w) :: t, i, v =>
    if i < k then (if v = 0 then (k, w) :: t else (i, v) :: (k, w) :: t)
    else if i = k then (if v = 0 then t else (i, v) :: t)
    else (k, w) :: cellWrite t i v

/-- The canonical form: keys strictly rising and no zero byte listed. -/
def Memory.wf : List Host.Cell → Bool
  | [] => true
  | [(_, v)] => decide (v ≠ 0)
  | (k, v) :: (k', w) :: t => decide (v ≠ 0) && decide (k < k') && Memory.wf ((k', w) :: t)

/-- Write bytes from an address upwards. -/
def cellsWrite (m : List Host.Cell) (i : Nat) : List Byte → List Host.Cell
  | [] => m
  | b :: bs => cellsWrite (cellWrite m i b) (i + 1) bs

/-- Read `n` bytes from an address upwards. -/
def cellsRead (m : List Host.Cell) (i n : Nat) : List Byte := (List.range n).map (fun j => cellRead m (i + j))

/-! ### Screens -/

/-- A screen's dictionary index. -/
def scrIdx (x : Nat) : Nat := 0x4800 + x

/-- Whether a gang of four is in force with this lead (R317). -/
def State.gangOf (s : State) (j : Nat) : Bool := s.fn (scrIdx (4 * j)) 0x02 = 1

/-- Whether a screen is a member of a gang (R317). -/
def State.member (s : State) (x : Nat) : Bool := x % 4 ≠ 0 && s.gangOf (x / 4)

/-- The outputs a screen's frame is composed, scanned and sent by: its own, or the four of its gang. -/
def State.outputsOf (s : State) (x : Nat) : List Nat :=
  if x % 4 = 0 && s.gangOf (x / 4) then [x, x + 1, x + 2, x + 3] else [x]

/-- Whether a level above the unit is declared DEAD (R107): the address value without its package. -/
def State.declaredDead (s : State) (a : Nat) : Bool := s.declared.contains a

/-- Region C of a die (Table 2.5). -/
def regionC (die : Nat) : Nat := 256 + 1024 * die + 2 * 65536

/-- R112, R320: whether a screen is unavailable: its compositor, scan-out unit or transmitter, or any member's, its
region C or its die is DEAD or FENCED. -/
def State.unavailable (s : State) (x : Nat) : Bool :=
  s.dieLost (x / 12) || s.declaredDead (regionC (x / 12)) ||
  (s.outputsOf x).any (fun o => s.gone (compKey o) || s.gone (scanKey o) || s.gone (txKey o))

/-- Check 1 of Table 6.2. -/
def State.compGone (s : State) (x : Nat) : Bool :=
  s.dieLost (x / 12) || s.declaredDead (regionC (x / 12)) || (s.outputsOf x).any (fun o => s.gone (compKey o)) ||
  (x % 4 = 0 && s.gangOf (x / 4) && (s.outputsOf x).any (fun o => s.gone (scanKey o) || s.gone (txKey o)))

/-- Active width and height in force. -/
def State.ha (s : State) (x : Nat) : Nat := s.fn (scrIdx x) 0x05
def State.va (s : State) (x : Nat) : Nat := s.fn (scrIdx x) 0x09

/-- Pixels of one line: active, porches and sync (R300). -/
def State.htotal (s : State) (x : Nat) : Nat :=
  s.fn (scrIdx x) 0x05 + s.fn (scrIdx x) 0x06 + s.fn (scrIdx x) 0x07 + s.fn (scrIdx x) 0x08

/-- The time of `n` lines in ns, rounded down (R300). -/
def State.linesNs (s : State) (x n : Nat) : Nat :=
  let p := s.fn (scrIdx x) 0x04
  if p = 0 then 0 else n * s.htotal x * 1000000 / p

/-- Vmin in lines (R300), and Vmax in force: Vmin where the sink fixes the timing (R306). -/
def State.vmin (s : State) (x : Nat) : Nat :=
  s.fn (scrIdx x) 0x09 + s.fn (scrIdx x) 0x0A + s.fn (scrIdx x) 0x0B + s.fn (scrIdx x) 0x0C
def State.vmax (s : State) (x : Nat) : Nat := if (s.screen x).fixed then s.vmin x else s.fn (scrIdx x) 0x0D

/-- Strips of a screen (R97). -/
def State.strips (s : State) (x : Nat) : Nat := ceilDiv (s.va x) 16

/-- The end of the scan of strip k, in lines from the frame start: the last strip ends with the active area (R301). -/
def State.stripEnd (s : State) (x k : Nat) : Nat := min (16 * (k + 1)) (s.va x)

/-- Frame-buffer bytes per pixel (Table 8.1). -/
def bytesPerPixel (fmt : Nat) : Nat :=
  match fmt with
  | 0 => 2
  | 1 => 3
  | _ => 4

/-! ### Placement (R233 to R237) -/

/-- A layer's dictionary index. -/
def lIdx (n : Nat) : Nat := 0x4000 + n

/-- The whole destination in screen coordinates (R234, R235): x, y, width, height. -/
def State.dest (s : State) (n : Nat) : Int × Int × Nat × Nat :=
  let i := lIdx n
  let x := s.fn i 0x02
  let wall := s.fn i 0x09 = 1
  let ox : Int := if wall then s.fi (scrIdx x) 0x25 else 0
  let oy : Int := if wall then s.fi (scrIdx x) 0x26 else 0
  (s.fi i 0x0A - ox, s.fi i 0x0B - oy, s.fn i 0x0C, s.fn i 0x0D)

/-- A rectangle by its columns and lines, the ends exclusive; empty when an end is not after its start. -/
structure Rect where
  x0 : Nat
  x1 : Nat
  y0 : Nat
  y1 : Nat
  deriving DecidableEq, Repr

/-- Whether a rectangle holds a pixel. -/
def Rect.has (r : Rect) (x y : Nat) : Bool := r.x0 ≤ x && x < r.x1 && r.y0 ≤ y && y < r.y1

/-- Whether a rectangle is empty. -/
def Rect.empty (r : Rect) : Bool := r.x1 ≤ r.x0 || r.y1 ≤ r.y0

/-- Whether two rectangles share a pixel. -/
def Rect.meets (r q : Rect) : Bool :=
  !r.empty && !q.empty && r.x0 < q.x1 && q.x0 < r.x1 && r.y0 < q.y1 && q.y0 < r.y1

/-- The on-screen destination (R234). -/
def State.onScreen (s : State) (n : Nat) : Rect :=
  let d := s.dest n
  let x := s.fn (lIdx n) 0x02
  ⟨d.1.toNat, min (s.ha x) (d.1 + d.2.2.1).toNat, d.2.1.toNat, min (s.va x) (d.2.1 + d.2.2.2).toNat⟩

/-- A crop rectangle: start and size on each axis. -/
structure Crop where
  x : Nat
  w : Nat
  y : Nat
  h : Nat
  deriving DecidableEq, Repr

/-- The crop in a picture of size w × h (R233). -/
def State.crop (s : State) (n w h : Nat) : Crop :=
  let i := lIdx n
  let cw := s.fn i 0x07
  let ch := s.fn i 0x08
  ⟨if cw = 0 then 0 else s.fn i 0x05, if cw = 0 then w else cw,
   if ch = 0 then 0 else s.fn i 0x06, if ch = 0 then h else ch⟩

/-- The crop of a reduced copy of factor f (R233): starts rounded down, exclusive ends rounded up. -/
def Crop.reduce (c : Crop) (f : Nat) : Crop :=
  ⟨c.x / f, ceilDiv (c.x + c.w) f - c.x / f, c.y / f, ceilDiv (c.y + c.h) f - c.y / f⟩

/-- R232: the copy a layer reads: 0 the full picture, 1 the 2:1 copy, 2 the 4:1 copy. -/
def State.copyFor (s : State) (n w h : Nat) : Nat :=
  let i := lIdx n
  let c := s.crop n w h
  let d := s.dest n
  let k := s.rn (sIdx (s.fn i 0x03)) 0x17
  let atLeast := fun (f : Nat) => decide (f * d.2.2.1 ≤ c.w) && decide (f * d.2.2.2 ≤ c.h)
  if s.fn i 0x04 ≠ 1 || !s.isVideo (s.fn i 0x03) then 0
  else if k = 2 && atLeast 4 then 2
  else if k = 1 && atLeast 2 then 1
  else 0

/-- The reduction of a copy code. -/
def copyFactor (c : Nat) : Nat :=
  match c with
  | 1 => 2
  | 2 => 4
  | _ => 1

/-- The crop in the picture read. -/
def State.cropRead (s : State) (n w h copy : Nat) : Crop :=
  let c := s.crop n w h
  if copy = 0 then c else c.reduce (copyFactor copy)

/-- R243: both ratios between 1/16 and 16. -/
def ratioOk (c : Crop) (dw dh : Nat) : Bool :=
  dw ≤ 16 * c.w && c.w ≤ 16 * dw && dh ≤ 16 * c.h && c.h ≤ 16 * dh

/-- R237 along one axis: the footprint of destination position `p` of `d` in a crop of start `a` and size `c`, with `lo`
samples before and `hi` after, clipped to the crop. Answers the first and last sample. -/
def footprint (a c d p lo hi : Nat) : Nat × Nat :=
  let u2 : Int := (2 * (p : Int) + 1) * c - d
  let m : Int := max c d
  let den : Int := 2 * d
  let l : Int := a + (u2 - m) / den - lo
  let h : Int := a + (u2 + m) / den + hi
  let first : Int := a
  let last : Int := (a : Int) + c - 1
  ((min last (max first l)).toNat, (min last (max first h)).toNat)

/-- R242's W: columns of the picture read in the footprint of any on-screen destination pixel. -/
def State.lineWidth (s : State) (n : Nat) (c : Crop) : Nat :=
  let d := s.dest n
  let r := s.onScreen n
  if r.empty || d.2.2.1 = 0 then 0
  else
    let p0 := ((r.x0 : Int) - d.1).toNat
    let p1 := ((r.x1 : Int) - 1 - d.1).toNat
    (footprint c.x c.w d.2.2.1 p1 6 8).2 + 1 - (footprint c.x c.w d.2.2.1 p0 6 8).1

/-- The line-store demand of R242: W × (4 + ceil(rv)). -/
def State.lineDemand (s : State) (n : Nat) (c : Crop) : Nat :=
  s.lineWidth n c * (4 + ceilDiv c.h (s.dest n).2.2.2)

/-- The line stores of one pipe and of a pair. -/
def lineStore (pair : Bool) : Nat := if pair then 49152 else 24576

/-! ### Visible and tainted tiles (R251 to R253) -/

/-- Enabled layers of a screen in force, in ascending slot number. -/
def State.layersOn (s : State) (x : Nat) : List Nat :=
  (List.range 256).filter (fun n => s.slotsUsed.contains n && s.layerOn n && s.fn (lIdx n) 0x02 = x)

/-- Whether layer `m` covers layer `n`'s pixels where it lies (R252). -/
def State.covers (s : State) (n m : Nat) : Bool :=
  s.fn (lIdx n) 0x0E < s.fn (lIdx m) 0x0E && s.fn (lIdx m) 0x0F = 0 && s.fn (lIdx m) 0x10 = 1023

/-- The on-screen destinations of the layers that cover a layer. -/
def State.coverRects (s : State) (n : Nat) : List Rect :=
  ((s.layersOn (s.fn (lIdx n) 0x02)).filter (s.covers n)).map s.onScreen

/-- Screen tiles a rectangle touches, as (column, row). -/
def Rect.tiles (r : Rect) : List (Nat × Nat) :=
  if r.empty then []
  else (List.range ((r.y1 - 1) / 16 + 1 - r.y0 / 16)).flatMap (fun j =>
    (List.range ((r.x1 - 1) / 16 + 1 - r.x0 / 16)).map (fun i => (r.x0 / 16 + i, r.y0 / 16 + j)))

/-- A tile's number on a screen. -/
def State.tileNo (s : State) (x : Nat) (t : Nat × Nat) : Nat := t.2 * ceilDiv (s.ha x) 16 + t.1

/-- Whether a tile holds a pixel of the rectangle with a property. -/
def tileAny (r : Rect) (t : Nat × Nat) (p : Nat → Nat → Bool) : Bool :=
  (List.range 16).any (fun j => (List.range 16).any (fun i =>
    r.has (16 * t.1 + i) (16 * t.2 + j) && p (16 * t.1 + i) (16 * t.2 + j)))

/-- R251, R216, R249: whether a destination pixel's footprint holds a tainted sample. `pic` is the picture selected, `copy`
the copy read. -/
def State.pixelTainted (s : State) (n : Nat) (pic : PicS) (copy x y : Nat) : Bool :=
  let d := s.dest n
  let c := s.cropRead n pic.w pic.h copy
  let f := copyFactor copy
  let fx := footprint c.x c.w d.2.2.1 ((x : Int) - d.1).toNat 6 8
  let fy := footprint c.y c.h d.2.2.2 ((y : Int) - d.2.1).toNat 2 4
  let a := (fx.1 * f + pic.confX) / 16
  let b := (fx.2 * f + f - 1 + pic.confX) / 16
  let e := (fy.1 * f + pic.confY) / 16
  let g := (fy.2 * f + f - 1 + pic.confY) / 16
  let tw := ceilDiv pic.codedW 16
  let full := s.crop n pic.w pic.h
  let outX := pic.w < full.x + full.w && (pic.w + pic.confX) / 16 ≤ b
  let outY := pic.h < full.y + full.h && (pic.h + pic.confY) / 16 ≤ g
  outX || outY || pic.taint.any (fun t => a ≤ t % tw && t % tw ≤ b && e ≤ t / tw && t / tw ≤ g)

/-- The visible screen tiles of a layer (R253). -/
def State.visibleTiles (s : State) (n : Nat) : List Nat :=
  let r := s.onScreen n
  let cov := s.coverRects n
  (r.tiles.filter (fun t => tileAny r t (fun x y => !cov.any (fun q => q.has x y)))).map (s.tileNo (s.fn (lIdx n) 0x02))

/-- The tainted screen tiles of a layer (R253). -/
def State.taintedTiles (s : State) (n : Nat) (pic : PicS) (copy : Nat) : List Nat :=
  let r := s.onScreen n
  let cov := s.coverRects n
  (r.tiles.filter (fun t => tileAny r t (fun x y =>
    !cov.any (fun q => q.has x y) && s.pixelTainted n pic copy x y))).map (s.tileNo (s.fn (lIdx n) 0x02))

/-! ### The stitch plate (R61 to R64) -/

/-- The plate's corner: x and y of its top-left pixel, on the layer's on-screen destination. -/
def stitchAt (corner : Nat) (r : Rect) : Int × Int :=
  (if corner % 2 = 0 then (r.x0 : Int) + 4 else (r.x1 : Int) - 70,
   if corner / 2 = 0 then (r.y0 : Int) + 4 else (r.y1 : Int) - 14)

/-- R64: whether a stitch pixel is clipped by the screen edge or covered by another layer: any enabled layer above it
whose on-screen destination meets the plate (log 15). -/
def State.stitchHidden (s : State) (n : Nat) : Bool :=
  let i := lIdx n
  let x := s.fn i 0x02
  let p := stitchAt (bits (s.fn i 0x2B) 1 0) (s.onScreen n)
  let q : Rect := ⟨p.1.toNat, (p.1 + 66).toNat, p.2.toNat, (p.2 + 10).toNat⟩
  (s.onScreen n).empty || p.1 < 0 || p.2 < 0 || (s.ha x : Int) < p.1 + 66 || (s.va x : Int) < p.2 + 10 ||
  (s.layersOn x).any (fun m => s.fn i 0x0E < s.fn (lIdx m) 0x0E && (s.onScreen m).meets q)

end Sys2Proof.Machine
end

