-- ==== Sys2Proof/Machine/Layers.lean ====
section
/-! DEFINITION. Layers: scaler pipes and the checks of Table 6.2 (R239 to R250), and how LVS judges a layer (R20 to R48,
R77). -/

namespace Sys2Proof.Machine

/-! ### Scaler pipes (R239 to R244) -/

/-- The pipe that serves a pipe place: at first its own, none for the places of cluster C.19 (R239, R241). -/
def State.placeUnit (s : State) (p : Nat) : Option Nat :=
  match s.places.look p with
  | some u => if u < 128 then some u else none
  | none => if p % 64 < 60 then some p else none

/-- Whether a place is active: its pipe is OK, PATCHED or SUSPECT. -/
def State.placeActive (s : State) (p : Nat) : Bool :=
  match s.placeUnit p with
  | some u => (s.unit (pipeKey u)).st = 0 || (s.unit (pipeKey u)).st = 1 || (s.unit (pipeKey u)).st = 4
  | none => false

/-- Whether a place takes new work: active and not SUSPECT. -/
def State.placeServes (s : State) (p : Nat) : Bool :=
  match s.placeUnit p with
  | some u => s.serves (pipeKey u)
  | none => false

/-- The other place of a pair (R241). -/
def mate (p : Nat) : Nat := if p % 2 = 0 then p + 1 else p - 1

/-- Places held by slots other than `n`. -/
def State.heldOthers (s : State) (n : Nat) : List Nat :=
  s.layers.flatMap (fun p => if p.1 = n then [] else p.2.pipes)

/-- R244: a single pipe: the lowest-numbered free active one whose partner is held or not active; if none, the
lowest-numbered free one. -/
def State.takeOne (s : State) (die : Nat) (held : List Nat) : Option (List Nat) :=
  let free := ((List.range 64).map (· + 64 * die)).filter (fun p => s.placeServes p && !held.contains p)
  match free.find? (fun p => held.contains (mate p) || !s.placeActive (mate p)) with
  | some p => some [p]
  | none => free.head?.map (fun p => [p])

/-- R244: a pair: the lowest-numbered one whose two pipes are both free and active. -/
def State.takePair (s : State) (die : Nat) (held : List Nat) : Option (List Nat) :=
  (((List.range 32).map (fun j => 2 * j + 64 * die)).find? (fun p =>
    s.placeServes p && s.placeServes (p + 1) && !held.contains p && !held.contains (p + 1))).map (fun p => [p, p + 1])

/-- The pipes a slot has after asking for one or a pair, given those it holds and those others hold (R244, R247). -/
def State.allocate (s : State) (die : Nat) (held cur : List Nat) (pair : Bool) : Option (List Nat) :=
  let cur := cur.filter (fun p => p / 64 = die && s.placeActive p)
  match pair, cur with
  | true, [p, q] => some [p, q]
  | true, [p] =>
    if s.placeServes (mate p) && !held.contains (mate p) then some [min p (mate p), max p (mate p)]
    else s.takePair die held
  | true, _ => s.takePair die held
  | false, p :: _ => some [p]
  | false, [] => s.takeOne die held

/-- Whether a layer needs a pair for a line-store demand (R244). -/
def State.needsPair (s : State) (n demand : Nat) : Bool :=
  match s.fn (lIdx n) 0x11 with
  | 0 => false
  | 1 => true
  | _ => 24576 < demand

/-- Whether its pairing setting can hold a demand (R242). -/
def State.storeOk (s : State) (n demand : Nat) : Bool := demand ≤ lineStore (s.fn (lIdx n) 0x11 ≠ 0)

/-! ### Checks at commit (R245, R246) -/

/-- R246: the source size used by checks 5 to 8. -/
def State.sourceSize (s : State) (m : Nat) : Nat × Nat :=
  let z := s.rn (0x3440 + m) 0x09
  if !s.isSurface m && (s.sst m = sessAcquiring || s.sst m = sessRunning || s.sst m = sessStarved) && z ≠ 0 then
    (z % 65536, z / 65536)
  else (s.rn (sIdx m) 0x10, s.rn (sIdx m) 0x11)

/-- Checks 1 to 7 of Table 6.2 on a slot in the configuration in force: the code of the first that fails, or 0. -/
def State.slotCheck (s : State) (n : Nat) : Nat :=
  let i := lIdx n
  let x := s.fn i 0x02
  let m := s.fn i 0x03
  let others := (s.layersOn x).filter (· ≠ n)
  if s.compGone x then 1
  else if 16 ≤ others.length then 2
  else if others.any (fun o => s.fn (lIdx o) 0x0E = s.fn i 0x0E) then 3
  else if s.fn i 0x09 = 1 && s.fn (scrIdx x) 0x24 = 0xFF then 4
  else if m = 0xFF then 0
  else
    let dw := s.rn (sIdx m) 0x10
    let dh := s.rn (sIdx m) 0x11
    let z := s.sourceSize m
    let c := s.cropRead n z.1 z.2 (s.copyFor n z.1 z.2)
    let d := s.dest n
    if (s.fn i 0x07 ≠ 0 && dw < s.fn i 0x05 + s.fn i 0x07) || (s.fn i 0x08 ≠ 0 && dh < s.fn i 0x06 + s.fn i 0x08) then 5
    else if !ratioOk c d.2.2.1 d.2.2.2 then 6
    else if !s.storeOk n (s.lineDemand n c) then 7
    else 0

/-- Whether a slot wants a pair in the configuration in force, by the source size of R246. -/
def State.wantsPair (s : State) (n : Nat) : Bool :=
  let m := s.fn (lIdx n) 0x03
  let z := s.sourceSize m
  s.needsPair n (s.lineDemand n (s.cropRead n z.1 z.2 (s.copyFor n z.1 z.2)))

/-- What slots keep of their pipes in the configuration in force: nothing where they are disabled, without a source, or
moved to the other die; one of a pair where one suffices (R246). -/
def State.kept (s : State) (n : Nat) (cur : List Nat) : List Nat :=
  let die := s.fn (lIdx n) 0x02 / 12
  if !s.layerOn n || s.fn (lIdx n) 0x03 = 0xFF then []
  else
    let l := cur.filter (fun p => p / 64 = die)
    if s.wantsPair n then l else l.take 1

/-- R245: slots are checked in ascending order, pipes taken as they go. Answers the first slot and code that fail. -/
def State.checkSlots (s : State) : List Nat → Tab (List Nat) → Option (Nat × Nat)
  | [], _ => none
  | n :: ns, held =>
    let c := s.slotCheck n
    if c ≠ 0 then some (n, c)
    else if s.fn (lIdx n) 0x03 = 0xFF then s.checkSlots ns held
    else
      let others := held.flatMap (fun p => if p.1 = n then [] else p.2)
      match s.allocate (s.fn (lIdx n) 0x02 / 12) others (held.at' n []) (s.wantsPair n) with
      | none => some (n, 8)
      | some l => s.checkSlots ns (held.put n l)

/-- R245 over the enabled slots of the screens in a mask, in the configuration in force. -/
def State.layerCheck (s : State) (mask : Nat) : Option (Nat × Nat) :=
  let ns := (List.range 256).filter (fun n => s.slotsUsed.contains n && s.layerOn n && bit mask (s.fn (lIdx n) 0x02))
  s.checkSlots ns (s.layers.map (fun p => (p.1, s.kept p.1 p.2.pipes)))

/-- The pipe counts of Table 6.6. -/
def State.refreshPipes (s : State) : State :=
  let held := s.layers.flatMap (fun p => p.2.pipes)
  let act := fun (d : Nat) => (((List.range 64).map (· + 64 * d)).filter s.placeActive)
  let free := fun (d : Nat) => ((act d).filter (fun p => !held.contains p && s.placeServes p)).length
  (((s.wn 0x4100 0x01 (act 0).length).wn 0x4100 0x02 (act 1).length).wn 0x4100 0x03 (free 0)).wn 0x4100 0x04 (free 1)

/-- The number in 0x4000+n:14. -/
def State.pipesWord (s : State) (l : List Nat) : Nat :=
  match l.map (fun p => (s.placeUnit p).getD 0xFF) with
  | [p] => p + 256 * 0xFF
  | p :: q :: _ => p + 256 * q
  | [] => 0xFFFF

/-! ### What LVS finds of a layer (R39 to R44) -/

/-- The conditions of Table 1.4 that are true, with the active reasons of Table 1.5 in rising order. -/
structure Verdict where
  fenced : Bool
  lost : Bool
  aged : Bool
  repeated : Bool
  tainted : Bool
  reasons : List Nat
  deriving DecidableEq, Repr

/-- Whether this package is fenced (R567, R568: 0x6800:09 reads 3). -/
def State.packageFenced (s : State) : Bool := s.rn 0x6800 0x09 = 3

/-- Whether a die's LVS is stopped: its health reads SUSPECT (R69). -/
def State.lvsStopped (s : State) (die : Nat) : Bool := (s.unit (lvsKey die)).st = 1

/-- The active reasons of a layer (Table 1.5), in rising order. A source whose mapping was lost reports 6 in place of 4
while no fresh sender report has come (log 16). Reason 5 is active for a derived picture under minimum grade 1 only: an unverifiable
one has reason 4 or 6 alone, so that R59's border stays (DESIGN CHOICE, log 132). A source that displays nothing holds no
clean picture (DEDUCED, log 133). -/
def State.reasons (s : State) (n : Nat) : List Nat :=
  let i := lIdx n
  let l := s.layer n
  let m := s.fn i 0x03
  let die := s.fn i 0x02 / 12
  let g := s.ses m
  let grade := l.sel.map (·.grade)
  let stale := g.sr.isSome && !s.mapValid m
  let on := fun (r : Nat) (b : Bool) => if b then [r] else []
  on 1 l.first ++ on 2 (!s.lockedFor die || l.uLate) ++ on 3 (s.lvsStopped die) ++
  (if m = 0xFF then [] else
    on 4 (grade = some 0 && !stale) ++ on 5 (grade = some 1 && s.fn i 0x23 = 1) ++ on 6 (grade = some 0 && stale) ++
    on 7 g.invalid ++ on 8 g.future ++ on 9 g.fault ++ on 10 g.test ++
    on 11 (s.sst m = sessAcquiring || s.rn (0x3440 + m) 0x01 = 0 || g.disp.isNone)) ++
  on 12 l.cap ++ on 13 l.rback ++ on 14 l.stepped

/-- Whether a layer is FENCED (Table 1.4, R60, R112). -/
def State.isFenced (s : State) (n : Nat) : Bool :=
  let x := s.fn (lIdx n) 0x02
  let m := s.fn (lIdx n) 0x03
  (s.layer n).fence || s.packageFenced || s.unavailable x || (m ≠ 0xFF && (s.ses m).fenced)

/-- The hops of a relay from its source package to this one, and the port it arrives by: the shorter path (R560). A source to
which no path is known counts one hop, by port A. -/
def State.relayHops (s : State) (m : Nat) : Nat × Nat :=
  let src := (s.relayEntry m).1
  match s.prefer s.pkgId src with
  | some q => ((s.pathLen src 16 s.pkgId q).getD 1, q)
  | none => (1, 0)

/-- Whether the relay that carries a session has been shed on the link to this package (R477): the relays that come over that link,
streams before pixels (R473) and each by session, fit its capacity only before it (DEDUCED, log 169). -/
def State.relayShed (s : State) (m : Nat) : Bool :=
  let h := s.relayHops m
  let here := s.sessUsed.filter (fun k => s.kind k = 4 && s.admitted k && s.relayHops k = h)
  let order := here.filter (fun k => !s.relayPixel k) ++ here.filter s.relayPixel
  let used := ((order.take (order.idxOf m + 1)).map (fun k => s.relayBits (s.relayPixel k) k)).foldl (· + ·) 0
  s.kind m = 4 && h.1 = 1 && s.spState h.2 = spUp && s.rn (0x6510 + h.2) 0x08 * 1000000 < used

/-- Whether a layer is LOST (Table 1.4). -/
def State.isLost (s : State) (n : Nat) : Bool :=
  let m := s.fn (lIdx n) 0x03
  m = 0xFF || !(s.sst m = sessAcquiring || s.sst m = sessRunning) || s.relayShed m

/-- The verdict on a layer, given what its age check found. -/
def State.verdict (s : State) (n : Nat) (aged : Bool) : Verdict :=
  let l := s.layer n
  ⟨s.isFenced n, s.isLost n, aged, s.fn (lIdx n) 0x21 < l.reps, !l.tainted.isEmpty, s.reasons n⟩

/-- Whether anything but reasons 13 and 14 stops the recovery run (R44; those two clear only through it, log 17). -/
def Verdict.blocks (v : Verdict) : Bool :=
  v.fenced || v.lost || v.aged || v.repeated || v.tainted || v.reasons.any (fun r => r ≠ 13 && r ≠ 14)

/-- Whether only first use stands in the way (R43). -/
def Verdict.onlyFirst (v : Verdict) : Bool :=
  !(v.fenced || v.lost || v.aged || v.repeated || v.tainted) && v.reasons.contains 1 &&
  !v.reasons.any (fun r => r ≠ 1 && r ≠ 13 && r ≠ 14)

/-- R40: the state of the highest precedence among the conditions, or `old` when none is true. -/
def Verdict.state (v : Verdict) (old : Nat) : Nat :=
  if v.fenced then 7 else if v.lost then 6 else if !v.reasons.isEmpty then 5
  else if v.aged then 2 else if v.repeated then 3 else if v.tainted then 4 else old

/-- The conditions bitmask 0x4000+n:2E. -/
def Verdict.mask (v : Verdict) : Nat :=
  b2n v.fenced + 2 * b2n v.lost + 4 * b2n (!v.reasons.isEmpty) + 8 * b2n v.aged + 16 * b2n v.repeated +
  32 * b2n v.tainted

/-- R41: the reason reported: the lowest active one while UNVERIFIED. -/
def Verdict.reason (v : Verdict) (st : Nat) : Nat := if st = 5 then v.reasons.head?.getD 0 else 0

/-- The rank of a state by precedence (Table 1.4): FENCED highest. -/
def stateRank (st : Nat) : Nat :=
  match st with
  | 7 => 7 | 6 => 6 | 5 => 5 | 2 => 4 | 3 => 3 | 4 => 2 | 1 => 1 | _ => 0

/-- The higher-precedence of two states. -/
def worse (a b : Nat) : Nat := if stateRank a < stateRank b then b else a

/-- Set a layer's state, reason and conditions; a change of state is one event (R48) and sets the tally's latch. A layer that
is not LIVE has no verification grade, and none waits for its return (R71). -/
def State.setLiveness (s : State) (n st reason mask : Nat) : State :=
  let i := lIdx n
  let old := s.rn i 0x2C
  let s := ((s.wn i 0x2C st).wn i 0x2D reason).wn i 0x2E mask
  let s := if st = 1 then s
    else (s.wn i 0x2F (s.rn i 0x2F % 4)).setLayer n { s.layer n with rbOk := false, compared := false }
  if st = old then s
  else
    let s := { s with tally := { s.tally with change := true } }
    s.raise (lvsKey (s.fn i 0x02 / 12)) 0x0101 1 [(8, n), (8, old), (8, st), (8, reason)]

/-- R75: the summaries of a screen and of the package. -/
def State.refreshSummary (s : State) (x : Nat) : State :=
  let st := if s.packageFenced then 7 else ((s.layersOn x).map (fun n => s.rn (lIdx n) 0x2C)).foldl worse 0
  let s := s.wn (scrIdx x) 0x35 st
  s.wn 0x5000 0x07 (((List.range 24).map (fun y => s.rn (scrIdx y) 0x35)).foldl worse 0)

/-- Every screen's summary, after what may have changed several. -/
def State.refreshSummaries (s : State) : State := (List.range 24).foldl (fun s x => s.refreshSummary x) s

/-- Reason 1 is set (R43): first use begins again, and no composition from an earlier latch clears it. -/
def State.firstUse (s : State) (n : Nat) : State :=
  let l := s.layer n
  s.setLayer n { l with first := true, gen := l.gen + 1, run := 0 }

/-- A layer that was FENCED and is no longer takes reason 1 (Table 1.6). -/
def State.unfence (s : State) (n : Nat) : State :=
  if s.rn (lIdx n) 0x2C = 7 && !s.isFenced n then s.firstUse n else s

/-- A condition found between latches (R46, R68, R69, R72): the state follows at once and the run restarts. -/
def State.degrade (s : State) (n : Nat) : State :=
  let s := s.unfence n
  let l := s.layer n
  let s := s.setLayer n { l with run := 0 }
  let v := s.verdict n (l.late || bit (s.rn (lIdx n) 0x2E) 3)
  let st := v.state (s.rn (lIdx n) 0x2C)
  (s.setLiveness n st (v.reason st) v.mask).refreshSummary (s.fn (lIdx n) 0x02)

/-- A scan-out check of a layer (R44, R46): conditions now true take effect, and those that block the recovery restart its
run. -/
def State.scanCheck (s : State) (n : Nat) : State :=
  let s := s.unfence n
  let l := s.layer n
  let v := s.verdict n (l.late || bit (s.rn (lIdx n) 0x2E) 3)
  if v.mask = 0 then s
  else
    let old := s.rn (lIdx n) 0x2C
    let s := if v.blocks || old = 1 then s.setLayer n { l with run := 0 } else s
    let st := v.state old
    (s.setLiveness n st (v.reason st) v.mask).refreshSummary (s.fn (lIdx n) 0x02)

/-! ### Age and the device floor (R33, R34, R77) -/

/-- The age of content shown at `tEnd` (in ns): none where the capture time is unknown. U unknown counts 0. A capture time
after the end of scan gives age 0, not a negative one (DESIGN CHOICE, log 134). -/
def State.ageAt (s : State) (die tEnd : Nat) (cap : Option Nat) : Option Nat :=
  cap.map (fun c => ((tEnd : Int) + s.rn 0x5000 0x04 + (s.uFor die).getD 0 - c).toNat)

/-- The lowest strip of a layer's on-screen destination. -/
def State.lowStrip (s : State) (n : Nat) : Nat := ((s.onScreen n).y1 - 1) / 16

/-- The latest end of scan of strip k in the frame composed from this latch (R34 check 1). -/
def State.lateEnd (s : State) (x k : Nat) : Nat := (s.screen x).start + s.linesNs x (s.vmax x + 16 * (k + 1))

/-- The link term of the device floor in µs (R575) of a relay: its term at every hop, and 50 µs at every forwarding package. The
hops before the last are charged with what this package's own port carries (DEDUCED, log 26). -/
def State.linkMicros (s : State) (m : Nat) : Nat :=
  if s.kind m ≠ 4 then 0
  else
    let h := s.relayHops m
    let c := max 1 (s.rn (0x6510 + h.2) 0x08)
    let bits := fun (k : Nat) => 8 * p10Bytes (s.rn (sIdx k) 0x10) (s.rn (sIdx k) 0x11)
    let pix := s.relayPixel
    let term := if pix m then
        200 + ceilDiv (((s.sessUsed.filter (fun k => s.admitted k && pix k && (s.relayHops k).2 = h.2)).map bits).foldl (· + ·) 0) c
      else 200 + ceilDiv (s.rn (sIdx m) 0x13 * 1000000 / max 1 (s.rn (sIdx m) 0x12)) c
    h.1 * term + 50 * (h.1 - 1)

/-- Table 1.11 up to the picture in the pool, in µs: T_rx, T_dec and T_link of a session. -/
def State.frontMicros (s : State) (m : Nat) : Nat :=
  let i := sIdx m
  let z := s.sourceSize m
  let bitsPic := s.rn i 0x13 * 1000000 / max 1 (s.rn i 0x12)
  let share := (s.ses m).share
  let path := if m = 0xFF then 0
    else if s.isVideo m then 500 + decodeMicros (z.1 * z.2) bitsPic share
    else if s.isSurface m then 70 + max (ceilDiv (z.1 * z.2 * 4) 1000) (ceilDiv bitsPic 2000)
    else 0
  path + s.linkMicros m

/-- R77: the device floor in µs. -/
def State.floorMicros (s : State) (n : Nat) : Nat :=
  let x := s.fn (lIdx n) 0x02
  s.frontMicros (s.fn (lIdx n) 0x03) +
  ceilDiv (s.linesNs x (2 * s.vmax x + 16 * (s.lowStrip n + 1)) + s.rn 0x5000 0x04 + s.rn 0x5000 0x01) 1000

/-! ### One layer at its latch (R232, R247, R46, R47) -/

/-- The picture a layer selects at a latch (R284): the newest complete one of its session. -/
def State.newest (s : State) (n : Nat) : Option PicS :=
  let m := s.fn (lIdx n) 0x03
  if m = 0xFF then none else (s.ses m).disp

/-- R247, R250: pipes and capacity at a latch. A layer that cannot be served keeps the last picture that passed. -/
def State.latchPipes (s : State) (n : Nat) : State :=
  let i := lIdx n
  let m := s.fn i 0x03
  let l := s.layer n
  if m = 0xFF then s.setLayer n { l with pipes := [], cap := false, sel := none, good := none }
  else
    let pic := s.newest n
    let z := match pic with
      | some p => (p.w, p.h)
      | none => s.sourceSize m
    let copy := s.copyFor n z.1 z.2
    let c := s.cropRead n z.1 z.2 copy
    let d := s.dest n
    let dem := s.lineDemand n c
    let fits := ratioOk c d.2.2.1 d.2.2.2 && s.storeOk n dem
    let got := s.allocate (s.fn i 0x02 / 12) (s.heldOthers n) l.pipes (s.needsPair n dem)
    let keep := l.pipes.filter (fun p => p / 64 = s.fn i 0x02 / 12 && s.placeActive p)
    let ok : Bool := fits && got.isSome
    let s := s.setLayer n { l with
      pipes := if ok then got.getD [] else keep, cap := !ok, copy := copy,
      sel := if ok then pic else l.good, good := if ok then pic else l.good }
    let s := if !ok && !l.cap then s.bump (compKey (s.fn i 0x02)) 0x4100 0x06 else s
    let s := (s.wn i 0x15 (if pic.isSome then copy else 0xFF)).wn i 0x16 dem
    s.wn i 0x1A (min 65535 (c.w * 1000 / max 1 d.2.2.1) + 65536 * min 65535 (c.h * 1000 / max 1 d.2.2.2))

/-- Tiles fixed at the latch (R253). -/
def State.latchTiles (s : State) (n : Nat) : State :=
  let i := lIdx n
  let l := s.layer n
  let vis := s.visibleTiles n
  let bad := match l.sel with
    | some p => if p.taint.isEmpty && s.fn i 0x07 = 0 && s.fn i 0x08 = 0 then [] else s.taintedTiles n p (s.copyFor n p.w p.h)
    | none => []
  let s := s.setLayer n { l with tiles := vis, tainted := bad }
  (s.wn i 0x17 vis.length).wn i 0x18 bad.length

/-- R64: hidden stitches, with one event where it begins. -/
def State.latchStitch (s : State) (n : Nat) : State :=
  let l := s.layer n
  let hid := bit (s.fn (lIdx n) 0x2B) 7 && s.stitchHidden n
  let s := s.setLayer n { l with hidden := hid, rbOk := l.rbOk && !hid && bit (s.fn (lIdx n) 0x2B) 7 }
  if hid && !l.hidden then s.raise (lvsKey (s.fn (lIdx n) 0x02 / 12)) 0x0102 1 [(8, n)] else s

/-- R77: the floor, and the event where a commit that landed at this latch set a budget below it: `set` are the slots whose
budget in force it changed, or that it enabled (DEDUCED, log 135). -/
def State.latchFloor (s : State) (n : Nat) (set : List Nat) : State :=
  let i := lIdx n
  let f := s.floorMicros n
  let s := s.wn i 0x32 (min f 0xFFFFFFFF)
  if set.contains n && s.fn i 0x20 * 1000 < f then
    s.raise (lvsKey (s.fn i 0x02 / 12)) 0x0103 2 [(8, n), (32, min f 0xFFFFFFFF)]
  else s

/-- R20, R40 to R44: the compose-time evaluation of a layer at its latch. -/
def State.evaluate (s : State) (n : Nat) : State :=
  let i := lIdx n
  let x := s.fn i 0x02
  let old := s.rn i 0x2C
  let s := s.unfence n
  let s := s.setLayer n { s.layer n with late := false, uLate := false, drawing := false }
  let l := s.layer n
  let age := s.ageAt (x / 12) (s.lateEnd x (s.lowStrip n)) (l.sel.bind (·.cap))
  let l := { l with age := age }
  let s := (s.setLayer n l).wn i 0x30 (match age, s.uFor (x / 12) with
    | some a, some _ => min (a / 1000) 0xFFFFFFFF
    | _, _ => 0xFFFFFFFF)
  let s := s.wn i 0x2F (match l.sel with
    | some p => p.grade
    | none => 3)
  let aged := match age with
    | some a => decide (s.fn i 0x20 * 1000000 < a)
    | none => l.sel.isSome
  let v := s.verdict n aged
  let s := if v.blocks then
      let st := v.state old
      (s.setLayer n { l with run := 0, drawing := v.onlyFirst }).setLiveness n st (v.reason st) v.mask
    else if old = 1 && v.reasons.isEmpty then s.setLiveness n 1 0 0
    else if s.fn i 0x22 ≤ l.run + 1 then
      (s.setLayer n { l with run := 0, rback := false, stepped := false }).setLiveness n 1 0 0
    else
      let st := v.state old
      (s.setLayer n { l with run := l.run + 1 }).setLiveness n st (v.reason st) v.mask
  if s.rn i 0x2C = 1 then
    s.wn i 0x2F (s.rn i 0x2F % 4 + 4 * (if bit (s.fn i 0x2B) 7 && !(s.layer n).hidden && (s.layer n).rbOk then 2 else 1))
  else s

/-- R50, R59: the treatment code a layer draws: 0 for LIVE. -/
def State.treatment (s : State) (n : Nat) : Nat :=
  let i := lIdx n
  match s.rn i 0x2C with
  | 1 => 0
  | 2 => s.fn i 0x24
  | 3 => s.fn i 0x25
  | 4 => s.fn i 0x26
  | 5 => if s.reasons n = [4] then s.fn i 0x28 else s.fn i 0x27
  | 6 => s.fn i 0x29
  | 7 => s.fn i 0x2A
  | _ => 0

/-- The matrix and range a layer's video is converted with (R254): the stream's, or the override's. -/
def State.videoMatrix (s : State) (n : Nat) (p : PicS) : Nat × Bool :=
  match s.fn (lIdx n) 0x13 with
  | 1 => (0, false)
  | 2 => (0, true)
  | 3 => (1, false)
  | 4 => (2, false)
  | 5 => (2, true)
  | _ => (match p.matrix with
    | 5 => 1
    | 6 => 1
    | 9 => 2
    | _ => 0, p.fullRange)

/-- The tone map of a layer as a latch finds it (R255, R259). The automatic one has the white and peak that maps have at their defaults
(DEDUCED, log 165). -/
def State.toneOf (s : State) (n : Nat) (p : PicS) : ToneS :=
  let m := s.fn (lIdx n) 0x12
  if m = 0xFF then
    { eotf := if p.graphics then 0 else (match p.transfer with
        | 16 => 2
        | 18 => 1
        | _ => 0)
      matrix := primariesMatrix (if !p.graphics && p.primaries = 9 then 1 else 0) (s.fn (scrIdx (s.fn (lIdx n) 0x02)) 0x22) }
  else
    let i := 0x4210 + m
    { eotf := s.fn i 0x01, white := s.fn i 0x02, peak := s.fn i 0x03, custom := (s.fval i 0x04).bs
      matrix := (List.range 9).map (fun k => s.fi i (5 + k)), curve := (s.fval i 0x0E).bs }

/-- How a layer's pixels are read and converted in the frame composed from this latch. -/
def State.pathOf (s : State) (n : Nat) : PathS :=
  let d := s.dest n
  match (s.layer n).sel with
  | none => { sess := s.fn (lIdx n) 0x03 }
  | some p =>
    let copy := s.copyFor n p.w p.h
    let c := s.cropRead n p.w p.h copy
    let m := s.videoMatrix n p
    { sess := s.fn (lIdx n) 0x03, pic := some p, copy := copy, cx := c.x, cw := c.w, cy := c.y, ch := c.h, dx := d.1, dy := d.2.1
      dw := d.2.2.1, dh := d.2.2.2, matrix := m.1, full := m.2, tone := s.toneOf n p }

/-- What a latch fixes of a layer (R46). The readout's age is that of the compose-time check, truncated to tenths of a second
(DESIGN CHOICE, log 136). -/
def State.planOf (s : State) (n : Nat) : PlanL :=
  let i := lIdx n
  let l := s.layer n
  let r := s.onScreen n
  let p := stitchAt (bits (s.fn i 0x2B) 1 0) r
  let live : Bool := s.rn i 0x2C = 1
  ⟨n, s.fn i 0x0E, r.x0, r.x1, r.y0, r.y1, s.rn i 0x2C, s.treatment n, s.fn i 0x0F, s.fn i 0x10,
   if live && bit (s.fn i 0x2B) 7 then some (p.1, p.2, ((l.sel.map (·.alive)).getD 0) % 256) else none,
   l.sel.bind (·.cap), s.fn i 0x20, l.age.map (· / 100000000),
   l.tainted, false, l.sel.bind (fun p => if p.graphics then some (s.fn i 0x03, p.surface) else none),
   if l.drawing then some l.gen else none, s.pathOf n⟩

end Sys2Proof.Machine
end

