-- ==== Sys2Proof/Machine/Commits.lean ====
section
/-! DEFINITION. Staged and in-force configuration, commits and receipts (R264 to R283), tone maps (R257, R259), and the
write effects of their objects. -/

namespace Sys2Proof.Machine

/-! ### The committed set (R264) -/

/-- Subindices of the committed set of a slot and of a screen. -/
def slotSubs : List Nat := (List.range 0x13).map (· + 1) ++ (List.range 0x0C).map (· + 0x20)
def screenSubs : List Nat := (List.range 7).map (· + 0x20) ++ (List.range 5).map (· + 0x30)

/-- Whether an object is of the committed set. -/
def committed (idx sub : Nat) : Bool :=
  (0x4000 ≤ idx && idx < 0x4100 && slotSubs.contains sub) ||
  (0x4800 ≤ idx && idx < 0x4818 && screenSubs.contains sub) ||
  (0x4310 ≤ idx && idx < 0x4328 && sub = 1)

/-- Keys of the committed set of a slot and of a screen. -/
def slotKeys (n : Nat) : List Nat := slotSubs.map (key (lIdx n))
def screenKeys (x : Nat) : List Nat := screenSubs.map (key (scrIdx x)) ++ [key (0x4310 + x) 0x01]

/-- The value in force at a key. -/
def State.fkey (s : State) (k : Nat) : Val := s.fval (k / 256) (k % 256)

/-- The staged value at a key. -/
def State.skey (s : State) (k : Nat) : Val := s.val (k / 256) (k % 256)

/-- Put values in force. -/
def State.overlay (s : State) (vs : List (Nat × Val)) : State :=
  vs.foldl (fun s p => { s with force := s.force.put p.1 p.2 }) s

/-- The staged or in-force screen of a slot. -/
def State.stagedScreen (s : State) (n : Nat) : Nat := s.rn (lIdx n) 0x02
def State.forceScreen (s : State) (n : Nat) : Nat := s.fn (lIdx n) 0x02

/-- Slots whose staged or in-force screen lies in a mask (R265). Slots with nothing written stand on screen 0 at every
default and change nothing. -/
def State.slotsIn (s : State) (mask : Nat) : List Nat :=
  s.slotsUsed.filter (fun n => bit mask (s.stagedScreen n) || bit mask (s.forceScreen n))

/-- The screens of a mask. -/
def screensIn (mask : Nat) : List Nat := (List.range 24).filter (bit mask)

/-- The staged values that a commit on a mask takes (R265). -/
def State.stagedValues (s : State) (mask : Nat) : List (Nat × Val) :=
  (((s.slotsIn mask).flatMap slotKeys) ++ ((screensIn mask).flatMap screenKeys)).map (fun k => (k, s.skey k))

/-! ### Receipts (R278, R279) -/

/-- A receipt's 32 bytes (Table 7.4). -/
def Receipt.bytes (r : Receipt) : List Byte :=
  leBytes 2 r.id ++ leBytes 2 r.tag ++ leBytes 1 r.kind ++ leBytes 1 r.screen ++ leBytes 1 r.reason ++
  leBytes 1 r.check ++ leBytes 2 r.slot ++
  leBytes 2 (b2n r.deferred + 2 * b2n r.unlocked + 4 * b2n r.late) ++ leBytes 4 r.frame ++ leBytes 12 r.time ++ leBytes 4 0

/-- Raise a receipt: held by its id, and one event (R278). -/
def State.receipt (s : State) (r : Receipt) : State :=
  let s := { s with receipts := s.receipts.map (fun (p : Nat × List Receipt) => if p.1 = r.id then (p.1, p.2 ++ [r]) else p) }
  s.raise (procKey 0 .cmp) 0x0601 (if r.kind = 1 then 1 else 0)
    [(16, r.id), (16, r.tag), (8, r.kind), (8, r.screen), (8, r.reason), (16, r.slot)]

/-- Open the receipts of a new id; the 64 most recent are held (R279). -/
def State.openReceipts (s : State) (id : Nat) : State :=
  let l := s.receipts.filter (fun p => p.1 ≠ id) ++ [(id, [])]
  { s with receipts := l.drop (l.length - 64) }

/-- RECEIPT_SELECT (R279): an id that is not held is refused with status 9. -/
def receiptSelect (s : State) (v : Val) : State × Nat :=
  if s.receipts.any (fun p => p.1 = v.int.toNat) then (s.wv 0x4300 0x05 v, 0) else (s, 9)

/-- R279: the read of 0x4300:06. -/
def State.readReceipts (s : State) : State × Nat × Val :=
  match s.receipts.find? (fun p => p.1 = s.rn 0x4300 0x05) with
  | some p => if p.2.isEmpty then (s, 9, .bytes []) else (s, 0, .bytes (p.2.flatMap Receipt.bytes))
  | none => (s, 9, .bytes [])

def execReceiptSelect (t : Nat) (r : Req) (id : Nat) (s : State) : Host.Outcome State Fault Refusal :=
  .next ((s.tick t).request r 0x4300 0x05 (leBytes 2 id) receiptSelect)

/-! ### Submission (R267 to R270) -/

/-- The screens of a wall on this package (0x4820+w:03), by the values in force. -/
def State.localScreens (s : State) (w : Nat) : Nat :=
  (List.range 24).foldl (fun m x => if s.fn (scrIdx x) 0x24 = w then m + 2 ^ x else m) 0

/-- R267: whether the fields of a request stand; the time of timing 1 is a TIME96 (R164). -/
def requestOk (d : List Byte) : Bool :=
  let f := fun (i n : Nat) => leNat ((d.drop i).take n)
  let timing := f 4 1
  let trig := f 5 1
  let wall := f 6 1
  f 3 1 = 0 && f 7 1 = 0 && f 10 2 = 0 && timing ≤ 2 && f 0 3 ≠ 0 &&
  (if timing = 2 then trig ≤ 15 else trig = 0xFF) && (wall ≤ 31 || wall = 0xFF) &&
  (timing ≠ 1 || f 12 4 < 1000000000)

/-- A commit from a request's bytes with the staged values as they stand (R265). A member's bit is ignored (R317). -/
def State.commitOf (s : State) (id : Nat) (d : List Byte) : CommitS :=
  let f := fun (i n : Nat) => leNat ((d.drop i).take n)
  let mask := f 0 3
  ⟨id, f 8 2, f 4 1, f 5 1, f 6 1, mask, f 12 12, s.stagedValues mask, none, false, false,
   (screensIn mask).foldl (fun m x => if s.member x then m else m + 2 ^ x) 0, 0, 0, false⟩

/-- The values of a commit that stand for one screen, in the configuration in force (R274): that screen's, and those of
the slots whose staged or in-force screen it is. -/
def State.valuesFor (s : State) (c : CommitS) (x : Nat) : List (Nat × Val) :=
  c.vals.filter (fun p =>
    let idx := p.1 / 256
    if 0x4800 ≤ idx then idx = scrIdx x
    else if 0x4310 ≤ idx then idx = 0x4310 + x
    else
      let n := idx - 0x4000
      let staged := match c.vals.find? (fun q => q.1 = key idx 0x02) with
        | some q => q.2.int.toNat
        | none => s.forceScreen n
      s.forceScreen n = x || staged = x)

/-- Whether two masks share a screen. -/
def shares (a b : Nat) : Bool := Nat.land a b ≠ 0

/-- R270: the configuration the checks of a commit see. -/
def State.hypothetical (s : State) (c : CommitS) : State :=
  (s.commits.filter (fun d => shares d.mask c.mask)).foldl (fun h d => h.overlay d.vals) s |>.overlay c.vals

/-- Table 7.2 in order: (reason, check code, slot). -/
def State.commitCheck (s : State) (c : CommitS) : Nat × Nat × Nat :=
  let moving := s.slotsUsed.any (fun n => s.stagedScreen n ≠ s.forceScreen n &&
    (bit c.mask (s.stagedScreen n) || bit c.mask (s.forceScreen n)) &&
    !(bit c.mask (s.stagedScreen n) && bit c.mask (s.forceScreen n)))
  let at' := time96Ns c.time
  if 32 ≤ s.commits.length then (1, 0, 0xFFFF)
  else if moving then (2, 0, 0xFFFF)
  else if c.wall ≠ 0xFF && c.mask ≠ s.localScreens c.wall then (3, 0, 0xFFFF)
  else if c.timing = 2 && !((s.trig c.trig).armed && bit (s.rn (0x2820 + c.trig) 0x04) 2) then (4, 0, 0xFFFF)
  else if c.timing = 1 && (s.servo = servoFree || s.servo = servoAcquiring) then (5, 0, 0xFFFF)
  else if c.timing = 1 && at' < s.nowNs + s.rn 0x4300 0x0B * 1000000 then (6, 0, 0xFFFF)
  else if c.timing = 1 && s.nowNs + 3600 * 1000000000 < at' then (7, 0, 0xFFFF)
  else match (s.hypothetical c).layerCheck c.mask with
    | some (n, code) => (8, code, n)
    | none => (0, 0, 0xFFFF)

/-- The count 0x4300:09. -/
def State.refreshCommits (s : State) : State := s.wn 0x4300 0x09 s.commits.length

/-- Put a commit's row back, or drop it once every screen of its mask has its receipt. -/
def State.putCommit (s : State) (c : CommitS) : State :=
  ({ s with commits := (s.commits.map (fun (d : CommitS) => if d.id = c.id then c else d)).filter (fun (d : CommitS) => d.left ≠ 0) }).refreshCommits

/-- R283: the part of a commit on a screen that is unavailable is discarded with its receipt. -/
def State.dropPart (s : State) (x : Nat) : State :=
  (s.commits.filter (fun c => bit c.left x)).foldl (fun s c =>
    (s.receipt { id := c.id, tag := c.tag, kind := 4, screen := x, unlocked := c.unlocked, late := c.late }).putCommit
      { c with left := setBit c.left x false, taken := setBit c.taken x false }) s

/-- COMMIT_REQUEST (R266 to R270, R278, R283). -/
def commitRequest (s : State) (v : Val) : State × Nat :=
  let d := v.bs
  if !requestOk d then (s, 6)
  else
    let id := wrapInc 16 (s.rn 0x4300 0x08)
    let c := s.commitOf id d
    let chk := s.commitCheck c
    let s := (s.wn 0x4300 0x08 id).openReceipts id
    let s := if chk.1 = 8 then s.wn (lIdx chk.2.2) 0x19 chk.2.1 else s
    if chk.1 ≠ 0 then
      let s := s.bump (procKey 0 .cmp) 0x4300 0x0A
      let s := if chk.1 = 8 && chk.2.1 = 7 then s.bump (procKey 0 .cmp) 0x4100 0x05 else s
      (s.receipt { id := id, tag := c.tag, kind := 1, reason := chk.1, check := chk.2.1, slot := chk.2.2 }, 0)
    else
      let now := s.nowNs
      let c := if c.timing = 0 then { c with due := some now, unlocked := !s.lockedFor 0 } else c
      let s := ({ s with commits := s.commits ++ [c] }).refreshCommits
      let due := if c.timing = 0 then nsTime96 now else if c.timing = 1 then c.time else 0
      let s := s.receipt { id := id, tag := c.tag, kind := 0, time := due, unlocked := c.unlocked }
      ((screensIn c.left).foldl (fun s x => if s.unavailable x then s.dropPart x else s) s |>.putCommit
        { c with left := (screensIn c.left).foldl (fun m x => if s.unavailable x then m else m + 2 ^ x) 0 }, 0)

def execCommitRequest (t : Nat) (r : Req) (data : List Byte) (s : State) : Host.Outcome State Fault Refusal :=
  .next ((s.tick t).request r 0x4300 0x01 data commitRequest)

/-! ### Staging commands (R265, R271) -/

/-- Staging command 2: back to the values in force. -/
def State.discardStaged (s : State) : State :=
  let mask := s.rn 0x4300 0x03
  let ks := ((s.slotsIn mask).flatMap slotKeys) ++ ((screensIn mask).flatMap screenKeys)
  ks.foldl (fun s k => s.wv (k / 256) (k % 256) (s.fkey k)) s

/-- The commits that a cancel takes: the named one, and every later one that shares a screen with any taken. -/
def cancelSet (id : Nat) : List CommitS → List CommitS → List CommitS
  | acc, [] => acc
  | acc, c :: cs =>
    if c.id = id || (!acc.isEmpty && acc.any (fun d => shares d.mask c.mask)) then cancelSet id (acc ++ [c]) cs
    else cancelSet id acc cs

/-- Staging command 3: refused where the commit is not pending, or any that it would cancel has landed or been taken. -/
def State.cancel (s : State) : State × Nat :=
  let id := s.rn 0x4300 0x04
  let set := cancelSet id [] s.commits
  if !s.commits.any (fun c => c.id = id) || set.any (fun c => c.landed || c.taken ≠ 0) then (s, 7)
  else
    (set.foldl (fun s c =>
      ((screensIn c.left).foldl (fun s x =>
        s.receipt { id := c.id, tag := c.tag, kind := 3, screen := x, unlocked := c.unlocked, late := c.late }) s).putCommit
        { c with left := 0 }) s, 0)

/-- A write of 0x4300:02. -/
def stagingCommand (s : State) (v : Val) : State × Nat :=
  if v.int = 2 then (s.discardStaged, 0) else if v.int = 3 then s.cancel else (s, 6)

/-- COMMIT_DISCARD_STAGED (R265). -/
def execCommitDiscardStaged (t : Nat) (r : Req) (s : State) : Host.Outcome State Fault Refusal :=
  .next ((s.tick t).request r 0x4300 0x02 [2] stagingCommand)

/-- COMMIT_CANCEL (R271). -/
def execCommitCancel (t : Nat) (r : Req) (s : State) : Host.Outcome State Fault Refusal :=
  .next ((s.tick t).request r 0x4300 0x02 [3] stagingCommand)

/-! ### Due, taken and landed (R268, R273 to R276, R280) -/

/-- SCHEDULED_COMMIT_DUE (R280): at the first tick at or after its time. -/
def State.commitDue (s : State) (id : Nat) : State :=
  { s with commits := s.commits.map (fun c =>
      if c.id = id && c.timing = 1 && c.due = none && time96Ns c.time ≤ s.nowNs then
        { c with due := some s.nowNs, unlocked := !s.lockedFor 0 } else c) }

def execScheduledCommitDue (t id : Nat) (s : State) : Host.Outcome State Fault Refusal :=
  .next ((s.tick t).commitDue id)

/-- COMMIT_SAMPLE_POINT (R273): the screen takes the commits that are due before now. -/
def State.samplePoint (s : State) (x : Nat) : State :=
  { s with commits := s.commits.map (fun c =>
      if bit c.left x && (match c.due with | some d => decide (d < s.nowNs) | none => false) then
        { c with taken := setBit c.taken x true } else c) }

def execCommitSamplePoint (t x : Nat) (s : State) : Host.Outcome State Fault Refusal :=
  .next ((s.tick t).samplePoint x)

/-- R275: whether a slot that a commit gives a pipe on this screen waits for one that a slot on another screen will
release through the same commit. -/
def State.mustDefer (s : State) (c : CommitS) (x : Nat) : Bool :=
  let h := s.overlay (s.valuesFor c x)
  let lacking := (h.layersOn x).any (fun n =>
    h.fn (lIdx n) 0x03 ≠ 0xFF && h.slotCheck n = 0 &&
    (h.allocate (x / 12) (h.heldOthers n) (s.layer n).pipes (h.wantsPair n)).isNone)
  let whole := s.overlay c.vals
  lacking && s.layers.any (fun p => s.forceScreen p.1 ≠ x && bit c.left (s.forceScreen p.1) &&
    (whole.kept p.1 p.2.pipes).length < p.2.pipes.length)

/-- Slots that the values of a commit enable, disable, or give another source. Reasons 13 and 14 outlast a change of source:
only the recovery rule ends them (Table 1.5). -/
def State.landSlot (s : State) (n : Nat) (wasOn : Bool) (wasSrc : Nat) : State :=
  let i := lIdx n
  let l := s.layer n
  let keep : LayerS := { fence := l.fence, gen := l.gen }
  if !s.layerOn n then
    if wasOn then ((s.setLayer n keep).setLiveness n 0 0 0).wn i 0x14 0xFFFF else s
  else if !wasOn then (s.setLayer n { keep with pipes := l.pipes }).firstUse n
  else if wasSrc ≠ s.fn i 0x03 then
    (s.setLayer n { keep with pipes := l.pipes, stepped := l.stepped, rback := l.rback }).firstUse n
  else s

/-- R274, R278: a commit lands on a screen. The frame number is that of the first frame composed from this latch. -/
def State.land (s : State) (c : CommitS) (x : Nat) : State :=
  let vs := s.valuesFor c x
  let slots := (vs.map (fun p => p.1 / 256)).filter (fun i => 0x4000 ≤ i && i < 0x4100) |>.eraseDups.map (· - 0x4000)
  let before := slots.map (fun n => (n, s.layerOn n, s.fn (lIdx n) 0x03))
  let s := s.overlay vs
  let s := before.foldl (fun s b => s.landSlot b.1 b.2.1 b.2.2) s
  let fr := wrapInc 32 (s.rn (scrIdx x) 0x16)
  let base : Receipt := { id := c.id, tag := c.tag, kind := 2, screen := x, deferred := bit c.defer x }
  let s := s.receipt { base with unlocked := c.unlocked, late := c.late, frame := fr, time := nsTime96 (s.nowAt (x / 12)) }
  let s := (s.wn (0x4310 + x) 0x07 c.id).wn (0x4310 + x) 0x08 fr
  (s.bump (procKey (x / 12) .cmp) 0x4300 0x0C).putCommit
    { c with left := setBit c.left x false, taken := setBit c.taken x false, landed := true }

/-- The commits taken on a screen land in submission order; a deferred part keeps its place (R275). -/
def State.landAll : List Nat → Nat → State → State × Bool
  | [], _, s => (s, false)
  | id :: ids, x, s =>
    match s.commits.find? (fun c => c.id = id) with
    | none => State.landAll ids x s
    | some c =>
      if s.mustDefer c x then (s.putCommit { c with defer := setBit c.defer x true }, false)
      else
        let r := State.landAll ids x (s.land c x)
        (r.1, true)

/-! ### Tone maps (R255 to R259) -/

/-- Whether points decrease nowhere (R257). -/
def rising : List Nat → Bool
  | a :: b :: t => a ≤ b && rising (b :: t)
  | _ => true

/-- Writes to a tone map's objects (R256, R257): staged until applied. -/
def toneMap (m sub : Nat) (s : State) (v : Val) : State × Nat :=
  if sub = 0x0E && !(v.bs.length = 66 && rising (words 2 33 v.bs)) then (s, 6)
  else if sub = 0x04 && !(v.bs.length = 4096 && (words 4 1024 v.bs).all (· ≤ 655360000)) then (s, 6)
  else (s.wv (0x4210 + m) sub v, 0)

/-- R259: the staged set of a map becomes current whole. -/
def toneApply (m : Nat) (s : State) (v : Val) : State × Nat :=
  if v.int ≠ 1 then (s, 6)
  else (((List.range 14).map (· + 1)).foldl (fun s sub => s.setForce (0x4210 + m) sub (s.val (0x4210 + m) sub)) s, 0)

/-- TONE_MAP_APPLY (R259). -/
def execToneMapApply (t : Nat) (r : Req) (m : Nat) (s : State) : Host.Outcome State Fault Refusal :=
  .next ((s.tick t).request r (0x4210 + m) 0x0F [1] (toneApply m))

/-- R317: a write that names a gang member in 0x4000+n:02 is refused; R49, R54, R61: codes by the object's own check. -/
def slotWrite (n sub : Nat) (s : State) (v : Val) : State × Nat :=
  if sub = 0x02 && s.member v.int.toNat then (s, 6) else (s.wv (lIdx n) sub v, 0)

end Sys2Proof.Machine
end

