-- ==== Sys2Proof/Machine/Compose.lean ====
section
/-! DEFINITION. Composition of a strip: treatments, stitch and blending (R49 to R64, R261, R262), frame-buffer formats
(R296, R297), and the ledger entry written with it (R65, R66, R289). -/

namespace Sys2Proof.Machine

/-! ### Colours -/

/-- A colour of R54: red, green and blue of 10 bits. -/
def rgbOf (c : Nat) : Nat × Nat × Nat := (bits c 29 20, bits c 19 10, bits c 9 0)

/-- R53: whether a pixel lies on a stripe. -/
def onStripe (x y : Nat) : Bool := (x + y) % 8 ≤ 1

/-- R53: content with each component halved. -/
def halved (c : Nat × Nat × Nat) : Nat × Nat × Nat := (c.1 / 2, c.2.1 / 2, c.2.2 / 2)

/-- The crease of R53 over content. -/
def creased (crease : Nat) (x y : Nat) (c : Nat × Nat × Nat) : Nat × Nat × Nat :=
  if onStripe x y then rgbOf crease else halved c

/-- The on-screen destination in a plan. -/
def PlanL.rect (l : PlanL) : Rect := ⟨l.x0, l.x1, l.y0, l.y1⟩

/-- Whether the box of the age readout holds a pixel, with its place in it (R55, R56): at (8, 8) of the visible rectangle,
20 lines high with a 2 px margin, and as wide as its characters. -/
def readoutAt (l : PlanL) (x y : Nat) : Option (Nat × Nat) :=
  let chars : Nat := match l.age with
    | none => 6
    | some a => if a < 100 then 5 else if a < 1000 then 6 else if a < 10000 then 5 else if a < 100000 then 6 else 7
  if l.treat = 2 && 96 ≤ l.x1 - l.x0 && 24 ≤ l.y1 - l.y0 && l.x0 + 8 ≤ x && x < l.x0 + 8 + 10 * chars + 4 &&
      l.y0 + 8 ≤ y && y < l.y0 + 28 then some (x - l.x0 - 8, y - l.y0 - 8) else none

/-- The place of a pixel in the glyph centred on a card over a rectangle (R57). -/
def glyphPlace (r : Rect) (x y : Nat) : Option (Nat × Nat) :=
  let w := r.x1 - r.x0
  let h := r.y1 - r.y0
  let gx := r.x0 + (w - 48) / 2
  let gy := r.y0 + (h - 48) / 2
  if 48 ≤ w && 48 ≤ h && gx ≤ x && x < gx + 48 && gy ≤ y && y < gy + 48 then some (x - gx, y - gy) else none

/-- Whether the treatment covers a pixel of the layer (R51): TAINTED with code 1 only its tainted tiles, any other the whole
rectangle. -/
def PlanL.treats (l : PlanL) (cols x y : Nat) : Bool :=
  if l.treat = 0 then false
  else if l.state = 4 && l.treat = 1 then l.tainted.contains (y / 16 * cols + x / 16)
  else true

/-- Whether a pixel lies in the unverified border's 6 px band (R59). -/
def PlanL.borderAt (l : PlanL) (x y : Nat) : Bool := x < l.x0 + 6 || l.x1 ≤ x + 6 || y < l.y0 + 6 || l.y1 ≤ y + 6

/-- The colour a treatment draws at a pixel over content (R53 to R59). -/
def PlanL.treated (p : Plan) (l : PlanL) (x y : Nat) (c : Nat × Nat × Nat) : Nat × Nat × Nat :=
  match l.treat with
  | 3 => match glyphPlace l.rect x y with
    | some g => if Config.glyphPixel l.state g.1 g.2 then rgbOf p.crease else rgbOf p.card
    | none => rgbOf p.card
  | 4 => rgbOf p.blank
  | 5 => if l.borderAt x y then creased p.crease x y c else c
  | _ => match readoutAt l x y with
    | some g => if Config.readoutPixel l.age g.1 g.2 then (0, 0, 0) else rgbOf p.crease
    | none => creased p.crease x y c

/-- The stitch's colour at a pixel, where its plate lies (R62): marks of 6 × 6 px every 8 px inside a 2 px margin. -/
def stitchPixel (st : Int × Int × Nat) (x y : Nat) : Option (Nat × Nat × Nat) :=
  let dx := (x : Int) - st.1
  let dy := (y : Int) - st.2.1
  if dx < 0 || dy < 0 || 66 ≤ dx || 10 ≤ dy then none
  else
    let i := (dx.toNat - 2) / 8
    let inMark := 2 ≤ dx.toNat && (dx.toNat - 2) % 8 < 6 && i < 8 && 2 ≤ dy.toNat && dy.toNat < 8
    if inMark && st.2.2.testBit (7 - i) then some (1023, 1023, 1023) else some (0, 0, 0)

/-! ### Content of a layer (Table 6.1, steps 1 to 9) -/

/-- A pixel of a layer after step 9: red, green, blue and alpha of 10 bits. -/
structure Px where
  r : Nat
  g : Nat
  b : Nat
  a : Nat
  deriving DecidableEq, Repr

/-- The size of the picture a layer reads: the conformance window, or its reduced copy. -/
def PathS.size (h : PathS) (q : PicS) : Nat × Nat := (ceilDiv q.w (copyFactor h.copy), ceilDiv q.h (copyFactor h.copy))

/-- Luma and chroma (`k` 0 Cb, 1 Cr) of the picture read, mid-grey outside it (R249). -/
def PathS.lumaOf (h : PathS) (q : PicS) (x y : Nat) : Nat :=
  let z := h.size q
  if z.1 ≤ x || z.2 ≤ y then midGrey
  else if h.copy = 0 then lumaAt q.codedW q.words (q.confX + x) (q.confY + y) else lumaAt z.1 q.copy x y
def PathS.chromaOf (h : PathS) (q : PicS) (k x y : Nat) : Nat :=
  let z := h.size q
  if z.1 ≤ 2 * x || z.2 ≤ 2 * y then midGrey
  else if h.copy = 0 then chromaAt q.codedW q.codedH q.words k (q.confX / 2 + x) (q.confY / 2 + y) else chromaAt z.1 z.2 q.copy k x y

/-- Step 2 on a graphics pixel by the layer's alpha mode: opaque, premultiplied as it is, or straight. -/
def premultiplied (mode : Nat) (c : Nat × Nat × Nat × Nat) : Px :=
  match mode with
  | 0 => ⟨c.1, c.2.1, c.2.2.1, 1023⟩
  | 1 => ⟨c.1, c.2.1, c.2.2.1, c.2.2.2⟩
  | _ =>
    let f := fun (v : Nat) => (v * c.2.2.2 + 511) / 1023
    ⟨f c.1, f c.2.1, f c.2.2.1, c.2.2.2⟩

/-- A pixel of a graphics surface after step 2; mid-grey outside it (R249). -/
def State.surfacePx (s : State) (mode : Nat) (h : PathS) (q : PicS) (x y : Nat) : Px :=
  if q.w ≤ x || q.h ≤ y then ⟨midGrey, midGrey, midGrey, 1023⟩
  else
    let u := (s.gfxOf h.sess).bufs.at' q.surface {}
    let fmt := u.fmt.getD 0
    let n := bytesPerPixel fmt
    premultiplied mode (graphicsPixel fmt (cellsRead u.data ((y * q.w + x) * n) n))

/-- Whole numbers from `a` to `b`. -/
def span (a b : Nat) : List Nat := (List.range (b + 1 - a)).map (· + a)

/-- Step 4 on a component (R262). -/
def unmultiply (a c : Nat) : Nat := if a = 0 then 0 else min 1023 ((c * 1023 + a / 2) / a)

/-- The content of a layer at a screen pixel after step 9 (R236, R237, R249, R254 to R260): the samples of the footprint, scaled by the
filters (free, log 166), converted and encoded for the screen. -/
def State.contentAt (s : State) (p : Plan) (l : PlanL) (x y : Nat) : Option Px :=
  let h := l.path
  h.pic.map (fun q =>
    let dx := ((x : Int) - h.dx).toNat
    let dy := ((y : Int) - h.dy).toNat
    let fx := footprint h.cx h.cw h.dw dx 6 8
    let fy := footprint h.cy h.ch h.dh dy 2 4
    let scale := fun (chroma : Bool) (f : Nat → Nat → Nat) =>
      let a := if chroma then span (fx.1 / 2) (fx.2 / 2) else span fx.1 fx.2
      let b := if chroma then span (fy.1 / 2) (fy.2 / 2) else span fy.1 fy.2
      min 1023 (Config.scaled chroma (h.cw, h.dw) (h.ch, h.dh) dx dy (b.flatMap (fun j => a.map (fun i => f i j))))
    if q.graphics then
      let at' := s.surfacePx l.mode h q
      let a := scale false (fun i j => (at' i j).a)
      let part := fun (f : Px → Nat) => unmultiply a (scale false (fun i j => f (at' i j)))
      let c := h.tone.encode p.sig.1 p.white (part (·.r), part (·.g), part (·.b))
      ⟨c.1, c.2.1, c.2.2, a⟩
    else
      let c := h.tone.encode p.sig.1 p.white (rgbOfYcc h.matrix h.full (scale false (h.lumaOf q)) (scale true (h.chromaOf q 0))
        (scale true (h.chromaOf q 1)))
      ⟨c.1, c.2.1, c.2.2, 1023⟩)

/-! ### Blending (R262) -/

/-- Steps 10 and 12 of Table 6.1 on one component. -/
def blend (dst c a2 : Nat) : Nat := min 1023 ((c * a2 + 511) / 1023 + (dst * (1023 - a2) + 511) / 1023)

/-- The alpha of step 10. -/
def stepAlpha (a g : Nat) : Nat := (a * g + 511) / 1023

/-- One layer blended onto a pixel (steps 10 to 12). `px` is its content there, if it has any. A treated pixel is opaque (R52). A stitch plate
larger than its layer is clipped to the layer's rectangle, and is not a hidden stitch for that (DESIGN CHOICE, log 137). -/
def PlanL.onto (p : Plan) (cols : Nat) (l : PlanL) (px : Option Px) (x y : Nat) (dst : Nat × Nat × Nat) :
    Nat × Nat × Nat :=
  if !l.rect.has x y then dst
  else
    let content := match px with
      | some q => (q.r, q.g, q.b)
      | none => rgbOf p.blank
    match l.stitch.bind (fun st => stitchPixel st x y) with
    | some m => m
    | none =>
      if l.treats cols x y then l.treated p x y content
      else
        let a := match px with
          | some q => if l.mode = 0 then 1023 else q.a
          | none => if l.mode = 0 then 1023 else 0
        let a2 := stepAlpha a l.alpha
        (blend dst.1 content.1 a2, blend dst.2.1 content.2.1 a2, blend dst.2.2 content.2.2 a2)

/-- A composed pixel: the layers from the lowest z-order upwards over the background (R261). `px` tells a layer's content. A pressed run
is blended as direct composition would (R286, R288). -/
def Plan.pixel (p : Plan) (cols : Nat) (px : PlanL → Nat → Nat → Option Px) (x y : Nat) : Nat × Nat × Nat :=
  p.layers.foldl (fun dst l => l.onto p cols (px l x y) x y dst) (rgbOf p.back)

/-- A pixel's bytes in a frame-buffer format, by truncation (R297, Table 8.1). -/
def pixelBytes (fmt : Nat) (c : Nat × Nat × Nat) : List Byte :=
  match fmt with
  | 0 => leBytes 2 (c.1 / 32 * 2048 + c.2.1 / 16 * 32 + c.2.2 / 32)
  | 1 => leBytes 3 (c.1 / 4 * 65536 + c.2.1 / 4 * 256 + c.2.2 / 4)
  | _ => leBytes 4 (c.1 * 1048576 + c.2.1 * 1024 + c.2.2)

/-- The bytes of a strip in raster order. -/
def Plan.stripBytes (p : Plan) (fmt ha va k : Nat) (px : PlanL → Nat → Nat → Option Px) : List Byte :=
  (List.range (min 16 (va - 16 * k))).flatMap (fun j => (List.range ha).flatMap (fun x =>
    pixelBytes fmt (p.pixel (ceilDiv ha 16) px x (16 * k + j))))

/-! ### Ledger entries (Tables 1.9 and 1.10) -/

/-- Whether a layer has pixels on a strip. -/
def PlanL.onStrip (l : PlanL) (k : Nat) : Bool := l.x0 < l.x1 && l.y0 < 16 * (k + 1) && 16 * k < l.y1 && l.y0 < l.y1

/-- Whether a stitch plate has pixels on a strip. -/
def PlanL.stitchOn (l : PlanL) (k : Nat) : Bool :=
  match l.stitch with
  | some st => decide (st.2.1 < 16 * ((k : Int) + 1)) && decide (16 * (k : Int) < st.2.1 + 10)
  | none => false

/-- Whether tainted tiles of a layer lie on a strip. -/
def PlanL.taintOn (l : PlanL) (cols k : Nat) : Bool := l.tainted.any (fun t => t / cols = k)

/-- The segment of one layer. -/
def PlanL.segment (l : PlanL) (cols k : Nat) : Segm :=
  ⟨l.x0, l.x1 - 1, l.slot, l.state, l.stitchOn k, false, l.taintOn cols k,
   if l.stitchOn k then (l.stitch.map (·.2.2)).getD 0 else 0, l.cap, l.budget, [],
   if l.stitchOn k then l.stitch.map (fun p => (p.1, p.2.1)) else none⟩

/-- The older of two layers by capture time; an unknown time counts as oldest. -/
def olderOf (a b : PlanL) : PlanL :=
  match a.cap, b.cap with
  | none, _ => a
  | some _, none => b
  | some x, some y => if y < x then b else a

/-- The pressed plane's segment (R289). -/
def pressedSegment (cols k : Nat) (ls : List PlanL) : List Segm :=
  match ls with
  | [] => []
  | l :: rest =>
    let old := rest.foldl olderOf l
    [⟨rest.foldl (fun a m => min a m.x0) l.x0, rest.foldl (fun a m => max a (m.x1 - 1)) (l.x1 - 1), old.slot,
      rest.foldl (fun a m => worse a m.state) l.state, false, true, ls.any (fun m => m.taintOn cols k), 0, old.cap,
      rest.foldl (fun a m => min a m.budget) l.budget, ls.map (fun m => (m.slot, m.cap, m.budget)), none⟩]

/-- The ledger entry of a strip. -/
def Plan.entry (p : Plan) (cols k : Nat) : Ledger :=
  let on := p.layers.filter (fun l => l.onStrip k)
  let press := pressedSegment cols k (on.filter (·.pressed))
  ⟨p.frame, !press.isEmpty, k, (press ++ (on.filter (fun l => !l.pressed)).map (fun l => l.segment cols k)).take 16⟩

/-- A segment's 16 bytes (Table 1.10). -/
def Segm.bytes (g : Segm) : List Byte :=
  let cap := g.cap.getD 0
  leBytes 6 (g.xs % 4096 + 4096 * (g.xe % 4096) + 2 ^ 24 * g.slot + 2 ^ 32 * g.state + 2 ^ 36 * b2n g.stitch +
    2 ^ 37 * b2n g.pressed + 2 ^ 38 * b2n g.taint + 2 ^ 40 * (if g.stitch then g.stitchVal else 0)) ++
  leBytes 4 (cap % 1000000000) ++ leBytes 6 (cap / 1000000000 % 2 ^ 48)

/-- An entry's 272 bytes (Tables 1.9 and 1.10); the segments beyond its count read 0. -/
def Ledger.bytes (e : Ledger) : List Byte :=
  let b := leBytes 4 e.frame ++ leBytes 1 e.segs.length ++ leBytes 1 (b2n e.pressed) ++ leBytes 2 e.strip ++ leBytes 8 0 ++
    e.segs.flatMap Segm.bytes
  b ++ List.replicate (272 - b.length) 0

end Sys2Proof.Machine
end

