-- ==== Sys2Proof/Machine/ScanPath.lean ====
section
/-! DEFINITION. The scan-out pixel path (R298, R311 to R313, Table 8.3): what leaves the frame buffer, what the scan-out unit
draws over it, the widening to the link, and the marks the check unit reads there (R70). -/

namespace Sys2Proof.Machine

/-! ### Frame-buffer pixels -/

/-- Bits of red, green and blue in a frame-buffer format (Table 8.1). -/
def fmtBits (fmt : Nat) : Nat × Nat × Nat :=
  match fmt with
  | 0 => (5, 6, 5)
  | 1 => (8, 8, 8)
  | _ => (10, 10, 10)

/-- A 10-bit colour in a format, by truncation (R54, R297). -/
def toFmt (fmt : Nat) (c : Nat × Nat × Nat) : Nat × Nat × Nat :=
  let b := fmtBits fmt
  (c.1 / 2 ^ (10 - b.1), c.2.1 / 2 ^ (10 - b.2.1), c.2.2 / 2 ^ (10 - b.2.2))

/-- The components a pixel's bytes hold (Table 8.1, little-endian). -/
def pixelOf (fmt : Nat) (b : List Byte) : Nat × Nat × Nat :=
  let v := leNat b
  match fmt with
  | 0 => (bits v 15 11, bits v 10 5, bits v 4 0)
  | 1 => (bits v 23 16, bits v 15 8, bits v 7 0)
  | _ => (bits v 29 20, bits v 19 10, bits v 9 0)

/-- The ledger entry that describes a strip as this frame's scan read it: the one in place, or the one that the next frame's
composition replaced after the scan had passed (R65, R307). -/
def ScreenS.scanEntry (sc : ScreenS) (k : Nat) : Ledger :=
  match sc.snoop.look k with
  | some p => p.1
  | none => sc.ledger.at' k {}

/-- The bytes of a pixel as this frame's scan read them. -/
def State.scanBytes (s : State) (x col line : Nat) : List Byte :=
  let sc := s.screen x
  let n := bytesPerPixel (s.fn (scrIdx x) 0x03)
  let k := line / 16
  match sc.snoop.look k with
  | some p => (p.2.drop (((line - 16 * k) * s.ha x + col) * n)).take n
  | none => cellsRead sc.buffer ((line * s.ha x + col) * n) n

/-! ### Stages 1 to 5 of Table 8.3 -/

/-- The screen FENCED treatment of stage 5 where it is drawn (R60, R83, R111, R320): on every screen of a fenced package, on
the screens of a lost die or of a die without region C, and on a gang with a lost member whose lead still scans and sends. -/
def State.screenFence (s : State) (x : Nat) : Option Nat :=
  let lead : Bool := (s.outputsOf x).length = 4 && s.unavailable x && !s.gone (scanKey x) && !s.gone (txKey x)
  if s.packageFenced || s.dieLost (x / 12) || s.declaredDead (regionC (x / 12)) || lead then some (s.fn (scrIdx x) 0x34)
  else none

/-- Whether a line lies in the crease band (R73). -/
def State.inBand (s : State) (x line : Nat) : Bool := (s.screen x).band && (line < 32 || s.va x < line + 33)

/-- The scan-out crease in the frame-buffer format (R53, R311): no readout, card or glyph. -/
def State.scanCrease (s : State) (x col line : Nat) (c : Nat × Nat × Nat) : Nat × Nat × Nat :=
  if onStripe col line then toFmt (s.fn (scrIdx x) 0x03) (rgbOf (s.fn (scrIdx x) 0x30)) else halved c

/-- Stage 1: the frame buffer, or the service pattern in its place (R312). -/
def State.stage1 (s : State) (x col line : Nat) : Nat × Nat × Nat :=
  let fmt := s.fn (scrIdx x) 0x03
  if (s.screen x).service then
    toFmt fmt (if onStripe col line then rgbOf (s.fn (scrIdx x) 0x30) else (256, 256, 256))
  else pixelOf fmt (s.scanBytes x col line)

/-- Stage 5: the screen FENCED treatment over the whole screen: a crease, a card with the glyph of FENCED, or blank. -/
def State.stage5 (s : State) (x col line : Nat) (c : Nat × Nat × Nat) : Nat × Nat × Nat :=
  let fmt := s.fn (scrIdx x) 0x03
  let colour := fun (sub : Nat) => toFmt fmt (rgbOf (s.fn (scrIdx x) sub))
  match s.screenFence x with
  | none => c
  | some 1 => s.scanCrease x col line c
  | some 3 =>
    match glyphPlace ⟨0, s.ha x, 0, s.va x⟩ col line with
    | some g => if Config.glyphPixel 7 g.1 g.2 then colour 0x30 else colour 0x31
    | none => colour 0x31
  | some _ => colour 0x32

/-- A pixel after stages 1 to 5 of Table 8.3, in the frame-buffer format. -/
def State.scanPixel (s : State) (x col line : Nat) : Nat × Nat × Nat :=
  let sc := s.screen x
  let c := s.stage1 x col line
  let c := if sc.crease.any (fun r => r.1 = line / 16 && r.2.1 ≤ col && col ≤ r.2.2) then s.scanCrease x col line c else c
  let c := if s.inBand x line then s.scanCrease x col line c else c
  let c := if s.lvsStopped (x / 12) then s.scanCrease x col line c else c
  s.stage5 x col line c

/-- R298: RGB565 widened to 8 bits per component by bit replication; the other formats as they are. -/
def widen (fmt : Nat) (c : Nat × Nat × Nat) : Nat × Nat × Nat :=
  match fmt with
  | 0 => (c.1 * 8 + c.1 / 4, c.2.1 * 4 + c.2.1 / 16, c.2.2 * 8 + c.2.2 / 4)
  | _ => c

/-- A pixel at the transmitter input, in the link encoding (stage 6). -/
def State.linkPixel (s : State) (x col line : Nat) : Nat × Nat × Nat :=
  widen (s.fn (scrIdx x) 0x03) (s.scanPixel x col line)

/-- Whether a stage from 2 to 5, or the service pattern, altered a pixel of a stitch plate in this frame (R313). -/
def State.plateAltered (s : State) (x : Nat) (p : Int × Int) : Bool :=
  let sc := s.screen x
  let y0 := p.2.toNat
  let y1 := (p.2 + 9).toNat
  sc.service || s.lvsStopped (x / 12) || (s.screenFence x).isSome || s.inBand x y0 || s.inBand x y1 ||
  sc.crease.any (fun r => 16 * r.1 ≤ y1 && y0 < 16 * (r.1 + 1) && r.2.1 ≤ (p.1 + 65).toNat && p.1.toNat ≤ r.2.2)

/-! ### The marks of a stitch (R62, R70) -/

/-- What a mark reads: 1 if its 36 pixels are full-scale white, 0 if all are black, none otherwise. -/
def markOf (full : Nat) (px : List (Nat × Nat × Nat)) : Option Bool :=
  if px.all (fun c => c = (full, full, full)) then some true
  else if px.all (fun c => c = (0, 0, 0)) then some false
  else none

/-- The pixel snooped: the one scanned out, unless what arrived differs from it. -/
def State.snooped (s : State) (x : Nat) (wrong : List LinkPx) (col line : Nat) : Nat × Nat × Nat :=
  match wrong.find? (fun w => w.x = col && w.y = line) with
  | some w => (w.r, w.g, w.b)
  | none => s.linkPixel x col line

/-- The eight marks of a plate as the check unit reads them, the leftmost first. -/
def State.readMarks (s : State) (x : Nat) (p : Int × Int) (wrong : List LinkPx) : List (Option Bool) :=
  let full := if s.fn (scrIdx x) 0x03 = 2 then 1023 else 255
  (List.range 8).map (fun i =>
    markOf full ((List.range 6).flatMap (fun j => (List.range 6).map (fun d =>
      s.snooped x wrong (p.1.toNat + 2 + 8 * i + d) (p.2.toNat + 2 + j)))))

/-- The value of eight marks, none where one is neither (R70). -/
def marksValue (l : List (Option Bool)) : Option Nat :=
  l.foldl (fun a m => match a, m with
    | some v, some b => some (2 * v + b2n b)
    | _, _ => none) (some 0)

end Sys2Proof.Machine
end

