-- ==== Sys2Proof/Machine/Encode.lean ====
section
/-! DEFINITION. Encode contexts and mirror streams (chapter 9, R337 to R364). -/

namespace Sys2Proof.Machine

/-! ### Contexts -/

/-- Context states (R363). -/
def encOff : Nat := 0
def encWaiting : Nat := 1
def encRunning : Nat := 2
def encStopped : Nat := 3

/-- A context's dictionary index, row and whether it is WAITING or RUNNING. -/
def eIdx (e : Nat) : Nat := 0x3510 + e
def State.enc (s : State) (e : Nat) : EncS := s.encs.at' e {}
def State.setEnc (s : State) (e : Nat) (g : EncS) : State := { s with encs := s.encs.put e g }
def State.encOn (s : State) (e : Nat) : Bool := s.rn (eIdx e) 0x02 = encWaiting || s.rn (eIdx e) 0x02 = encRunning

/-- The screen a context takes its pixels from: its own, or that of its layer in force (R338). -/
def State.encScreen (s : State) (e : Nat) : Nat :=
  if s.rn (eIdx e) 0x04 = 0 then s.rn (eIdx e) 0x05 else s.fn (lIdx (s.rn (eIdx e) 0x05)) 0x02

/-- The reduction factor and the encoded size (R343). -/
def State.encFactor (s : State) (e : Nat) : Nat := 2 ^ s.rn (eIdx e) 0x0A
def State.encW (s : State) (e : Nat) : Nat := s.rn (eIdx e) 0x08 / s.encFactor e
def State.encH (s : State) (e : Nat) : Nat := s.rn (eIdx e) 0x09 / s.encFactor e

/-- A context's load in milli-cores (R338; the rate is in mHz). -/
def State.encLoad (s : State) (e : Nat) : Nat := ceilDiv (s.encW e * s.encH e * s.rn (eIdx e) 0x0B) 250000000

/-- The CPB's size in bits and fullness at start (R353, R354). -/
def State.cpb (s : State) (e : Nat) : Nat := s.rn (eIdx e) 0x0D * s.rn (eIdx e) 0x0F
def State.cpbStart (s : State) (e : Nat) : Nat := 9 * s.cpb e / 10

/-- R344: the configuration check. -/
def State.encConfigOk (s : State) (e : Nat) : Bool :=
  let i := eIdx e
  let f := s.encFactor e
  let w := s.encW e
  let h := s.encH e
  let x := s.rn i 0x05
  s.rn i 0x08 % f = 0 && s.rn i 0x09 % f = 0 && w % 8 = 0 && h % 8 = 0 &&
  64 ≤ w && w ≤ 4096 && 64 ≤ h && h ≤ 2304 &&
  (s.rn i 0x04 ≠ 0 || 24 ≤ x || (s.rn i 0x06 + s.rn i 0x08 ≤ s.ha x && s.rn i 0x07 + s.rn i 0x09 ≤ s.va x)) &&
  w * h ≤ 2228224 && w * h * s.rn i 0x0B ≤ 133693440000 &&
  s.cpb e ≤ 22000000 && (s.rn i 0x0C = 0 || s.rn i 0x0E ≤ s.rn i 0x0D) && s.rn i 0x14 ≠ 0

/-- Whether the source is available (Table 9.5): its screen under check 1 of Table 6.2; its slot enabled. -/
def State.encSource (s : State) (e : Nat) : Bool :=
  let x := s.encScreen e
  x < 24 && !s.compGone x && (s.rn (eIdx e) 0x04 = 0 || s.layerOn (s.rn (eIdx e) 0x05))

/-- Load bound on an encode core. -/
def State.coreLoad (s : State) (c : Nat) : Nat :=
  (((List.range 16).filter (fun e => s.rn (eIdx e) 0x1E = c)).map (fun e => s.rn (eIdx e) 0x1F)).foldl (· + ·) 0

/-- Whether an encode core is active. -/
def State.encActive (s : State) (c : Nat) : Bool := s.serves (encKey c) && !s.dieLost (c / 2)

/-- R338: the lowest-numbered active core of the die with room. -/
def State.encRoom (s : State) (e : Nat) : Option Nat :=
  (List.range 4).find? (fun c => c / 2 = s.encScreen e / 12 && s.encActive c && s.coreLoad c + s.encLoad e ≤ 1000)

/-- The package's encode objects after a change. -/
def State.refreshEncode (s : State) : State :=
  let act := ((List.range 4).map (fun c => if s.encActive c then 2 ^ c else 0)).foldl (· + ·) 0
  let s := (s.wn 0x3500 0x01 (s.coreLoad 0 + s.coreLoad 1)).wn 0x3500 0x02 (s.coreLoad 2 + s.coreLoad 3)
  (s.wn 0x3500 0x03 act).wn 0x3500 0x04 ((List.range 16).filter (fun e => s.rn (eIdx e) 0x02 = encRunning)).length

/-- Set a context's state and reason. -/
def State.enterEnc (s : State) (e st reason : Nat) : State := (s.wn (eIdx e) 0x02 st).wn (eIdx e) 0x03 reason

/-- Bind a context to a core with its load. -/
def State.encBind (s : State) (e c : Nat) : State := (s.wn (eIdx e) 0x1E c).wn (eIdx e) 0x1F (s.encLoad e)

/-- A stop with a reason: BYE, load released, what is queued dropped (log 18). -/
def State.encStopWith (s : State) (e reason : Nat) : State :=
  let s := (s.enterEnc e encStopped reason).say (.mirrorBye e (s.rn (eIdx e) 0x20))
  let s := s.setEnc e { s.enc e with coding := none, queue := [], lay := none }
  ((s.wn (eIdx e) 0x1E 0xFF).wn (eIdx e) 0x1F 0).refreshEncode

/-- Whether a destination needs no resolving: a multicast group (R361). -/
def State.encGroup (s : State) (e : Nat) : Bool := isGroup (s.rn (eIdx e) 0x16 = 1) (s.rb (eIdx e) 0x17)

/-- Context command 1 (R362, Table 9.5): configuration, source and budget, in that order. -/
def encStart (e ssrc seq : Nat) (s : State) (_ : Val) : State × Nat :=
  if s.encOn e then (s, 7)
  else if !s.encConfigOk e then (s.enterEnc e encStopped 3, 0)
  else if !s.encSource e then (s.enterEnc e encStopped 4, 0)
  else match s.encRoom e with
    | none => (s.enterEnc e encStopped 2, 0)
    | some c =>
      let s := (s.encBind e c).setEnc e { seq := seq % 65536, full := s.cpbStart e, srAt := s.clock }
      (((s.wn (eIdx e) 0x20 (ssrc % 2 ^ 32)).enterEnc e encWaiting 0).refreshEncode, 0)

/-- Context command 2 (R362). -/
def encStop (e : Nat) (s : State) (_ : Val) : State × Nat := if s.encOn e then (s.encStopWith e 1, 0) else (s, 7)

/-- ENCODE_START (R362); the SSRC and first sequence number are chosen at random (R358). -/
def execEncodeStart (t : Nat) (r : Req) (e ssrc seq : Nat) (s : State) : Host.Outcome State Fault Refusal :=
  .next ((s.tick t).request r (eIdx e) 0x01 [1] (encStart e ssrc seq))

/-- ENCODE_STOP (R362). -/
def execEncodeStop (t : Nat) (r : Req) (e : Nat) (s : State) : Host.Outcome State Fault Refusal :=
  .next ((s.tick t).request r (eIdx e) 0x01 [2] (encStop e))

/-- Objects that can be written only while a context is OFF or STOPPED (R362); a range minimum above its maximum, and an
odd port without rtcp-mux, are refused (Table 9.7). -/
def encWrite (e sub : Nat) (s : State) (v : Val) : State × Nat :=
  let n := v.int.toNat
  if s.encOn e then (s, 7)
  else if sub = 0x10 && (51 < n % 256 || 51 < n / 256 || n / 256 < n % 256) then (s, 6)
  else if sub = 0x18 && n % 2 = 1 && !bit (s.rn (eIdx e) 0x1C) 0 then (s, 6)
  else if sub = 0x1C && !bit n 0 && s.rn (eIdx e) 0x18 % 2 = 1 then (s, 6)
  else (s.wv (eIdx e) sub v, 0)

/-- Auto-start at boot (R362); the random values are free. -/
def State.encAutoStart (s : State) : State :=
  (List.range 16).foldl (fun s e =>
    if s.rn (eIdx e) 0x1D = 1 then
      let a := s.fresh
      let b := a.2.fresh
      (encStart e a.1 b.1 b.2 (.num 1)).1
    else s) s

/-- A change at a screen or its layers (R344, Table 9.5): a context whose source is gone stops with reason 4; one that
`touched` says must be checked stops with reason 3 where R344 fails. -/
def State.encRecheck (s : State) (touched : Nat → Bool) : State :=
  (List.range 16).foldl (fun s e =>
    if !s.encOn e then s
    else if !s.encSource e then s.encStopWith e 4
    else if touched e && !s.encConfigOk e then s.encStopWith e 3
    else s) s

/-- R339: the contexts of a core that has become DEAD are rebound in ascending number. -/
def State.encRebind (s : State) (c : Nat) : State :=
  ((List.range 16).filter (fun e => s.rn (eIdx e) 0x1E = c)).foldl (fun s e =>
    let s := (s.wn (eIdx e) 0x1E 0xFF).wn (eIdx e) 0x1F 0
    match s.encRoom e with
    | none => s.encStopWith e 5
    | some d =>
      let s := (s.encBind e d).setEnc e { s.enc e with idr := true, zero := (s.enc e).zero, coding := none }
      s.enterEnc e encWaiting 0) s |>.refreshEncode

/-! ### Frames (R346) -/

/-- Whether a screen strip meets a context's window. -/
def State.encStripIn (s : State) (e k : Nat) : Bool :=
  s.rn (eIdx e) 0x07 < 16 * (k + 1) && 16 * k < s.rn (eIdx e) 0x07 + s.rn (eIdx e) 0x09

/-- Whether stage 4 or 5 of Table 8.3 acts on a screen. -/
def State.stage45 (s : State) (x : Nat) : Bool :=
  s.lvsStopped (x / 12) || (s.screenFence x).isSome

/-- The oldest of two capture times. -/
def oldest : Option Nat → Option Nat → Option Nat
  | none, b => b
  | a, none => a
  | some a, some b => some (min a b)

/-- The oldest capture time of an entry's segments that meet the window. -/
def State.entryCap (s : State) (e : Nat) (l : Ledger) : Option Nat :=
  let x0 := s.rn (eIdx e) 0x06
  let x1 := x0 + s.rn (eIdx e) 0x08
  (l.segs.filter (fun g => g.xs < x1 && x0 ≤ g.xe)).foldl (fun a g => oldest a g.cap) none

/-! ### Pixels (R341 to R345, R351) -/

/-- A pixel of 10-bit components as one number, and back. -/
def rgbWord (c : Nat × Nat × Nat) : Nat := c.1 + 1024 * c.2.1 + 1048576 * c.2.2
def wordRgb (v : Nat) : Nat × Nat × Nat := (bits v 9 0, bits v 19 10, bits v 29 20)

/-- Frame-buffer components widened to 10 bits (R345). -/
def widen10 (fmt : Nat) (c : Nat × Nat × Nat) : Nat × Nat × Nat :=
  match fmt with
  | 0 => (widen5 c.1, widen6 c.2.1, widen5 c.2.2)
  | 1 => (widen8 c.1, widen8 c.2.1, widen8 c.2.2)
  | _ => c

/-- The lines of a screen context's window on a strip, as they leave stage 5 (R341, R342), by line of the window. -/
def State.encLines (s : State) (e k : Nat) : List (Nat × List Nat) :=
  let x := s.encScreen e
  let i := eIdx e
  let y0 := s.rn i 0x07
  ((List.range 16).filter (fun j => y0 ≤ 16 * k + j && 16 * k + j < y0 + s.rn i 0x09)).map (fun j =>
    (16 * k + j - y0, (List.range (s.rn i 0x08)).map (fun c =>
      rgbWord (widen10 (s.fn (scrIdx x) 0x03) (s.scanPixel x (s.rn i 0x06 + c) (16 * k + j))))))

/-- Add lines to those taken; a line taken stays. -/
def addLines (t : Tab (List Nat)) (l : List (Nat × List Nat)) : Tab (List Nat) :=
  l.foldl (fun t p => match t.look p.1 with | some _ => t | none => t.put p.1 p.2) t

/-- A layer source (R341, R342): a strip composed for a frame leaves its lines, at the end of step 11 over black, by line of the layer. -/
def State.encLayerStrip (s : State) (x k : Nat) (p : Plan) (px : PlanL → Nat → Nat → Option Px) : State :=
  ((List.range 16).filter (fun e => s.encOn e && s.encScreen e = x && s.rn (eIdx e) 0x04 ≠ 0)).foldl (fun s e =>
    match p.layers.find? (fun l => l.slot = s.rn (eIdx e) 0x05) with
    | none => s
    | some l =>
      let js := (List.range 16).filter (fun j => l.y0 ≤ 16 * k + j && 16 * k + j < min l.y1 (l.y0 + s.rn (eIdx e) 0x09))
      let row := fun (y : Nat) => (List.range (s.rn (eIdx e) 0x08)).map (fun c =>
        if l.x0 + c < l.x1 then rgbWord (l.onto p (ceilDiv (s.ha x) 16) (px l (l.x0 + c) y) (l.x0 + c) y (0, 0, 0)) else 0)
      s.setEnc e { s.enc e with
        lines := js.foldl (fun t j => t.put (p.frame * 4096 + (16 * k + j - l.y0)) (row (16 * k + j))) (s.enc e).lines }) s

/-- A pixel of the encoded size (R343): the average of its block by component. -/
def reducedPx (f : Nat) (at' : Nat → Nat → Nat) (x y : Nat) : Nat × Nat × Nat :=
  let l := (List.range f).flatMap (fun j => (List.range f).map (fun i => wordRgb (at' (f * x + i) (f * y + j))))
  let mean := fun (g : Nat × Nat × Nat → Nat) => ((l.map g).foldl (· + ·) 0 + f * f / 2) / (f * f)
  (mean (·.1), mean (·.2.1), mean (·.2.2))

/-- The picture a context codes from the pixels taken (R343, R345), in P10 packing: limited-range Y′CbCr by the output primaries, its
chroma reduced by 2 × 2. Lines not taken are black. -/
def State.encInput (s : State) (e : Nat) (pix : Tab (List Nat)) : List Nat :=
  let w := s.encW e
  let h := s.encH e
  let m := if (s.screen (s.encScreen e)).sig.2 = 0 then 0 else 2
  let ycc := fun (x y : Nat) =>
    yccOfRgb m (reducedPx (s.encFactor e) (fun i j => (((pix.at' j [])[i]?).getD 0)) x y)
  packPicture w h (fun x y => (ycc x y).1) (blockMean 2 w h (fun x y => (ycc x y).2.1)) (blockMean 2 w h (fun x y => (ycc x y).2.2))

/-- The VUI of a context's parameter sets (R345): colour_primaries, transfer_characteristics, matrix_coeffs, chroma_sample_loc_type. -/
def State.encVui (s : State) (e : Nat) : List Nat :=
  let g := (s.screen (s.encScreen e)).sig
  let p := if g.2 = 0 then 1 else 9
  [p, if g.1 = 0 then 1 else 16, p, 1]

/-- The coded picture of a context as a decoder sees its size. -/
def encSet (w h : Nat) : ParamSet :=
  { id := 0, h264 := false, profile := 2, interlaced := false, chroma420 := true, bitDepth := 10, extension := false, codedW := w, codedH := h, confX := 0, confY := 0, width := w, height := h, ctu := 32, reorder := 0, latency := 0, buffering := 2, fullRange := false, matrix := 1, transfer := 1, primaries := 1 }

/-- The CTU of a tile. -/
def tileCtu (w t : Nat) : Nat := t / ceilDiv w 16 / 2 * ceilDiv w 32 + t % ceilDiv w 16 / 2

/-- R350 to R352: the prediction a block takes. In the current column, in a CTU of the dirty map, or in an IDR picture it is intra. In
the refreshed area an inter block reads only the reference's refreshed area, outside the dirty map. `now` and `ref` are the first
luma columns beyond the refreshed areas of the picture and of its reference, `w` the column's width in luma columns. -/
def encPred (p : ParamSet) (idr : Bool) (now ref w : Nat) (dirty : List Nat) (b : Block) : Block :=
  let ctu := b.area.y0 / 32 * ceilDiv p.codedW 32 + b.area.x0 / 32
  let intra : Block := { b with pred := .intra [] }
  match b.pred with
  | .intra _ => b
  | .inter vecs =>
    if idr || (now ≤ b.area.x0 && b.area.x0 < now + w) || dirty.any (fun t => tileCtu p.codedW t = ctu) then intra
    else if now ≤ b.area.x0 then b
    else if (vecs.flatMap (fun v => readAreas p b.area v.2)).all (fun a =>
        a.x1 ≤ ref && (areaTiles p.codedW a).all (fun t => !dirty.contains t)) then b
    else intra

/-- Whether a strip of the window is among those written for the frame being scanned. -/
def State.encWritten (s : State) (e : Nat) : Bool :=
  (s.screen (s.encScreen e)).scanWritten.any (s.encStripIn e)

/-- Close the label data of the picture being coded: the strips still to count, and what Table 9.1 asks of the frame. -/
def State.encSnap (s : State) (e : Nat) : State :=
  let g := s.enc e
  let x := s.encScreen e
  match g.coding with
  | none => s
  | some c =>
    if c.fresh.isSome || s.rn (eIdx e) 0x04 ≠ 0 then s
    else
      let rest := (s.screen x).ledger.filter (fun p => s.encStripIn e p.1 && !c.strips.contains p.1)
      let cap := rest.foldl (fun a p => oldest a (s.entryCap e p.2)) c.cap
      let strips := (List.range (s.strips x)).filter (fun k => s.encStripIn e k && !c.strips.contains k)
      let c := { c with pix := addLines c.pix (strips.flatMap (s.encLines e)) }
      let c' := { c with cap := cap, fault := c.fault || s.stage45 x, fresh := some (g.fresh || s.encWritten e) }
      s.setEnc e { g with coding := some c', fresh := false }

/-- Contexts that take their pixels from a screen. -/
def State.encsOf (s : State) (x : Nat) : List Nat := (List.range 16).filter (fun e => s.encOn e && s.encScreen e = x)

/-- The end of a screen's frame, before its number advances. -/
def State.encFrameEnd (s : State) (x : Nat) : State :=
  (s.encsOf x).foldl (fun s e =>
    let s := s.encSnap e
    let g := s.enc e
    if g.last.map (·.1) = some (s.rn (scrIdx x) 0x16) then s
    else s.setEnc e { g with fresh := g.fresh || s.encWritten e }) s

/-- A strip's entry about to be replaced for the next frame: the one scanned counts for the picture being coded. -/
def State.encStrip (s : State) (x k frame : Nat) : State :=
  if s.rn (scrIdx x) 0x16 = frame then s
  else (s.encsOf x).foldl (fun s e =>
    let g := s.enc e
    match g.coding with
    | some c =>
      if c.frame = s.rn (scrIdx x) 0x16 && c.fresh.isNone && s.encStripIn e k && !c.strips.contains k then
        let cap := oldest c.cap (s.entryCap e ((s.screen x).ledger.at' k {}))
        s.setEnc e { g with coding := some { c with
          cap := cap, strips := k :: c.strips, pix := addLines c.pix (s.encLines e k) } }
      else s
    | none => s) s

/-- A latch fixes a layer for a frame: what a context of that layer will put in its label. Lines of frames gone by are dropped. -/
def State.encLatch (s : State) (x : Nat) (p : Plan) : State :=
  (s.encsOf x).foldl (fun s e =>
    if s.rn (eIdx e) 0x04 = 0 then s
    else match p.layers.find? (fun l => l.slot = s.rn (eIdx e) 0x05) with
      | none => s
      | some l => s.setEnc e { s.enc e with
          lines := (s.enc e).lines.filter (fun q => q.1 / 4096 = s.rn (scrIdx x) 0x16 || (s.enc e).coding.map (·.frame) = some (q.1 / 4096))
          lay := some (p.frame, decide (l.state ≠ 1), l.cap, s.rn (lIdx l.slot) 0x31) }) s

/-- R346: whether a frame that starts now is eligible: at or after the previous encoded start + 1/F − Tmin/2. -/
def State.encEligible (s : State) (e start : Nat) : Bool :=
  match (s.enc e).last with
  | none => true
  | some (_, p) =>
    let f := s.rn (eIdx e) 0x0B
    2 * 1000000000000 ≤ (2 * ((start : Int) - p) + s.linesNs (s.encScreen e) (s.vmin (s.encScreen e))) * f

/-- R346: a frame of a screen starts, its number already advanced. An eligible frame is coded, or missed. -/
def State.encFrame (s : State) (x : Nat) : State :=
  let n := s.rn (scrIdx x) 0x16
  let start := (s.screen x).start
  (s.encsOf x).foldl (fun s e =>
    let g := s.enc e
    let isLayer := s.rn (eIdx e) 0x04 ≠ 0
    let lay := match g.lay with
      | some (f, a, b, c) => if f = n then some (a, b, c) else none
      | none => none
    if !s.encEligible e start || (isLayer && lay.isNone) then s
    else if g.coding.isSome || s.restarting (x / 12) .med || !s.encActive (s.rn (eIdx e) 0x1E) then
      (s.bump (encKey (s.rn (eIdx e) 0x1E)) (eIdx e) 0x25).bump (encKey (s.rn (eIdx e) 0x1E)) 0x3500 0x07
    else
      let c : CodeS := { frame := n, start := start, layer := lay, fault := s.stage45 x, test := (s.screen x).service }
      let s := s.setEnc e { g with coding := some c, last := some (n, start) }
      if s.rn (eIdx e) 0x02 = encWaiting then (s.enterEnc e encRunning 0).refreshEncode else s) s

/-! ### Rate control (R349, R354, R356, R357) -/

/-- R356, CTU by CTU: `u` the bits written and `cut` the first CTU coded as skip. A slice header is written before the
first CTU of its slice (log 19). -/
def encWalk (f n cols rows slices : Nat) : Nat → List (Nat × Nat) → List Nat → Nat → Option Nat → Nat × Option Nat
  | _, [], _, u, cut => (u, cut)
  | g, c :: cs, hs, u, cut =>
    let first : Bool := g % cols = 0 && g / cols % rows = 0
    let u := if first then u + min 256 (hs.head?.getD 0) else u
    let need := u + 16384 + 12 * cs.length + 256 * (slices - (g / cols / rows + 1)) + n
    let cut := match cut with
      | some k => some k
      | none => if f < need then some g else none
    let b := if cut.isSome then min 12 c.2 else min 16384 c.1
    encWalk f n cols rows slices (g + 1) cs (if first then hs.tail else hs) (u + b) cut

/-- The rows-not-refreshed map (R357, Table 3.6) of a picture of `h` lines: the tile rows of the CTU rows listed. -/
def rowsMap (h : Nat) (row : Nat → Bool) : List Byte :=
  (List.range (ceilDiv (ceilDiv h 16) 8)).map (fun j =>
    BitVec.ofNat 8 (((List.range 8).map (fun b =>
      let r := 8 * j + b
      if row (r / 2) && r < ceilDiv h 16 then 2 ^ (7 - b) else 0)).foldl (· + ·) 0))

/-- A care label's payload (Table 3.6). -/
def labelBytes (flags ident alive cap crc : Nat) (map : List Byte) : List Byte :=
  beBytes 16 0x5A4CD17E0B934C2A9E613F08C5A27D14 ++ [1] ++ beBytes 1 flags ++ beBytes 8 ident ++ beBytes 4 alive ++
  beBytes 6 (cap / 1000000000) ++ beBytes 4 (cap % 1000000000) ++ beBytes 4 crc ++ beBytes 1 map.length ++ map

/-- R354: filler in whole bytes, at least a NAL unit header and trailing bits. -/
def fillerBits (excess : Nat) : Nat := if excess = 0 then 0 else max 24 (ceilDiv excess 8 * 8)

/-- The alive counter of a coded picture (Table 9.1). -/
def State.encAlive (s : State) (e : Nat) (c : CodeS) : Nat :=
  let g := s.enc e
  if g.idr && g.zero then 0
  else
    let moved := match c.layer with
      | some (_, _, a) => decide (a ≠ g.aliveIn)
      | none => c.fresh.getD false
    (s.rn (eIdx e) 0x21 + b2n moved) % 2 ^ 32

/-- A budget cut counts and raises at most one event per context per second (R356). -/
def State.encCut (s : State) (e first skipped : Nat) : State :=
  let k := encKey (s.rn (eIdx e) 0x1E)
  let s := ((s.bump k (eIdx e) 0x26).bump k 0x3500 0x06).bump k (eIdx e) 0x27 skipped
  match (s.enc e).cutAt with
  | some a => if s.clock < a + sTicks then s
      else (s.setEnc e { s.enc e with cutAt := some s.clock }).raise k 0x0801 1 [(8, e), (16, first)]
  | none => (s.setEnc e { s.enc e with cutAt := some s.clock }).raise k 0x0801 1 [(8, e), (16, first)]

/-- ENCODE_PICTURE_COMPLETE (R345 to R357): the picture is coded from the pixels taken, each block predicted as R350 to R352 allow, and
the access unit is assembled with its label and queued. A choice of the encoder that the rules do not allow is taken as intra
(DESIGN CHOICE, log 167). The parameter sets go with the IDR picture and the first of each sweep (Table 9.2). -/
def State.encDone (s : State) (e : Nat) (i : EncInfo) : State :=
  let s := s.encSnap e
  let g := s.enc e
  match g.coding with
  | none => s
  | some c =>
    let ix := eIdx e
    let w := s.encW e
    let h := s.encH e
    let cols := max 1 (ceilDiv w 32)
    let rows := max 1 (s.rn ix 0x12)
    let r := encWalk g.full i.nonVclBits cols rows (ceilDiv (ceilDiv h 32) rows) 0 i.ctus i.headers 0 none
    let map := match r.2, g.bad with
      | none, [] => []
      | _, _ => rowsMap h (fun y => g.bad.contains y || (match r.2 with | some k => decide (k / cols ≤ y) | none => false))
    let skipped := match r.2 with
      | some k => i.ctus.length - k
      | none => 0
    let b := r.1 + (if map.isEmpty then i.nonVclBits - 8 * ceilDiv (ceilDiv h 16) 8 else i.nonVclBits)
    let next := g.full - b + s.rn ix 0x0D * i.nextDeltaNs / 1000000
    let fill := if s.rn ix 0x0C = 0 then fillerBits (next - s.cpb e) else 0
    let alive := s.encAlive e c
    let capIn := match c.layer with
      | some (_, t, _) => t
      | none => c.cap
    let fault := match c.layer with
      | some (f, _, _) => f
      | none => c.fault
    let flags := 2 * b2n fault + 4 * b2n (c.layer.isNone && c.test) + 8 * s.rn ix 0x13 + 16 * b2n (!map.isEmpty)
    let label := labelBytes flags (s.rn ix 0x14) alive (capIn.getD c.start) (if s.rn ix 0x13 = 1 then lumaCrc w 0 0 w h i.recon else 0) map
    let rowOf := fun (t : Nat) => tileCtu w t / cols
    let all := List.range (tilesOf w h)
    let kept := match r.2 with
      | some k => g.dirty.filter (fun d => k ≤ tileCtu w d) ++ all.filter (fun d => k / cols ≤ rowOf d)
      | none => []
    let kept := kept ++ all.filter (fun d => g.bad.contains (rowOf d))
    let sweep := s.rn ix 0x11
    let col := if g.idr then 0 else if cols ≤ g.col + sweep then 0 else g.col + sweep
    let coded := i.blocks.filter (fun b => match r.2 with
      | some k => decide (b.area.y0 / 32 * cols + b.area.x0 / 32 < k)
      | none => true)
    let preds := coded.map (encPred (encSet w h) g.idr (32 * g.col) (32 * (g.col - sweep)) (32 * sweep) g.dirty)
    let pix := match c.layer with
      | some _ => (g.lines.filter (fun q => q.1 / 4096 = c.frame)).map (fun q => (q.1 % 4096, q.2))
      | none => c.pix
    let s := s.setEnc e { g with
      idr := false, zero := false, coding := none, full := min (s.cpb e) (next - fill), bad := [], col := col, dirty := kept.eraseDups,
      aliveIn := match c.layer with | some (_, _, a) => a | none => 0,
      preds := preds, input := s.encInput e pix, lines := g.lines.filter (fun q => q.1 / 4096 ≠ c.frame)
      queue := g.queue ++ [⟨c.start * 90000 / 1000000000 % 2 ^ 32, label, if g.idr || g.col = 0 then s.encVui e else [], true,
        max 1 i.packets⟩] }
    let k := encKey (s.rn ix 0x1E)
    let s := ((s.wn ix 0x21 alive).wn ix 0x22 (if g.idr then 0 else g.col)).wn ix 0x23 g.full
    let s := ((s.bump k ix 0x24).bump k 0x3500 0x05).bump k ix 0x28 fill
    match r.2 with
    | some j => s.encCut e j skipped
    | none => s

def execEncodePictureComplete (t e : Nat) (inf : EncInfo) (s : State) : Host.Outcome State Fault Refusal :=
  .next ((s.tick t).encDone e inf)

/-! ### Sending (R358 to R361) -/

/-- Whether an IPv6 address is link-local (fe80::/10), inside every port's own link. -/
def linkLocalDst (d : List Byte) : Bool := beNat (d.take 2) / 64 = 0xFE80 / 64

/-- Whether a port has an address of a context's family (R121, R361). -/
def State.encAddress (s : State) (e : Nat) : Bool :=
  let p := 0x2910 + s.rn (eIdx e) 0x15
  if s.rn (eIdx e) 0x16 = 1 then linkLocalDst (s.rb (eIdx e) 0x17) || !(s.rb p 0x06).all (· = 0) else s.rn p 0x03 ≠ 0

/-- The next hop of a context (R361): the destination inside the port's prefix, the gateway otherwise. A port has no IPv6
gateway (R121: router advertisements are ignored), so an IPv6 destination elsewhere has no next hop. -/
def State.encHop (s : State) (e : Nat) : Option (List Byte) :=
  let p := 0x2910 + s.rn (eIdx e) 0x15
  let d := s.rb (eIdx e) 0x17
  if s.rn (eIdx e) 0x16 = 1 then
    let m := 2 ^ (128 - s.rn p 0x07)
    if linkLocalDst d || beNat d / m = beNat (s.rb p 0x06) / m then some d else none
  else
    let m := 2 ^ (32 - s.rn p 0x04)
    if beNat (d.take 4) / m = s.rn p 0x03 / m then some (d.take 4)
    else if s.rn p 0x05 = 0 then none else some (beBytes 4 (s.rn p 0x05))

/-- Whether packets of a context can leave (R361). -/
def State.encCanSend (s : State) (e : Nat) : Bool :=
  s.rn (0x2910 + s.rn (eIdx e) 0x15) 0x0A = 1 && s.encAddress e && (s.encGroup e || (s.enc e).hop)

/-- MIRROR_PACKET_SEND (R358, R360, R361): the next packet leaves, or is discarded and counted. -/
def State.mirrorSend (s : State) (e : Nat) : State :=
  let g := s.enc e
  match g.queue with
  | [] => s
  | a :: q =>
    let last : Bool := a.left ≤ 1
    let k := ethKey (s.rn (eIdx e) 0x15)
    let s' := s.setEnc e { g with
      seq := wrapInc 16 g.seq, queue := if last then q else { a with first := false, left := a.left - 1 } :: q }
    if s.encCanSend e then
      (s'.say (.mirror e g.seq a.ts last (if a.first then a.label else []) (if a.first then a.vui else []))).bump k (eIdx e) 0x29
    else s'.bump k (eIdx e) 0x2A

def execMirrorPacketSend (t e : Nat) (s : State) : Host.Outcome State Fault Refusal :=
  .next ((s.tick t).mirrorSend e)

/-- MIRROR_SR_SEND (R359): every second, with the NTP time of the configured scale. -/
def State.mirrorSr (s : State) (e : Nat) : State :=
  let g := s.enc e
  let i := eIdx e
  if !s.encOn e || s.clock < g.srAt + sTicks then s
  else
    let utc : Int := if bit (s.rn i 0x1C) 1 then 0 else s.rd 0x2800 0x0A
    let sec := (((s.nowSec.1 : Int) - utc + 2208988800) % (2 ^ 32 : Nat)).toNat
    let s := s.setEnc e { g with srAt := s.clock }
    if s.encCanSend e then
      s.say (.mirrorSr e (s.rn i 0x20) sec (s.nowSec.2 * 2 ^ 32 / 1000000000) (s.nowNs * 90000 / 1000000000 % 2 ^ 32) (s.rn i 0x29))
    else s

def execMirrorSrSend (t e : Nat) (s : State) : Host.Outcome State Fault Refusal :=
  .next ((s.tick t).mirrorSr e)

/-- NEXT_HOP_RESOLVE (R361): a unicast next hop still unresolved is asked for. -/
def State.hopResolve (s : State) (e : Nat) : State :=
  let p := s.rn (eIdx e) 0x15
  if s.encOn e && !s.encGroup e && !(s.enc e).hop && s.rn (0x2910 + p) 0x0A = 1 && s.encAddress e then
    match s.encHop e with
    | some a => s.say (.resolve p (s.rn (eIdx e) 0x16 = 1) a)
    | none => s
  else s

def execNextHopResolve (t e : Nat) (s : State) : Host.Outcome State Fault Refusal :=
  .next ((s.tick t).hopResolve e)

/-- ARP_OR_NEIGHBOUR_REPLY (R361): the next hops of that address on that port are resolved. -/
def State.hopReply (s : State) (p : Nat) (addr : List Byte) : State :=
  (List.range 16).foldl (fun s e =>
    if s.encOn e && s.rn (eIdx e) 0x15 = p && s.encHop e = some addr then s.setEnc e { s.enc e with hop := true } else s) s

def execArpOrNeighbourReply (t p : Nat) (addr : List Byte) (s : State) : Host.Outcome State Fault Refusal :=
  .next ((s.tick t).hopReply p addr)

end Sys2Proof.Machine
end

