-- ==== Sys2Proof/Machine/Live.lean ====
section
/-! DEFINITION. The layer latch (R272 to R276, R284 to R291), LVS's scan-out recheck, read-back and faults (R65 to R74). -/

namespace Sys2Proof.Machine

/-! ### Pressing (R285 to R290) -/

/-- Insert a layer of a plan by z-order. -/
def insertZ (a : PlanL) : List PlanL → List PlanL
  | [] => [a]
  | b :: bs => if a.z ≤ b.z then a :: b :: bs else b :: insertZ a bs

/-- R285: the pressed run among layers in z-order: consecutive z-orders from the lowest, each below the ceiling, of a ZTT
session, without a stitch. -/
def State.pressRun (s : State) (ceiling : Nat) : Option Nat → List PlanL → List Nat
  | _, [] => []
  | want, l :: ls =>
    let m := s.fn (lIdx l.slot) 0x03
    if (match want with | some z => l.z = z | none => true) && l.z < ceiling && m ≠ 0xFF &&
        (s.kind m = 2 || s.kind m = 3) && !bit (s.fn (lIdx l.slot) 0x2B) 7 then
      l.slot :: s.pressRun ceiling (some (l.z + 1)) ls
    else []

/-- R287: all that a pressed plane of a run holds: the members' committed objects, versions, drawn treatments with their
readouts and tainted tiles, the tone maps applied to them, and the screen's colours. -/
def State.pressContent (s : State) (x : Nat) (run : List PlanL) : List (Nat × Val) :=
  run.flatMap (fun l =>
    let m := s.fn (lIdx l.slot) 0x12
    (slotKeys l.slot).map (fun k => (k, s.fkey k)) ++
    [(l.slot, .num ((((s.layer l.slot).sel.map (fun p => p.num + 1)).getD 0 : Nat) : Int)), (l.slot + 256, .num l.treat),
     (l.slot + 512, .num (((if l.treat = 2 then (l.age.map (· + 1)).getD 0 else 0) : Nat) : Int)), (l.slot + 768, .num l.state)] ++
    (if l.treat = 1 && l.state = 4 then l.tainted.map (fun t => (l.slot + 1024, Val.num t)) else []) ++
    (if m = 0xFF then [] else ((List.range 14).map (· + 1)).map (fun k => (key (0x4210 + m) k, s.fval (0x4210 + m) k)))) ++
  [0x20, 0x21, 0x22, 0x23, 0x30, 0x31, 0x32].map (fun k => (key (scrIdx x) k, s.fval (scrIdx x) k))

/-- The oldest capture time of a run's members, none where one is unknown (R289). -/
def oldestCap (run : List PlanL) : Option Nat :=
  run.foldl (fun a l => match a, l.cap with
    | some a, some b => some (min a b)
    | _, _ => none) (run.head?.bind (·.cap))

/-- What a latch sends of a screen's pressed plane by its relays (R574): the plane itself at each new plane (`new`), then the
heartbeat. -/
def State.relayRun (s : State) (x : Nat) (run : List PlanL) (new : Bool) : State :=
  if run.isEmpty then s
  else
    let s := if new then s.relayPlane x (s.ha x) (s.va x) (oldestCap run) else s
    s.relayBeat x (oldestCap run) (run.all (fun l => l.state = 1))

/-- R288, at a latch: a complete new plane becomes current; a needed re-press starts if none is under way; the run is
composed directly where the current plane differs from it. -/
def State.latchPress (s : State) (x : Nat) (run : List PlanL) : State :=
  let i := 0x4310 + x
  let s := s.wn i 0x02 ((run.map (fun l => 2 ^ l.z)).foldl (· + ·) 0)
  if run.isEmpty then s.wn i 0x03 0
  else
    let want := s.pressContent x run
    let sc := s.screen x
    let sc := if sc.pressing.isSome && sc.planeDone then
        { sc with planeCur := if sc.planeCur = 1 then 2 else 1, planeKey := sc.pressKey, pressing := none, planeDone := false, pressMs := [] }
      else sc
    let s := s.setScreen x sc
    if sc.planeCur ≠ 0 && sc.planeKey = want then s.wn i 0x03 sc.planeCur
    else
      let s := if sc.pressing.isSome || s.gone (pressKey (x / 12)) then s
        else s.setScreen x { sc with
          pressing := some s.clock, pressKey := want, planeDone := false, pressMs := run.filterMap (·.buf) }
      (s.wn i 0x03 3).bump (procKey (x / 12) .cmp) i 0x05

/-- Whether the press engine of a die has an earlier request than one of this screen's of tick `a` (R290): it serves them in the order
of the latches that made them. -/
def State.pressBefore (s : State) (x a : Nat) : Bool :=
  s.screens.any (fun p => p.1 / 12 = x / 12 && p.1 ≠ x && !p.2.planeDone && (match p.2.pressing with
    | some b => decide (b < a) || (decide (b = a) && decide (p.1 < x))
    | none => false))

/-- PRESS_COMPLETE (R290): the press engine's plane is complete; it becomes current at the next latch. -/
def State.pressDone (s : State) (x : Nat) : State :=
  let sc := s.screen x
  match sc.pressing with
  | some a =>
    if sc.planeDone || s.pressBefore x a then s
    else ((s.setScreen x { sc with planeDone := true, pressMs := [] }).bump (procKey (x / 12) .cmp) (0x4310 + x) 0x04).wn
      (0x4310 + x) 0x06 (min 0xFFFFFFFF ((s.clock - a) / usTicks))
  | none => s

def execPressComplete (t x : Nat) (s : State) : Host.Outcome State Fault Refusal :=
  .next ((s.tick t).pressDone x)

/-! ### Leases (R291) -/

/-- Whether anything still selects or reads a surface buffer: a layer, a frame under composition, a press under way. -/
def State.bufRead (s : State) (n b : Nat) : Bool :=
  (s.slotsUsed.any (fun x => s.layerOn x && s.fn (lIdx x) 0x03 = n &&
    (match (s.layer x).sel with | some p => p.graphics && p.surface = b | none => false))) ||
  s.screens.any (fun p =>
    (match p.2.plan with | some q => q.layers.any (fun l => l.buf = some (n, b)) | none => false) ||
    (match p.2.next with | some q => q.layers.any (fun l => l.buf = some (n, b)) | none => false) ||
    (p.2.pressing.isSome && p.2.pressMs.contains (n, b)))

/-- The count 0x4300:0D. -/
def State.refreshLeases (s : State) : State :=
  s.wn 0x4300 0x0D (s.gfx.foldl (fun a g => a + (g.2.bufs.filter (fun b => b.2.leased)).length) 0)

/-- A latch leases the surface buffers it selects (R291). -/
def State.leaseSelected (s : State) (ls : List PlanL) : State :=
  (ls.foldl (fun s l =>
    match l.buf with
    | some (n, b) =>
      let g := s.gfxOf n
      s.setGfx n { g with bufs := g.bufs.put b { g.bufs.at' b {} with leased := true } }
    | none => s) s).refreshLeases

/-! ### The latch -/

/-- Whether a frame's composition has ended: each strip written or dropped (R308). -/
def State.composed (s : State) (x : Nat) : Bool :=
  (List.range (s.strips x)).all (fun k => (s.screen x).written.contains k || (s.screen x).dropped.contains k)

/-- Reason 1 clears for a layer whose composition is finished (R43): all its strips were written. -/
def State.clearFirst (s : State) (written : List Nat) (l : PlanL) : State :=
  let i := lIdx l.slot
  let g := s.layer l.slot
  let mine := (List.range ((l.y1 - 1) / 16 + 1 - l.y0 / 16)).map (· + l.y0 / 16)
  if l.draws = some g.gen && (l.y1 ≤ l.y0 || mine.all (fun k => written.contains k)) then
    let s := s.setLayer l.slot { g with first := false }
    let rs := s.reasons l.slot
    let m := s.rn i 0x2E
    if s.rn i 0x2C = 5 then
      s.setLiveness l.slot 5 (rs.head?.getD 0) (if rs.isEmpty then m - (if bit m 2 then 4 else 0) else m)
    else s
  else s

/-- The end of a frame's composition: reason 1 clears, and a frame latched meanwhile begins (R307). -/
def State.endCompose (s : State) (x : Nat) : State :=
  let sc := s.screen x
  match sc.plan with
  | none => s
  | some p =>
    if s.composed x then
      let s := s.setScreen x { sc with
        done := some (p.frame, sc.written), plan := sc.next, next := none, composing := none, written := [], dropped := [] }
      p.layers.foldl (fun s l => s.clearFirst sc.written l) s
    else s

/-- Put the plan of a latch in place: it waits while another frame is composed (R307). -/
def State.openCompose (s : State) (x : Nat) (p : Plan) : State :=
  let sc := s.screen x
  match sc.plan with
  | none => s.setScreen x { sc with plan := some p, composing := none, written := [], dropped := [] }
  | some _ => s.setScreen x { sc with next := some p }

/-- The layers of a screen through one latch: pipes and pictures, tiles, stitch, evaluation, floor. `set` are the slots whose
budget the commits that landed set. -/
def State.latchLayers (s : State) (x : Nat) (set : List Nat) : State :=
  let ns := s.layersOn x
  let s := ns.foldl (fun s n => s.latchPipes n) s
  let s := ns.foldl (fun s n => (s.latchTiles n).latchStitch n) s
  let s := ns.foldl (fun s n => (s.evaluate n).latchFloor n set) s
  let s := ns.foldl (fun s n => s.wn (lIdx n) 0x14 (s.pipesWord (s.layer n).pipes)) s
  let s := (s.wn (scrIdx x) 0x27 ns.length).wn (scrIdx x) 0x28
    ((ns.map (fun n => (s.layer n).pipes.length)).foldl (· + ·) 0)
  (s.refreshPipes).refreshSummary x

/-- The plan a latch fixes, and its consequences for pressing and leases. -/
def State.latchPlan (s : State) (x : Nat) : State :=
  let ls := ((s.layersOn x).map s.planOf).foldl (fun a l => insertZ l a) []
  let run := s.pressRun (s.fn (0x4310 + x) 0x01) none ls
  let i := scrIdx x
  let new : Bool := (s.screen x).pressing.isSome && (s.screen x).planeDone
  let s := s.latchPress x (ls.filter (fun l => run.contains l.slot))
  let s := s.relayRun x (ls.filter (fun l => run.contains l.slot)) new
  let direct : Bool := s.rn (0x4310 + x) 0x03 = 3 || s.rn (0x4310 + x) 0x03 = 0
  let ls := ls.map (fun l => { l with pressed := !direct && run.contains l.slot })
  let p : Plan := ⟨wrapInc 32 (s.rn i 0x16), ls, s.fn i 0x23, s.fn i 0x30, s.fn i 0x31, s.fn i 0x32, (s.fn i 0x20, s.fn i 0x22), s.fn i 0x21⟩
  ((s.openCompose x p).leaseSelected ls).encLatch x p

/-- LAYER_LATCH (R272): at the end of the scan of strip 0, once in each frame. On an unavailable screen the parts of
commits are discarded (R283); while its CMP restarts nothing lands and nothing is composed (Table 2.3). -/
def State.latch (s : State) (x : Nat) : State :=
  let sc := s.screen x
  if !sc.run || sc.latched || s.member x || 24 ≤ x then s
  else
    let s := s.setScreen x { sc with latched := true }
    if s.unavailable x then (s.dropPart x).latchLayers x []
    else if s.restarting (x / 12) .cmp || s.idleSpare then s.latchLayers x []
    else
      let ids := (s.commits.filter (fun c => bit c.taken x)).map (·.id)
      let r := State.landAll ids x s
      let set := (r.1.layersOn x).filter (fun n => !s.layerOn n || s.fn (lIdx n) 0x20 ≠ r.1.fn (lIdx n) 0x20)
      let first := !(r.1.screen x).implicit
      let s := r.1.setScreen x { r.1.screen x with implicit := true }
      let s := if first then
          (s.layersOn x).foldl (fun s n => s.firstUse n) s
        else s
      let s := if r.2 then s.encRecheck (fun e => s.encScreen e = x) else s
      (s.latchLayers x set).latchPlan x

def execLayerLatch (t x : Nat) (s : State) : Host.Outcome State Fault Refusal :=
  .next ((s.tick t).latch x)

/-! ### The scan-out recheck (R67, R68) -/

/-- Slots of a segment: its own, or those of the pressed plane. -/
def Segm.slots (g : Segm) : List Nat := if g.pressed then g.members.map (·.1) else [g.slot]

/-- Whether content of a capture time is over a budget in ms when its scan ends (R33); an unknown capture time is. -/
def State.tooOld (s : State) (die tEnd : Nat) (cap : Option Nat) (budget : Nat) : Bool :=
  match s.ageAt die tEnd cap with
  | some a => decide (budget * 1000000 < a)
  | none => true

/-- The over-age layers of a segment found over age: for the pressed plane, each member whose own age exceeds its own budget,
both latched for the frame (R67, R289). -/
def State.overAge (s : State) (die tEnd : Nat) (g : Segm) : List Nat :=
  if g.pressed then (g.members.filter (fun m => s.tooOld die tEnd m.2.1 m.2.2)).map (·.1) else [g.slot]

/-- Mark layers with what a strip check found of them, before they are judged. -/
def State.markLayers (s : State) (ns : List Nat) (f : LayerS → LayerS) : State :=
  ns.foldl (fun s n => if s.layerOn n then s.setLayer n (f (s.layer n)) else s) s

/-- LVS_STRIP_RECHECK (R44, R46, R67, R68, R76): before strip k is scanned. LIVE segments over age or under a U fault are
found first; then every layer of the screen is judged by the conditions now true; and a LIVE segment of a layer that is no
longer LIVE is creased (DEDUCED from R46 and R76, log 138). No recheck runs while the service pattern is shown (R312), the
die's LVS is stopped (R69), or the whole screen is under its FENCED treatment. -/
def State.recheck (s : State) (x k : Nat) : State :=
  let sc := s.screen x
  let die := x / 12
  if !sc.run || sc.service || s.lvsStopped die || (s.screenFence x).isSome then s
  else
    let live := (sc.ledger.at' k {}).segs.filter (fun g => g.state = 1)
    let fault : Bool := !s.lockedFor die || sc.uFault
    let tEnd := sc.start + s.linesNs x (s.stripEnd x k)
    let late := if fault then [] else live.filter (fun g => s.tooOld die tEnd g.cap g.budget)
    let s := if fault then s.markLayers (live.flatMap Segm.slots) ({ · with uLate := true }) else s
    let s := s.markLayers (late.flatMap (fun g => s.overAge die tEnd g)) ({ · with late := true })
    let s := (s.layersOn x).foldl (fun s n => s.scanCheck n) s
    let bad := live.filter (fun g => fault || late.contains g ||
      g.slots.any (fun n => s.layerOn n && s.rn (lIdx n) 0x2C ≠ 1))
    s.setScreen x { s.screen x with uFault := fault, crease := sc.crease ++ bad.map (fun g => (k, g.xs, g.xe)) }

def execLvsStripRecheck (t x k : Nat) (s : State) : Host.Outcome State Fault Refusal :=
  .next ((s.tick t).recheck x k)

/-! ### Read-back (R70 to R72) -/

/-- The check unit reserved to LVS for a screen's output (R545). -/
def lvsUnit (x : Nat) : Nat := checkKey (x / 12 * 24 + x % 12)

/-- The stitched segments of a layer that this frame's scan reads, by strip. -/
def State.stitchSegs (s : State) (x n : Nat) : List Segm :=
  (List.range (s.strips x)).flatMap (fun k => ((s.screen x).scanEntry k).segs.filter (fun g => g.slot = n && g.stitch))

/-- Whether the scan of this frame has passed the last line of every plate of some segments (R70). -/
def State.platesPassed (s : State) (x : Nat) (gs : List Segm) : Bool :=
  gs.all (fun g => match g.plate with
    | some p => decide ((s.screen x).start + s.linesNs x (p.2 + 10).toNat ≤ s.nowAt (x / 12))
    | none => false)

/-- Whether any plate of some segments was altered by scan-out in this frame (R313). -/
def State.platesAltered (s : State) (x : Nat) (gs : List Segm) : Bool :=
  gs.any (fun g => match g.plate with
    | some p => s.plateAltered x p
    | none => false)

/-- READ_BACK_COMPARE (R70 to R72), once in a frame and once the stitch's last line has passed: the marks at the transmitter
input against the value of every segment that holds the stitch. `wrong` are the pixels that arrived other than they were
sent. A mismatch counts, and takes effect from the next strip checked. -/
def State.readBack (s : State) (n : Nat) (wrong : List LinkPx) : State :=
  let i := lIdx n
  let x := s.fn i 0x02
  let gs := s.stitchSegs x n
  let l := s.layer n
  if !s.layerOn n || gs.isEmpty || l.compared || l.hidden || s.gone (lvsUnit x) || !s.platesPassed x gs ||
      s.platesAltered x gs then s
  else if gs.all (fun g => match g.plate with
      | some p => marksValue (s.readMarks x p wrong) = some g.stitchVal
      | none => false) then
    let live : Bool := s.rn i 0x2C = 1
    let s := s.setLayer n { l with rbOk := live, compared := true }
    if live then s.wn i 0x2F (s.rn i 0x2F % 4 + 8) else s
  else
    (s.bump (lvsKey (x / 12)) 0x5000 0x13).setLayer n { l with rback := true, rbOk := false, compared := true, run := 0 }

def execReadBackCompare (t slot : Nat) (wrong : List LinkPx) (s : State) : Host.Outcome State Fault Refusal :=
  .next ((s.tick t).readBack slot wrong)

/-- The end of a frame (R71, R313): a stitch not compared in it keeps its grade only if scan-out altered it. -/
def State.endReadBack (s : State) (x : Nat) : State :=
  (s.layersOn x).foldl (fun s n =>
    let l := s.layer n
    if l.compared then s.setLayer n { l with compared := false }
    else if !l.rbOk || s.platesAltered x (s.stitchSegs x n) then s
    else
      let s := s.setLayer n { l with rbOk := false }
      if s.rn (lIdx n) 0x2C = 1 then s.wn (lIdx n) 0x2F (s.rn (lIdx n) 0x2F % 4 + 4) else s) s

/-! ### LVS faults (R69) -/

/-- Layers enabled on the screens of a die. -/
def State.layersOnDie (s : State) (die : Nat) : List Nat :=
  s.slotsUsed.filter (fun n => s.layerOn n && s.fn (lIdx n) 0x02 / 12 = die)

/-- A die's LVS runs its self-test (R69). -/
def State.lvsTestStart (s : State) (d : Die) : State :=
  { s with lvsTest := d.idx :: s.lvsTest.filter (· ≠ d.idx), lvsTestAt := s.lvsTestAt.put d.idx s.clock }

/-- LVS_FAULT: the pair disagrees. It stops with health SUSPECT, counts, latches its bit, raises one event, and every
layer of the die's screens takes reason 3; its self-test runs. The creases and TLY_ALERT_N follow from its health
(stage 4 of Table 8.3, R557). -/
def State.lvsFault (s : State) (d : Die) : State :=
  let k := lvsKey d.idx
  if s.lvsStopped d.idx then s
  else
    let u := s.unit k
    let s := s.setHealth k { u with st := 1, prior := u.st } u.st
    let s := s.bump k 0x5000 0x14
    let s := s.wn 0x5000 0x08 (setBit (s.rn 0x5000 0x08) (2 + d.idx) true)
    let s := s.lvsTestStart d
    let s := s.raiseCond (.lvs d.idx) 0xFF01 k 0x0105 3 [(8, d.idx), (16, s.rn 0x5000 0x14)]
    (s.layersOnDie d.idx).foldl (fun s n => s.degrade n) s

def execLvsFault (t : Nat) (d : Die) (s : State) : Host.Outcome State Fault Refusal :=
  .next ((s.tick t).lvsFault d)

/-- LVS_SELF_TEST_DONE: a pass resumes its checks, and the layers return only through R43 and R44; a failure leaves it
stopped. -/
def State.lvsTested (s : State) (d : Die) (pass : Bool) : State :=
  if !s.lvsStopped d.idx || !s.lvsTest.contains d.idx then s
  else
    let s := { s with lvsTest := s.lvsTest.filter (· ≠ d.idx) }
    if !pass then s
    else
      let k := lvsKey d.idx
      let u := s.unit k
      let s := (s.setHealth k { u with st := 0 } 1).endCond (.lvs d.idx)
      (s.layersOnDie d.idx).foldl (fun s n => (s.firstUse n).degrade n) s

def execLvsSelfTestDone (t : Nat) (d : Die) (pass : Bool) (s : State) : Host.Outcome State Fault Refusal :=
  .next ((s.tick t).lvsTested d pass)

/-- LVS_SELF_TEST_RETRY: a stopped LVS runs its self-test again, every 1 s. -/
def State.lvsRetry (s : State) (d : Die) : State :=
  if s.lvsStopped d.idx && s.due (s.lvsTestAt.look d.idx) sTicks then s.lvsTestStart d else s

def execLvsSelfTestRetry (t : Nat) (d : Die) (s : State) : Host.Outcome State Fault Refusal :=
  .next ((s.tick t).lvsRetry d)

/-- LVS status (0x5000:08): bits 0 and 1 the pairs that run, bits 2 and 3 the faults latched. A pair runs from the load of the
dictionary on, while its die is there and R69 has not stopped it. -/
def State.lvsWord (s : State) : Nat :=
  let runs := fun (d : Nat) => s.loaded && !s.dieLost d && !s.lvsStopped d
  b2n (runs 0) + 2 * b2n (runs 1) + 4 * (s.rn 0x5000 0x08 / 4 % 4)

/-- LVS_STATUS_READ (R79): the read returns the status and clears its fault bits. -/
def lvsStatus (s : State) : State × Nat × Val := (s.wn 0x5000 0x08 0, 0, .num s.lvsWord)

def execLvsStatusRead (t : Nat) (r : Req) (s : State) : Host.Outcome State Fault Refusal :=
  .next ((s.tick t).readReq r 0x5000 0x08 lvsStatus)

/-- R79: the ledger select takes a screen 0 to 23 and a strip that the screen has. -/
def ledgerSelect (s : State) (v : Val) : State × Nat :=
  let n := v.int.toNat
  if n < 65536 && n / 256 < 24 && n % 256 < s.strips (n / 256) then (s.wv 0x5000 0x20 v, 0) else (s, 6)

/-- The ledger snapshot 0x5000:21; an entry not written since reset or the last timing apply is all 0 (Table 1.9). -/
def State.readLedger (s : State) : List Byte :=
  let n := s.rn 0x5000 0x20
  ((s.screen (n / 256)).ledger.at' (n % 256) {}).bytes

end Sys2Proof.Machine
end

