-- ==== Sys2Proof/Machine/Scanout.lean ====
section
/-! DEFINITION. Frames and strips (R302 to R310), output events (R315, R316), timing applies (R321 to R323) and the
DisplayPort link (R324 to R335). -/

namespace Sys2Proof.Machine

/-! ### Output events (Table 8.4) -/

/-- Raise an output event when its bit is enabled (R315): screen, frame number, extra content. -/
def State.outEvent (s : State) (x bitNo : Nat) (extra : List (Nat × Nat)) : State :=
  if bit (s.rn (scrIdx x) 0x17) bitNo then
    s.raise (scanKey x) (0x0701 + bitNo) (if bitNo = 4 then 2 else 0)
      ([(8, x), (32, s.rn (scrIdx x) 0x16)] ++ extra)
  else s

/-- A change of output status and link (Table 8.8), with its event. A stream that stops sends no more of its frame (R332). -/
def State.setLink (s : State) (x st link : Nat) : State :=
  let i := scrIdx x
  let s := if st = 2 then s else s.setScreen x { s.screen x with sending := false }
  if s.rn i 0x14 = st && s.rn i 0x15 = link then s
  else ((s.wn i 0x14 st).wn i 0x15 link).outEvent x 5 [(8, st), (16, link)]

/-! ### Frame starts (R302 to R305) -/

/-- Whether every strip of the next frame has been written (R302). -/
def State.nextReady (s : State) (x : Nat) : Bool :=
  match (s.screen x).done with
  | some d => d.1 = wrapInc 32 (s.rn (scrIdx x) 0x16) && (List.range (s.strips x)).all (fun k => d.2.contains k)
  | none => false

/-- Whether a frame may start now (R302, R303): past Tmin on completed composition or a request, or past Tmax. -/
def State.mayStart (s : State) (x : Nat) : Bool :=
  let sc := s.screen x
  let past := fun (n : Nat) => decide (sc.start + s.linesNs x n ≤ s.nowAt (x / 12))
  past (s.vmax x) || (past (s.vmin x) && (if (s.aligner x).isSome then sc.align else s.nextReady x))

/-- The strips written for a frame number so far. -/
def ScreenS.writtenFor (sc : ScreenS) (n : Nat) : List Nat :=
  match sc.plan with
  | some p => if p.frame = n then sc.written else
    (match sc.done with | some d => if d.1 = n then d.2 else [] | none => [])
  | none => match sc.done with | some d => if d.1 = n then d.2 else [] | none => []

/-- Whether every strip of a screen is among some. -/
def State.allStrips (s : State) (x : Nat) (wr : List Nat) : Bool := (List.range (s.strips x)).all (fun k => wr.contains k)

/-- The crease band at a frame start (R73): it goes where every strip of the frame has been composed anew, and comes where none
has been and the output repeat that this makes exceeds the limit. -/
def State.bandStart (s : State) (x : Nat) : State :=
  let sc := s.screen x
  if s.allStrips x sc.scanWritten then s.setScreen x { sc with band := false }
  else if sc.scanWritten.isEmpty && !sc.band && s.fn (scrIdx x) 0x33 < sc.repeats + 1 then
    s.setScreen x { sc with band := true, bandNew := true }
  else s

/-- The judgement of a frame scanned (R73, R74), once its last active line has passed: an output repeat where no strip was
composed for it before its scan or during it (DEDUCED, log 139). The first frame after an apply has none before it. -/
def State.settleRepeat (s : State) (x : Nat) : State :=
  let sc := s.screen x
  let i := scrIdx x
  if sc.prev = sc.start then s
  else if sc.scanWritten.isEmpty then
    let s := (s.setScreen x { sc with repeats := min 256 (sc.repeats + 1), bandNew := false }).bump (scanKey x) i 0x36
    if sc.bandNew then s.bump (scanKey x) i 0x37 else s
  else s.setScreen x { sc with
    repeats := 0, bandNew := false, band := sc.band && !sc.bandNew && !s.allStrips x sc.scanWritten }

/-- The colorimetry register (R335): 0 with BT.709 primaries, else 1 where the sink takes the VSC SDP and 2 where it does not. -/
def State.colorWord (s : State) (x prim : Nat) : Nat :=
  if prim = 0 then 0 else match (s.screen x).sink with
    | some k => if k.vscColorimetry then 1 else 2
    | none => s.rn (0x4910 + x) 0x0C

/-- The lines of the frame that ends: the whole number nearest to the time passed, at most Vmax (R300). -/
def State.frameLines (s : State) (x : Nat) : Nat :=
  let h := max 1 (s.htotal x * 1000000)
  min (s.vmax x) (((s.nowAt (x / 12) - (s.screen x).start) * s.fn (scrIdx x) 0x04 + h / 2) / h)

/-- FRAME_START (R300 to R305): the frame that ends raises frame done; the number advances; the new frame starts at a line
boundary; the service pattern ends with the first frame whose every strip has been written since the apply (R312); the stream
reaches the connector from here on where the link is running (R331). -/
def State.frameStart (s : State) (x : Nat) : State :=
  let sc := s.screen x
  let i := scrIdx x
  if !sc.run || s.member x || !s.mayStart x then s
  else
    let miss := (s.aligner x).isSome && !sc.align
    let s := (s.encFrameEnd x).endReadBack x
    let s := if sc.blanked then s else s.settleRepeat x
    let lines := s.frameLines x
    let s := s.outEvent x 3 [(16, lines % 65536)]
    let n := wrapInc 32 (s.rn i 0x16)
    let s := (s.wn i 0x1D (min 65535 lines)).wn i 0x16 n
    let s := if miss then s.bump (scanKey x) i 0x1C else s
    let wr := sc.writtenFor n
    let s := s.setScreen x { s.screen x with
      prev := sc.start, start := sc.start + s.linesNs x lines, latched := false, blanked := false, crease := [], uFault := false,
      align := false, scanWritten := wr, snoop := [], sending := s.rn i 0x14 = 2,
      sig := sc.sigNext.getD sc.sig, sigNext := none,
      service := sc.service && !s.allStrips x sc.fresh }
    let s := if s.rn i 0x14 = 2 then s.wn (0x4910 + x) 0x0C (s.colorWord x (s.screen x).sig.2) else s
    (s.bandStart x).encFrame x

/-! ### Strips (R307 to R310) -/

/-- The next strip of the frame under composition. -/
def State.nextStrip (s : State) (x : Nat) : Option Nat :=
  let sc := s.screen x
  (List.range (s.strips x)).find? (fun k => !sc.written.contains k && !sc.dropped.contains k)

/-- Whether a frame number is the one being scanned. -/
def State.scanning (s : State) (x n : Nat) : Bool := s.rn (scrIdx x) 0x16 = n

/-- The write deadline of strip k of a frame being scanned: 8 µs before its scan begins (R308). -/
def State.pastDeadline (s : State) (x k : Nat) : Bool :=
  (s.screen x).start + s.linesNs x (16 * k) ≤ s.nowAt (x / 12) + 8000

/-- The output whose compositor takes strip k (R318). -/
def State.stripOutput (s : State) (x k : Nat) : Nat := if (s.outputsOf x).length = 4 then x + k % 4 else x

/-- Whether the pipes that a strip's layers need all serve (R250). -/
def State.pipesServe (s : State) (p : Plan) (k : Nat) : Bool :=
  (p.layers.filter (fun l => l.onStrip k && !l.pressed)).all (fun l => (s.layer l.slot).pipes.all s.placeServes)

/-- STRIP_COMPOSE_START (R307): strip k is next, and scan-out has read it in the frame before. -/
def State.stripStart (s : State) (x k : Nat) : State :=
  let sc := s.screen x
  match sc.plan with
  | none => s
  | some p =>
    let read : Bool := s.scanning x p.frame ||
      (s.scanning x (wrapDec 32 p.frame) && decide (sc.start + s.linesNs x (s.stripEnd x k) ≤ s.nowAt (x / 12)))
    if sc.run && sc.composing.isNone && s.nextStrip x = some k && read && !(s.scanning x p.frame && s.pastDeadline x k) &&
        s.serves (compKey (s.stripOutput x k)) && !s.restarting (x / 12) .cmp && s.pipesServe p k then
      s.setScreen x { sc with composing := some k }
    else s

def execStripComposeStart (t x k : Nat) (s : State) : Host.Outcome State Fault Refusal :=
  .next ((s.tick t).stripStart x k)

/-- STRIP_WRITE (R308, R318): the strip under way, composed by the compositor of output `c`, and its ledger entry are written
together, before the deadline. -/
def State.stripWrite (s : State) (x c k : Nat) : State :=
  let sc := s.screen x
  match sc.plan with
  | none => s
  | some p =>
    if sc.composing ≠ some k || c ≠ s.stripOutput x k || (s.scanning x p.frame && s.pastDeadline x k) then s
    else
      let ha := s.ha x
      let fmt := s.fn (scrIdx x) 0x03
      let px := s.contentAt p
      let s := (s.encStrip x k p.frame).encLayerStrip x k p px
      let now := s.scanning x p.frame
      let old := sc.ledger.at' k {}
      let at0 := 16 * k * ha * bytesPerPixel fmt
      let s := s.setScreen x { sc with
        composing := none, written := k :: sc.written, fresh := k :: sc.fresh.filter (· ≠ k),
        scanWritten := if now then k :: sc.scanWritten else sc.scanWritten,
        band := sc.band && !(now && sc.bandNew), bandNew := sc.bandNew && !now,
        sig := if now then p.sig else sc.sig, sigNext := if now then sc.sigNext else some p.sig,
        snoop := if !now && old.segs.any (·.stitch) then
            sc.snoop.put k (old, cellsRead sc.buffer at0 ((s.stripEnd x k - 16 * k) * ha * bytesPerPixel fmt))
          else sc.snoop,
        ledger := sc.ledger.put k (p.entry (ceilDiv ha 16) k),
        buffer := cellsWrite sc.buffer at0 (p.stripBytes fmt ha (s.va x) k px) }
      s.endCompose x

def execStripWrite (t x c k : Nat) (s : State) : Host.Outcome State Fault Refusal :=
  .next ((s.tick t).stripWrite x c k)

/-- STRIP_DROP (R308): a strip not written by its deadline is dropped; one under way is abandoned. -/
def State.stripDrop (s : State) (x k : Nat) : State :=
  let sc := s.screen x
  match sc.plan with
  | none => s
  | some p =>
    if s.scanning x p.frame && s.pastDeadline x k && s.nextStrip x = some k then
      let s := s.setScreen x { sc with
        composing := if sc.composing = some k then none else sc.composing, dropped := k :: sc.dropped }
      s.endCompose x
    else s

def execStripDrop (t x k : Nat) (s : State) : Host.Outcome State Fault Refusal :=
  .next ((s.tick t).stripDrop x k)

/-! ### Blanking and line matches (R310, R315, R316, R334) -/

/-- Chromaticities of output primaries, green, blue, red as CTA-861-G orders them, in 0.00002 units (PRESUMED from BT.709 and
BT.2020, log 140). -/
def primaries (code : Nat) : List Nat :=
  if code = 0 then [15000, 30000, 7500, 3000, 32000, 16500] else [8500, 39850, 6550, 2300, 35400, 14600]

/-- R334: the InfoFrame's data bytes: EOTF 2, descriptor 0, primaries, D65, mastering luminances, MaxCLL and MaxFALL. -/
def State.infoFrameBytes (s : State) (x : Nat) : List Byte :=
  let i := 0x4910 + x
  [2, 0] ++ (primaries (s.screen x).sig.2 ++ [15635, 16450, s.rn i 0x06, s.rn i 0x07, s.rn i 0x04, s.rn i 0x05]).flatMap (leBytes 2)

/-- R334: a PQ screen whose stream reaches the connector sends its InfoFrame in every vertical blanking; an SDR screen none. -/
def State.sendInfoFrame (s : State) (x : Nat) : State :=
  if (s.screen x).sending && (s.screen x).sig.1 = 1 then s.say (.infoFrame x (s.infoFrameBytes x)) else s

/-- BLANKING_START: the last active line has been scanned; strips not written for this frame are underruns. -/
def State.blanking (s : State) (x : Nat) : State :=
  let sc := s.screen x
  let i := scrIdx x
  if !sc.run || sc.blanked || s.member x || s.nowAt (x / 12) < sc.start + s.linesNs x (s.va x) then s
  else
    let under := (List.range (s.strips x)).filter (fun k => !sc.scanWritten.contains k)
    let s := (s.setScreen x { sc with blanked := true, under := !under.isEmpty }).outEvent x 0 [(24, 0)]
    let s := (s.settleRepeat x).sendInfoFrame x
    match under with
    | [] => s
    | k :: _ =>
      ((s.bump (scanKey x) i 0x1A).bump (scanKey x) i 0x1B under.length).outEvent x 4 [(8, k), (8, under.length)]

def execBlankingStart (t x : Nat) (s : State) : Host.Outcome State Fault Refusal :=
  .next ((s.tick t).blanking x)

/-- LINE_MATCH (R316): the start of a line that matches 0x4800+s:18 or :19. -/
def State.lineMatch (s : State) (x line : Nat) : State :=
  let sc := s.screen x
  let i := scrIdx x
  if !sc.run || s.member x || line = 0xFFFF || s.vmax x ≤ line || s.nowAt (x / 12) < sc.start + s.linesNs x line then s
  else
    let s := if s.rn i 0x18 = line then s.outEvent x 1 [(16, line)] else s
    if s.rn i 0x19 = line then s.outEvent x 2 [(16, line)] else s

def execLineMatch (t x line : Nat) (s : State) : Host.Outcome State Fault Refusal :=
  .next ((s.tick t).lineMatch x line)

/-! ### Timing applies (R321 to R323) -/

/-- Subindices of the staged timing class (R321). -/
def timingSubs : List Nat := (List.range 14).map (· + 1) ++ [0x10, 0x11, 0x12]

/-- Symbol rates in Msym/s (R322). -/
def symbolRate (code : Nat) : Nat :=
  match code with
  | 0 => 162
  | 1 => 270
  | 2 => 540
  | _ => 810

/-- R322: whether a link carries a pixel clock (kHz) in a format, with or without a spread link clock. -/
def carries (clk fmt lanes rate : Nat) (ssc : Bool) : Bool :=
  clk * (if fmt = 2 then 30 else 24) * 1000 ≤ lanes * symbolRate rate * 8 * 1000 * (if ssc then 995 else 1000)

/-- Table 8.5, in order: the code of the first check that fails, or 0. -/
def State.timingCheck (s : State) (x : Nat) : Nat :=
  let i := scrIdx x
  let gang := s.rn i 0x02 = 1
  let outs := if gang then [x, x + 1, x + 2, x + 3] else [x]
  let k := if gang then 2 else 1
  let w := s.rn i 0x05
  let h := s.rn i 0x09
  let vmin := h + s.rn i 0x0A + s.rn i 0x0B + s.rn i 0x0C
  let vmax := s.rn i 0x0D
  let clk := s.rn i 0x04
  if outs.any (fun o => (s.screen o).applying) then 1
  else if s.dieLost (x / 12) || s.declaredDead (regionC (x / 12)) ||
      outs.any (fun o => s.gone (compKey o) || s.gone (scanKey o) || s.gone (txKey o)) then 2
  else if gang && x % 4 ≠ 0 then 3
  else if gang && s.slotsUsed.any (fun n =>
      (s.layerOn n && x < s.fn (lIdx n) 0x02 && s.fn (lIdx n) 0x02 < x + 4) ||
      (s.rn (lIdx n) 0x01 = 1 && x < s.rn (lIdx n) 0x02 && s.rn (lIdx n) 0x02 < x + 4)) then 4
  else if w % 2 = 1 || w < 640 || 1920 * k < w || h < 480 || 1200 * k < h then 5
  else if vmax < vmin || 4 * vmin < vmax || 16383 < vmax then 6
  else if clk < 25000 || 300000 * k < clk then 7
  else if !carries clk (s.rn i 0x03) (if gang then 4 else s.rn i 0x11) (s.rn i 0x10) (s.rn i 0x12 = 1) then 8
  else 0

/-- TIMING_APPLY (R321): the checks are made before the write is answered; one that fails is refused with status 7, and
:1F holds its code either way. -/
def timingApply (x : Nat) (s : State) (v : Val) : State × Nat :=
  if v.int ≠ 1 then (s, 6)
  else
    let c := s.timingCheck x
    if c ≠ 0 then (s, 7)
    else
      let s := s.wn (scrIdx x) 0x1F 0
      let s := s.setScreen x { s.screen x with applying := true }
      (if s.rn (scrIdx x) 0x14 = 2 || s.rn (scrIdx x) 0x14 = 1 then
        s.setLink x (if s.rn (scrIdx x) 0x14 = 2 then 1 else s.rn (scrIdx x) 0x14) 0xFFFF else s, 0)

/-- The check code of an apply that is refused (Table 8.5). -/
def State.applyResult (s : State) (x : Nat) (v : Val) : State :=
  if v.int = 1 && s.timingCheck x ≠ 0 then s.wn (scrIdx x) 0x1F (s.timingCheck x) else s

def execTimingApply (t : Nat) (r : Req) (x : Nat) (s : State) : Host.Outcome State Fault Refusal :=
  let s := s.tick t
  let p := s.write r (scrIdx x) 0x13 [1] (timingApply x)
  let s := if p.2 = 7 then p.1.applyResult x (.num 1) else p.1
  .next (s.respond r (scrIdx x) 0x13 p.2 [])

/-- A frame buffer filled with a colour in a format (R323). -/
def fillBuffer (fmt ha va colour : Nat) : List Host.Cell :=
  let px := pixelBytes fmt (rgbOf colour)
  if px.all (· = 0) then []
  else ((List.range (ha * va)).flatMap (fun i => px.zipIdx.map (fun b => (i * bytesPerPixel fmt + b.2, b.1)))).filter
    (fun c => c.2 ≠ 0)

/-- The output status with no link: off, no sink, or training where a sink is present (Table 8.8, R331). -/
def State.idleStatus (s : State) (x : Nat) : Nat :=
  if s.fn (scrIdx x) 0x01 = 0 then 0 else if (s.screen x).hpd then 1 else 4

/-- A screen starts again with the timing in force (R323): buffer filled, ledger empty, number 0, service pattern. -/
def State.restartScreen (s : State) (x : Nat) : State :=
  let i := scrIdx x
  let sc := s.screen x
  let s := s.setScreen x { sc with
    run := true, start := s.nowAt (x / 12), prev := s.nowAt (x / 12), latched := false, plan := none, next := none, composing := none,
    written := [], dropped := [], done := none, scanWritten := [], fresh := [], blanked := false, repeats := 0,
    band := false, bandNew := false, service := true, align := false, applying := false, crease := [], uFault := false,
    ledger := [], snoop := [], sig := (s.fn i 0x20, s.fn i 0x22), sigNext := none, from' := none, buffer := fillBuffer (s.fn i 0x03) (s.ha x) (s.va x) (s.fn i 0x23) }
  ((s.wn i 0x16 0).wn i 0x1D 0).setLink x (s.idleStatus x) 0xFFFF

/-- TIMING_APPLY_RUNNING (Table 8.6 step 3): the staged timing is in force and the generator runs with it. Members of a
gang stop; those of a gang that ends run again (R317). -/
def State.applyRunning (s : State) (x : Nat) : State :=
  let i := scrIdx x
  if !(s.screen x).applying then s
  else
    let was := s.fn i 0x02 = 1
    let s := timingSubs.foldl (fun s k => s.setForce i k (s.val i k)) s
    let s := s.restartScreen x
    let now := s.fn i 0x02 = 1
    let s := if now && !was then
        [x + 1, x + 2, x + 3].foldl (fun s o => (s.setScreen o { s.screen o with run := false, service := true }).setLink o 5 0xFFFF) s
      else if was && !now then [x + 1, x + 2, x + 3].foldl (fun s o => s.restartScreen o) s
      else s
    s.encRecheck (fun e => s.encScreen e = x)

def execTimingApplyRunning (t x : Nat) (s : State) : Host.Outcome State Fault Refusal :=
  .next ((s.tick t).applyRunning x)

/-! ### The DisplayPort link (R325 to R335) -/

/-- A byte of the sink's capabilities. -/
def sinkCap (k : Sink) (i : Nat) : Nat := ((k.dpcd[i]?).map (·.toNat)).getD 0

/-- HPD_RISE (R306, R325): capabilities and EDID are read, Vmax is fixed to Vmin where MSA timing parameters must be
followed, and training starts. The HPD of a gang's members is ignored (R319). -/
def State.hpdRise (s : State) (x : Nat) (k : Sink) : State :=
  let i := 0x4910 + x
  if s.member x || 24 ≤ x then s
  else
    let ok := bit (sinkCap k 7) 6
    let s := s.setScreen x { s.screen x with hpd := true, sink := some k, fixed := !ok, from' := none }
    let s := ((s.wb i 0x01 (k.dpcd.take 16)).wb i 0x02 k.edid).wn i 0x03 (b2n ok)
    let s := if ok then s else s.raise (txKey x) 0x0707 1 [(8, x)]
    s.setLink x (s.idleStatus x) 0xFFFF

def execHpdRise (t x : Nat) (k : Sink) (s : State) : Host.Outcome State Fault Refusal :=
  .next ((s.tick t).hpdRise x k)

/-! #### Training (R306, R326, R327, R329, R333, R456) -/

/-- The (swing, pre-emphasis) pairs of a drive map's entries, in their order (R456). -/
def drivePairs : List (Nat × Nat) := [(0, 0), (0, 1), (0, 2), (0, 3), (1, 0), (1, 1), (1, 2), (2, 0), (2, 1), (3, 0)]

/-- The drive map that sets a lane of a screen's link: lanes 2 and 3 of a gang use the next output's (R319, R456). -/
def driveMap (x lane : Nat) : Nat := 0x6440 + (if lane < 2 then x else x + 1)

/-- An entry of a drive map in force that may be driven. -/
def State.driveEntry (s : State) (m : Nat) (p : Nat × Nat) : Option Nat :=
  match (drivePairs.zipIdx.find? (fun e => e.1 = p)).map (fun e => s.fn m (e.2 + 1)) with
  | some v => if bit v 15 then none else some v
  | none => none

/-- R456: the levels a request is driven with: the nearest lower pre-emphasis level at its swing level whose entry is not
unused, else the next lower swing level in the same way. A pair whose levels sum to more than 3 has no entry and is never
driven (R326): it too is brought down so (DEDUCED, log 141). -/
def State.driven (s : State) (m : Nat) : Nat → Nat → Nat × Nat
  | 0, pre => (0, ((List.range (pre + 1)).reverse.find? (fun p => (s.driveEntry m (0, p)).isSome)).getD 0)
  | sw + 1, pre =>
    match (List.range (pre + 1)).reverse.find? (fun p => (s.driveEntry m (sw + 1, p)).isSome) with
    | some p => (sw + 1, p)
    | none => s.driven m sw pre

/-- The highest swing and pre-emphasis levels a drive map holds an entry for that is not unused (R326). -/
def State.driveMax (s : State) (m : Nat) : Nat × Nat :=
  (drivePairs.filter (fun p => (s.driveEntry m p).isSome)).foldl (fun a p => (max a.1 p.1, max a.2 p.2)) (0, 0)

/-- The TRAINING_LANEx_SET byte of a lane's request: swing, MAX_SWING_REACHED, pre-emphasis, MAX_PRE-EMPHASIS_REACHED. -/
def State.laneSet (s : State) (x lane : Nat) (req : Nat × Nat) : Byte :=
  let m := driveMap x lane
  let d := s.driven m (min 3 req.1) (min 3 req.2)
  let top := s.driveMax m
  BitVec.ofNat 8 (d.1 + 4 * b2n (d.1 = top.1) + 8 * d.2 + 32 * b2n (d.2 = top.2))

/-- An iteration: every lane is driven as its request maps, and the sink is told (R326). -/
def State.driveLanes (s : State) (x : Nat) (reqs : List (Nat × Nat)) : State :=
  let s := reqs.zipIdx.foldl (fun s q =>
    let m := driveMap x q.2
    let d := s.driven m (min 3 q.1.1) (min 3 q.1.2)
    s.say (.dpDrive (m - 0x6440) q.2 ((s.driveEntry m d).getD 0))) s
  s.say (.aux x 0x103 (reqs.zipIdx.map (fun q => s.laneSet x q.2 q.1)))

/-- The pattern of a link's equalisation (Table 8.7): TPS4 at HBR3, TPS3 at HBR2 and HBR where the sink supports it, else TPS2. -/
def eqPattern (k : Sink) (rate : Nat) : Nat :=
  if rate = 3 then 4 else if (rate = 1 || rate = 2) && bit (sinkCap k 2) 6 then 3 else 2

/-- Whether the link clock is down-spread (R333). -/
def State.spread (s : State) (x : Nat) (k : Sink) : Bool := s.fn (scrIdx x) 0x12 = 1 && bit (sinkCap k 3) 0

/-- DPCD 0x0107 as training writes it: SPREAD_AMP (R333) and MSA_TIMING_PAR_IGNORE_EN (R306). -/
def State.downspread (s : State) (x : Nat) (k : Sink) : Byte :=
  BitVec.ofNat 8 (16 * b2n (s.spread x k) + 128 * b2n (bit (sinkCap k 7) 6))

/-- A link tried: its pattern, then its iterations. -/
def State.tryLink (s : State) (x : Nat) (k : Sink) (l : LinkTry) : State :=
  let s := s.say (.dpTrain x l.rate l.lanes (eqPattern k l.rate))
  (l.cr ++ l.eq).foldl (fun s reqs => s.driveLanes x reqs) s

/-- The colorimetry signalled at link up, with the event where it is not (R335). -/
def State.colorimetry (s : State) (x : Nat) : State :=
  let w := s.colorWord x (s.fn (scrIdx x) 0x22)
  let s := s.wn (0x4910 + x) 0x0C w
  if w = 2 then s.raise (txKey x) 0x0708 1 [(8, x)] else s

/-- The DPCD code of a symbol rate. -/
def dpcdRate (code : Nat) : Nat :=
  match code with
  | 0 => 0x06
  | 1 => 0x0A
  | 2 => 0x14
  | _ => 0x1E

/-- Whether a link is among those training tries (R329, R322): within the objects' and the sink's maxima, and able to
carry the timing. -/
def State.linkAllowed (s : State) (x rate lanes : Nat) : Bool :=
  let i := scrIdx x
  match (s.screen x).sink with
  | none => false
  | some k =>
    let most := if (s.outputsOf x).length = 4 then 4 else s.fn i 0x11
    let ssc := s.spread x k
    rate ≤ s.fn i 0x10 && dpcdRate rate ≤ sinkCap k 1 && (lanes = 1 || lanes = 2 || lanes = 4) && lanes ≤ most &&
    lanes ≤ sinkCap k 2 % 32 && carries (s.fn i 0x04) (s.fn i 0x03) lanes rate ssc

/-- The links that training tries, in order (R329): from the highest rate and lane count allowed, or from the link a retrain
starts from (R330), each lower rate, then the same at half the lanes, then at one; those that cannot carry the timing are
skipped. -/
def State.linkOrder (s : State) (x : Nat) : List (Nat × Nat) :=
  let c := s.screen x
  match c.sink with
  | none => []
  | some k =>
    let most := if (s.outputsOf x).length = 4 then 4 else s.fn (scrIdx x) 0x11
    let top := match c.from' with
      | some f => f
      | none => (((List.range 4).filter (fun r => r ≤ s.fn (scrIdx x) 0x10 && dpcdRate r ≤ sinkCap k 1)).foldl max 0,
          ([1, 2, 4].filter (fun n => n ≤ most && n ≤ sinkCap k 2 % 32)).foldl max 1)
    let lanes := [4, 2, 1].filter (fun n => n ≤ top.2)
    (lanes.flatMap (fun n => ((List.range (top.1 + 1)).reverse.map (fun r => (r, n))))).filter (fun p => s.linkAllowed x p.1 p.2)

/-- R327: at most 10 clock-recovery and at most 5 equalisation iterations at a link tried, each with a request for every lane. -/
def tryWithin (l : LinkTry) : Bool :=
  l.cr.length ≤ 10 && l.eq.length ≤ 5 && (l.cr ++ l.eq).all (fun q => q.length = l.lanes)

/-- Whether a training is one R327 and R329 allow: the links tried are the first of the order, each within its iterations; where
none of them trained, none is left. -/
def State.trainingOk (s : State) (x : Nat) (tries : List LinkTry) (ok : Bool) : Bool :=
  let order := s.linkOrder x
  tries.map (fun l => (l.rate, l.lanes)) = order.take tries.length && tries.all tryWithin &&
  (tries.length = order.length || ok)

/-- LINK_TRAINING_COMPLETE (R306, R326, R327, R329): the links that failed and the last tried, with whether that one trained; each is
driven as the sink asks; the output runs at the one that trained, or the link has failed when every allowed one has. A training
the rules do not allow changes nothing. -/
def State.trained (s : State) (x : Nat) (failed : List LinkTry) (last : Option LinkTry) (ok : Bool) : State :=
  let tries := failed ++ last.toList
  let up := if ok then last else none
  match (s.screen x).sink with
  | none => s
  | some k =>
    if s.rn (scrIdx x) 0x14 ≠ 1 || !s.trainingOk x tries up.isSome then s
    else
      let s := s.say (.aux x 0x107 [s.downspread x k])
      let s := tries.foldl (fun s l => s.tryLink x k l) s
      let s := s.setScreen x { s.screen x with tries := tries, from' := none }
      match up with
      | some l => (s.setLink x 2 (l.rate + 256 * l.lanes)).colorimetry x
      | none => (s.setLink x 3 0xFFFF).bump (txKey x) (0x4910 + x) 0x0A

def execLinkTrainingComplete (t x : Nat) (failed : List LinkTry) (last : Option LinkTry) (ok : Bool) (s : State) :
    Host.Outcome State Fault Refusal := .next ((s.tick t).trained x failed last ok)

/-- A retrain (R330, R332): the stream stops and training runs again from the link in use. -/
def State.retrain (s : State) (x : Nat) : State :=
  if s.rn (scrIdx x) 0x14 = 2 then
    let l := s.rn (scrIdx x) 0x15
    let s := s.setScreen x { s.screen x with from' := some (l % 256, l / 256) }
    (s.bump (txKey x) (scrIdx x) 0x1E).setLink x 1 0xFFFF
  else s

/-- Whether a link status (DPCD 0x0202 to 0x0204) shows the link lost (R330): clock recovery, equalisation or symbol lock of a
lane in use, or the interlane alignment (the bits' places PRESUMED from DisplayPort, log 142). -/
def linkLost (lanes status : Nat) : Bool :=
  (List.range lanes).any (fun l => bits status (4 * l + 2) (4 * l) ≠ 7) || !bit status 16

/-- HPD_IRQ (R330, R479): the link status is read; a lost link is retrained; after a failed training another is tried (R329). -/
def State.hpdIrq (s : State) (x status : Nat) : State :=
  if s.member x || !(s.screen x).hpd then s
  else
    let s := (s.bump (txKey x) (0x4910 + x) 0x08).wn (0x4910 + x) 0x0B (status % 2 ^ 24)
    let s := if s.rn (scrIdx x) 0x14 = 3 then s.setLink x 1 0xFFFF else s
    if linkLost (s.rn (scrIdx x) 0x15 / 256) status then s.retrain x else s

/-- `status` is what DPCD 0x0202 and 0x0203 read, `align` what 0x0204 reads. -/
def execHpdIrq (t x status align : Nat) (s : State) : Host.Outcome State Fault Refusal :=
  .next ((s.tick t).hpdIrq x (status % 65536 + 65536 * align))

/-- HPD_UNPLUG (R330): no sink; the link stops. -/
def State.hpdUnplug (s : State) (x : Nat) : State :=
  if s.member x || !(s.screen x).hpd then s
  else
    let s := s.setScreen x { s.screen x with hpd := false, sink := none }
    let s := s.bump (txKey x) (0x4910 + x) 0x09
    s.setLink x (s.idleStatus x) 0xFFFF

def execHpdUnplug (t x : Nat) (s : State) : Host.Outcome State Fault Refusal :=
  .next ((s.tick t).hpdUnplug x)

end Sys2Proof.Machine
end

