-- ==== Sys2Proof/Machine/Ztt.lean ====
section
/-! DEFINITION. ZTT messages (R365 to R388) and the writes that leases hold back (R291 to R294). -/

namespace Sys2Proof.Machine

/-! ### Headers (R371, R372) -/

/-- Table 10.1's fields from the bytes of a message. -/
def zttHeader (b : List Byte) : ZttHdr :=
  let f := fun (i n : Nat) => beNat ((b.drop i).take n)
  ⟨f 0 2, f 2 1, f 3 1, f 4 1, f 5 1, f 6 1, f 7 1, f 8 2, f 10 2, f 12 4, f 16 2, f 18 2, f 20 2, f 22 2, f 24 4, f 28 4,
   f 32 8, f 40 4, f 44 6, f 50 4, f 54 4, f 58 1, f 59 5⟩

/-- Flags of Table 10.1. -/
def ZttHdr.present (h : ZttHdr) : Bool := bit h.flags 0
def ZttHdr.queue (h : ZttHdr) : Bool := bit h.flags 1
def ZttHdr.delta (h : ZttHdr) : Bool := bit h.flags 2
def ZttHdr.coded (h : ZttHdr) : Bool := bit h.flags 3
def ZttHdr.label (h : ZttHdr) : Bool := bit h.flags 4
def ZttHdr.restart (h : ZttHdr) : Bool := bit h.flags 6

/-- R372, with the label bytes 0 where LABEL is clear (R371). `n` is the length of the payload. -/
def ZttHdr.ok (h : ZttHdr) (n : Nat) : Bool :=
  h.magic = 0x5A54 && h.version = 1 && (h.typ = 1 || h.typ = 2) && !bit h.flags 7 && h.rsv = 0 && h.rsv2 = 0 && h.rsv3 = 0 &&
  h.len = n && h.label == (h.present || h.typ = 2) && (decide (h.w = 0) == decide (h.h = 0)) && (0 < h.w || n = 0) &&
  (if h.label then !(h.typ = 1 && bit h.lflags 0)
   else h.ident = 0 && h.alive = 0 && h.cap = 0 && h.capNs = 0 && h.crc = 0 && h.lflags = 0) &&
  (h.typ ≠ 2 || (bit h.lflags 0 && h.x = 0 && h.y = 0 && h.w = 0 && h.h = 0 && n = 0 && h.flags &&& 0x4F = 0))

/-- The label of a message as parsed (R373): malformed with a zero identity, a time out of range, or ROWS_PRESENT. -/
def ZttHdr.parsed (h : ZttHdr) : Option Label :=
  if h.ident = 0 || 1000000000 ≤ h.capNs || bit h.lflags 4 then none
  else some ⟨h.lflags % 32, h.ident, h.alive, h.cap * 1000000000 + h.capNs, h.crc, []⟩

/-! ### Arrival (Table 10.2, codes 1, 2 and the sequence) -/

/-- A message passes the sequence check: an accepted packet for Table 3.8 (R374). -/
def State.zttAccept (s : State) (n : Nat) : State :=
  let s := if s.sst n = sessJoining || s.sst n = sessStarved then
      ((s.enterSess n sessAcquiring 0).resetContinuity n).wn (0x3440 + n) 0x01 0 else s
  s.setSes n { s.ses n with last := s.clock }

/-- The newest complete version becomes the session's displayed picture (R284, R366). -/
def State.showNewest (s : State) (n : Nat) : State :=
  let g := s.gfxOf n
  let live := g.bufs.filter (fun p => p.2.complete && !p.2.replay)
  let best := live.foldl (fun (a : Option (Nat × BufS)) p =>
    match a with
    | none => some p
    | some q => if serialAfter 32 p.2.version q.2.version then some p else some q) none
  let s := s.setGfx n { g with newest := best.map (·.1) }
  s.setSes n { s.ses n with disp := best.bind (fun p => p.2.pic) }

/-- Set a buffer of a surface. -/
def State.setBuf (s : State) (n b : Nat) (u : BufS) : State :=
  let g := s.gfxOf n
  s.setGfx n { g with bufs := g.bufs.put b u }

/-- Give a buffer a taint map; a complete version's picture shows it (R251). -/
def State.taintBuf (s : State) (n b : Nat) (taint : List Nat) : State :=
  let u := (s.gfxOf n).bufs.at' b {}
  (s.setBuf n b { u with taint := taint, pic := u.pic.map (fun p => { p with taint := taint }) }).showNewest n

/-- Every tile of a session's surface. -/
def State.surfaceTiles (s : State) (n : Nat) : List Nat :=
  List.range (ceilDiv (s.rn (sIdx n) 0x10) 16 * ceilDiv (s.rn (sIdx n) 0x11) 16)

/-- R383: what a gap does to the surface and the context. -/
def State.zttGap (s : State) (n : Nat) : State :=
  let g := s.gfxOf n
  let s := g.bufs.foldl (fun s p =>
    if g.newest = some p.1 then s.setBuf n p.1 { p.2 with gap := true } else s.taintBuf n p.1 (s.surfaceTiles n)) s
  (s.setCtx n { s.ctx n with await := true }).wn (0x5810 + n) 0x11 11

/-- The session a message maps to (R371): the UDP port and destination, or the ring's parameter. -/
def State.zttSession (s : State) (via : ZttVia) : Option Nat :=
  match via with
  | .udp p dst src dport sport =>
    let i : IpInfo :=
      ⟨decide (dst.length = 16), true, false, false, false, false, true, false, true, dst, src, sport, dport⟩
    match s.udpSession p i false with
    | some n => if s.kind n = 2 then some n else none
    | none => none
  | .ring q => some (s.ring q).param

/-- Whether a session may take messages from where one came (R381 code 2, R499). -/
def State.zttOpen (s : State) (via : ZttVia) (n : Nat) : Bool :=
  s.admitted n && (match via with | .udp .. => s.kind n = 2 | .ring _ => s.kind n = 3)

/-- Table 10.2 up to the sequence: the message waits for an engine, or is discarded. -/
def State.zttArrive (s : State) (n : Nat) (via : ZttVia) (desc : Nat) (b : List Byte) : State :=
  let h := zttHeader b
  let i := 0x5810 + n
  let g := s.gfxOf n
  let m : ZttWait := ⟨n, via, desc, h, b.drop 64, s.clock, false, false⟩
  if b.length < 64 || !h.ok (b.length - 64) then s.zttFail m 1
  else if h.sess ≠ n || !s.zttOpen via n then s.zttFail m 2
  else
    let prev := g.expected.map (fun e => wrapDec 32 e)
    let dup : Bool := match prev with
      | some p => !serialAfter 32 h.seq p
      | none => false
    let gap : Bool := match g.expected with
      | some e => decide (h.seq ≠ e)
      | none => false
    if dup then
      let s := s.bump (coderKey 0) i 0x0F
      match via with
      | .ring _ => s.zttReply m 0 0 true false
      | .udp .. => s
    else
      let ahead : Bool := s.zttQ.any (fun x => x.sess = n) || s.engines.any (fun p => p.2.sess = n)
      let s := s.setGfx n { g with expected := some ((h.seq + 1) % 2 ^ 32) }
      let s := s.zttAccept n
      let s := if gap then ((s.bump (coderKey 0) i 0x0F).bump (coderKey 0) i 0x0E).bump (coderKey 0) 0x5800 0x05 else s
      let s := if gap && !ahead then s.zttGap n else s
      { s with zttQ := s.zttQ ++ [{ m with gap := gap, defer := gap && ahead }] }

/-- ZTT_MESSAGE (R371, R381, R498): over UDP to an open session of kind 2 on a port that is up; over PCIe as the next
descriptor of a kind 1 ring, which must be valid (R497, Table 14.7). -/
def State.zttMessage (s : State) (m : ZttIn) (b : List Byte) : State :=
  let via := m.via
  match m with
  | .udp p .. =>
    if !s.portHears p then s
    else match s.zttSession via with
      | some n => s.zttArrive n via 0 b
      | none => s
  | .ring q w =>
    match s.fetchDesc q 1 with
    | none => s
    | some (d, s) =>
      let e := readDesc ⟨w, b⟩
      if !plainDesc e || e.stampReq || e.lenA < 64 || 37748800 < e.lenA then s.writeBack q (invalidDesc d)
      else s.zttArrive (s.ring q).param via d (b.take e.lenA)

def execZttMessage (t : Nat) (via : ZttIn) (bytes : List Byte) (s : State) : Host.Outcome State Fault Refusal :=
  .next ((s.tick t).zttMessage via bytes)

/-! ### Engines (R385, R386, R388) -/

/-- ZTT_MESSAGE_DISPATCH (R386): a free engine that serves takes the oldest message whose session has none on an engine. -/
def State.zttDispatch (s : State) (z : Nat) : State :=
  if 4 ≤ z || (s.engines.look z).isSome || !s.serves (coderKey z) || s.dieLost (z / 2) then s
  else match s.zttQ.find? (fun m => !s.engines.any (fun p => p.2.sess = m.sess)) with
    | none => s
    | some m =>
      let s := if s.engLast.look z = some m.sess then s else s.bump (coderKey z) (0x5810 + m.sess) 0x12
      { s with
        zttQ := s.zttQ.filter (· ≠ m), engines := s.engines.put z m, engLast := s.engLast.put z m.sess }

def execZttMessageDispatch (t eng : Nat) (s : State) : Host.Outcome State Fault Refusal :=
  .next ((s.tick t).zttDispatch eng)

/-- Tiles of a surface a rectangle touches, and those it covers wholly, edge tiles by their part inside (R369). -/
def State.rectTiles (s : State) (n : Nat) (h : ZttHdr) (whole : Bool) : List Nat :=
  let w := s.rn (sIdx n) 0x10
  let ht := s.rn (sIdx n) 0x11
  let r : Rect := ⟨h.x, h.x + h.w, h.y, h.y + h.h⟩
  (r.tiles.filter (fun t => !whole ||
    (r.x0 ≤ 16 * t.1 && min w (16 * t.1 + 16) ≤ r.x1 && r.y0 ≤ 16 * t.2 && min ht (16 * t.2 + 16) ≤ r.y1))).map
    (fun t => t.2 * ceilDiv w 16 + t.1)

/-- A write that fails after decoding has begun taints every tile its rectangle touches (R369). -/
def State.taintRect (s : State) (n : Nat) (h : ZttHdr) : State :=
  match (s.gfxOf n).bufs.look h.buf with
  | some u => s.taintBuf n h.buf ((s.rectTiles n h false ++ u.taint).eraseDups)
  | none => s

/-- R388: an engine that becomes DEAD loses its message. -/
def State.engineLost (s : State) (z : Nat) : State :=
  match s.engines.look z with
  | none => s
  | some m =>
    let s := { s with engines := s.engines.cut z }
    let s := s.taintRect m.sess m.hdr
    s.setCtx m.sess { s.ctx m.sess with await := true }

/-! ### Applying a message (Table 10.4 step 3, R366 to R369) -/

/-- Outcome F (R382): the context of a coded message goes to awaiting reset, with one event. -/
def State.zttF (s : State) (m : ZttWait) (err : Nat) : State :=
  let n := m.sess
  let s := if m.hdr.coded then
      (s.setCtx n { s.ctx n with await := true }).raise (coderKey 0) 0x0901 2 [(8, n)]
    else s
  s.zttFail m err

/-- Rows of pixels into a buffer's bytes. -/
def putRows (stride : Nat) (at' row : Nat) : Nat → List Host.Cell → List Byte → List Host.Cell
  | 0, d, _ => d
  | k + 1, d, px => putRows stride (at' + stride) row k (cellsWrite d at' (px.take row)) (px.drop row)

/-- A write's pixels land in its buffer (R366, R368, R369, R383). -/
def State.zttWrite (s : State) (n : Nat) (h : ZttHdr) (px : List Byte) : State :=
  let u := (s.gfxOf n).bufs.at' h.buf {}
  let bpp := bytesPerPixel h.fmt
  let stride := s.rn (sIdx n) 0x10 * bpp
  let other := decide (u.fmt ≠ some h.fmt)
  let taint := if u.gap || (other && u.fmt.isSome) then s.surfaceTiles n else u.taint
  let cov := s.rectTiles n h true
  let data := putRows stride (h.y * stride + h.x * bpp) (h.w * bpp) h.h (if other then [] else u.data) px
  (s.setBuf n h.buf { u with
    fmt := some h.fmt, complete := false, taint := taint.filter (fun t => !cov.contains t), data := data, gap := false,
    pic := none }).showNewest n

/-- R369: CRC-32 over a buffer's bytes in raster order with its own stride; bytes that nothing has written read 0 (log 7). -/
def State.surfaceCrc (s : State) (n : Nat) (u : BufS) : Nat :=
  crc 0 (cellsRead u.data 0 (s.rn (sIdx n) 0x10 * s.rn (sIdx n) 0x11 * bytesPerPixel (u.fmt.getD 0)))

/-- A version is presented (R366, R369, R370, R373): its number, its label under Table 1.3, and whether it is clean. -/
def State.zttPresent (s : State) (n : Nat) (h : ZttHdr) : State :=
  let g := s.gfxOf n
  let p := s.labelled n 0 h.parsed
  let s := p.1
  let au := p.2
  let u := (s.gfxOf n).bufs.at' h.buf {}
  let w := s.rn (sIdx n) 0x10
  let ht := s.rn (sIdx n) 0x11
  let bad : Bool := match au.crc with
    | some c => decide (s.surfaceCrc n u ≠ c)
    | none => false
  let taint := if bad then s.surfaceTiles n else u.taint
  let old := (s.ses n).disp
  let cap := if au.judge = .again then (old.map (·.cap)).getD none else au.cap
  let pic : PicS := {
    num := g.nextVer, w := w, h := ht, codedW := w, codedH := ht, taint := taint, cap := cap, alive := au.alive
    grade := au.grade, crcBad := bad, graphics := true, surface := h.buf }
  let u := { u with
    complete := true, version := g.nextVer, taint := taint, replay := decide (au.judge = .replay), pic := some pic }
  let s := s.setGfx n { s.gfxOf n with bufs := (s.gfxOf n).bufs.put h.buf u, nextVer := wrapInc 32 g.nextVer }
  let s := if bad then s.bump (procKey 0 .med) 0x5000 0x12 else s
  let s := s.showNewest n
  if au.judge ≠ .replay && taint.isEmpty then s.cleanPicture n else s

/-- A write takes effect: its pixels, then its PRESENT (R367); the relays of the session send it on (R574). -/
def State.zttEffect (s : State) (m : ZttWait) (px : List Byte) : State :=
  let s := if 0 < m.hdr.w then s.zttWrite m.sess m.hdr px else s
  let s := if m.hdr.present then s.zttPresent m.sess m.hdr else s
  s.relayMessage m.sess m.hdr px

/-- The queue's objects 0x4300:0E and :0F. -/
def State.refreshQueue (s : State) : State :=
  (s.wn 0x4300 0x0E s.queued.length).wn 0x4300 0x0F ((s.queued.map (fun q => q.pixels.length)).foldl (· + ·) 0)

/-- A message is accepted: its counters. -/
def State.zttCount (s : State) (n : Nat) : State := (s.bump (coderKey 0) (0x5810 + n) 0x0D).bump (coderKey 0) 0x5800 0x04

/-- The answer to a message that passed: error 11 where it came after a gap (R383). -/
def gapErr (m : ZttWait) : Nat := if m.gap then 11 else 0

/-- A write into a leased buffer, or one with queued writes (R292, R293). -/
def State.zttLeased (s : State) (m : ZttWait) (px : List Byte) : State :=
  let total := (s.queued.map (fun q => q.pixels.length)).foldl (· + ·) 0
  if !m.hdr.queue then (s.bump (coderKey 0) 0x4300 0x10).zttReply m 2 (gapErr m) true false
  else if 256 ≤ s.queued.length || 16777216 < total + px.length then
    (s.bump (coderKey 0) 0x4300 0x12).zttReply m 3 (gapErr m) true false
  else
    let s := { s with queued := s.queued ++ [QWrite.mk { m with gap := false } px] }
    ((s.bump (coderKey 0) 0x4300 0x11).refreshQueue).zttReply m 1 (gapErr m) false false

/-- A heartbeat's label on the newest complete version (R374, Tables 1.2 and 1.3): its pixels stay, the luma CRC is compared. -/
def State.zttHeartbeat (s : State) (m : ZttWait) : State :=
  let n := m.sess
  match (s.gfxOf n).newest with
  | none => s.zttFail m 13
  | some b =>
    let p := s.labelled n 0 m.hdr.parsed
    let s := p.1
    let u := (s.gfxOf n).bufs.at' b {}
    let pic := if p.2.judge = .fresh && p.2.heartbeat then
        u.pic.map (fun q => { q with alive := p.2.alive, cap := p.2.cap, grade := p.2.grade })
      else u.pic
    let bad : Bool := match p.2.crc with
      | some c => decide (s.surfaceCrc n u ≠ c)
      | none => false
    let s := (s.setBuf n b { u with pic := pic }).showNewest n
    let s := if bad then (s.bump (procKey 0 .med) 0x5000 0x12).taintBuf n b (s.surfaceTiles n) else s
    let s := s.relayMessage n m.hdr []
    ((s.bump (coderKey 0) (0x5810 + n) 0x10).zttCount n).zttReply m 0 (gapErr m) true false

/-- A DATA message's pixels: the error of Table 10.2 from code 8 on (0 none), the state with the context after decoding, and
the rectangle's bytes. -/
def State.zttDecode (s : State) (m : ZttWait) (need : Nat) : Nat × State × List Byte :=
  let n := m.sess
  let h := m.hdr
  let bpp := bytesPerPixel h.fmt
  let undo := fun (px : List Byte) => if h.delta then undoDelta bpp (h.w * bpp) h.h px else px
  if h.coded then
    let x := s.ctx n
    let bits := byteBits m.payload
    let r := decodeRun (primed (s.primer n)) need (bits.length + 1) x.learnt x.prev bits []
    (r.err, s.setCtx n { x with learnt := r.learnt, prev := r.prev }, undo r.out)
  else if m.payload.length = need then (0, s, undo m.payload) else (9, s, [])

/-- Table 10.2 from code 10 on, and the message's effect. -/
def State.zttApply (s : State) (m : ZttWait) : State :=
  let n := m.sess
  let h := m.hdr
  let i := 0x5810 + n
  let s := if m.defer then s.zttGap n else s
  let await := (s.ctx n).await
  if await && h.coded && !h.restart then s.zttFail m 10
  else
    let s := if h.restart then s.primeCtx n await else s
    let g := s.gfxOf n
    let need := h.w * h.h * bytesPerPixel h.fmt
    match g.bufs.look h.buf with
    | none => s.zttF m 4
    | some u =>
      if s.rn (sIdx n) 0x10 < h.x + h.w || s.rn (sIdx n) 0x11 < h.y + h.h then s.zttF m 3
      else if h.cls ≠ s.rn i 0x02 then s.zttF m 12
      else if h.typ = 2 then s.zttHeartbeat m
      else if 0 < h.w && (3 < h.fmt || (!u.complete && u.fmt.isSome && u.fmt ≠ some h.fmt)) then s.zttF m 5
      else if s.rn i 0x03 < need && 0 < h.w then s.zttF m 6
      else if h.coded && s.rn i 0x04 * m.payload.length < need && 0 < h.w then s.zttF m 7
      else
        let leased := u.leased || s.queued.any (fun q => q.msg.sess = n && q.msg.hdr.buf = h.buf)
        let d := if 0 < h.w then s.zttDecode m need else (0, s, [])
        let s := d.2.1
        if d.1 ≠ 0 then (s.taintRect n h).zttF m d.1
        else
          let s := if h.restart && h.coded then s.setCtx n { s.ctx n with await := false } else s
          let s := s.zttCount n
          if leased then s.zttLeased m d.2.2
          else (s.zttEffect m d.2.2).zttReply m 0 (gapErr m) true false

/-- ZTT_MESSAGE_APPLIED (R366, R381): the message on an engine is applied. -/
def State.zttApplied (s : State) (z : Nat) : State :=
  match s.engines.look z with
  | none => s
  | some m => { s with engines := s.engines.cut z }.zttApply m

def execZttMessageApplied (t eng : Nat) (s : State) : Host.Outcome State Fault Refusal :=
  .next ((s.tick t).zttApplied eng)

/-! ### Leases that end (R293, R294) -/

/-- The queued writes of a buffer take effect in arrival order. -/
def State.applyQueued (s : State) (qs : List QWrite) : State :=
  qs.foldl (fun s q => (s.zttEffect q.msg q.pixels).zttReply q.msg 0 0 true true) s

/-- LEASE_END (R291, R294): no layer selects the buffer and every read of it has ended. -/
def State.leaseEnd (s : State) (n b : Nat) : State :=
  let u := (s.gfxOf n).bufs.at' b {}
  if !u.leased || s.bufRead n b then s
  else
    let mine := fun (q : QWrite) => decide (q.msg.sess = n) && decide (q.msg.hdr.buf = b)
    let qs := s.queued.filter mine
    let s := s.setBuf n b { u with leased := false }
    let s := { s with queued := s.queued.filter (fun q => !mine q) }
    ((s.applyQueued qs).refreshQueue).refreshLeases

def execLeaseEnd (t n b : Nat) (s : State) : Host.Outcome State Fault Refusal :=
  .next ((s.tick t).leaseEnd n b)

/-- LEASE_WAIT_LIMIT (R293): queued writes whose wait has run are discarded with status 4. -/
def State.leaseLimit (s : State) : State :=
  let late := fun (q : QWrite) => decide (q.msg.arrived + s.rn 0x4300 0x07 * msTicks ≤ s.clock)
  let out := s.queued.filter late
  let s := { s with queued := s.queued.filter (fun q => !late q) }
  (out.foldl (fun s q => (s.bump (coderKey 0) 0x4300 0x12).zttReply q.msg 4 0 true true) s).refreshQueue

def execLeaseWaitLimit (t : Nat) (s : State) : Host.Outcome State Fault Refusal :=
  .next ((s.tick t).leaseLimit)

end Sys2Proof.Machine
end

