-- ==== Sys2Proof/Machine/Touch.lean ====
section
/-! DEFINITION. Console touch (chapter 11): scanning and hopping (R400 to R405), baselines (R406 to R411), salt film (R412,
R413), contacts (R414 to R419), privileged zones (R420 to R424), wake strokes (R425) and reports (R426). -/

namespace Sys2Proof.Machine

/-! ### Ports -/

/-- Scan states (R406). -/
def scanOff : Nat := 0
def scanAcquiring : Nat := 1
def scanScanning : Nat := 2
def scanWake : Nat := 3
def scanLost : Nat := 4

/-- Indices, the scan state and rows of a port and its zones. -/
def tIdx (p : Nat) : Nat := 0x5410 + p
def zIdx (p z : Nat) : Nat := 0x5440 + 16 * p + z
def State.scan (s : State) (p : Nat) : Nat := s.rn (tIdx p) 0x1C
def State.tch (s : State) (p : Nat) : TouchS := s.touch.at' p {}
def State.setTch (s : State) (p : Nat) (g : TouchS) : State := { s with touch := s.touch.put p g }
def TouchS.zone (g : TouchS) (z : Nat) : ZoneS := g.zones.at' z {}
def State.setZone (s : State) (p z : Nat) (x : ZoneS) : State := s.setTch p { s.tch p with zones := (s.tch p).zones.put z x }

/-- Lines in force, and whether the port scans in glove/hover mode: never in WAKE SCAN (R425). -/
def State.nd (s : State) (p : Nat) : Nat := s.fn (tIdx p) 0x03
def State.ns (s : State) (p : Nat) : Nat := s.fn (tIdx p) 0x04
def State.glove (s : State) (p : Nat) : Bool := s.fn (tIdx p) 0x02 = 1 && s.scan p ≠ scanWake

/-- Frames per second and cycles of a burst (Table 11.1). -/
def State.scanRate (s : State) (p : Nat) : Nat := if s.scan p = scanWake then 30 else if s.glove p then 60 else 120
def State.scanCycles (s : State) (p : Nat) : Nat := if s.glove p then 24 else 8

/-- The reference of the mode in force, whether it is valid (R409), and its count at a node. -/
def State.reference (s : State) (p : Nat) : List Byte := s.rb (tIdx p) (if s.glove p then 0x1A else 0x19)
def State.refOk (s : State) (p : Nat) : Bool :=
  let b := s.reference p
  b.length = 4 + 2 * (s.nd p * s.ns p) && b[1]? = some (BitVec.ofNat 8 (s.nd p)) && b[2]? = some (BitVec.ofNat 8 (s.ns p))
def State.refCount (s : State) (p i : Nat) : Nat := leNat (((s.reference p).drop (4 + 2 * i)).take 2)

/-- Enabled zones, their nodes, and the zone of a node. -/
def State.zoneOn (s : State) (p z : Nat) : Bool := s.rn (zIdx p z) 0x01 = 1
def State.inZone (s : State) (p z d n : Nat) : Bool :=
  let i := zIdx p z
  s.rn i 0x02 ≤ d && d ≤ s.rn i 0x03 && s.rn i 0x04 ≤ n && n ≤ s.rn i 0x05
def State.zonesOn (s : State) (p : Nat) : List Nat := (List.range 16).filter (s.zoneOn p)
def State.zoneAt (s : State) (p d n : Nat) : Option Nat := (s.zonesOn p).find? (fun z => s.inZone p z d n)

/-- The middle of sorted numbers: the lower of two. -/
def insertInt (a : Int) : List Int → List Int
  | [] => [a]
  | b :: bs => if a ≤ b then a :: b :: bs else b :: insertInt a bs
def sortInts (l : List Int) : List Int := l.foldl (fun a x => insertInt x a) []
def lowMedian (l : List Int) : Int := ((sortInts l)[(l.length - 1) / 2]?).getD 0

/-- R408's median: of two middle values their mean, rounded towards zero. -/
def meanMedian (l : List Int) : Int :=
  let a := lowMedian l
  let b := ((sortInts l)[l.length / 2]?).getD 0
  (a + b).tdiv 2

/-! ### Zone states (R422, Table 11.5) -/

/-- Milliseconds from the start of a frame to the start of another. -/
def msSince (a b : Nat) : Nat := (b - a) / 1000000

/-- R423: add to a zone's hold time (S32) the whole milliseconds passed since it was last brought up to date, which
started at the first touched frame. -/
def State.zoneHeld (s : State) (p z : Nat) : State :=
  let x := (s.tch p).zone z
  let ms := msSince x.from' (s.nowAt p)
  (s.setZone p z { x with from' := x.from' + ms * 1000000 }).bump (touchKey p) (zIdx p z) 0x08 ms

/-- Set a zone's state and reason; a change of state is one event. A zone that leaves HELD has its hold time brought up to date first. -/
def State.zoneSet (s : State) (p z st reason : Nat) : State :=
  let i := zIdx p z
  let old := s.rn i 0x06
  let s := if old = 1 && st ≠ 1 then s.zoneHeld p z else s
  let s := (s.wn i 0x06 st).wn i 0x07 (if st = 2 then reason else 0)
  if old = st then s
  else s.raise (touchKey p) 0x0A07 (if st = 3 then 2 else 1)
    [(8, p), (32, s.rn i 0x08), (8, z), (8, old), (8, st), (8, if st = 2 then reason else 0)]

/-- A zone becomes LATCHED: its debounce runs and clear timer start over. -/
def State.zoneLatch (s : State) (p z reason : Nat) : State :=
  let x := (s.tch p).zone z
  (s.setZone p z { x with touched := 0, clear := 0, timer := none }).zoneSet p z 2 reason

/-- Every enabled zone of a port is LATCHED with a reason. -/
def State.latchZones (s : State) (p reason : Nat) : State := (s.zonesOn p).foldl (fun s z => s.zoneLatch p z reason) s

/-! ### Scan states (Table 11.4) -/

/-- Port flags 0x5410+p:1F. -/
def State.touchFlag (s : State) (p b : Nat) (v : Bool) : State := s.wn (tIdx p) 0x1F (setBit (s.rn (tIdx p) 0x1F) b v)

/-- The port begins to acquire (R407), from a stop at the start frequency with nothing measured. -/
def State.acquireTouch (s : State) (p : Nat) (fresh : Bool) : State :=
  let g := s.tch p
  let s := s.setTch p { g with
    first := true, acq := 0, change := false, contacts := [], nodes := g.nodes.map (fun n => { n with n := 0, sum := 0 }) }
  let s := s.wn (tIdx p) 0x1C scanAcquiring
  if fresh then
    let s := s.setTch p { s.tch p with frames := [], hopTo := none, severe := false, since := none, last := none }
    (s.wn (tIdx p) 0x1D (s.rn (tIdx p) 0x09)).wb (tIdx p) 0x1E (List.replicate 32 0xFF)
  else s

/-- The port stops scanning: OFF or LOST, its zones LATCHED with reason 5. -/
def State.stopTouch (s : State) (p st : Nat) : State :=
  if s.scan p = scanLost then s
  else
    let s := s.setTch p { s.tch p with frames := [], contacts := [], change := false }
    (s.wn (tIdx p) 0x1C st).latchZones p 5

/-- Whether touch runs: the dictionary loaded and the package not quiet. -/
def State.awake (s : State) : Bool := s.power.phase = .booting || s.power.phase = .running

/-- A write of 0x5410+p:01. -/
def touchEnable (p : Nat) (s : State) (v : Val) : State × Nat :=
  let s' := s.wv (tIdx p) 0x01 v
  if v.int = 0 then (s'.stopTouch p scanOff, 0)
  else if s.scan p = scanOff && s.awake then (s'.acquireTouch p true, 0)
  else (s', 0)

/-- TOUCH_PORT_ENABLE (Table 11.4). -/
def execTouchPortEnable (t : Nat) (r : Req) (p : Nat) (s : State) : Host.Outcome State Fault Refusal :=
  .next ((s.tick t).request r (tIdx p) 0x01 [1] (touchEnable p))

/-- TOUCH_PORT_DISABLE (Table 11.4). -/
def execTouchPortDisable (t : Nat) (r : Req) (p : Nat) (s : State) : Host.Outcome State Fault Refusal :=
  .next ((s.tick t).request r (tIdx p) 0x01 [0] (touchEnable p))

/-- R401: whether a table, mask and start index go together. -/
def freqOk (tab : List Byte) (mask start : Nat) : Bool :=
  let f := words 2 16 tab
  tab.length = 32 && f.all (fun k => 100 ≤ k && k ≤ 500) && f.eraseDups.length = 16 && 2 ≤ popCount 16 mask && bit mask start

/-- Writes to 0x5410+p:02 to :18 (R401, Tables 11.4 and 11.9): in force from the next frame start; :02 to :06 make the port
acquire again. -/
def touchWrite (p sub : Nat) (s : State) (v : Val) : State × Nat :=
  let i := tIdx p
  let n := v.int.toNat
  let s' := s.wv i sub v
  if (sub = 0x07 || sub = 0x08 || sub = 0x09) && !freqOk (s'.rb i 0x07) (s'.rn i 0x08) (s'.rn i 0x09) then (s, 6)
  else if sub = 0x0E && n < s.rn i 0x0F then (s, 6)
  else if sub = 0x0F && (n < s.rn i 0x10 || s.rn i 0x0E < n) then (s, 6)
  else if sub = 0x10 && s.rn i 0x0F < n then (s, 6)
  else if 2 ≤ sub && sub ≤ 6 then (s'.setTch p { s'.tch p with change := true }, 0)
  else (s', 0)

/-- TOUCH_GEOMETRY_WRITE (Table 11.4): a write to :02 to :06. -/
def execTouchGeometryWrite (t : Nat) (r : Req) (p sub v : Nat) (s : State) : Host.Outcome State Fault Refusal :=
  .next ((s.tick t).request r (tIdx p) sub (leBytes (if sub ≤ 4 then 1 else 2) v)
    (fun s v => if 2 ≤ sub && sub ≤ 6 then touchWrite p sub s v else (s, 6)))

/-- A node's baseline from an average: an ordinary node's average; a privileged node's reference and offset (R408). -/
def State.nodeBase (s : State) (p i avg : Nat) (offset : Int) : Int :=
  if (s.zoneAt p (i / s.ns p) (i % s.ns p)).isSome && s.refOk p then (s.refCount p i : Int) + offset else avg

/-- R408's offset from the averages held. -/
def State.touchOffset (s : State) (p : Nat) : Int :=
  let ns := (s.tch p).nodes.zipIdx
  if !s.refOk p then 0
  else meanMedian ((ns.filter (fun q => !q.1.fault && (s.zoneAt p (q.2 / s.ns p) (q.2 % s.ns p)).isNone)).map
    (fun q => (q.1.avg : Int) - s.refCount p q.2))

/-- Baselines from the averages held, of every node or of the privileged ones. -/
def State.setBases (s : State) (p : Nat) (all : Bool) : State :=
  let off := s.touchOffset p
  let g := s.tch p
  s.setTch p { g with
    offset := off,
    nodes := g.nodes.zipIdx.map (fun q =>
      if all || (s.zoneAt p (q.2 / s.ns p) (q.2 % s.ns p)).isSome then { q.1 with base := s.nodeBase p q.2 q.1.avg off } else q.1) }

/-- Keep a value in the persistent area of the flash, where it can still be programmed (R409, R603). -/
def State.persist (s : State) (idx sub : Nat) (v : Val) : State :=
  let s := s.wv idx sub v
  if s.power.fail then s else { s with flash := { s.flash with refs := s.flash.refs.put (key idx sub) v } }

/-- Commands of 0x5410+p:1B (R409, Table 11.9). Command 1 stores the average of R407 of the last acquisition (log 21). -/
def touchCommand (p : Nat) (s : State) (v : Val) : State × Nat :=
  let i := tIdx p
  let g := s.tch p
  if v.int = 1 then
    if s.scan p ≠ scanScanning || g.contacts.any (·.shown) || bit (s.rn i 0x1F) 0 || g.nodes.any (·.fault) then (s, 7)
    else
      let img := leBytes 1 (s.rn i 0x21) ++ leBytes 1 (s.nd p) ++ leBytes 1 (s.ns p) ++ [0] ++
        g.nodes.flatMap (fun n => leBytes 2 n.avg)
      let s := ((s.persist i (if s.glove p then 0x1A else 0x19) (.bytes img)).touchFlag p 2 false).setBases p false
      ((s.zonesOn p).foldl (fun s z =>
        let s := s.setZone p z { (s.tch p).zone z with mismatch := false }
        if s.rn (zIdx p z) 0x06 = 2 && s.rn (zIdx p z) 0x07 = 2 then s.zoneLatch p z 1 else s) s, 0)
  else if v.int = 2 then
    if s.scan p = scanScanning || s.scan p = scanAcquiring then ((s.latchZones p 5).acquireTouch p false, 0) else (s, 7)
  else
    let s := (s.persist i 0x19 (.bytes [])).persist i 0x1A (.bytes [])
    (s.touchFlag p 2 true, 0)

/-- TOUCH_CAPTURE_REFERENCE (R409). -/
def execTouchCaptureReference (t : Nat) (r : Req) (p : Nat) (s : State) : Host.Outcome State Fault Refusal :=
  .next ((s.tick t).request r (tIdx p) 0x1B [1] (touchCommand p))

/-- TOUCH_ACQUIRE_BASELINES (Table 11.9). -/
def execTouchAcquireBaselines (t : Nat) (r : Req) (p : Nat) (s : State) : Host.Outcome State Fault Refusal :=
  .next ((s.tick t).request r (tIdx p) 0x1B [2] (touchCommand p))

/-- TOUCH_ERASE_REFERENCES (R409). -/
def execTouchEraseReferences (t : Nat) (r : Req) (p : Nat) (s : State) : Host.Outcome State Fault Refusal :=
  .next ((s.tick t).request r (tIdx p) 0x1B [3] (touchCommand p))

/-- Whether two zones of a port share a node. -/
def State.zonesMeet (s : State) (p z y : Nat) : Bool :=
  let a := zIdx p z
  let b := zIdx p y
  s.rn a 0x02 ≤ s.rn b 0x03 && s.rn b 0x02 ≤ s.rn a 0x03 && s.rn a 0x04 ≤ s.rn b 0x05 && s.rn b 0x04 ≤ s.rn a 0x05

/-- A write to a zone's objects (R420). -/
def zoneWrite (p z sub : Nat) (s : State) (v : Val) : State × Nat :=
  let i := zIdx p z
  if sub = 0x01 then
    if v.int = 0 then
      if s.rn i 0x01 = 0 then (s, 0)
      else ((s.zoneLatch p z 3).wv i 0x01 v, 0)
    else if s.rn i 0x03 < s.rn i 0x02 || s.rn i 0x05 < s.rn i 0x04 || s.rn (tIdx p) 0x03 ≤ s.rn i 0x03 ||
        s.rn (tIdx p) 0x04 ≤ s.rn i 0x05 || (s.zonesOn p).any (fun y => y ≠ z && s.zonesMeet p z y) then (s, 6)
    else
      let s := (s.wv i 0x01 v).setZone p z { mismatch := s.rn i 0x01 = 1 && ((s.tch p).zone z).mismatch }
      (s.zoneLatch p z (if s.refOk p then 3 else 2), 0)
  else if s.rn i 0x01 = 1 then (s, 7)
  else (s.wv i sub v, 0)

/-- ZONE_ENABLE and ZONE_DISABLE (R420): `z` counts the zones of both ports from 0. -/
def execZoneEnable (t : Nat) (r : Req) (z : Nat) (s : State) : Host.Outcome State Fault Refusal :=
  .next ((s.tick t).request r (0x5440 + z) 0x01 [1] (zoneWrite (z / 16) (z % 16) 0x01))

def execZoneDisable (t : Nat) (r : Req) (z : Nat) (s : State) : Host.Outcome State Fault Refusal :=
  .next ((s.tick t).request r (0x5440 + z) 0x01 [0] (zoneWrite (z / 16) (z % 16) 0x01))

/-! ### Frame starts (R400 to R405) -/

/-- The next enabled index after one, in ascending order with wrap, skipping the current. -/
def nextIndex (mask cur prev : Nat) : Nat :=
  (((List.range 16).map (fun k => (prev + 1 + k) % 16)).find? (fun j => bit mask j && j ≠ cur)).getD cur

/-- A noise estimate of the table 0x5410+p:1E. -/
def State.estimate (s : State) (p j : Nat) : Nat := leNat (((s.rb (tIdx p) 0x1E).drop (2 * j)).take 2)
def State.setEstimate (s : State) (p j v : Nat) : State :=
  s.wb (tIdx p) 0x1E ((List.range 16).flatMap (fun k => leBytes 2 (if k = j then v else s.estimate p k)))

/-- A hop takes effect (R405): counted, with one event. -/
def State.hop (s : State) (p next : Nat) : State :=
  let old := s.rn (tIdx p) 0x1D
  ((s.wn (tIdx p) 0x1D next).bump (touchKey p) (tIdx p) 0x23).raise (touchKey p) 0x0A02 1 [(8, p), (8, old), (8, next)]

/-- TOUCH_FRAME_START (R400): at the mode's period. Writes come into force; a decided hop takes effect. -/
def State.touchStart (s : State) (p : Nat) : State :=
  let i := tIdx p
  let g := s.tch p
  let st := s.scan p
  let due : Bool := match g.last with
    | some a => decide (a + 1000000000 / s.scanRate p ≤ s.nowAt p)
    | none => true
  if 2 ≤ p || st = scanOff || st = scanLost || !due then s
  else
    let noise : Bool := s.val i 0x07 ≠ s.fval i 0x07 || s.val i 0x08 ≠ s.fval i 0x08
    let s := ((List.range 0x17).map (· + 2)).foldl (fun s k => s.setForce i k (s.val i k)) s
    let s := if noise then s.wb i 0x1E (List.replicate 32 0xFF) else s
    let mask := s.fn i 0x08
    let cur := s.rn i 0x1D
    let hops := if !bit mask cur then some (s.fn i 0x09) else g.hopTo
    let s := match hops with
      | some j => s.hop p j
      | none => s
    let s := if g.change then
        (if st = scanWake then s.setTch p { s.tch p with change := false } else (s.latchZones p 1).acquireTouch p false) else s
    let g := s.tch p
    let cur := s.rn i 0x1D
    let cand := nextIndex mask cur g.cand
    let n := s.nd p * s.ns p
    let nodes := if g.nodes.length = n then g.nodes else List.replicate n {}
    s.setTch p { g with
      frames := g.frames ++ [⟨g.num, s.nowAt p, cur, cand, hops.isSome⟩], num := wrapInc 32 g.num, last := some (s.nowAt p),
      cand := cand, hopTo := none, since := if hops.isSome then some 0 else g.since.map (· + 1), nodes := nodes }

def execTouchFrameStart (t p : Nat) (s : State) : Host.Outcome State Fault Refusal :=
  .next ((s.tick t).touchStart p)

/-- R403: one measurement into an estimate. -/
def State.measure (s : State) (p j m : Nat) : State :=
  let e := s.estimate p j
  s.setEstimate p j (if e = 0xFFFF then m else (3 * e + m + 2) / 4)

/-- R404: the decision at the end of a frame. -/
def State.hopDecide (s : State) (p : Nat) (f : TFrame) (m : Nat) : State :=
  let i := tIdx p
  let g := s.tch p
  let e := s.estimate p f.cur
  let sev := s.fn i 0x0C < m
  let severe := sev && g.severe
  let bad := s.fn i 0x0A < e || severe
  let ok := fun (j : Nat) => bit (s.fn i 0x08) j && j ≠ f.cur && s.estimate p j ≠ 0xFFFF
  let best := ((List.range 16).filter ok).foldl (fun (a : Option Nat) j =>
    match a with
    | none => some j
    | some b => if s.estimate p j < s.estimate p b then some j else some b) none
  let room : Bool := match best with
    | some j => decide (s.estimate p j + s.fn i 0x0B ≤ e)
    | none => false
  let rested : Bool := severe || (match g.since with | some k => decide (8 ≤ k) | none => true)
  let s := s.setTch p { g with severe := sev, hopTo := if bad && room && rested then best else none }
  if bad && !(room && rested) then s.touchFlag p 1 true
  else if e ≤ s.fn i 0x0A then s.touchFlag p 1 false else s

/-! ### Nodes (R399, R407 to R412) -/

/-- One node's fault runs from its count; a node whose fault clears is acquired again (R399). -/
def NodeS.faults (n : NodeS) (c : Nat) : NodeS :=
  let rail := decide (c = 0) || decide (c = 4095)
  let bad := if rail then min 3 (n.bad + 1) else 0
  let good := if rail then 0 else min 3 (n.good + 1)
  if n.fault && 3 ≤ good then { n with fault := false, bad := 0, good := good, again := true, n := 0, sum := 0 }
  else { n with fault := n.fault || 3 ≤ bad, bad := bad, good := good }

/-- Fault tracking of a used frame, with an event for each new fault. -/
def State.nodeFaults (s : State) (p : Nat) (counts : List Nat) : State :=
  let g := s.tch p
  let old := g.nodes
  let nodes := (old.zip counts).map (fun q => q.1.faults q.2)
  let s := s.setTch p { g with nodes := nodes }
  let s := ((old.zip nodes).zipIdx.filter (fun q => !q.1.1.fault && q.1.2.fault)).foldl (fun s q =>
    s.raise (touchKey p) 0x0A01 1 [(8, p), (8, q.2 / s.ns p), (8, q.2 % s.ns p)]) s
  let k := (nodes.filter (·.fault)).length
  (s.wn (tIdx p) 0x22 k).touchFlag p 3 (0 < k)

/-- A node that is acquired again: after the frame in which its fault cleared, its average over 8 used frames (R399, R407). -/
def State.reacquire (s : State) (p : Nat) (counts : List Nat) : State :=
  let g := s.tch p
  s.setTch p { g with nodes := ((g.nodes.zip counts).zipIdx).map (fun q =>
    let n := q.1.1
    if !n.again || n.fault then n
    else if n.n = 0 then { n with n := 1 }
    else if n.n < 8 then { n with n := n.n + 1, sum := n.sum + q.1.2 }
    else
      let avg := (n.sum + q.1.2) / 8
      { n with n := 0, sum := 0, again := false, avg := avg, base := s.nodeBase p q.2 avg g.offset }) }

/-- R407: a frame while the port acquires. The first is discarded and chooses the quantum code (R398: free, but for a
reference's own). -/
def State.acquireFrame (s : State) (p : Nat) (counts : List Nat) : State :=
  let i := tIdx p
  let g := s.tch p
  if g.first then
    let r := s.fresh
    let code := if s.refOk p then ((s.reference p).head?.map (·.toNat)).getD 0 else r.1 % 16
    let s := if s.refOk p then s else r.2
    ((s.setTch p { s.tch p with first := false }).wn i 0x21 code).bump (touchKey p) i 0x25
  else
    let s := s.nodeFaults p counts
    let g := s.tch p
    let nodes := (g.nodes.zip counts).map (fun q => { q.1 with n := q.1.n + 1, sum := q.1.sum + q.2 })
    if g.acq + 1 < 8 then s.setTch p { g with acq := g.acq + 1, nodes := nodes }
    else
      let nodes := nodes.map (fun n => { n with avg := n.sum / 8, n := 0, sum := 0, neg := 0, again := false })
      let s := (s.setTch p { g with acq := 0, nodes := nodes, over' := 0, under := 0, used := 0 }).setBases p true
      let s := (s.wn i 0x1C scanScanning).touchFlag p 2 (!s.refOk p)
      (s.zonesOn p).foldl (fun s z =>
        if !s.refOk p then s.zoneLatch p z 2
        else if s.rn (zIdx p z) 0x07 = 5 || s.rn (zIdx p z) 0x07 = 2 then s.zoneLatch p z 1 else s) s

/-- The signals of a frame (R399): baseline minus count; none where a node is faulted or acquired again. -/
def signals (nodes : List NodeS) (counts : List Nat) : List (Option Int) :=
  (nodes.zip counts).map (fun q => if q.1.fault || q.1.again then none else some (q.1.base - q.2))

/-- R412: the row medians, the column medians of what is left, and the compensated signals (0 where there is none). -/
def compensate (nd ns : Nat) (sig : List (Option Int)) : List Int × List Int × List Int :=
  let at' := fun (d n : Nat) => (sig[d * ns + n]?).getD none
  let a := (List.range nd).map (fun d => lowMedian ((List.range ns).filterMap (fun n => at' d n)))
  let b := (List.range ns).map (fun n =>
    lowMedian ((List.range nd).filterMap (fun d => (at' d n).map (fun v => v - (a[d]?).getD 0))))
  (a, b, (List.range (nd * ns)).map (fun i =>
    match at' (i / ns) (i % ns) with
    | some v => v - (a[i / ns]?).getD 0 - (b[i % ns]?).getD 0
    | none => 0))

/-- R413: FILM, by runs of used frames. -/
def State.film (s : State) (p level : Nat) : State :=
  let i := tIdx p
  let g := s.tch p
  let lim := s.fn i 0x11
  let s := s.wn i 0x20 (min 65535 level)
  let over' := if lim < level then min 4 (g.over' + 1) else 0
  let under := if level ≤ 3 * lim / 4 then min 30 (g.under + 1) else 0
  let s := s.setTch p { g with over' := over', under := under }
  let on := bit (s.rn i 0x1F) 0
  if !on && 4 ≤ over' then (s.touchFlag p 0 true).raise (touchKey p) 0x0A04 1 [(8, p), (16, level)]
  else if on && 30 ≤ under then (s.touchFlag p 0 false).raise (touchKey p) 0x0A05 1 [(8, p)]
  else s

/-- A threshold of Table 11.1, raised while FILM is set (R413), and a release threshold (R414). -/
def State.threshold (s : State) (p sub : Nat) : Nat :=
  s.fn (tIdx p) sub + (if bit (s.rn (tIdx p) 0x1F) 0 then s.rn (tIdx p) 0x20 / 2 else 0)
def release (t : Nat) : Nat := 3 * t / 4

/-- The active threshold of the mode, and the lowest. -/
def State.activeT (s : State) (p : Nat) : Nat := s.threshold p (if s.glove p then 0x0F else 0x0D)
def State.lowestT (s : State) (p : Nat) : Nat := s.threshold p (if s.glove p then 0x10 else 0x0D)

/-- R411, R410: nodes after a used frame: resets, drift, and the zones whose reference does not match. `sig` are the
compensated signals. -/
def State.driftNodes (s : State) (p : Nat) (counts : List Nat) (sig : List Int) : State :=
  let g := s.tch p
  let w := s.ns p
  let act := s.activeT p
  let used := g.used + 1
  let film := bit (s.rn (tIdx p) 0x1F) 0
  let near := fun (i : Nat) => g.contacts.any (fun c =>
    i / w ≤ c.d + 1 && c.d ≤ i / w + 1 && i % w ≤ c.s + 1 && c.s ≤ i % w + 1)
  let runs := (g.nodes.zip sig).map (fun q => if q.2 ≤ -(act : Int) then q.1.neg + 1 else 0)
  let hit := runs.zipIdx.filter (fun q => 4 ≤ q.1)
  let nodes := (g.nodes.zip (counts.zip (sig.zip runs))).zipIdx.map (fun q =>
    let n := q.1.1
    let c := q.1.2.1
    let v := q.1.2.2.1
    let k := q.1.2.2.2
    let z := s.zoneAt p (q.2 / w) (q.2 % w)
    let n := { n with neg := min k 4 }
    let still := !film && !near q.2 && v.natAbs < release act && used % 16 = 0 && !n.fault && !n.again
    match z with
    | none =>
      if 4 ≤ k then { n with base := c, neg := 0 }
      else if still then { n with base := if n.base < c then n.base + 1 else if (c : Int) < n.base then n.base - 1 else n.base }
      else n
    | some y =>
      if still && s.rn (zIdx p y) 0x06 = 0 then
        { n with base := if n.base < c then n.base + 1 else if (c : Int) < n.base then n.base - 1 else n.base }
      else n)
  let s := s.setTch p { g with nodes := nodes, used := used }
  let bad := (hit.filterMap (fun q => s.zoneAt p (q.2 / w) (q.2 % w))).eraseDups
  bad.foldl (fun s z =>
    let x := (s.tch p).zone z
    if x.mismatch then s
    else (s.setZone p z { x with mismatch := true }).raise (touchKey p) 0x0A03 1 [(8, p), (8, z)]) s

/-! ### Contacts (R414 to R419) -/

/-- A peak: node, strength, centroid in node/16 units and area. -/
structure Peak where
  d : Nat
  s : Nat
  p : Nat
  x : Nat
  y : Nat
  deriving DecidableEq, Repr

/-- Nodes within `k` of a node on both axes. -/
def around (nd ns d n k : Nat) : List (Nat × Nat) :=
  (List.range nd).flatMap (fun i => (List.range ns).filterMap (fun j =>
    if i ≤ d + k && d ≤ i + k && j ≤ n + k && n ≤ j + k then some (i, j) else none))

/-- A compensated signal by node. -/
def sigAt (ns : Nat) (sig : List Int) (q : Nat × Nat) : Int := (sig[q.1 * ns + q.2]?).getD 0

/-- R418: a weighted mean rounded to the nearest unit. -/
def centroid (w : List (Nat × Nat)) : Nat :=
  let t := (w.map (·.1)).foldl (· + ·) 0
  let m := (w.map (fun q => q.1 * q.2)).foldl (· + ·) 0
  if t = 0 then 0 else (2 * m + t) / (2 * t)

/-- Insert a peak by falling strength, the earlier node first. -/
def insertPeak (a : Peak) : List Peak → List Peak
  | [] => [a]
  | b :: bs => if b.p < a.p then a :: b :: bs else b :: insertPeak a bs

/-- Of two peaks within 2 nodes on both axes the stronger is kept (R414). -/
def keepPeaks : List Peak → List Peak → List Peak
  | kept, [] => kept
  | kept, a :: as =>
    if kept.any (fun b => a.d ≤ b.d + 2 && b.d ≤ a.d + 2 && a.s ≤ b.s + 2 && b.s ≤ a.s + 2) then keepPeaks kept as
    else keepPeaks (kept ++ [a]) as

/-- R414, R417, R418: the peaks of a frame, strongest first. -/
def State.peaks (s : State) (p : Nat) (sig : List Int) : List Peak :=
  let nd := s.nd p
  let ns := s.ns p
  let low : Int := s.lowestT p
  let isPeak := fun (i : Nat) =>
    let v := sigAt ns sig (i / ns, i % ns)
    low ≤ v && (around nd ns (i / ns) (i % ns) 1).all (fun q =>
      let j := q.1 * ns + q.2
      let u := sigAt ns sig q
      j = i || u < v || (u = v && i < j))
  let mk := fun (i : Nat) =>
    let w := (around nd ns (i / ns) (i % ns) 1).map (fun q => ((max 0 (sigAt ns sig q)).toNat, q))
    (⟨i / ns, i % ns, (sigAt ns sig (i / ns, i % ns)).toNat, centroid (w.map (fun q => (q.1, 16 * q.2.2))),
      centroid (w.map (fun q => (q.1, 16 * q.2.1)))⟩ : Peak)
  keepPeaks [] ((((List.range (nd * ns)).filter isPeak).map mk).foldl (fun a q => insertPeak q a) [])

/-- Squared distance of a peak and a contact. -/
def apart (a : Peak) (c : ContactS) : Nat :=
  let dx := if a.x < c.x then c.x - a.x else a.x - c.x
  let dy := if a.y < c.y then c.y - a.y else a.y - c.y
  dx * dx + dy * dy

/-- The closest pair of a peak and a contact within 128 units, the lower ID where two are equally close (R417). -/
def closest (ps : List Peak) (cs : List ContactS) : Option (Peak × ContactS) :=
  (ps.flatMap (fun a => cs.map (fun c => (a, c)))).foldl (fun (best : Option (Peak × ContactS)) q =>
    if 128 * 128 < apart q.1 q.2 then best
    else match best with
      | none => some q
      | some b => if apart q.1 q.2 < apart b.1 b.2 || (apart q.1 q.2 = apart b.1 b.2 && q.2.id < b.2.id) then some q else some b)
    none

/-- R417: peaks and contacts paired, closest first; then the peaks and contacts left. -/
def pairUp : Nat → List Peak → List ContactS → List (Peak × ContactS) × List Peak × List ContactS
  | 0, ps, cs => ([], ps, cs)
  | k + 1, ps, cs =>
    match closest ps cs with
    | none => ([], ps, cs)
    | some q =>
      let r := pairUp k (ps.filter (· ≠ q.1)) (cs.filter (· ≠ q.2))
      (q :: r.1, r.2)

/-- R415: whether a strength touches, and with a glove. -/
def State.touches (s : State) (p v : Nat) : Bool := s.activeT p ≤ v
def State.gloved (s : State) (p v : Nat) : Bool := s.glove p && v < s.threshold p 0x0E

/-- A contact with the strength, node and area of this frame, and its state to report (R416, R424). -/
def State.contactStep (s : State) (p : Nat) (sig : List Int) (f : TFrame) (c : ContactS) (v : Nat) : ContactS :=
  let touch := s.touches p v
  let relT := release (s.activeT p)
  let relH := release (s.threshold p 0x10)
  let area := ((around (s.nd p) (s.ns p) c.d c.s 2).filter (fun q =>
    ((if c.hov then relH else relT : Nat) : Int) ≤ sigAt (s.ns p) sig q)).length
  let c := { c with strength := min 4095 v, area := area }
  if !c.shown then
    if c.other + 1 < 2 then { c with other := c.other + 1 }
    else { c with
      shown := true, other := 0, low := 0, report := if c.hov then 4 else 1, glove := !c.hov && s.gloved p v,
      frame := f.num, start := f.start }
  else if c.hov then
    let other := if touch then c.other + 1 else 0
    let low := if v < relH then c.low + 1 else 0
    if 2 ≤ other then { c with
      hov := false, glove := s.gloved p v, other := 0, low := 0, report := 1, frame := f.num, start := f.start }
    else if 2 ≤ low then { c with report := 3, gone := true }
    else { c with other := other, low := low, report := 4 }
  else
    let low := if v < relT then c.low + 1 else 0
    if 2 ≤ low then
      if s.glove p && s.threshold p 0x10 ≤ v then { c with hov := true, glove := false, low := 0, other := 0, report := 4 }
      else { c with report := 3, gone := true }
    else { c with low := low, report := 2, glove := if touch then s.gloved p v else c.glove }

/-- The strongest compensated signal at a node or beside it, of a contact whose peak is gone. -/
def State.restStrength (s : State) (p : Nat) (sig : List Int) (c : ContactS) : Nat :=
  ((around (s.nd p) (s.ns p) c.d c.s 1).map (fun q => (sigAt (s.ns p) sig q).toNat)).foldl max 0

/-- Give the peaks left over the lowest free IDs (R417): not yet appeared. -/
def State.newContacts (s : State) (p : Nat) (f : TFrame) : List Peak → List ContactS → List ContactS
  | [], cs => cs
  | a :: as, cs =>
    match (List.range 10).find? (fun k => !cs.any (fun c => c.id = k)) with
    | none => cs
    | some k =>
      let hov := !s.touches p a.p
      State.newContacts s p f as
        (cs ++ [⟨k, false, hov, false, a.d, a.s, a.x, a.y, min 4095 a.p, 0, f.num, f.start, 0, 1, 0, false, [], false⟩])

/-- Insert a contact by ascending ID. -/
def insertContact (a : ContactS) : List ContactS → List ContactS
  | [] => [a]
  | b :: bs => if a.id < b.id then a :: b :: bs else b :: insertContact a bs

/-- The contacts of a used frame (R414 to R417). A contact that ends before it has appeared is dropped. -/
def State.contactsStep (s : State) (p : Nat) (sig : List Int) (f : TFrame) : State :=
  let g := s.tch p
  let all := s.peaks p sig
  let ps := all.take 10
  let live := g.contacts.filter (fun c => !c.gone)
  let r := pairUp 10 ps live
  let on := r.1.map (fun q =>
    let hov := !s.touches p q.1.p
    let c := { q.2 with d := q.1.d, s := q.1.s, x := q.1.x, y := q.1.y }
    let c := if !c.shown && c.hov ≠ hov then { c with hov := hov, other := 0 } else c
    s.contactStep p sig f c q.1.p)
  let lost := (r.2.2.filter (·.shown)).map (fun c => s.contactStep p sig f c (s.restStrength p sig c))
  let used := on ++ lost
  let fresh := s.newContacts p f r.2.1 used
  let cs := fresh.map (fun c =>
    let c := { c with crowd := c.crowd || fresh.any (fun e => e.id ≠ c.id && e.shown && e.report = 1) }
    if c.shown && !c.hov && !c.gone then { c with path := c.path ++ [(c.x, c.y)] } else c)
  s.setTch p { g with contacts := cs.foldl (fun a c => insertContact c a) [], overflow := decide (10 < all.length) }

/-- R419: a touching contact outside every enabled zone is absorbed after the rest limit. -/
def State.absorb (s : State) (p : Nat) (counts : List Nat) (sig : List Int) (f : TFrame) : State :=
  let g := s.tch p
  let rest := s.fn (tIdx p) 0x12
  let rel : Int := release (s.activeT p)
  let old := g.contacts.filter (fun c => c.shown && !c.hov && !c.gone && rest ≠ 0 && rest * 60000 < msSince c.start f.start &&
    (s.zoneAt p c.d c.s).isNone)
  old.foldl (fun s c =>
    let g := s.tch p
    let at' := around (s.nd p) (s.ns p) c.d c.s 2
    let nodes := (g.nodes.zip (counts.zip sig)).zipIdx.map (fun q =>
      let n := q.1.1
      if at'.contains (q.2 / s.ns p, q.2 % s.ns p) && rel ≤ q.1.2.2 && (s.zoneAt p (q.2 / s.ns p) (q.2 % s.ns p)).isNone then
        { n with base := q.1.2.1 }
      else n)
    let cs := g.contacts.map (fun e => if e.id = c.id then { e with report := 5, gone := true } else e)
    let s := (s.setTch p { g with nodes := nodes, contacts := cs }).bump (touchKey p) (tIdx p) 0x24
    s.raise (touchKey p) 0x0A06 1 [(8, p), (32, msSince c.start f.start), (8, c.id), (16, c.x), (16, c.y)]) s

/-! ### Zones in a used frame (R421, Table 11.5) -/

/-- Nodes of a zone, as numbers. -/
def State.zoneNodes (s : State) (p z : Nat) : List Nat :=
  (List.range (s.nd p * s.ns p)).filter (fun i => s.inZone p z (i / s.ns p) (i % s.ns p))

/-- One zone through a used frame. -/
def State.zoneStep (s : State) (p z : Nat) (sig : List Int) (f : TFrame) : State :=
  let i := zIdx p z
  let g := s.tch p
  let x := g.zone z
  let st := s.rn i 0x06
  let ns := s.zoneNodes p z
  let at' := fun (k : Nat) => (sig[k]?).getD 0
  let touched := ns.any (fun k => (s.activeT p : Int) ≤ at' k)
  let clear := ns.all (fun k => at' k < (release (s.activeT p) : Int))
  let broken := x.mismatch || ns.any (fun k => ((g.nodes[k]?).map (·.fault)).getD false)
  let x := if touched then { x with
      touched := min 2 (x.touched + 1), clear := 0, timer := none, first := if x.touched = 0 then f.start else x.first }
    else if clear then { x with touched := 0, clear := min 2 (x.clear + 1) } else x
  if broken then if st = 3 then s.setZone p z x else (s.setZone p z { x with timer := none }).zoneSet p z 3 0
  else if st = 3 then s.zoneLatch p z 4
  else if st = 2 then
    let r := s.rn i 0x07
    if r ≠ 1 && r ≠ 3 && r ≠ 4 then s.setZone p z x
    else if touched || !clear then s.setZone p z x
    else
      let t := x.timer.getD f.num
      if 200 * s.scanRate p ≤ (serialDiff 32 f.num t + 1) * 1000 then
        (s.setZone p z { x with timer := none, touched := 0, clear := 0 }).zoneSet p z 0 0
      else s.setZone p z { x with timer := some t }
  else if st = 0 then
    if touched && 2 ≤ x.touched then
      (((s.setZone p z { x with from' := x.first }).wn i 0x08 0).zoneHeld p z).zoneSet p z 1 0
    else s.setZone p z x
  else if clear && 2 ≤ x.clear then (s.setZone p z x).zoneSet p z 0 0
  else (s.setZone p z x).zoneHeld p z

/-! ### Reports (R418, R424, R426) -/

/-- R418: a position along one axis in screen pixels. -/
def mapAxis (v lo hi lines : Nat) : Nat :=
  let den := 16 * (lines - 1)
  let n : Int := (v : Int) * ((hi : Int) - lo)
  let r : Int := if den = 0 then 0 else (2 * n + den) / (2 * (den : Int))
  (min 65535 (max 0 ((lo : Int) + r))).toNat

/-- A contact record (Table 11.7). -/
def State.contactBytes (s : State) (p : Nat) (f : TFrame) (c : ContactS) : List Byte :=
  let i := tIdx p
  let mapped : Bool := s.fn i 0x13 ≠ 0xFF
  let a := if mapped && s.fn i 0x18 = 1 then c.y else c.x
  let b := if mapped && s.fn i 0x18 = 1 then c.x else c.y
  let px := if mapped then mapAxis a (s.fn i 0x14) (s.fn i 0x16) (s.ns p) else a
  let py := if mapped then mapAxis b (s.fn i 0x15) (s.fn i 0x17) (s.nd p) else b
  let z := s.zoneAt p c.d c.s
  let held : Bool := match z with
    | some y => decide (s.rn (zIdx p y) 0x06 = 2) || decide (s.rn (zIdx p y) 0x06 = 3)
    | none => false
  let st := if held && (c.report = 1 || c.report = 2) then 6 else c.report
  leBytes 1 c.id ++ leBytes 1 st ++ leBytes 2 px ++ leBytes 2 py ++
  leBytes 1 (b2n mapped + 2 * b2n c.glove + 4 * b2n c.hov + 8 * b2n z.isSome + 16 * z.getD 0) ++ [0] ++
  leBytes 2 c.strength ++ leBytes 1 c.area ++ [0] ++ leBytes 4 (min 0xFFFFFFFF (msSince c.start f.start))

/-- A report's 192 bytes (Table 11.6). -/
def State.touchReport (s : State) (p : Nat) (f : TFrame) (time : Nat) : List Byte :=
  let i := tIdx p
  let g := s.tch p
  let cs := g.contacts.filter (·.shown)
  let fl := s.rn i 0x1F
  let acq := decide (s.scan p = scanAcquiring)
  let flags := b2n (bit fl 0) + 2 * b2n (bit fl 1) + 4 * b2n g.overflow + 8 * b2n f.hop + 16 * b2n acq +
    32 * b2n (!s.refOk p) + 64 * b2n (bit fl 3)
  let zs := ((List.range 16).map (fun z => s.rn (zIdx p z) 0x06 * 4 ^ z)).foldl (· + ·) 0
  let en := ((s.zonesOn p).map (fun z => 2 ^ z)).foldl (· + ·) 0
  let b := leBytes 4 g.seq ++ leBytes 4 f.num ++ leBytes 12 time ++ leBytes 1 p ++ leBytes 1 (b2n (s.glove p)) ++
    leBytes 1 cs.length ++ leBytes 1 flags ++ leBytes 1 f.cur ++ [0] ++ leBytes 4 zs ++ leBytes 2 en ++
    cs.flatMap (s.contactBytes p f)
  b ++ List.replicate (192 - b.length) 0

/-- Write a report: to 0x5410+p:26 and the port's ring, where one can take it (R426, R504). -/
def State.writeReport (s : State) (p : Nat) (f : TFrame) : State :=
  let i := tIdx p
  let khz := max 1 ((words 2 16 (s.fval i 0x07).bs)[f.cur]?.getD 1)
  let cyc := s.scanCycles p * (2 + s.nd p)
  let time := nsTime96 (f.start + cyc * 1000000 / khz + s.nd p * 2000)
  let b := s.touchReport p f time
  let q := (s.tch p).seq
  let s := (s.wb i 0x26 b).setTch p { s.tch p with seq := wrapInc 32 q }
  match s.ringOf 6 p with
  | none => s
  | some r => (s.deliver r (fun _ => b) (fun d _ => ⟨d, 0, true, true, false, p, 192, nsTime96 (s.nowAt p), q⟩)).getD s

/-! ### Wake strokes (R425) -/

/-- Position in µm of a point in node/16 units. -/
def State.micro (s : State) (p : Nat) (q : Nat × Nat) : Int × Int :=
  (((q.1 * s.fn (tIdx p) 0x06 / 16 : Nat) : Int), ((q.2 * s.fn (tIdx p) 0x05 / 16 : Nat) : Int))

/-- Whether a point lies within 6 mm of the segment between two points (µm). -/
def nearSegment (a b q : Int × Int) : Bool :=
  let dx := b.1 - a.1
  let dy := b.2 - a.2
  let px := q.1 - a.1
  let py := q.2 - a.2
  let len := dx * dx + dy * dy
  let t := px * dx + py * dy
  if len = 0 || t ≤ 0 then px * px + py * py ≤ 36000000
  else if len ≤ t then (q.1 - b.1) * (q.1 - b.1) + (q.2 - b.2) * (q.2 - b.2) ≤ 36000000
  else (px * dy - py * dx) * (px * dy - py * dx) ≤ 36000000 * len

/-- Whether a completed stroke wakes the package. `f` is the frame that ends it. -/
def State.isWake (s : State) (p : Nat) (f : TFrame) (c : ContactS) : Bool :=
  let pts := c.path.map (s.micro p)
  let a := pts.head?.getD (0, 0)
  let b := pts.getLast?.getD (0, 0)
  let ms := f.start - c.start
  !c.crowd && 150000000 ≤ ms && ms ≤ 1500000000 &&
  3600000000 ≤ (b.1 - a.1) * (b.1 - a.1) + (b.2 - a.2) * (b.2 - a.2) && pts.all (nearSegment a b)

/-- Strokes completed in a frame of WAKE SCAN. The event is raised once the arbiter runs: it waits in its queue. -/
def State.wakeStrokes (s : State) (p : Nat) (f : TFrame) : State :=
  ((s.tch p).contacts.filter (fun c => c.report = 3 && c.gone && !c.path.isEmpty)).foldl (fun s c =>
    if s.isWake p f c then
      let pts := c.path.map (s.micro p)
      let a := pts.head?.getD (0, 0)
      let b := pts.getLast?.getD (0, 0)
      let mm := isqrt (((b.1 - a.1) * (b.1 - a.1) + (b.2 - a.2) * (b.2 - a.2)).toNat) / 1000
      let s := (s.bump (touchKey p) 0x5400 0x03).raise (touchKey p) 0x0A08 1 [(8, p), (16, mm)]
      { s with power := { s.power with wake := true } }
    else s.bump (touchKey p) 0x5400 0x04) s

/-! ### A frame processed -/

/-- The used frame of a scanning port. -/
def State.usedFrame (s : State) (p : Nat) (counts : List Nat) (f : TFrame) : State :=
  let s := s.nodeFaults p counts
  let c := compensate (s.nd p) (s.ns p) (signals (s.tch p).nodes counts)
  let level := ((c.1 ++ c.2.1).map Int.natAbs).foldl max 0
  let s := s.film p level
  let s := s.contactsStep p c.2.2 f
  let s := if s.scan p = scanWake then s.wakeStrokes p f else (s.absorb p counts c.2.2 f)
  let s := s.driftNodes p counts c.2.2
  let s := s.reacquire p counts
  if s.scan p = scanWake then s else (s.zonesOn p).foldl (fun s z => s.zoneStep p z c.2.2 f) s

/-- R405: a hop frame's counts are discarded; every clear timer stops. -/
def State.discardFrame (s : State) (p : Nat) : State :=
  let s := s.bump (touchKey p) (tIdx p) 0x25
  (s.zonesOn p).foldl (fun s z => s.setZone p z { (s.tch p).zone z with timer := none }) s

/-- TOUCH_FRAME_PROCESSED: the oldest frame in flight, with its counts and the two listen measurements. -/
def State.touchFrame (s : State) (p : Nat) (counts : List Nat) (mCur mCand : Nat) : State :=
  let g := s.tch p
  match g.frames with
  | [] => s
  | f :: fs =>
    if s.restarting p .tch then s.setTch p { g with frames := fs }
    else
      let s := s.setTch p { g with frames := fs }
      let s := ((s.measure p f.cur mCur).measure p f.cand mCand).hopDecide p f mCur
      let st := s.scan p
      let s := if f.hop then s.discardFrame p
        else if st = scanAcquiring then s.acquireFrame p counts
        else s.usedFrame p counts f
      if st = scanWake then s else s.writeReport p f

end Sys2Proof.Machine
end

