-- ==== Sys2Proof/Machine/Owner.lean ====
section
/-! DEFINITION. Requesters and what they hold: boot records (R587, R588), the update state and lock (R592, R593, R601), part
transfers (R517), CAN ports and ZDP sessions as they are lost (R520, R527), and the failover of SYS (R516). -/

namespace Sys2Proof.Machine

/-- The primary SYS, the source unit of the package's own events. -/
def State.sysKey (s : State) : Nat := procKey s.primary.idx .sys

/-- A requester as 0x2400:03 names it. -/
def Req.ownerWord : Req → Nat
  | .can c => 1 + c
  | .zdp n => 3 + 256 * n
  | .mailbox q => 4 + 256 * q
  | .changeSet => 0xFFFF

/-! ### Boot records (R587, R588) -/

/-- The 256 bytes of a boot record (Table 18.2, little-endian). -/
def BootS.bytes (b : BootS) : List Byte :=
  let head := leBytes 4 0x5A424F54 ++ leBytes 4 b.seq ++ [1] ++ leBytes 1 (b.slotA + 16 * b.slotB) ++
    leBytes 1 (b.active + 2 * b2n b.booted + 4 * b.store + 8 * b2n b.oldHeld) ++ leBytes 1 b.result ++ leBytes 1 b.cause ++
    [0, 0, 0] ++ leBytes 4 b.window ++ leBytes 4 0 ++ leBytes 4 b.lenA ++ leBytes 4 b.lenB
  let body := head ++ List.replicate (252 - head.length) 0
  body ++ leBytes 4 (crc 0 body)

/-- A record out of a page's bytes; none where its magic, its format or its CRC is wrong (R588). -/
def readBoot (b : List Byte) : Option BootS :=
  let f := fun (i n : Nat) => leNat ((b.drop i).take n)
  if b.length = 256 && f 0 4 = 0x5A424F54 && f 8 1 = 1 && f 9 1 % 16 ≤ 4 && f 9 1 / 16 ≤ 4 && f 252 4 = crc 0 (b.take 252) then
    some ⟨f 4 4, f 9 1 % 16, f 9 1 / 16, f 10 1 % 2, bit (f 10 1) 1, bits (f 10 1) 2 2, bit (f 10 1) 3, f 11 1, f 12 1, f 16 4, f 24 4, f 28 4⟩
  else none

/-- The pages of a copy, and the records a copy can hold. -/
def bootPages : Nat := 256

/-- The record whose sequence is after all others (R588, R12); with none, slot A and store X. -/
def latestRecord : List BootS → BootS
  | [] => {}
  | b :: bs => bs.foldl (fun a c => if serialAfter 32 c.seq a.seq then c else a) b

/-- A record in the next erased page of a copy, which is erased first where none is left. -/
def addPage (pages : List BootS) (b : BootS) : List BootS := if bootPages ≤ pages.length then [b] else pages ++ [b]

/-- A record goes into the copy that does not hold the latest one. -/
def FlashS.addRecord (f : FlashS) (b : BootS) : FlashS :=
  if f.copy0.contains f.boot then { f with copy1 := addPage f.copy1 b, boot := b }
  else { f with copy0 := addPage f.copy0 b, boot := b }

/-- What the ROM finds in the two copies at a boot; a record programmed is always whole (R603), so every one is valid. -/
def FlashS.findRecord (f : FlashS) : FlashS := { f with boot := latestRecord (f.copy0 ++ f.copy1) }

/-- A new boot record: nothing is programmed once VIN has failed (R603). -/
def State.record (s : State) (f : BootS → BootS) : State :=
  if s.power.fail then s
  else { s with flash := s.flash.addRecord { f s.flash.boot with seq := wrapInc 32 s.flash.boot.seq } }

/-- Slot states (Table 18.2). -/
def slotEmpty : Nat := 0
def slotPartial : Nat := 1
def slotStaged : Nat := 2
def slotTrial : Nat := 3
def slotActive : Nat := 4

/-- A record with a slot's state changed, and with the last result and its cause. -/
def BootS.slot (b : BootS) (k : Nat) : Nat := if k = 0 then b.slotA else b.slotB
def BootS.withSlot (b : BootS) (k st : Nat) : BootS := if k = 0 then { b with slotA := st } else { b with slotB := st }
def BootS.withLen (b : BootS) (k n : Nat) : BootS := if k = 0 then { b with lenA := n } else { b with lenB := n }
def BootS.outcome (b : BootS) (result cause : Nat) : BootS := { b with result := result, cause := cause }

/-- The inactive slot: the one that is not ACTIVE. -/
def State.inactive (s : State) : Nat := 1 - s.flash.boot.active

/-- A slot's bytes, and the version and key index its header names (Table 18.3); 0 of a slot that holds no header. -/
def State.slotBytes (s : State) (k : Nat) : List Byte := s.flash.slots.at' k []
def State.slotVersion (s : State) (k : Nat) : Nat := beNat (((s.slotBytes k).drop 8).take 4)
def State.slotKey (s : State) (k : Nat) : Nat := (((s.slotBytes k)[6]?).getD 0).toNat

/-- Whether a key slot holds a valid key (R590). -/
def State.keyValid (s : State) (k : Nat) : Bool := !((s.otp.keys[k]?).getD []).isEmpty && !bit s.otp.revoked k

/-! ### Update state and lock (R592, R593, R601) -/

def updIdle : Nat := 0
def updDownloading : Nat := 1
def updVerifying : Nat := 2
def updStaged : Nat := 3
def updActivating : Nat := 4
def updTrial : Nat := 5
def State.updState (s : State) : Nat := s.rn 0x2400 0x02

/-- A change of the update state raises its event (Table 18.7). -/
def State.enterUpd (s : State) (st : Nat) : State :=
  (s.wn 0x2400 0x02 st).raise s.sysKey 0x1002 0 [(8, s.updState), (8, st), (8, s.inactive)]

/-- The download is forgotten: no chunk staged, next offset 0, nothing programmed. -/
def State.noDownload (s : State) : State :=
  { (s.wn 0x2400 0x04 0).wn 0x2400 0x06 0 with upd := { s.upd with chunks := [], prev := none, finish := false } }

/-- The inactive slot is set to EMPTY with a result and its cause, and the state to IDLE (Table 18.4). -/
def State.dropImage (s : State) (result cause : Nat) : State :=
  let k := s.inactive
  ((s.record (fun b => ((b.withSlot k slotEmpty).withLen k 0).outcome result cause)).noDownload.enterUpd updIdle).raise
    s.sysKey 0x1006 2 [(8, result), (8, cause)]

/-- The lock is released: 1 CLOSE, 2 timeout, 3 path lost, 4 restart; a download in progress is discarded (R593). -/
def State.releaseLock (s : State) (why : Nat) : State :=
  match s.upd.owner with
  | none => s
  | some _ =>
    let s := { s with upd := { s.upd with owner := none } }.raise s.sysKey 0x1001 0 [(16, 0xFFFF), (8, why)]
    if s.updState = updDownloading || s.updState = updVerifying then s.dropImage 3 0 else s

/-- A requester's path is lost: its part transfers, and the update lock if it holds it. -/
def State.pathLost (s : State) (r : Req) : State :=
  let s := { s with
    partReads := s.partReads.cut (Req.code r)
    partWrites := s.partWrites.filter (fun p => p.1 / 2 ^ 24 ≠ Req.code r) }
  if s.upd.owner = some r then s.releaseLock 3 else s

/-! ### CAN ports and ZDP sessions as they are lost -/

def nmtInit : Nat := 0
def nmtStopped : Nat := 4
def nmtOperational : Nat := 5
def nmtPreOperational : Nat := 127
def State.nmt (s : State) (c : Nat) : Nat := s.rn (0x2011 + c) 0x04
def State.canLostNow (s : State) (c : Nat) : Bool := s.rn (0x2011 + c) 0x05 = 3

/-- Port lost (Table 15.6): nothing is sent, bus state 3. -/
def State.canLost (s : State) (c : Nat) : State :=
  if s.canLostNow c then s
  else
    let s := (s.wn (0x2011 + c) 0x05 3).wn (0x2011 + c) 0x04 nmtInit
    let s := { s with cans := s.cans.put c { s.cans.at' c {} with emcy := [], seg := none } }
    ((s.endCond (.passive c)).endCond (.busOff c)).pathLost (.can c)

/-- A ZDP session closes (R527): it sends nothing more and its number becomes free. -/
def State.zdpClose (s : State) (n : Nat) : State :=
  if (s.zdp.look n).isNone then s else { s with zdp := s.zdp.cut n }.pathLost (.zdp n)

/-- Every ZDP session closes. -/
def State.zdpCloseAll (s : State) : State := s.zdp.foldl (fun s p => s.zdpClose p.1) s

/-- SYS fails over (R516): USDO transfers in progress are aborted with the busy code, part transfers abandoned, and every
ZDP session closed. -/
def State.sysFailover (s : State) : State :=
  let s := [0, 1].foldl (fun s c =>
    let g := s.cans.at' c {}
    match g.seg with
    | some (idx, sub, _) => { s with cans := s.cans.put c { g with seg := none } }.say (.resp (.can c) idx sub 8 [])
    | none => s) s
  { s.zdpCloseAll with partReads := [], partWrites := [] }

end Sys2Proof.Machine
end

