-- ==== Sys2Proof/Machine/Pcie.lean ====
section
/-! DEFINITION. The PCIe function and the host rings (R482 to R506), the mailbox excepted. -/

namespace Sys2Proof.Machine

/-! ### The event stream (R503) -/

/-- A buffer's records go to the host: the data, then the write-back. -/
def State.eventFlush (s : State) (q : Nat) : State :=
  let g := s.ring q
  match g.bufs, g.recs with
  | (d, _) :: rest, r :: _ =>
    if g.space && g.waits.isEmpty then
      let s := s.setRing q { g with bufs := rest, recs := [], gap := false }
      (s.say (.dma q d (g.recs.flatMap LogRec.bytes))).writeBack q
        ⟨d, 0, true, true, g.gap, g.recs.length, 32 * g.recs.length, time96 s.nowSec.1 s.nowSec.2, r.pos⟩
    else s
  | _, _ => s

/-- Records go into the buffer under way in sequence order while one is offered; a full buffer is completed. A record that
has left the log is passed over, with the gap flag. -/
def State.eventPump (q : Nat) : Nat → State → State
  | 0, s => s
  | n + 1, s =>
    let g := s.ring q
    match g.bufs with
    | [] => s
    | (_, b) :: _ =>
      if b.lenA ≤ 32 * g.recs.length then
        let s' := s.eventFlush q
        if (s'.ring q).recs.isEmpty then State.eventPump q n s' else s
      else if g.nextRec = s.log.next then s
      else
        let lost := serialAfter 48 s.log.oldest g.nextRec
        let at' := if lost then s.log.oldest else g.nextRec
        match s.log.records.find? (fun r => r.pos = at') with
        | none => s
        | some r =>
          State.eventPump q n (s.setRing q { g with
            recs := g.recs ++ [r], recAt := if g.recs.isEmpty then s.clock else g.recAt,
            nextRec := wrapInc 48 at', gap := g.gap || lost })

/-- The event ring, if one runs, takes what the log holds for it. -/
def State.pumpEvents (s : State) : State :=
  match s.ringOf 5 0 with
  | some q => State.eventPump q (s.log.records.length + 2 * (s.ring q).bufs.length + 2) s
  | none => s

/-- EVENT_ARBITRATE (R537). `src` is the key of the source unit; the event stream follows the log (R503). -/
def execEventArbitrate (t src : Nat) (s : State) : Host.Outcome State Fault Refusal :=
  .next ((s.tick t).arbitrate src).pumpEvents

/-- EVENT_BUFFER_TIMEOUT (R503). -/
def State.eventTimeout (s : State) (q : Nat) : State :=
  let g := s.ring q
  if g.running && g.kind = 5 && !g.recs.isEmpty && g.recAt + 500 * usTicks ≤ s.clock then (s.eventFlush q).pumpEvents else s

def execEventBufferTimeout (t q : Nat) (s : State) : Host.Outcome State Fault Refusal :=
  .next ((s.tick t).eventTimeout q)

/-! ### The function (R482 to R488) -/

/-- What the function's configuration space says of it (R482, Table 14.1). -/
structure PcieIdentity where
  vendor : Nat
  device : Nat
  revision : Nat
  subVendor : Nat
  subsystem : Nat
  classCode : Nat
  serial : Nat
  deriving DecidableEq, Repr

/-- R633: what the test access port answers to IDCODE; its silicon step is bits [31:28]. -/
def idcode : Nat := 0x12416A7B

/-- R482: the identity of a package; the revision is the silicon step of the IDCODE (R633). -/
def pcieDevice : Nat := 0x2416
def State.pcieIdentity (s : State) : PcieIdentity :=
  ⟨0x1F5A, pcieDevice, bits idcode 31 28, 0x1F5A, 0x2410 + s.otp.variant, 0x048000, s.clockIdentity⟩

/-- Whether the host reaches the function's registers: the link is up and configuration is answered (R484, R486). -/
def State.pcieUp (s : State) : Bool := s.rn 0x6600 0x04 = 2 && s.pcie.answers && !s.pcie.reset

/-- Whether any P-lane has a test object other than 0 (R486). -/
def State.pcieHeld (s : State) : Bool := [32, 33, 34, 35].any s.inTest

/-- A message of a ring that no write-back can answer any more (R485). -/
def abandoned (q : Nat) (m : ZttWait) : ZttWait := if m.via = .ring q then { m with via := .ring 64 } else m

/-- The ZTT messages of a ring: those waiting for an engine or on one are dropped, the queued writes are kept (R485). -/
def State.dropRing (s : State) (q : Nat) : State :=
  { s with
    zttQ := s.zttQ.filter (fun m => m.via ≠ .ring q), engines := s.engines.filter (fun p => p.2.via ≠ .ring q)
    queued := s.queued.map (fun w => { w with msg := abandoned q w.msg }) }

/-- R485: a reset of the function alone: BAR0 at its reset values, every host ring disabled, descriptors fetched abandoned
without write-back. -/
def State.functionReset (s : State) : State :=
  let s := (List.range 32).foldl (fun s q => (s.dropRing q).pathLost (.mailbox q)) s
  { s with
    rings := []
    pcie := { s.pcie with events := 0, vector := 0, enable := false, msix := msixReset, pending := 0 } }.wn 0x6600 0x07 0

/-- The link goes down (R485): counted where it was up. -/
def State.pcieDown (s : State) (st : Nat) : State :=
  let s := if s.rn 0x6600 0x04 = 2 then s.bump (pcieKey 0) 0x6600 0x08 else s
  ((s.wn 0x6600 0x04 st).wn 0x6600 0x05 0xFFFF).functionReset

/-- PCIE_FUNCTION_RESET (R485): kind 0 fundamental, 1 hot, 2 function level, 3 link down. -/
def State.pcieReset (s : State) (kind : Nat) : State :=
  if s.dieLost 0 then s
  else match kind with
    | 0 =>
      let s := s.pcieDown (if s.pcieHeld then 3 else 0)
      { s with pcie := { s.pcie with reset := true, answers := false } }
    | 1 | 2 => if s.rn 0x6600 0x04 = 2 then s.functionReset else s
    | _ => if s.rn 0x6600 0x04 = 2 then s.pcieDown (if s.pcieHeld then 3 else 0) else s

/-- PCIE_PERST_DEASSERT (R483, R484): a changed clocking mode takes effect, the link trains unless it is held for test, and
configuration requests are retried until the function is ready. -/
def State.perst (s : State) : State :=
  if s.dieLost 0 then s
  else
    let s := if s.rn 0x6600 0x04 = 0 then s.wn 0x6600 0x04 1 else s
    { s with pcie := { s.pcie with reset := false, answers := false, mode := s.rn 0x6600 0x01 } }.setForce 0x6600 0x01 (s.val 0x6600 0x01)

def execPciePerstDeassert (t : Nat) (s : State) : Host.Outcome State Fault Refusal :=
  .next (s.tick t).perst

/-- PCIE_FUNCTION_READY (R484). -/
def State.functionReady (s : State) : State :=
  if s.dieLost 0 || s.pcie.reset || !(s.power.phase = .booting || s.power.phase = .running) then s
  else { s with pcie := { s.pcie with answers := true } }

def execPcieFunctionReady (t : Nat) (s : State) : Host.Outcome State Fault Refusal :=
  .next (s.tick t).functionReady

/-- PCIE_LINK_UP (R486): the link trains, or retrains with the rings running, within the speed and width allowed. -/
def State.linkUp (s : State) (speed width : Nat) : State :=
  if s.dieLost 0 || s.pcie.reset || s.pcieHeld || !(s.power.phase = .booting || s.power.phase = .running) ||
      s.rn 0x6600 0x02 < speed || s.rn 0x6600 0x03 < width || !(width = 1 || width = 2 || width = 4) then s
  else (s.wn 0x6600 0x04 2).wn 0x6600 0x05 (speed + 256 * width)

def execPcieLinkUp (t speed width : Nat) (s : State) : Host.Outcome State Fault Refusal :=
  .next ((s.tick t).linkUp speed width)

/-! ### Ring registers (Table 14.5, R491 to R496) -/

/-- A ring whose settings pass the checks of R491 for cause 3. -/
def RingS.configOk (g : RingS) : Bool :=
  let base := fun (lo : Nat) => bits g.cfg (lo + 63) lo
  bits g.cfg 131 128 ≤ 10 && base 0 ≠ 0 && base 0 % 4096 = 0 && base 64 ≠ 0 && base 64 % 4096 = 0 &&
  (match g.kind with
   | 1 => g.param < 160
   | 2 | 3 => g.param < 16
   | 4 | 5 | 0 => g.param = 0
   | 6 => g.param < 2
   | _ => false) &&
  bits g.cfg 135 132 = 0 && bits g.cfg 143 140 = 0 && bits g.cfg 159 152 = 0 && bits g.cfg 191 161 = 0 && !bit g.cfg 198 &&
  bits g.cfg 207 200 = 0 && g.host = 0 && g.cons = 0

/-- The most rings of a kind and parameter that run together (Table 14.4). -/
def kindLimit (kind : Nat) : Nat := if kind = 4 then 4 else if kind = 0 then 32 else 1

/-- The objects that follow the rings: 0x6600:07. -/
def State.refreshRings (s : State) : State :=
  s.wn 0x6600 0x07 (((List.range 32).filter (fun q => (s.ring q).running)).foldl (fun a q => a + 2 ^ q) 0)

/-- A write of enable 1 (R491). -/
def State.enableRing (s : State) (q : Nat) : State :=
  let g := s.ring q
  let g' := { g with cfg := setBit g.cfg 160 true }
  if g.state ≠ 0 then s.setRing q g'
  else
    let n := ((List.range 32).filter (fun p => (s.ring p).running && (s.ring p).kind = g.kind && (s.ring p).param = g.param)).length
    let s := s.setRing q g'
    if !g'.configOk then (s.stopRing q 3).refreshRings
    else if kindLimit g.kind ≤ n then (s.stopRing q 2).refreshRings
    else (s.setRing q { g' with
      fetch := 0, wb := 0, state := 1, cause := 0, open' := [], bufs := [], waits := [], recs := [], gap := false,
      nextRec := s.log.next, lastInt := none, intWait := false }).refreshRings

/-- RING_ENABLE (R491). -/
def execRingEnable (t q : Nat) (s : State) : Host.Outcome State Fault Refusal :=
  .next (if (s.tick t).pcieUp && q < 32 then (s.tick t).enableRing q else s.tick t)

/-- A write of enable 0 (R496): a running ring's fetched descriptors end with status 2, as far as space allows; ZTT writes
already queued go on without a write-back. -/
def State.disableRing (s : State) (q : Nat) : State :=
  let g := s.ring q
  let queued := (s.queued.filter (fun w => w.msg.via = .ring q)).map (·.msg.desc)
  let mine := g.open'.filter (fun d => !queued.contains d)
  let s := s.dropRing q
  let s := if g.running then
      let s := s.setRing q { g with open' := mine, bufs := [], waits := [] }
      mine.foldl (fun s d =>
        if (s.ring q).space then s.writeBack q ⟨d, 2, true, false, false, 0, 0, 0, 0⟩ else s) s
    else s
  (s.setRing q { s.ring q with
    cfg := setBit (s.ring q).cfg 160 false, state := 0, cause := 0, open' := [], bufs := [], waits := [], recs := [],
    intWait := false }).refreshRings

/-- RING_DISABLE (R496). -/
def execRingDisable (t q : Nat) (s : State) : Host.Outcome State Fault Refusal :=
  .next (if (s.tick t).pcieUp && q < 32 then (s.tick t).disableRing q else s.tick t)

/-- The oldest descriptor whose final write-back has not been written, else the fetch index (R493). -/
def RingS.oldest (g : RingS) : Nat := g.open'.head?.getD g.fetch

/-- A write of the host index (R493): valid when after or equal to the old value and within the ring; a write to a ring that
does not run only sets the field. -/
def State.ringDoorbell (s : State) (q index : Nat) : State :=
  let g := s.ring q
  let v := index % 2 ^ 32
  if !g.running then s.setRing q { g with cfg := setBits g.cfg 255 224 v }
  else if (serialAfter 32 v g.host || v = g.host) && serialDiff 32 v g.oldest ≤ g.size then
    s.setRing q { g with cfg := setBits g.cfg 255 224 v }
  else ((s.bump (pcieKey 0) 0x6600 0x0B).stopRing q 1).refreshRings

/-- DOORBELL (R493). -/
def execDoorbell (t q index : Nat) (s : State) : Host.Outcome State Fault Refusal :=
  .next (if (s.tick t).pcieUp && q < 32 then (s.tick t).ringDoorbell q index else s.tick t)

/-- WRITE_BACK_CONSUMER (R494): space is freed, and what waits for it goes out. -/
def State.ringConsumer (s : State) (q index : Nat) : State :=
  let s := s.setRing q { s.ring q with cons := index % 2 ^ 32 }
  (State.drainWb q (s.ring q).waits.length s).pumpEvents

def execWriteBackConsumer (t q index : Nat) (s : State) : Host.Outcome State Fault Refusal :=
  .next (if (s.tick t).pcieUp && q < 32 then (s.tick t).ringConsumer q index else s.tick t)

/-- FUNCTION_EVENT_CLEAR (Table 14.3): ones written to bits [66:64] clear them. -/
def State.clearEvents (s : State) (v : Nat) : State :=
  { s with pcie := { s.pcie with events := s.pcie.events - Nat.land s.pcie.events (v % 8) } }

def execFunctionEventClear (t bits : Nat) (s : State) : Host.Outcome State Fault Refusal :=
  .next (if (s.tick t).pcieUp then (s.tick t).clearEvents bits else s.tick t)

/-- A vector's pending message goes out once its mask is clear (R505). -/
def State.unmask (s : State) (v : Nat) : State :=
  if bit s.pcie.pending v && (cellRead s.pcie.msix (16 * v + 12)).toNat % 2 = 0 then
    { s with pcie := { s.pcie with pending := setBit s.pcie.pending v false } }.say (.msix v)
  else s

/-- A 32-bit register write at an aligned offset (Tables 14.2, 14.3, 14.5); none where it is discarded. -/
def State.barWord (s : State) (off v : Nat) : Option State :=
  if off = 8 then some (s.clearEvents v)
  else if off = 12 then some { s with pcie := { s.pcie with vector := bits v 5 0, enable := bit v 7 } }
  else if 0x1000 ≤ off && off < 0x1800 then
    let q := (off - 0x1000) / 64
    let w := off % 64 / 4
    let g := s.ring q
    if w ≤ 4 || w = 6 then
      if g.state = 0 then some (s.setRing q { g with cfg := setBits g.cfg (32 * w + 31) (32 * w) v }) else none
    else if w = 5 then
      let s := s.setRing q { g with cfg := setBits g.cfg 191 161 (v / 2) }
      some (if bit v 0 then s.enableRing q else s.disableRing q)
    else if w = 7 then some (s.ringDoorbell q v)
    else if w = 10 then some (s.ringConsumer q v)
    else none
  else if 0x2000 ≤ off && off < 0x2400 then
    some (({ s with pcie := { s.pcie with msix := cellsWrite s.pcie.msix (off - 0x2000) (leBytes 4 v) } }).unmask ((off - 0x2000) / 16))
  else none

/-- Whether an access is one the register space takes (R488): 32-bit or 64-bit, naturally aligned and inside it. -/
def barAccess (off size : Nat) : Bool := (size = 4 || size = 8) && off % size = 0 && off + size ≤ 65536

/-- BAR_REGISTER_WRITE (R488): what the register space takes; anything else is a write to reserved space. A write that is
discarded, wholly or in one of its halves, counts once. -/
def State.barWrite (s : State) (off size v : Nat) : State :=
  if barAccess off size then
    let lo := s.barWord off (v % 2 ^ 32)
    let hi := if size = 8 then (lo.getD s).barWord (off + 4) (v / 2 ^ 32 % 2 ^ 32) else some (lo.getD s)
    let s := hi.getD (lo.getD s)
    if lo.isSome && hi.isSome then s else s.bump (pcieKey 0) 0x6600 0x0A
  else s.bump (pcieKey 0) 0x6600 0x0A

/-- A 32-bit word of the register space as the host reads it (Tables 14.2, 14.3 and 14.5): reserved space reads 0. -/
def State.barReadWord (s : State) (off : Nat) : Nat :=
  if off = 0 then pcieDevice + 2 ^ 16 + 2 ^ 24 * s.pkgId
  else if off = 4 then b2n s.pcie.ready
  else if off = 8 then s.pcie.events % 8
  else if off = 12 then s.pcie.vector + 128 * b2n s.pcie.enable
  else if off = 16 then
    ((List.range 32).filter (fun q => decide ((s.ring q).state = 2))).foldl (fun a q => a + 2 ^ q) 0
  else if 0x1000 ≤ off && off < 0x1800 then
    let g := s.ring ((off - 0x1000) / 64)
    let w := off % 64 / 4
    if w < 8 then bits g.cfg (32 * w + 31) (32 * w)
    else if w = 8 then g.fetch
    else if w = 9 then g.wb
    else if w = 10 then g.cons
    else if w = 11 then g.state + 256 * g.cause
    else 0
  else if 0x2000 ≤ off && off < 0x2400 then leNat (cellsRead s.pcie.msix (off - 0x2000) 4)
  else if off = 0x3000 then bits s.pcie.pending 31 0
  else if off = 0x3004 then bits s.pcie.pending 63 32
  else 0

/-- A read of the register space (R488); an access it does not take reads as reserved space. -/
def State.barRead (s : State) (off size : Nat) : Nat :=
  if barAccess off size then
    s.barReadWord off + (if size = 8 then 2 ^ 32 * s.barReadWord (off + 4) else 0)
  else 0

def execBarRegisterWrite (t off size v : Nat) (s : State) : Host.Outcome State Fault Refusal :=
  .next (if (s.tick t).pcieUp then (s.tick t).barWrite off size v else s.tick t)

/-! ### Descriptors by kind (R497 to R504) -/

/-- RAW_TRANSMIT (R500). A fenced package sends nothing on Ethernet (R568): its ports count as down. -/
def State.rawTransmit (s : State) (q : Nat) (d : Desc) (stamp : Nat) : State :=
  match s.fetchDesc q 2 with
  | none => s
  | some (i, s) =>
    let p := (s.ring q).param
    if !plainDesc d || d.lenA < 60 || 9212 < d.lenA then s.writeBack q (invalidDesc i)
    else if beNat ((d.data.drop 12).take 2) = 0x8808 then s.writeBack q ⟨i, 6, true, false, false, p, 0, 0, 0⟩
    else if s.rn (0x2910 + p) 0x0A ≠ 1 || s.isFencedPkg then s.writeBack q ⟨i, 5, true, false, false, p, 0, 0, 0⟩
    else
      (s.say (.ethernet p (d.data ++ leBytes 4 (crc 0 d.data)))).writeBack q
        ⟨i, 0, true, d.stampReq, false, p, d.lenA + 4, stamp, 0⟩

def execRawTransmit (t q : Nat) (w : DescWire) (stamp : Nat) (s : State) : Host.Outcome State Fault Refusal :=
  let d := readDesc w
  .next ((s.tick t).rawTransmit q d stamp)

/-- A descriptor of a kind that flows to the host offers its buffer, or is invalid. -/
def State.offer (s : State) (q kind : Nat) (d : Desc) (ok : Bool) : State :=
  match s.fetchDesc q kind with
  | none => s
  | some (i, s) =>
    if plainDesc d && !d.stampReq && ok then s.setRing q { s.ring q with bufs := (s.ring q).bufs ++ [(i, d)] }
    else s.writeBack q (invalidDesc i)

/-- RAW_RECEIVE_DESCRIPTOR (R501). -/
def execRawReceiveDescriptor (t q : Nat) (w : DescWire) (s : State) : Host.Outcome State Fault Refusal :=
  let d := readDesc w
  .next ((s.tick t).offer q 3 d (64 ≤ d.lenA && d.lenA ≤ 65536))

/-- EVENT_BUFFER_DESCRIPTOR (R503). -/
def execEventBufferDescriptor (t q : Nat) (w : DescWire) (s : State) : Host.Outcome State Fault Refusal :=
  let d := readDesc w
  .next ((s.tick t).offer q 5 d (32 ≤ d.lenA && d.lenA ≤ 1024 && d.lenA % 32 = 0)).pumpEvents

/-- TOUCH_REPORT_DESCRIPTOR (R504). -/
def execTouchReportDescriptor (t q : Nat) (w : DescWire) (s : State) : Host.Outcome State Fault Refusal :=
  let d := readDesc w
  .next ((s.tick t).offer q 6 d (192 ≤ d.lenA && d.lenA ≤ 65536))

/-- BUS_ERROR (R495): on a data buffer, its descriptor ends with status 4; on a descriptor fetch or a write-back, the ring
stops with cause 4. -/
def State.busError (s : State) (q : Nat) (desc : Option Nat) : State :=
  let g := s.ring q
  if 32 ≤ q || !g.running then s
  else match desc with
    | some i =>
      if g.open'.contains i then
        let s := { s with zttQ := s.zttQ.filter (fun m => !(decide (m.via = ZttVia.ring q) && decide (m.desc = i))) }
        (s.setRing q { g with bufs := g.bufs.filter (fun b => b.1 ≠ i) }).writeBack q ⟨i, 4, true, false, false, 0, 0, 0, 0⟩
      else s
    | none => ((s.bump (pcieKey 0) 0x6600 0x09).stopRing q 4).refreshRings
def execBusError (t q : Nat) (desc : Option Nat) (s : State) : Host.Outcome State Fault Refusal :=
  .next ((s.tick t).busError q desc)

/-- INTERRUPT_MODERATION_EXPIRY (R505). -/
def State.moderated (s : State) (q : Nat) : State :=
  let g := s.ring q
  if g.intWait && (match g.lastInt with | some a => decide (a + g.moderation * usTicks ≤ s.clock) | none => true) then
    (s.setRing q { g with intWait := false, lastInt := some s.clock }).sendVector g.vector
  else s

def execInterruptModerationExpiry (t q : Nat) (s : State) : Host.Outcome State Fault Refusal :=
  .next ((s.tick t).moderated q)

end Sys2Proof.Machine
end

