-- ==== Sys2Proof/Machine/Lanes.lean ====
section
/-! DEFINITION. Serial lanes (R450 to R464), the Spaydun ports' states, training and re-striping (R474 to R477), delivery
(R471 to R473), lane loss on the other families (R478, R480) and time marks (R176 to R178). -/

namespace Sys2Proof.Machine

/-! ### Port states (Tables 13.6 and 13.7) -/

/-- Lane `j` of port `q`, and the port and lane of an S-lane index. -/
def spLane (q j : Nat) : Nat := 16 + 8 * q + j

/-- The local lock mask of a port. -/
def State.localMask (s : State) (q : Nat) : Nat :=
  ((List.range 8).filter (fun j => s.laneLocked (spLane q j))).foldl (fun a j => a + 2 ^ j) 0

/-- The width for an agreed mask (R474): the largest power of two that is no more than its bits. -/
def maskWidth (m : Nat) : Nat :=
  let n := popCount 8 m
  if 8 ≤ n then 8 else if 4 ≤ n then 4 else if 2 ≤ n then 2 else n

/-- The lanes in use: the `w` lowest-numbered lanes of a mask. -/
def lowestLanes (m w : Nat) : Nat := (((List.range 8).filter (bit m)).take w).foldl (fun a j => a + 2 ^ j) 0

/-- Enter a port state that carries no frames: frames in flight are lost. -/
def State.spLeave (s : State) (q st : Nat) : State :=
  let g := s.sp q
  let s := s.setSp q { g with since := s.clock, ready := [], sets := [], hops := none, delay := none, ackAt := none }
  let i := spIdx q
  ((((s.wn i 0x04 st).wn i 0x05 0).wn i 0x06 0).wn i 0x07 0xFF).wn i 0x08 0

/-- The link of a port that was up or re-striping goes down: one event of type link down. -/
def State.spLinkDown (s : State) (q : Nat) : State :=
  (s.spLeave q spDown).raise (spayKey q 0) 0x0C03 2 [(8, q), (8, 0)]

/-- Every lane of a port in a test mode is TEST; every lane's test objects 0 is DOWN again. -/
def State.spTestCheck (s : State) (q : Nat) : State :=
  let t := fun (j : Nat) => s.inTest (spLane q j)
  let st := s.spState q
  if st ≠ spDisabled && st ≠ spTest && (List.range 8).all t then s.spLeave q spTest
  else if st = spTest && !(List.range 8).any t then s.spLeave q spDown
  else s

/-- A training set (R474) on lane `j`: K28.5, D21.5, the lane, the local lock mask, the package and port, whether the partner's mask has
been received, and the XOR of those four. -/
def trainingSyms (j mask pkgPort flags : Nat) : List Sym :=
  [.k285, .d 0xB5, .d (BitVec.ofNat 8 j), .d (BitVec.ofNat 8 mask), .d (BitVec.ofNat 8 pkgPort), .d (BitVec.ofNat 8 flags),
   .d (BitVec.ofNat 8 (Nat.xor (Nat.xor j mask) (Nat.xor pkgPort flags)))]

/-- While a port trains it sends training sets on every lane that holds lock; what they carry leaves when it changes. -/
def State.sendTraining (s : State) (q : Nat) : State :=
  if s.spState q ≠ spTraining && s.spState q ≠ spRestriping then s
  else
    let js := (List.range 8).filter (fun j => s.laneLocked (spLane q j))
    s.say (.training q (js.map (fun j => (j, trainingSyms j (s.localMask q) (s.pkgId + 16 * q) (b2n (s.sp q).heard)))))

/-- A loss that concerns a port: UP goes to RESTRIPING; a further loss restarts agreement and its 2 ms bound (R476). -/
def State.spLoss (s : State) (q : Nat) : State :=
  let g := s.sp q
  if s.spState q = spUp then
    ((s.setSp q { g with since := s.clock, sets := [], lossAt := s.clock, firstLoss := s.clock, heard := false }).wn
      (spIdx q) 0x04 spRestriping).sendTraining q
  else if s.spState q = spRestriping then (s.setSp q { g with sets := [], lossAt := s.clock }).sendTraining q
  else (s.setSp q { g with sets := [] }).sendTraining q

/-- A lane is lost to its port (R475). -/
def State.spLaneLost (s : State) (q j : Nat) : State :=
  if s.spState q = spUp && !bit (s.rn (spIdx q) 0x06) j then s
  else s.spLoss q

/-- SPAYDUN_PORT_ENABLE and _DISABLE: a write of 0x6510+q:01. -/
def spEnable (q : Nat) (s : State) (v : Val) : State × Nat :=
  if s.dieLost q then (s, 7)
  else
    let s' := s.wv (spIdx q) 0x01 v
    if v.int = 0 then
      (if s.spState q = spDisabled then s' else (s'.spLeave q spDisabled).setSp q {}, 0)
    else if s.spState q = spDisabled then ((s'.spLeave q spDown).spTestCheck q, 0)
    else (s', 0)

def execSpaydunPortEnable (t : Nat) (r : Req) (q : Nat) (s : State) : Host.Outcome State Fault Refusal :=
  .next ((s.tick t).request r (spIdx q) 0x01 [1] (spEnable q))

def execSpaydunPortDisable (t : Nat) (r : Req) (q : Nat) (s : State) : Host.Outcome State Fault Refusal :=
  .next ((s.tick t).request r (spIdx q) 0x01 [0] (spEnable q))

/-- LANE_LOCK_HOLD: a lane that has held lock for 1 ms moves a DOWN port to TRAINING, at the rate then in :02. -/
def State.lockHold (s : State) (q j : Nat) : State :=
  let l := spLane q j
  if q < 2 && j < 8 && s.spState q = spDown && s.laneLocked l && (s.lanes.at' l {}).lockAt + msTicks ≤ s.clock then
    ((s.setSp q { s.sp q with since := s.clock, sets := [], heard := false, rate := s.rn (spIdx q) 0x02 }).wn
      (spIdx q) 0x04 spTraining).sendTraining q
  else s

def execLaneLockHold (t q l : Nat) (s : State) : Host.Outcome State Fault Refusal :=
  .next ((s.tick t).lockHold q l)

/-- Send again every unacknowledged control frame, from the oldest; each counts (R471). -/
def State.resend (s : State) (q : Nat) : State :=
  let g := s.sp q
  let s := g.unacked.foldl (fun s u => (s.say (.frame q (frameCols (s.rn (spIdx q) 0x05) (u.2.bytes u.1 g.expects u.2.payload)))).bump (spayKey q 0) (spIdx q) 0x10) s
  if g.unacked.isEmpty then s else s.setSp q { s.sp q with progress := s.clock, ackAt := none }

/-- The relays of a port in the order of R473: streams before pixels, each by relay number. -/
def relayOrder (l : List (Nat × RelayS)) : List (Nat × RelayS) :=
  l.filter (fun r => r.2.mode = 1) ++ l.filter (fun r => r.2.mode ≠ 1)

/-- The relays that fit a capacity in bit/s: what is left once whole relays have been shed from the end. -/
def relaysFit (cap : Nat) : List (Nat × RelayS) → Nat → List Nat
  | [], _ => []
  | r :: rs, used => if used + r.2.cost ≤ cap then r.1 :: relaysFit cap rs (used + r.2.cost) else []

/-- R477: relays are shed, and restored, for a port's capacity; each newly shed relay counts. -/
def State.shedRelays (s : State) (q : Nat) : State :=
  let mine := relayOrder (s.sys.relays.filter (fun r => r.2.port = q))
  let fit := relaysFit (s.rn (spIdx q) 0x08 * 1000000) mine 0
  let newly := (mine.filter (fun r => !r.2.shed && !fit.contains r.1)).length
  let s := { s with sys := { s.sys with relays := s.sys.relays.map (fun (r : Nat × RelayS) =>
    if r.2.port = q then (r.1, ({ r.2 with shed := !fit.contains r.1 } : RelayS)) else r) } }
  s.bump (spayKey q 0) (spIdx q) 0x12 newly

/-- Agreement on a mask (R474): UP where the width meets the minimum (:03), with one idle pair before the frames; otherwise DOWN. A
re-stripe counts once it is done (R476). -/
def State.agree (s : State) (q mask pkgPort : Nat) : State :=
  let g := s.sp q
  let i := spIdx q
  let w := maskWidth mask
  let k := spayKey q 0
  let fresh := s.spState q = spTraining
  if w < s.rn i 0x03 then
    if fresh then (s.spLeave q spDown).bump k i 0x09 else s.spLinkDown q
  else
    let s := s.setSp q { g with
      since := s.clock, sets := [], hops := none
      unacked := if fresh then [] else g.unacked
      txSeq := if fresh then g.txSeq.put ftControl 0 else g.txSeq
      rxSeq := if fresh then g.rxSeq.put ftControl 0 else g.rxSeq
      progress := s.clock, rounds := 0 }
    let s := ((s.wn i 0x04 spUp).wn i 0x05 w).wn i 0x06 (lowestLanes mask w)
    let s := (s.wn i 0x07 pkgPort).wn i 0x08 (spCapacity w g.rate (s.rn 0x6500 0x01))
    let s := s.say (.frame q [List.replicate w .k285, List.replicate w d56])
    if fresh then (s.shedRelays q).raise k 0x0C01 1 [(8, q), (8, w)]
    else
      let s := (s.bump k i 0x09).wn i 0x13 (min 0xFFFFFFFF ((s.clock - g.firstLoss) / usTicks))
      ((s.shedRelays q).resend q).raise k 0x0C02 1 [(8, q), (8, w)]

/-- Whether a training set is valid: its check symbol and reserved bits (R474). -/
def trainOk (x : TrainSet) : Bool :=
  x.check = Nat.xor (Nat.xor x.lane x.mask) (Nat.xor x.pkgPort x.flags) && x.lane < 8 && x.mask < 256 && x.pkgPort < 32 && x.flags < 2

/-- TRAINING_SET (R474): agreement is complete with the third consecutive valid set on a lane that shows our mask received
and the same masks. -/
def State.trainSet (s : State) (q : Nat) (x : TrainSet) : State :=
  let g := s.sp q
  if 2 ≤ q || (s.spState q ≠ spTraining && s.spState q ≠ spRestriping) || !s.laneLocked (spLane q (x.lane % 8)) then s
  else if !trainOk x then s.setSp q { g with sets := g.sets.put x.lane (0, 0, 0) }
  else
    let s := if g.heard then s else (s.setSp q { g with heard := true }).sendTraining q
    let g := s.sp q
    if x.flags ≠ 1 then s.setSp q { g with sets := g.sets.put x.lane (0, 0, 0) } else
    let old := g.sets.at' x.lane (0, 0, 0)
    let n := if 0 < old.1 && old.2 = (x.mask, s.localMask q) then old.1 + 1 else 1
    if 3 ≤ n then s.agree q (Nat.land (s.localMask q) x.mask) x.pkgPort
    else s.setSp q { g with sets := g.sets.put x.lane (n, x.mask, s.localMask q) }

def execTrainingSet (t q : Nat) (ts : TrainSet) (s : State) : Host.Outcome State Fault Refusal :=
  .next ((s.tick t).trainSet q ts)

/-- SPAYDUN_TRAINING_TIMEOUT (Table 13.7). -/
def State.trainTimeout (s : State) (q : Nat) : State :=
  if s.spState q = spTraining && (s.sp q).since + 10 * msTicks ≤ s.clock then
    (s.spLeave q spDown).bump (spayKey q 0) (spIdx q) 0x09
  else s

def execSpaydunTrainingTimeout (t q : Nat) (s : State) : Host.Outcome State Fault Refusal :=
  .next ((s.tick t).trainTimeout q)

/-- RESTRIPE_TIMEOUT (R476): 2 ms since the last loss. -/
def State.restripeTimeout (s : State) (q : Nat) : State :=
  if s.spState q = spRestriping && (s.sp q).lossAt + 2 * msTicks ≤ s.clock then s.spLinkDown q else s

def execRestripeTimeout (t q : Nat) (s : State) : Host.Outcome State Fault Refusal :=
  .next ((s.tick t).restripeTimeout q)

/-- RESTORE_HOLD_EXPIRY (Table 13.7): a locked lane not in use has held lock for the restore hold, and the port widens. -/
def State.restoreHold (s : State) (q j : Nat) : State :=
  let l := spLane q j
  let i := spIdx q
  if q < 2 && j < 8 && s.spState q = spUp && s.laneLocked l && !bit (s.rn i 0x06) j &&
      (s.lanes.at' l {}).lockAt + s.rn 0x6500 0x04 * msTicks ≤ s.clock && s.rn i 0x05 < maskWidth (s.localMask q) then s.spLoss q
  else s

def execRestoreHoldExpiry (t q l : Nat) (s : State) : Host.Outcome State Fault Refusal :=
  .next ((s.tick t).restoreHold q l)

/-! ### Lane lock (R451, R478) -/

/-- An Ethernet port goes down: link state 0 and one event of type port down (R478). -/
def State.portDown (s : State) (p : Nat) : State :=
  if s.rn (0x2910 + p) 0x0A = 0 then s
  else ((s.wn (0x2910 + p) 0x0A 0).raise (ethKey p) 0x0C04 2 [(8, p), (8, 0)]).bmca

/-- The port an Ethernet lane belongs to. -/
def State.lanePort (s : State) (l : Nat) : Nat := if s.quadMode (l / 4) = 1 then 4 * (l / 4) else l

/-- A lane's unit (Table 2.2). -/
def laneKey (l : Nat) : Nat :=
  if l < 16 then ethKey l else if l < 32 then spayKey ((l - 16) / 8) ((l - 16) % 8) else pcieKey (l - 32)

/-- R451: whether symbols, each with its alignment, hold three K28.5 at one alignment with no invalid symbol between them; `n` of them
have come at alignment `a`. -/
def gainsLock : Nat → Nat → List (Sym × Nat) → Bool
  | _, _, [] => false
  | n, a, x :: l =>
    match x.1 with
    | .bad => gainsLock 0 a l
    | .k285 =>
      let m := if 0 < n && a = x.2 then n + 1 else 1
      3 ≤ m || gainsLock m x.2 l
    | _ => gainsLock n a l

/-- R451: whether four invalid symbols fall within any 16 consecutive ones. -/
def losesLock : List Bool → Bool
  | [] => false
  | b :: l => 4 ≤ (((b :: l).take 16).filter id).length || losesLock l

/-- Invalid symbols received on a lane count (R451). -/
def State.codeErrors (s : State) (l n : Nat) : State :=
  (s.bump (laneKey l) (laneIdx l) 0x0B n).bump (laneKey l) 0x6400 0x04 n

/-- LANE_LOCK_GAIN (R451): an S-lane by the symbols received, an N- or P-lane by its standard. -/
def State.lockGain (s : State) (l : Nat) (line : List (Sym × Nat)) : State :=
  if 36 ≤ l || s.inTest l || s.laneLocked l then s
  else
    let s := s.codeErrors l (line.filter (fun x => x.1 = .bad)).length
    if 16 ≤ l && l < 32 && !gainsLock 0 0 line then s else
    let s := s.setLock l true
    if l < 16 then
      if s.rn (0x2910 + s.lanePort l) 0x0A = 0 then (s.portUp (s.lanePort l)).bmca else s
    else if l < 32 then (s.setSp ((l - 16) / 8) { s.sp ((l - 16) / 8) with sets := [] }).sendTraining ((l - 16) / 8)
    else s

def execLaneLockGain (t : Nat) (l : LaneSyms) (s : State) : Host.Outcome State Fault Refusal :=
  .next ((s.tick t).lockGain l.lane l.line)

/-- What the loss of a lane means to its family (R463, R475, R478). -/
def State.laneGone (s : State) (l : Nat) : State :=
  if l < 16 then s.portDown (s.lanePort l)
  else if l < 32 then s.spLaneLost ((l - 16) / 8) ((l - 16) % 8)
  else s

/-- LANE_LOCK_LOSS (R451): an S-lane by the symbols received since its lock was last looked at, an N- or P-lane by its standard. -/
def State.lockLoss (s : State) (l : Nat) (invalid : List Bool) : State :=
  if 36 ≤ l || !s.laneLocked l then s
  else
    let s := s.codeErrors l (invalid.filter id).length
    if 16 ≤ l && l < 32 && !losesLock invalid then s
    else (((s.setLock l false).bump (laneKey l) (laneIdx l) 0x0C).bump (laneKey l) 0x6400 0x05).laneGone l

def execLaneLockLoss (t : Nat) (l : LaneBits) (s : State) : Host.Outcome State Fault Refusal :=
  .next ((s.tick t).lockLoss l.lane l.line)

/-! ### Test facilities (R461 to R464) -/

/-- A write of a lane's test object: the lane leaves service with the first that is not 0, and returns, to lock again, with
the last that is 0 (R463, R486). -/
def laneTest (l sub : Nat) (s : State) (v : Val) : State × Nat :=
  let was := s.inTest l
  let s := s.wv (laneIdx l) sub v
  let s := if sub = 0x06 then s.wn (laneIdx l) 0x07 0 else s
  let now := s.inTest l
  if was = now then (s, 0)
  else
    let s := (s.setLock l false).wn 0x6400 0x03 (setBit (s.rn 0x6400 0x03) l now)
    let s := if now then s.laneGone l else s
    let s := if 16 ≤ l && l < 32 then s.spTestCheck ((l - 16) / 8) else s
    if l < 32 || s.dieLost 0 then (s, 0)
    else if now then (if s.rn 0x6600 0x04 = 3 then s else s.pcieDown 3, 0)
    else (if s.pcieHeld then s else s.wn 0x6600 0x04 (b2n (!s.pcie.reset)), 0)

/-- LANE_TEST_MODE (R461). -/
def execLaneTestMode (t : Nat) (r : Req) (l code : Nat) (s : State) : Host.Outcome State Fault Refusal :=
  .next ((s.tick t).request r (laneIdx l) 0x04 (leBytes 1 code) (laneTest l 0x04))

/-- PRBS_GENERATOR (R462). -/
def execPrbsGenerator (t : Nat) (r : Req) (l code : Nat) (s : State) : Host.Outcome State Fault Refusal :=
  .next ((s.tick t).request r (laneIdx l) 0x05 (leBytes 1 code) (laneTest l 0x05))

/-- PRBS_CHECKER (R462). -/
def execPrbsChecker (t : Nat) (r : Req) (l code : Nat) (s : State) : Host.Outcome State Fault Refusal :=
  .next ((s.tick t).request r (laneIdx l) 0x06 (leBytes 1 code) (laneTest l 0x06))

/-- R462: the exponents of a pattern's polynomial, and the bit that follows bits given newest first. -/
def prbsTaps (code : Nat) : Nat × Nat := if code = 1 then (7, 6) else if code = 2 then (15, 14) else if code = 3 then (23, 18) else (31, 28)
def prbsNext (code : Nat) (h : List Bool) : Option Bool :=
  match h[(prbsTaps code).1 - 1]?, h[(prbsTaps code).2 - 1]? with
  | some a, some b => some (a ^^ b)
  | _, _ => none

/-- Whether received bits hold 64 consecutive ones that follow the pattern; `n` have, and `h` are those before, newest first. -/
def prbsRun (code : Nat) : Nat → List Bool → List Bool → Bool
  | _, _, [] => false
  | n, h, b :: l =>
    let m := if prbsNext code h = some b then n + 1 else 0
    64 ≤ m || prbsRun code m (b :: h) l

/-- PRBS_CHECKER_LOCK (R462): 64 consecutive correct bits of the pattern it is set to. -/
def State.prbsLock (s : State) (l : Nat) (line : List Bool) : State :=
  if l < 36 && s.rn (laneIdx l) 0x06 ≠ 0 && prbsRun (s.rn (laneIdx l) 0x06) 0 [] line then s.wn (laneIdx l) 0x07 1 else s

def execPrbsCheckerLock (t : Nat) (l : LaneBits) (s : State) : Host.Outcome State Fault Refusal :=
  .next ((s.tick t).prbsLock l.lane l.line)

/-- PRBS_CHECKER_LOCK_LOSS (R462): the errors and bits counted while it was locked; more than 128 errors in 1,024 bits. -/
def State.prbsLoss (s : State) (l errors bits : Nat) : State :=
  if l < 36 && s.rn (laneIdx l) 0x06 ≠ 0 && s.rn (laneIdx l) 0x07 = 1 && 128 < errors then
    ((s.wn (laneIdx l) 0x07 0).bump (laneKey l) (laneIdx l) 0x08 errors).bump (laneKey l) (laneIdx l) 0x09 bits
  else s

def execPrbsCheckerLockLoss (t l errors bits : Nat) (s : State) : Host.Outcome State Fault Refusal :=
  .next ((s.tick t).prbsLoss l errors bits)

/-- R464: a pattern on an output's lanes, refused unless the output is disabled in force. -/
def dpPrbs (x : Nat) (s : State) (v : Val) : State × Nat :=
  if s.fn (0x4800 + x) 0x01 ≠ 0 then (s, 7) else (s.wv (0x6440 + x) 0x0B v, 0)

/-- DP_PRBS_GENERATOR (R464). -/
def execDpPrbsGenerator (t : Nat) (r : Req) (x code : Nat) (s : State) : Host.Outcome State Fault Refusal :=
  .next ((s.tick t).request r (0x6440 + x) 0x0B (leBytes 1 code) (dpPrbs x))

/-! ### The board table (R454 to R456) -/

/-- Whether a key names a value of the board table. -/
def boardKey (k : Nat) : Bool :=
  let i := k / 256
  let sub := k % 256
  (0x6410 ≤ i && i < 0x6434 && 1 ≤ sub && sub ≤ 3) || (0x6440 ≤ i && i < 0x6458 && 1 ≤ sub && sub ≤ 0x0A)

/-- R455: every staged value of the board table is put in force. -/
def boardApply (s : State) (_ : Val) : State × Nat :=
  (s.od.foldl (fun s p => if boardKey p.1 then s.setForce (p.1 / 256) (p.1 % 256) p.2 else s) s, 0)

/-- BOARD_TABLE_APPLY (R455). -/
def execBoardTableApply (t : Nat) (r : Req) (s : State) : Host.Outcome State Fault Refusal :=
  .next ((s.tick t).request r 0x6400 0x06 [1] boardApply)

/-! ### Rate matching (R457, R458) -/

/-- LINT_SET_SEND (R457). -/
def execLintSetSend (t q : Nat) (s : State) : Host.Outcome State Fault Refusal :=
  .next (if (s.tick t).spState q = spUp then (s.tick t).say (.lint q) else s.tick t)

/-- LINT_SET_RECEIVE (R458): at a fill above 8 one column is deleted, below 8 one is inserted. -/
def State.lintReceive (s : State) (q fill : Nat) : State :=
  if s.spState q ≠ spUp then s
  else if 8 < fill then s.bump (spayKey q 0) (spIdx q) 0x0B
  else if fill < 8 then s.bump (spayKey q 0) (spIdx q) 0x0A
  else s

def execLintSetReceive (t q fill : Nat) (s : State) : Host.Outcome State Fault Refusal :=
  .next ((s.tick t).lintReceive q fill)

/-- ELASTIC_ERROR (R458): a loss of every lane in use. -/
def State.elastic (s : State) (q : Nat) : State :=
  if s.spState q = spUp then (s.bump (spayKey q 0) (spIdx q) 0x0C).spLoss q else s

def execElasticError (t q : Nat) (s : State) : Host.Outcome State Fault Refusal :=
  .next ((s.tick t).elastic q)

/-! ### Delivery (R471 to R473) -/

/-- SPAYDUN_FRAME_SEND (R473). -/
def State.frameSend (s : State) (q : Nat) : State :=
  if s.spState q ≠ spUp then s
  else match (s.sp q).pick with
    | some f => (s.setSp q { s.sp q with ready := (s.sp q).ready.erase f }).emit q f
    | none => s

def execSpaydunFrameSend (t q : Nat) (s : State) : Host.Outcome State Fault Refusal :=
  .next ((s.tick t).frameSend q)

/-- RETRANSMIT_TIMEOUT (R471): resend, up to the limit; then the port goes DOWN. -/
def State.retransmit (s : State) (q : Nat) : State :=
  let g := s.sp q
  if s.spState q ≠ spUp || g.unacked.isEmpty || s.clock < g.progress + s.rn 0x6500 0x02 * usTicks then s
  else if s.rn 0x6500 0x03 ≤ g.rounds then s.spLinkDown q
  else (s.setSp q { g with rounds := g.rounds + 1 }).resend q

def execRetransmitTimeout (t q : Nat) (s : State) : Host.Outcome State Fault Refusal :=
  .next ((s.tick t).retransmit q)

/-- ACK_ONLY_SEND (R471): an acknowledgement owed for 20 µs goes out in an unsequenced control frame of opcode 0. -/
def State.ackOnly (s : State) (q : Nat) : State :=
  match (s.sp q).ackAt with
  | some a =>
    if s.spState q = spUp && a + 20 * usTicks ≤ s.clock then
      s.emit q (s.ownFrame ftControl (s.rn (spIdx q) 0x07 % 16) 2 [0, 0])
    else s
  | none => s

def execAckOnlySend (t q : Nat) (s : State) : Host.Outcome State Fault Refusal :=
  .next ((s.tick t).ackOnly q)

/-- ACKNOWLEDGEMENT (R471): a control frame of opcode 0. -/
def execAcknowledgement (t q : Nat) (x : SpWire) (s : State) : Host.Outcome State Fault Refusal :=
  let f := s.spFrame q x
  .next ((s.tick t).onFrame q f (spIsOp f 0) (fun s => s))

/-! ### Time marks (R176 to R178) -/

/-- The hop count of a port whose valid marks arrive (R177): a port whose last one is older than the servo's loss timeout has none, nor
has one whose last mark came with a count that is not valid (DESIGN CHOICE, log 168). -/
def State.markHops (s : State) (q : Nat) : Option Nat :=
  let g := s.sp q
  if g.markAt + s.rn 0x2800 0x07 * msTicks < s.clock then none else g.hops

/-- This package's hop count: 0 at the supervisor, one more than the marks it follows; 16, never valid, where none came. -/
def State.ownHops (s : State) : Nat :=
  if s.supervisor then 0
  else match s.markHops 0, s.markHops 1 with
    | some a, some b => min a b + 1
    | some a, none => a + 1
    | none, some b => b + 1
    | none, none => 16

/-- A mark or reply's payload before its transmit stamp is written. -/
def State.markBytes (s : State) (kind sent got : Nat) : List Byte :=
  beBytes 1 kind ++ beBytes 1 s.ownHops ++ [0, 0] ++ beBytes 4 (min 0xFFFFFFFF (s.time.u.getD 0xFFFFFFFF)) ++ beBytes 12 0 ++
  beBytes 12 sent ++ beBytes 12 got

/-- TIME_MARK_SEND (R176): on a port that is up, every 1 ms. -/
def State.markSend (s : State) (q : Nat) : State :=
  if s.spState q = spUp && s.maySend ftMark 0 && s.due (s.sp q).markSent msTicks then
    (s.setSp q { s.sp q with markSent := some s.clock }).ready q (s.ownFrame ftMark (s.rn (spIdx q) 0x07 % 16) 0 (s.markBytes 0 0 0))
  else s

def execTimeMarkSend (t q : Nat) (s : State) : Host.Outcome State Fault Refusal :=
  .next ((s.tick t).markSend q)

/-- Whether the marks of a port are the ones followed: the lower hop count, port A if equal (R177). -/
def State.followed (s : State) (q : Nat) : Bool :=
  match s.markHops q, s.markHops (1 - q) with
  | some a, some b => a < b || (a = b && q = 0)
  | some _, none => true
  | none, _ => false

/-- TIME_MARK (R177): a mark is answered and, when valid and followed, is one update of the servo; a reply gives the link
delay, taken the same in both directions. -/
def State.markTake (s : State) (q : Nat) (f : SpFrame) : State :=
  let b := f.payload
  let stamp := fun (i : Nat) => ((time96Ns (beNat ((b.drop i).take 12)) : Nat) : Int)
  let g := s.sp q
  if byteAt b 0 = 1 then
    s.setSp q { g with delay := some (((stamp 32 - stamp 20) + ((f.rxNs : Int) - stamp 8)) / 2) }
  else
    let rx := time96 (f.rxNs / 1000000000) (f.rxNs % 1000000000)
    let s := if s.maySend ftMark 0 then
        s.ready q (s.ownFrame ftMark f.src 0 (s.markBytes 1 (beNat ((b.drop 8).take 12)) rx))
      else s
    let u := beNat ((b.drop 4).take 4)
    if u = 0xFFFFFFFF then s
    else if 15 < byteAt b 1 then s.setSp q { s.sp q with hops := none }
    else
      let s := s.setSp q { s.sp q with hops := some (byteAt b 1), markAt := s.clock }
      match g.delay with
      | some d =>
        if s.rn 0x2800 0x03 = 2 && s.followed q && !s.restarting q .net then
          { s with time := { s.time with senderU := u } }.servoUpdate ((f.rxNs : Int) - stamp 8 - d)
        else s
      | none => s

def execTimeMark (t q : Nat) (x : SpWire) (s : State) : Host.Outcome State Fault Refusal :=
  let f := s.spFrame q x
  .next ((s.tick t).onFrame q f (f.ftype = ftMark) (fun s => s.markTake q f))

end Sys2Proof.Machine
end

