-- ==== Sys2Proof/Machine/Health.lean ====
section
/-! DEFINITION. The dies, their link and processors, unit health, patching and the loss of a region or die (chapter 2,
R80 to R116). -/

namespace Sys2Proof.Machine

/-! ### Addresses -/

/-- The key of the unit an address value names, if it is of unit level and Table 2.2 defines it. -/
def unitOf (addr : Nat) : Option Nat :=
  if addrOk addr && (Addr.ofNat addr).level = 0 then some (addr % 2048) else none

/-- Address values, without the package, of a region and of a die. -/
def regionAddr (die region : Nat) : Nat := 256 * region + 1024 * die + 2 * 65536
def dieAddr (die : Nat) : Nat := 1024 * die + 3 * 65536

/-- Whether a unit is an LVS pair. -/
def isLvs (k : Nat) : Bool := k = lvsKey 0 || k = lvsKey 1

/-- A die from its index. -/
def dieOf (d : Nat) : Die := if d = 0 then .e else .w

/-- Whether the unit's die, or its region, has been declared DEAD as a whole. -/
def State.wholeDown (s : State) (k : Nat) : Bool :=
  s.dieLost (keyDie k) || s.declared.contains (dieAddr (keyDie k)) ||
  s.declared.contains (regionAddr (keyDie k) (keyRegion k))

/-! ### What a unit's loss means for its function (R106, R111, R112) -/

/-- The screen of an output: its own, or that of its gang. -/
def State.screenOf (s : State) (o : Nat) : Nat := if s.member o then o - o % 4 else o

/-- A screen that may have become unavailable: pending commits (R283), its layers (R112), contexts of it. -/
def State.screenLost (s : State) (x : Nat) : State :=
  if !s.unavailable x && !s.compGone x then s
  else
    let s := s.setScreen x { s.screen x with composing := none }
    let s := if s.unavailable x then s.dropPart x else s
    let s := (s.layersOn x).foldl (fun s n => s.degrade n) s
    s.encRecheck (fun _ => false)

/-- A scaler pipe is DEAD (R110, R241): its place is taken by the lowest SPARE pipe of its die. -/
def State.pipeLost (s : State) (x : Nat) (patchable : Bool) : State :=
  let die := x / 64
  let spare := ((List.range 64).map (· + 64 * die)).find? (fun y => (s.unit (pipeKey y)).st = 3)
  match (List.range 128).find? (fun p => s.placeUnit p = some x) with
  | some p =>
    match spare with
    | some y =>
      if patchable then
        ({ s with places := s.places.put p y }.patch (pipeKey x) (pipeKey y)).refreshPipes
      else s.refreshPipes
    | none => s.refreshPipes
  | none => s.refreshPipes

/-- A lane unit's lane is lost to its family. -/
def State.laneUnitLost (s : State) (l : Nat) : State :=
  if s.laneLocked l then (s.setLock l false).laneGone l else s

/-- What follows from the loss of a unit that is not a processor. `patchable` says that it may be patched (R105). -/
def State.functionLost (s : State) (k : Nat) (patchable : Bool) : State :=
  let d := keyDie k
  let j := keyUnit k
  match keyRegion k, keyCluster k with
  | 0, 3 => s.encRebind (2 * d + j)
  | 0, c =>
    match keyCore k with
    | some core =>
      let s := s.coreDies core
      if c = 0 then s else if patchable then s.coreLost core false
      else if s.active.contains core then s.coreLost core true else s.refreshCores
    | none => s
  | 1, 20 =>
    if j = 0 then
      (List.range 12).foldl (fun s i =>
        let x := 12 * d + i
        s.setScreen x { s.screen x with pressing := none, planeDone := false, pressMs := [] }) s
    else (s.engineLost (2 * d + (j - 1))).rerun
  | 1, c =>
    if c ≤ 3 then s.screenLost (s.screenOf (12 * d + 4 * (c - 1) + j))
    else match keyPipe k with
      | some x => s.pipeLost x patchable
      | none => s
  | 2, 1 => if j = 1 then s.stopTouch d scanLost else s
  | 2, c =>
    if 3 ≤ c && c ≤ 8 then
      let u := 4 * (c - 3) + j
      if u < 12 then
        let x := 12 * d + u
        let s := s.raise k 0x0104 2 [(8, x)]
        ((s.layersOn x).filter (fun n => bit (s.fn (lIdx n) 0x2B) 7)).foldl (fun s n =>
          let s := s.setLayer n { s.layer n with rbOk := false }
          if s.rn (lIdx n) 0x2C = 1 then s.wn (lIdx n) 0x2F (s.rn (lIdx n) 0x2F % 4 + 4) else s) s
      else s
    else if c = 9 || c = 10 then s.laneUnitLost (8 * d + 4 * (c - 9) + j)
    else if c = 11 || c = 12 then s.laneUnitLost (spLane d (4 * (c - 11) + j))
    else if c = 13 then s.laneUnitLost (32 + j)
    else if c = 14 then s.canLost d
    else if 15 ≤ c && c ≤ 17 then s.screenLost (s.screenOf (12 * d + 4 * (c - 15) + j))
    else if 18 ≤ c && c ≤ 20 then s.screenLost (s.screenOf (12 * d + 4 * (c - 18) + j))
    else if c = 23 || c = 24 then
      let u := 8 * d + 4 * (c - 23) + j
      { s with trigs := s.trigs.put u { s.trig u with armed := false, waitLock := false } }
    else s
  | _, _ => s

/-- The row of a unit becoming DEAD: a partner named by a unit that served in its place, or that it served, is gone. -/
def State.unitDead (s : State) (k : Nat) : State :=
  let u := s.unit k
  let s := match u.partner with
    | some a =>
      let p := a % 2048
      s.setUnit p { s.unit p with partner := none }
    | none => s
  let v := { u.dead with partner := none }
  s.setHealth k { v with adv := min 1024 v.adv } u.st

/-- Whether R105 asks for a patch: the unit was OK or PATCHED, or SUSPECT with one of those prior states. -/
def UnitS.patchable (u : UnitS) : Bool := u.st = 0 || u.st = 4 || (u.st = 1 && (u.prior = 0 || u.prior = 4))

/-- Units below a level that are not already DEAD become DEAD at the same moment, none patched; an LVS pair stops under R69
(R107). The pool and the budgets are settled after them all (R194). -/
def State.killAll (s : State) (ks : List Nat) : State :=
  let dying := ks.filter (fun k => !isLvs k && (s.unit k).st ≠ 2)
  let s := dying.foldl (fun s k => s.unitDead k) s
  let s := dying.foldl (fun s k => match keyCore k with
    | some c => (s.coreDies c).coreGone c
    | none => s.functionLost k false) s
  ks.foldl (fun s k => if isLvs k then s.lvsFault (dieOf (keyDie k)) else s) s

/-- The processor an address holds (Table 2.2). -/
def procOf (k : Nat) : Option Proc :=
  [Proc.sys, .net, .med, .cmp, .tch].find? (fun p => procKey (keyDie k) p = k)

/-! ### Loss of a die (R83, R84, R113) -/

/-- What the survivor loses at once with the DRAM: pictures, surfaces and press planes. Its screens show the service pattern
(R312), the lost die's their FENCED treatment (`State.screenFence`), and no layer is LIVE until R43 and R44 are met again. -/
def State.dramLost (s : State) : State :=
  let s := { s with
    sess := s.sess.map (fun (p : Nat × SessS) => (p.1, ({ p.2 with disp := none, refs := [], aus := [], queue := [] } : SessS)))
    gfx := [], segs := [], queued := [], zttQ := [], engines := []
    encs := s.encs.map (fun (p : Nat × EncS) => (p.1, ({ p.2 with coding := none, queue := [] } : EncS)))
    screens := s.screens.map (fun (p : Nat × ScreenS) => (p.1, ({ p.2 with
      service := p.2.service || !s.dieLost (p.1 / 12), plan := none, next := none, composing := none, written := [],
      dropped := [], done := none, scanWritten := [], fresh := [], planeCur := 0, planeKey := [], pressing := none, planeDone := false
      pressMs := [] } : ScreenS))) }
  (s.slotsUsed.filter s.layerOn).foldl (fun s n =>
    let s := s.firstUse n
    (s.setLayer n { s.layer n with sel := none, good := none }).degrade n) s |>.refreshSummaries

/-- A die is declared DEAD: the package epoch advances, every unit below it is DEAD, and the survivor begins to reload. -/
def State.loseDie (s : State) (d : Nat) : State :=
  if s.link.lostDie.isSome then s
  else
    let s := if s.primary.idx = d then s.sysFailover else s
    let s := { s with
      link := { s.link with lostDie := some (dieOf d), reloading := true }
      declared := s.declared ++ [dieAddr d, regionAddr d 0, regionAddr d 1, regionAddr d 2]
      primary := (dieOf d).other, loaded := false
      mem := { s.mem with training := true, refreshing := false, bursts := [], queued := none } }
    let s := s.wn 0x6000 0x0F (if d = 0 then 0xF0 else 0x0F)
    let s := s.wn 0x2100 0x01 (wrapInc 16 (s.rn 0x2100 0x01))
    let s := s.wn 0x2100 0x02 (setBit (s.rn 0x2100 0x02) d false)
    let s := [0, 1, 2].foldl (fun s r => s.wn 0x2100 (0x12 + 3 * d + r) 0) s
    let s := s.killAll (unitsOfDie d)
    let s := if spTraining ≤ s.spState d then (if s.spState d = spTraining then s.spLeave d spDown else s.spLinkDown d) else s
    let s := (s.poolOf (1 - d)).refreshEncode
    let s := if d = 0 then { s.pcieDown 0 with pcie := {} } else s.setReady false
    s.dramLost

/-- The die-to-die link is lost: W yields, or E where its region I is already DEAD (R83, R84). -/
def State.loseLink (s : State) : State :=
  if s.link.lost then s
  else
    let s := { s with link := { s.link with lost := true } }
    s.loseDie (if s.declared.contains (regionAddr 0 2) then 0 else 1)

/-- A region becomes DEAD with its processor (Tables 2.3 and 2.8). With region I the die goes (R113). -/
def State.loseRegion (s : State) (d r : Nat) : State :=
  if s.declared.contains (regionAddr d r) then s
  else if r = 2 then s.loseDie d
  else
    let s := { s with declared := s.declared ++ [regionAddr d r] }.wn 0x2100 (0x12 + 3 * d + r) 0
    let s := s.killAll (unitsOfRegion d r)
    if r = 0 then (s.poolOf (1 - d)).rerun.refreshEncode
    else (List.range 12).foldl (fun s i => s.screenLost (12 * d + i)) s

/-- What follows from the loss of a processor (Table 2.3). -/
def State.processorLost (s : State) (d : Nat) (p : Proc) : State :=
  let s := { s with procs := s.procs.put (procKey d p) {} }
  match p with
  | .sys =>
    if s.primary.idx = d then
      let s := s.sysFailover
      if s.gone (procKey (1 - d) .sys) then s else { s with primary := (dieOf d).other }
    else s
  | .net => s.loseRegion d 2
  | .med => s.loseRegion d 0
  | .cmp => s.loseRegion d 1
  | .tch => s.stopTouch d scanLost

/-- A unit becomes DEAD (Table 2.7): its row, its work in flight, its patch. An LVS pair's faults are R69's. -/
def State.kill (s : State) (k : Nat) : State :=
  if isLvs k then s.lvsFault (dieOf (keyDie k))
  else if s.gone k then s
  else
    let pat := (s.unit k).patchable && !s.wholeDown k
    let s := s.unitDead k
    match procOf k with
    | some p => s.processorLost (keyDie k) p
    | none => s.functionLost k pat

/-! ### Faults (R103, R104) -/

/-- A fault counts (0x2100:08, S16): the increment that reaches the maximum raises one counter saturated event. -/
def State.countFault (s : State) (k : Nat) : State :=
  let u := s.unit k
  if 0xFFFF ≤ u.faults then s
  else
    let s := s.setUnit k { u with faults := u.faults + 1 }
    if u.faults + 1 = 0xFFFF then s.raise k 0x0003 1 [(16, 0x2100), (8, 0x08), (8, 0)] else s

/-- Objects that follow the units' states. -/
def State.refreshUnits (s : State) : State := ((s.refreshCores).refreshPipes).refreshEncode

/-- A soft fault (R104). -/
def State.softFault (s : State) (k : Nat) : State :=
  let u := s.unit k
  if isLvs k then s.lvsFault (dieOf (keyDie k))
  else if s.gone k then s
  else
    let s := s.countFault k
    let u' := s.unit k
    let runs : Bool := match u.window with
      | some w => decide (s.clock < w)
      | none => false
    if runs then (s.kill k).refreshUnits
    else
      let w := some (s.clock + s.rn 0x2100 0x0B * msTicks)
      if u.st = 1 then s.setUnit k { u' with window := w }
      else (s.setHealth k { u' with st := 1, prior := u.st, window := w } u.st).refreshUnits

/-- UNIT_SOFT_FAULT (R104). -/
def State.onUnit (s : State) (addr : Nat) (f : State → Nat → State) : State :=
  match unitOf addr with
  | some k => f s k
  | none => s

def execUnitSoftFault (t addr : Nat) (s : State) : Host.Outcome State Fault Refusal :=
  .next ((s.tick t).onUnit addr State.softFault)

/-- A hard fault (R103). -/
def State.hardFault (s : State) (k : Nat) : State :=
  if isLvs k || s.gone k then s.kill k else ((s.countFault k).kill k).refreshUnits

/-- UNIT_HARD_FAULT (R103). -/
def execUnitHardFault (t addr : Nat) (s : State) : Host.Outcome State Fault Refusal :=
  .next ((s.tick t).onUnit addr State.hardFault)

/-- CORRECTED_SRAM_ERROR (R104): more than 16 within 1 s are a soft fault. -/
def State.sramCorrected (s : State) (k : Nat) : State :=
  if s.gone k then s
  else
    let l := ((s.unit k).sram.filter (fun a => s.clock < a + sTicks)) ++ [s.clock]
    let s := s.setUnit k { s.unit k with sram := if 16 < l.length then [] else l }
    if 16 < l.length then s.softFault k else s

def execCorrectedSramError (t addr : Nat) (s : State) : Host.Outcome State Fault Refusal :=
  .next ((s.tick t).onUnit addr State.sramCorrected)

/-- RETEST_COMPLETE (Table 2.7). An LVS pair's self-test is R69's. A retest or periodic test that fails makes the unit DEAD and
counts no fault in 0x2100:08: the fault it confirms has counted (DESIGN CHOICE, log 143). -/
def State.retested (s : State) (k : Nat) (pass : Bool) : State :=
  let u := s.unit k
  if isLvs k || u.st ≠ 1 then s
  else if pass then
    let s := (s.setHealth k { u with st := u.prior } 1).refreshUnits
    match keyCore k with
    | some c => if s.noSpares (c / 7) then s.poolAgain c else s
    | none => s
  else (s.kill k).refreshUnits

def execRetestComplete (t addr : Nat) (pass : Bool) (s : State) : Host.Outcome State Fault Refusal :=
  .next ((s.tick t).onUnit addr (fun s k => s.retested k pass))

/-- SUSPECT_WINDOW_EXPIRY (R104). -/
def State.windowEnd (s : State) (k : Nat) : State :=
  match (s.unit k).window with
  | some w => if w ≤ s.clock then s.setUnit k { s.unit k with window := none } else s
  | none => s

def execSuspectWindowExpiry (t addr : Nat) (s : State) : Host.Outcome State Fault Refusal :=
  .next ((s.tick t).onUnit addr State.windowEnd)

/-- STALE_EPOCH_TRANSFER (R109): only equality is tested; the transfer is discarded. -/
def State.staleTransfer (s : State) (k epoch : Nat) : State :=
  let u := s.unit k
  if epoch = u.epoch then s
  else if u.st = 2 then (s.setHealth k { u with st := 5 } 2).refreshUnits
  else if u.st = 5 then s
  else s.hardFault k

def execStaleEpochTransfer (t addr epoch : Nat) (s : State) : Host.Outcome State Fault Refusal :=
  .next ((s.tick t).onUnit addr (fun s k => s.staleTransfer k epoch))

/-- SPARE_PERIODIC_TEST (Table 2.7). -/
def State.spareTest (s : State) (k : Nat) (pass : Bool) : State :=
  if (s.unit k).st ≠ 3 || pass then s else (s.kill k).refreshUnits

def execSparePeriodicTest (t addr : Nat) (pass : Bool) (s : State) : Host.Outcome State Fault Refusal :=
  .next ((s.tick t).onUnit addr (fun s k => s.spareTest k pass))

/-! ### Self-tests at reset (Table 2.7) -/

/-- The self-tests of a reset, by the addresses of the units that fail: each is DEAD, its epoch advances, and one event carries
the old state 0xFF. No patch is attempted; an LVS pair stops under R69. -/
def State.resetTests (s : State) (bad : List Nat) : State :=
  (bad.filterMap unitOf).foldl (fun s k =>
    if isLvs k then s.lvsFault (dieOf (keyDie k))
    else if (s.unit k).st = 2 then s
    else
      let s := s.setHealth k { (s.unit k).dead with partner := none } 0xFF
      match procOf k with
      | some p => s.processorLost (keyDie k) p
      | none => s.functionLost k false) s |>.refreshUnits

/-! ### The selected address and the health commands (R115, R116) -/

/-- The address selected (0x2100:04): this package where none has been written. -/
def State.selected (s : State) : Nat :=
  match s.od.look (key 0x2100 0x04) with
  | some v => v.int.toNat
  | none => 4 * 65536 + 4096 * s.pkgId

/-- The health of a level above the unit (R107). -/
def State.levelHealth (s : State) (a : Addr) : Nat :=
  let ks := allUnits.filter (fun k =>
    (a.level ≥ 4 || keyDie k = a.die) && (a.level ≥ 3 || keyRegion k = a.region) && (a.level ≥ 2 || keyCluster k = a.cluster))
  let down : Bool := a.level ≤ 3 && (s.declared.contains (dieAddr a.die) ||
    (a.level ≤ 2 && s.declared.contains (regionAddr a.die a.region)))
  if 4 ≤ a.level then s.rn 0x2100 0x03 else if down then 2 else if ks.any (fun k => (s.unit k).st = 1) then 1 else 0

/-- A write of 0x2100:04 latches a snapshot of the address. -/
def addressSelect (s : State) (v : Val) : State × Nat :=
  let n := v.int.toNat
  let a := Addr.ofNat n
  if !addrOk n || a.pkg ≠ s.pkgId then (s, 6)
  else
    let s := s.wv 0x2100 0x04 v
    let u := s.unit (n % 2048)
    let unit : Bool := a.level = 0
    let s := s.wn 0x2100 0x05 (if unit then u.st else s.levelHealth a)
    let s := s.wn 0x2100 0x06 (if unit then u.epoch else if a.level = 4 then s.rn 0x2100 0x01 else 0)
    let s := s.wn 0x2100 0x07 (if unit then u.partner.getD 0xFFFFFFFF else 0xFFFFFFFF)
    ((s.wn 0x2100 0x08 (if unit then u.faults else 0)).wn 0x2100 0x09 (if unit then min 1024 u.adv else 0), 0)

/-- ADDRESS_SELECT (R116). -/
def execAddressSelect (t : Nat) (r : Req) (addr : Nat) (s : State) : Host.Outcome State Fault Refusal :=
  .next ((s.tick t).request r 0x2100 0x04 (leBytes 4 addr) addressSelect)

/-- Health command 1: refused for SYS, LVS and an event arbiter (R90), and where the unit is DEAD or FENCED already. -/
def healthDead (s : State) : State × Nat :=
  match unitOf s.selected with
  | none => (s, 7)
  | some k =>
    let d := keyDie k
    if isLvs k || k = procKey d .sys || k = arbiterKey d || s.gone k then (s, 7) else ((s.kill k).refreshUnits, 0)

/-- What a unit's return means for its function (R110, R191, R241). -/
def State.functionBack (s : State) (k : Nat) : State :=
  match keyCore k with
  | some c => s.coreReturned c
  | none => match keyPipe k with
    | some x =>
      let s := (List.range 128).foldl (fun s p => if s.placeUnit p = some x then { s with places := s.places.put p 255 } else s) s
      s.refreshPipes
    | none =>
      let s := s.setHealth k { s.unit k with st := 0 } 3
      if keyRegion k = 1 && keyCluster k = 20 && keyUnit k ≠ 0 then s.rerun else s.refreshUnits

/-- Health command 2: refused unless DEAD or FENCED. A unit with 1,024 advances fails, and so does one of a lost die, which the
survivor cannot reach (R114). A FENCED unit that fails is DEAD again: it becomes DEAD, so its epoch advances and its event is
raised (DEDUCED from R105 and R108, log 144). -/
def healthReturn (pass : Bool) (s : State) : State × Nat :=
  match unitOf s.selected with
  | none => (s, 7)
  | some k =>
    let u := s.unit k
    if !s.gone k then (s, 7)
    else if pass && u.adv < 1024 && !s.dieLost (keyDie k) then
      ((s.setHealth k { u with
          st := 3, gate := false, partner := none, window := none, sram := [] } u.st).functionBack k, 0)
    else if u.st = 5 then (s.setHealth k { u.dead with adv := min 1024 (u.adv + 1) } 5, 0)
    else (s, 0)

/-- The selected unit's fault count is read-cleared (R13, 0x2100:08): both the unit's own and the snapshot. -/
def clearFaults (s : State) : State :=
  match unitOf s.selected with
  | none => s.readClear 0x2100 0x08
  | some k =>
    let s := s.wn 0x2100 0x08 (s.unit k).faults
    (s.readClear 0x2100 0x08).setUnit k { s.unit k with faults := 0 }

/-- A write of 0x2100:0A. -/
def healthCommand (pass : Bool) (s : State) (v : Val) : State × Nat :=
  match v.int with
  | 1 => healthDead s
  | 2 => healthReturn pass s
  | _ => match unitOf s.selected with
    | none => (s, 7)
    | some _ => (clearFaults s, 0)

/-- HEALTH_DECLARE_DEAD (Table 2.7). -/
def execHealthDeclareDead (t : Nat) (r : Req) (s : State) : Host.Outcome State Fault Refusal :=
  .next ((s.tick t).request r 0x2100 0x0A [1] (healthCommand false))

/-- HEALTH_RETURN_TO_SERVICE (Table 2.7): `pass` is what the self-test finds. -/
def execHealthReturnToService (t : Nat) (r : Req) (pass : Bool) (s : State) : Host.Outcome State Fault Refusal :=
  .next ((s.tick t).request r 0x2100 0x0A [2] (healthCommand pass))

/-- HEALTH_CLEAR_FAULT_COUNT (R13). -/
def execHealthClearFaultCount (t : Nat) (r : Req) (s : State) : Host.Outcome State Fault Refusal :=
  .next ((s.tick t).request r 0x2100 0x0A [3] (healthCommand false))

/-! ### The link and the processors (R81, R82, R87 to R89) -/

/-- DIE_HEARTBEAT_SEND (R82). -/
def State.heartbeat (s : State) (d : Die) : State :=
  if s.dieLost d.idx || s.link.lost then s
  else
    let l := match d with
      | .e => { s.link with hbE := s.clock }
      | .w => { s.link with hbW := s.clock }
    { s with link := l }.say (.heartbeat d)

def execDieHeartbeatSend (t : Nat) (d : Die) (s : State) : Host.Outcome State Fault Refusal :=
  .next ((s.tick t).heartbeat d)

/-- DIE_HEARTBEAT_TIMEOUT (R82): die `d` has received none for 1 ms. -/
def State.heartbeatTimeout (s : State) (d : Die) : State :=
  let last := match d with
    | .e => s.link.hbW
    | .w => s.link.hbE
  if s.link.lost || s.dieLost d.idx || s.clock < last + msTicks then s else s.loseLink

def execDieHeartbeatTimeout (t : Nat) (d : Die) (s : State) : Host.Outcome State Fault Refusal :=
  .next ((s.tick t).heartbeatTimeout d)

/-- DIE_LINK_CRC_FAILURE (R81): the failures of one transfer and the soft faults of the last second. -/
def State.linkCrc (s : State) (xfer : Nat) : State :=
  if s.link.lost || s.link.lostDie.isSome then s
  else
    let k := procKey s.primary.idx .sys
    let n := s.link.fails.at' xfer 0 + 1
    let recent := s.link.soft.filter (fun a => s.clock < a + sTicks)
    let soft := if n = 2 then recent ++ [s.clock] else recent
    let s := { s with link := { s.link with fails := if 3 ≤ n then s.link.fails.cut xfer else s.link.fails.put xfer n, soft := soft } }
    let s := s.bump k 0x2100 0x11
    let s := if 2 ≤ n then s.raise k 0x0204 2 [(8, n), (8, soft.length)] else s
    if 3 ≤ n || 16 < soft.length then s.loseLink else s

def execDieLinkCrcFailure (t xfer : Nat) (s : State) : Host.Outcome State Fault Refusal :=
  .next ((s.tick t).linkCrc xfer)

/-- PROCESSOR_WATCHDOG_EXPIRY (R88, R89): a restart, the third within 10 min making the processor DEAD. SYS fails over to
the other die where that one's serves (R87). -/
def State.watchdog (s : State) (p : Proc) (d : Nat) : State :=
  let k := procKey d p
  let g := s.procs.at' k {}
  if s.gone k || s.dieLost d || g.restarting then s
  else
    let l := g.restarts.filter (fun a => s.clock < a + 600 * sTicks) ++ [s.clock]
    if 3 ≤ l.length then (s.kill k).refreshUnits
    else
      let prim : Bool := p = .sys && s.primary.idx = d
      let s := { s with procs := s.procs.put k ⟨l, true, prim⟩ }
      match p with
      | .sys =>
        if prim then
          let s := s.sysFailover
          if s.gone (procKey (1 - d) .sys) then s else { s with primary := (dieOf d).other }
        else s
      | .tch =>
        if s.scan d = scanOff || s.scan d = scanLost then s
        else (s.latchZones d 5).setTch d { s.tch d with frames := [], contacts := [] }
      | _ => s

/-- PROCESSOR_RESTART_COMPLETE (R88): the processor serves again; a touch port acquires (Table 11.4). -/
def State.restarted (s : State) (p : Proc) (d : Nat) : State :=
  let k := procKey d p
  let g := s.procs.at' k {}
  if !g.restarting then s
  else
    let s := { s with procs := s.procs.put k { g with restarting := false, failover := false } }
    let s := if p = .net then s.servoBack else s
    if p = .tch && s.scan d ≠ scanOff && s.scan d ≠ scanLost then s.acquireTouch d true else s

def execProcessorRestartComplete (t : Nat) (p : Proc) (d : Die) (s : State) : Host.Outcome State Fault Refusal :=
  .next ((s.tick t).restarted p d.idx)

/-! ### Pace (R92, R93) -/

/-- PACE_LOW (R93): region 0 to 5 in the order of 0x2100:12 to :17. -/
def State.paceLow (s : State) (r pace : Nat) : State :=
  if 6 ≤ r || 1000 ≤ pace || s.declared.contains (regionAddr (r / 3) (r % 3)) then s
  else
    let s := s.wn 0x2100 (0x12 + r) pace
    if bit (s.rn 0x2100 0x18) r then s
    else (s.wn 0x2100 0x18 (setBit (s.rn 0x2100 0x18) r true)).raise (unitKey (r / 3) (r % 3) 0 0) 0x0202 2 [(8, r)]

def execPaceLow (t region pace : Nat) (s : State) : Host.Outcome State Fault Refusal :=
  .next ((s.tick t).paceLow region pace)

/-- PACE_RESTORED (R93). -/
def State.paceBack (s : State) (r pace : Nat) : State :=
  if 6 ≤ r || pace < 1000 || s.declared.contains (regionAddr (r / 3) (r % 3)) then s
  else
    let s := s.wn 0x2100 (0x12 + r) (min 65535 pace)
    if bit (s.rn 0x2100 0x18) r then
      (s.wn 0x2100 0x18 (setBit (s.rn 0x2100 0x18) r false)).raise (unitKey (r / 3) (r % 3) 0 0) 0x0203 0 [(8, r)]
    else s

def execPaceRestored (t region pace : Nat) (s : State) : Host.Outcome State Fault Refusal :=
  .next ((s.tick t).paceBack region pace)

end Sys2Proof.Machine
end

