-- ==== Sys2Proof/Machine/Memory.lean ====
section
/-! DEFINITION. The DRAM and the stacked SRAM (chapter 12, R428 to R449): address mapping, refresh, bandwidth, training and
set points, and memory errors. -/

namespace Sys2Proof.Machine

/-! ### Windows and addresses (R429 to R433) -/

/-- Whether the variant is a -32 (Table 0.1). -/
def State.big (s : State) : Bool := 2 ≤ s.otp.variant

/-- Raw sizes of the windows in MiB (Table 12.1). -/
def rawMiB (big : Bool) (w : Nat) : Nat :=
  ([256, 512, if big then 28672 else 11264, 512, 256, 128, 512, if big then 1920 else 2944][w]?).getD 0

/-- The default mapping order of a window (Table 12.1). -/
def defaultOrder (w : Nat) : Nat := if w = 0 then 0 else if w = 5 then 1 else 2

/-- The order and the ECC setting in force (R432); nothing of W7 is protected. -/
def State.orderOf (s : State) (w : Nat) : Nat := s.mem.order.at' w (defaultOrder w)
def State.eccOn (s : State) (w : Nat) : Bool := w < 7 && (w = 0 || s.mem.ecc.at' w 1 = 1)

/-- MiB a window offers (R429, R433): 15/16 with ECC; half on one die. -/
def State.usableMiB (s : State) (w : Nat) : Nat :=
  let raw := if s.link.lostDie.isSome then rawMiB s.big w / 2 else rawMiB s.big w
  if s.eccOn w then raw * 15 / 16 else raw

/-- The first row of a window, and its rows: a row of every bank of every channel is 256 KiB (R428, R429). -/
def firstRow (big : Bool) (w : Nat) : Nat := 4 * (((List.range w).map (rawMiB big)).foldl (· + ·) 0)
def rowsOf (big : Bool) (w : Nat) : Nat := 4 * rawMiB big w

/-- R431: the channel and channel address of a physical address; on one die bits 9:8 select the channel (R433). -/
def State.channelOf (s : State) (p : Nat) : Nat := if s.link.lostDie.isSome then bits p 9 8 else bits p 10 8
def State.channelAddr (s : State) (p : Nat) : Nat :=
  if s.link.lostDie.isSome then p / 1024 * 256 + p % 256 else p / 2048 * 256 + p % 256

/-- Table 12.2: column, bank and row of an offset in a window of `n` rows from `r0`. -/
def mapOffset (order r0 n o : Nat) : Nat × Nat × Nat :=
  match order with
  | 0 => (o % 2 ^ 11, bits o 14 11, r0 + o / 2 ^ 15)
  | 1 => (o % 2 ^ 11, o / 2 ^ 11 / n, r0 + o / 2 ^ 11 % n)
  | _ => (bits o 14 10 * 64 + bits o 5 0, Nat.xor (bits o 9 6) (bits o 18 15), r0 + o / 2 ^ 15)

/-! ### Requests (R434, R435) -/

/-- Table 12.3: the requesters, with whether their class is real-time and whether their page hint is keep-open. -/
def requesters : List (String × Bool × Bool) :=
  [("decode core reference reads", true, true), ("decode core picture and reduced-copy writes", true, false),
   ("scaler pipe source reads", true, true), ("press engine plane writes; compositor plane reads", true, false),
   ("encode core reference reads", true, true), ("encode core reconstruction writes", true, false),
   ("MAC ring writes; Spaydun relay traffic", true, false), ("depacketiser and descriptor reads and writes", false, false),
   ("coder engines", false, true), ("processors; PCIe transfers", false, false), ("scrub", false, false)]

/-- R434: the row a bank holds open after a request to a row: a refresh and a request to another row end it too. -/
def rowAfter (keepOpen : Bool) (row : Nat) : Option Nat := if keepOpen then some row else none

/-- R435: the class a channel grants next, true for real-time, where requests of the classes wait; `run` are the real-time grants in a
row during which the other class has waited. -/
def grant (run : Nat) (realTime other : Bool) : Option Bool :=
  if realTime && !(other && 15 ≤ run) then some true else if other then some false else none

/-- The run after a grant. -/
def runAfter (run : Nat) (other : Bool) (granted : Option Bool) : Nat := if granted = some true && other then run + 1 else 0

/-! ### Refresh and bandwidth (R436 to R439) -/

/-- The key of a DRAM channel's unit that serves. -/
def State.dramUnit (s : State) : Nat := if s.dieLost 0 then dramKey 4 else dramKey 0

/-- Usable bandwidth in MB/s (Table 12.5), half of it on one die. -/
def State.usableBw (s : State) : Nat :=
  let hot : Bool := s.rn 0x6000 0x06 = 1950
  let v := match s.rn 0x6000 0x03, s.big, hot with
    | 0, false, false => 89230
    | 0, false, true => 81520
    | 0, true, false => 86740
    | 0, true, true => 76550
    | 1, false, false => 66920
    | 1, false, true => 61150
    | 1, true, false => 65060
    | 1, true, true => 57420
    | _, false, false => 33460
    | _, false, true => 30570
    | _, true, false => 32530
    | _, true, true => 28710
  if s.link.lostDie.isSome then v / 2 else v

/-- REFRESH_DUE (R437): never postponed; bursts in progress are split, their remainders held. A changed interval takes
effect with it (R436). During training no channel serves or refreshes. -/
def State.refreshDue (s : State) (bursts : List (Nat × Nat)) : State :=
  if s.mem.training || s.mem.refreshing then s
  else
    let s := { s with mem := { s.mem with refreshing := true, bursts := bursts } }.say (.refresh bursts)
    if s.rn 0x6000 0x06 = s.mem.next then s
    else (s.wn 0x6000 0x06 s.mem.next).raise s.dramUnit 0x0B01 1 [(16, s.mem.next)]

def execRefreshDue (t : Nat) (bursts : List (Nat × Nat)) (s : State) : Host.Outcome State Fault Refusal :=
  .next ((s.tick t).refreshDue bursts)

/-- REFRESH_END (R437): the channels serve again, the split remainders first. -/
def State.refreshEnd (s : State) : State :=
  if s.mem.refreshing then
    { s with mem := { s.mem with refreshing := false, bursts := [] } }.say (.resumed s.mem.bursts)
  else s

def execRefreshEnd (t : Nat) (s : State) : Host.Outcome State Fault Refusal :=
  .next (s.tick t).refreshEnd

/-- DRAM_TEMPERATURE_POLL (R436): readings of the LPDDR5X dies. -/
def State.tempPoll (s : State) (temps : List Int) : State :=
  match temps with
  | [] => s
  | a :: rest =>
    let top := rest.foldl max a
    let s := s.wi 0x6000 0x07 (max (-128) (min 127 top))
    let m := s.mem
    if 85 < top then { s with mem := { m with next := 1950, cool := 0 } }
    else if top ≤ 82 then
      { s with mem := { m with cool := min 100 (m.cool + 1), next := if 100 ≤ m.cool + 1 then 3900 else m.next } }
    else { s with mem := { m with cool := 0 } }

def execDramTemperaturePoll (t : Nat) (temps : List Int) (s : State) : Host.Outcome State Fault Refusal :=
  .next ((s.tick t).tempPoll temps)

/-- DEMAND_MEASURE (R439): the demand of 1 ms in MB/s. The event marks the onset; the flag clears after 1 s without an
excess. -/
def State.demandIn (s : State) (d : Nat) : State :=
  let m := s.mem
  let l := (s.clock, d) :: m.demands.filter (fun p => s.clock < p.1 + sTicks)
  let high : Bool := s.usableBw < d
  let s := { s with mem := { m with demands := l, excess := if high then some s.clock else m.excess } }
  let s := s.wn 0x6000 0x0A (min 0xFFFFFFFF ((l.map (·.2)).foldl max 0))
  if high then
    if s.rn 0x6000 0x0C = 1 then s
    else (s.wn 0x6000 0x0C 1).raise s.dramUnit 0x0B02 2 [(32, d)]
  else match m.excess with
    | some a => if a + sTicks ≤ s.clock then s.wn 0x6000 0x0C 0 else s
    | none => s

def execDemandMeasure (t demand : Nat) (s : State) : Host.Outcome State Fault Refusal :=
  .next ((s.tick t).demandIn demand)

/-! ### Training and set points (R440 to R442) -/

/-- A write of 0x6000:02: a change to run, or one queued behind the training in progress; the point in force, with nothing
queued, asks for nothing. -/
def setPoint (s : State) (v : Val) : State × Nat :=
  let sp := v.int.toNat
  let m := s.mem
  let s' := s.wv 0x6000 0x02 v
  if m.training then
    if m.queued.isNone && sp = s.rn 0x6000 0x03 then (s', 0) else ({ s' with mem := { m with queued := some sp } }, 0)
  else ({ s' with mem := { m with want := if sp = s.rn 0x6000 0x03 then none else some sp } }, 0)

/-- SET_POINT_REQUEST (R441). -/
def execSetPointRequest (t : Nat) (r : Req) (sp : Nat) (s : State) : Host.Outcome State Fault Refusal :=
  .next ((s.tick t).request r 0x6000 0x02 (leBytes 1 sp) setPoint)

/-- SET_POINT_CHANGE_START (Table 12.6): the channels stop. -/
def State.spChange (s : State) : State :=
  match s.mem.want with
  | some sp =>
    if s.mem.training then s else { s with mem := { s.mem with training := true, target := sp, want := none } }
  | none => s

def execSetPointChangeStart (t : Nat) (s : State) : Host.Outcome State Fault Refusal :=
  .next (s.tick t).spChange

/-- What was queued behind a training that has ended is asked for, unless it is in force. -/
def State.trainingOver (s : State) : State :=
  let m := s.mem
  { s with mem := { m with
      training := false, queued := none
      want := match m.queued with
        | some q => if q = s.rn 0x6000 0x03 then none else some q
        | none => m.want } }

/-- A training that failed: counted, with one event naming the set point. -/
def State.trainingFailed (s : State) (sp : Nat) : State :=
  (s.bump s.dramUnit 0x6000 0x05).raise s.dramUnit 0x0B03 2 [(8, sp)]

/-- SET_POINT_TRAINING_DONE (R442): the new set point, or back to the old one. -/
def State.spDone (s : State) (ok : Bool) : State :=
  if !s.mem.training || !s.loaded then s
  else if ok then (s.wn 0x6000 0x03 s.mem.target).trainingOver
  else (s.trainingFailed s.mem.target).trainingOver

def execSetPointTrainingDone (t : Nat) (ok : Bool) (s : State) : Host.Outcome State Fault Refusal :=
  .next ((s.tick t).spDone ok)

/-- A stored value's number, where one is stored (Table 18.1). -/
def State.stored (s : State) (idx sub : Nat) : Option Nat :=
  ((s.flash.stores.at' s.flash.boot.store []).look (key idx sub)).map (fun v => v.int.toNat)

/-- Memory is initialised with the stored mapping orders and ECC settings (R432). -/
def State.memInit (s : State) : State :=
  (List.range 7).foldl (fun s w =>
    { s with mem := { s.mem with
        order := s.mem.order.put w ((s.stored (0x6010 + w) 2).getD (defaultOrder w))
        ecc := s.mem.ecc.put w ((s.stored (0x6010 + w) 3).getD 1) } }) s

/-- The set point trained at boot: the stored one (R440). -/
def State.bootPoint (s : State) : Nat := (s.stored 0x6000 2).getD 0

/-- DRAM_TRAINING_COMPLETE (R440): the set point each channel reached at boot, or on the survivor; a channel that reached none
loses its die. -/
def State.bootTrained (s : State) (reached : List (Option Nat)) : State :=
  if !s.mem.training || s.loaded then s
  else
    let chans := (List.range 8).filter (fun c => !s.dieLost (c / 4))
    let got := chans.map (fun c => (c, (reached[c]?).getD none))
    match got.find? (fun p => p.2.isNone) with
    | some p => (s.trainingFailed 2).loseDie (p.1 / 4)
    | none =>
      let low := (got.map (fun p => p.2.getD 0)).foldl max s.bootPoint
      let s := if s.bootPoint < low then s.trainingFailed s.bootPoint else s
      ((s.wn 0x6000 0x03 (min 2 low)).memInit).trainingOver

def execDramTrainingComplete (t : Nat) (reached : List (Option Nat)) (s : State) : Host.Outcome State Fault Refusal :=
  .next ((s.tick t).bootTrained reached)

/-! ### Errors (R443 to R447) -/

/-- One event of type memory uncorrectable (R445). -/
def State.memEvent (s : State) (w addr : Nat) : State :=
  s.raiseCond .memory 0xFF02 s.dramUnit 0x0B04 3 [(8, w), (40, addr)]

/-- SCRUB_PASS (R444): one pass; the addresses whose pattern in W7 was wrong. -/
def State.scrub (s : State) (errs : List Nat) : State :=
  errs.foldl (fun s a => (s.bump s.dramUnit 0x6000 0x09).memEvent 7 a) (s.bump s.dramUnit 0x6000 0x0E)

def execScrubPass (t : Nat) (w7Errors : List Nat) (s : State) : Host.Outcome State Fault Refusal :=
  .next ((s.tick t).scrub w7Errors)

/-- DRAM_CORRECTED_ERROR (R444). -/
def State.dramCorrected (s : State) (w : Nat) : State :=
  if s.eccOn w then (s.bump s.dramUnit 0x6000 0x08).bump s.dramUnit (0x6010 + w) 0x05 else s

def execDramCorrectedError (t w : Nat) (s : State) : Host.Outcome State Fault Refusal :=
  .next ((s.tick t).dramCorrected w)

/-- A picture with tiles tainted, if it is the one named. -/
def PicS.hit (p : PicS) (num : Nat) (tiles : List Nat) : PicS :=
  if p.num = num then { p with taint := (tiles ++ p.taint).eraseDups } else p

/-- Table 12.7. `hit` names what the word belongs to: W0 the processors that read it (die × 5 + its place in Table 2.3); W1
0, session and extended sequence number, or 1, ring and descriptor; W2 the session, its picture number or buffer, and
tiles; W3 the screen; W4 the encode context and its CTU rows; W5 0 and the context, or 1 and the place of the queued
write; W6 the session and tiles. -/
def State.dramHit (s : State) (w : Nat) (hit : List Nat) : State :=
  match w, hit with
  | 0, ps => ps.foldl (fun s p =>
      match [Proc.sys, .net, .med, .cmp, .tch][p % 5]? with
      | some q => s.watchdog q (p / 5 % 2)
      | none => s) s
  | 1, [0, n, q] =>
    s.setSes n { s.ses n with aus := (s.ses n).aus.map (fun a => { a with pkts := a.pkts.filter (fun x => x.1 ≠ q) }) }
  | 1, [1, q, d] => s.writeBack q ⟨d, 8, true, false, false, 0, 0, 0, 0⟩
  | 2, n :: b :: tiles =>
    if s.isSurface n then
      match (s.gfxOf n).bufs.look b with
      | some u => s.taintBuf n b ((tiles ++ u.taint).eraseDups)
      | none => s
    else
      let g := s.ses n
      s.setSes n { g with
        disp := g.disp.map (fun p => p.hit b tiles), refs := g.refs.map (fun p => p.hit b tiles),
        waiting := g.waiting.map (fun p => (p.1.hit b tiles, p.2)) }
  | 3, [x] => s.setScreen x { s.screen x with planeCur := 0, planeKey := [] }
  | 4, e :: rows =>
    let g := s.enc e
    if g.coding.isSome then s.setEnc e { g with bad := (rows ++ g.bad).eraseDups } else s
  | 5, [0, c] => s.setCtx c { s.ctx c with await := true }
  | 5, [1, i] =>
    match s.queued[i]? with
    | some q =>
      (((({ s with queued := s.queued.eraseIdx i }).bump (coderKey 0) 0x4300 0x12).zttReply q.msg 4 0 true true)).refreshQueue
    | none => s
  | 6, n :: tiles =>
    let g := s.sys.relayIn.at' n {}
    { s with sys := { s.sys with relayIn := s.sys.relayIn.put n { g with tiles := g.tiles.map (fun p => (p.1, p.2.1 || tiles.contains p.1, p.2.2)) } } }
  | _, _ => s

/-- DRAM_UNCORRECTABLE_ERROR (R445): not detected where ECC is off. -/
def State.dramError (s : State) (w addr : Nat) (hit : List Nat) : State :=
  if s.eccOn w then
    (((s.bump s.dramUnit 0x6000 0x09).bump s.dramUnit (0x6010 + w) 0x06).memEvent w addr).dramHit w hit
  else s

def execDramUncorrectableError (t w addr : Nat) (hit : List Nat) (s : State) : Host.Outcome State Fault Refusal :=
  .next ((s.tick t).dramError w addr hit)

/-- Table 12.8: the SRAM of a die by use, in KiB; the same on both dies (R446). -/
def sramUse : List (String × Nat) :=
  [("frame buffers", 108000), ("scaler line stores", 7680), ("compositor strip stores", 1440), ("ledgers", 256), ("taint maps", 4096),
   ("decoder caches", 1792), ("processor memory", 4096), ("event log", 512), ("dictionary mirror", 2048),
   ("compression dictionaries", 1024), ("tally shadow", 8), ("reserved", 120)]

/-- SRAM_UNCORRECTABLE_ERROR (R447): in a frame buffer, the rest of the strip from column x is creased; in a ledger entry,
the whole strip. -/
def State.sramError (s : State) (x k col : Nat) (ledger : Bool) : State :=
  let sc := s.screen x
  let s := (s.bump (scanKey x) 0x6000 0x10).raiseCond .memory 0xFF02 (scanKey x) 0x0B04 3 [(8, 0xFF), (40, 0)]
  s.setScreen x { sc with crease := sc.crease ++ [(k, if ledger then 0 else col, 0xFFFF)] }

def execSramUncorrectableError (t x k col : Nat) (ledger : Bool) (s : State) : Host.Outcome State Fault Refusal :=
  .next ((s.tick t).sramError x k col ledger)

end Sys2Proof.Machine
end

