-- ==== Sys2Proof/Machine/Checks.lean ====
section
/-! DEFINITION. The check units (R545 to R550) and the tally port (R551 to R557). -/

namespace Sys2Proof.Machine

/-! ### Check units -/

/-- The selected unit, and a unit's row. -/
def State.checkSel (s : State) : Nat := s.rn 0x2300 0x01
def State.check (s : State) (u : Nat) : CheckS := s.checks.at' u {}
def State.setCheck (s : State) (u : Nat) (g : CheckS) : State := { s with checks := s.checks.put u g }

/-- R545: units reserved to LVS. -/
def lvsReserved (u : Nat) : Bool := u < 12 || (24 ≤ u && u < 36)

/-- Table 16.4: whether a unit reaches a point with a parameter. -/
def reaches (u point param : Nat) : Bool :=
  match point with
  | 1 => param < 160
  | 2 => param < 24 && param / 12 = u / 24
  | 3 => 1 ≤ param % 256 && param % 256 ≤ 5 && param < 512 && param / 256 = u / 24
  | _ => true

/-- The N of a point's alive value (Table 16.4). -/
def aliveBits (point : Nat) : Nat :=
  match point with
  | 1 => 32
  | 2 => 8
  | _ => 16

/-- The running value a configuration write leaves (R550). -/
def CheckS.restart (g : CheckS) : CheckS :=
  { g with run := if g.mode = 3 then 0 else (crcAlg g.alg).init, repRun := 0 }

/-- A write of 0x2300:03 to :08, :0A or :0F on the selected unit (R545, R547, R550). -/
def checkWrite (sub : Nat) (s : State) (v : Val) : State × Nat :=
  let u := s.checkSel
  let g := s.check u
  let n := v.int.toNat
  if lvsReserved u then (s, 7)
  else match sub with
    | 0x03 => if n = 3 && g.point = 4 then (s, 6) else (s.setCheck u { g with mode := n }.restart, 0)
    | 0x04 => (s.setCheck u { g with alg := n }.restart, 0)
    | 0x05 =>
      if !reaches u n g.param || (n = 4 && g.mode = 3) then (s, 6) else (s.setCheck u { g with point := n }.restart, 0)
    | 0x06 => if reaches u g.point n then (s.setCheck u { g with param := n }.restart, 0) else (s, 6)
    | 0x07 => (s.setCheck u { g with window := n }.restart, 0)
    | 0x08 => (s.setCheck u { g with run := n }, 0)
    | 0x0A => (s.setCheck u { g with expected := n }, 0)
    | _ => (s.setCheck u { g with limit := n }, 0)

/-- A counter of the selected unit is read-cleared (R13). -/
def checkClear (sub : Nat) (s : State) : State :=
  let u := s.checkSel
  let g := s.check u
  let held := match sub with
    | 0x0B => g.items
    | 0x0C => g.mism
    | 0x0D => g.repeats
    | _ => g.replays
  let g := match sub with
    | 0x0B => { g with items := 0 }
    | 0x0C => { g with mism := 0 }
    | 0x0D => { g with repeats := 0 }
    | _ => { g with replays := 0 }
  ((s.wn 0x2300 sub held).readClear 0x2300 sub).setCheck u g

/-- CHECK_UNIT_CONFIGURE (R548, R550): a write of :03 to :07, :0A or :0F. -/
def execCheckUnitConfigure (t : Nat) (r : Req) (sub v : Nat) (s : State) : Host.Outcome State Fault Refusal :=
  let w := match sub with
    | 0x06 => 4
    | 0x07 | 0x0A => 8
    | _ => 1
  .next ((s.tick t).request r 0x2300 sub (leBytes w v)
    (fun s v => if (3 ≤ sub && sub ≤ 7) || sub = 0x0A || sub = 0x0F then checkWrite sub s v else (s, 6)))

/-- CHECK_RUNNING_VALUE_WRITE (R550). -/
def execCheckRunningValueWrite (t : Nat) (r : Req) (v : Nat) (s : State) : Host.Outcome State Fault Refusal :=
  .next ((s.tick t).request r 0x2300 0x08 (leBytes 8 v) (checkWrite 0x08))

/-- A check alert of a unit (R549): at most one in 1 s. -/
def State.checkAlert (s : State) (u kind value : Nat) : State :=
  let g := s.check u
  if !s.due g.alertAt sTicks then s
  else (s.setCheck u { g with alertAt := some s.clock }).raise (checkKey u) 0x0004 2 [(8, u), (8, kind), (32, value)]

/-- One more on a saturating counter of a unit (R11, R13). -/
def State.checkCount (s : State) (u sub old : Nat) (set : Nat → CheckS) : State :=
  if 0xFFFFFFFF ≤ old then s
  else
    let s := s.setCheck u (set (old + 1))
    if old + 1 = 0xFFFFFFFF then s.raise (checkKey u) 0x0003 1 [(16, 0x2300), (8, sub), (8, 0)] else s

/-! ### Items (Table 16.4) -/

/-- An item as its unit sees it: the bytes delivered, the alive value where the point has one, and the unit whose result it is
(R104, R547): the decode core of a picture, the scan-out unit of a screen. A received frame and a write are no unit's result
(DEDUCED, log 145). -/
structure Snoop where
  bytes : List Byte
  alive : Option Nat := none
  unit : Option Nat := none
  deriving DecidableEq, Repr

/-- The pixels of a screen's window in raster order, 4 bytes each, those of the window that lie on the screen (DESIGN CHOICE,
log 145). -/
def State.windowBytes (s : State) (x : Nat) (wrong : List LinkPx) (win : Nat) : List Byte :=
  let x0 := bits win 15 0
  let y0 := bits win 31 16
  (plane (min (bits win 47 32) (s.ha x - x0)) (min (bits win 63 48) (s.va x - y0)) (fun i j =>
    let c := s.snooped x wrong (x0 + i) (y0 + j)
    1048576 * c.1 + 1024 * c.2.1 + c.2.2)).flatMap (beBytes 4)

/-- What a snoop point delivers of an item; none where the item is not one of the unit's point and parameter. -/
def State.snoop (s : State) (g : CheckS) : Item → Option Snoop
  | .picture core =>
    if g.point = 1 && s.isVideo g.param then
      (s.ses g.param).disp.map (fun p =>
        ⟨p.luma, some p.alive, core.bind (fun c => if c < 14 then some (coreKey c) else none)⟩)
    else none
  | .scan wrong =>
    if g.point = 2 && g.param < 24 && (s.screen g.param).run then
      some ⟨s.windowBytes g.param wrong g.window,
        marksValue (s.readMarks g.param ((bits g.window 15 0 : Int), (bits g.window 31 16 : Int)) wrong), some (scanKey g.param)⟩
    else none
  | .frame x =>
    let q := g.param / 256
    let f := s.spFrame q x
    if g.point = 3 && f.framingOk && f.crcOk && f.ftype = g.param % 256 then
      some ⟨(frameData x).take (16 + f.payload.length), some f.seq, none⟩
    else none
  | .write idx sub data =>
    if g.point = 4 && g.param % 65536 ≤ idx && idx ≤ g.param / 65536 then
      some ⟨beBytes 2 idx ++ beBytes 1 sub ++ beBytes 4 data.length ++ data, none, none⟩
    else none

/-- Modes 1 and 2 on an item's bytes (R548). A result found wrong is a soft fault of the unit it came from (R104). -/
def State.checkBytes (s : State) (u : Nat) (b : List Byte) (source : Option Nat) : State :=
  let g := s.check u
  let a := crcAlg g.alg
  if g.mode = 2 then s.setCheck u { g with run := crcRun a g.run b }
  else
    let run := crcRun a a.init b
    let res := crcResult a run
    let s := s.setCheck u { g with run := run, last := res }
    if g.expected = 0xFFFFFFFFFFFFFFFF || res = g.expected then s
    else
      let g := s.check u
      let s := (s.checkCount u 0x0C g.mism (fun n => { g with mism := n })).checkAlert u 0 (res % 2 ^ 32)
      match source with
      | some k => s.softFault k
      | none => s

/-- Mode 3 on an alive value (R549). -/
def State.checkAlive (s : State) (u a : Nat) : State :=
  let g := s.check u
  let n := aliveBits g.point
  if !bit g.run 63 then s.setCheck u { g with run := 2 ^ 63 + a, repRun := 0 }
  else if serialAfter n a g.run then s.setCheck u { g with run := 2 ^ 63 + a, repRun := 0 }
  else if serialEq n a g.run then
    let s := s.setCheck u { g with repRun := min 256 (g.repRun + 1) }
    let h := s.check u
    let s := s.checkCount u 0x0D h.repeats (fun n => { h with repeats := n })
    if g.repRun = g.limit then s.checkAlert u 1 a else s
  else (s.checkCount u 0x0E g.replays (fun n => { g with replays := n })).checkAlert u 2 a

/-- CHECK_ITEM (R546 to R549): one completed item of the unit's snoop point. -/
def State.checkItem (s : State) (u : Nat) (i : Item) : State :=
  let g := s.check u
  if 48 ≤ u || lvsReserved u || !s.serves (checkKey u) || g.mode = 0 then s
  else match s.snoop g i with
    | none => s
    | some p =>
      let s := s.checkCount u 0x0B g.items (fun n => { g with items := n })
      if g.mode = 3 then
        match p.alive with
        | some a => s.checkAlive u (a % 2 ^ aliveBits g.point)
        | none => s
      else s.checkBytes u p.bytes p.unit

def execCheckItem (t u : Nat) (i : Item) (s : State) : Host.Outcome State Fault Refusal :=
  .next ((s.tick t).checkItem u i)

/-! ### Tally words (Tables 16.5 and 16.6) -/

/-- Enabled layers that are LIVE, and those that are not. -/
def State.liveCounts (s : State) : Nat × Nat :=
  let l := s.slotsUsed.filter s.layerOn
  let n := (l.filter (fun n => s.rn (lIdx n) 0x2C = 1)).length
  (n, l.length - n)

/-- The alert sources that are active (R557, 0x5100:04 [3:0]): the change latch, a layer not LIVE, time not locked, a unit DEAD or
FENCED. -/
def State.alertSources (s : State) : Nat :=
  b2n s.tally.change + 2 * b2n (decide (s.liveCounts.2 ≠ 0)) + 4 * b2n (decide (s.rn 0x5000 0x03 = 0)) +
  8 * b2n (s.packageFenced || s.units.any (fun p => p.2.st = 2 || p.2.st = 5))

/-- An LVS fault latched, or LVS stopped on a die; it is stopped unless the package runs (R602, R618). -/
def State.alertLvs (s : State) : Bool :=
  s.power.phase ≠ .running || s.rn 0x5000 0x08 / 4 % 4 ≠ 0 || s.lvsStopped 0 || s.lvsStopped 1

/-- TLY_ALERT_N asserted (R557). -/
def State.alertLine (s : State) : Bool := s.alertLvs || decide (Nat.land (s.rn 0x5100 0x03) s.alertSources ≠ 0)

/-- The alert state (0x5100:04). -/
def State.alertState (s : State) : Nat := s.alertSources + 16 * b2n s.alertLvs + 32 * b2n s.alertLine

/-- A layer's word. -/
def State.layerWord (s : State) (n : Nat) : Nat :=
  let i := lIdx n
  oddParity (s.rn i 0x2C + 16 * s.rn i 0x2D + 256 * s.rn i 0x2F + 4096 * (s.rn i 0x2E / 8 % 8))

/-- A screen's word. -/
def State.screenWord (s : State) (x : Nat) : Nat :=
  let i := scrIdx x
  let sc := s.screen x
  oddParity (s.rn i 0x35 + 16 * (s.layersOn x).length + 512 * b2n sc.band + 1024 * b2n (s.lvsStopped (x / 12)) +
    2048 * b2n sc.service + 4096 * b2n (s.rn i 0x14 = 2) + 8192 * b2n sc.under + 16384 * b2n (s.member x))

/-- A session's word. -/
def State.sessionWord (s : State) (n : Nat) : Nat :=
  oddParity (s.sst n + 8 * s.rn (sIdx n) 0x03 + 128 * s.rn (0x3440 + n) 0x01 + 256 * b2n (s.rn (0x3440 + n) 0x02 ≠ 0) +
    512 * (s.ses n).gradeIn)

/-- A package's word as this package last learnt it. -/
def State.packageWord (s : State) (p : Nat) : Nat :=
  if p = s.pkgId then oddParity (s.rn 0x5000 0x07 + 16 * s.rn 0x2100 0x03 + 128)
  else oddParity ((s.ent p).summary + 16 * (s.ent p).health + 128 * b2n (s.peer p).present)

/-- Words of a fast-read object as last refreshed. -/
def State.fastWord (s : State) (k j : Nat) : Nat := ((s.tally.words.at' k [])[j]?).getD 0

/-- Whether the shadow answers (R551). -/
def State.tallyOn (s : State) : Bool := s.tally.filled && !s.power.resetN

/-- The shadow word at an address (R551, Table 16.5), a fast-read object's words 1 to 5 from its snapshot (R556). -/
def State.tallyWord (s : State) (a : Nat) : Nat :=
  if !s.tallyOn then 0
  else if a < 0x100 then s.layerWord a
  else if a < 0x118 then s.screenWord (a - 0x100)
  else if 0x120 ≤ a && a < 0x1C0 then s.sessionWord (a - 0x120)
  else if a = 0x1C0 then
    oddParity (s.rn 0x5000 0x07 + 16 * s.rn 0x2100 0x03 + 128 * s.rn 0x5000 0x03 + 256 * (s.lvsWord % 4) +
      1024 * b2n (s.rn 0x5000 0x08 / 4 % 4 ≠ 0) + 2048 * b2n s.alertLine + 4096 * (s.rn 0x2100 0x02 % 4))
  else if a = 0x1C1 then
    oddParity (match s.time.u with | some u => min 0x7FFF (u / 1000) | none => 0x7FFF)
  else if a = 0x1C2 then oddParity s.liveCounts.1
  else if a = 0x1C3 then oddParity s.liveCounts.2
  else if 0x1D0 ≤ a && a < 0x1E0 then s.packageWord (a - 0x1D0)
  else if a = 0x7FC then (if s.tally.pattern then 0xD55A else 0x2AA5)
  else if a = 0x7FD then oddParity s.tally.heart
  else if a = 0x7FE then oddParity (s.pkgId + 16 * s.rn 0x5100 0x01)
  else if a = 0x7FF then 0x2416
  else if 0x800 ≤ a && a < 0x1000 then
    let k := (a - 0x800) / 8
    let j := a % 8
    if j = 0 then s.fastWord k 0 else if j ≤ 5 then ((s.tally.snaps.at' k [])[j]?).getD 0 else 0
  else 0

/-- TALLY_SUMMARY_READ (R557): a read of 0x1C0 clears the change latch. -/
def State.summaryRead (s : State) : State :=
  { s with tally := { s.tally with change := false } }.say (.tally 0x1C0 (s.tallyWord 0x1C0))

def execTallySummaryRead (t : Nat) (s : State) : Host.Outcome State Fault Refusal :=
  .next (s.tick t).summaryRead

/-- FAST_READ_SNAPSHOT (R556): a read of word 0 of object k takes its words 0 to 5. -/
def State.snapshot (s : State) (k : Nat) : State :=
  if 256 ≤ k || !s.tallyOn then s.say (.tally (0x800 + 8 * k) 0)
  else
    { s with tally := { s.tally with snaps := s.tally.snaps.put k ((List.range 6).map (s.fastWord k)) } }.say
      (.tally (0x800 + 8 * k) (s.fastWord k 0))

def execFastReadSnapshot (t k : Nat) (s : State) : Host.Outcome State Fault Refusal :=
  .next ((s.tick t).snapshot k)

/-- TALLY_CHECK_WORD_UPDATE (R551, R553): every 1 ms; LVS fills the shadow. The heartbeat stops with the LVS of the active
die. -/
def State.checkWords (s : State) : State :=
  let g := s.tally
  let on : Bool := s.power.phase = .running && !s.lvsStopped s.primary.idx
  if !s.due g.checkAt msTicks then s
  else { s with tally := { g with
      checkAt := some s.clock, pattern := !g.pattern, filled := g.filled || on, heart := if on then wrapInc 15 g.heart else g.heart } }

/-! ### The fast-read map (R554) -/

/-- R511: whether a TPDO, or the fast-read map, can name an object. -/
def mapOk (idx sub : Nat) : Bool :=
  match findObj idx sub with
  | some o => (o.acc = .ro || o.acc = .rw) && o.ty.mappable
  | none => false

/-- Entries of the fast-read map. -/
def mapEntries (b : List Byte) : List Nat := words 4 (b.length / 4) b

/-- A write of 0x5100:02: refused whole; accepted, the generation advances, and what an entry held is gone. -/
def fastMap (s : State) (v : Val) : State × Nat :=
  if (mapEntries v.bs).all (fun e => e = 0 || (e < 2 ^ 24 && mapOk (e % 65536) (e / 65536))) then
    (({ s.wv 0x5100 0x02 v with tally := { s.tally with words := [], counts := [] } }).wrap 8 0x5100 0x01, 0)
  else (s, 6)

/-- FAST_READ_MAP_WRITE (R554). -/
def execFastReadMapWrite (t : Nat) (r : Req) (data : List Byte) (s : State) : Host.Outcome State Fault Refusal :=
  .next ((s.tick t).request r 0x5100 0x02 data fastMap)

end Sys2Proof.Machine
end

