-- ==== Sys2Proof/Machine/Crypto.lean ====
section
/-! DEFINITION. HMAC-SHA-256, with which ZDP tags its frames (R525), over SHA-256, with which it shows its keys
(0x2020:09); SHA-384, over which a firmware image is digested, and ECDSA P-384, with which it is signed (R589, R590). The
functions themselves are those of FIPS 180-4, FIPS 186-4 and RFC 2104 (PRESUMED, log 172). -/

namespace Sys2Proof.Machine

/-! ### SHA-2 -/

/-- What tells one SHA-2 function from another: the bits of its words, the rotations of its two message functions with their shift and
of its two round functions, its round constants and its initial hash. -/
structure ShaKind where
  bits : Nat
  small0 : Nat × Nat × Nat
  small1 : Nat × Nat × Nat
  big0 : Nat × Nat × Nat
  big1 : Nat × Nat × Nat
  k : List Nat
  init : List Nat
  deriving DecidableEq, Repr

/-- Rotate a word right, and the sum of two words. -/
def ShaKind.rotr (z : ShaKind) (n x : Nat) : Nat := x / 2 ^ n + x % 2 ^ n * 2 ^ (z.bits - n)
def ShaKind.add (z : ShaKind) (a b : Nat) : Nat := (a + b) % 2 ^ z.bits

/-- Three rotations together, and two with a shift. -/
def ShaKind.turn3 (z : ShaKind) (r : Nat × Nat × Nat) (x : Nat) : Nat :=
  Nat.xor (Nat.xor (z.rotr r.1 x) (z.rotr r.2.1 x)) (z.rotr r.2.2 x)
def ShaKind.turn2 (z : ShaKind) (r : Nat × Nat × Nat) (x : Nat) : Nat :=
  Nat.xor (Nat.xor (z.rotr r.1 x) (z.rotr r.2.1 x)) (x / 2 ^ r.2.2)

/-- The round constants and the initial hash of SHA-256. -/
def sha256K : List Nat :=
  [0x428A2F98, 0x71374491, 0xB5C0FBCF, 0xE9B5DBA5, 0x3956C25B, 0x59F111F1, 0x923F82A4, 0xAB1C5ED5,
   0xD807AA98, 0x12835B01, 0x243185BE, 0x550C7DC3, 0x72BE5D74, 0x80DEB1FE, 0x9BDC06A7, 0xC19BF174,
   0xE49B69C1, 0xEFBE4786, 0x0FC19DC6, 0x240CA1CC, 0x2DE92C6F, 0x4A7484AA, 0x5CB0A9DC, 0x76F988DA,
   0x983E5152, 0xA831C66D, 0xB00327C8, 0xBF597FC7, 0xC6E00BF3, 0xD5A79147, 0x06CA6351, 0x14292967,
   0x27B70A85, 0x2E1B2138, 0x4D2C6DFC, 0x53380D13, 0x650A7354, 0x766A0ABB, 0x81C2C92E, 0x92722C85,
   0xA2BFE8A1, 0xA81A664B, 0xC24B8B70, 0xC76C51A3, 0xD192E819, 0xD6990624, 0xF40E3585, 0x106AA070,
   0x19A4C116, 0x1E376C08, 0x2748774C, 0x34B0BCB5, 0x391C0CB3, 0x4ED8AA4A, 0x5B9CCA4F, 0x682E6FF3,
   0x748F82EE, 0x78A5636F, 0x84C87814, 0x8CC70208, 0x90BEFFFA, 0xA4506CEB, 0xBEF9A3F7, 0xC67178F2]
def sha256Init : List Nat := [0x6A09E667, 0xBB67AE85, 0x3C6EF372, 0xA54FF53A, 0x510E527F, 0x9B05688C, 0x1F83D9AB, 0x5BE0CD19]

/-- The round constants and the initial hash of SHA-384. -/
def sha384K : List Nat :=
  [0x428A2F98D728AE22, 0x7137449123EF65CD, 0xB5C0FBCFEC4D3B2F, 0xE9B5DBA58189DBBC,
   0x3956C25BF348B538, 0x59F111F1B605D019, 0x923F82A4AF194F9B, 0xAB1C5ED5DA6D8118,
   0xD807AA98A3030242, 0x12835B0145706FBE, 0x243185BE4EE4B28C, 0x550C7DC3D5FFB4E2,
   0x72BE5D74F27B896F, 0x80DEB1FE3B1696B1, 0x9BDC06A725C71235, 0xC19BF174CF692694,
   0xE49B69C19EF14AD2, 0xEFBE4786384F25E3, 0x0FC19DC68B8CD5B5, 0x240CA1CC77AC9C65,
   0x2DE92C6F592B0275, 0x4A7484AA6EA6E483, 0x5CB0A9DCBD41FBD4, 0x76F988DA831153B5,
   0x983E5152EE66DFAB, 0xA831C66D2DB43210, 0xB00327C898FB213F, 0xBF597FC7BEEF0EE4,
   0xC6E00BF33DA88FC2, 0xD5A79147930AA725, 0x06CA6351E003826F, 0x142929670A0E6E70,
   0x27B70A8546D22FFC, 0x2E1B21385C26C926, 0x4D2C6DFC5AC42AED, 0x53380D139D95B3DF,
   0x650A73548BAF63DE, 0x766A0ABB3C77B2A8, 0x81C2C92E47EDAEE6, 0x92722C851482353B,
   0xA2BFE8A14CF10364, 0xA81A664BBC423001, 0xC24B8B70D0F89791, 0xC76C51A30654BE30,
   0xD192E819D6EF5218, 0xD69906245565A910, 0xF40E35855771202A, 0x106AA07032BBD1B8,
   0x19A4C116B8D2D0C8, 0x1E376C085141AB53, 0x2748774CDF8EEB99, 0x34B0BCB5E19B48A8,
   0x391C0CB3C5C95A63, 0x4ED8AA4AE3418ACB, 0x5B9CCA4F7763E373, 0x682E6FF3D6B2B8A3,
   0x748F82EE5DEFB2FC, 0x78A5636F43172F60, 0x84C87814A1F0AB72, 0x8CC702081A6439EC,
   0x90BEFFFA23631E28, 0xA4506CEBDE82BDE9, 0xBEF9A3F7B2C67915, 0xC67178F2E372532B,
   0xCA273ECEEA26619C, 0xD186B8C721C0C207, 0xEADA7DD6CDE0EB1E, 0xF57D4F7FEE6ED178,
   0x06F067AA72176FBA, 0x0A637DC5A2C898A6, 0x113F9804BEF90DAE, 0x1B710B35131C471B,
   0x28DB77F523047D84, 0x32CAAB7B40C72493, 0x3C9EBE0A15C9BEBC, 0x431D67C49C100D4C,
   0x4CC5D4BECB3E42B6, 0x597F299CFC657E2A, 0x5FCB6FAB3AD6FAEC, 0x6C44198C4A475817]
def sha384Init : List Nat :=
  [0xCBBB9D5DC1059ED8, 0x629A292A367CD507, 0x9159015A3070DD17, 0x152FECD8F70E5939,
   0x67332667FFC00B31, 0x8EB44A8768581511, 0xDB0C2E0D64F98FA7, 0x47B5481DBEFA4FA4]

def sha256Kind : ShaKind := ⟨32, (7, 18, 3), (17, 19, 10), (2, 13, 22), (6, 11, 25), sha256K, sha256Init⟩
def sha384Kind : ShaKind := ⟨64, (1, 8, 7), (19, 61, 6), (28, 34, 39), (14, 18, 41), sha384K, sha384Init⟩

/-- The next word of the message schedule, from the words so far, newest first. -/
def ShaKind.next (z : ShaKind) (w : List Nat) : Nat :=
  let at' := fun (i : Nat) => (w[i]?).getD 0
  z.add (z.add (z.turn2 z.small1 (at' 1)) (at' 6)) (z.add (z.turn2 z.small0 (at' 14)) (at' 15))

/-- The schedule extended by `n` words, newest first. -/
def ShaKind.schedule (z : ShaKind) : Nat → List Nat → List Nat
  | 0, w => w
  | n + 1, w => z.schedule n (z.next w :: w)

/-- The eight working words. -/
structure ShaRegs where
  a : Nat
  b : Nat
  c : Nat
  d : Nat
  e : Nat
  f : Nat
  g : Nat
  h : Nat
  deriving DecidableEq, Repr

/-- One round with its schedule word and constant. -/
def ShaKind.round (z : ShaKind) (r : ShaRegs) (wk : Nat × Nat) : ShaRegs :=
  let ch := Nat.xor (Nat.land r.e r.f) (Nat.land (2 ^ z.bits - 1 - r.e) r.g)
  let t1 := (r.h + z.turn3 z.big1 r.e + ch + wk.1 + wk.2) % 2 ^ z.bits
  let maj := Nat.xor (Nat.xor (Nat.land r.a r.b) (Nat.land r.a r.c)) (Nat.land r.b r.c)
  ⟨(t1 + z.turn3 z.big0 r.a + maj) % 2 ^ z.bits, r.a, r.b, r.c, (r.d + t1) % 2 ^ z.bits, r.e, r.f, r.g⟩

/-- The hash after one more block of 16 words. -/
def ShaKind.block (z : ShaKind) (h : List Nat) (block : List Byte) : List Nat :=
  let n := z.bits / 8
  let w := (z.schedule (z.k.length - 16) ((List.range 16).map (fun i => beNat ((block.drop (n * i)).take n))).reverse).reverse
  match h with
  | [a, b, c, d, e, f, g, k] =>
    let r := (w.zip z.k).foldl z.round ⟨a, b, c, d, e, f, g, k⟩
    [z.add a r.a, z.add b r.b, z.add c r.c, z.add d r.d, z.add e r.e, z.add f r.f, z.add g r.g, z.add k r.h]
  | _ => h

/-- The blocks of a padded message. -/
def ShaKind.blocks (z : ShaKind) : Nat → List Byte → List Nat → List Nat
  | 0, _, h => h
  | n + 1, b, h => z.blocks n (b.drop (2 * z.bits)) (z.block h (b.take (2 * z.bits)))

/-- The final hash of a message: padded with a one bit, zeros and its length in two words. -/
def ShaKind.hash (z : ShaKind) (m : List Byte) : List Byte :=
  let size := 2 * z.bits
  let tail := z.bits / 4
  let pad := (2 * size - 1 - tail - m.length % size) % size
  let p := m ++ [0x80] ++ List.replicate pad 0 ++ beBytes tail (8 * m.length)
  (z.blocks (p.length / size) p z.init).flatMap (beBytes (z.bits / 8))

/-- SHA-256 and SHA-384. -/
def sha256 (m : List Byte) : List Byte := sha256Kind.hash m
def sha384 (m : List Byte) : List Byte := (sha384Kind.hash m).take 48

/-- HMAC-SHA-256 under a 32-byte key. -/
def hmac (k m : List Byte) : List Byte :=
  let pad := k ++ List.replicate (64 - k.length) 0
  sha256 (pad.map (fun b => b ^^^ 0x5C) ++ sha256 (pad.map (fun b => b ^^^ 0x36) ++ m))

/-! ### ECDSA P-384 (R590) -/

/-- The curve P-384: its prime, its coefficient b, its order and its base point. -/
def p384 : Nat := 2 ^ 384 - 2 ^ 128 - 2 ^ 96 + 2 ^ 32 - 1
def p384B : Nat := 0xB3312FA7E23EE7E4988E056BE3F82D19181D9C6EFE8141120314088F5013875AC656398D8A2ED19D2A85C8EDD3EC2AEF
def p384Order : Nat := 0xFFFFFFFFFFFFFFFFFFFFFFFFFFFFFFFFFFFFFFFFFFFFFFFFC7634D81F4372DDF581A0DB248B0A77AECEC196ACCC52973
def p384Base : Nat × Nat :=
  (0xAA87CA22BE8B05378EB1C71EF320AD746E1D3B628BA79B9859F741E082542A385502F25DBF55296C3A545E3872760AB7,
   0x3617DE4A96262C6F5D9E98BF9292DC29F8F41DBD289A147CE9DA3113B5F0B8C00A60B1CE1D7E819D7A431D7C90EA0E5F)

/-- A power modulo m by the low `n` bits of the exponent. -/
def powMod (m : Nat) : Nat → Nat → Nat → Nat
  | 0, _, _ => 1
  | n + 1, b, e => (if e % 2 = 1 then b else 1) * powMod m n (b * b % m) (e / 2) % m

/-- The inverse modulo a prime of at most 384 bits. -/
def invMod (m a : Nat) : Nat := powMod m 384 (a % m) (m - 2)

/-- The sum of two points of the curve; none: the point at infinity. -/
def pointAdd : Option (Nat × Nat) → Option (Nat × Nat) → Option (Nat × Nat)
  | none, q => q
  | a, none => a
  | some a, some b =>
    let join := fun (l : Nat) =>
      let x := (l * l + 2 * p384 - a.1 - b.1) % p384
      some (x, (l * (a.1 + p384 - x) + p384 - a.2) % p384)
    if a.1 ≠ b.1 then join ((b.2 + p384 - a.2) * invMod p384 (b.1 + p384 - a.1) % p384)
    else if (a.2 + b.2) % p384 = 0 then none
    else join ((3 * a.1 * a.1 + p384 - 3) * invMod p384 (2 * a.2) % p384)

/-- A multiple of a point by the low `n` bits of a number. -/
def pointMul : Nat → Nat → Option (Nat × Nat) → Option (Nat × Nat)
  | 0, _, _ => none
  | n + 1, k, q => pointAdd (if k % 2 = 1 then q else none) (pointMul n (k / 2) (pointAdd q q))

/-- Whether a point lies on the curve. -/
def onCurve (q : Nat × Nat) : Bool :=
  q.1 < p384 && q.2 < p384 && (q.2 * q.2) % p384 = (q.1 * q.1 * q.1 + (p384 - 3) * q.1 + p384B) % p384

/-- Whether a signature, r then s of 48 bytes each, over a message's SHA-384 verifies under a public key, x then y. -/
def ecdsaOk (keyBytes message sig : List Byte) : Bool :=
  let q := (beNat (keyBytes.take 48), beNat (keyBytes.drop 48))
  let r := beNat (sig.take 48)
  let s := beNat (sig.drop 48)
  let w := invMod p384Order s
  let u := fun (v : Nat) => v * w % p384Order
  keyBytes.length = 96 && onCurve q && 1 ≤ r && r < p384Order && 1 ≤ s && s < p384Order &&
  (match pointAdd (pointMul 384 (u (beNat (sha384 message))) (some p384Base)) (pointMul 384 (u r) (some q)) with
   | some p => p.1 % p384Order = r
   | none => false)

end Sys2Proof.Machine
end

