-- ==== Sys2Proof/Machine/Tree.lean ====
section
/-! DEFINITION. Defaults that depend on the part or on other objects, values in force, and the configuration digest tree
(R101, R581, R583). -/

namespace Sys2Proof.Machine

/-! ### Defaults -/

/-- A mapping entry of an 8-bit object (R522). -/
def mapEntry8 (idx sub : Nat) : Nat := idx * 65536 + sub * 256 + 8

/-- Table 15.7: the default mapping of TPDO `k`. -/
def tpdoDefault (k : Nat) : List Nat :=
  if k = 0 then
    [mapEntry8 0x5000 7, mapEntry8 0x2100 3, mapEntry8 0x5000 3, mapEntry8 0x5000 8] ++
    (List.range 24).map (fun x => mapEntry8 (0x4800 + x) 0x35) ++ (List.range 32).map (fun z => mapEntry8 (0x5440 + z) 6)
  else if k ≤ 4 then (List.range 64).map (fun n => mapEntry8 (0x4000 + 64 * (k - 1) + n) 0x2C)
  else []

/-- An object's default. -/
def State.dfltOf (s : State) (idx sub : Nat) : Val :=
  if idx = 0x1014 then .num ((0x80 + s.rn 0x2010 1 : Nat) : Int)
  else if 0x1800 ≤ idx && idx < 0x1808 && sub = 1 then
    let k := idx - 0x1800
    .num (if k < 4 then ((0x180 + 0x100 * k + s.rn 0x2010 1 : Nat) : Int) else 0x80000000)
  else if 0x1A00 ≤ idx && idx < 0x1A08 then
    let m := tpdoDefault (idx - 0x1A00)
    .num (((if sub = 0 then m.length else (m[sub - 1]?).getD 0) : Nat) : Int)
  else if idx = 0x3100 && sub = 2 then .num (if s.big then 20480 else 8192)
  else if 0x6010 ≤ idx && idx < 0x6018 && sub = 2 then .num ((defaultOrder (idx - 0x6010) : Nat) : Int)
  else if 0x4210 ≤ idx && idx < 0x4250 && sub = 4 then .bytes bt1886
  else dfltVal idx sub

/-- The value an object holds, or its default. -/
def State.held (s : State) (idx sub : Nat) : Val :=
  match s.od.look (key idx sub) with
  | some v => v
  | none => s.dfltOf idx sub

/-! ### Values in force -/

/-- Objects whose writes take effect at the next reset (R559, R189, R432). -/
def nextReset (idx sub : Nat) : Bool :=
  (idx = 0x6800 && 1 ≤ sub && sub ≤ 4) || (idx = 0x3400 && sub = 1) ||
  (0x6010 ≤ idx && idx < 0x6018 && (sub = 2 || sub = 3))

/-- Objects whose writes are staged: the committed set (R264), timing (R321), the board table (R455), tone maps (R259). -/
def stagedObj (idx sub : Nat) : Bool :=
  committed idx sub || (0x4800 ≤ idx && idx < 0x4818 && timingSubs.contains sub) || boardKey (key idx sub) ||
  (0x4210 ≤ idx && idx < 0x4250 && 1 ≤ sub && sub ≤ 0x0E)

/-- Parameters of a touch port that a frame start takes (R427), as a key. -/
def touchHeld (k : Nat) : Bool := 0x5410 ≤ k / 256 && k / 256 < 0x5412 && 2 ≤ k % 256 && k % 256 ≤ 0x18

/-- Objects whose writes take effect at an event of their own: an NMT reset (R520), the deassertion of PCIE_PERST_N (R483), a touch
port's frame start (R427). -/
def laterObj (idx sub : Nat) : Bool :=
  (idx = 0x2010 && sub = 1) || ((idx = 0x2011 || idx = 0x2012) && (sub = 2 || sub = 3)) || (idx = 0x6600 && sub = 1) ||
  touchHeld (key idx sub)

/-- Objects whose value in force is not the value written last (R19). -/
def delayedObj (idx sub : Nat) : Bool := stagedObj idx sub || nextReset idx sub || laterObj idx sub

/-- The value in force of an object. -/
def State.inForce (s : State) (idx sub : Nat) : Val :=
  if delayedObj idx sub then
    match s.force.look (key idx sub) with
    | some v => if v = .bytes [] then s.dfltOf idx sub else v
    | none => s.dfltOf idx sub
  else s.held idx sub

/-! ### The objects in ascending order -/

/-- The subindices an index defines with their rows. -/
def objsAt (idx : Nat) : List (Nat × Obj) :=
  (page (idx / 256)).flatMap (fun o =>
    if o.base ≤ idx && idx < o.base + o.count then (List.range (o.hi + 1 - o.lo)).map (fun j => (o.lo + j, o)) else [])

/-- The indices of the dictionary, ascending. -/
def indices : List Nat := pages.flatMap (fun p => ((List.range 256).map (· + 256 * p)).filter idxExists)

/-- Every object as (index, subindex, row), ascending. -/
def allObjs : List (Nat × Nat × Obj) := indices.flatMap (fun i => (objsAt i).map (fun q => (i, q.1, q.2)))

/-! ### The tree -/

/-- The unit that owns an index's objects; none: the package (R101). -/
def unitOwner (i : Nat) : Option Nat :=
  if 0x2011 ≤ i && i < 0x2013 then some (canKey (i - 0x2011))
  else if 0x2820 ≤ i && i < 0x2830 then some (trigKey (i - 0x2820))
  else if 0x2840 ≤ i && i < 0x2848 then some (capKey (i - 0x2840))
  else if 0x5410 ≤ i && i < 0x5412 then some (touchKey (i - 0x5410))
  else if 0x5440 ≤ i && i < 0x5460 then some (touchKey ((i - 0x5440) / 16))
  else if 0x6410 ≤ i && i < 0x6434 then some (laneKey (i - 0x6410))
  else if 0x6440 ≤ i && i < 0x6458 then some (txKey (i - 0x6440))
  else none

/-- A dictionary-write record (Table 16.4, point 4). -/
def writeRecord (idx sub : Nat) (b : List Byte) : List Byte := beBytes 2 idx ++ beBytes 1 sub ++ beBytes 4 b.length ++ b

/-- The records of an index's configuration-class objects. -/
def cfgRecords (value : Nat → Nat → Val) (idx : Nat) : List Byte :=
  ((objsAt idx).filter (fun q => q.2.cfg)).flatMap (fun q => writeRecord idx q.1 (encodeVal q.2.ty (value idx q.1)))

/-- An own digest over indices: 0 where they have no objects. -/
def ownDigest (value : Nat → Nat → Val) (is : List Nat) : Nat := crc 2 (is.flatMap (cfgRecords value))

/-- A node: its address without the package, own digest and node digest, above the nodes of its children. -/
def nodeOf (pkg addr own : Nat) (children : List (Nat × Nat × Nat)) : Nat × Nat × Nat :=
  (addr, own, crc 2 (beBytes 8 own ++ children.flatMap (fun c => beBytes 4 (c.1 + 4096 * pkg) ++ beBytes 8 c.2.2)))

/-- Indices with an owning unit. -/
def unitIndices : List Nat := indices.filter (fun i => (unitOwner i).isSome)

/-- The nodes of a cluster, its own first. -/
def clusterNodes (value : Nat → Nat → Val) (pkg d r c : Nat) : List (Nat × Nat × Nat) :=
  let us := (List.range (clusterUnits d r c)).map (fun u =>
    let k := unitKey d r c u
    nodeOf pkg k (ownDigest value (unitIndices.filter (fun i => unitOwner i = some k))) [])
  nodeOf pkg (unitKey d r c 0 + 65536) 0 us :: us

/-- The nodes of a region, its own first. -/
def regionNodes (value : Nat → Nat → Val) (pkg d r : Nat) : List (Nat × Nat × Nat) :=
  let cs := ((List.range 32).filter (fun c => 0 < clusterUnits d r c)).map (clusterNodes value pkg d r)
  nodeOf pkg (regionAddr d r) 0 (cs.filterMap List.head?) :: cs.flatten

/-- The nodes of a die, its own first. -/
def dieNodes (value : Nat → Nat → Val) (pkg d : Nat) : List (Nat × Nat × Nat) :=
  let rs := [0, 1, 2].map (regionNodes value pkg d)
  nodeOf pkg (dieAddr d) 0 (rs.filterMap List.head?) :: rs.flatten

/-- The package's nodes, the root first. -/
def packageNodes (value : Nat → Nat → Val) (pkg : Nat) : List (Nat × Nat × Nat) :=
  let ds := [0, 1].map (dieNodes value pkg)
  nodeOf pkg (4 * 65536) (ownDigest value (indices.filter (fun i => (unitOwner i).isNone))) (ds.filterMap List.head?) ::
    ds.flatten

/-- A tree as the state keeps one: (own, node) digests by address without the package. -/
def treeTab (l : List (Nat × Nat × Nat)) : Tab (Nat × Nat) := l.foldl (fun t n => t.put n.1 n.2) []

/-- The root of a tree. -/
def rootOf (t : Tab (Nat × Nat)) : Nat := (t.at' (4 * 65536) (0, 0)).2

/-- The actual tree and its root (R581). -/
def State.tree (s : State) : Tab (Nat × Nat) := treeTab (packageNodes s.inForce s.pkgId)
def State.actualRoot (s : State) : Nat := rootOf s.tree

/-- A role image's value of an object: what the image holds; outside the image, and in 0x6800, the package's own. -/
def State.imageVal (s : State) (img : Tab Val) (idx sub : Nat) : Val :=
  if idx = 0x6800 then s.inForce idx sub
  else match img.look (key idx sub) with
    | some v => v
    | none => s.dfltOf idx sub

/-- The root of a role image (R580). -/
def State.imageRoot (s : State) (role : Nat) : Nat :=
  rootOf (treeTab (packageNodes (s.imageVal (s.sys.images.at' role [])) role))

/-- The system digest (R581): over the 16 recorded roots, 0 for entries not configured. -/
def State.systemDigest (s : State) : Nat :=
  crc 2 ((List.range 16).flatMap (fun p => beBytes 8 (if (s.ent p).role = 0 then 0 else (s.ent p).root)))

/-- The children of a node in ascending address. -/
def childrenOf (t : Tab (Nat × Nat)) (addr : Nat) : List Nat :=
  let a := Addr.ofNat addr
  if a.level = 0 then []
  else (t.map (·.1)).filter (fun n =>
    let b := Addr.ofNat n
    b.level + 1 = a.level && (4 ≤ a.level || b.die = a.die) && (3 ≤ a.level || b.region = a.region) &&
    (2 ≤ a.level || b.cluster = a.cluster))

/-- The first differing node of two trees (R583), from a node down. -/
def firstDiff (t u : Tab (Nat × Nat)) : Nat → Nat → Nat
  | 0, a => a
  | n + 1, a =>
    if (t.at' a (0, 0)).1 ≠ (u.at' a (0, 0)).1 then a
    else match (childrenOf t a).find? (fun c => (t.at' c (0, 0)).2 ≠ (u.at' c (0, 0)).2) with
      | some c => firstDiff t u n c
      | none => a

end Sys2Proof.Machine
end

