-- ==== Sys2Proof/Machine/Read.lean ====
section
/-! DEFINITION. What every object reads (R15, R507): the values that follow from other state, and the effect of a read. -/

namespace Sys2Proof.Machine

/-! ### Block streams (R389, Table 10.5) -/

/-- The bytes of codes, whole bytes. -/
def codeBytes (l : List (List Bool)) : List Byte :=
  let b := l.flatten
  bytesOf (b.length / 8) b

/-- A stream of blocks of at most 16,384 bytes from a context primed with class 0. -/
def blockStreamFrom : Nat → List (Nat × Byte) → List Byte → List Byte
  | 0, _, _ => []
  | n + 1, learnt, b =>
    if b.isEmpty then []
    else
      let i := b.take 16384
      let start : EncState :=
        if dictFull learnt then ⟨[], none, (encSpecial ⟨learnt, none, []⟩ 256).codes⟩ else ⟨learnt, none, []⟩
      let e := i.foldl encByte start
      let codes := flushed e
      let len := (codes.map List.length).foldl (· + ·) 0 / 8
      if i.length < len then
        codeBytes [blockHeader 1 i.length i.length] ++ i ++ blockStreamFrom n learnt (b.drop 16384)
      else codeBytes (blockHeader 0 i.length len :: codes) ++ blockStreamFrom n e.learnt (b.drop 16384)

/-- The block stream of bytes. -/
def blockStream (b : List Byte) : List Byte := blockStreamFrom (b.length / 16384 + 1) [] b

/-! ### Exports -/

/-- The key slots, which no export holds (R533). -/
def keySlot (idx sub : Nat) : Bool := idx = 0x2020 && 4 ≤ sub && sub ≤ 7

/-- A record of R533. -/
def exportRecord (idx sub : Nat) (b : List Byte) : List Byte := beBytes 2 idx ++ beBytes 1 sub ++ [0] ++ beBytes 4 b.length ++ b

/-- What a store stores of an object (R530): the value in force of a staged one, else the value written. -/
def State.storable (s : State) (idx sub : Nat) : Val := if stagedObj idx sub then s.inForce idx sub else s.held idx sub

/-- The export: every rw stored object except the key slots, ascending. -/
def State.exportBytes (s : State) : List Byte :=
  (allObjs.filter (fun q => q.2.2.acc = .rw && q.2.2.stored && !keySlot q.1 q.2.1)).flatMap (fun q =>
    exportRecord q.1 q.2.1 (encodeVal q.2.2.ty (s.storable q.1 q.2.1)))

/-! ### Values that follow from other state -/

/-- Table 10.6: the saved state of a session's context. -/
def State.savedState (s : State) (n : Nat) : List Byte :=
  let x := s.ctx n
  let e := topEntry x.learnt
  leBytes 2 e ++ leBytes 1 (codeWidth e) ++ leBytes 1 (b2n x.prev.isSome + 2 * b2n x.await + 4 * b2n (dictFull x.learnt)) ++
  leBytes 2 (x.prev.getD 0) ++ leBytes 2 x.resid.length ++ leBytes 2 (bitsNat x.resid) ++ [0, 0] ++ leBytes 4 x.off ++
  leBytes 4 (s.gfxOf n).next ++ [0, 0, 0, 0]

/-- The newest version's tainted tiles. -/
def GfxS.newestTaint (g : GfxS) : Nat :=
  match g.newest with
  | some b => ((g.bufs.at' b {}).taint).length
  | none => 0

/-- The status bits of the key slots (0x2400:0F). -/
def State.keyStatus (s : State) : Nat :=
  (List.range 4).foldl (fun a k =>
    a + 4 ^ k * (if ((s.otp.keys[k]?).getD []).isEmpty then 0 else if bit s.otp.revoked k then 2 else 1)) 0

/-- The slot in STAGED or TRIAL. -/
def BootS.waiting (b : BootS) : Option Nat :=
  if b.slotA = slotStaged || b.slotA = slotTrial then some 0
  else if b.slotB = slotStaged || b.slotB = slotTrial then some 1 else none

/-- Whole seconds from now to a tick, rounded up. -/
def State.secondsTo (s : State) (t : Nat) : Nat := ceilDiv (t - s.clock) sTicks

/-- The key fingerprints (0x2020:09). -/
def State.fingerprints (s : State) : List Byte :=
  [4, 5, 6, 7].flatMap (fun k =>
    let b := s.rb 0x2020 k
    if b.isEmpty then [0, 0, 0, 0] else (sha256 b).take 4)

/-- A host ring's objects (Table 14.13). -/
def RingS.obj (g : RingS) (sub : Nat) : Nat :=
  match sub with
  | 2 => g.kind
  | 3 => g.param
  | 4 => if g.state = 0 then 0 else g.size
  | 5 => g.state
  | 6 => g.cause
  | 7 => g.host
  | 8 => g.fetch
  | 9 => g.wb
  | _ => g.cons

/-- The pipe place a pipe serves, and the layer that holds it. -/
def State.pipePlace (s : State) (x : Nat) : Option Nat := (List.range 128).find? (fun p => s.placeUnit p = some x)
def State.placeLayer (s : State) (p : Nat) : Option Nat := (s.layers.find? (fun l => l.2.pipes.contains p)).map (·.1)

/-- A scaler pipe's objects (Table 6.6): a pair's demand is shared between its two stores. -/
def State.pipeObj (s : State) (x sub : Nat) : Nat :=
  let k := pipeKey x
  let place := s.pipePlace x
  let layer := place.bind s.placeLayer
  match sub with
  | 1 => s.addrOf k
  | 2 => if s.gone k then 3 else if (s.unit k).st = 3 then 2 else if layer.isSome then 1 else 0
  | 3 => layer.getD 0xFFFF
  | 4 => match layer with
    | some n =>
      (((s.layer n).pipes.filter (fun p => some p ≠ place)).head?.bind s.placeUnit).getD 0xFF
    | none => 0xFF
  | _ => match layer with
    | some n => ceilDiv (s.rn (lIdx n) 0x16) (max 1 (s.layer n).pipes.length)
    | none => 0

/-- A check unit's objects (Table 16.9). -/
def CheckS.obj (g : CheckS) (sub : Nat) : Nat :=
  match sub with
  | 0x03 => g.mode
  | 0x04 => g.alg
  | 0x05 => g.point
  | 0x06 => g.param
  | 0x07 => g.window
  | 0x08 => g.run
  | 0x09 => g.last
  | 0x0A => g.expected
  | 0x0B => g.items
  | 0x0C => g.mism
  | 0x0D => g.repeats
  | 0x0E => g.replays
  | _ => g.limit

/-- Objects of ports, sessions and rings that read 0 in the present state (R158, R230, R393, R481, R506). -/
def State.readsZero (s : State) (idx sub : Nat) : Bool :=
  if 0x2910 ≤ idx && idx < 0x2920 then !s.portExists (idx - 0x2910)
  else if 0x3440 ≤ idx && idx < 0x34E0 then 1 < s.kind (idx - 0x3440)
  else if 0x5810 ≤ idx && idx < 0x58B0 then 5 ≤ sub && s.kind (idx - 0x5810) ≤ 1
  else if 0x6510 ≤ idx && idx < 0x6512 then s.declared.contains (dieAddr (idx - 0x6510))
  else if 0x6610 ≤ idx && idx < 0x6650 then s.dieLost 0
  else false

/-- Values of 0x2400. -/
def State.updateObj (s : State) (sub : Nat) : Option Val :=
  let b := s.flash.boot
  let n := fun (v : Nat) => some (Val.num (v : Int))
  match sub with
  | 0x03 => n (match s.upd.owner with | some r => Req.ownerWord r | none => 0xFFFF)
  | 0x07 => n b.active
  | 0x08 => n (b.slotA + 16 * b.slotB)
  | 0x09 => n (s.slotVersion s.upd.slot)
  | 0x0A => n (match b.waiting with | some k => s.slotVersion k | none => 0)
  | 0x0C => n (match s.upd.trialAt with
    | some a => if s.updState = updTrial then s.secondsTo (a + b.window * sTicks) else 0xFFFFFFFF
    | none => 0xFFFFFFFF)
  | 0x0D => n (b.result + 256 * b.cause)
  | 0x0F => n s.keyStatus
  | 0x10 => n (if s.upd.owner.isSome then s.secondsTo (s.upd.last + 120 * sTicks) else 0)
  | 0x11 => n b.seq
  | _ => none

/-- Values of 0x6800. -/
def State.systemObj (s : State) (sub : Nat) : Option Val :=
  let n := fun (v : Nat) => some (Val.num (v : Int))
  match sub with
  | 0x0D => some (.bytes (leBytes 4 s.sys.failed))
  | 0x12 => n (if s.standalone then 0
      else (List.range 16).foldl (fun a p => if p = s.pkgId || (s.peer p).present then a + 2 ^ p else a) 0)
  | 0x15 => n s.actualRoot
  | 0x16 => n (s.ent s.pkgId).root
  | 0x17 => n s.systemDigest
  | _ => none

/-- A temperature of 0x2500: the last one reported, else what the package measures. -/
def State.temperature (s : State) (sub : Nat) : Option Val :=
  if (s.od.look (key 0x2500 sub)).isSome then none else some (.num ((Config.measured sub s.clock % 65535 : Nat) - 32767 : Int))

/-- A value that follows from other state; none: the object holds its own. -/
def State.derived (s : State) (idx sub : Nat) : Option Val :=
  let n := fun (v : Nat) => some (Val.num (v : Int))
  let bs := fun (b : List Byte) => some (Val.bytes b)
  match idx, sub with
  | 0x1009, _ => bs s.otp.revision
  | 0x100A, _ => bs (Config.softwareVersion (s.slotVersion s.upd.slot))
  | 0x1018, 3 => n (s.slotVersion s.upd.slot)
  | 0x1018, 4 => n (s.otp.serial % 2 ^ 32)
  | 0x1021, _ => bs (Config.eds (s.slotVersion s.upd.slot) s.otp.variant)
  | 0x2000, 1 => n s.otp.variant
  | 0x2000, 2 => n s.otp.serial
  | 0x2000, 3 => bs (if s.otp.uuid.isEmpty then List.replicate 16 0 else s.otp.uuid)
  | 0x2000, 4 => n s.otp.mac
  | 0x2000, 5 => n (beNat (((s.slotBytes s.upd.slot).drop 12).take 2))
  | 0x2000, 6 => n (b2n s.pcie.ready)
  | 0x2001, 1 => bs (blockStream s.exportBytes)
  | 0x2020, 9 => bs s.fingerprints
  | 0x2020, 0x0B => n s.zdp.length
  | 0x2100, 4 => n s.selected
  | 0x2100, _ => if 0x12 ≤ sub && sub ≤ 0x17 && (s.od.look (key 0x2100 sub)).isNone then
      n (1000 + Config.pace (sub - 0x12) s.clock % 64536) else none
  | 0x2200, 1 => n s.log.oldest
  | 0x2200, 2 => n s.log.newest
  | 0x2200, 4 => bs s.readRecords
  | 0x2200, 6 => bs (blockStream (s.log.records.reverse.flatMap LogRec.bytes))
  | 0x2300, _ => if 3 ≤ sub then n ((s.check s.checkSel).obj sub) else none
  | 0x2400, _ => s.updateObj sub
  | 0x2500, 3 => n (if s.otp.variant % 2 = 1 then 110 else 100)
  | 0x2500, 1 => if s.power.range && (s.od.look (key 0x2500 1)).isSome then none else n (Config.measured 1 s.clock % 65536)
  | 0x2500, 2 => n (Config.measured 2 s.clock % 2 ^ 32)
  | 0x2500, 4 => if s.dieLost 0 then some (.num (-32768)) else s.temperature 4
  | 0x2500, 5 => if s.dieLost 1 then some (.num (-32768)) else s.temperature 5
  | 0x2500, 6 => s.temperature 6
  | 0x2500, 0x0F => bs Config.bsdl
  | 0x2800, 1 => n (time96 s.nowSec.1 s.nowSec.2)
  | 0x2A00, 8 => n s.clockIdentity
  | 0x4200, 1 => n (((s.slotsUsed.filter s.layerOn).map (fun l => s.fn (lIdx l) 0x12)).filter (· < 64)).eraseDups.length
  | 0x4900, 1 => n ((List.range 24).foldl (fun a x => if s.rn (scrIdx x) 0x14 = 2 then a + 2 ^ x else a) 0)
  | 0x4900, 2 => n ((List.range 6).foldl (fun a j => if s.gangOf j then a + 2 ^ j else a) 0)
  | 0x4900, 3 => n ((List.range 24).foldl (fun a x => if (s.screen x).hpd then a + 2 ^ x else a) 0)
  | 0x5000, 8 => n s.lvsWord
  | 0x5000, 0x21 => bs s.readLedger
  | 0x5100, 4 => n s.alertState
  | 0x5400, 1 => n ((List.range 2).foldl (fun a p => if s.scan p = scanLost then a else a + 2 ^ p) 0)
  | 0x5800, 3 => n ((List.range 4).foldl (fun a z =>
      if s.serves (coderKey z) || (s.unit (coderKey z)).st = 1 then a + 2 ^ z else a) 0)
  | 0x6000, 1 => n (if s.big then 32768 else 16384)
  | 0x6000, 4 => n (if !s.mem.training then 0 else if s.mem.queued.isSome then 2 else 1)
  | 0x6000, 0x0B => n s.usableBw
  | 0x6600, 4 => if s.dieLost 0 then n 4 else none
  | 0x6600, 7 => n ((List.range 32).foldl (fun a q => if (s.ring q).running then a + 2 ^ q else a) 0)
  | 0x6800, _ => s.systemObj sub
  | _, _ =>
    if 0x2910 ≤ idx && idx < 0x2920 && sub = 2 then n (s.otp.mac + (idx - 0x2910))
    else if 0x3000 ≤ idx && idx < 0x30A0 && sub = 0x2F then
      match (s.ses (idx - 0x3000)).sr with
      | some sr => n (min 0xFFFFFFFF ((s.clock - sr.2.2) / msTicks))
      | none => n 0xFFFFFFFF
    else if 0x3410 ≤ idx && idx < 0x341E then
      let c := idx - 0x3410
      match sub with
      | 1 => n (s.addrOf (coreKey c))
      | 2 => n (if s.gone (coreKey c) then 2
          else if (s.unit (coreKey c)).st = 3 then (if s.unpatched.isEmpty then 1 else 3) else 0)
      | 5 => n (s.occupancy c)
      | _ => none
    else if 0x4110 ≤ idx && idx < 0x4190 && 1 ≤ sub then n (s.pipeObj (idx - 0x4110) sub)
    else if 0x4210 ≤ idx && idx < 0x4250 && sub = 0x10 then
      n ((s.slotsUsed.filter (fun l => s.layerOn l && s.fn (lIdx l) 0x12 = idx - 0x4210)).length)
    else if 0x4820 ≤ idx && idx < 0x4840 && sub = 3 then n (s.localScreens (idx - 0x4820))
    else if 0x5810 ≤ idx && idx < 0x58B0 then
      let m := idx - 0x5810
      let x := s.ctx m
      match sub with
      | 6 => n (if !s.admitted m then 0 else if x.await then 2 else 1)
      | 7 => n (topEntry x.learnt)
      | 8 => n (codeWidth (topEntry x.learnt))
      | 9 => n (s.gfxOf m).next
      | 0x0A => n ((s.gfxOf m).newest.getD 0xFF)
      | 0x0B => n (s.gfxOf m).newestVersion
      | 0x0C => n (s.gfxOf m).newestTaint
      | 0x13 => bs (s.savedState m)
      | _ => none
    else if 0x6010 ≤ idx && idx < 0x6018 then
      let w := idx - 0x6010
      match sub with
      | 1 => n (s.usableMiB w)
      | 4 => n (rawMiB s.big w)
      | 7 => n (firstRow s.big w)
      | _ => none
    else if 0x6610 ≤ idx && idx < 0x6650 && 1 ≤ sub then
      let q := idx - 0x6610
      if sub = 1 then n (if q < 32 then 0 else 1)
      else if 32 ≤ q then n (if sub = 2 then 16 + Config.internalRing q 2 % 240 else Config.internalRing q sub)
      else if sub ≤ 0x0A then n ((s.ring q).obj sub) else none
    else none

/-- A value cut to its type: no reading is wider than its object. -/
def fitVal (t : Ty) : Val → Val
  | .num v => if t.isNum && !t.signed && t ≠ .time96 then .num (v % (2 ^ (8 * t.size.getD 0) : Nat)) else .num v
  | .bytes b => .bytes b

/-- What an object reads, without any effect of reading it (R521's sampling). -/
def State.reading (s : State) (idx sub : Nat) : Val :=
  match findObj idx sub with
  | none => .num 0
  | some o =>
    if s.readsZero idx sub then (if o.ty.isNum then .num 0 else .bytes (List.replicate (o.ty.size.getD 0) 0))
    else fitVal o.ty (match s.derived idx sub with
      | some v => v
      | none => s.held idx sub)

/-- The effect of a read: those that clear what they return, those that may have nothing to return (status 9). -/
def readEffect (idx sub : Nat) (s : State) : State × Nat × Val :=
  if s.readsZero idx sub then (s, 0, s.reading idx sub)
  else if 0x2820 ≤ idx && idx < 0x2830 && sub = 0x0B then clearRead idx sub s
  else if 0x2840 ≤ idx && idx < 0x2848 && sub = 4 then capRead (idx - 0x2840) s
  else if idx = 0x3400 && sub = 0x0A then clearRead idx sub s
  else if 0x3440 ≤ idx && idx < 0x34E0 && sub = 0x0B then clearRead idx sub s
  else if idx = 0x4300 && sub = 6 then readReceipts s
  else if idx = 0x5000 && sub = 8 then lvsStatus s
  else (s, 0, s.reading idx sub)
where
  /-- The receipts of the selected id. -/
  readReceipts (s : State) : State × Nat × Val := s.readReceipts

/-- A read by a requester, checked in the order of Table 15.4: the state, the status and the value's bytes. -/
def State.readBy (s : State) (r : Req) (idx sub : Nat) : State × Nat × List Byte :=
  match s.checkRead r idx sub with
  | .error c => (s, c, [])
  | .ok o =>
    let p := readEffect idx sub s
    if p.2.1 = 0 then (p.1, 0, encodeVal o.ty p.2.2) else (s, p.2.1, [])

end Sys2Proof.Machine
end

