-- ==== Sys2Proof/Machine/Store.lean ====
section
/-! DEFINITION. The dictionary stores (R530, R531, R598, R599): store, restore, export and import (R533, R534). -/

namespace Sys2Proof.Machine

/-! ### Stored images -/

/-- The communication group (R530): 0x1000 to 0x1FFF, 0x2010 to 0x2012 and 0x2020. -/
def commGroup (idx : Nat) : Bool := (0x1000 ≤ idx && idx < 0x2000) || (0x2010 ≤ idx && idx ≤ 0x2012) || idx = 0x2020

/-- The groups of 0x1010 and 0x1011: 1 every object, 2 communication, 3 application. -/
def inGroup (g idx : Nat) : Bool := g = 1 || (if g = 2 then commGroup idx else !commGroup idx)

/-- Whether a store holds an object: a stored one that can be written. Read-only stored values are kept beside the
stores (R409, R622, Table 18.2). -/
def storesObj (idx sub : Nat) : Bool :=
  match findObj idx sub with
  | some o => o.stored && (o.acc = .rw || o.acc = .wo)
  | none => false

/-- The current stored image: values by key; unlisted: never stored. -/
def State.image (s : State) : Tab Val := s.flash.stores.at' s.flash.boot.store []

/-- What a store takes of every object (R530): the value in force of a staged one, else the value written. -/
def State.storeImage (s : State) : Tab Val :=
  let plain := s.od.filter (fun p => storesObj (p.1 / 256) (p.1 % 256) && !stagedObj (p.1 / 256) (p.1 % 256))
  let staged := s.force.filter (fun p =>
    storesObj (p.1 / 256) (p.1 % 256) && stagedObj (p.1 / 256) (p.1 % 256) && p.2 ≠ .bytes [])
  staged.foldl (fun t p => t.put p.1 p.2) plain

/-- An image with one group of it replaced by another's. -/
def replaceGroup (g : Nat) (old new : Tab Val) : Tab Val :=
  (new.filter (fun p => inGroup g (p.1 / 256))).foldl (fun t p => t.put p.1 p.2)
    (old.filter (fun p => !inGroup g (p.1 / 256)))

/-- An image goes into the scratch store, and a record makes that store current (R598). -/
def State.putStore (s : State) (img : Tab Val) : State :=
  let k := 1 - s.flash.boot.store
  { s with flash := { s.flash with stores := s.flash.stores.put k img } }.record (fun b => { b with store := k })

/-- A write of a stored image: refused while a trial uses both stores (R599); a failed one leaves the previous image whole
(R530), and nothing is programmed once VIN has failed (R603). -/
def State.writeImage (s : State) (img : Tab Val) (ok : Bool) : State × Nat :=
  if s.flash.boot.oldHeld then (s, 7)
  else if !ok || s.power.fail then (s, 10)
  else (s.putStore img, 0)

/-- "save" and "load" as 0x1010 and 0x1011 take them. -/
def saveWord : Nat := 0x65766173
def loadWord : Nat := 0x64616F6C

/-- A write of 0x1010:g (R530). `ok` says whether the flash write succeeds. -/
def storeGroup (g : Nat) (ok : Bool) (s : State) (v : Val) : State × Nat :=
  if v.int ≠ saveWord then (s, 6) else s.writeImage (replaceGroup g s.image s.storeImage) ok

/-- A write of 0x1011:g (R531): the group's stored values are the defaults again; values in force stay. -/
def restoreGroup (g : Nat) (s : State) (v : Val) : State × Nat :=
  if v.int ≠ loadWord then (s, 6) else s.writeImage (replaceGroup g s.image []) true

/-- STORE_ALL (R530). -/
def execStoreAll (t : Nat) (r : Req) (ok : Bool) (s : State) : Host.Outcome State Fault Refusal :=
  .next ((s.tick t).request r 0x1010 1 (leBytes 4 saveWord) (storeGroup 1 ok))

/-- STORE_COMMUNICATION (R530). -/
def execStoreCommunication (t : Nat) (r : Req) (ok : Bool) (s : State) : Host.Outcome State Fault Refusal :=
  .next ((s.tick t).request r 0x1010 2 (leBytes 4 saveWord) (storeGroup 2 ok))

/-- STORE_APPLICATION (R530). -/
def execStoreApplication (t : Nat) (r : Req) (ok : Bool) (s : State) : Host.Outcome State Fault Refusal :=
  .next ((s.tick t).request r 0x1010 3 (leBytes 4 saveWord) (storeGroup 3 ok))

/-- RESTORE_DEFAULTS_ALL (R531). -/
def execRestoreDefaultsAll (t : Nat) (r : Req) (s : State) : Host.Outcome State Fault Refusal :=
  .next ((s.tick t).request r 0x1011 1 (leBytes 4 loadWord) (restoreGroup 1))

/-- RESTORE_DEFAULTS_COMMUNICATION (R531). -/
def execRestoreDefaultsCommunication (t : Nat) (r : Req) (s : State) : Host.Outcome State Fault Refusal :=
  .next ((s.tick t).request r 0x1011 2 (leBytes 4 loadWord) (restoreGroup 2))

/-- RESTORE_DEFAULTS_APPLICATION (R531). -/
def execRestoreDefaultsApplication (t : Nat) (r : Req) (s : State) : Host.Outcome State Fault Refusal :=
  .next ((s.tick t).request r 0x1011 3 (leBytes 4 loadWord) (restoreGroup 3))

/-! ### Export and import -/

/-- CONFIG_EXPORT (R533): a read of 0x2001:01. -/
def execConfigExport (t : Nat) (r : Req) (s : State) : Host.Outcome State Fault Refusal :=
  .next ((s.tick t).readReq r 0x2001 1 (fun s => (s, 0, s.reading 0x2001 1)))

/-- The bytes of a stream of blocks (Table 10.5, R389), from a context primed with class 0; none where it is malformed. -/
def unblockFrom : Nat → List (Nat × Byte) → List Byte → Option (List Byte)
  | 0, _, _ => none
  | n + 1, learnt, b =>
    if b.isEmpty then some []
    else
      let kind := byteAt b 0
      let input := beNat ((b.drop 2).take 2) + 1
      let len := beNat ((b.drop 4).take 2)
      let body := (b.drop 6).take len
      let rest := b.drop (6 + len)
      if b.length < 6 + len || 2 < kind || byteAt b 1 ≠ 0 || 16384 < input then none
      else if kind = 0 then
        let d := decodeRun [] input (8 * len + 1) learnt none (byteBits body) []
        if d.err ≠ 0 then none else (unblockFrom n d.learnt rest).map (d.out ++ ·)
      else if len ≠ input then none
      else (unblockFrom n (if kind = 2 then [] else learnt) rest).map (body ++ ·)

/-- The bytes of a whole stream. -/
def unblock (b : List Byte) : Option (List Byte) := unblockFrom (b.length + 1) [] b

/-- The records of R533 in bytes, as (index, subindex, value), and whether the last of them is whole. -/
def parseRecords : Nat → List Byte → List (Nat × Nat × List Byte) × Bool
  | 0, _ => ([], false)
  | n + 1, b =>
    if b.isEmpty then ([], true)
    else
      let len := beNat ((b.drop 4).take 4)
      if b.length < 8 + len || byteAt b 3 ≠ 0 then ([], false)
      else
        let r := parseRecords n (b.drop (8 + len))
        ((beNat (b.take 2), byteAt b 2, (b.drop 8).take len) :: r.1, r.2)

/-- A record's value, if it passes R17 as a write of an object that an export holds. -/
def recordVal (q : Nat × Nat × List Byte) : Option Val :=
  match findObj q.1 q.2.1 with
  | none => none
  | some o =>
    if o.stored && o.acc = .rw && !keySlot q.1 q.2.1 && sizeOk o q.2.2.length then
      match decodeVal o.ty q.2.2 with
      | some v => if o.ty.valOk v && o.chk.ok v then some v else none
      | none => none
    else none

/-- What an import comes to: the first record that fails, counted from 1, or the image of all. -/
def importRecords : List (Nat × Nat × List Byte) → Nat → Tab Val → Nat ⊕ Tab Val
  | [], _, t => .inr t
  | q :: qs, i, t =>
    match recordVal q with
    | some v => importRecords qs (i + 1) (t.put (key q.1 q.2.1) v)
    | none => .inl i

/-- An import's bytes (R534): the number of the record that fails, or the image. -/
def importBytes (b : List Byte) : Nat ⊕ Tab Val :=
  match unblock b with
  | none => .inl 1
  | some d =>
    let r := parseRecords (d.length + 1) d
    match importRecords r.1 1 [] with
    | .inl i => .inl i
    | .inr t => if r.2 then .inr t else .inl (r.1.length + 1)

/-- A write of 0x2001:02 (R534): the stored image is replaced as a store does; the key slots, which no export holds, keep
what is stored of them. -/
def importWrite (s : State) (v : Val) : State × Nat :=
  match importBytes v.bs with
  | .inl _ => (s, 6)
  | .inr t =>
    let keys := s.image.filter (fun p => keySlot (p.1 / 256) (p.1 % 256))
    s.writeImage (keys.foldl (fun t p => t.put p.1 p.2) t) true

/-- What a refused import leaves in 0x2001:03. -/
def State.importResult (s : State) (v : Val) : State :=
  match importBytes v.bs with
  | .inl i => s.wn 0x2001 0x03 i
  | .inr _ => s

/-- CONFIG_IMPORT (R534). -/
def execConfigImport (t : Nat) (r : Req) (data : List Byte) (s : State) : Host.Outcome State Fault Refusal :=
  let s := s.tick t
  let p := s.write r 0x2001 0x02 data importWrite
  let s := if p.2 = 6 then p.1.importResult (.bytes data) else p.1
  .next (s.respond r 0x2001 0x02 p.2 [])

end Sys2Proof.Machine
end

