-- ==== Sys2Proof/Machine/System.lean ====
section
/-! DEFINITION. The system of packages (R559 to R569, R580 to R583): presence, generation, supervisor and quorum, packages
declared dead, fencing and rejoin, role images and digests. -/

namespace Sys2Proof.Machine

/-! ### What is known of packages -/

/-- A field of a payload, big-endian. -/
def fld (b : List Byte) (i n : Nat) : Nat := beNat ((b.drop i).take n)

/-- A digest's or package's node address (Table 2.5). -/
def pkgNode (p : Nat) : Nat := 4 * 65536 + 4096 * p

def State.generation (s : State) : Nat := s.rn 0x6800 0x08

/-- The role a mask gives an ID (R559). -/
def State.maskRole (s : State) (p : Nat) : Nat :=
  if bit s.memberMask p then 1 else if bit s.spareMaskIds p then 2 else 0

/-- The IDs of the two masks, ascending. -/
def State.maskIds (s : State) : List Nat := (List.range 16).filter (fun p => s.maskRole p ≠ 0)

/-- Whether an ID is this package itself; a fenced package holds none. -/
def State.isSelf (s : State) (p : Nat) : Bool := p = s.pkgId && !s.isFencedPkg

/-- Whether a package is present, this one included (R564). -/
def State.isPresent (s : State) (p : Nat) : Bool := s.isSelf p || (s.peer p).present

/-- Joined, generation and health of a package as heard; its own of this one. -/
def State.joinedOf (s : State) (p : Nat) : Bool := if s.isSelf p then s.sys.joined else (s.peer p).joined
def State.genOf (s : State) (p : Nat) : Nat := if s.isSelf p then s.generation else (s.peer p).gen
def State.healthOf (s : State) (p : Nat) : Nat := if s.isSelf p then s.rn 0x2100 0x03 else (s.ent p).health

/-- The joined packages present, ascending. -/
def State.joinedIds (s : State) : List Nat := (List.range 16).filter (fun p => s.isPresent p && s.joinedOf p)

/-- The highest generation heard (R564, R12). -/
def State.highestGen (s : State) : Nat :=
  match s.joinedIds.map s.genOf with
  | [] => 0
  | g :: gs => gs.foldl (fun a b => if serialAfter 32 b a then b else a) g

/-- The supervisor by R564; 0xFF none. -/
def State.findSupervisor (s : State) : Nat :=
  (s.joinedIds.find? (fun p => s.genOf p = s.highestGen && s.healthOf p ≤ 1)).getD 0xFF

/-- Whether quorum is held by what is present now (R564). -/
def State.quorumNow (s : State) : Bool :=
  let ids := s.maskIds
  let n := (ids.filter s.isPresent).length
  ids.length < 2 * n || (ids.length = 2 * n && (ids.head?.map s.isPresent).getD false)

/-! ### Entries -/

/-- An entry of a presence body (Table 17.1). -/
def entryOf (b : List Byte) (p : Nat) : EntS :=
  let i := 8 + 20 * p
  ⟨fld b i 2, bits (byteAt b (i + 2)) 2 0, bits (byteAt b (i + 2)) 5 3, bits (byteAt b (i + 3)) 3 0, fld b (i + 4) 8, fld b (i + 12) 8⟩

/-- A neighbour field of a presence body. -/
def neighbourOf (v : Nat) : Option (Nat × Nat) := if bit v 5 then some (bits v 3 0, bits v 4 4) else none

/-- R60, R112: a session whose relayed source's package is vacant is fenced by epoch. -/
def State.refreshSources (s : State) : State :=
  (s.sessUsed.filter (fun n => s.kind n = 4)).foldl (fun s n =>
    s.setSes n { s.ses n with fenced := !s.standalone && (s.ent (s.relayEntry n).1).role = 3 }) s

/-- A generation begins, or is adopted, now. -/
def State.genBegins (s : State) (g : Nat) : State :=
  let seen := ((List.range 16).filter s.isPresent).foldl (fun a p => a + 2 ^ p) 0
  { s with sys := { s.sys with genAt := s.clock, seen := seen } }.wn 0x6800 0x08 g

/-! ### Role images (R580) -/

/-- The configuration-class objects outside 0x6800. -/
def roleObjs : List (Nat × Nat × Obj) := allObjs.filter (fun q => q.2.2.cfg && q.1 ≠ 0x6800)

/-- This package's configuration in force as a role image. -/
def State.ownImage (s : State) : Tab Val := roleObjs.foldl (fun t q => t.put (key q.1 q.2.1) (s.inForce q.1 q.2.1)) []

/-- A role image as records of R533. -/
def imageRecords (t : Tab Val) : List Byte :=
  roleObjs.flatMap (fun q => match t.look (key q.1 q.2.1) with
    | some v => exportRecord q.1 q.2.1 (encodeVal q.2.2.ty v)
    | none => [])

/-- A member sends its image to a spare in image parts (opcode 14). -/
def State.sendImage (s : State) (dst : Nat) : State :=
  if s.rn 0x6800 0x09 ≠ 1 || dst = s.pkgId then s
  else
    let b := imageRecords s.ownImage
    let ps := pieces 8184 (b.length / 8184 + 1) b
    ps.zipIdx.foldl (fun s p =>
      s.control dst 14 (beBytes 1 s.pkgId ++ beBytes 1 (b2n (decide (p.2 + 1 = ps.length))) ++ beBytes 4 (8184 * p.2) ++ p.1)) s

/-- A member sends its image to every package with role joining that had another role before (R569). -/
def State.sendNewJoiners (s : State) (old : Tab EntS) : State :=
  ((List.range 16).filter (fun p => (s.ent p).role = 4 && (old.at' p {}).role ≠ 4)).foldl State.sendImage s

/-! ### Joining, fencing and taking a role -/

/-- This package's serial number as an entry holds it: whether an entry is another's. -/
def State.othersEntry (s : State) (e : EntS) : Bool := e.serial ≠ 0 && e.serial ≠ s.otp.serial

/-- R563: the package joins under its home ID with the recorded epoch. -/
def State.sysJoin (s : State) : State :=
  let p := s.fn 0x6800 0x01
  let e := s.ent p
  let s := ((s.wn 0x6800 0x0A p).wn 0x6800 0x09 (s.maskRole p)).wn 0x2100 0x01 e.epoch
  { s with sys := { s.sys with joined := true } }.setEnt p { e with
    serial := s.otp.serial, role := s.maskRole p, root := if e.serial = s.otp.serial then e.root else rootOf s.sys.tree }

/-- R568: the package is fenced: 0 epoch, 1 serial, 2 self-fence. -/
def State.sysFence (s : State) (cause : Nat) : State :=
  if s.isFencedPkg then s
  else
    let s := s.raise s.sysKey 0x1106 3 [(8, cause)]
    let s := { s with sys := { s.sys with joined := false } }
    let s := (s.wn 0x6800 0x09 3).wn 0x6800 0x0A 0xFF
    let s := ((List.range 16).filter s.encOn).foldl (fun s e => s.encStopWith e 4) s
    ((s.slotsUsed.filter s.layerOn).foldl State.degrade s).refreshSummaries

/-- R121: duplicate address detection, run when a port's IPv6 address is set. -/
def State.probe6 (s : State) (p : Nat) : State :=
  let a := s.rb (0x2910 + p) 0x06
  if !s.portExists p || a.all (· = 0) then s else s.say (.dadProbe p a)

/-- R566 step 4: the addresses of a port are announced. -/
def State.announce (s : State) (p : Nat) : State :=
  if !s.portExists p || s.rn (0x2910 + p) 0x0A ≠ 1 then s
  else
    let a := s.rn (0x2910 + p) 0x03
    let v6 := s.rb (0x2910 + p) 0x06
    let s := if a = 0 then s else s.say (.arp p a (List.replicate 6 0xFF))
    let s := s.say (.neighbour p (s.linkLocal p))
    if v6.all (· = 0) then s else s.say (.neighbour p v6)

/-- The values of a role image come into force and become the stored image (R566 step 2). -/
def State.useImage (s : State) (p : Nat) : State :=
  let img := s.sys.images.at' p []
  let s := (List.range 4).foldl (fun s q => (Sys2Proof.Machine.quadMode q s (s.imageVal img 0x2900 (q + 1))).1) s
  let s := roleObjs.foldl (fun s q =>
    let v := s.imageVal img q.1 q.2.1
    let s := s.wv q.1 q.2.1 v
    if delayedObj q.1 q.2.1 then s.setForce q.1 q.2.1 v else s) s
  let kept := s.image.filter (fun q => match findObj (q.1 / 256) (q.1 % 256) with
    | some o => !o.cfg || q.1 / 256 = 0x6800
    | none => false)
  (s.putStore (img.foldl (fun t q => if storesObj (q.1 / 256) (q.1 % 256) then t.put q.1 q.2 else t) kept))

/-- R566: a spare becomes member `p`. -/
def State.takeRole (s : State) (p : Nat) : State :=
  let s := ((s.wn 0x6800 0x0A p).wn 0x6800 0x09 1).wn 0x2100 0x01 (s.ent p).epoch
  let s := (s.sessUsed.filter s.admitted).foldl (fun s n => (s.closeSess n 8).enterSess n sessIdle 0) s
  let s := ((List.range 16).filter s.encOn).foldl (fun s e => s.encStopWith e 4) s
  let s := s.useImage p
  let s := { s with sys := { s.sys with joined := true, images := [], parts := [], got := 0, tree := s.tree } }
  let s := if s.power.fail then s else { s with flash := { s.flash with images := [], tree := s.sys.tree } }
  let s := ((List.range 24).filter (fun x => !s.member x)).foldl State.restartScreen s
  let s := (s.refreshCores.refreshPipes).refreshEncode
  let s := (s.rerun.autoOpen).encAutoStart
  let s := (s.slotsUsed.filter s.layerOn).foldl (fun s n => (s.firstUse n).degrade n) s
  (List.range 16).foldl State.announce ((List.range 16).foldl State.probe6 s)

/-! ### Supervisor and quorum -/

/-- Quorum lost or regained (R564): one event. -/
def State.quorumCheck (s : State) : State :=
  let q := s.quorumNow
  if q = s.sys.quorum then s
  else
    let n := (s.maskIds.filter s.isPresent).length
    { s with sys := { s.sys with
        quorum := q, held := s.sys.held || q, lostAt := if q then none else some s.clock } }.raise
      s.sysKey 0x1104 (if q then 0 else 2) [(8, n), (8, b2n q)]

/-- R563: where no package that a quorum can hear holds a generation, the lowest ID starts generation 1. -/
def State.startGeneration (s : State) : State :=
  let ids := s.maskIds.filter s.isPresent
  if !s.sys.quorum || s.sys.joined || s.isFencedPkg || ids.head? ≠ some s.pkgId || ids.any (fun p => s.genOf p ≠ 0) then s
  else
    let tab : Tab EntS := (List.range 16).map (fun p =>
      (p, ({ s.ent p with epoch := 0, role := s.maskRole p, serial := 0, root := 0 } : EntS)))
    (({ s with sys := { s.sys with table := tab } }).genBegins 1).sysJoin

/-- R564: a change of supervisor: one event; an armed change is discarded, and the result of the old supervisor's own is lost
(R579). -/
def State.superCheck (s : State) : State :=
  let old := s.rn 0x6800 0x0B
  let new := s.findSupervisor
  if old = new then s
  else
    let s := (s.wn 0x6800 0x0B new).raise s.sysKey 0x1103 1 [(8, old), (8, new), (32, s.generation)]
    let drop : Bool := match s.sys.target with
      | some g => g.done.isNone
      | none => false
    let s := { s with sys := { s.sys with
        change := none, target := if drop then none else s.sys.target } }
    s.servoLocalCheck

/-- R561: this package's presence leaves at once. -/
def State.presenceOut (s : State) : State := s.broadcast ftControl opPresence s.presenceBody

/-- R565: the supervisor declares a package dead, and patches a member by the lowest spare that is present and OK. -/
def State.declarePackage (s : State) (p : Nat) : State :=
  let e := s.ent p
  let sp := if e.role = 1 then
      (List.range 16).find? (fun k => k ≠ p && (s.ent k).role = 2 && s.isPresent k && s.joinedOf k && s.healthOf k = 0)
    else none
  let g := wrapInc 32 s.generation
  let s := { s with sys := { s.sys with peers := s.sys.peers.cut p } }.setEnt p
    { e with epoch := wrapInc 16 e.epoch, role := 3, serial := 0 }
  let s := match sp with
    | some k =>
      let d := s.ent k
      let s := s.setEnt p { s.ent p with serial := d.serial, role := 1 }
      s.setEnt k { d with epoch := wrapInc 16 d.epoch, role := 3, serial := 0 }
    | none => s
  let s := (s.genBegins g).bump s.sysKey 0x6800 0x1A
  let s := s.raise s.sysKey 0x1105 3 [(8, p), (8, sp.getD 0xFF), (32, g)]
  let s := s.presenceOut.refreshSources
  if sp = some s.pkgId then s.takeRole p else s

/-- Whether this package is the supervisor and holds quorum. -/
def State.maySupervise (s : State) : Bool := s.supervisor && s.sys.quorum && s.sys.joined

/-- The members and spares that have been present and are absent for the dead timeout are declared dead (R565). -/
def State.declareAbsent (s : State) : State :=
  if !s.maySupervise then s
  else ((List.range 16).filter (fun p =>
      !s.isSelf p && ((s.ent p).role = 1 || (s.ent p).role = 2) &&
      (match s.sys.peers.look p with | some g => !g.present | none => false))).foldl State.declarePackage s

/-- What every package evaluates at each presence frame (R563, R564). -/
def State.sysEval (s : State) : State := ((s.quorumCheck.startGeneration).superCheck).declareAbsent

/-- PRESENCE_SEND (R561), every 10 ms. -/
def State.presenceSend (s : State) : State :=
  if s.standalone || s.power.phase ≠ .running || !s.due s.sys.presAt (10 * msTicks) then s
  else
    let s := { s with sys := { s.sys with presAt := some s.clock } }.sysEval
    if s.isFencedPkg then s else s.presenceOut

def execPresenceSend (t : Nat) (s : State) : Host.Outcome State Fault Refusal := .next (s.tick t).presenceSend

/-! ### A presence frame heard -/

/-- The joined package after an adoption (R566, R568): it takes the role the table gives its serial number, or is fenced. -/
def State.afterAdopt (s : State) : State :=
  if !s.sys.joined then s
  else
    let e := s.ent s.pkgId
    match (List.range 16).find? (fun p => p ≠ s.pkgId && s.otp.serial ≠ 0 && (s.ent p).serial = s.otp.serial && (s.ent p).role = 1) with
    | some p => s.takeRole p
    | none =>
      if e.epoch ≠ s.rn 0x2100 0x01 then s.sysFence 0
      else if s.othersEntry e then s.sysFence 1
      else s

/-- R562 case 4: the receiver adopts the generation and every entry. -/
def State.adopt (s : State) (gen : Nat) (b : List Byte) : State :=
  let old := s.sys.table
  let tab : Tab EntS := (List.range 16).map (fun p => (p, entryOf b p))
  ((({ s with sys := { s.sys with table := tab } }).genBegins gen).afterAdopt).sendNewJoiners old

/-- What a frame of the receiver's own generation says (R561): the sender of itself, the supervisor of roles, holders and
roots. The supervisor enters the holder of an ID that has none. -/
def State.heard (s : State) (src : Nat) (b : List Byte) (joined : Bool) : State :=
  let m := entryOf b src
  let e := s.ent src
  let s := s.setEnt src { e with epoch := m.epoch, health := m.health, summary := m.summary }
  if src = s.rn 0x6800 0x0B && byteAt b 2 = src then
    let old := s.sys.table
    let s := (List.range 16).foldl (fun s p =>
      let x := entryOf b p
      s.setEnt p { s.ent p with role := x.role, serial := x.serial, root := x.root }) s
    s.afterAdopt.sendNewJoiners old
  else if s.supervisor && joined then
    let e := s.ent src
    if e.serial = 0 && s.maskRole src ≠ 0 then
      s.setEnt src { e with role := s.maskRole src, serial := m.serial, root := m.root }
    else if e.role = 4 && m.role = 2 && e.serial = m.serial then s.setEnt src { e with role := 2 }
    else s
  else s

/-- A package that has not joined joins at a frame of the supervisor (R563), or is fenced where its entry is another's. -/
def State.joinCheck (s : State) (src : Nat) (b : List Byte) : State :=
  if s.sys.joined || s.isFencedPkg || s.generation = 0 || byteAt b 2 ≠ src then s
  else
    let e := s.ent (s.fn 0x6800 0x01)
    if s.othersEntry e && (e.role = 1 || e.role = 2) then s.sysFence 1 else s.sysJoin

/-- PRESENCE (R562 to R564). -/
def State.presenceTake (s : State) (f : SpFrame) : State :=
  let b := f.payload
  let p := f.src
  if b.length ≠ 328 then s
  else
    let was := (s.peer p).present
    let joined := bit (byteAt b 3) 2
    let g : PeerS := ⟨s.clock, f.gen, joined, neighbourOf (byteAt b 4), neighbourOf (byteAt b 5), true⟩
    let s := { s with sys := { s.sys with peers := s.sys.peers.put p g, seen := setBit s.sys.seen p true } }
    let s := if was then s else s.raise s.sysKey 0x1101 0 [(8, p)]
    let s :=
      if f.gen = 0 then
        let m := entryOf b p
        s.setEnt p { s.ent p with health := m.health, summary := m.summary }
      else if f.gen = s.generation then s.heard p b joined
      else s.adopt f.gen b
    ((s.joinCheck p b).sysEval).refreshSources

def execPresence (t q : Nat) (x : SpWire) (s : State) : Host.Outcome State Fault Refusal :=
  let f := s.spFrame q x
  .next ((s.tick t).onFrame q f (spIsOp f opPresence) (fun s => s.presenceTake f))

/-- PACKAGE_ABSENT (R564, R565): nothing heard of a package for the dead timeout. -/
def State.packageAbsent (s : State) (p : Nat) : State :=
  let g := s.peer p
  if s.standalone || !g.present || s.clock < g.tick + s.rn 0x6800 0x05 * msTicks then s
  else
    let s := { s with sys := { s.sys with peers := s.sys.peers.put p { g with present := false } } }
    ((s.raise s.sysKey 0x1102 2 [(8, p)]).sysEval).refreshSources

def execPackageAbsent (t p : Nat) (s : State) : Host.Outcome State Fault Refusal := .next ((s.tick t).packageAbsent p)

/-- JOIN_GRACE_EXPIRY (R565). -/
def State.joinGrace (s : State) (p : Nat) : State :=
  let r := (s.ent p).role
  if !s.standalone && s.maySupervise && p < 16 && !s.isSelf p && (r = 1 || r = 2 || r = 4) && !bit s.sys.seen p &&
      s.sys.genAt + s.rn 0x6800 0x06 * sTicks ≤ s.clock then s.declarePackage p
  else s

def execJoinGraceExpiry (t p : Nat) (s : State) : Host.Outcome State Fault Refusal := .next ((s.tick t).joinGrace p)

/-- SELF_FENCE (R567). -/
def State.selfFence (s : State) : State :=
  match s.sys.lostAt with
  | some a =>
    if !s.standalone && s.sys.joined && s.rn 0x6800 0x09 = 1 && s.sys.held && !s.sys.quorum && s.spareMaskIds ≠ 0 &&
        s.rn 0x6800 0x0F = 1 && a + 2 * s.rn 0x6800 0x05 * msTicks ≤ s.clock then s.sysFence 2
    else s
  | none => s

def execSelfFence (t : Nat) (s : State) : Host.Outcome State Fault Refusal := .next (s.tick t).selfFence

/-! ### Rejoin (R569) -/

/-- REJOIN_REQUEST_SEND, every 1 s. -/
def State.rejoinSend (s : State) : State :=
  let d := s.rn 0x6800 0x0B
  if s.isFencedPkg && (s.rn 0x6800 0x0E = 1 || s.sys.rejoin) && d ≠ 0xFF && s.due s.sys.rejoinAt sTicks then
    { s with sys := { s.sys with rejoinAt := some s.clock } }.control d opRejoin (beBytes 1 (s.fn 0x6800 0x01) ++ [0] ++ beBytes 8 s.otp.serial)
  else s

def execRejoinRequestSend (t : Nat) (s : State) : Host.Outcome State Fault Refusal := .next (s.tick t).rejoinSend

/-- REJOIN_REQUEST: the supervisor grants the home ID, or the lowest vacant ID of the spare mask, or refuses with 0xFF. -/
def State.rejoinAsked (s : State) (b : List Byte) : State :=
  let home := byteAt b 2
  let serial := fld b 4 8
  if !s.supervisor then s
  else
    let answer := fun (s : State) (id role epoch : Nat) =>
      s.broadcast ftControl 13 (beBytes 2 13 ++ beBytes 1 id ++ beBytes 1 role ++ beBytes 2 epoch ++ [0, 0] ++ beBytes 8 serial)
    if home < 16 && (s.ent home).role = 3 && bit s.memberMask home then
      let s := s.setEnt home { s.ent home with role := 1, serial := serial }
      answer s home 1 (s.ent home).epoch
    else match (List.range 16).find? (fun k => (s.ent k).role = 3 && bit s.spareMaskIds k) with
      | some k =>
        let old := s.sys.table
        let s := s.setEnt k { s.ent k with role := 4, serial := serial }
        (answer s k 2 (s.ent k).epoch).sendNewJoiners old
      | none => answer s 0xFF 0 0

def execRejoinRequest (t q : Nat) (x : SpWire) (s : State) : Host.Outcome State Fault Refusal :=
  let f := s.spFrame q x
  .next ((s.tick t).onFrame q f (spIsOp f opRejoin) (fun s => s.rejoinAsked f.payload))

/-- REJOIN_GRANT: the fenced package takes ID, role, epoch and generation; as spare it is joining until every image has
come. -/
def State.rejoinGranted (s : State) (f : SpFrame) : State :=
  let b := f.payload
  let id := byteAt b 2
  if !s.isFencedPkg || fld b 8 8 ≠ s.otp.serial || 15 < id then s
  else
    let spare := byteAt b 3 = 2
    let ep := fld b 4 2
    let s := ((s.wn 0x6800 0x0A id).wn 0x6800 0x09 (if spare then 4 else 1)).wn 0x2100 0x01 ep
    let s := (s.wn 0x6800 0x08 f.gen).setEnt id { s.ent id with
      serial := s.otp.serial, role := if spare then 4 else 1, epoch := ep }
    let s := { s with sys := { s.sys with joined := true, rejoin := false, got := 0, parts := [] } }
    let s := if spare then
        { s with screens := s.screens.map (fun (p : Nat × ScreenS) => (p.1, ({ p.2 with
          service := true, plan := none, next := none, composing := none } : ScreenS))) }
      else s.raise s.sysKey 0x1107 1 [(8, id), (8, 1), (16, ep)]
    ((s.slotsUsed.filter s.layerOn).foldl State.degrade s).refreshSummaries

def execRejoinGrant (t q : Nat) (x : SpWire) (s : State) : Host.Outcome State Fault Refusal :=
  let f := s.spFrame q x
  .next ((s.tick t).onFrame q f (spIsOp f 13) (fun s => s.rejoinGranted f))

/-- A joining spare is a spare once it holds the image of every present member with the recorded root. -/
def State.joinedSpare (s : State) : State :=
  let want := (List.range 16).filter (fun p => (s.ent p).role = 1 && s.isPresent p)
  if s.sys.joined && s.rn 0x6800 0x09 = 4 && want.all (fun p => bit s.sys.got p && s.imageRoot p = (s.ent p).root) then
    ((s.wn 0x6800 0x09 2).setEnt s.pkgId { s.ent s.pkgId with role := 2 }).raise s.sysKey 0x1107 1
      [(8, s.pkgId), (8, 2), (16, s.rn 0x2100 0x01)]
  else s

/-- IMAGE_PART: a part of a role image, in order; the last makes the image (R533's records). -/
def State.imagePart (s : State) (b : List Byte) : State :=
  let p := byteAt b 2
  let off := fld b 4 4
  let have' := if off = 0 then [] else s.sys.parts.at' p []
  if 16 ≤ p || off ≠ have'.length || (s.rn 0x6800 0x09 ≠ 2 && s.rn 0x6800 0x09 ≠ 4) then s
  else
    let d := have' ++ b.drop 8
    if !bit (byteAt b 3) 0 then { s with sys := { s.sys with parts := s.sys.parts.put p d } }
    else
      let img := ((parseRecords (d.length + 1) d).1).foldl (fun (t : Tab Val) q =>
        match findObj q.1 q.2.1 with
        | some o => match decodeVal o.ty q.2.2 with
          | some v => t.put (key q.1 q.2.1) v
          | none => t
        | none => t) []
      let s := { s with sys := { s.sys with
          parts := s.sys.parts.cut p, images := s.sys.images.put p img, got := setBit s.sys.got p true } }
      let s := if s.power.fail then s else { s with flash := { s.flash with images := s.sys.images } }
      s.joinedSpare

def execImagePart (t q : Nat) (x : SpWire) (s : State) : Host.Outcome State Fault Refusal :=
  let f := s.spFrame q x
  .next ((s.tick t).onFrame q f (spIsOp f 14) (fun s => s.imagePart f.payload))

/-! ### Digests (R581 to R583) -/

/-- The digest objects 0x6800:13 and :14 with their events. -/
def State.setDigest (s : State) (st node actual : Nat) : State :=
  let was := s.rn 0x6800 0x14
  let s := s.wn 0x6800 0x13 st
  if st = 2 then s
  else if st = 0 then
    if was = 0xFFFFFFFF then s
    else (s.wn 0x6800 0x14 0xFFFFFFFF).raise s.sysKey 0x110A 0 [(32, pkgNode s.pkgId)]
  else if was = node then s
  else ((s.wn 0x6800 0x14 node).bump s.sysKey 0x6800 0x19).raise s.sysKey 0x1109 2 [(32, node), (32, actual % 2 ^ 32)]

/-- R583: a package compares its own actual root with the supervisor's record for its ID. -/
def State.compareOwn (s : State) : State :=
  if s.standalone || !s.sys.joined then s
  else if s.sys.suspended then s.setDigest 2 0 0
  else
    let t := s.tree
    let own := rootOf t
    if own = (s.ent s.pkgId).root then s.setDigest 0 0 own
    else if own = rootOf s.sys.tree then s.setDigest 3 (pkgNode s.pkgId) own
    else
      let a := firstDiff t s.sys.tree 6 (4 * 65536)
      s.setDigest 1 (a + 4096 * s.pkgId) (t.at' a (0, 0)).2

/-- A digest frame's payload (Table 13.5). -/
def digestBody (p root : Nat) : List Byte := beBytes 4 (pkgNode p) ++ beBytes 8 root ++ [0, 0, 0, 0]

/-- DIGEST_BROADCAST (R583), every 100 ms: the actual root, a spare also the root of each role image. -/
def State.digestOut (s : State) : State :=
  if s.standalone || !s.sys.joined || s.power.phase ≠ .running || !s.due s.sys.digestAt (100 * msTicks) then s
  else
    let s := { s with sys := { s.sys with digestAt := some s.clock } }.broadcast ftDigest 0 (digestBody s.pkgId s.actualRoot)
    let s := if s.rn 0x6800 0x09 = 2 then
        s.sys.images.foldl (fun s p => s.broadcast ftDigest 0 (digestBody p.1 (s.imageRoot p.1))) s
      else s
    s.compareOwn

def execDigestBroadcast (t : Nat) (s : State) : Host.Outcome State Fault Refusal := .next (s.tick t).digestOut

/-- DIGEST_FRAME (R583): the supervisor compares a broadcast root with its record, and raises its own event when it begins to
differ. -/
def State.digestIn (s : State) (f : SpFrame) : State :=
  let a := Addr.ofNat (fld f.payload 0 4)
  let root := fld f.payload 4 8
  let k := 16 * f.src + a.pkg
  let busy : Bool := match s.sys.change with
    | some c => bit c.targets a.pkg
    | none => false
  let s := if !s.supervisor || a.level ≠ 4 || busy then s
    else if root = (s.ent a.pkg).root then { s with sys := { s.sys with differ := s.sys.differ.filter (· ≠ k) } }
    else if s.sys.differ.contains k then s
    else { s with sys := { s.sys with differ := k :: s.sys.differ } }.raise s.sysKey 0x1109 2
      [(32, pkgNode a.pkg), (32, root % 2 ^ 32)]
  s.compareOwn

def execDigestFrame (t q : Nat) (x : SpWire) (s : State) : Host.Outcome State Fault Refusal :=
  let f := s.spFrame q x
  .next ((s.tick t).onFrame q f (f.ftype = ftDigest) (fun s => s.digestIn f))

/-! ### Commands (0x6800:10) -/

/-- Command 2, adopt (R582): refused while a change set is in progress. The actual tree becomes the recorded one, its root
goes to the supervisor, the image to every spare. -/
def State.adoptTree (s : State) : State × Nat :=
  if s.standalone || s.sys.change.isSome || s.sys.target.isSome then (s, 7)
  else
    let t := s.tree
    let s := { s with sys := { s.sys with tree := t } }
    let s := if s.power.fail then s else { s with flash := { s.flash with tree := t } }
    let root := rootOf t
    let s := if s.supervisor then s.setEnt s.pkgId { s.ent s.pkgId with root := root }
      else s.control (s.rn 0x6800 0x0B) 7 ([0, 0, 2, 0, 0, 0] ++ beBytes 8 root)
    let s := ((List.range 16).filter (fun p => (s.ent p).role = 2 || (s.ent p).role = 4)).foldl State.sendImage s
    (s.compareOwn, 0)

/-- Command 3, declare dead (R565): the supervisor with quorum, of another package. -/
def State.declareNamed (s : State) : State × Nat :=
  let p := s.rn 0x6800 0x11
  if s.standalone || !s.maySupervise || s.isSelf p || 16 ≤ p then (s, 7) else (s.declarePackage p, 0)

/-- Command 4, rejoin (R569). -/
def State.askRejoin (s : State) : State × Nat :=
  if s.isFencedPkg then ({ s with sys := { s.sys with rejoin := true } }, 0) else (s, 7)

/-- SYSTEM_ADOPT (R582). -/
def execSystemAdopt (t : Nat) (r : Req) (s : State) : Host.Outcome State Fault Refusal :=
  .next ((s.tick t).request r 0x6800 0x10 [2] (fun s _ => s.adoptTree))

/-- SYSTEM_DECLARE_DEAD (R565). -/
def execSystemDeclareDead (t : Nat) (r : Req) (s : State) : Host.Outcome State Fault Refusal :=
  .next ((s.tick t).request r 0x6800 0x10 [3] (fun s _ => s.declareNamed))

/-- SYSTEM_REJOIN (R569). -/
def execSystemRejoin (t : Nat) (r : Req) (s : State) : Host.Outcome State Fault Refusal :=
  .next ((s.tick t).request r 0x6800 0x10 [4] (fun s _ => s.askRejoin))

end Sys2Proof.Machine
end

