-- ==== Sys2Proof/Machine/RelayIn.lean ====
section
/-! DEFINITION. Relays at both ends as frames bring them (R570 to R574): opening, results, closing and resync at the source;
pixel strips and streams at the receiver. -/

namespace Sys2Proof.Machine

/-! ### At the source (R571) -/

/-- What a relay charges: bit/s of its port and milli-engines. A pressed plane declares no rate: both are free. -/
def State.relayCharge (s : State) (source mode : Nat) : (Nat × Nat) × State :=
  let i := sIdx source
  let w := s.rn i 0x10
  let h := s.rn i 0x11
  let f := s.rn i 0x12
  let b := s.rn i 0x13
  if source < 160 then
    if mode = 0 then ((s.relayBits true source, 0), s)
    else ((s.relayBits false source, if s.isSurface source then coderLoad w h f b else 0), s)
  else
    let p := s.fresh
    let q := p.2.fresh
    ((p.1, q.1), q.2)

/-- Whether an outgoing relay is compressed: a surface or a plane. -/
def State.relayCodes (s : State) (source : Nat) : Bool := 160 ≤ source || s.isSurface source

/-- A coder context of 160 to 167 that no relay holds. -/
def State.freeContext (s : State) : Option Nat :=
  ((List.range 8).map (· + 160)).find? (fun c => !s.sys.relays.any (fun r => r.2.ctx = some c))

/-- The answer of R571 to a relay open, and the state with the relay where it is accepted. -/
def State.relayAdmit (s : State) (no source mode : Nat) : State × Nat :=
  let s := { s with sys := { s.sys with relays := s.sys.relays.cut no } }
  match s.prefer s.pkgId (relayTo no) with
  | none => (s, 9)
  | some q =>
    if 184 ≤ source || 1 < mode || (mode = 0 && (160 ≤ source || !s.isVideo source)) then (s, 9)
    else
      let p := s.relayCharge source mode
      let c := p.1
      let s := p.2
      let used := relayTraffic ((s.sys.relays.filter (fun r => r.2.port = q)).map (fun r => r))
      if s.rn (spIdx q) 0x08 * 1000000 * s.rn 0x3100 0x04 < (used + c.1) * 100 then (s, 2)
      else if s.relayCodes source && (s.freeContext.isNone ||
          (s.sumOthers 0xFFFF (fun m => s.rn (0x5810 + m) 0x05) + s.relayLoad + c.2) * 100 > 1000 * s.activeEngines * s.rn 0x5800 0x01) then
        (s, 10)
      else
        let ctx := if s.relayCodes source then s.freeContext else none
        let s := s.setRelay no { source := source, mode := mode, cost := c.1, port := q, ctx := ctx, load := c.2 }
        (match ctx with | some c => s.setCtx c {} | none => s, 0)

/-- RELAY_OPEN (R571). -/
def State.relayOpened (s : State) (b : List Byte) : State :=
  let no := fld b 2 2
  let p := s.relayAdmit no (byteAt b 4) (byteAt b 5)
  (p.1.refreshAdmission).control (relayTo no) 9 (beBytes 2 no ++ beBytes 1 p.2)

def execRelayOpen (t q : Nat) (x : SpWire) (s : State) : Host.Outcome State Fault Refusal :=
  let f := s.spFrame q x
  .next ((s.tick t).onFrame q f (spIsOp f 8) (fun s => s.relayOpened f.payload))

/-- RELAY_CLOSE (R570): the relay's charges are released. -/
def State.relayClosed (s : State) (b : List Byte) : State :=
  ({ s with sys := { s.sys with relays := s.sys.relays.cut (fld b 2 2) } }).refreshAdmission

def execRelayClose (t q : Nat) (x : SpWire) (s : State) : Host.Outcome State Fault Refusal :=
  let f := s.spFrame q x
  .next ((s.tick t).onFrame q f (spIsOp f 10) (fun s => s.relayClosed f.payload))

/-- RELAY_RESYNC (R574): the newest complete version leaves whole, in kind 2 blocks. -/
def State.relayAgain (s : State) (b : List Byte) : State :=
  let no := fld b 2 2
  match s.sys.relays.look no with
  | none => s
  | some g =>
    if g.mode ≠ 1 || g.shed || !s.relayCodes g.source then s
    else if g.source < 160 then
      if s.sst g.source ≠ sessRunning then s
      else
        let p := s.relayNumber no
        p.2.relayPrimed no (p.2.relayVersion g.source p.1 bytesPerPixel (fun d n => cellsRead d 0 n))
    else
      let x := g.source - 160
      if (s.screen x).planeCur = 0 then s
      else
        let cap := (s.screen x).plan.bind (fun p => oldestCap (p.layers.filter (·.pressed)))
        let m := s.planeMessage no (s.ha x) (s.va x) cap
        m.2.relayPrimed no m.1

def execRelayResync (t q : Nat) (x : SpWire) (s : State) : Host.Outcome State Fault Refusal :=
  let f := s.spFrame q x
  .next ((s.tick t).onFrame q f (spIsOp f 11) (fun s => s.relayAgain f.payload))

/-! ### At the receiver -/

/-- The receiving session of a relay number, where it is open here. -/
def State.relayMine (s : State) (no : Nat) : Option Nat :=
  let n := no % 256
  if no / 256 = s.pkgId && n < 160 && s.kind n = 4 && s.admitted n && (s.sys.relayIn.look n).isSome then some n else none

def State.rin (s : State) (n : Nat) : RelayInS := s.sys.relayIn.at' n {}
def State.setRin (s : State) (n : Nat) (g : RelayInS) : State :=
  { s with sys := { s.sys with relayIn := s.sys.relayIn.put n g } }

/-- RELAY_RESULT (R571): a refusal closes the receiving session with its reason. -/
def State.relayAnswer (s : State) (b : List Byte) : State :=
  match s.relayMine (fld b 2 2) with
  | some n => if byteAt b 4 = 0 then s else s.closeSess n (byteAt b 4)
  | none => s

def execRelayResult (t q : Nat) (x : SpWire) (s : State) : Host.Outcome State Fault Refusal :=
  let f := s.spFrame q x
  .next ((s.tick t).onFrame q f (spIsOp f 9) (fun s => s.relayAnswer f.payload))

/-- A record's label under Table 1.3 (R572), with the record's grade. -/
def State.recordLabel (s : State) (n : Nat) (r : List Byte) : State × AuInfo :=
  let grade := byteAt r 8
  let ts := fld r 0 4
  let flags := byteAt r 58 % 16
  let capNs := fld r 50 4
  let cap := fld r 44 6 * 1000000000 + capNs
  let l : Label := ⟨flags, fld r 32 8, fld r 40 4, cap, fld r 54 4, []⟩
  if 2 ≤ grade then s.labelled n ts (if l.ident = 0 || 1000000000 ≤ capNs then none else some l)
  else
    let s := s.gradeChange n grade
    let p := s.continuity n l.alive
    let c := if grade = 1 && p.2 = .fresh then some (extend48 s.nowSec.1 cap) else none
    let late := match c with
      | some c => p.1.inFuture c
      | none => false
    let g := p.1.ses n
    let g := if p.2 = .replay then g else { g with fault := bit flags 1, test := bit flags 2, future := late }
    let s := p.1.setSes n g
    let s := if late then s.bump (procKey 0 .net) 0x5000 0x11 else s
    (s, { ts := ts, grade := grade, alive := l.alive, cap := c, judge := p.2, heartbeat := bit flags 0, crc := none, rows := [], avail := s.clock })

/-- Whether a record's picture lies outside the declaration (R570). -/
def State.recordOutside (s : State) (n : Nat) (r : List Byte) : Bool :=
  s.rn (sIdx n) 0x10 < fld r 14 2 || s.rn (sIdx n) 0x11 < fld r 16 2

/-- The samples of a relayed picture (R573): of its tiles as they came, and of one that did not, darned from the picture displayed where
that has its size (DEDUCED, log 162). -/
def relayWords (w h : Nat) (tiles : List (Nat × Bool × List Nat)) (old : Option PicS) : List Nat :=
  let find := fun (x y : Nat) => tiles.find? (fun p => p.1 = y / 16 * ceilDiv w 16 + x / 16)
  let old := old.filter (fun q => q.codedW = w && q.codedH = h)
  let chroma := fun (k x y : Nat) => match find (2 * x) (2 * y) with
    | some t => tileChroma t.2.2 k (x % 8) (y % 8)
    | none => (old.map (fun q => chromaAt w h q.words k x y)).getD midGrey
  packPicture w h
    (fun x y => match find x y with
      | some t => tileLuma t.2.2 (x % 16) (y % 16)
      | none => (old.map (fun q => lumaAt w q.words x y)).getD midGrey)
    (chroma 0) (chroma 1)

/-- A relayed pixel picture is complete (R573): tiles that did not arrive are tainted and darned, and a whole picture is held to the
CRC of its label (R30). The record does not say how deep the stream's samples are, so the CRC may fit either depth (DESIGN CHOICE,
log 170). -/
def State.relayDone (s : State) (n : Nat) : State :=
  let g := s.rin n
  match g.record, (s.ses n).queue with
  | some r, au :: rest =>
    let w := fld r 4 2
    let h := fld r 6 2
    let lost := (List.range (tilesOf w h)).filter (fun t => !g.tiles.any (fun p => p.1 = t))
    let taint := lost ++ (g.tiles.filter (fun p => p.2.1)).map (·.1)
    let x := s.ses n
    let words := relayWords w h g.tiles x.disp
    let luma := plane w h (lumaAt w words)
    let bad : Bool := taint.isEmpty && (match au.crc with
      | some v => [luma, luma.map (nativeSample 8)].all (fun y =>
          decide (v ≠ lumaCrc w (fld r 10 2) (fld r 12 2) (fld r 14 2) (fld r 16 2) y))
      | none => false)
    let exact : Bool := taint.isEmpty
    let taint := if bad then List.range (tilesOf w h) else taint
    let pic : PicS := {
      num := x.nextPic, poc := fld r 0 4, w := fld r 14 2, h := fld r 16 2, confX := fld r 10 2, confY := fld r 12 2
      codedW := w, codedH := h, matrix := byteAt r 18, transfer := byteAt r 19, primaries := byteAt r 20
      fullRange := decide (byteAt r 21 ≠ 0), taint := taint, cap := au.cap, alive := au.alive, grade := au.grade
      exact := exact, crcBad := bad, words := words }
    let s := s.setSes n { x with queue := rest, disp := display x.disp pic au true, nextPic := x.nextPic + 1 }
    let s := (s.setRin n { g with record := none, tiles := [] }).wn (0x3440 + n) 0x09 (pic.w + 65536 * pic.h)
    let s := if bad then s.bump (procKey 0 .med) 0x5000 0x12 else s
    if taint.isEmpty then s.cleanPicture n else s
  | _, _ => s

/-- RELAY_PICTURE_TIMEOUT (R573). -/
def State.relayTimeout (s : State) (n : Nat) : State :=
  let g := s.rin n
  if g.record.isSome && g.start + 50 * msTicks ≤ s.clock then s.relayDone n else s

def execRelayPictureTimeout (t n : Nat) (s : State) : Host.Outcome State Fault Refusal := .next ((s.tick t).relayTimeout n)

/-- PIXEL_STRIP (R573): tiles of the picture whose record has come; others are discarded. -/
def State.pixelStrip (s : State) (b : List Byte) : State :=
  match s.relayMine (fld b 0 2) with
  | none => s
  | some n =>
    if !s.relayPixel n then s
    else
      let s := s.zttAccept n
      let g := s.rin n
      match g.record with
      | none => s
      | some r =>
        let cols := ceilDiv (fld r 4 2) 16
        let total := tilesOf (fld r 4 2) (fld r 6 2)
        let row := fld b 6 2
        let col := fld b 8 2
        let count := byteAt b 10
        if fld b 2 4 ≠ fld r 0 4 || cols < col + count || total ≤ row * cols + col then s
        else
          let new := (List.range count).map (fun j => (row * cols + col + j, bit (fld b 12 2) j,
            bytesWords 144 ((b.drop (16 + 576 * j)).take 576)))
          let old := g.tiles.filter (fun p => !new.any (fun q => q.1 = p.1))
          let s := s.setRin n { g with tiles := old ++ new }
          if (old ++ new).length = total then s.relayDone n else s

def execPixelStrip (t q : Nat) (x : SpWire) (s : State) : Host.Outcome State Fault Refusal :=
  let f := s.spFrame q x
  .next ((s.tick t).onFrame q f (f.ftype = ftPixel) (fun s => s.pixelStrip f.payload))

/-! ### Streams (R572, R574) -/

/-- The whole blocks of a stream (Table 10.5): what they carry, the entries learnt, what is left, and whether they are
well-formed. -/
def takeBlocks : Nat → List (Nat × Byte) → List Byte → List Byte × List (Nat × Byte) × List Byte × Bool
  | 0, l, b => ([], l, b, true)
  | k + 1, l, b =>
    if b.length < 6 then ([], l, b, true)
    else
      let kind := byteAt b 0
      let input := fld b 2 2 + 1
      let len := fld b 4 2
      if 2 < kind || byteAt b 1 ≠ 0 || 16384 < input || (kind ≠ 0 && len ≠ input) then ([], l, b, false)
      else if b.length < 6 + len then ([], l, b, true)
      else
        let body := (b.drop 6).take len
        if kind = 0 then
          let d := decodeRun [] input (8 * len + 1) l none (byteBits body) []
          if d.err ≠ 0 then ([], l, b, false)
          else
            let r := takeBlocks k d.learnt (b.drop (6 + len))
            (d.out ++ r.1, r.2)
        else
          let r := takeBlocks k (if kind = 2 then [] else l) (b.drop (6 + len))
          (body ++ r.1, r.2)

/-- A record of an access unit whose bytes have all come: it is decoded as the receiver's own (R574). -/
def State.relayUnitIn (s : State) (n : Nat) (r unit : List Byte) : State :=
  let p := s.recordLabel n r
  (p.1.bump (spayKey 0 0) (sIdx n) 0x2C).toDecode n p.2 ((Config.parseUnit unit).filter (fun x => x.layer = 0))

/-- Records, and the access units after them, out of a video relay's bytes. -/
def State.takeRecords (n : Nat) : Nat → State → State
  | 0, s => s
  | k + 1, s =>
    let g := s.rin n
    let r := g.data.take 64
    let len := if byteAt r 9 = 1 then fld r 24 4 else 0
    if g.data.length < 64 + len then s
    else if s.recordOutside n r then s.closeSess n 6
    else
      let s := s.setRin n { g with data := g.data.drop (64 + len) }
      if byteAt r 9 = 1 then State.takeRecords n k (s.relayUnitIn n r ((g.data.drop 64).take len))
      else
        let s := s.relayDone n
        let p := s.recordLabel n r
        let s := p.1.setSes n { p.1.ses n with queue := [p.2] }
        State.takeRecords n k (s.setRin n { s.rin n with record := some r, start := s.clock, tiles := [] })

/-- ZTT messages out of a surface relay's bytes: they wait for an engine as the session's own (R574). -/
def State.takeMessages (n : Nat) : Nat → State → State
  | 0, s => s
  | k + 1, s =>
    let g := s.rin n
    let len := fld g.data 24 4
    if g.data.length < 64 + len then s
    else
      let h := zttHeader g.data
      let m : ZttWait := ⟨n, .ring 64, 0, { h with sess := n, cls := s.rn (0x5810 + n) 0x02 }, (g.data.drop 64).take len, s.clock, false, false⟩
      let s := s.setRin n { g with data := g.data.drop (64 + len) }
      State.takeMessages n k { s with zttQ := s.zttQ ++ [m] }

/-- A break in a stream (R574): what it touched is missing; a surface is tainted under R383 and a resync asked for. -/
def State.relayBreak (s : State) (n next : Nat) : State :=
  let s := s.setRin n { s.rin n with offset := next, raw := [], data := [], lost := true }
  if s.isSurface n then (s.zttGap n).relayFrame n 11 [] else s.bump (spayKey 0 0) (sIdx n) 0x25

/-- Whether a frame's bytes begin where a receiver can go on after a break: at a record, or at a kind 2 block. -/
def State.relayResumes (s : State) (n : Nat) (d : List Byte) : Bool :=
  if s.isSurface n then byteAt d 0 = 2 else byteAt d 0 = 1 && fld d 4 2 = 64

/-- STREAM_RELAY (R574). A context that awaits its reset (R445) is a break too. -/
def State.streamRelay (s : State) (b : List Byte) : State :=
  match s.relayMine (fld b 0 2) with
  | none => s
  | some n =>
    let d := b.drop 6
    let off := fld b 2 4
    let next := (off + d.length) % 2 ^ 32
    let s := s.zttAccept n
    let awaits := (s.ctx n).await && !(s.rin n).lost
    let s := if (s.rin n).offset = off && !awaits then s else s.relayBreak n next
    let g := { s.rin n with offset := next }
    if g.lost && !s.relayResumes n d then s.setRin n g
    else
      let learnt := (s.ctx n).learnt
      let r := takeBlocks (d.length + g.raw.length + 1) learnt (g.raw ++ d)
      let s := (s.setRin n { g with lost := false, raw := r.2.2.1, data := g.data ++ r.1 }).setCtx n { s.ctx n with learnt := r.2.1, await := false }
      let k := (s.rin n).data.length / 64 + 1
      let s := if s.isSurface n then State.takeMessages n k s else State.takeRecords n k s
      if r.2.2.2 then s else s.relayBreak n next

def execStreamRelay (t q : Nat) (x : SpWire) (s : State) : Host.Outcome State Fault Refusal :=
  let f := s.spFrame q x
  .next ((s.tick t).onFrame q f (f.ftype = ftStream) (fun s => s.streamRelay f.payload))

end Sys2Proof.Machine
end

