-- ==== Sys2Proof/Machine/Boot.lean ====
section
/-! DEFINITION. How the package restarts: held in reset and booting (R588, R590, R601, R616, R617), the restart of a field
update (R602), quiet mode and waking (R618, R619). -/

namespace Sys2Proof.Machine

/-! ### Status lines -/

/-- PWRGOOD (R617). -/
def State.pwrGood (s : State) : Bool :=
  let p := s.power
  p.vinGood && !p.fail && !p.resetN && !p.trip && !p.cold && !p.scan && !p.rail && !p.noSlot

/-- The change of PWRGOOD, line 0, that a command brought. -/
def State.lines (old s : State) : State :=
  if old.pwrGood = s.pwrGood then s else s.say (.line 0 s.pwrGood)

/-! ### Reset and boot -/

/-- Everything volatile is at its reset value, and the log begins with the cause (R539). Time, the flash, the OTP, what has
left and what waits stay; so do the supply and thermal conditions. -/
def State.restartAt (s : State) (cause : Nat) : State :=
  { State.reset with
    clock := s.clock, free := s.free, otp := s.otp, flash := s.flash, out := s.out, pending := s.pending
    link := { hbE := s.clock, hbW := s.clock }
    log := { records := [logStarted cause], next := 1 }
    power := { s.power with
      phase := .booting, quietWait := false, overE := false, overW := false, wake := false } }.wn 0x2500 0x0C cause

/-- Held in reset (R616). -/
def State.hold (s : State) : State :=
  let s := s.restartAt 0
  { s with power := { s.power with phase := .held } }

/-- Whether nothing holds the package (R614 to R622, R634). -/
def State.free' (s : State) : Bool :=
  let p := s.power
  p.vinGood && !p.fail && !p.resetN && !p.trip && !p.cold && !p.scan

/-- The version of the active slot's image. -/
def State.activeVersion (s : State) : Nat := s.slotVersion s.flash.boot.active

/-- The ROM's verdict on a slot (R590): cause 6 where its image cannot be read, 5 where the key slot it names holds no key or a revoked
one, 4 where its signature does not verify. The model holds no bytes of the image a package is delivered with: on that one, `given`
is the verdict (log 173). -/
def State.romVerdict (s : State) (k given : Nat) : Nat :=
  let b := s.slotBytes k
  if b.isEmpty then given
  else if given = 6 then 6
  else if !s.keyValid (s.slotKey k) then 5
  else if ecdsaOk ((s.otp.keys[s.slotKey k]?).getD []) (b.take 160) ((b.drop 160).take 96) then 0
  else 4

/-- The active slot boots where the ROM accepts it; otherwise no processor starts, and PWRGOOD falls (R588, R590). -/
def State.bootActive (s : State) (verdict : Nat) : State :=
  let k := s.flash.boot.active
  let s := { s with upd := { s.upd with slot := k } }
  if verdict = 0 then s
  else { s with power := { s.power with noSlot := true, phase := .held } }

/-- A PARTIAL slot is set to EMPTY at boot: result 5 (Table 18.6). -/
def State.dropPartial (s : State) : State :=
  let k := 1 - s.flash.boot.active
  if s.flash.boot.slot k = slotPartial then
    (s.record (fun b => ((b.withSlot k slotEmpty).withLen k 0).outcome 5 0)).raise s.sysKey 0x1006 2 [(8, 5), (8, 0)]
  else s

/-- A trial ends: the new slot is STAGED, the old one and its store are in force (Table 18.4). -/
def State.fellBack (s : State) (cause : Nat) : State :=
  let k := 1 - s.flash.boot.active
  let s := s.record (fun b => { ((b.withSlot k slotStaged).outcome 2 cause) with booted := false, oldHeld := false })
  s.raise s.sysKey 0x1005 2 [(8, cause), (32, s.activeVersion)]

/-- The boot ROM chooses the slot by the latest boot record (R588, R590, R601): `vA` and `vB` are what it finds of the slots. -/
def State.bootSlot (s : State) (vA vB : Nat) : State :=
  let s := { s with flash := s.flash.findRecord }.dropPartial
  let b := s.flash.boot
  let k := 1 - b.active
  let v := fun (j : Nat) => s.romVerdict j (if j = 0 then vA else vB)
  let s :=
    if b.slot k = slotTrial then
      if b.booted then (s.fellBack 3).bootActive (v b.active)
      else if v k = 0 then
        let s := s.record (fun b => { b with booted := true })
        (({ s with upd := { s.upd with slot := k, since := s.clock } }).wn 0x2400 0x02 updActivating).enterUpd updTrial
      else
        let s := s.record (fun b => { (((b.withSlot k slotEmpty).withLen k 0).outcome 2 (v k)) with booted := false, oldHeld := false })
        (s.raise s.sysKey 0x1005 2 [(8, v k), (32, s.activeVersion)]).bootActive (v b.active)
    else s.bootActive (v b.active)
  if s.updState = updTrial then s
  else s.wn 0x2400 0x02 (if s.flash.boot.slot k = slotStaged then updStaged else updIdle)

/-- A boot with a cause, where nothing holds the package; `bad` are the units whose reset self-test fails (Table 2.7). -/
def State.boot (s : State) (cause vA vB : Nat) (bad : List Nat) : State :=
  if s.free' then
    let s := s.restartAt cause
    ({ s with power := { s.power with noSlot := false } }.resetTests bad).bootSlot vA vB
  else s.hold

/-- A reset whose boot waits for the ROM's slot check (ROM_SLOT_CHECK_COMPLETE). -/
def State.bootLater (s : State) (cause : Nat) : State :=
  if s.free' then
    let s := s.restartAt cause
    { s with upd := { s.upd with rom := true } }
  else s.hold

/-! ### The restart of a field update (R602) -/

/-- Layers go to UNVERIFIED with reason 1, as their words are set before the restart. -/
def State.unverifyLayers (s : State) : State :=
  (s.slotsUsed.filter s.layerOn).foldl (fun s n =>
    ((s.firstUse n).setLiveness n 5 1 4)) s |>.refreshSummaries

/-- Every screen shows the service pattern; its timing generator and link keep running. -/
def State.serviceScreens (s : State) : State :=
  { s with screens := s.screens.map (fun (p : Nat × ScreenS) => (p.1, ({ p.2 with
      service := true, plan := none, next := none, composing := none, written := [], dropped := [], done := none
      scanWritten := [], fresh := [], planeCur := 0, planeKey := [], pressing := none, planeDone := false, pressMs := [] } : ScreenS))) }

/-- Sessions and encode contexts stop, and their RTP peers see a BYE; host rings act as under R485; CAN, ZDP and the Spaydun
Link fall silent. -/
def State.stopTraffic (s : State) : State :=
  let s := (s.sessUsed.filter s.admitted).foldl (fun s n => s.closeSess n 8) s
  let s := ((List.range 16).filter s.encOn).foldl (fun s e => s.encStopWith e 1) s
  let s := s.functionReset.setReady false
  let s := (((s.canLost 0).canLost 1).zdpCloseAll)
  [0, 1].foldl (fun s q => if spTraining ≤ s.spState q then s.spLeave q spDown else s) s

/-- The indices whose read-only objects report hardware that goes on while the processors restart: health, power, lanes and ports, decode
cores, pipes, screens and their links, LVS, memory, Spaydun, PCIe. -/
def goesOn (idx : Nat) : Bool :=
  idx = 0x2100 || idx = 0x2500 || (0x2900 ≤ idx && idx < 0x2920) || (0x3400 ≤ idx && idx < 0x3420) || (0x4100 ≤ idx && idx < 0x4200) ||
  (0x4800 ≤ idx && idx < 0x4820) || (0x4900 ≤ idx && idx < 0x5000) || idx = 0x5000 || 0x6000 ≤ idx && idx < 0x6800

/-- What a read-only object that is no counter reads stands where `keep` names its index; every other volatile value is gone (R18). -/
def State.keptOd (s : State) (keep : Nat → Bool) : Tab Val :=
  s.od.filter (fun p => keep (p.1 / 256) && match findObj (p.1 / 256) (p.1 % 256) with
    | some o => o.acc = .ro && !o.sat
    | none => false)

/-- The time base of both dies, which runs on; what steers it begins anew. -/
def TimeS.counters (w : TimeS) : TimeS :=
  { sec := w.sec, ns := w.ns, frac := w.frac, wSec := w.wSec, wNs := w.wNs, wFrac := w.wFrac }

/-- The six processors restart on both dies with DRAM kept trained, its windows set up again; the ROM's check follows. `back`: into the old slot. -/
def State.pause (s : State) (back : Bool) : State :=
  let s := ([0, 1].foldl (fun s p => s.stopTouch p scanOff) ((s.releaseLock 4).unverifyLayers.stopTraffic)).serviceScreens
  let n := s.restartAt 3
  let n := { n with
    time := s.time.counters, od := s.keptOd goesOn, force := s.force, units := s.units, declared := s.declared, link := s.link,
    primary := s.primary, tally := s.tally, ports := s.ports, screens := s.screens, active := s.active, unpatched := s.unpatched,
    places := s.places, rings := s.rings, pcie := s.pcie, lanes := s.lanes, spay := s.spay, mem := s.mem,
    upd := { slot := s.upd.slot, rom := true, back := back, since := s.clock } }
  (((n.memInit.wn 0x2500 0x07 0).wn 0x2500 0x0C 3).wn 0x2400 0x02 s.updState).wn 0x1001 0 0

/-- ROM_SLOT_CHECK_COMPLETE (R590, R601): the ROM has checked the slot it is to boot. -/
def State.romChecked (s : State) (verdict : Nat) (bad : List Nat) : State :=
  if !s.upd.rom || s.power.phase ≠ .booting then s
  else
    let b := s.flash.boot
    let k := if b.slot (1 - b.active) = slotTrial && !b.booted then 1 - b.active else b.active
    let s := { s with upd := { s.upd with rom := false, back := false } }.resetTests bad
    if k = 0 then s.bootSlot verdict 0 else s.bootSlot 0 verdict

def execRomSlotCheckComplete (t : Nat) (slot : RomCheck) (s : State) : Host.Outcome State Fault Refusal :=
  .next (State.lines s ((s.tick t).romChecked slot.verdict slot.bad))

/-! ### Quiet mode (R618, R619) -/

/-- Every event waiting is logged. -/
def State.drainLog (s : State) : State :=
  s.log.queues.foldl (fun s q => (List.range q.2.length).foldl (fun s _ => s.arbitrate q.1) s) s

/-- A touch port in quiet mode (Table 11.4). -/
def State.quietTouch (s : State) (p : Nat) : State :=
  if s.scan p ≠ scanAcquiring && s.scan p ≠ scanScanning then s
  else
    let glove := s.glove p
    let s := s.stopTouch p scanOff
    if bit (s.rn 0x5400 0x02) p then
      let s := s.wn (tIdx p) 0x1C scanWake
      if glove then s.setTch p { s.tch p with first := true, acq := 0 } else s
    else s

/-- Quiet mode is entered: 0 by command, 1 by the pin; the event is the last record of the log. -/
def State.enterQuiet (s : State) (cause : Nat) : State :=
  let s := ((s.canLost 0).canLost 1).zdpCloseAll
  let s := ((s.pcieDown 0).setReady false).servoToFree
  let s := [0, 1].foldl (fun s q => if spTraining ≤ s.spState q then s.spLeave q spDown else s) s
  let s := (List.range 16).foldl (fun s p => s.wn (0x2910 + p) 0x0A 0) s
  let s := (List.range 36).foldl (fun s l => if s.laneLocked l then s.setLock l false else s) s
  let s := (List.range 24).foldl (fun s x => s.setLink x 0 0xFFFF) s
  let s := (s.quietTouch 0).quietTouch 1
  let s := (List.range 24).foldl (fun s x => s.setScreen x { s.screen x with run := false, plan := none, next := none }) s
  let s := { s with pcie := { s.pcie with answers := false } }
  let s := s.drainLog
  let s := s.logEv ⟨0x1205, 1, s.addrOf s.sysKey, (s.clockOf (keyDie s.sysKey)).1, (s.clockOf (keyDie s.sysKey)).2, [(8, cause)], 0⟩
  { s with power := { s.power with phase := .quiet, quietWait := false, wake := false } }

/-- Whether the update state lets quiet mode be entered (R618). -/
def State.mayQuiet (s : State) : Bool := s.updState = updIdle || s.updState = updStaged

/-- A pin held low while the update state was neither enters quiet mode once it is. -/
def State.quietCheck (s : State) : State :=
  if s.power.quietWait && s.mayQuiet && s.power.phase = .running then s.enterQuiet 1 else s

/-- The touch port of a package that wakes (Table 11.4). -/
def State.wakeTouch (s : State) (p : Nat) : State :=
  if s.scan p ≠ scanWake then s
  else if s.fn (tIdx p) 0x02 = 1 then (s.acquireTouch p true).latchZones p 1
  else (s.wn (tIdx p) 0x1C scanScanning).latchZones p 1

/-- The indices of the touch ports and zones. -/
def touchIdx (i : Nat) : Bool := 0x5410 ≤ i && i < 0x5460

/-- The indices whose read-only objects a wake keeps: touch, health and the core pool. -/
def wakeKeeps (i : Nat) : Bool := touchIdx i || i = 0x2100 || (0x3400 ≤ i && i < 0x3420)

/-- The package wakes (R619): the processors restart from the firmware in W0 without training, with cause 4; the time base
has run on, no unit is tested, so each keeps its health (log 174), and an event raised in quiet mode waits for the arbiter (R425). -/
def State.wakeUp (s : State) : State :=
  if s.power.phase ≠ .quiet then s
  else
    let w := (s.wakeTouch 0).wakeTouch 1
    let n := w.restartAt 4
    let n := { n with
      time := w.time.counters, units := w.units, declared := w.declared, primary := w.primary, active := w.active
      unpatched := w.unpatched, places := w.places, link := { n.link with lost := w.link.lost, lostDie := w.link.lostDie }
      log := { n.log with queues := w.log.queues }, touch := w.touch, force := w.force.filter (fun (p : Nat × Val) => touchIdx (p.1 / 256))
      od := (w.keptOd wakeKeeps).foldl (fun (t : Tab Val) (p : Nat × Val) => t.put p.1 p.2) n.od
      mem := { w.mem with training := false, refreshing := false, bursts := [], demands := [], excess := none }
      upd := { slot := w.upd.slot } }
    let n := (n.wn 0x6000 0x03 (w.rn 0x6000 0x03)).wn 0x6000 0x06 (w.rn 0x6000 0x06)
    n.wn 0x2400 0x02 (if n.flash.boot.slot (1 - n.flash.boot.active) = slotStaged then updStaged else updIdle)

end Sys2Proof.Machine
end

