-- ==== Sys2Proof/Machine/Update.lean ====
section
/-! DEFINITION. Field update (R586 to R604): the lock, chunks, verification, activation, trial, confirmation, fall-back and
revocation. -/

namespace Sys2Proof.Machine

/-- The most bytes a slot holds (Table 18.1, R589). -/
def slotSize : Nat := 25165824

/-- An update request of the owner restarts the lock's 120 s (R593). -/
def State.updTouch (s : State) (r : Req) : State :=
  if s.upd.owner = some r then { s with upd := { s.upd with last := s.clock } } else s

/-! ### Commands of 0x2400:01 -/

/-- OPEN (R592). -/
def State.updOpen (s : State) (r : Req) : State × Nat :=
  match s.upd.owner with
  | some o => if o = r then (s, 0) else (s, 8)
  | none =>
    if r = .changeSet then (s, 7)
    else ({ s with upd := { s.upd with owner := some r, last := s.clock } }.raise s.sysKey 0x1001 0 [(16, Req.ownerWord r), (8, 0)], 0)

/-- CLOSE (R593). -/
def State.updClose (s : State) (r : Req) : State × Nat :=
  if s.upd.owner = some r then ((s.releaseLock 1).quietCheck, 0) else (s, 8)

/-- FINISH (R596): the read-back follows once every chunk is programmed. -/
def State.updFinish (s : State) : State × Nat :=
  if s.updState = updDownloading then ({ s with upd := { s.upd with finish := true } }.enterUpd updVerifying, 0) else (s, 7)

/-- ACTIVATE (R601, R602). -/
def State.updActivate (s : State) : State × Nat :=
  if s.updState ≠ updStaged then (s, 7)
  else
    let k := s.inactive
    let w := s.rn 0x2400 0x0B
    let s := s.record (fun b => { (b.withSlot k slotTrial) with booted := false, oldHeld := true, window := w })
    ((s.pause false).enterUpd updActivating, 0)

/-- CONFIRM (R600). -/
def State.updConfirm (s : State) : State × Nat :=
  if s.updState ≠ updTrial || !s.upd.converted then (s, 7)
  else
    let k := s.inactive
    let s := s.record (fun b => { (((b.withSlot k slotActive).withSlot (1 - k) slotEmpty).outcome 1 0) with
      active := k, booted := false, store := 1 - b.store, oldHeld := false })
    let s := { s with upd := { s.upd with trialAt := none, converted := false } }.raise s.sysKey 0x1004 1 [(32, s.slotVersion k)]
    ((s.enterUpd updIdle).quietCheck, 0)

/-- The restart into the old slot and old store: cause 1 by command, 2 by the confirm window. -/
def State.fallBack (s : State) (cause : Nat) : State :=
  let s := { s with upd := { s.upd with trialAt := none } }
  let s := s.pause true
  (s.fellBack cause).enterUpd updStaged

/-- FALL BACK (R601). -/
def State.updFallBack (s : State) : State × Nat := if s.updState = updTrial then (s.fallBack 1, 0) else (s, 7)

/-- ABANDON (R597). -/
def State.updAbandon (s : State) : State × Nat :=
  let st := s.updState
  if st = updDownloading || st = updVerifying || st = updStaged then ((s.dropImage 3 0).quietCheck, 0) else (s, 7)

/-- Command 8, revoke key (R591). -/
def State.updRevoke (s : State) : State × Nat :=
  let k := s.rn 0x2400 0x0E
  let st := s.flash.boot.slot s.inactive
  if !s.keyValid k || s.slotKey s.upd.slot = k || ((st = slotStaged || st = slotTrial) && s.slotKey s.inactive = k) ||
      !(List.range 4).any (fun j => j ≠ k && s.keyValid j) then (s, 7)
  else ({ s with otp := { s.otp with revoked := setBit s.otp.revoked k true } }.raise s.sysKey 0x1007 2 [(8, k)], 0)

/-- A write of 0x2400:01: commands 3 to 8 are the owner's (R592). -/
def updCommand (r : Req) (s : State) (v : Val) : State × Nat :=
  let s := s.updTouch r
  let n := v.int.toNat
  if n = 1 then s.updOpen r
  else if n = 2 then s.updClose r
  else if s.upd.owner ≠ some r then (s, 8)
  else match n with
    | 3 => s.updFinish
    | 4 => s.updActivate
    | 5 => s.updConfirm
    | 6 => s.updFallBack
    | 7 => s.updAbandon
    | _ => s.updRevoke

/-- UPDATE_OPEN (R592). -/
def execUpdateOpen (t : Nat) (r : Req) (s : State) : Host.Outcome State Fault Refusal :=
  .next ((s.tick t).request r 0x2400 0x01 [1] (updCommand r))

/-- UPDATE_CLOSE (R593). -/
def execUpdateClose (t : Nat) (r : Req) (s : State) : Host.Outcome State Fault Refusal :=
  .next ((s.tick t).request r 0x2400 0x01 [2] (updCommand r))

/-- UPDATE_FINISH (R596). -/
def execUpdateFinish (t : Nat) (r : Req) (s : State) : Host.Outcome State Fault Refusal :=
  .next ((s.tick t).request r 0x2400 0x01 [3] (updCommand r))

/-- UPDATE_ACTIVATE (R601). -/
def execUpdateActivate (t : Nat) (r : Req) (s : State) : Host.Outcome State Fault Refusal :=
  .next ((s.tick t).request r 0x2400 0x01 [4] (updCommand r))

/-- UPDATE_CONFIRM (R600). -/
def execUpdateConfirm (t : Nat) (r : Req) (s : State) : Host.Outcome State Fault Refusal :=
  .next ((s.tick t).request r 0x2400 0x01 [5] (updCommand r))

/-- UPDATE_FALL_BACK (R601). -/
def execUpdateFallBack (t : Nat) (r : Req) (s : State) : Host.Outcome State Fault Refusal :=
  .next ((s.tick t).request r 0x2400 0x01 [6] (updCommand r))

/-- UPDATE_ABANDON (R597). -/
def execUpdateAbandon (t : Nat) (r : Req) (s : State) : Host.Outcome State Fault Refusal :=
  .next ((s.tick t).request r 0x2400 0x01 [7] (updCommand r))

/-- UPDATE_REVOKE_KEY (R591). -/
def execUpdateRevokeKey (t : Nat) (r : Req) (s : State) : Host.Outcome State Fault Refusal :=
  .next ((s.tick t).request r 0x2400 0x01 [8] (updCommand r))

/-! ### Chunks (R594, R595) -/

/-- A write of 0x2400:05. -/
def updChunk (r : Req) (s : State) (v : Val) : State × Nat :=
  let b := v.bs
  let off := beNat (b.take 4)
  let d := b.drop 4
  let st := s.updState
  let next := s.rn 0x2400 0x04
  if s.upd.owner ≠ some r then (s, 8)
  else
    let s := s.updTouch r
    if s.upd.prev = some (off, d) then (s, 0)
    else if off ≠ next || slotSize < next + d.length ||
        !(st = updDownloading || ((st = updIdle || st = updStaged) && off = 0)) then (s, 7)
    else if 4 ≤ s.upd.chunks.length then (s, 8)
    else
      let k := s.inactive
      let s := if st = updDownloading then s
        else
          let s := { s with flash := { s.flash with slots := s.flash.slots.put k [] } }
          (s.record (fun b => (b.withSlot k slotPartial).withLen k 0)).enterUpd updDownloading
      ({ s with upd := { s.upd with chunks := s.upd.chunks ++ [d], prev := some (off, d) } }.wn 0x2400 0x04 (next + d.length), 0)

/-- UPDATE_CHUNK (R594). -/
def execUpdateChunk (t : Nat) (r : Req) (data : List Byte) (s : State) : Host.Outcome State Fault Refusal :=
  .next ((s.tick t).request r 0x2400 0x05 data (updChunk r))

/-- CHUNK_PROGRAMMED (R595): the oldest chunk staged is in the slot; nothing is programmed once VIN has failed (R603). -/
def State.chunkDone (s : State) : State :=
  match s.upd.chunks with
  | [] => s
  | d :: rest =>
    if s.power.fail then s
    else
      let k := s.inactive
      { s with
        upd := { s.upd with chunks := rest }
        flash := { s.flash with slots := s.flash.slots.put k (s.slotBytes k ++ d) } }.wn 0x2400 0x06 (s.rn 0x2400 0x06 + d.length)

def execChunkProgrammed (t : Nat) (s : State) : Host.Outcome State Fault Refusal := .next (s.tick t).chunkDone

/-- The first check of R596 that fails on an image, as a cause of Table 18.6; 0 where all pass. -/
def State.imageCause (s : State) (b : List Byte) : Nat :=
  let f := fun (i n : Nat) => beNat ((b.drop i).take n)
  if b.length < 256 || f 0 4 ≠ 0x5A465731 || f 4 1 ≠ 1 || 16 ≤ f 5 1 || 4 ≤ f 6 1 || f 7 1 ≠ 0 || f 14 2 ≠ 0 ||
      f 68 92 ≠ 0 || f 16 4 < 512 || slotSize < f 16 4 then 7
  else if !bit (f 5 1) s.otp.variant then 8
  else if f 16 4 ≠ s.rn 0x2400 0x04 then 9
  else if sha384 (b.drop 256) ≠ (b.drop 20).take 48 then 10
  else 0

/-- What a slot reads back as: its bytes, but for those that read back otherwise, given by their place. -/
def slotRead (b : List Byte) (wrong : List (Nat × Byte)) : List Byte := wrong.foldl (fun b p => b.set p.1 p.2) b

/-- VERIFY_COMPLETE (R596): every chunk is programmed and the slot has been read back; `wrong` the bytes that read back otherwise
than they were written. -/
def State.verified (s : State) (wrong : List (Nat × Byte)) : State :=
  if s.updState ≠ updVerifying || !s.upd.chunks.isEmpty || s.power.fail then s
  else
    let k := s.inactive
    let c := s.imageCause (slotRead (s.slotBytes k) wrong)
    if c ≠ 0 then (s.dropImage 4 c).quietCheck
    else
      let n := s.rn 0x2400 0x04
      let s := s.record (fun b => (b.withSlot k slotStaged).withLen k n)
      let s := s.raise s.sysKey 0x1003 1 [(32, s.slotVersion k), (8, s.slotKey k)]
      (s.noDownload.enterUpd updStaged).quietCheck

def execVerifyComplete (t : Nat) (wrong : List (Nat × Byte)) (s : State) : Host.Outcome State Fault Refusal :=
  .next ((s.tick t).verified wrong)

/-! ### Timeouts and the trial -/

/-- UPDATE_LOCK_TIMEOUT (R593). -/
def State.lockTimeout (s : State) : State :=
  if s.upd.owner.isSome && s.upd.last + 120 * sTicks ≤ s.clock then (s.releaseLock 2).quietCheck else s

def execUpdateLockTimeout (t : Nat) (s : State) : Host.Outcome State Fault Refusal := .next (s.tick t).lockTimeout

/-- CONFIRM_WINDOW_EXPIRY (R601). -/
def State.windowOut (s : State) : State :=
  match s.upd.trialAt with
  | some a => if s.updState = updTrial && a + s.flash.boot.window * sTicks ≤ s.clock then s.fallBack 2 else s
  | none => s

def execConfirmWindowExpiry (t : Nat) (s : State) : Host.Outcome State Fault Refusal := .next (s.tick t).windowOut

/-- CONVERTED_STORE_WRITTEN (R599): the new firmware's image of the settings lies in the scratch store. -/
def State.convertedWritten (s : State) : State :=
  if s.updState ≠ updTrial || s.upd.converted || s.power.fail || !s.loaded then s
  else
    let b := s.flash.boot
    { s with
      flash := { s.flash with stores := s.flash.stores.put (1 - b.store) s.image }
      upd := { s.upd with converted := true } }

def execConvertedStoreWritten (t : Nat) (s : State) : Host.Outcome State Fault Refusal := .next (s.tick t).convertedWritten

/-- ROM_WATCHDOG_EXPIRY (R602): no frame 5 s after the restart: the package resets, and the trial falls back. -/
def State.romWatchdog (s : State) : State :=
  if s.updState = updTrial && s.upd.trialAt.isNone && s.upd.since + 5 * sTicks ≤ s.clock then s.bootLater 3 else s

def execRomWatchdogExpiry (t : Nat) (s : State) : Host.Outcome State Fault Refusal :=
  .next (State.lines s (s.tick t).romWatchdog)

end Sys2Proof.Machine
end

