-- ==== Sys2Proof/Machine/Power.lean ====
section
/-! DEFINITION. Supply, reset, temperature, quiet mode and boundary scan (R614 to R636), and the commands that can restart the
package or leave quiet mode. -/

namespace Sys2Proof.Machine

/-! ### Supply (R614, R615) -/

/-- VIN_GOOD: a package without supply, or whose hold-up has ended, boots with cause 0. During the hold-up it is only noted: the
package enters reset at its end even so (R615). -/
def State.vinIn (s : State) (vA vB : Nat) (bad : List Nat) : State :=
  if s.power.phase ≠ .off then { s with power := { s.power with vinGood := true } }
  else { s with power := { s.power with vinGood := true, fail := false, rail := false } }.boot 0 vA vB bad

def execVinGood (t : Nat) (rom : RomSlots) (bad : List Nat) (s : State) : Host.Outcome State Fault Refusal :=
  .next (State.lines s ((s.tick t).vinIn rom.a rom.b bad))

/-- POWER_FAIL: PWRGOOD falls, flash writes end; the hold-up runs. -/
def State.vinFail (s : State) : State :=
  if s.power.phase = .off then s else { s with power := { s.power with fail := true, vinGood := false } }

def execPowerFail (t : Nat) (s : State) : Host.Outcome State Fault Refusal := .next (State.lines s (s.tick t).vinFail)

/-- HOLD_UP_END: the package enters reset, even if VIN has recovered; the next boot starts at VIN good, which is at once where VIN was
good again. The test access port is without power, and comes back with IDCODE in force. -/
def State.holdUpEnd (s : State) : State :=
  if !s.power.fail || s.power.phase = .off then s
  else
    let back := s.power.vinGood
    let s := s.restartAt 0
    let s := { s with power := { s.power with
      phase := .off, trip := false, noSlot := false, range := false, scan := false, instr := 2 } }
    if back then { s with power := { s.power with fail := false, rail := false } }.bootLater 0 else s

def execHoldUpEnd (t : Nat) (s : State) : Host.Outcome State Fault Refusal := .next (State.lines s (s.tick t).holdUpEnd)

/-- Whether firmware runs that could notice: the package is not off or held. -/
def State.alive (s : State) : Bool := s.power.phase ≠ .off && s.power.phase ≠ .held

/-- SUPPLY_OUT_OF_RANGE (R615). -/
def State.supplyOut (s : State) (mV : Nat) : State :=
  if s.power.range || !s.alive then s
  else
    let s := { s with power := { s.power with range := true } }.wn 0x2500 0x01 (min 0xFFFF mV)
    (s.bump s.sysKey 0x2500 0x09).raise s.sysKey 0x1201 2 [(16, mV)]

def execSupplyOutOfRange (t mV : Nat) (s : State) : Host.Outcome State Fault Refusal := .next ((s.tick t).supplyOut mV)

/-- SUPPLY_RESTORED (R615). -/
def State.supplyBack (s : State) (mV : Nat) : State :=
  if !s.power.range || !s.alive then s
  else
    let s := { s with power := { s.power with range := false } }.wn 0x2500 0x01 (min 0xFFFF mV)
    s.raise s.sysKey 0x1202 0 [(16, mV)]

def execSupplyRestored (t mV : Nat) (s : State) : Host.Outcome State Fault Refusal := .next ((s.tick t).supplyBack mV)

/-! ### RESET_N (R616) -/

/-- RESET_ASSERT: a pulse of 10 µs resets, one below 1 µs does not; between them is free. -/
def State.resetIn (s : State) (lowNs : Nat) : State :=
  if lowNs < 1000 || (lowNs < 10000 && !Config.shortReset lowNs) then s
  else
    let s := { s with power := { s.power with resetN := true } }
    if s.power.fail || s.power.phase = .off then s else s.hold

def execResetAssert (t lowNs : Nat) (s : State) : Host.Outcome State Fault Refusal :=
  .next (State.lines s ((s.tick t).resetIn lowNs))

/-- RESET_RELEASE: the boot has cause 1. -/
def State.resetOut (s : State) (vA vB : Nat) (bad : List Nat) : State :=
  if !s.power.resetN then s
  else
    let s := { s with power := { s.power with resetN := false, noSlot := false } }
    if s.power.phase = .off || s.power.fail then s else s.boot 1 vA vB bad

def execResetRelease (t : Nat) (rom : RomSlots) (bad : List Nat) (s : State) : Host.Outcome State Fault Refusal :=
  .next (State.lines s ((s.tick t).resetOut rom.a rom.b bad))

/-- INTERNAL_RAIL_OR_RESONATOR_FAILURE (R617): PWRGOOD falls. -/
def execInternalRailOrResonatorFailure (t : Nat) (s : State) : Host.Outcome State Fault Refusal :=
  let n := s.tick t
  .next (State.lines s { n with power := { n.power with rail := true } })

/-! ### Quiet mode (R618, R619) -/

/-- A write of 0x2500:0A. -/
def quietWrite (s : State) (_ : Val) : State × Nat := if s.mayQuiet then (s.enterQuiet 0, 0) else (s, 7)

/-- A write request that is answered before it has its effect. -/
def State.requestFirst (s : State) (r : Req) (idx sub : Nat) (data : List Byte) (eff : State → Val → State × Nat) : State :=
  let p := s.write r idx sub data eff
  if p.2 = 0 then ((s.respond r idx sub 0 []).write r idx sub data eff).1 else s.respond r idx sub p.2 []

/-- QUIET_COMMAND (R618): the answer leaves before the paths fall idle. -/
def execQuietCommand (t : Nat) (r : Req) (s : State) : Host.Outcome State Fault Refusal :=
  .next ((s.tick t).requestFirst r 0x2500 0x0A [1] quietWrite)

/-- QUIET_PIN_LOW (R618): the quiet pin has been low for 10 ms. -/
def State.pinLow (s : State) : State :=
  if s.power.phase ≠ .running || s.rn 0x2500 0x0B = 0xFF then s
  else if s.mayQuiet then s.enterQuiet 1
  else { s with power := { s.power with quietWait := true } }

def execQuietPinLow (t : Nat) (s : State) : Host.Outcome State Fault Refusal := .next (s.tick t).pinLow

/-- QUIET_PIN_RISE (R619). -/
def State.pinRise (s : State) : State :=
  if s.rn 0x2500 0x0B = 0xFF then s
  else
    let s := { s with power := { s.power with quietWait := false } }
    s.wakeUp

def execQuietPinRise (t : Nat) (s : State) : Host.Outcome State Fault Refusal := .next (s.tick t).pinRise

/-- TOUCH_FRAME_PROCESSED (R425, R426): a wake stroke wakes the package. -/
def execTouchFrameProcessed (t p : Nat) (counts : List Nat) (mCur mCand : Nat) (s : State) :
    Host.Outcome State Fault Refusal :=
  let s := (s.tick t).touchFrame p counts mCur mCand
  .next (if s.power.wake then s.wakeUp else s)

/-! ### Temperature (R621, R622) -/

/-- The temperature limit in 0.1 °C (Table 19.8). -/
def State.tempLimit (s : State) : Int := if s.otp.variant % 2 = 1 then 1100 else 1000

/-- A die's reading, in 0.1 °C, with the highest since reset. -/
def State.putTemp (s : State) (d : Die) (temp : Int) : State :=
  (s.wi 0x2500 (4 + d.idx) temp).wi 0x2500 0x06 (max temp (s.rd 0x2500 0x06))

/-- TEMPERATURE_OVER_LIMIT (R622): a die has been above the limit for 1 s. -/
def State.tempOver (s : State) (d : Die) (temp : Int) : State :=
  if !s.alive || temp ≤ s.tempLimit || s.dieLost d.idx then s
  else
    let s := s.putTemp d temp
    let s := { s with power := if d = .e then { s.power with overE := true } else { s.power with overW := true } }
    if s.rn 0x2500 0x07 = 1 then s
    else (s.wn 0x2500 0x07 1).raiseCond .tooHot 0x4210 s.sysKey 0x1203 2 [(8, d.idx), (16, wrapInt 2 temp)]

def execTemperatureOverLimit (t : Nat) (d : Die) (temp : Int) (s : State) : Host.Outcome State Fault Refusal :=
  .next ((s.tick t).tempOver d temp)

/-- TEMPERATURE_RESTORED (R622): both dies have read at least 5 °C below the limit for 10 s. -/
def State.tempBack (s : State) (d : Die) (temp : Int) : State :=
  if !s.alive || s.rn 0x2500 0x07 = 0 || s.tempLimit - 50 < temp then s
  else
    let s := s.putTemp d temp
    let s := { s with power := { s.power with overE := false, overW := false } }.wn 0x2500 0x07 0
    (s.raise s.sysKey 0x1204 0 [(8, d.idx), (16, wrapInt 2 temp)]).endCond .tooHot

def execTemperatureRestored (t : Nat) (d : Die) (temp : Int) (s : State) : Host.Outcome State Fault Refusal :=
  .next ((s.tick t).tempBack d temp)

/-- THERMAL_TRIP (R622): counted in the flash (S16), and noted for the events after the boot, the counter saturated one where this trip
reaches the maximum (R13) among them; the package is held in reset. -/
def State.tripped (s : State) (d : Die) : State :=
  if s.power.trip || s.power.phase = .off || s.dieLost d.idx then s
  else
    let n := match s.flash.refs.look (key 0x2500 8) with
      | some v => v.int.toNat
      | none => 0
    let s := if n < 0xFFFF then s.persist 0x2500 0x08 (.num ((n + 1 : Nat) : Int)) else s
    { s with power := { s.power with trip := true, tripNote := true, tripFull := s.power.tripFull || n + 1 = 0xFFFF } }.hold

def execThermalTrip (t : Nat) (d : Die) (s : State) : Host.Outcome State Fault Refusal :=
  .next (State.lines s ((s.tick t).tripped d))

/-- THERMAL_TRIP_RELEASE (R622): both dies read 90 °C or less: a boot with cause 0. -/
def State.tripEnd (s : State) (vA vB : Nat) (bad : List Nat) : State :=
  if !s.power.trip || s.power.phase = .off then s
  else { s with power := { s.power with trip := false } }.boot 0 vA vB bad

def execThermalTripRelease (t : Nat) (rom : RomSlots) (bad : List Nat) (s : State) : Host.Outcome State Fault Refusal :=
  .next (State.lines s ((s.tick t).tripEnd rom.a rom.b bad))

/-- LOWER_JUNCTION_LIMIT_REACHED (R622): below the grade's lower junction limit (no `rom`) the package is held in reset; where both dies
reach it, it boots, and the ROM finds `rom` of the slots. -/
def State.warm (s : State) (rom : Option RomSlots) (bad : List Nat) : State :=
  match rom with
  | none =>
    if s.power.cold then s
    else
      let s := { s with power := { s.power with cold := true } }
      if s.power.phase = .off then s else s.hold
  | some r =>
    if !s.power.cold then s
    else
      let s := { s with power := { s.power with cold := false } }
      if s.power.phase = .off then s else s.boot 0 r.a r.b bad

def execLowerJunctionLimitReached (t : Nat) (rom : Option RomSlots) (bad : List Nat) (s : State) :
    Host.Outcome State Fault Refusal := .next (State.lines s ((s.tick t).warm rom bad))

/-! ### Boundary scan (R633, R634) -/

/-- Instructions that leave the package running: 0 BYPASS, 1 SAMPLE/PRELOAD, 2 IDCODE. The others, from 3: EXTEST,
EXTEST_PULSE, EXTEST_TRAIN, CLAMP and HIGHZ. -/
def scanFree (code : Nat) : Bool := code ≤ 2

/-- BOUNDARY_SCAN_INSTRUCTION (R634): held in reset while the chain drives the pins; leaving boots with cause 1. -/
def State.scanIn (s : State) (code : Nat) : State :=
  if s.power.phase = .off then s
  else
  let s := { s with power := { s.power with instr := code } }
  if scanFree code then
    if s.power.scan then { s with power := { s.power with scan := false } }.bootLater 1 else s
  else if s.power.scan then s
  else { s with power := { s.power with scan := true } }.hold

def execBoundaryScanInstruction (t code : Nat) (s : State) : Host.Outcome State Fault Refusal :=
  .next (State.lines s ((s.tick t).scanIn code))

/-! ### Commands that can restart the package -/

/-- PROCESSOR_WATCHDOG_EXPIRY (R88, R539): with SYS restarting on both dies, or the only one left, the package resets with
cause 2. -/
def State.watchdogAll (s : State) (p : Proc) (d : Nat) : State :=
  let n := s.watchdog p d
  let down := fun (e : Nat) => (n.procs.at' (procKey e .sys) {}).restarting || n.gone (procKey e .sys) || n.dieLost e
  if p = .sys && (s.procs ≠ n.procs || s.units ≠ n.units) && down 0 && down 1 then n.bootLater 2 else n

def execProcessorWatchdogExpiry (t : Nat) (p : Proc) (d : Die) (s : State) : Host.Outcome State Fault Refusal :=
  .next ((s.tick t).watchdogAll p d.idx)

/-- TALLY_CHECK_WORD_UPDATE (R551, R553), every 1 ms; a quiet pin that waited for the update state is looked at again. -/
def execTallyCheckWordUpdate (t : Nat) (s : State) : Host.Outcome State Fault Refusal :=
  .next ((s.tick t).checkWords).quietCheck

/-- PCIE_FUNCTION_RESET (R485); the update lock it may release can end a wait for quiet mode. -/
def execPcieFunctionReset (t kind : Nat) (s : State) : Host.Outcome State Fault Refusal :=
  .next ((s.tick t).pcieReset kind).quietCheck

/-- A trial's confirm window starts at the first composed frame (step 7 of Table 18.5). -/
def State.trialFrame (s : State) (x : Nat) : State :=
  if s.updState = updTrial && s.upd.trialAt.isNone && s.loaded && !(s.screen x).service then
    { s with upd := { s.upd with trialAt := some s.clock } }
  else s

/-- FRAME_START (R302 to R305). -/
def execFrameStart (t x : Nat) (s : State) : Host.Outcome State Fault Refusal :=
  .next (((s.tick t).frameStart x).trialFrame x)

end Sys2Proof.Machine
end

