-- ==== Sys2Proof/Machine/Write.lean ====
section
/-! DEFINITION. What a write of each object does (R15 to R19): the checks that need other state, and the effects. -/

namespace Sys2Proof.Machine

/-! ### Change sets: results and aborts (R578, R579) -/

/-- The result of a change set, with its event; `pkg` the package it concerns, 0xFF none. -/
def State.changeResult (s : State) (id tag result pkg : Nat) : State :=
  (s.wn 0x6800 0x0C result).raise s.sysKey 0x1108 (if 3 ≤ result then 2 else 0) [(16, id), (16, tag), (8, result), (8, pkg)]

/-- A change set is given an id (W16). -/
def State.nextChange (s : State) : Nat × State :=
  (s.sys.nextId, { s with sys := { s.sys with nextId := wrapInc 16 s.sys.nextId } })

/-- The tag of a change set's bytes (Table 17.4). -/
def changeTag (b : List Byte) : Nat := fld b 4 2

/-- A change set written while another is in progress: result 1. -/
def State.changeBusy (s : State) (v : Val) : State × Nat :=
  let p := s.nextChange
  (p.2.changeResult p.1 (changeTag v.bs) 1 0xFF, 0)

/-- A target discards a change it has not executed. -/
def State.dropTarget (s : State) (src id : Nat) : State :=
  match s.sys.target with
  | some g => if g.from' = src && g.id = id && g.done.isNone then { s with sys := { s.sys with target := none } } else s
  | none => s

/-- The IDs of a mask, ascending. -/
def idsOf (mask : Nat) : List Nat := (List.range 16).filter (fun p => bit mask p)

/-- The supervisor ends the change set before its apply time: every target is told, and the result held. -/
def State.abortChange (s : State) (result pkg : Nat) : State :=
  match s.sys.change with
  | none => s
  | some c =>
    let s := (idsOf c.targets).foldl (fun s p =>
      if s.isSelf p then s.dropTarget p c.id else s.control p 6 (beBytes 2 c.id ++ beBytes 1 result)) s
    { s with sys := { s.sys with change := none } }.changeResult c.id c.tag result pkg

/-- Command 1 of 0x6800:10. -/
def State.abortNamed (s : State) : State × Nat :=
  match s.sys.change with
  | some c => if s.supervisor && c.phase ≤ 1 then (s.abortChange 8 0xFF, 0) else (s, 7)
  | none => (s, 7)

/-- SYSTEM_ABORT_CHANGE (R578). -/
def execSystemAbortChange (t : Nat) (r : Req) (s : State) : Host.Outcome State Fault Refusal :=
  .next ((s.tick t).request r 0x6800 0x10 [1] (fun s _ => s.abortNamed))

/-! ### CAN ports (R520) -/

/-- Whether a port and its die serve. -/
def State.canServes (s : State) (c : Nat) : Bool := !s.gone (canKey c) && !s.dieLost c

/-- The port's CANopen layer starts: settings applied, the boot-up message sent, PRE-OPERATIONAL (Table 15.6). -/
def State.canReset (s : State) (c : Nat) : State :=
  let g := s.cans.at' c {}
  let node := s.rn 0x2010 0x01
  let s := { s with
    cans := s.cans.put c { g with
      node := node, nominal := s.rn (0x2011 + c) 0x02, data := s.rn (0x2011 + c) 0x03, seg := none, emcy := [],
      beatAt := some s.clock }
    tpdos := (List.range 8).foldl (fun (m : Tab TpdoS) k => m.put k { s.tpdos.at' k {} with timer := s.clock, syncs := 0 }) s.tpdos }
  let s := [(0x2010, 1), (0x2011 + c, 2), (0x2011 + c, 3)].foldl (fun s q => s.setForce q.1 q.2 (s.val q.1 q.2)) s
  (s.wn (0x2011 + c) 0x04 nmtPreOperational).say (.can c (0x700 + node) [0])

/-- A port starts, as at reset (Table 15.6). -/
def State.canStart (s : State) (c : Nat) : State :=
  let s := (s.wn (0x2011 + c) 0x05 0).canReset c
  if s.rn 0x2010 0x02 = 1 then s.wn (0x2011 + c) 0x04 nmtOperational else s

/-- A write of 0x2011+c:01: the port is lost, or a lost one starts. -/
def canEnable (c : Nat) (s : State) (v : Val) : State × Nat :=
  let s' := s.wv (0x2011 + c) 0x01 v
  if v.int = 0 then (s'.canLost c, 0)
  else if s.canLostNow c && s.canServes c then (s'.canStart c, 0)
  else (s', 0)

/-- CAN_PORT_ENABLE (R520). -/
def execCanPortEnable (t : Nat) (r : Req) (c : Nat) (s : State) : Host.Outcome State Fault Refusal :=
  .next ((s.tick t).request r (0x2011 + c) 0x01 [1] (canEnable c))

/-- CAN_PORT_DISABLE (R520): the response leaves before the port is lost. -/
def execCanPortDisable (t : Nat) (r : Req) (c : Nat) (s : State) : Host.Outcome State Fault Refusal :=
  .next ((s.tick t).request r (0x2011 + c) 0x01 [0] (canEnable c))

/-! ### TPDO mapping (R511, R522) -/

/-- Whether a mapping entry keeps R511: an object it allows, at its size. -/
def tpdoEntryOk (e : Nat) : Bool :=
  mapOk (e / 65536) (e / 256 % 256) &&
  (match findObj (e / 65536) (e / 256 % 256) with
   | some o => o.ty.size.map (8 * ·) = some (e % 256)
   | none => false)

/-- A TPDO's mapping entries, with their defaults. -/
def State.tpdoMap (s : State) (k n : Nat) : List Nat :=
  (List.range n).map (fun j => (s.held (0x1A00 + k) (j + 1)).int.toNat)

/-- A write of 0x1A00+k. -/
def mapWrite (k sub : Nat) (s : State) (v : Val) : State × Nat :=
  if !bit (s.held (0x1800 + k) 1).int.toNat 31 then (s, 7)
  else if sub = 0 then
    let m := s.tpdoMap k v.int.toNat
    if m.all tpdoEntryOk && (m.map (· % 256)).foldl (· + ·) 0 ≤ 512 then (s.wv (0x1A00 + k) 0 v, 0) else (s, 6)
  else (s.wv (0x1A00 + k) sub v, 0)

/-! ### ZDP objects (R524, R527, Table 15.16) -/

/-- A key: 32 zero bytes erase the slot; the sessions opened with it close. -/
def keyWrite (sub : Nat) (s : State) (v : Val) : State × Nat :=
  let b := if v.bs.all (· = 0) then [] else v.bs
  let s := s.wb 0x2020 sub b
  (((s.zdp.filter (fun p => p.2.slot + 4 = sub)).map (·.1)).foldl State.zdpClose s, 0)

/-- The UDP ports of open sessions: an RTP session has a port for RTCP beside its own unless they share it. -/
def State.udpPorts (s : State) : List Nat :=
  (s.sessUsed.filter (fun n => s.admitted n && s.kind n ≤ 2)).flatMap (fun n =>
    let p := s.rn (sIdx n) 0x0A
    if s.kind n ≤ 1 && !bit (s.rn (sIdx n) 0x0B) 0 then [p, p + 1] else [p])

/-- A write of 0x2020. -/
def zdpObject (sub : Nat) (s : State) (v : Val) : State × Nat :=
  let n := v.int.toNat
  if sub = 0x01 then ((if n = 0 then (s.wv 0x2020 sub v).zdpCloseAll else s.wv 0x2020 sub v), 0)
  else if sub = 0x02 then
    if n = 319 || n = 320 then (s, 6)
    else if s.udpPorts.contains n then (s, 7)
    else (s.wv 0x2020 sub v, 0)
  else if 4 ≤ sub && sub ≤ 7 then keyWrite sub s v
  else (s.wv 0x2020 sub v, 0)

/-- ZDP_KEY_WRITE (R527, R528). -/
def execZdpKeyWrite (t : Nat) (r : Req) (slot : Nat) (k : List Byte) (s : State) : Host.Outcome State Fault Refusal :=
  .next ((s.tick t).request r 0x2020 (4 + slot) k (zdpObject (4 + slot)))

/-- ZDP_DISABLE (R527). -/
def execZdpDisable (t : Nat) (r : Req) (s : State) : Host.Outcome State Fault Refusal :=
  .next ((s.tick t).request r 0x2020 0x01 [0] (zdpObject 0x01))

/-! ### Error history -/

/-- A write of 0 to 0x1003:00 clears it. -/
def errClear (s : State) (_ : Val) : State × Nat :=
  ((List.range 9).foldl (fun s i => s.wn 0x1003 i 0) s, 0)

/-- ERROR_HISTORY_CLEAR (Table 15.9). -/
def execErrorHistoryClear (t : Nat) (r : Req) (s : State) : Host.Outcome State Fault Refusal :=
  .next ((s.tick t).request r 0x1003 0 [0] errClear)

/-! ### Other objects with rules of their own -/

/-- A write of 0x2910+p (R119, R478). -/
def portWrite (p sub : Nat) (s : State) (v : Val) : State × Nat :=
  let s' := s.wv (0x2910 + p) sub v
  if sub = 0x01 then ((if v.int = 0 then s'.portDown p else (s'.portUp p).bmca), 0)
  else if sub = 0x09 then (s'.portUp p, 0)
  else if sub = 0x06 then (s'.probe6 p, 0)
  else (s', 0)

/-- A write of 0x2800. -/
def timeWrite (sub : Nat) (s : State) (v : Val) : State × Nat :=
  match sub with
  | 0x03 => servoSource s v
  | 0x0B => ((s.wv 0x2800 sub v).bmca, 0)
  | 0x11 => hostOffset s v
  | _ => (s.wv 0x2800 sub v, 0)

/-- A write of 0x3000+n (R145, R151); the SSRC of an open is free. -/
def sessWrite (n sub : Nat) (s : State) (v : Val) : State × Nat :=
  if sub = 0x01 then
    match v.int with
    | 1 => let p := s.fresh
           sessOpen n p.1 p.2 v
    | 2 => sessClose n s v
    | 3 => sessRelease n s v
    | _ => sessResync n s v
  else sessDecl n sub s v

/-- A write of 0x5810+n:01 to :04, which follow R151 (R393). -/
def zttDecl (n sub : Nat) (s : State) (v : Val) : State × Nat :=
  if s.sst n ≠ sessIdle && s.sst n ≠ sessClosed then (s, 7) else (s.wv (0x5810 + n) sub v, 0)

/-- A write of 0x3100: admission is rerun (R155); the pool's limit is the variant's (Table 3.11). -/
def admissionWrite (sub : Nat) (s : State) (v : Val) : State × Nat :=
  if sub = 0x02 && !s.big && 10240 < v.int then (s, 6) else (if s.held 0x3100 sub = v then s else (s.wv 0x3100 sub v).rerun, 0)

/-- A write of 0x3400. -/
def decodeWrite (sub : Nat) (s : State) (v : Val) : State × Nat :=
  match sub with
  | 0x01 => spareMask s v
  | 0x03 => ((s.wv 0x3400 sub v).refreshCores, 0)
  | _ => (s.wv 0x3400 sub v, 0)

/-- A write of 0x3510+e; the SSRC and first sequence number of a start are free (R358). -/
def encodeWrite (e sub : Nat) (s : State) (v : Val) : State × Nat :=
  if sub = 0x01 then
    if v.int = 1 then
      let a := s.fresh
      let b := a.2.fresh
      encStart e a.1 b.1 b.2 v
    else encStop e s v
  else encWrite e sub s v

/-- A write of 0x2500. -/
def powerWrite (sub : Nat) (s : State) (v : Val) : State × Nat :=
  if sub = 0x0A then quietWrite s v
  else if sub = 0x0B && s.pinOwned v.int.toNat 0 then (s, 7)
  else (s.wv 0x2500 sub v, 0)

/-- A write of 0x6800 (R559, R569, R582). A change set that is an entry of another finds it in progress. -/
def systemWrite (sub : Nat) (s : State) (v : Val) : State × Nat :=
  let n := v.int.toNat
  if sub = 0x02 && Nat.land n (s.rn 0x6800 0x03) ≠ 0 then (s, 6)
  else if sub = 0x03 && Nat.land n (s.rn 0x6800 0x02) ≠ 0 then (s, 6)
  else if sub = 0x0D then (if s.supervisor then s.changeBusy v else (s, 7))
  else if sub = 0x10 then
    match n with
    | 1 => s.abortNamed
    | 2 => s.adoptTree
    | 3 => s.declareNamed
    | _ => s.askRejoin
  else (s.wv 0x6800 sub v, 0)

/-- A write of 0 to a counter of code S (R13); those of selected units and the thermal trips have another home. -/
def counterClear (idx sub : Nat) (s : State) : State :=
  if idx = 0x2100 && sub = 0x08 then
    if (unitOf s.selected).isSome then clearFaults s else s.readClear idx sub
  else if idx = 0x2300 then checkClear sub s
  else if idx = 0x2500 && sub = 0x08 then (s.readClear idx sub).persist idx sub (.num 0)
  else s.readClear idx sub

/-- Objects whose writes are refused in the present state: of a port that does not exist (R158, R481). -/
def State.portRefuses (s : State) (idx : Nat) : Bool :=
  (0x2910 ≤ idx && idx < 0x2920 && !s.portExists (idx - 0x2910)) ||
  (0x6510 ≤ idx && idx < 0x6512 && (s.dieLost (idx - 0x6510) || s.declared.contains (dieAddr (idx - 0x6510))))

/-! ### The dispatch by index -/

/-- Objects 0x1000 to 0x20FF. -/
def writeComm (idx sub : Nat) (s : State) (v : Val) : State × Nat :=
  if idx = 0x1003 then errClear s v
  else if idx = 0x1010 then
    let p := s.fresh
    storeGroup sub (p.1 % 2 = 1) p.2 v
  else if idx = 0x1011 then restoreGroup sub s v
  else if 0x1A00 ≤ idx && idx < 0x1A08 then mapWrite (idx - 0x1A00) sub s v
  else if idx = 0x2001 then importWrite s v
  else if (idx = 0x2011 || idx = 0x2012) && sub = 1 then canEnable (idx - 0x2011) s v
  else if idx = 0x2020 then zdpObject sub s v
  else (s.wv idx sub v, 0)

/-- Objects 0x2100 to 0x2FFF. -/
def writePackage (r : Req) (idx sub : Nat) (s : State) (v : Val) : State × Nat :=
  if idx = 0x2100 then
    if sub = 0x04 then addressSelect s v
    else if sub = 0x0A then
      let p := s.fresh
      healthCommand (p.1 % 2 = 1) p.2 v
    else (s.wv idx sub v, 0)
  else if idx = 0x2200 then recordSelect s v
  else if idx = 0x2300 then if sub = 0x01 then (s.wv idx sub v, 0) else checkWrite sub s v
  else if idx = 0x2400 then
    if sub = 0x01 then updCommand r s v else if sub = 0x05 then updChunk r s v else (s.wv idx sub v, 0)
  else if idx = 0x2500 then powerWrite sub s v
  else if idx = 0x2800 then timeWrite sub s v
  else if 0x2820 ≤ idx && idx < 0x2830 then
    if sub = 0x01 then trigMode (idx - 0x2820) s v else trigConfig (idx - 0x2820) sub s v
  else if 0x2840 ≤ idx && idx < 0x2848 then
    if sub = 0x02 then capPin (idx - 0x2840) s v else (s.wv idx sub v, 0)
  else if idx = 0x2900 then quadMode (sub - 1) s v
  else if 0x2910 ≤ idx && idx < 0x2920 then portWrite (idx - 0x2910) sub s v
  else if idx = 0x2A00 then ((s.wv idx sub v).bmca, 0)
  else (s.wv idx sub v, 0)

/-- Objects 0x3000 to 0x3FFF. -/
def writeMedia (idx sub : Nat) (s : State) (v : Val) : State × Nat :=
  if idx < 0x30A0 then sessWrite (idx - 0x3000) sub s v
  else if idx = 0x3100 then admissionWrite sub s v
  else if idx = 0x3400 then decodeWrite sub s v
  else if 0x3510 ≤ idx && idx < 0x3520 then encodeWrite (idx - 0x3510) sub s v
  else (s.wv idx sub v, 0)

/-- Objects 0x4000 to 0x4FFF. -/
def writePicture (idx sub : Nat) (s : State) (v : Val) : State × Nat :=
  if idx < 0x4100 then slotWrite (idx - 0x4000) sub s v
  else if 0x4210 ≤ idx && idx < 0x4250 then
    if sub = 0x0F then toneApply (idx - 0x4210) s v else toneMap (idx - 0x4210) sub s v
  else if idx = 0x4300 then
    if sub = 0x01 then commitRequest s v
    else if sub = 0x02 then stagingCommand s v
    else if sub = 0x05 then receiptSelect s v
    else (s.wv idx sub v, 0)
  else if 0x4800 ≤ idx && idx < 0x4818 && sub = 0x13 then timingApply (idx - 0x4800) s v
  else (s.wv idx sub v, 0)

/-- Objects 0x5000 to 0x5FFF. -/
def writeLive (idx sub : Nat) (s : State) (v : Val) : State × Nat :=
  if idx = 0x5000 then
    if sub = 0x01 then (((s.wv idx sub v).setU s.time.u), 0)
    else if sub = 0x20 then ledgerSelect s v
    else (s.wv idx sub v, 0)
  else if idx = 0x5100 && sub = 0x02 then fastMap s v
  else if 0x5410 ≤ idx && idx < 0x5412 then
    let p := idx - 0x5410
    if sub = 0x01 then touchEnable p s v else if sub = 0x1B then touchCommand p s v else touchWrite p sub s v
  else if 0x5440 ≤ idx && idx < 0x5460 then zoneWrite ((idx - 0x5440) / 16) ((idx - 0x5440) % 16) sub s v
  else if idx = 0x5800 && sub = 0x01 then (if s.held idx sub = v then s else (s.wv idx sub v).rerun, 0)
  else if 0x5810 ≤ idx && idx < 0x58B0 then zttDecl (idx - 0x5810) sub s v
  else (s.wv idx sub v, 0)

/-- Objects 0x6000 to 0x6FFF. -/
def writeLink (idx sub : Nat) (s : State) (v : Val) : State × Nat :=
  if idx = 0x6000 && sub = 0x02 then setPoint s v
  else if idx = 0x6010 && sub = 0x03 && v.int = 0 then (s, 6)
  else if idx = 0x6400 && sub = 0x06 then boardApply s v
  else if 0x6410 ≤ idx && idx < 0x6434 && 4 ≤ sub && sub ≤ 6 then laneTest (idx - 0x6410) sub s v
  else if 0x6440 ≤ idx && idx < 0x6458 && sub = 0x01 && bit v.int.toNat 15 then (s, 6)
  else if 0x6440 ≤ idx && idx < 0x6458 && sub = 0x0B then dpPrbs (idx - 0x6440) s v
  else if 0x6510 ≤ idx && idx < 0x6512 && sub = 0x01 then spEnable (idx - 0x6510) s v
  else if idx = 0x6800 then systemWrite sub s v
  else (s.wv idx sub v, 0)

/-- What a write does, but for a change set. -/
def writeBase (r : Req) (idx sub : Nat) (s : State) (v : Val) : State × Nat :=
  match findObj idx sub with
  | none => (s, 2)
  | some o =>
    if s.portRefuses idx then (s, 7)
    else if o.sat then (counterClear idx sub s, 0)
    else if idx < 0x2100 then writeComm idx sub s v
    else if idx < 0x3000 then writePackage r idx sub s v
    else if idx < 0x4000 then writeMedia idx sub s v
    else if idx < 0x5000 then writePicture idx sub s v
    else if idx < 0x6000 then writeLive idx sub s v
    else writeLink idx sub s v

/-- What a refused write leaves beside its status: the code of a timing apply, the record of an import. -/
def State.refusedNote (s : State) (idx sub st : Nat) (v : Val) : State :=
  if 0x4800 ≤ idx && idx < 0x4818 && sub = 0x13 && st = 7 then s.applyResult (idx - 0x4800) v
  else if idx = 0x2001 && sub = 0x02 && st = 6 then s.importResult v
  else s

end Sys2Proof.Machine
end

