-- ==== Sys2Proof/Machine/Change.lean ====
section
/-! DEFINITION. Change sets (R576 to R580, R582): staged, armed and applied on every target, and their reports. -/

namespace Sys2Proof.Machine

/-! ### The change set (Table 17.4) -/

/-- An entry: its targets, the object and the value's bytes. -/
structure ChEntry where
  targets : Nat
  idx : Nat
  sub : Nat
  data : List Byte
  deriving DecidableEq, Repr

/-- Entries in bytes; none where they are malformed or not `n` in number. -/
def parseEntries : Nat → List Byte → Option (List ChEntry)
  | 0, b => if b.isEmpty then some [] else none
  | n + 1, b =>
    let len := fld b 8 4
    if b.length < 12 + len || fld b 5 3 ≠ 0 then none
    else (parseEntries n (b.drop (12 + len))).map (⟨fld b 0 2, fld b 2 2, byteAt b 4, (b.drop 12).take len⟩ :: ·)

/-- The entries of a change set; none where it is malformed. -/
def parseChange (b : List Byte) : Option (List ChEntry) :=
  let n := fld b 6 2
  if b.length < 16 || fld b 0 2 ≠ 0x5A43 || byteAt b 2 ≠ 1 || byteAt b 3 ≠ 0 || n = 0 || 4096 < n || fld b 8 8 ≠ 0 then none
  else parseEntries n (b.drop 16)

/-- Whether an entry is executed by a package: one to 0x6800 by every one (R580). -/
def ChEntry.isFor (e : ChEntry) (p : Nat) : Bool := e.idx = 0x6800 || bit e.targets p

/-- The targets of a change set: those its entries name, every joined package for one to 0x6800, and every spare present
where an entry is for a member (R580). -/
def State.changeTargets (s : State) (es : List ChEntry) : Nat :=
  (List.range 16).foldl (fun m p =>
    if es.any (fun e => bit e.targets p) ||
      (es.any (fun e => e.idx = 0x6800) && s.isPresent p && s.joinedOf p) ||
      ((s.ent p).role = 2 && s.isPresent p &&
        es.any (fun e => e.idx ≠ 0x6800 && (List.range 16).any (fun k => bit e.targets k && (s.ent k).role = 1)))
    then m + 2 ^ p else m) 0

/-! ### What entries do on a target -/

/-- An entry applied to the role images of the members it names (R580). -/
def State.imageEntry (s : State) (e : ChEntry) : State :=
  match findObj e.idx e.sub with
  | none => s
  | some o =>
    if !o.cfg || e.idx = 0x6800 then s
    else match decodeVal o.ty e.data with
      | none => s
      | some v => { s with sys := { s.sys with images := s.sys.images.map (fun (p : Nat × Tab Val) =>
          (p.1, if bit e.targets p.1 then p.2.put (key e.idx e.sub) v else p.2)) } }

/-- An entry executed as a dictionary write (R576): the state and its status. -/
def State.runEntry (s : State) (e : ChEntry) : State × Nat := s.write .changeSet e.idx e.sub e.data (writeBase .changeSet e.idx e.sub)

/-- The entries for a package in order, up to the first refused: the state, and that entry's number and status. -/
def State.tryEntries (s : State) (p : Nat) : List ChEntry → Nat → State × Option (Nat × Nat)
  | [], _ => (s, none)
  | e :: es, i =>
    let s := s.imageEntry e
    if e.isFor p then
      let r := s.runEntry e
      if r.2 ≠ 0 then (r.1, some (i, r.2)) else r.1.tryEntries p es (i + 1)
    else s.tryEntries p es (i + 1)

/-- The commits pending in a state and not in an earlier one, and the screens whose timing apply runs in it and did not. -/
def State.newCommits (s old : State) : List CommitS := s.commits.filter (fun c => !old.commits.any (fun d => d.id = c.id))
def State.newApplies (s old : State) : List Nat := (List.range 24).filter (fun x => (s.screen x).applying && !(old.screen x).applying)

/-- Every commit landed and every timing applied, in what the tree reads. -/
def State.asLanded (s old : State) : State :=
  let s := (s.newCommits old).foldl (fun s c => c.vals.foldl (fun s v => { s with force := s.force.put v.1 v.2 }) s) s
  (s.newApplies old).foldl (fun s x =>
    timingSubs.foldl (fun s sub => s.setForce (scrIdx x) sub (s.val (scrIdx x) sub)) s) s

/-! ### Reports (Table 17.6) -/

/-- The part of a report per role image: ID, 7 bytes of 0, root. -/
def rolePart (l : List (Nat × Nat)) : List Byte := l.flatMap (fun p => beBytes 1 p.1 ++ List.replicate 7 0 ++ beBytes 8 p.2)

/-- The role images' roots, of a spare. -/
def State.roleRoots (s : State) : List (Nat × Nat) :=
  if s.rn 0x6800 0x09 = 2 then s.sys.images.map (fun (p : Nat × Tab Val) => (p.1, s.imageRoot p.1)) else []

/-- The role roots of a report. -/
def parseRoles : Nat → List Byte → List (Nat × Nat)
  | 0, _ => []
  | n + 1, b => if b.length < 16 then [] else (byteAt b 0, fld b 8 8) :: parseRoles n (b.drop 16)

/-- A time of a frame (R164): TIME96 to nanoseconds. -/
def frameTime (b : List Byte) : Nat := fld b 0 8 * 1000000000 + fld b 8 4

/-- The supervisor takes a target's staged report, and arms the targets when all have reported success. -/
def State.takeStaged (s : State) (src id result status entry root : Nat) (roles : List (Nat × Nat)) : State :=
  match s.sys.change with
  | none => s
  | some c =>
    if c.id ≠ id || c.phase ≠ 0 || !bit c.targets src then s
    else if result ≠ 0 then
      { s with sys := { s.sys with failed := src + 256 * (entry % 65536) + 2 ^ 24 * status } }.abortChange 5 src
    else
      let c := { c with staged := c.staged.put src (root, roles) }
      if !(idsOf c.targets).all (fun p => (c.staged.look p).isSome) then { s with sys := { s.sys with change := some c } }
      else
        let due := s.nowNs + s.rn 0x6800 0x07 * 1000000
        let self : Bool := bit c.targets s.pkgId
        let s := { s with sys := { s.sys with
          change := some { c with phase := 1, start := s.clock, time := due, armed := if self then 2 ^ s.pkgId else 0 }
          target := if self then s.sys.target.map (fun g => { g with time := some due }) else s.sys.target } }
        ((idsOf c.targets).filter (fun p => !s.isSelf p)).foldl (fun s p =>
          s.control p 4 (beBytes 2 c.id ++ beBytes 8 (due / 1000000000) ++ beBytes 4 (due % 1000000000))) s

/-- The supervisor takes a target's applied report; the last gives the result. -/
def State.takeApplied (s : State) (src id root : Nat) (roles : List (Nat × Nat)) : State :=
  match s.sys.change with
  | none => s
  | some c =>
    if c.id ≠ id || c.phase = 0 || !bit c.targets src || bit c.applied src then s
    else
      let want := c.staged.at' src (0, [])
      let c := { c with applied := setBit c.applied src true, differs := c.differs || want ≠ (root, roles) }
      let s := s.setEnt src { s.ent src with root := want.1 }
      if (idsOf c.targets).all (bit c.applied) then
        { s with sys := { s.sys with change := none } }.changeResult c.id c.tag (if c.differs then 10 else 0) 0xFF
      else { s with sys := { s.sys with change := some c } }

/-! ### Stage -/

/-- A target has the whole change set: it checks its entries without applying them, keeps the tree it would have, and
reports (R577). -/
def State.stageWhole (s : State) (g : TargetS) : State :=
  let me := s.pkgId
  let r : State × Option (Nat × Nat) := match parseChange g.data with
    | some es => s.tryEntries me es 0
    | none => (s, some (0, 13))
  let after := r.1.asLanded s
  let tree := after.tree
  let roles := after.roleRoots
  let g := { g with staged := r.2.isNone, tree := tree }
  let s := { s with sys := { s.sys with target := if r.2.isNone then some g else none } }
  let result := if r.2.isNone then 0 else 5
  let status := (r.2.map (·.2)).getD 0
  let entry := (r.2.map (·.1)).getD 0
  if s.isSelf g.from' then s.takeStaged me g.id result status entry (rootOf tree) roles
  else s.control g.from' 3 (beBytes 2 g.id ++ beBytes 1 result ++ beBytes 1 status ++ beBytes 2 entry ++
    beBytes 8 (rootOf tree) ++ rolePart roles)

/-- A part of a change set at a target: in order, from the supervisor; an armed change is not displaced. -/
def State.stageTake (s : State) (src : Nat) (b : List Byte) : State :=
  let id := fld b 2 2
  let off := fld b 8 4
  let armed : Bool := match s.sys.target with
    | some g => g.time.isSome
    | none => false
  if src ≠ s.rn 0x6800 0x0B || armed then s
  else
    let g : TargetS := match s.sys.target with
      | some g => if off = 0 || g.id ≠ id || g.from' ≠ src then ⟨src, id, [], false, none, none, false, [], [], []⟩ else g
      | none => ⟨src, id, [], false, none, none, false, [], [], []⟩
    if off ≠ g.data.length then s
    else
      let g := { g with data := g.data ++ b.drop 12 }
      if bit (byteAt b 4) 0 then s.stageWhole g else { s with sys := { s.sys with target := some g } }

def execStage (t q : Nat) (x : SpWire) (s : State) : Host.Outcome State Fault Refusal :=
  let f := s.spFrame q x
  .next ((s.tick t).onFrame q f (spIsOp f 2) (fun s => s.stageTake f.src f.payload))

/-- A change set leaves to a target in parts of one frame each. -/
def State.stageOut (s : State) (p id : Nat) (data : List Byte) : State :=
  let ps := pieces 8180 (data.length / 8180 + 1) data
  ps.zipIdx.foldl (fun s q =>
    s.control p 2 (beBytes 2 id ++ beBytes 1 (b2n (decide (q.2 + 1 = ps.length))) ++ [0, 0, 0] ++ beBytes 4 (8180 * q.2) ++ q.1)) s

/-- The supervisor begins a change set: its own part is staged at once. -/
def State.beginChange (s : State) (data : List Byte) (es : List ChEntry) : State :=
  let p := s.nextChange
  let id := p.1
  let targets := s.changeTargets es
  let s := { p.2 with sys := { p.2.sys with
    change := some ⟨id, changeTag data, data, targets, 0, s.clock, 0, [], 0, 0, false⟩ } }
  let s := ((idsOf targets).filter (fun k => !s.isSelf k)).foldl (fun s k => s.stageOut k id data) s
  if bit targets s.pkgId then s.stageWhole ⟨s.pkgId, id, data, false, none, none, false, [], [], []⟩ else s

/-- A write of 0x6800:0D (R576, R578): only the supervisor takes it; what is wrong with it at once is its result. -/
def changeSet (s : State) (v : Val) : State × Nat :=
  let b := v.bs
  let fail := fun (result pkg : Nat) =>
    let p := s.nextChange
    (p.2.changeResult p.1 (changeTag b) result pkg, 0)
  if !s.supervisor then (s, 7)
  else if s.sys.change.isSome then s.changeBusy v
  else match parseChange b with
    | none => fail 3 0xFF
    | some es =>
      match (idsOf (s.changeTargets es)).find? (fun p => !s.isPresent p) with
      | some p => fail 4 p
      | none => if !s.sys.quorum then fail 9 0xFF else (s.beginChange b es, 0)

/-- What a change set refused by a package that is not the supervisor leaves: result 2. -/
def State.notSupervisor (s : State) (st : Nat) (v : Val) : State :=
  if st = 7 && !s.supervisor then
    let p := s.nextChange
    p.2.changeResult p.1 (changeTag v.bs) 2 0xFF
  else s

/-- CHANGE_SET_WRITE (R576). -/
def execChangeSetWrite (t : Nat) (r : Req) (data : List Byte) (s : State) : Host.Outcome State Fault Refusal :=
  let s := s.tick t
  let p := s.write r 0x6800 0x0D data changeSet
  .next ((p.1.notSupervisor p.2 (.bytes data)).respond r 0x6800 0x0D p.2 [])

/-- STAGED. -/
def execStaged (t q : Nat) (x : SpWire) (s : State) : Host.Outcome State Fault Refusal :=
  let f := s.spFrame q x
  let b := f.payload
  .next ((s.tick t).onFrame q f (spIsOp f 3) (fun s =>
    s.takeStaged f.src (fld b 2 2) (byteAt b 4) (byteAt b 5) (fld b 6 2) (fld b 8 8) (parseRoles 16 (b.drop 16))))

/-- The lowest target not in a set of reports. -/
def ChangeS.missing (c : ChangeS) (got : Nat → Bool) : Nat := ((idsOf c.targets).find? (fun p => !got p)).getD 0xFF

/-- CHANGE_SET_STAGE_TIMEOUT (Table 17.5 step 2). -/
def State.stageTimeout (s : State) : State :=
  match s.sys.change with
  | some c =>
    if c.phase = 0 && c.start + 500 * msTicks ≤ s.clock then s.abortChange 6 (c.missing (fun p => (c.staged.look p).isSome)) else s
  | none => s

def execChangeSetStageTimeout (t : Nat) (s : State) : Host.Outcome State Fault Refusal := .next (s.tick t).stageTimeout

/-! ### Arm -/

/-- ARM: the target keeps the apply time and confirms. -/
def State.armTake (s : State) (src : Nat) (b : List Byte) : State :=
  match s.sys.target with
  | some g =>
    if g.from' = src && g.id = fld b 2 2 && g.staged && g.time.isNone then
      { s with sys := { s.sys with target := some { g with time := some (frameTime (b.drop 4)) } } }.control src 5 (beBytes 2 g.id)
    else s
  | none => s

def execArm (t q : Nat) (x : SpWire) (s : State) : Host.Outcome State Fault Refusal :=
  let f := s.spFrame q x
  .next ((s.tick t).onFrame q f (spIsOp f 4) (fun s => s.armTake f.src f.payload))

/-- ARMED: the supervisor notes a confirmation. -/
def State.armedTake (s : State) (src : Nat) (b : List Byte) : State :=
  match s.sys.change with
  | some c =>
    if c.id = fld b 2 2 && c.phase = 1 && bit c.targets src then
      { s with sys := { s.sys with change := some { c with armed := setBit c.armed src true } } }
    else s
  | none => s

def execArmed (t q : Nat) (x : SpWire) (s : State) : Host.Outcome State Fault Refusal :=
  let f := s.spFrame q x
  .next ((s.tick t).onFrame q f (spIsOp f 5) (fun s => s.armedTake f.src f.payload))

/-- Whether every target has confirmed. -/
def ChangeS.allArmed (c : ChangeS) : Bool := (idsOf c.targets).all (bit c.armed)

/-- CHANGE_SET_ARM_TIMEOUT (Table 17.5 step 4). -/
def State.armTimeout (s : State) : State :=
  match s.sys.change with
  | some c =>
    if c.phase = 1 && !c.allArmed && c.time ≤ s.nowNs + 20000000 then s.abortChange 7 (c.missing (bit c.armed)) else s
  | none => s

def execChangeSetArmTimeout (t : Nat) (s : State) : Host.Outcome State Fault Refusal := .next (s.tick t).armTimeout

/-- ABORT (R579). -/
def execAbort (t q : Nat) (x : SpWire) (s : State) : Host.Outcome State Fault Refusal :=
  let f := s.spFrame q x
  .next ((s.tick t).onFrame q f (spIsOp f 6) (fun s => s.dropTarget f.src (fld f.payload 2 2)))

/-! ### Apply -/

/-- A target executes its entries in order; one refused now changes nothing. -/
def State.applyEntries (s : State) (g : TargetS) (due : Nat) : State :=
  let old := s
  let me := s.pkgId
  let s := ((parseChange g.data).getD []).foldl (fun (s : State) e =>
    let s := s.imageEntry e
    if e.isFor me then (s.runEntry e).1 else s) s
  match s.sys.target with
  | some _ => { s with sys := { s.sys with
      suspended := true
      target := some { g with
        done := some s.clock, late := decide (due + 1000000 ≤ s.nowNs)
        commits := (s.newCommits old).map (·.id), screens := s.newApplies old } } }
  | none => s

/-- CHANGE_SET_APPLY (R577, R579): at the apply time, or at the first chance after it where SYS was restarting. -/
def State.changeApply (s : State) : State :=
  if !s.dictReady then s
  else
    let s := match s.sys.change with
      | some c =>
        if c.phase = 1 && c.time ≤ s.nowNs then
          if c.allArmed then { s with sys := { s.sys with change := some { c with phase := 2 } } }
          else s.abortChange 7 (c.missing (bit c.armed))
        else s
      | none => s
    match s.sys.target with
    | some g => match g.time, g.done with
      | some due, none => if due ≤ s.nowNs then s.applyEntries g due else s
      | _, _ => s
    | none => s

def execChangeSetApply (t : Nat) (s : State) : Host.Outcome State Fault Refusal := .next (s.tick t).changeApply

/-- Whether what a change set began is over: each commit landed, each timing apply at its third step, or 2 s past the apply
time. -/
def State.changeOver (s : State) (g : TargetS) : Bool :=
  (g.commits.all (fun i => !s.commits.any (fun c => c.id = i)) && g.screens.all (fun x => !(s.screen x).applying)) ||
  g.time.getD 0 + 2000000000 ≤ s.nowNs

/-- CHANGE_SET_SETTLED (R577, R580, R582): the staged tree is the recorded one, role images go to flash, and the actual root
is reported. -/
def State.changeSettled (s : State) : State :=
  match s.sys.target with
  | some g =>
    if g.done.isNone || !s.changeOver g then s
    else
      let s := { s with sys := { s.sys with target := none, suspended := false, tree := g.tree } }
      let s := if s.power.fail then s
        else { s with flash := { s.flash with tree := g.tree, images := s.sys.images } }
      let root := s.actualRoot
      if s.isSelf g.from' then s.takeApplied g.from' g.id root s.roleRoots
      else s.control g.from' 7 (beBytes 2 g.id ++ beBytes 1 (b2n g.late) ++ [0, 0, 0] ++ beBytes 8 root ++ rolePart s.roleRoots)
  | none => s

def execChangeSetSettled (t : Nat) (s : State) : Host.Outcome State Fault Refusal := .next (s.tick t).changeSettled

/-- APPLIED (R578, R582): a report of the change set, or of an adopt, whose root is the record from now on. -/
def State.appliedTake (s : State) (src : Nat) (b : List Byte) : State :=
  if bit (byteAt b 4) 1 then
    if s.supervisor then s.setEnt src { s.ent src with root := fld b 8 8 } else s
  else s.takeApplied src (fld b 2 2) (fld b 8 8) (parseRoles 16 (b.drop 16))

def execApplied (t q : Nat) (x : SpWire) (s : State) : Host.Outcome State Fault Refusal :=
  let f := s.spFrame q x
  .next ((s.tick t).onFrame q f (spIsOp f 7) (fun s => s.appliedTake f.src f.payload))

/-! ### Every write -/

/-- What a write of an object does. -/
def writeEffect (r : Req) (idx sub : Nat) (s : State) (v : Val) : State × Nat :=
  if idx = 0x6800 && sub = 0x0D then changeSet s v else writeBase r idx sub s v

/-- A whole write by a requester: the state after it and its status. -/
def State.writeBy (s : State) (r : Req) (idx sub : Nat) (data : List Byte) : State × Nat :=
  let p := s.write r idx sub data (writeEffect r idx sub)
  if idx = 0x6800 && sub = 0x0D then (p.1.notSupervisor p.2 (.bytes data), p.2)
  else match findObj idx sub with
    | some o => match decodeVal o.ty data with
      | some v => (p.1.refusedNote idx sub p.2 v, p.2)
      | none => p
    | none => p

end Sys2Proof.Machine
end

