-- ==== Sys2Proof/Machine/Dict.lean ====
section
/-! DEFINITION. The object dictionary's requests (R513 to R518, R529): whole writes, part transfers, mailbox bodies, fast-read
refreshes, and the load of the dictionary at boot (R532). -/

namespace Sys2Proof.Machine

/-! ### Whole writes -/

/-- Writes whose response leaves before their effect can end the path it leaves on (R520, R528, R602, R618). -/
def answeredFirst (idx sub : Nat) : Bool :=
  (idx = 0x2500 && sub = 0x0A) || (idx = 0x2400 && sub = 0x01) || ((idx = 0x2011 || idx = 0x2012) && sub = 0x01) ||
  (idx = 0x2020 && (sub = 0x01 || (4 ≤ sub && sub ≤ 7)))

/-- A whole write with the sending of its answer, which is given the status. -/
def State.writeAnd (s : State) (r : Req) (idx sub : Nat) (data : List Byte) (answer : State → Nat → State) : State :=
  let p := s.writeBy r idx sub data
  if answeredFirst idx sub then ((answer s p.2).writeBy r idx sub data).1 else answer p.1 p.2

/-- DICTIONARY_WRITE (R16, R17). -/
def execDictionaryWrite (t : Nat) (r : Req) (idx sub : Nat) (data : List Byte) (s : State) : Host.Outcome State Fault Refusal :=
  .next ((s.tick t).writeAnd r idx sub data (fun s st => s.respond r idx sub st []))

/-- A value of 0 of an object's size. -/
def zeroOf (idx sub : Nat) : List Byte :=
  match findObj idx sub with
  | some o => List.replicate (o.ty.size.getD 0) 0
  | none => []

/-- COUNTER_READ_CLEAR (R13): a write of 0. -/
def execCounterReadClear (t : Nat) (r : Req) (idx sub : Nat) (s : State) : Host.Outcome State Fault Refusal :=
  .next ((s.tick t).writeAnd r idx sub (zeroOf idx sub) (fun s st => s.respond r idx sub st []))

/-! ### Part transfers (R517) -/

/-- Whether an object is moved in parts: a string or DOMAIN. -/
def partType : Ty → Bool
  | .str | .oct _ | .domain => true
  | _ => false

/-- Whether a transfer whose last part came at a tick is still good: 10 s. -/
def State.partAlive (s : State) (p : PartS) : Bool := s.clock < p.last + 10 * sTicks

/-- A READ PART: the state, the status, the whole value's length and the part, of at most `cap` bytes. -/
def State.partRead (s : State) (r : Req) (idx sub off cap : Nat) : State × Nat × Nat × List Byte :=
  let c := Req.code r
  match s.checkRead r idx sub with
  | .error e => (s, e, 0, [])
  | .ok o =>
    if !partType o.ty then (s, 11, 0, [])
    else
      let s := if off = 0 then { s with partReads := s.partReads.cut c } else s
      let got : State × Nat × List Byte :=
        if off = 0 then s.readBy r idx sub
        else match s.partReads.look c with
          | some p => if p.idx = idx && p.sub = sub && s.partAlive p then (s, 0, p.data) else (s, 12, [])
          | none => (s, 12, [])
      let b := got.2.2
      if got.2.1 ≠ 0 then (s, got.2.1, 0, [])
      else
        let s := got.1
        let s := if b.length ≤ off + cap && off ≤ b.length - 1 then { s with partReads := s.partReads.cut c }
          else { s with partReads := s.partReads.put c ⟨idx, sub, b, s.clock⟩ }
        (s, 0, b.length, (b.drop off).take cap)

/-- READ_PART. -/
def execReadPart (t : Nat) (r : Req) (idx sub offset len : Nat) (s : State) : Host.Outcome State Fault Refusal :=
  let p := (s.tick t).partRead r idx sub offset len
  .next (p.1.say (.part r idx sub p.2.1 offset p.2.2.1 p.2.2.2))

/-- The checks of Table 15.4 on a WRITE PART, before its bytes are looked at. -/
def State.partCheck (s : State) (r : Req) (idx sub : Nat) : Nat :=
  if !idxExists idx then 1
  else match findObj idx sub with
    | none => 2
    | some o =>
      if !s.dictReady || s.partWrites.any (fun p =>
          p.1 % 2 ^ 24 = key idx sub && p.1 / 2 ^ 24 ≠ Req.code r && s.partAlive p.2) then 8
      else if s.readOnlyReq r || !partType o.ty then 11
      else if o.acc = .ro || o.acc = .konst || s.writesOff r then 3
      else 0

/-- A WRITE PART: the state and its status; the last part writes the whole value. -/
def State.partWrite (s : State) (r : Req) (idx sub off : Nat) (last : Bool) (data : List Byte) : State × Nat :=
  let k := partKey r idx sub
  let c := s.partCheck r idx sub
  if c ≠ 0 then (s, c)
  else
    let got : Option (List Byte) :=
      if off = 0 then some []
      else match s.partWrites.look k with
        | some p => if s.partAlive p && p.data.length = off then some p.data else none
        | none => none
    match got with
    | none => ({ s with partWrites := s.partWrites.cut k }, 12)
    | some b =>
      if last then { s with partWrites := s.partWrites.cut k }.writeBy r idx sub (b ++ data)
      else ({ s with partWrites := s.partWrites.put k ⟨idx, sub, b ++ data, s.clock⟩ }, 0)

/-- WRITE_PART. -/
def execWritePart (t : Nat) (r : Req) (idx sub offset : Nat) (last : Bool) (data : List Byte) (s : State) :
    Host.Outcome State Fault Refusal :=
  let p := (s.tick t).partWrite r idx sub offset last data
  .next (p.1.say (.part r idx sub p.2 offset 0 []))

/-- PART_TRANSFER_TIMEOUT: 10 s without a part. -/
def State.partTimeout (s : State) (r : Req) : State :=
  let c := Req.code r
  { s with
    partReads := s.partReads.filter (fun p => p.1 ≠ c || s.partAlive p.2)
    partWrites := s.partWrites.filter (fun p => p.1 / 2 ^ 24 ≠ c || s.partAlive p.2) }

def execPartTransferTimeout (t : Nat) (r : Req) (s : State) : Host.Outcome State Fault Refusal :=
  .next ((s.tick t).partTimeout r)

/-! ### Request and response bodies (Tables 15.14 and 15.15) -/

/-- CANopen abort codes by status (Table 15.4). -/
def abortCode (st : Nat) : Nat :=
  match st with
  | 1 => 0x06020000
  | 2 => 0x06090011
  | 3 => 0x06010002
  | 4 => 0x06010001
  | 5 => 0x06070010
  | 6 => 0x06090030
  | 7 => 0x08000022
  | 8 => 0x08000021
  | 9 => 0x08000024
  | 10 => 0x06060000
  | 11 => 0x06010000
  | 12 => 0x08000000
  | _ => 0

/-- Whether a request body is malformed. -/
def bodyBad (b : List Byte) : Bool :=
  let op := byteAt b 0
  let len := fld b 12 4
  b.length < 16 || op = 0 || 4 < op || byteAt b 1 ≠ 0 || 1 < byteAt b 5 || (byteAt b 5 = 1 && op ≠ 4) || fld b 6 2 ≠ 0 ||
  (op ≤ 2 && fld b 8 4 ≠ 0) || (op = 1 && len ≠ 0) ||
  (if op = 2 || op = 4 then b.length ≠ 16 + len else b.length ≠ 16)

/-- A response body: the request's opcode, object and offset echoed. -/
def bodyOut (b : List Byte) (st total : Nat) (v : List Byte) : List Byte :=
  beBytes 1 (byteAt b 0) ++ beBytes 1 st ++ beBytes 3 (fld b 2 3) ++ [0, 0, 0] ++ beBytes 4 (fld b 8 4) ++
  beBytes 4 v.length ++ beBytes 4 total ++ beBytes 4 (abortCode st) ++ v

/-- A request body of a requester whose responses hold at most `room` value bytes, with the sending of its answer. -/
def State.runBody (s : State) (r : Req) (room : Nat) (b : List Byte) (answer : State → List Byte → State) : State :=
  let idx := fld b 2 2
  let sub := byteAt b 4
  if bodyBad b then answer s (bodyOut b 13 0 [])
  else match byteAt b 0 with
    | 1 =>
      let p := s.readBy r idx sub
      if p.2.1 ≠ 0 then answer s (bodyOut b p.2.1 0 [])
      else if room < p.2.2.length then answer s (bodyOut b 5 p.2.2.length [])
      else answer p.1 (bodyOut b 0 p.2.2.length p.2.2)
    | 2 => s.writeAnd r idx sub (b.drop 16) (fun s st => answer s (bodyOut b st 0 []))
    | 3 =>
      let p := s.partRead r idx sub (fld b 8 4) (min room (fld b 12 4))
      answer p.1 (bodyOut b p.2.1 p.2.2.1 p.2.2.2)
    | _ =>
      let p := s.partWrite r idx sub (fld b 8 4) (byteAt b 5 = 1) (b.drop 16)
      answer p.1 (bodyOut b p.2 0 [])

/-! ### The mailbox (R502) -/

/-- MAILBOX_REQUEST: the request in buffer A is executed, its response written to buffer B; one longer than the buffer is not
written, and the write-back carries status 7 and the full length. -/
def State.mailbox (s : State) (q : Nat) (d : Desc) : State :=
  match s.fetchDesc q 4 with
  | none => s
  | some (i, s) =>
    if d.stampReq || d.rsvdA ≠ 0 || d.rsvdB ≠ 0 || d.lenA < 8 || 65536 < d.lenA || d.lenB < 8 || 65536 < d.lenB then
      s.writeBack q (invalidDesc i)
    else s.runBody (.mailbox q) (d.lenB - 24) (d.data.take d.lenA) (fun s b =>
      let fits : Bool := b.length ≤ d.lenB
      (if fits then s.say (.dma q i b) else s).writeBack q
        ⟨i, if fits then 0 else 7, true, true, false, 0, b.length, time96 s.nowSec.1 s.nowSec.2, 0⟩)

def execMailboxRequest (t q : Nat) (w : DescWire) (s : State) : Host.Outcome State Fault Refusal :=
  let d := readDesc w
  .next ((s.tick t).mailbox q d)

/-! ### Fast reads (R554, R555) -/

/-- The words 0 to 5 of a mapped value with a refresh count. -/
def fastWords (b : List Byte) (count : Nat) : List Nat :=
  let v := leNat b
  let ws := [oddParity (b.length + 16 + 32 * count), v % 2 ^ 16, v / 2 ^ 16 % 2 ^ 16, v / 2 ^ 32 % 2 ^ 16, v / 2 ^ 48 % 2 ^ 16]
  ws ++ [crc 3 (ws.flatMap (beBytes 2))]

/-- One entry of the map is refreshed. -/
def State.fastEntry (s : State) (k e : Nat) : State :=
  if e = 0 then s
  else
    let idx := e % 65536
    let sub := e / 65536
    match findObj idx sub with
    | none => s
    | some o =>
      let n := wrapInc 8 (s.tally.counts.at' k 0)
      { s with tally := { s.tally with
          counts := s.tally.counts.put k n
          words := s.tally.words.put k (fastWords (encodeVal o.ty (s.reading idx sub)) n) } }

/-- FAST_READ_REFRESH: every mapped value, while the dictionary answers. -/
def State.fastRefresh (s : State) : State :=
  if !s.dictReady then s
  else (mapEntries (s.rb 0x5100 0x02)).zipIdx.foldl (fun s p => s.fastEntry p.2 p.1) s

def execFastReadRefresh (t : Nat) (s : State) : Host.Outcome State Fault Refusal := .next (s.tick t).fastRefresh

/-! ### The load of the dictionary (R532, R534) -/

/-- Objects whose stored value is in force from boot under the staged classes. -/
def bootForce (k : Nat) : Bool :=
  delayedObj (k / 256) (k % 256) && !(0x6010 ≤ k / 256 && k / 256 < 0x6018)

/-- Every stored object takes its stored value, or its default. What the flash keeps beside the stores is read too, and the
memory's settings stay as they were initialised. -/
def State.loadValues (s : State) (img : Tab Val) : State :=
  let plain := s.od.filter (fun p => !storesObj (p.1 / 256) (p.1 % 256))
  let base : Tab Val := img.foldl (fun (t : Tab Val) p => t.put p.1 p.2) plain
  let od : Tab Val := s.flash.refs.foldl (fun (t : Tab Val) p => t.put p.1 p.2) base
  let s := { s with od := od, force := img.filter (fun p => bootForce p.1) }
  (List.range 7).foldl (fun s w =>
    (s.setForce (0x6010 + w) 2 (.num ((s.orderOf w : Nat) : Int))).setForce (0x6010 + w) 3
      (.num ((b2n (s.eccOn w) : Nat) : Int))) s

/-- Whether a stored value breaks a rule that a write of it would have enforced (R534). -/
def State.conflicts (s : State) (idx sub : Nat) (v : Val) : Bool :=
  let n := v.int.toNat
  if 0x1A00 ≤ idx && idx < 0x1A08 then
    sub = 0 && (let m := s.tpdoMap (idx - 0x1A00) n
      !(m.all tpdoEntryOk && (m.map (· % 256)).foldl (· + ·) 0 ≤ 512))
  else if 0x2820 ≤ idx && idx < 0x2830 && sub = 0x03 then s.rn idx 0x03 ≤ s.rn idx 0x06
  else if (0x2820 ≤ idx && idx < 0x2830 && sub = 0x05) || (0x2840 ≤ idx && idx < 0x2848 && sub = 0x02) then
    s.pinOwned n idx
  else if idx = 0x2500 && sub = 0x0B then s.pinOwned n 0
  else (writeBase .changeSet idx sub s v).2 = 6

/-- Each object whose stored value conflicts takes its default, with one event. -/
def State.dropConflicts (s : State) (img : Tab Val) : State :=
  img.foldl (fun s p =>
    let idx := p.1 / 256
    let sub := p.1 % 256
    if s.conflicts idx sub p.2 then
      { s with od := s.od.cut p.1, force := s.force.cut p.1 }.raise s.sysKey 0x0E02 2 [(16, idx), (8, sub)]
    else s) s

/-- The stored values come into the dictionary; an image that cannot be read is lost (R532). -/
def State.loadStore (s : State) (readable : Bool) : State :=
  let img := if readable then s.image.filter (fun p => storesObj (p.1 / 256) (p.1 % 256)) else []
  let s := if readable then s else s.raiseCond .storeLost 0x6300 s.sysKey 0x0E01 3 []
  (s.loadValues img).dropConflicts img

/-- The state of a core by its designation: SPARE for OK where the mask names it, OK for SPARE where it does not. -/
def designated (spare : Bool) (st : Nat) : Nat := if spare && st = 0 then 3 else if !spare && st = 3 then 0 else st

/-- The designated spares of a package just reset (R189), with the health counts (R107). A core that a self-test at reset has found
faulty stays as it is; what a SUSPECT one returns to follows its designation. -/
def State.bootSpares (s : State) : State :=
  let mask := s.rn 0x3400 0x01
  let s := (List.range 14).foldl (fun s c =>
    let u := s.unit (coreKey c)
    let v := { u with st := designated (bit mask c) u.st, prior := if u.st = 1 then designated (bit mask c) u.prior else u.prior }
    if v = u then s else s.setUnit (coreKey c) v) s
  let live := fun (c : Nat) => !bit mask c || (s.unit (coreKey c)).st = 4
  { s with
    active := (List.range 14).filter (fun c => live c && !s.gone (coreKey c))
    unpatched := (List.range 14).filter (fun c => !bit mask c && s.gone (coreKey c)) }.refreshCores.refreshHealth

/-- Screens begin with the timing in force; one that has kept running with the same timing goes on (R602). -/
def State.bootScreens (s old : State) : State :=
  ((List.range 24).filter (fun x => !s.member x)).foldl (fun s x =>
    if (s.screens.look x).isNone || timingSubs.any (fun k => s.fval (scrIdx x) k ≠ old.fval (scrIdx x) k) then s.restartScreen x
    else s) s

/-- Trigger units with a stored mode wait for the first lock (R180). -/
def State.bootTriggers (s : State) : State :=
  (List.range 16).foldl (fun s u =>
    let m := s.rn (0x2820 + u) 0x01
    if m = 0 then s
    else
      let n := s.trigStart u m
      ({ s with trigs := s.trigs.put u { s.trig u with
          armed := false, spent := false, waitLock := true, nextNs := n } }).wn (0x2820 + u) 0x09 (nsTime96 n)) s

/-- A touch port begins to acquire, and its zones are LATCHED (Tables 11.4 and 11.5); one in WAKE SCAN has gone on. -/
def State.bootTouch (s : State) (p : Nat) : State :=
  if s.scan p ≠ scanOff then if s.rn (tIdx p) 0x01 = 0 then s.stopTouch p scanOff else s
  else
    let s := (s.zonesOn p).foldl (fun s z => s.zoneLatch p z (if s.refOk p then 3 else 2)) s
    if s.rn (tIdx p) 0x01 = 0 then s else s.acquireTouch p true

/-- Ethernet and Spaydun ports as their objects enable them. -/
def State.bootPorts (s : State) : State :=
  let s := (List.range 16).foldl (fun s p => if s.portExists p then (s.portUp p).probe6 p else s) s
  ([0, 1].foldl (fun s q => if s.rn (spIdx q) 0x01 = 0 then s.wn (spIdx q) 0x04 spDisabled else s) s).bmca

/-- The CAN ports start (Table 15.6). -/
def State.bootCan (s : State) (c : Nat) : State :=
  if s.rn (0x2011 + c) 0x01 = 1 && s.canServes c then s.canStart c
  else (s.wn (0x2011 + c) 0x05 3).wn (0x2011 + c) 0x04 nmtInit

/-- The package as it begins in its system (R563): standalone, or not joined. -/
def State.bootSystem (s : State) : State :=
  let s := { s with sys := { s.sys with tree := s.flash.tree, images := s.flash.images } }
  let s := ((s.wn 0x6800 0x0A 0xFF).wn 0x6800 0x0B 0xFF).wn 0x6800 0x08 0
  s.wn 0x6800 0x09 (if s.standalone then 0 else 4)

/-- DICTIONARY_LOADED (step 6 of Table 19.6, R157, R362, R532). -/
def State.dictLoad (s : State) (readable : Bool) : State :=
  if s.power.phase ≠ .booting || s.loaded || s.upd.rom then s
  else
    let old := s
    let s := if s.mem.training then s.memInit else s
    let s := (s.loadStore readable).bootSpares
    let s := { s with loaded := true, power := { s.power with phase := .running } }.setReady true
    let s := (s.bootSystem.bootScreens old).bootTriggers
    let s := ((s.bootTouch 0).bootTouch 1).bootPorts
    let s := ((s.bootCan 0).bootCan 1).refreshU
    let s := s.autoOpen.encAutoStart
    let s := if s.power.tripNote then
        { s with power := { s.power with tripNote := false } }.raise s.sysKey 0x1206 3 [(16, s.rn 0x2500 0x08)]
      else s
    let s := if s.power.tripFull then
        { s with power := { s.power with tripFull := false } }.raise s.sysKey 0x0003 1 [(16, 0x2500), (8, 0x08), (8, 0)]
      else s
    if s.updState = updTrial && s.upd.trialAt.isNone && (List.range 24).all (fun x => s.fn (scrIdx x) 0x01 = 0) then
      { s with upd := { s.upd with trialAt := some s.clock } }
    else s

def execDictionaryLoaded (t : Nat) (readable : Bool) (s : State) : Host.Outcome State Fault Refusal :=
  .next ((s.tick t).dictLoad readable)

/-- SURVIVOR_RELOAD_COMPLETE (R113): the dictionary is loaded again, admission rerun, and every session admitted goes
through JOINING. -/
def State.survivorLoaded (s : State) : State :=
  if !s.link.reloading then s
  else
    let s := s.loadStore true
    let s := { s with loaded := true, link := { s.link with reloading := false } }
    let s := if s.dieLost 0 then s else s.setReady true
    s.rerun.rejoinSessions

def execSurvivorReloadComplete (t : Nat) (s : State) : Host.Outcome State Fault Refusal := .next (s.tick t).survivorLoaded

end Sys2Proof.Machine
end

