-- ==== Sys2Proof/Machine/Can.lean ====
section
/-! DEFINITION. The CANopen FD ports (R519 to R523): USDO, NMT, SYNC and TPDOs, heartbeat, EMCY and bus states. -/

namespace Sys2Proof.Machine

/-- Whether a port takes part in its network: not lost, not bus off, its CANopen layer started. -/
def State.canOn (s : State) (c : Nat) : Bool :=
  c < 2 && s.rn (0x2011 + c) 0x05 < 2 && s.nmt c ≠ nmtInit

/-- Whether a port handles USDO, SYNC and EMCY (R520). -/
def State.canTalks (s : State) (c : Nat) : Bool :=
  s.canOn c && (s.nmt c = nmtPreOperational || s.nmt c = nmtOperational)

def State.canP (s : State) (c : Nat) : CanS := s.cans.at' c {}
def State.setCan (s : State) (c : Nat) (g : CanS) : State := { s with cans := s.cans.put c g }

/-! ### USDO (R519, R517) -/

/-- A port's transfer in parts ends: one per port at a time. -/
def State.endTransfer (s : State) (c : Nat) : State :=
  { s with
    cans := s.cans.put c { s.canP c with seg := none }
    partReads := s.partReads.cut (Req.code (.can c))
    partWrites := s.partWrites.filter (fun p => p.1 / 2 ^ 24 ≠ Req.code (.can c)) }

/-- A USDO request or segment. A segmented write is a part write of the port; a segmented read is served from a snapshot. -/
def State.usdo (s : State) (c : Nat) (u : Usdo) : State :=
  let r : Req := .can c
  if !s.canTalks c then s
  else match u with
    | .read idx sub =>
      let p := (s.endTransfer c).readBy r idx sub
      p.1.respond r idx sub p.2.1 p.2.2
    | .write idx sub data => (s.endTransfer c).writeAnd r idx sub data (fun s st => s.respond r idx sub st [])
    | .writeSegment idx sub data first last =>
      let s := if first then s.endTransfer c else s
      let off := if first then 0 else match s.partWrites.look (partKey r idx sub) with
        | some p => p.data.length
        | none => 1
      let p := s.partWrite r idx sub off last data
      if last || p.2 ≠ 0 then (p.1.endTransfer c).respond r idx sub p.2 []
      else p.1.setCan c { p.1.canP c with seg := some (idx, sub, [], true, p.1.clock) }
    | .readSegment idx sub first size =>
      let got : State × Nat × List Byte :=
        if first then (s.endTransfer c).readBy r idx sub
        else match (s.canP c).seg with
          | some (i, j, b, w, _) => if i = idx && j = sub && !w then (s, 0, b) else (s, 12, [])
          | none => (s, 12, [])
      let b := got.2.2
      let s := got.1
      if got.2.1 ≠ 0 || b.length ≤ size then (s.endTransfer c).respond r idx sub got.2.1 b
      else (s.setCan c { s.canP c with seg := some (idx, sub, b.drop size, false, s.clock) }).respond r idx sub 0 (b.take size)

/-- USDO_REQUEST (R519). -/
def execUsdoRequest (t c : Nat) (u : Usdo) (s : State) : Host.Outcome State Fault Refusal := .next ((s.tick t).usdo c u)

/-- USDO_SEGMENT_TIMEOUT (Table 15.5): no segment for 1 s. -/
def State.segTimeout (s : State) (c : Nat) : State :=
  match (s.canP c).seg with
  | some (_, _, _, _, a) => if a + sTicks ≤ s.clock then s.endTransfer c else s
  | none => s

def execUsdoSegmentTimeout (t c : Nat) (s : State) : Host.Outcome State Fault Refusal := .next ((s.tick t).segTimeout c)

/-! ### TPDOs (R521, R522) -/

/-- The next CAN FD data length at or above a length. -/
def canLength (n : Nat) : Nat := ([0, 1, 2, 3, 4, 5, 6, 7, 8, 12, 16, 20, 24, 32, 48, 64].find? (n ≤ ·)).getD 64

def State.tpdo (s : State) (k : Nat) : TpdoS := s.tpdos.at' k {}

/-- A TPDO's mapped values, sampled at one instant. -/
def State.tpdoSample (s : State) (k : Nat) : List Byte :=
  (s.tpdoMap k (s.held (0x1A00 + k) 0).int.toNat).flatMap (fun e =>
    match findObj (e / 65536) (e / 256 % 256) with
    | some o => encodeVal o.ty (s.reading (e / 65536) (e / 256 % 256))
    | none => [])

/-- Whether a TPDO is valid and maps something. -/
def State.tpdoOn (s : State) (k : Nat) : Bool :=
  k < 8 && !bit (s.held (0x1800 + k) 1).int.toNat 31 && (s.held (0x1A00 + k) 0).int ≠ 0

/-- A TPDO leaves on ports, with what it sent and when. -/
def State.tpdoOut (s : State) (k : Nat) (ports : List Nat) : State :=
  let cs := ports.filter (fun c => s.canOn c && s.nmt c = nmtOperational)
  if !s.tpdoOn k || cs.isEmpty then s
  else
    let b := s.tpdoSample k
    let cob := (s.held (0x1800 + k) 1).int.toNat % 2048
    let s := cs.foldl (fun s c => s.say (.can c cob (b ++ List.replicate (canLength b.length - b.length) 0))) s
    { s with tpdos := s.tpdos.put k ⟨0, b, some s.clock, s.clock⟩ }

/-- What a SYNC does to a TPDO by its transmission type. -/
def State.tpdoSync (s : State) (k : Nat) : State :=
  let ty := s.rn (0x1800 + k) 2
  let n := (s.tpdo k).syncs + 1
  if ty = 0 then if s.tpdoSample k ≠ (s.tpdo k).sent then s.tpdoOut k [0, 1] else s
  else if ty ≤ 240 then
    if ty ≤ n then { s with tpdos := s.tpdos.put k { s.tpdo k with syncs := 0 } }.tpdoOut k [0, 1]
    else { s with tpdos := s.tpdos.put k { s.tpdo k with syncs := n } }
  else s

/-- SYNC (R521). -/
def execSync (t c : Nat) (s : State) : Host.Outcome State Fault Refusal :=
  .next (if (s.tick t).canTalks c then (List.range 8).foldl State.tpdoSync (s.tick t) else s.tick t)

/-- Whether a TPDO is event-driven. -/
def State.tpdoEvent (s : State) (k : Nat) : Bool := k < 8 && s.rn (0x1800 + k) 2 = 254

/-- TPDO_EVENT_TIMER: the event timer has run out. -/
def State.tpdoTimer (s : State) (k : Nat) : State :=
  let ms := s.rn (0x1800 + k) 5
  if s.tpdoEvent k && ms ≠ 0 && (s.tpdo k).timer + ms * msTicks ≤ s.clock then s.tpdoOut k [0, 1] else s

def execTpdoEventTimer (t k : Nat) (s : State) : Host.Outcome State Fault Refusal := .next ((s.tick t).tpdoTimer k)

/-- TPDO_CHANGE: a mapped value differs from what was sent, and the inhibit time has passed. -/
def State.tpdoChanged (s : State) (k : Nat) : State :=
  if s.tpdoEvent k && s.due (s.tpdo k).lastSent (s.rn (0x1800 + k) 3 * (100 * usTicks)) && s.tpdoSample k ≠ (s.tpdo k).sent then s.tpdoOut k [0, 1] else s

def execTpdoChange (t k : Nat) (s : State) : Host.Outcome State Fault Refusal := .next ((s.tick t).tpdoChanged k)

/-! ### NMT (R520, Table 15.6) -/

/-- Start: OPERATIONAL, and TPDOs of type 254 send once on the port. -/
def State.nmtStart (s : State) (c : Nat) : State :=
  if !s.canOn c || s.nmt c = nmtOperational then s
  else (List.range 8).foldl (fun s k => if s.tpdoEvent k then s.tpdoOut k [c] else s) (s.wn (0x2011 + c) 0x04 nmtOperational)

def execNmtStart (t c : Nat) (s : State) : Host.Outcome State Fault Refusal := .next ((s.tick t).nmtStart c)

/-- Stop: STOPPED, a USDO transfer aborted. -/
def State.nmtStop (s : State) (c : Nat) : State :=
  if s.canOn c then (s.endTransfer c).wn (0x2011 + c) 0x04 nmtStopped else s

def execNmtStop (t c : Nat) (s : State) : Host.Outcome State Fault Refusal := .next ((s.tick t).nmtStop c)

/-- Enter pre-operational. -/
def execNmtEnterPreOperational (t c : Nat) (s : State) : Host.Outcome State Fault Refusal :=
  .next (if (s.tick t).canOn c then (s.tick t).wn (0x2011 + c) 0x04 nmtPreOperational else s.tick t)

/-- Reset Node and Reset Communication: the port's CANopen layer alone starts again, with the error field cleared. -/
def State.nmtReset (s : State) (c : Nat) : State :=
  if s.canOn c then (((errClear s (.num 0)).1.endTransfer c).endCond (.busOff c)).canReset c else s

def execNmtResetNode (t c : Nat) (s : State) : Host.Outcome State Fault Refusal := .next ((s.tick t).nmtReset c)

def execNmtResetCommunication (t c : Nat) (s : State) : Host.Outcome State Fault Refusal := .next ((s.tick t).nmtReset c)

/-- CAN_HEARTBEAT_SEND (Table 15.5): the NMT state, where the heartbeat is on, once each heartbeat time from the boot-up message on. -/
def State.canBeat (s : State) (c : Nat) : State :=
  let ms := s.rn 0x1017 0
  if s.canOn c && ms ≠ 0 && s.due (s.canP c).beatAt (ms * msTicks) then
    (s.setCan c { s.canP c with beatAt := some s.clock }).say (.can c (0x700 + (s.canP c).node) [BitVec.ofNat 8 (s.nmt c)]) else s

def execCanHeartbeatSend (t c : Nat) (s : State) : Host.Outcome State Fault Refusal := .next ((s.tick t).canBeat c)

/-! ### EMCY and bus states (R523) -/

/-- EMCY_SEND: at most one per 10 ms. -/
def State.emcySend (s : State) (c : Nat) : State :=
  let g := s.canP c
  let due := s.due g.lastEmcy (10 * msTicks)
  match g.emcy with
  | [] => s
  | (code, seq) :: rest =>
    if !s.canTalks c || !due then s
    else (s.setCan c { g with emcy := rest, lastEmcy := some s.clock }).say
      (.can c ((s.held 0x1014 0).int.toNat % 2048) (leBytes 2 code ++ leBytes 1 (s.rn 0x1001 0) ++ leBytes 4 seq ++ [0]))

def execEmcySend (t c : Nat) (s : State) : Host.Outcome State Fault Refusal := .next ((s.tick t).emcySend c)

/-- CAN_ERROR_PASSIVE: one event at each entry. -/
def State.canPassive (s : State) (c tec recCount : Nat) : State :=
  if c < 2 && s.rn (0x2011 + c) 0x05 = 0 then
    (s.wn (0x2011 + c) 0x05 1).raiseCond (.passive c) 0x8120 (canKey c) 0x0E03 2 [(8, c), (8, tec), (8, recCount)]
  else s

def execCanErrorPassive (t c tec recCount : Nat) (s : State) : Host.Outcome State Fault Refusal :=
  .next ((s.tick t).canPassive c tec recCount)

/-- CAN_ERROR_ACTIVE: the end of error passive. -/
def State.canActive (s : State) (c : Nat) : State :=
  if c < 2 && s.rn (0x2011 + c) 0x05 = 1 then (s.wn (0x2011 + c) 0x05 0).endCond (.passive c) else s

def execCanErrorActive (t c : Nat) (s : State) : Host.Outcome State Fault Refusal := .next ((s.tick t).canActive c)

/-- CAN_BUS_OFF: the NMT state is kept. -/
def State.canBusOff (s : State) (c : Nat) : State :=
  if c < 2 && s.rn (0x2011 + c) 0x05 < 2 then (s.wn (0x2011 + c) 0x05 2).endCond (.passive c) else s

def execCanBusOff (t c : Nat) (s : State) : Host.Outcome State Fault Refusal := .next ((s.tick t).canBusOff c)

/-- CAN_BUS_OFF_RECOVERED: error active again, counted, with one event. -/
def State.canRecovered (s : State) (c : Nat) : State :=
  if c < 2 && s.rn (0x2011 + c) 0x05 = 2 then
    let s := (s.wn (0x2011 + c) 0x05 0).bump (canKey c) (0x2011 + c) 0x06
    s.raiseCond (.busOff c) 0x8140 (canKey c) 0x0E04 2 [(8, c), (32, s.rn (0x2011 + c) 0x06)]
  else s

def execCanBusOffRecovered (t c : Nat) (s : State) : Host.Outcome State Fault Refusal := .next ((s.tick t).canRecovered c)

end Sys2Proof.Machine
end

