-- ==== Sys2Proof/Machine/Zdp.lean ====
section
/-! DEFINITION. ZDP sessions over UDP (R524 to R529). -/

namespace Sys2Proof.Machine

/-- Frame types (Table 15.11). -/
def zdpTHello : Nat := 1
def zdpTChallenge : Nat := 2
def zdpTRequest : Nat := 3
def zdpTResponse : Nat := 4
def zdpTClose : Nat := 5
def zdpTReject : Nat := 6

/-- A frame up to its tag (Table 15.11). -/
def zdpBytes (ty n seq : Nat) (body : List Byte) : List Byte :=
  beBytes 2 0x5A44 ++ [1] ++ beBytes 1 ty ++ beBytes 2 n ++ beBytes 2 body.length ++ beBytes 4 seq ++ [0, 0, 0, 0] ++ body

/-- A frame with its tag under a key. -/
def zdpTagged (k : List Byte) (ty n seq : Nat) (body : List Byte) : List Byte :=
  zdpBytes ty n seq body ++ hmac k (zdpBytes ty n seq body)

/-- The body of a received frame, and whether its tag is right under a key. -/
def zdpBody (b : List Byte) : List Byte := (b.drop 16).take (fld b 6 2)
def zdpTagOk (k b : List Byte) : Bool := hmac k (b.take (16 + fld b 6 2)) = b.drop (16 + fld b 6 2)

/-- The form check of Table 15.13. -/
def zdpFormOk (b : List Byte) : Bool :=
  let ty := byteAt b 3
  let n := fld b 4 2
  let len := fld b 6 2
  fld b 0 2 = 0x5A44 && byteAt b 2 = 1 && fld b 12 4 = 0 && b.length = 48 + len &&
  (if ty = zdpTHello then n = 0 && len = 20 && byteAt b 16 < 4 && fld b 17 3 = 0
   else if ty = zdpTRequest then 1 ≤ n && n ≤ 8
   else ty = zdpTClose && 1 ≤ n && n ≤ 8 && len = 0)

/-- Whether ZDP hears a frame: its port selected and up, and the datagram for one of the port's addresses and for ZDP's UDP port
(R524). -/
def State.zdpHears (s : State) (f : ZdpFrame) : Bool :=
  s.loaded && s.power.phase = .running && s.rn 0x2020 0x01 = 1 && f.port < 16 && bit (s.rn 0x2020 0x03) f.port &&
  s.portHears f.port && s.ownAddr f.port f.v6 f.dstAddr && f.dstPort = s.rn 0x2020 0x02

/-- A discarded frame (0x2020:0C). -/
def State.zdpReject (s : State) : State := s.bump s.sysKey 0x2020 0x0C

/-- Whether any key slot holds a key. -/
def State.zdpKeys (s : State) : Bool := [4, 5, 6, 7].any (fun k => !(s.rb 0x2020 k).isEmpty)

/-- A frame to the source of another. -/
def State.zdpAnswer (s : State) (f : ZdpFrame) (b : List Byte) : State := s.say (.zdp f.port f.v6 f.srcAddr f.srcPort b)

/-- A received frame of a type: heard, ZDP not closed, and of the right form; what it does then. -/
def State.zdpFrame (s : State) (f : ZdpFrame) (ty : Nat) (act : State → State) : State :=
  if !s.zdpHears f then s
  else if !s.zdpKeys || !zdpFormOk f.bytes then s.zdpReject
  else if byteAt f.bytes 3 = ty then act s else s

/-- The lowest free session number. -/
def State.zdpFree (s : State) : Nat := ((List.range 8).map (· + 1)).find? (fun n => (s.zdp.look n).isNone) |>.getD 0

/-- A HELLO (R525, Table 15.13); `nonce` is the device nonce, from the on-chip random source. -/
def State.zdpHello (s : State) (f : ZdpFrame) (nonce : List Byte) : State :=
  let b := f.bytes
  let body := zdpBody b
  let slot := byteAt body 0
  let k := s.rb 0x2020 (4 + slot)
  let client := body.drop 4
  let seq := fld b 8 4
  let no := fun (why : Nat) => s.zdpAnswer f (zdpBytes zdpTReject 0 seq (beBytes 1 why ++ [0, 0, 0]))
  if k.isEmpty || !zdpTagOk k b then s.zdpReject
  else if s.sysBusy then no 2
  else if 8 ≤ s.zdp.length then no 1
  else
    let n := s.zdpFree
    let ks := hmac k ([0x5A, 0x44, 0x50, 0x31] ++ client ++ nonce ++ beBytes 2 n)
    { s with zdp := s.zdp.put n ⟨slot, ks, f.v6, f.srcAddr, f.srcPort, f.port, seq, [], s.clock⟩ }.zdpAnswer f
      (zdpTagged k zdpTChallenge n seq (client ++ nonce ++ beBytes 2 (s.rn 0x2020 0x0A)))

/-- ZDP_HELLO. -/
def execZdpHello (t : Nat) (f : ZdpFrame) (nonce : List Byte) (s : State) : Host.Outcome State Fault Refusal :=
  .next ((s.tick t).zdpFrame f zdpTHello (fun s => s.zdpHello f nonce))

/-- The most value bytes of a response on a port (R529). -/
def State.zdpRoom (s : State) (f : ZdpFrame) : Nat := s.rn (0x2910 + f.port) 0x08 - (if f.v6 then 40 else 20) - 8 - 16 - 32 - 24

/-- A REQUEST (R526): executed once, its response held; one whose sequence is the last accepted gets that response again. -/
def State.zdpRequest (s : State) (f : ZdpFrame) : State :=
  let b := f.bytes
  let n := fld b 4 2
  let seq := fld b 8 4
  match s.zdp.look n with
  | none => s.zdpReject
  | some z =>
    if !zdpTagOk z.key b then s.zdpReject
    else if serialEq 32 seq z.seq then
      let s := { s with zdp := s.zdp.put n { z with last := s.clock } }
      if z.held.isEmpty then s else s.zdpAnswer f z.held
    else if !serialAfter 32 seq z.seq then s.bump s.sysKey 0x2020 0x0D
    else
      let s := { s with zdp := s.zdp.put n { z with seq := seq, last := s.clock } }
      s.runBody (.zdp n) (s.zdpRoom f) (zdpBody b) (fun s body =>
        let out := zdpTagged z.key zdpTResponse n seq body
        let s := match s.zdp.look n with
          | some g => { s with zdp := s.zdp.put n { g with held := out } }
          | none => s
        s.zdpAnswer f out)

/-- ZDP_REQUEST. -/
def execZdpRequest (t : Nat) (f : ZdpFrame) (s : State) : Host.Outcome State Fault Refusal :=
  .next ((s.tick t).zdpFrame f zdpTRequest (fun s => s.zdpRequest f))

/-- A CLOSE (R527). -/
def State.zdpCloseFrame (s : State) (f : ZdpFrame) : State :=
  let n := fld f.bytes 4 2
  match s.zdp.look n with
  | some z => if zdpTagOk z.key f.bytes then s.zdpClose n else s.zdpReject
  | none => s.zdpReject

/-- ZDP_CLOSE. -/
def execZdpClose (t : Nat) (f : ZdpFrame) (s : State) : Host.Outcome State Fault Refusal :=
  .next ((s.tick t).zdpFrame f zdpTClose (fun s => s.zdpCloseFrame f))

/-- ZDP_IDLE_TIMEOUT (R527). -/
def State.zdpIdle (s : State) (n : Nat) : State :=
  match s.zdp.look n with
  | some z => if z.last + s.rn 0x2020 0x0A * sTicks ≤ s.clock then s.zdpClose n else s
  | none => s

def execZdpIdleTimeout (t sess : Nat) (s : State) : Host.Outcome State Fault Refusal := .next ((s.tick t).zdpIdle sess)

end Sys2Proof.Machine
end

