-- ==== Sys2Proof/Machine/Dispatch.lean ====
section
/-! DEFINITION. The dispatch: one arm per command. -/

namespace Sys2Proof.Machine

/-- The effect of a command on everything but the queue. -/
def exec (i : Instr) (s : State) : Host.Outcome State Fault Refusal :=
  match i with
  | .dictionaryWrite t r idx sub data => Sys2Proof.Machine.execDictionaryWrite t r idx sub data s
  | .counterReadClear t r idx sub => Sys2Proof.Machine.execCounterReadClear t r idx sub s
  | .mappingAgeExpiry t n => Sys2Proof.Machine.execMappingAgeExpiry t n s
  | .layerLatch t sc => Sys2Proof.Machine.execLayerLatch t sc s
  | .lvsStripRecheck t sc k => Sys2Proof.Machine.execLvsStripRecheck t sc k s
  | .readBackCompare t slot wrong => Sys2Proof.Machine.execReadBackCompare t slot wrong s
  | .lvsFault t d => Sys2Proof.Machine.execLvsFault t d s
  | .lvsSelfTestDone t d pass => Sys2Proof.Machine.execLvsSelfTestDone t d pass s
  | .lvsSelfTestRetry t d => Sys2Proof.Machine.execLvsSelfTestRetry t d s
  | .lvsStatusRead t r => Sys2Proof.Machine.execLvsStatusRead t r s
  | .dieHeartbeatSend t d => Sys2Proof.Machine.execDieHeartbeatSend t d s
  | .dieHeartbeatTimeout t d => Sys2Proof.Machine.execDieHeartbeatTimeout t d s
  | .dieLinkCrcFailure t xfer => Sys2Proof.Machine.execDieLinkCrcFailure t xfer s
  | .survivorReloadComplete t => Sys2Proof.Machine.execSurvivorReloadComplete t s
  | .dieTimeCompare t wAhead => Sys2Proof.Machine.execDieTimeCompare t wAhead s
  | .processorWatchdogExpiry t p d => Sys2Proof.Machine.execProcessorWatchdogExpiry t p d s
  | .processorRestartComplete t p d => Sys2Proof.Machine.execProcessorRestartComplete t p d s
  | .paceLow t region pace => Sys2Proof.Machine.execPaceLow t region pace s
  | .paceRestored t region pace => Sys2Proof.Machine.execPaceRestored t region pace s
  | .unitSoftFault t addr => Sys2Proof.Machine.execUnitSoftFault t addr s
  | .correctedSramError t addr => Sys2Proof.Machine.execCorrectedSramError t addr s
  | .unitHardFault t addr => Sys2Proof.Machine.execUnitHardFault t addr s
  | .retestComplete t addr pass => Sys2Proof.Machine.execRetestComplete t addr pass s
  | .staleEpochTransfer t addr epoch => Sys2Proof.Machine.execStaleEpochTransfer t addr epoch s
  | .sparePeriodicTest t addr pass => Sys2Proof.Machine.execSparePeriodicTest t addr pass s
  | .addressSelect t r addr => Sys2Proof.Machine.execAddressSelect t r addr s
  | .healthDeclareDead t r => Sys2Proof.Machine.execHealthDeclareDead t r s
  | .healthReturnToService t r pass => Sys2Proof.Machine.execHealthReturnToService t r pass s
  | .healthClearFaultCount t r => Sys2Proof.Machine.execHealthClearFaultCount t r s
  | .quadModeChange t r q mode => Sys2Proof.Machine.execQuadModeChange t r q mode s
  | .quadLanesUp t q => Sys2Proof.Machine.execQuadLanesUp t q s
  | .ethernetFrameDiscard t p f => Sys2Proof.Machine.execEthernetFrameDiscard t p f s
  | .arpRequest t p target sender => Sys2Proof.Machine.execArpRequest t p target sender s
  | .icmpEchoRequest t p v6 target data => Sys2Proof.Machine.execIcmpEchoRequest t p v6 target data s
  | .neighbourSolicitation t p target => Sys2Proof.Machine.execNeighbourSolicitation t p target s
  | .multicastQuery t p v6 version => Sys2Proof.Machine.execMulticastQuery t p v6 version s
  | .rawFrameToHost t p f => Sys2Proof.Machine.execRawFrameToHost t p f s
  | .rtpPacket t n pkt => Sys2Proof.Machine.execRtpPacket t n pkt s
  | .reorderWindowExpiry t n => Sys2Proof.Machine.execReorderWindowExpiry t n s
  | .accessUnitRelease t n => Sys2Proof.Machine.execAccessUnitRelease t n s
  | .rtcpPacket t n mac items => Sys2Proof.Machine.execRtcpPacket t n mac items s
  | .rtcpRrSend t n => Sys2Proof.Machine.execRtcpRrSend t n s
  | .sessionOpen t r n rnd => Sys2Proof.Machine.execSessionOpen t r n rnd s
  | .sessionClose t r n => Sys2Proof.Machine.execSessionClose t r n s
  | .sessionRelease t r n => Sys2Proof.Machine.execSessionRelease t r n s
  | .sessionResync t r n => Sys2Proof.Machine.execSessionResync t r n s
  | .joinTimeout t n => Sys2Proof.Machine.execJoinTimeout t n s
  | .starvationTimeout t n => Sys2Proof.Machine.execStarvationTimeout t n s
  | .ptpMessage t p m data => Sys2Proof.Machine.execPtpMessage t p m data s
  | .ptpAnnounceTimeout t p => Sys2Proof.Machine.execPtpAnnounceTimeout t p s
  | .ptpMasterSend t p => Sys2Proof.Machine.execPtpMasterSend t p s
  | .hostOffsetWrite t r o => Sys2Proof.Machine.execHostOffsetWrite t r o s
  | .servoSourceWrite t r src => Sys2Proof.Machine.execServoSourceWrite t r src s
  | .servoLossTimeout t => Sys2Proof.Machine.execServoLossTimeout t s
  | .uRefresh t => Sys2Proof.Machine.execURefresh t s
  | .timeMarkSend t q => Sys2Proof.Machine.execTimeMarkSend t q s
  | .timeMark t q f => Sys2Proof.Machine.execTimeMark t q f s
  | .triggerArm t r u mode => Sys2Proof.Machine.execTriggerArm t r u mode s
  | .triggerDisarm t r u => Sys2Proof.Machine.execTriggerDisarm t r u s
  | .triggerFire t u => Sys2Proof.Machine.execTriggerFire t u s
  | .triggerPulseEnd t u => Sys2Proof.Machine.execTriggerPulseEnd t u s
  | .triggerLateRead t r u => Sys2Proof.Machine.execTriggerLateRead t r u s
  | .captureEdge t c rising => Sys2Proof.Machine.execCaptureEdge t c rising s
  | .captureRecordRead t r c => Sys2Proof.Machine.execCaptureRecordRead t r c s
  | .segmentDispatch t go => Sys2Proof.Machine.execSegmentDispatch t go s
  | .pictureComplete t n d => Sys2Proof.Machine.execPictureComplete t n d s
  | .startWaitRead t r n => Sys2Proof.Machine.execStartWaitRead t r n s
  | .toneMapApply t r m => Sys2Proof.Machine.execToneMapApply t r m s
  | .commitRequest t r data => Sys2Proof.Machine.execCommitRequest t r data s
  | .commitDiscardStaged t r => Sys2Proof.Machine.execCommitDiscardStaged t r s
  | .commitCancel t r => Sys2Proof.Machine.execCommitCancel t r s
  | .commitSamplePoint t sc => Sys2Proof.Machine.execCommitSamplePoint t sc s
  | .scheduledCommitDue t id => Sys2Proof.Machine.execScheduledCommitDue t id s
  | .receiptSelect t r id => Sys2Proof.Machine.execReceiptSelect t r id s
  | .pressComplete t sc => Sys2Proof.Machine.execPressComplete t sc s
  | .leaseEnd t n b => Sys2Proof.Machine.execLeaseEnd t n b s
  | .leaseWaitLimit t => Sys2Proof.Machine.execLeaseWaitLimit t s
  | .frameStart t sc => Sys2Proof.Machine.execFrameStart t sc s
  | .stripComposeStart t sc k => Sys2Proof.Machine.execStripComposeStart t sc k s
  | .stripWrite t sc c k => Sys2Proof.Machine.execStripWrite t sc c k s
  | .stripDrop t sc k => Sys2Proof.Machine.execStripDrop t sc k s
  | .blankingStart t sc => Sys2Proof.Machine.execBlankingStart t sc s
  | .lineMatch t sc line => Sys2Proof.Machine.execLineMatch t sc line s
  | .timingApply t r sc => Sys2Proof.Machine.execTimingApply t r sc s
  | .timingApplyRunning t sc => Sys2Proof.Machine.execTimingApplyRunning t sc s
  | .linkTrainingComplete t sc failed last ok => Sys2Proof.Machine.execLinkTrainingComplete t sc failed last ok s
  | .hpdRise t sc sink => Sys2Proof.Machine.execHpdRise t sc sink s
  | .hpdIrq t sc status align => Sys2Proof.Machine.execHpdIrq t sc status align s
  | .hpdUnplug t sc => Sys2Proof.Machine.execHpdUnplug t sc s
  | .dpPrbsGenerator t r sc code => Sys2Proof.Machine.execDpPrbsGenerator t r sc code s
  | .encodeStart t r e ssrc seq => Sys2Proof.Machine.execEncodeStart t r e ssrc seq s
  | .encodeStop t r e => Sys2Proof.Machine.execEncodeStop t r e s
  | .encodePictureComplete t e it => Sys2Proof.Machine.execEncodePictureComplete t e it s
  | .mirrorPacketSend t e => Sys2Proof.Machine.execMirrorPacketSend t e s
  | .mirrorSrSend t e => Sys2Proof.Machine.execMirrorSrSend t e s
  | .nextHopResolve t e => Sys2Proof.Machine.execNextHopResolve t e s
  | .zttMessage t via bytes => Sys2Proof.Machine.execZttMessage t via bytes s
  | .zttMessageDispatch t eng => Sys2Proof.Machine.execZttMessageDispatch t eng s
  | .zttMessageApplied t eng => Sys2Proof.Machine.execZttMessageApplied t eng s
  | .blockCompress t ctx input mismatch => Sys2Proof.Machine.execBlockCompress t ctx input mismatch s
  | .compressResume t ctx space => Sys2Proof.Machine.execCompressResume t ctx space s
  | .decompressResume t ctx input space => Sys2Proof.Machine.execDecompressResume t ctx input space s
  | .touchFrameStart t p => Sys2Proof.Machine.execTouchFrameStart t p s
  | .touchFrameProcessed t p counts mCur mCand => Sys2Proof.Machine.execTouchFrameProcessed t p counts mCur mCand s
  | .touchPortEnable t r p => Sys2Proof.Machine.execTouchPortEnable t r p s
  | .touchPortDisable t r p => Sys2Proof.Machine.execTouchPortDisable t r p s
  | .touchGeometryWrite t r p sub v => Sys2Proof.Machine.execTouchGeometryWrite t r p sub v s
  | .touchCaptureReference t r p => Sys2Proof.Machine.execTouchCaptureReference t r p s
  | .touchAcquireBaselines t r p => Sys2Proof.Machine.execTouchAcquireBaselines t r p s
  | .touchEraseReferences t r p => Sys2Proof.Machine.execTouchEraseReferences t r p s
  | .zoneEnable t r z => Sys2Proof.Machine.execZoneEnable t r z s
  | .zoneDisable t r z => Sys2Proof.Machine.execZoneDisable t r z s
  | .refreshDue t bursts => Sys2Proof.Machine.execRefreshDue t bursts s
  | .refreshEnd t => Sys2Proof.Machine.execRefreshEnd t s
  | .dramTemperaturePoll t temps => Sys2Proof.Machine.execDramTemperaturePoll t temps s
  | .demandMeasure t demand => Sys2Proof.Machine.execDemandMeasure t demand s
  | .setPointRequest t r sp => Sys2Proof.Machine.execSetPointRequest t r sp s
  | .setPointChangeStart t => Sys2Proof.Machine.execSetPointChangeStart t s
  | .setPointTrainingDone t ok => Sys2Proof.Machine.execSetPointTrainingDone t ok s
  | .dramTrainingComplete t reached => Sys2Proof.Machine.execDramTrainingComplete t reached s
  | .scrubPass t w7Errors => Sys2Proof.Machine.execScrubPass t w7Errors s
  | .dramCorrectedError t w => Sys2Proof.Machine.execDramCorrectedError t w s
  | .dramUncorrectableError t w addr hit => Sys2Proof.Machine.execDramUncorrectableError t w addr hit s
  | .sramUncorrectableError t sc k x ledger => Sys2Proof.Machine.execSramUncorrectableError t sc k x ledger s
  | .laneLockGain t l => Sys2Proof.Machine.execLaneLockGain t l s
  | .laneLockLoss t l => Sys2Proof.Machine.execLaneLockLoss t l s
  | .boardTableApply t r => Sys2Proof.Machine.execBoardTableApply t r s
  | .lintSetSend t q => Sys2Proof.Machine.execLintSetSend t q s
  | .lintSetReceive t q fill => Sys2Proof.Machine.execLintSetReceive t q fill s
  | .elasticError t q => Sys2Proof.Machine.execElasticError t q s
  | .laneTestMode t r l code => Sys2Proof.Machine.execLaneTestMode t r l code s
  | .prbsGenerator t r l code => Sys2Proof.Machine.execPrbsGenerator t r l code s
  | .prbsChecker t r l code => Sys2Proof.Machine.execPrbsChecker t r l code s
  | .spaydunPortEnable t r q => Sys2Proof.Machine.execSpaydunPortEnable t r q s
  | .spaydunPortDisable t r q => Sys2Proof.Machine.execSpaydunPortDisable t r q s
  | .laneLockHold t q l => Sys2Proof.Machine.execLaneLockHold t q l s
  | .trainingSet t q ts => Sys2Proof.Machine.execTrainingSet t q ts s
  | .spaydunTrainingTimeout t q => Sys2Proof.Machine.execSpaydunTrainingTimeout t q s
  | .restripeTimeout t q => Sys2Proof.Machine.execRestripeTimeout t q s
  | .restoreHoldExpiry t q l => Sys2Proof.Machine.execRestoreHoldExpiry t q l s
  | .retransmitTimeout t q => Sys2Proof.Machine.execRetransmitTimeout t q s
  | .ackOnlySend t q => Sys2Proof.Machine.execAckOnlySend t q s
  | .acknowledgement t q f => Sys2Proof.Machine.execAcknowledgement t q f s
  | .spaydunFrameSend t q => Sys2Proof.Machine.execSpaydunFrameSend t q s
  | .pixelStrip t q f => Sys2Proof.Machine.execPixelStrip t q f s
  | .streamRelay t q f => Sys2Proof.Machine.execStreamRelay t q f s
  | .relayPictureTimeout t n => Sys2Proof.Machine.execRelayPictureTimeout t n s
  | .pcieFunctionReset t kind => Sys2Proof.Machine.execPcieFunctionReset t kind s
  | .pcieFunctionReady t => Sys2Proof.Machine.execPcieFunctionReady t s
  | .pcieLinkUp t speed width => Sys2Proof.Machine.execPcieLinkUp t speed width s
  | .ringEnable t q => Sys2Proof.Machine.execRingEnable t q s
  | .ringDisable t q => Sys2Proof.Machine.execRingDisable t q s
  | .doorbell t q index => Sys2Proof.Machine.execDoorbell t q index s
  | .writeBackConsumer t q index => Sys2Proof.Machine.execWriteBackConsumer t q index s
  | .functionEventClear t bits => Sys2Proof.Machine.execFunctionEventClear t bits s
  | .barRegisterWrite t off size v => Sys2Proof.Machine.execBarRegisterWrite t off size v s
  | .rawTransmit t q d stamp => Sys2Proof.Machine.execRawTransmit t q d stamp s
  | .rawReceiveDescriptor t q d => Sys2Proof.Machine.execRawReceiveDescriptor t q d s
  | .mailboxRequest t q d => Sys2Proof.Machine.execMailboxRequest t q d s
  | .eventBufferDescriptor t q d => Sys2Proof.Machine.execEventBufferDescriptor t q d s
  | .eventBufferTimeout t q => Sys2Proof.Machine.execEventBufferTimeout t q s
  | .touchReportDescriptor t q d => Sys2Proof.Machine.execTouchReportDescriptor t q d s
  | .busError t q desc => Sys2Proof.Machine.execBusError t q desc s
  | .interruptModerationExpiry t q => Sys2Proof.Machine.execInterruptModerationExpiry t q s
  | .readPart t r idx sub offset len => Sys2Proof.Machine.execReadPart t r idx sub offset len s
  | .writePart t r idx sub offset last data => Sys2Proof.Machine.execWritePart t r idx sub offset last data s
  | .partTransferTimeout t r => Sys2Proof.Machine.execPartTransferTimeout t r s
  | .usdoRequest t c u => Sys2Proof.Machine.execUsdoRequest t c u s
  | .usdoSegmentTimeout t c => Sys2Proof.Machine.execUsdoSegmentTimeout t c s
  | .nmtStart t c => Sys2Proof.Machine.execNmtStart t c s
  | .nmtStop t c => Sys2Proof.Machine.execNmtStop t c s
  | .nmtEnterPreOperational t c => Sys2Proof.Machine.execNmtEnterPreOperational t c s
  | .nmtResetNode t c => Sys2Proof.Machine.execNmtResetNode t c s
  | .nmtResetCommunication t c => Sys2Proof.Machine.execNmtResetCommunication t c s
  | .sync t c => Sys2Proof.Machine.execSync t c s
  | .tpdoEventTimer t k => Sys2Proof.Machine.execTpdoEventTimer t k s
  | .tpdoChange t k => Sys2Proof.Machine.execTpdoChange t k s
  | .canHeartbeatSend t c => Sys2Proof.Machine.execCanHeartbeatSend t c s
  | .emcySend t c => Sys2Proof.Machine.execEmcySend t c s
  | .canErrorPassive t c tec rec => Sys2Proof.Machine.execCanErrorPassive t c tec rec s
  | .canBusOff t c => Sys2Proof.Machine.execCanBusOff t c s
  | .canBusOffRecovered t c => Sys2Proof.Machine.execCanBusOffRecovered t c s
  | .canPortEnable t r c => Sys2Proof.Machine.execCanPortEnable t r c s
  | .canPortDisable t r c => Sys2Proof.Machine.execCanPortDisable t r c s
  | .zdpHello t f nonce => Sys2Proof.Machine.execZdpHello t f nonce s
  | .zdpRequest t f => Sys2Proof.Machine.execZdpRequest t f s
  | .zdpClose t f => Sys2Proof.Machine.execZdpClose t f s
  | .zdpIdleTimeout t sess => Sys2Proof.Machine.execZdpIdleTimeout t sess s
  | .zdpKeyWrite t r slot key => Sys2Proof.Machine.execZdpKeyWrite t r slot key s
  | .zdpDisable t r => Sys2Proof.Machine.execZdpDisable t r s
  | .storeAll t r ok => Sys2Proof.Machine.execStoreAll t r ok s
  | .storeCommunication t r ok => Sys2Proof.Machine.execStoreCommunication t r ok s
  | .storeApplication t r ok => Sys2Proof.Machine.execStoreApplication t r ok s
  | .restoreDefaultsAll t r => Sys2Proof.Machine.execRestoreDefaultsAll t r s
  | .restoreDefaultsCommunication t r => Sys2Proof.Machine.execRestoreDefaultsCommunication t r s
  | .restoreDefaultsApplication t r => Sys2Proof.Machine.execRestoreDefaultsApplication t r s
  | .configExport t r => Sys2Proof.Machine.execConfigExport t r s
  | .configImport t r data => Sys2Proof.Machine.execConfigImport t r data s
  | .errorHistoryClear t r => Sys2Proof.Machine.execErrorHistoryClear t r s
  | .dictionaryLoaded t readable => Sys2Proof.Machine.execDictionaryLoaded t readable s
  | .eventArbitrate t src => Sys2Proof.Machine.execEventArbitrate t src s
  | .recordSelect t r pos => Sys2Proof.Machine.execRecordSelect t r pos s
  | .checkItem t u it => Sys2Proof.Machine.execCheckItem t u it s
  | .checkUnitConfigure t r sub v => Sys2Proof.Machine.execCheckUnitConfigure t r sub v s
  | .checkRunningValueWrite t r v => Sys2Proof.Machine.execCheckRunningValueWrite t r v s
  | .tallySummaryRead t => Sys2Proof.Machine.execTallySummaryRead t s
  | .fastReadSnapshot t k => Sys2Proof.Machine.execFastReadSnapshot t k s
  | .tallyCheckWordUpdate t => Sys2Proof.Machine.execTallyCheckWordUpdate t s
  | .fastReadRefresh t => Sys2Proof.Machine.execFastReadRefresh t s
  | .fastReadMapWrite t r data => Sys2Proof.Machine.execFastReadMapWrite t r data s
  | .presenceSend t => Sys2Proof.Machine.execPresenceSend t s
  | .presence t q f => Sys2Proof.Machine.execPresence t q f s
  | .packageAbsent t p => Sys2Proof.Machine.execPackageAbsent t p s
  | .joinGraceExpiry t p => Sys2Proof.Machine.execJoinGraceExpiry t p s
  | .selfFence t => Sys2Proof.Machine.execSelfFence t s
  | .rejoinRequestSend t => Sys2Proof.Machine.execRejoinRequestSend t s
  | .rejoinRequest t q f => Sys2Proof.Machine.execRejoinRequest t q f s
  | .rejoinGrant t q f => Sys2Proof.Machine.execRejoinGrant t q f s
  | .imagePart t q f => Sys2Proof.Machine.execImagePart t q f s
  | .relayOpen t q f => Sys2Proof.Machine.execRelayOpen t q f s
  | .relayResult t q f => Sys2Proof.Machine.execRelayResult t q f s
  | .relayClose t q f => Sys2Proof.Machine.execRelayClose t q f s
  | .relayResync t q f => Sys2Proof.Machine.execRelayResync t q f s
  | .changeSetWrite t r data => Sys2Proof.Machine.execChangeSetWrite t r data s
  | .stage t q f => Sys2Proof.Machine.execStage t q f s
  | .staged t q f => Sys2Proof.Machine.execStaged t q f s
  | .changeSetStageTimeout t => Sys2Proof.Machine.execChangeSetStageTimeout t s
  | .arm t q f => Sys2Proof.Machine.execArm t q f s
  | .armed t q f => Sys2Proof.Machine.execArmed t q f s
  | .changeSetArmTimeout t => Sys2Proof.Machine.execChangeSetArmTimeout t s
  | .changeSetApply t => Sys2Proof.Machine.execChangeSetApply t s
  | .changeSetSettled t => Sys2Proof.Machine.execChangeSetSettled t s
  | .applied t q f => Sys2Proof.Machine.execApplied t q f s
  | .abort t q f => Sys2Proof.Machine.execAbort t q f s
  | .systemAbortChange t r => Sys2Proof.Machine.execSystemAbortChange t r s
  | .systemAdopt t r => Sys2Proof.Machine.execSystemAdopt t r s
  | .systemDeclareDead t r => Sys2Proof.Machine.execSystemDeclareDead t r s
  | .systemRejoin t r => Sys2Proof.Machine.execSystemRejoin t r s
  | .digestBroadcast t => Sys2Proof.Machine.execDigestBroadcast t s
  | .digestFrame t q f => Sys2Proof.Machine.execDigestFrame t q f s
  | .updateOpen t r => Sys2Proof.Machine.execUpdateOpen t r s
  | .updateClose t r => Sys2Proof.Machine.execUpdateClose t r s
  | .updateFinish t r => Sys2Proof.Machine.execUpdateFinish t r s
  | .updateActivate t r => Sys2Proof.Machine.execUpdateActivate t r s
  | .updateConfirm t r => Sys2Proof.Machine.execUpdateConfirm t r s
  | .updateFallBack t r => Sys2Proof.Machine.execUpdateFallBack t r s
  | .updateAbandon t r => Sys2Proof.Machine.execUpdateAbandon t r s
  | .updateRevokeKey t r => Sys2Proof.Machine.execUpdateRevokeKey t r s
  | .updateChunk t r data => Sys2Proof.Machine.execUpdateChunk t r data s
  | .chunkProgrammed t => Sys2Proof.Machine.execChunkProgrammed t s
  | .verifyComplete t wrong => Sys2Proof.Machine.execVerifyComplete t wrong s
  | .updateLockTimeout t => Sys2Proof.Machine.execUpdateLockTimeout t s
  | .confirmWindowExpiry t => Sys2Proof.Machine.execConfirmWindowExpiry t s
  | .convertedStoreWritten t => Sys2Proof.Machine.execConvertedStoreWritten t s
  | .romWatchdogExpiry t => Sys2Proof.Machine.execRomWatchdogExpiry t s
  | .vinGood t rom bad => Sys2Proof.Machine.execVinGood t rom bad s
  | .powerFail t => Sys2Proof.Machine.execPowerFail t s
  | .holdUpEnd t => Sys2Proof.Machine.execHoldUpEnd t s
  | .supplyOutOfRange t mV => Sys2Proof.Machine.execSupplyOutOfRange t mV s
  | .supplyRestored t mV => Sys2Proof.Machine.execSupplyRestored t mV s
  | .resetAssert t lowNs => Sys2Proof.Machine.execResetAssert t lowNs s
  | .resetRelease t rom bad => Sys2Proof.Machine.execResetRelease t rom bad s
  | .quietCommand t r => Sys2Proof.Machine.execQuietCommand t r s
  | .quietPinLow t => Sys2Proof.Machine.execQuietPinLow t s
  | .quietPinRise t => Sys2Proof.Machine.execQuietPinRise t s
  | .temperatureOverLimit t d temp => Sys2Proof.Machine.execTemperatureOverLimit t d temp s
  | .temperatureRestored t d temp => Sys2Proof.Machine.execTemperatureRestored t d temp s
  | .thermalTrip t d => Sys2Proof.Machine.execThermalTrip t d s
  | .thermalTripRelease t rom bad => Sys2Proof.Machine.execThermalTripRelease t rom bad s
  | .boundaryScanInstruction t code => Sys2Proof.Machine.execBoundaryScanInstruction t code s
  | .autoNegotiationComplete t p => Sys2Proof.Machine.execAutoNegotiationComplete t p s
  | .arpOrNeighbourReply t p addr => Sys2Proof.Machine.execArpOrNeighbourReply t p addr s
  | .prbsCheckerLock t l => Sys2Proof.Machine.execPrbsCheckerLock t l s
  | .prbsCheckerLockLoss t l errors bits => Sys2Proof.Machine.execPrbsCheckerLockLoss t l errors bits s
  | .canErrorActive t c => Sys2Proof.Machine.execCanErrorActive t c s
  | .suspectWindowExpiry t addr => Sys2Proof.Machine.execSuspectWindowExpiry t addr s
  | .romSlotCheckComplete t slot => Sys2Proof.Machine.execRomSlotCheckComplete t slot s
  | .lowerJunctionLimitReached t rom bad => Sys2Proof.Machine.execLowerJunctionLimitReached t rom bad s
  | .internalRailOrResonatorFailure t => Sys2Proof.Machine.execInternalRailOrResonatorFailure t s
  | .pciePerstDeassert t => Sys2Proof.Machine.execPciePerstDeassert t s

end Sys2Proof.Machine
end

