-- ==== Sys2Proof/Machine/Balls.lean ====
section
/-! DEFINITION. The package's balls and pins (R606 to R613, R616, R623 to R628, R633): which signal each ball carries, its cell of the
boundary-scan chain, its pull, and what the objects set of a pin. -/

namespace Sys2Proof.Machine

/-- The pins of a serial lane: transmit or receive, P or N. -/
structure LanePin where
  tx : Bool
  pos : Bool
  deriving DecidableEq, Repr

/-- The signals of the balls (R607 to R613): of a DisplayPort output its hot plug, AUX (P or N) and lane pins; of the lanes `eth` the
N-lanes, `spl` a Spaydun port's S-lanes (0 A, 1 B) and `pcie` the P-lanes. -/
inductive Ball where
  | gnd
  | vin
  | tst (n : Nat)
  | dpHpd (s : Nat)
  | dpAux (s : Nat) (pos : Bool)
  | dpLane (s l : Nat) (pos : Bool)
  | eth (l : Nat) (pin : LanePin)
  | pcie (l : Nat) (pin : LanePin)
  | refclk (pos : Bool)
  | spl (q l : Nat) (pin : LanePin)
  | can (c : Nat) (high : Bool)
  | touchDrive (p n : Nat)
  | touchSense (p n : Nat)
  | tallyAddr (n : Nat)
  | tallyData (n : Nat)
  | tallyCs
  | tallyOe
  | tallyAlert
  | perst
  | wake
  | gpio (n : Nat)
  | resetN
  | pwrGood
  | tck
  | tms
  | tdi
  | tdo
  | trst
  deriving DecidableEq, Repr

/-- The DisplayPort group of an output at a row offset and a column offset (R608, Table 19.3). -/
def dpBall (s row c : Nat) : Ball :=
  match row, c with
  | 1, 0 => .dpHpd s
  | 1, 1 => .dpAux s true
  | 2, 1 => .dpAux s false
  | 1, 4 => .dpLane s 0 true
  | 1, 5 => .dpLane s 0 false
  | 3, 4 => .dpLane s 1 true
  | 3, 5 => .dpLane s 1 false
  | _, _ => .gnd

/-- A slot's lane pin: `tx` in the transmit row; the first column is P. -/
def slotPin (col : Nat) (tx : Bool) : LanePin := { tx := tx, pos := (col - 7) % 2 = 0 }

/-- The north band (R609). -/
def northBall (row col : Nat) : Ball :=
  let k := (col - 7) / 2
  if col = 49 || row % 2 = 0 then .gnd
  else
    let pin := slotPin col (row = 1)
    if k < 8 then .eth (8 + k) pin
    else if k < 16 then .eth (k - 8) pin
    else if k < 20 then .pcie (k - 16) pin
    else if row = 1 then .refclk pin.pos else .gnd

/-- The south band (R610). -/
def southBall (row col : Nat) : Ball :=
  let k := (col - 7) / 2
  if row % 2 = 0 then .gnd
  else if k < 8 && col < 49 then .spl 1 k (slotPin col (row = 55))
  else if k < 16 then .spl 0 (k - 8) (slotPin col (row = 55))
  else if row ≠ 55 then .gnd
  else match col with
    | 41 => .can 1 true
    | 42 => .can 1 false
    | 47 => .can 0 true
    | 48 => .can 0 false
    | _ => .gnd

/-- A column's entry of the column list of a touch or low-speed block (R611), counted from the block's first column. -/
def colEntry (c : Nat) : Option Nat := if c < 3 then some c else if c = 3 then none else some (c - 1)

/-- A touch block's slot (R611). -/
def touchBall (p i : Nat) : Ball :=
  if i < 64 then .touchDrive p i else if i < 176 then .touchSense p (i - 64) else .gnd

/-- The low-speed block of the east side (R612). -/
def eastBall (i : Nat) : Ball :=
  if i < 12 then .tallyAddr i
  else if i < 28 then .tallyData (i - 12)
  else match i with
    | 28 => .tallyCs
    | 29 => .tallyOe
    | 30 => .tallyAlert
    | 31 => .perst
    | 32 => .wake
    | _ => .gnd

/-- The low-speed block of the west side (R612). -/
def westBall (i : Nat) : Ball :=
  if i < 16 then .gpio i
  else match i with
    | 16 => .resetN
    | 17 => .pwrGood
    | 18 => .tck
    | 19 => .tms
    | 20 => .tdi
    | 21 => .tdo
    | 22 => .trst
    | _ => .gnd

/-- The block of one side: touch port `p` in rows 5 to 34, the low-speed pins in rows 36 to 51; `c` counts from its first column. -/
def sideBall (p row c : Nat) : Ball :=
  match colEntry c with
  | none => .gnd
  | some e =>
    if 5 ≤ row && row ≤ 34 then touchBall p ((row - 5) * 6 + e)
    else if 36 ≤ row && row ≤ 51 then
      let i := (row - 36) * 6 + e
      if p = 0 then eastBall i else westBall i
    else .gnd

/-- The signal of the ball at a row index and a column, 1 to 55 (R607): a ball that no rule names is GND. -/
def ballAt (row col : Nat) : Ball :=
  if row = 2 && col ≤ 6 then .tst (col - 1)
  else if row = 2 && 50 ≤ col then .tst (col - 44)
  else if 4 ≤ row && row ≤ 51 && 50 ≤ col then dpBall ((row - 4) / 4) ((row - 4) % 4) (col - 50)
  else if 4 ≤ row && row ≤ 51 && col ≤ 6 then dpBall (12 + (row - 4) / 4) ((row - 4) % 4) (6 - col)
  else if row ≤ 4 && 7 ≤ col && col ≤ 49 then northBall row col
  else if 52 ≤ row && 7 ≤ col && col ≤ 49 then southBall row col
  else if 24 ≤ row && row ≤ 32 && 24 ≤ col && col ≤ 32 then (if (row + col) % 2 = 0 then .vin else .gnd)
  else if 43 ≤ col && col ≤ 49 then sideBall 0 row (col - 43)
  else if 7 ≤ col && col ≤ 13 then sideBall 1 row (col - 7)
  else .gnd

/-- The letters of a row (Table 19.1): I, O, Q, R, S, X and Z are not used. -/
def rowLetters (row : Nat) : String :=
  let l := "ABCDEFGHJKLMNPTUVWY".toList
  let c := String.singleton (l.getD ((row - 1) % 19) 'A')
  if row ≤ 19 then c else if row ≤ 38 then "A" ++ c else "B" ++ c

/-- The ball's cell of the boundary-scan chain (R633): 6 an IEEE 1149.6 cell of a lane, 1 an IEEE 1149.1 cell, 0 none. The pins of
the test access port itself have none. -/
def Ball.cell : Ball → Nat
  | .gnd | .vin | .tst _ | .tck | .tms | .tdi | .tdo | .trst => 0
  | .dpLane .. | .eth .. | .pcie .. | .spl .. => 6
  | _ => 1

/-- The LVCMOS pins (R623). -/
def Ball.lvcmos : Ball → Bool
  | .gpio _ | .tallyAddr _ | .tallyData _ | .tallyCs | .tallyOe | .tallyAlert | .resetN | .pwrGood | .tck | .tms | .tdi | .tdo | .trst
  | .perst | .wake | .dpHpd _ => true
  | _ => false

/-- The internal pull of a pin (Table 19.9): up or down. -/
def Ball.pull : Ball → Option Bool
  | .resetN | .tms | .tdi | .tallyAlert | .wake => some true
  | .trst | .dpHpd _ => some false
  | _ => none

/-- The open-drain pins (R623). -/
def Ball.openDrain : Ball → Bool
  | .tallyAlert | .wake => true
  | _ => false

/-- Whether a trigger unit owns a GPIO pin; a pin that none owns is an input at high impedance (R623). -/
def State.pinDriven (s : State) (n : Nat) : Bool := (List.range 16).any fun u => s.rn (0x2820 + u) 0x05 = n

/-- Whether the pin of a ball is an output that is not at high impedance: while the package is held in reset only PWRGOOD and the
tally port are not (R616); with a boundary-scan instruction that holds it, the chain drives the pins (R634). -/
def State.drives (s : State) (b : Ball) : Bool :=
  if s.power.phase = .off then false
  else if s.power.scan then b.cell ≠ 0
  else match b with
    | .pwrGood | .tallyData _ | .tallyAlert => true
    | .gpio n => s.alive && s.pinDriven n
    | .eth _ pin | .pcie _ pin | .spl _ _ pin => s.alive && pin.tx
    | .dpAux .. | .dpLane .. | .can .. | .touchDrive .. | .wake | .tdo => s.alive
    | _ => false

/-- Whether a GPIO pin has slow edges (R625, 0x2500:0E). -/
def State.slowEdge (s : State) (n : Nat) : Bool := bit (s.rn 0x2500 0x0E) n

/-- Whether a CAN port's 120 Ω termination is switched in (R628, 0x2500:0D). -/
def State.canTerminated (s : State) (c : Nat) : Bool := bit (s.rn 0x2500 0x0D) c

/-- What the board-table codes set (Table 19.10): the swing in mVppd, the pre- and post-cursor in tenths of a dB, the receive boost in
dB. -/
def swingMv (code : Nat) : Nat := 400 + 50 * code
def cursorTenths (code : Nat) : Nat := 5 * code
def ctleDb (code : Nat) : Nat := code

end Sys2Proof.Machine
end

