-- ==== Sys2Proof/WellFormed.lean ====
section
/-! DEFINITION. The range an operand may take: what the manual counts (Table 0.1, the instance formulas of the object
tables, Table 2.2) bounds the instance numbers; field widths bound the fields of frames and messages. `exec` is total and
takes the ill-formed commands too: an instance that does not exist has no object, unit or port to act on. -/

namespace Sys2Proof

/-- A requester that exists: two CAN ports, ZDP sessions 1 to 8, the host's rings (R517, Table 15.13). -/
def Req.wf : Req → Bool
  | .can c => c < 2
  | .zdp n => 1 ≤ n && n ≤ 8
  | .mailbox q => q < 32
  | .changeSet => true

/-- Four address bytes, or 16 for IPv6. -/
def addrWf (v6 : Bool) (a : List Byte) : Bool := a.length = (if v6 then 16 else 4)

def IpInfo.wf (i : IpInfo) : Bool :=
  addrWf i.v6 i.dstAddr && addrWf i.v6 i.srcAddr && i.srcPort < 65536 && i.dstPort < 65536

def Frame.wf (f : Frame) : Bool :=
  f.dst < 2 ^ 48 && f.etherType < 65536 && f.vid.all (· < 4096) && f.ip.all IpInfo.wf && f.data.length ≤ f.len

def RtpPkt.wf (p : RtpPkt) : Bool :=
  p.version < 4 && p.pt < 128 && p.ssrc < 2 ^ 32 && p.seq < 65536 && p.ts < 2 ^ 32

def RtcpItem.wf : RtcpItem → Bool
  | .sr ssrc sec frac ts => ssrc < 2 ^ 32 && sec < 2 ^ 32 && frac < 2 ^ 32 && ts < 2 ^ 32
  | .bye ssrc => ssrc < 2 ^ 32
  | .other => true

/-- Samples of ten bits, and cores that exist. -/
def PicDesc.wf (d : PicDesc) : Bool :=
  (d.y ++ d.cb ++ d.cr).all (· < 1024) && d.ended.all (fun p => p.1 < 14)

def Sink.wf (k : Sink) : Bool := k.dpcd.length = 16 && k.edid.length % 128 = 0

def EncInfo.wf (i : EncInfo) : Bool := i.ctus.length ≤ 16384 && i.headers.length ≤ 16 && i.recon.all (· < 1024)

/-- A descriptor is 32 bytes (Table 14.6). -/
def DescWire.wf (d : DescWire) : Bool := d.bytes.length = 32

/-- A column has a symbol for each logical lane, of which a port has at most eight. -/
def SpWire.wf (f : SpWire) : Bool := f.cols.all (fun c => c.length ≤ 8)

def TrainSet.wf (t : TrainSet) : Bool :=
  t.lane < 8 && t.mask < 256 && t.pkgPort < 256 && t.flags < 256 && t.check < 256

def PtpMsg.wf (m : PtpMsg) : Bool :=
  m.kind < 16 && m.domain < 256 && m.seqId < 65536 && m.transport < 256 && m.senderIdentity < 2 ^ 80 && m.requester < 2 ^ 80

def ZdpFrame.wf (f : ZdpFrame) : Bool :=
  f.port < 16 && addrWf f.v6 f.dstAddr && f.dstPort < 65536 && addrWf f.v6 f.srcAddr && f.srcPort < 65536

def Item.wf : Item → Bool
  | .picture core => core.all (· < 14)
  | .scan wrong => wrong.all (fun p => p.r < 1024 && p.g < 1024 && p.b < 1024)
  | .frame x => x.wf
  | .write idx sub data => idx < 65536 && sub < 256 && data.length < 2 ^ 32

def Usdo.wf : Usdo → Bool
  | .read i s | .write i s _ | .writeSegment i s _ _ _ | .readSegment i s _ _ => i < 65536 && s < 256

def RomSlots.wf (r : RomSlots) : Bool := r.a < 256 && r.b < 256

/-- The well-formed commands. -/
def Instr.wf : Instr → Bool
  -- requests of objects without an instance number
  | .lvsStatusRead _ r | .healthDeclareDead _ r | .healthReturnToService _ r _ | .healthClearFaultCount _ r
  | .hostOffsetWrite _ r _ | .commitRequest _ r _ | .commitDiscardStaged _ r | .commitCancel _ r
  | .boardTableApply _ r | .zdpDisable _ r | .storeAll _ r _ | .storeCommunication _ r _ | .storeApplication _ r _
  | .restoreDefaultsAll _ r | .restoreDefaultsCommunication _ r | .restoreDefaultsApplication _ r | .configExport _ r
  | .configImport _ r _ | .errorHistoryClear _ r | .fastReadMapWrite _ r _ | .changeSetWrite _ r _
  | .systemAbortChange _ r | .systemAdopt _ r | .systemDeclareDead _ r | .systemRejoin _ r | .updateOpen _ r
  | .updateClose _ r | .updateFinish _ r | .updateActivate _ r | .updateConfirm _ r | .updateFallBack _ r
  | .updateAbandon _ r | .updateRevokeKey _ r | .updateChunk _ r _ | .quietCommand _ r | .partTransferTimeout _ r
    => r.wf
  | .addressSelect _ r a | .receiptSelect _ r a => r.wf && a < 2 ^ 32
  | .recordSelect _ r a => r.wf && a < 2 ^ 64
  | .servoSourceWrite _ r v | .setPointRequest _ r v => r.wf && v < 256
  | .checkUnitConfigure _ r sub v => r.wf && sub < 256 && v < 2 ^ 64
  | .checkRunningValueWrite _ r v => r.wf && v < 2 ^ 64
  | .dictionaryWrite _ r idx sub _ | .counterReadClear _ r idx sub | .readPart _ r idx sub _ _
  | .writePart _ r idx sub _ _ _ => r.wf && idx < 65536 && sub < 256
  -- sessions
  | .mappingAgeExpiry _ n | .reorderWindowExpiry _ n | .accessUnitRelease _ n | .rtcpRrSend _ n | .joinTimeout _ n
  | .starvationTimeout _ n | .relayPictureTimeout _ n => n < 160
  | .rtpPacket _ n p => n < 160 && p.wf
  | .rtcpPacket _ n _ items => n < 160 && items.all RtcpItem.wf
  | .pictureComplete _ n d => n < 160 && d.wf
  | .leaseEnd _ n b => n < 160 && b < 4
  | .sessionOpen _ r n _ | .sessionClose _ r n | .sessionRelease _ r n | .sessionResync _ r n => r.wf && n < 160
  | .startWaitRead _ r n => r.wf && n.all (· < 160)
  -- screens; a screen has at most 150 strips (2,400 lines of 16)
  | .layerLatch _ s | .commitSamplePoint _ s | .pressComplete _ s | .frameStart _ s | .blankingStart _ s
  | .timingApplyRunning _ s | .hpdUnplug _ s | .linkTrainingComplete _ s _ _ _ => s < 24
  | .hpdIrq _ s v a => s < 24 && v < 65536 && a < 256
  | .lvsStripRecheck _ s k | .stripComposeStart _ s k | .stripDrop _ s k | .sramUncorrectableError _ s k _ _
    => s < 24 && k < 150
  | .stripWrite _ s c k => s < 24 && c < 24 && k < 150
  | .lineMatch _ s line => s < 24 && line < 65536
  | .hpdRise _ s k => s < 24 && k.wf
  | .timingApply _ r s => r.wf && s < 24
  | .dpPrbsGenerator _ r s code => r.wf && s < 24 && code < 256
  | .readBackCompare _ slot _ => slot < 256
  | .toneMapApply _ r m => r.wf && m < 64
  -- dies, regions, units
  | .lvsFault .. | .lvsSelfTestDone .. | .lvsSelfTestRetry .. | .dieHeartbeatSend .. | .dieHeartbeatTimeout ..
  | .dieTimeCompare .. | .processorWatchdogExpiry .. | .processorRestartComplete .. | .temperatureOverLimit ..
  | .temperatureRestored .. | .thermalTrip .. | .dieLinkCrcFailure .. => true
  | .paceLow _ region _ | .paceRestored _ region _ => region < 6
  | .unitSoftFault _ a | .correctedSramError _ a | .unitHardFault _ a | .retestComplete _ a _ | .sparePeriodicTest _ a _
  | .suspectWindowExpiry _ a => a < 2 ^ 32
  | .staleEpochTransfer _ a e => a < 2 ^ 32 && e < 65536
  -- Ethernet ports and quads
  | .quadModeChange _ r q mode => r.wf && q < 4 && mode < 256
  | .quadLanesUp _ q => q < 4
  | .ethernetFrameDiscard _ p f | .rawFrameToHost _ p f => p < 16 && f.wf
  | .arpRequest _ p a sender => p < 16 && a < 2 ^ 32 && sender.length = 6
  | .icmpEchoRequest _ p v6 target _ => p < 16 && addrWf v6 target
  | .neighbourSolicitation _ p target => p < 16 && addrWf true target
  | .multicastQuery _ p _ v => p < 16 && v < 4
  | .ptpMessage _ p m _ => p < 16 && m.wf
  | .ptpAnnounceTimeout _ p | .ptpMasterSend _ p | .autoNegotiationComplete _ p => p < 16
  | .arpOrNeighbourReply _ p a => p < 16 && (addrWf false a || addrWf true a)
  -- triggers, capture, cores
  | .triggerArm _ r u m => r.wf && u < 16 && m < 256
  | .triggerDisarm _ r u | .triggerLateRead _ r u => r.wf && u < 16
  | .triggerFire _ u | .triggerPulseEnd _ u => u < 16
  | .captureEdge _ c _ => c < 8
  | .captureRecordRead _ r c => r.wf && c < 8
  | .segmentDispatch _ g => g.core < 14 && g.ended.all (fun p => p.1 < 14)
  -- encode contexts, coder engines and contexts
  | .encodeStart _ r e ssrc seq => r.wf && e < 16 && ssrc < 2 ^ 32 && seq < 65536
  | .encodeStop _ r e => r.wf && e < 16
  | .encodePictureComplete _ e i => e < 16 && i.wf
  | .mirrorPacketSend _ e | .mirrorSrSend _ e | .nextHopResolve _ e => e < 16
  | .zttMessage _ (.ring q d) b => q < 32 && DescWire.wf ⟨d, b⟩
  | .zttMessage _ (.udp p _ _ d s) _ => p < 16 && d < 65536 && s < 65536
  | .zttMessageDispatch _ g | .zttMessageApplied _ g => g < 4
  | .blockCompress _ c input _ => c < 168 && input.length ≤ 16384
  | .compressResume _ c _ | .decompressResume _ c _ _ => c < 168
  -- touch
  | .touchFrameStart _ p => p < 2
  | .touchFrameProcessed _ p counts _ _ => p < 2 && counts.length ≤ 7168 && counts.all (· < 4096)
  | .touchPortEnable _ r p | .touchPortDisable _ r p | .touchCaptureReference _ r p | .touchAcquireBaselines _ r p
  | .touchEraseReferences _ r p => r.wf && p < 2
  | .touchGeometryWrite _ r p sub v => r.wf && p < 2 && 2 ≤ sub && sub ≤ 6 && v < 65536
  | .zoneEnable _ r z | .zoneDisable _ r z => r.wf && z < 32
  -- memory: eight windows, eight channels
  | .refreshDue _ bursts => bursts.all (fun b => b.1 < 8)
  | .dramTemperaturePoll _ temps => temps.length ≤ 8
  | .setPointTrainingDone .. | .refreshEnd _ | .demandMeasure .. | .setPointChangeStart _ => true
  | .dramTrainingComplete _ reached => reached.length = 8
  | .scrubPass _ e => e.length ≤ 8
  | .dramCorrectedError _ w => w < 8
  | .dramUncorrectableError _ w a _ => w < 8 && a < 2 ^ 40
  -- lanes and Spaydun ports
  | .laneLockGain _ l => l.lane < 36 && l.line.all (fun x => x.2 < 10)
  | .laneLockLoss _ l | .prbsCheckerLock _ l => l.lane < 36
  | .prbsCheckerLockLoss _ l _ _ => l < 36
  | .laneTestMode _ r l code | .prbsGenerator _ r l code | .prbsChecker _ r l code => r.wf && l < 36 && code < 256
  | .lintSetSend _ q | .elasticError _ q | .spaydunTrainingTimeout _ q | .restripeTimeout _ q | .retransmitTimeout _ q
  | .ackOnlySend _ q | .spaydunFrameSend _ q | .timeMarkSend _ q => q < 2
  | .lintSetReceive _ q fill => q < 2 && fill ≤ 16
  | .spaydunPortEnable _ r q | .spaydunPortDisable _ r q => r.wf && q < 2
  | .laneLockHold _ q l | .restoreHoldExpiry _ q l => q < 2 && l < 8
  | .trainingSet _ q ts => q < 2 && ts.wf
  | .timeMark _ q f | .acknowledgement _ q f | .pixelStrip _ q f | .streamRelay _ q f | .presence _ q f
  | .rejoinRequest _ q f | .rejoinGrant _ q f | .imagePart _ q f | .relayOpen _ q f | .relayResult _ q f
  | .relayClose _ q f | .relayResync _ q f | .stage _ q f | .staged _ q f | .arm _ q f | .armed _ q f | .applied _ q f
  | .abort _ q f | .digestFrame _ q f => q < 2 && f.wf
  -- PCIe
  | .pcieFunctionReset _ kind => kind < 4
  | .pcieFunctionReady _ | .pciePerstDeassert _ => true
  | .pcieLinkUp _ speed width => speed < 4 && width ≤ 4
  | .ringEnable _ q | .ringDisable _ q | .eventBufferTimeout _ q | .interruptModerationExpiry _ q => q < 32
  | .busError _ q _ => q < 32
  | .doorbell _ q i | .writeBackConsumer _ q i => q < 32 && i < 2 ^ 32
  | .functionEventClear _ b => b < 2 ^ 32
  | .barRegisterWrite _ off size v => off < 65536 && size ≤ 8 && v < 2 ^ 64
  | .rawTransmit _ q d _ | .rawReceiveDescriptor _ q d | .mailboxRequest _ q d | .eventBufferDescriptor _ q d
  | .touchReportDescriptor _ q d => q < 32 && d.wf
  -- CAN, TPDOs, ZDP
  | .usdoRequest _ c u => c < 2 && u.wf
  | .usdoSegmentTimeout _ c | .nmtStart _ c | .nmtStop _ c | .nmtEnterPreOperational _ c | .nmtResetNode _ c
  | .nmtResetCommunication _ c | .sync _ c | .canHeartbeatSend _ c | .emcySend _ c | .canBusOff _ c
  | .canBusOffRecovered _ c | .canErrorActive _ c => c < 2
  | .canErrorPassive _ c tec rc => c < 2 && tec < 256 && rc < 256
  | .canPortEnable _ r c | .canPortDisable _ r c => r.wf && c < 2
  | .tpdoEventTimer _ k | .tpdoChange _ k => k < 8
  | .zdpHello _ f nonce => f.wf && nonce.length = 16
  | .zdpRequest _ f | .zdpClose _ f => f.wf
  | .zdpIdleTimeout _ n => 1 ≤ n && n ≤ 8
  | .zdpKeyWrite _ r slot _ => r.wf && slot < 4
  -- events, checks, tally
  | .eventArbitrate _ a => a < 2 ^ 32
  | .checkItem _ u i => u < 48 && Item.wf i
  | .fastReadSnapshot _ k => k < 256
  -- the system's packages
  | .packageAbsent _ p | .joinGraceExpiry _ p => p < 16
  -- events of the package itself
  | .survivorReloadComplete _ | .servoLossTimeout _ | .uRefresh _ | .leaseWaitLimit _ | .dictionaryLoaded ..
  | .tallySummaryRead _ | .tallyCheckWordUpdate _ | .fastReadRefresh _ | .presenceSend _ | .selfFence _
  | .rejoinRequestSend _ | .changeSetStageTimeout _ | .changeSetArmTimeout _ | .changeSetApply _ | .changeSetSettled _
  | .digestBroadcast _ | .chunkProgrammed _ | .verifyComplete .. | .updateLockTimeout _ | .confirmWindowExpiry _
  | .convertedStoreWritten _ | .romWatchdogExpiry _ | .powerFail _ | .holdUpEnd _ | .supplyOutOfRange ..
  | .supplyRestored .. | .resetAssert .. | .quietPinLow _ | .quietPinRise _ | .scheduledCommitDue ..
  | .internalRailOrResonatorFailure _ | .boundaryScanInstruction .. => true
  | .vinGood _ r l | .resetRelease _ r l | .thermalTripRelease _ r l => r.wf && l.all (· < 2 ^ 32)
  | .lowerJunctionLimitReached _ r l => r.all RomSlots.wf && l.all (· < 2 ^ 32)
  | .romSlotCheckComplete _ c => c.verdict < 256 && c.bad.all (· < 2 ^ 32)

end Sys2Proof
end

