-- ==== Sys2Proof/Safety.lean ====
section
/-! DEFINITION. What counts as a safe run, in the terms the claims use: a step that answers a next state, and the invariants a
safe state keeps. -/

namespace Sys2Proof

/-- The tick a command carries (R159, log 1). -/
def Instr.at : Instr → Nat
  | .dictionaryWrite t .. | .counterReadClear t .. | .mappingAgeExpiry t .. | .layerLatch t ..
  | .lvsStripRecheck t .. | .readBackCompare t .. | .lvsFault t .. | .lvsSelfTestDone t .. | .lvsSelfTestRetry t ..
  | .lvsStatusRead t .. | .dieHeartbeatSend t .. | .dieHeartbeatTimeout t .. | .dieLinkCrcFailure t ..
  | .survivorReloadComplete t .. | .dieTimeCompare t .. | .processorWatchdogExpiry t ..
  | .processorRestartComplete t .. | .paceLow t .. | .paceRestored t .. | .unitSoftFault t ..
  | .correctedSramError t .. | .unitHardFault t .. | .retestComplete t .. | .staleEpochTransfer t ..
  | .sparePeriodicTest t .. | .addressSelect t .. | .healthDeclareDead t .. | .healthReturnToService t ..
  | .healthClearFaultCount t .. | .quadModeChange t .. | .quadLanesUp t .. | .ethernetFrameDiscard t ..
  | .arpRequest t .. | .icmpEchoRequest t .. | .neighbourSolicitation t .. | .multicastQuery t ..
  | .rawFrameToHost t .. | .rtpPacket t .. | .reorderWindowExpiry t .. | .accessUnitRelease t .. | .rtcpPacket t ..
  | .rtcpRrSend t .. | .sessionOpen t .. | .sessionClose t .. | .sessionRelease t .. | .sessionResync t ..
  | .joinTimeout t .. | .starvationTimeout t .. | .ptpMessage t .. | .ptpAnnounceTimeout t .. | .ptpMasterSend t ..
  | .hostOffsetWrite t .. | .servoSourceWrite t .. | .servoLossTimeout t .. | .uRefresh t .. | .timeMarkSend t ..
  | .timeMark t .. | .triggerArm t .. | .triggerDisarm t .. | .triggerFire t .. | .triggerPulseEnd t ..
  | .triggerLateRead t .. | .captureEdge t .. | .captureRecordRead t .. | .segmentDispatch t ..
  | .pictureComplete t .. | .startWaitRead t .. | .toneMapApply t .. | .commitRequest t ..
  | .commitDiscardStaged t .. | .commitCancel t .. | .commitSamplePoint t .. | .scheduledCommitDue t ..
  | .receiptSelect t .. | .pressComplete t .. | .leaseEnd t .. | .leaseWaitLimit t .. | .frameStart t ..
  | .stripComposeStart t .. | .stripWrite t .. | .stripDrop t .. | .blankingStart t .. | .lineMatch t ..
  | .timingApply t .. | .timingApplyRunning t .. | .linkTrainingComplete t .. | .hpdRise t .. | .hpdIrq t ..
  | .hpdUnplug t .. | .dpPrbsGenerator t .. | .encodeStart t .. | .encodeStop t .. | .encodePictureComplete t ..
  | .mirrorPacketSend t .. | .mirrorSrSend t .. | .nextHopResolve t .. | .zttMessage t ..
  | .zttMessageDispatch t .. | .zttMessageApplied t .. | .blockCompress t .. | .compressResume t ..
  | .decompressResume t .. | .touchFrameStart t .. | .touchFrameProcessed t .. | .touchPortEnable t ..
  | .touchPortDisable t .. | .touchGeometryWrite t .. | .touchCaptureReference t .. | .touchAcquireBaselines t ..
  | .touchEraseReferences t .. | .zoneEnable t .. | .zoneDisable t .. | .refreshDue t .. | .refreshEnd t ..
  | .dramTemperaturePoll t .. | .demandMeasure t .. | .setPointRequest t .. | .setPointChangeStart t ..
  | .setPointTrainingDone t .. | .dramTrainingComplete t .. | .scrubPass t .. | .dramCorrectedError t ..
  | .dramUncorrectableError t .. | .sramUncorrectableError t .. | .laneLockGain t .. | .laneLockLoss t ..
  | .boardTableApply t .. | .lintSetSend t .. | .lintSetReceive t .. | .elasticError t .. | .laneTestMode t ..
  | .prbsGenerator t .. | .prbsChecker t .. | .spaydunPortEnable t .. | .spaydunPortDisable t ..
  | .laneLockHold t .. | .trainingSet t .. | .spaydunTrainingTimeout t .. | .restripeTimeout t ..
  | .restoreHoldExpiry t .. | .retransmitTimeout t .. | .ackOnlySend t .. | .acknowledgement t ..
  | .spaydunFrameSend t .. | .pixelStrip t .. | .streamRelay t .. | .relayPictureTimeout t ..
  | .pcieFunctionReset t .. | .pcieFunctionReady t .. | .pcieLinkUp t .. | .ringEnable t .. | .ringDisable t ..
  | .doorbell t .. | .writeBackConsumer t .. | .functionEventClear t .. | .barRegisterWrite t ..
  | .rawTransmit t .. | .rawReceiveDescriptor t .. | .mailboxRequest t .. | .eventBufferDescriptor t ..
  | .eventBufferTimeout t .. | .touchReportDescriptor t .. | .busError t .. | .interruptModerationExpiry t ..
  | .readPart t .. | .writePart t .. | .partTransferTimeout t .. | .usdoRequest t .. | .usdoSegmentTimeout t ..
  | .nmtStart t .. | .nmtStop t .. | .nmtEnterPreOperational t .. | .nmtResetNode t ..
  | .nmtResetCommunication t .. | .sync t .. | .tpdoEventTimer t .. | .tpdoChange t .. | .canHeartbeatSend t ..
  | .emcySend t .. | .canErrorPassive t .. | .canBusOff t .. | .canBusOffRecovered t .. | .canPortEnable t ..
  | .canPortDisable t .. | .zdpHello t .. | .zdpRequest t .. | .zdpClose t .. | .zdpIdleTimeout t ..
  | .zdpKeyWrite t .. | .zdpDisable t .. | .storeAll t .. | .storeCommunication t .. | .storeApplication t ..
  | .restoreDefaultsAll t .. | .restoreDefaultsCommunication t .. | .restoreDefaultsApplication t ..
  | .configExport t .. | .configImport t .. | .errorHistoryClear t .. | .dictionaryLoaded t ..
  | .eventArbitrate t .. | .recordSelect t .. | .checkItem t .. | .checkUnitConfigure t ..
  | .checkRunningValueWrite t .. | .tallySummaryRead t .. | .fastReadSnapshot t .. | .tallyCheckWordUpdate t ..
  | .fastReadRefresh t .. | .fastReadMapWrite t .. | .presenceSend t .. | .presence t .. | .packageAbsent t ..
  | .joinGraceExpiry t .. | .selfFence t .. | .rejoinRequestSend t .. | .rejoinRequest t .. | .rejoinGrant t ..
  | .imagePart t .. | .relayOpen t .. | .relayResult t .. | .relayClose t .. | .relayResync t ..
  | .changeSetWrite t .. | .stage t .. | .staged t .. | .changeSetStageTimeout t .. | .arm t .. | .armed t ..
  | .changeSetArmTimeout t .. | .changeSetApply t .. | .changeSetSettled t .. | .applied t .. | .abort t ..
  | .systemAbortChange t .. | .systemAdopt t .. | .systemDeclareDead t .. | .systemRejoin t ..
  | .digestBroadcast t .. | .digestFrame t .. | .updateOpen t .. | .updateClose t .. | .updateFinish t ..
  | .updateActivate t .. | .updateConfirm t .. | .updateFallBack t .. | .updateAbandon t .. | .updateRevokeKey t ..
  | .updateChunk t .. | .chunkProgrammed t .. | .verifyComplete t .. | .updateLockTimeout t ..
  | .confirmWindowExpiry t .. | .convertedStoreWritten t .. | .romWatchdogExpiry t .. | .vinGood t ..
  | .powerFail t .. | .holdUpEnd t .. | .supplyOutOfRange t .. | .supplyRestored t .. | .resetAssert t ..
  | .resetRelease t .. | .quietCommand t .. | .quietPinLow t .. | .quietPinRise t .. | .temperatureOverLimit t ..
  | .temperatureRestored t .. | .thermalTrip t .. | .thermalTripRelease t .. | .boundaryScanInstruction t ..
  | .autoNegotiationComplete t .. | .arpOrNeighbourReply t .. | .prbsCheckerLock t .. | .prbsCheckerLockLoss t ..
  | .canErrorActive t .. | .suspectWindowExpiry t .. | .romSlotCheckComplete t .. | .lowerJunctionLimitReached t ..
  | .internalRailOrResonatorFailure t .. | .pciePerstDeassert t .. => t

namespace Machine

/-- The time value is one that 0x2800:01 can carry: nanoseconds below 10^9 (R164), a fraction below 2^32 ns. -/
def TimeS.ok (t : TimeS) : Bool := t.ns < 1000000000 && t.frac < 4294967296

/-- Every byte store of the part is in its canonical form: the frame buffers, the surfaces, the MSI-X table. -/
def State.memoryOk (s : State) : Bool :=
  s.screens.all (fun p => Memory.wf p.2.buffer) && s.gfx.all (fun p => p.2.bufs.all (fun q => Memory.wf q.2.data)) &&
    Memory.wf s.pcie.msix

/-- The keys of every table a dictionary value stands in rise strictly: one value to an object. -/
def State.tablesOk (s : State) : Bool := Tab.wf s.od && Tab.wf s.force && Tab.wf s.units && Tab.wf s.screens && Tab.wf s.layers

/-- A safe state: a legal time value, canonical byte stores and tables. -/
def State.safe (s : State) : Bool := s.time.ok && s.memoryOk && s.tablesOk

/-- The dictionary answers and the requester may write: a write of it is checked by range alone (R502, R514 to R516, R528). -/
def State.takes (s : State) (r : Req) : Bool :=
  s.dictReady && !s.readOnlyReq r && !s.writesOff r && decide (r ≠ .changeSet)

/-- The dictionary answers the requester's reads. -/
def State.answers (s : State) (r : Req) : Bool := s.dictReady && decide (r ≠ .changeSet)

/-- Every dictionary value stays as it was but those at the keys listed. -/
def State.odSame (s s' : State) (ks : List Nat) : Prop := ∀ k, k ∉ ks → s'.od.look k = s.od.look k

/-- A saturating counter has gone up by `n`, or to its maximum (R13, Table 0.4). -/
def State.counted (s s' : State) (idx sub n : Nat) : Prop :=
  ∀ o, findObj idx sub = some o → s.rn idx sub ≤ o.ty.maxNat → s'.rn idx sub = min o.ty.maxNat (s.rn idx sub + n)

/-- A source unit's queue of events has grown at its end, by an event of this type, severity and payload among others, with
its source's address and the time (R537 to R542); stated where the queue has room for the few events a command raises. -/
def State.raised (s s' : State) (k ty sev : Nat) (pay : List (Nat × Nat)) : Prop :=
  (s.log.queues.at' k []).length < 12 → ∃ l e, s'.log.queues.at' k [] = s.log.queues.at' k [] ++ l ∧ e ∈ l ∧
    e.ty = ty ∧ e.sev = sev ∧ e.src = s.addrOf k ∧ e.sec = (s.clockOf (keyDie k)).1 ∧ e.ns = (s.clockOf (keyDie k)).2 ∧ e.pay = pay

/-- A step is safe where it answers a next state: it neither faults nor refuses. -/
def Safe (s : State) : Prop := ∃ s', step s = .next s'

end Machine
end Sys2Proof
end

