-- ==== Sys2Proof/Certificates/Slice0/Obligations.lean ====
section
/-! DEFINITION. The statements for the provers: what the commands and the block as a whole do, from the numbered rules of the
manual. -/

open Sys2Proof Sys2Proof.Machine

/-! ### The block as a whole -/

/-- What a step does with a waiting command. -/
def Obligations.StepRunsTheFrontCommand : Prop :=
  ∀ (s : State) (c : Instr) (rest : List Instr),
    s.pending = c :: rest → step s = exec c { s with pending := rest }

/-- Every step answers a next state; with nothing waiting, the same one (the model's choice: log 6). -/
def Obligations.StepNeverStops : Prop :=
  ∀ s : State, (∃ s', step s = .next s') ∧ (s.pending = [] → step s = .next s)

/-- A step takes one command, and leaves the clock at the later of where it stood and the command's tick (log 1): no
command touches the queue, and time never goes back. -/
def Obligations.StepKeepsQueueAndClock : Prop :=
  ∀ (s s' : State) (c : Instr) (rest : List Instr), s.pending = c :: rest → step s = .next s' →
    s'.pending = rest ∧ s'.clock = max s.clock c.at

/-- R590, R591: no step changes what is programmed once, but for the revoked bits, and a revoked bit never clears. -/
def Obligations.StepKeepsOneTimeValues : Prop :=
  ∀ s s' : State, step s = .next s' →
    s'.otp = { s.otp with revoked := s'.otp.revoked } ∧ ∀ k, s.otp.revoked.testBit k = true → s'.otp.revoked.testBit k = true

/-- R164: the time value stays one that a TIME96 can carry. -/
def Obligations.StepKeepsTimeValueLegal : Prop :=
  ∀ s s' : State, s.time.ok = true → step s = .next s' → s'.time.ok = true

/-- Reset leaves a safe state: a legal time value, canonical byte stores and tables, and no command waiting. -/
def Obligations.ResetStateIsSafe : Prop := State.reset.safe = true ∧ State.reset.pending = []

/-- R375 to R380: what one end codes from a primed dictionary, the other end decodes, and both end with the same
dictionary. R378's two widths differ at a FLUSH that follows a code exactly where the next entry would widen the code,
which the hypothesis leaves out. -/
def Obligations.DecoderUndoesEncoder : Prop :=
  ∀ primer input : List Byte,
    let e := input.foldl encByte ⟨primed primer, none, []⟩
    let code := (flushed e).flatten
    (e.cur = none ∨ dictFull e.learnt = true ∨ codeWidth (topEntry e.learnt + 1) = codeWidth (topEntry e.learnt)) →
      code.length % 8 = 0 ∧
      decodeRun (primed primer) input.length (code.length + 1) (primed primer) none code [] = ⟨0, e.learnt, none, input⟩

/-- R12: when an N-bit wrapping counter's value is after another, equal to it, or neither. -/
def Obligations.SerialOrderIsTheManuals : Prop :=
  ∀ n a b : Nat, 1 ≤ n →
    let d := ((a : Int) - (b : Int)) % ((2 ^ n : Nat) : Int)
    (serialAfter n a b = true ↔ 1 ≤ d ∧ d ≤ ((2 ^ (n - 1) : Nat) : Int) - 1) ∧
    (serialEq n a b = true ↔ d = 0) ∧
    (d = ((2 ^ (n - 1) : Nat) : Int) → serialAfter n a b = false) ∧
    ¬(serialAfter n a b = true ∧ serialAfter n b a = true)

/-- R13, Table 0.4: a saturating counter never passes its maximum and never falls by an increment; one that stands at its
maximum is left alone, and the increment that reaches it puts one counter saturated event in its source's queue. -/
def Obligations.SaturatingCountersSaturate : Prop :=
  ∀ (s : State) (k idx sub n : Nat) (o : Obj), findObj idx sub = some o → s.rn idx sub ≤ o.ty.maxNat →
    let s' := s.bump k idx sub n
    s'.rn idx sub = min o.ty.maxNat (s.rn idx sub + n) ∧
    (s.rn idx sub + n < o.ty.maxNat ∨ s.rn idx sub = o.ty.maxNat → s'.log = s.log) ∧
    (s.rn idx sub < o.ty.maxNat → o.ty.maxNat ≤ s.rn idx sub + n → key idx sub ≠ key 0x2200 5 →
      (s.log.queues.at' k []).length < 16 →
        ∃ e, s'.log.queues.at' k [] = s.log.queues.at' k [] ++ [e] ∧ e.ty = 0x0003 ∧ e.sev = 1)

/-- R509: the byte image of a number of a basic type is the type's size, and reads back as the number. -/
def Obligations.ValueImagesReadBack : Prop :=
  ∀ (ty : Ty) (n : Nat) (v : Int), ty.isNum = true → ty.size = some n → 1 ≤ n →
    (if ty.signed then -((2 ^ (8 * n - 1) : Nat) : Int) ≤ v ∧ v < ((2 ^ (8 * n - 1) : Nat) : Int)
      else 0 ≤ v ∧ v < ((2 ^ (8 * n) : Nat) : Int)) →
    (encodeVal ty (.num v)).length = n ∧ decodeVal ty (encodeVal ty (.num v)) = some (.num v)

/-- R552: a status word has odd parity over its 16 bits, and keeps bits [14:0]. -/
def Obligations.StatusWordsHaveOddParity : Prop :=
  ∀ v : Nat, oddParity v < 2 ^ 16 ∧ popCount 16 (oddParity v) % 2 = 1 ∧ oddParity v % 2 ^ 15 = v % 2 ^ 15

/-- R540: a source unit's queue of events never grows past 16; an event that finds it full is dropped and counted. -/
def Obligations.EventQueuesHoldSixteen : Prop :=
  ∀ (s : State) (k j : Nat) (e : Ev),
    ((s.log.queues.at' j []).length ≤ 16 → ((s.enqueue k e).log.queues.at' j []).length ≤ 16) ∧
    (16 ≤ (s.log.queues.at' k []).length →
      (s.enqueue k e).log.queues = s.log.queues ∧
      ((s.enqueue k e).rn 0x2200 5 = min 0xFFFFFFFF (s.rn 0x2200 5 + 1) ∨ 0xFFFFFFFF < s.rn 0x2200 5))

/-- R16: a refused write leaves the state as it was and answers its error code: one that the checks of Table 15.4 refuse, and
one that the object's own rule refuses, but for the result code of a timing apply, the record number of an import and the answer
to a change set (stated command by command), and for the writes whose answer leaves before their effect. -/
def Obligations.RefusedWriteChangesNothing : Prop :=
  ∀ (t : Nat) (r : Req) (idx sub : Nat) (data : List Byte) (s : State),
    let u := s.tick t
    (∀ code, u.checkWrite r idx sub data = .error code →
      exec (.dictionaryWrite t r idx sub data) s = .next (u.respond r idx sub code [])) ∧
    ((u.writeBy r idx sub data).2 ≠ 0 → answeredFirst idx sub = false →
      (idx < 0x4800 ∨ 0x4818 ≤ idx ∨ sub ≠ 0x13) → (idx ≠ 0x2001 ∨ sub ≠ 0x02) → (idx ≠ 0x6800 ∨ sub ≠ 0x0D) →
      exec (.dictionaryWrite t r idx sub data) s = .next (u.respond r idx sub (u.writeBy r idx sub data).2 []))

/-! ### What each command does -/

/-- R13, R16, R17: a write of a legal value to an object that does nothing else takes it, and one out of range is answered 6 and changes
nothing; a write of 0
clears any saturating counter, and 0x2000:07 then holds its index, its subindex, the count of read-clears and the value
cleared (DICTIONARY_WRITE, COUNTER_READ_CLEAR). -/
def Obligations.PlainWritesAndReadClears : Prop :=
  ∀ (s : State) (t : Nat) (r : Req),
    let u := s.tick t
    u.takes r = true →
    (∀ v, 100 ≤ v → v ≤ 60000 → ∃ s', exec (.dictionaryWrite t r 0x2100 0x0B (leBytes 2 v)) s = .next s' ∧
      s'.rn 0x2100 0x0B = v ∧ s'.out = .resp r 0x2100 0x0B 0 [] :: u.out ∧ u.odSame s' [key 0x2100 0x0B] ∧
      s' = { u with od := s'.od, out := s'.out, partWrites := s'.partWrites }) ∧
    (∀ v, v < 65536 → v < 100 ∨ 60000 < v →
      exec (.dictionaryWrite t r 0x2100 0x0B (leBytes 2 v)) s = .next { u with out := .resp r 0x2100 0x0B 6 [] :: u.out }) ∧
    (∀ idx sub o v data, findObj idx sub = some o → o.sat = false → o.acc = .rw → decodeVal o.ty data = some v →
      sizeOk o data.length = true → o.ty.valOk v = true → o.chk.ok v = true →
      (0x1004 ≤ idx ∧ idx < 0x1010) ∨ (0x1012 ≤ idx ∧ idx < 0x1A00) ∨ (0x2840 ≤ idx ∧ idx < 0x2848 ∧ sub ≠ 2) ∨
        (0x3420 ≤ idx ∧ idx < 0x3510) ∨ (0x4800 ≤ idx ∧ idx < 0x5000 ∧ sub ≠ 0x13) ∨ (0x6010 < idx ∧ idx < 0x6400) ∨
        (0x6440 ≤ idx ∧ idx < 0x6458 ∧ sub ≠ 1 ∧ sub ≠ 0x0B) →
      ∃ s', exec (.dictionaryWrite t r idx sub data) s = .next s' ∧ s'.val idx sub = v ∧
        s'.out = .resp r idx sub 0 [] :: u.out ∧ u.odSame s' [key idx sub] ∧
        s' = { u with od := s'.od, out := s'.out, partWrites := s'.partWrites }) ∧
    (∀ idx sub o, findObj idx sub = some o → o.sat = true → u.portRefuses idx = false →
      idx ≠ 0x2100 → idx ≠ 0x2300 → idx ≠ 0x2500 → ∃ s', exec (.counterReadClear t r idx sub) s = .next s' ∧
        s'.rn idx sub = 0 ∧
        s'.rb 0x2000 0x07 = leBytes 2 idx ++ leBytes 1 sub ++ [0] ++
          leBytes 4 (wrapInc 32 (leNat ((u.rb 0x2000 0x07).drop 4 |>.take 4))) ++ leBytes 8 (u.rn idx sub) ∧
        s'.out = .resp r idx sub 0 [] :: u.out ∧ u.odSame s' [key idx sub, key 0x2000 0x07] ∧
        s' = { u with od := s'.od, out := s'.out, partWrites := s'.partWrites })

/-- R25, R67, R68, R70 to R72, R272: what LVS and the latch do at their moments. A mapping past its age stops being one; a latch of
a running screen is done once in a frame, and with no layer and no commit it fixes a plan of no layers; a strip check marks U's fault
for the rest of the frame and creases every LIVE segment that is too old or under that fault; a stitch whose marks all arrived with
its value is compared equal, any other is a mismatch (MAPPING_AGE_EXPIRY, LAYER_LATCH, LVS_STRIP_RECHECK, READ_BACK_COMPARE). -/
def Obligations.LiveChecksFollowTheScan : Prop :=
  ∀ (s : State) (t : Nat),
    let u := s.tick t
    (∀ n v, (u.ses n).sr = some v → v.2.2 + u.rn 0x5000 0x06 * sTicks < u.clock →
      ∃ s', exec (.mappingAgeExpiry t n) s = .next s' ∧ (s'.ses n).mapOk = false ∧ (∀ m, m ≠ n → s'.ses m = u.ses m) ∧
        s' = { u with sess := s'.sess }) ∧
    (∀ x, (u.screen x).run = true → (u.screen x).latched = false → u.member x = false → x < 24 →
      ∃ s', exec (.layerLatch t x) s = .next s' ∧ (s'.screen x).latched = true ∧
        (u.unavailable x = false → u.restarting (x / 12) .cmp = false → u.idleSpare = false → u.layersOn x = [] → u.commits = [] →
          (s'.screen x).implicit = true ∧ (∀ y, y ≠ x → s'.screen y = u.screen y) ∧
          (∃ p, (if (u.screen x).plan = none then (s'.screen x).plan else (s'.screen x).next) = some p ∧ p.layers = [] ∧
            p.frame = wrapInc 32 (u.rn (scrIdx x) 0x16)) ∧
          s' = { u with od := s'.od, screens := s'.screens, encs := s'.encs })) ∧
    (∀ x, (u.screen x).latched = true → exec (.layerLatch t x) s = .next u) ∧
    (∀ x k, (u.screen x).run = true → (u.screen x).service = false → u.lvsStopped (x / 12) = false → u.screenFence x = none →
      ∃ s', exec (.lvsStripRecheck t x k) s = .next s' ∧
        (s'.screen x).uFault = (!u.lockedFor (x / 12) || (u.screen x).uFault) ∧
        (∀ e ∈ (u.screen x).crease, e ∈ (s'.screen x).crease) ∧
        (∀ e ∈ (s'.screen x).crease, e ∈ (u.screen x).crease ∨
          ∃ g ∈ ((u.screen x).ledger.at' k {}).segs, g.state = 1 ∧ e = (k, g.xs, g.xe)) ∧
        (∀ g ∈ ((u.screen x).ledger.at' k {}).segs, g.state = 1 →
          ((s'.screen x).uFault = true ∨
            u.tooOld (x / 12) ((u.screen x).start + u.linesNs x (u.stripEnd x k)) g.cap g.budget = true) →
          (k, g.xs, g.xe) ∈ (s'.screen x).crease) ∧
        (∀ y, y ≠ x → s'.screen y = u.screen y) ∧
        s' = { u with od := s'.od, log := s'.log, tally := s'.tally, layers := s'.layers, screens := s'.screens }) ∧
    (∀ n wrong x, x = u.fn (lIdx n) 0x02 → u.layerOn n = true → (u.layer n).hidden = false → (u.layer n).compared = false →
      u.gone (lvsUnit x) = false → u.stitchSegs x n ≠ [] → u.platesPassed x (u.stitchSegs x n) = true →
      u.platesAltered x (u.stitchSegs x n) = false →
      ∃ s', exec (.readBackCompare t n wrong) s = .next s' ∧ (s'.layer n).compared = true ∧
        ((∀ g ∈ u.stitchSegs x n, ∃ p, g.plate = some p ∧ marksValue (u.readMarks x p wrong) = some g.stitchVal) →
          (s'.layer n).rbOk = decide (u.rn (lIdx n) 0x2C = 1) ∧ (s'.layer n).rback = (u.layer n).rback ∧
          s' = { u with od := s'.od, layers := s'.layers }) ∧
        ((∃ g ∈ u.stitchSegs x n, ∀ p, g.plate = some p → marksValue (u.readMarks x p wrong) ≠ some g.stitchVal) →
          (s'.layer n).rback = true ∧ (s'.layer n).rbOk = false ∧ (s'.layer n).run = 0 ∧ u.counted s' 0x5000 0x13 1 ∧
          s' = { u with od := s'.od, log := s'.log, tally := s'.tally, layers := s'.layers }))

/-- R39 to R41, R43, R48, R75: at a latch of a screen with one layer, FENCED stands before LOST and LOST before UNVERIFIED; of the
reasons the lowest active one is reported: 1 until first use is over, then 2 while U is above its threshold, then 3 while the die's LVS is
stopped; a change of state is one event, and the screen's summary follows (LAYER_LATCH). -/
def Obligations.LayersAreJudgedAtTheLatch : Prop :=
  ∀ (s : State) (t x n : Nat),
    let u := s.tick t
    let m := u.fn (lIdx n) 0x03
    let old := u.rn (lIdx n) 0x2C
    let lost := m = 0xFF ∨ (u.sst m ≠ sessAcquiring ∧ u.sst m ≠ sessRunning)
    (u.screen x).run = true → (u.screen x).latched = false → (u.screen x).implicit = true → u.member x = false → x < 24 →
    u.unavailable x = false → u.restarting (x / 12) .cmp = false → u.idleSpare = false → u.commits = [] → u.layersOn x = [n] →
    ∃ s', exec (.layerLatch t x) s = .next s' ∧ (s'.screen x).latched = true ∧ (∀ y, y ≠ x → s'.screen y = u.screen y) ∧
      (∀ st, st = s'.rn (lIdx n) 0x2C →
        (u.isFenced n = true → st = 7 ∧ s'.rn (lIdx n) 0x2D = 0 ∧ bit (s'.rn (lIdx n) 0x2E) 0 = true) ∧
        (u.isFenced n = false → lost → st = 6 ∧ s'.rn (lIdx n) 0x2D = 0 ∧ bit (s'.rn (lIdx n) 0x2E) 1 = true) ∧
        (u.isFenced n = false → ¬lost → m < 160 → u.relayShed m = false →
          ((u.layer n).first = true ∨ old = 7 → st = 5 ∧ s'.rn (lIdx n) 0x2D = 1 ∧ bit (s'.rn (lIdx n) 0x2E) 2 = true) ∧
          ((u.layer n).first = false → old ≠ 7 → u.lockedFor (x / 12) = false → st = 5 ∧ s'.rn (lIdx n) 0x2D = 2) ∧
          ((u.layer n).first = false → old ≠ 7 → u.lockedFor (x / 12) = true →
            u.lvsStopped (x / 12) = true → st = 5 ∧ s'.rn (lIdx n) 0x2D = 3)) ∧
        (st ≠ old → s'.tally.change = true ∧ u.raised s' (lvsKey (x / 12)) 0x0101 1
          [(8, n), (8, old), (8, st), (8, s'.rn (lIdx n) 0x2D)]) ∧
        (u.packageFenced = false → s'.rn (scrIdx x) 0x35 = st)) ∧
      s' = { u with od := s'.od, log := s'.log, tally := s'.tally, layers := s'.layers, screens := s'.screens, gfx := s'.gfx
                    encs := s'.encs, spay := s'.spay }

/-- R69, R79: an LVS pair that disagrees stops, counts, latches its fault bit and its EMCY condition and raises one event; a
self-test that passes resumes it, one that fails leaves it stopped, a stopped pair tests again every 1 s; the status read answers
which pairs run and the latched faults, and clears them (LVS_FAULT, LVS_SELF_TEST_DONE, LVS_SELF_TEST_RETRY, LVS_STATUS_READ). -/
def Obligations.LvsFaultsStopAndResume : Prop :=
  ∀ (s : State) (t : Nat) (d : Die),
    let u := s.tick t
    (u.lvsStopped d.idx = false → ∃ s', exec (.lvsFault t d) s = .next s' ∧
      s'.lvsStopped d.idx = true ∧ (s'.unit (lvsKey d.idx)).prior = (u.unit (lvsKey d.idx)).st ∧ d.idx ∈ s'.lvsTest ∧
      u.counted s' 0x5000 0x14 1 ∧ .lvs d.idx ∈ s'.conds ∧ u.raised s' (lvsKey d.idx) 0x0105 3 [(8, d.idx), (16, s'.rn 0x5000 0x14)] ∧
      s'.lvsTestAt.look d.idx = some u.clock ∧ (∀ k, k ≠ lvsKey d.idx → s'.unit k = u.unit k) ∧
      s' = { u with od := s'.od, log := s'.log, units := s'.units, lvsTest := s'.lvsTest, lvsTestAt := s'.lvsTestAt, tally := s'.tally,
                    conds := s'.conds, cans := s'.cans, layers := s'.layers }) ∧
    (u.lvsStopped d.idx = true → d.idx ∈ u.lvsTest →
      (∃ s', exec (.lvsSelfTestDone t d true) s = .next s' ∧ s'.lvsStopped d.idx = false ∧ d.idx ∉ s'.lvsTest ∧
        .lvs d.idx ∉ s'.conds ∧
        s' = { u with od := s'.od, log := s'.log, units := s'.units, lvsTest := s'.lvsTest, tally := s'.tally,
                      conds := s'.conds, cans := s'.cans, layers := s'.layers }) ∧
      exec (.lvsSelfTestDone t d false) s = .next { u with lvsTest := u.lvsTest.filter (· ≠ d.idx) }) ∧
    (u.lvsStopped d.idx = true → u.due (u.lvsTestAt.look d.idx) sTicks = true →
      ∃ s', exec (.lvsSelfTestRetry t d) s = .next s' ∧ d.idx ∈ s'.lvsTest ∧ s'.lvsTestAt.look d.idx = some u.clock ∧
        s' = { u with lvsTest := s'.lvsTest, lvsTestAt := s'.lvsTestAt }) ∧
    (u.lvsStopped d.idx = false ∨ u.due (u.lvsTestAt.look d.idx) sTicks = false → exec (.lvsSelfTestRetry t d) s = .next u) ∧
    (∀ r, u.answers r = true → ∃ s', exec (.lvsStatusRead t r) s = .next s' ∧
      s'.rn 0x5000 0x08 = 0 ∧ s'.out = .resp r 0x5000 0x08 0 (leBytes 1 u.lvsWord) :: u.out ∧
      u.odSame s' [key 0x5000 0x08] ∧ s' = { u with od := s'.od, out := s'.out })

/-- R81 to R84, R95, R113: heartbeats, their absence, a transfer's CRC failures, the comparison of the time bases, and the
end of a survivor's reload (DIE_HEARTBEAT_SEND, DIE_HEARTBEAT_TIMEOUT, DIE_LINK_CRC_FAILURE, DIE_TIME_COMPARE,
SURVIVOR_RELOAD_COMPLETE). -/
def Obligations.DiesWatchEachOther : Prop :=
  ∀ (s : State) (t : Nat),
    let u := s.tick t
    (∀ d, u.dieLost d.idx = false → u.link.lost = false → u.power.phase = .booting ∨ u.power.phase = .running →
      ∃ s', exec (.dieHeartbeatSend t d) s = .next s' ∧ s'.out = .heartbeat d :: u.out ∧
        (match d with | .e => s'.link.hbE | .w => s'.link.hbW) = u.clock ∧ s' = { u with link := s'.link, out := s'.out }) ∧
    (∀ d, u.link.lost = false → u.dieLost d.idx = false → u.link.lostDie = none →
      (match d with | .e => u.link.hbW | .w => u.link.hbE) + msTicks ≤ u.clock →
      ∃ s', exec (.dieHeartbeatTimeout t d) s = .next s' ∧ s'.link.lost = true ∧ s'.link.reloading = true ∧
        s'.link.lostDie = some (if u.declared.contains (regionAddr 0 2) then .e else .w) ∧ s'.loaded = false) ∧
    (∀ d, u.clock < (match d with | .e => u.link.hbW | .w => u.link.hbE) + msTicks →
      exec (.dieHeartbeatTimeout t d) s = .next u) ∧
    (∀ x, u.link.lost = false → u.link.lostDie = none →
      ∃ s', exec (.dieLinkCrcFailure t x) s = .next s' ∧
        (u.link.fails.at' x 0 < 2 → (u.link.soft.filter (fun a => u.clock < a + sTicks)).length < 16 →
          s'.link.fails.at' x 0 = u.link.fails.at' x 0 + 1 ∧ s'.link.lost = false ∧ u.counted s' 0x2100 0x11 1 ∧
          (u.link.fails.at' x 0 = 1 → u.raised s' (procKey u.primary.idx .sys) 0x0204 2
            [(8, 2), (8, (u.link.soft.filter (fun a => u.clock < a + sTicks)).length + 1)]) ∧
          s' = { u with od := s'.od, log := s'.log, link := s'.link }) ∧
        (2 ≤ u.link.fails.at' x 0 → s'.link.lost = true)) ∧
    (∀ (drift : Int) (w : Int) (d : Nat), u.link.lost = false → u.dieLost 0 = false → u.dieLost 1 = false →
      w = (u.nowAt 1 : Int) + drift → 0 ≤ w → d = (w - (u.nowAt 0 : Int)).natAbs →
      ∃ s', exec (.dieTimeCompare t drift) s = .next s' ∧ s'.rn 0x2800 0x14 = min 0xFFFF d ∧ s'.nowAt 0 = u.nowAt 0 ∧
        (10 < d → s'.nowAt 1 = u.nowAt 0 ∧ s'.time.wFrac = u.time.frac ∧ s'.time.dieExtra = d ∧
          s' = { u with od := s'.od, log := s'.log, time := s'.time, screens := s'.screens, touch := s'.touch, encs := s'.encs,
                        trigs := s'.trigs }) ∧
        (d ≤ 10 → (s'.nowAt 1 : Int) = w ∧ s'.time.dieExtra = u.time.dieExtra ∧ u.odSame s' [key 0x2800 0x14] ∧
          s' = { u with od := s'.od, time := s'.time })) ∧
    (u.link.reloading = true → ∃ s', exec (.survivorReloadComplete t) s = .next s' ∧
      s'.loaded = true ∧ s'.link.reloading = false) ∧
    (u.link.reloading = false → exec (.survivorReloadComplete t) s = .next u)

/-- R87 to R89, R92, R93: a watchdog restarts a processor, a third time within 10 min makes it DEAD; a restart completes;
a pace below its expectation is shown and reported once until it is restored (PROCESSOR_WATCHDOG_EXPIRY,
PROCESSOR_RESTART_COMPLETE, PACE_LOW, PACE_RESTORED). -/
def Obligations.ProcessorsRestartAndPace : Prop :=
  ∀ (s : State) (t : Nat),
    let u := s.tick t
    (∀ p d, p ≠ .sys → u.gone (procKey d.idx p) = false → u.dieLost d.idx = false → u.restarting d.idx p = false →
      let l := ((u.procs.at' (procKey d.idx p) {}).restarts.filter (fun a => u.clock < a + 600 * sTicks)) ++ [u.clock]
      ∃ s', exec (.processorWatchdogExpiry t p d) s = .next s' ∧
        (l.length < 3 → s'.restarting d.idx p = true ∧ (s'.procs.at' (procKey d.idx p) {}).restarts = l ∧ s'.units = u.units) ∧
        (3 ≤ l.length → (s'.unit (procKey d.idx p)).st = 2)) ∧
    (∀ d, u.gone (procKey d.idx .sys) = false → u.dieLost d.idx = false → u.restarting d.idx .sys = false →
      u.gone (procKey d.other.idx .sys) = false → u.dieLost d.other.idx = false → u.restarting d.other.idx .sys = false →
      let l := ((u.procs.at' (procKey d.idx .sys) {}).restarts.filter (fun a => u.clock < a + 600 * sTicks)) ++ [u.clock]
      ∃ s', exec (.processorWatchdogExpiry t .sys d) s = .next s' ∧
        (l.length < 3 → s'.restarting d.idx .sys = true ∧ (s'.procs.at' (procKey d.idx .sys) {}).restarts = l ∧ s'.units = u.units) ∧
        (3 ≤ l.length → (s'.unit (procKey d.idx .sys)).st = 2) ∧
        s'.primary = (if u.primary = d then d.other else u.primary) ∧ (u.primary = d → s'.partReads = [] ∧ s'.partWrites = [])) ∧
    (∀ p d, u.restarting d.idx p = true → ∃ s', exec (.processorRestartComplete t p d) s = .next s' ∧
      s'.restarting d.idx p = false ∧ (s'.procs.at' (procKey d.idx p) {}).restarts = (u.procs.at' (procKey d.idx p) {}).restarts ∧
      (p ≠ .tch → s' = { u with procs := s'.procs }) ∧ s' = { u with od := s'.od, procs := s'.procs, touch := s'.touch }) ∧
    (∀ g pace, g < 6 → pace < 1000 → u.declared.contains (regionAddr (g / 3) (g % 3)) = false →
      ∃ s', exec (.paceLow t g pace) s = .next s' ∧ s'.rn 0x2100 (0x12 + g) = pace ∧ bit (s'.rn 0x2100 0x18) g = true ∧
        (bit (u.rn 0x2100 0x18) g = false → u.raised s' (unitKey (g / 3) (g % 3) 0 0) 0x0202 2 [(8, g)]) ∧
        (bit (u.rn 0x2100 0x18) g = true → s'.log = u.log) ∧
        u.odSame s' [key 0x2100 (0x12 + g), key 0x2100 0x18, key 0x2200 0x05] ∧ s' = { u with od := s'.od, log := s'.log }) ∧
    (∀ g pace, g < 6 → 1000 ≤ pace → u.declared.contains (regionAddr (g / 3) (g % 3)) = false →
      ∃ s', exec (.paceRestored t g pace) s = .next s' ∧ s'.rn 0x2100 (0x12 + g) = min 65535 pace ∧
        bit (s'.rn 0x2100 0x18) g = false ∧
        (bit (u.rn 0x2100 0x18) g = true → u.raised s' (unitKey (g / 3) (g % 3) 0 0) 0x0203 0 [(8, g)]) ∧
        u.odSame s' [key 0x2100 (0x12 + g), key 0x2100 0x18, key 0x2200 0x05] ∧ s' = { u with od := s'.od, log := s'.log })

/-- R103, R104, R109, Table 2.7: what soft and hard faults, corrected SRAM errors, retests, stale epochs, tests of spares and
the end of a suspect window make of a unit (UNIT_SOFT_FAULT, UNIT_HARD_FAULT, CORRECTED_SRAM_ERROR, RETEST_COMPLETE,
STALE_EPOCH_TRANSFER, SPARE_PERIODIC_TEST, SUSPECT_WINDOW_EXPIRY). -/
def Obligations.UnitFaultsFollowTheTable : Prop :=
  ∀ (s : State) (t addr k : Nat), unitOf addr = some k →
    let u := s.tick t
    let g := u.unit k
    let keeps := fun (s' : State) => s'.caps = u.caps ∧ s'.checks = u.checks ∧ s'.tpdos = u.tpdos ∧ s'.force = u.force ∧ s'.ports = u.ports
    (isLvs k = false → u.gone k = false → g.window = none → ∃ s', exec (.unitSoftFault t addr) s = .next s' ∧
      (s'.unit k).st = 1 ∧ (s'.unit k).window = some (u.clock + u.rn 0x2100 0x0B * msTicks) ∧
      (s'.unit k).prior = (if g.st = 1 then g.prior else g.st) ∧
      (g.faults ≤ 0xFFFF → (s'.unit k).faults = min 0xFFFF (g.faults + 1)) ∧ (∀ j, j ≠ k → s'.unit j = u.unit j) ∧
      s' = { u with od := s'.od, log := s'.log, units := s'.units, conds := s'.conds, cans := s'.cans }) ∧
    (∀ w, isLvs k = false → u.gone k = false → g.window = some w → u.clock < w →
      ∃ s', exec (.unitSoftFault t addr) s = .next s' ∧ (s'.unit k).st = 2 ∧ keeps s') ∧
    (isLvs k = false → u.gone k = false → ∃ s', exec (.unitHardFault t addr) s = .next s' ∧ (s'.unit k).st = 2 ∧ keeps s') ∧
    (isLvs k = true → u.lvsStopped (keyDie k) = false →
      ∃ s', exec (.unitHardFault t addr) s = .next s' ∧ s'.lvsStopped (keyDie k) = true ∧ keeps s') ∧
    (∀ l, l = g.sram.filter (fun a => u.clock < a + sTicks) → u.gone k = false → ∃ s', exec (.correctedSramError t addr) s = .next s' ∧ keeps s' ∧
        (l.length < 16 → (s'.unit k).sram = l ++ [u.clock] ∧ (s'.unit k).st = g.st ∧ s' = { u with units := s'.units }) ∧
        (16 ≤ l.length → isLvs k = false → g.window = none → (s'.unit k).st = 1 ∧ (s'.unit k).sram = [])) ∧
    (isLvs k = false → g.st = 1 →
      (∃ s', exec (.retestComplete t addr true) s = .next s' ∧ (s'.unit k).st = g.prior ∧ (∀ j, j ≠ k → s'.unit j = u.unit j) ∧
        s' = { u with od := s'.od, log := s'.log, units := s'.units, conds := s'.conds, cans := s'.cans }) ∧
      ∃ s', exec (.retestComplete t addr false) s = .next s' ∧ (s'.unit k).st = 2 ∧ keeps s') ∧
    (exec (.staleEpochTransfer t addr g.epoch) s = .next u) ∧
    (∀ e, e ≠ g.epoch → ∃ s', exec (.staleEpochTransfer t addr e) s = .next s' ∧ keeps s' ∧
      (g.st = 2 → (s'.unit k).st = 5 ∧ (s'.unit k).epoch = g.epoch ∧
        s' = { u with od := s'.od, log := s'.log, units := s'.units, conds := s'.conds, cans := s'.cans }) ∧
      (g.st = 5 → s' = u) ∧ (u.gone k = false → isLvs k = false → (s'.unit k).st = 2)) ∧
    (exec (.sparePeriodicTest t addr true) s = .next u) ∧
    (g.st = 3 → isLvs k = false →
      ∃ s', exec (.sparePeriodicTest t addr false) s = .next s' ∧ (s'.unit k).st = 2 ∧ keeps s') ∧
    (∀ w, g.window = some w → w ≤ u.clock → ∃ s', exec (.suspectWindowExpiry t addr) s = .next s' ∧
      (s'.unit k).window = none ∧ (s'.unit k).st = g.st ∧ (∀ j, j ≠ k → s'.unit j = u.unit j) ∧ s' = { u with units := s'.units })

/-- R115, R116, Table 2.7: the selected address's snapshot, and the three health commands with what each is refused for
(ADDRESS_SELECT, HEALTH_DECLARE_DEAD, HEALTH_RETURN_TO_SERVICE, HEALTH_CLEAR_FAULT_COUNT). -/
def Obligations.HealthCommandsActOnTheSelectedUnit : Prop :=
  ∀ (s : State) (t : Nat) (r : Req),
    let u := s.tick t
    let keeps := fun (s' : State) => s'.caps = u.caps ∧ s'.checks = u.checks ∧ s'.tpdos = u.tpdos ∧ s'.force = u.force ∧ s'.ports = u.ports
    let refused := fun (sub st : Nat) => (Host.Outcome.next { u with out := Out.resp r 0x2100 sub st [] :: u.out } : Host.Outcome State Fault Refusal)
    u.takes r = true →
    (∀ addr, addr < 2 ^ 32 → addrOk addr = true → (Addr.ofNat addr).pkg = u.pkgId → (Addr.ofNat addr).level = 0 →
      ∃ s', exec (.addressSelect t r addr) s = .next s' ∧ s'.selected = addr ∧
        s'.rn 0x2100 0x05 = (u.unit (addr % 2048)).st ∧ s'.rn 0x2100 0x06 = (u.unit (addr % 2048)).epoch ∧
        s'.rn 0x2100 0x07 = (u.unit (addr % 2048)).partner.getD 0xFFFFFFFF ∧
        s'.rn 0x2100 0x08 = (u.unit (addr % 2048)).faults ∧ s'.rn 0x2100 0x09 = min 1024 (u.unit (addr % 2048)).adv ∧
        s'.out = .resp r 0x2100 0x04 0 [] :: u.out ∧ u.odSame s' ([4, 5, 6, 7, 8, 9].map (key 0x2100)) ∧
        s' = { u with od := s'.od, out := s'.out, partWrites := s'.partWrites }) ∧
    (∀ addr, addr < 2 ^ 32 → addrOk addr = false ∨ (Addr.ofNat addr).pkg ≠ u.pkgId →
      exec (.addressSelect t r addr) s = refused 0x04 6) ∧
    (∀ k, unitOf u.selected = some k →
      (isLvs k = false → k ≠ procKey (keyDie k) .sys → k ≠ arbiterKey (keyDie k) → u.gone k = false →
        ∃ s', exec (.healthDeclareDead t r) s = .next s' ∧ (s'.unit k).st = 2 ∧ keeps s') ∧
      (isLvs k = true ∨ k = procKey (keyDie k) .sys ∨ k = arbiterKey (keyDie k) ∨ u.gone k = true →
        exec (.healthDeclareDead t r) s = refused 0x0A 7) ∧
      (∀ pass, u.gone k = false → exec (.healthReturnToService t r pass) s = refused 0x0A 7) ∧
      (u.gone k = true → (u.unit k).adv < 1024 → u.wholeDown k = false →
        ∃ s', exec (.healthReturnToService t r true) s = .next s' ∧ keeps s' ∧
          s'.gone k = false) ∧
      (u.gone k = true → ∃ s', exec (.healthReturnToService t r false) s = .next s' ∧ (s'.unit k).st = 2 ∧
        s'.out = .resp r 0x2100 0x0A 0 [] :: u.out ∧
        s' = { u with od := s'.od, log := s'.log, units := s'.units, conds := s'.conds, cans := s'.cans,
                      out := s'.out, partWrites := s'.partWrites }) ∧
      ∃ s', exec (.healthClearFaultCount t r) s = .next s' ∧ (s'.unit k).faults = 0 ∧ s'.rn 0x2100 0x08 = 0 ∧
        s'.rb 0x2000 0x07 = leBytes 2 0x2100 ++ leBytes 1 8 ++ [0] ++
          leBytes 4 (wrapInc 32 (leNat ((u.rb 0x2000 0x07).drop 4 |>.take 4))) ++ leBytes 8 (u.unit k).faults ∧
        s'.out = .resp r 0x2100 0x0A 0 [] :: u.out ∧ (∀ j, j ≠ k → s'.unit j = u.unit j) ∧
        s' = { u with od := s'.od, units := s'.units, out := s'.out, partWrites := s'.partWrites }) ∧
    (unitOf u.selected = none → exec (.healthDeclareDead t r) s = refused 0x0A 7 ∧
      (∀ pass, exec (.healthReturnToService t r pass) s = refused 0x0A 7) ∧ exec (.healthClearFaultCount t r) s = refused 0x0A 7)

/-- R90: a health command that would declare SYS, LVS or an event arbiter DEAD, whichever row carries the write, is refused: nothing
changes and the error response goes back. -/
def Obligations.HealthCommandsKeepTheKeepers : Prop :=
  ∀ (s : State) (t : Nat) (r : Req) (k : Nat) (c : Instr),
    unitOf (s.tick t).selected = some k → k = procKey (keyDie k) .sys ∨ isLvs k = true ∨ k = arbiterKey (keyDie k) →
    c ∈ [Instr.healthDeclareDead t r, .dictionaryWrite t r 0x2100 0x0A [1]] →
    ∃ code, 1 ≤ code ∧ exec c s = .next ((s.tick t).respond r 0x2100 0x0A code []) ∧ ((s.tick t).takes r = true → code = 7)

/-- R117, R119, R120, R122, R501: a change of quad mode takes the quad's ports down, they come back after it; a frame counts as
received, one the tables reject in its counter too, one for a host without a ring in the host's; a port negotiating comes up
(QUAD_MODE_CHANGE, QUAD_LANES_UP, ETHERNET_FRAME_DISCARD, RAW_FRAME_TO_HOST, AUTO_NEGOTIATION_COMPLETE). -/
def Obligations.EthernetPortsAndFrames : Prop :=
  ∀ (s : State) (t : Nat),
    let u := s.tick t
    (∀ r q mode, u.takes r = true → q < 4 → mode < 4 → ∃ s', exec (.quadModeChange t r q mode) s = .next s' ∧
      s'.quadMode q = mode ∧
      (u.quadMode q = mode → s' = { u with out := .resp r 0x2900 (q + 1) 0 [] :: u.out, partWrites := s'.partWrites }) ∧
      (u.quadMode q ≠ mode → ∀ j, j < 4 → s'.rn (0x2910 + (4 * q + j)) 0x0A = 0 ∧
        (s'.port (4 * q + j)).lanes = u.clock + 50 * msTicks ∧ (s'.port (4 * q + j)).negotiated = false)) ∧
    (∀ q, q < 4 → ∃ s', exec (.quadLanesUp t q) s = .next s' ∧
      (∀ j, j < 4 → (s'.port (4 * q + j)).lanes = 0 ∧ (u.inTest (4 * q + j) = false → s'.laneLocked (4 * q + j) = true) ∧
        (u.portExists (4 * q + j) = false → s'.rn (0x2910 + (4 * q + j)) 0x0A = 0)) ∧
      (∀ o ∈ s'.out, o ∈ u.out ∨ ∃ j, j < 4 ∧ o = .advertise (4 * q + j) true false false false) ∧
      s' = { u with od := s'.od, ports := s'.ports, lanes := s'.lanes, out := s'.out }) ∧
    (∀ p f, u.portHears p = true → p < 16 → ∃ s', exec (.ethernetFrameDiscard t p f) s = .next s' ∧
      u.counted s' (0x2910 + p) 0x0C 1 ∧
      (∀ sub, u.frameFate p f = .count sub → u.counted s' (0x2910 + p) sub 1) ∧ s' = { u with od := s'.od, log := s'.log }) ∧
    (∀ p f, u.portHears p = false → exec (.ethernetFrameDiscard t p f) s = .next u ∧ exec (.rawFrameToHost t p f) s = .next u) ∧
    (∀ p f, u.portHears p = true → p < 16 → u.frameFate p f = .host → u.ringOf 3 p = none →
      ∃ s', exec (.rawFrameToHost t p f) s = .next s' ∧ u.counted s' (0x2910 + p) 0x0C 1 ∧ u.counted s' 0x6600 0x0C 1 ∧
        s' = { u with od := s'.od, log := s'.log }) ∧
    (∀ p f q bs d, u.portHears p = true → p < 16 → u.frameFate p f = .host → u.ringOf 3 p = some q →
      (u.ring q).bufs = d :: bs → (u.ring q).space = true → (u.ring q).waits = [] → u.power.phase = .running → ∃ s', exec (.rawFrameToHost t p f) s = .next s' ∧
        .dma q d.1 (f.data.take d.2.lenA) ∈ s'.out ∧
        s' = { u with od := s'.od, log := s'.log, rings := s'.rings, pcie := s'.pcie, out := s'.out }) ∧
    (∀ p, ∃ s', exec (.autoNegotiationComplete t p) s = .next s' ∧
      (u.rn (0x2910 + p) 0x0A = 2 → s'.rn (0x2910 + p) 0x0A = 1 ∧ (s'.port p).negotiated = true) ∧
      (u.rn (0x2910 + p) 0x0A ≠ 2 → s' = u) ∧ u.odSame s' [key (0x2910 + p) 0x0A] ∧ s' = { u with od := s'.od, ports := s'.ports })

/-- R121, R123, R568: a port that hears answers what is asked of its own addresses, reports its groups again at a query, and
is silent to all else; a fenced package sends nothing (ARP_REQUEST, ICMP_ECHO_REQUEST, NEIGHBOUR_SOLICITATION,
MULTICAST_QUERY). -/
def Obligations.NetAnswersForItsOwnAddresses : Prop :=
  ∀ (s : State) (t p : Nat),
    let u := s.tick t
    let sends := u.power.phase = .running ∧ u.rn 0x6800 0x09 ≠ 3
    (∀ target sender,
      (sends → u.portHears p = true → target ≠ 0 → target = u.rn (0x2910 + p) 0x03 →
        exec (.arpRequest t p target sender) s = .next { u with out := .arp p target sender :: u.out }) ∧
      (u.portHears p = false ∨ target = 0 ∨ target ≠ u.rn (0x2910 + p) 0x03 ∨ u.rn 0x6800 0x09 = 3 →
        exec (.arpRequest t p target sender) s = .next u)) ∧
    (∀ v6 target data,
      (sends → u.portHears p = true → u.ownAddr p v6 target = true →
        exec (.icmpEchoRequest t p v6 target data) s = .next { u with out := .echo p v6 data :: u.out }) ∧
      (u.portHears p = false ∨ u.ownAddr p v6 target = false ∨ u.rn 0x6800 0x09 = 3 →
        exec (.icmpEchoRequest t p v6 target data) s = .next u)) ∧
    (∀ target,
      (sends → u.portHears p = true → target = u.linkLocal p ∨ u.ownAddr p true target = true →
        exec (.neighbourSolicitation t p target) s = .next { u with out := .neighbour p target :: u.out }) ∧
      (u.portHears p = false ∨ u.ownAddr p true target = false ∨ u.rn 0x6800 0x09 = 3 →
        exec (.neighbourSolicitation t p target) s = .next u)) ∧
    (∀ v6 version, u.portHears p = true → ∃ s', exec (.multicastQuery t p v6 version) s = .next s' ∧
      (version < (if v6 then 2 else 3) ∧ version ≤ u.groupVersion p v6 → s'.groupVersion p v6 = version) ∧
      (¬(version < (if v6 then 2 else 3) ∧ version ≤ u.groupVersion p v6) → s'.port p = u.port p) ∧
      (∀ old : Bool, old = decide (s'.groupVersion p v6 < (if v6 then 2 else 3)) → sends →
        s'.out = ((u.mcast.filter (fun e => e.port = p && e.v6 = v6)).map (fun e =>
          Out.join p v6 (s'.groupVersion p v6) e.group ((u.groupFilter e.users).1 && !old)
            (if old then [] else (u.groupFilter e.users).2))).reverse ++ u.out) ∧
      s' = { u with ports := s'.ports, out := s'.out })

/-- R125 to R128, R131, R133, R141: reception of a session: a packet outside its declaration, of an unsupported type or without
room in its ring counts as discarded, the next one in order is accepted; a window ends the access units it has run for; an access
unit that is ready leaves, a picture of it is handed to decode in its segments; a sender report fixes the mapping, a BYE starves, a
receiver report goes out every 5 s (RTP_PACKET, REORDER_WINDOW_EXPIRY, ACCESS_UNIT_RELEASE, RTCP_PACKET, RTCP_RR_SEND). -/
def Obligations.ReceptionOfSessions : Prop :=
  ∀ (s : State) (t n : Nat), n < 160 →
    let u := s.tick t
    let g := u.ses n
    let hears := u.admitted n = true ∧ u.kind n ≤ 1 ∧ u.portHears (u.rn (sIdx n) 0x05) = true ∧ u.destValid n = true
    let h264 := decide (u.kind n = 1)
    (∀ pkt : RtpPkt, hears → pkt.version ≠ 2 ∨ pkt.pt ≠ u.rn (sIdx n) 0x0C ∨ pkt.ringFull = true ∨
        (isMode2 h264 pkt.body.ptype = false ∧ payloadOk h264 pkt.body.ptype = false) →
      ∃ s', exec (.rtpPacket t n pkt) s = .next s' ∧ u.counted s' (sIdx n) 0x29 1 ∧ s' = { u with od := s'.od, log := s'.log }) ∧
    (∀ (pkt : RtpPkt) h, hears → u.sst n = sessRunning → pkt.version = 2 → pkt.pt = u.rn (sIdx n) 0x0C → pkt.ringFull = false →
      isMode2 h264 pkt.body.ptype = false → payloadOk h264 pkt.body.ptype = true →
      g.ssrc = some pkt.ssrc → (bit (u.rn (sIdx n) 0x0B) 3 = true → pkt.ssrc = u.rn (sIdx n) 0x0D) →
      g.ext = some h → g.restart ≠ some pkt.seq → pkt.seq = (h + 1) % 2 ^ 16 → (h + 1) % 2 ^ 32 ∉ g.seen →
      (∀ d, g.doneTs = some d → serialAfter 32 pkt.ts d = true) →
      ∃ s', exec (.rtpPacket t n pkt) s = .next s' ∧ (s'.ses n).ext = some ((h + 1) % 2 ^ 32) ∧
        (s'.ses n).recv = g.recv + 1 ∧ (s'.ses n).last = pkt.mac ∧ (s'.ses n).aus = addPacket g.aus ((h + 1) % 2 ^ 32) pkt ∧
        u.counted s' (sIdx n) 0x24 1 ∧ s'.rn (sIdx n) 0x2B = (h + 1) % 2 ^ 32 ∧ (∀ m, m ≠ n → s'.ses m = u.ses m) ∧
        s' = { u with od := s'.od, log := s'.log, sess := s'.sess }) ∧
    (∃ s', exec (.reorderWindowExpiry t n) s = .next s' ∧ (s'.ses n).aus = g.aus.map (fun a =>
        if a.lastMac + u.rn (sIdx n) 0x1A * usTicks ≤ u.clock then { a with ended := true, expired := true } else a) ∧
      (∀ m, m ≠ n → s'.ses m = u.ses m) ∧ s' = { u with sess := s'.sess }) ∧
    (∀ a rest next nals, g.aus = a :: rest → next = rest.head?.bind (fun b => (sortPkts b.pkts).head?.map (·.1)) →
      nals = reassemble h264 (sortPkts a.pkts) none →
      (a.ready g.doneSeq next = false → exec (.accessUnitRelease t n) s = .next u) ∧
      (a.ready g.doneSeq next = true → (∀ x ∈ nals, x.body = .other) →
        ∃ s', exec (.accessUnitRelease t n) s = .next s' ∧ (s'.ses n).aus = rest ∧ (s'.ses n).doneTs = some a.ts ∧
          (s'.ses n).queue = g.queue ∧ u.counted s' (sIdx n) 0x25 (seqsMissing g.doneSeq (sortPkts a.pkts)) ∧
          s' = { u with od := s'.od, log := s'.log, sess := s'.sess }) ∧
      (a.ready g.doneSeq next = true → rawLabels nals = [] → g.alive = none → g.active.isSome = true → g.skipRasl = false →
        (∀ x ∈ nals, x.layer = 0 ∧ ∃ y, x.body = .vcl y) → nals ≠ [] →
        ∃ s' i, exec (.accessUnitRelease t n) s = .next s' ∧ (s'.ses n).queue = g.queue ++ [i] ∧ (s'.ses n).aus = rest ∧
          (s'.ses n).doneTs = some a.ts ∧ i.ts = a.ts ∧ i.coded.slices.length = nals.length ∧ u.counted s' (sIdx n) 0x2C 1 ∧
          s'.segs.length = u.segs.length + (i.coded.shares (u.rn 0x3400 0x04) (decide (u.rn (sIdx n) 0x16 = 1))).length)) ∧
    (∀ mac ssrc sec frac ts, hears → g.ssrc = some ssrc →
      ∃ s', exec (.rtcpPacket t n mac [.sr ssrc sec frac ts]) s = .next s' ∧
        (s'.ses n).sr = some (u.ntpToPtp n sec frac, ts, mac) ∧ (s'.ses n).mapOk = true ∧ (∀ m, m ≠ n → s'.ses m = u.ses m) ∧
        s' = { u with od := s'.od, log := s'.log, sess := s'.sess }) ∧
    (∀ mac ssrc, hears → g.ssrc = some ssrc → u.sst n = sessRunning →
      ∃ s', exec (.rtcpPacket t n mac [.bye ssrc]) s = .next s' ∧ s'.sst n = sessStarved ∧ (s'.ses n).since = u.clock ∧
        u.odSame s' [key (sIdx n) 0x02, key (sIdx n) 0x03] ∧ s' = { u with od := s'.od, sess := s'.sess }) ∧
    (∀ ssrc h delay, u.admitted n = true → u.kind n ≤ 1 → bit (u.rn (sIdx n) 0x0B) 2 = true → g.ssrc = some ssrc → g.ext = some h →
      g.rrAt + 5 * sTicks ≤ u.clock → u.power.phase = .running → u.rn 0x6800 0x09 ≠ 3 →
      delay = (match g.sr with | some r => (u.clock - r.2.2) * 65536 / sTicks | none => 0) →
      ∃ s' frac, exec (.rtcpRrSend t n) s = .next s' ∧
        s'.out = .rtcpRr n (u.rn (sIdx n) 0x1F)
          [ssrc, frac, serialDiff 32 h g.base + 1 - g.recv, h, g.jitter / 16, g.lastSr, delay] :: u.out ∧ frac < 257 ∧
        (s'.ses n).expPrior = serialDiff 32 h g.base + 1 ∧ (s'.ses n).recvPrior = g.recv ∧ (s'.ses n).rrAt = u.clock ∧
        s' = { u with sess := s'.sess, out := s'.out })

/-- R144 to R150, Table 3.8: the commands of a session and its two timers (SESSION_OPEN, SESSION_CLOSE, SESSION_RELEASE,
SESSION_RESYNC, JOIN_TIMEOUT, STARVATION_TIMEOUT). -/
def Obligations.SessionsFollowTheTable : Prop :=
  ∀ (s : State) (t n : Nat), n < 160 →
    let u := s.tick t
    (∀ r, u.takes r = true →
      (∀ rnd, u.sst n = sessIdle ∨ u.sst n = sessClosed → ∃ s', exec (.sessionOpen t r n rnd) s = .next s' ∧
        s'.out.head? = some (.resp r (sIdx n) 0x01 0 []) ∧
        (u.admission n = 0 → s'.sst n = sessJoining ∧ s'.rn (sIdx n) 0x1F = rnd % 2 ^ 32 ∧ s'.rn (sIdx n) 0x03 = 0) ∧
        (u.admission n ≠ 0 → s'.sst n = sessClosed ∧ s'.rn (sIdx n) 0x03 = u.admission n ∧ u.counted s' 0x3100 0x09 1 ∧
          (∀ m, m ≠ n → s'.ses m = u.ses m))) ∧
      (∀ rnd, u.sst n ≠ sessIdle → u.sst n ≠ sessClosed →
        exec (.sessionOpen t r n rnd) s = .next { u with out := .resp r (sIdx n) 0x01 7 [] :: u.out }) ∧
      (u.admitted n = true → ∃ s', exec (.sessionClose t r n) s = .next s' ∧ s'.sst n = sessClosed ∧ s'.rn (sIdx n) 0x03 = 8 ∧
        (s'.ses n).aus = [] ∧ (s'.ses n).queue = [] ∧ s'.out.head? = some (.resp r (sIdx n) 0x01 0 [])) ∧
      (u.admitted n = false →
        exec (.sessionClose t r n) s = .next { u with out := .resp r (sIdx n) 0x01 7 [] :: u.out }) ∧
      (∃ s', exec (.sessionRelease t r n) s = .next s' ∧ s'.sst n = sessIdle ∧ s'.rn (sIdx n) 0x03 = 0 ∧
        s'.out.head? = some (.resp r (sIdx n) 0x01 0 [])) ∧
      (u.sst n = sessAcquiring ∨ u.sst n = sessRunning → u.clock ≤ (u.ses n).last + u.rn (sIdx n) 0x19 * msTicks →
        ∃ s', exec (.sessionResync t r n) s = .next s' ∧
        s'.sst n = sessAcquiring ∧ (s'.ses n).alive = none ∧ (s'.ses n).refs = [] ∧ (s'.ses n).since = u.clock ∧
        (∀ m, m ≠ n → s'.ses m = u.ses m) ∧ s'.out = .resp r (sIdx n) 0x01 0 [] :: u.out ∧
        s' = { u with od := s'.od, sess := s'.sess, layers := s'.layers, out := s'.out, partWrites := s'.partWrites }) ∧
      (u.sst n ≠ sessAcquiring → u.sst n ≠ sessRunning →
        exec (.sessionResync t r n) s = .next { u with out := .resp r (sIdx n) 0x01 7 [] :: u.out })) ∧
    (u.sst n = sessJoining → (u.ses n).joinAt + u.rn (sIdx n) 0x1C * sTicks ≤ u.clock →
      ∃ s', exec (.joinTimeout t n) s = .next s' ∧ s'.sst n = sessJoining ∧ (s'.ses n).joinAt = u.clock ∧
        u.raised s' (procKey 0 .net) 0x0301 1 [(8, n)] ∧ (∀ m, m ≠ n → s'.ses m = u.ses m) ∧
        s' = { u with od := s'.od, log := s'.log, sess := s'.sess, mcast := s'.mcast, out := s'.out }) ∧
    (u.sst n ≠ sessJoining → exec (.joinTimeout t n) s = .next u) ∧
    (u.sst n = sessAcquiring ∨ u.sst n = sessRunning → (u.ses n).last + u.rn (sIdx n) 0x19 * msTicks < u.clock →
      ∃ s', exec (.starvationTimeout t n) s = .next s' ∧ s'.sst n = sessStarved ∧ (s'.ses n).since = u.clock ∧
        (∀ m, m ≠ n → s'.ses m = u.ses m) ∧ u.odSame s' [key (sIdx n) 0x02, key (sIdx n) 0x03] ∧
        s' = { u with od := s'.od, sess := s'.sess }) ∧
    (u.clock ≤ (u.ses n).last + u.rn (sIdx n) 0x19 * msTicks → exec (.starvationTimeout t n) s = .next u)

/-- R32, R161, R166 to R170, Table 4.1: an update of the servo is an outlier that counts, a step, or a slew within 500 ppm; a
change of source frees the servo; a loss of updates holds over; U follows every millisecond (HOST_OFFSET_WRITE,
SERVO_SOURCE_WRITE, SERVO_LOSS_TIMEOUT, U_REFRESH). -/
def Obligations.TheServoFollowsItsTable : Prop :=
  ∀ (s : State) (t : Nat),
    let u := s.tick t
    (∀ r (o : Int), u.takes r = true → -((2 ^ 63 : Nat) : Int) ≤ o → o < ((2 ^ 63 : Nat) : Int) →
      (u.rn 0x2800 0x03 ≠ 1 → exec (.hostOffsetWrite t r o) s = .next { u with out := .resp r 0x2800 0x11 7 [] :: u.out }) ∧
      (u.rn 0x2800 0x03 = 1 → u.servo ≠ servoLocal → (u.procs.at' u.servoNet {}).restarting = false →
        ∃ s', exec (.hostOffsetWrite t r o) s = .next s' ∧ s'.out = .resp r 0x2800 0x11 0 [] :: u.out ∧
          (u.outlier o = true → u.time.outRun < 3 → s'.servo = u.servo ∧ u.counted s' 0x2800 0x10 1 ∧
            s'.time = { u.time with outRun := u.time.outRun + 1 }) ∧
          (u.outlier o = false ∨ 3 ≤ u.time.outRun → u.rn 0x2800 0x05 ≤ o.natAbs → s'.servo = servoAcquiring ∧
            s'.nowNs = ((u.nowNs : Int) - o).toNat ∧ s'.time.offsets = [] ∧ s'.time.lastValid = u.clock ∧
            s'.rn 0x2800 0x0E = wrapInc 8 (u.rn 0x2800 0x0E) ∧ u.counted s' 0x2800 0x0F 1 ∧ s'.rd 0x2800 0x0C = o) ∧
          (u.outlier o = false ∨ 3 ≤ u.time.outRun → o.natAbs < u.rn 0x2800 0x05 →
            s'.time.offsets = (o :: u.time.offsets).take 16 ∧ s'.time.lastValid = u.clock ∧ s'.nowNs = u.nowNs ∧
            incLow ≤ s'.rn 0x2800 0x02 ∧ s'.rn 0x2800 0x02 ≤ incHigh ∧ s'.rd 0x2800 0x0C = o ∧
            s'.servo = (if u.servo = servoFree then servoAcquiring
              else if u.servo = servoAcquiring then (if 16 ≤ u.time.run + 1 then servoLocked else servoAcquiring)
              else if u.servo = servoHoldover then servoLocked else u.servo)) ∧
          s' = { u with free := s'.free, od := s'.od, log := s'.log, time := s'.time, trigs := s'.trigs, layers := s'.layers,
                        commits := s'.commits, out := s'.out, partWrites := s'.partWrites })) ∧
    (∀ r src, u.takes r = true → src < 4 → ∃ s', exec (.servoSourceWrite t r src) s = .next s' ∧ s'.rn 0x2800 0x03 = src ∧
      s'.time.offsets = [] ∧ s'.time.run = 0 ∧ s'.rn 0x2800 0x0D = 0 ∧
      (src = 3 → u.grandmaster = true ∨ u.supervisor = true → s'.servo = servoLocal ∧ s'.rn 0x2800 0x02 = nominalInc ∧
        s'.time.u = some (u.rn 0x2800 0x13)) ∧
      (src ≠ 3 ∨ u.grandmaster = false ∧ u.supervisor = false → s'.servo = servoFree ∧ s'.time.u = none) ∧
      s'.out = .resp r 0x2800 0x03 0 [] :: u.out ∧
      s' = { u with od := s'.od, time := s'.time, trigs := s'.trigs, out := s'.out, partWrites := s'.partWrites }) ∧
    (u.servo = servoLocked → u.time.lastValid + u.rn 0x2800 0x07 * msTicks ≤ u.clock →
      ∃ s', exec (.servoLossTimeout t) s = .next s' ∧ s'.servo = servoHoldover ∧ u.odSame s' [key 0x2800 0x04] ∧
        s' = { u with od := s'.od }) ∧
    (u.clock < u.time.lastValid + u.rn 0x2800 0x07 * msTicks → exec (.servoLossTimeout t) s = .next u) ∧
    (u.servo = servoLocked → ∃ s' v, exec (.uRefresh t) s = .next s' ∧
      v = uValue u.time.offsets (u.rn 0x2800 0x09) (u.rn 0x2800 0x08) (u.clock - u.time.lastValid) u.uExtra ∧
      s'.time = { u.time with u := some v } ∧ s'.rn 0x5000 0x02 = min v 0xFFFFFFFF ∧
      s'.rn 0x5000 0x03 = b2n (v ≤ u.rn 0x5000 0x01) ∧ u.odSame s' [key 0x5000 0x02, key 0x5000 0x03] ∧
      s' = { u with od := s'.od, time := s'.time }) ∧
    (u.servo = servoHoldover →
      0xFFFFFFFE < uValue u.time.offsets (u.rn 0x2800 0x09) (u.rn 0x2800 0x08) (u.clock - u.time.lastValid) u.uExtra →
      ∃ s', exec (.uRefresh t) s = .next s' ∧ s'.servo = servoFree ∧ s'.time.u = none ∧ s'.rn 0x5000 0x02 = 0xFFFFFFFF) ∧
    (u.servo = servoAcquiring → ∃ s', exec (.uRefresh t) s = .next s' ∧ s'.servo = servoAcquiring ∧ s'.time.u = none ∧
      s'.rn 0x5000 0x03 = 0)

/-- R172 to R175: a PTP frame nothing takes, or of another domain, counts; an Announce that is better than the one a port holds
takes its place; a Sync at the parent port is answered by a request for the path delay; a port that hears no Announce for the
timeout forgets its master; a MASTER port sends (PTP_MESSAGE, PTP_ANNOUNCE_TIMEOUT, PTP_MASTER_SEND). -/
def Obligations.PtpPortsFollowTheMaster : Prop :=
  ∀ (s : State) (t p : Nat), p < 16 →
    let u := s.tick t
    let g := u.ptp.at' p {}
    let takes := bit (u.rn 0x2A00 0x01) p = true ∧ u.rn 0x2800 0x03 = 0
    let tr := u.rn (0x2A10 + p) 0x01
    let now := u.nowAt (p / 8)
    let two := decide (u.rn 0x2A00 0x07 = 1)
    let sum := if two = true then 0 else if tr = 0 then 2 else if tr = 1 then 1 else 0
    let kind := if u.rn 0x2A00 0x02 = 0 then ptpDelayReq else ptpPdelayReq
    let request : PtpOut := {
      kind := kind, transport := tr, domain := u.rn 0x2A00 0x03, seq := wrapInc 16 g.reqSeq, time := now,
      correction := -(u.rd (0x2A10 + p) 0x02), sum := sum }
    (∀ m data, u.restarting (p / 8) .net = false → u.rn (0x2910 + p) 0x0A = 1 →
      (¬takes → u.rn (0x2910 + p) 0x11 ≠ 1 → ∃ s', exec (.ptpMessage t p m data) s = .next s' ∧
        u.counted s' (0x2A10 + p) 0x06 1 ∧ s' = { u with od := s'.od, log := s'.log }) ∧
      (takes → m.domain ≠ u.rn 0x2A00 0x03 ∨ m.transport ≠ tr → ∃ s', exec (.ptpMessage t p m data) s = .next s' ∧
        u.counted s' (0x2A10 + p) 0x06 1 ∧ s' = { u with od := s'.od, log := s'.log }) ∧
      (takes → m.domain = u.rn 0x2A00 0x03 → m.transport = tr → m.kind = ptpAnnounce →
        (∀ b, g.best = some b → b.senderIdentity = m.senderIdentity ∨ rankLt (rankOf m) (rankOf b) = true) →
        ∃ s', exec (.ptpMessage t p m data) s = .next s' ∧ (s'.ptp.at' p {}).best = some m ∧
          (s'.ptp.at' p {}).lastAnnounce = u.clock ∧ (∀ q, q ≠ p → s'.ptp.at' q {} = u.ptp.at' q {}) ∧
          s' = { u with od := s'.od, time := s'.time, ptp := s'.ptp, trigs := s'.trigs }) ∧
      (takes → m.domain = u.rn 0x2A00 0x03 → m.transport = tr → m.kind = ptpSync → -7 ≤ m.logInterval → m.logInterval ≤ 1 → m.twoStep = true →
        u.rn 0x2A00 0x09 = p → g.best.map (·.senderIdentity) = some m.senderIdentity → u.power.phase = .running → u.rn 0x6800 0x09 ≠ 3 →
        ∃ s', exec (.ptpMessage t p m data) s = .next s' ∧ (s'.ptp.at' p {}).syncRx = some m.rxNs ∧
          (s'.ptp.at' p {}).syncSeq = m.seqId ∧ (s'.ptp.at' p {}).reqSeq = wrapInc 16 g.reqSeq ∧
          (s'.ptp.at' p {}).reqTx = some now ∧ s'.out = .ptp p request :: u.out ∧
          u.counted s' (0x2A10 + p) 0x05 1 ∧ s' = { u with od := s'.od, log := s'.log, ptp := s'.ptp, out := s'.out }) ∧
      (takes → m.domain = u.rn 0x2A00 0x03 → m.transport = tr → m.kind = ptpSync → -7 ≤ m.logInterval → m.logInterval ≤ 1 →
        u.rn 0x2A00 0x09 ≠ p ∨ g.best.map (·.senderIdentity) ≠ some m.senderIdentity →
        exec (.ptpMessage t p m data) s = .next u)) ∧
    (∀ m data, u.rn (0x2910 + p) 0x0A ≠ 1 → exec (.ptpMessage t p m data) s = .next u) ∧
    (g.best ≠ none → g.lastAnnounce + u.announceTicks ≤ u.clock → ∃ s', exec (.ptpAnnounceTimeout t p) s = .next s' ∧
      (s'.ptp.at' p {}).best = none ∧ (∀ q, q ≠ p → s'.ptp.at' q {} = u.ptp.at' q {}) ∧
      s' = { u with od := s'.od, time := s'.time, ptp := s'.ptp, trigs := s'.trigs }) ∧
    (u.clock < g.lastAnnounce + u.announceTicks → exec (.ptpAnnounceTimeout t p) s = .next u) ∧
    (u.ptpOn p = true → u.rn (0x2A10 + p) 0x03 = portMaster → u.power.phase = .running → u.rn 0x6800 0x09 ≠ 3 →
      ∃ s', exec (.ptpMasterSend t p) s = .next s' ∧ (s'.ptp.at' p {}).syncSeq = wrapInc 16 g.syncSeq ∧
        (∀ ann sync fup : PtpOut,
          ann = {
            kind := ptpAnnounce, transport := tr, domain := u.rn 0x2A00 0x03, seq := wrapInc 16 g.syncSeq, time := now,
            logInterval := u.rd 0x2A00 0x0B, gm := u.announced, utc := u.rd 0x2800 0x0A } →
          sync = {
            kind := ptpSync, transport := tr, domain := u.rn 0x2A00 0x03, seq := wrapInc 16 g.syncSeq,
            time := if two = true then 0 else now, logInterval := u.rd 0x2A00 0x0A, twoStep := two, sum := sum } →
          fup = {
            kind := ptpFollowUp, transport := tr, domain := u.rn 0x2A00 0x03, seq := wrapInc 16 g.syncSeq, time := now,
            logInterval := u.rd 0x2A00 0x0A } →
          s'.out = (if u.rn 0x2A00 0x02 = 1 then [Out.ptp p request] else []) ++ (if two = true then [Out.ptp p fup] else []) ++
            [.ptp p sync, .ptp p ann] ++ u.out) ∧
        s' = { u with ptp := s'.ptp, out := s'.out }) ∧
    (u.rn (0x2A10 + p) 0x03 ≠ portMaster → exec (.ptpMasterSend t p) s = .next u)

/-- R179 to R185: trigger units arm, fire once or again at their period, end their pulse and show a late fire once; capture
units stamp the edges of their mode and give up their records in order (TRIGGER_ARM, TRIGGER_DISARM, TRIGGER_FIRE,
TRIGGER_PULSE_END, TRIGGER_LATE_READ, CAPTURE_EDGE, CAPTURE_RECORD_READ). -/
def Obligations.TriggersAndCaptures : Prop :=
  ∀ (s : State) (t : Nat),
    let u := s.tick t
    (∀ r k mode, u.takes r = true → k < 16 → 1 ≤ mode → mode ≤ 3 → (u.trig k).spent = false →
      (mode ≠ 2 ∨ u.rn (0x2820 + k) 0x06 < u.rn (0x2820 + k) 0x03 → ∃ s', exec (.triggerArm t r k mode) s = .next s' ∧
        s'.rn (0x2820 + k) 0x01 = mode ∧ (s'.trig k).armed = true ∧ (s'.trig k).nextNs = u.trigStart k mode ∧
        (s'.trig k).late = decide (u.trigStart k mode < u.nowAt (k / 8)) ∧ s'.rn (0x2820 + k) 0x09 = nsTime96 (u.trigStart k mode) ∧
        (∀ j, j ≠ k → s'.trig j = u.trig j) ∧ s'.out = .resp r (0x2820 + k) 0x01 0 [] :: u.out ∧
        u.odSame s' [key (0x2820 + k) 0x01, key (0x2820 + k) 0x09] ∧
        s' = { u with od := s'.od, trigs := s'.trigs, out := s'.out, partWrites := s'.partWrites }) ∧
      (mode = 2 → u.rn (0x2820 + k) 0x03 ≤ u.rn (0x2820 + k) 0x06 →
        exec (.triggerArm t r k mode) s = .next { u with out := .resp r (0x2820 + k) 0x01 6 [] :: u.out })) ∧
    (∀ r k, u.takes r = true → k < 16 → ∃ s', exec (.triggerDisarm t r k) s = .next s' ∧ s'.rn (0x2820 + k) 0x01 = 0 ∧
      (s'.trig k).armed = false ∧ (∀ j, j ≠ k → s'.trig j = u.trig j) ∧ s'.out = .resp r (0x2820 + k) 0x01 0 [] :: u.out ∧
      u.odSame s' [key (0x2820 + k) 0x01] ∧
      s' = { u with od := s'.od, trigs := s'.trigs, out := s'.out, partWrites := s'.partWrites }) ∧
    (∀ k, (u.trig k).armed = true → (u.trig k).nextNs ≤ u.nowAt (k / 8) → ∃ s', exec (.triggerFire t k) s = .next s' ∧
      (s'.trig k).armed = decide (u.rn (0x2820 + k) 0x01 ≠ 1) ∧ (s'.trig k).spent = decide (u.rn (0x2820 + k) 0x01 = 1) ∧
      (u.rn (0x2820 + k) 0x01 ≠ 1 → (u.trig k).late = false →
        (s'.trig k).nextNs = (u.trig k).nextNs + u.trigPeriod k (u.rn (0x2820 + k) 0x01)) ∧
      (u.rn (0x2820 + k) 0x01 = 1 → (u.trig k).late = true → s'.rn (0x2820 + k) 0x0B = 1) ∧
      (bit (u.rn (0x2820 + k) 0x04) 0 = true → u.rn (0x2820 + k) 0x05 ≠ 0xFF → u.power.phase = .running →
        .pin (u.rn (0x2820 + k) 0x05) (decide (u.rn (0x2820 + k) 0x07 = 0)) ∈ s'.out ∧ (s'.trig k).pinActive = true ∧
        (s'.trig k).pin = u.rn (0x2820 + k) 0x05 ∧ (s'.trig k).until' = u.clock + ceilDiv (2 * u.rn (0x2820 + k) 0x06) 5) ∧
      (bit (u.rn (0x2820 + k) 0x04) 3 = true → u.raised s' (trigKey k) 0x0402 0 [(8, k), (56, nsTime96 (u.trig k).nextNs)]) ∧
      (bit (u.rn (0x2820 + k) 0x04) 2 = true → ∀ c ∈ s'.commits, c.timing = 2 → c.trig = k → c.due ≠ none) ∧
      (∀ j, j ≠ k → s'.trig j = u.trig j) ∧
      s' = { u with od := s'.od, log := s'.log, trigs := s'.trigs, screens := s'.screens, commits := s'.commits, out := s'.out }) ∧
    (∀ k, (u.trig k).armed = false ∨ u.nowAt (k / 8) < (u.trig k).nextNs → exec (.triggerFire t k) s = .next u) ∧
    (∀ k, (u.trig k).pinActive = true → (u.trig k).until' ≤ u.clock → u.power.phase = .running → ∃ s', exec (.triggerPulseEnd t k) s = .next s' ∧
      (s'.trig k).pinActive = false ∧ (∀ j, j ≠ k → s'.trig j = u.trig j) ∧
      s'.out = .pin (u.trig k).pin (u.trig k).idle :: u.out ∧ s' = { u with trigs := s'.trigs, out := s'.out }) ∧
    (∀ r k, u.answers r = true → k < 16 → ∃ s', exec (.triggerLateRead t r k) s = .next s' ∧ s'.rn (0x2820 + k) 0x0B = 0 ∧
      s'.out = .resp r (0x2820 + k) 0x0B 0 (encodeVal .bool (u.val (0x2820 + k) 0x0B)) :: u.out ∧
      u.odSame s' [key (0x2820 + k) 0x0B] ∧ s' = { u with od := s'.od, out := s'.out }) ∧
    (∀ c rising, c < 8 → edgeOn (u.rn (0x2840 + c) 0x01) rising = true → u.rn (0x2840 + c) 0x02 ≠ 0xFF →
      ∃ s', exec (.captureEdge t c rising) s = .next s' ∧
        (∀ p, (u.cap c).lastAt = some p → u.clock < p + 4 → u.counted s' (0x2840 + c) 0x06 1 ∧ s'.caps = u.caps) ∧
        ((∀ p, (u.cap c).lastAt = some p → p + 4 ≤ u.clock) → (u.cap c).recs.length < 16 →
          (s'.cap c).recs = (u.cap c).recs ++
            [⟨time96 (u.clockOf (c / 4)).1 (u.clockOf (c / 4)).2, u.rn (0x2840 + c) 0x07, u.rn 0x2800 0x0E, rising⟩] ∧
          s'.rn (0x2840 + c) 0x03 = (u.cap c).recs.length + 1 ∧ s'.rn (0x2840 + c) 0x07 = wrapInc 16 (u.rn (0x2840 + c) 0x07)) ∧
        ((∀ p, (u.cap c).lastAt = some p → p + 4 ≤ u.clock) → 16 ≤ (u.cap c).recs.length →
          (s'.cap c).recs = (u.cap c).recs ∧ u.counted s' (0x2840 + c) 0x05 1 ∧
          ((u.cap c).full = false → u.raised s' (capKey c) 0x0403 1 [(8, c)])) ∧
        s' = { u with od := s'.od, log := s'.log, caps := s'.caps }) ∧
    (∀ c rising, edgeOn (u.rn (0x2840 + c) 0x01) rising = false → exec (.captureEdge t c rising) s = .next u) ∧
    (∀ r c, u.answers r = true → c < 8 →
      (∀ v vs, (u.cap c).recs = v :: vs → ∃ s', exec (.captureRecordRead t r c) s = .next s' ∧ (s'.cap c).recs = vs ∧
        s'.rn (0x2840 + c) 0x03 = vs.length ∧ s'.out = .resp r (0x2840 + c) 0x04 0 v.bytes :: u.out ∧
        u.odSame s' [key (0x2840 + c) 0x03] ∧ s' = { u with od := s'.od, caps := s'.caps, out := s'.out }) ∧
      ((u.cap c).recs = [] →
        exec (.captureRecordRead t r c) s = .next { u with out := .resp r (0x2840 + c) 0x04 9 [] :: u.out }))

/-- R30, R137, R188, R196, R198, R199, R209, R212, R259: a core that finished is free; a free core takes the first segment that may go,
and the first of a picture ends its wait; a picture completes: its access unit leaves the queue, it counts, no more references are kept
than the session declares, and a luma checksum other than its label's taints all of it; the longest start waits are read and cleared; a
tone map's staged set becomes current whole (SEGMENT_DISPATCH, PICTURE_COMPLETE, START_WAIT_READ, TONE_MAP_APPLY). -/
def Obligations.DecodeAndToneMaps : Prop :=
  ∀ (s : State) (t : Nat),
    let u := s.tick t
    (∀ c, c < 14 → u.active.contains c = true → u.serves (coreKey c) = true → (u.core' c).sess = none →
      u.restarting (c / 7) .med = false →
      (∀ x, (u.segs.filter (fun x => u.segReady x && u.shareFits c x)).head? = some x → u.segHeld x = false →
        ∃ s', exec (.segmentDispatch t ⟨c, []⟩) s = .next s' ∧
          (s'.core' c).sess = some x.sess ∧ (s'.core' c).pic = x.pic ∧ (s'.core' c).seg = x.seg ∧ (s'.core' c).at' = u.clock ∧
          x ∉ s'.segs ∧ (∀ y, y ≠ x → (y ∈ s'.segs ↔ y ∈ u.segs)) ∧ s'.rn (0x3410 + c) 0x03 = x.sess ∧
          (∀ a, u.auOf x.sess x.pic = some a → a.coded.start = none →
            s'.rn 0x3400 0x0A = max (u.rn 0x3400 0x0A) (min 0xFFFFFFFF ((u.clock - x.avail) / usTicks))) ∧
          (∀ d, d ≠ c → s'.core' d = u.core' d) ∧ u.odSame s' [key (0x3410 + c) 0x03, key (0x3440 + x.sess) 0x0B, key 0x3400 0x0A] ∧
          s' = { u with od := s'.od, cores := s'.cores, segs := s'.segs, sess := s'.sess }) ∧
      (u.segs.filter (fun x => u.segReady x && u.shareFits c x) = [] → exec (.segmentDispatch t ⟨c, []⟩) s = .next u)) ∧
    (∀ c, (u.core' c).sess ≠ none → exec (.segmentDispatch t ⟨c, []⟩) s = .next u) ∧
    (∀ c e a, e < 14 → e ≠ c → (u.core' c).sess ≠ none → (u.core' e).sess ≠ none → u.serves (coreKey e) = true →
      ∃ s', exec (.segmentDispatch t ⟨c, [(e, a)]⟩) s = .next s' ∧ (s'.core' e).sess = none ∧ s'.rn (0x3410 + e) 0x03 = 0xFF ∧
        u.counted s' (0x3410 + e) 0x04 1 ∧ (∀ d, d ≠ e → s'.core' d = u.core' d) ∧
        s' = { u with od := s'.od, log := s'.log, cores := s'.cores }) ∧
    (∀ n d a rest p, n < 160 → (u.ses n).queue = a :: rest → u.isVideo n = true → a.coded.sps = some p → d.ended = [] →
      (∀ x ∈ u.segs, ¬(x.sess = n ∧ x.pic = a.ts)) → (∀ c, c < 14 → (u.core' c).sess ≠ some n) →
      ∃ s', exec (.pictureComplete t n d) s = .next s' ∧ (s'.ses n).queue = rest ∧ (s'.ses n).nextPic = (u.ses n).nextPic + 1 ∧
        (s'.ses n).refs.length ≤ u.rn (sIdx n) 0x15 ∧ s'.rn (0x3440 + n) 0x09 = p.width + 65536 * p.height ∧
        ((u.ses n).waiting = [] → a.judge = .replay → (s'.ses n).disp = (u.ses n).disp) ∧
        (∀ v, a.crc = some v → v ≠ lumaCrc p.codedW p.confX p.confY p.width p.height d.y → a.coded.irap = false →
          pictureExact (u.ses n).refs a.coded p (a.coded.missing (decide (u.rn (sIdx n) 0x16 = 1)) d.errors) d = true →
          u.counted s' 0x5000 0x12 1 ∧ s'.rn (0x3440 + n) 0x02 = tilesOf p.codedW p.codedH) ∧
        u.counted s' (0x3440 + n) 0x04 1 ∧ u.counted s' 0x3400 0x08 1 ∧ (∀ m, m ≠ n → s'.ses m = u.ses m) ∧
        s' = { u with free := s'.free, od := s'.od, log := s'.log, sess := s'.sess, spay := s'.spay, sys := s'.sys }) ∧
    (∀ n d, (u.ses n).queue = [] → d.ended = [] → exec (.pictureComplete t n d) s = .next u) ∧
    (∀ r, u.answers r = true →
      (∀ n, n < 160 → u.kind n ≤ 1 → ∃ s', exec (.startWaitRead t r (some n)) s = .next s' ∧ s'.rn (0x3440 + n) 0x0B = 0 ∧
        s'.out = .resp r (0x3440 + n) 0x0B 0 (encodeVal .u32 (u.val (0x3440 + n) 0x0B)) :: u.out ∧
        u.odSame s' [key (0x3440 + n) 0x0B] ∧ s' = { u with od := s'.od, out := s'.out }) ∧
      (∀ n, n < 160 → 1 < u.kind n →
        exec (.startWaitRead t r (some n)) s = .next { u with out := .resp r (0x3440 + n) 0x0B 0 (leBytes 4 0) :: u.out }) ∧
      ∃ s', exec (.startWaitRead t r none) s = .next s' ∧ s'.rn 0x3400 0x0A = 0 ∧
        s'.out = .resp r 0x3400 0x0A 0 (encodeVal .u32 (u.val 0x3400 0x0A)) :: u.out ∧
        u.odSame s' [key 0x3400 0x0A] ∧ s' = { u with od := s'.od, out := s'.out }) ∧
    (∀ r m, u.takes r = true → m < 64 → ∃ s', exec (.toneMapApply t r m) s = .next s' ∧
      (∀ sub, 1 ≤ sub → sub ≤ 14 → s'.fval (0x4210 + m) sub = u.val (0x4210 + m) sub) ∧
      s'.out = .resp r (0x4210 + m) 0x0F 0 [] :: u.out ∧
      s' = { u with force := s'.force, out := s'.out, partWrites := s'.partWrites })

/-- R265 to R273, R278 to R280: a commit request is refused by its fields, rejected by the checks with a receipt, or accepted with
one and pends; staging commands bring back what is in force and cancel; receipts held can be selected; a scheduled commit comes
due at its time and a screen's sample point takes what is due (COMMIT_REQUEST, COMMIT_DISCARD_STAGED, COMMIT_CANCEL,
RECEIPT_SELECT, SCHEDULED_COMMIT_DUE, COMMIT_SAMPLE_POINT). -/
def Obligations.CommitsPendAndCancel : Prop :=
  ∀ (s : State) (t : Nat),
    let u := s.tick t
    (∀ r, u.takes r = true →
      (∀ d, d.length = 24 → requestOk d = false →
        exec (.commitRequest t r d) s = .next { u with out := .resp r 0x4300 0x01 6 [] :: u.out }) ∧
      (∀ d id, d.length = 24 → requestOk d = true → id = wrapInc 16 (u.rn 0x4300 0x08) → 32 ≤ u.commits.length →
        ∃ s', exec (.commitRequest t r d) s = .next s' ∧ s'.commits = u.commits ∧ s'.rn 0x4300 0x08 = id ∧
          u.counted s' 0x4300 0x0A 1 ∧ (∃ v, (id, [v]) ∈ s'.receipts ∧ v.kind = 1 ∧ v.reason = 1) ∧
          s'.out = .resp r 0x4300 0x01 0 [] :: u.out ∧
          s' = { u with od := s'.od, log := s'.log, receipts := s'.receipts, out := s'.out, partWrites := s'.partWrites }) ∧
      (∀ d id c, d.length = 24 → requestOk d = true → id = wrapInc 16 (u.rn 0x4300 0x08) → c = u.commitOf id d →
        (u.commitCheck c).1 = 0 → screensIn c.left ≠ [] → (∀ x ∈ screensIn c.left, u.unavailable x = false) →
        ∃ s', exec (.commitRequest t r d) s = .next s' ∧ s'.rn 0x4300 0x08 = id ∧
          (∃ e ∈ s'.commits, e.id = id ∧ e.vals = c.vals ∧ e.tag = c.tag ∧ (∀ x, x < 24 → bit e.left x = bit c.left x) ∧
            (c.timing = 0 → e.due = some u.nowNs) ∧ (c.timing ≠ 0 → e.due = none)) ∧
          (∃ v, (id, [v]) ∈ s'.receipts ∧ v.kind = 0) ∧ s'.out = .resp r 0x4300 0x01 0 [] :: u.out ∧
          s' = { u with od := s'.od, log := s'.log, commits := s'.commits, receipts := s'.receipts, out := s'.out,
                        partWrites := s'.partWrites }) ∧
      (∃ s', exec (.commitDiscardStaged t r) s = .next s' ∧
        (∀ n ∈ u.slotsIn (u.rn 0x4300 0x03), ∀ sub ∈ slotSubs, s'.val (lIdx n) sub = u.fval (lIdx n) sub) ∧
        (∀ x ∈ screensIn (u.rn 0x4300 0x03), ∀ sub ∈ screenSubs, s'.val (scrIdx x) sub = u.fval (scrIdx x) sub) ∧
        s'.out = .resp r 0x4300 0x02 0 [] :: u.out ∧ s' = { u with od := s'.od, out := s'.out, partWrites := s'.partWrites }) ∧
      (u.commits.any (fun c => c.id = u.rn 0x4300 0x04) = true →
        (cancelSet (u.rn 0x4300 0x04) [] u.commits).any (fun c => c.landed || c.taken ≠ 0) = false →
        ∃ s', exec (.commitCancel t r) s = .next s' ∧
          (∀ c ∈ cancelSet (u.rn 0x4300 0x04) [] u.commits, ∀ d ∈ s'.commits, d.id ≠ c.id) ∧
          s'.out = .resp r 0x4300 0x02 0 [] :: u.out ∧
          s' = { u with od := s'.od, log := s'.log, commits := s'.commits, receipts := s'.receipts, out := s'.out,
                        partWrites := s'.partWrites }) ∧
      (u.commits.any (fun c => c.id = u.rn 0x4300 0x04) = false →
        exec (.commitCancel t r) s = .next { u with out := .resp r 0x4300 0x02 7 [] :: u.out }) ∧
      (∀ id, id < 65536 →
        (u.receipts.any (fun p => p.1 = id) = true → ∃ s', exec (.receiptSelect t r id) s = .next s' ∧ s'.rn 0x4300 0x05 = id ∧
          s'.out = .resp r 0x4300 0x05 0 [] :: u.out ∧ u.odSame s' [key 0x4300 0x05] ∧
          s' = { u with od := s'.od, out := s'.out, partWrites := s'.partWrites }) ∧
        (u.receipts.any (fun p => p.1 = id) = false →
          exec (.receiptSelect t r id) s = .next { u with out := .resp r 0x4300 0x05 9 [] :: u.out }))) ∧
    (∀ id, ∃ s', exec (.scheduledCommitDue t id) s = .next s' ∧
      (∀ c ∈ s'.commits, c.id = id → c.timing = 1 → time96Ns c.time ≤ u.nowNs → c.due ≠ none) ∧
      (∀ c ∈ u.commits, c.id ≠ id ∨ c.timing ≠ 1 ∨ u.nowNs < time96Ns c.time → c ∈ s'.commits) ∧
      s'.commits.length = u.commits.length ∧ s' = { u with commits := s'.commits }) ∧
    (∀ x, ∃ s', exec (.commitSamplePoint t x) s = .next s' ∧
      (∀ c ∈ u.commits, bit c.left x = true → ∀ d, c.due = some d → d < u.nowNs →
        { c with taken := setBit c.taken x true } ∈ s'.commits) ∧
      (∀ c ∈ u.commits, c.due = none ∨ bit c.left x = false → c ∈ s'.commits) ∧
      s'.commits.length = u.commits.length ∧ s' = { u with commits := s'.commits })

/-- R290, R291, R293, R294: a press completes its plane; a lease ends when nothing selects or reads the buffer, and its queued writes
leave the queue; writes that have waited for the limit are discarded (PRESS_COMPLETE, LEASE_END, LEASE_WAIT_LIMIT). -/
def Obligations.PressesAndLeases : Prop :=
  ∀ (s : State) (t : Nat),
    let u := s.tick t
    (∀ x a, x < 24 → (u.screen x).pressing = some a → (u.screen x).planeDone = false → u.pressBefore x a = false →
      ∃ s', exec (.pressComplete t x) s = .next s' ∧ (s'.screen x).planeDone = true ∧ (s'.screen x).pressMs = [] ∧
        (s'.screen x).planeCur = (u.screen x).planeCur ∧ u.counted s' (0x4310 + x) 0x04 1 ∧
        s'.rn (0x4310 + x) 0x06 = min 0xFFFFFFFF ((u.clock - a) / usTicks) ∧ (∀ y, y ≠ x → s'.screen y = u.screen y) ∧
        s' = { u with od := s'.od, log := s'.log, screens := s'.screens }) ∧
    (∀ x, (u.screen x).pressing = none → exec (.pressComplete t x) s = .next u) ∧
    (∀ x a, (u.screen x).pressing = some a → u.pressBefore x a = true → exec (.pressComplete t x) s = .next u) ∧
    (∀ n b, ((u.gfxOf n).bufs.at' b {}).leased = true → u.bufRead n b = false →
      ∃ s', exec (.leaseEnd t n b) s = .next s' ∧ (∀ q ∈ s'.queued, ¬(q.msg.sess = n ∧ q.msg.hdr.buf = b)) ∧
        (∀ q ∈ s'.queued, q ∈ u.queued) ∧ s'.rn 0x4300 0x0E = s'.queued.length ∧
        ((∀ q ∈ u.queued, ¬(q.msg.sess = n ∧ q.msg.hdr.buf = b)) →
          (s'.gfxOf n).bufs.at' b {} = { (u.gfxOf n).bufs.at' b {} with leased := false } ∧
          u.odSame s' [key 0x4300 0x0D, key 0x4300 0x0E, key 0x4300 0x0F] ∧
          s' = { u with od := s'.od, gfx := s'.gfx, queued := s'.queued })) ∧
    (∀ n b, u.bufRead n b = true → exec (.leaseEnd t n b) s = .next u) ∧
    (∃ s', exec (.leaseWaitLimit t) s = .next s' ∧
      s'.queued = u.queued.filter (fun q => !decide (q.msg.arrived + u.rn 0x4300 0x07 * msTicks ≤ u.clock)) ∧
      u.counted s' 0x4300 0x12 (u.queued.filter (fun q => decide (q.msg.arrived + u.rn 0x4300 0x07 * msTicks ≤ u.clock))).length ∧
      s'.rn 0x4300 0x0E = s'.queued.length ∧
      s' = { u with od := s'.od, log := s'.log, queued := s'.queued, rings := s'.rings, pcie := s'.pcie, out := s'.out })

/-- R302 to R305, R307 to R310, R315, R316: a frame starts, a strip is composed, written or dropped, blanking and line matches
report (FRAME_START, STRIP_COMPOSE_START, STRIP_WRITE, STRIP_DROP, BLANKING_START, LINE_MATCH). -/
def Obligations.FramesAndStrips : Prop :=
  ∀ (s : State) (t x : Nat), x < 24 →
    let u := s.tick t
    let c := u.screen x
    (c.run = true → u.member x = false → u.mayStart x = true → ∃ s', exec (.frameStart t x) s = .next s' ∧
      s'.rn (scrIdx x) 0x16 = wrapInc 32 (u.rn (scrIdx x) 0x16) ∧ (s'.screen x).start = c.start + u.linesNs x (u.frameLines x) ∧
      s'.rn (scrIdx x) 0x1D = min 65535 (u.frameLines x) ∧ (s'.screen x).prev = c.start ∧
      (s'.screen x).latched = false ∧ (s'.screen x).blanked = false ∧ (s'.screen x).crease = [] ∧ (s'.screen x).align = false ∧
      (s'.screen x).service = (c.service && !(List.range (u.strips x)).all (fun k => c.fresh.contains k)) ∧
      (s'.screen x).sending = decide (u.rn (scrIdx x) 0x14 = 2) ∧ (s'.screen x).snoop = [] ∧ (s'.screen x).uFault = false ∧
      (∀ y, y ≠ x → s'.screen y = u.screen y) ∧
      s' = { u with od := s'.od, log := s'.log, layers := s'.layers, screens := s'.screens, encs := s'.encs, upd := s'.upd }) ∧
    (u.mayStart x = false → c.service = true → exec (.frameStart t x) s = .next u) ∧
    (∀ k p, c.plan = some p → c.run = true → c.composing = none → u.nextStrip x = some k →
      u.scanning x p.frame = false → u.scanning x (wrapDec 32 p.frame) = true → c.start + u.linesNs x (u.stripEnd x k) ≤ u.nowAt (x / 12) →
      u.serves (compKey (u.stripOutput x k)) = true → u.restarting (x / 12) .cmp = false → u.pipesServe p k = true →
      ∃ s', exec (.stripComposeStart t x k) s = .next s' ∧ s'.screen x = { c with composing := some k } ∧
        (∀ y, y ≠ x → s'.screen y = u.screen y) ∧ s' = { u with screens := s'.screens }) ∧
    (∀ k, u.nextStrip x ≠ some k → exec (.stripComposeStart t x k) s = .next u) ∧
    (∀ k p, c.plan = some p → c.composing = some k → u.scanning x p.frame = false →
      ∃ s', exec (.stripWrite t x (u.stripOutput x k) k) s = .next s' ∧ (s'.screen x).composing = none ∧
        (s'.screen x).ledger.at' k {} = p.entry (ceilDiv (u.ha x) 16) k ∧
        (s'.screen x).buffer = cellsWrite c.buffer (16 * k * u.ha x * bytesPerPixel (u.fn (scrIdx x) 0x03))
          (p.stripBytes (u.fn (scrIdx x) 0x03) (u.ha x) (u.va x) k (u.contentAt p)) ∧
        (if (List.range (u.strips x)).all (fun j => (k :: c.written).contains j || c.dropped.contains j)
          then (s'.screen x).done = some (p.frame, k :: c.written) ∧ (s'.screen x).plan = c.next
          else (s'.screen x).written = k :: c.written ∧ (s'.screen x).plan = c.plan) ∧
        (∀ y, y ≠ x → s'.screen y = u.screen y) ∧
        s' = { u with od := s'.od, log := s'.log, tally := s'.tally, layers := s'.layers, screens := s'.screens, encs := s'.encs }) ∧
    (∀ k y, c.composing ≠ some k ∨ y ≠ u.stripOutput x k → exec (.stripWrite t x y k) s = .next u) ∧
    (∀ k p, c.plan = some p → u.scanning x p.frame = true → u.pastDeadline x k = true → ∀ y, exec (.stripWrite t x y k) s = .next u) ∧
    (∀ k p, c.plan = some p → u.scanning x p.frame = true → u.pastDeadline x k = true → u.nextStrip x = some k →
      ∃ s', exec (.stripDrop t x k) s = .next s' ∧
        (if (List.range (u.strips x)).all (fun j => c.written.contains j || (k :: c.dropped).contains j)
          then (s'.screen x).done = some (p.frame, c.written) ∧ (s'.screen x).plan = c.next
          else (s'.screen x).dropped = k :: c.dropped ∧ (s'.screen x).plan = c.plan) ∧
        (s'.screen x).buffer = c.buffer ∧ (s'.screen x).ledger = c.ledger ∧ (∀ y, y ≠ x → s'.screen y = u.screen y) ∧
        s' = { u with od := s'.od, log := s'.log, tally := s'.tally, layers := s'.layers, screens := s'.screens }) ∧
    (∀ k p, c.plan = some p → u.scanning x p.frame = false → exec (.stripDrop t x k) s = .next u) ∧
    (∀ under, c.run = true → c.blanked = false → u.member x = false → c.start + u.linesNs x (u.va x) ≤ u.nowAt (x / 12) →
      under = (List.range (u.strips x)).filter (fun k => !c.scanWritten.contains k) →
      ∃ s', exec (.blankingStart t x) s = .next s' ∧
        (s'.screen x).blanked = true ∧ (s'.screen x).under = !under.isEmpty ∧ (s'.screen x).start = c.start ∧
        (c.prev ≠ c.start → c.scanWritten = [] → (s'.screen x).repeats = min 256 (c.repeats + 1) ∧ u.counted s' (scrIdx x) 0x36 1) ∧
        (c.prev ≠ c.start → c.scanWritten ≠ [] → (s'.screen x).repeats = 0) ∧ (∀ y, y ≠ x → s'.screen y = u.screen y) ∧
        (under ≠ [] → u.counted s' (scrIdx x) 0x1A 1 ∧ u.counted s' (scrIdx x) 0x1B under.length) ∧
        (u.power.phase = .running → s'.out =
          (if c.sending = true ∧ c.sig.1 = 1 then [Out.infoFrame x (u.infoFrameBytes x)] else []) ++ u.out) ∧
        s' = { u with od := s'.od, log := s'.log, screens := s'.screens, out := s'.out }) ∧
    (c.blanked = true → exec (.blankingStart t x) s = .next u) ∧
    (∀ line, c.run = true → u.member x = false → line < 0xFFFF → line < u.vmax x → c.start + u.linesNs x line ≤ u.nowAt (x / 12) →
      ∃ s', exec (.lineMatch t x line) s = .next s' ∧
        (u.rn (scrIdx x) 0x18 = line → bit (u.rn (scrIdx x) 0x17) 1 = true →
          u.raised s' (scanKey x) 0x0702 0 [(8, x), (32, u.rn (scrIdx x) 0x16), (16, line)]) ∧
        (u.rn (scrIdx x) 0x18 ≠ line → u.rn (scrIdx x) 0x19 = line → bit (u.rn (scrIdx x) 0x17) 2 = true →
          u.raised s' (scanKey x) 0x0703 0 [(8, x), (32, u.rn (scrIdx x) 0x16), (16, line)]) ∧
        (u.rn (scrIdx x) 0x18 ≠ line → u.rn (scrIdx x) 0x19 ≠ line → s' = u) ∧
        u.odSame s' [key 0x2200 0x05] ∧ s' = { u with od := s'.od, log := s'.log }) ∧
    (∀ line, u.vmax x ≤ line → exec (.lineMatch t x line) s = .next u)

/-- R306, R319, R321 to R325, R327, R329, R330, R464: a timing apply is checked, then runs; a training within its rules brings the link
up or fails, any other changes nothing; the sink comes, interrupts and goes; a pattern goes to a disabled output only (TIMING_APPLY, TIMING_APPLY_RUNNING, LINK_TRAINING_COMPLETE, HPD_RISE, HPD_IRQ,
HPD_UNPLUG, DP_PRBS_GENERATOR). -/
def Obligations.TimingsAndLinks : Prop :=
  ∀ (s : State) (t x : Nat), x < 24 →
    let u := s.tick t
    let c := u.screen x
    (∀ r, u.takes r = true →
      (u.timingCheck x ≠ 0 → ∃ s', exec (.timingApply t r x) s = .next s' ∧ s'.rn (scrIdx x) 0x1F = u.timingCheck x ∧
        s'.out = .resp r (scrIdx x) 0x13 7 [] :: u.out ∧ u.odSame s' [key (scrIdx x) 0x1F] ∧
        s' = { u with od := s'.od, out := s'.out }) ∧
      (u.timingCheck x = 0 → ∃ s', exec (.timingApply t r x) s = .next s' ∧ s'.rn (scrIdx x) 0x1F = 0 ∧
        s'.screen x = { c with
          applying := true, sending := if u.rn (scrIdx x) 0x14 = 1 ∨ u.rn (scrIdx x) 0x14 = 2 then false else c.sending } ∧ (∀ y, y ≠ x → s'.screen y = u.screen y) ∧
        s'.out = .resp r (scrIdx x) 0x13 0 [] :: u.out ∧ (u.rn (scrIdx x) 0x14 = 2 → s'.rn (scrIdx x) 0x14 = 1) ∧
        s' = { u with od := s'.od, log := s'.log, screens := s'.screens, out := s'.out, partWrites := s'.partWrites }) ∧
      (∀ code, code ≤ 4 →
        (u.fn (scrIdx x) 0x01 = 0 → ∃ s', exec (.dpPrbsGenerator t r x code) s = .next s' ∧ s'.rn (0x6440 + x) 0x0B = code ∧
          s'.out = .resp r (0x6440 + x) 0x0B 0 [] :: u.out ∧ u.odSame s' [key (0x6440 + x) 0x0B] ∧
          s' = { u with od := s'.od, out := s'.out, partWrites := s'.partWrites }) ∧
        (u.fn (scrIdx x) 0x01 ≠ 0 →
          exec (.dpPrbsGenerator t r x code) s = .next { u with out := .resp r (0x6440 + x) 0x0B 7 [] :: u.out }))) ∧
    (c.applying = true → ∃ s', exec (.timingApplyRunning t x) s = .next s' ∧
      (∀ k ∈ timingSubs, s'.fval (scrIdx x) k = u.val (scrIdx x) k) ∧ (s'.screen x).applying = false ∧ (s'.screen x).run = true ∧
      (s'.screen x).service = true ∧ (s'.screen x).start = u.nowAt (x / 12) ∧ (s'.screen x).ledger = [] ∧ s'.rn (scrIdx x) 0x16 = 0 ∧
      s' = { u with od := s'.od, force := s'.force, log := s'.log, screens := s'.screens, encs := s'.encs, out := s'.out }) ∧
    (c.applying = false → exec (.timingApplyRunning t x) s = .next u) ∧
    (∀ k failed last ok, u.rn (scrIdx x) 0x14 = 1 → c.sink = some k →
      u.trainingOk x (failed ++ last.toList) (ok && last.isSome) = true →
      ∃ s', exec (.linkTrainingComplete t x failed last ok) s = .next s' ∧ (s'.screen x).tries = failed ++ last.toList ∧
        (s'.screen x).from' = none ∧
        (∀ l, last = some l → ok = true →
          s'.rn (scrIdx x) 0x14 = 2 ∧ s'.rn (scrIdx x) 0x15 = l.rate + 256 * l.lanes) ∧
        (ok = false ∨ last = none → s'.rn (scrIdx x) 0x14 = 3 ∧ s'.rn (scrIdx x) 0x15 = 0xFFFF ∧ u.counted s' (0x4910 + x) 0x0A 1) ∧
        (∀ y, y ≠ x → s'.screen y = u.screen y) ∧
        s' = { u with od := s'.od, log := s'.log, screens := s'.screens, out := s'.out }) ∧
    (∀ failed last ok, u.rn (scrIdx x) 0x14 ≠ 1 ∨ c.sink = none ∨
        u.trainingOk x (failed ++ last.toList) (ok && last.isSome) = false →
      exec (.linkTrainingComplete t x failed last ok) s = .next u) ∧
    (u.member x = false → ∀ k, ∃ s', exec (.hpdRise t x k) s = .next s' ∧
      s'.screen x = { c with hpd := true, sink := some k, fixed := !bit (sinkCap k 7) 6, from' := none, sending := false } ∧
      s'.rb (0x4910 + x) 0x01 = k.dpcd.take 16 ∧ s'.rb (0x4910 + x) 0x02 = k.edid ∧
      s'.rn (0x4910 + x) 0x03 = b2n (bit (sinkCap k 7) 6) ∧
      s'.rn (scrIdx x) 0x14 = (if u.fn (scrIdx x) 0x01 = 0 then 0 else 1) ∧
      (bit (sinkCap k 7) 6 = false → u.raised s' (txKey x) 0x0707 1 [(8, x)]) ∧ (∀ y, y ≠ x → s'.screen y = u.screen y) ∧
      s' = { u with od := s'.od, log := s'.log, screens := s'.screens }) ∧
    (u.member x = false → c.hpd = true →
      (∀ lane align status, align < 256 → status = lane % 65536 + 65536 * align →
        ∃ s', exec (.hpdIrq t x lane align) s = .next s' ∧ s'.rn (0x4910 + x) 0x0B = status ∧
        u.counted s' (0x4910 + x) 0x08 1 ∧
        (linkLost (u.rn (scrIdx x) 0x15 / 256) status = true → u.rn (scrIdx x) 0x14 = 2 →
          s'.rn (scrIdx x) 0x14 = 1 ∧ u.counted s' (scrIdx x) 0x1E 1 ∧
          (s'.screen x).from' = some (u.rn (scrIdx x) 0x15 % 256, u.rn (scrIdx x) 0x15 / 256)) ∧
        (linkLost (u.rn (scrIdx x) 0x15 / 256) status = false → u.rn (scrIdx x) 0x14 ≠ 3 →
          s'.rn (scrIdx x) 0x14 = u.rn (scrIdx x) 0x14 ∧ s'.screen x = c) ∧
        (u.rn (scrIdx x) 0x14 = 3 → s'.rn (scrIdx x) 0x14 = 1) ∧ (∀ y, y ≠ x → s'.screen y = u.screen y) ∧
        s' = { u with od := s'.od, log := s'.log, screens := s'.screens }) ∧
      ∃ s', exec (.hpdUnplug t x) s = .next s' ∧ s'.screen x = { c with hpd := false, sink := none, sending := false } ∧
        u.counted s' (0x4910 + x) 0x09 1 ∧ s'.rn (scrIdx x) 0x14 = (if u.fn (scrIdx x) 0x01 = 0 then 0 else 4) ∧
        (∀ y, y ≠ x → s'.screen y = u.screen y) ∧ s' = { u with od := s'.od, log := s'.log, screens := s'.screens }) ∧
    (u.member x = true ∨ c.hpd = false → (∀ lane align, exec (.hpdIrq t x lane align) s = .next u) ∧ exec (.hpdUnplug t x) s = .next u)

/-- R97: a screen of V active lines has ceil(V ÷ 16) strips, numbered from 0 at the top: line L lies in strip L ÷ 16, every strip but the last
holds 16 lines, and the last what remains; 1080 lines make 68 strips and 2400 lines 150. -/
def Obligations.StripsCutTheScreen : Prop :=
  ∀ (s : State) (x : Nat), let v := s.va x
    (v ≤ 16 * s.strips x ∧ 16 * s.strips x < v + 16) ∧ (∀ line, line < v → line / 16 < s.strips x) ∧
    (∀ k, k + 1 < s.strips x → s.stripEnd x k = 16 * (k + 1)) ∧
    (0 < v → s.stripEnd x (s.strips x - 1) = v) ∧
    (v = 1080 → s.strips x = 68) ∧ (v = 2400 → s.strips x = 150)

/-- R347, R356, R358 to R362: a context starts WAITING on a core or stops with the reason, stops on command, queues an access unit
for each coded picture, sends its packets and reports, and resolves its next hop (ENCODE_START, ENCODE_STOP,
ENCODE_PICTURE_COMPLETE, MIRROR_PACKET_SEND, MIRROR_SR_SEND, NEXT_HOP_RESOLVE, ARP_OR_NEIGHBOUR_REPLY). -/
def Obligations.MirrorsEncodeAndSend : Prop :=
  ∀ (s : State) (t e : Nat), e < 16 →
    let u := s.tick t
    let i := eIdx e
    let g := u.enc e
    (∀ r, u.takes r = true →
      (∀ ssrc seq, u.encOn e = true → exec (.encodeStart t r e ssrc seq) s = .next { u with out := .resp r i 0x01 7 [] :: u.out }) ∧
      (∀ ssrc seq why, u.encOn e = false →
        why = (if u.encConfigOk e = false then 3 else if u.encSource e = false then 4 else 2) →
        why ≠ 2 ∨ u.encRoom e = none →
        ∃ s', exec (.encodeStart t r e ssrc seq) s = .next s' ∧ s'.rn i 0x02 = encStopped ∧ s'.rn i 0x03 = why ∧
          s'.out = .resp r i 0x01 0 [] :: u.out ∧ u.odSame s' [key i 0x02, key i 0x03] ∧
          s' = { u with od := s'.od, out := s'.out, partWrites := s'.partWrites }) ∧
      (∀ ssrc seq c, u.encOn e = false → u.encConfigOk e = true → u.encSource e = true → u.encRoom e = some c →
        ∃ s', exec (.encodeStart t r e ssrc seq) s = .next s' ∧ s'.rn i 0x02 = encWaiting ∧ s'.rn i 0x03 = 0 ∧
          s'.rn i 0x1E = c ∧ s'.rn i 0x20 = ssrc % 2 ^ 32 ∧ (s'.enc e).seq = seq % 65536 ∧ (s'.enc e).srAt = u.clock ∧
          (s'.enc e).queue = [] ∧ (∀ d, d ≠ e → s'.enc d = u.enc d) ∧ s'.out = .resp r i 0x01 0 [] :: u.out ∧
          s' = { u with od := s'.od, encs := s'.encs, out := s'.out, partWrites := s'.partWrites }) ∧
      (u.encOn e = false → exec (.encodeStop t r e) s = .next { u with out := .resp r i 0x01 7 [] :: u.out }) ∧
      (u.encOn e = true → ∃ s', exec (.encodeStop t r e) s = .next s' ∧ s'.rn i 0x02 = encStopped ∧ s'.rn i 0x03 = 1 ∧
        s'.rn i 0x1E = 0xFF ∧ s'.rn i 0x1F = 0 ∧ s'.enc e = { g with coding := none, queue := [], lay := none } ∧
        (∀ d, d ≠ e → s'.enc d = u.enc d) ∧
        s'.out = .resp r i 0x01 0 [] :: (u.say (.mirrorBye e (u.rn i 0x20))).out ∧
        s' = { u with od := s'.od, encs := s'.encs, out := s'.out, partWrites := s'.partWrites })) ∧
    (∀ inf c, g.coding = some c → ∃ s' au, exec (.encodePictureComplete t e inf) s = .next s' ∧
      (s'.enc e).coding = none ∧ (s'.enc e).queue = g.queue ++ [au] ∧ au.ts = c.start * 90000 / 1000000000 % 2 ^ 32 ∧
      au.first = true ∧ au.left = max 1 inf.packets ∧ (s'.enc e).idr = false ∧ (∀ d, d ≠ e → s'.enc d = u.enc d) ∧
      u.counted s' i 0x24 1 ∧ u.counted s' 0x3500 0x05 1 ∧ s' = { u with od := s'.od, log := s'.log, encs := s'.encs }) ∧
    (∀ inf, g.coding = none → exec (.encodePictureComplete t e inf) s = .next u) ∧
    (∀ a q, g.queue = a :: q → ∃ s', exec (.mirrorPacketSend t e) s = .next s' ∧
      s'.enc e = { g with seq := wrapInc 16 g.seq, queue := if a.left ≤ 1 then q else { a with first := false, left := a.left - 1 } :: q } ∧
      (∀ d, d ≠ e → s'.enc d = u.enc d) ∧ (u.encCanSend e = true → u.counted s' i 0x29 1 ∧
        s'.out = (u.say (.mirror e g.seq a.ts (decide (a.left ≤ 1)) (if a.first then a.label else []) (if a.first then a.vui else []))).out) ∧
      (u.encCanSend e = false → u.counted s' i 0x2A 1 ∧ s'.out = u.out) ∧
      s' = { u with od := s'.od, log := s'.log, encs := s'.encs, out := s'.out }) ∧
    (g.queue = [] → exec (.mirrorPacketSend t e) s = .next u) ∧
    (u.encOn e = true → g.srAt + sTicks ≤ u.clock → ∃ s', exec (.mirrorSrSend t e) s = .next s' ∧
      s'.enc e = { g with srAt := u.clock } ∧ (∀ d, d ≠ e → s'.enc d = u.enc d) ∧
      (u.encCanSend e = false → s'.out = u.out) ∧
      (u.encCanSend e = true → s'.out = (u.say (.mirrorSr e (u.rn i 0x20)
        (((u.time.sec : Int) - (if bit (u.rn i 0x1C) 1 then 0 else u.rd 0x2800 0x0A) + 2208988800) % ((2 ^ 32 : Nat) : Int)).toNat
        (u.time.ns * 2 ^ 32 / 1000000000)
        (u.nowNs * 90000 / 1000000000 % 2 ^ 32) (u.rn i 0x29))).out) ∧
      s' = { u with encs := s'.encs, out := s'.out }) ∧
    (u.encOn e = false ∨ u.clock < g.srAt + sTicks → exec (.mirrorSrSend t e) s = .next u) ∧
    (∀ a, u.encOn e = true → u.encGroup e = false → g.hop = false → u.rn (0x2910 + u.rn i 0x15) 0x0A = 1 → u.encAddress e = true →
      u.encHop e = some a →
      exec (.nextHopResolve t e) s = .next (u.say (.resolve (u.rn i 0x15) (decide (u.rn i 0x16 = 1)) a))) ∧
    (u.encOn e = false ∨ u.encGroup e = true ∨ g.hop = true → exec (.nextHopResolve t e) s = .next u) ∧
    (∀ p a, ∃ s', exec (.arpOrNeighbourReply t p a) s = .next s' ∧
      (s'.enc e).hop = (g.hop || (u.encOn e && decide (u.rn i 0x15 = p) && decide (u.encHop e = some a))) ∧
      s'.enc e = { g with hop := (s'.enc e).hop } ∧ s' = { u with encs := s'.encs })

/-- R366, R371 to R374, R381, R386, R389 to R392, R497: a ZTT message is taken or discarded by its header, waits for an engine, and is
applied there; a block is coded and verified, and both directions go on where they stopped (ZTT_MESSAGE, ZTT_MESSAGE_DISPATCH,
ZTT_MESSAGE_APPLIED, BLOCK_COMPRESS, COMPRESS_RESUME, DECOMPRESS_RESUME). -/
def Obligations.MessagesAreCheckedAndApplied : Prop :=
  ∀ (s : State) (t : Nat),
    let u := s.tick t
    (∀ p dst src dport sport b, u.portHears p = false → exec (.zttMessage t (.udp p dst src dport sport) b) s = .next u) ∧
    (∀ p dst src dport sport b n, u.portHears p = true → u.zttSession (.udp p dst src dport sport) = some n → n < 160 →
      (b.length < 64 ∨ (zttHeader b).ok (b.length - 64) = false →
        ∃ s', exec (.zttMessage t (.udp p dst src dport sport) b) s = .next s' ∧ u.counted s' (0x5810 + n) 0x0E 1 ∧
          u.counted s' 0x5800 0x05 1 ∧ s'.rn (0x5810 + n) 0x11 = 1 ∧ s' = { u with od := s'.od, log := s'.log, out := s'.out }) ∧
      (64 ≤ b.length → (zttHeader b).ok (b.length - 64) = true → (zttHeader b).sess = n →
        u.zttOpen (.udp p dst src dport sport) n = true → u.sst n = sessRunning →
        ((u.gfxOf n).expected = none ∨ (u.gfxOf n).expected = some (zttHeader b).seq) →
        (∀ x, (u.gfxOf n).expected = some x → x < 2 ^ 32) →
        ∃ s', exec (.zttMessage t (.udp p dst src dport sport) b) s = .next s' ∧
          s'.zttQ = u.zttQ ++ [⟨n, .udp p dst src dport sport, 0, zttHeader b, b.drop 64, u.clock, false, false⟩] ∧
          (s'.gfxOf n) = { u.gfxOf n with expected := some (((zttHeader b).seq + 1) % 2 ^ 32) } ∧
          (s'.ses n) = { u.ses n with last := u.clock } ∧ (∀ m, m ≠ n → s'.ses m = u.ses m) ∧
          s' = { u with sess := s'.sess, gfx := s'.gfx, zttQ := s'.zttQ })) ∧
    (∀ q w b, u.fetchDesc q 1 = none → exec (.zttMessage t (.ring q w) b) s = .next u) ∧
    (∀ q w b, q < 32 → (u.ring q).running = true → (u.ring q).kind = 1 → serialAfter 32 (u.ring q).host (u.ring q).fetch = true →
      w.length = 32 → bits (leNat w) 95 64 < 64 ∨ 37748800 < bits (leNat w) 95 64 ∨ bit (leNat w) 96 = true ∨ bits (leNat w) 255 97 ≠ 0 →
      ∃ v, u.fetchDesc q 1 = some ((u.ring q).fetch, v) ∧
        exec (.zttMessage t (.ring q w) b) s = .next (v.writeBack q ⟨(u.ring q).fetch, 1, true, false, false, 0, 0, 0, 0⟩)) ∧
    (∀ z m, z < 4 → u.engines.look z = none → u.serves (coderKey z) = true → u.dieLost (z / 2) = false →
      u.zttQ.find? (fun m => !u.engines.any (fun p => p.2.sess = m.sess)) = some m →
      ∃ s', exec (.zttMessageDispatch t z) s = .next s' ∧ s'.engines.look z = some m ∧ s'.zttQ = u.zttQ.filter (· ≠ m) ∧
        s'.engLast.look z = some m.sess ∧ (∀ y, y ≠ z → s'.engines.look y = u.engines.look y) ∧
        (u.engLast.look z ≠ some m.sess → u.counted s' (0x5810 + m.sess) 0x12 1) ∧
        s' = { u with od := s'.od, log := s'.log, zttQ := s'.zttQ, engines := s'.engines, engLast := s'.engLast }) ∧
    (∀ z, 4 ≤ z ∨ (u.engines.look z).isSome = true ∨ u.zttQ = [] → exec (.zttMessageDispatch t z) s = .next u) ∧
    (∀ z, u.engines.look z = none → exec (.zttMessageApplied t z) s = .next u) ∧
    (∀ z m, u.engines.look z = some m → m.defer = false → m.hdr.coded = false → m.hdr.restart = false →
      ((u.gfxOf m.sess).bufs.look m.hdr.buf = none → ∃ s', exec (.zttMessageApplied t z) s = .next s' ∧
        s'.engines = u.engines.cut z ∧ u.counted s' (0x5810 + m.sess) 0x0E 1 ∧ u.counted s' 0x5800 0x05 1 ∧
        s'.rn (0x5810 + m.sess) 0x11 = 4 ∧ s'.gfx = u.gfx) ∧
      (∀ v n h, (u.gfxOf n).bufs.look h.buf = some v → n = m.sess → h = m.hdr → h.typ = 1 → h.present = false → 0 < h.w →
        h.x + h.w ≤ u.rn (sIdx n) 0x10 → h.y + h.h ≤ u.rn (sIdx n) 0x11 → h.cls = u.rn (0x5810 + n) 0x02 → h.fmt ≤ 3 →
        v.fmt = some h.fmt → m.payload.length = h.w * h.h * bytesPerPixel h.fmt → m.payload.length ≤ u.rn (0x5810 + n) 0x03 →
        v.leased = false → u.queued.any (fun q => q.msg.sess = n && q.msg.hdr.buf = h.buf) = false →
        ∃ s', exec (.zttMessageApplied t z) s = .next s' ∧ s'.engines = u.engines.cut z ∧
          u.counted s' (0x5810 + n) 0x0D 1 ∧ u.counted s' 0x5800 0x04 1 ∧
          ((s'.gfxOf n).bufs.at' h.buf {}).complete = false ∧ ((s'.gfxOf n).bufs.at' h.buf {}).pic = none ∧
          ((s'.gfxOf n).bufs.at' h.buf {}).data =
            putRows (u.rn (sIdx n) 0x10 * bytesPerPixel h.fmt)
              (h.y * (u.rn (sIdx n) 0x10 * bytesPerPixel h.fmt) + h.x * bytesPerPixel h.fmt) (h.w * bytesPerPixel h.fmt) h.h v.data
              (if h.delta then undoDelta (bytesPerPixel h.fmt) (h.w * bytesPerPixel h.fmt) h.h m.payload else m.payload) ∧
          (∀ b, b ≠ h.buf → (s'.gfxOf n).bufs.look b = (u.gfxOf n).bufs.look b) ∧ (∀ k, k ≠ n → s'.gfxOf k = u.gfxOf k))) ∧
    (∀ c input, 160 ≤ c → c < 168 → input ≠ [] → input.length ≤ 16384 →
      (∃ s', exec (.blockCompress t c input false) s = .next s' ∧ (∀ d, d ≠ c → s'.ctx d = u.ctx d) ∧
        s' = { u with od := s'.od, log := s'.log, ctxs := s'.ctxs, out := s'.out }) ∧
      ∃ s', exec (.blockCompress t c input true) s = .next s' ∧ (s'.ctx c).learnt = [] ∧ (∀ d, d ≠ c → s'.ctx d = u.ctx d) ∧
        u.counted s' 0x5800 0x06 1 ∧ u.counted s' 0x5800 0x07 1 ∧ u.raised s' (coderKey 0) 0x0902 2 [(8, c)] ∧
        s' = { u with od := s'.od, log := s'.log, ctxs := s'.ctxs, out := s'.out }) ∧
    (∀ c input bad, input = [] ∨ 16384 < input.length ∨ outContext c = false → exec (.blockCompress t c input bad) s = .next u) ∧
    (∀ c space, ∃ s' f, exec (.compressResume t c space) s = .next s' ∧ f = fitCodes space (u.ctx c).resid (u.ctx c).pend ∧
      s'.ctx c = { u.ctx c with resid := f.2.1, pend := f.2.2.1, space := f.2.2.2 } ∧ (∀ d, d ≠ c → s'.ctx d = u.ctx d) ∧
      s'.out = (if f.1.isEmpty then u.out else (u.say (.coded c f.1)).out) ∧ s' = { u with ctxs := s'.ctxs, out := s'.out }) ∧
    (∀ c input space, ∃ s', exec (.decompressResume t c input space) s = .next s' ∧ (∀ d, d ≠ c → s'.ctx d = u.ctx d) ∧
      (∃ l, s'.out = (if l = [] then u.out else (u.say (.decoded c l)).out) ∧ l.length ≤ space) ∧
      s' = { u with ctxs := s'.ctxs, out := s'.out })

/-- R400, R401, R405 to R409, R420, R422, R426, Tables 11.4 and 11.9: frames start and are processed, a port starts and stops, writes wait for
the next frame, references are captured and erased, zones latch (TOUCH_FRAME_START, TOUCH_FRAME_PROCESSED, TOUCH_PORT_ENABLE,
TOUCH_PORT_DISABLE, TOUCH_GEOMETRY_WRITE, TOUCH_CAPTURE_REFERENCE, TOUCH_ACQUIRE_BASELINES, TOUCH_ERASE_REFERENCES, ZONE_ENABLE,
ZONE_DISABLE). -/
def Obligations.TouchPortsAndZones : Prop :=
  ∀ (s : State) (t p : Nat), p < 2 →
    let u := s.tick t
    let i := tIdx p
    let g := u.tch p
    (u.scan p ≠ scanOff → u.scan p ≠ scanLost → (∀ a, g.last = some a → a + 1000000000 / u.scanRate p ≤ (u.nowAt p)) →
      ∃ s' f, exec (.touchFrameStart t p) s = .next s' ∧ (s'.tch p).frames = g.frames ++ [f] ∧ f.num = g.num ∧
        f.start = (u.nowAt p) ∧ (s'.tch p).num = wrapInc 32 g.num ∧ (s'.tch p).last = some (u.nowAt p) ∧ (s'.tch p).change = false ∧
        (s'.tch p).hopTo = none ∧ (∀ k, 2 ≤ k → k ≤ 0x18 → s'.fval i k = u.val i k) ∧
        (g.hopTo = none → bit (u.rn i 0x08) (u.rn i 0x1D) = true →
          f.hop = false ∧ f.cur = u.rn i 0x1D ∧ s'.rn i 0x1D = u.rn i 0x1D) ∧
        (∀ j, g.hopTo = some j → bit (u.rn i 0x08) (u.rn i 0x1D) = true → f.hop = true ∧ f.cur = j ∧ s'.rn i 0x1D = j ∧
          u.counted s' i 0x23 1 ∧ u.raised s' (touchKey p) 0x0A02 1 [(8, p), (8, u.rn i 0x1D), (8, j)]) ∧
        (g.change = true → u.scan p ≠ scanWake → s'.scan p = scanAcquiring) ∧ (∀ q, q ≠ p → s'.tch q = u.tch q) ∧
        s' = { u with od := s'.od, force := s'.force, log := s'.log, touch := s'.touch }) ∧
    (u.scan p = scanOff ∨ u.scan p = scanLost → exec (.touchFrameStart t p) s = .next u) ∧
    (∀ counts a b f fs, g.frames = f :: fs → u.power.wake = false →
      (u.restarting p .tch = true → ∃ s', exec (.touchFrameProcessed t p counts a b) s = .next s' ∧
        s'.tch p = { g with frames := fs } ∧ (∀ q, q ≠ p → s'.tch q = u.tch q) ∧ s' = { u with touch := s'.touch }) ∧
      (u.restarting p .tch = false → u.scan p ≠ scanWake → ∃ s', exec (.touchFrameProcessed t p counts a b) s = .next s' ∧
        (s'.tch p).frames = fs ∧ (s'.tch p).seq = wrapInc 32 g.seq ∧ (∀ q, q ≠ p → s'.tch q = u.tch q) ∧
        (f.hop = true → u.counted s' i 0x25 1 ∧ (s'.tch p).nodes = g.nodes ∧ s'.scan p = u.scan p ∧
          ∀ z ∈ u.zonesOn p, ((s'.tch p).zone z).timer = none) ∧
        (f.hop = false → u.scan p = scanAcquiring → g.first = true → (s'.tch p).first = false ∧ u.counted s' i 0x25 1) ∧
        s' = { u with free := s'.free, od := s'.od, log := s'.log, touch := s'.touch, rings := s'.rings, pcie := s'.pcie,
                      out := s'.out })) ∧
    (∀ counts a b, g.frames = [] → u.power.wake = false → exec (.touchFrameProcessed t p counts a b) s = .next u) ∧
    (∀ r, u.takes r = true →
      (u.scan p = scanOff → ∃ s', exec (.touchPortEnable t r p) s = .next s' ∧ s'.rn i 0x01 = 1 ∧ s'.scan p = scanAcquiring ∧
        s'.rn i 0x1D = u.rn i 0x09 ∧ s'.rb i 0x1E = List.replicate 32 0xFF ∧ (s'.tch p).frames = [] ∧ (s'.tch p).first = true ∧
        (s'.tch p).acq = 0 ∧ s'.out = .resp r i 0x01 0 [] :: u.out ∧
        u.odSame s' [key i 0x01, key i 0x1C, key i 0x1D, key i 0x1E] ∧ (∀ q, q ≠ p → s'.tch q = u.tch q) ∧
        s' = { u with od := s'.od, partWrites := s'.partWrites, touch := s'.touch, out := s'.out }) ∧
      (u.scan p ≠ scanLost → ∃ s', exec (.touchPortDisable t r p) s = .next s' ∧ s'.rn i 0x01 = 0 ∧ s'.scan p = scanOff ∧
        (s'.tch p).frames = [] ∧ (s'.tch p).contacts = [] ∧ (∀ q, q ≠ p → s'.tch q = u.tch q) ∧
        (∀ z ∈ u.zonesOn p, s'.rn (zIdx p z) 0x06 = 2 ∧ s'.rn (zIdx p z) 0x07 = 5) ∧
        s'.out.head? = some (.resp r i 0x01 0 []) ∧
        s' = { u with od := s'.od, log := s'.log, partWrites := s'.partWrites, touch := s'.touch, out := s'.out }) ∧
      (∀ sub v, (sub = 2 ∧ v ≤ 1) ∨ (sub = 3 ∧ 2 ≤ v ∧ v ≤ 64) ∨ (sub = 4 ∧ 2 ≤ v ∧ v ≤ 112) ∨
          ((sub = 5 ∨ sub = 6) ∧ 1000 ≤ v ∧ v ≤ 20000) →
        ∃ s', exec (.touchGeometryWrite t r p sub v) s = .next s' ∧ s'.rn i sub = v ∧ s'.tch p = { g with change := true } ∧
          s'.out = .resp r i sub 0 [] :: u.out ∧ u.odSame s' [key i sub] ∧ (∀ q, q ≠ p → s'.tch q = u.tch q) ∧
          s' = { u with od := s'.od, partWrites := s'.partWrites, touch := s'.touch, out := s'.out }) ∧
      (∀ bad : Bool, bad = (decide (u.scan p ≠ scanScanning) || g.contacts.any (·.shown) || bit (u.rn i 0x1F) 0 || g.nodes.any (·.fault)) →
        (bad = true → exec (.touchCaptureReference t r p) s = .next { u with out := .resp r i 0x1B 7 [] :: u.out }) ∧
        (bad = false → ∃ s', exec (.touchCaptureReference t r p) s = .next s' ∧ bit (s'.rn i 0x1F) 2 = false ∧
          s'.rb i (if u.glove p then 0x1A else 0x19) = leBytes 1 (u.rn i 0x21) ++ leBytes 1 (u.nd p) ++ leBytes 1 (u.ns p) ++ [0] ++
            g.nodes.flatMap (fun n => leBytes 2 n.avg) ∧
          (u.power.fail = false → s'.flash = { u.flash with refs := s'.flash.refs }) ∧ (u.power.fail = true → s'.flash = u.flash) ∧
          (∀ q, q ≠ p → s'.tch q = u.tch q) ∧ s'.out.head? = some (.resp r i 0x1B 0 []) ∧
          s' = { u with od := s'.od, log := s'.log, partWrites := s'.partWrites, touch := s'.touch, flash := s'.flash,
                        out := s'.out })) ∧
      (u.scan p = scanScanning ∨ u.scan p = scanAcquiring → ∃ s', exec (.touchAcquireBaselines t r p) s = .next s' ∧
        s'.scan p = scanAcquiring ∧ (s'.tch p).first = true ∧ (s'.tch p).acq = 0 ∧ (s'.tch p).contacts = [] ∧
        (∀ z ∈ u.zonesOn p, s'.rn (zIdx p z) 0x06 = 2 ∧ s'.rn (zIdx p z) 0x07 = 5) ∧ (∀ q, q ≠ p → s'.tch q = u.tch q) ∧
        s' = { u with od := s'.od, log := s'.log, partWrites := s'.partWrites, touch := s'.touch, out := s'.out }) ∧
      (u.scan p ≠ scanScanning → u.scan p ≠ scanAcquiring →
        exec (.touchAcquireBaselines t r p) s = .next { u with out := .resp r i 0x1B 7 [] :: u.out }) ∧
      (∃ s', exec (.touchEraseReferences t r p) s = .next s' ∧ s'.rb i 0x19 = [] ∧ s'.rb i 0x1A = [] ∧
        bit (s'.rn i 0x1F) 2 = true ∧ s'.out = .resp r i 0x1B 0 [] :: u.out ∧
        u.odSame s' [key i 0x19, key i 0x1A, key i 0x1F] ∧
        s' = { u with od := s'.od, partWrites := s'.partWrites, flash := s'.flash, out := s'.out }) ∧
      (∀ z, z < 16 → ∀ x, x = zIdx p z →
        ((∀ bad : Bool, bad = (decide (u.rn x 0x03 < u.rn x 0x02) || decide (u.rn x 0x05 < u.rn x 0x04) ||
            decide (u.rn i 0x03 ≤ u.rn x 0x03) || decide (u.rn i 0x04 ≤ u.rn x 0x05) ||
            (u.zonesOn p).any (fun y => y ≠ z && u.zonesMeet p z y)) →
          (bad = true → exec (.zoneEnable t r (16 * p + z)) s = .next { u with out := .resp r x 0x01 6 [] :: u.out }) ∧
          (bad = false → ∃ s', exec (.zoneEnable t r (16 * p + z)) s = .next s' ∧ s'.rn x 0x01 = 1 ∧ s'.rn x 0x06 = 2 ∧
            s'.rn x 0x07 = (if u.refOk p then 3 else 2) ∧ (s'.tch p).zone z = {} ∧
            u.odSame s' [key x 0x01, key x 0x06, key x 0x07, key x 0x08, key 0x2200 0x05] ∧ (∀ q, q ≠ p → s'.tch q = u.tch q) ∧
            s' = { u with od := s'.od, log := s'.log, partWrites := s'.partWrites, touch := s'.touch, out := s'.out })) ∧
        (u.rn x 0x01 = 0 → ∃ s', exec (.zoneDisable t r (16 * p + z)) s = .next s' ∧
          s' = { u with partWrites := s'.partWrites, out := .resp r x 0x01 0 [] :: u.out }) ∧
        (u.rn x 0x01 ≠ 0 → ∃ s', exec (.zoneDisable t r (16 * p + z)) s = .next s' ∧ s'.rn x 0x01 = 0 ∧ s'.rn x 0x06 = 2 ∧
          s'.rn x 0x07 = 3 ∧ u.odSame s' [key x 0x01, key x 0x06, key x 0x07, key x 0x08, key 0x2200 0x05] ∧
          (∀ q, q ≠ p → s'.tch q = u.tch q) ∧
          s' = { u with od := s'.od, log := s'.log, partWrites := s'.partWrites, touch := s'.touch, out := s'.out }))))

/-- R432, R436, R437, R439 to R442, R444, R445, R447, Tables 12.6 and 12.7: refresh, temperature and demand; the set point and its training;
what memory errors count, raise and crease (REFRESH_DUE, REFRESH_END, DRAM_TEMPERATURE_POLL, DEMAND_MEASURE, SET_POINT_REQUEST,
SET_POINT_CHANGE_START, SET_POINT_TRAINING_DONE, DRAM_TRAINING_COMPLETE, SCRUB_PASS, DRAM_CORRECTED_ERROR,
DRAM_UNCORRECTABLE_ERROR, SRAM_UNCORRECTABLE_ERROR). -/
def Obligations.MemoryServesTrainsAndReports : Prop :=
  ∀ (s : State) (t : Nat),
    let u := s.tick t
    let m := u.mem
    (∀ bursts, m.training = false → m.refreshing = false → ∃ s', exec (.refreshDue t bursts) s = .next s' ∧
      s'.mem = { m with refreshing := true, bursts := bursts } ∧ s'.rn 0x6000 0x06 = m.next ∧
      s'.out = (u.say (.refresh bursts)).out ∧ (u.rn 0x6000 0x06 = m.next → s'.log = u.log) ∧
      (u.rn 0x6000 0x06 ≠ m.next → u.raised s' u.dramUnit 0x0B01 1 [(16, m.next)]) ∧
      u.odSame s' [key 0x6000 0x06, key 0x2200 0x05] ∧
      s' = { u with od := s'.od, log := s'.log, mem := s'.mem, out := s'.out }) ∧
    (m.training = true ∨ m.refreshing = true → ∀ bursts, exec (.refreshDue t bursts) s = .next u) ∧
    (m.refreshing = true → ∃ s', exec (.refreshEnd t) s = .next s' ∧ s'.mem = { m with refreshing := false, bursts := [] } ∧
      s'.out = (u.say (.resumed m.bursts)).out ∧ s' = { u with mem := s'.mem, out := s'.out }) ∧
    (m.refreshing = false → exec (.refreshEnd t) s = .next u) ∧
    (∀ a rest top, top = rest.foldl max a → ∃ s', exec (.dramTemperaturePoll t (a :: rest)) s = .next s' ∧
      s'.rd 0x6000 0x07 = max (-128) (min 127 top) ∧ (85 < top → s'.mem = { m with next := 1950, cool := 0 }) ∧
      (82 < top → top ≤ 85 → s'.mem = { m with cool := 0 }) ∧
      (top ≤ 82 → s'.mem = { m with cool := min 100 (m.cool + 1), next := if 100 ≤ m.cool + 1 then 3900 else m.next }) ∧
      u.odSame s' [key 0x6000 0x07] ∧ s' = { u with od := s'.od, mem := s'.mem }) ∧
    (∀ d, ∃ s' l, exec (.demandMeasure t d) s = .next s' ∧ l = (u.clock, d) :: m.demands.filter (fun p => u.clock < p.1 + sTicks) ∧
      s'.mem = { m with demands := l, excess := if u.usableBw < d then some u.clock else m.excess } ∧
      s'.rn 0x6000 0x0A = min 0xFFFFFFFF ((l.map (·.2)).foldl max 0) ∧
      (u.usableBw < d → s'.rn 0x6000 0x0C = 1 ∧ (u.rn 0x6000 0x0C ≠ 1 → u.raised s' u.dramUnit 0x0B02 2 [(32, d)])) ∧
      (d ≤ u.usableBw → s'.log = u.log ∧
        ((∃ a, m.excess = some a ∧ a + sTicks ≤ u.clock) → s'.rn 0x6000 0x0C = 0) ∧
        ((∀ a, m.excess = some a → u.clock < a + sTicks) → s'.rn 0x6000 0x0C = u.rn 0x6000 0x0C)) ∧
      s' = { u with od := s'.od, log := s'.log, mem := s'.mem }) ∧
    (∀ r, u.takes r = true →
      (∀ sp, sp ≤ 2 → ∃ s', exec (.setPointRequest t r sp) s = .next s' ∧ s'.rn 0x6000 0x02 = sp ∧
        (m.training = false → s'.mem = { m with want := if sp = u.rn 0x6000 0x03 then none else some sp }) ∧
        (m.training = true → m.queued = none → sp = u.rn 0x6000 0x03 → s'.mem = m) ∧
        (m.training = true → m.queued ≠ none ∨ sp ≠ u.rn 0x6000 0x03 → s'.mem = { m with queued := some sp }) ∧
        s'.out = .resp r 0x6000 0x02 0 [] :: u.out ∧ u.odSame s' [key 0x6000 0x02] ∧
        s' = { u with od := s'.od, partWrites := s'.partWrites, mem := s'.mem, out := s'.out }) ∧
      (∀ sp, 2 < sp → sp < 256 → exec (.setPointRequest t r sp) s = .next { u with out := .resp r 0x6000 0x02 6 [] :: u.out })) ∧
    (∀ sp, m.want = some sp → m.training = false →
      exec (.setPointChangeStart t) s = .next { u with mem := { m with training := true, target := sp, want := none } }) ∧
    (m.want = none ∨ m.training = true → exec (.setPointChangeStart t) s = .next u) ∧
    (m.training = true → u.loaded = true →
      (∃ s', exec (.setPointTrainingDone t true) s = .next s' ∧ s'.rn 0x6000 0x03 = m.target ∧ s'.mem.training = false ∧
        s'.mem.queued = none ∧ (∀ q, m.queued = some q → s'.mem.want = if q = m.target then none else some q) ∧
        u.odSame s' [key 0x6000 0x03] ∧ s' = { u with od := s'.od, mem := s'.mem }) ∧
      ∃ s', exec (.setPointTrainingDone t false) s = .next s' ∧ s'.rn 0x6000 0x03 = u.rn 0x6000 0x03 ∧ s'.mem.training = false ∧
        u.counted s' 0x6000 0x05 1 ∧ u.raised s' u.dramUnit 0x0B03 2 [(8, m.target)] ∧
        s' = { u with od := s'.od, log := s'.log, mem := s'.mem }) ∧
    (m.training = false ∨ u.loaded = false → ∀ ok, exec (.setPointTrainingDone t ok) s = .next u) ∧
    (∀ reached, m.training = true → u.loaded = false → u.dieLost 0 = false → u.dieLost 1 = false →
      (∀ c, c < 8 → ∃ p, reached[c]? = some (some p)) →
      ∃ s' low, exec (.dramTrainingComplete t reached) s = .next s' ∧
        low = ((List.range 8).map (fun c => ((reached[c]?).getD none).getD 0)).foldl max u.bootPoint ∧
        s'.rn 0x6000 0x03 = min 2 low ∧ s'.mem.training = false ∧
        (∀ w, w < 7 → s'.orderOf w = (u.stored (0x6010 + w) 2).getD (defaultOrder w) ∧
          s'.mem.ecc.look w = some ((u.stored (0x6010 + w) 3).getD 1)) ∧
        (u.bootPoint < low → u.counted s' 0x6000 0x05 1 ∧ u.raised s' u.dramUnit 0x0B03 2 [(8, u.bootPoint)]) ∧
        s' = { u with od := s'.od, log := s'.log, mem := s'.mem }) ∧
    (∀ reached, m.training = false ∨ u.loaded = true → exec (.dramTrainingComplete t reached) s = .next u) ∧
    (∀ errs, ∃ s', exec (.scrubPass t errs) s = .next s' ∧ u.counted s' 0x6000 0x0E 1 ∧ u.counted s' 0x6000 0x09 errs.length ∧
      (errs = [] → s'.conds = u.conds) ∧ (errs ≠ [] → .memory ∈ s'.conds) ∧
      s' = { u with od := s'.od, log := s'.log, conds := s'.conds }) ∧
    (∀ w, u.eccOn w = true → ∃ s', exec (.dramCorrectedError t w) s = .next s' ∧ u.counted s' 0x6000 0x08 1 ∧
      u.counted s' (0x6010 + w) 0x05 1 ∧ s' = { u with od := s'.od, log := s'.log }) ∧
    (∀ w, u.eccOn w = false → exec (.dramCorrectedError t w) s = .next u) ∧
    (∀ w a hit, u.eccOn w = true → hit = [] ∨ (∃ x, w = 3 ∧ hit = [x]) ∨ (∃ c, w = 5 ∧ hit = [0, c]) →
      ∃ s', exec (.dramUncorrectableError t w a hit) s = .next s' ∧ u.counted s' 0x6000 0x09 1 ∧
        u.counted s' (0x6010 + w) 0x06 1 ∧ .memory ∈ s'.conds ∧ u.raised s' u.dramUnit 0x0B04 3 [(8, w), (40, a)] ∧
        (∀ x, w = 3 → hit = [x] → s'.screen x = { u.screen x with planeCur := 0, planeKey := [] }) ∧
        (∀ c, w = 5 → hit = [0, c] → s'.ctx c = { u.ctx c with await := true }) ∧
        s' = { u with od := s'.od, log := s'.log, conds := s'.conds, screens := s'.screens, ctxs := s'.ctxs }) ∧
    (∀ w a hit, u.eccOn w = false → exec (.dramUncorrectableError t w a hit) s = .next u) ∧
    (∀ x k col ledger, ∃ s', exec (.sramUncorrectableError t x k col ledger) s = .next s' ∧ u.counted s' 0x6000 0x10 1 ∧
      .memory ∈ s'.conds ∧ u.raised s' (scanKey x) 0x0B04 3 [(8, 0xFF), (40, 0)] ∧
      s'.screen x = { u.screen x with crease := (u.screen x).crease ++ [(k, if ledger then 0 else col, 0xFFFF)] } ∧
      (∀ y, y ≠ x → s'.screen y = u.screen y) ∧
      s' = { u with od := s'.od, log := s'.log, conds := s'.conds, screens := s'.screens })

/-- R451, R455, R457, R458, R461 to R463, R475, R478: lanes gain and lose lock, the board table is put in force, columns are
inserted and deleted, and a lane in test leaves service (LANE_LOCK_GAIN, LANE_LOCK_LOSS, BOARD_TABLE_APPLY, LINT_SET_SEND,
LINT_SET_RECEIVE, ELASTIC_ERROR, LANE_TEST_MODE, PRBS_GENERATOR, PRBS_CHECKER, PRBS_CHECKER_LOCK, PRBS_CHECKER_LOCK_LOSS). -/
def Obligations.LanesLockAndTest : Prop :=
  ∀ (s : State) (t : Nat),
    let u := s.tick t
    (∀ l line n, l < 36 → u.inTest l = false → u.laneLocked l = false → n = (line.filter (fun x => x.1 = .bad)).length →
      (16 ≤ l → l < 32 → gainsLock 0 0 line = false → ∃ s', exec (.laneLockGain t ⟨l, line⟩) s = .next s' ∧
        u.counted s' (laneIdx l) 0x0B n ∧ u.counted s' 0x6400 0x04 n ∧ s' = { u with od := s'.od, log := s'.log }) ∧
      (l < 16 ∨ 32 ≤ l ∨ gainsLock 0 0 line = true → ∃ s', exec (.laneLockGain t ⟨l, line⟩) s = .next s' ∧
        s'.laneLocked l = true ∧ s'.lanes.look l = some ⟨u.clock⟩ ∧ bit (s'.rn 0x6400 0x02) l = true ∧
        u.counted s' (laneIdx l) 0x0B n ∧ u.counted s' 0x6400 0x04 n ∧
        (∀ k, k < 36 → k ≠ l → s'.laneLocked k = u.laneLocked k) ∧
        (l < 16 → s' = { u with od := s'.od, log := s'.log, time := s'.time, trigs := s'.trigs, lanes := s'.lanes }) ∧
        (16 ≤ l → l < 32 → (s'.sp ((l - 16) / 8)).sets = [] ∧
          s' = { u with od := s'.od, log := s'.log, lanes := s'.lanes, spay := s'.spay, out := s'.out }) ∧
        (32 ≤ l → s' = { u with od := s'.od, log := s'.log, lanes := s'.lanes }))) ∧
    (∀ l line, 36 ≤ l ∨ u.inTest l = true ∨ u.laneLocked l = true → exec (.laneLockGain t ⟨l, line⟩) s = .next u) ∧
    (∀ l line n, l < 36 → u.laneLocked l = true → n = (line.filter id).length →
      (16 ≤ l → l < 32 → losesLock line = false → ∃ s', exec (.laneLockLoss t ⟨l, line⟩) s = .next s' ∧
        u.counted s' (laneIdx l) 0x0B n ∧ u.counted s' 0x6400 0x04 n ∧ s' = { u with od := s'.od, log := s'.log }) ∧
      (l < 16 ∨ 32 ≤ l ∨ losesLock line = true → ∃ s', exec (.laneLockLoss t ⟨l, line⟩) s = .next s' ∧ s'.laneLocked l = false ∧
        u.counted s' (laneIdx l) 0x0B n ∧ u.counted s' 0x6400 0x04 n ∧
        u.counted s' (laneIdx l) 0x0C 1 ∧ u.counted s' 0x6400 0x05 1 ∧ bit (s'.rn 0x6400 0x02) l = false ∧
        (l < 16 → u.rn (0x2910 + u.lanePort l) 0x0A ≠ 0 → s'.rn (0x2910 + u.lanePort l) 0x0A = 0 ∧
          u.raised s' (ethKey (u.lanePort l)) 0x0C04 2 [(8, u.lanePort l), (8, 0)]) ∧
        (16 ≤ l → l < 32 → u.spState ((l - 16) / 8) = spUp → bit (u.rn (spIdx ((l - 16) / 8)) 0x06) ((l - 16) % 8) = true →
          s'.spState ((l - 16) / 8) = spRestriping) ∧
        (16 ≤ l → l < 32 → u.spState ((l - 16) / 8) = spUp → bit (u.rn (spIdx ((l - 16) / 8)) 0x06) ((l - 16) % 8) = false →
          s'.spay = u.spay ∧ s'.spState ((l - 16) / 8) = spUp) ∧
        s' = { u with od := s'.od, log := s'.log, time := s'.time, trigs := s'.trigs, lanes := s'.lanes, spay := s'.spay, out := s'.out })) ∧
    (∀ l line, 36 ≤ l ∨ u.laneLocked l = false → exec (.laneLockLoss t ⟨l, line⟩) s = .next u) ∧
    (∀ r, u.takes r = true → Tab.wf u.od = true → ∃ s', exec (.boardTableApply t r) s = .next s' ∧
      (∀ idx sub, boardKey (key idx sub) = true → (u.od.look (key idx sub)).isSome = true → s'.fval idx sub = u.val idx sub) ∧
      (∀ k, boardKey k = false → s'.force.look k = u.force.look k) ∧ s'.out = .resp r 0x6400 0x06 0 [] :: u.out ∧
      s' = { u with force := s'.force, partWrites := s'.partWrites, out := s'.out }) ∧
    (∀ q, exec (.lintSetSend t q) s = .next (if u.spState q = spUp then u.say (.lint q) else u)) ∧
    (∀ q fill, (u.spState q ≠ spUp ∨ fill = 8 → exec (.lintSetReceive t q fill) s = .next u) ∧
      (u.spState q = spUp → fill ≠ 8 → ∃ s', exec (.lintSetReceive t q fill) s = .next s' ∧
        u.counted s' (spIdx q) (if 8 < fill then 0x0B else 0x0A) 1 ∧ s' = { u with od := s'.od, log := s'.log })) ∧
    (∀ q, (u.spState q ≠ spUp → exec (.elasticError t q) s = .next u) ∧
      (u.spState q = spUp → ∃ s', exec (.elasticError t q) s = .next s' ∧ u.counted s' (spIdx q) 0x0C 1 ∧
        s'.spState q = spRestriping ∧
        s'.sp q = { u.sp q with since := u.clock, sets := [], lossAt := u.clock, firstLoss := u.clock, heard := false } ∧
        (∀ p, p ≠ q → s'.sp p = u.sp p) ∧ s' = { u with od := s'.od, log := s'.log, spay := s'.spay, out := s'.out })) ∧
    (∀ r l code c sub, u.takes r = true → l < 36 → code ≤ 4 →
      (c = .laneTestMode t r l code ∧ sub = 4 ∧ code ≤ 3) ∨ (c = .prbsGenerator t r l code ∧ sub = 5) ∨
        (c = .prbsChecker t r l code ∧ sub = 6) →
      ∃ s' now, exec c s = .next s' ∧ s'.rn (laneIdx l) sub = code ∧ s'.inTest l = now ∧
        now = (decide (code ≠ 0) || [4, 5, 6].any (fun k => k ≠ sub && u.rn (laneIdx l) k ≠ 0)) ∧
        (sub = 6 → s'.rn (laneIdx l) 0x07 = 0) ∧ s'.out.head? = some (.resp r (laneIdx l) sub 0 []) ∧
        (now = u.inTest l → u.odSame s' [key (laneIdx l) sub, key (laneIdx l) 0x07] ∧
          s' = { u with od := s'.od, partWrites := s'.partWrites, out := s'.out }) ∧
        (now ≠ u.inTest l → s'.laneLocked l = false ∧ bit (s'.rn 0x6400 0x03) l = now ∧
          (l < 32 → s' = { u with od := s'.od, log := s'.log, time := s'.time, trigs := s'.trigs, partWrites := s'.partWrites,
                                  spay := s'.spay, out := s'.out }) ∧
          (32 ≤ l → u.dieLost 0 = false → now = true → s'.rn 0x6600 0x04 = 3))) ∧
    (∀ l line, (l < 36 → u.rn (laneIdx l) 0x06 ≠ 0 → prbsRun (u.rn (laneIdx l) 0x06) 0 [] line = true →
        ∃ s', exec (.prbsCheckerLock t ⟨l, line⟩) s = .next s' ∧ s'.rn (laneIdx l) 0x07 = 1 ∧
          u.odSame s' [key (laneIdx l) 0x07] ∧ s' = { u with od := s'.od }) ∧
      (36 ≤ l ∨ u.rn (laneIdx l) 0x06 = 0 ∨ prbsRun (u.rn (laneIdx l) 0x06) 0 [] line = false →
        exec (.prbsCheckerLock t ⟨l, line⟩) s = .next u)) ∧
    (∀ l errors bits, l < 36 → u.rn (laneIdx l) 0x06 ≠ 0 → u.rn (laneIdx l) 0x07 = 1 → 128 < errors →
      ∃ s', exec (.prbsCheckerLockLoss t l errors bits) s = .next s' ∧ s'.rn (laneIdx l) 0x07 = 0 ∧
        u.counted s' (laneIdx l) 0x08 errors ∧ u.counted s' (laneIdx l) 0x09 bits ∧ s' = { u with od := s'.od, log := s'.log }) ∧
    (∀ l errors bits, 36 ≤ l ∨ u.rn (laneIdx l) 0x06 = 0 ∨ u.rn (laneIdx l) 0x07 = 0 →
      exec (.prbsCheckerLockLoss t l errors bits) s = .next u)

/-- R471, R473 to R477, Tables 13.6 and 13.7: a Spaydun port starts, trains, comes up at the width agreed, re-stripes and goes down;
control frames are sent again until acknowledged (SPAYDUN_PORT_ENABLE, SPAYDUN_PORT_DISABLE, LANE_LOCK_HOLD, TRAINING_SET,
SPAYDUN_TRAINING_TIMEOUT, RESTRIPE_TIMEOUT, RESTORE_HOLD_EXPIRY, RETRANSMIT_TIMEOUT, ACK_ONLY_SEND, ACKNOWLEDGEMENT,
SPAYDUN_FRAME_SEND). -/
def Obligations.SpaydunPortsTrainAndDeliver : Prop :=
  ∀ (s : State) (t q : Nat), q < 2 →
    let u := s.tick t
    let i := spIdx q
    let g := u.sp q
    (∀ r, u.takes r = true →
      (u.dieLost q = true → exec (.spaydunPortEnable t r q) s = .next { u with out := .resp r i 0x01 7 [] :: u.out } ∧
        exec (.spaydunPortDisable t r q) s = .next { u with out := .resp r i 0x01 7 [] :: u.out }) ∧
      (u.dieLost q = false → u.spState q = spDisabled → ∃ s', exec (.spaydunPortEnable t r q) s = .next s' ∧ s'.rn i 0x01 = 1 ∧
        s'.spState q = (if (List.range 8).all (fun j => u.inTest (spLane q j)) then spTest else spDown) ∧
        (s'.sp q).ready = [] ∧ s'.out = .resp r i 0x01 0 [] :: u.out ∧ (∀ p, p ≠ q → s'.sp p = u.sp p) ∧
        s' = { u with od := s'.od, partWrites := s'.partWrites, spay := s'.spay, out := s'.out }) ∧
      (u.dieLost q = false → u.spState q ≠ spDisabled → ∃ s', exec (.spaydunPortDisable t r q) s = .next s' ∧ s'.rn i 0x01 = 0 ∧
        s'.spState q = spDisabled ∧ s'.sp q = {} ∧ s'.rn i 0x05 = 0 ∧ s'.rn i 0x07 = 0xFF ∧ s'.rn i 0x08 = 0 ∧
        s'.out = .resp r i 0x01 0 [] :: u.out ∧ (∀ p, p ≠ q → s'.sp p = u.sp p) ∧
        s' = { u with od := s'.od, partWrites := s'.partWrites, spay := s'.spay, out := s'.out })) ∧
    (∀ j, j < 8 → u.spState q = spDown → u.laneLocked (spLane q j) = true → (u.lanes.at' (spLane q j) {}).lockAt + msTicks ≤ u.clock →
      ∃ s', exec (.laneLockHold t q j) s = .next s' ∧ s'.spState q = spTraining ∧
        s'.sp q = { g with since := u.clock, sets := [], rate := u.rn i 0x02, heard := false } ∧ (∀ p, p ≠ q → s'.sp p = u.sp p) ∧
        s'.out = (u.say (.training q (((List.range 8).filter (fun k => u.laneLocked (spLane q k))).map (fun k =>
          (k, trainingSyms k (u.localMask q) (u.pkgId + 16 * q) 0))))).out ∧
        u.odSame s' [key i 0x04] ∧ s' = { u with od := s'.od, spay := s'.spay, out := s'.out }) ∧
    (∀ j, u.spState q ≠ spDown ∨ u.laneLocked (spLane q j) = false → exec (.laneLockHold t q j) s = .next u) ∧
    (∀ x : TrainSet, u.spState q = spTraining ∨ u.spState q = spRestriping → x.lane < 8 → u.laneLocked (spLane q x.lane) = true →
      let old := g.sets.at' x.lane (0, 0, 0)
      let n := if 0 < old.1 && old.2 = (x.mask, u.localMask q) then old.1 + 1 else 1
      let m := Nat.land (u.localMask q) x.mask
      let w := maskWidth m
      (trainOk x = false → ∃ s', exec (.trainingSet t q x) s = .next s' ∧
        s'.sp q = { g with sets := g.sets.put x.lane (0, 0, 0) } ∧ (∀ p, p ≠ q → s'.sp p = u.sp p) ∧ s' = { u with spay := s'.spay }) ∧
      (trainOk x = true → x.flags ≠ 1 ∨ n < 3 → ∃ s', exec (.trainingSet t q x) s = .next s' ∧
        s'.sp q = { g with sets := g.sets.put x.lane (if x.flags = 1 then (n, x.mask, u.localMask q) else (0, 0, 0)), heard := true } ∧
        (g.heard = true → s'.out = u.out) ∧
        (g.heard = false → s'.out = (u.say (.training q (((List.range 8).filter (fun k => u.laneLocked (spLane q k))).map (fun k =>
          (k, trainingSyms k (u.localMask q) (u.pkgId + 16 * q) 1))))).out) ∧
        (∀ p, p ≠ q → s'.sp p = u.sp p) ∧ s' = { u with spay := s'.spay, out := s'.out }) ∧
      (trainOk x = true → x.flags = 1 → 3 ≤ n → u.rn i 0x03 ≤ w → ∃ s', exec (.trainingSet t q x) s = .next s' ∧
        s'.spState q = spUp ∧ s'.rn i 0x05 = w ∧ s'.rn i 0x06 = lowestLanes m w ∧ s'.rn i 0x07 = x.pkgPort ∧
        s'.rn i 0x08 = spCapacity w g.rate (u.rn 0x6500 0x01) ∧
        .frame q [List.replicate w .k285, List.replicate w d56] ∈ s'.out ∧
        (u.spState q = spTraining → (s'.sp q).unacked = [] ∧ u.raised s' (spayKey q 0) 0x0C01 1 [(8, q), (8, w)]) ∧
        (u.spState q = spRestriping → (s'.sp q).unacked = g.unacked ∧ u.counted s' i 0x09 1 ∧
          s'.rn i 0x13 = min 0xFFFFFFFF ((u.clock - g.firstLoss) / usTicks) ∧
          u.raised s' (spayKey q 0) 0x0C02 1 [(8, q), (8, w)]) ∧
        (∀ p, p ≠ q → s'.sp p = u.sp p) ∧
        s' = { u with od := s'.od, log := s'.log, spay := s'.spay, sys := s'.sys, out := s'.out }) ∧
      (trainOk x = true → x.flags = 1 → 3 ≤ n → w < u.rn i 0x03 → ∃ s', exec (.trainingSet t q x) s = .next s' ∧
        s'.spState q = spDown ∧ (s'.sp q).ready = [] ∧ (u.spState q = spTraining → u.counted s' i 0x09 1) ∧
        (u.spState q = spRestriping → u.raised s' (spayKey q 0) 0x0C03 2 [(8, q), (8, 0)]) ∧ (∀ p, p ≠ q → s'.sp p = u.sp p) ∧
        s' = { u with od := s'.od, log := s'.log, spay := s'.spay, out := s'.out })) ∧
    (u.spState q = spTraining → g.since + 10 * msTicks ≤ u.clock → ∃ s', exec (.spaydunTrainingTimeout t q) s = .next s' ∧
      s'.spState q = spDown ∧ u.counted s' i 0x09 1 ∧ (∀ p, p ≠ q → s'.sp p = u.sp p) ∧
      s' = { u with od := s'.od, log := s'.log, spay := s'.spay }) ∧
    (u.spState q ≠ spTraining ∨ u.clock < g.since + 10 * msTicks → exec (.spaydunTrainingTimeout t q) s = .next u) ∧
    (u.spState q = spRestriping → g.lossAt + 2 * msTicks ≤ u.clock → ∃ s', exec (.restripeTimeout t q) s = .next s' ∧
      s'.spState q = spDown ∧ (s'.sp q).ready = [] ∧ s'.rn i 0x08 = 0 ∧ u.raised s' (spayKey q 0) 0x0C03 2 [(8, q), (8, 0)] ∧
      (∀ p, p ≠ q → s'.sp p = u.sp p) ∧ s' = { u with od := s'.od, log := s'.log, spay := s'.spay }) ∧
    (u.spState q ≠ spRestriping ∨ u.clock < g.lossAt + 2 * msTicks → exec (.restripeTimeout t q) s = .next u) ∧
    (∀ j, j < 8 → u.spState q = spUp → u.laneLocked (spLane q j) = true → bit (u.rn i 0x06) j = false →
      (u.lanes.at' (spLane q j) {}).lockAt + u.rn 0x6500 0x04 * msTicks ≤ u.clock → u.rn i 0x05 < maskWidth (u.localMask q) →
      ∃ s', exec (.restoreHoldExpiry t q j) s = .next s' ∧ s'.spState q = spRestriping ∧
        s'.sp q = { g with since := u.clock, sets := [], lossAt := u.clock, firstLoss := u.clock, heard := false } ∧
        (∀ p, p ≠ q → s'.sp p = u.sp p) ∧ u.odSame s' [key i 0x04] ∧ s' = { u with od := s'.od, spay := s'.spay, out := s'.out }) ∧
    (∀ j, u.spState q ≠ spUp ∨ maskWidth (u.localMask q) ≤ u.rn i 0x05 → exec (.restoreHoldExpiry t q j) s = .next u) ∧
    (u.spState q = spUp → g.unacked ≠ [] → g.progress + u.rn 0x6500 0x02 * usTicks ≤ u.clock →
      (g.rounds < u.rn 0x6500 0x03 → ∃ s', exec (.retransmitTimeout t q) s = .next s' ∧
        s'.sp q = { g with rounds := g.rounds + 1, progress := u.clock, ackAt := none } ∧ u.counted s' i 0x10 g.unacked.length ∧
        s'.out = (g.unacked.foldl (fun a x => a.say (.frame q (frameCols (u.rn i 0x05) (x.2.bytes x.1 g.expects x.2.payload)))) u).out ∧
        (∀ p, p ≠ q → s'.sp p = u.sp p) ∧ s' = { u with od := s'.od, log := s'.log, spay := s'.spay, out := s'.out }) ∧
      (u.rn 0x6500 0x03 ≤ g.rounds → ∃ s', exec (.retransmitTimeout t q) s = .next s' ∧ s'.spState q = spDown ∧
        u.raised s' (spayKey q 0) 0x0C03 2 [(8, q), (8, 0)] ∧ (∀ p, p ≠ q → s'.sp p = u.sp p) ∧
        s' = { u with od := s'.od, log := s'.log, spay := s'.spay })) ∧
    (u.spState q ≠ spUp ∨ g.unacked = [] → exec (.retransmitTimeout t q) s = .next u) ∧
    (∀ a, g.ackAt = some a → u.spState q = spUp → a + 20 * usTicks ≤ u.clock → ∃ s', exec (.ackOnlySend t q) s = .next s' ∧
      s'.sp q = { g with ackAt := none } ∧ (∀ p, p ≠ q → s'.sp p = u.sp p) ∧
      s'.out = (u.say (.frame q (frameCols (u.rn i 0x05) ((u.ownFrame ftControl (u.rn i 0x07 % 16) 2 [0, 0]).bytes 0 g.expects [0, 0])))).out ∧
      s' = { u with spay := s'.spay, out := s'.out }) ∧
    (g.ackAt = none → exec (.ackOnlySend t q) s = .next u) ∧
    (∀ x f, f = u.spFrame q x → spIsOp f 0 = false ∨ u.spState q ≠ spUp → exec (.acknowledgement t q x) s = .next u) ∧
    (∀ x f, f = u.spFrame q x → spIsOp f 0 = true → u.spState q = spUp → f.framingOk = true → f.payload.length ≤ 8192 →
      (f.crcOk = false → ∃ s', exec (.acknowledgement t q x) s = .next s' ∧ u.counted s' i 0x0D 1 ∧
        s' = { u with od := s'.od, log := s'.log }) ∧
      (f.crcOk = true → spFormOk f = true → u.standalone = false → u.epochOk f = true → bit f.flags 0 = true → bit f.flags 1 = true →
        bit f.flags 2 = false → f.dst = u.pkgId → serialAfter 16 f.ack (g.seqOf ftControl) = false →
        ∃ s', exec (.acknowledgement t q x) s = .next s' ∧
          (s'.sp q).unacked = g.unacked.filter (fun x => !serialAfter 16 f.ack x.1) ∧
          ((s'.sp q).unacked ≠ g.unacked → (s'.sp q).progress = u.clock ∧ (s'.sp q).rounds = 0) ∧
          (∀ p, p ≠ q → s'.sp p = u.sp p) ∧ s' = { u with spay := s'.spay })) ∧
    (∀ f n pl, u.spState q = spUp → g.pick = some f →
      n = (if f.ftype = ftControl ∧ bit f.flags 1 = true then 0 else g.seqOf f.ftype) →
      pl = (if f.ftype = ftMark then stampMark f.payload (time96 (u.clockOf q).1 (u.clockOf q).2) else f.payload) →
      ∃ s', exec (.spaydunFrameSend t q) s = .next s' ∧ (s'.sp q).ready = g.ready.erase f ∧ (s'.sp q).ackAt = none ∧
      (f.ftype = ftControl → bit f.flags 1 = false → (s'.sp q).unacked = g.unacked ++ [(n, f)] ∧
        (s'.sp q).seqOf ftControl = wrapInc 16 n) ∧
      (f.ftype ≠ ftControl → (s'.sp q).unacked = g.unacked ∧ (s'.sp q).seqOf f.ftype = wrapInc 16 n) ∧
      (f.ftype = ftControl → bit f.flags 1 = true → (s'.sp q).unacked = g.unacked ∧ (s'.sp q).txSeq = g.txSeq) ∧
      s'.out = (u.say (.frame q (frameCols (u.rn i 0x05) (f.bytes n g.expects pl)))).out ∧
      (∀ p, p ≠ q → s'.sp p = u.sp p) ∧ s' = { u with spay := s'.spay, out := s'.out }) ∧
    (u.spState q ≠ spUp ∨ g.pick = none → exec (.spaydunFrameSend t q) s = .next u)

/-- R177, R471, R559, R562, R570 to R574, Table 13.4: received frames are checked in order, and no command acts on another's frame; time
marks go out and come in; relays open, answer, close and resume, and their pictures and streams come in (TIME_MARK_SEND, TIME_MARK,
PIXEL_STRIP, STREAM_RELAY, RELAY_PICTURE_TIMEOUT, RELAY_OPEN, RELAY_RESULT, RELAY_CLOSE, RELAY_RESYNC). -/
def Obligations.FramesAreCheckedAndRelaysRun : Prop :=
  ∀ (s : State) (t q : Nat) (x : SpWire), q < 2 →
    let u := s.tick t
    let f := u.spFrame q x
    let i := spIdx q
    let g := u.sp q
    let b := f.payload
    let v := (u.receive q f).1
    (∀ c mine, (c, mine) ∈ [(Instr.acknowledgement t q x, spIsOp f 0), (.timeMark t q x, decide (f.ftype = ftMark)),
        (.pixelStrip t q x, decide (f.ftype = ftPixel)), (.streamRelay t q x, decide (f.ftype = ftStream)),
        (.digestFrame t q x, decide (f.ftype = ftDigest)), (.presence t q x, spIsOp f 1), (.stage t q x, spIsOp f 2),
        (.staged t q x, spIsOp f 3), (.arm t q x, spIsOp f 4), (.armed t q x, spIsOp f 5), (.abort t q x, spIsOp f 6), (.applied t q x, spIsOp f 7),
        (.relayOpen t q x, spIsOp f 8), (.relayResult t q x, spIsOp f 9), (.relayClose t q x, spIsOp f 10),
        (.relayResync t q x, spIsOp f 11), (.rejoinRequest t q x, spIsOp f 12), (.rejoinGrant t q x, spIsOp f 13),
        (.imagePart t q x, spIsOp f 14)] →
      (mine = false → exec c s = .next u) ∧ (mine = true → (u.receive q f).2 = false → exec c s = .next v)) ∧
    (u.spState q ≠ spUp → u.receive q f = (u, false)) ∧
    (u.spState q = spUp →
      (f.framingOk = false ∨ 8192 < b.length → (u.receive q f).2 = false ∧ u.counted v i 0x0F 1 ∧ v = { u with od := v.od, log := v.log }) ∧
      (f.framingOk = true → b.length ≤ 8192 →
        (f.crcOk = false → (u.receive q f).2 = false ∧ u.counted v i 0x0D 1 ∧ v = { u with od := v.od, log := v.log }) ∧
        (f.crcOk = true → spFormOk f = false → (u.receive q f).2 = false ∧ u.counted v i 0x0F 1 ∧ v = { u with od := v.od, log := v.log }) ∧
        (f.crcOk = true → spFormOk f = true → u.standalone = true → f.ftype ≠ ftMark → u.receive q f = (u, false)) ∧
        (f.crcOk = true → spFormOk f = true → u.standalone = false →
          (u.epochOk f = false → (u.receive q f).2 = false ∧ u.counted v i 0x0E 1 ∧
            (∀ a, g.replyAt = some a → u.clock < a + 10 * msTicks → v.spay = u.spay) ∧
            ((∀ a, g.replyAt = some a → a + 10 * msTicks ≤ u.clock) → (v.sp q).replyAt = some u.clock ∧
              (v.sp q).ready = g.ready ++ [u.ownFrame ftControl f.src 0 u.presenceBody]) ∧
            v = { u with od := v.od, log := v.log, spay := v.spay }) ∧
          (u.epochOk f = true → f.ftype = ftControl → bit f.flags 1 = false → bit f.flags 2 = false → f.dst = u.pkgId →
            (f.seq = g.expects → (u.receive q f).2 = true ∧ (v.sp q).expects = wrapInc 16 f.seq ∧
              (v.sp q).ackAt = some (g.ackAt.getD u.clock) ∧ v = { u with spay := v.spay }) ∧
            (f.seq ≠ g.expects → (u.receive q f).2 = false ∧ (v.sp q).expects = g.expects ∧ (v.sp q).ackAt = g.ackAt ∧
              v = { u with spay := v.spay }))))) ∧
    (u.spState q = spUp → u.maySend ftMark 0 = true → (∀ a, g.markSent = some a → a + msTicks ≤ u.clock) →
      ∃ s', exec (.timeMarkSend t q) s = .next s' ∧
      s'.sp q = { g with markSent := some u.clock, ready := g.ready ++ [u.ownFrame ftMark (u.rn i 0x07 % 16) 0 (u.markBytes 0 0 0)] } ∧
      (∀ p, p ≠ q → s'.sp p = u.sp p) ∧ s' = { u with spay := s'.spay }) ∧
    (u.spState q ≠ spUp ∨ u.maySend ftMark 0 = false ∨ (∃ a, g.markSent = some a ∧ u.clock < a + msTicks) →
      exec (.timeMarkSend t q) s = .next u) ∧
    (f.ftype = ftMark → (u.receive q f).2 = true →
      (byteAt b 0 = 1 → ∃ d, exec (.timeMark t q x) s = .next (v.setSp q { v.sp q with delay := some d })) ∧
      (byteAt b 0 ≠ 1 → ∃ s', exec (.timeMark t q x) s = .next s' ∧
        (v.maySend ftMark 0 = true → v.spState q = spUp → ∃ x, (s'.sp q).ready = (v.sp q).ready ++ [x] ∧ x.ftype = ftMark) ∧
        (beNat ((b.drop 4).take 4) ≠ 0xFFFFFFFF → byteAt b 1 ≤ 15 → (s'.sp q).hops = some (byteAt b 1) ∧ (s'.sp q).markAt = v.clock) ∧
        (beNat ((b.drop 4).take 4) ≠ 0xFFFFFFFF → 15 < byteAt b 1 → (s'.sp q).hops = none ∧ s' = { v with spay := s'.spay }) ∧
        (v.rn 0x2800 0x03 ≠ 2 ∨ beNat ((b.drop 4).take 4) = 0xFFFFFFFF ∨ (v.sp q).delay = none → s' = { v with spay := s'.spay }) ∧
        s' = { v with free := s'.free, od := s'.od, log := s'.log, time := s'.time, trigs := s'.trigs, layers := s'.layers,
                      commits := s'.commits, spay := s'.spay })) ∧
    (f.ftype = ftPixel → (u.receive q f).2 = true →
      (v.relayMine (fld b 0 2) = none → exec (.pixelStrip t q x) s = .next v) ∧
      (∀ n r new, v.relayMine (fld b 0 2) = some n → v.relayPixel n = true → v.sst n = sessRunning → (v.rin n).record = some r →
        fld b 2 4 = fld r 0 4 → fld b 8 2 + byteAt b 10 ≤ ceilDiv (fld r 4 2) 16 →
        fld b 6 2 * ceilDiv (fld r 4 2) 16 + fld b 8 2 < tilesOf (fld r 4 2) (fld r 6 2) →
        new = (v.rin n).tiles.filter (fun p => !((List.range (byteAt b 10)).any (fun j =>
            fld b 6 2 * ceilDiv (fld r 4 2) 16 + fld b 8 2 + j = p.1))) ++
          (List.range (byteAt b 10)).map (fun j => (fld b 6 2 * ceilDiv (fld r 4 2) 16 + fld b 8 2 + j, bit (fld b 12 2) j,
            bytesWords 144 ((b.drop (16 + 576 * j)).take 576))) →
        (new.length ≠ tilesOf (fld r 4 2) (fld r 6 2) → ∃ s', exec (.pixelStrip t q x) s = .next s' ∧
          s'.rin n = { v.rin n with tiles := new } ∧ s'.ses n = { v.ses n with last := v.clock } ∧
          s' = { v with sess := s'.sess, sys := s'.sys }) ∧
        (∀ au rest, new.length = tilesOf (fld r 4 2) (fld r 6 2) → (v.ses n).queue = au :: rest →
          ∃ s', exec (.pixelStrip t q x) s = .next s' ∧ (s'.rin n).record = none ∧ (s'.rin n).tiles = [] ∧
            (s'.ses n).queue = rest ∧
            s' = { v with free := s'.free, od := s'.od, log := s'.log, sess := s'.sess, sys := s'.sys }))) ∧
    (f.ftype = ftStream → (u.receive q f).2 = true →
      (v.relayMine (fld b 0 2) = none → exec (.streamRelay t q x) s = .next v) ∧
      (∀ n r next, v.relayMine (fld b 0 2) = some n → v.sst n = sessRunning → (v.rin n).offset = fld b 2 4 → (v.rin n).lost = false →
        next = (fld b 2 4 + (b.drop 6).length) % 2 ^ 32 →
        r = takeBlocks ((b.drop 6).length + (v.rin n).raw.length + 1) (v.ctx n).learnt ((v.rin n).raw ++ b.drop 6) →
        r.2.2.2 = true → ((v.rin n).data ++ r.1).length < 64 →
        (v.ctx n).await = false →
        ∃ s', exec (.streamRelay t q x) s = .next s' ∧
          s'.rin n = { v.rin n with offset := next, raw := r.2.2.1, data := (v.rin n).data ++ r.1 } ∧
          (s'.ctx n).learnt = r.2.1 ∧ s' = { v with sess := s'.sess, ctxs := s'.ctxs, sys := s'.sys }) ∧
      (∀ n, v.relayMine (fld b 0 2) = some n → v.sst n = sessRunning → (v.rin n).offset ≠ fld b 2 4 → v.isSurface n = false →
        v.relayResumes n (b.drop 6) = false →
        ∃ s', exec (.streamRelay t q x) s = .next s' ∧ v.counted s' (sIdx n) 0x25 1 ∧
          s'.rin n = { v.rin n with offset := (fld b 2 4 + (b.drop 6).length) % 2 ^ 32, raw := [], data := [], lost := true })) ∧
    (∀ n,
      (∀ r au rest, (u.rin n).record = some r → (u.ses n).queue = au :: rest → (u.rin n).start + 50 * msTicks ≤ u.clock →
        ∃ s', exec (.relayPictureTimeout t n) s = .next s' ∧ (s'.rin n).record = none ∧ (s'.rin n).tiles = [] ∧
          (s'.ses n).queue = rest ∧
          s' = { u with free := s'.free, od := s'.od, log := s'.log, sess := s'.sess, sys := s'.sys }) ∧
      ((u.rin n).record = none ∨ u.clock < (u.rin n).start + 50 * msTicks → exec (.relayPictureTimeout t n) s = .next u)) ∧
    (spIsOp f 8 = true → (u.receive q f).2 = true → ∃ s', exec (.relayOpen t q x) s = .next s' ∧
      (∀ k, k ≠ fld b 2 2 → s'.sys.relays.look k = v.sys.relays.look k) ∧
      (v.prefer v.pkgId (relayTo (fld b 2 2)) = none → s'.sys.relays.look (fld b 2 2) = none) ∧
      (∀ p cost, v.prefer v.pkgId (relayTo (fld b 2 2)) = some p → byteAt b 4 < 160 → byteAt b 5 = 0 → v.isVideo (byteAt b 4) = true →
        cost = (v.relayCharge (byteAt b 4) 0).1.1 →
        (let used := relayTraffic ((v.sys.relays.cut (fld b 2 2)).filter (fun r => r.2.port = p))
         (v.rn (spIdx p) 0x08 * 1000000 * v.rn 0x3100 0x04 < (used + cost) * 100 → s'.sys.relays.look (fld b 2 2) = none ∧
           s'.spay = (v.control (relayTo (fld b 2 2)) 9 (beBytes 2 (fld b 2 2) ++ beBytes 1 2)).spay) ∧
         ((used + cost) * 100 ≤ v.rn (spIdx p) 0x08 * 1000000 * v.rn 0x3100 0x04 → v.isSurface (byteAt b 4) = false →
           s'.sys.relays.look (fld b 2 2) =
             some { source := byteAt b 4, mode := 0, cost := cost, port := p, ctx := none, load := 0 } ∧
           s'.spay = (v.control (relayTo (fld b 2 2)) 9 (beBytes 2 (fld b 2 2) ++ beBytes 1 0)).spay))) ∧
      s' = { v with free := s'.free, od := s'.od, ctxs := s'.ctxs, spay := s'.spay, sys := s'.sys }) ∧
    (spIsOp f 9 = true → (u.receive q f).2 = true →
      (v.relayMine (fld b 2 2) = none ∨ byteAt b 4 = 0 → exec (.relayResult t q x) s = .next v) ∧
      (∀ n, v.relayMine (fld b 2 2) = some n → byteAt b 4 ≠ 0 → ∃ s', exec (.relayResult t q x) s = .next s' ∧
        s'.sst n = sessClosed ∧ s'.rn (sIdx n) 0x03 = byteAt b 4 ∧ (s'.ses n).aus = [] ∧ (s'.ses n).queue = [])) ∧
    (spIsOp f 10 = true → (u.receive q f).2 = true → ∃ s', exec (.relayClose t q x) s = .next s' ∧
      s'.sys = { v.sys with relays := v.sys.relays.cut (fld b 2 2) } ∧ s' = { v with od := s'.od, sys := s'.sys }) ∧
    (spIsOp f 11 = true → (u.receive q f).2 = true →
      (∀ y, v.sys.relays.look (fld b 2 2) = none ∨ (v.sys.relays.look (fld b 2 2) = some y ∧ (y.mode ≠ 1 ∨ y.shed = true)) →
        exec (.relayResync t q x) s = .next v) ∧
      (∀ y, v.sys.relays.look (fld b 2 2) = some y → y.mode = 1 → y.shed = false → y.source < 160 → v.isSurface y.source = true →
        v.sst y.source = sessRunning → ∃ s', exec (.relayResync t q x) s = .next s' ∧
          (s'.relay (fld b 2 2)).number = wrapInc 32 y.number ∧
          s' = { v with free := s'.free, od := s'.od, log := s'.log, ctxs := s'.ctxs, spay := s'.spay, sys := s'.sys }))

/-- R561 to R568, R582, R583: presence goes out and is heard; an absent package and one that never came are declared dead; a
package without quorum fences itself; digests are sent and compared, and the actual tree can be adopted (PRESENCE_SEND, PRESENCE,
PACKAGE_ABSENT, JOIN_GRACE_EXPIRY, SELF_FENCE, SYSTEM_DECLARE_DEAD, DIGEST_BROADCAST, DIGEST_FRAME, SYSTEM_ADOPT). -/
def Obligations.PackagesWatchEachOther : Prop :=
  ∀ (s : State) (t : Nat),
    let u := s.tick t
    (u.standalone = true ∨ u.power.phase ≠ .running ∨ (∃ a, u.sys.presAt = some a ∧ u.clock < a + 10 * msTicks) →
      exec (.presenceSend t) s = .next u) ∧
    (∀ f, f = u.ownFrame ftControl 0 4 u.presenceBody → u.standalone = false → u.power.phase = .running → u.isFencedPkg = false →
      u.sys.joined = true → u.quorumNow = u.sys.quorum → u.findSupervisor = u.rn 0x6800 0x0B → u.supervisor = false →
      (∀ a, u.sys.presAt = some a → a + 10 * msTicks ≤ u.clock) →
      exec (.presenceSend t) s = .next (({ u with sys := { u.sys with presAt := some u.clock } }.ready 0 f).ready 1 f)) ∧
    (u.standalone = false → u.power.phase = .running → u.sys.joined = true → u.quorumNow ≠ u.sys.quorum →
      u.findSupervisor = u.rn 0x6800 0x0B → u.supervisor = false → (∀ a, u.sys.presAt = some a → a + 10 * msTicks ≤ u.clock) →
      ∃ s', exec (.presenceSend t) s = .next s' ∧ s'.sys.quorum = u.quorumNow ∧
        s'.sys.lostAt = (if u.quorumNow then none else some u.clock) ∧
        u.raised s' u.sysKey 0x1104 (if u.quorumNow then 0 else 2)
          [(8, (u.maskIds.filter u.isPresent).length), (8, b2n u.quorumNow)] ∧
        s' = { u with od := s'.od, log := s'.log, spay := s'.spay, sys := s'.sys }) ∧
    (∀ q x f, f = u.spFrame q x → spIsOp f opPresence = true → (u.receive q f).2 = true →
      let v := (u.receive q f).1
      let b := f.payload
      (b.length ≠ 328 → exec (.presence t q x) s = .next v) ∧
      (b.length = 328 → f.src < 16 → ∃ s', exec (.presence t q x) s = .next s' ∧
        s'.sys.peers.look f.src =
          some ⟨u.clock, f.gen, bit (byteAt b 3) 2, neighbourOf (byteAt b 4), neighbourOf (byteAt b 5), true⟩ ∧
        ((v.peer f.src).present = false → v.raised s' v.sysKey 0x1101 0 [(8, f.src)]) ∧
        s' = { u with free := s'.free, od := s'.od, force := s'.force, log := s'.log, time := s'.time, trigs := s'.trigs,
                      tally := s'.tally, sess := s'.sess, ports := s'.ports, mcast := s'.mcast, layers := s'.layers,
                      screens := s'.screens, queued := s'.queued, gfx := s'.gfx, ctxs := s'.ctxs, zttQ := s'.zttQ,
                      engines := s'.engines, encs := s'.encs, rings := s'.rings, pcie := s'.pcie, lanes := s'.lanes,
                      spay := s'.spay, sys := s'.sys, flash := s'.flash, out := s'.out })) ∧
    (∀ p, (u.standalone = true ∨ (u.peer p).present = false ∨ u.clock < (u.peer p).tick + u.rn 0x6800 0x05 * msTicks →
        exec (.packageAbsent t p) s = .next u) ∧
      (u.standalone = false → (u.peer p).present = true → (u.peer p).tick + u.rn 0x6800 0x05 * msTicks ≤ u.clock →
        ∃ s', exec (.packageAbsent t p) s = .next s' ∧ (s'.peer p).present = false ∧ u.raised s' u.sysKey 0x1102 2 [(8, p)])) ∧
    (∀ p, (u.standalone = true ∨ u.maySupervise = false ∨ 16 ≤ p ∨ u.isSelf p = true ∨ bit u.sys.seen p = true →
        exec (.joinGraceExpiry t p) s = .next u) ∧
      (∀ r c, u.takes r = true → (c = .systemDeclareDead t r ∧ (u.standalone = true ∨ u.maySupervise = false ∨
          u.isSelf (u.rn 0x6800 0x11) = true ∨ 16 ≤ u.rn 0x6800 0x11)) →
        exec c s = .next { u with out := .resp r 0x6800 0x10 7 [] :: u.out }) ∧
      (∀ r c head, u.standalone = false → u.maySupervise = true → p < 16 → u.isSelf p = false →
        (∀ k, k < 16 → k ≠ p → ¬((u.ent k).role = 2 ∧ u.isPresent k = true ∧ u.joinedOf k = true ∧ u.healthOf k = 0)) →
        (c = .joinGraceExpiry t p ∧ head = none ∧ ((u.ent p).role = 1 ∨ (u.ent p).role = 2 ∨ (u.ent p).role = 4) ∧
          bit u.sys.seen p = false ∧ u.sys.genAt + u.rn 0x6800 0x06 * sTicks ≤ u.clock) ∨
        (c = .systemDeclareDead t r ∧ head = some (Out.resp r 0x6800 0x10 0 []) ∧ u.takes r = true ∧ u.rn 0x6800 0x11 = p) →
        ∃ s' g, exec c s = .next s' ∧ g = wrapInc 32 (u.rn 0x6800 0x08) ∧ s'.rn 0x6800 0x08 = g ∧
          s'.ent p = { u.ent p with epoch := wrapInc 16 (u.ent p).epoch, role := 3, serial := 0 } ∧
          (∀ k, k ≠ p → s'.ent k = u.ent k) ∧ (s'.peer p).present = false ∧ s'.sys.genAt = u.clock ∧
          u.counted s' 0x6800 0x1A 1 ∧ u.raised s' u.sysKey 0x1105 3 [(8, p), (8, 0xFF), (32, g)] ∧
          (∀ o, head = some o → s'.out = o :: u.out) ∧ (head = none → s'.out = u.out) ∧
          s' = { u with od := s'.od, log := s'.log, partWrites := s'.partWrites, sess := s'.sess, spay := s'.spay, sys := s'.sys,
                        out := s'.out })) ∧
    (∀ a, u.sys.lostAt = some a → u.standalone = false → u.sys.joined = true → u.rn 0x6800 0x09 = 1 → u.sys.held = true →
      u.sys.quorum = false → u.spareMaskIds ≠ 0 → u.rn 0x6800 0x0F = 1 → a + 2 * u.rn 0x6800 0x05 * msTicks ≤ u.clock →
      ∃ s', exec (.selfFence t) s = .next s' ∧ s'.rn 0x6800 0x09 = 3 ∧ s'.rn 0x6800 0x0A = 0xFF ∧ s'.sys = { u.sys with joined := false } ∧
        (∀ e, e < 16 → u.encOn e = true → s'.rn (eIdx e) 0x02 = encStopped ∧ s'.rn (eIdx e) 0x03 = 4) ∧
        u.raised s' u.sysKey 0x1106 3 [(8, 2)] ∧
        s' = { u with od := s'.od, log := s'.log, tally := s'.tally, layers := s'.layers, encs := s'.encs, sys := s'.sys,
                      out := s'.out }) ∧
    (u.sys.lostAt = none ∨ u.sys.quorum = true ∨ u.rn 0x6800 0x0F ≠ 1 ∨ u.spareMaskIds = 0 → exec (.selfFence t) s = .next u) ∧
    (u.standalone = true ∨ u.sys.joined = false ∨ u.power.phase ≠ .running ∨
        (∃ a, u.sys.digestAt = some a ∧ u.clock < a + 100 * msTicks) → exec (.digestBroadcast t) s = .next u) ∧
    (u.standalone = false → u.sys.joined = true → u.power.phase = .running →
      (∀ a, u.sys.digestAt = some a → a + 100 * msTicks ≤ u.clock) → ∃ s', exec (.digestBroadcast t) s = .next s' ∧
      s'.sys = { u.sys with digestAt := some u.clock } ∧
      (u.rn 0x6800 0x09 ≠ 2 → s'.spay = (u.broadcast ftDigest 0 (digestBody u.pkgId u.actualRoot)).spay) ∧
      (u.sys.suspended = true → s'.rn 0x6800 0x13 = 2 ∧ s'.log = u.log) ∧
      (u.sys.suspended = false → u.actualRoot = (u.ent u.pkgId).root → s'.rn 0x6800 0x13 = 0 ∧ s'.rn 0x6800 0x14 = 0xFFFFFFFF) ∧
      (u.sys.suspended = false → u.actualRoot ≠ (u.ent u.pkgId).root →
        s'.rn 0x6800 0x13 = (if u.actualRoot = rootOf u.sys.tree then 3 else 1) ∧
        (u.actualRoot = rootOf u.sys.tree → s'.rn 0x6800 0x14 = pkgNode u.pkgId)) ∧
      s' = { u with od := s'.od, log := s'.log, spay := s'.spay, sys := s'.sys }) ∧
    (∀ q x f, f = u.spFrame q x → f.ftype = ftDigest → (u.receive q f).2 = true →
      let v := (u.receive q f).1
      let a := Addr.ofNat (fld f.payload 0 4)
      let k := 16 * f.src + a.pkg
      let root := fld f.payload 4 8
      ∃ s', exec (.digestFrame t q x) s = .next s' ∧ (v.supervisor = false → s'.sys = v.sys) ∧
        (v.supervisor = true → a.level = 4 → v.sys.change = none →
          (root = (v.ent a.pkg).root → s'.sys = { v.sys with differ := v.sys.differ.filter (· ≠ k) }) ∧
          (root ≠ (v.ent a.pkg).root → k ∉ v.sys.differ → s'.sys = { v.sys with differ := k :: v.sys.differ } ∧
            v.raised s' v.sysKey 0x1109 2 [(32, pkgNode a.pkg), (32, root % 2 ^ 32)])) ∧
        s' = { v with od := s'.od, log := s'.log, sys := s'.sys }) ∧
    (∀ r, u.takes r = true →
      (u.standalone = true ∨ u.sys.change ≠ none ∨ u.sys.target ≠ none →
        exec (.systemAdopt t r) s = .next { u with out := .resp r 0x6800 0x10 7 [] :: u.out }) ∧
      (u.standalone = false → u.sys.change = none → u.sys.target = none → ∃ s', exec (.systemAdopt t r) s = .next s' ∧
        s'.sys.tree = u.tree ∧ (u.power.fail = false → s'.flash = { u.flash with tree := u.tree }) ∧
        (u.power.fail = true → s'.flash = u.flash) ∧ (u.supervisor = true → (s'.ent u.pkgId).root = u.actualRoot) ∧
        s'.out = .resp r 0x6800 0x10 0 [] :: u.out ∧
        s' = { u with od := s'.od, log := s'.log, partWrites := s'.partWrites, spay := s'.spay, sys := s'.sys, flash := s'.flash,
                      out := s'.out }))

/-- R569, R580: a fenced package asks to rejoin, the supervisor grants an ID, and a spare takes the images of the members
(REJOIN_REQUEST_SEND, REJOIN_REQUEST, REJOIN_GRANT, SYSTEM_REJOIN, IMAGE_PART). -/
def Obligations.FencedPackagesRejoin : Prop :=
  ∀ (s : State) (t q : Nat) (x : SpWire),
    let u := s.tick t
    let f := u.spFrame q x
    let v := (u.receive q f).1
    let b := f.payload
    (u.isFencedPkg = true → u.rn 0x6800 0x0E = 1 ∨ u.sys.rejoin = true → u.rn 0x6800 0x0B ≠ 0xFF →
      (∀ a, u.sys.rejoinAt = some a → a + sTicks ≤ u.clock) →
      exec (.rejoinRequestSend t) s = .next ({ u with sys := { u.sys with rejoinAt := some u.clock } }.control (u.rn 0x6800 0x0B) opRejoin
        (beBytes 1 (u.fn 0x6800 0x01) ++ [0] ++ beBytes 8 u.otp.serial))) ∧
    (u.isFencedPkg = false ∨ (u.rn 0x6800 0x0E ≠ 1 ∧ u.sys.rejoin = false) ∨ u.rn 0x6800 0x0B = 0xFF ∨
        (∃ a, u.sys.rejoinAt = some a ∧ u.clock < a + sTicks) →
      exec (.rejoinRequestSend t) s = .next u) ∧
    (spIsOp f opRejoin = true → (u.receive q f).2 = true →
      (v.supervisor = false → exec (.rejoinRequest t q x) s = .next v) ∧
      (∀ home serial, home = byteAt b 2 → serial = fld b 4 8 → v.supervisor = true → home < 16 → (v.ent home).role = 3 →
        bit v.memberMask home = true → ∃ s', exec (.rejoinRequest t q x) s = .next s' ∧
          s'.ent home = { v.ent home with role := 1, serial := serial } ∧ (∀ k, k ≠ home → s'.ent k = v.ent k) ∧
          s'.spay = (v.broadcast ftControl 13 (beBytes 2 13 ++ beBytes 1 home ++ beBytes 1 1 ++ beBytes 2 (v.ent home).epoch ++
            [0, 0] ++ beBytes 8 serial)).spay ∧
          s' = { v with spay := s'.spay, sys := s'.sys }) ∧
      (v.supervisor = true → (∀ k, k < 16 → (v.ent k).role ≠ 3) →
        exec (.rejoinRequest t q x) s = .next (v.broadcast ftControl 13 (beBytes 2 13 ++ beBytes 1 0xFF ++ beBytes 1 0 ++
          beBytes 2 0 ++ [0, 0] ++ beBytes 8 (fld b 4 8))))) ∧
    (spIsOp f 13 = true → (u.receive q f).2 = true →
      (v.isFencedPkg = false ∨ fld b 8 8 ≠ v.otp.serial ∨ 15 < byteAt b 2 → exec (.rejoinGrant t q x) s = .next v) ∧
      (∀ id role, id = byteAt b 2 → role = (if byteAt b 3 = 2 then 4 else 1) → v.isFencedPkg = true → fld b 8 8 = v.otp.serial →
        id ≤ 15 → ∃ s', exec (.rejoinGrant t q x) s = .next s' ∧ s'.rn 0x6800 0x0A = id ∧ s'.rn 0x6800 0x09 = role ∧
          s'.rn 0x2100 0x01 = fld b 4 2 ∧ s'.rn 0x6800 0x08 = f.gen ∧ s'.sys.joined = true ∧ s'.sys.rejoin = false ∧
          s'.ent id = { v.ent id with serial := v.otp.serial, role := role, epoch := fld b 4 2 } ∧
          (∀ k, k ≠ id → s'.ent k = v.ent k) ∧
          (role = 1 → (v.log.queues.at' v.sysKey []).length < 12 →
            ∃ e ∈ s'.log.queues.at' v.sysKey [], e.ty = 0x1107 ∧ e.sev = 1 ∧ e.pay = [(8, id), (8, 1), (16, fld b 4 2)]) ∧
          s' = { v with od := s'.od, log := s'.log, tally := s'.tally, layers := s'.layers, screens := s'.screens,
                        sys := s'.sys })) ∧
    (∀ r, u.takes r = true →
      (u.isFencedPkg = false → exec (.systemRejoin t r) s = .next { u with out := .resp r 0x6800 0x10 7 [] :: u.out }) ∧
      (u.isFencedPkg = true → ∃ s', exec (.systemRejoin t r) s = .next s' ∧ s'.sys = { u.sys with rejoin := true } ∧
        s'.out = .resp r 0x6800 0x10 0 [] :: u.out ∧
        s' = { u with sys := s'.sys, partWrites := s'.partWrites, out := s'.out })) ∧
    (spIsOp f 14 = true → (u.receive q f).2 = true →
      (∀ p off have', p = byteAt b 2 → off = fld b 4 4 → have' = (if off = 0 then [] else v.sys.parts.at' p []) →
        (16 ≤ p ∨ off ≠ have'.length ∨ (v.rn 0x6800 0x09 ≠ 2 ∧ v.rn 0x6800 0x09 ≠ 4) → exec (.imagePart t q x) s = .next v) ∧
        (p < 16 → off = have'.length → v.rn 0x6800 0x09 = 2 ∨ v.rn 0x6800 0x09 = 4 →
          (bit (byteAt b 3) 0 = false → exec (.imagePart t q x) s =
            .next { v with sys := { v.sys with parts := v.sys.parts.put p (have' ++ b.drop 8) } }) ∧
          (bit (byteAt b 3) 0 = true → ∃ s' img, exec (.imagePart t q x) s = .next s' ∧ s'.sys.images = v.sys.images.put p img ∧
            bit s'.sys.got p = true ∧ s'.sys.parts = v.sys.parts.cut p ∧
            (v.power.fail = false → s'.flash = { v.flash with images := s'.sys.images }) ∧ (v.power.fail = true → s'.flash = v.flash) ∧
            s' = { v with od := s'.od, log := s'.log, sys := s'.sys, flash := s'.flash }))))

/-- R483 to R488, R505: the PCIe function resets, becomes ready and links; its registers are written while the host reaches it; a
moderated vector is sent (PCIE_FUNCTION_RESET, PCIE_FUNCTION_READY, PCIE_LINK_UP, PCIE_PERST_DEASSERT, FUNCTION_EVENT_CLEAR,
BAR_REGISTER_WRITE, INTERRUPT_MODERATION_EXPIRY). -/
def Obligations.PcieFunctionResetsAndLinks : Prop :=
  ∀ (s : State) (t : Nat),
    let u := s.tick t
    let on := u.power.phase = .booting ∨ u.power.phase = .running
    let cleared := ({ u.pcie with events := 0, vector := 0, enable := false, msix := msixReset, pending := 0 } : PcieS)
    (u.power.quietWait = false →
      (u.dieLost 0 = true → ∀ kind, exec (.pcieFunctionReset t kind) s = .next u) ∧
      (∀ kind, kind = 1 ∨ kind = 2 ∨ 3 ≤ kind → u.rn 0x6600 0x04 ≠ 2 → exec (.pcieFunctionReset t kind) s = .next u) ∧
      (∀ kind, u.dieLost 0 = false → kind = 0 ∨ u.rn 0x6600 0x04 = 2 → (∀ q, u.upd.owner ≠ some (.mailbox q)) →
        ∃ s', exec (.pcieFunctionReset t kind) s = .next s' ∧ s'.rings = [] ∧
          s'.pcie = (if kind = 0 then { cleared with reset := true, answers := false } else cleared) ∧
          (∀ m ∈ s'.zttQ, m ∈ u.zttQ ∧ ∀ q, q < 32 → m.via ≠ .ring q) ∧ s'.queued.length = u.queued.length ∧
          s'.rn 0x6600 0x07 = 0 ∧ (kind = 1 ∨ kind = 2 → u.odSame s' [key 0x6600 0x07]) ∧
          (kind = 0 ∨ 3 ≤ kind → s'.rn 0x6600 0x04 = (if u.pcieHeld then 3 else 0) ∧ s'.rn 0x6600 0x05 = 0xFFFF ∧
            (u.rn 0x6600 0x04 = 2 → u.counted s' 0x6600 0x08 1)) ∧
          s' = { u with od := s'.od, log := s'.log, partReads := s'.partReads, partWrites := s'.partWrites, queued := s'.queued,
                        zttQ := s'.zttQ, engines := s'.engines, rings := s'.rings, pcie := s'.pcie })) ∧
    (u.dieLost 0 = false → u.pcie.reset = false → on →
      exec (.pcieFunctionReady t) s = .next { u with pcie := { u.pcie with answers := true } }) ∧
    (u.dieLost 0 = true ∨ u.pcie.reset = true → exec (.pcieFunctionReady t) s = .next u) ∧
    (∀ speed width, u.dieLost 0 = false → u.pcie.reset = false → u.pcieHeld = false → on → speed ≤ u.rn 0x6600 0x02 →
      width ≤ u.rn 0x6600 0x03 → width = 1 ∨ width = 2 ∨ width = 4 →
      ∃ s', exec (.pcieLinkUp t speed width) s = .next s' ∧ s'.rn 0x6600 0x04 = 2 ∧ s'.rn 0x6600 0x05 = speed + 256 * width ∧
        u.odSame s' [key 0x6600 0x04, key 0x6600 0x05] ∧ s' = { u with od := s'.od }) ∧
    (∀ speed width, u.pcie.reset = true ∨ u.pcieHeld = true ∨ u.rn 0x6600 0x02 < speed ∨ u.rn 0x6600 0x03 < width →
      exec (.pcieLinkUp t speed width) s = .next u) ∧
    (u.dieLost 0 = false → ∃ s', exec (.pciePerstDeassert t) s = .next s' ∧
      s'.pcie = { u.pcie with reset := false, answers := false, mode := u.rn 0x6600 0x01 } ∧
      s'.fval 0x6600 0x01 = u.val 0x6600 0x01 ∧ s'.rn 0x6600 0x04 = (if u.rn 0x6600 0x04 = 0 then 1 else u.rn 0x6600 0x04) ∧
      u.odSame s' [key 0x6600 0x04] ∧ s' = { u with od := s'.od, force := s'.force, pcie := s'.pcie }) ∧
    (u.dieLost 0 = true → exec (.pciePerstDeassert t) s = .next u) ∧
    (u.pcieUp = false → (∀ v, exec (.functionEventClear t v) s = .next u) ∧
      (∀ off size v, exec (.barRegisterWrite t off size v) s = .next u)) ∧
    (u.pcieUp = true →
      (∀ v, exec (.functionEventClear t v) s =
        .next { u with pcie := { u.pcie with events := u.pcie.events - Nat.land u.pcie.events (v % 8) } }) ∧
      (∀ off size v, (size ≠ 4 ∧ size ≠ 8) ∨ off % size ≠ 0 ∨ 65536 < off + size →
        ∃ s', exec (.barRegisterWrite t off size v) s = .next s' ∧ u.counted s' 0x6600 0x0A 1 ∧
          s' = { u with od := s'.od, log := s'.log }) ∧
      (∀ v, v < 2 ^ 32 → exec (.barRegisterWrite t 12 4 v) s =
        .next { u with pcie := { u.pcie with vector := bits v 5 0, enable := bit v 7 } }) ∧
      (∀ q w v, q < 32 → w ≤ 4 ∨ w = 6 → v < 2 ^ 32 →
        ((u.ring q).state = 0 → exec (.barRegisterWrite t (0x1000 + 64 * q + 4 * w) 4 v) s =
          .next (u.setRing q { u.ring q with cfg := setBits (u.ring q).cfg (32 * w + 31) (32 * w) v })) ∧
        ((u.ring q).state ≠ 0 → ∃ s', exec (.barRegisterWrite t (0x1000 + 64 * q + 4 * w) 4 v) s = .next s' ∧
          u.counted s' 0x6600 0x0A 1 ∧ s' = { u with od := s'.od, log := s'.log })) ∧
      (u.barRead 0 4 = 0x2416 + 2 ^ 16 + 2 ^ 24 * u.pkgId ∧ u.barRead 8 4 = u.pcie.events % 8 ∧
        u.barRead 12 4 = u.pcie.vector + 128 * b2n u.pcie.enable ∧
        (∀ q w, q < 32 → (w < 8 → u.barRead (0x1000 + 64 * q + 4 * w) 4 = bits (u.ring q).cfg (32 * w + 31) (32 * w)) ∧
          u.barRead (0x1020 + 64 * q) 4 = (u.ring q).fetch ∧ u.barRead (0x1024 + 64 * q) 4 = (u.ring q).wb ∧
          u.barRead (0x1028 + 64 * q) 4 = (u.ring q).cons ∧
          u.barRead (0x102C + 64 * q) 4 = (u.ring q).state + 256 * (u.ring q).cause) ∧
        (∀ off size, (size ≠ 4 ∧ size ≠ 8) ∨ off % size ≠ 0 ∨ 65536 < off + size → u.barRead off size = 0)) ∧
      (∀ k v, k < 256 → v < 2 ^ 32 → u.pcie.pending = 0 → exec (.barRegisterWrite t (0x2000 + 4 * k) 4 v) s =
        .next { u with pcie := { u.pcie with msix := cellsWrite u.pcie.msix (4 * k) (leBytes 4 v) } })) ∧
    (∀ q, let g := u.ring q
      (g.intWait = true → (∀ a, g.lastInt = some a → a + g.moderation * usTicks ≤ u.clock) →
        ∃ s', exec (.interruptModerationExpiry t q) s = .next s' ∧
          s'.ring q = { g with intWait := false, lastInt := some u.clock } ∧ (∀ p, p ≠ q → s'.ring p = u.ring p) ∧
          (s'.out = (u.say (.msix g.vector)).out ∧ s'.pcie = u.pcie ∨
            s'.out = u.out ∧ s'.pcie = { u.pcie with pending := setBit u.pcie.pending g.vector true }) ∧
          s' = { u with rings := s'.rings, pcie := s'.pcie, out := s'.out }) ∧
      (g.intWait = false → exec (.interruptModerationExpiry t q) s = .next u))

/-- R489 to R504: rings start and stop, doorbells and consumer indices are taken, a bus error ends a descriptor or stops the ring, and
the descriptors of each kind are fetched and answered (RING_ENABLE, RING_DISABLE, DOORBELL, WRITE_BACK_CONSUMER, BUS_ERROR,
RAW_TRANSMIT, RAW_RECEIVE_DESCRIPTOR, MAILBOX_REQUEST, EVENT_BUFFER_DESCRIPTOR, EVENT_BUFFER_TIMEOUT,
TOUCH_REPORT_DESCRIPTOR). -/
def Obligations.RingsRunAndAnswer : Prop :=
  ∀ (s : State) (t q : Nat), q < 32 →
    let u := s.tick t
    let g := u.ring q
    (∀ kind, g.running = true → g.kind = kind → serialAfter 32 g.host g.fetch = true →
      u.fetchDesc q kind = some (g.fetch, u.setRing q { g with fetch := wrapInc 32 g.fetch, open' := g.open' ++ [g.fetch] })) ∧
    (∀ kind, g.running = false ∨ g.kind ≠ kind ∨ g.host = g.fetch → u.fetchDesc q kind = none) ∧
    (∀ w : WriteBack, w.desc ∈ g.open' → g.space = true → g.waits = [] → w.final = true → w.status ≠ 8 → g.intOn = false →
      (u.writeBack q w).ring q = { g with wb := wrapInc 32 g.wb, open' := g.open'.filter (· ≠ w.desc) } ∧
      (u.writeBack q w).out = (u.say (.writeBack q (w.bytes (1 - g.wb / g.size % 2)))).out ∧
      u.counted (u.writeBack q w) (0x6610 + q) 0x0B 1) ∧
    (u.pcieUp = false → exec (.ringEnable t q) s = .next u ∧ exec (.ringDisable t q) s = .next u ∧
      ∀ k, exec (.doorbell t q k) s = .next u ∧ exec (.writeBackConsumer t q k) s = .next u) ∧
    (u.pcieUp = true →
      (g.state ≠ 0 → exec (.ringEnable t q) s = .next (u.setRing q { g with cfg := setBit g.cfg 160 true })) ∧
      (∀ x n, g.state = 0 → x = { g with cfg := setBit g.cfg 160 true } →
        n = ((List.range 32).filter (fun p => (u.ring p).running && (u.ring p).kind = g.kind && (u.ring p).param = g.param)).length →
        (∀ cause, (x.configOk = false ∧ cause = 3) ∨ (x.configOk = true ∧ kindLimit g.kind ≤ n ∧ cause = 2) →
          ∃ s', exec (.ringEnable t q) s = .next s' ∧ s'.ring q = { x with state := 2, cause := cause } ∧
            (∀ p, p ≠ q → s'.ring p = u.ring p) ∧ bit s'.pcie.events 0 = true ∧
            u.raised s' (pcieKey 0) 0x0D01 2 [(8, q), (8, cause)] ∧
            s' = { u with od := s'.od, log := s'.log, rings := s'.rings, pcie := s'.pcie, out := s'.out }) ∧
        (x.configOk = true → n < kindLimit g.kind → ∃ s', exec (.ringEnable t q) s = .next s' ∧
          s'.ring q = { x with fetch := 0, wb := 0, state := 1, cause := 0, open' := [], bufs := [], waits := [], recs := [],
                               gap := false, nextRec := u.log.next, lastInt := none, intWait := false } ∧
          (∀ p, p ≠ q → s'.ring p = u.ring p) ∧ bit (s'.rn 0x6600 0x07) q = true ∧ u.odSame s' [key 0x6600 0x07] ∧
          s' = { u with od := s'.od, rings := s'.rings })) ∧
      (∃ s', exec (.ringDisable t q) s = .next s' ∧ (s'.ring q).state = 0 ∧ (s'.ring q).cause = 0 ∧ (s'.ring q).open' = [] ∧
        (s'.ring q).bufs = [] ∧ (s'.ring q).waits = [] ∧ bit (s'.ring q).cfg 160 = false ∧ bit (s'.rn 0x6600 0x07) q = false ∧
        (∀ p, p ≠ q → s'.ring p = u.ring p) ∧ s'.zttQ = u.zttQ.filter (fun m => m.via ≠ .ring q) ∧
        s'.queued.length = u.queued.length ∧ (g.running = false → s'.out = u.out) ∧
        s' = { u with od := s'.od, log := s'.log, queued := s'.queued, zttQ := s'.zttQ, engines := s'.engines, rings := s'.rings,
                      pcie := s'.pcie, out := s'.out }) ∧
      (∀ k, k < 2 ^ 32 →
        (g.running = false ∨ ((serialAfter 32 k g.host = true ∨ k = g.host) ∧ serialDiff 32 k g.oldest ≤ g.size) →
          exec (.doorbell t q k) s = .next (u.setRing q { g with cfg := setBits g.cfg 255 224 k })) ∧
        (g.running = true → (serialAfter 32 k g.host = false ∧ k ≠ g.host) ∨ g.size < serialDiff 32 k g.oldest →
          ∃ s', exec (.doorbell t q k) s = .next s' ∧ s'.ring q = { g with state := 2, cause := 1 } ∧ u.counted s' 0x6600 0x0B 1 ∧
            bit s'.pcie.events 0 = true ∧ u.raised s' (pcieKey 0) 0x0D01 2 [(8, q), (8, 1)] ∧ (∀ p, p ≠ q → s'.ring p = u.ring p) ∧
            s' = { u with od := s'.od, log := s'.log, rings := s'.rings, pcie := s'.pcie, out := s'.out }) ∧
        (∃ s', exec (.writeBackConsumer t q k) s = .next s' ∧ (s'.ring q).cons = k ∧
          (g.waits = [] → u.ringOf 5 0 = none → s' = u.setRing q { g with cons := k }) ∧
          s' = { u with od := s'.od, log := s'.log, rings := s'.rings, pcie := s'.pcie, out := s'.out }))) ∧
    (g.running = false → ∀ d, exec (.busError t q d) s = .next u) ∧
    (g.running = true →
      (∃ s', exec (.busError t q none) s = .next s' ∧ s'.ring q = { g with state := 2, cause := 4 } ∧ u.counted s' 0x6600 0x09 1 ∧
        u.raised s' (pcieKey 0) 0x0D01 2 [(8, q), (8, 4)] ∧ (∀ p, p ≠ q → s'.ring p = u.ring p) ∧
        s' = { u with od := s'.od, log := s'.log, rings := s'.rings, pcie := s'.pcie, out := s'.out }) ∧
      (∀ i, i ∉ g.open' → exec (.busError t q (some i)) s = .next u) ∧
      (∀ i, i ∈ g.open' → ∃ s', exec (.busError t q (some i)) s = .next s' ∧
        (s'.ring q).bufs = g.bufs.filter (fun b => b.1 ≠ i) ∧ (g.space = true → g.waits = [] → i ∉ (s'.ring q).open') ∧
        s'.zttQ = u.zttQ.filter (fun m => !(decide (m.via = ZttVia.ring q) && decide (m.desc = i))) ∧
        (∀ p, p ≠ q → s'.ring p = u.ring p) ∧
        s' = { u with od := s'.od, log := s'.log, zttQ := s'.zttQ, rings := s'.rings, pcie := s'.pcie, out := s'.out })) ∧
    (∀ y stamp, u.fetchDesc q 2 = none → exec (.rawTransmit t q y stamp) s = .next u) ∧
    (∀ y d stamp i w p, d = readDesc y → u.fetchDesc q 2 = some (i, w) → p = g.param →
      (plainDesc d = false ∨ d.lenA < 60 ∨ 9212 < d.lenA →
        exec (.rawTransmit t q y stamp) s = .next (w.writeBack q ⟨i, 1, true, false, false, 0, 0, 0, 0⟩)) ∧
      (plainDesc d = true → 60 ≤ d.lenA → d.lenA ≤ 9212 →
        (beNat ((d.data.drop 12).take 2) = 0x8808 →
          exec (.rawTransmit t q y stamp) s = .next (w.writeBack q ⟨i, 6, true, false, false, p, 0, 0, 0⟩)) ∧
        (beNat ((d.data.drop 12).take 2) ≠ 0x8808 → u.rn (0x2910 + p) 0x0A ≠ 1 ∨ u.isFencedPkg = true →
          exec (.rawTransmit t q y stamp) s = .next (w.writeBack q ⟨i, 5, true, false, false, p, 0, 0, 0⟩)) ∧
        (beNat ((d.data.drop 12).take 2) ≠ 0x8808 → u.rn (0x2910 + p) 0x0A = 1 → u.isFencedPkg = false →
          exec (.rawTransmit t q y stamp) s = .next ((w.say (.ethernet p (d.data ++ leBytes 4 (crc 0 d.data)))).writeBack q
            ⟨i, 0, true, d.stampReq, false, p, d.lenA + 4, stamp, 0⟩)))) ∧
    (∀ y d c kind ok, d = readDesc y → (c = .rawReceiveDescriptor t q y ∧ kind = 3 ∧ ok = (decide (64 ≤ d.lenA) && decide (d.lenA ≤ 65536))) ∨
        (c = .touchReportDescriptor t q y ∧ kind = 6 ∧ ok = (decide (192 ≤ d.lenA) && decide (d.lenA ≤ 65536))) →
      (u.fetchDesc q kind = none → exec c s = .next u) ∧
      (∀ i w, u.fetchDesc q kind = some (i, w) →
        (plainDesc d = true ∧ d.stampReq = false ∧ ok = true →
          exec c s = .next (w.setRing q { w.ring q with bufs := g.bufs ++ [(i, d)] })) ∧
        (plainDesc d = false ∨ d.stampReq = true ∨ ok = false →
          exec c s = .next (w.writeBack q ⟨i, 1, true, false, false, 0, 0, 0, 0⟩)))) ∧
    (∀ y d i w, d = readDesc y → u.fetchDesc q 5 = some (i, w) → u.ringOf 5 0 = some q → g.bufs = [] → g.recs = [] → g.nextRec = u.log.next →
      plainDesc d = true → d.stampReq = false → 32 ≤ d.lenA → d.lenA ≤ 1024 → d.lenA % 32 = 0 →
      exec (.eventBufferDescriptor t q y) s = .next (w.setRing q { w.ring q with bufs := [(i, d)] })) ∧
    (g.running = false ∨ g.recs = [] ∨ u.clock < g.recAt + 500 * usTicks → exec (.eventBufferTimeout t q) s = .next u) ∧
    (∀ d x, g.running = true → g.kind = 5 → g.recs ≠ [] → g.recAt + 500 * usTicks ≤ u.clock → g.bufs = [(d, x)] → g.space = true →
      g.waits = [] → u.ringOf 5 0 = some q → u.power.phase = .running →
      ∃ s', exec (.eventBufferTimeout t q) s = .next s' ∧ (s'.ring q).bufs = [] ∧ (s'.ring q).recs = [] ∧
        .dma q d (g.recs.flatMap LogRec.bytes) ∈ s'.out ∧
        s' = { u with od := s'.od, log := s'.log, rings := s'.rings, pcie := s'.pcie, out := s'.out }) ∧
    (∀ y, u.fetchDesc q 4 = none → exec (.mailboxRequest t q y) s = .next u) ∧
    (∀ y d i w bad, d = readDesc y → u.fetchDesc q 4 = some (i, w) →
      bad = (d.stampReq || decide (d.rsvdA ≠ 0) || decide (d.rsvdB ≠ 0) || decide (d.lenA < 8) || decide (65536 < d.lenA) ||
        decide (d.lenB < 8) || decide (65536 < d.lenB)) →
      let answer := fun (v : State) (r : List Byte) =>
        (if r.length ≤ d.lenB then v.say (.dma q i r) else v).writeBack q
          ⟨i, if r.length ≤ d.lenB then 0 else 7, true, true, false, 0, r.length, time96 v.nowSec.1 v.nowSec.2, 0⟩
      (bad = true → exec (.mailboxRequest t q y) s = .next (w.writeBack q ⟨i, 1, true, false, false, 0, 0, 0, 0⟩)) ∧
      (∀ b, bad = false → b = d.data.take d.lenA →
        (bodyBad b = true → exec (.mailboxRequest t q y) s = .next (answer w (bodyOut b 13 0 []))) ∧
        (∀ st v, bodyBad b = false → byteAt b 0 = 1 → st = (w.readBy (.mailbox q) (fld b 2 2) (byteAt b 4)).2.1 →
          v = (w.readBy (.mailbox q) (fld b 2 2) (byteAt b 4)).2.2 →
          (st ≠ 0 → exec (.mailboxRequest t q y) s = .next (answer w (bodyOut b st 0 []))) ∧
          (st = 0 → v.length ≤ d.lenB - 24 → exec (.mailboxRequest t q y) s =
            .next (answer (w.readBy (.mailbox q) (fld b 2 2) (byteAt b 4)).1 (bodyOut b 0 v.length v))) ∧
          (st = 0 → d.lenB - 24 < v.length →
            exec (.mailboxRequest t q y) s = .next (answer w (bodyOut b 5 v.length [])))) ∧
        (bodyBad b = false → byteAt b 0 = 2 → exec (.mailboxRequest t q y) s =
          .next (w.writeAnd (.mailbox q) (fld b 2 2) (byteAt b 4) (b.drop 16) (fun v st => answer v (bodyOut b st 0 []))))))

/-- R516, R517, R519, R520: parts of values are read and written in order, a CAN port executes requests, NMT commands move it and
reset it, and a port is lost and starts by its enable object (READ_PART, WRITE_PART, PART_TRANSFER_TIMEOUT, USDO_REQUEST,
USDO_SEGMENT_TIMEOUT, NMT_START, NMT_STOP, NMT_ENTER_PRE_OPERATIONAL, NMT_RESET_NODE, NMT_RESET_COMMUNICATION, CAN_PORT_ENABLE,
CAN_PORT_DISABLE). -/
def Obligations.PartsAndCanPorts : Prop :=
  ∀ (s : State) (t : Nat),
    let u := s.tick t
    (∀ r idx sub off len,
      (∀ e, u.checkRead r idx sub = .error e → exec (.readPart t r idx sub off len) s = .next (u.say (.part r idx sub e off 0 []))) ∧
      (∀ o, u.checkRead r idx sub = .ok o →
        (partType o.ty = false → exec (.readPart t r idx sub off len) s = .next (u.say (.part r idx sub 11 off 0 []))) ∧
        (partType o.ty = true →
          (∀ w b, off = 0 → u.readBy r idx sub = (w, 0, b) → exec (.readPart t r idx sub off len) s =
            .next ({ w with partReads := if b.length ≤ len then w.partReads.cut (Req.code r)
                else w.partReads.put (Req.code r) ⟨idx, sub, b, w.clock⟩ }.say (.part r idx sub 0 0 b.length (b.take len)))) ∧
          (∀ p, off ≠ 0 → u.partReads.look (Req.code r) = some p →
            (p.idx = idx ∧ p.sub = sub ∧ u.clock < p.last + 10 * sTicks → exec (.readPart t r idx sub off len) s =
              .next ({ u with partReads := if p.data.length ≤ off + len ∧ off < p.data.length then u.partReads.cut (Req.code r)
                  else u.partReads.put (Req.code r) ⟨idx, sub, p.data, u.clock⟩ }.say
                (.part r idx sub 0 off p.data.length ((p.data.drop off).take len)))) ∧
            (p.idx ≠ idx ∨ p.sub ≠ sub ∨ p.last + 10 * sTicks ≤ u.clock →
              exec (.readPart t r idx sub off len) s = .next (u.say (.part r idx sub 12 off 0 [])))) ∧
          (off ≠ 0 → u.partReads.look (Req.code r) = none →
            exec (.readPart t r idx sub off len) s = .next (u.say (.part r idx sub 12 off 0 [])))))) ∧
    (∀ r idx sub off last data, let k := partKey r idx sub
      (u.partCheck r idx sub ≠ 0 →
        exec (.writePart t r idx sub off last data) s = .next (u.say (.part r idx sub (u.partCheck r idx sub) off 0 []))) ∧
      (u.partCheck r idx sub = 0 →
        (∀ b, (off = 0 ∧ b = []) ∨ (off ≠ 0 ∧ ∃ p, u.partWrites.look k = some p ∧ u.clock < p.last + 10 * sTicks ∧
            p.data = b ∧ b.length = off) →
          (last = false → exec (.writePart t r idx sub off last data) s =
            .next ({ u with partWrites := u.partWrites.put k ⟨idx, sub, b ++ data, u.clock⟩ }.say (.part r idx sub 0 off 0 []))) ∧
          (last = true → ∀ p, p = { u with partWrites := u.partWrites.cut k }.writeBy r idx sub (b ++ data) →
            exec (.writePart t r idx sub off last data) s = .next (p.1.say (.part r idx sub p.2 off 0 [])))) ∧
        (off ≠ 0 → (∀ p, u.partWrites.look k = some p → p.last + 10 * sTicks ≤ u.clock ∨ p.data.length ≠ off) →
          exec (.writePart t r idx sub off last data) s =
            .next ({ u with partWrites := u.partWrites.cut k }.say (.part r idx sub 12 off 0 []))))) ∧
    (∀ r, ∃ s', exec (.partTransferTimeout t r) s = .next s' ∧
      (∀ p ∈ s'.partReads, p.1 = Req.code r → u.clock < p.2.last + 10 * sTicks) ∧
      (∀ p ∈ s'.partWrites, p.1 / 2 ^ 24 = Req.code r → u.clock < p.2.last + 10 * sTicks) ∧
      (∀ p ∈ u.partReads, u.clock < p.2.last + 10 * sTicks → p ∈ s'.partReads) ∧
      (∀ p ∈ u.partWrites, u.clock < p.2.last + 10 * sTicks → p ∈ s'.partWrites) ∧
      s' = { u with partReads := s'.partReads, partWrites := s'.partWrites }) ∧
    (∀ c, c < 2 →
      let i := 0x2011 + c
      let g := u.canP c
      (∀ x, u.canTalks c = false → exec (.usdoRequest t c x) s = .next u) ∧
      (u.canTalks c = true → ∀ idx sub,
        (∀ p, p = (u.endTransfer c).readBy (.can c) idx sub →
          exec (.usdoRequest t c (.read idx sub)) s = .next (p.1.respond (.can c) idx sub p.2.1 p.2.2)) ∧
        (∀ data, exec (.usdoRequest t c (.write idx sub data)) s =
          .next ((u.endTransfer c).writeAnd (.can c) idx sub data (fun v st => v.respond (.can c) idx sub st [])))) ∧
      (∀ a b d w x, g.seg = some (a, b, d, w, x) → x + sTicks ≤ u.clock → ∃ s', exec (.usdoSegmentTimeout t c) s = .next s' ∧
        (s'.canP c) = { g with seg := none } ∧ s'.partReads = u.partReads.cut c ∧
        s'.partWrites = u.partWrites.filter (fun p => p.1 / 2 ^ 24 ≠ c) ∧ (∀ e, e ≠ c → s'.canP e = u.canP e) ∧
        s' = { u with cans := s'.cans, partReads := s'.partReads, partWrites := s'.partWrites }) ∧
      (g.seg = none → exec (.usdoSegmentTimeout t c) s = .next u) ∧
      (u.canOn c = false ∨ u.nmt c = nmtOperational → exec (.nmtStart t c) s = .next u) ∧
      (u.canOn c = true → u.nmt c ≠ nmtOperational → ∃ s', exec (.nmtStart t c) s = .next s' ∧ s'.nmt c = nmtOperational ∧
        u.odSame s' [key i 0x04] ∧ (∀ k, u.tpdoEvent k = false → s'.tpdo k = u.tpdo k) ∧
        ((∀ k, k < 8 → u.tpdoEvent k = false) → s'.out = u.out) ∧
        s' = { u with od := s'.od, tpdos := s'.tpdos, out := s'.out }) ∧
      (u.canOn c = false → exec (.nmtStop t c) s = .next u ∧ exec (.nmtEnterPreOperational t c) s = .next u ∧
        exec (.nmtResetNode t c) s = .next u ∧ exec (.nmtResetCommunication t c) s = .next u) ∧
      (u.canOn c = true →
        (∃ s', exec (.nmtStop t c) s = .next s' ∧ s'.nmt c = nmtStopped ∧ (s'.canP c) = { g with seg := none } ∧
          u.odSame s' [key i 0x04] ∧ s' = { u with od := s'.od, cans := s'.cans, partReads := s'.partReads,
                                                   partWrites := s'.partWrites }) ∧
        (∃ s', exec (.nmtEnterPreOperational t c) s = .next s' ∧ s'.nmt c = nmtPreOperational ∧ u.odSame s' [key i 0x04] ∧
          s' = { u with od := s'.od }) ∧
        (∀ x, x = .nmtResetNode t c ∨ x = .nmtResetCommunication t c → ∃ s', exec x s = .next s' ∧ s'.nmt c = nmtPreOperational ∧
          (∀ j, j < 9 → s'.rn 0x1003 j = 0) ∧ (s'.canP c).seg = none ∧ (s'.canP c).emcy = [] ∧
          (s'.canP c).node = u.rn 0x2010 0x01 ∧ (s'.canP c).nominal = u.rn i 0x02 ∧ (s'.canP c).data = u.rn i 0x03 ∧
          .busOff c ∉ s'.conds ∧ s'.out = (u.say (.can c (0x700 + u.rn 0x2010 0x01) [0])).out ∧
          (∀ x y, (x = 0x2010 ∧ y = 1) ∨ (x = i ∧ (y = 2 ∨ y = 3)) → s'.fval x y = u.val x y) ∧
          s' = { u with od := s'.od, force := s'.force, log := s'.log, conds := s'.conds, cans := s'.cans, tpdos := s'.tpdos,
                        partReads := s'.partReads, partWrites := s'.partWrites, out := s'.out })) ∧
      (∀ r, u.takes r = true →
        (u.canLostNow c = true → u.canServes c = true → ∃ s', exec (.canPortEnable t r c) s = .next s' ∧ s'.rn i 0x01 = 1 ∧
          s'.rn i 0x05 = 0 ∧ s'.nmt c = (if u.rn 0x2010 0x02 = 1 then nmtOperational else nmtPreOperational) ∧
          (s'.canP c).seg = none ∧ (s'.canP c).emcy = [] ∧
          s'.out = .resp r i 0x01 0 [] :: .can c (0x700 + u.rn 0x2010 0x01) [0] :: u.out ∧
          s' = { u with od := s'.od, force := s'.force, cans := s'.cans, tpdos := s'.tpdos, partWrites := s'.partWrites, out := s'.out }) ∧
        (u.canLostNow c = false → ∃ s', exec (.canPortEnable t r c) s = .next s' ∧ s'.rn i 0x01 = 1 ∧
          s'.out = .resp r i 0x01 0 [] :: u.out ∧ u.odSame s' [key i 0x01] ∧
          s' = { u with od := s'.od, partWrites := s'.partWrites, out := s'.out }) ∧
        (u.canLostNow c = false → ∃ s', exec (.canPortDisable t r c) s = .next s' ∧ s'.rn i 0x01 = 0 ∧ s'.rn i 0x05 = 3 ∧
          s'.nmt c = nmtInit ∧ (s'.canP c).emcy = [] ∧ (s'.canP c).seg = none ∧ .passive c ∉ s'.conds ∧ .busOff c ∉ s'.conds ∧
          s'.out.head? = some (.resp r i 0x01 0 []) ∧
          s' = { u with od := s'.od, log := s'.log, conds := s'.conds, cans := s'.cans, partReads := s'.partReads,
                        partWrites := s'.partWrites, flash := s'.flash, upd := s'.upd, out := s'.out })))

/-- R519, R521 to R523: TPDOs leave on SYNC, on their event timer and on change; heartbeats and EMCYs leave; a port's bus state
moves with its conditions and events (SYNC, TPDO_EVENT_TIMER, TPDO_CHANGE, CAN_HEARTBEAT_SEND, EMCY_SEND, CAN_ERROR_PASSIVE,
CAN_ERROR_ACTIVE, CAN_BUS_OFF, CAN_BUS_OFF_RECOVERED). -/
def Obligations.CanSendsAndFollowsTheBus : Prop :=
  ∀ (s : State) (t c : Nat), c < 2 →
    let u := s.tick t
    let i := 0x2011 + c
    let g := u.canP c
    let someOn := (u.canOn 0 = true ∧ u.nmt 0 = nmtOperational) ∨ (u.canOn 1 = true ∧ u.nmt 1 = nmtOperational)
    (u.canTalks c = false → exec (.sync t c) s = .next u) ∧
    (u.canTalks c = true → ∃ s', exec (.sync t c) s = .next s' ∧
      (∀ k, k < 8 →
        (240 < u.rn (0x1800 + k) 2 → s'.tpdo k = u.tpdo k) ∧
        (1 ≤ u.rn (0x1800 + k) 2 → u.rn (0x1800 + k) 2 ≤ 240 → (u.tpdo k).syncs + 1 < u.rn (0x1800 + k) 2 →
          s'.tpdo k = { u.tpdo k with syncs := (u.tpdo k).syncs + 1 }) ∧
        (1 ≤ u.rn (0x1800 + k) 2 → u.rn (0x1800 + k) 2 ≤ 240 → u.rn (0x1800 + k) 2 ≤ (u.tpdo k).syncs + 1 → u.tpdoOn k = true →
          someOn → s'.tpdo k = ⟨0, u.tpdoSample k, some u.clock, u.clock⟩)) ∧
      s' = { u with tpdos := s'.tpdos, out := s'.out }) ∧
    (∀ k x, k < 8 → (x = .tpdoEventTimer t k ∧ u.tpdoEvent k = true ∧ u.rn (0x1800 + k) 5 ≠ 0 ∧
          (u.tpdo k).timer + u.rn (0x1800 + k) 5 * msTicks ≤ u.clock) ∨
        (x = .tpdoChange t k ∧ u.tpdoEvent k = true ∧ u.tpdoSample k ≠ (u.tpdo k).sent ∧
          ∀ a, (u.tpdo k).lastSent = some a → a + u.rn (0x1800 + k) 3 * (100 * usTicks) ≤ u.clock) →
      (u.tpdoOn k = true → someOn → ∃ s', exec x s = .next s' ∧ s'.tpdo k = ⟨0, u.tpdoSample k, some u.clock, u.clock⟩ ∧
        (∀ j, j ≠ k → s'.tpdo j = u.tpdo j) ∧ s' = { u with tpdos := s'.tpdos, out := s'.out }) ∧
      (u.tpdoOn k = false ∨ ¬someOn → exec x s = .next u)) ∧
    (∀ k, u.tpdoEvent k = false → exec (.tpdoEventTimer t k) s = .next u ∧ exec (.tpdoChange t k) s = .next u) ∧
    (u.canOn c = true → u.rn 0x1017 0 ≠ 0 → (∀ a, g.beatAt = some a → a + u.rn 0x1017 0 * msTicks ≤ u.clock) →
      exec (.canHeartbeatSend t c) s =
        .next ((u.setCan c { g with beatAt := some u.clock }).say (.can c (0x700 + g.node) [BitVec.ofNat 8 (u.nmt c)]))) ∧
    (u.canOn c = false ∨ u.rn 0x1017 0 = 0 ∨ (∃ a, g.beatAt = some a ∧ u.clock < a + u.rn 0x1017 0 * msTicks) →
      exec (.canHeartbeatSend t c) s = .next u) ∧
    (∀ code seq rest, g.emcy = (code, seq) :: rest →
      (u.canTalks c = true → (∀ a, g.lastEmcy = some a → a + 10 * msTicks ≤ u.clock) → ∃ s', exec (.emcySend t c) s = .next s' ∧
        s'.canP c = { g with emcy := rest, lastEmcy := some u.clock } ∧ (∀ e, e ≠ c → s'.canP e = u.canP e) ∧
        s'.out = (u.say (.can c ((u.held 0x1014 0).int.toNat % 2048)
          (leBytes 2 code ++ leBytes 1 (u.rn 0x1001 0) ++ leBytes 4 seq ++ [0]))).out ∧
        s' = { u with cans := s'.cans, out := s'.out }) ∧
      (u.canTalks c = false ∨ (∃ a, g.lastEmcy = some a ∧ u.clock < a + 10 * msTicks) → exec (.emcySend t c) s = .next u)) ∧
    (g.emcy = [] → exec (.emcySend t c) s = .next u) ∧
    (∀ tec rc, (u.rn i 0x05 = 0 → ∃ s', exec (.canErrorPassive t c tec rc) s = .next s' ∧ s'.rn i 0x05 = 1 ∧ .passive c ∈ s'.conds ∧
        u.raised s' (canKey c) 0x0E03 2 [(8, c), (8, tec), (8, rc)] ∧ s' = { u with od := s'.od, log := s'.log, conds := s'.conds }) ∧
      (u.rn i 0x05 ≠ 0 → exec (.canErrorPassive t c tec rc) s = .next u)) ∧
    (u.rn i 0x05 = 1 → ∃ s', exec (.canErrorActive t c) s = .next s' ∧ s'.rn i 0x05 = 0 ∧ .passive c ∉ s'.conds ∧
      s' = { u with od := s'.od, log := s'.log, conds := s'.conds, cans := s'.cans }) ∧
    (u.rn i 0x05 ≠ 1 → exec (.canErrorActive t c) s = .next u) ∧
    (u.rn i 0x05 < 2 → ∃ s', exec (.canBusOff t c) s = .next s' ∧ s'.rn i 0x05 = 2 ∧ s'.nmt c = u.nmt c ∧ .passive c ∉ s'.conds ∧
      s' = { u with od := s'.od, log := s'.log, conds := s'.conds, cans := s'.cans }) ∧
    (2 ≤ u.rn i 0x05 → exec (.canBusOff t c) s = .next u) ∧
    (u.rn i 0x05 = 2 → ∃ s', exec (.canBusOffRecovered t c) s = .next s' ∧ s'.rn i 0x05 = 0 ∧ u.counted s' i 0x06 1 ∧
      .busOff c ∈ s'.conds ∧ u.raised s' (canKey c) 0x0E04 2 [(8, c), (32, s'.rn i 0x06)] ∧
      s' = { u with od := s'.od, log := s'.log, conds := s'.conds }) ∧
    (u.rn i 0x05 ≠ 2 → exec (.canBusOffRecovered t c) s = .next u)

/-- R524 to R528: ZDP sessions open with a CHALLENGE, execute each REQUEST once, and close on CLOSE, on idling, with their key and
with the service (ZDP_HELLO, ZDP_REQUEST, ZDP_CLOSE, ZDP_IDLE_TIMEOUT, ZDP_KEY_WRITE, ZDP_DISABLE). -/
def Obligations.ZdpSessionsFollowTheTable : Prop :=
  ∀ (s : State) (t : Nat) (f : ZdpFrame) (nonce : List Byte),
    let u := s.tick t
    let b := f.bytes
    let n := fld b 4 2
    let seq := fld b 8 4
    (∀ c ty, (c, ty) ∈ [(Instr.zdpHello t f nonce, zdpTHello), (.zdpRequest t f, zdpTRequest), (.zdpClose t f, zdpTClose)] →
      (u.zdpHears f = false → exec c s = .next u) ∧
      (u.zdpHears f = true → u.zdpKeys = false ∨ zdpFormOk b = false → ∃ s', exec c s = .next s' ∧ u.counted s' 0x2020 0x0C 1 ∧
        s' = { u with od := s'.od, log := s'.log }) ∧
      (u.zdpHears f = true → u.zdpKeys = true → zdpFormOk b = true → byteAt b 3 ≠ ty → exec c s = .next u)) ∧
    (u.zdpHears f = true → u.zdpKeys = true → zdpFormOk b = true → byteAt b 3 = zdpTHello →
      ∀ slot k, slot = byteAt (zdpBody b) 0 → k = u.rb 0x2020 (4 + slot) →
      (k = [] ∨ zdpTagOk k b = false → ∃ s', exec (.zdpHello t f nonce) s = .next s' ∧ u.counted s' 0x2020 0x0C 1 ∧
        s' = { u with od := s'.od, log := s'.log }) ∧
      (k ≠ [] → zdpTagOk k b = true →
        (∀ why, (u.sysBusy = true ∧ why = 2) ∨ (u.sysBusy = false ∧ 8 ≤ u.zdp.length ∧ why = 1) →
          exec (.zdpHello t f nonce) s =
            .next (u.zdpAnswer f (zdpBytes zdpTReject 0 seq (beBytes 1 why ++ [0, 0, 0])))) ∧
        (∀ m client, u.sysBusy = false → u.zdp.length < 8 → m = u.zdpFree → client = (zdpBody b).drop 4 →
          exec (.zdpHello t f nonce) s = .next ({ u with zdp := u.zdp.put m (ZdpS.mk slot
              (hmac k ([0x5A, 0x44, 0x50, 0x31] ++ client ++ nonce ++ beBytes 2 m)) f.v6 f.srcAddr f.srcPort f.port seq []
                u.clock) }.zdpAnswer f (zdpTagged k zdpTChallenge m seq (client ++ nonce ++ beBytes 2 (u.rn 0x2020 0x0A))))))) ∧
    (u.zdpHears f = true → u.zdpKeys = true → zdpFormOk b = true → byteAt b 3 = zdpTRequest →
      (u.zdp.look n = none → ∃ s', exec (.zdpRequest t f) s = .next s' ∧ u.counted s' 0x2020 0x0C 1 ∧
        s' = { u with od := s'.od, log := s'.log }) ∧
      (∀ z, u.zdp.look n = some z →
        (zdpTagOk z.key b = false → ∃ s', exec (.zdpRequest t f) s = .next s' ∧ u.counted s' 0x2020 0x0C 1 ∧
          s' = { u with od := s'.od, log := s'.log }) ∧
        (zdpTagOk z.key b = true →
          (serialEq 32 seq z.seq = true → z.held ≠ [] → exec (.zdpRequest t f) s =
            .next ({ u with zdp := u.zdp.put n { z with last := u.clock } }.zdpAnswer f z.held)) ∧
          (serialEq 32 seq z.seq = false → serialAfter 32 seq z.seq = false → ∃ s', exec (.zdpRequest t f) s = .next s' ∧
            u.counted s' 0x2020 0x0D 1 ∧ s' = { u with od := s'.od, log := s'.log }) ∧
          (serialAfter 32 seq z.seq = true → let w : State := { u with zdp := u.zdp.put n { z with seq := seq, last := u.clock } }
            exec (.zdpRequest t f) s = .next (w.runBody (.zdp n) (u.zdpRoom f) (zdpBody b) (fun v body =>
              (match v.zdp.look n with
               | some g => { v with zdp := v.zdp.put n { g with held := zdpTagged z.key zdpTResponse n seq body } }
               | none => v).zdpAnswer f (zdpTagged z.key zdpTResponse n seq body))))))) ∧
    (u.zdpHears f = true → u.zdpKeys = true → zdpFormOk b = true → byteAt b 3 = zdpTClose → ∀ z, u.zdp.look n = some z →
      (zdpTagOk z.key b = false → ∃ s', exec (.zdpClose t f) s = .next s' ∧ u.counted s' 0x2020 0x0C 1 ∧
        s' = { u with od := s'.od, log := s'.log }) ∧
      (zdpTagOk z.key b = true → u.upd.owner ≠ some (.zdp n) → ∃ s', exec (.zdpClose t f) s = .next s' ∧
        s'.zdp = u.zdp.cut n ∧ s'.partReads = u.partReads.cut (Req.code (.zdp n)) ∧
        s'.partWrites = u.partWrites.filter (fun p => p.1 / 2 ^ 24 ≠ Req.code (.zdp n)) ∧
        s' = { u with zdp := s'.zdp, partReads := s'.partReads, partWrites := s'.partWrites })) ∧
    (∀ m z, u.zdp.look m = some z →
      (z.last + u.rn 0x2020 0x0A * sTicks ≤ u.clock → u.upd.owner ≠ some (.zdp m) → ∃ s', exec (.zdpIdleTimeout t m) s = .next s' ∧
        s'.zdp = u.zdp.cut m ∧ s' = { u with zdp := s'.zdp, partReads := s'.partReads, partWrites := s'.partWrites }) ∧
      (u.clock < z.last + u.rn 0x2020 0x0A * sTicks → exec (.zdpIdleTimeout t m) s = .next u)) ∧
    (∀ m, u.zdp.look m = none → exec (.zdpIdleTimeout t m) s = .next u) ∧
    (∀ r, u.takes r = true →
      (∀ slot k, slot < 4 → k.length = 32 → ∃ s', exec (.zdpKeyWrite t r slot k) s = .next s' ∧
        s'.rb 0x2020 (4 + slot) = (if k.all (· = 0) then [] else k) ∧ (∀ p ∈ s'.zdp, p ∈ u.zdp ∧ p.2.slot ≠ slot) ∧
        s'.out.head? = some (.resp r 0x2020 (4 + slot) 0 []) ∧
        ((∀ m, u.upd.owner ≠ some (.zdp m)) → u.odSame s' [key 0x2020 (4 + slot)] ∧
          s' = { u with od := s'.od, zdp := s'.zdp, partReads := s'.partReads, partWrites := s'.partWrites, out := s'.out })) ∧
      (∃ s', exec (.zdpDisable t r) s = .next s' ∧ s'.rn 0x2020 0x01 = 0 ∧ s'.zdp = [] ∧
        s'.out.head? = some (.resp r 0x2020 0x01 0 []) ∧
        ((∀ m, u.upd.owner ≠ some (.zdp m)) → u.odSame s' [key 0x2020 0x01] ∧
          s' = { u with od := s'.od, zdp := s'.zdp, partReads := s'.partReads, partWrites := s'.partWrites, out := s'.out })))

/-- R529 to R534, R603: the groups of values are stored and restored, exported and imported; the error field is cleared; the dictionary
is loaded once at boot (STORE_ALL, STORE_COMMUNICATION, STORE_APPLICATION, RESTORE_DEFAULTS_ALL, RESTORE_DEFAULTS_COMMUNICATION,
RESTORE_DEFAULTS_APPLICATION, CONFIG_EXPORT, CONFIG_IMPORT, ERROR_HISTORY_CLEAR, DICTIONARY_LOADED). -/
def Obligations.StoresLoadAndKeep : Prop :=
  ∀ (s : State) (t : Nat) (r : Req),
    let u := s.tick t
    (u.takes r = true →
      (∀ c idx sub ok img, (c, idx, sub, ok, img) ∈ [
          (Instr.storeAll t r true, 0x1010, 1, true, replaceGroup 1 u.image u.storeImage),
          (.storeCommunication t r true, 0x1010, 2, true, replaceGroup 2 u.image u.storeImage),
          (.storeApplication t r true, 0x1010, 3, true, replaceGroup 3 u.image u.storeImage),
          (.storeAll t r false, 0x1010, 1, false, []), (.storeCommunication t r false, 0x1010, 2, false, []),
          (.storeApplication t r false, 0x1010, 3, false, []),
          (.restoreDefaultsAll t r, 0x1011, 1, true, replaceGroup 1 u.image []),
          (.restoreDefaultsCommunication t r, 0x1011, 2, true, replaceGroup 2 u.image []),
          (.restoreDefaultsApplication t r, 0x1011, 3, true, replaceGroup 3 u.image [])] →
        (u.flash.boot.oldHeld = true → exec c s = .next { u with out := .resp r idx sub 7 [] :: u.out }) ∧
        (u.flash.boot.oldHeld = false → ok = false ∨ u.power.fail = true →
          exec c s = .next { u with out := .resp r idx sub 10 [] :: u.out }) ∧
        (u.flash.boot.oldHeld = false → ok = true → u.power.fail = false → u.flash.boot.store ≤ 1 →
          ∃ s', exec c s = .next s' ∧ s'.image = img ∧ s'.flash.boot.store = 1 - u.flash.boot.store ∧
            s'.flash.boot = { u.flash.boot with store := 1 - u.flash.boot.store, seq := wrapInc 32 u.flash.boot.seq } ∧
            s'.flash = { u.flash with stores := s'.flash.stores, boot := s'.flash.boot } ∧
            s'.out = .resp r idx sub 0 [] :: u.out ∧
            s' = { u with flash := s'.flash, partWrites := s'.partWrites, out := s'.out })) ∧
      (∀ data i, importBytes data = .inl i → data.length ≤ 4194304 → ∃ s', exec (.configImport t r data) s = .next s' ∧
        s'.rn 0x2001 0x03 = i ∧ s'.out = .resp r 0x2001 0x02 6 [] :: u.out ∧ u.odSame s' [key 0x2001 0x03] ∧
        s' = { u with od := s'.od, out := s'.out }) ∧
      (∀ data img, importBytes data = .inr img → data.length ≤ 4194304 → u.flash.boot.oldHeld = false → u.power.fail = false →
        u.flash.boot.store ≤ 1 → ∃ s', exec (.configImport t r data) s = .next s' ∧
          s'.image = (u.image.filter (fun p => keySlot (p.1 / 256) (p.1 % 256))).foldl (fun a p => a.put p.1 p.2) img ∧
          s'.out = .resp r 0x2001 0x02 0 [] :: u.out ∧
          s' = { u with flash := s'.flash, partWrites := s'.partWrites, out := s'.out }) ∧
      (∃ s', exec (.errorHistoryClear t r) s = .next s' ∧ (∀ j, j < 9 → s'.rn 0x1003 j = 0) ∧
        u.odSame s' ((List.range 9).map (key 0x1003)) ∧ s'.out = .resp r 0x1003 0 0 [] :: u.out ∧
        s' = { u with od := s'.od, partWrites := s'.partWrites, out := s'.out })) ∧
    (u.answers r = true →
      exec (.configExport t r) s =
        .next { u with out := .resp r 0x2001 0x01 0 (encodeVal .domain (u.reading 0x2001 1)) :: u.out }) ∧
    (∀ readable,
      (u.power.phase = .booting → u.loaded = false → u.upd.rom = false → ∃ s', exec (.dictionaryLoaded t readable) s = .next s' ∧
        s'.loaded = true ∧ s'.power.phase = .running) ∧
      (u.power.phase ≠ .booting ∨ u.loaded = true ∨ u.upd.rom = true → exec (.dictionaryLoaded t readable) s = .next u))

/-- R523, R537 to R540, R544, R546 to R557: the arbiter logs the oldest event of a source; check units take items and
configuration; the tally port's shadow, snapshots and map (EVENT_ARBITRATE, RECORD_SELECT, CHECK_ITEM, CHECK_UNIT_CONFIGURE,
CHECK_RUNNING_VALUE_WRITE, TALLY_SUMMARY_READ, FAST_READ_SNAPSHOT, TALLY_CHECK_WORD_UPDATE, FAST_READ_REFRESH,
FAST_READ_MAP_WRITE). -/
def Obligations.EventsChecksAndTally : Prop :=
  ∀ (s : State) (t : Nat),
    let u := s.tick t
    (u.ringOf 5 0 = none → ∀ k,
      (u.log.queues.at' k [] = [] → exec (.eventArbitrate t k) s = .next u) ∧
      (∀ e q, u.log.queues.at' k [] = e :: q → ∃ s', exec (.eventArbitrate t k) s = .next s' ∧
        (u.log.lost.at' k 0 = 0 → s'.log.records = (⟨u.log.next, e⟩ :: u.log.records).take 16384 ∧
          s'.log.next = (u.log.next + 1) % 2 ^ 48) ∧
        (∀ d : Ev, u.log.lost.at' k 0 ≠ 0 → d = ⟨0x0002, 2, u.addrOf k, (u.clockOf (keyDie k)).1, (u.clockOf (keyDie k)).2,
            [(32, u.addrOf k), (16, u.log.lost.at' k 0)], 0⟩ →
          s'.log.records = (⟨(u.log.next + 1) % 2 ^ 48, e⟩ :: ⟨u.log.next, d⟩ :: u.log.records).take 16384 ∧
          s'.log.next = ((u.log.next + 1) % 2 ^ 48 + 1) % 2 ^ 48) ∧
        (e.emcy = 0 → s'.log.queues.at' k [] = q ∧ s'.log.lost.at' k 0 = 0 ∧
          (∀ j, j ≠ k → s'.log.queues.at' j [] = u.log.queues.at' j []) ∧ s' = { u with log := s'.log }) ∧
        (e.emcy ≠ 0 → s'.rn 0x1003 1 = e.emcy ∧ s'.rn 0x1003 0 = min 8 (u.rn 0x1003 0 + 1) ∧
          ∀ j, 1 ≤ j → j ≤ 7 → j ≤ u.rn 0x1003 0 → s'.rn 0x1003 (j + 1) = u.rn 0x1003 j) ∧
        s' = { u with od := s'.od, log := s'.log, cans := s'.cans })) ∧
    (∀ r, u.takes r = true →
      (∀ pos, pos < 2 ^ 64 →
        (serialAfter 48 (pos % 2 ^ 48) u.log.newest = true →
          exec (.recordSelect t r pos) s = .next { u with out := .resp r 0x2200 0x03 9 [] :: u.out }) ∧
        (serialAfter 48 (pos % 2 ^ 48) u.log.newest = false → ∃ s', exec (.recordSelect t r pos) s = .next s' ∧
          s'.rn 0x2200 0x03 = pos ∧ s'.out = .resp r 0x2200 0x03 0 [] :: u.out ∧ u.odSame s' [key 0x2200 0x03] ∧
          s' = { u with od := s'.od, partWrites := s'.partWrites, out := s'.out })) ∧
      (∀ k g, k = u.checkSel → g = u.check k →
        (∀ v c sub, (v ≤ 3 ∧ c = .checkUnitConfigure t r 3 v ∧ sub = 3) ∨
            (v < 2 ^ 64 ∧ c = .checkRunningValueWrite t r v ∧ sub = 8) → lvsReserved k = true →
          exec c s = .next { u with out := .resp r 0x2300 sub 7 [] :: u.out }) ∧
        (lvsReserved k = false →
          (∀ sub v x, (sub = 3 ∧ v ≤ 3 ∧ ¬(v = 3 ∧ g.point = 4) ∧ x = { g with mode := v }.restart) ∨
              (sub = 4 ∧ v ≤ 3 ∧ x = { g with alg := v }.restart) ∨
              (sub = 5 ∧ v ≤ 4 ∧ reaches k v g.param = true ∧ ¬(v = 4 ∧ g.mode = 3) ∧ x = { g with point := v }.restart) ∨
              (sub = 6 ∧ v < 2 ^ 32 ∧ reaches k g.point v = true ∧ x = { g with param := v }.restart) ∨
              (sub = 7 ∧ v < 2 ^ 64 ∧ x = { g with window := v }.restart) ∨
              (sub = 0x0A ∧ v < 2 ^ 64 ∧ x = { g with expected := v }) ∨ (sub = 0x0F ∧ v ≤ 255 ∧ x = { g with limit := v }) →
            ∃ s', exec (.checkUnitConfigure t r sub v) s = .next s' ∧ s'.check k = x ∧ (∀ j, j ≠ k → s'.check j = u.check j) ∧
              s'.out = .resp r 0x2300 sub 0 [] :: u.out ∧
              s' = { u with checks := s'.checks, partWrites := s'.partWrites, out := s'.out }) ∧
          (∀ sub v, (sub = 3 ∧ v = 3 ∧ g.point = 4) ∨ (sub = 5 ∧ v ≤ 4 ∧ (reaches k v g.param = false ∨ (v = 4 ∧ g.mode = 3))) ∨
              (sub = 6 ∧ v < 2 ^ 32 ∧ reaches k g.point v = false) →
            exec (.checkUnitConfigure t r sub v) s = .next { u with out := .resp r 0x2300 sub 6 [] :: u.out }) ∧
          (∀ v, v < 2 ^ 64 → ∃ s', exec (.checkRunningValueWrite t r v) s = .next s' ∧ s'.check k = { g with run := v } ∧
            (∀ j, j ≠ k → s'.check j = u.check j) ∧ s'.out = .resp r 0x2300 8 0 [] :: u.out ∧
            s' = { u with checks := s'.checks, partWrites := s'.partWrites, out := s'.out }))) ∧
      (∀ data, data.length ≤ 1024 → data.length % 4 = 0 →
        ((mapEntries data).all (fun e => e = 0 || (e < 2 ^ 24 && mapOk (e % 65536) (e / 65536))) = false →
          exec (.fastReadMapWrite t r data) s = .next { u with out := .resp r 0x5100 0x02 6 [] :: u.out }) ∧
        ((mapEntries data).all (fun e => e = 0 || (e < 2 ^ 24 && mapOk (e % 65536) (e / 65536))) = true →
          ∃ s', exec (.fastReadMapWrite t r data) s = .next s' ∧ s'.rb 0x5100 0x02 = data ∧
            s'.rn 0x5100 0x01 = wrapInc 8 (u.rn 0x5100 0x01) ∧ s'.tally = { u.tally with words := [], counts := [] } ∧
            s'.out = .resp r 0x5100 0x02 0 [] :: u.out ∧ u.odSame s' [key 0x5100 0x01, key 0x5100 0x02] ∧
            s' = { u with od := s'.od, tally := s'.tally, partWrites := s'.partWrites, out := s'.out }))) ∧
    (∀ k i, let g := u.check k
      (48 ≤ k ∨ lvsReserved k = true ∨ u.serves (checkKey k) = false ∨ g.mode = 0 ∨ u.snoop g i = none →
        exec (.checkItem t k i) s = .next u) ∧
      (k < 48 → lvsReserved k = false → u.serves (checkKey k) = true → g.mode ≠ 0 → g.items < 0xFFFFFFFF →
        ∀ x, u.snoop g i = some x →
        ∃ s', exec (.checkItem t k i) s = .next s' ∧ (s'.check k).items = g.items + 1 ∧ (∀ j, j ≠ k → s'.check j = u.check j) ∧
          (∀ a, a = crcAlg g.alg →
            (g.mode = 2 → s'.check k = { g with items := g.items + 1, run := crcRun a g.run x.bytes }) ∧
            (g.mode = 1 → ∀ run, run = crcRun a a.init x.bytes →
              (g.expected = 0xFFFFFFFFFFFFFFFF ∨ crcResult a run = g.expected →
                s'.check k = { g with items := g.items + 1, run := run, last := crcResult a run }) ∧
              (g.expected ≠ 0xFFFFFFFFFFFFFFFF → crcResult a run ≠ g.expected → g.mism < 0xFFFFFFFF →
                (s'.check k).last = crcResult a run ∧ (s'.check k).mism = g.mism + 1 ∧
                (u.due g.alertAt sTicks = true → (s'.check k).alertAt = some u.clock ∧
                  u.raised s' (checkKey k) 0x0004 2 [(8, k), (8, 0), (32, crcResult a run % 2 ^ 32)]) ∧
                (u.due g.alertAt sTicks = false → (s'.check k).alertAt = g.alertAt) ∧
                (∀ f, x.unit = some f → isLvs f = false → (u.unit f).st = 0 → (u.unit f).window = none →
                  u.gone f = false → (s'.unit f).st = 1)))) ∧
          (g.mode = 3 → ∀ v, x.alive = some v → ∀ y, y = v % 2 ^ aliveBits g.point →
            (bit g.run 63 = false ∨ serialAfter (aliveBits g.point) y g.run = true →
              s'.check k = { g with items := g.items + 1, run := 2 ^ 63 + y, repRun := 0 }) ∧
            (bit g.run 63 = true → serialAfter (aliveBits g.point) y g.run = false →
              serialEq (aliveBits g.point) y g.run = true → g.repeats < 0xFFFFFFFF →
              (s'.check k).repeats = g.repeats + 1 ∧ (s'.check k).run = g.run ∧
              (g.repRun = g.limit → u.due g.alertAt sTicks = true →
                u.raised s' (checkKey k) 0x0004 2 [(8, k), (8, 1), (32, y)])) ∧
            (bit g.run 63 = true → serialAfter (aliveBits g.point) y g.run = false →
              serialEq (aliveBits g.point) y g.run = false → g.replays < 0xFFFFFFFF →
              (s'.check k).replays = g.replays + 1 ∧ (s'.check k).run = g.run ∧
              (u.due g.alertAt sTicks = true → u.raised s' (checkKey k) 0x0004 2 [(8, k), (8, 2), (32, y)]))) ∧
          (x.unit = none → s' = { u with od := s'.od, log := s'.log, checks := s'.checks })) ∧
      (g.point = 0 → u.snoop g i = none) ∧
      (∀ c p, i = .picture c → g.point = 1 → u.isVideo g.param = true → (u.ses g.param).disp = some p →
        ∃ f, u.snoop g i = some ⟨p.luma, some p.alive, f⟩) ∧
      (∀ idx sub data, i = .write idx sub data → g.point = 4 →
        (g.param % 65536 ≤ idx ∧ idx ≤ g.param / 65536 → u.snoop g i =
          some ⟨beBytes 2 idx ++ beBytes 1 sub ++ beBytes 4 data.length ++ data, none, none⟩) ∧
        (idx < g.param % 65536 ∨ g.param / 65536 < idx → u.snoop g i = none)) ∧
      (∀ w, i = .frame w → g.point = 3 → (u.spFrame (g.param / 256) w).crcOk = false ∨
        (u.spFrame (g.param / 256) w).ftype ≠ g.param % 256 → u.snoop g i = none)) ∧
    (exec (.tallySummaryRead t) s = .next { u with
      tally := { u.tally with change := false }, out := .tally 0x1C0 (u.tallyWord 0x1C0) :: u.out }) ∧
    (∀ k,
      (256 ≤ k ∨ u.tallyOn = false →
        exec (.fastReadSnapshot t k) s = .next { u with out := .tally (0x800 + 8 * k) 0 :: u.out }) ∧
      (k < 256 → u.tallyOn = true → exec (.fastReadSnapshot t k) s = .next { u with
        tally := { u.tally with snaps := u.tally.snaps.put k ((List.range 6).map (u.fastWord k)) }
        out := .tally (0x800 + 8 * k) (u.fastWord k 0) :: u.out })) ∧
    (u.power.quietWait = false → (∀ a, u.tally.checkAt = some a → a + msTicks ≤ u.clock) → ∃ s', exec (.tallyCheckWordUpdate t) s = .next s' ∧
      (∀ on, on = (decide (u.power.phase = .running) && !u.lvsStopped u.primary.idx) →
        s'.tally = { u.tally with checkAt := some u.clock, pattern := !u.tally.pattern, filled := u.tally.filled || on
                                  heart := if on then wrapInc 15 u.tally.heart else u.tally.heart }) ∧
      s' = { u with tally := s'.tally }) ∧
    (∀ a, u.tally.checkAt = some a → u.clock < a + msTicks → u.power.quietWait = false → exec (.tallyCheckWordUpdate t) s = .next u) ∧
    (u.dictReady = false → exec (.fastReadRefresh t) s = .next u) ∧
    (u.dictReady = true → ∃ s', exec (.fastReadRefresh t) s = .next s' ∧
      (∀ k e o, (mapEntries (u.rb 0x5100 0x02))[k]? = some e → e ≠ 0 → findObj (e % 65536) (e / 65536) = some o →
        s'.tally.counts.at' k 0 = wrapInc 8 (u.tally.counts.at' k 0) ∧
        s'.tally.words.at' k [] = fastWords (encodeVal o.ty (u.reading (e % 65536) (e / 65536))) (wrapInc 8 (u.tally.counts.at' k 0))) ∧
      s' = { u with tally := { u.tally with words := s'.tally.words, counts := s'.tally.counts } })

/-- R576 to R580: the supervisor takes a change set or names what is wrong with it; a target collects its parts and reports; a failure,
a time-out and an abort end it (CHANGE_SET_WRITE, STAGE, STAGED, CHANGE_SET_STAGE_TIMEOUT, SYSTEM_ABORT_CHANGE). -/
def Obligations.ChangeSetsAreStaged : Prop :=
  ∀ (s : State) (t q : Nat) (x : SpWire) (r : Req) (data : List Byte),
    let u := s.tick t
    let f := s.spFrame q x
    let v := (u.receive q f).1
    let b := f.payload
    let id := fld b 2 2
    let off := fld b 8 4
    (u.takes r = true → data.length ≤ 1048576 →
      (∀ es ts, parseChange data = some es → ts = u.changeTargets es → u.supervisor = true → u.sys.change = none →
        (idsOf ts).all u.isPresent = true → u.sys.quorum = true → bit ts u.pkgId = false →
        ∃ s', exec (.changeSetWrite t r data) s = .next s' ∧
          s'.sys = { u.sys with nextId := wrapInc 16 u.sys.nextId
                                change := some ⟨u.sys.nextId, changeTag data, data, ts, 0, u.clock, 0, [], 0, 0, false⟩ } ∧
          (∀ k, idsOf ts = [k] → u.isSelf k = false → data.length ≤ 8180 →
            s'.spay = (u.control k 2 (beBytes 2 u.sys.nextId ++ beBytes 1 1 ++ [0, 0, 0] ++ beBytes 4 0 ++ data)).spay) ∧
          s'.out = .resp r 0x6800 0x0D 0 [] :: u.out ∧
          s' = { u with spay := s'.spay, sys := s'.sys, partWrites := s'.partWrites, out := s'.out }) ∧
      (∀ result st pkg,
        (u.supervisor = false ∧ result = 2 ∧ st = 7 ∧ pkg = 0xFF) ∨
        (u.supervisor = true ∧ u.sys.change ≠ none ∧ result = 1 ∧ st = 0 ∧ pkg = 0xFF) ∨
        (u.supervisor = true ∧ u.sys.change = none ∧ parseChange data = none ∧ result = 3 ∧ st = 0 ∧ pkg = 0xFF) ∨
        (u.supervisor = true ∧ u.sys.change = none ∧ st = 0 ∧ ∃ es, parseChange data = some es ∧
          ((result = 4 ∧ (idsOf (u.changeTargets es)).find? (fun p => !u.isPresent p) = some pkg) ∨
           (result = 9 ∧ pkg = 0xFF ∧ (idsOf (u.changeTargets es)).all u.isPresent = true ∧ u.sys.quorum = false))) →
        ∃ s', exec (.changeSetWrite t r data) s = .next s' ∧ s'.sys = { u.sys with nextId := wrapInc 16 u.sys.nextId } ∧
          s'.rn 0x6800 0x0C = result ∧
          u.raised s' u.sysKey 0x1108 (if 3 ≤ result then 2 else 0) [(16, u.sys.nextId), (16, changeTag data), (8, result), (8, pkg)] ∧
          s'.out = .resp r 0x6800 0x0D st [] :: u.out ∧ u.odSame s' [key 0x6800 0x0C, key 0x2200 5] ∧
          s' = { u with od := s'.od, log := s'.log, sys := s'.sys, partWrites := s'.partWrites, out := s'.out })) ∧
    (spIsOp f 2 = true → (u.receive q f).2 = true →
      (f.src ≠ v.rn 0x6800 0x0B ∨ (∃ g, v.sys.target = some g ∧ g.time ≠ none) → exec (.stage t q x) s = .next v) ∧
      (∀ had, had = (match v.sys.target with
          | some g => if off = 0 ∨ g.id ≠ id ∨ g.from' ≠ f.src then [] else g.data
          | none => []) →
        f.src = v.rn 0x6800 0x0B → (∀ g, v.sys.target = some g → g.time = none) →
        (off ≠ had.length → exec (.stage t q x) s = .next v) ∧
        (off = had.length → bit (byteAt b 4) 0 = false → ∃ s' g, exec (.stage t q x) s = .next s' ∧
          s'.sys.target = some g ∧ s'.sys = { v.sys with target := s'.sys.target } ∧ g.from' = f.src ∧ g.id = id ∧ g.data = had ++ b.drop 12 ∧ g.time = none ∧
          s' = { v with sys := s'.sys }) ∧
        (off = had.length → bit (byteAt b 4) 0 = true → v.isSelf f.src = false → parseChange (had ++ b.drop 12) = none →
          exec (.stage t q x) s = .next ({ v with sys := { v.sys with target := none } }.control f.src 3
            (beBytes 2 id ++ beBytes 1 5 ++ beBytes 1 13 ++ beBytes 2 0 ++ beBytes 8 v.actualRoot ++ rolePart v.roleRoots))))) ∧
    (spIsOp f 3 = true → (u.receive q f).2 = true →
      (v.sys.change = none → exec (.staged t q x) s = .next v) ∧
      (∀ c, v.sys.change = some c →
        (c.id ≠ id ∨ c.phase ≠ 0 ∨ bit c.targets f.src = false → exec (.staged t q x) s = .next v) ∧
        (c.id = id → c.phase = 0 → bit c.targets f.src = true →
          (byteAt b 4 ≠ 0 → ∃ s', exec (.staged t q x) s = .next s' ∧ s'.sys.change = none ∧ s'.rn 0x6800 0x0C = 5 ∧
            s'.sys.failed = f.src + 256 * fld b 6 2 + 2 ^ 24 * byteAt b 5 ∧
            v.raised s' v.sysKey 0x1108 2 [(16, c.id), (16, c.tag), (8, 5), (8, f.src)] ∧
            s' = { v with od := s'.od, log := s'.log, spay := s'.spay, sys := s'.sys }) ∧
          (∀ n, n = c.staged.put f.src (fld b 8 8, parseRoles 16 (b.drop 16)) → byteAt b 4 = 0 →
            ((idsOf c.targets).all (fun p => (n.look p).isSome) = false →
              exec (.staged t q x) s = .next { v with sys := { v.sys with change := some { c with staged := n } } }) ∧
            ((idsOf c.targets).all (fun p => (n.look p).isSome) = true → ∃ s', exec (.staged t q x) s = .next s' ∧
              s'.sys.change = some { c with
                staged := n, phase := 1, start := v.clock, time := v.nowNs + v.rn 0x6800 0x07 * 1000000
                armed := if bit c.targets v.pkgId then 2 ^ v.pkgId else 0 } ∧
              s' = { v with spay := s'.spay, sys := s'.sys }))))) ∧
    (∀ c, u.sys.change = some c →
      (c.phase ≠ 0 ∨ u.clock < c.start + 500 * msTicks → exec (.changeSetStageTimeout t) s = .next u) ∧
      (c.phase = 0 → c.start + 500 * msTicks ≤ u.clock → ∃ s', exec (.changeSetStageTimeout t) s = .next s' ∧
        s'.sys.change = none ∧ s'.rn 0x6800 0x0C = 6 ∧
        u.raised s' u.sysKey 0x1108 2 [(16, c.id), (16, c.tag), (8, 6), (8, c.missing (fun p => (c.staged.look p).isSome))] ∧
        s' = { u with od := s'.od, log := s'.log, spay := s'.spay, sys := s'.sys }) ∧
      (u.takes r = true → u.supervisor = true → c.phase ≤ 1 → ∃ s', exec (.systemAbortChange t r) s = .next s' ∧
        s'.sys.change = none ∧ s'.rn 0x6800 0x0C = 8 ∧ u.raised s' u.sysKey 0x1108 2 [(16, c.id), (16, c.tag), (8, 8), (8, 0xFF)] ∧
        s'.out = .resp r 0x6800 0x10 0 [] :: u.out ∧ u.odSame s' [key 0x6800 0x0C, key 0x2200 5] ∧
        s' = { u with od := s'.od, log := s'.log, spay := s'.spay, sys := s'.sys, partWrites := s'.partWrites, out := s'.out }) ∧
      (u.takes r = true → u.supervisor = false ∨ 1 < c.phase →
        exec (.systemAbortChange t r) s = .next { u with out := .resp r 0x6800 0x10 7 [] :: u.out })) ∧
    (u.sys.change = none → exec (.changeSetStageTimeout t) s = .next u ∧
      (u.takes r = true → exec (.systemAbortChange t r) s = .next { u with out := .resp r 0x6800 0x10 7 [] :: u.out }))

/-- R577 to R580, R582: targets are armed, execute at the apply time and report; an unconfirmed change set is aborted; the last report
gives the result, and the staged tree is the recorded one (ARM, ARMED, CHANGE_SET_ARM_TIMEOUT, CHANGE_SET_APPLY, CHANGE_SET_SETTLED,
APPLIED, ABORT). -/
def Obligations.ChangeSetsAreArmedAndApplied : Prop :=
  ∀ (s : State) (t q : Nat) (x : SpWire),
    let u := s.tick t
    let f := s.spFrame q x
    let v := (u.receive q f).1
    let b := f.payload
    let id := fld b 2 2
    (spIsOp f 4 = true → (u.receive q f).2 = true →
      (v.sys.target = none → exec (.arm t q x) s = .next v) ∧
      (∀ g, v.sys.target = some g →
        (g.from' = f.src → g.id = id → g.staged = true → g.time = none → exec (.arm t q x) s =
          .next ({ v with sys := { v.sys with target := some { g with time := some (fld b 4 8 * 1000000000 + fld b 12 4) } } }.control
            f.src 5 (beBytes 2 id))) ∧
        (g.from' ≠ f.src ∨ g.id ≠ id ∨ g.staged = false ∨ g.time ≠ none → exec (.arm t q x) s = .next v))) ∧
    (spIsOp f 5 = true → (u.receive q f).2 = true →
      (v.sys.change = none → exec (.armed t q x) s = .next v) ∧
      (∀ c, v.sys.change = some c →
        (c.id = id → c.phase = 1 → bit c.targets f.src = true → exec (.armed t q x) s =
          .next { v with sys := { v.sys with change := some { c with armed := setBit c.armed f.src true } } }) ∧
        (c.id ≠ id ∨ c.phase ≠ 1 ∨ bit c.targets f.src = false → exec (.armed t q x) s = .next v))) ∧
    (spIsOp f 6 = true → (u.receive q f).2 = true →
      (v.sys.target = none → exec (.abort t q x) s = .next v) ∧
      (∀ g, v.sys.target = some g →
        (g.from' = f.src → g.id = id → g.done = none →
          exec (.abort t q x) s = .next { v with sys := { v.sys with target := none } }) ∧
        (g.from' ≠ f.src ∨ g.id ≠ id ∨ g.done ≠ none → exec (.abort t q x) s = .next v))) ∧
    (u.sys.change = none → exec (.changeSetArmTimeout t) s = .next u) ∧
    (∀ c, u.sys.change = some c →
      (c.phase ≠ 1 ∨ c.allArmed = true ∨ u.nowNs + 20000000 < c.time → exec (.changeSetArmTimeout t) s = .next u) ∧
      (∀ y, (y = .changeSetArmTimeout t ∧ c.time ≤ u.nowNs + 20000000) ∨
          (y = .changeSetApply t ∧ c.time ≤ u.nowNs ∧ u.dictReady = true ∧ u.sys.target = none) →
        c.phase = 1 → c.allArmed = false → ∃ s', exec y s = .next s' ∧ s'.sys.change = none ∧ s'.rn 0x6800 0x0C = 7 ∧
          u.raised s' u.sysKey 0x1108 2 [(16, c.id), (16, c.tag), (8, 7), (8, c.missing (bit c.armed))] ∧
          s' = { u with od := s'.od, log := s'.log, spay := s'.spay, sys := s'.sys }) ∧
      (c.phase = 1 → c.allArmed = true → c.time ≤ u.nowNs → u.dictReady = true → u.sys.target = none →
        exec (.changeSetApply t) s = .next { u with sys := { u.sys with change := some { c with phase := 2 } } }) ∧
      (u.sys.target = none → (c.phase ≠ 1 ∨ u.nowNs < c.time) → exec (.changeSetApply t) s = .next u)) ∧
    (u.dictReady = false → exec (.changeSetApply t) s = .next u) ∧
    (∀ g due, u.sys.change = none → u.dictReady = true → u.sys.target = some g → g.time = some due →
      (u.nowNs < due ∨ g.done ≠ none → exec (.changeSetApply t) s = .next u) ∧
      (∀ es w, due ≤ u.nowNs → g.done = none → parseChange g.data = some es →
        w = es.foldl (fun (s : State) e =>
          let x := s.imageEntry e
          if e.isFor u.pkgId then (x.runEntry e).1 else x) u →
        w.sys.target ≠ none → ∃ s', exec (.changeSetApply t) s = .next s' ∧ s'.sys.suspended = true ∧
          s'.sys.target = some { g with
            done := some w.clock, late := decide (due + 1000000 ≤ w.nowNs)
            commits := (w.newCommits u).map (·.id), screens := w.newApplies u } ∧
          s' = { w with sys := { w.sys with suspended := true, target := s'.sys.target } })) ∧
    (u.sys.target = none → exec (.changeSetSettled t) s = .next u) ∧
    (∀ g, u.sys.target = some g →
      (g.done = none ∨ u.changeOver g = false → exec (.changeSetSettled t) s = .next u) ∧
      (g.done ≠ none → u.changeOver g = true → ∃ s', exec (.changeSetSettled t) s = .next s' ∧ s'.sys.target = none ∧
        s'.sys.suspended = false ∧ s'.sys.tree = g.tree ∧
        (u.power.fail = false → s'.flash = { u.flash with tree := g.tree, images := u.sys.images }) ∧
        (u.power.fail = true → s'.flash = u.flash) ∧
        (u.isSelf g.from' = false → s'.spay = (u.control g.from' 7 (beBytes 2 g.id ++ beBytes 1 (b2n g.late) ++ [0, 0, 0] ++
            beBytes 8 u.actualRoot ++ rolePart u.roleRoots)).spay ∧
          s' = { u with spay := s'.spay, sys := s'.sys, flash := s'.flash }) ∧
        s' = { u with od := s'.od, log := s'.log, spay := s'.spay, sys := s'.sys, flash := s'.flash })) ∧
    (spIsOp f 7 = true → (u.receive q f).2 = true →
      (bit (byteAt b 4) 1 = true → v.supervisor = true → exec (.applied t q x) s =
        .next (v.setEnt f.src { v.ent f.src with root := fld b 8 8 })) ∧
      (bit (byteAt b 4) 1 = true → v.supervisor = false → exec (.applied t q x) s = .next v) ∧
      (bit (byteAt b 4) 1 = false → v.sys.change = none → exec (.applied t q x) s = .next v) ∧
      (∀ c want bad, bit (byteAt b 4) 1 = false → v.sys.change = some c → want = c.staged.at' f.src (0, []) →
        bad = (c.differs || decide (want ≠ (fld b 8 8, parseRoles 16 (b.drop 16)))) →
        (c.id ≠ id ∨ c.phase = 0 ∨ bit c.targets f.src = false ∨ bit c.applied f.src = true → exec (.applied t q x) s = .next v) ∧
        (c.id = id → c.phase ≠ 0 → bit c.targets f.src = true → bit c.applied f.src = false →
          ((idsOf c.targets).all (bit (setBit c.applied f.src true)) = false → exec (.applied t q x) s =
            .next { (v.setEnt f.src { v.ent f.src with root := want.1 }) with
              sys := { (v.setEnt f.src { v.ent f.src with root := want.1 }).sys with
                change := some { c with applied := setBit c.applied f.src true, differs := bad } } }) ∧
          ((idsOf c.targets).all (bit (setBit c.applied f.src true)) = true → ∃ s', exec (.applied t q x) s = .next s' ∧
            s'.sys.change = none ∧ (s'.ent f.src) = { v.ent f.src with root := want.1 } ∧
            s'.rn 0x6800 0x0C = (if bad then 10 else 0) ∧
            v.raised s' v.sysKey 0x1108 (if bad then 2 else 0) [(16, c.id), (16, c.tag), (8, if bad then 10 else 0), (8, 0xFF)] ∧
            v.odSame s' [key 0x6800 0x0C, key 0x2200 5] ∧
            s' = { v with od := s'.od, log := s'.log, sys := s'.sys }))))

/-- R591 to R594, R596, R597, R600, R601, R603: the update lock and the commands of 0x2400:01, each with what refuses it, and the
writes of 0x2400:05 (UPDATE_OPEN, UPDATE_CLOSE, UPDATE_FINISH, UPDATE_ACTIVATE, UPDATE_CONFIRM, UPDATE_FALL_BACK, UPDATE_ABANDON,
UPDATE_REVOKE_KEY, UPDATE_CHUNK). -/
def Obligations.UpdateCommandsFollowTheTable : Prop :=
  ∀ (s : State) (t : Nat) (r : Req),
    let u := s.tick t
    let k := u.inactive
    let b := u.flash.boot
    let st := u.updState
    let mine : UpdS := { u.upd with last := u.clock }
    u.takes r = true → u.power.quietWait = false →
    (u.upd.owner = none → ∃ s', exec (.updateOpen t r) s = .next s' ∧ s'.upd = { mine with owner := some r } ∧
      u.raised s' u.sysKey 0x1001 0 [(16, Req.ownerWord r), (8, 0)] ∧ s'.out = .resp r 0x2400 0x01 0 [] :: u.out ∧
      u.odSame s' [key 0x2200 5] ∧
      s' = { u with od := s'.od, log := s'.log, upd := s'.upd, partWrites := s'.partWrites, out := s'.out }) ∧
    (u.upd.owner = some r → ∃ s', exec (.updateOpen t r) s = .next s' ∧ s'.upd = mine ∧
      s'.out = .resp r 0x2400 0x01 0 [] :: u.out ∧ s' = { u with upd := s'.upd, partWrites := s'.partWrites, out := s'.out }) ∧
    (∀ o, u.upd.owner = some o → o ≠ r →
      exec (.updateOpen t r) s = .next { u with out := .resp r 0x2400 0x01 8 [] :: u.out }) ∧
    (∀ c, u.upd.owner ≠ some r → c ∈ [Instr.updateClose t r, .updateFinish t r, .updateActivate t r, .updateConfirm t r,
        .updateFallBack t r, .updateAbandon t r, .updateRevokeKey t r] →
      exec c s = .next { u with out := .resp r 0x2400 0x01 8 [] :: u.out }) ∧
    (u.upd.owner = some r →
      (∀ c, (c = .updateFinish t r ∧ st ≠ updDownloading) ∨ (c = .updateActivate t r ∧ st ≠ updStaged) ∨
          (c = .updateConfirm t r ∧ (st ≠ updTrial ∨ u.upd.converted = false)) ∨ (c = .updateFallBack t r ∧ st ≠ updTrial) ∨
          (c = .updateAbandon t r ∧ st ≠ updDownloading ∧ st ≠ updVerifying ∧ st ≠ updStaged) ∨
          (c = .updateRevokeKey t r ∧ (u.keyValid (u.rn 0x2400 0x0E) = false ∨ u.slotKey u.upd.slot = u.rn 0x2400 0x0E ∨
            ((b.slot k = slotStaged ∨ b.slot k = slotTrial) ∧ u.slotKey k = u.rn 0x2400 0x0E) ∨
            ∀ j, j < 4 → j ≠ u.rn 0x2400 0x0E → u.keyValid j = false)) →
        exec c s = .next { u with out := .resp r 0x2400 0x01 7 [] :: u.out }) ∧
      (st ≠ updDownloading → st ≠ updVerifying → ∃ s', exec (.updateClose t r) s = .next s' ∧ s'.upd = { mine with owner := none } ∧
        u.raised s' u.sysKey 0x1001 0 [(16, 0xFFFF), (8, 1)] ∧ s'.out = .resp r 0x2400 0x01 0 [] :: u.out ∧
        u.odSame s' [key 0x2200 5] ∧
        s' = { u with od := s'.od, log := s'.log, upd := s'.upd, partWrites := s'.partWrites, out := s'.out }) ∧
      (∀ c own, (c = .updateClose t r ∧ own = none ∧ (st = updDownloading ∨ st = updVerifying)) ∨
          (c = .updateAbandon t r ∧ own = some r ∧ (st = updDownloading ∨ st = updVerifying ∨ st = updStaged)) →
        ∃ s', exec c s = .next s' ∧ s'.updState = updIdle ∧ s'.rn 0x2400 0x04 = 0 ∧ s'.rn 0x2400 0x06 = 0 ∧
          s'.upd = { mine with owner := own, chunks := [], prev := none, finish := false } ∧
          (u.power.fail = false → s'.flash = u.flash.addRecord
            { ((b.withSlot k slotEmpty).withLen k 0).outcome 3 0 with seq := wrapInc 32 b.seq }) ∧
          (u.power.fail = true → s'.flash = u.flash) ∧ u.raised s' u.sysKey 0x1006 2 [(8, 3), (8, 0)] ∧
          u.raised s' u.sysKey 0x1002 0 [(8, st), (8, updIdle), (8, k)] ∧ s'.out = .resp r 0x2400 0x01 0 [] :: u.out ∧
          u.odSame s' [key 0x2400 2, key 0x2400 4, key 0x2400 6, key 0x2200 5] ∧
          s' = { u with od := s'.od, log := s'.log, flash := s'.flash, upd := s'.upd, partWrites := s'.partWrites, out := s'.out }) ∧
      (st = updDownloading → ∃ s', exec (.updateFinish t r) s = .next s' ∧ s'.updState = updVerifying ∧
        s'.upd = { mine with finish := true } ∧ u.raised s' u.sysKey 0x1002 0 [(8, st), (8, updVerifying), (8, k)] ∧
        s'.out = .resp r 0x2400 0x01 0 [] :: u.out ∧ u.odSame s' [key 0x2400 2, key 0x2200 5] ∧
        s' = { u with od := s'.od, log := s'.log, upd := s'.upd, partWrites := s'.partWrites, out := s'.out }) ∧
      (∀ c new boot, (c = .updateActivate t r ∧ st = updStaged ∧ new = updActivating ∧
            boot = { b.withSlot k slotTrial with booted := false, oldHeld := true, window := u.rn 0x2400 0x0B }) ∨
          (c = .updateFallBack t r ∧ st = updTrial ∧ new = updStaged ∧
            boot = { (b.withSlot k slotStaged).outcome 2 1 with booted := false, oldHeld := false }) →
        ∃ s', exec c s = .next s' ∧ s'.updState = new ∧ s'.loaded = false ∧ s'.procs = [] ∧ s'.rn 0x2500 0x0C = 3 ∧
          s'.log.records = [logStarted 3] ∧ s'.power = { u.power with phase := .booting } ∧
          s'.upd = { slot := u.upd.slot, rom := true, back := decide (new = updStaged), since := u.clock } ∧
          (u.power.fail = false → s'.flash = u.flash.addRecord { boot with seq := wrapInc 32 b.seq }) ∧
          (u.power.fail = true → s'.flash = u.flash) ∧ s'.out.head? = some (.resp r 0x2400 0x01 0 []) ∧
          s'.screens.map (·.1) = u.screens.map (·.1) ∧ s'.screens.all (fun p => p.2.service && p.2.plan.isNone) = true ∧
          s'.time = u.time.counters ∧
          (new = updStaged → ∃ e ∈ s'.log.queues.at' u.sysKey [], e.ty = 0x1005 ∧ e.sev = 2 ∧
            e.pay = [(8, 1), (32, u.activeVersion)]) ∧
          s' = { State.reset with
            clock := u.clock, free := s'.free, od := s'.od, force := u.force, otp := u.otp, log := s'.log, time := s'.time
            units := u.units, declared := u.declared, link := u.link, primary := u.primary, power := s'.power
            tally := s'.tally, ports := u.ports, active := u.active, unpatched := u.unpatched, places := u.places
            screens := s'.screens, rings := s'.rings, pcie := s'.pcie, lanes := s'.lanes, spay := s'.spay, mem := s'.mem
            flash := s'.flash, upd := s'.upd, out := s'.out, pending := u.pending }) ∧
      (st = updTrial → u.upd.converted = true → ∃ s', exec (.updateConfirm t r) s = .next s' ∧ s'.updState = updIdle ∧
        s'.upd = { mine with trialAt := none, converted := false } ∧
        (u.power.fail = false → s'.flash = u.flash.addRecord
          { ((b.withSlot k slotActive).withSlot (1 - k) slotEmpty).outcome 1 0 with
            active := k, booted := false, store := 1 - b.store, oldHeld := false, seq := wrapInc 32 b.seq }) ∧
        (u.power.fail = true → s'.flash = u.flash) ∧ u.raised s' u.sysKey 0x1004 1 [(32, u.slotVersion k)] ∧
        s'.out = .resp r 0x2400 0x01 0 [] :: u.out ∧ u.odSame s' [key 0x2400 2, key 0x2200 5] ∧
        s' = { u with od := s'.od, log := s'.log, flash := s'.flash, upd := s'.upd, partWrites := s'.partWrites, out := s'.out }) ∧
      (∀ x, x = u.rn 0x2400 0x0E → u.keyValid x = true → u.slotKey u.upd.slot ≠ x →
        ¬((b.slot k = slotStaged ∨ b.slot k = slotTrial) ∧ u.slotKey k = x) → (∃ j, j < 4 ∧ j ≠ x ∧ u.keyValid j = true) →
        ∃ s', exec (.updateRevokeKey t r) s = .next s' ∧ s'.otp = { u.otp with revoked := setBit u.otp.revoked x true } ∧
          u.raised s' u.sysKey 0x1007 2 [(8, x)] ∧ s'.upd = mine ∧ s'.out = .resp r 0x2400 0x01 0 [] :: u.out ∧
          u.odSame s' [key 0x2200 5] ∧
          s' = { u with od := s'.od, otp := s'.otp, log := s'.log, upd := s'.upd, partWrites := s'.partWrites, out := s'.out })) ∧
    (∀ data off d next, 5 ≤ data.length → data.length ≤ 65540 → off = beNat (data.take 4) → d = data.drop 4 →
      next = u.rn 0x2400 0x04 →
      (u.upd.owner ≠ some r → exec (.updateChunk t r data) s = .next { u with out := .resp r 0x2400 0x05 8 [] :: u.out }) ∧
      (u.upd.owner = some r →
        (u.upd.prev = some (off, d) → ∃ s', exec (.updateChunk t r data) s = .next s' ∧ s'.upd = mine ∧
          s'.out = .resp r 0x2400 0x05 0 [] :: u.out ∧
          s' = { u with upd := s'.upd, partWrites := s'.partWrites, out := s'.out }) ∧
        (u.upd.prev ≠ some (off, d) →
          (off ≠ next ∨ slotSize < next + d.length ∨
              ¬(st = updDownloading ∨ ((st = updIdle ∨ st = updStaged) ∧ off = 0)) →
            exec (.updateChunk t r data) s = .next { u with out := .resp r 0x2400 0x05 7 [] :: u.out }) ∧
          (off = next → next + d.length ≤ slotSize → st = updDownloading ∨ ((st = updIdle ∨ st = updStaged) ∧ off = 0) →
            (4 ≤ u.upd.chunks.length →
              exec (.updateChunk t r data) s = .next { u with out := .resp r 0x2400 0x05 8 [] :: u.out }) ∧
            (u.upd.chunks.length < 4 → ∃ s', exec (.updateChunk t r data) s = .next s' ∧
              s'.upd = { mine with chunks := u.upd.chunks ++ [d], prev := some (off, d) } ∧
              s'.rn 0x2400 0x04 = next + d.length ∧ s'.updState = updDownloading ∧
              (st = updDownloading → s'.flash = u.flash ∧ s'.log = u.log) ∧
              (st ≠ updDownloading → u.power.fail = false → s'.flash = { u.flash with slots := u.flash.slots.put k [] }.addRecord
                { (b.withSlot k slotPartial).withLen k 0 with seq := wrapInc 32 b.seq }) ∧
              s'.out = .resp r 0x2400 0x05 0 [] :: u.out ∧ u.odSame s' [key 0x2400 2, key 0x2400 4, key 0x2200 5] ∧
              s' = { u with od := s'.od, log := s'.log, flash := s'.flash, upd := s'.upd, partWrites := s'.partWrites,
                            out := s'.out })))))

/-- R590, R593, R595, R596, R599, R601, R602: chunks reach the slot, the image is verified, the lock and the confirm window run out, the
converted store is written, the ROM's watchdog and its check (CHUNK_PROGRAMMED, VERIFY_COMPLETE, UPDATE_LOCK_TIMEOUT,
CONFIRM_WINDOW_EXPIRY, CONVERTED_STORE_WRITTEN, ROM_WATCHDOG_EXPIRY, ROM_SLOT_CHECK_COMPLETE). -/
def Obligations.UpdatesVerifyTryAndFallBack : Prop :=
  ∀ (s : State) (t : Nat),
    let u := s.tick t
    let k := u.inactive
    let b := u.flash.boot
    let st := u.updState
    (u.upd.chunks = [] ∨ u.power.fail = true → exec (.chunkProgrammed t) s = .next u) ∧
    (∀ d l, u.upd.chunks = d :: l → u.power.fail = false → ∃ s', exec (.chunkProgrammed t) s = .next s' ∧
      s'.upd = { u.upd with chunks := l } ∧ s'.flash = { u.flash with slots := u.flash.slots.put k (u.slotBytes k ++ d) } ∧
      s'.rn 0x2400 0x06 = u.rn 0x2400 0x06 + d.length ∧ u.odSame s' [key 0x2400 6] ∧
      s' = { u with od := s'.od, flash := s'.flash, upd := s'.upd }) ∧
    (st ≠ updVerifying ∨ u.upd.chunks ≠ [] ∨ u.power.fail = true → ∀ wrong, exec (.verifyComplete t wrong) s = .next u) ∧
    (∀ wrong c, c = u.imageCause (slotRead (u.slotBytes k) wrong) → st = updVerifying → u.upd.chunks = [] → u.power.fail = false →
      u.power.quietWait = false → ∃ s', exec (.verifyComplete t wrong) s = .next s' ∧ s'.rn 0x2400 0x04 = 0 ∧ s'.rn 0x2400 0x06 = 0 ∧
      s'.upd = { u.upd with prev := none, finish := false } ∧
      (c ≠ 0 → s'.updState = updIdle ∧ u.raised s' u.sysKey 0x1006 2 [(8, 4), (8, c)] ∧
        s'.flash = u.flash.addRecord { ((b.withSlot k slotEmpty).withLen k 0).outcome 4 c with seq := wrapInc 32 b.seq }) ∧
      (c = 0 → s'.updState = updStaged ∧ u.raised s' u.sysKey 0x1003 1 [(32, u.slotVersion k), (8, u.slotKey k)] ∧
        s'.flash = u.flash.addRecord
          { (b.withSlot k slotStaged).withLen k (u.rn 0x2400 0x04) with seq := wrapInc 32 b.seq }) ∧
      u.odSame s' [key 0x2400 2, key 0x2400 4, key 0x2400 6, key 0x2200 5] ∧
      s' = { u with od := s'.od, log := s'.log, flash := s'.flash, upd := s'.upd }) ∧
    (u.upd.owner = none ∨ u.clock < u.upd.last + 120 * sTicks → u.power.quietWait = false →
      exec (.updateLockTimeout t) s = .next u) ∧
    (u.upd.owner ≠ none → u.upd.last + 120 * sTicks ≤ u.clock → u.power.quietWait = false →
      ∃ s', exec (.updateLockTimeout t) s = .next s' ∧ s'.upd.owner = none ∧ u.raised s' u.sysKey 0x1001 0 [(16, 0xFFFF), (8, 2)] ∧
        (st ≠ updDownloading → st ≠ updVerifying → s'.upd = { u.upd with owner := none } ∧ s'.flash = u.flash ∧ s'.updState = st) ∧
        (st = updDownloading ∨ st = updVerifying → s'.updState = updIdle ∧ s'.upd.chunks = [] ∧
          u.raised s' u.sysKey 0x1006 2 [(8, 3), (8, 0)]) ∧
        u.odSame s' [key 0x2400 2, key 0x2400 4, key 0x2400 6, key 0x2200 5] ∧
        s' = { u with od := s'.od, log := s'.log, flash := s'.flash, upd := s'.upd }) ∧
    (u.upd.trialAt = none ∨ st ≠ updTrial → exec (.confirmWindowExpiry t) s = .next u) ∧
    (∀ a, u.upd.trialAt = some a →
      (u.clock < a + b.window * sTicks → exec (.confirmWindowExpiry t) s = .next u) ∧
      (st = updTrial → a + b.window * sTicks ≤ u.clock → ∃ s', exec (.confirmWindowExpiry t) s = .next s' ∧
        s'.updState = updStaged ∧ s'.loaded = false ∧ s'.rn 0x2500 0x0C = 3 ∧ s'.power = { u.power with phase := .booting } ∧
        s'.upd = { slot := u.upd.slot, rom := true, back := true, since := u.clock } ∧
        (u.power.fail = false → s'.flash = u.flash.addRecord
          { (b.withSlot k slotStaged).outcome 2 2 with booted := false, oldHeld := false, seq := wrapInc 32 b.seq }) ∧
        (∃ e ∈ s'.log.queues.at' u.sysKey [], e.ty = 0x1005 ∧ e.sev = 2 ∧ e.pay = [(8, 2), (32, u.activeVersion)]))) ∧
    (st ≠ updTrial ∨ u.upd.converted = true ∨ u.power.fail = true ∨ u.loaded = false →
      exec (.convertedStoreWritten t) s = .next u) ∧
    (st = updTrial → u.upd.converted = false → u.power.fail = false → u.loaded = true →
      exec (.convertedStoreWritten t) s = .next { u with
        flash := { u.flash with stores := u.flash.stores.put (1 - b.store) u.image }, upd := { u.upd with converted := true } }) ∧
    (st ≠ updTrial ∨ u.upd.trialAt ≠ none ∨ u.clock < u.upd.since + 5 * sTicks → exec (.romWatchdogExpiry t) s = .next u) ∧
    (st = updTrial → u.upd.trialAt = none → u.upd.since + 5 * sTicks ≤ u.clock → u.free' = true →
      exec (.romWatchdogExpiry t) s = .next { u.restartAt 3 with upd := { (u.restartAt 3).upd with rom := true } }) ∧
    (u.upd.rom = false ∨ u.power.phase ≠ .booting → ∀ verdict bad, exec (.romSlotCheckComplete t ⟨verdict, bad⟩) s = .next u) ∧
    (∀ verdict j c, u.upd.rom = true → u.power.phase = .booting → b.active ≤ 1 → u.flash.findRecord = u.flash →
      j = (if b.slot k = slotTrial ∧ b.booted = false then k else b.active) → c = u.romVerdict j verdict →
      (∀ x, x ≠ slotTrial → x ≠ slotPartial → b.slot k = x →
        (c = 0 → st ≠ updTrial → exec (.romSlotCheckComplete t ⟨verdict, []⟩) s = .next
          ({ u.refreshUnits with upd := { u.upd with rom := false, back := false, slot := b.active } }.wn 0x2400 0x02
            (if x = slotStaged then updStaged else updIdle))) ∧
        (c ≠ 0 → ∃ s', exec (.romSlotCheckComplete t ⟨verdict, []⟩) s = .next s' ∧
          s'.power = { u.power with noSlot := true, phase := .held } ∧ s'.pwrGood = false ∧
          s'.out = (if u.pwrGood then .line 0 false :: u.out else u.out))) ∧
      (b.slot k = slotTrial → b.booted = false → c = 0 → ∃ s', exec (.romSlotCheckComplete t ⟨verdict, []⟩) s = .next s' ∧
        s'.updState = updTrial ∧ s'.upd = { u.upd with rom := false, back := false, slot := k, since := u.clock } ∧
        (u.power.fail = false → s'.flash = u.flash.addRecord { b with booted := true, seq := wrapInc 32 b.seq }) ∧
        u.raised s' u.sysKey 0x1002 0 [(8, updActivating), (8, updTrial), (8, k)] ∧
        s' = { u.refreshUnits with od := s'.od, log := s'.log, flash := s'.flash, upd := s'.upd }) ∧
      (b.slot k = slotTrial → b.booted = false → c ≠ 0 → ∃ s', exec (.romSlotCheckComplete t ⟨verdict, []⟩) s = .next s' ∧
        (u.power.fail = false → s'.flash = u.flash.addRecord
          { ((b.withSlot k slotEmpty).withLen k 0).outcome 2 c with booted := false, oldHeld := false, seq := wrapInc 32 b.seq }) ∧
        u.raised s' u.sysKey 0x1005 2 [(8, c), (32, u.activeVersion)]) ∧
      (∀ f, f < 14 → (u.unit (coreKey f)).st = 0 →
        ∃ s', exec (.romSlotCheckComplete t ⟨verdict, [u.addrOf (coreKey f)]⟩) s = .next s' ∧ (s'.unit (coreKey f)).st = 2)) ∧
    (∀ j given, (u.slotBytes j = [] → u.romVerdict j given = given) ∧
      (u.slotBytes j ≠ [] → given ≠ 6 → (u.keyValid (u.slotKey j) = false → u.romVerdict j given = 5) ∧
        (u.keyValid (u.slotKey j) = true → u.romVerdict j given = (if ecdsaOk ((u.otp.keys[u.slotKey j]?).getD [])
          ((u.slotBytes j).take 160) (((u.slotBytes j).drop 160).take 96) then 0 else 4))))

/-- R588: a boot record reads back from its 256 bytes, whatever it holds; bytes whose magic, format or CRC is wrong are no record;
with none in either copy slot A boots with store X; and a new record goes into the next page of the copy that does not hold the latest,
which is erased first where no page is left. -/
def Obligations.BootRecordsReadBack : Prop :=
  (∀ b : BootS, b.seq < 2 ^ 32 → b.slotA ≤ 4 → b.slotB ≤ 4 → b.active ≤ 1 → b.store ≤ 1 → b.result < 256 → b.cause < 256 →
    b.window < 2 ^ 32 → b.lenA < 2 ^ 32 → b.lenB < 2 ^ 32 → b.bytes.length = 256 ∧ readBoot b.bytes = some b) ∧
  (∀ p : List Byte, p.length ≠ 256 ∨ leNat (p.take 4) ≠ 0x5A424F54 ∨ leNat ((p.drop 8).take 1) ≠ 1 ∨
      leNat ((p.drop 252).take 4) ≠ crc 0 (p.take 252) → readBoot p = none) ∧
  (∀ f : FlashS, f.copy0 = [] → f.copy1 = [] → f.findRecord.boot = {}) ∧
  (∀ (f : FlashS) (b : BootS), (f.addRecord b).boot = b ∧
    (f.copy0.contains f.boot = true → (f.addRecord b).copy0 = f.copy0 ∧
      (f.addRecord b).copy1 = (if 256 ≤ f.copy1.length then [b] else f.copy1 ++ [b])) ∧
    (f.copy0.contains f.boot = false → (f.addRecord b).copy1 = f.copy1 ∧
      (f.addRecord b).copy0 = (if 256 ≤ f.copy0.length then [b] else f.copy0 ++ [b])))

/-- R614 to R617, R588, R590, R622: supply, reset and rail failure hold or boot the package, a supply out of range and its return are
noted, and PWRGOOD follows (VIN_GOOD, POWER_FAIL, HOLD_UP_END, SUPPLY_OUT_OF_RANGE, SUPPLY_RESTORED, RESET_ASSERT, RESET_RELEASE,
THERMAL_TRIP_RELEASE, LOWER_JUNCTION_LIMIT_REACHED, INTERNAL_RAIL_OR_RESONATOR_FAILURE). -/
def Obligations.SupplyAndResetHoldOrBoot : Prop :=
  ∀ (s : State) (t vA vB : Nat) (bad : List Nat),
    let u := s.tick t
    let w := u.power
    let b := u.flash.boot
    let k := u.inactive
    let lined := fun (s' : State) => s'.out = (if u.pwrGood = s'.pwrGood then u.out else .line 0 s'.pwrGood :: u.out)
    let kept := fun (s' : State) => s'.flash = u.flash ∧ s'.otp = u.otp ∧ s'.clock = u.clock ∧ s'.free = u.free ∧
      s'.pending = u.pending ∧ s'.loaded = false ∧ s'.time = State.reset.time ∧ s'.screens = State.reset.screens
    let bare := fun (p : PowerS) => { p with quietWait := false, overE := false, overW := false, wake := false }
    (∀ c, (c = .powerFail t ∧ w.phase = .off) ∨
        (c = .holdUpEnd t ∧ (w.fail = false ∨ w.phase = .off)) ∨ (c = .resetRelease t ⟨vA, vB⟩ bad ∧ w.resetN = false) ∨
        (c = .thermalTripRelease t ⟨vA, vB⟩ bad ∧ (w.trip = false ∨ w.phase = .off)) ∨
        (c = .lowerJunctionLimitReached t none bad ∧ w.cold = true) ∨
        (c = .lowerJunctionLimitReached t (some ⟨vA, vB⟩) bad ∧ w.cold = false) ∨ (∃ n, n < 1000 ∧ c = .resetAssert t n) →
      exec c s = .next u) ∧
    (∀ c p cause free, (c = .vinGood t ⟨vA, vB⟩ [] ∧ w.phase = .off ∧ cause = 0 ∧
          p = { w with vinGood := true, fail := false, rail := false }) ∨
        (c = .resetRelease t ⟨vA, vB⟩ [] ∧ w.resetN = true ∧ w.phase ≠ .off ∧ w.fail = false ∧ cause = 1 ∧
          p = { w with resetN := false, noSlot := false }) ∨
        (c = .thermalTripRelease t ⟨vA, vB⟩ [] ∧ w.trip = true ∧ w.phase ≠ .off ∧ cause = 0 ∧ p = { w with trip := false }) ∨
        (c = .lowerJunctionLimitReached t (some ⟨vA, vB⟩) [] ∧ w.cold = true ∧ w.phase ≠ .off ∧ cause = 0 ∧ p = { w with cold := false }) →
      free = (p.vinGood && !p.fail && !p.resetN && !p.trip && !p.cold && !p.scan) →
      (free = false → ∃ s', exec c s = .next s' ∧ s'.power = { bare p with phase := .held } ∧ s'.rn 0x2500 0x0C = 0 ∧
        s'.upd = State.reset.upd ∧ kept s' ∧ lined s') ∧
      (free = true → b.slot k ≠ slotTrial → b.slot k ≠ slotPartial → b.active ≤ 1 → u.flash.findRecord = u.flash →
        (∀ v, v = u.romVerdict b.active (if b.active = 0 then vA else vB) →
          ∃ s', exec c s = .next s' ∧ s'.rn 0x2500 0x0C = cause ∧ s'.log.records = [logStarted cause] ∧
            s'.upd.slot = b.active ∧ s'.updState = (if b.slot k = slotStaged then updStaged else updIdle) ∧
            (v = 0 → s'.power = { bare p with phase := .booting, noSlot := false }) ∧
            (v ≠ 0 → s'.power = { bare p with phase := .held, noSlot := true } ∧ s'.pwrGood = false) ∧ kept s' ∧ lined s'))) ∧
    (w.phase ≠ .off → ∃ s', exec (.vinGood t ⟨vA, vB⟩ bad) s = .next s' ∧ s'.power = { w with vinGood := true } ∧ lined s' ∧
      s' = { u with power := s'.power, out := s'.out }) ∧
    (w.cold = false → w.phase ≠ .off → ∃ s', exec (.lowerJunctionLimitReached t none bad) s = .next s' ∧
      s'.power = { bare w with cold := true, phase := .held } ∧ s'.pwrGood = false ∧ kept s' ∧ lined s') ∧
    (∀ f, f < 14 → w.phase = .off → w.resetN = false → w.trip = false → w.cold = false → w.scan = false →
      ∃ s', exec (.vinGood t ⟨vA, vB⟩ [u.addrOf (coreKey f)]) s = .next s' ∧ (s'.unit (coreKey f)).st = 2) ∧
    (w.phase ≠ .off → ∃ s', exec (.powerFail t) s = .next s' ∧ s'.power = { w with fail := true, vinGood := false } ∧
      s'.pwrGood = false ∧ lined s' ∧ s' = { u with power := s'.power, out := s'.out }) ∧
    (w.fail = true → w.phase ≠ .off →
      (w.vinGood = false → ∃ s', exec (.holdUpEnd t) s = .next s' ∧
        s'.power = { bare w with phase := .off, trip := false, noSlot := false, range := false, scan := false, instr := 2 } ∧
        s'.log.records = [logStarted 0] ∧ kept s' ∧ lined s') ∧
      (w.vinGood = true → w.resetN = false → w.cold = false → ∃ s', exec (.holdUpEnd t) s = .next s' ∧
        s'.power = { bare w with phase := .booting, fail := false, rail := false, trip := false, noSlot := false, range := false
                                 scan := false, instr := 2 } ∧
        s'.rn 0x2500 0x0C = 0 ∧ s'.upd = { State.reset.upd with rom := true } ∧ kept s' ∧ lined s')) ∧
    (∀ n, 10000 ≤ n →
      (w.fail = true ∨ w.phase = .off → ∃ s', exec (.resetAssert t n) s = .next s' ∧ s'.power = { w with resetN := true } ∧ lined s' ∧
        s' = { u with power := s'.power, out := s'.out }) ∧
      (w.fail = false → w.phase ≠ .off → ∃ s', exec (.resetAssert t n) s = .next s' ∧
        s'.power = { bare w with resetN := true, phase := .held } ∧ s'.pwrGood = false ∧ kept s' ∧ lined s')) ∧
    (∃ s', exec (.internalRailOrResonatorFailure t) s = .next s' ∧ s'.power = { w with rail := true } ∧ s'.pwrGood = false ∧
      lined s' ∧ s' = { u with power := s'.power, out := s'.out }) ∧
    (∀ mV,
      (w.range = true ∨ w.phase = .off ∨ w.phase = .held → exec (.supplyOutOfRange t mV) s = .next u) ∧
      (w.range = false ∨ w.phase = .off ∨ w.phase = .held → exec (.supplyRestored t mV) s = .next u) ∧
      (∀ c ty sev, (c = .supplyOutOfRange t mV ∧ w.range = false ∧ ty = 0x1201 ∧ sev = 2) ∨
          (c = .supplyRestored t mV ∧ w.range = true ∧ ty = 0x1202 ∧ sev = 0) → w.phase ≠ .off → w.phase ≠ .held →
        ∃ s', exec c s = .next s' ∧ s'.power = { w with range := !w.range } ∧ s'.rn 0x2500 0x01 = min 0xFFFF mV ∧
          u.counted s' 0x2500 0x09 (if w.range then 0 else 1) ∧ u.raised s' u.sysKey ty sev [(16, mV)] ∧
          u.odSame s' [key 0x2500 1, key 0x2500 9, key 0x2200 5] ∧
          s' = { u with od := s'.od, log := s'.log, power := s'.power }))

/-- R618, R619, R622, R634: quiet mode is entered and left, a die's temperature limit and trip, boundary scan (QUIET_COMMAND,
QUIET_PIN_LOW, QUIET_PIN_RISE, TEMPERATURE_OVER_LIMIT, TEMPERATURE_RESTORED, THERMAL_TRIP, BOUNDARY_SCAN_INSTRUCTION). -/
def Obligations.QuietThermalAndScan : Prop :=
  ∀ (s : State) (t : Nat),
    let u := s.tick t
    let w := u.power
    let lined := fun (s' : State) => s'.out = (if u.pwrGood = s'.pwrGood then u.out else .line 0 s'.pwrGood :: u.out)
    (∀ r, u.takes r = true →
      (u.mayQuiet = false → exec (.quietCommand t r) s = .next { u with out := .resp r 0x2500 0x0A 7 [] :: u.out })) ∧
    (∀ r c cause, (c = .quietCommand t r ∧ u.takes r = true ∧ u.mayQuiet = true ∧ cause = 0) ∨
        (c = .quietPinLow t ∧ w.phase = .running ∧ u.rn 0x2500 0x0B ≠ 0xFF ∧ u.mayQuiet = true ∧ cause = 1) →
      ∃ s', exec c s = .next s' ∧ s'.power = { w with phase := .quiet, quietWait := false, wake := false } ∧
        (∃ rec', s'.log.records.head? = some rec' ∧ rec'.ev.ty = 0x1205 ∧ rec'.ev.sev = 1 ∧ rec'.ev.pay = [(8, cause)]) ∧
        s'.rn 0x6600 0x04 = 0 ∧ (∀ p, p < 16 → s'.rn (0x2910 + p) 0x0A = 0) ∧ (∀ x, x < 24 → (s'.screen x).run = false) ∧
        s'.rings = [] ∧ s'.zdp = [] ∧ (cause = 0 → s'.out = .resp r 0x2500 0x0A 0 [] :: u.out) ∧ (cause = 1 → s'.out = u.out) ∧
        s' = { u with od := s'.od, log := s'.log, time := s'.time, trigs := s'.trigs, power := s'.power, conds := s'.conds,
                      cans := s'.cans, zdp := s'.zdp, partReads := s'.partReads, partWrites := s'.partWrites, screens := s'.screens,
                      queued := s'.queued, zttQ := s'.zttQ, engines := s'.engines, touch := s'.touch, rings := s'.rings,
                      pcie := s'.pcie, lanes := s'.lanes, spay := s'.spay, flash := s'.flash, upd := s'.upd, out := s'.out }) ∧
    (w.phase ≠ .running ∨ u.rn 0x2500 0x0B = 0xFF → exec (.quietPinLow t) s = .next u) ∧
    (w.phase = .running → u.rn 0x2500 0x0B ≠ 0xFF → u.mayQuiet = false →
      exec (.quietPinLow t) s = .next { u with power := { w with quietWait := true } }) ∧
    (u.rn 0x2500 0x0B = 0xFF → exec (.quietPinRise t) s = .next u) ∧
    (u.rn 0x2500 0x0B ≠ 0xFF → w.phase ≠ .quiet →
      exec (.quietPinRise t) s = .next { u with power := { w with quietWait := false } }) ∧
    (u.rn 0x2500 0x0B ≠ 0xFF → w.phase = .quiet → ∃ s', exec (.quietPinRise t) s = .next s' ∧
      s'.power.phase = .booting ∧ s'.rn 0x2500 0x0C = 4 ∧ s'.log.records = [logStarted 4] ∧ s'.loaded = false ∧
      s'.time.sec = u.time.sec ∧ s'.time.ns = u.time.ns ∧ s'.upd = { slot := u.upd.slot } ∧
      s'.updState = (if u.flash.boot.slot u.inactive = slotStaged then updStaged else updIdle) ∧
      s'.flash = u.flash ∧ s'.otp = u.otp ∧ s'.out = u.out) ∧
    (∀ d temp,
      (w.phase = .off ∨ w.phase = .held ∨ temp ≤ u.tempLimit ∨ u.dieLost d.idx = true →
        exec (.temperatureOverLimit t d temp) s = .next u) ∧
      (w.phase = .off ∨ w.phase = .held ∨ u.rn 0x2500 0x07 = 0 ∨ u.tempLimit - 50 < temp →
        exec (.temperatureRestored t d temp) s = .next u) ∧
      (w.phase ≠ .off → w.phase ≠ .held → u.tempLimit < temp → u.dieLost d.idx = false →
        ∃ s', exec (.temperatureOverLimit t d temp) s = .next s' ∧ s'.rn 0x2500 0x07 = 1 ∧ s'.rd 0x2500 (4 + d.idx) = temp ∧
          s'.rd 0x2500 0x06 = max temp (u.rd 0x2500 0x06) ∧
          (u.rn 0x2500 0x07 ≠ 1 → u.raised s' u.sysKey 0x1203 2 [(8, d.idx), (16, wrapInt 2 temp)]) ∧
          (u.rn 0x2500 0x07 = 1 → s'.log = u.log ∧ s'.conds = u.conds) ∧
          u.odSame s' [key 0x2500 4, key 0x2500 5, key 0x2500 6, key 0x2500 7, key 0x1001 0, key 0x2200 5] ∧
          s' = { u with od := s'.od, log := s'.log, power := s'.power, conds := s'.conds }) ∧
      (w.phase ≠ .off → w.phase ≠ .held → u.rn 0x2500 0x07 ≠ 0 → temp ≤ u.tempLimit - 50 →
        ∃ s', exec (.temperatureRestored t d temp) s = .next s' ∧ s'.rn 0x2500 0x07 = 0 ∧ s'.rd 0x2500 (4 + d.idx) = temp ∧
          s'.power = { w with overE := false, overW := false } ∧
          u.raised s' u.sysKey 0x1204 0 [(8, d.idx), (16, wrapInt 2 temp)] ∧ .tooHot ∉ s'.conds ∧
          s' = { u with od := s'.od, log := s'.log, power := s'.power, conds := s'.conds, cans := s'.cans }) ∧
      (w.trip = true ∨ w.phase = .off ∨ u.dieLost d.idx = true → exec (.thermalTrip t d) s = .next u) ∧
      (∀ n, n = (match u.flash.refs.look (key 0x2500 8) with
          | some v => v.int.toNat
          | none => 0) →
        w.trip = false → w.phase ≠ .off → u.dieLost d.idx = false → ∃ s', exec (.thermalTrip t d) s = .next s' ∧
          s'.power = { w with trip := true, tripNote := true, phase := .held
                              quietWait := false, overE := false, overW := false, wake := false } ∧
          (w.fail = false → s'.flash = { u.flash with
            refs := u.flash.refs.put (key 0x2500 8) (.num ((min 0xFFFF (n + 1) : Nat) : Int)) }) ∧
          (w.fail = true → s'.flash = u.flash) ∧ s'.pwrGood = false ∧ s'.loaded = false ∧ lined s')) ∧
    (∀ code,
      (w.phase = .off ∨ (3 ≤ code ∧ w.scan = true) ∨ (code ≤ 2 ∧ w.scan = false) →
        exec (.boundaryScanInstruction t code) s = .next { u with
          power := { w with instr := if w.phase = .off then w.instr else code } }) ∧
      (w.phase ≠ .off → 3 ≤ code → w.scan = false → ∃ s', exec (.boundaryScanInstruction t code) s = .next s' ∧
        s'.power = { w with instr := code, scan := true, phase := .held
                            quietWait := false, overE := false, overW := false, wake := false } ∧
        s'.pwrGood = false ∧ s'.loaded = false ∧ s'.flash = u.flash ∧ s'.otp = u.otp ∧ lined s') ∧
      (w.phase ≠ .off → code ≤ 2 → w.scan = true → w.vinGood = true → w.fail = false → w.resetN = false → w.trip = false →
        w.cold = false → ∃ s', exec (.boundaryScanInstruction t code) s = .next s' ∧
          s'.power = { w with instr := code, scan := false, phase := .booting
                              quietWait := false, overE := false, overW := false, wake := false } ∧
          s'.rn 0x2500 0x0C = 1 ∧ s'.upd.rom = true ∧ s'.flash = u.flash ∧ s'.otp = u.otp ∧ lined s'))

/-- R607 to R609, R613, R616, R634: the balls of a DisplayPort output lie in its group, those of the lanes in their slots, no two balls
carry one signal but ground and supply, and a pin is driven by the package's power, reset and boundary-scan state. -/
def Obligations.BallsCarryTheirSignals : Prop :=
  (∀ x y h a p n, x < 12 → (y = x ∧ h = 50 ∧ a = 51 ∧ p = 54 ∧ n = 55) ∨ (y = 12 + x ∧ h = 6 ∧ a = 5 ∧ p = 2 ∧ n = 1) →
    ballAt (5 + 4 * x) h = .dpHpd y ∧ ballAt (5 + 4 * x) a = .dpAux y true ∧ ballAt (6 + 4 * x) a = .dpAux y false ∧
    ballAt (5 + 4 * x) p = .dpLane y 0 true ∧ ballAt (5 + 4 * x) n = .dpLane y 0 false ∧
    ballAt (7 + 4 * x) p = .dpLane y 1 true ∧ ballAt (7 + 4 * x) n = .dpLane y 1 false) ∧
  (∀ n, n < 6 → ballAt 2 (n + 1) = .tst n ∧ ballAt 2 (n + 50) = .tst (n + 6)) ∧
  (∀ r c r' c', 1 ≤ r → r ≤ 55 → 1 ≤ c → c ≤ 55 → 1 ≤ r' → r' ≤ 55 → 1 ≤ c' → c' ≤ 55 → ballAt r c = ballAt r' c' →
    ballAt r c = .gnd ∨ ballAt r c = .vin ∨ (r = r' ∧ c = c')) ∧
  (∀ (s : State) (b : Ball),
    (s.power.phase = .off → s.drives b = false) ∧
    (s.power.phase = .held → s.power.scan = false →
      (s.drives b = true ↔ b = .pwrGood ∨ b = .tallyAlert ∨ ∃ n, b = .tallyData n)) ∧
    (s.power.phase ≠ .off → s.power.scan = true → (s.drives b = true ↔ b.cell ≠ 0)))
end

