-- ==== Sys2Proof/Laws/Table.lean ====
section
/-! SUPPORT. The laws of the sparse tables and of the byte stores: what a write leaves to read, and that every operation keeps the
canonical form. -/

namespace Sys2Proof

@[simp] theorem Tab.look_nil {α : Type} (i : Nat) : Tab.look ([] : Tab α) i = none := rfl

@[simp] theorem Tab.look_put_same {α : Type} (t : Tab α) (i : Nat) (v : α) : (t.put i v).look i = some v := by
  induction t with
  | nil => simp [Tab.put, Tab.look]
  | cons p t ih =>
    obtain ⟨k, w⟩ := p
    simp only [Tab.put]
    split
    · simp [Tab.look]
    · split
      · simp [Tab.look]
      · rename_i h
        simp [Tab.look, h, ih]

theorem Tab.look_put_other {α : Type} (t : Tab α) {i j : Nat} (v : α) (h : j ≠ i) : (t.put i v).look j = t.look j := by
  induction t with
  | nil => simp [Tab.put, Tab.look, h]
  | cons p t ih =>
    obtain ⟨k, w⟩ := p
    simp only [Tab.put]
    split
    · simp [Tab.look, h]
    · split
      · rename_i e
        subst e
        simp [Tab.look, h]
      · simp [Tab.look, ih]

@[simp] theorem Tab.at'_put_same {α : Type} (t : Tab α) (i : Nat) (v d : α) : (t.put i v).at' i d = v := by
  simp [Tab.at']

theorem Tab.at'_put_other {α : Type} (t : Tab α) {i j : Nat} (v d : α) (h : j ≠ i) : (t.put i v).at' j d = t.at' j d := by
  simp [Tab.at', Tab.look_put_other t v h]

theorem Tab.look_cut {α : Type} (t : Tab α) (i j : Nat) : (t.cut i).look j = if j = i then none else t.look j := by
  induction t with
  | nil => simp [Tab.cut]
  | cons p t ih =>
    obtain ⟨k, w⟩ := p
    simp only [Tab.cut]
    by_cases h : i = k
    · subst h
      by_cases e : j = i
      · subst e
        simp [ih]
      · simp [Tab.look, ih, e]
    · by_cases e : j = k
      · subst e
        simp [h, Tab.look, Ne.symm h]
      · simp [h, Tab.look, e, ih]

/-- A key bounds a table from below: every key of it is larger. -/
def Tab.above {α : Type} (n : Nat) (t : Tab α) : Prop := ∀ p ∈ t, n < p.1

theorem Tab.wf_cons {α : Type} (k : Nat) (w : α) (t : Tab α) : Tab.wf ((k, w) :: t) = true ↔ Tab.above k t ∧ Tab.wf t = true := by
  induction t generalizing k w with
  | nil => simp [Tab.wf, Tab.above]
  | cons p t ih =>
    obtain ⟨k', w'⟩ := p
    rw [Tab.wf]
    simp only [Bool.and_eq_true, decide_eq_true_eq]
    constructor
    · rintro ⟨h, hw⟩
      refine ⟨?_, hw⟩
      intro p hp
      rcases List.mem_cons.1 hp with rfl | hp
      · exact h
      · exact Nat.lt_trans h (((ih k' w').1 hw).1 p hp)
    · rintro ⟨h, hw⟩
      exact ⟨h (k', w') (by simp), hw⟩

theorem Tab.mem_put {α : Type} (t : Tab α) (i : Nat) (v : α) (p : Nat × α) (h : p ∈ t.put i v) : p = (i, v) ∨ p ∈ t := by
  induction t with
  | nil => simpa [Tab.put] using h
  | cons q t ih =>
    obtain ⟨k, w⟩ := q
    simp only [Tab.put] at h
    split at h
    · simpa using h
    · split at h
      · rcases List.mem_cons.1 h with h | h
        · exact .inl h
        · exact .inr (by simp [h])
      · rcases List.mem_cons.1 h with h | h
        · exact .inr (by simp [h])
        · rcases ih h with h | h
          · exact .inl h
          · exact .inr (by simp [h])

/-- Setting a key keeps the keys strictly rising. -/
theorem Tab.put_wf {α : Type} (t : Tab α) (i : Nat) (v : α) (h : Tab.wf t = true) : Tab.wf (t.put i v) = true := by
  induction t with
  | nil => rfl
  | cons p t ih =>
    obtain ⟨k, w⟩ := p
    have ⟨ha, ht⟩ := (Tab.wf_cons k w t).1 h
    simp only [Tab.put]
    split
    · rename_i hi
      refine (Tab.wf_cons i v _).2 ⟨?_, h⟩
      intro p hp
      rcases List.mem_cons.1 hp with rfl | hp
      · exact hi
      · exact Nat.lt_trans hi (ha p hp)
    · split
      · rename_i e
        subst e
        exact (Tab.wf_cons i v t).2 ⟨ha, ht⟩
      · refine (Tab.wf_cons k w _).2 ⟨?_, ih ht⟩
        intro p hp
        rcases Tab.mem_put t i v p hp with rfl | hp
        · simp only
          omega
        · exact ha p hp

theorem Tab.mem_cut {α : Type} (t : Tab α) (i : Nat) (p : Nat × α) (h : p ∈ t.cut i) : p ∈ t := by
  induction t with
  | nil => simp [Tab.cut] at h
  | cons q t ih =>
    obtain ⟨k, w⟩ := q
    simp only [Tab.cut] at h
    split at h
    · simp [ih h]
    · rcases List.mem_cons.1 h with h | h
      · simp [h]
      · simp [ih h]

/-- Taking a key out keeps the keys strictly rising. -/
theorem Tab.cut_wf {α : Type} (t : Tab α) (i : Nat) (h : Tab.wf t = true) : Tab.wf (t.cut i) = true := by
  induction t with
  | nil => rfl
  | cons p t ih =>
    obtain ⟨k, w⟩ := p
    have ⟨ha, ht⟩ := (Tab.wf_cons k w t).1 h
    simp only [Tab.cut]
    split
    · exact ih ht
    · exact (Tab.wf_cons k w _).2 ⟨fun p hp => ha p (Tab.mem_cut t i p hp), ih ht⟩

namespace Machine

/-! ### Byte stores -/

theorem Memory.wf_cons (k : Nat) (v : Byte) (m : List Host.Cell) :
    Memory.wf ((k, v) :: m) = true ↔ v ≠ 0 ∧ (∀ p ∈ m, k < p.1) ∧ Memory.wf m = true := by
  induction m generalizing k v with
  | nil => simp [Memory.wf]
  | cons p m ih =>
    obtain ⟨k', w⟩ := p
    rw [Memory.wf]
    simp only [Bool.and_eq_true, decide_eq_true_eq]
    constructor
    · rintro ⟨⟨hv, hk⟩, hw⟩
      refine ⟨hv, ?_, hw⟩
      intro p hp
      rcases List.mem_cons.1 hp with rfl | hp
      · exact hk
      · exact Nat.lt_trans hk (((ih k' w).1 hw).2.1 p hp)
    · rintro ⟨hv, hk, hw⟩
      exact ⟨⟨hv, hk (k', w) (by simp)⟩, hw⟩

/-- An address below every listed one reads as an unlisted address does. -/
theorem cellRead_below (m : List Host.Cell) (i : Nat) (h : ∀ p ∈ m, i < p.1) : cellRead m i = 0 := by
  induction m with
  | nil => rfl
  | cons p m ih =>
    obtain ⟨k, v⟩ := p
    have hk : i < k := h (k, v) (by simp)
    simp only [cellRead, Nat.ne_of_lt hk, if_false]
    exact ih (fun p hp => h p (by simp [hp]))

theorem mem_cellWrite (m : List Host.Cell) (i : Nat) (v : Byte) (p : Host.Cell) (h : p ∈ cellWrite m i v) :
    (p = (i, v) ∧ v ≠ 0) ∨ p ∈ m := by
  induction m with
  | nil =>
    simp only [cellWrite] at h
    split at h
    · simp at h
    · exact .inl ⟨by simpa using h, ‹_›⟩
  | cons q m ih =>
    obtain ⟨k, w⟩ := q
    simp only [cellWrite] at h
    split at h
    · split at h
      · exact .inr h
      · rcases List.mem_cons.1 h with h | h
        · exact .inl ⟨h, ‹_›⟩
        · exact .inr h
    · split at h
      · split at h
        · exact .inr (by simp [h])
        · rcases List.mem_cons.1 h with h | h
          · exact .inl ⟨h, ‹_›⟩
          · exact .inr (by simp [h])
      · rcases List.mem_cons.1 h with h | h
        · exact .inr (by simp [h])
        · rcases ih h with h | h
          · exact .inl h
          · exact .inr (by simp [h])

/-- A byte written keeps the store's canonical form. -/
theorem cellWrite_wf (m : List Host.Cell) (i : Nat) (v : Byte) (h : Memory.wf m = true) : Memory.wf (cellWrite m i v) = true := by
  induction m with
  | nil =>
    simp only [cellWrite]
    split
    · rfl
    · simpa [Memory.wf] using ‹¬v = 0›
  | cons q m ih =>
    obtain ⟨k, w⟩ := q
    have ⟨hw, ha, hm⟩ := (Memory.wf_cons k w m).1 h
    simp only [cellWrite]
    split
    · rename_i hi
      split
      · exact h
      · refine (Memory.wf_cons i v _).2 ⟨‹_›, ?_, h⟩
        intro p hp
        rcases List.mem_cons.1 hp with rfl | hp
        · exact hi
        · exact Nat.lt_trans hi (ha p hp)
    · split
      · rename_i e
        subst e
        split
        · exact hm
        · exact (Memory.wf_cons i v m).2 ⟨‹_›, ha, hm⟩
      · refine (Memory.wf_cons k w _).2 ⟨hw, ?_, ih hm⟩
        intro p hp
        rcases mem_cellWrite m i v p hp with ⟨rfl, _⟩ | hp
        · simp only
          omega
        · exact ha p hp

/-- A byte written reads back. -/
theorem cellRead_cellWrite_same (m : List Host.Cell) (i : Nat) (v : Byte) (h : Memory.wf m = true) :
    cellRead (cellWrite m i v) i = v := by
  induction m with
  | nil =>
    simp only [cellWrite]
    split
    · simp [cellRead, *]
    · simp [cellRead]
  | cons q m ih =>
    obtain ⟨k, w⟩ := q
    have ⟨_, ha, hm⟩ := (Memory.wf_cons k w m).1 h
    simp only [cellWrite]
    split
    · rename_i hi
      split
      · rename_i hv
        rw [hv]
        refine cellRead_below _ i ?_
        intro p hp
        rcases List.mem_cons.1 hp with rfl | hp
        · exact hi
        · exact Nat.lt_trans hi (ha p hp)
      · simp [cellRead]
    · split
      · rename_i e
        subst e
        split
        · rename_i hv
          rw [hv]
          exact cellRead_below m i ha
        · simp [cellRead]
      · rename_i e
        simp [cellRead, e, ih hm]

/-- A byte written leaves every other address as it was. -/
theorem cellRead_cellWrite_other (m : List Host.Cell) {i j : Nat} (v : Byte) (h : j ≠ i) :
    cellRead (cellWrite m i v) j = cellRead m j := by
  induction m with
  | nil =>
    simp only [cellWrite]
    split <;> simp [cellRead, h]
  | cons q m ih =>
    obtain ⟨k, w⟩ := q
    simp only [cellWrite]
    split
    · split <;> simp [cellRead, h]
    · split
      · rename_i e
        subst e
        split <;> simp [cellRead, h]
      · simp [cellRead, ih]

/-- Bytes written keep the store's canonical form. -/
theorem cellsWrite_wf (m : List Host.Cell) (i : Nat) (b : List Byte) (h : Memory.wf m = true) :
    Memory.wf (cellsWrite m i b) = true := by
  induction b generalizing m i with
  | nil => exact h
  | cons x b ih => exact ih _ _ (cellWrite_wf m i x h)

/-- Bytes written leave every address outside them as it was. -/
theorem cellRead_cellsWrite_other (m : List Host.Cell) (i j : Nat) (b : List Byte) (h : j < i ∨ i + b.length ≤ j) :
    cellRead (cellsWrite m i b) j = cellRead m j := by
  induction b generalizing m i with
  | nil => rfl
  | cons x b ih =>
    simp only [List.length_cons] at h
    rw [cellsWrite, ih _ _ (by omega), cellRead_cellWrite_other m x (by omega)]

/-- Bytes written read back. -/
theorem cellRead_cellsWrite_in (m : List Host.Cell) (i j : Nat) (b : List Byte) (h : Memory.wf m = true) (hj : j < b.length) :
    cellRead (cellsWrite m i b) (i + j) = b[j] := by
  induction b generalizing m i j with
  | nil => simp at hj
  | cons x b ih =>
    rw [cellsWrite]
    cases j with
    | zero =>
      rw [cellRead_cellsWrite_other _ _ _ _ (by omega)]
      exact cellRead_cellWrite_same m i x h
    | succ j =>
      have := ih (cellWrite m i x) (i + 1) j (cellWrite_wf m i x h) (by simpa using hj)
      rw [show i + (j + 1) = i + 1 + j by omega, this]
      rfl

@[simp] theorem cellsRead_length (m : List Host.Cell) (i n : Nat) : (cellsRead m i n).length = n := by simp [cellsRead]

/-- What was written is what is read. -/
theorem cellsRead_cellsWrite (m : List Host.Cell) (i : Nat) (b : List Byte) (h : Memory.wf m = true) :
    cellsRead (cellsWrite m i b) i b.length = b := by
  refine List.ext_getElem (by simp) ?_
  intro j h1 h2
  simp only [cellsRead, List.getElem_map, List.getElem_range]
  exact cellRead_cellsWrite_in m i j b h h2

theorem cellRead_reset (i : Nat) : cellRead [] i = 0 := rfl

end Machine
end Sys2Proof
end

