-- ==== Sys2Proof/Laws/State.lean ====
section
/-! SUPPORT. One lemma per field per update of the state, true by unfolding, and what each read gives after each write. -/

namespace Sys2Proof.Machine

variable (s : State)

/-! ### wv -/

@[simp] theorem State.wv_clock (idx sub : Nat) (v : Val) : (s.wv idx sub v).clock = s.clock := rfl
@[simp] theorem State.wv_free (idx sub : Nat) (v : Val) : (s.wv idx sub v).free = s.free := rfl
@[simp] theorem State.wv_od (idx sub : Nat) (v : Val) : (s.wv idx sub v).od = s.od.put (key idx sub) v := rfl
@[simp] theorem State.wv_force (idx sub : Nat) (v : Val) : (s.wv idx sub v).force = s.force := rfl
@[simp] theorem State.wv_otp (idx sub : Nat) (v : Val) : (s.wv idx sub v).otp = s.otp := rfl
@[simp] theorem State.wv_log (idx sub : Nat) (v : Val) : (s.wv idx sub v).log = s.log := rfl
@[simp] theorem State.wv_time (idx sub : Nat) (v : Val) : (s.wv idx sub v).time = s.time := rfl
@[simp] theorem State.wv_ptp (idx sub : Nat) (v : Val) : (s.wv idx sub v).ptp = s.ptp := rfl
@[simp] theorem State.wv_trigs (idx sub : Nat) (v : Val) : (s.wv idx sub v).trigs = s.trigs := rfl
@[simp] theorem State.wv_caps (idx sub : Nat) (v : Val) : (s.wv idx sub v).caps = s.caps := rfl
@[simp] theorem State.wv_units (idx sub : Nat) (v : Val) : (s.wv idx sub v).units = s.units := rfl
@[simp] theorem State.wv_declared (idx sub : Nat) (v : Val) : (s.wv idx sub v).declared = s.declared := rfl
@[simp] theorem State.wv_lvsTest (idx sub : Nat) (v : Val) : (s.wv idx sub v).lvsTest = s.lvsTest := rfl
@[simp] theorem State.wv_lvsTestAt (idx sub : Nat) (v : Val) : (s.wv idx sub v).lvsTestAt = s.lvsTestAt := rfl
@[simp] theorem State.wv_link (idx sub : Nat) (v : Val) : (s.wv idx sub v).link = s.link := rfl
@[simp] theorem State.wv_procs (idx sub : Nat) (v : Val) : (s.wv idx sub v).procs = s.procs := rfl
@[simp] theorem State.wv_primary (idx sub : Nat) (v : Val) : (s.wv idx sub v).primary = s.primary := rfl
@[simp] theorem State.wv_power (idx sub : Nat) (v : Val) : (s.wv idx sub v).power = s.power := rfl
@[simp] theorem State.wv_loaded (idx sub : Nat) (v : Val) : (s.wv idx sub v).loaded = s.loaded := rfl
@[simp] theorem State.wv_checks (idx sub : Nat) (v : Val) : (s.wv idx sub v).checks = s.checks := rfl
@[simp] theorem State.wv_tally (idx sub : Nat) (v : Val) : (s.wv idx sub v).tally = s.tally := rfl
@[simp] theorem State.wv_conds (idx sub : Nat) (v : Val) : (s.wv idx sub v).conds = s.conds := rfl
@[simp] theorem State.wv_cans (idx sub : Nat) (v : Val) : (s.wv idx sub v).cans = s.cans := rfl
@[simp] theorem State.wv_tpdos (idx sub : Nat) (v : Val) : (s.wv idx sub v).tpdos = s.tpdos := rfl
@[simp] theorem State.wv_zdp (idx sub : Nat) (v : Val) : (s.wv idx sub v).zdp = s.zdp := rfl
@[simp] theorem State.wv_partReads (idx sub : Nat) (v : Val) : (s.wv idx sub v).partReads = s.partReads := rfl
@[simp] theorem State.wv_partWrites (idx sub : Nat) (v : Val) : (s.wv idx sub v).partWrites = s.partWrites := rfl
@[simp] theorem State.wv_sess (idx sub : Nat) (v : Val) : (s.wv idx sub v).sess = s.sess := rfl
@[simp] theorem State.wv_ports (idx sub : Nat) (v : Val) : (s.wv idx sub v).ports = s.ports := rfl
@[simp] theorem State.wv_mcast (idx sub : Nat) (v : Val) : (s.wv idx sub v).mcast = s.mcast := rfl
@[simp] theorem State.wv_cores (idx sub : Nat) (v : Val) : (s.wv idx sub v).cores = s.cores := rfl
@[simp] theorem State.wv_segs (idx sub : Nat) (v : Val) : (s.wv idx sub v).segs = s.segs := rfl
@[simp] theorem State.wv_active (idx sub : Nat) (v : Val) : (s.wv idx sub v).active = s.active := rfl
@[simp] theorem State.wv_unpatched (idx sub : Nat) (v : Val) : (s.wv idx sub v).unpatched = s.unpatched := rfl
@[simp] theorem State.wv_places (idx sub : Nat) (v : Val) : (s.wv idx sub v).places = s.places := rfl
@[simp] theorem State.wv_layers (idx sub : Nat) (v : Val) : (s.wv idx sub v).layers = s.layers := rfl
@[simp] theorem State.wv_screens (idx sub : Nat) (v : Val) : (s.wv idx sub v).screens = s.screens := rfl
@[simp] theorem State.wv_commits (idx sub : Nat) (v : Val) : (s.wv idx sub v).commits = s.commits := rfl
@[simp] theorem State.wv_receipts (idx sub : Nat) (v : Val) : (s.wv idx sub v).receipts = s.receipts := rfl
@[simp] theorem State.wv_queued (idx sub : Nat) (v : Val) : (s.wv idx sub v).queued = s.queued := rfl
@[simp] theorem State.wv_gfx (idx sub : Nat) (v : Val) : (s.wv idx sub v).gfx = s.gfx := rfl
@[simp] theorem State.wv_ctxs (idx sub : Nat) (v : Val) : (s.wv idx sub v).ctxs = s.ctxs := rfl
@[simp] theorem State.wv_zttQ (idx sub : Nat) (v : Val) : (s.wv idx sub v).zttQ = s.zttQ := rfl
@[simp] theorem State.wv_engines (idx sub : Nat) (v : Val) : (s.wv idx sub v).engines = s.engines := rfl
@[simp] theorem State.wv_engLast (idx sub : Nat) (v : Val) : (s.wv idx sub v).engLast = s.engLast := rfl
@[simp] theorem State.wv_encs (idx sub : Nat) (v : Val) : (s.wv idx sub v).encs = s.encs := rfl
@[simp] theorem State.wv_touch (idx sub : Nat) (v : Val) : (s.wv idx sub v).touch = s.touch := rfl
@[simp] theorem State.wv_rings (idx sub : Nat) (v : Val) : (s.wv idx sub v).rings = s.rings := rfl
@[simp] theorem State.wv_pcie (idx sub : Nat) (v : Val) : (s.wv idx sub v).pcie = s.pcie := rfl
@[simp] theorem State.wv_lanes (idx sub : Nat) (v : Val) : (s.wv idx sub v).lanes = s.lanes := rfl
@[simp] theorem State.wv_spay (idx sub : Nat) (v : Val) : (s.wv idx sub v).spay = s.spay := rfl
@[simp] theorem State.wv_mem (idx sub : Nat) (v : Val) : (s.wv idx sub v).mem = s.mem := rfl
@[simp] theorem State.wv_sys (idx sub : Nat) (v : Val) : (s.wv idx sub v).sys = s.sys := rfl
@[simp] theorem State.wv_flash (idx sub : Nat) (v : Val) : (s.wv idx sub v).flash = s.flash := rfl
@[simp] theorem State.wv_upd (idx sub : Nat) (v : Val) : (s.wv idx sub v).upd = s.upd := rfl
@[simp] theorem State.wv_out (idx sub : Nat) (v : Val) : (s.wv idx sub v).out = s.out := rfl
@[simp] theorem State.wv_pending (idx sub : Nat) (v : Val) : (s.wv idx sub v).pending = s.pending := rfl

/-! ### wn -/

@[simp] theorem State.wn_clock (idx sub v : Nat) : (s.wn idx sub v).clock = s.clock := rfl
@[simp] theorem State.wn_free (idx sub v : Nat) : (s.wn idx sub v).free = s.free := rfl
@[simp] theorem State.wn_od (idx sub v : Nat) : (s.wn idx sub v).od = s.od.put (key idx sub) (.num v) := rfl
@[simp] theorem State.wn_force (idx sub v : Nat) : (s.wn idx sub v).force = s.force := rfl
@[simp] theorem State.wn_otp (idx sub v : Nat) : (s.wn idx sub v).otp = s.otp := rfl
@[simp] theorem State.wn_log (idx sub v : Nat) : (s.wn idx sub v).log = s.log := rfl
@[simp] theorem State.wn_time (idx sub v : Nat) : (s.wn idx sub v).time = s.time := rfl
@[simp] theorem State.wn_ptp (idx sub v : Nat) : (s.wn idx sub v).ptp = s.ptp := rfl
@[simp] theorem State.wn_trigs (idx sub v : Nat) : (s.wn idx sub v).trigs = s.trigs := rfl
@[simp] theorem State.wn_caps (idx sub v : Nat) : (s.wn idx sub v).caps = s.caps := rfl
@[simp] theorem State.wn_units (idx sub v : Nat) : (s.wn idx sub v).units = s.units := rfl
@[simp] theorem State.wn_declared (idx sub v : Nat) : (s.wn idx sub v).declared = s.declared := rfl
@[simp] theorem State.wn_lvsTest (idx sub v : Nat) : (s.wn idx sub v).lvsTest = s.lvsTest := rfl
@[simp] theorem State.wn_lvsTestAt (idx sub v : Nat) : (s.wn idx sub v).lvsTestAt = s.lvsTestAt := rfl
@[simp] theorem State.wn_link (idx sub v : Nat) : (s.wn idx sub v).link = s.link := rfl
@[simp] theorem State.wn_procs (idx sub v : Nat) : (s.wn idx sub v).procs = s.procs := rfl
@[simp] theorem State.wn_primary (idx sub v : Nat) : (s.wn idx sub v).primary = s.primary := rfl
@[simp] theorem State.wn_power (idx sub v : Nat) : (s.wn idx sub v).power = s.power := rfl
@[simp] theorem State.wn_loaded (idx sub v : Nat) : (s.wn idx sub v).loaded = s.loaded := rfl
@[simp] theorem State.wn_checks (idx sub v : Nat) : (s.wn idx sub v).checks = s.checks := rfl
@[simp] theorem State.wn_tally (idx sub v : Nat) : (s.wn idx sub v).tally = s.tally := rfl
@[simp] theorem State.wn_conds (idx sub v : Nat) : (s.wn idx sub v).conds = s.conds := rfl
@[simp] theorem State.wn_cans (idx sub v : Nat) : (s.wn idx sub v).cans = s.cans := rfl
@[simp] theorem State.wn_tpdos (idx sub v : Nat) : (s.wn idx sub v).tpdos = s.tpdos := rfl
@[simp] theorem State.wn_zdp (idx sub v : Nat) : (s.wn idx sub v).zdp = s.zdp := rfl
@[simp] theorem State.wn_partReads (idx sub v : Nat) : (s.wn idx sub v).partReads = s.partReads := rfl
@[simp] theorem State.wn_partWrites (idx sub v : Nat) : (s.wn idx sub v).partWrites = s.partWrites := rfl
@[simp] theorem State.wn_sess (idx sub v : Nat) : (s.wn idx sub v).sess = s.sess := rfl
@[simp] theorem State.wn_ports (idx sub v : Nat) : (s.wn idx sub v).ports = s.ports := rfl
@[simp] theorem State.wn_mcast (idx sub v : Nat) : (s.wn idx sub v).mcast = s.mcast := rfl
@[simp] theorem State.wn_cores (idx sub v : Nat) : (s.wn idx sub v).cores = s.cores := rfl
@[simp] theorem State.wn_segs (idx sub v : Nat) : (s.wn idx sub v).segs = s.segs := rfl
@[simp] theorem State.wn_active (idx sub v : Nat) : (s.wn idx sub v).active = s.active := rfl
@[simp] theorem State.wn_unpatched (idx sub v : Nat) : (s.wn idx sub v).unpatched = s.unpatched := rfl
@[simp] theorem State.wn_places (idx sub v : Nat) : (s.wn idx sub v).places = s.places := rfl
@[simp] theorem State.wn_layers (idx sub v : Nat) : (s.wn idx sub v).layers = s.layers := rfl
@[simp] theorem State.wn_screens (idx sub v : Nat) : (s.wn idx sub v).screens = s.screens := rfl
@[simp] theorem State.wn_commits (idx sub v : Nat) : (s.wn idx sub v).commits = s.commits := rfl
@[simp] theorem State.wn_receipts (idx sub v : Nat) : (s.wn idx sub v).receipts = s.receipts := rfl
@[simp] theorem State.wn_queued (idx sub v : Nat) : (s.wn idx sub v).queued = s.queued := rfl
@[simp] theorem State.wn_gfx (idx sub v : Nat) : (s.wn idx sub v).gfx = s.gfx := rfl
@[simp] theorem State.wn_ctxs (idx sub v : Nat) : (s.wn idx sub v).ctxs = s.ctxs := rfl
@[simp] theorem State.wn_zttQ (idx sub v : Nat) : (s.wn idx sub v).zttQ = s.zttQ := rfl
@[simp] theorem State.wn_engines (idx sub v : Nat) : (s.wn idx sub v).engines = s.engines := rfl
@[simp] theorem State.wn_engLast (idx sub v : Nat) : (s.wn idx sub v).engLast = s.engLast := rfl
@[simp] theorem State.wn_encs (idx sub v : Nat) : (s.wn idx sub v).encs = s.encs := rfl
@[simp] theorem State.wn_touch (idx sub v : Nat) : (s.wn idx sub v).touch = s.touch := rfl
@[simp] theorem State.wn_rings (idx sub v : Nat) : (s.wn idx sub v).rings = s.rings := rfl
@[simp] theorem State.wn_pcie (idx sub v : Nat) : (s.wn idx sub v).pcie = s.pcie := rfl
@[simp] theorem State.wn_lanes (idx sub v : Nat) : (s.wn idx sub v).lanes = s.lanes := rfl
@[simp] theorem State.wn_spay (idx sub v : Nat) : (s.wn idx sub v).spay = s.spay := rfl
@[simp] theorem State.wn_mem (idx sub v : Nat) : (s.wn idx sub v).mem = s.mem := rfl
@[simp] theorem State.wn_sys (idx sub v : Nat) : (s.wn idx sub v).sys = s.sys := rfl
@[simp] theorem State.wn_flash (idx sub v : Nat) : (s.wn idx sub v).flash = s.flash := rfl
@[simp] theorem State.wn_upd (idx sub v : Nat) : (s.wn idx sub v).upd = s.upd := rfl
@[simp] theorem State.wn_out (idx sub v : Nat) : (s.wn idx sub v).out = s.out := rfl
@[simp] theorem State.wn_pending (idx sub v : Nat) : (s.wn idx sub v).pending = s.pending := rfl

/-! ### wi -/

@[simp] theorem State.wi_clock (idx sub : Nat) (v : Int) : (s.wi idx sub v).clock = s.clock := rfl
@[simp] theorem State.wi_free (idx sub : Nat) (v : Int) : (s.wi idx sub v).free = s.free := rfl
@[simp] theorem State.wi_od (idx sub : Nat) (v : Int) : (s.wi idx sub v).od = s.od.put (key idx sub) (.num v) := rfl
@[simp] theorem State.wi_force (idx sub : Nat) (v : Int) : (s.wi idx sub v).force = s.force := rfl
@[simp] theorem State.wi_otp (idx sub : Nat) (v : Int) : (s.wi idx sub v).otp = s.otp := rfl
@[simp] theorem State.wi_log (idx sub : Nat) (v : Int) : (s.wi idx sub v).log = s.log := rfl
@[simp] theorem State.wi_time (idx sub : Nat) (v : Int) : (s.wi idx sub v).time = s.time := rfl
@[simp] theorem State.wi_ptp (idx sub : Nat) (v : Int) : (s.wi idx sub v).ptp = s.ptp := rfl
@[simp] theorem State.wi_trigs (idx sub : Nat) (v : Int) : (s.wi idx sub v).trigs = s.trigs := rfl
@[simp] theorem State.wi_caps (idx sub : Nat) (v : Int) : (s.wi idx sub v).caps = s.caps := rfl
@[simp] theorem State.wi_units (idx sub : Nat) (v : Int) : (s.wi idx sub v).units = s.units := rfl
@[simp] theorem State.wi_declared (idx sub : Nat) (v : Int) : (s.wi idx sub v).declared = s.declared := rfl
@[simp] theorem State.wi_lvsTest (idx sub : Nat) (v : Int) : (s.wi idx sub v).lvsTest = s.lvsTest := rfl
@[simp] theorem State.wi_lvsTestAt (idx sub : Nat) (v : Int) : (s.wi idx sub v).lvsTestAt = s.lvsTestAt := rfl
@[simp] theorem State.wi_link (idx sub : Nat) (v : Int) : (s.wi idx sub v).link = s.link := rfl
@[simp] theorem State.wi_procs (idx sub : Nat) (v : Int) : (s.wi idx sub v).procs = s.procs := rfl
@[simp] theorem State.wi_primary (idx sub : Nat) (v : Int) : (s.wi idx sub v).primary = s.primary := rfl
@[simp] theorem State.wi_power (idx sub : Nat) (v : Int) : (s.wi idx sub v).power = s.power := rfl
@[simp] theorem State.wi_loaded (idx sub : Nat) (v : Int) : (s.wi idx sub v).loaded = s.loaded := rfl
@[simp] theorem State.wi_checks (idx sub : Nat) (v : Int) : (s.wi idx sub v).checks = s.checks := rfl
@[simp] theorem State.wi_tally (idx sub : Nat) (v : Int) : (s.wi idx sub v).tally = s.tally := rfl
@[simp] theorem State.wi_conds (idx sub : Nat) (v : Int) : (s.wi idx sub v).conds = s.conds := rfl
@[simp] theorem State.wi_cans (idx sub : Nat) (v : Int) : (s.wi idx sub v).cans = s.cans := rfl
@[simp] theorem State.wi_tpdos (idx sub : Nat) (v : Int) : (s.wi idx sub v).tpdos = s.tpdos := rfl
@[simp] theorem State.wi_zdp (idx sub : Nat) (v : Int) : (s.wi idx sub v).zdp = s.zdp := rfl
@[simp] theorem State.wi_partReads (idx sub : Nat) (v : Int) : (s.wi idx sub v).partReads = s.partReads := rfl
@[simp] theorem State.wi_partWrites (idx sub : Nat) (v : Int) : (s.wi idx sub v).partWrites = s.partWrites := rfl
@[simp] theorem State.wi_sess (idx sub : Nat) (v : Int) : (s.wi idx sub v).sess = s.sess := rfl
@[simp] theorem State.wi_ports (idx sub : Nat) (v : Int) : (s.wi idx sub v).ports = s.ports := rfl
@[simp] theorem State.wi_mcast (idx sub : Nat) (v : Int) : (s.wi idx sub v).mcast = s.mcast := rfl
@[simp] theorem State.wi_cores (idx sub : Nat) (v : Int) : (s.wi idx sub v).cores = s.cores := rfl
@[simp] theorem State.wi_segs (idx sub : Nat) (v : Int) : (s.wi idx sub v).segs = s.segs := rfl
@[simp] theorem State.wi_active (idx sub : Nat) (v : Int) : (s.wi idx sub v).active = s.active := rfl
@[simp] theorem State.wi_unpatched (idx sub : Nat) (v : Int) : (s.wi idx sub v).unpatched = s.unpatched := rfl
@[simp] theorem State.wi_places (idx sub : Nat) (v : Int) : (s.wi idx sub v).places = s.places := rfl
@[simp] theorem State.wi_layers (idx sub : Nat) (v : Int) : (s.wi idx sub v).layers = s.layers := rfl
@[simp] theorem State.wi_screens (idx sub : Nat) (v : Int) : (s.wi idx sub v).screens = s.screens := rfl
@[simp] theorem State.wi_commits (idx sub : Nat) (v : Int) : (s.wi idx sub v).commits = s.commits := rfl
@[simp] theorem State.wi_receipts (idx sub : Nat) (v : Int) : (s.wi idx sub v).receipts = s.receipts := rfl
@[simp] theorem State.wi_queued (idx sub : Nat) (v : Int) : (s.wi idx sub v).queued = s.queued := rfl
@[simp] theorem State.wi_gfx (idx sub : Nat) (v : Int) : (s.wi idx sub v).gfx = s.gfx := rfl
@[simp] theorem State.wi_ctxs (idx sub : Nat) (v : Int) : (s.wi idx sub v).ctxs = s.ctxs := rfl
@[simp] theorem State.wi_zttQ (idx sub : Nat) (v : Int) : (s.wi idx sub v).zttQ = s.zttQ := rfl
@[simp] theorem State.wi_engines (idx sub : Nat) (v : Int) : (s.wi idx sub v).engines = s.engines := rfl
@[simp] theorem State.wi_engLast (idx sub : Nat) (v : Int) : (s.wi idx sub v).engLast = s.engLast := rfl
@[simp] theorem State.wi_encs (idx sub : Nat) (v : Int) : (s.wi idx sub v).encs = s.encs := rfl
@[simp] theorem State.wi_touch (idx sub : Nat) (v : Int) : (s.wi idx sub v).touch = s.touch := rfl
@[simp] theorem State.wi_rings (idx sub : Nat) (v : Int) : (s.wi idx sub v).rings = s.rings := rfl
@[simp] theorem State.wi_pcie (idx sub : Nat) (v : Int) : (s.wi idx sub v).pcie = s.pcie := rfl
@[simp] theorem State.wi_lanes (idx sub : Nat) (v : Int) : (s.wi idx sub v).lanes = s.lanes := rfl
@[simp] theorem State.wi_spay (idx sub : Nat) (v : Int) : (s.wi idx sub v).spay = s.spay := rfl
@[simp] theorem State.wi_mem (idx sub : Nat) (v : Int) : (s.wi idx sub v).mem = s.mem := rfl
@[simp] theorem State.wi_sys (idx sub : Nat) (v : Int) : (s.wi idx sub v).sys = s.sys := rfl
@[simp] theorem State.wi_flash (idx sub : Nat) (v : Int) : (s.wi idx sub v).flash = s.flash := rfl
@[simp] theorem State.wi_upd (idx sub : Nat) (v : Int) : (s.wi idx sub v).upd = s.upd := rfl
@[simp] theorem State.wi_out (idx sub : Nat) (v : Int) : (s.wi idx sub v).out = s.out := rfl
@[simp] theorem State.wi_pending (idx sub : Nat) (v : Int) : (s.wi idx sub v).pending = s.pending := rfl

/-! ### wb -/

@[simp] theorem State.wb_clock (idx sub : Nat) (b : List Byte) : (s.wb idx sub b).clock = s.clock := rfl
@[simp] theorem State.wb_free (idx sub : Nat) (b : List Byte) : (s.wb idx sub b).free = s.free := rfl
@[simp] theorem State.wb_od (idx sub : Nat) (b : List Byte) : (s.wb idx sub b).od = s.od.put (key idx sub) (.bytes b) := rfl
@[simp] theorem State.wb_force (idx sub : Nat) (b : List Byte) : (s.wb idx sub b).force = s.force := rfl
@[simp] theorem State.wb_otp (idx sub : Nat) (b : List Byte) : (s.wb idx sub b).otp = s.otp := rfl
@[simp] theorem State.wb_log (idx sub : Nat) (b : List Byte) : (s.wb idx sub b).log = s.log := rfl
@[simp] theorem State.wb_time (idx sub : Nat) (b : List Byte) : (s.wb idx sub b).time = s.time := rfl
@[simp] theorem State.wb_ptp (idx sub : Nat) (b : List Byte) : (s.wb idx sub b).ptp = s.ptp := rfl
@[simp] theorem State.wb_trigs (idx sub : Nat) (b : List Byte) : (s.wb idx sub b).trigs = s.trigs := rfl
@[simp] theorem State.wb_caps (idx sub : Nat) (b : List Byte) : (s.wb idx sub b).caps = s.caps := rfl
@[simp] theorem State.wb_units (idx sub : Nat) (b : List Byte) : (s.wb idx sub b).units = s.units := rfl
@[simp] theorem State.wb_declared (idx sub : Nat) (b : List Byte) : (s.wb idx sub b).declared = s.declared := rfl
@[simp] theorem State.wb_lvsTest (idx sub : Nat) (b : List Byte) : (s.wb idx sub b).lvsTest = s.lvsTest := rfl
@[simp] theorem State.wb_lvsTestAt (idx sub : Nat) (b : List Byte) : (s.wb idx sub b).lvsTestAt = s.lvsTestAt := rfl
@[simp] theorem State.wb_link (idx sub : Nat) (b : List Byte) : (s.wb idx sub b).link = s.link := rfl
@[simp] theorem State.wb_procs (idx sub : Nat) (b : List Byte) : (s.wb idx sub b).procs = s.procs := rfl
@[simp] theorem State.wb_primary (idx sub : Nat) (b : List Byte) : (s.wb idx sub b).primary = s.primary := rfl
@[simp] theorem State.wb_power (idx sub : Nat) (b : List Byte) : (s.wb idx sub b).power = s.power := rfl
@[simp] theorem State.wb_loaded (idx sub : Nat) (b : List Byte) : (s.wb idx sub b).loaded = s.loaded := rfl
@[simp] theorem State.wb_checks (idx sub : Nat) (b : List Byte) : (s.wb idx sub b).checks = s.checks := rfl
@[simp] theorem State.wb_tally (idx sub : Nat) (b : List Byte) : (s.wb idx sub b).tally = s.tally := rfl
@[simp] theorem State.wb_conds (idx sub : Nat) (b : List Byte) : (s.wb idx sub b).conds = s.conds := rfl
@[simp] theorem State.wb_cans (idx sub : Nat) (b : List Byte) : (s.wb idx sub b).cans = s.cans := rfl
@[simp] theorem State.wb_tpdos (idx sub : Nat) (b : List Byte) : (s.wb idx sub b).tpdos = s.tpdos := rfl
@[simp] theorem State.wb_zdp (idx sub : Nat) (b : List Byte) : (s.wb idx sub b).zdp = s.zdp := rfl
@[simp] theorem State.wb_partReads (idx sub : Nat) (b : List Byte) : (s.wb idx sub b).partReads = s.partReads := rfl
@[simp] theorem State.wb_partWrites (idx sub : Nat) (b : List Byte) : (s.wb idx sub b).partWrites = s.partWrites := rfl
@[simp] theorem State.wb_sess (idx sub : Nat) (b : List Byte) : (s.wb idx sub b).sess = s.sess := rfl
@[simp] theorem State.wb_ports (idx sub : Nat) (b : List Byte) : (s.wb idx sub b).ports = s.ports := rfl
@[simp] theorem State.wb_mcast (idx sub : Nat) (b : List Byte) : (s.wb idx sub b).mcast = s.mcast := rfl
@[simp] theorem State.wb_cores (idx sub : Nat) (b : List Byte) : (s.wb idx sub b).cores = s.cores := rfl
@[simp] theorem State.wb_segs (idx sub : Nat) (b : List Byte) : (s.wb idx sub b).segs = s.segs := rfl
@[simp] theorem State.wb_active (idx sub : Nat) (b : List Byte) : (s.wb idx sub b).active = s.active := rfl
@[simp] theorem State.wb_unpatched (idx sub : Nat) (b : List Byte) : (s.wb idx sub b).unpatched = s.unpatched := rfl
@[simp] theorem State.wb_places (idx sub : Nat) (b : List Byte) : (s.wb idx sub b).places = s.places := rfl
@[simp] theorem State.wb_layers (idx sub : Nat) (b : List Byte) : (s.wb idx sub b).layers = s.layers := rfl
@[simp] theorem State.wb_screens (idx sub : Nat) (b : List Byte) : (s.wb idx sub b).screens = s.screens := rfl
@[simp] theorem State.wb_commits (idx sub : Nat) (b : List Byte) : (s.wb idx sub b).commits = s.commits := rfl
@[simp] theorem State.wb_receipts (idx sub : Nat) (b : List Byte) : (s.wb idx sub b).receipts = s.receipts := rfl
@[simp] theorem State.wb_queued (idx sub : Nat) (b : List Byte) : (s.wb idx sub b).queued = s.queued := rfl
@[simp] theorem State.wb_gfx (idx sub : Nat) (b : List Byte) : (s.wb idx sub b).gfx = s.gfx := rfl
@[simp] theorem State.wb_ctxs (idx sub : Nat) (b : List Byte) : (s.wb idx sub b).ctxs = s.ctxs := rfl
@[simp] theorem State.wb_zttQ (idx sub : Nat) (b : List Byte) : (s.wb idx sub b).zttQ = s.zttQ := rfl
@[simp] theorem State.wb_engines (idx sub : Nat) (b : List Byte) : (s.wb idx sub b).engines = s.engines := rfl
@[simp] theorem State.wb_engLast (idx sub : Nat) (b : List Byte) : (s.wb idx sub b).engLast = s.engLast := rfl
@[simp] theorem State.wb_encs (idx sub : Nat) (b : List Byte) : (s.wb idx sub b).encs = s.encs := rfl
@[simp] theorem State.wb_touch (idx sub : Nat) (b : List Byte) : (s.wb idx sub b).touch = s.touch := rfl
@[simp] theorem State.wb_rings (idx sub : Nat) (b : List Byte) : (s.wb idx sub b).rings = s.rings := rfl
@[simp] theorem State.wb_pcie (idx sub : Nat) (b : List Byte) : (s.wb idx sub b).pcie = s.pcie := rfl
@[simp] theorem State.wb_lanes (idx sub : Nat) (b : List Byte) : (s.wb idx sub b).lanes = s.lanes := rfl
@[simp] theorem State.wb_spay (idx sub : Nat) (b : List Byte) : (s.wb idx sub b).spay = s.spay := rfl
@[simp] theorem State.wb_mem (idx sub : Nat) (b : List Byte) : (s.wb idx sub b).mem = s.mem := rfl
@[simp] theorem State.wb_sys (idx sub : Nat) (b : List Byte) : (s.wb idx sub b).sys = s.sys := rfl
@[simp] theorem State.wb_flash (idx sub : Nat) (b : List Byte) : (s.wb idx sub b).flash = s.flash := rfl
@[simp] theorem State.wb_upd (idx sub : Nat) (b : List Byte) : (s.wb idx sub b).upd = s.upd := rfl
@[simp] theorem State.wb_out (idx sub : Nat) (b : List Byte) : (s.wb idx sub b).out = s.out := rfl
@[simp] theorem State.wb_pending (idx sub : Nat) (b : List Byte) : (s.wb idx sub b).pending = s.pending := rfl

/-! ### setForce -/

@[simp] theorem State.setForce_clock (idx sub : Nat) (v : Val) : (s.setForce idx sub v).clock = s.clock := rfl
@[simp] theorem State.setForce_free (idx sub : Nat) (v : Val) : (s.setForce idx sub v).free = s.free := rfl
@[simp] theorem State.setForce_od (idx sub : Nat) (v : Val) : (s.setForce idx sub v).od = s.od := rfl
@[simp] theorem State.setForce_force (idx sub : Nat) (v : Val) : (s.setForce idx sub v).force = s.force.put (key idx sub) v := rfl
@[simp] theorem State.setForce_otp (idx sub : Nat) (v : Val) : (s.setForce idx sub v).otp = s.otp := rfl
@[simp] theorem State.setForce_log (idx sub : Nat) (v : Val) : (s.setForce idx sub v).log = s.log := rfl
@[simp] theorem State.setForce_time (idx sub : Nat) (v : Val) : (s.setForce idx sub v).time = s.time := rfl
@[simp] theorem State.setForce_ptp (idx sub : Nat) (v : Val) : (s.setForce idx sub v).ptp = s.ptp := rfl
@[simp] theorem State.setForce_trigs (idx sub : Nat) (v : Val) : (s.setForce idx sub v).trigs = s.trigs := rfl
@[simp] theorem State.setForce_caps (idx sub : Nat) (v : Val) : (s.setForce idx sub v).caps = s.caps := rfl
@[simp] theorem State.setForce_units (idx sub : Nat) (v : Val) : (s.setForce idx sub v).units = s.units := rfl
@[simp] theorem State.setForce_declared (idx sub : Nat) (v : Val) : (s.setForce idx sub v).declared = s.declared := rfl
@[simp] theorem State.setForce_lvsTest (idx sub : Nat) (v : Val) : (s.setForce idx sub v).lvsTest = s.lvsTest := rfl
@[simp] theorem State.setForce_lvsTestAt (idx sub : Nat) (v : Val) : (s.setForce idx sub v).lvsTestAt = s.lvsTestAt := rfl
@[simp] theorem State.setForce_link (idx sub : Nat) (v : Val) : (s.setForce idx sub v).link = s.link := rfl
@[simp] theorem State.setForce_procs (idx sub : Nat) (v : Val) : (s.setForce idx sub v).procs = s.procs := rfl
@[simp] theorem State.setForce_primary (idx sub : Nat) (v : Val) : (s.setForce idx sub v).primary = s.primary := rfl
@[simp] theorem State.setForce_power (idx sub : Nat) (v : Val) : (s.setForce idx sub v).power = s.power := rfl
@[simp] theorem State.setForce_loaded (idx sub : Nat) (v : Val) : (s.setForce idx sub v).loaded = s.loaded := rfl
@[simp] theorem State.setForce_checks (idx sub : Nat) (v : Val) : (s.setForce idx sub v).checks = s.checks := rfl
@[simp] theorem State.setForce_tally (idx sub : Nat) (v : Val) : (s.setForce idx sub v).tally = s.tally := rfl
@[simp] theorem State.setForce_conds (idx sub : Nat) (v : Val) : (s.setForce idx sub v).conds = s.conds := rfl
@[simp] theorem State.setForce_cans (idx sub : Nat) (v : Val) : (s.setForce idx sub v).cans = s.cans := rfl
@[simp] theorem State.setForce_tpdos (idx sub : Nat) (v : Val) : (s.setForce idx sub v).tpdos = s.tpdos := rfl
@[simp] theorem State.setForce_zdp (idx sub : Nat) (v : Val) : (s.setForce idx sub v).zdp = s.zdp := rfl
@[simp] theorem State.setForce_partReads (idx sub : Nat) (v : Val) : (s.setForce idx sub v).partReads = s.partReads := rfl
@[simp] theorem State.setForce_partWrites (idx sub : Nat) (v : Val) : (s.setForce idx sub v).partWrites = s.partWrites := rfl
@[simp] theorem State.setForce_sess (idx sub : Nat) (v : Val) : (s.setForce idx sub v).sess = s.sess := rfl
@[simp] theorem State.setForce_ports (idx sub : Nat) (v : Val) : (s.setForce idx sub v).ports = s.ports := rfl
@[simp] theorem State.setForce_mcast (idx sub : Nat) (v : Val) : (s.setForce idx sub v).mcast = s.mcast := rfl
@[simp] theorem State.setForce_cores (idx sub : Nat) (v : Val) : (s.setForce idx sub v).cores = s.cores := rfl
@[simp] theorem State.setForce_segs (idx sub : Nat) (v : Val) : (s.setForce idx sub v).segs = s.segs := rfl
@[simp] theorem State.setForce_active (idx sub : Nat) (v : Val) : (s.setForce idx sub v).active = s.active := rfl
@[simp] theorem State.setForce_unpatched (idx sub : Nat) (v : Val) : (s.setForce idx sub v).unpatched = s.unpatched := rfl
@[simp] theorem State.setForce_places (idx sub : Nat) (v : Val) : (s.setForce idx sub v).places = s.places := rfl
@[simp] theorem State.setForce_layers (idx sub : Nat) (v : Val) : (s.setForce idx sub v).layers = s.layers := rfl
@[simp] theorem State.setForce_screens (idx sub : Nat) (v : Val) : (s.setForce idx sub v).screens = s.screens := rfl
@[simp] theorem State.setForce_commits (idx sub : Nat) (v : Val) : (s.setForce idx sub v).commits = s.commits := rfl
@[simp] theorem State.setForce_receipts (idx sub : Nat) (v : Val) : (s.setForce idx sub v).receipts = s.receipts := rfl
@[simp] theorem State.setForce_queued (idx sub : Nat) (v : Val) : (s.setForce idx sub v).queued = s.queued := rfl
@[simp] theorem State.setForce_gfx (idx sub : Nat) (v : Val) : (s.setForce idx sub v).gfx = s.gfx := rfl
@[simp] theorem State.setForce_ctxs (idx sub : Nat) (v : Val) : (s.setForce idx sub v).ctxs = s.ctxs := rfl
@[simp] theorem State.setForce_zttQ (idx sub : Nat) (v : Val) : (s.setForce idx sub v).zttQ = s.zttQ := rfl
@[simp] theorem State.setForce_engines (idx sub : Nat) (v : Val) : (s.setForce idx sub v).engines = s.engines := rfl
@[simp] theorem State.setForce_engLast (idx sub : Nat) (v : Val) : (s.setForce idx sub v).engLast = s.engLast := rfl
@[simp] theorem State.setForce_encs (idx sub : Nat) (v : Val) : (s.setForce idx sub v).encs = s.encs := rfl
@[simp] theorem State.setForce_touch (idx sub : Nat) (v : Val) : (s.setForce idx sub v).touch = s.touch := rfl
@[simp] theorem State.setForce_rings (idx sub : Nat) (v : Val) : (s.setForce idx sub v).rings = s.rings := rfl
@[simp] theorem State.setForce_pcie (idx sub : Nat) (v : Val) : (s.setForce idx sub v).pcie = s.pcie := rfl
@[simp] theorem State.setForce_lanes (idx sub : Nat) (v : Val) : (s.setForce idx sub v).lanes = s.lanes := rfl
@[simp] theorem State.setForce_spay (idx sub : Nat) (v : Val) : (s.setForce idx sub v).spay = s.spay := rfl
@[simp] theorem State.setForce_mem (idx sub : Nat) (v : Val) : (s.setForce idx sub v).mem = s.mem := rfl
@[simp] theorem State.setForce_sys (idx sub : Nat) (v : Val) : (s.setForce idx sub v).sys = s.sys := rfl
@[simp] theorem State.setForce_flash (idx sub : Nat) (v : Val) : (s.setForce idx sub v).flash = s.flash := rfl
@[simp] theorem State.setForce_upd (idx sub : Nat) (v : Val) : (s.setForce idx sub v).upd = s.upd := rfl
@[simp] theorem State.setForce_out (idx sub : Nat) (v : Val) : (s.setForce idx sub v).out = s.out := rfl
@[simp] theorem State.setForce_pending (idx sub : Nat) (v : Val) : (s.setForce idx sub v).pending = s.pending := rfl

/-! ### setUnit -/

@[simp] theorem State.setUnit_clock (k : Nat) (x : UnitS) : (s.setUnit k x).clock = s.clock := rfl
@[simp] theorem State.setUnit_free (k : Nat) (x : UnitS) : (s.setUnit k x).free = s.free := rfl
@[simp] theorem State.setUnit_od (k : Nat) (x : UnitS) : (s.setUnit k x).od = s.od := rfl
@[simp] theorem State.setUnit_force (k : Nat) (x : UnitS) : (s.setUnit k x).force = s.force := rfl
@[simp] theorem State.setUnit_otp (k : Nat) (x : UnitS) : (s.setUnit k x).otp = s.otp := rfl
@[simp] theorem State.setUnit_log (k : Nat) (x : UnitS) : (s.setUnit k x).log = s.log := rfl
@[simp] theorem State.setUnit_time (k : Nat) (x : UnitS) : (s.setUnit k x).time = s.time := rfl
@[simp] theorem State.setUnit_ptp (k : Nat) (x : UnitS) : (s.setUnit k x).ptp = s.ptp := rfl
@[simp] theorem State.setUnit_trigs (k : Nat) (x : UnitS) : (s.setUnit k x).trigs = s.trigs := rfl
@[simp] theorem State.setUnit_caps (k : Nat) (x : UnitS) : (s.setUnit k x).caps = s.caps := rfl
@[simp] theorem State.setUnit_units (k : Nat) (x : UnitS) : (s.setUnit k x).units = s.units.put k x := rfl
@[simp] theorem State.setUnit_declared (k : Nat) (x : UnitS) : (s.setUnit k x).declared = s.declared := rfl
@[simp] theorem State.setUnit_lvsTest (k : Nat) (x : UnitS) : (s.setUnit k x).lvsTest = s.lvsTest := rfl
@[simp] theorem State.setUnit_lvsTestAt (k : Nat) (x : UnitS) : (s.setUnit k x).lvsTestAt = s.lvsTestAt := rfl
@[simp] theorem State.setUnit_link (k : Nat) (x : UnitS) : (s.setUnit k x).link = s.link := rfl
@[simp] theorem State.setUnit_procs (k : Nat) (x : UnitS) : (s.setUnit k x).procs = s.procs := rfl
@[simp] theorem State.setUnit_primary (k : Nat) (x : UnitS) : (s.setUnit k x).primary = s.primary := rfl
@[simp] theorem State.setUnit_power (k : Nat) (x : UnitS) : (s.setUnit k x).power = s.power := rfl
@[simp] theorem State.setUnit_loaded (k : Nat) (x : UnitS) : (s.setUnit k x).loaded = s.loaded := rfl
@[simp] theorem State.setUnit_checks (k : Nat) (x : UnitS) : (s.setUnit k x).checks = s.checks := rfl
@[simp] theorem State.setUnit_tally (k : Nat) (x : UnitS) : (s.setUnit k x).tally = s.tally := rfl
@[simp] theorem State.setUnit_conds (k : Nat) (x : UnitS) : (s.setUnit k x).conds = s.conds := rfl
@[simp] theorem State.setUnit_cans (k : Nat) (x : UnitS) : (s.setUnit k x).cans = s.cans := rfl
@[simp] theorem State.setUnit_tpdos (k : Nat) (x : UnitS) : (s.setUnit k x).tpdos = s.tpdos := rfl
@[simp] theorem State.setUnit_zdp (k : Nat) (x : UnitS) : (s.setUnit k x).zdp = s.zdp := rfl
@[simp] theorem State.setUnit_partReads (k : Nat) (x : UnitS) : (s.setUnit k x).partReads = s.partReads := rfl
@[simp] theorem State.setUnit_partWrites (k : Nat) (x : UnitS) : (s.setUnit k x).partWrites = s.partWrites := rfl
@[simp] theorem State.setUnit_sess (k : Nat) (x : UnitS) : (s.setUnit k x).sess = s.sess := rfl
@[simp] theorem State.setUnit_ports (k : Nat) (x : UnitS) : (s.setUnit k x).ports = s.ports := rfl
@[simp] theorem State.setUnit_mcast (k : Nat) (x : UnitS) : (s.setUnit k x).mcast = s.mcast := rfl
@[simp] theorem State.setUnit_cores (k : Nat) (x : UnitS) : (s.setUnit k x).cores = s.cores := rfl
@[simp] theorem State.setUnit_segs (k : Nat) (x : UnitS) : (s.setUnit k x).segs = s.segs := rfl
@[simp] theorem State.setUnit_active (k : Nat) (x : UnitS) : (s.setUnit k x).active = s.active := rfl
@[simp] theorem State.setUnit_unpatched (k : Nat) (x : UnitS) : (s.setUnit k x).unpatched = s.unpatched := rfl
@[simp] theorem State.setUnit_places (k : Nat) (x : UnitS) : (s.setUnit k x).places = s.places := rfl
@[simp] theorem State.setUnit_layers (k : Nat) (x : UnitS) : (s.setUnit k x).layers = s.layers := rfl
@[simp] theorem State.setUnit_screens (k : Nat) (x : UnitS) : (s.setUnit k x).screens = s.screens := rfl
@[simp] theorem State.setUnit_commits (k : Nat) (x : UnitS) : (s.setUnit k x).commits = s.commits := rfl
@[simp] theorem State.setUnit_receipts (k : Nat) (x : UnitS) : (s.setUnit k x).receipts = s.receipts := rfl
@[simp] theorem State.setUnit_queued (k : Nat) (x : UnitS) : (s.setUnit k x).queued = s.queued := rfl
@[simp] theorem State.setUnit_gfx (k : Nat) (x : UnitS) : (s.setUnit k x).gfx = s.gfx := rfl
@[simp] theorem State.setUnit_ctxs (k : Nat) (x : UnitS) : (s.setUnit k x).ctxs = s.ctxs := rfl
@[simp] theorem State.setUnit_zttQ (k : Nat) (x : UnitS) : (s.setUnit k x).zttQ = s.zttQ := rfl
@[simp] theorem State.setUnit_engines (k : Nat) (x : UnitS) : (s.setUnit k x).engines = s.engines := rfl
@[simp] theorem State.setUnit_engLast (k : Nat) (x : UnitS) : (s.setUnit k x).engLast = s.engLast := rfl
@[simp] theorem State.setUnit_encs (k : Nat) (x : UnitS) : (s.setUnit k x).encs = s.encs := rfl
@[simp] theorem State.setUnit_touch (k : Nat) (x : UnitS) : (s.setUnit k x).touch = s.touch := rfl
@[simp] theorem State.setUnit_rings (k : Nat) (x : UnitS) : (s.setUnit k x).rings = s.rings := rfl
@[simp] theorem State.setUnit_pcie (k : Nat) (x : UnitS) : (s.setUnit k x).pcie = s.pcie := rfl
@[simp] theorem State.setUnit_lanes (k : Nat) (x : UnitS) : (s.setUnit k x).lanes = s.lanes := rfl
@[simp] theorem State.setUnit_spay (k : Nat) (x : UnitS) : (s.setUnit k x).spay = s.spay := rfl
@[simp] theorem State.setUnit_mem (k : Nat) (x : UnitS) : (s.setUnit k x).mem = s.mem := rfl
@[simp] theorem State.setUnit_sys (k : Nat) (x : UnitS) : (s.setUnit k x).sys = s.sys := rfl
@[simp] theorem State.setUnit_flash (k : Nat) (x : UnitS) : (s.setUnit k x).flash = s.flash := rfl
@[simp] theorem State.setUnit_upd (k : Nat) (x : UnitS) : (s.setUnit k x).upd = s.upd := rfl
@[simp] theorem State.setUnit_out (k : Nat) (x : UnitS) : (s.setUnit k x).out = s.out := rfl
@[simp] theorem State.setUnit_pending (k : Nat) (x : UnitS) : (s.setUnit k x).pending = s.pending := rfl

/-! ### setSes -/

@[simp] theorem State.setSes_clock (k : Nat) (x : SessS) : (s.setSes k x).clock = s.clock := rfl
@[simp] theorem State.setSes_free (k : Nat) (x : SessS) : (s.setSes k x).free = s.free := rfl
@[simp] theorem State.setSes_od (k : Nat) (x : SessS) : (s.setSes k x).od = s.od := rfl
@[simp] theorem State.setSes_force (k : Nat) (x : SessS) : (s.setSes k x).force = s.force := rfl
@[simp] theorem State.setSes_otp (k : Nat) (x : SessS) : (s.setSes k x).otp = s.otp := rfl
@[simp] theorem State.setSes_log (k : Nat) (x : SessS) : (s.setSes k x).log = s.log := rfl
@[simp] theorem State.setSes_time (k : Nat) (x : SessS) : (s.setSes k x).time = s.time := rfl
@[simp] theorem State.setSes_ptp (k : Nat) (x : SessS) : (s.setSes k x).ptp = s.ptp := rfl
@[simp] theorem State.setSes_trigs (k : Nat) (x : SessS) : (s.setSes k x).trigs = s.trigs := rfl
@[simp] theorem State.setSes_caps (k : Nat) (x : SessS) : (s.setSes k x).caps = s.caps := rfl
@[simp] theorem State.setSes_units (k : Nat) (x : SessS) : (s.setSes k x).units = s.units := rfl
@[simp] theorem State.setSes_declared (k : Nat) (x : SessS) : (s.setSes k x).declared = s.declared := rfl
@[simp] theorem State.setSes_lvsTest (k : Nat) (x : SessS) : (s.setSes k x).lvsTest = s.lvsTest := rfl
@[simp] theorem State.setSes_lvsTestAt (k : Nat) (x : SessS) : (s.setSes k x).lvsTestAt = s.lvsTestAt := rfl
@[simp] theorem State.setSes_link (k : Nat) (x : SessS) : (s.setSes k x).link = s.link := rfl
@[simp] theorem State.setSes_procs (k : Nat) (x : SessS) : (s.setSes k x).procs = s.procs := rfl
@[simp] theorem State.setSes_primary (k : Nat) (x : SessS) : (s.setSes k x).primary = s.primary := rfl
@[simp] theorem State.setSes_power (k : Nat) (x : SessS) : (s.setSes k x).power = s.power := rfl
@[simp] theorem State.setSes_loaded (k : Nat) (x : SessS) : (s.setSes k x).loaded = s.loaded := rfl
@[simp] theorem State.setSes_checks (k : Nat) (x : SessS) : (s.setSes k x).checks = s.checks := rfl
@[simp] theorem State.setSes_tally (k : Nat) (x : SessS) : (s.setSes k x).tally = s.tally := rfl
@[simp] theorem State.setSes_conds (k : Nat) (x : SessS) : (s.setSes k x).conds = s.conds := rfl
@[simp] theorem State.setSes_cans (k : Nat) (x : SessS) : (s.setSes k x).cans = s.cans := rfl
@[simp] theorem State.setSes_tpdos (k : Nat) (x : SessS) : (s.setSes k x).tpdos = s.tpdos := rfl
@[simp] theorem State.setSes_zdp (k : Nat) (x : SessS) : (s.setSes k x).zdp = s.zdp := rfl
@[simp] theorem State.setSes_partReads (k : Nat) (x : SessS) : (s.setSes k x).partReads = s.partReads := rfl
@[simp] theorem State.setSes_partWrites (k : Nat) (x : SessS) : (s.setSes k x).partWrites = s.partWrites := rfl
@[simp] theorem State.setSes_sess (k : Nat) (x : SessS) : (s.setSes k x).sess = s.sess.put k x := rfl
@[simp] theorem State.setSes_ports (k : Nat) (x : SessS) : (s.setSes k x).ports = s.ports := rfl
@[simp] theorem State.setSes_mcast (k : Nat) (x : SessS) : (s.setSes k x).mcast = s.mcast := rfl
@[simp] theorem State.setSes_cores (k : Nat) (x : SessS) : (s.setSes k x).cores = s.cores := rfl
@[simp] theorem State.setSes_segs (k : Nat) (x : SessS) : (s.setSes k x).segs = s.segs := rfl
@[simp] theorem State.setSes_active (k : Nat) (x : SessS) : (s.setSes k x).active = s.active := rfl
@[simp] theorem State.setSes_unpatched (k : Nat) (x : SessS) : (s.setSes k x).unpatched = s.unpatched := rfl
@[simp] theorem State.setSes_places (k : Nat) (x : SessS) : (s.setSes k x).places = s.places := rfl
@[simp] theorem State.setSes_layers (k : Nat) (x : SessS) : (s.setSes k x).layers = s.layers := rfl
@[simp] theorem State.setSes_screens (k : Nat) (x : SessS) : (s.setSes k x).screens = s.screens := rfl
@[simp] theorem State.setSes_commits (k : Nat) (x : SessS) : (s.setSes k x).commits = s.commits := rfl
@[simp] theorem State.setSes_receipts (k : Nat) (x : SessS) : (s.setSes k x).receipts = s.receipts := rfl
@[simp] theorem State.setSes_queued (k : Nat) (x : SessS) : (s.setSes k x).queued = s.queued := rfl
@[simp] theorem State.setSes_gfx (k : Nat) (x : SessS) : (s.setSes k x).gfx = s.gfx := rfl
@[simp] theorem State.setSes_ctxs (k : Nat) (x : SessS) : (s.setSes k x).ctxs = s.ctxs := rfl
@[simp] theorem State.setSes_zttQ (k : Nat) (x : SessS) : (s.setSes k x).zttQ = s.zttQ := rfl
@[simp] theorem State.setSes_engines (k : Nat) (x : SessS) : (s.setSes k x).engines = s.engines := rfl
@[simp] theorem State.setSes_engLast (k : Nat) (x : SessS) : (s.setSes k x).engLast = s.engLast := rfl
@[simp] theorem State.setSes_encs (k : Nat) (x : SessS) : (s.setSes k x).encs = s.encs := rfl
@[simp] theorem State.setSes_touch (k : Nat) (x : SessS) : (s.setSes k x).touch = s.touch := rfl
@[simp] theorem State.setSes_rings (k : Nat) (x : SessS) : (s.setSes k x).rings = s.rings := rfl
@[simp] theorem State.setSes_pcie (k : Nat) (x : SessS) : (s.setSes k x).pcie = s.pcie := rfl
@[simp] theorem State.setSes_lanes (k : Nat) (x : SessS) : (s.setSes k x).lanes = s.lanes := rfl
@[simp] theorem State.setSes_spay (k : Nat) (x : SessS) : (s.setSes k x).spay = s.spay := rfl
@[simp] theorem State.setSes_mem (k : Nat) (x : SessS) : (s.setSes k x).mem = s.mem := rfl
@[simp] theorem State.setSes_sys (k : Nat) (x : SessS) : (s.setSes k x).sys = s.sys := rfl
@[simp] theorem State.setSes_flash (k : Nat) (x : SessS) : (s.setSes k x).flash = s.flash := rfl
@[simp] theorem State.setSes_upd (k : Nat) (x : SessS) : (s.setSes k x).upd = s.upd := rfl
@[simp] theorem State.setSes_out (k : Nat) (x : SessS) : (s.setSes k x).out = s.out := rfl
@[simp] theorem State.setSes_pending (k : Nat) (x : SessS) : (s.setSes k x).pending = s.pending := rfl

/-! ### setLayer -/

@[simp] theorem State.setLayer_clock (k : Nat) (x : LayerS) : (s.setLayer k x).clock = s.clock := rfl
@[simp] theorem State.setLayer_free (k : Nat) (x : LayerS) : (s.setLayer k x).free = s.free := rfl
@[simp] theorem State.setLayer_od (k : Nat) (x : LayerS) : (s.setLayer k x).od = s.od := rfl
@[simp] theorem State.setLayer_force (k : Nat) (x : LayerS) : (s.setLayer k x).force = s.force := rfl
@[simp] theorem State.setLayer_otp (k : Nat) (x : LayerS) : (s.setLayer k x).otp = s.otp := rfl
@[simp] theorem State.setLayer_log (k : Nat) (x : LayerS) : (s.setLayer k x).log = s.log := rfl
@[simp] theorem State.setLayer_time (k : Nat) (x : LayerS) : (s.setLayer k x).time = s.time := rfl
@[simp] theorem State.setLayer_ptp (k : Nat) (x : LayerS) : (s.setLayer k x).ptp = s.ptp := rfl
@[simp] theorem State.setLayer_trigs (k : Nat) (x : LayerS) : (s.setLayer k x).trigs = s.trigs := rfl
@[simp] theorem State.setLayer_caps (k : Nat) (x : LayerS) : (s.setLayer k x).caps = s.caps := rfl
@[simp] theorem State.setLayer_units (k : Nat) (x : LayerS) : (s.setLayer k x).units = s.units := rfl
@[simp] theorem State.setLayer_declared (k : Nat) (x : LayerS) : (s.setLayer k x).declared = s.declared := rfl
@[simp] theorem State.setLayer_lvsTest (k : Nat) (x : LayerS) : (s.setLayer k x).lvsTest = s.lvsTest := rfl
@[simp] theorem State.setLayer_lvsTestAt (k : Nat) (x : LayerS) : (s.setLayer k x).lvsTestAt = s.lvsTestAt := rfl
@[simp] theorem State.setLayer_link (k : Nat) (x : LayerS) : (s.setLayer k x).link = s.link := rfl
@[simp] theorem State.setLayer_procs (k : Nat) (x : LayerS) : (s.setLayer k x).procs = s.procs := rfl
@[simp] theorem State.setLayer_primary (k : Nat) (x : LayerS) : (s.setLayer k x).primary = s.primary := rfl
@[simp] theorem State.setLayer_power (k : Nat) (x : LayerS) : (s.setLayer k x).power = s.power := rfl
@[simp] theorem State.setLayer_loaded (k : Nat) (x : LayerS) : (s.setLayer k x).loaded = s.loaded := rfl
@[simp] theorem State.setLayer_checks (k : Nat) (x : LayerS) : (s.setLayer k x).checks = s.checks := rfl
@[simp] theorem State.setLayer_tally (k : Nat) (x : LayerS) : (s.setLayer k x).tally = s.tally := rfl
@[simp] theorem State.setLayer_conds (k : Nat) (x : LayerS) : (s.setLayer k x).conds = s.conds := rfl
@[simp] theorem State.setLayer_cans (k : Nat) (x : LayerS) : (s.setLayer k x).cans = s.cans := rfl
@[simp] theorem State.setLayer_tpdos (k : Nat) (x : LayerS) : (s.setLayer k x).tpdos = s.tpdos := rfl
@[simp] theorem State.setLayer_zdp (k : Nat) (x : LayerS) : (s.setLayer k x).zdp = s.zdp := rfl
@[simp] theorem State.setLayer_partReads (k : Nat) (x : LayerS) : (s.setLayer k x).partReads = s.partReads := rfl
@[simp] theorem State.setLayer_partWrites (k : Nat) (x : LayerS) : (s.setLayer k x).partWrites = s.partWrites := rfl
@[simp] theorem State.setLayer_sess (k : Nat) (x : LayerS) : (s.setLayer k x).sess = s.sess := rfl
@[simp] theorem State.setLayer_ports (k : Nat) (x : LayerS) : (s.setLayer k x).ports = s.ports := rfl
@[simp] theorem State.setLayer_mcast (k : Nat) (x : LayerS) : (s.setLayer k x).mcast = s.mcast := rfl
@[simp] theorem State.setLayer_cores (k : Nat) (x : LayerS) : (s.setLayer k x).cores = s.cores := rfl
@[simp] theorem State.setLayer_segs (k : Nat) (x : LayerS) : (s.setLayer k x).segs = s.segs := rfl
@[simp] theorem State.setLayer_active (k : Nat) (x : LayerS) : (s.setLayer k x).active = s.active := rfl
@[simp] theorem State.setLayer_unpatched (k : Nat) (x : LayerS) : (s.setLayer k x).unpatched = s.unpatched := rfl
@[simp] theorem State.setLayer_places (k : Nat) (x : LayerS) : (s.setLayer k x).places = s.places := rfl
@[simp] theorem State.setLayer_layers (k : Nat) (x : LayerS) : (s.setLayer k x).layers = s.layers.put k x := rfl
@[simp] theorem State.setLayer_screens (k : Nat) (x : LayerS) : (s.setLayer k x).screens = s.screens := rfl
@[simp] theorem State.setLayer_commits (k : Nat) (x : LayerS) : (s.setLayer k x).commits = s.commits := rfl
@[simp] theorem State.setLayer_receipts (k : Nat) (x : LayerS) : (s.setLayer k x).receipts = s.receipts := rfl
@[simp] theorem State.setLayer_queued (k : Nat) (x : LayerS) : (s.setLayer k x).queued = s.queued := rfl
@[simp] theorem State.setLayer_gfx (k : Nat) (x : LayerS) : (s.setLayer k x).gfx = s.gfx := rfl
@[simp] theorem State.setLayer_ctxs (k : Nat) (x : LayerS) : (s.setLayer k x).ctxs = s.ctxs := rfl
@[simp] theorem State.setLayer_zttQ (k : Nat) (x : LayerS) : (s.setLayer k x).zttQ = s.zttQ := rfl
@[simp] theorem State.setLayer_engines (k : Nat) (x : LayerS) : (s.setLayer k x).engines = s.engines := rfl
@[simp] theorem State.setLayer_engLast (k : Nat) (x : LayerS) : (s.setLayer k x).engLast = s.engLast := rfl
@[simp] theorem State.setLayer_encs (k : Nat) (x : LayerS) : (s.setLayer k x).encs = s.encs := rfl
@[simp] theorem State.setLayer_touch (k : Nat) (x : LayerS) : (s.setLayer k x).touch = s.touch := rfl
@[simp] theorem State.setLayer_rings (k : Nat) (x : LayerS) : (s.setLayer k x).rings = s.rings := rfl
@[simp] theorem State.setLayer_pcie (k : Nat) (x : LayerS) : (s.setLayer k x).pcie = s.pcie := rfl
@[simp] theorem State.setLayer_lanes (k : Nat) (x : LayerS) : (s.setLayer k x).lanes = s.lanes := rfl
@[simp] theorem State.setLayer_spay (k : Nat) (x : LayerS) : (s.setLayer k x).spay = s.spay := rfl
@[simp] theorem State.setLayer_mem (k : Nat) (x : LayerS) : (s.setLayer k x).mem = s.mem := rfl
@[simp] theorem State.setLayer_sys (k : Nat) (x : LayerS) : (s.setLayer k x).sys = s.sys := rfl
@[simp] theorem State.setLayer_flash (k : Nat) (x : LayerS) : (s.setLayer k x).flash = s.flash := rfl
@[simp] theorem State.setLayer_upd (k : Nat) (x : LayerS) : (s.setLayer k x).upd = s.upd := rfl
@[simp] theorem State.setLayer_out (k : Nat) (x : LayerS) : (s.setLayer k x).out = s.out := rfl
@[simp] theorem State.setLayer_pending (k : Nat) (x : LayerS) : (s.setLayer k x).pending = s.pending := rfl

/-! ### setScreen -/

@[simp] theorem State.setScreen_clock (k : Nat) (x : ScreenS) : (s.setScreen k x).clock = s.clock := rfl
@[simp] theorem State.setScreen_free (k : Nat) (x : ScreenS) : (s.setScreen k x).free = s.free := rfl
@[simp] theorem State.setScreen_od (k : Nat) (x : ScreenS) : (s.setScreen k x).od = s.od := rfl
@[simp] theorem State.setScreen_force (k : Nat) (x : ScreenS) : (s.setScreen k x).force = s.force := rfl
@[simp] theorem State.setScreen_otp (k : Nat) (x : ScreenS) : (s.setScreen k x).otp = s.otp := rfl
@[simp] theorem State.setScreen_log (k : Nat) (x : ScreenS) : (s.setScreen k x).log = s.log := rfl
@[simp] theorem State.setScreen_time (k : Nat) (x : ScreenS) : (s.setScreen k x).time = s.time := rfl
@[simp] theorem State.setScreen_ptp (k : Nat) (x : ScreenS) : (s.setScreen k x).ptp = s.ptp := rfl
@[simp] theorem State.setScreen_trigs (k : Nat) (x : ScreenS) : (s.setScreen k x).trigs = s.trigs := rfl
@[simp] theorem State.setScreen_caps (k : Nat) (x : ScreenS) : (s.setScreen k x).caps = s.caps := rfl
@[simp] theorem State.setScreen_units (k : Nat) (x : ScreenS) : (s.setScreen k x).units = s.units := rfl
@[simp] theorem State.setScreen_declared (k : Nat) (x : ScreenS) : (s.setScreen k x).declared = s.declared := rfl
@[simp] theorem State.setScreen_lvsTest (k : Nat) (x : ScreenS) : (s.setScreen k x).lvsTest = s.lvsTest := rfl
@[simp] theorem State.setScreen_lvsTestAt (k : Nat) (x : ScreenS) : (s.setScreen k x).lvsTestAt = s.lvsTestAt := rfl
@[simp] theorem State.setScreen_link (k : Nat) (x : ScreenS) : (s.setScreen k x).link = s.link := rfl
@[simp] theorem State.setScreen_procs (k : Nat) (x : ScreenS) : (s.setScreen k x).procs = s.procs := rfl
@[simp] theorem State.setScreen_primary (k : Nat) (x : ScreenS) : (s.setScreen k x).primary = s.primary := rfl
@[simp] theorem State.setScreen_power (k : Nat) (x : ScreenS) : (s.setScreen k x).power = s.power := rfl
@[simp] theorem State.setScreen_loaded (k : Nat) (x : ScreenS) : (s.setScreen k x).loaded = s.loaded := rfl
@[simp] theorem State.setScreen_checks (k : Nat) (x : ScreenS) : (s.setScreen k x).checks = s.checks := rfl
@[simp] theorem State.setScreen_tally (k : Nat) (x : ScreenS) : (s.setScreen k x).tally = s.tally := rfl
@[simp] theorem State.setScreen_conds (k : Nat) (x : ScreenS) : (s.setScreen k x).conds = s.conds := rfl
@[simp] theorem State.setScreen_cans (k : Nat) (x : ScreenS) : (s.setScreen k x).cans = s.cans := rfl
@[simp] theorem State.setScreen_tpdos (k : Nat) (x : ScreenS) : (s.setScreen k x).tpdos = s.tpdos := rfl
@[simp] theorem State.setScreen_zdp (k : Nat) (x : ScreenS) : (s.setScreen k x).zdp = s.zdp := rfl
@[simp] theorem State.setScreen_partReads (k : Nat) (x : ScreenS) : (s.setScreen k x).partReads = s.partReads := rfl
@[simp] theorem State.setScreen_partWrites (k : Nat) (x : ScreenS) : (s.setScreen k x).partWrites = s.partWrites := rfl
@[simp] theorem State.setScreen_sess (k : Nat) (x : ScreenS) : (s.setScreen k x).sess = s.sess := rfl
@[simp] theorem State.setScreen_ports (k : Nat) (x : ScreenS) : (s.setScreen k x).ports = s.ports := rfl
@[simp] theorem State.setScreen_mcast (k : Nat) (x : ScreenS) : (s.setScreen k x).mcast = s.mcast := rfl
@[simp] theorem State.setScreen_cores (k : Nat) (x : ScreenS) : (s.setScreen k x).cores = s.cores := rfl
@[simp] theorem State.setScreen_segs (k : Nat) (x : ScreenS) : (s.setScreen k x).segs = s.segs := rfl
@[simp] theorem State.setScreen_active (k : Nat) (x : ScreenS) : (s.setScreen k x).active = s.active := rfl
@[simp] theorem State.setScreen_unpatched (k : Nat) (x : ScreenS) : (s.setScreen k x).unpatched = s.unpatched := rfl
@[simp] theorem State.setScreen_places (k : Nat) (x : ScreenS) : (s.setScreen k x).places = s.places := rfl
@[simp] theorem State.setScreen_layers (k : Nat) (x : ScreenS) : (s.setScreen k x).layers = s.layers := rfl
@[simp] theorem State.setScreen_screens (k : Nat) (x : ScreenS) : (s.setScreen k x).screens = s.screens.put k x := rfl
@[simp] theorem State.setScreen_commits (k : Nat) (x : ScreenS) : (s.setScreen k x).commits = s.commits := rfl
@[simp] theorem State.setScreen_receipts (k : Nat) (x : ScreenS) : (s.setScreen k x).receipts = s.receipts := rfl
@[simp] theorem State.setScreen_queued (k : Nat) (x : ScreenS) : (s.setScreen k x).queued = s.queued := rfl
@[simp] theorem State.setScreen_gfx (k : Nat) (x : ScreenS) : (s.setScreen k x).gfx = s.gfx := rfl
@[simp] theorem State.setScreen_ctxs (k : Nat) (x : ScreenS) : (s.setScreen k x).ctxs = s.ctxs := rfl
@[simp] theorem State.setScreen_zttQ (k : Nat) (x : ScreenS) : (s.setScreen k x).zttQ = s.zttQ := rfl
@[simp] theorem State.setScreen_engines (k : Nat) (x : ScreenS) : (s.setScreen k x).engines = s.engines := rfl
@[simp] theorem State.setScreen_engLast (k : Nat) (x : ScreenS) : (s.setScreen k x).engLast = s.engLast := rfl
@[simp] theorem State.setScreen_encs (k : Nat) (x : ScreenS) : (s.setScreen k x).encs = s.encs := rfl
@[simp] theorem State.setScreen_touch (k : Nat) (x : ScreenS) : (s.setScreen k x).touch = s.touch := rfl
@[simp] theorem State.setScreen_rings (k : Nat) (x : ScreenS) : (s.setScreen k x).rings = s.rings := rfl
@[simp] theorem State.setScreen_pcie (k : Nat) (x : ScreenS) : (s.setScreen k x).pcie = s.pcie := rfl
@[simp] theorem State.setScreen_lanes (k : Nat) (x : ScreenS) : (s.setScreen k x).lanes = s.lanes := rfl
@[simp] theorem State.setScreen_spay (k : Nat) (x : ScreenS) : (s.setScreen k x).spay = s.spay := rfl
@[simp] theorem State.setScreen_mem (k : Nat) (x : ScreenS) : (s.setScreen k x).mem = s.mem := rfl
@[simp] theorem State.setScreen_sys (k : Nat) (x : ScreenS) : (s.setScreen k x).sys = s.sys := rfl
@[simp] theorem State.setScreen_flash (k : Nat) (x : ScreenS) : (s.setScreen k x).flash = s.flash := rfl
@[simp] theorem State.setScreen_upd (k : Nat) (x : ScreenS) : (s.setScreen k x).upd = s.upd := rfl
@[simp] theorem State.setScreen_out (k : Nat) (x : ScreenS) : (s.setScreen k x).out = s.out := rfl
@[simp] theorem State.setScreen_pending (k : Nat) (x : ScreenS) : (s.setScreen k x).pending = s.pending := rfl

/-! ### setEnc -/

@[simp] theorem State.setEnc_clock (k : Nat) (x : EncS) : (s.setEnc k x).clock = s.clock := rfl
@[simp] theorem State.setEnc_free (k : Nat) (x : EncS) : (s.setEnc k x).free = s.free := rfl
@[simp] theorem State.setEnc_od (k : Nat) (x : EncS) : (s.setEnc k x).od = s.od := rfl
@[simp] theorem State.setEnc_force (k : Nat) (x : EncS) : (s.setEnc k x).force = s.force := rfl
@[simp] theorem State.setEnc_otp (k : Nat) (x : EncS) : (s.setEnc k x).otp = s.otp := rfl
@[simp] theorem State.setEnc_log (k : Nat) (x : EncS) : (s.setEnc k x).log = s.log := rfl
@[simp] theorem State.setEnc_time (k : Nat) (x : EncS) : (s.setEnc k x).time = s.time := rfl
@[simp] theorem State.setEnc_ptp (k : Nat) (x : EncS) : (s.setEnc k x).ptp = s.ptp := rfl
@[simp] theorem State.setEnc_trigs (k : Nat) (x : EncS) : (s.setEnc k x).trigs = s.trigs := rfl
@[simp] theorem State.setEnc_caps (k : Nat) (x : EncS) : (s.setEnc k x).caps = s.caps := rfl
@[simp] theorem State.setEnc_units (k : Nat) (x : EncS) : (s.setEnc k x).units = s.units := rfl
@[simp] theorem State.setEnc_declared (k : Nat) (x : EncS) : (s.setEnc k x).declared = s.declared := rfl
@[simp] theorem State.setEnc_lvsTest (k : Nat) (x : EncS) : (s.setEnc k x).lvsTest = s.lvsTest := rfl
@[simp] theorem State.setEnc_lvsTestAt (k : Nat) (x : EncS) : (s.setEnc k x).lvsTestAt = s.lvsTestAt := rfl
@[simp] theorem State.setEnc_link (k : Nat) (x : EncS) : (s.setEnc k x).link = s.link := rfl
@[simp] theorem State.setEnc_procs (k : Nat) (x : EncS) : (s.setEnc k x).procs = s.procs := rfl
@[simp] theorem State.setEnc_primary (k : Nat) (x : EncS) : (s.setEnc k x).primary = s.primary := rfl
@[simp] theorem State.setEnc_power (k : Nat) (x : EncS) : (s.setEnc k x).power = s.power := rfl
@[simp] theorem State.setEnc_loaded (k : Nat) (x : EncS) : (s.setEnc k x).loaded = s.loaded := rfl
@[simp] theorem State.setEnc_checks (k : Nat) (x : EncS) : (s.setEnc k x).checks = s.checks := rfl
@[simp] theorem State.setEnc_tally (k : Nat) (x : EncS) : (s.setEnc k x).tally = s.tally := rfl
@[simp] theorem State.setEnc_conds (k : Nat) (x : EncS) : (s.setEnc k x).conds = s.conds := rfl
@[simp] theorem State.setEnc_cans (k : Nat) (x : EncS) : (s.setEnc k x).cans = s.cans := rfl
@[simp] theorem State.setEnc_tpdos (k : Nat) (x : EncS) : (s.setEnc k x).tpdos = s.tpdos := rfl
@[simp] theorem State.setEnc_zdp (k : Nat) (x : EncS) : (s.setEnc k x).zdp = s.zdp := rfl
@[simp] theorem State.setEnc_partReads (k : Nat) (x : EncS) : (s.setEnc k x).partReads = s.partReads := rfl
@[simp] theorem State.setEnc_partWrites (k : Nat) (x : EncS) : (s.setEnc k x).partWrites = s.partWrites := rfl
@[simp] theorem State.setEnc_sess (k : Nat) (x : EncS) : (s.setEnc k x).sess = s.sess := rfl
@[simp] theorem State.setEnc_ports (k : Nat) (x : EncS) : (s.setEnc k x).ports = s.ports := rfl
@[simp] theorem State.setEnc_mcast (k : Nat) (x : EncS) : (s.setEnc k x).mcast = s.mcast := rfl
@[simp] theorem State.setEnc_cores (k : Nat) (x : EncS) : (s.setEnc k x).cores = s.cores := rfl
@[simp] theorem State.setEnc_segs (k : Nat) (x : EncS) : (s.setEnc k x).segs = s.segs := rfl
@[simp] theorem State.setEnc_active (k : Nat) (x : EncS) : (s.setEnc k x).active = s.active := rfl
@[simp] theorem State.setEnc_unpatched (k : Nat) (x : EncS) : (s.setEnc k x).unpatched = s.unpatched := rfl
@[simp] theorem State.setEnc_places (k : Nat) (x : EncS) : (s.setEnc k x).places = s.places := rfl
@[simp] theorem State.setEnc_layers (k : Nat) (x : EncS) : (s.setEnc k x).layers = s.layers := rfl
@[simp] theorem State.setEnc_screens (k : Nat) (x : EncS) : (s.setEnc k x).screens = s.screens := rfl
@[simp] theorem State.setEnc_commits (k : Nat) (x : EncS) : (s.setEnc k x).commits = s.commits := rfl
@[simp] theorem State.setEnc_receipts (k : Nat) (x : EncS) : (s.setEnc k x).receipts = s.receipts := rfl
@[simp] theorem State.setEnc_queued (k : Nat) (x : EncS) : (s.setEnc k x).queued = s.queued := rfl
@[simp] theorem State.setEnc_gfx (k : Nat) (x : EncS) : (s.setEnc k x).gfx = s.gfx := rfl
@[simp] theorem State.setEnc_ctxs (k : Nat) (x : EncS) : (s.setEnc k x).ctxs = s.ctxs := rfl
@[simp] theorem State.setEnc_zttQ (k : Nat) (x : EncS) : (s.setEnc k x).zttQ = s.zttQ := rfl
@[simp] theorem State.setEnc_engines (k : Nat) (x : EncS) : (s.setEnc k x).engines = s.engines := rfl
@[simp] theorem State.setEnc_engLast (k : Nat) (x : EncS) : (s.setEnc k x).engLast = s.engLast := rfl
@[simp] theorem State.setEnc_encs (k : Nat) (x : EncS) : (s.setEnc k x).encs = s.encs.put k x := rfl
@[simp] theorem State.setEnc_touch (k : Nat) (x : EncS) : (s.setEnc k x).touch = s.touch := rfl
@[simp] theorem State.setEnc_rings (k : Nat) (x : EncS) : (s.setEnc k x).rings = s.rings := rfl
@[simp] theorem State.setEnc_pcie (k : Nat) (x : EncS) : (s.setEnc k x).pcie = s.pcie := rfl
@[simp] theorem State.setEnc_lanes (k : Nat) (x : EncS) : (s.setEnc k x).lanes = s.lanes := rfl
@[simp] theorem State.setEnc_spay (k : Nat) (x : EncS) : (s.setEnc k x).spay = s.spay := rfl
@[simp] theorem State.setEnc_mem (k : Nat) (x : EncS) : (s.setEnc k x).mem = s.mem := rfl
@[simp] theorem State.setEnc_sys (k : Nat) (x : EncS) : (s.setEnc k x).sys = s.sys := rfl
@[simp] theorem State.setEnc_flash (k : Nat) (x : EncS) : (s.setEnc k x).flash = s.flash := rfl
@[simp] theorem State.setEnc_upd (k : Nat) (x : EncS) : (s.setEnc k x).upd = s.upd := rfl
@[simp] theorem State.setEnc_out (k : Nat) (x : EncS) : (s.setEnc k x).out = s.out := rfl
@[simp] theorem State.setEnc_pending (k : Nat) (x : EncS) : (s.setEnc k x).pending = s.pending := rfl

/-! ### setCan -/

@[simp] theorem State.setCan_clock (k : Nat) (x : CanS) : (s.setCan k x).clock = s.clock := rfl
@[simp] theorem State.setCan_free (k : Nat) (x : CanS) : (s.setCan k x).free = s.free := rfl
@[simp] theorem State.setCan_od (k : Nat) (x : CanS) : (s.setCan k x).od = s.od := rfl
@[simp] theorem State.setCan_force (k : Nat) (x : CanS) : (s.setCan k x).force = s.force := rfl
@[simp] theorem State.setCan_otp (k : Nat) (x : CanS) : (s.setCan k x).otp = s.otp := rfl
@[simp] theorem State.setCan_log (k : Nat) (x : CanS) : (s.setCan k x).log = s.log := rfl
@[simp] theorem State.setCan_time (k : Nat) (x : CanS) : (s.setCan k x).time = s.time := rfl
@[simp] theorem State.setCan_ptp (k : Nat) (x : CanS) : (s.setCan k x).ptp = s.ptp := rfl
@[simp] theorem State.setCan_trigs (k : Nat) (x : CanS) : (s.setCan k x).trigs = s.trigs := rfl
@[simp] theorem State.setCan_caps (k : Nat) (x : CanS) : (s.setCan k x).caps = s.caps := rfl
@[simp] theorem State.setCan_units (k : Nat) (x : CanS) : (s.setCan k x).units = s.units := rfl
@[simp] theorem State.setCan_declared (k : Nat) (x : CanS) : (s.setCan k x).declared = s.declared := rfl
@[simp] theorem State.setCan_lvsTest (k : Nat) (x : CanS) : (s.setCan k x).lvsTest = s.lvsTest := rfl
@[simp] theorem State.setCan_lvsTestAt (k : Nat) (x : CanS) : (s.setCan k x).lvsTestAt = s.lvsTestAt := rfl
@[simp] theorem State.setCan_link (k : Nat) (x : CanS) : (s.setCan k x).link = s.link := rfl
@[simp] theorem State.setCan_procs (k : Nat) (x : CanS) : (s.setCan k x).procs = s.procs := rfl
@[simp] theorem State.setCan_primary (k : Nat) (x : CanS) : (s.setCan k x).primary = s.primary := rfl
@[simp] theorem State.setCan_power (k : Nat) (x : CanS) : (s.setCan k x).power = s.power := rfl
@[simp] theorem State.setCan_loaded (k : Nat) (x : CanS) : (s.setCan k x).loaded = s.loaded := rfl
@[simp] theorem State.setCan_checks (k : Nat) (x : CanS) : (s.setCan k x).checks = s.checks := rfl
@[simp] theorem State.setCan_tally (k : Nat) (x : CanS) : (s.setCan k x).tally = s.tally := rfl
@[simp] theorem State.setCan_conds (k : Nat) (x : CanS) : (s.setCan k x).conds = s.conds := rfl
@[simp] theorem State.setCan_cans (k : Nat) (x : CanS) : (s.setCan k x).cans = s.cans.put k x := rfl
@[simp] theorem State.setCan_tpdos (k : Nat) (x : CanS) : (s.setCan k x).tpdos = s.tpdos := rfl
@[simp] theorem State.setCan_zdp (k : Nat) (x : CanS) : (s.setCan k x).zdp = s.zdp := rfl
@[simp] theorem State.setCan_partReads (k : Nat) (x : CanS) : (s.setCan k x).partReads = s.partReads := rfl
@[simp] theorem State.setCan_partWrites (k : Nat) (x : CanS) : (s.setCan k x).partWrites = s.partWrites := rfl
@[simp] theorem State.setCan_sess (k : Nat) (x : CanS) : (s.setCan k x).sess = s.sess := rfl
@[simp] theorem State.setCan_ports (k : Nat) (x : CanS) : (s.setCan k x).ports = s.ports := rfl
@[simp] theorem State.setCan_mcast (k : Nat) (x : CanS) : (s.setCan k x).mcast = s.mcast := rfl
@[simp] theorem State.setCan_cores (k : Nat) (x : CanS) : (s.setCan k x).cores = s.cores := rfl
@[simp] theorem State.setCan_segs (k : Nat) (x : CanS) : (s.setCan k x).segs = s.segs := rfl
@[simp] theorem State.setCan_active (k : Nat) (x : CanS) : (s.setCan k x).active = s.active := rfl
@[simp] theorem State.setCan_unpatched (k : Nat) (x : CanS) : (s.setCan k x).unpatched = s.unpatched := rfl
@[simp] theorem State.setCan_places (k : Nat) (x : CanS) : (s.setCan k x).places = s.places := rfl
@[simp] theorem State.setCan_layers (k : Nat) (x : CanS) : (s.setCan k x).layers = s.layers := rfl
@[simp] theorem State.setCan_screens (k : Nat) (x : CanS) : (s.setCan k x).screens = s.screens := rfl
@[simp] theorem State.setCan_commits (k : Nat) (x : CanS) : (s.setCan k x).commits = s.commits := rfl
@[simp] theorem State.setCan_receipts (k : Nat) (x : CanS) : (s.setCan k x).receipts = s.receipts := rfl
@[simp] theorem State.setCan_queued (k : Nat) (x : CanS) : (s.setCan k x).queued = s.queued := rfl
@[simp] theorem State.setCan_gfx (k : Nat) (x : CanS) : (s.setCan k x).gfx = s.gfx := rfl
@[simp] theorem State.setCan_ctxs (k : Nat) (x : CanS) : (s.setCan k x).ctxs = s.ctxs := rfl
@[simp] theorem State.setCan_zttQ (k : Nat) (x : CanS) : (s.setCan k x).zttQ = s.zttQ := rfl
@[simp] theorem State.setCan_engines (k : Nat) (x : CanS) : (s.setCan k x).engines = s.engines := rfl
@[simp] theorem State.setCan_engLast (k : Nat) (x : CanS) : (s.setCan k x).engLast = s.engLast := rfl
@[simp] theorem State.setCan_encs (k : Nat) (x : CanS) : (s.setCan k x).encs = s.encs := rfl
@[simp] theorem State.setCan_touch (k : Nat) (x : CanS) : (s.setCan k x).touch = s.touch := rfl
@[simp] theorem State.setCan_rings (k : Nat) (x : CanS) : (s.setCan k x).rings = s.rings := rfl
@[simp] theorem State.setCan_pcie (k : Nat) (x : CanS) : (s.setCan k x).pcie = s.pcie := rfl
@[simp] theorem State.setCan_lanes (k : Nat) (x : CanS) : (s.setCan k x).lanes = s.lanes := rfl
@[simp] theorem State.setCan_spay (k : Nat) (x : CanS) : (s.setCan k x).spay = s.spay := rfl
@[simp] theorem State.setCan_mem (k : Nat) (x : CanS) : (s.setCan k x).mem = s.mem := rfl
@[simp] theorem State.setCan_sys (k : Nat) (x : CanS) : (s.setCan k x).sys = s.sys := rfl
@[simp] theorem State.setCan_flash (k : Nat) (x : CanS) : (s.setCan k x).flash = s.flash := rfl
@[simp] theorem State.setCan_upd (k : Nat) (x : CanS) : (s.setCan k x).upd = s.upd := rfl
@[simp] theorem State.setCan_out (k : Nat) (x : CanS) : (s.setCan k x).out = s.out := rfl
@[simp] theorem State.setCan_pending (k : Nat) (x : CanS) : (s.setCan k x).pending = s.pending := rfl

/-! ### setCheck -/

@[simp] theorem State.setCheck_clock (k : Nat) (x : CheckS) : (s.setCheck k x).clock = s.clock := rfl
@[simp] theorem State.setCheck_free (k : Nat) (x : CheckS) : (s.setCheck k x).free = s.free := rfl
@[simp] theorem State.setCheck_od (k : Nat) (x : CheckS) : (s.setCheck k x).od = s.od := rfl
@[simp] theorem State.setCheck_force (k : Nat) (x : CheckS) : (s.setCheck k x).force = s.force := rfl
@[simp] theorem State.setCheck_otp (k : Nat) (x : CheckS) : (s.setCheck k x).otp = s.otp := rfl
@[simp] theorem State.setCheck_log (k : Nat) (x : CheckS) : (s.setCheck k x).log = s.log := rfl
@[simp] theorem State.setCheck_time (k : Nat) (x : CheckS) : (s.setCheck k x).time = s.time := rfl
@[simp] theorem State.setCheck_ptp (k : Nat) (x : CheckS) : (s.setCheck k x).ptp = s.ptp := rfl
@[simp] theorem State.setCheck_trigs (k : Nat) (x : CheckS) : (s.setCheck k x).trigs = s.trigs := rfl
@[simp] theorem State.setCheck_caps (k : Nat) (x : CheckS) : (s.setCheck k x).caps = s.caps := rfl
@[simp] theorem State.setCheck_units (k : Nat) (x : CheckS) : (s.setCheck k x).units = s.units := rfl
@[simp] theorem State.setCheck_declared (k : Nat) (x : CheckS) : (s.setCheck k x).declared = s.declared := rfl
@[simp] theorem State.setCheck_lvsTest (k : Nat) (x : CheckS) : (s.setCheck k x).lvsTest = s.lvsTest := rfl
@[simp] theorem State.setCheck_lvsTestAt (k : Nat) (x : CheckS) : (s.setCheck k x).lvsTestAt = s.lvsTestAt := rfl
@[simp] theorem State.setCheck_link (k : Nat) (x : CheckS) : (s.setCheck k x).link = s.link := rfl
@[simp] theorem State.setCheck_procs (k : Nat) (x : CheckS) : (s.setCheck k x).procs = s.procs := rfl
@[simp] theorem State.setCheck_primary (k : Nat) (x : CheckS) : (s.setCheck k x).primary = s.primary := rfl
@[simp] theorem State.setCheck_power (k : Nat) (x : CheckS) : (s.setCheck k x).power = s.power := rfl
@[simp] theorem State.setCheck_loaded (k : Nat) (x : CheckS) : (s.setCheck k x).loaded = s.loaded := rfl
@[simp] theorem State.setCheck_checks (k : Nat) (x : CheckS) : (s.setCheck k x).checks = s.checks.put k x := rfl
@[simp] theorem State.setCheck_tally (k : Nat) (x : CheckS) : (s.setCheck k x).tally = s.tally := rfl
@[simp] theorem State.setCheck_conds (k : Nat) (x : CheckS) : (s.setCheck k x).conds = s.conds := rfl
@[simp] theorem State.setCheck_cans (k : Nat) (x : CheckS) : (s.setCheck k x).cans = s.cans := rfl
@[simp] theorem State.setCheck_tpdos (k : Nat) (x : CheckS) : (s.setCheck k x).tpdos = s.tpdos := rfl
@[simp] theorem State.setCheck_zdp (k : Nat) (x : CheckS) : (s.setCheck k x).zdp = s.zdp := rfl
@[simp] theorem State.setCheck_partReads (k : Nat) (x : CheckS) : (s.setCheck k x).partReads = s.partReads := rfl
@[simp] theorem State.setCheck_partWrites (k : Nat) (x : CheckS) : (s.setCheck k x).partWrites = s.partWrites := rfl
@[simp] theorem State.setCheck_sess (k : Nat) (x : CheckS) : (s.setCheck k x).sess = s.sess := rfl
@[simp] theorem State.setCheck_ports (k : Nat) (x : CheckS) : (s.setCheck k x).ports = s.ports := rfl
@[simp] theorem State.setCheck_mcast (k : Nat) (x : CheckS) : (s.setCheck k x).mcast = s.mcast := rfl
@[simp] theorem State.setCheck_cores (k : Nat) (x : CheckS) : (s.setCheck k x).cores = s.cores := rfl
@[simp] theorem State.setCheck_segs (k : Nat) (x : CheckS) : (s.setCheck k x).segs = s.segs := rfl
@[simp] theorem State.setCheck_active (k : Nat) (x : CheckS) : (s.setCheck k x).active = s.active := rfl
@[simp] theorem State.setCheck_unpatched (k : Nat) (x : CheckS) : (s.setCheck k x).unpatched = s.unpatched := rfl
@[simp] theorem State.setCheck_places (k : Nat) (x : CheckS) : (s.setCheck k x).places = s.places := rfl
@[simp] theorem State.setCheck_layers (k : Nat) (x : CheckS) : (s.setCheck k x).layers = s.layers := rfl
@[simp] theorem State.setCheck_screens (k : Nat) (x : CheckS) : (s.setCheck k x).screens = s.screens := rfl
@[simp] theorem State.setCheck_commits (k : Nat) (x : CheckS) : (s.setCheck k x).commits = s.commits := rfl
@[simp] theorem State.setCheck_receipts (k : Nat) (x : CheckS) : (s.setCheck k x).receipts = s.receipts := rfl
@[simp] theorem State.setCheck_queued (k : Nat) (x : CheckS) : (s.setCheck k x).queued = s.queued := rfl
@[simp] theorem State.setCheck_gfx (k : Nat) (x : CheckS) : (s.setCheck k x).gfx = s.gfx := rfl
@[simp] theorem State.setCheck_ctxs (k : Nat) (x : CheckS) : (s.setCheck k x).ctxs = s.ctxs := rfl
@[simp] theorem State.setCheck_zttQ (k : Nat) (x : CheckS) : (s.setCheck k x).zttQ = s.zttQ := rfl
@[simp] theorem State.setCheck_engines (k : Nat) (x : CheckS) : (s.setCheck k x).engines = s.engines := rfl
@[simp] theorem State.setCheck_engLast (k : Nat) (x : CheckS) : (s.setCheck k x).engLast = s.engLast := rfl
@[simp] theorem State.setCheck_encs (k : Nat) (x : CheckS) : (s.setCheck k x).encs = s.encs := rfl
@[simp] theorem State.setCheck_touch (k : Nat) (x : CheckS) : (s.setCheck k x).touch = s.touch := rfl
@[simp] theorem State.setCheck_rings (k : Nat) (x : CheckS) : (s.setCheck k x).rings = s.rings := rfl
@[simp] theorem State.setCheck_pcie (k : Nat) (x : CheckS) : (s.setCheck k x).pcie = s.pcie := rfl
@[simp] theorem State.setCheck_lanes (k : Nat) (x : CheckS) : (s.setCheck k x).lanes = s.lanes := rfl
@[simp] theorem State.setCheck_spay (k : Nat) (x : CheckS) : (s.setCheck k x).spay = s.spay := rfl
@[simp] theorem State.setCheck_mem (k : Nat) (x : CheckS) : (s.setCheck k x).mem = s.mem := rfl
@[simp] theorem State.setCheck_sys (k : Nat) (x : CheckS) : (s.setCheck k x).sys = s.sys := rfl
@[simp] theorem State.setCheck_flash (k : Nat) (x : CheckS) : (s.setCheck k x).flash = s.flash := rfl
@[simp] theorem State.setCheck_upd (k : Nat) (x : CheckS) : (s.setCheck k x).upd = s.upd := rfl
@[simp] theorem State.setCheck_out (k : Nat) (x : CheckS) : (s.setCheck k x).out = s.out := rfl
@[simp] theorem State.setCheck_pending (k : Nat) (x : CheckS) : (s.setCheck k x).pending = s.pending := rfl

/-! ### setRing -/

@[simp] theorem State.setRing_clock (k : Nat) (x : RingS) : (s.setRing k x).clock = s.clock := rfl
@[simp] theorem State.setRing_free (k : Nat) (x : RingS) : (s.setRing k x).free = s.free := rfl
@[simp] theorem State.setRing_od (k : Nat) (x : RingS) : (s.setRing k x).od = s.od := rfl
@[simp] theorem State.setRing_force (k : Nat) (x : RingS) : (s.setRing k x).force = s.force := rfl
@[simp] theorem State.setRing_otp (k : Nat) (x : RingS) : (s.setRing k x).otp = s.otp := rfl
@[simp] theorem State.setRing_log (k : Nat) (x : RingS) : (s.setRing k x).log = s.log := rfl
@[simp] theorem State.setRing_time (k : Nat) (x : RingS) : (s.setRing k x).time = s.time := rfl
@[simp] theorem State.setRing_ptp (k : Nat) (x : RingS) : (s.setRing k x).ptp = s.ptp := rfl
@[simp] theorem State.setRing_trigs (k : Nat) (x : RingS) : (s.setRing k x).trigs = s.trigs := rfl
@[simp] theorem State.setRing_caps (k : Nat) (x : RingS) : (s.setRing k x).caps = s.caps := rfl
@[simp] theorem State.setRing_units (k : Nat) (x : RingS) : (s.setRing k x).units = s.units := rfl
@[simp] theorem State.setRing_declared (k : Nat) (x : RingS) : (s.setRing k x).declared = s.declared := rfl
@[simp] theorem State.setRing_lvsTest (k : Nat) (x : RingS) : (s.setRing k x).lvsTest = s.lvsTest := rfl
@[simp] theorem State.setRing_lvsTestAt (k : Nat) (x : RingS) : (s.setRing k x).lvsTestAt = s.lvsTestAt := rfl
@[simp] theorem State.setRing_link (k : Nat) (x : RingS) : (s.setRing k x).link = s.link := rfl
@[simp] theorem State.setRing_procs (k : Nat) (x : RingS) : (s.setRing k x).procs = s.procs := rfl
@[simp] theorem State.setRing_primary (k : Nat) (x : RingS) : (s.setRing k x).primary = s.primary := rfl
@[simp] theorem State.setRing_power (k : Nat) (x : RingS) : (s.setRing k x).power = s.power := rfl
@[simp] theorem State.setRing_loaded (k : Nat) (x : RingS) : (s.setRing k x).loaded = s.loaded := rfl
@[simp] theorem State.setRing_checks (k : Nat) (x : RingS) : (s.setRing k x).checks = s.checks := rfl
@[simp] theorem State.setRing_tally (k : Nat) (x : RingS) : (s.setRing k x).tally = s.tally := rfl
@[simp] theorem State.setRing_conds (k : Nat) (x : RingS) : (s.setRing k x).conds = s.conds := rfl
@[simp] theorem State.setRing_cans (k : Nat) (x : RingS) : (s.setRing k x).cans = s.cans := rfl
@[simp] theorem State.setRing_tpdos (k : Nat) (x : RingS) : (s.setRing k x).tpdos = s.tpdos := rfl
@[simp] theorem State.setRing_zdp (k : Nat) (x : RingS) : (s.setRing k x).zdp = s.zdp := rfl
@[simp] theorem State.setRing_partReads (k : Nat) (x : RingS) : (s.setRing k x).partReads = s.partReads := rfl
@[simp] theorem State.setRing_partWrites (k : Nat) (x : RingS) : (s.setRing k x).partWrites = s.partWrites := rfl
@[simp] theorem State.setRing_sess (k : Nat) (x : RingS) : (s.setRing k x).sess = s.sess := rfl
@[simp] theorem State.setRing_ports (k : Nat) (x : RingS) : (s.setRing k x).ports = s.ports := rfl
@[simp] theorem State.setRing_mcast (k : Nat) (x : RingS) : (s.setRing k x).mcast = s.mcast := rfl
@[simp] theorem State.setRing_cores (k : Nat) (x : RingS) : (s.setRing k x).cores = s.cores := rfl
@[simp] theorem State.setRing_segs (k : Nat) (x : RingS) : (s.setRing k x).segs = s.segs := rfl
@[simp] theorem State.setRing_active (k : Nat) (x : RingS) : (s.setRing k x).active = s.active := rfl
@[simp] theorem State.setRing_unpatched (k : Nat) (x : RingS) : (s.setRing k x).unpatched = s.unpatched := rfl
@[simp] theorem State.setRing_places (k : Nat) (x : RingS) : (s.setRing k x).places = s.places := rfl
@[simp] theorem State.setRing_layers (k : Nat) (x : RingS) : (s.setRing k x).layers = s.layers := rfl
@[simp] theorem State.setRing_screens (k : Nat) (x : RingS) : (s.setRing k x).screens = s.screens := rfl
@[simp] theorem State.setRing_commits (k : Nat) (x : RingS) : (s.setRing k x).commits = s.commits := rfl
@[simp] theorem State.setRing_receipts (k : Nat) (x : RingS) : (s.setRing k x).receipts = s.receipts := rfl
@[simp] theorem State.setRing_queued (k : Nat) (x : RingS) : (s.setRing k x).queued = s.queued := rfl
@[simp] theorem State.setRing_gfx (k : Nat) (x : RingS) : (s.setRing k x).gfx = s.gfx := rfl
@[simp] theorem State.setRing_ctxs (k : Nat) (x : RingS) : (s.setRing k x).ctxs = s.ctxs := rfl
@[simp] theorem State.setRing_zttQ (k : Nat) (x : RingS) : (s.setRing k x).zttQ = s.zttQ := rfl
@[simp] theorem State.setRing_engines (k : Nat) (x : RingS) : (s.setRing k x).engines = s.engines := rfl
@[simp] theorem State.setRing_engLast (k : Nat) (x : RingS) : (s.setRing k x).engLast = s.engLast := rfl
@[simp] theorem State.setRing_encs (k : Nat) (x : RingS) : (s.setRing k x).encs = s.encs := rfl
@[simp] theorem State.setRing_touch (k : Nat) (x : RingS) : (s.setRing k x).touch = s.touch := rfl
@[simp] theorem State.setRing_rings (k : Nat) (x : RingS) : (s.setRing k x).rings = s.rings.put k x := rfl
@[simp] theorem State.setRing_pcie (k : Nat) (x : RingS) : (s.setRing k x).pcie = s.pcie := rfl
@[simp] theorem State.setRing_lanes (k : Nat) (x : RingS) : (s.setRing k x).lanes = s.lanes := rfl
@[simp] theorem State.setRing_spay (k : Nat) (x : RingS) : (s.setRing k x).spay = s.spay := rfl
@[simp] theorem State.setRing_mem (k : Nat) (x : RingS) : (s.setRing k x).mem = s.mem := rfl
@[simp] theorem State.setRing_sys (k : Nat) (x : RingS) : (s.setRing k x).sys = s.sys := rfl
@[simp] theorem State.setRing_flash (k : Nat) (x : RingS) : (s.setRing k x).flash = s.flash := rfl
@[simp] theorem State.setRing_upd (k : Nat) (x : RingS) : (s.setRing k x).upd = s.upd := rfl
@[simp] theorem State.setRing_out (k : Nat) (x : RingS) : (s.setRing k x).out = s.out := rfl
@[simp] theorem State.setRing_pending (k : Nat) (x : RingS) : (s.setRing k x).pending = s.pending := rfl

/-! ### setGfx -/

@[simp] theorem State.setGfx_clock (k : Nat) (x : GfxS) : (s.setGfx k x).clock = s.clock := rfl
@[simp] theorem State.setGfx_free (k : Nat) (x : GfxS) : (s.setGfx k x).free = s.free := rfl
@[simp] theorem State.setGfx_od (k : Nat) (x : GfxS) : (s.setGfx k x).od = s.od := rfl
@[simp] theorem State.setGfx_force (k : Nat) (x : GfxS) : (s.setGfx k x).force = s.force := rfl
@[simp] theorem State.setGfx_otp (k : Nat) (x : GfxS) : (s.setGfx k x).otp = s.otp := rfl
@[simp] theorem State.setGfx_log (k : Nat) (x : GfxS) : (s.setGfx k x).log = s.log := rfl
@[simp] theorem State.setGfx_time (k : Nat) (x : GfxS) : (s.setGfx k x).time = s.time := rfl
@[simp] theorem State.setGfx_ptp (k : Nat) (x : GfxS) : (s.setGfx k x).ptp = s.ptp := rfl
@[simp] theorem State.setGfx_trigs (k : Nat) (x : GfxS) : (s.setGfx k x).trigs = s.trigs := rfl
@[simp] theorem State.setGfx_caps (k : Nat) (x : GfxS) : (s.setGfx k x).caps = s.caps := rfl
@[simp] theorem State.setGfx_units (k : Nat) (x : GfxS) : (s.setGfx k x).units = s.units := rfl
@[simp] theorem State.setGfx_declared (k : Nat) (x : GfxS) : (s.setGfx k x).declared = s.declared := rfl
@[simp] theorem State.setGfx_lvsTest (k : Nat) (x : GfxS) : (s.setGfx k x).lvsTest = s.lvsTest := rfl
@[simp] theorem State.setGfx_lvsTestAt (k : Nat) (x : GfxS) : (s.setGfx k x).lvsTestAt = s.lvsTestAt := rfl
@[simp] theorem State.setGfx_link (k : Nat) (x : GfxS) : (s.setGfx k x).link = s.link := rfl
@[simp] theorem State.setGfx_procs (k : Nat) (x : GfxS) : (s.setGfx k x).procs = s.procs := rfl
@[simp] theorem State.setGfx_primary (k : Nat) (x : GfxS) : (s.setGfx k x).primary = s.primary := rfl
@[simp] theorem State.setGfx_power (k : Nat) (x : GfxS) : (s.setGfx k x).power = s.power := rfl
@[simp] theorem State.setGfx_loaded (k : Nat) (x : GfxS) : (s.setGfx k x).loaded = s.loaded := rfl
@[simp] theorem State.setGfx_checks (k : Nat) (x : GfxS) : (s.setGfx k x).checks = s.checks := rfl
@[simp] theorem State.setGfx_tally (k : Nat) (x : GfxS) : (s.setGfx k x).tally = s.tally := rfl
@[simp] theorem State.setGfx_conds (k : Nat) (x : GfxS) : (s.setGfx k x).conds = s.conds := rfl
@[simp] theorem State.setGfx_cans (k : Nat) (x : GfxS) : (s.setGfx k x).cans = s.cans := rfl
@[simp] theorem State.setGfx_tpdos (k : Nat) (x : GfxS) : (s.setGfx k x).tpdos = s.tpdos := rfl
@[simp] theorem State.setGfx_zdp (k : Nat) (x : GfxS) : (s.setGfx k x).zdp = s.zdp := rfl
@[simp] theorem State.setGfx_partReads (k : Nat) (x : GfxS) : (s.setGfx k x).partReads = s.partReads := rfl
@[simp] theorem State.setGfx_partWrites (k : Nat) (x : GfxS) : (s.setGfx k x).partWrites = s.partWrites := rfl
@[simp] theorem State.setGfx_sess (k : Nat) (x : GfxS) : (s.setGfx k x).sess = s.sess := rfl
@[simp] theorem State.setGfx_ports (k : Nat) (x : GfxS) : (s.setGfx k x).ports = s.ports := rfl
@[simp] theorem State.setGfx_mcast (k : Nat) (x : GfxS) : (s.setGfx k x).mcast = s.mcast := rfl
@[simp] theorem State.setGfx_cores (k : Nat) (x : GfxS) : (s.setGfx k x).cores = s.cores := rfl
@[simp] theorem State.setGfx_segs (k : Nat) (x : GfxS) : (s.setGfx k x).segs = s.segs := rfl
@[simp] theorem State.setGfx_active (k : Nat) (x : GfxS) : (s.setGfx k x).active = s.active := rfl
@[simp] theorem State.setGfx_unpatched (k : Nat) (x : GfxS) : (s.setGfx k x).unpatched = s.unpatched := rfl
@[simp] theorem State.setGfx_places (k : Nat) (x : GfxS) : (s.setGfx k x).places = s.places := rfl
@[simp] theorem State.setGfx_layers (k : Nat) (x : GfxS) : (s.setGfx k x).layers = s.layers := rfl
@[simp] theorem State.setGfx_screens (k : Nat) (x : GfxS) : (s.setGfx k x).screens = s.screens := rfl
@[simp] theorem State.setGfx_commits (k : Nat) (x : GfxS) : (s.setGfx k x).commits = s.commits := rfl
@[simp] theorem State.setGfx_receipts (k : Nat) (x : GfxS) : (s.setGfx k x).receipts = s.receipts := rfl
@[simp] theorem State.setGfx_queued (k : Nat) (x : GfxS) : (s.setGfx k x).queued = s.queued := rfl
@[simp] theorem State.setGfx_gfx (k : Nat) (x : GfxS) : (s.setGfx k x).gfx = s.gfx.put k x := rfl
@[simp] theorem State.setGfx_ctxs (k : Nat) (x : GfxS) : (s.setGfx k x).ctxs = s.ctxs := rfl
@[simp] theorem State.setGfx_zttQ (k : Nat) (x : GfxS) : (s.setGfx k x).zttQ = s.zttQ := rfl
@[simp] theorem State.setGfx_engines (k : Nat) (x : GfxS) : (s.setGfx k x).engines = s.engines := rfl
@[simp] theorem State.setGfx_engLast (k : Nat) (x : GfxS) : (s.setGfx k x).engLast = s.engLast := rfl
@[simp] theorem State.setGfx_encs (k : Nat) (x : GfxS) : (s.setGfx k x).encs = s.encs := rfl
@[simp] theorem State.setGfx_touch (k : Nat) (x : GfxS) : (s.setGfx k x).touch = s.touch := rfl
@[simp] theorem State.setGfx_rings (k : Nat) (x : GfxS) : (s.setGfx k x).rings = s.rings := rfl
@[simp] theorem State.setGfx_pcie (k : Nat) (x : GfxS) : (s.setGfx k x).pcie = s.pcie := rfl
@[simp] theorem State.setGfx_lanes (k : Nat) (x : GfxS) : (s.setGfx k x).lanes = s.lanes := rfl
@[simp] theorem State.setGfx_spay (k : Nat) (x : GfxS) : (s.setGfx k x).spay = s.spay := rfl
@[simp] theorem State.setGfx_mem (k : Nat) (x : GfxS) : (s.setGfx k x).mem = s.mem := rfl
@[simp] theorem State.setGfx_sys (k : Nat) (x : GfxS) : (s.setGfx k x).sys = s.sys := rfl
@[simp] theorem State.setGfx_flash (k : Nat) (x : GfxS) : (s.setGfx k x).flash = s.flash := rfl
@[simp] theorem State.setGfx_upd (k : Nat) (x : GfxS) : (s.setGfx k x).upd = s.upd := rfl
@[simp] theorem State.setGfx_out (k : Nat) (x : GfxS) : (s.setGfx k x).out = s.out := rfl
@[simp] theorem State.setGfx_pending (k : Nat) (x : GfxS) : (s.setGfx k x).pending = s.pending := rfl

/-! ### setCtx -/

@[simp] theorem State.setCtx_clock (k : Nat) (x : CtxS) : (s.setCtx k x).clock = s.clock := rfl
@[simp] theorem State.setCtx_free (k : Nat) (x : CtxS) : (s.setCtx k x).free = s.free := rfl
@[simp] theorem State.setCtx_od (k : Nat) (x : CtxS) : (s.setCtx k x).od = s.od := rfl
@[simp] theorem State.setCtx_force (k : Nat) (x : CtxS) : (s.setCtx k x).force = s.force := rfl
@[simp] theorem State.setCtx_otp (k : Nat) (x : CtxS) : (s.setCtx k x).otp = s.otp := rfl
@[simp] theorem State.setCtx_log (k : Nat) (x : CtxS) : (s.setCtx k x).log = s.log := rfl
@[simp] theorem State.setCtx_time (k : Nat) (x : CtxS) : (s.setCtx k x).time = s.time := rfl
@[simp] theorem State.setCtx_ptp (k : Nat) (x : CtxS) : (s.setCtx k x).ptp = s.ptp := rfl
@[simp] theorem State.setCtx_trigs (k : Nat) (x : CtxS) : (s.setCtx k x).trigs = s.trigs := rfl
@[simp] theorem State.setCtx_caps (k : Nat) (x : CtxS) : (s.setCtx k x).caps = s.caps := rfl
@[simp] theorem State.setCtx_units (k : Nat) (x : CtxS) : (s.setCtx k x).units = s.units := rfl
@[simp] theorem State.setCtx_declared (k : Nat) (x : CtxS) : (s.setCtx k x).declared = s.declared := rfl
@[simp] theorem State.setCtx_lvsTest (k : Nat) (x : CtxS) : (s.setCtx k x).lvsTest = s.lvsTest := rfl
@[simp] theorem State.setCtx_lvsTestAt (k : Nat) (x : CtxS) : (s.setCtx k x).lvsTestAt = s.lvsTestAt := rfl
@[simp] theorem State.setCtx_link (k : Nat) (x : CtxS) : (s.setCtx k x).link = s.link := rfl
@[simp] theorem State.setCtx_procs (k : Nat) (x : CtxS) : (s.setCtx k x).procs = s.procs := rfl
@[simp] theorem State.setCtx_primary (k : Nat) (x : CtxS) : (s.setCtx k x).primary = s.primary := rfl
@[simp] theorem State.setCtx_power (k : Nat) (x : CtxS) : (s.setCtx k x).power = s.power := rfl
@[simp] theorem State.setCtx_loaded (k : Nat) (x : CtxS) : (s.setCtx k x).loaded = s.loaded := rfl
@[simp] theorem State.setCtx_checks (k : Nat) (x : CtxS) : (s.setCtx k x).checks = s.checks := rfl
@[simp] theorem State.setCtx_tally (k : Nat) (x : CtxS) : (s.setCtx k x).tally = s.tally := rfl
@[simp] theorem State.setCtx_conds (k : Nat) (x : CtxS) : (s.setCtx k x).conds = s.conds := rfl
@[simp] theorem State.setCtx_cans (k : Nat) (x : CtxS) : (s.setCtx k x).cans = s.cans := rfl
@[simp] theorem State.setCtx_tpdos (k : Nat) (x : CtxS) : (s.setCtx k x).tpdos = s.tpdos := rfl
@[simp] theorem State.setCtx_zdp (k : Nat) (x : CtxS) : (s.setCtx k x).zdp = s.zdp := rfl
@[simp] theorem State.setCtx_partReads (k : Nat) (x : CtxS) : (s.setCtx k x).partReads = s.partReads := rfl
@[simp] theorem State.setCtx_partWrites (k : Nat) (x : CtxS) : (s.setCtx k x).partWrites = s.partWrites := rfl
@[simp] theorem State.setCtx_sess (k : Nat) (x : CtxS) : (s.setCtx k x).sess = s.sess := rfl
@[simp] theorem State.setCtx_ports (k : Nat) (x : CtxS) : (s.setCtx k x).ports = s.ports := rfl
@[simp] theorem State.setCtx_mcast (k : Nat) (x : CtxS) : (s.setCtx k x).mcast = s.mcast := rfl
@[simp] theorem State.setCtx_cores (k : Nat) (x : CtxS) : (s.setCtx k x).cores = s.cores := rfl
@[simp] theorem State.setCtx_segs (k : Nat) (x : CtxS) : (s.setCtx k x).segs = s.segs := rfl
@[simp] theorem State.setCtx_active (k : Nat) (x : CtxS) : (s.setCtx k x).active = s.active := rfl
@[simp] theorem State.setCtx_unpatched (k : Nat) (x : CtxS) : (s.setCtx k x).unpatched = s.unpatched := rfl
@[simp] theorem State.setCtx_places (k : Nat) (x : CtxS) : (s.setCtx k x).places = s.places := rfl
@[simp] theorem State.setCtx_layers (k : Nat) (x : CtxS) : (s.setCtx k x).layers = s.layers := rfl
@[simp] theorem State.setCtx_screens (k : Nat) (x : CtxS) : (s.setCtx k x).screens = s.screens := rfl
@[simp] theorem State.setCtx_commits (k : Nat) (x : CtxS) : (s.setCtx k x).commits = s.commits := rfl
@[simp] theorem State.setCtx_receipts (k : Nat) (x : CtxS) : (s.setCtx k x).receipts = s.receipts := rfl
@[simp] theorem State.setCtx_queued (k : Nat) (x : CtxS) : (s.setCtx k x).queued = s.queued := rfl
@[simp] theorem State.setCtx_gfx (k : Nat) (x : CtxS) : (s.setCtx k x).gfx = s.gfx := rfl
@[simp] theorem State.setCtx_ctxs (k : Nat) (x : CtxS) : (s.setCtx k x).ctxs = s.ctxs.put k x := rfl
@[simp] theorem State.setCtx_zttQ (k : Nat) (x : CtxS) : (s.setCtx k x).zttQ = s.zttQ := rfl
@[simp] theorem State.setCtx_engines (k : Nat) (x : CtxS) : (s.setCtx k x).engines = s.engines := rfl
@[simp] theorem State.setCtx_engLast (k : Nat) (x : CtxS) : (s.setCtx k x).engLast = s.engLast := rfl
@[simp] theorem State.setCtx_encs (k : Nat) (x : CtxS) : (s.setCtx k x).encs = s.encs := rfl
@[simp] theorem State.setCtx_touch (k : Nat) (x : CtxS) : (s.setCtx k x).touch = s.touch := rfl
@[simp] theorem State.setCtx_rings (k : Nat) (x : CtxS) : (s.setCtx k x).rings = s.rings := rfl
@[simp] theorem State.setCtx_pcie (k : Nat) (x : CtxS) : (s.setCtx k x).pcie = s.pcie := rfl
@[simp] theorem State.setCtx_lanes (k : Nat) (x : CtxS) : (s.setCtx k x).lanes = s.lanes := rfl
@[simp] theorem State.setCtx_spay (k : Nat) (x : CtxS) : (s.setCtx k x).spay = s.spay := rfl
@[simp] theorem State.setCtx_mem (k : Nat) (x : CtxS) : (s.setCtx k x).mem = s.mem := rfl
@[simp] theorem State.setCtx_sys (k : Nat) (x : CtxS) : (s.setCtx k x).sys = s.sys := rfl
@[simp] theorem State.setCtx_flash (k : Nat) (x : CtxS) : (s.setCtx k x).flash = s.flash := rfl
@[simp] theorem State.setCtx_upd (k : Nat) (x : CtxS) : (s.setCtx k x).upd = s.upd := rfl
@[simp] theorem State.setCtx_out (k : Nat) (x : CtxS) : (s.setCtx k x).out = s.out := rfl
@[simp] theorem State.setCtx_pending (k : Nat) (x : CtxS) : (s.setCtx k x).pending = s.pending := rfl

/-! ### setTch -/

@[simp] theorem State.setTch_clock (k : Nat) (x : TouchS) : (s.setTch k x).clock = s.clock := rfl
@[simp] theorem State.setTch_free (k : Nat) (x : TouchS) : (s.setTch k x).free = s.free := rfl
@[simp] theorem State.setTch_od (k : Nat) (x : TouchS) : (s.setTch k x).od = s.od := rfl
@[simp] theorem State.setTch_force (k : Nat) (x : TouchS) : (s.setTch k x).force = s.force := rfl
@[simp] theorem State.setTch_otp (k : Nat) (x : TouchS) : (s.setTch k x).otp = s.otp := rfl
@[simp] theorem State.setTch_log (k : Nat) (x : TouchS) : (s.setTch k x).log = s.log := rfl
@[simp] theorem State.setTch_time (k : Nat) (x : TouchS) : (s.setTch k x).time = s.time := rfl
@[simp] theorem State.setTch_ptp (k : Nat) (x : TouchS) : (s.setTch k x).ptp = s.ptp := rfl
@[simp] theorem State.setTch_trigs (k : Nat) (x : TouchS) : (s.setTch k x).trigs = s.trigs := rfl
@[simp] theorem State.setTch_caps (k : Nat) (x : TouchS) : (s.setTch k x).caps = s.caps := rfl
@[simp] theorem State.setTch_units (k : Nat) (x : TouchS) : (s.setTch k x).units = s.units := rfl
@[simp] theorem State.setTch_declared (k : Nat) (x : TouchS) : (s.setTch k x).declared = s.declared := rfl
@[simp] theorem State.setTch_lvsTest (k : Nat) (x : TouchS) : (s.setTch k x).lvsTest = s.lvsTest := rfl
@[simp] theorem State.setTch_lvsTestAt (k : Nat) (x : TouchS) : (s.setTch k x).lvsTestAt = s.lvsTestAt := rfl
@[simp] theorem State.setTch_link (k : Nat) (x : TouchS) : (s.setTch k x).link = s.link := rfl
@[simp] theorem State.setTch_procs (k : Nat) (x : TouchS) : (s.setTch k x).procs = s.procs := rfl
@[simp] theorem State.setTch_primary (k : Nat) (x : TouchS) : (s.setTch k x).primary = s.primary := rfl
@[simp] theorem State.setTch_power (k : Nat) (x : TouchS) : (s.setTch k x).power = s.power := rfl
@[simp] theorem State.setTch_loaded (k : Nat) (x : TouchS) : (s.setTch k x).loaded = s.loaded := rfl
@[simp] theorem State.setTch_checks (k : Nat) (x : TouchS) : (s.setTch k x).checks = s.checks := rfl
@[simp] theorem State.setTch_tally (k : Nat) (x : TouchS) : (s.setTch k x).tally = s.tally := rfl
@[simp] theorem State.setTch_conds (k : Nat) (x : TouchS) : (s.setTch k x).conds = s.conds := rfl
@[simp] theorem State.setTch_cans (k : Nat) (x : TouchS) : (s.setTch k x).cans = s.cans := rfl
@[simp] theorem State.setTch_tpdos (k : Nat) (x : TouchS) : (s.setTch k x).tpdos = s.tpdos := rfl
@[simp] theorem State.setTch_zdp (k : Nat) (x : TouchS) : (s.setTch k x).zdp = s.zdp := rfl
@[simp] theorem State.setTch_partReads (k : Nat) (x : TouchS) : (s.setTch k x).partReads = s.partReads := rfl
@[simp] theorem State.setTch_partWrites (k : Nat) (x : TouchS) : (s.setTch k x).partWrites = s.partWrites := rfl
@[simp] theorem State.setTch_sess (k : Nat) (x : TouchS) : (s.setTch k x).sess = s.sess := rfl
@[simp] theorem State.setTch_ports (k : Nat) (x : TouchS) : (s.setTch k x).ports = s.ports := rfl
@[simp] theorem State.setTch_mcast (k : Nat) (x : TouchS) : (s.setTch k x).mcast = s.mcast := rfl
@[simp] theorem State.setTch_cores (k : Nat) (x : TouchS) : (s.setTch k x).cores = s.cores := rfl
@[simp] theorem State.setTch_segs (k : Nat) (x : TouchS) : (s.setTch k x).segs = s.segs := rfl
@[simp] theorem State.setTch_active (k : Nat) (x : TouchS) : (s.setTch k x).active = s.active := rfl
@[simp] theorem State.setTch_unpatched (k : Nat) (x : TouchS) : (s.setTch k x).unpatched = s.unpatched := rfl
@[simp] theorem State.setTch_places (k : Nat) (x : TouchS) : (s.setTch k x).places = s.places := rfl
@[simp] theorem State.setTch_layers (k : Nat) (x : TouchS) : (s.setTch k x).layers = s.layers := rfl
@[simp] theorem State.setTch_screens (k : Nat) (x : TouchS) : (s.setTch k x).screens = s.screens := rfl
@[simp] theorem State.setTch_commits (k : Nat) (x : TouchS) : (s.setTch k x).commits = s.commits := rfl
@[simp] theorem State.setTch_receipts (k : Nat) (x : TouchS) : (s.setTch k x).receipts = s.receipts := rfl
@[simp] theorem State.setTch_queued (k : Nat) (x : TouchS) : (s.setTch k x).queued = s.queued := rfl
@[simp] theorem State.setTch_gfx (k : Nat) (x : TouchS) : (s.setTch k x).gfx = s.gfx := rfl
@[simp] theorem State.setTch_ctxs (k : Nat) (x : TouchS) : (s.setTch k x).ctxs = s.ctxs := rfl
@[simp] theorem State.setTch_zttQ (k : Nat) (x : TouchS) : (s.setTch k x).zttQ = s.zttQ := rfl
@[simp] theorem State.setTch_engines (k : Nat) (x : TouchS) : (s.setTch k x).engines = s.engines := rfl
@[simp] theorem State.setTch_engLast (k : Nat) (x : TouchS) : (s.setTch k x).engLast = s.engLast := rfl
@[simp] theorem State.setTch_encs (k : Nat) (x : TouchS) : (s.setTch k x).encs = s.encs := rfl
@[simp] theorem State.setTch_touch (k : Nat) (x : TouchS) : (s.setTch k x).touch = s.touch.put k x := rfl
@[simp] theorem State.setTch_rings (k : Nat) (x : TouchS) : (s.setTch k x).rings = s.rings := rfl
@[simp] theorem State.setTch_pcie (k : Nat) (x : TouchS) : (s.setTch k x).pcie = s.pcie := rfl
@[simp] theorem State.setTch_lanes (k : Nat) (x : TouchS) : (s.setTch k x).lanes = s.lanes := rfl
@[simp] theorem State.setTch_spay (k : Nat) (x : TouchS) : (s.setTch k x).spay = s.spay := rfl
@[simp] theorem State.setTch_mem (k : Nat) (x : TouchS) : (s.setTch k x).mem = s.mem := rfl
@[simp] theorem State.setTch_sys (k : Nat) (x : TouchS) : (s.setTch k x).sys = s.sys := rfl
@[simp] theorem State.setTch_flash (k : Nat) (x : TouchS) : (s.setTch k x).flash = s.flash := rfl
@[simp] theorem State.setTch_upd (k : Nat) (x : TouchS) : (s.setTch k x).upd = s.upd := rfl
@[simp] theorem State.setTch_out (k : Nat) (x : TouchS) : (s.setTch k x).out = s.out := rfl
@[simp] theorem State.setTch_pending (k : Nat) (x : TouchS) : (s.setTch k x).pending = s.pending := rfl

/-! ### setSp -/

@[simp] theorem State.setSp_clock (k : Nat) (x : SpayS) : (s.setSp k x).clock = s.clock := rfl
@[simp] theorem State.setSp_free (k : Nat) (x : SpayS) : (s.setSp k x).free = s.free := rfl
@[simp] theorem State.setSp_od (k : Nat) (x : SpayS) : (s.setSp k x).od = s.od := rfl
@[simp] theorem State.setSp_force (k : Nat) (x : SpayS) : (s.setSp k x).force = s.force := rfl
@[simp] theorem State.setSp_otp (k : Nat) (x : SpayS) : (s.setSp k x).otp = s.otp := rfl
@[simp] theorem State.setSp_log (k : Nat) (x : SpayS) : (s.setSp k x).log = s.log := rfl
@[simp] theorem State.setSp_time (k : Nat) (x : SpayS) : (s.setSp k x).time = s.time := rfl
@[simp] theorem State.setSp_ptp (k : Nat) (x : SpayS) : (s.setSp k x).ptp = s.ptp := rfl
@[simp] theorem State.setSp_trigs (k : Nat) (x : SpayS) : (s.setSp k x).trigs = s.trigs := rfl
@[simp] theorem State.setSp_caps (k : Nat) (x : SpayS) : (s.setSp k x).caps = s.caps := rfl
@[simp] theorem State.setSp_units (k : Nat) (x : SpayS) : (s.setSp k x).units = s.units := rfl
@[simp] theorem State.setSp_declared (k : Nat) (x : SpayS) : (s.setSp k x).declared = s.declared := rfl
@[simp] theorem State.setSp_lvsTest (k : Nat) (x : SpayS) : (s.setSp k x).lvsTest = s.lvsTest := rfl
@[simp] theorem State.setSp_lvsTestAt (k : Nat) (x : SpayS) : (s.setSp k x).lvsTestAt = s.lvsTestAt := rfl
@[simp] theorem State.setSp_link (k : Nat) (x : SpayS) : (s.setSp k x).link = s.link := rfl
@[simp] theorem State.setSp_procs (k : Nat) (x : SpayS) : (s.setSp k x).procs = s.procs := rfl
@[simp] theorem State.setSp_primary (k : Nat) (x : SpayS) : (s.setSp k x).primary = s.primary := rfl
@[simp] theorem State.setSp_power (k : Nat) (x : SpayS) : (s.setSp k x).power = s.power := rfl
@[simp] theorem State.setSp_loaded (k : Nat) (x : SpayS) : (s.setSp k x).loaded = s.loaded := rfl
@[simp] theorem State.setSp_checks (k : Nat) (x : SpayS) : (s.setSp k x).checks = s.checks := rfl
@[simp] theorem State.setSp_tally (k : Nat) (x : SpayS) : (s.setSp k x).tally = s.tally := rfl
@[simp] theorem State.setSp_conds (k : Nat) (x : SpayS) : (s.setSp k x).conds = s.conds := rfl
@[simp] theorem State.setSp_cans (k : Nat) (x : SpayS) : (s.setSp k x).cans = s.cans := rfl
@[simp] theorem State.setSp_tpdos (k : Nat) (x : SpayS) : (s.setSp k x).tpdos = s.tpdos := rfl
@[simp] theorem State.setSp_zdp (k : Nat) (x : SpayS) : (s.setSp k x).zdp = s.zdp := rfl
@[simp] theorem State.setSp_partReads (k : Nat) (x : SpayS) : (s.setSp k x).partReads = s.partReads := rfl
@[simp] theorem State.setSp_partWrites (k : Nat) (x : SpayS) : (s.setSp k x).partWrites = s.partWrites := rfl
@[simp] theorem State.setSp_sess (k : Nat) (x : SpayS) : (s.setSp k x).sess = s.sess := rfl
@[simp] theorem State.setSp_ports (k : Nat) (x : SpayS) : (s.setSp k x).ports = s.ports := rfl
@[simp] theorem State.setSp_mcast (k : Nat) (x : SpayS) : (s.setSp k x).mcast = s.mcast := rfl
@[simp] theorem State.setSp_cores (k : Nat) (x : SpayS) : (s.setSp k x).cores = s.cores := rfl
@[simp] theorem State.setSp_segs (k : Nat) (x : SpayS) : (s.setSp k x).segs = s.segs := rfl
@[simp] theorem State.setSp_active (k : Nat) (x : SpayS) : (s.setSp k x).active = s.active := rfl
@[simp] theorem State.setSp_unpatched (k : Nat) (x : SpayS) : (s.setSp k x).unpatched = s.unpatched := rfl
@[simp] theorem State.setSp_places (k : Nat) (x : SpayS) : (s.setSp k x).places = s.places := rfl
@[simp] theorem State.setSp_layers (k : Nat) (x : SpayS) : (s.setSp k x).layers = s.layers := rfl
@[simp] theorem State.setSp_screens (k : Nat) (x : SpayS) : (s.setSp k x).screens = s.screens := rfl
@[simp] theorem State.setSp_commits (k : Nat) (x : SpayS) : (s.setSp k x).commits = s.commits := rfl
@[simp] theorem State.setSp_receipts (k : Nat) (x : SpayS) : (s.setSp k x).receipts = s.receipts := rfl
@[simp] theorem State.setSp_queued (k : Nat) (x : SpayS) : (s.setSp k x).queued = s.queued := rfl
@[simp] theorem State.setSp_gfx (k : Nat) (x : SpayS) : (s.setSp k x).gfx = s.gfx := rfl
@[simp] theorem State.setSp_ctxs (k : Nat) (x : SpayS) : (s.setSp k x).ctxs = s.ctxs := rfl
@[simp] theorem State.setSp_zttQ (k : Nat) (x : SpayS) : (s.setSp k x).zttQ = s.zttQ := rfl
@[simp] theorem State.setSp_engines (k : Nat) (x : SpayS) : (s.setSp k x).engines = s.engines := rfl
@[simp] theorem State.setSp_engLast (k : Nat) (x : SpayS) : (s.setSp k x).engLast = s.engLast := rfl
@[simp] theorem State.setSp_encs (k : Nat) (x : SpayS) : (s.setSp k x).encs = s.encs := rfl
@[simp] theorem State.setSp_touch (k : Nat) (x : SpayS) : (s.setSp k x).touch = s.touch := rfl
@[simp] theorem State.setSp_rings (k : Nat) (x : SpayS) : (s.setSp k x).rings = s.rings := rfl
@[simp] theorem State.setSp_pcie (k : Nat) (x : SpayS) : (s.setSp k x).pcie = s.pcie := rfl
@[simp] theorem State.setSp_lanes (k : Nat) (x : SpayS) : (s.setSp k x).lanes = s.lanes := rfl
@[simp] theorem State.setSp_spay (k : Nat) (x : SpayS) : (s.setSp k x).spay = s.spay.put k x := rfl
@[simp] theorem State.setSp_mem (k : Nat) (x : SpayS) : (s.setSp k x).mem = s.mem := rfl
@[simp] theorem State.setSp_sys (k : Nat) (x : SpayS) : (s.setSp k x).sys = s.sys := rfl
@[simp] theorem State.setSp_flash (k : Nat) (x : SpayS) : (s.setSp k x).flash = s.flash := rfl
@[simp] theorem State.setSp_upd (k : Nat) (x : SpayS) : (s.setSp k x).upd = s.upd := rfl
@[simp] theorem State.setSp_out (k : Nat) (x : SpayS) : (s.setSp k x).out = s.out := rfl
@[simp] theorem State.setSp_pending (k : Nat) (x : SpayS) : (s.setSp k x).pending = s.pending := rfl

/-! ### Reads after writes -/

@[simp] theorem State.unit_setUnit_same (k : Nat) (x : UnitS) : (s.setUnit k x).unit k = x := Tab.at'_put_same _ _ _ _
theorem State.unit_setUnit_other {k j : Nat} (x : UnitS) (h : j ≠ k) : (s.setUnit k x).unit j = s.unit j := Tab.at'_put_other _ _ _ h
@[simp] theorem State.ses_setSes_same (k : Nat) (x : SessS) : (s.setSes k x).ses k = x := Tab.at'_put_same _ _ _ _
theorem State.ses_setSes_other {k j : Nat} (x : SessS) (h : j ≠ k) : (s.setSes k x).ses j = s.ses j := Tab.at'_put_other _ _ _ h
@[simp] theorem State.layer_setLayer_same (k : Nat) (x : LayerS) : (s.setLayer k x).layer k = x := Tab.at'_put_same _ _ _ _
theorem State.layer_setLayer_other {k j : Nat} (x : LayerS) (h : j ≠ k) : (s.setLayer k x).layer j = s.layer j := Tab.at'_put_other _ _ _ h
@[simp] theorem State.screen_setScreen_same (k : Nat) (x : ScreenS) : (s.setScreen k x).screen k = x := Tab.at'_put_same _ _ _ _
theorem State.screen_setScreen_other {k j : Nat} (x : ScreenS) (h : j ≠ k) : (s.setScreen k x).screen j = s.screen j := Tab.at'_put_other _ _ _ h
@[simp] theorem State.enc_setEnc_same (k : Nat) (x : EncS) : (s.setEnc k x).enc k = x := Tab.at'_put_same _ _ _ _
theorem State.enc_setEnc_other {k j : Nat} (x : EncS) (h : j ≠ k) : (s.setEnc k x).enc j = s.enc j := Tab.at'_put_other _ _ _ h
@[simp] theorem State.canP_setCan_same (k : Nat) (x : CanS) : (s.setCan k x).canP k = x := Tab.at'_put_same _ _ _ _
theorem State.canP_setCan_other {k j : Nat} (x : CanS) (h : j ≠ k) : (s.setCan k x).canP j = s.canP j := Tab.at'_put_other _ _ _ h
@[simp] theorem State.check_setCheck_same (k : Nat) (x : CheckS) : (s.setCheck k x).check k = x := Tab.at'_put_same _ _ _ _
theorem State.check_setCheck_other {k j : Nat} (x : CheckS) (h : j ≠ k) : (s.setCheck k x).check j = s.check j := Tab.at'_put_other _ _ _ h
@[simp] theorem State.ring_setRing_same (k : Nat) (x : RingS) : (s.setRing k x).ring k = x := Tab.at'_put_same _ _ _ _
theorem State.ring_setRing_other {k j : Nat} (x : RingS) (h : j ≠ k) : (s.setRing k x).ring j = s.ring j := Tab.at'_put_other _ _ _ h
@[simp] theorem State.gfxOf_setGfx_same (k : Nat) (x : GfxS) : (s.setGfx k x).gfxOf k = x := Tab.at'_put_same _ _ _ _
theorem State.gfxOf_setGfx_other {k j : Nat} (x : GfxS) (h : j ≠ k) : (s.setGfx k x).gfxOf j = s.gfxOf j := Tab.at'_put_other _ _ _ h
@[simp] theorem State.ctx_setCtx_same (k : Nat) (x : CtxS) : (s.setCtx k x).ctx k = x := Tab.at'_put_same _ _ _ _
theorem State.ctx_setCtx_other {k j : Nat} (x : CtxS) (h : j ≠ k) : (s.setCtx k x).ctx j = s.ctx j := Tab.at'_put_other _ _ _ h
@[simp] theorem State.tch_setTch_same (k : Nat) (x : TouchS) : (s.setTch k x).tch k = x := Tab.at'_put_same _ _ _ _
theorem State.tch_setTch_other {k j : Nat} (x : TouchS) (h : j ≠ k) : (s.setTch k x).tch j = s.tch j := Tab.at'_put_other _ _ _ h
@[simp] theorem State.sp_setSp_same (k : Nat) (x : SpayS) : (s.setSp k x).sp k = x := Tab.at'_put_same _ _ _ _
theorem State.sp_setSp_other {k j : Nat} (x : SpayS) (h : j ≠ k) : (s.setSp k x).sp j = s.sp j := Tab.at'_put_other _ _ _ h

/-! ### Dictionary values -/

/-- Objects of one-byte subindices have keys of their own. -/
theorem key_inj {i j a b : Nat} (ha : a < 256) (hb : b < 256) (h : key i a = key j b) : i = j ∧ a = b := by
  unfold key at h
  omega

@[simp] theorem State.val_wv_same (idx sub : Nat) (v : Val) : (s.wv idx sub v).val idx sub = v := by
  simp [State.val]

theorem State.val_wv_other {idx sub i b : Nat} (v : Val) (h : key i b ≠ key idx sub) : (s.wv idx sub v).val i b = s.val i b := by
  simp [State.val, Tab.look_put_other _ v h]

@[simp] theorem State.fval_wv (idx sub i b : Nat) (v : Val) : (s.wv idx sub v).fval i b = s.fval i b := rfl
@[simp] theorem State.val_setForce (idx sub i b : Nat) (v : Val) : (s.setForce idx sub v).val i b = s.val i b := rfl

@[simp] theorem State.fval_setForce_same (idx sub : Nat) (v : Val) : (s.setForce idx sub v).fval idx sub = v := by
  simp [State.fval]

theorem State.fval_setForce_other {idx sub i b : Nat} (v : Val) (h : key i b ≠ key idx sub) :
    (s.setForce idx sub v).fval i b = s.fval i b := by
  simp [State.fval, Tab.look_put_other _ v h]

@[simp] theorem State.rn_wn_same (idx sub v : Nat) : (s.wn idx sub v).rn idx sub = v := by
  simp [State.rn, State.rd, State.wn, Val.int]

theorem State.rn_wn_other {idx sub i b : Nat} (v : Nat) (h : key i b ≠ key idx sub) : (s.wn idx sub v).rn i b = s.rn i b := by
  simp [State.rn, State.rd, State.wn, State.val_wv_other s _ h]

theorem State.rn_wb_other {idx sub i b : Nat} (v : List Byte) (h : key i b ≠ key idx sub) :
    (s.wb idx sub v).rn i b = s.rn i b := by
  simp [State.rn, State.rd, State.wb, State.val_wv_other s _ h]

@[simp] theorem State.rb_wb_same (idx sub : Nat) (b : List Byte) : (s.wb idx sub b).rb idx sub = b := by
  simp [State.rb, State.wb, Val.bs]

theorem State.rb_wb_other {idx sub i b : Nat} (v : List Byte) (h : key i b ≠ key idx sub) :
    (s.wb idx sub v).rb i b = s.rb i b := by
  simp [State.rb, State.wb, State.val_wv_other s _ h]

@[simp] theorem State.fn_wv (idx sub i b : Nat) (v : Val) : (s.wv idx sub v).fn i b = s.fn i b := rfl
@[simp] theorem State.fn_wn (idx sub v i b : Nat) : (s.wn idx sub v).fn i b = s.fn i b := rfl

end Sys2Proof.Machine
end

