-- ==== Sys2Proof/Laws/Ops.lean ====
section
/-! SUPPORT. What each shared operation can do, said once: recording an output, raising an event, counting, the passing of time, and
the answering of requests. -/

namespace Sys2Proof.Machine

variable (s : State)

/-! ### Outputs -/

/-- An output is recorded, or nothing happens. -/
theorem State.say_cases (o : Out) : s.say o = s ∨ s.say o = { s with out := o :: s.out } := by
  unfold State.say
  split
  · exact .inl rfl
  · exact .inr rfl

/-- Recording an output changes the outputs alone. -/
theorem State.say_frame (o : Out) : s.say o = { s with out := (s.say o).out } := by
  rcases s.say_cases o with h | h <;> rw [h]

/-- An answer is an output, or nothing for the package's own requests of a change set. -/
theorem State.respond_frame (r : Req) (idx sub st : Nat) (v : List Byte) :
    s.respond r idx sub st v = { s with out := (s.respond r idx sub st v).out } := by
  cases r <;> first | rfl | exact s.say_frame _

/-! ### Events and counters -/

/-- Raising an event changes the log, and the count of lost events where a queue is full. -/
theorem State.raise_frame (k ty sev : Nat) (pay : List (Nat × Nat)) :
    s.raise k ty sev pay = { s with od := (s.raise k ty sev pay).od, log := (s.raise k ty sev pay).log } := by
  unfold State.raise State.enqueue
  split
  · rfl
  · unfold State.dropEv
    dsimp only
    split
    · rfl
    · split <;> rfl

/-- With room in its queue an event is queued at its end, and nothing else changes. -/
theorem State.raise_room (k ty sev : Nat) (pay : List (Nat × Nat)) (h : (s.log.queues.at' k []).length < 16) :
    s.raise k ty sev pay =
      s.queueEv k ⟨ty, sev, s.addrOf k, (s.clockOf (keyDie k)).1, (s.clockOf (keyDie k)).2, pay, 0⟩ := by
  simp [State.raise, State.enqueue, h]

/-- A counter counted changes dictionary values and the log. -/
theorem State.bump_frame (k idx sub n : Nat) :
    s.bump k idx sub n = { s with od := (s.bump k idx sub n).od, log := (s.bump k idx sub n).log } := by
  unfold State.bump
  dsimp only
  repeat' split
  all_goals first | rfl | (rw [State.raise_frame]; rfl)

/-- A wrapping counter counted changes dictionary values alone. -/
theorem State.wrap_frame (n idx sub : Nat) : s.wrap n idx sub = { s with od := (s.wrap n idx sub).od } := rfl

/-- A read-clear leaves its counter 0. -/
theorem State.readClear_rn (idx sub : Nat) (h : key idx sub ≠ key 0x2000 0x07) : (s.readClear idx sub).rn idx sub = 0 := by
  unfold State.readClear
  dsimp only
  rw [State.rn_wb_other _ _ h, State.rn_wn_same]

/-! ### Time -/

theorem State.advance_frame (n : Nat) :
    s.advance n = { s with clock := (s.advance n).clock, time := (s.advance n).time } := by
  unfold State.advance
  split <;> rfl

/-- Time that passes changes the clock, the time bases and, at the end of a slew, the increment. -/
theorem State.tick_frame (t : Nat) :
    s.tick t = { s with od := (s.tick t).od, clock := (s.tick t).clock, time := (s.tick t).time } := by
  unfold State.tick State.endSlew State.advance
  dsimp only
  repeat' split
  all_goals rfl

theorem State.advance_clock (n : Nat) : (s.advance n).clock = s.clock + n := by
  unfold State.advance
  split
  · omega
  · rfl

/-- The clock never goes back. -/
theorem State.tick_clock (t : Nat) : s.clock ≤ (s.tick t).clock := by
  unfold State.tick
  repeat' split
  all_goals simp only [State.endSlew, State.advance_clock, State.wn_clock]; omega

@[simp] theorem State.tick_force (t : Nat) : (s.tick t).force = s.force := by rw [s.tick_frame t]
@[simp] theorem State.tick_units (t : Nat) : (s.tick t).units = s.units := by rw [s.tick_frame t]
@[simp] theorem State.tick_layers (t : Nat) : (s.tick t).layers = s.layers := by rw [s.tick_frame t]
@[simp] theorem State.tick_screens (t : Nat) : (s.tick t).screens = s.screens := by rw [s.tick_frame t]
@[simp] theorem State.tick_sess (t : Nat) : (s.tick t).sess = s.sess := by rw [s.tick_frame t]
@[simp] theorem State.tick_power (t : Nat) : (s.tick t).power = s.power := by rw [s.tick_frame t]
@[simp] theorem State.tick_pending (t : Nat) : (s.tick t).pending = s.pending := by rw [s.tick_frame t]
@[simp] theorem State.tick_out (t : Nat) : (s.tick t).out = s.out := by rw [s.tick_frame t]
@[simp] theorem State.tick_log (t : Nat) : (s.tick t).log = s.log := by rw [s.tick_frame t]

/-! ### Requests -/

/-- A write is refused by a check and changes nothing, is refused by its effect and changes nothing, or takes effect with
status 0 (R16). -/
theorem State.write_cases (r : Req) (idx sub : Nat) (data : List Byte) (eff : State → Val → State × Nat) :
    (∃ c, s.checkWrite r idx sub data = .error c ∧ s.write r idx sub data eff = (s, c)) ∨
    (∃ o v, s.checkWrite r idx sub data = .ok (o, v) ∧ (eff s v).2 ≠ 0 ∧ s.write r idx sub data eff = (s, (eff s v).2)) ∨
    (∃ o v, s.checkWrite r idx sub data = .ok (o, v) ∧ (eff s v).2 = 0 ∧
      s.write r idx sub data eff = ((eff s v).1.abandonParts r idx sub, 0)) := by
  unfold State.write
  split
  · rename_i c h
    exact .inl ⟨c, h, rfl⟩
  · rename_i o v h
    dsimp only
    split
    · rename_i e
      exact .inr (.inr ⟨o, v, h, e, rfl⟩)
    · rename_i e
      exact .inr (.inl ⟨o, v, h, e, rfl⟩)

/-- A refused write request is answered with its status and changes nothing else. -/
theorem State.request_refused (r : Req) (idx sub : Nat) (data : List Byte) (eff : State → Val → State × Nat) (c : Nat)
    (h : s.checkWrite r idx sub data = .error c) : s.request r idx sub data eff = s.respond r idx sub c [] := by
  simp [State.request, State.write, h]

/-- A write request that the checks let through and the effect accepts. -/
theorem State.request_taken (r : Req) (idx sub : Nat) (data : List Byte) (eff : State → Val → State × Nat) (o : Obj) (v : Val)
    (h : s.checkWrite r idx sub data = .ok (o, v)) (e : (eff s v).2 = 0) :
    s.request r idx sub data eff = ((eff s v).1.abandonParts r idx sub).respond r idx sub 0 [] := by
  simp [State.request, State.write, h, e]

/-- A write request that the checks let through and the effect refuses. -/
theorem State.request_turned (r : Req) (idx sub : Nat) (data : List Byte) (eff : State → Val → State × Nat) (o : Obj) (v : Val)
    (h : s.checkWrite r idx sub data = .ok (o, v)) (e : (eff s v).2 ≠ 0) :
    s.request r idx sub data eff = s.respond r idx sub (eff s v).2 [] := by
  simp [State.request, State.write, h, e]

/-- A read request that the checks refuse. -/
theorem State.readReq_refused (r : Req) (idx sub : Nat) (eff : State → State × Nat × Val) (c : Nat)
    (h : s.checkRead r idx sub = .error c) : s.readReq r idx sub eff = s.respond r idx sub c [] := by
  simp [State.readReq, h]

/-! ### Check values -/

theorem crcRun_nil (a : CrcAlg) (c : Nat) : crcRun a c [] = c := rfl

theorem crcRun_cons (a : CrcAlg) (c : Nat) (b : Byte) (bs : List Byte) :
    crcRun a c (b :: bs) = crcRun a (crcByte a c b) bs := by
  simp only [crcRun]
  split <;> simp_all

/-- The running value over bytes is the left fold of one byte's (R546). -/
theorem crcRun_eq_foldl (a : CrcAlg) (c : Nat) (bs : List Byte) : crcRun a c bs = bs.foldl (crcByte a) c := by
  induction bs generalizing c with
  | nil => rfl
  | cons b bs ih => rw [crcRun_cons, ih, List.foldl_cons]

end Sys2Proof.Machine
end

