-- ==== Sys2Proof/Tests/Samples.lean ====
section
/-! SUPPORT. Small states and operands from which the witnesses of the statements' hypotheses take theirs. -/

namespace Sys2Proof.Tests

open Sys2Proof Sys2Proof.Machine

def stateAt (l : List State) (k : Nat) : State := (l[k]?).getD State.reset
def frameAt (l : List SpWire) (k : Nat) : SpWire := (l[k]?).getD ⟨[], 0⟩
def bytesAt (l : List (List Byte)) (k : Nat) : List Byte := (l[k]?).getD []
def fetched (s : State) (q k : Nat) : State := match s.fetchDesc q k with
  | some (_, w) => w
  | none => s
theorem ownerNone {o : Option Req} {f : Nat → Req} (h : o = none) : ∀ q, o ≠ some (f q) := by
  intro q
  rw [h]
  exact nofun
theorem forSome {α : Type} {o : Option α} {p : α → Prop} [DecidablePred p] (h : o.all (fun a => decide (p a)) = true) :
    ∀ a, o = some a → p a := by
  intro a ha
  subst ha
  simpa using h
theorem existsSome {α : Type} {o : Option α} {p : α → Prop} [DecidablePred p] (h : o.any (fun a => decide (p a)) = true) :
    ∃ a, o = some a ∧ p a := by
  cases o with
  | none => simp at h
  | some a => exact ⟨a, rfl, by simpa using h⟩
def zAuInfo : AuInfo := { ts := 0, grade := 0, alive := 0, cap := none, judge := Sys2Proof.Machine.Judge.fresh, heartbeat := false, crc := none, rows := [], avail := 0, coded := { sps := none, pps := none, slices := [], badSets := 0, irap := false, newSeq := false, start := none, lost := [], binds := [], waited := false } }
def zAuS : AuS := { ts := 0, pkts := [], ended := false, marked := false, expired := false, lastMac := 0 }
def zCommitS : CommitS := { id := 0, tag := 0, timing := 0, trig := 0, wall := 0, mask := 0, time := 0, vals := [], due := none, late := false, unlocked := false, left := 0, taken := 0, defer := 0, landed := false }
def zContactS : ContactS := { id := 0, shown := false, hov := false, glove := false, d := 0, s := 0, x := 0, y := 0, strength := 0, area := 0, frame := 0, start := 0, low := 0, other := 0, report := 0, gone := false, path := [], crowd := false }
def zDesc : Desc := { addrA := 0, lenA := 0, stampReq := false, rsvdA := 0, addrB := 0, lenB := 0, rsvdB := 0, data := [] }
def zEv : Ev := { ty := 0, sev := 0, src := 0, sec := 0, ns := 0, pay := [], emcy := 0 }
def zIpInfo : IpInfo := { v6 := false, hdrSumOk := false, options := false, fragment := false, hopByHop := false, otherExt := false, udp := false, udpSumZero := false, udpSumOk := false, dstAddr := [], srcAddr := [], srcPort := 0, dstPort := 0 }
def zParamSet : ParamSet := { id := 0, h264 := false, profile := 0, interlaced := false, chroma420 := false, bitDepth := 0, extension := false, codedW := 0, codedH := 0, confX := 0, confY := 0, width := 0, height := 0, ctu := 0, reorder := 0, latency := 0, buffering := 0, fullRange := false, matrix := 0, transfer := 0, primaries := 0 }
def zPicDesc : PicDesc := { number := 0, isRef := false, output := false, noPrior := false, keep := [], errors := [], blocks := [], filters := [], y := [], cb := [], cr := [], ended := [] }
def zPicS : PicS := { num := 0, poc := 0, w := 0, h := 0, confX := 0, confY := 0, codedW := 0, codedH := 0, matrix := 2, transfer := 2, primaries := 2, fullRange := false, taint := [], cap := none, alive := 0, grade := 0, exact := true, crcBad := false, graphics := false, surface := 0, words := [], copy := [], depth := 10 }
def zPicSet : PicSet := { id := 0, sps := 0, tileCols := [], tileRows := [], wavefront := false }
def zPlan : Plan := { frame := 0, layers := [], back := 0, crease := 0, card := 0, blank := 0, sig := (0, 0), white := 100 }
def zPlanL : PlanL := { slot := 0, z := 0, x0 := 0, x1 := 0, y0 := 0, y1 := 0, state := 0, treat := 0, mode := 0, alpha := 0, stitch := none, cap := none, budget := 0, age := none, tainted := [], pressed := false, buf := none, draws := none, path := { sess := 255, pic := none, copy := 0, cx := 0, cw := 0, cy := 0, ch := 0, dx := 0, dy := 0, dw := 1, dh := 1, matrix := 0, full := false, tone := { eotf := 0, white := 100, peak := 1000, custom := [], matrix := [], curve := [] } } }
def zProcS : ProcS := { restarts := [], restarting := false, failover := false }
def zPtpMsg : PtpMsg := { kind := 0, domain := 0, seqId := 0, logInterval := 0, twoStep := false, originNs := 0, correction := 0, rxNs := 0, transport := 0, requester := 0, priority1 := 0, clockClass := 0, accuracy := 0, variance := 0, priority2 := 0, gmIdentity := 0, steps := 0, senderIdentity := 0, utcOffset := 0, utcValid := false }
def zReceipt : Receipt := { id := 0, tag := 0, kind := 0, screen := 255, reason := 0, check := 0, slot := 65535, deferred := false, unlocked := false, late := false, frame := 0, time := 0 }
def zSegm : Segm := { xs := 0, xe := 0, slot := 0, state := 0, stitch := false, pressed := false, taint := false, stitchVal := 0, cap := none, budget := 0, members := [], plate := none }
def zSlice : Slice := { nut := 0, first := 0, dependent := false, pps := 0, refs := [], ctus := [] }
def zZttHdr : ZttHdr := { magic := 0, version := 0, typ := 0, flags := 0, buf := 0, fmt := 0, cls := 0, sess := 0, rsv := 0, seq := 0, x := 0, y := 0, w := 0, h := 0, len := 0, rsv2 := 0, ident := 0, alive := 0, cap := 0, capNs := 0, crc := 0, lflags := 0, rsv3 := 0 }
def up : State := { State.reset with loaded := true, power := { State.reset.power with phase := .running } }
def mb : Req := .mailbox 3
def mods {α : Type} (x : α) (fs : List (α → α)) : List α := x :: fs.map (fun f => f x)
/-- every combination of one choice per list -/
def combos {α : Type} (x : α) : List (List (α → α)) → List α
  | [] => [x]
  | l :: ls => l.flatMap (fun f => combos (f x) ls)
def frW (w ty src dst flags gen seq : Nat) (pay : List Byte) : SpWire := ⟨frameCols w (SpOut.bytes ⟨ty, src, dst, flags, 0, 0, gen, pay⟩ seq 0 pay), 0⟩
def fr := frW 1
def hdrOf (key v : Nat) (n : Nat) : List Byte :=
  beBytes 4 0x5A465731 ++ beBytes 1 1 ++ beBytes 1 v ++ beBytes 1 key ++ [0] ++ beBytes 4 77 ++ beBytes 2 0 ++ [0, 0] ++ beBytes 4 n ++
    List.replicate 236 0
def setB (i j v : Nat) (s : State) : State := (s.wn i j v).setForce i j (.num v)
def sysM (f : SysS → SysS) (s : State) : State := { s with sys := f s.sys }
/-- package 0 of members 0, 1, 2 and spare 3, joined, port A up toward package 1, the supervisor -/
def cas : State :=
  sysM (fun y => { y with
    joined := true, quorum := true, held := true
    table := [(0, { role := 1, serial := 0 }), (1, { role := 1, serial := 11 }), (2, { role := 1, serial := 12 }), (3, { role := 2, serial := 13 })]
    peers := [(1, { present := true, joined := true, gen := 1, nbA := some (2, 1), nbB := some (0, 0) }), (2, { present := true, joined := true, gen := 1, nbB := some (1, 0) })] })
  (setB 0x6510 5 1 <| setB 0x6510 4 3 <| setB 0x6510 7 0x11 <| setB 0x6800 1 0 <| setB 0x6800 2 7 <| setB 0x6800 3 8 <| setB 0x6800 8 1 <| setB 0x6800 9 1 <| setB 0x6800 0xA 0 <| setB 0x6800 0xB 0 up)
def ctl (src op seq : Nat) (b : List Byte) : SpWire := fr 3 src 0 0 1 seq (beBytes 2 op ++ b)

def un (k : Nat) (f : UnitS → UnitS) (s : State) : State := s.setUnit k (f (s.unit k))
def scr (x : Nat) (f : ScreenS → ScreenS) (s : State) : State := s.setScreen x (f (s.screen x))
def ly (n x src : Nat) (s : State) : State := setB (0x4000 + n) 1 1 (setB (0x4000 + n) 2 x (setB (0x4000 + n) 3 src s))
def pw (f : PowerS → PowerS) (s : State) : State := { s with power := f s.power }
def tm (f : TimeS → TimeS) (s : State) : State := { s with time := f s.time }
def ringCfg (kind param : Nat) : Nat := 4096 + 4096 * 2 ^ 64 + kind * 2 ^ 136 + param * 2 ^ 144 + 2 ^ 160 + 2 ^ 224 * 8
def rg (q kind param : Nat) (f : RingS → RingS) (s : State) : State := s.setRing q (f { cfg := ringCfg kind param, state := 1 })
def se (n kind st port : Nat) (f : SessS → SessS) (s : State) : State :=
  ((((s.wn (0x3000 + n) 4 kind).wn (0x3000 + n) 2 st).wn (0x3000 + n) 5 port).setSes n (f (s.ses n))).setForce (0x3000+n) 1 (.num 1)
/-- The package with an entry of its own that holds a root, and its own tree kept. -/
def rooted (s : State) (r : Nat) : State :=
  { s with sys := { s.sys with tree := s.tree, table := s.sys.table.put s.pkgId { s.ent s.pkgId with root := r } } }
theorem rooted_actualRoot (s : State) (r : Nat) : (rooted s r).actualRoot = s.actualRoot := rfl
theorem rooted_root (s : State) (r : Nat) : ((rooted s r).ent (rooted s r).pkgId).root = r := by
  show ((s.sys.table.put s.pkgId { s.ent s.pkgId with root := r }).at' s.pkgId {}).root = r
  simp
theorem rooted_tree (s : State) (r : Nat) : (rooted s r).actualRoot = rootOf (rooted s r).sys.tree := by
  have h : (rooted s r).sys.tree = s.tree := by simp only [rooted]
  rw [h, rooted_actualRoot, State.actualRoot]
theorem rooted_same (s : State) : (rooted s s.actualRoot).actualRoot = ((rooted s s.actualRoot).ent (rooted s s.actualRoot).pkgId).root := by
  rw [rooted_root, rooted_actualRoot]
theorem rooted_other (s : State) :
    (rooted s (s.actualRoot + 1)).actualRoot ≠ ((rooted s (s.actualRoot + 1)).ent (rooted s (s.actualRoot + 1)).pkgId).root := by
  rw [rooted_root, rooted_actualRoot]
  exact Nat.ne_of_lt (Nat.lt_succ_self _)
/-- A state with one part read and one part write of the mailbox session 3, both begun at tick 0. -/
def parted (c : Nat) : State :=
  { up with
    clock := c
    partReads := [(Req.code mb, ⟨0x1008, 0, [1, 2, 3, 4], 0⟩)]
    partWrites := [(partKey mb 0x2400 1, ⟨0x2400, 1, [7], 0⟩)] }

namespace T01
def pend (c : Instr) (s : State) : State := { s with pending := [c] }
def ww0 : List State := [pend (.layerLatch 100 3) up]
def ww1 : List State := [pend (.layerLatch 100 3) up, pend (.updateOpen 5 mb) { up with clock := 9 }]
def ww2 : List (List Byte) := [[], [1], [65,66,65,66,65,66,65], List.replicate 3000 7, (List.range 3000).map (fun i => BitVec.ofNat 8 (i * i / 7))]
def qs (n : Nat) (s : State) : State := { s with log := { s.log with queues := [(5, List.replicate n ⟨3, 1, 5, 0, 0, [], 0⟩)] } }
def ww3 : List State := [qs 15 up, qs 16 up, qs 17 up, (qs 16 up).wn 0x2200 5 0xFFFFFFFF, (qs 16 up).wn 0x2200 5 0x1FFFFFFFF]
def cnt (n : Nat) (s : State) : State := s.wn 0x4000 0x35 n
def ww4 : List State := [up, {up with loaded := false}]
def ww5 : List (List Byte) := [[], [1], [0,1]]
def ww6 : List State := [up, up.wn 0x2500 9 7, up.wn 0x4000 0x35 8, { up with out := [.line 0 true] }]
end T01

namespace T02
def sg (slot st : Nat) (cap : Option Nat) (stitch : Bool) : Segm := { zSegm with slot := slot, state := st, cap := cap, stitch := stitch, stitchVal := 9, budget := 1 }
def led (s : State) : State := scr 3 ({ · with service := false, ledger := [(0, { segs := [sg 3 1 (some 5) true, sg 4 0 none false] }), (1, { segs := [sg 7 1 none false, sg 3 1 (some 5000000000) true] })] }) s
def S02 : List State := [up, { up with clock := 10, sess := [(5, { sr := some (1, 2, 3), mapOk := true })] }, ly 3 3 5 up, led (ly 3 3 5 up), scr 3 ({ · with latched := true }) up,
  led (ly 3 3 5 ({ up with time := { up.time with u := some 5 } })), scr 3 ({ · with run := false }) up]
end T02

namespace T02b
def SL : List State := combos up [
  [id, un (lvsKey 0) ({ · with st := 1, prior := 0 }), fun s => { s with units := s.units }],
  [id, fun s => { s with lvsTest := [0, 1] }, fun s => ((s.wn 0x5000 8 7).wn 0x5000 0x14 5)],
  [id, fun s => (ly 3 3 5 s)]]
def ww0 : List State := SL.flatMap (fun s => match exec (.lvsFault 5 .e) s with | .next x => [s, x] | _ => [s])
def lk (f : LinkS → LinkS) (s : State) : State := { s with link := f s.link }
def SD : List State := [up, lk ({ · with lost := true }) up, lk ({ · with lostDie := some .w, lost := true }) up, lk ({ · with reloading := true, lostDie := some .w, lost := true }) { up with loaded := false },
  lk ({ · with fails := [(4, 1), (5, 2)], soft := [0, 1] }) up, { up with declared := [regionAddr 0 2] }, lk ({ · with hbE := 395000 , hbW := 10}) up]
def SP : List State := [up, { up with procs := [(procKey 0 .net, { restarts := [1, 2] }), (procKey 0 .sys, { restarts := [1, 2] }), (procKey 1 .tch, { restarts := [1], restarting := true }), (procKey 1 .med, { restarting := true })] },
  un (procKey 0 .cmp) ({ · with st := 2 }) up, { up with primary := .w }, up.wn 0x2100 0x18 5, { up with declared := [regionAddr 0 2, regionAddr 1 0] }]
end T02b

namespace T02c
def sgp (v : Nat) (st : Nat) : Segm := { zSegm with slot := 3, state := st, stitch := true, stitchVal := v, plate := some (0, 4) }
def rb (l : List Segm) (s : State) : State := scr 3 ({ · with run := true, service := false, crease := [(1, 2, 3)], ledger := [(0, { segs := l })] }) (tm ({ · with sec := 5, wSec := 5 }) s)
def SR : List State := [rb [sgp 0 1] (ly 3 3 5 up), rb [sgp 9 1] (ly 3 3 5 up), rb [sgp 0 1] ((ly 3 3 5 up).wn 0x4003 0x2C 1), rb [sgp 9 1] ((ly 3 3 5 up).wn 0x4003 0x2C 1), rb [sgp 0 1, sgp 0 1] ((ly 3 3 5 up).wn 0x4003 0x2C 1)]
def SL : List State := combos up [
  [id, un (lvsKey 0) ({ · with st := 1, prior := 0 }), fun s => { s with units := s.units }],
  [id, fun s => { s with lvsTest := [0, 1], lvsTestAt := [(0, 0)] }, fun s => ((s.wn 0x5000 8 7).wn 0x5000 0x14 5)],
  [id, fun s => (ly 3 3 5 s)]]
def ww0 : List State := SL.flatMap (fun s => match exec (.lvsFault 5 .e) s with | .next x => [s, x] | _ => [s])
end T02c

namespace T02p
def S02 : List State := [up, { (up.wn 0x2200 5 77) with log := {} }]
def ww0 : List (List Byte) := [[0,0],[5,0],[5],[0,0,0,0],[1],[5,0,0,0]]
end T02p

namespace T02q
def lk (s : State) : State := tm (fun w => { w with u := some 5 }) s
def L (s : State) : State := scr 3 ({ · with implicit := true, run := true, service := false }) (ly 5 3 7 s)
def fst (b : Bool) (s : State) : State := s.setLayer 5 { s.layer 5 with first := b }
def S02 : List State := combos (L up) [[id, lk], [fst false, fst true], [id, se 7 2 2 0 id, se 7 1 3 0 id], [id, fun s => setB 0x4005 3 0xFF s, fun s => s.wn 0x6800 9 3, fun s => un (lvsKey 0) ({ · with st := 1 }) s], [id, fun s => s.wn 0x4005 0x2C 7, fun s => s.wn 0x4005 0x2C 1]]
end T02q

namespace T03
def ks : List Nat := [coreKey 3, lvsKey 1, pipeKey 5, procKey 0 .sys, procKey 1 .net, arbiterKey 0, scanKey 4, 300 + 1024]
def SU : List State := (List.flatMap (fun f => [fun (s : State) => ks.foldl (fun s k => un k f s) s])
  [({ · with st := 0 }), ({ · with st := 1, prior := 3, faults := 65535 }), ({ · with st := 2, epoch := 7, adv := 5, faults := 3 }), ({ · with st := 3 }), ({ · with st := 5, epoch := 7 }), ({ · with window := some 50, sram := [3] }),
   ({ · with sram := List.replicate 15 3 }), ({ · with sram := List.replicate 16 3 }), ({ · with st := 4, partner := some 5 }), ({ · with st := 2, adv := 1024 })]).map (· up)
def SH : List State := (SU.take 5 ++ SU.drop 9).flatMap (fun s => (ks.take 6).map (fun k => s.wn 0x2100 4 k)) ++ [up, up.wn 0x2100 4 4096]
end T03

namespace T03b
def fs : List (UnitS → UnitS) := [({ · with st := 0, faults := 9 }), ({ · with st := 1, prior := 3, faults := 65535 }), ({ · with st := 2, epoch := 7, adv := 5, faults := 3 }), ({ · with st := 3 }), ({ · with st := 5, epoch := 7 }), ({ · with st := 4, partner := some 5 }), ({ · with st := 2, adv := 1024 })]
def SH : List State := [coreKey 3, lvsKey 1, pipeKey 5, procKey 1 .sys, procKey 1 .net, arbiterKey 0, scanKey 4].flatMap (fun k => fs.map (fun f => (un k f up).wn 0x2100 4 k))
def SD : List State := [{ up with link := { up.link with fails := [(4, 1), (5, 2)], soft := [0, 1] }}]
end T03b

namespace T04
def P0 (s : State) : State := s.wn 0x2910 0xA 1
def ipi (dp : Nat) : IpInfo := { zIpInfo with hdrSumOk := true, udp := true, udpSumOk := true, dstPort := dp, dstAddr := [1,2,3,4] }
def f0 : Frame := ⟨true, 100, false, none, up.portMac 0, 0x9999, none, [1,2,3]⟩
def S4 : List State := mods (P0 up) [fun s => s.wn 0x2900 1 2, fun s => s.wn 0x2900 1 1, fun s => (s.wn 0x2900 1 2).wn 0x2911 0xA 2, fun s => s.wn 0x2910 0x11 1,
  fun s => rg 4 3 0 ({ · with bufs := [(7, { zDesc with lenA := 2 })] }) (s.wn 0x2910 0x11 1), fun s => (s.wn 0x2910 0x0A 2).wn 0x2910 0x0C 5, fun s => { s with procs := [(procKey 0 .net, { restarting := true })]}]
def S4b : List State := (mods ((P0 up).wn 0x2910 3 0x01020304) [fun s => s.wb 0x2910 6 (List.replicate 16 7), fun s => s.wn 0x6800 9 3, fun s => s.wn 0x2910 0xA 0,
   fun s => { s with mcast := [⟨0, false, [224,1,2,3], [4, 5]⟩, ⟨0, true, [1], []⟩, ⟨1, false, [9], [2]⟩] }, pw ({ · with phase := .quiet }), fun s => { s with clock := 5, ports := [(0, { compat4 := 2, compat6 := 1, old4 := 3, old6 := 3 })], mcast := [⟨0, false, [224,1,2,3], [4, 5]⟩] }])
def ww0 : List (List Byte) := [[1,2,3,4], List.replicate 16 7, up.linkLocal 0, [0,0,0,0]]
def bd (ty : Nat) (l : List NalBody) : RtpBody := { ptype := ty, nals := l.map (fun b => ⟨b, 0⟩) }
def sli (k : Nat) : NalBody := .vcl { zSlice with nut := 1, first := k, ctus := [100, 200] }
def pk (seq ts : Nat) (b : RtpBody) : RtpPkt := { mac := 77, version := 2, pt := 96, ssrc := 9, seq := seq, ts := ts, marker := true, body := b }
def auv : AuS := ⟨40, [(4, bd 1 [sli 0, sli 1]), (5, bd 1 [sli 2])], true, true, false, 3⟩
def psv : ParamSet := { zParamSet with codedW := 64, codedH := 64, width := 64, height := 64, ctu := 64, bitDepth := 8 }
def S4c : List State := (combos ((se 3 0 3 0 id ((P0 up).wn 0x3003 0x0C 96)).wb 0x3003 8 ([239,1,2,3] ++ List.replicate 12 0) |>.wn 0x2910 3 5) [
  [id, se 3 0 3 0 ({ · with ssrc := some 9, ext := some 5, recv := 4, base := 2 }), se 3 0 3 0 ({ · with ssrc := some 9, ext := some (65535 + 6), aus := [auv], seen := [1,2], recv := 3, jitter := 160, active := some psv }),
    se 3 0 3 0 ({ · with aus := [{ auv with pkts := [(4, bd 1 [.other])], expired := true }], doneSeq := some 1, doneTs := some 30 }), se 3 0 3 0 ({ · with aus := [{ auv with ended := false }, auv] })],
  [id, fun s => s.wn 0x3003 0xB 4, fun s => s.wn 0x3003 2 2]])
end T04

namespace T05
def A5 (s : State) : State := (((s.wn 0x2910 0xA 1).wn 0x3003 0x0C 96).wn 0x2910 3 0x01020304).wb 0x3003 8 ([239,1,2,3] ++ List.replicate 12 0)
def S5 : List State := ([0,1,2,3,4,5].map (fun st => se 3 0 st 0 ({ · with last := 5, alive := some 4, aus := [zAuS] }) (A5 up))) ++ [se 3 2 0 0 id (A5 up), se 3 0 0 3 id (A5 up), (se 3 0 1 0 id (A5 up)).wn 0x3003 0x1C 1,
   (se 3 1 5 0 id (A5 up)).wn 0x3100 9 4]
def S5b : List State := (combos up [
  [fun s => s.wn 0x2800 3 1, fun s => s.wn 0x2800 3 3, id],
  [id, fun s => s.wn 0x2800 4 1, fun s => s.wn 0x2800 4 2, fun s => s.wn 0x2800 4 3, fun s => s.wn 0x2800 4 4],
  [id, tm ({ · with sec := 7, ns := 5, offsets := [1, 2, -1, 5], run := 16, lastValid := 7, outRun := 3 }), tm ({ · with sec := 7, offsets := List.replicate 16 3, run := 15, senderU := 4000000000 }), tm ({ · with sec := 70, offsets := List.replicate 16 30, outRun := 2 })]])
end T05

namespace T05b
def ww0 : List State := [up.wn 0x2A00 4 1, (up.wn 0x2A00 4 1).wn 0x2A00 9 0xFF, tm ({· with offsets := [1,2]}) (up.wn 0x2800 4 3)]
def m0 : PtpMsg := { zPtpMsg with kind := 11, domain := 0, senderIdentity := 5, priority1 := 100, rxNs := 88 }
def pp (s : State) : State := (s.wn 0x2A00 1 1).wn 0x2910 0xA 1
def S5 : List State := mods (pp up) [fun s => { s.wn 0x2A00 9 0 with ptp := [(0, { best := some { m0 with priority1 := 50, senderIdentity := 5 }, lastAnnounce := 5, reqSeq := 65535 })] }, fun s => (s.wn 0x2A10 3 6).wn 0x2A00 2 1, fun s => s.wn 0x2A00 9 0, fun s => { s with ptp := [(0, { best := some { m0 with priority1 := 50, senderIdentity := 7 }, lastAnnounce := 5, reqSeq := 65535 })] }, fun s => s.wn 0x2A10 3 6, fun s => (s.wn 0x2A10 3 6).wn 0x2A00 7 1, fun s => s.wn 0x2A00 1 0,
  fun s => (s.wn 0x2A00 9 0).wn 0x2A00 2 1, fun s => s.wn 0x2910 0x11 1, fun s => s.wn 0x2800 3 1]
def tg (k mode : Nat) (f : TrigS → TrigS) (s : State) : State := { s.wn (0x2820 + k) 1 mode with trigs := s.trigs.put k (f (s.trig k)) }
def cp (c : Nat) (f : CapS → CapS) (s : State) : State := { s with caps := s.caps.put c (f (s.cap c)) }
def rec0 : CapRec := ⟨5, 1, 0, true⟩
def S5t : List State := mods (tm ({ · with sec := 5, wSec := 5 }) { up with clock := 10 }) [tg 3 0 id, fun s => (s.wn 0x2823 3 1000000).wn 0x2823 6 5, tg 3 1 ({ · with armed := true, nextNs := 5000000 }), tg 3 2 ({ · with armed := true, nextNs := 5000000000, late := true }) ∘ (fun s => s.wn 0x2823 3 7),
  tg 3 1 ({ · with armed := true, nextNs := 5000, late := true, pinActive := true, until' := 5 }) ∘ (fun s => { ((s.wn 0x2823 4 15).wn 0x2823 5 4) with commits := [{ zCommitS with timing := 2, trig := 3 }] }), tg 3 3 ({ · with armed := true, nextNs := 6000000000 }),
  cp 2 id ∘ (fun s => (s.wn 0x2842 1 1).wn 0x2842 2 3), cp 2 ({ · with recs := List.replicate 15 rec0, lastAt := some 7 }) ∘ (fun s => (s.wn 0x2842 1 1).wn 0x2842 2 3), cp 2 ({ · with recs := List.replicate 16 rec0, lastAt := some 6 }) ∘ (fun s => (s.wn 0x2842 1 3).wn 0x2842 2 3),
  cp 2 ({ · with recs := List.replicate 16 rec0, full := true, lastAt := some 2 }) ∘ (fun s => (s.wn 0x2842 1 3).wn 0x2842 2 3)]
end T05b

namespace T05c
def m0 : PtpMsg := { zPtpMsg with kind := 11, domain := 0, senderIdentity := 5, priority1 := 100, rxNs := 88 }
def pp (s : State) : State := (s.wn 0x2A00 1 1).wn 0x2910 0xA 1
def tg (k mode : Nat) (f : TrigS → TrigS) (s : State) : State := { s.wn (0x2820 + k) 1 mode with trigs := s.trigs.put k (f (s.trig k)) }
def cp (c : Nat) (f : CapS → CapS) (s : State) : State := { s with caps := s.caps.put c (f (s.cap c)) }
def rec0 : CapRec := ⟨5, 1, 0, true⟩
def S5t : List State := mods (tm ({ · with sec := 5, wSec := 5 }) { up with clock := 10 }) [tg 3 0 id, fun s => (s.wn 0x2823 3 1000000).wn 0x2823 6 5, tg 3 1 ({ · with armed := true, nextNs := 5000000 }), tg 3 2 ({ · with armed := true, nextNs := 5000000000, late := true }) ∘ (fun s => s.wn 0x2823 3 7),
  tg 3 1 ({ · with armed := true, nextNs := 5000, late := true, pinActive := true, until' := 5 }) ∘ (fun s => { ((s.wn 0x2823 4 15).wn 0x2823 5 4) with commits := [{ zCommitS with timing := 2, trig := 3 }] }), tg 3 3 ({ · with armed := true, nextNs := 6000000000 }),
  cp 2 id ∘ (fun s => (s.wn 0x2842 1 1).wn 0x2842 2 3), cp 2 ({ · with recs := List.replicate 15 rec0, lastAt := some 7 }) ∘ (fun s => (s.wn 0x2842 1 1).wn 0x2842 2 3), cp 2 ({ · with recs := List.replicate 16 rec0, lastAt := some 6 }) ∘ (fun s => (s.wn 0x2842 1 3).wn 0x2842 2 3),
  cp 2 ({ · with recs := List.replicate 16 rec0, full := true, lastAt := some 2 }) ∘ (fun s => (s.wn 0x2842 1 3).wn 0x2842 2 3)]
def ww0 : List State := [ tg 3 2 ({ · with armed := true, nextNs := 4000000000 }) (tm ({ · with sec := 5, wSec := 5 }) (up.wn 0x2823 3 7)), tg 3 3 ({ · with armed := true, nextNs := 4000000000 }) (tm ({ · with sec := 5, wSec := 5 }) { up with clock := 10 })]
end T05c

namespace T06b
def rq (mask tim trig wall tag time : Nat) : List Byte := leBytes 3 mask ++ [0] ++ leBytes 1 tim ++ leBytes 1 trig ++ leBytes 1 wall ++ [0] ++ leBytes 2 tag ++ [0,0] ++ leBytes 4 (time % 10^9) ++ leBytes 8 (time / 10^9)
def cm (id tim mask : Nat) (due : Option Nat) : CommitS := ⟨id, 77, tim, 0xFF, 0xFF, mask, 5, [(key 0x4003 5, .num 3)], due, false, false, mask, 0, 0, false⟩
def S6 : List State := mods (tm ({ · with sec := 5 }) up) [fun s => { s with commits := List.replicate 32 (cm 5 0 8 (some 3)) }, fun s => { s.wn 0x4300 4 5 with commits := [cm 4 0 8 (some 3), cm 5 1 8 none, cm 6 0 24 (some 6000000000), cm 7 0 16 none], receipts := [(5, [zReceipt]), (3, [])] },
  fun s => { s.wn 0x4300 4 5 with commits := [{ cm 5 0 8 none with landed := true }] }, fun s => (((ly 3 3 5 s).wn 0x4003 5 44).wn 0x4803 0x20 1).wn 0x4300 3 8, fun s => (s.wn 0x2800 4 2).wn 0x4300 8 65535,
  fun s => (s.wn 0x2820 1 1).wn 0x2820 4 15, fun s => { ((s.wn 0x2823 1 1).wn 0x2823 4 15) with trigs := [(3, { armed := true })] }]
def ww0 : List (List Byte) := [rq 8 0 0xFF 0xFF 9 0, rq 0 0 0xFF 0xFF 9 0, rq 8 1 0xFF 0xFF 9 6000000000, rq 8 2 3 0xFF 9 0, rq 0x18 0 0xFF 0xFF 9 0, rq 8 3 0 0xFF 9 0, rq 8 0 0xFF 40 9 0]
end T06b

namespace T07
def zw (sess buf arr : Nat) (v : ZttVia) : ZttWait := ⟨sess, v, 5, { zZttHdr with buf := buf, sess := sess }, [], arr, false, false⟩
def S7 : List State := mods up [scr 3 ({ · with pressing := some 5, pressMs := [(4, 1)] }), scr 3 ({ · with pressing := some 5, planeDone := true }), fun s => scr 3 ({ · with pressing := some 400 }) (s.wn 0x4313 4 7),
  fun s => { s with gfx := [(4, { bufs := [(1, { leased := true }), (0, { leased := true })] })] }, fun s => { s with gfx := [(4, { bufs := [(1, { leased := true }), (0, { leased := true })] })], queued := [⟨zw 4 1 3 (.ring 5), []⟩, ⟨zw 4 0 3000 (.udp 0 [] [] 0 0), []⟩, ⟨zw 9 0 70000000 (.udp 0 [] [] 0 0), []⟩] },
  fun s => scr 3 ({ · with pressing := some 5, pressMs := [(4, 1)] }) { s with gfx := [(4, { bufs := [(1, { leased := true }), (0, { leased := true })] })] } ]
end T07

namespace T07b
def tim (s : State) : State := setB 0x4803 5 16 (setB 0x4803 9 40 s)
def pl (n : Nat) : PlanL := { zPlanL with slot := n, x1 := 10, y1 := 30, z := n, state := 1 }
def plan (f : Nat) : Plan := { zPlan with frame := f, layers := [pl 2, { pl 3 with treat := 1, state := 3 }] }
def nw (s : Nat) : State → State := tm ({ · with sec := s, wSec := s })
def S7 : List State := combos (tim up) [
  [id, scr 3 ({ · with service := false })],
  [id, scr 3 ({ · with plan := some (plan 1), fresh := [0,1,2], latched := true }), scr 3 ({ · with plan := some (plan 0), next := some (plan 7), written := [0] }), scr 3 ({ · with plan := some (plan 1), composing := some 2, written := [0, 1], next := some (plan 2) }), scr 3 ({ · with plan := some (plan 1), composing := some 1, written := [2] }),
    scr 3 ({ · with plan := some (plan 0), written := [0], dropped := [1], scanWritten := [0, 1, 2], prev := 5, sending := true, sig := (1, 0) }), scr 3 ({ · with prev := 5 }), scr 3 ({ · with blanked := true, plan := some (plan 5), composing := some 0 })],
  [id, nw 10, fun s => ((((nw 10 s).wn 0x4803 0x17 6).wn 0x4803 0x18 2).wn 0x4803 0x19 3).wn 0x4803 0x16 4]]
end T07b

namespace T07c
def k0 : Sink := ⟨[0x12, 0x1E, 0xC4, 1, 0,0,0,0x40,0,0,0,0,0,0,0,0], true, [1,2,3]⟩
def S7 : List State := combos up [
  [id, setB 0x4803 1 1, scr 3 ({ · with hpd := true, sink := some k0 }) ∘ setB 0x4803 1 1, scr 3 ({ · with applying := true, hpd := true, ledger := [(0, {})] })],
  [id, fun s => s.wn 0x4803 0x14 1, fun s => s.wn 0x4803 0x14 2, fun s => s.wn 0x4803 0x14 3, fun s => s.wn 0x4803 5 3, fun s => s.wn 0x4803 4 5000]]
def lt (r l : Nat) : LinkTry := ⟨r, l, [List.replicate l (0, 0)], [List.replicate l (1, 2)]⟩
def qq := (scr 3 ({ · with hpd := true, sink := some k0 }) (setB 0x4803 1 1 up)).wn 0x4803 0x14 1
def ww0 : List State := [setB 0x4803 9 1080 up, setB 0x4803 9 2400 up, setB 0x4803 9 0 up, setB 0x4803 9 17 up]
end T07c

namespace T07d
def k0 : Sink := ⟨[0x12, 0x1E, 0xC4, 1, 0,0,0,0x40,0,0,0,0,0,0,0,0], true, [1,2,3]⟩
def ww0 : List State := [setB 0x4803 1 0 up, scr 3 ({ · with hpd := true, sink := some k0 }) (setB 0x4803 1 0 up)]
end T07d

namespace T08
def en (f : EncS → EncS) (s : State) : State := { s with encs := s.encs.put 2 (f (s.enc 2)) }
def cfgE (s : State) : State := ((((((s.wn 0x3512 5 3).wn 0x3512 8 64).wn 0x3512 9 64).wn 0x3512 0x14 5004).wn 0x2910 0xA 1).wn 0x2910 3 0x0A000001).wb 0x3512 0x17 ([10,0,0,9] ++ List.replicate 12 0)
def S8 : List State := combos (cfgE up) [
  [id, fun s => s.wn 0x3512 2 1, fun s => s.wn 0x3512 2 2, fun s => s.wn 0x3512 2 3],
  [id, en ({ · with coding := some { frame := 5, start := 1000, strips := [0,1] }, queue := [⟨5, [1], [], true, 3⟩] }), en ({ · with queue := [⟨5, [1], [1,1,1,1], true, 1⟩, ⟨6, [], [], false, 9⟩], hop := true, seq := 65535 }), en ({ · with queue := [⟨5, [1], [], false, 2⟩] }) ∘ (fun s => s.wn 0x3512 0x17 0)],
  [id, fun s => s.wn 0x3512 0x14 0, fun s => s.wn 0x3512 5 24, fun s => setB 0x2910 4 24 (s.wn 0x2910 4 24), fun s => (s.wn 0x3512 0x1F 1001), fun s => s.wb 0x3512 0x17 ([239,0,0,9] ++ List.replicate 12 0)]]
def ww0 : List (List Byte) := [[], [10,0,0,9]]
end T08

namespace T08b
def hb (typ flags buf fmt sess seq x y w h len lfl : Nat) : List Byte :=
  beBytes 2 0x5A54 ++ [1] ++ beBytes 1 typ ++ beBytes 1 flags ++ beBytes 1 buf ++ beBytes 1 fmt ++ [0] ++ beBytes 2 sess ++ [0,0] ++ beBytes 4 seq ++ beBytes 2 x ++ beBytes 2 y ++ beBytes 2 w ++ beBytes 2 h ++ beBytes 4 len ++ [0,0,0,0] ++ beBytes 8 0 ++ beBytes 4 0 ++ beBytes 6 0 ++ beBytes 4 0 ++ beBytes 4 0 ++ beBytes 1 lfl ++ [0,0,0,0,0]
def b1 : List Byte := hb 1 0 1 0 3 9 0 0 2 2 8 0 ++ [1,2,3,4,5,6,7,8]
def zs (f : SessS → SessS) (s : State) : State := (((((((se 3 2 3 0 f s).wn 0x3003 0xA 5004).wb 0x3003 8 ([10,0,0,1] ++ List.replicate 12 0)).wn 0x2910 0xA 1).wn 0x2910 3 0x0A000001).wn 0x3003 0x10 64).wn 0x3003 0x11 48).wn 0x5813 3 4096
def zw (sess : Nat) (h : ZttHdr) (pl : List Byte) : ZttWait := ⟨sess, .udp 0 [] [] 0 0, 5, h, pl, 3, false, false⟩
def S8 : List State := mods (zs id up) [fun s => { s with gfx := [(3, { expected := some 9, bufs := [(1, { fmt := some 0 })] })] }, fun s => { s with gfx := [(3, { expected := some 7 })] }, fun s => s.wn 0x2910 0xA 0,
  fun s => { s with zttQ := [zw 3 (zttHeader b1) [1], zw 4 (zttHeader b1) [2]], engines := [(1, zw 3 (zttHeader b1) [])] , engLast := [(0, 4)] }, fun s => { s with zttQ := [zw 4 (zttHeader b1) [1], zw 4 (zttHeader b1) [2]], engLast := [(0, 4)]},
  fun s => { s with engines := [(2, zw 3 (zttHeader b1) [1,2,3,4,5,6,7,8])], gfx := [(3, { bufs := [(1, { fmt := some 0, complete := true }), (0, {})] })] },
  fun s => { s with engines := [(2, zw 3 (zttHeader b1) [1,2,3,4,5,6,7,8])] },
  rg 2 1 3 ({ · with cfg := setBits (ringCfg 1 3) 255 224 5 }), fun s => { s with ctxs := [(160, { space := 4, pend := [[true,false,true,true,false,true,true,false,true], [true,true,true,true,true,true,true,true,true], [true,true,true,true,true,true,true,true,true],[true,true,true,true,true,true,true,true,true]], resid := [true] }), (3, { input := [0x20, 0x90, 0xA0, 0x50, 0x48, 0x08] })] }]
def ww0 : List (List Byte) := [b1, [10,0,0,1], [], List.replicate 32 0]
end T08b

namespace T09
def tc (f : TouchS → TouchS) (s : State) : State := s.setTch 0 (f (s.tch 0))
def n4 (f : NodeS → NodeS) : List NodeS := List.replicate 4 (f { avg := 500, n := 3, sum := 9 })
def tb (sc : Nat) (s : State) : State := tc ({ · with nodes := n4 id }) ((((((((s.wn (tIdx 0) 1 1).wn (tIdx 0) 0x1C sc).wn (tIdx 0) 3 2).wn (tIdx 0) 4 2).wn (tIdx 0) 8 0xff).wn (tIdx 0) 0x1d 3)))
def ct : ContactS := { zContactS with shown := true }
def zn (s : State) : State := (((((s.wn (zIdx 0 3) 1 1).wn (zIdx 0 3) 2 0).wn (zIdx 0 3) 3 1).wn (zIdx 0 3) 4 0).wn (zIdx 0 3) 5 1)
def S9 : List State := combos up [
  [tb scanOff, tb scanScanning, tb scanAcquiring, tb scanLost, tb scanWake],
  [id, tc ({ · with frames := [⟨3, 100, 1, 2, false⟩], num := 4, last := some 0, hopTo := some 5, change := true }), tc ({ · with frames := [⟨3, 100, 1, 2, true⟩, ⟨4, 200, 2, 2, false⟩], contacts := [ct] }), tc ({ · with first := false, acq := 31, frames := [⟨3, 100, 1, 2, false⟩] })],
  [id, zn, fun s => { s with procs := [(9, { zProcS with restarting := true })] }]]
end T09

namespace T09b
def tc (f : TouchS → TouchS) (s : State) : State := s.setTch 0 (f (s.tch 0))
def n4 (f : NodeS → NodeS) : List NodeS := List.replicate 4 (f { avg := 500, n := 3, sum := 9 })
def tb (sc : Nat) (s : State) : State := tc ({ · with nodes := n4 id }) ((((((((s.wn (tIdx 0) 1 1).wn (tIdx 0) 0x1C sc).wn (tIdx 0) 3 2).wn (tIdx 0) 4 2).wn (tIdx 0) 8 0xff).wn (tIdx 0) 0x1d 3)))
def ct : ContactS := { zContactS with shown := true }
def zn (s : State) : State := (((((s.wn (zIdx 0 3) 1 1).wn (zIdx 0 3) 2 0).wn (zIdx 0 3) 3 1).wn (zIdx 0 3) 4 0).wn (zIdx 0 3) 5 1)
def S9 : List State := combos up [
  [tb scanScanning],
  [id, tc ({ · with frames := [⟨3, 100, 1, 2, true⟩, ⟨4, 200, 2, 2, false⟩], contacts := [ct] })],
  [fun s => { s with procs := [(procKey 0 .tch, { zProcS with restarting := true })] }, fun s => { s with power := { s.power with fail := true }}]]
end T09b

namespace T09m
def me (f : MemS → MemS) (s : State) : State := { s with mem := f s.mem }
def S9 : List State := combos up [
  [me ({ · with training := false }), fun s => { me ({ · with training := false }) s with loaded := false }],
  [id, me ({ · with training := true, target := 1 }), me ({ · with training := true, target := 1, queued := some 2 }), me ({ · with training := true, queued := some 1, target := 1 }), me ({ · with want := some 1, refreshing := true, bursts := [(1,2)], excess := some 5, cool := 99 }), me ({ · with excess := some 5, demands := [(3,4)], next := 1950, ecc := [(3, 1), (5, 1), (1, 0)] })],
  [id, fun s => ((s.wn 0x6000 0x0C 1).wn 0x6000 0x06 1950).wn 0x6000 0xA 5]]
end T09m

namespace T10
def lk (l : Nat) (s : State) : State := s.setLock l true
def te (l sub c : Nat) (s : State) : State := s.wn (laneIdx l) sub c
def spst (q st : Nat) (s : State) : State := s.wn (spIdx q) 4 st
def S10 : List State := combos up [
  [id, lk 0 ∘ lk 17, lk 0 ∘ lk 2 ∘ lk 18 ∘ lk 33 ∘ fun s => (s.wn 0x2910 0xA 1).wn 0x2911 0xA 1, te 1 4 1 ∘ te 16 5 2 ∘ te 34 6 3, te 0 4 1 ∘ te 0 6 1 ∘ te 17 6 1],
  [id, spst 0 spUp, (fun s => s.wn (spIdx 0) 6 0x06) ∘ spst 0 spUp],
  [id, fun s => ((s.wn (laneIdx 0) 7 1).wn (laneIdx 17) 7 1).wn (laneIdx 34) 7 1, setB 0x6400 1 3]]
end T10

namespace T10b
def lk (l : Nat) (s : State) : State := s.setLock l true
def spst (q st : Nat) (s : State) : State := s.wn (spIdx q) 4 st
def g (f : SpayS → SpayS) (s : State) : State := s.setSp 0 (f (s.sp 0))
def o1 : SpOut := ⟨ftControl, 0, 1, 0, 0, 0, 0, [0, 3, 1]⟩
def o2 : SpOut := ⟨ftControl, 0, 1, 3, 0, 0, 0, [0, 0]⟩
def o3 : SpOut := ⟨ftPixel, 0, 1, 0, 0, 0, 0, [0, 0]⟩
def o4 : SpOut := ⟨ftMark, 0, 1, 0, 0, 0, 0, [1, 0,0,0,0,0,0,0,0,0,0,0,0,0]⟩
def S10 : List State := combos (cas.wn (spIdx 0) 5 2) [
  [spst 0 spDisabled, spst 0 spDown, spst 0 spTraining, spst 0 spUp, spst 0 spRestriping],
  [id, lk 16 ∘ lk 17 ∘ lk 18 ∘ g ({ · with sets := [(0, 2, 7, 7), (1, 1, 7, 7)] }) ],
  [id, g ({ · with unacked := [(65535, o1), (0, o1)], ready := [o1, o3], rounds := 3, ackAt := some 0, txSeq := [(3, 1)] }), g ({ · with unacked := [(5, o1)], ready := [o2], rounds := 30, txSeq := [(3,6)] }), g ({ · with ready := [o4, o3] }), g ({ · with ready := [o3] })],
  [id, fun s => { (s.wn (spIdx 0) 5 2).wn (spIdx 0) 6 3 with link := { s.link with lostDie := some .e } }, fun s => (s.wn (spIdx 0) 3 8).wn (laneIdx 16) 4 1]]
def ackf (b : List Byte) (flags ack : Nat) : SpWire := ⟨frameCols 2 (SpOut.bytes ⟨3, 1, 0, flags, 0, 0, 1, b⟩ 0 ack b), 5⟩
def brk (x : SpWire) : SpWire := ⟨x.cols.mapIdx (fun i c => if i = 5 then c.map (fun _ => .d 0x77) else c), x.rxNs⟩
def fs : List SpWire := [ackf [0,0] 3 65535, ackf [0,0] 3 0, brk (ackf [0,0] 3 0), ackf [0,3,1] 0 0]
def ww0 : List State := S10.map (fun s => { s with clock := 10^12 })
end T10b

namespace T11
def rin (f : RelayInS → RelayInS) (s : State) : State := s.setRin 3 (f (s.rin 3))
def b2 (n v : Nat) := beBytes n v
def ent (m : Nat) (s : State) : State := s.wb 0x6800 0x18 (List.replicate 12 0 ++ [1, 5] ++ beBytes 1 m ++ [0] ++ List.replicate 624 0)
def pic : List Byte := b2 4 9 ++ b2 2 32 ++ b2 2 16 ++ List.replicate 60 0
def base (m : Nat) : State := ent m (se 3 4 sessRunning 0 (fun x => { x with queue := [{ ts := 0, grade := 2, alive := 0, cap := some 5, judge := .fresh, heartbeat := false, crc := none, rows := [], avail := 0 }] }) cas)
def ps (no pno row col cnt : Nat) : List Byte := b2 2 no ++ b2 4 pno ++ b2 2 row ++ b2 2 col ++ b2 1 cnt ++ [0] ++ b2 2 1 ++ [0,0] ++ List.replicate (576 * cnt) 0
def st (no off : Nat) (b : List Byte) : List Byte := b2 2 no ++ b2 4 off ++ b
def mk (n k hop : Nat) : List Byte := b2 1 k ++ b2 1 hop ++ [0,0] ++ b2 4 n ++ List.replicate 36 0
def wf (c : Nat) (x : SpWire) : SpWire := ⟨x.cols.mapIdx (fun i y => if i = c then [.d 0x5a] else y), x.rxNs⟩
def gn (g : Nat) (ty : Nat) (b : List Byte) : SpWire := ⟨frameCols 1 (SpOut.bytes ⟨ty, 1, 0, 0, 0, 0, g, b⟩ 0 0 b), 5⟩
def fl (g : Nat) (ty : Nat) (b : List Byte) : SpWire := ⟨frameCols 1 (SpOut.bytes ⟨ty, 1, 0, g, 0, 0, 1, b⟩ 0 0 b), 5⟩
def fS : List SpWire := [ wf 0 (ctl 1 0 7 []), wf 9 (ctl 1 0 7 []), fl 9 3 [0,0], gn 5 3 [0,8],
  ctl 1 8 0 (b2 2 0x105 ++ [7, 0]), ctl 1 8 0 (b2 2 0x105 ++ [200, 0]), ctl 1 8 0 (b2 2 0x105 ++ [7, 1]), ctl 1 8 1 (b2 2 0x105 ++ [7, 0]), ctl 1 8 0 (b2 2 0x905 ++ [7, 0]),
  ctl 1 9 0 (b2 2 3 ++ [0]), ctl 1 9 0 (b2 2 3 ++ [2]), ctl 1 9 0 (b2 2 4 ++ [2]), ctl 1 10 0 (b2 2 0x105), ctl 1 11 0 (b2 2 0x105),
  fr 1 1 0 0 1 0 (ps 3 9 0 0 1), fr 1 1 0 0 1 0 (ps 4 9 0 0 1), fr 1 1 0 0 1 0 (ps 3 9 0 0 2), fr 1 1 0 0 1 0 (ps 3 9 0 1 1),
  fr 2 1 0 0 1 0 (st 3 0 []), fr 2 1 0 0 1 0 (st 3 5 [1,2,3]), fr 2 1 0 0 1 0 (st 4 0 [1]), fr 2 1 0 0 1 0 (st 3 0 ([1,0,0,1,0,2,7,8])),
  fr 5 1 0 0 1 0 (mk 5 1 3), fr 5 1 0 0 1 0 (mk 5 0 3), fr 5 1 0 0 1 0 (mk 0xFFFFFFFF 0 3)]
def vid (s : State) : State := (((((se 7 0 sessRunning 0 id s).wn 0x3007 0x10 1920).wn 0x3007 0x11 1080).wn 0x3007 0x12 60000).wn 0x3007 0x13 100)
def rel (f : RelayS → RelayS) (s : State) : State := sysM (fun y => { y with relays := [(0x105, f ⟨7, 1, 5, 0, none, 0, false, 3, 0, 0⟩)] }) s
def srf (s : State) : State := se 7 2 sessRunning 0 id s
def S11 : List State :=
  combos (base 0) [[vid, setB 0x6510 8 1000 ∘ vid, setB 0x6510 8 100000 ∘ setB 0x3100 4 80 ∘ vid, srf ∘ setB 0x6510 8 100000 ∘ setB 0x3100 4 80],
    [fun s => (s.setRin 3 {}).setSes 3 (s.ses 3), rin ({ · with record := some pic }), rin ({ · with record := some pic, tiles := [(0, true, [])] })]] ++
  combos (base 1) [[srf ∘ rel id, vid ∘ rel ({ · with mode := 0 }), fun s => s.wn (spIdx 0) 4 1],
    [rin id, rin ({ · with lost := true, offset := 5 }), rin ({ · with offset := 5, data := List.replicate 70 0 }), fun s => setB 0x2800 3 2 (s.setSp 0 { s.sp 0 with delay := some 3, replyAt := some 0 }), fun s => s.wn 0x6800 1 1]]
end T11

namespace T11b
def rin (f : RelayInS → RelayInS) (s : State) : State := s.setRin 3 (f (s.rin 3))
def b2 (n v : Nat) := beBytes n v
def ent (m : Nat) (s : State) : State := s.wb 0x6800 0x18 (List.replicate 12 0 ++ [1, 5] ++ beBytes 1 m ++ [0] ++ List.replicate 624 0)
def pic : List Byte := b2 4 9 ++ b2 2 32 ++ b2 2 16 ++ List.replicate 60 0
def base (m : Nat) : State := ent m (se 3 4 sessRunning 0 (fun x => { x with queue := [{ ts := 0, grade := 2, alive := 0, cap := some 5, judge := .fresh, heartbeat := false, crc := none, rows := [], avail := 0 }] }) cas)
def ps (no pno row col cnt : Nat) : List Byte := b2 2 no ++ b2 4 pno ++ b2 2 row ++ b2 2 col ++ b2 1 cnt ++ [0] ++ b2 2 1 ++ [0,0] ++ List.replicate (576 * cnt) 0
def st (no off : Nat) (b : List Byte) : List Byte := b2 2 no ++ b2 4 off ++ b
def mk (n k hop : Nat) : List Byte := b2 1 k ++ b2 1 hop ++ [0,0] ++ b2 4 n ++ List.replicate 36 0
def wf (c : Nat) (x : SpWire) : SpWire := ⟨x.cols.mapIdx (fun i y => if i = c then [.d 0x5a] else y), x.rxNs⟩
def gn (g : Nat) (ty : Nat) (b : List Byte) : SpWire := ⟨frameCols 1 (SpOut.bytes ⟨ty, 1, 0, 0, 0, 0, g, b⟩ 0 0 b), 5⟩
def fl (g : Nat) (ty : Nat) (b : List Byte) : SpWire := ⟨frameCols 1 (SpOut.bytes ⟨ty, 1, 0, g, 0, 0, 1, b⟩ 0 0 b), 5⟩
def fS : List SpWire := [gn 3 4 (List.replicate 16 0), fr 1 1 0 0 5 0 (ps 3 9 0 0 1), fr 2 1 0 0 5 0 (st 3 0 []), fr 5 1 0 0 5 0 (mk 5 1 3) ] ++ (List.range 15).map (fun k => ctl 1 k 1 [])
def vid (s : State) : State := (((((se 7 0 sessRunning 0 id s).wn 0x3007 0x10 1920).wn 0x3007 0x11 1080).wn 0x3007 0x12 60000).wn 0x3007 0x13 100)
def rel (f : RelayS → RelayS) (s : State) : State := sysM (fun y => { y with relays := [(0x105, f ⟨7, 1, 5, 0, none, 0, false, 3, 0, 0⟩)] }) s
def srf (s : State) : State := se 7 2 sessRunning 0 id s
def ww0 : List State := [cas]
end T11b

namespace T11c
def rin (f : RelayInS → RelayInS) (s : State) : State := s.setRin 3 (f (s.rin 3))
def b2 (n v : Nat) := beBytes n v
def ent (m : Nat) (s : State) : State := s.wb 0x6800 0x18 (List.replicate 12 0 ++ [1, 5] ++ beBytes 1 m ++ [0] ++ List.replicate 624 0)
def pic : List Byte := b2 4 9 ++ b2 2 32 ++ b2 2 16 ++ List.replicate 60 0
def base (m : Nat) : State := ent m (se 3 4 sessRunning 0 (fun x => { x with queue := [{ ts := 0, grade := 2, alive := 0, cap := some 5, judge := .fresh, heartbeat := false, crc := none, rows := [], avail := 0 }] }) cas)
def ps (no pno row col cnt : Nat) : List Byte := b2 2 no ++ b2 4 pno ++ b2 2 row ++ b2 2 col ++ b2 1 cnt ++ [0] ++ b2 2 1 ++ [0,0] ++ List.replicate (576 * cnt) 0
def st (no off : Nat) (b : List Byte) : List Byte := b2 2 no ++ b2 4 off ++ b
def mk (n k hop : Nat) : List Byte := b2 1 k ++ b2 1 hop ++ [0,0] ++ b2 4 n ++ List.replicate 36 0
def wf (c : Nat) (x : SpWire) : SpWire := ⟨x.cols.mapIdx (fun i y => if i = c then [.d 0x5a] else y), x.rxNs⟩
def gn (g : Nat) (ty : Nat) (b : List Byte) : SpWire := ⟨frameCols 1 (SpOut.bytes ⟨ty, 1, 0, 0, 0, 0, g, b⟩ 0 0 b), 5⟩
def fl (g : Nat) (ty : Nat) (b : List Byte) : SpWire := ⟨frameCols 1 (SpOut.bytes ⟨ty, 1, 0, g, 0, 0, 1, b⟩ 0 0 b), 5⟩
def fS : List SpWire := [ wf 0 (ctl 1 0 7 []), wf 9 (ctl 1 0 7 []), fl 9 3 [0,0], gn 5 3 [0,8],
  ctl 1 8 0 (b2 2 0x105 ++ [7, 0]), ctl 1 8 0 (b2 2 0x105 ++ [200, 0]), ctl 1 8 0 (b2 2 0x105 ++ [7, 1]), ctl 1 8 1 (b2 2 0x105 ++ [7, 0]), ctl 1 8 0 (b2 2 0x905 ++ [7, 0]),
  ctl 1 9 0 (b2 2 3 ++ [0]), ctl 1 9 0 (b2 2 3 ++ [2]), ctl 1 9 0 (b2 2 4 ++ [2]), ctl 1 10 0 (b2 2 0x105), ctl 1 11 0 (b2 2 0x105),
  fr 1 1 0 0 1 0 (ps 3 9 0 0 1), fr 1 1 0 0 1 0 (ps 4 9 0 0 1), fr 1 1 0 0 1 0 (ps 3 9 0 0 2), fr 1 1 0 0 1 0 (ps 3 9 0 1 1),
  fr 2 1 0 0 1 0 (st 3 0 []), fr 2 1 0 0 1 0 (st 3 5 [1,2,3]), fr 2 1 0 0 1 0 (st 4 0 [1]), fr 2 1 0 0 1 0 (st 3 0 ([1,0,0,1,0,2,7,8])),
  fr 5 1 0 0 1 0 (mk 5 1 3), fr 5 1 0 0 1 0 (mk 5 0 3), fr 5 1 0 0 1 0 (mk 0xFFFFFFFF 0 3)]
def vid (s : State) : State := (((((se 7 0 sessRunning 0 id s).wn 0x3007 0x10 1920).wn 0x3007 0x11 1080).wn 0x3007 0x12 60000).wn 0x3007 0x13 100)
def rel (f : RelayS → RelayS) (s : State) : State := sysM (fun y => { y with relays := [(0x105, f ⟨7, 1, 5, 0, none, 0, false, 3, 0, 0⟩)] }) s
def srf (s : State) : State := se 7 2 sessRunning 0 id s
def S11 : List State :=
  (combos (base 0) [[vid, setB 0x3100 4 80 ∘ vid],
    [rin ({ · with record := some pic }), rin ({ · with record := some pic, tiles := [(0, true, [])] })]]).map (fun s => { s with clock := 10^12 })
def ww0 : List SpWire := [ctl 1 0 7 [], fr 5 1 0 0 1 0 (mk 5 17 3), fr 5 1 0 0 1 0 (mk 5 16 3), fr 5 1 0 0 1 0 (mk 5 0 16)]
end T11c

namespace T12
def mm (ty src fl gen : Nat) (b : List Byte) : SpWire := ⟨frameCols 1 (SpOut.bytes ⟨ty, src, 0, fl, 0, 0, gen, b⟩ 0 0 b), 5⟩
def pres (src gen n : Nat) : SpWire := mm 3 src 6 gen ([0, 1, 0, 4, 0x21, 0x41] ++ List.replicate (n - 6) 0)
def dg (src a root : Nat) : SpWire := fr 4 src 0 4 1 0 (beBytes 4 a ++ beBytes 8 root ++ [0,0,0,0])
def fS : List SpWire := [pres 1 1 328, pres 1 1 300, pres 2 2 328, pres 3 0 328, ctl 1 3 0 [], dg 1 (pkgNode 1) 0, dg 1 (pkgNode 1) 5, dg 2 (pkgNode 0) 7]
def setP (p : Nat) (f : PeerS → PeerS) (s : State) : State := sysM (fun y => { y with peers := y.peers.put p (f (s.peer p)) }) s
def pf (s : State) : State := { s with power := { s.power with fail := true } }
def noq : State → State := sysM ({ · with quorum := false, lostAt := some 0 })
def S12 : List State := mods cas [noq, setB 0x6800 9 2 ∘ setB 0x6800 0xB 1, sysM ({ · with joined := false }), noq ∘ setP 1 ({ · with present := false }) ∘ setP 2 ({ · with present := false }) ∘ setB 0x6800 0xF 1 ∘ (fun s => { s with encs := [(2, {})] }),
    setB 0x6800 0x11 2 ∘ sysM ({ · with seen := 6, suspended := true }), setB 0x6800 0x11 1 ∘ sysM (fun y => { y with seen := 1, differ := [16 + 1], table := y.table.cut 3 }), pf, setB 0x6800 1 5, setB 0x6800 0xB 1]
end T12

namespace T12b
def fenced (s : State) : State := setB 0x6800 9 3 (setB 0x6800 0xA 0xFF (sysM ({ · with joined := false }) s))
def bc (op gen : Nat) (b : List Byte) : SpWire := ⟨frameCols 1 (SpOut.bytes ⟨3, 1, 0, 6, 0, 0, gen, beBytes 2 op ++ b⟩ 0 0 (beBytes 2 op ++ b)), 5⟩
def mk1 (op : Nat) (b : List Byte) : List SpWire := [ctl 1 op 0 b, bc op 1 b, ctl 1 op 4 b]
def vac (k : Nat) (s : State) : State := sysM (fun y => { y with table := y.table.put k { (s.ent k) with role := 3, epoch := 4 } }) s
def S12 : List State := combos cas [[id, fenced, setB 0x6800 9 2, fun s => { (setB 0x6800 9 4 s) with power := { s.power with fail := true } }],
  [id, vac 2, sysM (fun y => { y with rejoin := true, parts := [(2, [1,2]), (1, [0])] }), setB 0x6800 0xE 1, setB 0x6800 0xB 1, setB 0x6800 0xB 0xff ∘ setB 0x6800 0xE 1]]
def fS : List SpWire := [[0,0,9,9,9,9],[2,0, 0,0,0,0,0,0,0,5]].flatMap (mk1 12) ++ [[2,1,0,7,0,0,0,0,0,0,0,0,0,0], [3,2,0,7,0,0,0,0,0,0,0,0,0,0],[2,1,0,7,0,0,0,0,0,0,0,0,0,9],[0xff,0,0,0,0,0,0,0,0,0,0,0,0,0]].flatMap (mk1 13) ++
   [[2,0,0,0,0,2,9,9], [2,1,0,0,0,2,9,9], [1,1,0,0,0,0,9,9], [17,1,0,0,0,0,9,9]].flatMap (mk1 14)
end T12b

namespace T12d
def mm (ty src fl gen : Nat) (b : List Byte) : SpWire := ⟨frameCols 1 (SpOut.bytes ⟨ty, src, 0, fl, 0, 0, gen, b⟩ 0 0 b), 5⟩
def pres (src gen n : Nat) : SpWire := mm 3 src 6 gen ([0, 1, 0, 4, 0x21, 0x41] ++ List.replicate (n - 6) 0)
def dg (src a root : Nat) : SpWire := fr 4 src 0 4 1 0 (beBytes 4 a ++ beBytes 8 root ++ [0,0,0,0])
def fS : List SpWire := [pres 1 1 328, pres 1 1 300, pres 2 2 328, pres 3 0 328, ctl 1 3 0 [], dg 1 (pkgNode 1) 0, dg 1 (pkgNode 1) 5, dg 2 (pkgNode 0) 7]
def setP (p : Nat) (f : PeerS → PeerS) (s : State) : State := sysM (fun y => { y with peers := y.peers.put p (f (s.peer p)) }) s
def pf (s : State) : State := { s with power := { s.power with fail := true } }
def noq : State → State := sysM ({ · with quorum := false, lostAt := some 0 })

def S12 : List State := [(noq ∘ setP 1 ({ · with present := false }) ∘ setP 2 ({ · with present := false }) ∘ setB 0x6800 0xF 1 ∘ (fun s => { s with encs := [(2, {})] , clock := 10^12})) cas, (setB 0x6800 0x11 2 ∘ sysM ({ · with seen := 6, suspended := true })) {cas with clock := 10^12}, (setB 0x6800 0x11 1 ∘ sysM (fun y => { y with seen := 1, differ := [16 + 1], table := y.table.cut 3 })) { cas with clock := 10^12}]
def ww0 : List SpWire := fS.take 2
end T12d

namespace T13
def pc (f : PcieS → PcieS) (s : State) : State := { s with pcie := f s.pcie }
def lk (n : Nat) (s : State) : State := s.wn 0x6600 4 n
def okp (s : State) : State := pc ({ · with reset := false, answers := true }) (lk 2 s)
def S13 : List State := combos up [
  [okp, (fun s => { s with link := { s.link with lostDie := some .e } }), pc ({ · with reset := false }), pc ({ · with reset := false }) ∘ lk 1, fun s => okp (s.setRing 2 ({ cfg := ringCfg 2 0, state := 1, intWait := true, lastInt := some 0 } : RingS))],
  [id, fun s => rg 3 4 0 id { s with zttQ := [⟨3, .ring 3, 5, zttHeader [], [], 3, false, false⟩, ⟨3, .udp 0 [] [] 0 0, 5, zttHeader [], [], 3, false, false⟩], pcie := { s.pcie with pending := 8, events := 7, msix := cellsWrite [] (12+16*3) [1], enable := true } }, pw ({ · with phase := .quiet }), pc ({ · with enable := true, msix := cellsWrite [] 12 [0] })]]
end T13

namespace T13b
def okp (s : State) : State := { (s.wn 0x6600 4 2) with pcie := { s.pcie with reset := false, answers := true } }
def d0 : Desc := ⟨0x1000, 64, false, 0, 0, 0, 0, List.replicate 64 0⟩
def dm (b : List Byte) (lenB : Nat) : Desc := ⟨0x1000, b.length, false, 0, 0x2000, lenB, 0, b⟩
def mbq (op idx sub : Nat) (data : List Byte) : List Byte := beBytes 1 op ++ [0] ++ beBytes 2 idx ++ beBytes 1 sub ++ [0,0,0] ++ beBytes 4 data.length ++ [0,0,0,0] ++ data
def dwire (d : Desc) : DescWire := ⟨leBytes 8 d.addrA ++ leBytes 4 d.lenA ++ leBytes 4 (b2n d.stampReq + 2 * d.rsvdA) ++ leBytes 8 d.addrB ++ leBytes 4 d.lenB ++ leBytes 4 d.rsvdB, d.data⟩
def host (h : Nat) (f : RingS → RingS) (g : RingS) : RingS := f { g with cfg := setBits g.cfg 255 224 h }
def rec1 : LogRec := ⟨0, zEv⟩
def S13 : List State :=
  (List.range 7).flatMap (fun k => mods (rg 3 k 0 (host 2 id) (okp up)) [id, fun s => (setB 0x2910 0xA 1 s)]) ++
  [rg 3 3 0 (host 2 ({ · with fetch := 1, open' := [0], bufs := [(0, d0)] })) (okp up), rg 3 4 0 (host 2 ({ · with fetch := 1, open' := [0] })) (okp { up with zttQ := [⟨3, .ring 3, 0, zttHeader [], [], 3, false, false⟩]}),
   rg 3 5 0 (host 2 ({ · with fetch := 1, open' := [0], bufs := [(0, { d0 with lenA := 64 })], recs := [rec1] })) (okp up), rg 3 4 0 id (rg 5 4 0 ({ · with state := 0 }) (okp up)), rg 3 4 0 ({ · with state := 0 }) (okp up), rg 3 4 0 ({ · with state := 0 }) (rg 5 4 0 id (okp up)),
   rg 3 4 0 (host 0 ({ · with state := 0 })) (okp up), rg 3 9 0 ({ · with state := 0 }) (okp up), rg 3 4 0 id up, (rg 3 2 0 (host 2 id) (okp (setB 0x6800 9 3 up)))]
end T13b

namespace T13c
def okp (s : State) : State := { (s.wn 0x6600 4 2) with pcie := { s.pcie with reset := false, answers := true } }
def d0 : Desc := ⟨0x1000, 64, false, 0, 0, 0, 0, List.replicate 64 0⟩
def dm (b : List Byte) (lenB : Nat) : Desc := ⟨0x1000, b.length, false, 0, 0x2000, lenB, 0, b⟩
def mbq (op idx sub : Nat) (data : List Byte) : List Byte := beBytes 1 op ++ [0] ++ beBytes 2 idx ++ beBytes 1 sub ++ [0,0,0] ++ [0,0,0,0] ++ beBytes 4 data.length ++ data
def dwire (d : Desc) : DescWire := ⟨leBytes 8 d.addrA ++ leBytes 4 d.lenA ++ leBytes 4 (b2n d.stampReq + 2 * d.rsvdA) ++ leBytes 8 d.addrB ++ leBytes 4 d.lenB ++ leBytes 4 d.rsvdB, d.data⟩
def host (h : Nat) (f : RingS → RingS) (g : RingS) : RingS := f { g with cfg := setBits g.cfg 255 224 h }
def rec1 : LogRec := ⟨0, zEv⟩
def S13 : List State := [rg 3 5 0 (host 2 ({ · with nextRec := 1 })) (okp up), rg 3 4 0 (host 2 id) (okp up)]
end T13c

namespace T14
def can (f : CanS → CanS) (s : State) : State := s.setCan 0 (f (s.canP 0))
def onn (st : Nat) (s : State) : State := (s.wn 0x2011 1 1).wn 0x2011 4 st
def S14 : List State := combos { up with clock := 10^10 } [
  [onn nmtOperational, onn nmtPreOperational, onn nmtInit, fun s => (onn nmtInit s).wn 0x2011 5 3 ],
  [id, can ({ · with emcy := [(0x1000, 7), (0x2000, 8)], lastEmcy := some 0, seg := some (0x1008, 0, [1], true, 0) }),
   fun s => { s with conds := [.passive 0, .busOff 0], partReads := [(0, ⟨0x1008, 0, [1,2,3,4], 0⟩), (19, ⟨0x1008, 0, [1,2,3,4], 10^10⟩), (20, ⟨0x1008, 0, [1,2,3,4], 10^12⟩)], partWrites := [(partKey (.can 0) 0x2400 1, ⟨0x2400, 1, [7], 0⟩), (partKey mb 0x2400 1, ⟨0x2400, 1, [7], 5⟩)] } ]]
def ww0 : List (List Byte) := [[], [1,2,3,4]]
end T14

namespace T14b
def can (f : CanS → CanS) (s : State) : State := s.setCan 0 (f (s.canP 0))
def onn (st : Nat) (s : State) : State := (s.wn 0x2011 1 1).wn 0x2011 4 st
def tp (k tt : Nat) (s : State) : State := (((s.wn (0x1800 + k) 1 0x180).wn (0x1800 + k) 2 tt).wn (0x1A00 + k) 0 1).wn (0x1A00 + k) 1 0x10170010
def S14 : List State := combos { up with clock := 10^12 } [
  [onn nmtOperational, onn nmtPreOperational, onn nmtStopped],
  [id, can ({ · with emcy := [(0x1000, 7), (0x2000, 8)], lastEmcy := some 0 }), fun s => (s.wn 0x2011 5 1).wn 0x1017 0 5, fun s => (s.wn 0x2011 5 2), fun s => s.wn 0x2011 5 3],
  [id, tp 0 2 ∘ tp 1 254 ∘ tp 2 240 ∘ fun s => s.wn 0x1801 5 3, fun s => { tp 0 2 (tp 1 1 (tp 2 254 s)) with tpdos := [(0, ⟨1, [], none, 0⟩), (2, ⟨1, [7], some 0, 0⟩)] }]]
end T14b

namespace T14c
def can (f : CanS → CanS) (s : State) : State := s.setCan 0 (f (s.canP 0))
def onn (st : Nat) (s : State) : State := (s.wn 0x2011 1 1).wn 0x2011 4 st
def S14 : List State := combos { up with clock := 10^12 } [
  [onn nmtOperational],
  [id, can ({ · with emcy := [(0x1000, 7), (0x2000, 8)], lastEmcy := some 0, seg := some (0x1008, 0, [1], true, 0) }),
   fun s => { s with conds := [.passive 0, .busOff 0], partReads := [(0, ⟨0x1008, 0, [1,2,3,4], 0⟩), (19, ⟨0x1008, 0, [1,2,3,4], 0⟩), (20, ⟨0x1008, 0, [1,2,3,4], 10^9⟩)], partWrites := [(partKey mb 0x2001 2, ⟨0x2001, 2, [7,8], 0⟩), (partKey (.can 0) 0x2400 1, ⟨0x2400, 1, [7], 0⟩), (partKey mb 0x2400 1, ⟨0x2400, 1, [7], 5⟩)] } ],
  [id, fun s => ((s.wn 0x1800 1 0).wn 0x1800 2 254).wn 0x1A00 0 1]]
def ww0 : List (List Byte) := [[], [1,2,3,4,5,6,7,8]]
end T14c

namespace T15
def k0 : List Byte := List.replicate 32 5
def q1 : List Byte := beBytes 1 1 ++ [0] ++ beBytes 2 0x1008 ++ [0] ++ [0,0,0] ++ [0,0,0,0] ++ beBytes 4 0
def zf (b : List Byte) : ZdpFrame := ⟨0, false, [10,0,0,1], up.rn 0x2020 2, [10,0,0,9], 999, b⟩
def sess : ZdpS := ⟨0, k0, false, [10,0,0,9], 999, 0, 7, [1,2,3], 0⟩
def z0 (s : State) : State := ((((s.wn 0x2020 1 1).wn 0x2910 0xA 1).wn 0x2910 3 0x0A000001).wb 0x2020 4 k0)
def S15 : List State := combos up [[id, z0], [id, fun s => { s with zdp := [(2, sess)] }, fun s => { s with zdp := (List.range 8).map (fun k => (k, { sess with held := [] })), upd := { s.upd with owner := some (.zdp 2) } }], [id, fun s => { s with procs := [(procKey 0 .sys, { zProcS with restarting := true })] }]]
def ww0 : List (List Byte) := [[], List.replicate 16 3, k0, List.replicate 32 0]
end T15

namespace T15b
def S15 : List State := mods up [fun s => s.wn 0x1003 0 2, fun s => { s with flash := { s.flash with boot := { s.flash.boot with oldHeld := true } } }, pw ({ · with fail := true }),
 fun s => { s with loaded := false, power := { s.power with phase := .booting } }]
def ww0 : List (List Byte) := [[], [1]]
end T15b

namespace T16
def e1 : Ev := ⟨0x0A02, 1, up.addrOf 0, 0, 0, [(8, 1)], 0⟩
def qs (n : Nat) (l : List Ev) (s : State) : State := { s with log := { s.log with queues := [(0, l)], lost := if n = 0 then [] else [(0, n)] } }
def p0 : PicS := { zPicS with w := 2, h := 2, codedW := 16, codedH := 16, words := List.replicate 200 77, alive := 7 }
def pic (s : State) : State := se 3 1 3 0 ({ · with disp := some p0 }) s
def ck (f : CheckS → CheckS) (s : State) : State := { (s.wn 0x2300 1 14) with checks := [(14, f {}), (40, f {})], clock := 10^11 }
def S16a : List State := mods up [qs 0 [e1], qs 5 [e1, { e1 with emcy := 0x1000 }], qs 0 [{ e1 with emcy := 0x1000 }] ∘ fun s => (s.wn 0x1003 0 3).wn 0x1003 1 7,
  fun s => s.wb 0x5100 2 [0,0x10,0,0,0,0x17,0x10,0], fun s => { s with tally := { s.tally with filled := true, checkAt := some 5 } }, fun s => { s with loaded := false }, fun s => s.wn 0x2300 1 0]
def ww0 : List (List Byte) := [[], [0,0,0x10,0], [0,0,0,0,0x00,0,0x10,0x17]]
end T16

namespace T16b
def e1 : Ev := ⟨0x0A02, 1, up.addrOf 0, 0, 0, [(8, 1)], 0⟩
def p0 : PicS := { zPicS with w := 2, h := 2, codedW := 16, codedH := 16, words := List.replicate 200 77, alive := 7 }
def pic (s : State) : State := se 3 1 3 0 ({ · with disp := some p0 }) s
def ck (f : CheckS → CheckS) (s : State) : State := { (s.wn 0x2300 1 14) with checks := [(14, f {}), (40, f {})], clock := 10^12 }
def S16b : List State := mods (pic up) [
  ck ({ · with mode := 1, point := 1, param := 3, expected := 5, alg := 1 }), ck ({ · with mode := 2, point := 1, param := 3 }),
  ck ({ · with mode := 3, point := 1, param := 3 }), ck ({ · with mode := 1, point := 1, param := 3 }),
  ck ({ · with mode := 1, point := 1, param := 3, expected := 9, alertAt := some (10^12) }),
  ck ({ · with mode := 3, point := 1, param := 3, run := 2^63+7, repRun := 3 }), ck ({ · with mode := 3, point := 1, param := 3, run := 2^63+9 }),
  ck ({ · with mode := 3, point := 1, param := 3, run := 2^63+5 }), ck ({ · with mode := 1, point := 4, param := 0x2000 * 65536 + 0x1000, expected := 4 }),
  ck ({ · with mode := 1, point := 3, param := 3 + 256 }), ck ({ · with mode := 1, point := 3, param := 3 }), ck ({ · with mode := 1, point := 0 }),  ck ({ · with mode := 1, point := 1, param := 4 })]
def ww0 : List (List Byte) := [[]]
end T16b

namespace T17
def entB (tg idx sub : Nat) (d : List Byte) : List Byte := beBytes 2 tg ++ beBytes 2 idx ++ beBytes 1 sub ++ [0,0,0] ++ beBytes 4 d.length ++ d
def chg (es : List (List Byte)) : List Byte := beBytes 2 0x5A43 ++ [1, 0] ++ beBytes 2 77 ++ beBytes 2 es.length ++ List.replicate 8 0 ++ es.flatten
def c1 : List Byte := chg [entB 2 0x2001 1 [5]]
def c2 : List Byte := chg [entB 1 0x4300 2 [5,0,0,0]]
def c0 : ChangeS := ⟨5, 77, c1, 6, 0, 0, 0, [], 0, 0, false⟩
def tg0 : TargetS := ⟨1, 5, [], true, none, none, false, [], [], []⟩
def S17 : List State := combos cas [
  [id, setB 0x6800 0xB 1, setB 0x6800 0xB 0xFF],
  [id, sysM ({ · with quorum := false }), sysM ({ · with change := some c0, nextId := 5 }),  sysM ({ · with change := some { c0 with staged := [(2, (9, []))], armed := 4, targets := 7 }, nextId := 65535 }),
    sysM ({ · with change := some { c0 with staged := [(2, (9, []))], armed := 4 }, nextId := 65535 }), sysM ({ · with change := some { c0 with phase := 1, armed := 6, time := 10^9 } }),
    sysM ({ · with change := some { c0 with phase := 2, staged := [(1, (3, []))], armed := 6 } })],
  [id, sysM ({ · with target := some tg0 }), sysM ({ · with target := some { tg0 with staged := false, data := [1, 2, 3] } }),
     sysM ({ · with target := some { tg0 with time := some 7 } })]]
def F17 : List SpWire := [ctl 1 2 0 (beBytes 2 5 ++ [0,0,0,0] ++ beBytes 4 0 ++ [7,8]), ctl 1 2 0 (beBytes 2 5 ++ [1,0,0,0] ++ beBytes 4 0 ++ c1),
  ctl 1 2 0 (beBytes 2 5 ++ [0,0,0,0] ++ beBytes 4 3 ++ [7,8]), ctl 1 2 0 (beBytes 2 5 ++ [1,0,0,0] ++ beBytes 4 3 ++ [7,8]), ctl 1 2 0 (beBytes 2 5 ++ [1,0,0,0] ++ beBytes 4 0 ++ [7,8]),
  ctl 1 3 0 (beBytes 2 5 ++ [0, 0] ++ beBytes 2 0 ++ beBytes 8 3), ctl 1 3 0 (beBytes 2 5 ++ [5, 6] ++ beBytes 2 4 ++ beBytes 8 3), ctl 3 3 0 (beBytes 2 5 ++ [5, 6] ++ beBytes 2 4 ++ beBytes 8 3)]
def ww0 : List (List Byte) := [[], c1, c2, chg [entB 16 0x2001 1 [5]], chg [entB 7 0x2001 1 [5]]]
end T17

namespace T17b
def entB (tg idx sub : Nat) (d : List Byte) : List Byte := beBytes 2 tg ++ beBytes 2 idx ++ beBytes 1 sub ++ [0,0,0] ++ beBytes 4 d.length ++ d
def chg (es : List (List Byte)) : List Byte := beBytes 2 0x5A43 ++ [1, 0] ++ beBytes 2 77 ++ beBytes 2 es.length ++ List.replicate 8 0 ++ es.flatten
def c1 : List Byte := chg [entB 2 0x2001 1 [5]]
def c2 : List Byte := chg [entB 1 0x6800 5 [5,0], entB 2 0x6010 2 [5]]
def c0 : ChangeS := ⟨5, 77, c1, 6, 0, 0, 0, [], 0, 0, false⟩
def tg0 : TargetS := ⟨1, 5, c2, true, none, none, false, [], [], []⟩
def S17 : List State := (mods cas [ sysM ({ · with change := some c0, nextId := 5 }),
     sysM ({ · with change := some { c0 with phase := 1, armed := 6, time := 10^9 } }), sysM ({ · with change := some { c0 with phase := 1, armed := 6, time := 10^6 } }), sysM ({ · with change := some { c0 with phase := 1, armed := 2, time := 10^6 } }),
    sysM ({ · with change := some { c0 with phase := 2, applied := 4, staged := [(1, (3, []))], armed := 6 } }),
    sysM ({ · with change := some { c0 with phase := 2, applied := 0, staged := [(1, (3, []))], armed := 6 } }),
    sysM ({ · with change := some { c0 with phase := 2, applied := 0, targets := 2, staged := [(1, (3, []))], armed := 6 } }),
    sysM ({ · with target := some tg0 }), sysM ({ · with target := some { tg0 with staged := false, data := [1, 2, 3] } }),
     sysM ({ · with target := some { tg0 with time := some 7 } }), sysM ({ · with target := some { tg0 with time := some 7, done := some 0 } }), sysM ({ · with target := some { tg0 with time := some 7, done := some 0, screens := [3] } }),
     sysM ({ · with target := some { tg0 with time := some 7, done := some 0, from' := 0 }, change := some { c0 with phase := 2, targets := 1, staged := [(0, (3, []))] } }), setB 0x6800 0xB 1 ]).flatMap fun s => [s, { s with time := { s.time with sec := 3 } }, { s with power := { s.power with fail := true } }]
def F17 : List SpWire := [ctl 1 4 0 (beBytes 2 5 ++ beBytes 8 9 ++ beBytes 4 4), ctl 2 4 0 (beBytes 2 5 ++ beBytes 8 9 ++ beBytes 4 4), ctl 1 5 0 (beBytes 2 5), ctl 3 5 0 (beBytes 2 5),
  ctl 1 6 0 (beBytes 2 5),ctl 1 6 0 (beBytes 2 6), ctl 1 7 0 (beBytes 2 5 ++ [0,0,0,0] ++ beBytes 8 3), ctl 1 7 0 (beBytes 2 5 ++ [0,0,0,0] ++ beBytes 8 4), ctl 1 7 0 (beBytes 2 5 ++ [3,0,0,0] ++ beBytes 8 4)]
end T17b

namespace T17x
def c0 : ChangeS := ⟨5, 77, [], 6, 0, 0, 0, [], 0, 0, false⟩
def S17 : List State := [sysM ({ · with change := some c0, nextId := 5 }) { cas with clock := 10^12 }]
def ww0 : List SpWire := []
def ww1 : List (List Byte) := [[]]
def S17b : List State := [{ cas with loaded := false }]
def ww2 : List SpWire := []
def ww3 : List (List Byte) := [[]]
end T17x

namespace T18
def own (r : Option Req) (s : State) : State := { s with upd := { s.upd with owner := r } }
def bt (a b : Nat) (s : State) : State := { s with flash := s.flash.addRecord { s.flash.boot with slotA := a, slotB := b, active := 0, seq := 1 } }
def S18 : List State := combos up [
  [own none, own (some mb), own (some (.can 0))],
  [fun s => s.wn 0x2400 2 updIdle, fun s => bt 4 1 (s.wn 0x2400 2 updDownloading), fun s => bt 4 1 (s.wn 0x2400 2 updVerifying), fun s => bt 4 2 (s.wn 0x2400 2 updStaged), fun s => bt 4 3 (s.wn 0x2400 2 updTrial)],
  [id, fun s => { s with upd := { s.upd with converted := true, chunks := [[1]], prev := some (0, [9]), trialAt := some 7 } },
   fun s => { (s.wn 0x2400 4 3).wn 0x2400 6 2 with upd := { s.upd with chunks := [[1],[2],[3],[4]] } }],
  [id, fun s => { s with power := { s.power with fail := true } }, fun s => { s with otp := { s.otp with keys := [[1],[2],[],[]] }, flash := { s.flash with slots := [(0, hdrOf 0 0 256), (1, hdrOf 1 0 256)] } }],
  [id, fun s => s.wn 0x2400 0xE 1, fun s => { s.wn 0x2400 0xE 2 with otp := { s.otp with keys := [[1],[2],[3],[]] } }]]
def ww0 : List (List Byte) := [[0,0,0,0,9],[0,0,0,3,1,2],[0,0,0,0,8]]
def S18b : List State := combos up [
  [own none, own (some mb)],
  [fun s => s.wn 0x2400 2 updIdle, fun s => bt 4 1 (s.wn 0x2400 2 updDownloading), fun s => bt 4 1 (s.wn 0x2400 2 updVerifying), fun s => bt 4 2 (s.wn 0x2400 2 updStaged), fun s => bt 4 3 (s.wn 0x2400 2 updTrial)],
  [id, fun s => { s with upd := { s.upd with chunks := [[1], [2]], prev := some (0, [9]) } },
   fun s => { s with upd := { s.upd with trialAt := some 7 } }],
  [id, fun s => { s with upd := { s.upd with rom := true }, power := { s.power with phase := .booting } }, fun s => { s with flash := { s.flash with slots := [(0, hdrOf 0 0 256), (1, hdrOf 1 1 512)] } }],
  [id, fun s => s.wn 0x2400 0x4 512, fun s => { s with power := { s.power with fail := true } }]]
end T18

namespace T18b
def own (r : Option Req) (s : State) : State := { s with upd := { s.upd with owner := r } }
def bt (a b : Nat) (s : State) : State := { s with flash := s.flash.addRecord { s.flash.boot with slotA := a, slotB := b, active := 0, seq := 1 } }
def S18b : List State := combos up [
  [own none, own (some mb), fun s => own (some mb) { s with clock := 10^12 }],
  [fun s => s.wn 0x2400 2 updIdle, fun s => bt 4 1 (s.wn 0x2400 2 updDownloading), fun s => bt 4 1 (s.wn 0x2400 2 updVerifying), fun s => bt 4 2 (s.wn 0x2400 2 updStaged), fun s => bt 4 3 (s.wn 0x2400 2 updTrial)],
  [id, fun s => { s with upd := { s.upd with chunks := [[1], [2]], prev := some (0, [9]) } },
  id,
   fun s => { s with upd := { s.upd with trialAt := some 7 } }],
  [id, fun s => { s with upd := { s.upd with rom := true }, power := { s.power with phase := .booting } }, fun s => { s with flash := { s.flash with slots := [(0, hdrOf 0 0 256), (1, hdrOf 1 1 512)] } }],
  [id, fun s => s.wn 0x2400 0x4 512, fun s => { s with power := { s.power with fail := true } }]]
end T18b

namespace T18c
def bt (a b : Nat) (s : State) : State := { s with flash := s.flash.addRecord { s.flash.boot with slotA := a, slotB := b, active := 0, seq := 1 } }
def body : List Byte := List.replicate 256 0
def img : List Byte := ((hdrOf 0 3 512).take 20) ++ sha384 body ++ List.replicate 188 0 ++ body
def im (s : State) : State := { s with flash := { s.flash with slots := [(0, img), (1, img)] } }
def S18b : List State := [bt 4 1 (((im up).wn 0x2400 2 updVerifying).wn 0x2400 4 512),
  im { up with upd := { up.upd with rom := true }, power := { up.power with phase := .booting }, otp := { up.otp with keys := [List.replicate 96 1] } },
  bt 4 3 <| im { up with upd := { up.upd with rom := true }, power := { up.power with phase := .booting }, otp := { up.otp with keys := [List.replicate 96 1] } }]
end T18c

namespace T19
def bt (a b : Nat) (s : State) : State := { s with flash := s.flash.addRecord { s.flash.boot with slotA := a, slotB := b, active := 0, seq := 1 } }
def pw (f : PowerS → PowerS) (s : State) : State := { s with power := f s.power }
def S19 : List State := combos up [
  [id, pw ({ · with phase := .off }), pw ({ · with phase := .held }), pw ({ · with phase := .quiet })],
  [id, pw ({ · with fail := true })],
  [id, pw ({ · with resetN := true, noSlot := true }), pw ({ · with trip := true, overE := true }), pw ({ · with cold := true }), pw ({ · with rail := true, range := true, vinGood := false }), pw ({ · with scan := true, cold := true })],
  [id, bt 4 2, bt 4 3],
  [id, fun s => { s.wn 0x2500 9 5 with screens := [(3, { run := false })], out := [.line 0 true] }]]
def S19b : List State := combos up [
  [id, pw ({ · with phase := .off }), pw ({ · with phase := .held }), pw ({ · with phase := .quiet })],
  [id, pw ({ · with fail := true }), pw ({ · with quietWait := true, tripNote := true })],
  [id, fun s => pw ({ · with trip := true, overE := true }) (s.wn 0x2500 7 1), pw ({ · with scan := true, cold := true }), pw ({ · with scan := true })],
  [id, bt 4 2, fun s => s.wn 0x2400 2 updDownloading],
  [id, fun s => s.wn 0x2500 0xB 3],
  [id, fun s => { s with screens := [(3, { run := true }), (4, {run := false})], zdp := [(2, ⟨0, [], false, [], 0, 0, 0, [], 0⟩)], rings := [(5, {})], lanes := [], flash := { s.flash with refs := [(key 0x2500 8, .num 65535)] } } ]]
end T19

namespace T19a
def bt (a b : Nat) (s : State) : State := { s with flash := s.flash.addRecord { s.flash.boot with slotA := a, slotB := b, active := 0, seq := 1 } }
def pw (f : PowerS → PowerS) (s : State) : State := { s with power := f s.power }
def S19 : List State := combos up [
  [id, pw ({ · with phase := .off }), pw ({ · with phase := .held }), pw ({ · with phase := .quiet })],
  [id, pw ({ · with fail := true }), pw ({ · with fail := true, vinGood := false })],
  [id, pw ({ · with resetN := true, noSlot := true }), pw ({ · with trip := true, overE := true }), pw ({ · with cold := true }), pw ({ · with rail := true, range := true, vinGood := false }), pw ({ · with scan := true, cold := true })],
  [id, bt 4 2, bt 4 3],
  [id, fun s => { s.wn 0x2500 9 5 with screens := [(3, { run := false })], out := [.line 0 true] }]]
end T19a

namespace TZ1
def ZP : List State := [scr 3 ({ · with pressing := some 5 }) (scr 4 ({ · with pressing := some 4, planeDone := false }) up)]
end TZ1

namespace TZ11
def ZW : List State := [pw ({ · with resetN := true, trip := true }) up]
end TZ11

namespace TZ12
def psv : ParamSet := { zParamSet with codedW := 16, codedH := 16, width := 2, height := 2, ctu := 16, bitDepth := 8 }
def ppv : PicSet := { zPicSet with id := 0, sps := 0 }
def cs : CodedS := { sps := some psv, pps := some ppv, slices := [({ zSlice with nut := 1, ctus := [100] }, true)] }
def pd : PicDesc := { zPicDesc with number := 5, isRef := true, output := true, keep := [5, 6], blocks := [⟨⟨0, 16, 0, 16⟩, .intra []⟩], y := List.replicate 256 7, cb := List.replicate 64 5, cr := List.replicate 64 6 }
def ai : AuInfo := { zAuInfo with ts := 500, coded := cs }
def act (s : State) : State := { s with active := List.range 14 }
def S6 : List State := mods (act (se 3 0 3 0 id up)) [fun s => { s with segs := [⟨5, 1, 3, 500, 0, 0⟩, ⟨5, 1, 3, 500, 1, 1⟩, ⟨5, 1, 3, 700, 0, 0⟩] }, fun s => { s with segs := [⟨5, 1, 3, 700, 0, 0⟩, ⟨5, 1, 3, 500, 1, 0⟩], cores := [(2, { sess := some 4 })] },
  fun s => se 3 0 3 0 ({ · with queue := [ai, ai] }) { s with clock := 8000, segs := [⟨5, 1, 3, 500, 0, 0⟩, ⟨5, 1, 4, 500, 0, 0⟩], cores := [(2, { sess := some 5, pic := 500 })] },
  fun s => se 3 0 3 0 ({ · with queue := [ai, ai], refs := [{ num := 5, poc := 5, w := 2, h := 2, codedW := 16, codedH := 16 }], disp := some { num := 2 } }) s,
  fun s => se 3 0 3 0 ({ · with queue := [{ ai with crc := some 4, coded := { cs with irap := true } }] }) s,
  fun s => se 3 0 3 0 ({ · with queue := [{ ai with crc := some 4 }] }) s,
  fun s => { s with cores := [(2, { sess := some 5, pic := 500 }), (3, { sess := some 3, pic := 500 })] },
  fun s => se 3 0 3 0 ({ · with queue := [{ ai with judge := .replay }], disp := some { num := 2 } }) (s.wn 0x3003 0x15 4), fun s => (s.wn 0x3443 0xB 9).wn 0x3400 0xA 10, fun s => s.wb 0x4215 4 [1,2], se 3 2 3 0 id]
end TZ12

namespace TZ2
def k0 : Sink := ⟨[0x12, 0x1E, 0xC4, 1, 0,0,0,0x40,0,0,0,0,0,0,0,0], true, [1,2,3]⟩
def lt (r l : Nat) : LinkTry := ⟨r, l, [List.replicate l (0, 0)], [List.replicate l (1, 2)]⟩
def qq := (scr 3 ({ · with hpd := true, sink := some k0 }) (setB 0x4803 1 1 up)).wn 0x4803 0x14 1
def ZT : List State := [qq, (qq.wn 0x4803 0x14 2).wn 0x4803 0x15 0x203]
end TZ2

namespace TZ3
def ZL : List State := [cas, setB 0x6410 1 1 cas, setB 0x6440 3 4 cas, (cas.wn 0x6441 9 1)]
end TZ3

namespace TZ4
def lk (l : Nat) (s : State) : State := s.setLock l true
def spst (q st : Nat) (s : State) : State := s.wn (spIdx q) 4 st
def g (f : SpayS → SpayS) (s : State) : State := s.setSp 0 (f (s.sp 0))
def ZS : List State := [g ({ · with heard := true }) (lk 17 (lk 16 (spst 0 spTraining cas))),
  { ((spst 0 spUp (lk 19 (lk 18 (lk 17 (lk 16 cas))))).wn (spIdx 0) 5 2).wn (spIdx 0) 6 3 with clock := 10^12 }]
def fZ : List SpWire := [ctl 1 0 0 []]
end TZ4

namespace TZ5
def ZF : List State := [(setB 0x6510 4 3 (setB 0x6510 5 1 up)).wn 0x6800 1 5, setB 0x6510 4 3 (setB 0x6510 5 1 (setB 0x6510 7 0x11 up)), setB 0x6510 5 1 (setB 0x6510 4 3 (setB 0x6510 7 0x11 (setB 0x6800 1 0 (setB 0x6800 2 0 (setB 0x6800 3 0 up)))))]
def fZ : List SpWire := [ctl 1 0 0 [], fr 5 1 0 0 1 0 [1,2]]
end TZ5

namespace TZ6
def setP (p : Nat) (f : PeerS → PeerS) (s : State) : State := sysM (fun y => { y with peers := y.peers.put p (f (s.peer p)) }) s
def pf (s : State) : State := { s with power := { s.power with fail := true } }
def noq : State → State := sysM ({ · with quorum := false, lostAt := some 0 })
def as2 : State := sysM (fun y => { y with peers := [(0, { present := true, joined := true, gen := 1, nbA := some (1, 1), nbB := some (0, 0) }), (1, { present := true, joined := true, gen := 1, nbB := some (1, 0) })] }) (setB 0x6800 0xA 2 cas)
def fen (s : State) : State := (setB 0x6800 0xF 1 (noq (setP 1 ({ · with present := false }) (setP 2 ({ · with present := false }) s)))).wn 0x3512 2 2
def ZK : List State := [as2, noq as2, fen cas].map (fun s => { s with clock := 10^12 })
def fZ : List SpWire := [ctl 1 0 0 []]
end TZ6

namespace TZ9
def onn (st : Nat) (s : State) : State := (s.wn 0x2011 1 1).wn 0x2011 4 st
def tps (s : State) : State := (List.range 8).foldl (fun s k => s.wn (0x1800 + k) 2 1) s
def ZC : List State := [tps (onn nmtPreOperational up), onn nmtPreOperational up, { onn nmtPreOperational up with partReads := [(19, ⟨0x1008, 0, [1,2,3,4], 0⟩)], partWrites := [(19 * 2 ^ 24, ⟨0x2400, 1, [7], 0⟩)]}]
def ww0 : List (List Byte) := [[], [1,2,3,4]]
end TZ9

end Sys2Proof.Tests
end

