-- ==== Sys2Proof/Tests/Slice0.lean ====
section
/-! SUPPORT. Tests of the model: an ill-formed term for each check of WellFormed; values the manual writes out; single steps
on small states; and a state that meets the hypotheses of each clause of each statement. -/

namespace Sys2Proof.Tests

open Sys2Proof.Machine

/-! ### Well-formedness: a term that each check refuses -/

def ok : Req := .mailbox 31
def bad : Req := .mailbox 32
def fr0 : Frame := ⟨true, 64, false, none, 5, 0x0800, none, []⟩
def ip0 : IpInfo := ⟨false, true, false, false, false, false, true, false, true, [10, 0, 0, 1], [10, 0, 0, 2], 1, 2⟩
def sp9 : SpWire := ⟨[List.replicate 9 .bad], 0⟩
def de0 : DescWire := ⟨List.replicate 32 0, []⟩
def de9 : DescWire := ⟨List.replicate 31 0, []⟩
def pk0 : RtpPkt := ⟨0, 2, 96, 1, 1, 1, false, ⟨1, true, true, []⟩, false⟩
def zf0 : ZdpFrame := ⟨0, false, [10, 0, 0, 1], 5, [10, 0, 0, 2], 5, []⟩
def pt0 : PtpMsg := ⟨0, 0, 65536, 0, false, 0, 0, 0, 0, 0, 0, 0, 0, 0, 0, 0, 0, 0, 0, false⟩
def pd0 : PicDesc := ⟨0, false, true, false, [], [], [], [], [1024], [], [], []⟩
def pd1 : PicDesc := ⟨0, false, true, false, [], [], [], [], [], [], [], [(14, 0)]⟩
def ei0 : EncInfo := ⟨[], [], [], List.replicate 17 0, 0, 0, 0⟩

theorem test_wf_requester : [Req.can 2, .zdp 0, .zdp 9, .mailbox 32].all (fun r => !r.wf) = true := by decide

theorem test_wf_requests_without_instance : ([.lvsStatusRead 0 bad, .healthDeclareDead 0 bad, .healthReturnToService 0 bad true,
    .healthClearFaultCount 0 bad, .hostOffsetWrite 0 bad 0, .commitRequest 0 bad [], .commitDiscardStaged 0 bad, .commitCancel 0 bad,
    .boardTableApply 0 bad, .zdpDisable 0 bad, .storeAll 0 bad true, .configExport 0 bad, .configImport 0 bad [],
    .errorHistoryClear 0 bad, .fastReadMapWrite 0 bad [], .changeSetWrite 0 bad [], .systemAdopt 0 bad, .updateOpen 0 bad,
    .updateChunk 0 bad [], .quietCommand 0 bad, .partTransferTimeout 0 bad] : List Instr).all (fun i => !i.wf) = true := by decide

theorem test_wf_requests_with_values : ([.addressSelect 0 ok (2 ^ 32), .receiptSelect 0 ok (2 ^ 32), .recordSelect 0 ok (2 ^ 64),
    .servoSourceWrite 0 ok 256, .setPointRequest 0 ok 256, .checkUnitConfigure 0 ok 256 0, .checkUnitConfigure 0 ok 3 (2 ^ 64),
    .checkRunningValueWrite 0 ok (2 ^ 64), .dictionaryWrite 0 ok 65536 0 [], .counterReadClear 0 ok 0 256, .readPart 0 bad 0 0 0 0,
    .writePart 0 ok 0 256 0 true []] : List Instr).all (fun i => !i.wf) = true := by decide

theorem test_wf_sessions : ([.mappingAgeExpiry 0 160, .reorderWindowExpiry 0 160, .accessUnitRelease 0 160, .rtcpRrSend 0 160,
    .joinTimeout 0 160, .starvationTimeout 0 160, .relayPictureTimeout 0 160, .rtpPacket 0 160 pk0, .rtpPacket 0 0 { pk0 with version := 4 },
    .rtpPacket 0 0 { pk0 with pt := 128 }, .rtpPacket 0 0 { pk0 with ssrc := 2 ^ 32 }, .rtpPacket 0 0 { pk0 with seq := 65536 },
    .rtpPacket 0 0 { pk0 with ts := 2 ^ 32 }, .rtcpPacket 0 0 0 [.sr (2 ^ 32) 0 0 0], .rtcpPacket 0 0 0 [.bye (2 ^ 32)],
    .rtcpPacket 0 160 0 [.other], .pictureComplete 0 0 pd0, .pictureComplete 0 0 pd1, .leaseEnd 0 160 0, .leaseEnd 0 0 4, .sessionOpen 0 ok 160 0,
    .sessionClose 0 bad 0, .sessionRelease 0 ok 160, .sessionResync 0 ok 160, .startWaitRead 0 ok (some 160)] : List Instr).all
      (fun i => !i.wf) = true := by decide

theorem test_wf_screens : ([.layerLatch 0 24, .commitSamplePoint 0 24, .pressComplete 0 24, .frameStart 0 24, .blankingStart 0 24,
    .timingApplyRunning 0 24, .hpdUnplug 0 24, .linkTrainingComplete 0 24 [] none false, .hpdIrq 0 24 0 0, .lvsStripRecheck 0 0 150,
    .stripComposeStart 0 24 0, .stripDrop 0 0 150, .sramUncorrectableError 0 24 0 0 true, .stripWrite 0 0 0 150,
    .lineMatch 0 0 65536, .hpdRise 0 0 ⟨[], true, []⟩, .hpdRise 0 0 ⟨List.replicate 16 0, true, [0]⟩, .timingApply 0 ok 24,
    .dpPrbsGenerator 0 ok 0 256, .readBackCompare 0 256 [], .toneMapApply 0 ok 64] : List Instr).all (fun i => !i.wf) = true := by decide

theorem test_wf_units_and_quads : ([.paceLow 0 6 0, .paceRestored 0 6 0, .unitSoftFault 0 (2 ^ 32), .correctedSramError 0 (2 ^ 32),
    .unitHardFault 0 (2 ^ 32), .retestComplete 0 (2 ^ 32) true, .sparePeriodicTest 0 (2 ^ 32) true, .suspectWindowExpiry 0 (2 ^ 32),
    .staleEpochTransfer 0 0 65536, .quadModeChange 0 ok 4 0, .quadModeChange 0 ok 0 256, .quadLanesUp 0 4,
    .ethernetFrameDiscard 0 16 fr0, .ethernetFrameDiscard 0 0 { fr0 with etherType := 65536 }, .rawFrameToHost 0 0 { fr0 with vid := some 4096 },
    .rawFrameToHost 0 0 { fr0 with len := 0, data := [1] }, .rawFrameToHost 0 0 { fr0 with dst := 2 ^ 48 }, .ethernetFrameDiscard 0 0 { fr0 with ip := some { ip0 with srcPort := 65536 } },
    .ethernetFrameDiscard 0 0 { fr0 with ip := some { ip0 with dstAddr := [] } }, .arpRequest 0 0 (2 ^ 32) [1, 2, 3, 4, 5, 6], .arpRequest 0 0 0 [],
    .icmpEchoRequest 0 0 false [] [], .neighbourSolicitation 0 0 [1], .multicastQuery 0 0 true 4, .ptpMessage 0 0 pt0 [],
    .ptpAnnounceTimeout 0 16, .ptpMasterSend 0 16, .autoNegotiationComplete 0 16, .arpOrNeighbourReply 0 0 [1]] : List Instr).all
      (fun i => !i.wf) = true := by decide

theorem test_wf_time_and_coding : ([.triggerArm 0 ok 16 0, .triggerArm 0 ok 0 256, .triggerDisarm 0 ok 16, .triggerLateRead 0 ok 16,
    .triggerFire 0 16, .triggerPulseEnd 0 16, .captureEdge 0 8 true, .captureRecordRead 0 ok 8, .segmentDispatch 0 ⟨14, []⟩,
    .segmentDispatch 0 ⟨0, [(14, 0)]⟩,
    .encodeStart 0 ok 16 0 0, .encodeStart 0 ok 0 (2 ^ 32) 0, .encodeStart 0 ok 0 0 65536, .encodeStop 0 ok 16, .encodePictureComplete 0 0 ei0,
    .encodePictureComplete 0 16 { ei0 with headers := [] }, .encodePictureComplete 0 0 { ei0 with headers := [], recon := [1024] }, .mirrorPacketSend 0 16, .mirrorSrSend 0 16, .nextHopResolve 0 16,
    .zttMessage 0 (.ring 32 (List.replicate 32 0)) [],
    .zttMessage 0 (.ring 0 []) [], .zttMessage 0 (.udp 16 [] [] 0 0) [], .zttMessage 0 (.udp 0 [] [] 65536 0) [],
    .zttMessageDispatch 0 4,
    .zttMessageApplied 0 4, .blockCompress 0 168 [] true, .compressResume 0 168 0, .decompressResume 0 168 [] 0] : List Instr).all
      (fun i => !i.wf) = true := by decide

theorem test_wf_touch_and_memory : ([.touchFrameStart 0 2, .touchFrameProcessed 0 2 [] 0 0, .touchFrameProcessed 0 0 [4096] 0 0,
    .touchPortEnable 0 ok 2, .touchPortDisable 0 ok 2, .touchCaptureReference 0 ok 2, .touchAcquireBaselines 0 ok 2,
    .touchEraseReferences 0 ok 2, .touchGeometryWrite 0 ok 0 1 0, .touchGeometryWrite 0 ok 0 7 0, .touchGeometryWrite 0 ok 0 2 65536,
    .zoneEnable 0 ok 32, .zoneDisable 0 bad 0, .refreshDue 0 [(8, 0)], .dramTemperaturePoll 0 (List.replicate 9 0),
    .dramTrainingComplete 0 [], .scrubPass 0 (List.replicate 9 0), .dramCorrectedError 0 8, .dramUncorrectableError 0 8 0 [],
    .dramUncorrectableError 0 0 (2 ^ 40) []] : List Instr).all (fun i => !i.wf) = true := by decide

theorem test_wf_lanes_and_spaydun : ([.laneLockGain 0 ⟨36, []⟩, .laneLockGain 0 ⟨0, [(.bad, 10)]⟩, .laneLockLoss 0 ⟨36, []⟩, .prbsCheckerLock 0 ⟨36, []⟩,
    .prbsCheckerLockLoss 0 36 0 0, .laneTestMode 0 ok 36 0, .prbsGenerator 0 ok 0 256, .prbsChecker 0 bad 0 0, .lintSetSend 0 2,
    .elasticError 0 2, .spaydunTrainingTimeout 0 2, .restripeTimeout 0 2, .retransmitTimeout 0 2, .ackOnlySend 0 2, .spaydunFrameSend 0 2,
    .timeMarkSend 0 2, .lintSetReceive 0 0 17, .spaydunPortEnable 0 ok 2, .spaydunPortDisable 0 bad 0, .laneLockHold 0 0 8,
    .restoreHoldExpiry 0 2 0, .trainingSet 0 0 ⟨8, 0, 0, 0, 0⟩, .trainingSet 0 0 ⟨0, 256, 0, 0, 0⟩, .timeMark 0 2 ⟨[], 0⟩,
    .acknowledgement 0 0 sp9, .pixelStrip 0 0 sp9, .streamRelay 0 2 sp9, .presence 0 0 sp9, .stage 0 0 sp9, .arm 0 2 sp9, .abort 0 0 sp9,
    .digestFrame 0 0 sp9] : List Instr).all (fun i => !i.wf) = true := by decide

theorem test_wf_rings_and_can : ([.pcieFunctionReset 0 4, .pcieLinkUp 0 4 1, .pcieLinkUp 0 1 5, .ringEnable 0 32, .ringDisable 0 32,
    .eventBufferTimeout 0 32, .interruptModerationExpiry 0 32, .busError 0 32 none, .doorbell 0 32 0, .writeBackConsumer 0 0 (2 ^ 32),
    .functionEventClear 0 (2 ^ 32), .barRegisterWrite 0 65536 4 0, .barRegisterWrite 0 0 9 0, .barRegisterWrite 0 0 4 (2 ^ 64),
    .rawTransmit 0 32 de0 0, .rawReceiveDescriptor 0 0 de9, .mailboxRequest 0 0 de9,
    .eventBufferDescriptor 0 0 de9, .touchReportDescriptor 0 0 de9,
    .usdoRequest 0 2 (.read 0 0), .usdoRequest 0 0 (.write 65536 0 []), .usdoSegmentTimeout 0 2, .nmtStart 0 2, .canErrorActive 0 2,
    .canErrorPassive 0 0 256 0, .canErrorPassive 0 0 0 256, .canPortEnable 0 ok 2, .canPortDisable 0 bad 0, .tpdoEventTimer 0 8,
    .tpdoChange 0 8] : List Instr).all (fun i => !i.wf) = true := by decide

theorem test_wf_network_and_package : ([.zdpHello 0 { zf0 with port := 16 } (List.replicate 16 0), .zdpHello 0 zf0 [],
    .zdpRequest 0 { zf0 with srcAddr := [] }, .zdpClose 0 { zf0 with srcPort := 65536 }, .zdpIdleTimeout 0 0, .zdpIdleTimeout 0 9,
    .zdpKeyWrite 0 ok 4 [], .eventArbitrate 0 (2 ^ 32), .checkItem 0 48 (.picture none), .checkItem 0 0 (.picture (some 14)), .checkItem 0 0 (.scan [⟨0, 0, 1024, 0, 0⟩]),
    .checkItem 0 0 (.frame sp9), .checkItem 0 0 (.write 65536 0 []), .fastReadSnapshot 0 256, .packageAbsent 0 16,
    .joinGraceExpiry 0 16, .vinGood 0 ⟨256, 0⟩ [], .vinGood 0 ⟨0, 0⟩ [2 ^ 32], .resetRelease 0 ⟨0, 256⟩ [], .thermalTripRelease 0 ⟨256, 0⟩ [],
    .lowerJunctionLimitReached 0 (some ⟨0, 256⟩) [], .romSlotCheckComplete 0 ⟨256, []⟩] : List Instr).all (fun i => !i.wf) = true := by decide

/-! ### Values the manual writes out -/

def digits : List Byte := [0x31, 0x32, 0x33, 0x34, 0x35, 0x36, 0x37, 0x38, 0x39]

/-- Table 16.3's check values. -/
theorem test_check_values : [0, 1, 2, 3].map (fun k => crc k digits) = [0xCBF43926, 0xE3069283, 0x6C40DF5F0B497347, 0x29B1] := by
  decide +kernel

/-- The example of R380: "ABABABA" from an empty dictionary. -/
theorem test_coder_example : let b : List Byte := [0x41, 0x42, 0x41, 0x42, 0x41, 0x42, 0x41]
    fitCodes 6 [] (flushed (b.foldl encByte ⟨[], none, []⟩)) = ([0x20, 0x90, 0xA0, 0x50, 0x48, 0x08], [], [], 0) := by decide +kernel

/-- R477's figures: 63,162 Mbit/s at width 8 and 31,581 at width 4. -/
theorem test_link_capacity : (spCapacity 8 2 1280, spCapacity 4 2 1280) = (63162, 31581) := by decide

/-- R552's example: 0x4604 reads 0xC604. -/
theorem test_layer_word : oddParity 0x4604 = 0xC604 := by decide

/-- R12: 0 is after 0xFFFF, and values half the range apart are neither after nor equal. -/
theorem test_serial_order : (serialAfter 16 0 0xFFFF, serialAfter 16 0x8000 0, serialAfter 16 0x7FFF 0) = (true, false, true) := by
  decide

/-- FIPS 180-4's "abc". -/
theorem test_sha256 : sha256 [0x61, 0x62, 0x63] = beBytes 32 0xBA7816BF8F01CFEA414140DE5DAE2223B00361A396177A9CB410FF61F20015AD := by
  decide +kernel

/-- FIPS 180-4's "abc" under SHA-384 (R589). -/
theorem test_sha384 : sha384 [0x61, 0x62, 0x63] =
    beBytes 48 0xCB00753F45A35E8BB5A03D699AC65007272C32AB0EDED1631A8B605A43FF5BED8086072BA1E7CC2358BAECA134C825A7 := by
  decide +kernel

/-- The examples after Table 19.4: AF54, AF2, C30, T48, BC45 and AE24. -/
theorem test_balls : [ballAt 25 54, ballAt 25 2, ballAt 3 30, ballAt 15 48, ballAt 41 45, ballAt 24 24] =
    [.dpLane 5 0 true, .dpLane 17 0 true, .eth 3 ⟨false, false⟩, .touchSense 0 0, .wake, .vin] := by decide

/-- The example after R207: 2,040 CTUs of which one core takes 546, 8,294,400 samples and 1.333 Mbit take 4.740 ms. -/
theorem test_decode_time : decodeMicros 8294400 1333333 (2040, 546) = 4740 := by decide

/-- R466 at width 2: K27.7 and byte 0, bytes 1 and 2, K29.7 and D5.6. -/
theorem test_frame_columns : frameCols 2 [1, 2, 3] = [[.k277, .d 1], [.d 2, .d 3], [.k297, .d 0xC5]] := by decide

/-- R97's examples. -/
theorem test_strips : (ceilDiv 1080 16, ceilDiv 2400 16) = (68, 150) := by decide

end Sys2Proof.Tests
end

