-- ==== Sys2Proof/Tests/Witness1.lean ====
section
/-! SUPPORT. Witnesses: for every statement with hypotheses, clause by clause, a concrete state and operands that meet them together. -/

namespace Sys2Proof.Tests

open Sys2Proof Sys2Proof.Machine

set_option Elab.async false

/-- The hypotheses of StepRunsTheFrontCommand are met. -/
theorem witness_StepRunsTheFrontCommand :
    ∃ (s : State) (c : Instr) (rest : List Instr), s.pending = c :: rest :=
  ⟨{ up with pending := [.layerLatch 100 3] }, .layerLatch 100 3, [], rfl⟩

/-- The hypotheses of StepNeverStops are met. -/
theorem witness_StepNeverStops :
    ∃ s : State, s.pending = [] :=
  ⟨up, rfl⟩

/-- The hypotheses of StepKeepsQueueAndClock are met. -/
theorem witness_StepKeepsQueueAndClock :
    ∃ (s s' : State) (c : Instr) (rest : List Instr), s.pending = c :: rest ∧ step s = .next s' :=
  ⟨{ up with pending := [.layerLatch 100 3] }, _, .layerLatch 100 3, [], rfl, rfl⟩

/-- The hypotheses of StepKeepsOneTimeValues are met. -/
theorem witness_StepKeepsOneTimeValues :
    ∃ (s s' : State) (k : ℕ), step s = .next s' ∧ s.otp.revoked.testBit k = true :=
  ⟨{ up with otp := { up.otp with revoked := 2 ^ 31 }, pending := [.layerLatch 100 3] }, _, 31, rfl, by decide +kernel⟩

/-- The hypotheses of StepKeepsTimeValueLegal are met. -/
theorem witness_StepKeepsTimeValueLegal :
    ∃ s s' : State, s.time.ok = true ∧ step s = .next s' :=
  ⟨{ up with pending := [.layerLatch 100 3] }, _, by decide +kernel, rfl⟩

/-- The hypotheses of DecoderUndoesEncoder are met. -/
theorem witness_DecoderUndoesEncoder :
    ∃ (primer : List Byte) (input : List Byte), ((List.foldl encByte { learnt := primed primer, cur := none, codes := [] } input).cur = none ∨ dictFull (List.foldl encByte { learnt := primed primer, cur := none, codes := [] } input).learnt = true ∨ codeWidth (topEntry (List.foldl encByte { learnt := primed primer, cur := none, codes := [] } input).learnt + 1) = codeWidth (topEntry (List.foldl encByte { learnt := primed primer, cur := none, codes := [] } input).learnt)) :=
  ⟨[], [], by decide +kernel⟩

/-- The hypotheses of SerialOrderIsTheManuals are met. -/
theorem witness_SerialOrderIsTheManuals :
    ∃ (n a b : ℕ), 1 ≤ n ∧ ((a : ℤ) - b) % 2 ^ n = 2 ^ (n - 1) :=
  ⟨1, 1, 2, by decide +kernel⟩

/-- The hypotheses of SaturatingCountersSaturate are met. -/
theorem witness_SaturatingCountersSaturate :
    (∃ (s : State) (k idx sub n : ℕ) (o : Obj), findObj idx sub = some o ∧ s.rn idx sub ≤ o.ty.maxNat ∧ s.rn idx sub + n < o.ty.maxNat) ∧
    (∃ (s : State) (k idx sub n : ℕ) (o : Obj), findObj idx sub = some o ∧ s.rn idx sub ≤ o.ty.maxNat ∧ s.rn idx sub = o.ty.maxNat) ∧
    (∃ (s : State) (k idx sub n : ℕ) (o : Obj), findObj idx sub = some o ∧ s.rn idx sub ≤ o.ty.maxNat ∧ s.rn idx sub < o.ty.maxNat ∧ o.ty.maxNat ≤ s.rn idx sub + n ∧ key idx sub ≠ key 0x2200 5 ∧
      (s.log.queues.at' k []).length < 16) :=
  ⟨⟨up, 0, 0x2500, 8, 65534, (findObj 0x2500 8).get (by decide +kernel), by decide +kernel⟩,
   ⟨up.wn 0x2500 8 65535, 0, 0x2500, 8, 1, (findObj 0x2500 8).get (by decide +kernel), by decide +kernel⟩,
   ⟨up.wn 0x2500 8 65534, 0, 0x2500, 8, 1, (findObj 0x2500 8).get (by decide +kernel), by decide +kernel⟩⟩

/-- The hypotheses of ValueImagesReadBack are met. -/
theorem witness_ValueImagesReadBack :
    ∃ (ty : Ty) (n : ℕ) (v : ℤ), ty.isNum = true ∧ ty.size = some n ∧ 1 ≤ n ∧ (if ty.signed = true then -↑(2 ^ (8 * n - 1)) ≤ v ∧ v < ↑(2 ^ (8 * n - 1)) else 0 ≤ v ∧ v < ↑(2 ^ (8 * n))) :=
  ⟨Sys2Proof.Machine.Ty.u8, 1, 0, by decide +kernel⟩

/-- The hypotheses of EventQueuesHoldSixteen are met. -/
theorem witness_EventQueuesHoldSixteen :
    (∃ (s : State) (j : ℕ), (s.log.queues.at' j []).length ≤ 16) ∧
    (∃ (s : State) (k : ℕ), 16 ≤ (s.log.queues.at' k []).length) :=
  ⟨⟨(stateAt T01.ww3 0), 5, by decide +kernel⟩,
   ⟨(stateAt T01.ww3 1), 5, by decide +kernel⟩⟩

/-- The hypotheses of RefusedWriteChangesNothing are met. -/
theorem witness_RefusedWriteChangesNothing :
    (∃ (r : Req) (idx : ℕ) (sub : ℕ) (data : List Byte) (s : State) (code : ℕ), s.checkWrite r idx sub data = Except.error code) ∧
    (∃ (r : Req) (idx : ℕ) (sub : ℕ) (data : List Byte) (s : State), (s.writeBy r idx sub data).2 ≠ 0 ∧ answeredFirst idx sub = false ∧ (idx < 18432 ∨ 18456 ≤ idx ∨ sub ≠ 19) ∧ (idx ≠ 8193 ∨ sub ≠ 2) ∧ (idx ≠ 26624 ∨ sub ≠ 13)) :=
  ⟨⟨Sys2Proof.Req.mailbox 3, 0, 0, [], (stateAt T01.ww4 0), 1, by decide +kernel⟩,
   ⟨Sys2Proof.Req.mailbox 3, 0, 0, [], (stateAt T01.ww4 0), by decide +kernel⟩⟩

/-- The hypotheses of PlainWritesAndReadClears are met. -/
theorem witness_PlainWritesAndReadClears :
    (∃ (s : State) (r : Req) (v : ℕ), s.takes r = true ∧ 100 ≤ v ∧ v ≤ 60000) ∧
    (∃ (s : State) (r : Req) (v : ℕ), s.takes r = true ∧ v < 65536 ∧ (v < 100 ∨ 60000 < v)) ∧
    (∃ (s : State) (r : Req) (idx : ℕ) (sub : ℕ) (o : Obj) (v : Val) (data : List Byte), s.takes r = true ∧ findObj idx sub = some o ∧ o.sat = false ∧ o.acc = Acc.rw ∧ decodeVal o.ty data = some v ∧ sizeOk o data.length = true ∧ o.ty.valOk v = true ∧ o.chk.ok v = true ∧ (4100 ≤ idx ∧ idx < 4112 ∨ 4114 ≤ idx ∧ idx < 6656 ∨ 10304 ≤ idx ∧ idx < 10312 ∧ sub ≠ 2 ∨ 13344 ≤ idx ∧ idx < 13584 ∨ 18432 ≤ idx ∧ idx < 20480 ∧ sub ≠ 19 ∨ 24592 < idx ∧ idx < 25600 ∨ 25664 ≤ idx ∧ idx < 25688 ∧ sub ≠ 1 ∧ sub ≠ 11)) ∧
    (∃ (s : State) (r : Req) (idx : ℕ) (sub : ℕ) (o : Obj), s.takes r = true ∧ findObj idx sub = some o ∧ o.sat = true ∧ s.portRefuses idx = false ∧ idx ≠ 8448 ∧ idx ≠ 8960 ∧ idx ≠ 9472) :=
  ⟨⟨(stateAt T02p.S02 0), Sys2Proof.Req.mailbox 3, 30000, by decide +kernel⟩,
   ⟨(stateAt T02p.S02 0), Sys2Proof.Req.mailbox 3, 0, by decide +kernel⟩,
   ⟨(stateAt T02p.S02 0), Sys2Proof.Req.mailbox 3, 4119, 0, ({ base := 4119, count := 1, lo := 0, hi := 0, ty := Sys2Proof.Machine.Ty.u16, acc := Sys2Proof.Machine.Acc.rw, stored := true, cfg := true, sat := false, dflt := Sys2Proof.Val.num 100, chk := Sys2Proof.Machine.Chk.any } : Obj), Sys2Proof.Val.num 0, [0x00#8, 0x00#8], by decide +kernel⟩,
   ⟨(stateAt T02p.S02 0), Sys2Proof.Req.mailbox 3, 8704, 5, ({ base := 8704, count := 1, lo := 5, hi := 5, ty := Sys2Proof.Machine.Ty.u32, acc := Sys2Proof.Machine.Acc.ro, stored := false, cfg := false, sat := true, dflt := Sys2Proof.Val.num 0, chk := Sys2Proof.Machine.Chk.any } : Obj), by decide +kernel⟩⟩

/-- The hypotheses of LiveChecksFollowTheScan are met. -/
theorem witness_LiveChecksFollowTheScan :
    (∃ (s : State) (t : ℕ) (n : ℕ) (v : ℕ × ℕ × ℕ) (m : ℕ), ((s.tick t).ses n).sr = some v ∧ v.2.2 + (s.tick t).rn 20480 6 * sTicks < (s.tick t).clock ∧ m ≠ n) ∧
    (∃ (s : State) (x : ℕ) (y : ℕ), (s.screen x).run = true ∧ (s.screen x).latched = false ∧ s.member x = false ∧ x < 24 ∧ s.unavailable x = false ∧ s.restarting (x / 12) Proc.cmp = false ∧ s.idleSpare = false ∧ s.layersOn x = [] ∧ s.commits = [] ∧ y ≠ x) ∧
    (∃ (s : State) (x : ℕ), (s.screen x).latched = true) ∧
    (∃ (s : State) (x : ℕ) (e : ℕ × ℕ × ℕ), (s.screen x).run = true ∧ (s.screen x).service = false ∧ s.lvsStopped (x / 12) = false ∧ s.screenFence x = none ∧ e ∈ (s.screen x).crease) ∧
    (∃ (s : State) (x : ℕ) (k : ℕ) (g : Segm), (s.screen x).run = true ∧ (s.screen x).service = false ∧ s.lvsStopped (x / 12) = false ∧ s.screenFence x = none ∧ g ∈ ((s.screen x).ledger.at' k { }).segs ∧ g.state = 1) ∧
    (∃ (s : State) (x : ℕ) (y : ℕ), (s.screen x).run = true ∧ (s.screen x).service = false ∧ s.lvsStopped (x / 12) = false ∧ s.screenFence x = none ∧ y ≠ x) ∧
    (∃ (s : State) (n : ℕ) (wrong : List LinkPx) (x : ℕ), x = s.fn (lIdx n) 2 ∧ s.layerOn n = true ∧ (s.layer n).hidden = false ∧ (s.layer n).compared = false ∧ s.gone (lvsUnit x) = false ∧ s.stitchSegs x n ≠ [] ∧ s.platesPassed x (s.stitchSegs x n) = true ∧ s.platesAltered x (s.stitchSegs x n) = false ∧ (∀ g ∈ s.stitchSegs x n, ∃ p, g.plate = some p ∧ marksValue (s.readMarks x p wrong) = some g.stitchVal)) ∧
    (∃ (s : State) (n : ℕ) (wrong : List LinkPx) (x : ℕ), x = s.fn (lIdx n) 2 ∧ s.layerOn n = true ∧ (s.layer n).hidden = false ∧ (s.layer n).compared = false ∧ s.gone (lvsUnit x) = false ∧ s.stitchSegs x n ≠ [] ∧ s.platesPassed x (s.stitchSegs x n) = true ∧ s.platesAltered x (s.stitchSegs x n) = false ∧ (∃ g ∈ s.stitchSegs x n, ∀ (p : ℤ × ℤ), g.plate = some p → marksValue (s.readMarks x p wrong) ≠ some g.stitchVal)) :=
  ⟨⟨(stateAt T02.S02 1), 5000000000, 5, (1, 2, 3), 0, by decide +kernel⟩,
   ⟨(stateAt T02.S02 0), 0, 1, by decide +kernel⟩,
   ⟨(stateAt T02.S02 4), 3, by decide +kernel⟩,
   ⟨(stateAt T02c.SR 0), 3, (1, 2, 3), by decide +kernel⟩,
   ⟨(stateAt T02.S02 3), 3, 0, ({ xs := 0, xe := 0, slot := 3, state := 1, stitch := true, pressed := false, taint := false, stitchVal := 9, cap := some 5, budget := 1, members := [], plate := none } : Segm), by decide +kernel⟩,
   ⟨(stateAt T02.S02 3), 3, 0, by decide +kernel⟩,
   ⟨(stateAt T02c.SR 0), 3, [], 3, by decide +kernel⟩,
   ⟨(stateAt T02c.SR 1), 3, [], 3, by decide +kernel⟩⟩

/-- The hypotheses of LayersAreJudgedAtTheLatch are met. -/
theorem witness_LayersAreJudgedAtTheLatch :
    (∃ (s : State) (x : ℕ) (n : ℕ) (y : ℕ), (s.screen x).run = true ∧ (s.screen x).latched = false ∧ (s.screen x).implicit = true ∧ s.member x = false ∧ x < 24 ∧ s.unavailable x = false ∧ s.restarting (x / 12) Proc.cmp = false ∧ s.idleSpare = false ∧ s.commits = [] ∧ s.layersOn x = [n] ∧ y ≠ x) ∧
    (∃ (s : State) (x : ℕ) (n : ℕ), (s.screen x).run = true ∧ (s.screen x).latched = false ∧ (s.screen x).implicit = true ∧ s.member x = false ∧ x < 24 ∧ s.unavailable x = false ∧ s.restarting (x / 12) Proc.cmp = false ∧ s.idleSpare = false ∧ s.commits = [] ∧ s.layersOn x = [n] ∧ s.isFenced n = true) ∧
    (∃ (s : State) (x : ℕ) (n : ℕ), (s.screen x).run = true ∧ (s.screen x).latched = false ∧ (s.screen x).implicit = true ∧ s.member x = false ∧ x < 24 ∧ s.unavailable x = false ∧ s.restarting (x / 12) Proc.cmp = false ∧ s.idleSpare = false ∧ s.commits = [] ∧ s.layersOn x = [n] ∧ s.isFenced n = false ∧ (s.fn (lIdx n) 3 = 255 ∨ s.sst (s.fn (lIdx n) 3) ≠ sessAcquiring ∧ s.sst (s.fn (lIdx n) 3) ≠ sessRunning)) ∧
    (∃ (s : State) (x : ℕ) (n : ℕ), (s.screen x).run = true ∧ (s.screen x).latched = false ∧ (s.screen x).implicit = true ∧ s.member x = false ∧ x < 24 ∧ s.unavailable x = false ∧ s.restarting (x / 12) Proc.cmp = false ∧ s.idleSpare = false ∧ s.commits = [] ∧ s.layersOn x = [n] ∧ s.isFenced n = false ∧ (¬(s.fn (lIdx n) 3 = 255 ∨ s.sst (s.fn (lIdx n) 3) ≠ sessAcquiring ∧ s.sst (s.fn (lIdx n) 3) ≠ sessRunning)) ∧ s.fn (lIdx n) 3 < 160 ∧ s.relayShed (s.fn (lIdx n) 3) = false ∧ ((s.layer n).first = true ∨ s.rn (lIdx n) 44 = 7)) ∧
    (∃ (s : State) (x : ℕ) (n : ℕ), (s.screen x).run = true ∧ (s.screen x).latched = false ∧ (s.screen x).implicit = true ∧ s.member x = false ∧ x < 24 ∧ s.unavailable x = false ∧ s.restarting (x / 12) Proc.cmp = false ∧ s.idleSpare = false ∧ s.commits = [] ∧ s.layersOn x = [n] ∧ s.isFenced n = false ∧ (¬(s.fn (lIdx n) 3 = 255 ∨ s.sst (s.fn (lIdx n) 3) ≠ sessAcquiring ∧ s.sst (s.fn (lIdx n) 3) ≠ sessRunning)) ∧ s.fn (lIdx n) 3 < 160 ∧ s.relayShed (s.fn (lIdx n) 3) = false ∧ (s.layer n).first = false ∧ s.rn (lIdx n) 44 ≠ 7 ∧ s.lockedFor (x / 12) = false) ∧
    (∃ (s : State) (x : ℕ) (n : ℕ), (s.screen x).run = true ∧ (s.screen x).latched = false ∧ (s.screen x).implicit = true ∧ s.member x = false ∧ x < 24 ∧ s.unavailable x = false ∧ s.restarting (x / 12) Proc.cmp = false ∧ s.idleSpare = false ∧ s.commits = [] ∧ s.layersOn x = [n] ∧ s.isFenced n = false ∧ (¬(s.fn (lIdx n) 3 = 255 ∨ s.sst (s.fn (lIdx n) 3) ≠ sessAcquiring ∧ s.sst (s.fn (lIdx n) 3) ≠ sessRunning)) ∧ s.fn (lIdx n) 3 < 160 ∧ s.relayShed (s.fn (lIdx n) 3) = false ∧ (s.layer n).first = false ∧ s.rn (lIdx n) 44 ≠ 7 ∧ s.lockedFor (x / 12) = true ∧ s.lvsStopped (x / 12) = true) ∧
    (∃ (s : State) (x : ℕ) (n : ℕ) (st : ℕ), (s.screen x).run = true ∧ (s.screen x).latched = false ∧ (s.screen x).implicit = true ∧ s.member x = false ∧ x < 24 ∧ s.unavailable x = false ∧ s.restarting (x / 12) Proc.cmp = false ∧ s.idleSpare = false ∧ s.commits = [] ∧ s.layersOn x = [n] ∧ st ≠ s.rn (lIdx n) 44) ∧
    (∃ (s : State) (x : ℕ) (n : ℕ), (s.screen x).run = true ∧ (s.screen x).latched = false ∧ (s.screen x).implicit = true ∧ s.member x = false ∧ x < 24 ∧ s.unavailable x = false ∧ s.restarting (x / 12) Proc.cmp = false ∧ s.idleSpare = false ∧ s.commits = [] ∧ s.layersOn x = [n] ∧ s.packageFenced = false) :=
  ⟨⟨(stateAt T02q.S02 0), 3, 5, 0, by decide +kernel⟩,
   ⟨(stateAt T02q.S02 6), 3, 5, by decide +kernel⟩,
   ⟨(stateAt T02q.S02 0), 3, 5, by decide +kernel⟩,
   ⟨(stateAt T02q.S02 13), 3, 5, by decide +kernel⟩,
   ⟨(stateAt T02q.S02 12), 3, 5, by decide +kernel⟩,
   ⟨(stateAt T02q.S02 93), 3, 5, by decide +kernel⟩,
   ⟨(stateAt T02q.S02 0), 3, 5, 6, by decide +kernel⟩,
   ⟨(stateAt T02q.S02 0), 3, 5, by decide +kernel⟩⟩

/-- The hypotheses of LvsFaultsStopAndResume are met. -/
theorem witness_LvsFaultsStopAndResume :
    (∃ (s : State) (d : Die) (k : ℕ), s.lvsStopped d.idx = false ∧ k ≠ lvsKey d.idx) ∧
    (∃ (s : State) (d : Die), s.lvsStopped d.idx = true ∧ d.idx ∈ s.lvsTest) ∧
    (∃ (s : State) (d : Die), s.lvsStopped d.idx = true ∧ s.due (s.lvsTestAt.look d.idx) sTicks = true) ∧
    (∃ (s : State) (d : Die), (s.lvsStopped d.idx = false ∨ s.due (s.lvsTestAt.look d.idx) sTicks = false)) ∧
    (∃ (s : State) (r : Req), s.answers r = true) :=
  ⟨⟨(stateAt T02b.ww0 0), Sys2Proof.Die.e, 0, by decide +kernel⟩,
   ⟨(stateAt T02b.ww0 1), Sys2Proof.Die.e, by decide +kernel⟩,
   ⟨(stateAt T02b.ww0 12), Sys2Proof.Die.e, by decide +kernel⟩,
   ⟨(stateAt T02b.ww0 0), Sys2Proof.Die.e, by decide +kernel⟩,
   ⟨(stateAt T02b.ww0 0), Sys2Proof.Req.mailbox 3, by decide +kernel⟩⟩

/-- The hypotheses of DiesWatchEachOther are met. -/
theorem witness_DiesWatchEachOther :
    (∃ (s : State) (d : Die), s.dieLost d.idx = false ∧ s.link.lost = false ∧ (s.power.phase = Phase.booting ∨ s.power.phase = Phase.running)) ∧
    (∃ (s : State) (t : ℕ) (d : Die), (s.tick t).link.lost = false ∧ (s.tick t).dieLost d.idx = false ∧ (s.tick t).link.lostDie = none ∧ ((match d with | Die.e => (s.tick t).link.hbW | Die.w => (s.tick t).link.hbE) + msTicks ≤ (s.tick t).clock)) ∧
    (∃ (s : State) (d : Die), (s.clock < (match d with | Die.e => s.link.hbW | Die.w => s.link.hbE) + msTicks)) ∧
    (∃ (s : State) (x : ℕ), s.link.lost = false ∧ s.link.lostDie = none ∧ s.link.fails.at' x 0 < 2 ∧ ((List.filter (fun a => decide (s.clock < a + sTicks)) s.link.soft).length < 16) ∧ s.link.fails.at' x 0 = 1) ∧
    (∃ (s : State) (x : ℕ), s.link.lost = false ∧ s.link.lostDie = none ∧ 2 ≤ s.link.fails.at' x 0) ∧
    (∃ (s : State) (drift : ℤ) (w : ℤ) (d : ℕ), s.link.lost = false ∧ s.dieLost 0 = false ∧ s.dieLost 1 = false ∧ w = ↑(s.nowAt 1) + drift ∧ 0 ≤ w ∧ d = (w - ↑(s.nowAt 0)).natAbs ∧ 10 < d) ∧
    (∃ (s : State) (drift : ℤ) (w : ℤ) (d : ℕ), s.link.lost = false ∧ s.dieLost 0 = false ∧ s.dieLost 1 = false ∧ w = ↑(s.nowAt 1) + drift ∧ 0 ≤ w ∧ d = (w - ↑(s.nowAt 0)).natAbs ∧ d ≤ 10) ∧
    (∃ (s : State), s.link.reloading = true) ∧
    (∃ (s : State), s.link.reloading = false) :=
  ⟨⟨(stateAt T02b.SD 0), Sys2Proof.Die.e, by decide +kernel⟩,
   ⟨(stateAt T02b.SD 0), 400000, Sys2Proof.Die.e, by decide +kernel⟩,
   ⟨(stateAt T02b.SD 0), Sys2Proof.Die.e, by decide +kernel⟩,
   ⟨(stateAt T02b.SD 4), 4, by decide +kernel⟩,
   ⟨(stateAt T02b.SD 4), 5, by decide +kernel⟩,
   ⟨(stateAt T02b.SD 0), 11, 11, 11, by decide +kernel⟩,
   ⟨(stateAt T02b.SD 0), 0, 0, 0, by decide +kernel⟩,
   ⟨(stateAt T02b.SD 3), by decide +kernel⟩,
   ⟨(stateAt T02b.SD 0), by decide +kernel⟩⟩

/-- The hypotheses of ProcessorsRestartAndPace are met. -/
theorem witness_ProcessorsRestartAndPace :
    (∃ (s : State) (p : Proc) (d : Die), p ≠ Proc.sys ∧ s.gone (procKey d.idx p) = false ∧ s.dieLost d.idx = false ∧ s.restarting d.idx p = false ∧ ((List.filter (fun a => decide (s.clock < a + 600 * sTicks)) (s.procs.at' (procKey d.idx p) { }).restarts ++ [s.clock]).length < 3)) ∧
    (∃ (s : State) (p : Proc) (d : Die), p ≠ Proc.sys ∧ s.gone (procKey d.idx p) = false ∧ s.dieLost d.idx = false ∧ s.restarting d.idx p = false ∧ (3 ≤ (List.filter (fun a => decide (s.clock < a + 600 * sTicks)) (s.procs.at' (procKey d.idx p) { }).restarts ++ [s.clock]).length)) ∧
    (∃ (s : State) (d : Die), s.gone (procKey d.idx Proc.sys) = false ∧ s.dieLost d.idx = false ∧ s.restarting d.idx Proc.sys = false ∧ s.gone (procKey d.other.idx Proc.sys) = false ∧ s.dieLost d.other.idx = false ∧ s.restarting d.other.idx Proc.sys = false ∧ ((List.filter (fun a => decide (s.clock < a + 600 * sTicks)) (s.procs.at' (procKey d.idx Proc.sys) { }).restarts ++ [s.clock]).length < 3)) ∧
    (∃ (s : State) (d : Die), s.gone (procKey d.idx Proc.sys) = false ∧ s.dieLost d.idx = false ∧ s.restarting d.idx Proc.sys = false ∧ s.gone (procKey d.other.idx Proc.sys) = false ∧ s.dieLost d.other.idx = false ∧ s.restarting d.other.idx Proc.sys = false ∧ (3 ≤ (List.filter (fun a => decide (s.clock < a + 600 * sTicks)) (s.procs.at' (procKey d.idx Proc.sys) { }).restarts ++ [s.clock]).length)) ∧
    (∃ (s : State) (d : Die), s.gone (procKey d.idx Proc.sys) = false ∧ s.dieLost d.idx = false ∧ s.restarting d.idx Proc.sys = false ∧ s.gone (procKey d.other.idx Proc.sys) = false ∧ s.dieLost d.other.idx = false ∧ s.restarting d.other.idx Proc.sys = false ∧ s.primary = d) ∧
    (∃ (s : State) (p : Proc) (d : Die), s.restarting d.idx p = true ∧ p ≠ Proc.tch) ∧
    (∃ (s : State) (g : ℕ) (pace : ℕ), g < 6 ∧ pace < 1000 ∧ s.declared.contains (regionAddr (g / 3) (g % 3)) = false ∧ bit (s.rn 8448 24) g = false) ∧
    (∃ (s : State) (g : ℕ) (pace : ℕ), g < 6 ∧ pace < 1000 ∧ s.declared.contains (regionAddr (g / 3) (g % 3)) = false ∧ bit (s.rn 8448 24) g = true) ∧
    (∃ (s : State) (g : ℕ) (pace : ℕ), g < 6 ∧ 1000 ≤ pace ∧ s.declared.contains (regionAddr (g / 3) (g % 3)) = false ∧ bit (s.rn 8448 24) g = true) :=
  ⟨⟨(stateAt T02b.SP 0), Sys2Proof.Proc.net, Sys2Proof.Die.e, by decide +kernel⟩,
   ⟨(stateAt T02b.SP 1), Sys2Proof.Proc.net, Sys2Proof.Die.e, by decide +kernel⟩,
   ⟨(stateAt T02b.SP 0), Sys2Proof.Die.e, by decide +kernel⟩,
   ⟨(stateAt T02b.SP 1), Sys2Proof.Die.e, by decide +kernel⟩,
   ⟨(stateAt T02b.SP 0), Sys2Proof.Die.e, by decide +kernel⟩,
   ⟨(stateAt T02b.SP 1), Sys2Proof.Proc.med, Sys2Proof.Die.w, by decide +kernel⟩,
   ⟨(stateAt T02b.SP 0), 0, 0, by decide +kernel⟩,
   ⟨(stateAt T02b.SP 4), 0, 0, by decide +kernel⟩,
   ⟨(stateAt T02b.SP 4), 0, 1000, by decide +kernel⟩⟩

/-- The hypotheses of UnitFaultsFollowTheTable are met. -/
theorem witness_UnitFaultsFollowTheTable :
    (∃ (s : State) (addr : ℕ) (k : ℕ), unitOf addr = some k ∧ isLvs k = false ∧ s.gone k = false ∧ (s.unit k).window = none ∧ (s.unit k).faults ≤ 65535) ∧
    (∃ (s : State) (addr : ℕ) (k : ℕ) (j : ℕ), unitOf addr = some k ∧ isLvs k = false ∧ s.gone k = false ∧ (s.unit k).window = none ∧ j ≠ k) ∧
    (∃ (s : State) (addr : ℕ) (k : ℕ) (w : ℕ), unitOf addr = some k ∧ isLvs k = false ∧ s.gone k = false ∧ (s.unit k).window = some w ∧ s.clock < w) ∧
    (∃ (s : State) (addr : ℕ) (k : ℕ), unitOf addr = some k ∧ isLvs k = true ∧ s.lvsStopped (keyDie k) = false) ∧
    (∃ (s : State) (addr : ℕ) (k : ℕ) (l : List ℕ), unitOf addr = some k ∧ (l = List.filter (fun a => decide (s.clock < a + sTicks)) (s.unit k).sram) ∧ s.gone k = false ∧ l.length < 16) ∧
    (∃ (s : State) (addr : ℕ) (k : ℕ) (l : List ℕ), unitOf addr = some k ∧ (l = List.filter (fun a => decide (s.clock < a + sTicks)) (s.unit k).sram) ∧ s.gone k = false ∧ 16 ≤ l.length ∧ isLvs k = false ∧ (s.unit k).window = none) ∧
    (∃ (s : State) (addr : ℕ) (k : ℕ) (j : ℕ), unitOf addr = some k ∧ isLvs k = false ∧ (s.unit k).st = 1 ∧ j ≠ k) ∧
    (∃ (s : State) (addr : ℕ) (k : ℕ) (e : ℕ), unitOf addr = some k ∧ e ≠ (s.unit k).epoch ∧ (s.unit k).st = 2) ∧
    (∃ (s : State) (addr : ℕ) (k : ℕ) (e : ℕ), unitOf addr = some k ∧ e ≠ (s.unit k).epoch ∧ (s.unit k).st = 5) ∧
    (∃ (s : State) (addr : ℕ) (k : ℕ) (e : ℕ), unitOf addr = some k ∧ e ≠ (s.unit k).epoch ∧ s.gone k = false ∧ isLvs k = false) ∧
    (∃ (s : State) (addr : ℕ) (k : ℕ), unitOf addr = some k ∧ (s.unit k).st = 3 ∧ isLvs k = false) ∧
    (∃ (s : State) (t : ℕ) (addr : ℕ) (k : ℕ) (w : ℕ) (j : ℕ), unitOf addr = some k ∧ ((s.tick t).unit k).window = some w ∧ w ≤ (s.tick t).clock ∧ j ≠ k) :=
  ⟨⟨(stateAt T03.SU 0), 7, 7, by decide +kernel⟩,
   ⟨(stateAt T03.SU 0), 7, 7, 1544, by decide +kernel⟩,
   ⟨(stateAt T03.SU 5), 7, 7, 50, by decide +kernel⟩,
   ⟨(stateAt T03.SU 0), 1544, 1544, by decide +kernel⟩,
   ⟨(stateAt T03.SU 0), 7, 7, [], by decide +kernel⟩,
   ⟨(stateAt T03.SU 7), 7, 7, (List.replicate 16 3), by decide +kernel⟩,
   ⟨(stateAt T03.SU 1), 7, 7, 1544, by decide +kernel⟩,
   ⟨(stateAt T03.SU 2), 7, 7, 1544, by decide +kernel⟩,
   ⟨(stateAt T03.SU 4), 7, 7, 1544, by decide +kernel⟩,
   ⟨(stateAt T03.SU 0), 7, 7, 7, by decide +kernel⟩,
   ⟨(stateAt T03.SU 3), 7, 7, by decide +kernel⟩,
   ⟨(stateAt T03.SU 5), 1544, 7, 7, 50, 1544, by decide +kernel⟩⟩

/-- The hypotheses of HealthCommandsActOnTheSelectedUnit are met. -/
theorem witness_HealthCommandsActOnTheSelectedUnit :
    (∃ (s : State) (r : Req) (addr : ℕ), s.takes r = true ∧ addr < 2 ^ 32 ∧ addrOk addr = true ∧ (Addr.ofNat addr).pkg = s.pkgId ∧ (Addr.ofNat addr).level = 0) ∧
    (∃ (s : State) (r : Req) (addr : ℕ), s.takes r = true ∧ addr < 2 ^ 32 ∧ (addrOk addr = false ∨ (Addr.ofNat addr).pkg ≠ s.pkgId)) ∧
    (∃ (s : State) (r : Req) (k : ℕ), s.takes r = true ∧ unitOf s.selected = some k ∧ isLvs k = false ∧ k ≠ procKey (keyDie k) Proc.sys ∧ k ≠ arbiterKey (keyDie k) ∧ s.gone k = false) ∧
    (∃ (s : State) (r : Req) (k : ℕ), s.takes r = true ∧ unitOf s.selected = some k ∧ (isLvs k = true ∨ k = procKey (keyDie k) Proc.sys ∨ k = arbiterKey (keyDie k) ∨ s.gone k = true)) ∧
    (∃ (s : State) (r : Req) (k : ℕ), s.takes r = true ∧ unitOf s.selected = some k ∧ s.gone k = true ∧ (s.unit k).adv < 1024 ∧ s.wholeDown k = false) ∧
    (∃ (s : State) (r : Req) (k : ℕ) (j : ℕ), s.takes r = true ∧ unitOf s.selected = some k ∧ j ≠ k) ∧
    (∃ (s : State) (r : Req), s.takes r = true ∧ unitOf s.selected = none) :=
  ⟨⟨(stateAt T03.SH 0), Sys2Proof.Req.mailbox 3, 0, by decide +kernel⟩,
   ⟨(stateAt T03.SH 0), Sys2Proof.Req.mailbox 3, 1, by decide +kernel⟩,
   ⟨(stateAt T03.SH 0), Sys2Proof.Req.mailbox 3, 7, by decide +kernel⟩,
   ⟨(stateAt T03.SH 1), Sys2Proof.Req.mailbox 3, 1544, by decide +kernel⟩,
   ⟨(stateAt T03b.SH 2), Sys2Proof.Req.mailbox 3, 7, by decide +kernel⟩,
   ⟨(stateAt T03.SH 0), Sys2Proof.Req.mailbox 3, 7, 0, by decide +kernel⟩,
   ⟨(stateAt T03.SH 36), Sys2Proof.Req.mailbox 3, by decide +kernel⟩⟩

/-- The hypotheses of HealthCommandsKeepTheKeepers are met. -/
theorem witness_HealthCommandsKeepTheKeepers :
    (∃ (s : State) (r : Req) (k : ℕ), unitOf s.selected = some k ∧ (k = procKey (keyDie k) Proc.sys ∨ isLvs k = true ∨ k = arbiterKey (keyDie k)) ∧ Instr.healthDeclareDead 0 r ∈ [Instr.healthDeclareDead 0 r, Instr.dictionaryWrite 0 r 8448 10 [1]]) ∧
    (∃ (s : State) (r : Req) (k : ℕ), unitOf s.selected = some k ∧ (k = procKey (keyDie k) Proc.sys ∨ isLvs k = true ∨ k = arbiterKey (keyDie k)) ∧ Instr.dictionaryWrite 0 r 8448 10 [1] ∈ [Instr.healthDeclareDead 0 r, Instr.dictionaryWrite 0 r 8448 10 [1]]) :=
  ⟨⟨(stateAt T03.SH 1), Sys2Proof.Req.mailbox 3, 1544, by decide +kernel⟩,
   ⟨(stateAt T03.SH 1), Sys2Proof.Req.mailbox 3, 1544, by decide +kernel⟩⟩

/-- The hypotheses of EthernetPortsAndFrames are met. -/
theorem witness_EthernetPortsAndFrames :
    (∃ (s : State) (r : Req) (q : ℕ) (mode : ℕ), s.takes r = true ∧ q < 4 ∧ mode < 4 ∧ s.quadMode q = mode) ∧
    (∃ (s : State) (r : Req) (q : ℕ) (mode : ℕ) (j : ℕ), s.takes r = true ∧ q < 4 ∧ mode < 4 ∧ s.quadMode q ≠ mode ∧ j < 4) ∧
    (∃ (s : State) (q : ℕ) (j : ℕ), q < 4 ∧ j < 4 ∧ s.inTest (4 * q + j) = false) ∧
    (∃ (s : State) (q : ℕ) (j : ℕ), q < 4 ∧ j < 4 ∧ s.portExists (4 * q + j) = false) ∧
    (∃ (s : State) (p : ℕ) (f : Frame) (sub : ℕ), s.portHears p = true ∧ p < 16 ∧ s.frameFate p f = Fate.count sub) ∧
    (∃ (s : State) (p : ℕ), s.portHears p = false) ∧
    (∃ (s : State) (p : ℕ) (f : Frame), s.portHears p = true ∧ p < 16 ∧ s.frameFate p f = Fate.host ∧ s.ringOf 3 p = none) ∧
    (∃ (s : State) (p : ℕ) (f : Frame) (q : ℕ) (bs : List (ℕ × Desc)) (d : ℕ × Desc), s.portHears p = true ∧ p < 16 ∧ s.frameFate p f = Fate.host ∧ s.ringOf 3 p = some q ∧ ((s.ring q).bufs = d :: bs) ∧ (s.ring q).space = true ∧ (s.ring q).waits = [] ∧ s.power.phase = Phase.running) ∧
    (∃ (s : State) (p : ℕ), s.rn (10512 + p) 10 = 2) ∧
    (∃ (s : State) (p : ℕ), s.rn (10512 + p) 10 ≠ 2) :=
  ⟨⟨(stateAt T04.S4 0), Sys2Proof.Req.mailbox 3, 0, 1, by decide +kernel⟩,
   ⟨(stateAt T04.S4 0), Sys2Proof.Req.mailbox 3, 0, 0, 0, by decide +kernel⟩,
   ⟨(stateAt T04.S4 0), 0, 0, by decide +kernel⟩,
   ⟨(stateAt T04.S4 0), 0, 1, by decide +kernel⟩,
   ⟨(stateAt T04.S4 0), 0, ({ fcsOk := true, len := 100, tpid88a8 := false, vid := none, dst := 0, etherType := 39321, ip := none, data := [0x01#8, 0x02#8, 0x03#8] } : Frame), 13, by decide +kernel⟩,
   ⟨(stateAt T04.S4 0), 1, by decide +kernel⟩,
   ⟨(stateAt T04.S4 4), 0, ({ fcsOk := true, len := 100, tpid88a8 := false, vid := none, dst := 0, etherType := 39321, ip := none, data := [0x01#8, 0x02#8, 0x03#8] } : Frame), by decide +kernel⟩,
   ⟨(stateAt T04.S4 5), 0, ({ fcsOk := true, len := 100, tpid88a8 := false, vid := none, dst := 0, etherType := 39321, ip := none, data := [0x01#8, 0x02#8, 0x03#8] } : Frame), 4, [], (7, { addrA := 0, lenA := 2, stampReq := false, rsvdA := 0, addrB := 0, lenB := 0, rsvdB := 0, data := [] }), by decide +kernel⟩,
   ⟨(stateAt T04.S4 3), 1, by decide +kernel⟩,
   ⟨(stateAt T04.S4 0), 0, by decide +kernel⟩⟩

/-- The hypotheses of NetAnswersForItsOwnAddresses are met. -/
theorem witness_NetAnswersForItsOwnAddresses :
    (∃ (s : State) (p : ℕ) (target : ℕ), s.power.phase = Phase.running ∧ s.rn 26624 9 ≠ 3 ∧ s.portHears p = true ∧ target ≠ 0 ∧ target = s.rn (10512 + p) 3) ∧
    (∃ (s : State) (p : ℕ) (target : ℕ), (s.portHears p = false ∨ target = 0 ∨ target ≠ s.rn (10512 + p) 3 ∨ s.rn 26624 9 = 3)) ∧
    (∃ (s : State) (p : ℕ) (v6 : Bool) (target : List Byte), s.power.phase = Phase.running ∧ s.rn 26624 9 ≠ 3 ∧ s.portHears p = true ∧ s.ownAddr p v6 target = true) ∧
    (∃ (s : State) (p : ℕ) (v6 : Bool) (target : List Byte), (s.portHears p = false ∨ s.ownAddr p v6 target = false ∨ s.rn 26624 9 = 3)) ∧
    (∃ (s : State) (p : ℕ) (target : List Byte), s.power.phase = Phase.running ∧ s.rn 26624 9 ≠ 3 ∧ s.portHears p = true ∧ (target = s.linkLocal p ∨ s.ownAddr p true target = true)) ∧
    (∃ (s : State) (p : ℕ) (target : List Byte), (s.portHears p = false ∨ s.ownAddr p true target = false ∨ s.rn 26624 9 = 3)) ∧
    (∃ (s : State) (p : ℕ) (v6 : Bool) (version : ℕ), s.portHears p = true ∧ (version < if v6 = true then 2 else 3) ∧ version ≤ s.groupVersion p v6) ∧
    (∃ (s : State) (p : ℕ) (v6 : Bool) (version : ℕ), s.portHears p = true ∧ (¬((version < if v6 = true then 2 else 3) ∧ version ≤ s.groupVersion p v6))) :=
  ⟨⟨(stateAt T04.S4b 0), 0, 16909060, by decide +kernel⟩,
   ⟨(stateAt T04.S4b 0), 0, 0, by decide +kernel⟩,
   ⟨(stateAt T04.S4b 0), 0, true, (bytesAt T04.ww0 2), by decide +kernel⟩,
   ⟨(stateAt T04.S4b 0), 0, true, [0x01#8, 0x02#8, 0x03#8, 0x04#8], by decide +kernel⟩,
   ⟨(stateAt T04.S4b 0), 0, (bytesAt T04.ww0 2), by decide +kernel⟩,
   ⟨(stateAt T04.S4b 0), 0, [0x01#8, 0x02#8, 0x03#8, 0x04#8], by decide +kernel⟩,
   ⟨(stateAt T04.S4b 0), 0, true, 0, by decide +kernel⟩,
   ⟨(stateAt T04.S4b 0), 0, true, 2, by decide +kernel⟩⟩

/-- The hypotheses of ReceptionOfSessions are met. -/
theorem witness_ReceptionOfSessions :
    (∃ (s : State) (n : ℕ) (pkt : RtpPkt), n < 160 ∧ s.admitted n = true ∧ s.kind n ≤ 1 ∧ s.portHears (s.rn (sIdx n) 5) = true ∧ s.destValid n = true ∧ (pkt.version ≠ 2 ∨ pkt.pt ≠ s.rn (sIdx n) 12 ∨ pkt.ringFull = true ∨ isMode2 (decide (s.kind n = 1)) pkt.body.ptype = false ∧ payloadOk (decide (s.kind n = 1)) pkt.body.ptype = false)) ∧
    (∃ (s : State) (n : ℕ) (pkt : RtpPkt) (h : ℕ) (m : ℕ), n < 160 ∧ s.admitted n = true ∧ s.kind n ≤ 1 ∧ s.portHears (s.rn (sIdx n) 5) = true ∧ s.destValid n = true ∧ s.sst n = sessRunning ∧ pkt.version = 2 ∧ pkt.pt = s.rn (sIdx n) 12 ∧ pkt.ringFull = false ∧ isMode2 (decide (s.kind n = 1)) pkt.body.ptype = false ∧ payloadOk (decide (s.kind n = 1)) pkt.body.ptype = true ∧ (s.ses n).ssrc = some pkt.ssrc ∧ (bit (s.rn (sIdx n) 11) 3 = true → pkt.ssrc = s.rn (sIdx n) 13) ∧ (s.ses n).ext = some h ∧ (s.ses n).restart ≠ some pkt.seq ∧ pkt.seq = (h + 1) % 2 ^ 16 ∧ (h + 1) % 2 ^ 32 ∉ (s.ses n).seen ∧ (∀ (d : ℕ), (s.ses n).doneTs = some d → serialAfter 32 pkt.ts d = true) ∧ m ≠ n) ∧
    (∃ (s : State) (n : ℕ) (a : AuS) (rest : List AuS) (next : Option ℕ) (nals : List Nal), n < 160 ∧ ((s.ses n).aus = a :: rest) ∧ (next = rest.head?.bind fun b => Option.map (fun x => x.1) (sortPkts b.pkts).head?) ∧ nals = reassemble (decide (s.kind n = 1)) (sortPkts a.pkts) none ∧ a.ready (s.ses n).doneSeq next = false) ∧
    (∃ (s : State) (n : ℕ) (a : AuS) (rest : List AuS) (next : Option ℕ) (nals : List Nal), n < 160 ∧ ((s.ses n).aus = a :: rest) ∧ (next = rest.head?.bind fun b => Option.map (fun x => x.1) (sortPkts b.pkts).head?) ∧ nals = reassemble (decide (s.kind n = 1)) (sortPkts a.pkts) none ∧ a.ready (s.ses n).doneSeq next = true ∧ (∀ x ∈ nals, x.body = NalBody.other)) ∧
    (∃ (s : State) (n : ℕ) (a : AuS) (rest : List AuS) (next : Option ℕ) (nals : List Nal), n < 160 ∧ ((s.ses n).aus = a :: rest) ∧ (next = rest.head?.bind fun b => Option.map (fun x => x.1) (sortPkts b.pkts).head?) ∧ nals = reassemble (decide (s.kind n = 1)) (sortPkts a.pkts) none ∧ a.ready (s.ses n).doneSeq next = true ∧ rawLabels nals = [] ∧ (s.ses n).alive = none ∧ (s.ses n).active.isSome = true ∧ (s.ses n).skipRasl = false ∧ (∀ x ∈ nals, x.layer = 0 ∧ ∃ y, x.body = NalBody.vcl y) ∧ nals ≠ []) ∧
    (∃ (s : State) (n : ℕ) (ssrc : ℕ) (m : ℕ), n < 160 ∧ s.admitted n = true ∧ s.kind n ≤ 1 ∧ s.portHears (s.rn (sIdx n) 5) = true ∧ s.destValid n = true ∧ (s.ses n).ssrc = some ssrc ∧ m ≠ n) ∧
    (∃ (s : State) (n : ℕ) (ssrc : ℕ), n < 160 ∧ s.admitted n = true ∧ s.kind n ≤ 1 ∧ s.portHears (s.rn (sIdx n) 5) = true ∧ s.destValid n = true ∧ (s.ses n).ssrc = some ssrc ∧ s.sst n = sessRunning) ∧
    (∃ (s : State) (t : ℕ) (n : ℕ) (ssrc : ℕ) (h : ℕ) (delay : ℕ), n < 160 ∧ (s.tick t).admitted n = true ∧ (s.tick t).kind n ≤ 1 ∧ bit ((s.tick t).rn (sIdx n) 11) 2 = true ∧ ((s.tick t).ses n).ssrc = some ssrc ∧ ((s.tick t).ses n).ext = some h ∧ ((s.tick t).ses n).rrAt + 5 * sTicks ≤ (s.tick t).clock ∧ (s.tick t).power.phase = Phase.running ∧ (s.tick t).rn 26624 9 ≠ 3 ∧ (delay = match ((s.tick t).ses n).sr with | some r => ((s.tick t).clock - r.2.2) * 65536 / sTicks | none => 0)) :=
  ⟨⟨(stateAt T04.S4c 0), 3, ({ mac := 77, version := 1, pt := 96, ssrc := 9, seq := 6, ts := 500, marker := true, body := { ptype := 1, first := true, last := true, nals := [] }, ringFull := false } : RtpPkt), by decide +kernel⟩,
   ⟨(stateAt T04.S4c 3), 3, ({ mac := 77, version := 2, pt := 96, ssrc := 9, seq := 6, ts := 500, marker := true, body := { ptype := 1, first := true, last := true, nals := [{ body := Sys2Proof.NalBody.vcl { nut := 1, first := 0, dependent := false, pps := 0, refs := [], ctus := [100, 200] }, layer := 0 }] }, ringFull := false } : RtpPkt), 5, 0, by decide +kernel⟩,
   ⟨(stateAt T04.S4c 12), 3, ({ ts := 40, pkts := [(4, { ptype := 1, first := true, last := true, nals := [{ body := Sys2Proof.NalBody.vcl { nut := 1, first := 0, dependent := false, pps := 0, refs := [], ctus := [100, 200] }, layer := 0 }, { body := Sys2Proof.NalBody.vcl { nut := 1, first := 1, dependent := false, pps := 0, refs := [], ctus := [100, 200] }, layer := 0 }] }), (5, { ptype := 1, first := true, last := true, nals := [{ body := Sys2Proof.NalBody.vcl { nut := 1, first := 2, dependent := false, pps := 0, refs := [], ctus := [100, 200] }, layer := 0 }] })], ended := false, marked := true, expired := false, lastMac := 3 } : AuS), ([{ ts := 40, pkts := [(4, { ptype := 1, first := true, last := true, nals := [{ body := Sys2Proof.NalBody.vcl { nut := 1, first := 0, dependent := false, pps := 0, refs := [], ctus := [100, 200] }, layer := 0 }, { body := Sys2Proof.NalBody.vcl { nut := 1, first := 1, dependent := false, pps := 0, refs := [], ctus := [100, 200] }, layer := 0 }] }), (5, { ptype := 1, first := true, last := true, nals := [{ body := Sys2Proof.NalBody.vcl { nut := 1, first := 2, dependent := false, pps := 0, refs := [], ctus := [100, 200] }, layer := 0 }] })], ended := true, marked := true, expired := false, lastMac := 3 }] : List AuS), some 4, ([{ body := Sys2Proof.NalBody.vcl { nut := 1, first := 0, dependent := false, pps := 0, refs := [], ctus := [100, 200] }, layer := 0 }, { body := Sys2Proof.NalBody.vcl { nut := 1, first := 1, dependent := false, pps := 0, refs := [], ctus := [100, 200] }, layer := 0 }, { body := Sys2Proof.NalBody.vcl { nut := 1, first := 2, dependent := false, pps := 0, refs := [], ctus := [100, 200] }, layer := 0 }] : List Nal), by decide +kernel⟩,
   ⟨(stateAt T04.S4c 9), 3, ({ ts := 40, pkts := [(4, { ptype := 1, first := true, last := true, nals := [{ body := Sys2Proof.NalBody.other, layer := 0 }] })], ended := true, marked := true, expired := true, lastMac := 3 } : AuS), [], none, ([{ body := Sys2Proof.NalBody.other, layer := 0 }] : List Nal), by decide +kernel, by decide +kernel, by decide +kernel, by decide +kernel, by decide +kernel, by simp⟩,
   ⟨(stateAt T04.S4c 6), 3, ({ ts := 40, pkts := [(4, { ptype := 1, first := true, last := true, nals := [{ body := Sys2Proof.NalBody.vcl { nut := 1, first := 0, dependent := false, pps := 0, refs := [], ctus := [100, 200] }, layer := 0 }, { body := Sys2Proof.NalBody.vcl { nut := 1, first := 1, dependent := false, pps := 0, refs := [], ctus := [100, 200] }, layer := 0 }] }), (5, { ptype := 1, first := true, last := true, nals := [{ body := Sys2Proof.NalBody.vcl { nut := 1, first := 2, dependent := false, pps := 0, refs := [], ctus := [100, 200] }, layer := 0 }] })], ended := true, marked := true, expired := false, lastMac := 3 } : AuS), [], none, ([{ body := Sys2Proof.NalBody.vcl { nut := 1, first := 0, dependent := false, pps := 0, refs := [], ctus := [100, 200] }, layer := 0 }, { body := Sys2Proof.NalBody.vcl { nut := 1, first := 1, dependent := false, pps := 0, refs := [], ctus := [100, 200] }, layer := 0 }, { body := Sys2Proof.NalBody.vcl { nut := 1, first := 2, dependent := false, pps := 0, refs := [], ctus := [100, 200] }, layer := 0 }] : List Nal), by decide +kernel, by decide +kernel, by decide +kernel, by decide +kernel, by decide +kernel, by decide +kernel, by decide +kernel, by decide +kernel, by decide +kernel, by simp, by decide +kernel⟩,
   ⟨(stateAt T04.S4c 3), 3, 9, 0, by decide +kernel⟩,
   ⟨(stateAt T04.S4c 3), 3, 9, by decide +kernel⟩,
   ⟨(stateAt T04.S4c 3), 2000000000, 3, 9, 5, 0, by decide +kernel⟩⟩

/-- The hypotheses of SessionsFollowTheTable are met. -/
theorem witness_SessionsFollowTheTable :
    (∃ (s : State) (n : ℕ) (r : Req), n < 160 ∧ s.takes r = true ∧ (s.sst n = sessIdle ∨ s.sst n = sessClosed) ∧ s.admission n = 0) ∧
    (∃ (s : State) (n : ℕ) (r : Req) (m : ℕ), n < 160 ∧ s.takes r = true ∧ (s.sst n = sessIdle ∨ s.sst n = sessClosed) ∧ s.admission n ≠ 0 ∧ m ≠ n) ∧
    (∃ (s : State) (n : ℕ) (r : Req), n < 160 ∧ s.takes r = true ∧ s.sst n ≠ sessIdle ∧ s.sst n ≠ sessClosed) ∧
    (∃ (s : State) (n : ℕ) (r : Req), n < 160 ∧ s.takes r = true ∧ s.admitted n = true) ∧
    (∃ (s : State) (n : ℕ) (r : Req), n < 160 ∧ s.takes r = true ∧ s.admitted n = false) ∧
    (∃ (s : State) (n : ℕ) (r : Req) (m : ℕ), n < 160 ∧ s.takes r = true ∧ (s.sst n = sessAcquiring ∨ s.sst n = sessRunning) ∧ s.clock ≤ (s.ses n).last + s.rn (sIdx n) 25 * msTicks ∧ m ≠ n) ∧
    (∃ (s : State) (n : ℕ) (r : Req), n < 160 ∧ s.takes r = true ∧ s.sst n ≠ sessAcquiring ∧ s.sst n ≠ sessRunning) ∧
    (∃ (s : State) (t : ℕ) (n : ℕ) (m : ℕ), n < 160 ∧ (s.tick t).sst n = sessJoining ∧ ((s.tick t).ses n).joinAt + (s.tick t).rn (sIdx n) 28 * sTicks ≤ (s.tick t).clock ∧ m ≠ n) ∧
    (∃ (s : State) (n : ℕ), n < 160 ∧ s.sst n ≠ sessJoining) ∧
    (∃ (s : State) (t : ℕ) (n : ℕ) (m : ℕ), n < 160 ∧ ((s.tick t).sst n = sessAcquiring ∨ (s.tick t).sst n = sessRunning) ∧ ((s.tick t).ses n).last + (s.tick t).rn (sIdx n) 25 * msTicks < (s.tick t).clock ∧ m ≠ n) :=
  ⟨⟨(stateAt T05.S5 0), 0, Sys2Proof.Req.mailbox 3, by decide +kernel⟩,
   ⟨(stateAt T05.S5 7), 3, Sys2Proof.Req.mailbox 3, 0, by decide +kernel⟩,
   ⟨(stateAt T05.S5 1), 3, Sys2Proof.Req.mailbox 3, by decide +kernel⟩,
   ⟨(stateAt T05.S5 1), 3, Sys2Proof.Req.mailbox 3, by decide +kernel⟩,
   ⟨(stateAt T05.S5 0), 0, Sys2Proof.Req.mailbox 3, by decide +kernel⟩,
   ⟨(stateAt T05.S5 2), 3, Sys2Proof.Req.mailbox 3, 0, by decide +kernel⟩,
   ⟨(stateAt T05.S5 0), 0, Sys2Proof.Req.mailbox 3, by decide +kernel⟩,
   ⟨(stateAt T05.S5 1), 2000000000000, 3, 0, by decide +kernel⟩,
   ⟨(stateAt T05.S5 0), 0, by decide +kernel⟩,
   ⟨(stateAt T05.S5 2), 2000000000000, 3, 0, by decide +kernel⟩⟩

/-- The hypotheses of TheServoFollowsItsTable are met. -/
theorem witness_TheServoFollowsItsTable :
    (∃ (s : State) (r : Req) (o : ℤ), s.takes r = true ∧ -↑(2 ^ 63) ≤ o ∧ o < ↑(2 ^ 63) ∧ s.rn 10240 3 ≠ 1) ∧
    (∃ (s : State) (r : Req) (o : ℤ), s.takes r = true ∧ -↑(2 ^ 63) ≤ o ∧ o < ↑(2 ^ 63) ∧ s.rn 10240 3 = 1 ∧ s.servo ≠ servoLocal ∧ (s.procs.at' s.servoNet { }).restarting = false ∧ s.outlier o = true ∧ s.time.outRun < 3) ∧
    (∃ (s : State) (r : Req) (o : ℤ), s.takes r = true ∧ -↑(2 ^ 63) ≤ o ∧ o < ↑(2 ^ 63) ∧ s.rn 10240 3 = 1 ∧ s.servo ≠ servoLocal ∧ (s.procs.at' s.servoNet { }).restarting = false ∧ (s.outlier o = false ∨ 3 ≤ s.time.outRun) ∧ s.rn 10240 5 ≤ o.natAbs) ∧
    (∃ (s : State) (r : Req) (o : ℤ), s.takes r = true ∧ -↑(2 ^ 63) ≤ o ∧ o < ↑(2 ^ 63) ∧ s.rn 10240 3 = 1 ∧ s.servo ≠ servoLocal ∧ (s.procs.at' s.servoNet { }).restarting = false ∧ (s.outlier o = false ∨ 3 ≤ s.time.outRun) ∧ o.natAbs < s.rn 10240 5) ∧
    (∃ (s : State) (r : Req) (src : ℕ), s.takes r = true ∧ src < 4 ∧ src = 3 ∧ (s.grandmaster = true ∨ s.supervisor = true)) ∧
    (∃ (s : State) (r : Req) (src : ℕ), s.takes r = true ∧ src < 4 ∧ (src ≠ 3 ∨ s.grandmaster = false ∧ s.supervisor = false)) ∧
    (∃ (s : State) (t : ℕ), (s.tick t).servo = servoLocked ∧ (s.tick t).time.lastValid + (s.tick t).rn 10240 7 * msTicks ≤ (s.tick t).clock) ∧
    (∃ (s : State), s.clock < s.time.lastValid + s.rn 10240 7 * msTicks) ∧
    (∃ (s : State), s.servo = servoLocked) ∧
    (∃ (s : State) (t : ℕ), (s.tick t).servo = servoHoldover ∧ 4294967294 < uValue (s.tick t).time.offsets ((s.tick t).rn 10240 9) ((s.tick t).rn 10240 8) ((s.tick t).clock - (s.tick t).time.lastValid) (s.tick t).uExtra) ∧
    (∃ (s : State), s.servo = servoAcquiring) :=
  ⟨⟨(stateAt T05.S5b 20), Sys2Proof.Req.mailbox 3, 0, by decide +kernel⟩,
   ⟨(stateAt T05.S5b 10), Sys2Proof.Req.mailbox 3, 100000, by decide +kernel⟩,
   ⟨(stateAt T05.S5b 0), Sys2Proof.Req.mailbox 3, 100000, by decide +kernel⟩,
   ⟨(stateAt T05.S5b 0), Sys2Proof.Req.mailbox 3, 0, by decide +kernel⟩,
   ⟨(stateAt T05b.ww0 0), Sys2Proof.Req.mailbox 3, 3, by decide +kernel⟩,
   ⟨(stateAt T05.S5b 0), Sys2Proof.Req.mailbox 3, 0, by decide +kernel⟩,
   ⟨(stateAt T05.S5b 8), 400000000007, by decide +kernel⟩,
   ⟨(stateAt T05.S5b 0), by decide +kernel⟩,
   ⟨(stateAt T05.S5b 8), by decide +kernel⟩,
   ⟨({ (up.wn 0x2800 4 servoHoldover).wn 0x2800 8 200000 with clock := 10 ^ 16 } : State), 0, by decide +kernel⟩,
   ⟨(stateAt T05.S5b 4), by decide +kernel⟩⟩

/-- The hypotheses of PtpPortsFollowTheMaster are met. -/
theorem witness_PtpPortsFollowTheMaster :
    (∃ (s : State) (p : ℕ), p < 16 ∧ s.restarting (p / 8) Proc.net = false ∧ s.rn (10512 + p) 10 = 1 ∧ (¬(bit (s.rn 10752 1) p = true ∧ s.rn 10240 3 = 0)) ∧ s.rn (10512 + p) 17 ≠ 1) ∧
    (∃ (s : State) (p : ℕ) (m : PtpMsg), p < 16 ∧ s.restarting (p / 8) Proc.net = false ∧ s.rn (10512 + p) 10 = 1 ∧ bit (s.rn 10752 1) p = true ∧ s.rn 10240 3 = 0 ∧ (m.domain ≠ s.rn 10752 3 ∨ m.transport ≠ s.rn (10768 + p) 1)) ∧
    (∃ (s : State) (p : ℕ) (m : PtpMsg) (q : ℕ), p < 16 ∧ s.restarting (p / 8) Proc.net = false ∧ s.rn (10512 + p) 10 = 1 ∧ bit (s.rn 10752 1) p = true ∧ s.rn 10240 3 = 0 ∧ m.domain = s.rn 10752 3 ∧ m.transport = s.rn (10768 + p) 1 ∧ m.kind = ptpAnnounce ∧ (∀ (b : PtpMsg), (s.ptp.at' p { }).best = some b → b.senderIdentity = m.senderIdentity ∨ rankLt (rankOf m) (rankOf b) = true) ∧ q ≠ p) ∧
    (∃ (s : State) (p : ℕ) (m : PtpMsg), p < 16 ∧ s.restarting (p / 8) Proc.net = false ∧ s.rn (10512 + p) 10 = 1 ∧ bit (s.rn 10752 1) p = true ∧ s.rn 10240 3 = 0 ∧ m.domain = s.rn 10752 3 ∧ m.transport = s.rn (10768 + p) 1 ∧ m.kind = ptpSync ∧ -7 ≤ m.logInterval ∧ m.logInterval ≤ 1 ∧ m.twoStep = true ∧ s.rn 10752 9 = p ∧ (Option.map (fun x => x.senderIdentity) (s.ptp.at' p { }).best = some m.senderIdentity) ∧ s.power.phase = Phase.running ∧ s.rn 26624 9 ≠ 3) ∧
    (∃ (s : State) (p : ℕ) (m : PtpMsg), p < 16 ∧ s.restarting (p / 8) Proc.net = false ∧ s.rn (10512 + p) 10 = 1 ∧ bit (s.rn 10752 1) p = true ∧ s.rn 10240 3 = 0 ∧ m.domain = s.rn 10752 3 ∧ m.transport = s.rn (10768 + p) 1 ∧ m.kind = ptpSync ∧ -7 ≤ m.logInterval ∧ m.logInterval ≤ 1 ∧ (s.rn 10752 9 ≠ p ∨ Option.map (fun x => x.senderIdentity) (s.ptp.at' p { }).best ≠ some m.senderIdentity)) ∧
    (∃ (s : State) (p : ℕ), p < 16 ∧ s.rn (10512 + p) 10 ≠ 1) ∧
    (∃ (s : State) (t : ℕ) (p : ℕ) (q : ℕ), p < 16 ∧ ((s.tick t).ptp.at' p { }).best ≠ none ∧ ((s.tick t).ptp.at' p { }).lastAnnounce + (s.tick t).announceTicks ≤ (s.tick t).clock ∧ q ≠ p) ∧
    (∃ (s : State) (p : ℕ), p < 16 ∧ s.clock < (s.ptp.at' p { }).lastAnnounce + s.announceTicks) ∧
    (∃ (s : State) (p : ℕ) (ann : PtpOut) (sync : PtpOut) (fup : PtpOut), p < 16 ∧ s.ptpOn p = true ∧ s.rn (10768 + p) 3 = portMaster ∧ s.power.phase = Phase.running ∧ s.rn 26624 9 ≠ 3 ∧ ann = { kind := ptpAnnounce, transport := s.rn (10768 + p) 1, domain := s.rn 10752 3, seq := wrapInc 16 (s.ptp.at' p { }).syncSeq, time := s.nowAt (p / 8), logInterval := s.rd 10752 11, gm := s.announced, utc := s.rd 10240 10 } ∧ (sync = { kind := ptpSync, transport := s.rn (10768 + p) 1, domain := s.rn 10752 3, seq := wrapInc 16 (s.ptp.at' p { }).syncSeq, time := if decide (s.rn 10752 7 = 1) = true then 0 else s.nowAt (p / 8), logInterval := s.rd 10752 10, twoStep := decide (s.rn 10752 7 = 1), sum := if decide (s.rn 10752 7 = 1) = true then 0 else if s.rn (10768 + p) 1 = 0 then 2 else if s.rn (10768 + p) 1 = 1 then 1 else 0 }) ∧ fup = { kind := ptpFollowUp, transport := s.rn (10768 + p) 1, domain := s.rn 10752 3, seq := wrapInc 16 (s.ptp.at' p { }).syncSeq, time := s.nowAt (p / 8), logInterval := s.rd 10752 10 }) ∧
    (∃ (s : State) (p : ℕ), p < 16 ∧ s.rn (10768 + p) 3 ≠ portMaster) :=
  ⟨⟨(stateAt T05b.S5 7), 0, by decide +kernel⟩,
   ⟨(stateAt T05b.S5 0), 0, ({ kind := 11, domain := 3, seqId := 0, logInterval := 0, twoStep := false, originNs := 0, correction := 0, rxNs := 88, transport := 0, requester := 0, priority1 := 100, clockClass := 0, accuracy := 0, variance := 0, priority2 := 0, gmIdentity := 0, steps := 0, senderIdentity := 5, utcOffset := 0, utcValid := false } : PtpMsg), by decide +kernel⟩,
   ⟨(stateAt T05b.S5 0), 0, ({ kind := 11, domain := 0, seqId := 0, logInterval := 0, twoStep := false, originNs := 0, correction := 0, rxNs := 88, transport := 0, requester := 0, priority1 := 100, clockClass := 0, accuracy := 0, variance := 0, priority2 := 0, gmIdentity := 0, steps := 0, senderIdentity := 5, utcOffset := 0, utcValid := false } : PtpMsg), 6, by decide +kernel⟩,
   ⟨(stateAt T05b.S5 1), 0, ({ kind := 0, domain := 0, seqId := 0, logInterval := 0, twoStep := true, originNs := 0, correction := 0, rxNs := 88, transport := 0, requester := 0, priority1 := 100, clockClass := 0, accuracy := 0, variance := 0, priority2 := 0, gmIdentity := 0, steps := 0, senderIdentity := 5, utcOffset := 0, utcValid := false } : PtpMsg), by decide +kernel⟩,
   ⟨(stateAt T05b.S5 0), 0, ({ kind := 0, domain := 0, seqId := 0, logInterval := 0, twoStep := true, originNs := 0, correction := 0, rxNs := 88, transport := 0, requester := 0, priority1 := 100, clockClass := 0, accuracy := 0, variance := 0, priority2 := 0, gmIdentity := 0, steps := 0, senderIdentity := 5, utcOffset := 0, utcValid := false } : PtpMsg), by decide +kernel⟩,
   ⟨(stateAt T05b.S5 0), 1, by decide +kernel⟩,
   ⟨(stateAt T05b.S5 1), 4000000000000, 0, 6, by decide +kernel⟩,
   ⟨(stateAt T05b.S5 0), 0, by decide +kernel⟩,
   ⟨(stateAt T05b.S5 2), 0, ({ kind := 11, transport := 0, domain := 0, seq := 1, time := 0, correction := 0, logInterval := 1, twoStep := false, gm := [128, 248, 254, 65535, 128, 1099478073344, 0], utc := 37, sum := 0 } : PtpOut), ({ kind := 0, transport := 0, domain := 0, seq := 1, time := 0, correction := 0, logInterval := 0, twoStep := true, gm := [], utc := 0, sum := 0 } : PtpOut), ({ kind := 8, transport := 0, domain := 0, seq := 1, time := 0, correction := 0, logInterval := 0, twoStep := false, gm := [], utc := 0, sum := 0 } : PtpOut), by decide +kernel⟩,
   ⟨(stateAt T05b.S5 0), 0, by decide +kernel⟩⟩

/-- The hypotheses of TriggersAndCaptures are met (part 1). -/
theorem witness_TriggersAndCaptures_1 :
    (∃ (s : State) (r : Req) (k : ℕ) (mode : ℕ) (j : ℕ), s.takes r = true ∧ k < 16 ∧ 1 ≤ mode ∧ mode ≤ 3 ∧ (s.trig k).spent = false ∧ (mode ≠ 2 ∨ s.rn (10272 + k) 6 < s.rn (10272 + k) 3) ∧ j ≠ k) ∧
    (∃ (s : State) (r : Req) (k : ℕ) (mode : ℕ), s.takes r = true ∧ k < 16 ∧ 1 ≤ mode ∧ mode ≤ 3 ∧ (s.trig k).spent = false ∧ mode = 2 ∧ s.rn (10272 + k) 3 ≤ s.rn (10272 + k) 6) ∧
    (∃ (s : State) (k : ℕ), (s.trig k).armed = true ∧ (s.trig k).nextNs ≤ s.nowAt (k / 8) ∧ s.rn (10272 + k) 1 ≠ 1 ∧ (s.trig k).late = false) ∧
    (∃ (s : State) (k : ℕ), (s.trig k).armed = true ∧ (s.trig k).nextNs ≤ s.nowAt (k / 8) ∧ s.rn (10272 + k) 1 = 1 ∧ (s.trig k).late = true) ∧
    (∃ (s : State) (k : ℕ), (s.trig k).armed = true ∧ (s.trig k).nextNs ≤ s.nowAt (k / 8) ∧ bit (s.rn (10272 + k) 4) 0 = true ∧ s.rn (10272 + k) 5 ≠ 255 ∧ s.power.phase = Phase.running) ∧
    (∃ (s : State) (k : ℕ), (s.trig k).armed = true ∧ (s.trig k).nextNs ≤ s.nowAt (k / 8) ∧ bit (s.rn (10272 + k) 4) 3 = true) ∧
    (∃ (s : State) (k : ℕ) (c : CommitS), (s.trig k).armed = true ∧ (s.trig k).nextNs ≤ s.nowAt (k / 8) ∧ bit (s.rn (10272 + k) 4) 2 = true ∧ c.timing = 2 ∧ c.trig = k) ∧
    (∃ (s : State) (k : ℕ) (j : ℕ), (s.trig k).armed = true ∧ (s.trig k).nextNs ≤ s.nowAt (k / 8) ∧ j ≠ k) ∧
    (∃ (s : State) (k : ℕ), ((s.trig k).armed = false ∨ s.nowAt (k / 8) < (s.trig k).nextNs)) :=
  ⟨⟨(stateAt T05b.S5t 0), Sys2Proof.Req.mailbox 3, 0, 1, 2, by decide +kernel⟩,
   ⟨(stateAt T05b.S5t 4), Sys2Proof.Req.mailbox 3, 3, 2, by decide +kernel⟩,
   ⟨(stateAt T05c.ww0 0), 3, by decide +kernel⟩,
   ⟨(stateAt T05b.S5t 5), 3, by decide +kernel⟩,
   ⟨(stateAt T05b.S5t 5), 3, by decide +kernel⟩,
   ⟨(stateAt T05b.S5t 5), 3, by decide +kernel⟩,
   ⟨(stateAt T05b.S5t 5), 3, ({ id := 0, tag := 0, timing := 2, trig := 3, wall := 0, mask := 0, time := 0, vals := [], due := some 5000000000, late := false, unlocked := true, left := 0, taken := 0, defer := 0, landed := false } : CommitS), by decide +kernel⟩,
   ⟨(stateAt T05b.S5t 3), 3, 0, by decide +kernel⟩,
   ⟨(stateAt T05b.S5t 0), 0, by decide +kernel⟩⟩

/-- The hypotheses of TriggersAndCaptures are met (part 2). -/
theorem witness_TriggersAndCaptures_2 :
    (∃ (s : State) (k : ℕ) (j : ℕ), (s.trig k).pinActive = true ∧ (s.trig k).until' ≤ s.clock ∧ s.power.phase = Phase.running ∧ j ≠ k) ∧
    (∃ (s : State) (r : Req) (k : ℕ), s.answers r = true ∧ k < 16) ∧
    (∃ (s : State) (c : ℕ) (rising : Bool) (p : ℕ), c < 8 ∧ edgeOn (s.rn (10304 + c) 1) rising = true ∧ s.rn (10304 + c) 2 ≠ 255 ∧ (s.cap c).lastAt = some p ∧ s.clock < p + 4) ∧
    (∃ (s : State) (c : ℕ) (rising : Bool), c < 8 ∧ edgeOn (s.rn (10304 + c) 1) rising = true ∧ s.rn (10304 + c) 2 ≠ 255 ∧ (∀ (p : ℕ), (s.cap c).lastAt = some p → p + 4 ≤ s.clock) ∧ (s.cap c).recs.length < 16) ∧
    (∃ (s : State) (c : ℕ) (rising : Bool), c < 8 ∧ edgeOn (s.rn (10304 + c) 1) rising = true ∧ s.rn (10304 + c) 2 ≠ 255 ∧ (∀ (p : ℕ), (s.cap c).lastAt = some p → p + 4 ≤ s.clock) ∧ 16 ≤ (s.cap c).recs.length ∧ (s.cap c).full = false) ∧
    (∃ (s : State) (c : ℕ) (rising : Bool), edgeOn (s.rn (10304 + c) 1) rising = false) ∧
    (∃ (s : State) (r : Req) (c : ℕ) (v : CapRec) (vs : List CapRec), s.answers r = true ∧ c < 8 ∧ ((s.cap c).recs = v :: vs)) ∧
    (∃ (s : State) (r : Req) (c : ℕ), s.answers r = true ∧ c < 8 ∧ (s.cap c).recs = []) :=
  ⟨⟨(stateAt T05b.S5t 5), 3, 0, by decide +kernel⟩,
   ⟨(stateAt T05b.S5t 0), Sys2Proof.Req.mailbox 3, 0, by decide +kernel⟩,
   ⟨(stateAt T05b.S5t 8), 2, true, 7, by decide +kernel⟩,
   ⟨(stateAt T05b.S5t 7), 2, true, by decide +kernel⟩,
   ⟨(stateAt T05b.S5t 9), 2, true, by decide +kernel⟩,
   ⟨(stateAt T05b.S5t 0), 0, true, by decide +kernel⟩,
   ⟨(stateAt T05b.S5t 8), Sys2Proof.Req.mailbox 3, 2, ({ time := 5, seq := 1, gen := 0, edge := true } : CapRec), ([{ time := 5, seq := 1, gen := 0, edge := true }, { time := 5, seq := 1, gen := 0, edge := true }, { time := 5, seq := 1, gen := 0, edge := true }, { time := 5, seq := 1, gen := 0, edge := true }, { time := 5, seq := 1, gen := 0, edge := true }, { time := 5, seq := 1, gen := 0, edge := true }, { time := 5, seq := 1, gen := 0, edge := true }, { time := 5, seq := 1, gen := 0, edge := true }, { time := 5, seq := 1, gen := 0, edge := true }, { time := 5, seq := 1, gen := 0, edge := true }, { time := 5, seq := 1, gen := 0, edge := true }, { time := 5, seq := 1, gen := 0, edge := true }, { time := 5, seq := 1, gen := 0, edge := true }, { time := 5, seq := 1, gen := 0, edge := true }] : List CapRec), by decide +kernel⟩,
   ⟨(stateAt T05b.S5t 0), Sys2Proof.Req.mailbox 3, 0, by decide +kernel⟩⟩

/-- The hypotheses of DecodeAndToneMaps are met. -/
theorem witness_DecodeAndToneMaps :
    (∃ (s : State) (c : ℕ) (x : SegWait) (y : SegWait), c < 14 ∧ s.active.contains c = true ∧ s.serves (coreKey c) = true ∧ (s.core' c).sess = none ∧ s.restarting (c / 7) Proc.med = false ∧ ((List.filter (fun x => s.segReady x && s.shareFits c x) s.segs).head? = some x) ∧ s.segHeld x = false ∧ y ≠ x) ∧
    (∃ (s : State) (c : ℕ) (x : SegWait) (a : AuInfo), c < 14 ∧ s.active.contains c = true ∧ s.serves (coreKey c) = true ∧ (s.core' c).sess = none ∧ s.restarting (c / 7) Proc.med = false ∧ ((List.filter (fun x => s.segReady x && s.shareFits c x) s.segs).head? = some x) ∧ s.segHeld x = false ∧ s.auOf x.sess x.pic = some a ∧ a.coded.start = none) ∧
    (∃ (s : State) (c : ℕ) (x : SegWait) (d : ℕ), c < 14 ∧ s.active.contains c = true ∧ s.serves (coreKey c) = true ∧ (s.core' c).sess = none ∧ s.restarting (c / 7) Proc.med = false ∧ ((List.filter (fun x => s.segReady x && s.shareFits c x) s.segs).head? = some x) ∧ s.segHeld x = false ∧ d ≠ c) ∧
    (∃ (s : State) (c : ℕ), c < 14 ∧ s.active.contains c = true ∧ s.serves (coreKey c) = true ∧ (s.core' c).sess = none ∧ s.restarting (c / 7) Proc.med = false ∧ (List.filter (fun x => s.segReady x && s.shareFits c x) s.segs = [])) ∧
    (∃ (s : State) (c : ℕ) (e : ℕ) (d : ℕ), e < 14 ∧ e ≠ c ∧ (s.core' c).sess ≠ none ∧ (s.core' e).sess ≠ none ∧ s.serves (coreKey e) = true ∧ d ≠ e) ∧
    (∃ (s : State) (n : ℕ) (d : PicDesc) (a : AuInfo) (rest : List AuInfo) (p : ParamSet), n < 160 ∧ ((s.ses n).queue = a :: rest) ∧ s.isVideo n = true ∧ a.coded.sps = some p ∧ d.ended = [] ∧ (∀ x ∈ s.segs, ¬(x.sess = n ∧ x.pic = a.ts)) ∧ (∀ c < 14, (s.core' c).sess ≠ some n) ∧ (s.ses n).waiting = [] ∧ a.judge = Judge.replay) ∧
    (∃ (s : State) (n : ℕ) (d : PicDesc) (a : AuInfo) (rest : List AuInfo) (p : ParamSet) (v : ℕ), n < 160 ∧ ((s.ses n).queue = a :: rest) ∧ s.isVideo n = true ∧ a.coded.sps = some p ∧ d.ended = [] ∧ (∀ x ∈ s.segs, ¬(x.sess = n ∧ x.pic = a.ts)) ∧ (∀ c < 14, (s.core' c).sess ≠ some n) ∧ a.crc = some v ∧ v ≠ lumaCrc p.codedW p.confX p.confY p.width p.height d.y ∧ a.coded.irap = false ∧ pictureExact (s.ses n).refs a.coded p (a.coded.missing (decide (s.rn (sIdx n) 22 = 1)) d.errors) d = true) ∧
    (∃ (s : State) (n : ℕ) (d : PicDesc) (a : AuInfo) (rest : List AuInfo) (p : ParamSet) (m : ℕ), n < 160 ∧ ((s.ses n).queue = a :: rest) ∧ s.isVideo n = true ∧ a.coded.sps = some p ∧ d.ended = [] ∧ (∀ x ∈ s.segs, ¬(x.sess = n ∧ x.pic = a.ts)) ∧ (∀ c < 14, (s.core' c).sess ≠ some n) ∧ m ≠ n) ∧
    (∃ (s : State) (n : ℕ) (d : PicDesc), (s.ses n).queue = [] ∧ d.ended = []) ∧
    (∃ (s : State) (r : Req) (n : ℕ), s.answers r = true ∧ n < 160 ∧ s.kind n ≤ 1) ∧
    (∃ (s : State) (r : Req) (n : ℕ), s.answers r = true ∧ n < 160 ∧ 1 < s.kind n) ∧
    (∃ (s : State) (r : Req) (m : ℕ) (sub : ℕ), s.takes r = true ∧ m < 64 ∧ 1 ≤ sub ∧ sub ≤ 14) :=
  ⟨⟨(stateAt TZ12.S6 1), 0, ({ avail := 5, prio := 1, sess := 3, pic := 500, seg := 0, share := 0 } : SegWait), ({ avail := 5, prio := 1, sess := 3, pic := 500, seg := 1, share := 0 } : SegWait), by decide +kernel⟩,
   ⟨(stateAt TZ12.S6 3), 0, ({ avail := 5, prio := 1, sess := 3, pic := 500, seg := 0, share := 0 } : SegWait), ({ ts := 500, grade := 0, alive := 0, cap := none, judge := Sys2Proof.Machine.Judge.fresh, heartbeat := false, crc := none, rows := [], avail := 0, coded := { sps := some { id := 0, h264 := false, profile := 0, interlaced := false, chroma420 := false, bitDepth := 8, extension := false, codedW := 16, codedH := 16, confX := 0, confY := 0, width := 2, height := 2, ctu := 16, reorder := 0, latency := 0, buffering := 0, fullRange := false, matrix := 0, transfer := 0, primaries := 0 }, pps := some { id := 0, sps := 0, tileCols := [], tileRows := [], wavefront := false }, slices := [({ nut := 1, first := 0, dependent := false, pps := 0, refs := [], ctus := [100] }, true)], badSets := 0, irap := false, newSeq := false, start := none, lost := [], binds := [], waited := false } } : AuInfo), by decide +kernel⟩,
   ⟨(stateAt TZ12.S6 1), 0, ({ avail := 5, prio := 1, sess := 3, pic := 500, seg := 0, share := 0 } : SegWait), 2, by decide +kernel⟩,
   ⟨(stateAt TZ12.S6 0), 0, by decide +kernel⟩,
   ⟨(stateAt TZ12.S6 7), 3, 2, 0, by decide +kernel⟩,
   ⟨(stateAt TZ12.S6 8), 3, ({ number := 5, isRef := true, output := true, noPrior := false, keep := [5, 6], errors := [], blocks := [{ area := { x0 := 0, x1 := 16, y0 := 0, y1 := 16 }, pred := Sys2Proof.Pred.intra [] }], filters := [], y := (List.replicate 256 7), cb := (List.replicate 64 5), cr := (List.replicate 64 6), ended := [] } : PicDesc), ({ ts := 500, grade := 0, alive := 0, cap := none, judge := Sys2Proof.Machine.Judge.replay, heartbeat := false, crc := none, rows := [], avail := 0, coded := { sps := some { id := 0, h264 := false, profile := 0, interlaced := false, chroma420 := false, bitDepth := 8, extension := false, codedW := 16, codedH := 16, confX := 0, confY := 0, width := 2, height := 2, ctu := 16, reorder := 0, latency := 0, buffering := 0, fullRange := false, matrix := 0, transfer := 0, primaries := 0 }, pps := some { id := 0, sps := 0, tileCols := [], tileRows := [], wavefront := false }, slices := [({ nut := 1, first := 0, dependent := false, pps := 0, refs := [], ctus := [100] }, true)], badSets := 0, irap := false, newSeq := false, start := none, lost := [], binds := [], waited := false } } : AuInfo), [], ({ id := 0, h264 := false, profile := 0, interlaced := false, chroma420 := false, bitDepth := 8, extension := false, codedW := 16, codedH := 16, confX := 0, confY := 0, width := 2, height := 2, ctu := 16, reorder := 0, latency := 0, buffering := 0, fullRange := false, matrix := 0, transfer := 0, primaries := 0 } : ParamSet), by decide +kernel⟩,
   ⟨(stateAt TZ12.S6 6), 3, ({ number := 5, isRef := true, output := true, noPrior := false, keep := [5, 6], errors := [], blocks := [{ area := { x0 := 0, x1 := 16, y0 := 0, y1 := 16 }, pred := Sys2Proof.Pred.intra [] }], filters := [], y := (List.replicate 256 7), cb := (List.replicate 64 5), cr := (List.replicate 64 6), ended := [] } : PicDesc), ({ ts := 500, grade := 0, alive := 0, cap := none, judge := Sys2Proof.Machine.Judge.fresh, heartbeat := false, crc := some 4, rows := [], avail := 0, coded := { sps := some { id := 0, h264 := false, profile := 0, interlaced := false, chroma420 := false, bitDepth := 8, extension := false, codedW := 16, codedH := 16, confX := 0, confY := 0, width := 2, height := 2, ctu := 16, reorder := 0, latency := 0, buffering := 0, fullRange := false, matrix := 0, transfer := 0, primaries := 0 }, pps := some { id := 0, sps := 0, tileCols := [], tileRows := [], wavefront := false }, slices := [({ nut := 1, first := 0, dependent := false, pps := 0, refs := [], ctus := [100] }, true)], badSets := 0, irap := false, newSeq := false, start := none, lost := [], binds := [], waited := false } } : AuInfo), [], ({ id := 0, h264 := false, profile := 0, interlaced := false, chroma420 := false, bitDepth := 8, extension := false, codedW := 16, codedH := 16, confX := 0, confY := 0, width := 2, height := 2, ctu := 16, reorder := 0, latency := 0, buffering := 0, fullRange := false, matrix := 0, transfer := 0, primaries := 0 } : ParamSet), 4, by decide +kernel⟩,
   ⟨(stateAt TZ12.S6 4), 3, ({ number := 5, isRef := true, output := true, noPrior := false, keep := [5, 6], errors := [], blocks := [{ area := { x0 := 0, x1 := 16, y0 := 0, y1 := 16 }, pred := Sys2Proof.Pred.intra [] }], filters := [], y := (List.replicate 256 7), cb := (List.replicate 64 5), cr := (List.replicate 64 6), ended := [] } : PicDesc), ({ ts := 500, grade := 0, alive := 0, cap := none, judge := Sys2Proof.Machine.Judge.fresh, heartbeat := false, crc := none, rows := [], avail := 0, coded := { sps := some { id := 0, h264 := false, profile := 0, interlaced := false, chroma420 := false, bitDepth := 8, extension := false, codedW := 16, codedH := 16, confX := 0, confY := 0, width := 2, height := 2, ctu := 16, reorder := 0, latency := 0, buffering := 0, fullRange := false, matrix := 0, transfer := 0, primaries := 0 }, pps := some { id := 0, sps := 0, tileCols := [], tileRows := [], wavefront := false }, slices := [({ nut := 1, first := 0, dependent := false, pps := 0, refs := [], ctus := [100] }, true)], badSets := 0, irap := false, newSeq := false, start := none, lost := [], binds := [], waited := false } } : AuInfo), ([{ ts := 500, grade := 0, alive := 0, cap := none, judge := Sys2Proof.Machine.Judge.fresh, heartbeat := false, crc := none, rows := [], avail := 0, coded := { sps := some { id := 0, h264 := false, profile := 0, interlaced := false, chroma420 := false, bitDepth := 8, extension := false, codedW := 16, codedH := 16, confX := 0, confY := 0, width := 2, height := 2, ctu := 16, reorder := 0, latency := 0, buffering := 0, fullRange := false, matrix := 0, transfer := 0, primaries := 0 }, pps := some { id := 0, sps := 0, tileCols := [], tileRows := [], wavefront := false }, slices := [({ nut := 1, first := 0, dependent := false, pps := 0, refs := [], ctus := [100] }, true)], badSets := 0, irap := false, newSeq := false, start := none, lost := [], binds := [], waited := false } }] : List AuInfo), ({ id := 0, h264 := false, profile := 0, interlaced := false, chroma420 := false, bitDepth := 8, extension := false, codedW := 16, codedH := 16, confX := 0, confY := 0, width := 2, height := 2, ctu := 16, reorder := 0, latency := 0, buffering := 0, fullRange := false, matrix := 0, transfer := 0, primaries := 0 } : ParamSet), 0, by decide +kernel⟩,
   ⟨(stateAt TZ12.S6 0), 0, ({ number := 5, isRef := true, output := true, noPrior := false, keep := [5, 6], errors := [], blocks := [{ area := { x0 := 0, x1 := 16, y0 := 0, y1 := 16 }, pred := Sys2Proof.Pred.intra [] }], filters := [], y := (List.replicate 256 7), cb := (List.replicate 64 5), cr := (List.replicate 64 6), ended := [] } : PicDesc), by decide +kernel⟩,
   ⟨(stateAt TZ12.S6 0), Sys2Proof.Req.mailbox 3, 0, by decide +kernel⟩,
   ⟨(stateAt TZ12.S6 11), Sys2Proof.Req.mailbox 3, 3, by decide +kernel⟩,
   ⟨(stateAt TZ12.S6 0), Sys2Proof.Req.mailbox 3, 0, 1, by decide +kernel⟩⟩

/-- The hypotheses of CommitsPendAndCancel are met. -/
theorem witness_CommitsPendAndCancel :
    (∃ (s : State) (r : Req) (d : List Byte), s.takes r = true ∧ d.length = 24 ∧ requestOk d = false) ∧
    (∃ (s : State) (r : Req) (d : List Byte) (id : ℕ), s.takes r = true ∧ d.length = 24 ∧ requestOk d = true ∧ id = wrapInc 16 (s.rn 17152 8) ∧ 32 ≤ s.commits.length) ∧
    (∃ (s : State) (r : Req) (d : List Byte) (id : ℕ) (c : CommitS), s.takes r = true ∧ d.length = 24 ∧ requestOk d = true ∧ id = wrapInc 16 (s.rn 17152 8) ∧ c = s.commitOf id d ∧ (s.commitCheck c).1 = 0 ∧ screensIn c.left ≠ [] ∧ (∀ x ∈ screensIn c.left, s.unavailable x = false)) ∧
    (∃ (s : State) (r : Req) (n : ℕ) (sub : ℕ), s.takes r = true ∧ n ∈ s.slotsIn (s.rn 17152 3) ∧ sub ∈ slotSubs) ∧
    (∃ (s : State) (r : Req) (x : ℕ) (sub : ℕ), s.takes r = true ∧ x ∈ screensIn (s.rn 17152 3) ∧ sub ∈ screenSubs) ∧
    (∃ (s : State) (r : Req) (c : CommitS), s.takes r = true ∧ ((s.commits.any fun c => decide (c.id = s.rn 17152 4)) = true) ∧ (((cancelSet (s.rn 17152 4) [] s.commits).any fun c => c.landed || decide (c.taken ≠ 0)) = false) ∧ c ∈ cancelSet (s.rn 17152 4) [] s.commits) ∧
    (∃ (s : State) (r : Req), s.takes r = true ∧ ((s.commits.any fun c => decide (c.id = s.rn 17152 4)) = false)) ∧
    (∃ (s : State) (r : Req) (id : ℕ), s.takes r = true ∧ id < 65536 ∧ ((s.receipts.any fun p => decide (p.1 = id)) = true)) ∧
    (∃ (s : State) (r : Req) (id : ℕ), s.takes r = true ∧ id < 65536 ∧ ((s.receipts.any fun p => decide (p.1 = id)) = false)) ∧
    (∃ (s : State) (id : ℕ) (c : CommitS), c.id = id ∧ c.timing = 1 ∧ time96Ns c.time ≤ s.nowNs) ∧
    (∃ (s : State) (id : ℕ) (c : CommitS), c ∈ s.commits ∧ (c.id ≠ id ∨ c.timing ≠ 1 ∨ s.nowNs < time96Ns c.time)) ∧
    (∃ (s : State) (x : ℕ) (c : CommitS) (d : ℕ), c ∈ s.commits ∧ bit c.left x = true ∧ c.due = some d ∧ d < s.nowNs) ∧
    (∃ (s : State) (x : ℕ) (c : CommitS), c ∈ s.commits ∧ (c.due = none ∨ bit c.left x = false)) :=
  ⟨⟨(stateAt T06b.S6 0), Sys2Proof.Req.mailbox 3, (bytesAt T06b.ww0 1), by decide +kernel⟩,
   ⟨(stateAt T06b.S6 1), Sys2Proof.Req.mailbox 3, (bytesAt T06b.ww0 0), 1, by decide +kernel⟩,
   ⟨(stateAt T06b.S6 0), Sys2Proof.Req.mailbox 3, (bytesAt T06b.ww0 0), 1, ({ id := 1, tag := 9, timing := 0, trig := 255, wall := 255, mask := 8, time := 0, vals := [(4719392, Sys2Proof.Val.num 0), (4719393, Sys2Proof.Val.num 100), (4719394, Sys2Proof.Val.num 0), (4719395, Sys2Proof.Val.num 0), (4719396, Sys2Proof.Val.num 255), (4719397, Sys2Proof.Val.num 0), (4719398, Sys2Proof.Val.num 0), (4719408, Sys2Proof.Val.num 1073478656), (4719409, Sys2Proof.Val.num 537395712), (4719410, Sys2Proof.Val.num 0), (4719411, Sys2Proof.Val.num 2), (4719412, Sys2Proof.Val.num 3), (4395777, Sys2Proof.Val.num 0)], due := none, late := false, unlocked := false, left := 8, taken := 0, defer := 0, landed := false } : CommitS), by decide +kernel⟩,
   ⟨(stateAt T06b.S6 4), Sys2Proof.Req.mailbox 3, 3, 1, by decide +kernel⟩,
   ⟨(stateAt T06b.S6 4), Sys2Proof.Req.mailbox 3, 3, 32, by decide +kernel⟩,
   ⟨(stateAt T06b.S6 2), Sys2Proof.Req.mailbox 3, ({ id := 5, tag := 77, timing := 1, trig := 255, wall := 255, mask := 8, time := 5, vals := [(4195077, Sys2Proof.Val.num 3)], due := none, late := false, unlocked := false, left := 8, taken := 0, defer := 0, landed := false } : CommitS), by decide +kernel⟩,
   ⟨(stateAt T06b.S6 0), Sys2Proof.Req.mailbox 3, by decide +kernel⟩,
   ⟨(stateAt T06b.S6 2), Sys2Proof.Req.mailbox 3, 3, by decide +kernel⟩,
   ⟨(stateAt T06b.S6 0), Sys2Proof.Req.mailbox 3, 0, by decide +kernel⟩,
   ⟨(stateAt T06b.S6 2), 5, ({ id := 5, tag := 77, timing := 1, trig := 255, wall := 255, mask := 8, time := 5, vals := [(4195077, Sys2Proof.Val.num 3)], due := some 5000000000, late := false, unlocked := true, left := 8, taken := 0, defer := 0, landed := false } : CommitS), by decide +kernel⟩,
   ⟨(stateAt T06b.S6 1), 0, ({ id := 5, tag := 77, timing := 0, trig := 255, wall := 255, mask := 8, time := 5, vals := [(4195077, Sys2Proof.Val.num 3)], due := some 3, late := false, unlocked := false, left := 8, taken := 0, defer := 0, landed := false } : CommitS), by decide +kernel⟩,
   ⟨(stateAt T06b.S6 1), 3, ({ id := 5, tag := 77, timing := 0, trig := 255, wall := 255, mask := 8, time := 5, vals := [(4195077, Sys2Proof.Val.num 3)], due := some 3, late := false, unlocked := false, left := 8, taken := 0, defer := 0, landed := false } : CommitS), 3, by decide +kernel⟩,
   ⟨(stateAt T06b.S6 1), 0, ({ id := 5, tag := 77, timing := 0, trig := 255, wall := 255, mask := 8, time := 5, vals := [(4195077, Sys2Proof.Val.num 3)], due := some 3, late := false, unlocked := false, left := 8, taken := 0, defer := 0, landed := false } : CommitS), by decide +kernel⟩⟩

/-- The hypotheses of PressesAndLeases are met. -/
theorem witness_PressesAndLeases :
    (∃ (s : State) (x : ℕ) (a : ℕ) (y : ℕ), x < 24 ∧ (s.screen x).pressing = some a ∧ (s.screen x).planeDone = false ∧ s.pressBefore x a = false ∧ y ≠ x) ∧
    (∃ (s : State) (x : ℕ), (s.screen x).pressing = none) ∧
    (∃ (s : State) (x : ℕ) (a : ℕ), (s.screen x).pressing = some a ∧ s.pressBefore x a = true) ∧
    (∃ (s : State) (n : ℕ) (b : ℕ), ((s.gfxOf n).bufs.at' b { }).leased = true ∧ s.bufRead n b = false ∧ (∀ q ∈ s.queued, ¬(q.msg.sess = n ∧ q.msg.hdr.buf = b))) ∧
    (∃ (s : State) (n : ℕ) (b : ℕ), s.bufRead n b = true) :=
  ⟨⟨(stateAt T07.S7 1), 3, 5, 0, by decide +kernel⟩,
   ⟨(stateAt T07.S7 0), 0, by decide +kernel⟩,
   ⟨(stateAt TZ1.ZP 0), 3, 5, by decide +kernel⟩,
   ⟨(stateAt T07.S7 4), 4, 0, by decide +kernel⟩,
   ⟨(stateAt T07.S7 1), 4, 1, by decide +kernel⟩⟩

/-- The hypotheses of FramesAndStrips are met (part 1). -/
theorem witness_FramesAndStrips_1 :
    (∃ (s : State) (x : ℕ) (y : ℕ), x < 24 ∧ (s.screen x).run = true ∧ s.member x = false ∧ s.mayStart x = true ∧ y ≠ x) ∧
    (∃ (s : State) (x : ℕ), x < 24 ∧ s.mayStart x = false ∧ (s.screen x).service = true) ∧
    (∃ (s : State) (x : ℕ) (k : ℕ) (p : Plan) (y : ℕ), x < 24 ∧ (s.screen x).plan = some p ∧ (s.screen x).run = true ∧ (s.screen x).composing = none ∧ s.nextStrip x = some k ∧ s.scanning x p.frame = false ∧ s.scanning x (wrapDec 32 p.frame) = true ∧ (s.screen x).start + s.linesNs x (s.stripEnd x k) ≤ s.nowAt (x / 12) ∧ s.serves (compKey (s.stripOutput x k)) = true ∧ s.restarting (x / 12) Proc.cmp = false ∧ s.pipesServe p k = true ∧ y ≠ x) ∧
    (∃ (s : State) (x : ℕ) (k : ℕ), x < 24 ∧ s.nextStrip x ≠ some k) ∧
    (∃ (s : State) (x : ℕ) (k : ℕ) (p : Plan) (y : ℕ), x < 24 ∧ (s.screen x).plan = some p ∧ (s.screen x).composing = some k ∧ s.scanning x p.frame = false ∧ y ≠ x) ∧
    (∃ (s : State) (x : ℕ) (k : ℕ) (y : ℕ), x < 24 ∧ ((s.screen x).composing ≠ some k ∨ y ≠ s.stripOutput x k)) ∧
    (∃ (s : State) (x : ℕ) (k : ℕ) (p : Plan) (y : ℕ), x < 24 ∧ (s.screen x).plan = some p ∧ s.scanning x p.frame = true ∧ s.pastDeadline x k = true ∧ s.nextStrip x = some k ∧ y ≠ x) ∧
    (∃ (s : State) (x : ℕ) (under : List ℕ), x < 24 ∧ (s.screen x).run = true ∧ (s.screen x).blanked = false ∧ s.member x = false ∧ (s.screen x).start + s.linesNs x (s.va x) ≤ s.nowAt (x / 12) ∧ (under = List.filter (fun k => !(s.screen x).scanWritten.contains k) (List.range (s.strips x))) ∧ (s.screen x).prev ≠ (s.screen x).start ∧ (s.screen x).scanWritten = []) ∧
    (∃ (s : State) (x : ℕ) (under : List ℕ), x < 24 ∧ (s.screen x).run = true ∧ (s.screen x).blanked = false ∧ s.member x = false ∧ (s.screen x).start + s.linesNs x (s.va x) ≤ s.nowAt (x / 12) ∧ (under = List.filter (fun k => !(s.screen x).scanWritten.contains k) (List.range (s.strips x))) ∧ (s.screen x).prev ≠ (s.screen x).start ∧ (s.screen x).scanWritten ≠ []) :=
  ⟨⟨(stateAt T07b.S7 1), 0, 1, by decide +kernel⟩,
   ⟨(stateAt T07b.S7 0), 0, by decide +kernel⟩,
   ⟨(stateAt T07b.S7 4), 3, 0, ({ frame := 1, layers := [{ slot := 2, z := 2, x0 := 0, x1 := 10, y0 := 0, y1 := 30, state := 1, treat := 0, mode := 0, alpha := 0, stitch := none, cap := none, budget := 0, age := none, tainted := [], pressed := false, buf := none, draws := none, path := { sess := 255, pic := none, copy := 0, cx := 0, cw := 0, cy := 0, ch := 0, dx := 0, dy := 0, dw := 1, dh := 1, matrix := 0, full := false, tone := { eotf := 0, white := 100, peak := 1000, custom := [], matrix := [], curve := [] } } }, { slot := 3, z := 3, x0 := 0, x1 := 10, y0 := 0, y1 := 30, state := 3, treat := 1, mode := 0, alpha := 0, stitch := none, cap := none, budget := 0, age := none, tainted := [], pressed := false, buf := none, draws := none, path := { sess := 255, pic := none, copy := 0, cx := 0, cw := 0, cy := 0, ch := 0, dx := 0, dy := 0, dw := 1, dh := 1, matrix := 0, full := false, tone := { eotf := 0, white := 100, peak := 1000, custom := [], matrix := [], curve := [] } } }], back := 0, crease := 0, card := 0, blank := 0, sig := (0, 0), white := 100 } : Plan), 0, by decide +kernel⟩,
   ⟨(stateAt T07b.S7 0), 0, 1, by decide +kernel⟩,
   ⟨(stateAt T07b.S7 9), 3, 2, ({ frame := 1, layers := [{ slot := 2, z := 2, x0 := 0, x1 := 10, y0 := 0, y1 := 30, state := 1, treat := 0, mode := 0, alpha := 0, stitch := none, cap := none, budget := 0, age := none, tainted := [], pressed := false, buf := none, draws := none, path := { sess := 255, pic := none, copy := 0, cx := 0, cw := 0, cy := 0, ch := 0, dx := 0, dy := 0, dw := 1, dh := 1, matrix := 0, full := false, tone := { eotf := 0, white := 100, peak := 1000, custom := [], matrix := [], curve := [] } } }, { slot := 3, z := 3, x0 := 0, x1 := 10, y0 := 0, y1 := 30, state := 3, treat := 1, mode := 0, alpha := 0, stitch := none, cap := none, budget := 0, age := none, tainted := [], pressed := false, buf := none, draws := none, path := { sess := 255, pic := none, copy := 0, cx := 0, cw := 0, cy := 0, ch := 0, dx := 0, dy := 0, dw := 1, dh := 1, matrix := 0, full := false, tone := { eotf := 0, white := 100, peak := 1000, custom := [], matrix := [], curve := [] } } }], back := 0, crease := 0, card := 0, blank := 0, sig := (0, 0), white := 100 } : Plan), 0, by decide +kernel⟩,
   ⟨(stateAt T07b.S7 0), 0, 0, 0, by decide +kernel⟩,
   ⟨(stateAt T07b.S7 7), 3, 1, ({ frame := 0, layers := [{ slot := 2, z := 2, x0 := 0, x1 := 10, y0 := 0, y1 := 30, state := 1, treat := 0, mode := 0, alpha := 0, stitch := none, cap := none, budget := 0, age := none, tainted := [], pressed := false, buf := none, draws := none, path := { sess := 255, pic := none, copy := 0, cx := 0, cw := 0, cy := 0, ch := 0, dx := 0, dy := 0, dw := 1, dh := 1, matrix := 0, full := false, tone := { eotf := 0, white := 100, peak := 1000, custom := [], matrix := [], curve := [] } } }, { slot := 3, z := 3, x0 := 0, x1 := 10, y0 := 0, y1 := 30, state := 3, treat := 1, mode := 0, alpha := 0, stitch := none, cap := none, budget := 0, age := none, tainted := [], pressed := false, buf := none, draws := none, path := { sess := 255, pic := none, copy := 0, cx := 0, cw := 0, cy := 0, ch := 0, dx := 0, dy := 0, dw := 1, dh := 1, matrix := 0, full := false, tone := { eotf := 0, white := 100, peak := 1000, custom := [], matrix := [], curve := [] } } }], back := 0, crease := 0, card := 0, blank := 0, sig := (0, 0), white := 100 } : Plan), 0, by decide +kernel⟩,
   ⟨(stateAt T07b.S7 19), 3, [0, 1, 2], by decide +kernel⟩,
   ⟨(stateAt T07b.S7 16), 3, [], by decide +kernel⟩⟩

/-- The hypotheses of FramesAndStrips are met (part 2). -/
theorem witness_FramesAndStrips_2 :
    (∃ (s : State) (x : ℕ) (under : List ℕ) (y : ℕ), x < 24 ∧ (s.screen x).run = true ∧ (s.screen x).blanked = false ∧ s.member x = false ∧ (s.screen x).start + s.linesNs x (s.va x) ≤ s.nowAt (x / 12) ∧ (under = List.filter (fun k => !(s.screen x).scanWritten.contains k) (List.range (s.strips x))) ∧ y ≠ x) ∧
    (∃ (s : State) (x : ℕ) (under : List ℕ), x < 24 ∧ (s.screen x).run = true ∧ (s.screen x).blanked = false ∧ s.member x = false ∧ (s.screen x).start + s.linesNs x (s.va x) ≤ s.nowAt (x / 12) ∧ (under = List.filter (fun k => !(s.screen x).scanWritten.contains k) (List.range (s.strips x))) ∧ under ≠ []) ∧
    (∃ (s : State) (x : ℕ) (under : List ℕ), x < 24 ∧ (s.screen x).run = true ∧ (s.screen x).blanked = false ∧ s.member x = false ∧ (s.screen x).start + s.linesNs x (s.va x) ≤ s.nowAt (x / 12) ∧ (under = List.filter (fun k => !(s.screen x).scanWritten.contains k) (List.range (s.strips x))) ∧ s.power.phase = Phase.running) ∧
    (∃ (s : State) (x : ℕ), x < 24 ∧ (s.screen x).blanked = true) ∧
    (∃ (s : State) (x : ℕ) (line : ℕ), x < 24 ∧ (s.screen x).run = true ∧ s.member x = false ∧ line < 65535 ∧ line < s.vmax x ∧ (s.screen x).start + s.linesNs x line ≤ s.nowAt (x / 12) ∧ s.rn (scrIdx x) 24 = line ∧ bit (s.rn (scrIdx x) 23) 1 = true) ∧
    (∃ (s : State) (x : ℕ) (line : ℕ), x < 24 ∧ (s.screen x).run = true ∧ s.member x = false ∧ line < 65535 ∧ line < s.vmax x ∧ (s.screen x).start + s.linesNs x line ≤ s.nowAt (x / 12) ∧ s.rn (scrIdx x) 24 ≠ line ∧ s.rn (scrIdx x) 25 = line ∧ bit (s.rn (scrIdx x) 23) 2 = true) ∧
    (∃ (s : State) (x : ℕ) (line : ℕ), x < 24 ∧ (s.screen x).run = true ∧ s.member x = false ∧ line < 65535 ∧ line < s.vmax x ∧ (s.screen x).start + s.linesNs x line ≤ s.nowAt (x / 12) ∧ s.rn (scrIdx x) 24 ≠ line ∧ s.rn (scrIdx x) 25 ≠ line) ∧
    (∃ (s : State) (x : ℕ) (line : ℕ), x < 24 ∧ s.vmax x ≤ line) :=
  ⟨⟨(stateAt T07b.S7 1), 0, [0, 1, 2, 3, 4, 5, 6, 7, 8, 9, 10, 11, 12, 13, 14, 15, 16, 17, 18, 19, 20, 21, 22, 23, 24, 25, 26, 27, 28, 29, 30, 31, 32, 33, 34, 35, 36, 37, 38, 39, 40, 41, 42, 43, 44, 45, 46, 47, 48, 49, 50, 51, 52, 53, 54, 55, 56, 57, 58, 59, 60, 61, 62, 63, 64, 65, 66, 67, 68, 69, 70, 71, 72, 73, 74], 1, by decide +kernel⟩,
   ⟨(stateAt T07b.S7 1), 0, [0, 1, 2, 3, 4, 5, 6, 7, 8, 9, 10, 11, 12, 13, 14, 15, 16, 17, 18, 19, 20, 21, 22, 23, 24, 25, 26, 27, 28, 29, 30, 31, 32, 33, 34, 35, 36, 37, 38, 39, 40, 41, 42, 43, 44, 45, 46, 47, 48, 49, 50, 51, 52, 53, 54, 55, 56, 57, 58, 59, 60, 61, 62, 63, 64, 65, 66, 67, 68, 69, 70, 71, 72, 73, 74], by decide +kernel⟩,
   ⟨(stateAt T07b.S7 1), 0, [0, 1, 2, 3, 4, 5, 6, 7, 8, 9, 10, 11, 12, 13, 14, 15, 16, 17, 18, 19, 20, 21, 22, 23, 24, 25, 26, 27, 28, 29, 30, 31, 32, 33, 34, 35, 36, 37, 38, 39, 40, 41, 42, 43, 44, 45, 46, 47, 48, 49, 50, 51, 52, 53, 54, 55, 56, 57, 58, 59, 60, 61, 62, 63, 64, 65, 66, 67, 68, 69, 70, 71, 72, 73, 74], by decide +kernel⟩,
   ⟨(stateAt T07b.S7 21), 3, by decide +kernel⟩,
   ⟨(stateAt T07b.S7 2), 3, 2, by decide +kernel⟩,
   ⟨(stateAt T07b.S7 2), 3, 3, by decide +kernel⟩,
   ⟨(stateAt T07b.S7 0), 0, 0, by decide +kernel⟩,
   ⟨(stateAt T07b.S7 0), 0, 65535, by decide +kernel⟩⟩

end Sys2Proof.Tests
end

