-- ==== Sys2Proof/Tests/Witness2.lean ====
section
/-! SUPPORT. Witnesses: for every statement with hypotheses, clause by clause, a concrete state and operands that meet them together. -/

namespace Sys2Proof.Tests

open Sys2Proof Sys2Proof.Machine

set_option Elab.async false

/-- The hypotheses of TimingsAndLinks are met (part 1). -/
theorem witness_TimingsAndLinks_1 :
    (∃ (s : State) (x : ℕ) (r : Req), x < 24 ∧ s.takes r = true ∧ s.timingCheck x ≠ 0) ∧
    (∃ (s : State) (x : ℕ) (r : Req) (y : ℕ), x < 24 ∧ s.takes r = true ∧ s.timingCheck x = 0 ∧ y ≠ x) ∧
    (∃ (s : State) (x : ℕ) (r : Req), x < 24 ∧ s.takes r = true ∧ s.timingCheck x = 0 ∧ s.rn (scrIdx x) 20 = 2) ∧
    (∃ (s : State) (x : ℕ) (r : Req) (code : ℕ), x < 24 ∧ s.takes r = true ∧ code ≤ 4 ∧ s.fn (scrIdx x) 1 = 0) ∧
    (∃ (s : State) (x : ℕ) (r : Req) (code : ℕ), x < 24 ∧ s.takes r = true ∧ code ≤ 4 ∧ s.fn (scrIdx x) 1 ≠ 0) ∧
    (∃ (s : State) (x : ℕ) (k : ℕ), x < 24 ∧ (s.screen x).applying = true ∧ k ∈ timingSubs) ∧
    (∃ (s : State) (x : ℕ), x < 24 ∧ (s.screen x).applying = false) ∧
    (∃ (s : State) (x : ℕ) (k : Sink) (failed : List LinkTry) (last : Option LinkTry) (ok : Bool) (l : LinkTry), x < 24 ∧ s.rn (scrIdx x) 20 = 1 ∧ (s.screen x).sink = some k ∧ s.trainingOk x (failed ++ last.toList) (ok && last.isSome) = true ∧ last = some l ∧ ok = true) ∧
    (∃ (s : State) (x : ℕ) (k : Sink) (failed : List LinkTry) (last : Option LinkTry) (ok : Bool), x < 24 ∧ s.rn (scrIdx x) 20 = 1 ∧ (s.screen x).sink = some k ∧ s.trainingOk x (failed ++ last.toList) (ok && last.isSome) = true ∧ (ok = false ∨ last = none)) :=
  ⟨⟨(stateAt T07c.S7 4), 3, Sys2Proof.Req.mailbox 3, by decide +kernel⟩,
   ⟨(stateAt T07c.S7 0), 0, Sys2Proof.Req.mailbox 3, 1, by decide +kernel⟩,
   ⟨(stateAt T07c.S7 2), 3, Sys2Proof.Req.mailbox 3, by decide +kernel⟩,
   ⟨(stateAt T07d.ww0 0), 3, Sys2Proof.Req.mailbox 3, 0, by decide +kernel⟩,
   ⟨(stateAt T07c.S7 0), 0, Sys2Proof.Req.mailbox 3, 0, by decide +kernel⟩,
   ⟨(stateAt T07c.S7 18), 3, 1, by decide +kernel⟩,
   ⟨(stateAt T07c.S7 0), 0, by decide +kernel⟩,
   ⟨(stateAt T07c.S7 13), 3, ({ dpcd := [0x12#8, 0x1e#8, 0xc4#8, 0x01#8, 0x00#8, 0x00#8, 0x00#8, 0x40#8, 0x00#8, 0x00#8, 0x00#8, 0x00#8, 0x00#8, 0x00#8, 0x00#8, 0x00#8], vscColorimetry := true, edid := [0x01#8, 0x02#8, 0x03#8] } : Sink), [], (some { rate := 3, lanes := 2, cr := [[(0, 0), (0, 0)]], eq := [[(1, 2), (1, 2)]] } : Option LinkTry), true, ({ rate := 3, lanes := 2, cr := [[(0, 0), (0, 0)]], eq := [[(1, 2), (1, 2)]] } : LinkTry), by decide +kernel⟩,
   ⟨(stateAt TZ2.ZT 0), 3, ({ dpcd := [0x12#8, 0x1e#8, 0xc4#8, 0x01#8, 0x00#8, 0x00#8, 0x00#8, 0x40#8, 0x00#8, 0x00#8, 0x00#8, 0x00#8, 0x00#8, 0x00#8, 0x00#8, 0x00#8], vscColorimetry := true, edid := [0x01#8, 0x02#8, 0x03#8] } : Sink), ([{ rate := 3, lanes := 2, cr := [[(0, 0), (0, 0)]], eq := [[(1, 2), (1, 2)]] }, { rate := 2, lanes := 2, cr := [[(0, 0), (0, 0)]], eq := [[(1, 2), (1, 2)]] }] : List LinkTry), (some { rate := 3, lanes := 1, cr := [[(0, 0)]], eq := [[(1, 2)]] } : Option LinkTry), false, by decide +kernel⟩⟩

/-- The hypotheses of TimingsAndLinks are met (part 2). -/
theorem witness_TimingsAndLinks_2 :
    (∃ (s : State) (x : ℕ) (k : Sink) (failed : List LinkTry) (last : Option LinkTry) (ok : Bool) (y : ℕ), x < 24 ∧ s.rn (scrIdx x) 20 = 1 ∧ (s.screen x).sink = some k ∧ s.trainingOk x (failed ++ last.toList) (ok && last.isSome) = true ∧ y ≠ x) ∧
    (∃ (s : State) (x : ℕ) (failed : List LinkTry) (last : Option LinkTry) (ok : Bool), x < 24 ∧ (s.rn (scrIdx x) 20 ≠ 1 ∨ (s.screen x).sink = none ∨ s.trainingOk x (failed ++ last.toList) (ok && last.isSome) = false)) ∧
    (∃ (s : State) (x : ℕ) (k : Sink), x < 24 ∧ s.member x = false ∧ bit (sinkCap k 7) 6 = false) ∧
    (∃ (s : State) (x : ℕ) (lane : ℕ) (align : ℕ) (status : ℕ), x < 24 ∧ s.member x = false ∧ (s.screen x).hpd = true ∧ align < 256 ∧ status = lane % 65536 + 65536 * align ∧ linkLost (s.rn (scrIdx x) 21 / 256) status = true ∧ s.rn (scrIdx x) 20 = 2) ∧
    (∃ (s : State) (x : ℕ) (lane : ℕ) (align : ℕ) (status : ℕ), x < 24 ∧ s.member x = false ∧ (s.screen x).hpd = true ∧ align < 256 ∧ status = lane % 65536 + 65536 * align ∧ linkLost (s.rn (scrIdx x) 21 / 256) status = false ∧ s.rn (scrIdx x) 20 ≠ 3) ∧
    (∃ (s : State) (x : ℕ) (lane : ℕ) (align : ℕ) (status : ℕ), x < 24 ∧ s.member x = false ∧ (s.screen x).hpd = true ∧ align < 256 ∧ status = lane % 65536 + 65536 * align ∧ s.rn (scrIdx x) 20 = 3) ∧
    (∃ (s : State) (x : ℕ) (lane : ℕ) (align : ℕ) (status : ℕ) (y : ℕ), x < 24 ∧ s.member x = false ∧ (s.screen x).hpd = true ∧ align < 256 ∧ status = lane % 65536 + 65536 * align ∧ y ≠ x) ∧
    (∃ (s : State) (x : ℕ), x < 24 ∧ (s.member x = true ∨ (s.screen x).hpd = false)) :=
  ⟨⟨(stateAt T07c.S7 13), 3, ({ dpcd := [0x12#8, 0x1e#8, 0xc4#8, 0x01#8, 0x00#8, 0x00#8, 0x00#8, 0x40#8, 0x00#8, 0x00#8, 0x00#8, 0x00#8, 0x00#8, 0x00#8, 0x00#8, 0x00#8], vscColorimetry := true, edid := [0x01#8, 0x02#8, 0x03#8] } : Sink), [], (some { rate := 3, lanes := 2, cr := [[(0, 0), (0, 0)]], eq := [[(1, 2), (1, 2)]] } : Option LinkTry), true, 0, by decide +kernel⟩,
   ⟨(stateAt T07c.S7 0), 0, [], none, true, by decide +kernel⟩,
   ⟨(stateAt T07c.S7 0), 0, ({ dpcd := [], vscColorimetry := true, edid := [0x01#8, 0x02#8, 0x03#8] } : Sink), by decide +kernel⟩,
   ⟨(stateAt T07c.S7 14), 3, 0, 0, 0, by decide +kernel⟩,
   ⟨(stateAt TZ2.ZT 1), 3, 119, 1, 65655, by decide +kernel⟩,
   ⟨(stateAt T07c.S7 15), 3, 0, 0, 0, by decide +kernel⟩,
   ⟨(stateAt T07c.S7 12), 3, 0, 0, 0, 0, by decide +kernel⟩,
   ⟨(stateAt T07c.S7 0), 0, by decide +kernel⟩⟩

/-- The hypotheses of StripsCutTheScreen are met. -/
theorem witness_StripsCutTheScreen :
    (∃ (s : State) (x : ℕ) (line : ℕ), line < s.va x) ∧
    (∃ (s : State) (x : ℕ) (k : ℕ), k + 1 < s.strips x) ∧
    (∃ (s : State) (x : ℕ), 0 < s.va x) ∧
    (∃ (s : State) (x : ℕ), s.va x = 1080) ∧
    (∃ (s : State) (x : ℕ), s.va x = 2400) :=
  ⟨⟨(stateAt T07c.ww0 0), 3, 0, by decide +kernel⟩,
   ⟨(stateAt T07c.ww0 0), 3, 3, by decide +kernel⟩,
   ⟨(stateAt T07c.ww0 0), 3, by decide +kernel⟩,
   ⟨(stateAt T07c.ww0 0), 3, by decide +kernel⟩,
   ⟨(stateAt T07c.ww0 1), 3, by decide +kernel⟩⟩

/-- The hypotheses of MirrorsEncodeAndSend are met (part 1). -/
theorem witness_MirrorsEncodeAndSend_1 :
    (∃ (s : State) (e : ℕ) (r : Req) (why : ℕ), e < 16 ∧ s.takes r = true ∧ s.encOn e = false ∧ (why = if s.encConfigOk e = false then 3 else if s.encSource e = false then 4 else 2) ∧ (why ≠ 2 ∨ s.encRoom e = none)) ∧
    (∃ (s : State) (e : ℕ) (r : Req) (c : ℕ) (d : ℕ), e < 16 ∧ s.takes r = true ∧ s.encOn e = false ∧ s.encConfigOk e = true ∧ s.encSource e = true ∧ s.encRoom e = some c ∧ d ≠ e) ∧
    (∃ (s : State) (e : ℕ) (r : Req) (d : ℕ), e < 16 ∧ s.takes r = true ∧ s.encOn e = true ∧ d ≠ e) ∧
    (∃ (s : State) (e : ℕ) (c : CodeS), e < 16 ∧ (s.enc e).coding = some c) ∧
    (∃ (s : State) (e : ℕ), e < 16 ∧ (s.enc e).coding = none) ∧
    (∃ (s : State) (e : ℕ) (a : EncAu) (q : List EncAu) (d : ℕ), e < 16 ∧ ((s.enc e).queue = a :: q) ∧ d ≠ e) ∧
    (∃ (s : State) (e : ℕ) (a : EncAu) (q : List EncAu), e < 16 ∧ ((s.enc e).queue = a :: q) ∧ s.encCanSend e = true) ∧
    (∃ (s : State) (e : ℕ) (a : EncAu) (q : List EncAu), e < 16 ∧ ((s.enc e).queue = a :: q) ∧ s.encCanSend e = false) :=
  ⟨⟨(stateAt T08.S8 0), 0, Sys2Proof.Req.mailbox 3, 3, by decide +kernel⟩,
   ⟨(stateAt T08.S8 0), 2, Sys2Proof.Req.mailbox 3, 0, 0, by decide +kernel⟩,
   ⟨(stateAt T08.S8 24), 2, Sys2Proof.Req.mailbox 3, 0, by decide +kernel⟩,
   ⟨(stateAt T08.S8 6), 2, ({ frame := 5, start := 1000, layer := none, strips := [0, 1], cap := none, fault := false, test := false, fresh := none, pix := [] } : CodeS), by decide +kernel⟩,
   ⟨(stateAt T08.S8 0), 0, by decide +kernel⟩,
   ⟨(stateAt T08.S8 6), 2, ({ ts := 5, label := [0x01#8], vui := [], first := true, left := 3 } : EncAu), [], 0, by decide +kernel⟩,
   ⟨(stateAt T08.S8 11), 2, ({ ts := 5, label := [0x01#8], vui := [], first := true, left := 3 } : EncAu), [], by decide +kernel⟩,
   ⟨(stateAt T08.S8 6), 2, ({ ts := 5, label := [0x01#8], vui := [], first := true, left := 3 } : EncAu), [], by decide +kernel⟩⟩

/-- The hypotheses of MirrorsEncodeAndSend are met (part 2). -/
theorem witness_MirrorsEncodeAndSend_2 :
    (∃ (s : State) (e : ℕ), e < 16 ∧ (s.enc e).queue = []) ∧
    (∃ (s : State) (t : ℕ) (e : ℕ) (d : ℕ), e < 16 ∧ (s.tick t).encOn e = true ∧ ((s.tick t).enc e).srAt + sTicks ≤ (s.tick t).clock ∧ d ≠ e) ∧
    (∃ (s : State) (t : ℕ) (e : ℕ), e < 16 ∧ (s.tick t).encOn e = true ∧ ((s.tick t).enc e).srAt + sTicks ≤ (s.tick t).clock ∧ (s.tick t).encCanSend e = false) ∧
    (∃ (s : State) (t : ℕ) (e : ℕ), e < 16 ∧ (s.tick t).encOn e = true ∧ ((s.tick t).enc e).srAt + sTicks ≤ (s.tick t).clock ∧ (s.tick t).encCanSend e = true) ∧
    (∃ (s : State) (e : ℕ), e < 16 ∧ (s.encOn e = false ∨ s.clock < (s.enc e).srAt + sTicks)) ∧
    (∃ (s : State) (e : ℕ) (a : List Byte), e < 16 ∧ s.encOn e = true ∧ s.encGroup e = false ∧ (s.enc e).hop = false ∧ s.rn (10512 + s.rn (eIdx e) 21) 10 = 1 ∧ s.encAddress e = true ∧ s.encHop e = some a) ∧
    (∃ (s : State) (e : ℕ), e < 16 ∧ (s.encOn e = false ∨ s.encGroup e = true ∨ (s.enc e).hop = true)) :=
  ⟨⟨(stateAt T08.S8 0), 0, by decide +kernel⟩,
   ⟨(stateAt T08.S8 24), 400000000, 2, 0, by decide +kernel⟩,
   ⟨(stateAt T08.S8 24), 400000000, 2, by decide +kernel⟩,
   ⟨(stateAt T08.S8 29), 400000000, 2, by decide +kernel⟩,
   ⟨(stateAt T08.S8 0), 0, by decide +kernel⟩,
   ⟨(stateAt T08.S8 24), 2, [0x0a#8, 0x00#8, 0x00#8, 0x09#8], by decide +kernel⟩,
   ⟨(stateAt T08.S8 0), 0, by decide +kernel⟩⟩

/-- The hypotheses of MessagesAreCheckedAndApplied are met. -/
theorem witness_MessagesAreCheckedAndApplied :
    (∃ (s : State) (p : ℕ), s.portHears p = false) ∧
    (∃ (s : State) (p : ℕ) (dst : List Byte) (src : List Byte) (dport : ℕ) (sport : ℕ) (b : List Byte) (n : ℕ), s.portHears p = true ∧ s.zttSession (ZttVia.udp p dst src dport sport) = some n ∧ n < 160 ∧ (b.length < 64 ∨ (zttHeader b).ok (b.length - 64) = false)) ∧
    (∃ (s : State) (p : ℕ) (dst : List Byte) (src : List Byte) (dport : ℕ) (sport : ℕ) (b : List Byte) (n : ℕ) (m : ℕ), s.portHears p = true ∧ s.zttSession (ZttVia.udp p dst src dport sport) = some n ∧ n < 160 ∧ 64 ≤ b.length ∧ (zttHeader b).ok (b.length - 64) = true ∧ (zttHeader b).sess = n ∧ s.zttOpen (ZttVia.udp p dst src dport sport) n = true ∧ s.sst n = sessRunning ∧ ((s.gfxOf n).expected = none ∨ (s.gfxOf n).expected = some (zttHeader b).seq) ∧ (∀ (x : ℕ), (s.gfxOf n).expected = some x → x < 2 ^ 32) ∧ m ≠ n) ∧
    (∃ (s : State) (q : ℕ), s.fetchDesc q 1 = none) ∧
    (∃ (s : State) (q : ℕ) (w : List Byte), q < 32 ∧ (s.ring q).running = true ∧ (s.ring q).kind = 1 ∧ serialAfter 32 (s.ring q).host (s.ring q).fetch = true ∧ w.length = 32 ∧ (bits (leNat w) 95 64 < 64 ∨ 37748800 < bits (leNat w) 95 64 ∨ bit (leNat w) 96 = true ∨ bits (leNat w) 255 97 ≠ 0)) ∧
    (∃ (s : State) (z : ℕ) (m : ZttWait) (y : ℕ), z < 4 ∧ s.engines.look z = none ∧ s.serves (coderKey z) = true ∧ s.dieLost (z / 2) = false ∧ (List.find? (fun m => !List.any s.engines fun p => decide (p.2.sess = m.sess)) s.zttQ = some m) ∧ y ≠ z) ∧
    (∃ (s : State) (z : ℕ) (m : ZttWait), z < 4 ∧ s.engines.look z = none ∧ s.serves (coderKey z) = true ∧ s.dieLost (z / 2) = false ∧ (List.find? (fun m => !List.any s.engines fun p => decide (p.2.sess = m.sess)) s.zttQ = some m) ∧ s.engLast.look z ≠ some m.sess) ∧
    (∃ (s : State) (z : ℕ), (4 ≤ z ∨ (s.engines.look z).isSome = true ∨ s.zttQ = [])) ∧
    (∃ (s : State) (z : ℕ) (m : ZttWait), s.engines.look z = some m ∧ m.defer = false ∧ m.hdr.coded = false ∧ m.hdr.restart = false ∧ (s.gfxOf m.sess).bufs.look m.hdr.buf = none) ∧
    (∃ (s : State) (z : ℕ) (m : ZttWait) (v : BufS) (n : ℕ) (h : ZttHdr) (b : ℕ), s.engines.look z = some m ∧ m.defer = false ∧ m.hdr.coded = false ∧ m.hdr.restart = false ∧ (s.gfxOf n).bufs.look h.buf = some v ∧ n = m.sess ∧ h = m.hdr ∧ h.typ = 1 ∧ h.present = false ∧ 0 < h.w ∧ h.x + h.w ≤ s.rn (sIdx n) 16 ∧ h.y + h.h ≤ s.rn (sIdx n) 17 ∧ h.cls = s.rn (22544 + n) 2 ∧ h.fmt ≤ 3 ∧ v.fmt = some h.fmt ∧ m.payload.length = h.w * h.h * bytesPerPixel h.fmt ∧ m.payload.length ≤ s.rn (22544 + n) 3 ∧ v.leased = false ∧ ((s.queued.any fun q => decide (q.msg.sess = n) && decide (q.msg.hdr.buf = h.buf)) = false) ∧ b ≠ h.buf) ∧
    (∃ (s : State) (z : ℕ) (m : ZttWait) (v : BufS) (n : ℕ) (h : ZttHdr) (k : ℕ), s.engines.look z = some m ∧ m.defer = false ∧ m.hdr.coded = false ∧ m.hdr.restart = false ∧ (s.gfxOf n).bufs.look h.buf = some v ∧ n = m.sess ∧ h = m.hdr ∧ h.typ = 1 ∧ h.present = false ∧ 0 < h.w ∧ h.x + h.w ≤ s.rn (sIdx n) 16 ∧ h.y + h.h ≤ s.rn (sIdx n) 17 ∧ h.cls = s.rn (22544 + n) 2 ∧ h.fmt ≤ 3 ∧ v.fmt = some h.fmt ∧ m.payload.length = h.w * h.h * bytesPerPixel h.fmt ∧ m.payload.length ≤ s.rn (22544 + n) 3 ∧ v.leased = false ∧ ((s.queued.any fun q => decide (q.msg.sess = n) && decide (q.msg.hdr.buf = h.buf)) = false) ∧ k ≠ n) ∧
    (∃ (c : ℕ) (input : List Byte) (d : ℕ), 160 ≤ c ∧ c < 168 ∧ input ≠ [] ∧ input.length ≤ 16384 ∧ d ≠ c) ∧
    (∃ (c : ℕ) (input : List Byte), (input = [] ∨ 16384 < input.length ∨ outContext c = false)) :=
  ⟨⟨(stateAt T08b.S8 0), 2, by decide +kernel⟩,
   ⟨(stateAt T08b.S8 0), 0, [0x0a#8, 0x00#8, 0x00#8, 0x01#8], (bytesAt T08b.ww0 0), 5004, 0, [0x0a#8, 0x00#8, 0x00#8, 0x01#8], 3, by decide +kernel⟩,
   ⟨(stateAt T08b.S8 0), 0, [0x0a#8, 0x00#8, 0x00#8, 0x01#8], (bytesAt T08b.ww0 0), 5004, 0, (bytesAt T08b.ww0 0), 3, 0, by decide +kernel⟩,
   ⟨(stateAt T08b.S8 0), 0, by decide +kernel⟩,
   ⟨(stateAt T08b.S8 8), 2, (bytesAt T08b.ww0 3), by decide +kernel⟩,
   ⟨(stateAt T08b.S8 4), 0, ({ sess := 4, via := Sys2Proof.ZttVia.udp 0 [] [] 0 0, desc := 5, hdr := { magic := 23124, version := 1, typ := 1, flags := 0, buf := 1, fmt := 0, cls := 0, sess := 3, rsv := 0, seq := 9, x := 0, y := 0, w := 2, h := 2, len := 8, rsv2 := 0, ident := 0, alive := 0, cap := 0, capNs := 0, crc := 0, lflags := 0, rsv3 := 0 }, payload := [0x02#8], arrived := 3, gap := false, defer := false } : ZttWait), 2, by decide +kernel⟩,
   ⟨(stateAt T08b.S8 4), 2, ({ sess := 4, via := Sys2Proof.ZttVia.udp 0 [] [] 0 0, desc := 5, hdr := { magic := 23124, version := 1, typ := 1, flags := 0, buf := 1, fmt := 0, cls := 0, sess := 3, rsv := 0, seq := 9, x := 0, y := 0, w := 2, h := 2, len := 8, rsv2 := 0, ident := 0, alive := 0, cap := 0, capNs := 0, crc := 0, lflags := 0, rsv3 := 0 }, payload := [0x02#8], arrived := 3, gap := false, defer := false } : ZttWait), by decide +kernel⟩,
   ⟨(stateAt T08b.S8 0), 0, by decide +kernel⟩,
   ⟨(stateAt T08b.S8 7), 2, ({ sess := 3, via := Sys2Proof.ZttVia.udp 0 [] [] 0 0, desc := 5, hdr := { magic := 23124, version := 1, typ := 1, flags := 0, buf := 1, fmt := 0, cls := 0, sess := 3, rsv := 0, seq := 9, x := 0, y := 0, w := 2, h := 2, len := 8, rsv2 := 0, ident := 0, alive := 0, cap := 0, capNs := 0, crc := 0, lflags := 0, rsv3 := 0 }, payload := [0x01#8, 0x02#8, 0x03#8, 0x04#8, 0x05#8, 0x06#8, 0x07#8, 0x08#8], arrived := 3, gap := false, defer := false } : ZttWait), by decide +kernel⟩,
   ⟨(stateAt T08b.S8 6), 2, ({ sess := 3, via := Sys2Proof.ZttVia.udp 0 [] [] 0 0, desc := 5, hdr := { magic := 23124, version := 1, typ := 1, flags := 0, buf := 1, fmt := 0, cls := 0, sess := 3, rsv := 0, seq := 9, x := 0, y := 0, w := 2, h := 2, len := 8, rsv2 := 0, ident := 0, alive := 0, cap := 0, capNs := 0, crc := 0, lflags := 0, rsv3 := 0 }, payload := [0x01#8, 0x02#8, 0x03#8, 0x04#8, 0x05#8, 0x06#8, 0x07#8, 0x08#8], arrived := 3, gap := false, defer := false } : ZttWait), ({ fmt := some 0, complete := true, version := 0, taint := [], data := [], gap := false, leased := false, replay := false, pic := none } : BufS), 3, ({ magic := 23124, version := 1, typ := 1, flags := 0, buf := 1, fmt := 0, cls := 0, sess := 3, rsv := 0, seq := 9, x := 0, y := 0, w := 2, h := 2, len := 8, rsv2 := 0, ident := 0, alive := 0, cap := 0, capNs := 0, crc := 0, lflags := 0, rsv3 := 0 } : ZttHdr), 0, by decide +kernel⟩,
   ⟨(stateAt T08b.S8 6), 2, ({ sess := 3, via := Sys2Proof.ZttVia.udp 0 [] [] 0 0, desc := 5, hdr := { magic := 23124, version := 1, typ := 1, flags := 0, buf := 1, fmt := 0, cls := 0, sess := 3, rsv := 0, seq := 9, x := 0, y := 0, w := 2, h := 2, len := 8, rsv2 := 0, ident := 0, alive := 0, cap := 0, capNs := 0, crc := 0, lflags := 0, rsv3 := 0 }, payload := [0x01#8, 0x02#8, 0x03#8, 0x04#8, 0x05#8, 0x06#8, 0x07#8, 0x08#8], arrived := 3, gap := false, defer := false } : ZttWait), ({ fmt := some 0, complete := true, version := 0, taint := [], data := [], gap := false, leased := false, replay := false, pic := none } : BufS), 3, ({ magic := 23124, version := 1, typ := 1, flags := 0, buf := 1, fmt := 0, cls := 0, sess := 3, rsv := 0, seq := 9, x := 0, y := 0, w := 2, h := 2, len := 8, rsv2 := 0, ident := 0, alive := 0, cap := 0, capNs := 0, crc := 0, lflags := 0, rsv3 := 0 } : ZttHdr), 0, by decide +kernel⟩,
   ⟨166, (bytesAt T08b.ww0 0), 0, by decide +kernel⟩,
   ⟨0, (bytesAt T08b.ww0 0), by decide +kernel⟩⟩

/-- The hypotheses of TouchPortsAndZones are met (part 1). -/
theorem witness_TouchPortsAndZones_1 :
    (∃ (s : State) (p : ℕ), p < 2 ∧ s.scan p ≠ scanOff ∧ s.scan p ≠ scanLost ∧ (∀ (a : ℕ), (s.tch p).last = some a → a + 1000000000 / s.scanRate p ≤ s.nowAt p)) ∧
    (∃ (s : State) (p : ℕ), p < 2 ∧ (s.scan p = scanOff ∨ s.scan p = scanLost)) ∧
    (∃ (s : State) (p : ℕ) (f : TFrame) (fs : List TFrame) (q : ℕ), p < 2 ∧ ((s.tch p).frames = f :: fs) ∧ s.power.wake = false ∧ s.restarting p Proc.tch = true ∧ q ≠ p) ∧
    (∃ (s : State) (p : ℕ) (f : TFrame) (fs : List TFrame) (q : ℕ), p < 2 ∧ ((s.tch p).frames = f :: fs) ∧ s.power.wake = false ∧ s.restarting p Proc.tch = false ∧ s.scan p ≠ scanWake ∧ q ≠ p) ∧
    (∃ (s : State) (p : ℕ) (f : TFrame) (fs : List TFrame) (z : ℕ), p < 2 ∧ ((s.tch p).frames = f :: fs) ∧ s.power.wake = false ∧ s.restarting p Proc.tch = false ∧ s.scan p ≠ scanWake ∧ f.hop = true ∧ z ∈ s.zonesOn p) ∧
    (∃ (s : State) (p : ℕ) (f : TFrame) (fs : List TFrame), p < 2 ∧ ((s.tch p).frames = f :: fs) ∧ s.power.wake = false ∧ s.restarting p Proc.tch = false ∧ s.scan p ≠ scanWake ∧ f.hop = false ∧ s.scan p = scanAcquiring ∧ (s.tch p).first = true) ∧
    (∃ (s : State) (p : ℕ), p < 2 ∧ (s.tch p).frames = [] ∧ s.power.wake = false) ∧
    (∃ (s : State) (p : ℕ) (r : Req) (q : ℕ), p < 2 ∧ s.takes r = true ∧ s.scan p = scanOff ∧ q ≠ p) ∧
    (∃ (s : State) (p : ℕ) (r : Req) (q : ℕ), p < 2 ∧ s.takes r = true ∧ s.scan p ≠ scanLost ∧ q ≠ p) ∧
    (∃ (s : State) (p : ℕ) (r : Req) (z : ℕ), p < 2 ∧ s.takes r = true ∧ s.scan p ≠ scanLost ∧ z ∈ s.zonesOn p) ∧
    (∃ (s : State) (p : ℕ) (r : Req) (sub : ℕ) (v : ℕ) (q : ℕ), p < 2 ∧ s.takes r = true ∧ (sub = 2 ∧ v ≤ 1 ∨ sub = 3 ∧ 2 ≤ v ∧ v ≤ 64 ∨ sub = 4 ∧ 2 ≤ v ∧ v ≤ 112 ∨ (sub = 5 ∨ sub = 6) ∧ 1000 ≤ v ∧ v ≤ 20000) ∧ q ≠ p) :=
  ⟨⟨(stateAt T09.S9 12), 0, by decide +kernel⟩,
   ⟨(stateAt T09.S9 0), 0, by decide +kernel⟩,
   ⟨(stateAt T09b.S9 2), 0, ({ num := 3, start := 100, cur := 1, cand := 2, hop := true } : TFrame), ([{ num := 4, start := 200, cur := 2, cand := 2, hop := false }] : List TFrame), 3, by decide +kernel⟩,
   ⟨(stateAt T09.S9 3), 0, ({ num := 3, start := 100, cur := 1, cand := 2, hop := false } : TFrame), [], 3, by decide +kernel⟩,
   ⟨(stateAt T09.S9 7), 0, ({ num := 3, start := 100, cur := 1, cand := 2, hop := true } : TFrame), ([{ num := 4, start := 200, cur := 2, cand := 2, hop := false }] : List TFrame), 3, by decide +kernel⟩,
   ⟨(stateAt T09.S9 27), 0, ({ num := 3, start := 100, cur := 1, cand := 2, hop := false } : TFrame), [], by decide +kernel⟩,
   ⟨(stateAt T09.S9 0), 0, by decide +kernel⟩,
   ⟨(stateAt T09.S9 0), 0, Sys2Proof.Req.mailbox 3, 3, by decide +kernel⟩,
   ⟨(stateAt T09.S9 0), 0, Sys2Proof.Req.mailbox 3, 3, by decide +kernel⟩,
   ⟨(stateAt T09.S9 1), 0, Sys2Proof.Req.mailbox 3, 3, by decide +kernel⟩,
   ⟨(stateAt T09.S9 0), 0, Sys2Proof.Req.mailbox 3, 2, 0, 3, by decide +kernel⟩⟩

/-- The hypotheses of TouchPortsAndZones are met (part 2). -/
theorem witness_TouchPortsAndZones_2 :
    (∃ (s : State) (p : ℕ) (r : Req) (bad : Bool), p < 2 ∧ s.takes r = true ∧ (bad = ((decide (s.scan p ≠ scanScanning) || (s.tch p).contacts.any fun x => x.shown) || bit (s.rn (tIdx p) 31) 0 || (s.tch p).nodes.any fun x => x.fault)) ∧ bad = true) ∧
    (∃ (s : State) (p : ℕ) (r : Req) (bad : Bool), p < 2 ∧ s.takes r = true ∧ (bad = ((decide (s.scan p ≠ scanScanning) || (s.tch p).contacts.any fun x => x.shown) || bit (s.rn (tIdx p) 31) 0 || (s.tch p).nodes.any fun x => x.fault)) ∧ bad = false ∧ s.power.fail = false) ∧
    (∃ (s : State) (p : ℕ) (r : Req) (bad : Bool), p < 2 ∧ s.takes r = true ∧ (bad = ((decide (s.scan p ≠ scanScanning) || (s.tch p).contacts.any fun x => x.shown) || bit (s.rn (tIdx p) 31) 0 || (s.tch p).nodes.any fun x => x.fault)) ∧ bad = false ∧ s.power.fail = true) ∧
    (∃ (s : State) (p : ℕ) (r : Req) (bad : Bool) (q : ℕ), p < 2 ∧ s.takes r = true ∧ (bad = ((decide (s.scan p ≠ scanScanning) || (s.tch p).contacts.any fun x => x.shown) || bit (s.rn (tIdx p) 31) 0 || (s.tch p).nodes.any fun x => x.fault)) ∧ bad = false ∧ q ≠ p) ∧
    (∃ (s : State) (p : ℕ) (r : Req) (z : ℕ), p < 2 ∧ s.takes r = true ∧ (s.scan p = scanScanning ∨ s.scan p = scanAcquiring) ∧ z ∈ s.zonesOn p) ∧
    (∃ (s : State) (p : ℕ) (r : Req) (q : ℕ), p < 2 ∧ s.takes r = true ∧ (s.scan p = scanScanning ∨ s.scan p = scanAcquiring) ∧ q ≠ p) ∧
    (∃ (s : State) (p : ℕ) (r : Req), p < 2 ∧ s.takes r = true ∧ s.scan p ≠ scanScanning ∧ s.scan p ≠ scanAcquiring) ∧
    (∃ (s : State) (p : ℕ) (r : Req) (z : ℕ) (x : ℕ) (bad : Bool), p < 2 ∧ s.takes r = true ∧ z < 16 ∧ x = zIdx p z ∧ (bad = (decide (s.rn x 3 < s.rn x 2) || decide (s.rn x 5 < s.rn x 4) || decide (s.rn (tIdx p) 3 ≤ s.rn x 3) || decide (s.rn (tIdx p) 4 ≤ s.rn x 5) || (s.zonesOn p).any fun y => decide (y ≠ z) && s.zonesMeet p z y)) ∧ bad = true) ∧
    (∃ (s : State) (p : ℕ) (r : Req) (z : ℕ) (x : ℕ) (bad : Bool) (q : ℕ), p < 2 ∧ s.takes r = true ∧ z < 16 ∧ x = zIdx p z ∧ (bad = (decide (s.rn x 3 < s.rn x 2) || decide (s.rn x 5 < s.rn x 4) || decide (s.rn (tIdx p) 3 ≤ s.rn x 3) || decide (s.rn (tIdx p) 4 ≤ s.rn x 5) || (s.zonesOn p).any fun y => decide (y ≠ z) && s.zonesMeet p z y)) ∧ bad = false ∧ q ≠ p) ∧
    (∃ (s : State) (p : ℕ) (r : Req) (z : ℕ) (x : ℕ), p < 2 ∧ s.takes r = true ∧ z < 16 ∧ x = zIdx p z ∧ s.rn x 1 = 0) ∧
    (∃ (s : State) (p : ℕ) (r : Req) (z : ℕ) (x : ℕ) (q : ℕ), p < 2 ∧ s.takes r = true ∧ z < 16 ∧ x = zIdx p z ∧ s.rn x 1 ≠ 0 ∧ q ≠ p) :=
  ⟨⟨(stateAt T09.S9 0), 0, Sys2Proof.Req.mailbox 3, true, by decide +kernel⟩,
   ⟨(stateAt T09.S9 12), 0, Sys2Proof.Req.mailbox 3, false, by decide +kernel⟩,
   ⟨(stateAt T09b.S9 1), 0, Sys2Proof.Req.mailbox 3, false, by decide +kernel⟩,
   ⟨(stateAt T09.S9 12), 0, Sys2Proof.Req.mailbox 3, false, 3, by decide +kernel⟩,
   ⟨(stateAt T09.S9 13), 0, Sys2Proof.Req.mailbox 3, 3, by decide +kernel⟩,
   ⟨(stateAt T09.S9 12), 0, Sys2Proof.Req.mailbox 3, 3, by decide +kernel⟩,
   ⟨(stateAt T09.S9 0), 0, Sys2Proof.Req.mailbox 3, by decide +kernel⟩,
   ⟨(stateAt T09.S9 1), 0, Sys2Proof.Req.mailbox 3, 0, 21568, true, by decide +kernel⟩,
   ⟨(stateAt T09.S9 0), 0, Sys2Proof.Req.mailbox 3, 0, 21568, false, 3, by decide +kernel⟩,
   ⟨(stateAt T09.S9 0), 0, Sys2Proof.Req.mailbox 3, 0, 21568, by decide +kernel⟩,
   ⟨(stateAt T09.S9 1), 0, Sys2Proof.Req.mailbox 3, 3, 21571, 3, by decide +kernel⟩⟩

/-- The hypotheses of MemoryServesTrainsAndReports are met (part 1). -/
theorem witness_MemoryServesTrainsAndReports_1 :
    (∃ (s : State), s.mem.training = false ∧ s.mem.refreshing = false ∧ s.rn 24576 6 = s.mem.next) ∧
    (∃ (s : State), s.mem.training = false ∧ s.mem.refreshing = false ∧ s.rn 24576 6 ≠ s.mem.next) ∧
    (∃ (s : State), (s.mem.training = true ∨ s.mem.refreshing = true)) ∧
    (∃ (s : State), s.mem.refreshing = true) ∧
    (∃ (a : ℤ) (rest : List ℤ) (top : ℤ), top = List.foldl max a rest ∧ 85 < top) ∧
    (∃ (a : ℤ) (rest : List ℤ) (top : ℤ), top = List.foldl max a rest ∧ 82 < top ∧ top ≤ 85) ∧
    (∃ (a : ℤ) (rest : List ℤ) (top : ℤ), top = List.foldl max a rest ∧ top ≤ 82) ∧
    (∃ (s : State) (r : Req) (sp : ℕ), s.takes r = true ∧ sp ≤ 2 ∧ s.mem.training = false) ∧
    (∃ (s : State) (r : Req) (sp : ℕ), s.takes r = true ∧ sp ≤ 2 ∧ s.mem.training = true ∧ s.mem.queued = none ∧ sp = s.rn 24576 3) ∧
    (∃ (s : State) (r : Req) (sp : ℕ), s.takes r = true ∧ sp ≤ 2 ∧ s.mem.training = true ∧ (s.mem.queued ≠ none ∨ sp ≠ s.rn 24576 3)) ∧
    (∃ (s : State) (r : Req) (sp : ℕ), s.takes r = true ∧ 2 < sp ∧ sp < 256) ∧
    (∃ (s : State) (sp : ℕ), s.mem.want = some sp ∧ s.mem.training = false) :=
  ⟨⟨(stateAt T09m.S9 0), by decide +kernel⟩,
   ⟨(stateAt T09m.S9 1), by decide +kernel⟩,
   ⟨(stateAt T09m.S9 2), by decide +kernel⟩,
   ⟨(stateAt T09m.S9 8), by decide +kernel⟩,
   ⟨0, [-1, 90], 90, by decide +kernel⟩,
   ⟨0, [85, 2], 85, by decide +kernel⟩,
   ⟨0, [], 0, by decide +kernel⟩,
   ⟨(stateAt T09m.S9 0), Sys2Proof.Req.mailbox 3, 0, by decide +kernel⟩,
   ⟨(stateAt T09m.S9 2), Sys2Proof.Req.mailbox 3, 0, by decide +kernel⟩,
   ⟨(stateAt T09m.S9 2), Sys2Proof.Req.mailbox 3, 1, by decide +kernel⟩,
   ⟨(stateAt T09m.S9 0), Sys2Proof.Req.mailbox 3, 3, by decide +kernel⟩,
   ⟨(stateAt T09m.S9 8), 1, by decide +kernel⟩⟩

/-- The hypotheses of MemoryServesTrainsAndReports are met (part 2). -/
theorem witness_MemoryServesTrainsAndReports_2 :
    (∃ (s : State), (s.mem.want = none ∨ s.mem.training = true)) ∧
    (∃ (s : State) (q : ℕ), s.mem.training = true ∧ s.loaded = true ∧ s.mem.queued = some q) ∧
    (∃ (s : State), (s.mem.training = false ∨ s.loaded = false)) ∧
    (∃ (s : State) (reached : List (Option ℕ)), s.mem.training = true ∧ s.loaded = false ∧ s.dieLost 0 = false ∧ s.dieLost 1 = false ∧ (∀ c < 8, ∃ p, reached[c]? = some (some p))) ∧
    (∃ (s : State), (s.mem.training = false ∨ s.loaded = true)) ∧
    (∃ (errs : List ℕ), errs = []) ∧
    (∃ (errs : List ℕ), errs ≠ []) ∧
    (∃ (s : State) (w : ℕ), s.eccOn w = false) ∧
    (∃ (s : State) (w : ℕ) (hit : List ℕ) (x : ℕ), s.eccOn w = true ∧ (hit = [] ∨ (∃ x, w = 3 ∧ hit = [x]) ∨ ∃ c, w = 5 ∧ hit = [0, c]) ∧ w = 3 ∧ hit = [x]) ∧
    (∃ (s : State) (w : ℕ) (hit : List ℕ) (c : ℕ), s.eccOn w = true ∧ (hit = [] ∨ (∃ x, w = 3 ∧ hit = [x]) ∨ ∃ c, w = 5 ∧ hit = [0, c]) ∧ w = 5 ∧ hit = [0, c]) ∧
    (∃ (x : ℕ) (y : ℕ), y ≠ x) :=
  ⟨⟨(stateAt T09m.S9 0), by decide +kernel⟩,
   ⟨(stateAt T09m.S9 4), 2, by decide +kernel⟩,
   ⟨(stateAt T09m.S9 0), by decide +kernel⟩,
   ⟨(stateAt T09m.S9 14), [some 0, some 0, some 0, some 0, some 0, some 0, some 0, some 0], by decide +kernel, by decide +kernel, by decide +kernel, by decide +kernel, fun c h => ⟨0, (by decide : ∀ c < 8, (List.replicate 8 (some 0))[c]? = some (some 0)) c h⟩⟩,
   ⟨(stateAt T09m.S9 0), by decide +kernel⟩,
   ⟨[], by decide +kernel⟩,
   ⟨[3], by decide +kernel⟩,
   ⟨(stateAt T09m.S9 0), 1000000000000, by decide +kernel⟩,
   ⟨(stateAt T09m.S9 0), 3, [3], 3, by decide +kernel, .inr (.inl ⟨3, by decide⟩), by decide +kernel⟩,
   ⟨(stateAt T09m.S9 0), 5, [0, 2], 2, by decide +kernel, .inr (.inr ⟨2, by decide⟩), by decide +kernel⟩,
   ⟨0, 3, by decide +kernel⟩⟩

/-- The hypotheses of LanesLockAndTest are met (part 1). -/
theorem witness_LanesLockAndTest_1 :
    (∃ (s : State) (l : ℕ) (line : List (Sys2Proof.Sym × ℕ)) (n : ℕ), l < 36 ∧ s.inTest l = false ∧ s.laneLocked l = false ∧ (n = (List.filter (fun x => decide (x.1 = Sym.bad)) line).length) ∧ 16 ≤ l ∧ l < 32 ∧ gainsLock 0 0 line = false) ∧
    (∃ (s : State) (l : ℕ) (line : List (Sys2Proof.Sym × ℕ)) (n : ℕ) (k : ℕ), l < 36 ∧ s.inTest l = false ∧ s.laneLocked l = false ∧ (n = (List.filter (fun x => decide (x.1 = Sym.bad)) line).length) ∧ (l < 16 ∨ 32 ≤ l ∨ gainsLock 0 0 line = true) ∧ k < 36 ∧ k ≠ l) ∧
    (∃ (s : State) (l : ℕ) (line : List (Sys2Proof.Sym × ℕ)) (n : ℕ), l < 36 ∧ s.inTest l = false ∧ s.laneLocked l = false ∧ (n = (List.filter (fun x => decide (x.1 = Sym.bad)) line).length) ∧ (l < 16 ∨ 32 ≤ l ∨ gainsLock 0 0 line = true) ∧ l < 16) ∧
    (∃ (s : State) (l : ℕ) (line : List (Sys2Proof.Sym × ℕ)) (n : ℕ), l < 36 ∧ s.inTest l = false ∧ s.laneLocked l = false ∧ (n = (List.filter (fun x => decide (x.1 = Sym.bad)) line).length) ∧ (l < 16 ∨ 32 ≤ l ∨ gainsLock 0 0 line = true) ∧ 16 ≤ l ∧ l < 32) ∧
    (∃ (s : State) (l : ℕ) (line : List (Sys2Proof.Sym × ℕ)) (n : ℕ), l < 36 ∧ s.inTest l = false ∧ s.laneLocked l = false ∧ (n = (List.filter (fun x => decide (x.1 = Sym.bad)) line).length) ∧ (l < 16 ∨ 32 ≤ l ∨ gainsLock 0 0 line = true) ∧ 32 ≤ l) ∧
    (∃ (s : State) (l : ℕ), (36 ≤ l ∨ s.inTest l = true ∨ s.laneLocked l = true)) ∧
    (∃ (s : State) (l : ℕ) (line : List Bool) (n : ℕ), l < 36 ∧ s.laneLocked l = true ∧ n = (List.filter id line).length ∧ 16 ≤ l ∧ l < 32 ∧ losesLock line = false) ∧
    (∃ (s : State) (l : ℕ) (line : List Bool) (n : ℕ), l < 36 ∧ s.laneLocked l = true ∧ n = (List.filter id line).length ∧ (l < 16 ∨ 32 ≤ l ∨ losesLock line = true) ∧ l < 16 ∧ s.rn (10512 + s.lanePort l) 10 ≠ 0) ∧
    (∃ (s : State) (l : ℕ) (line : List Bool) (n : ℕ), l < 36 ∧ s.laneLocked l = true ∧ n = (List.filter id line).length ∧ (l < 16 ∨ 32 ≤ l ∨ losesLock line = true) ∧ 16 ≤ l ∧ l < 32 ∧ s.spState ((l - 16) / 8) = spUp ∧ bit (s.rn (spIdx ((l - 16) / 8)) 6) ((l - 16) % 8) = true) ∧
    (∃ (s : State) (l : ℕ) (line : List Bool) (n : ℕ), l < 36 ∧ s.laneLocked l = true ∧ n = (List.filter id line).length ∧ (l < 16 ∨ 32 ≤ l ∨ losesLock line = true) ∧ 16 ≤ l ∧ l < 32 ∧ s.spState ((l - 16) / 8) = spUp ∧ bit (s.rn (spIdx ((l - 16) / 8)) 6) ((l - 16) % 8) = false) ∧
    (∃ (s : State) (l : ℕ), (36 ≤ l ∨ s.laneLocked l = false)) ∧
    (∃ (s : State) (r : Req) (idx : ℕ) (sub : ℕ), s.takes r = true ∧ s.od.wf = true ∧ boardKey (key idx sub) = true ∧ (s.od.look (key idx sub)).isSome = true) :=
  ⟨⟨(stateAt T10.S10 0), 16, [], 0, by decide +kernel⟩,
   ⟨(stateAt T10.S10 0), 0, [], 0, 1, by decide +kernel⟩,
   ⟨(stateAt T10.S10 0), 0, [], 0, by decide +kernel⟩,
   ⟨(stateAt T10.S10 0), 16, [(Sys2Proof.Sym.k285, 3), (Sys2Proof.Sym.k285, 3), (Sys2Proof.Sym.d 0x05#8, 3), (Sys2Proof.Sym.k285, 3)], 0, by decide +kernel⟩,
   ⟨(stateAt T10.S10 0), 32, [], 0, by decide +kernel⟩,
   ⟨(stateAt T10.S10 0), 129, by decide +kernel⟩,
   ⟨(stateAt T10.S10 9), 17, [], 0, by decide +kernel⟩,
   ⟨(stateAt T10.S10 18), 0, [], 0, by decide +kernel⟩,
   ⟨(stateAt T10.S10 15), 17, [true, false, true, true, false, true], 4, by decide +kernel⟩,
   ⟨(stateAt T10.S10 12), 17, [true, false, true, true, false, true], 4, by decide +kernel⟩,
   ⟨(stateAt T10.S10 0), 0, by decide +kernel⟩,
   ⟨(stateAt TZ3.ZL 1), Sys2Proof.Req.mailbox 3, 25616, 1, by decide +kernel⟩⟩

/-- The hypotheses of LanesLockAndTest are met (part 2). -/
theorem witness_LanesLockAndTest_2 :
    (∃ (s : State) (r : Req) (k : ℕ), s.takes r = true ∧ s.od.wf = true ∧ boardKey k = false) ∧
    (∃ (s : State) (q : ℕ) (fill : ℕ), (s.spState q ≠ spUp ∨ fill = 8)) ∧
    (∃ (s : State) (q : ℕ) (fill : ℕ), s.spState q = spUp ∧ fill ≠ 8) ∧
    (∃ (s : State) (q : ℕ), s.spState q ≠ spUp) ∧
    (∃ (s : State) (q : ℕ) (p : ℕ), s.spState q = spUp ∧ p ≠ q) ∧
    (∃ (s : State) (r : Req) (l : ℕ) (code : ℕ) (sub : ℕ), s.takes r = true ∧ l < 36 ∧ code ≤ 4 ∧ sub = 4 ∧ code ≤ 3) ∧
    (∃ (s : State) (r : Req) (l : ℕ) (code : ℕ) (sub : ℕ), s.takes r = true ∧ l < 36 ∧ code ≤ 4 ∧ sub = 5) ∧
    (∃ (s : State) (r : Req) (l : ℕ) (code : ℕ) (sub : ℕ), s.takes r = true ∧ l < 36 ∧ code ≤ 4 ∧ sub = 6) ∧
    (∃ (s : State) (l : ℕ) (line : List Bool), l < 36 ∧ s.rn (laneIdx l) 6 ≠ 0 ∧ prbsRun (s.rn (laneIdx l) 6) 0 [] line = true) ∧
    (∃ (s : State) (l : ℕ) (line : List Bool), (36 ≤ l ∨ s.rn (laneIdx l) 6 = 0 ∨ prbsRun (s.rn (laneIdx l) 6) 0 [] line = false)) ∧
    (∃ (s : State) (l : ℕ) (errors : ℕ), l < 36 ∧ s.rn (laneIdx l) 6 ≠ 0 ∧ s.rn (laneIdx l) 7 = 1 ∧ 128 < errors) ∧
    (∃ (s : State) (l : ℕ), (36 ≤ l ∨ s.rn (laneIdx l) 6 = 0 ∨ s.rn (laneIdx l) 7 = 0)) :=
  ⟨⟨(stateAt T10.S10 0), Sys2Proof.Req.mailbox 3, 0, by decide +kernel⟩,
   ⟨(stateAt T10.S10 0), 0, 0, by decide +kernel⟩,
   ⟨(stateAt T10.S10 3), 0, 0, by decide +kernel⟩,
   ⟨(stateAt T10.S10 0), 0, by decide +kernel⟩,
   ⟨(stateAt T10.S10 3), 0, 1, by decide +kernel⟩,
   ⟨(stateAt T10.S10 0), Sys2Proof.Req.mailbox 3, 0, 0, 4, by decide +kernel⟩,
   ⟨(stateAt T10.S10 0), Sys2Proof.Req.mailbox 3, 0, 0, 5, by decide +kernel⟩,
   ⟨(stateAt T10.S10 0), Sys2Proof.Req.mailbox 3, 0, 0, 6, by decide +kernel⟩,
   ⟨(stateAt T10.S10 36), 0, [true, true, true, true, true, true, true, false, false, false, false, false, false, true, false, false, false, false, false, true, true, false, false, false, false, true, false, true, false, false, false, true, true, true, true, false, false, true, false, false, false, true, false, true, true, false, false, true, true, true, false, true, false, true, false, false, true, true, true, true, true, false, true, false, false, false, false, true, true, true, false, false, false, true, false, false, true, false, false, true, true, false, true, true, false, true, false, true, true, false, true, true, true, true, false, true, true, false, false, false], by decide +kernel⟩,
   ⟨(stateAt T10.S10 0), 0, [], by decide +kernel⟩,
   ⟨(stateAt T10.S10 28), 34, 129, by decide +kernel⟩,
   ⟨(stateAt T10.S10 0), 0, by decide +kernel⟩⟩

/-- The hypotheses of SpaydunPortsTrainAndDeliver are met (part 1). -/
theorem witness_SpaydunPortsTrainAndDeliver_1 :
    (∃ (s : State) (q : ℕ) (r : Req), q < 2 ∧ s.takes r = true ∧ s.dieLost q = true) ∧
    (∃ (s : State) (q : ℕ) (r : Req) (p : ℕ), q < 2 ∧ s.takes r = true ∧ s.dieLost q = false ∧ s.spState q = spDisabled ∧ p ≠ q) ∧
    (∃ (s : State) (q : ℕ) (r : Req) (p : ℕ), q < 2 ∧ s.takes r = true ∧ s.dieLost q = false ∧ s.spState q ≠ spDisabled ∧ p ≠ q) ∧
    (∃ (s : State) (q : ℕ) (j : ℕ) (p : ℕ), q < 2 ∧ j < 8 ∧ s.spState q = spDown ∧ s.laneLocked (spLane q j) = true ∧ (s.lanes.at' (spLane q j) { }).lockAt + msTicks ≤ s.clock ∧ p ≠ q) ∧
    (∃ (s : State) (q : ℕ) (j : ℕ), q < 2 ∧ (s.spState q ≠ spDown ∨ s.laneLocked (spLane q j) = false)) ∧
    (∃ (s : State) (q : ℕ) (x : TrainSet) (p : ℕ), q < 2 ∧ (s.spState q = spTraining ∨ s.spState q = spRestriping) ∧ x.lane < 8 ∧ s.laneLocked (spLane q x.lane) = true ∧ trainOk x = false ∧ p ≠ q) ∧
    (∃ (s : State) (q : ℕ) (x : TrainSet), q < 2 ∧ (s.spState q = spTraining ∨ s.spState q = spRestriping) ∧ x.lane < 8 ∧ s.laneLocked (spLane q x.lane) = true ∧ trainOk x = true ∧ (x.flags ≠ 1 ∨ (if (decide (0 < ((s.sp q).sets.at' x.lane (0, 0, 0)).1) && decide (((s.sp q).sets.at' x.lane (0, 0, 0)).2 = (x.mask, s.localMask q))) = true then ((s.sp q).sets.at' x.lane (0, 0, 0)).1 + 1 else 1) < 3) ∧ (s.sp q).heard = true) ∧
    (∃ (s : State) (q : ℕ) (x : TrainSet), q < 2 ∧ (s.spState q = spTraining ∨ s.spState q = spRestriping) ∧ x.lane < 8 ∧ s.laneLocked (spLane q x.lane) = true ∧ trainOk x = true ∧ (x.flags ≠ 1 ∨ (if (decide (0 < ((s.sp q).sets.at' x.lane (0, 0, 0)).1) && decide (((s.sp q).sets.at' x.lane (0, 0, 0)).2 = (x.mask, s.localMask q))) = true then ((s.sp q).sets.at' x.lane (0, 0, 0)).1 + 1 else 1) < 3) ∧ (s.sp q).heard = false) ∧
    (∃ (s : State) (q : ℕ) (x : TrainSet) (p : ℕ), q < 2 ∧ (s.spState q = spTraining ∨ s.spState q = spRestriping) ∧ x.lane < 8 ∧ s.laneLocked (spLane q x.lane) = true ∧ trainOk x = true ∧ (x.flags ≠ 1 ∨ (if (decide (0 < ((s.sp q).sets.at' x.lane (0, 0, 0)).1) && decide (((s.sp q).sets.at' x.lane (0, 0, 0)).2 = (x.mask, s.localMask q))) = true then ((s.sp q).sets.at' x.lane (0, 0, 0)).1 + 1 else 1) < 3) ∧ p ≠ q) ∧
    (∃ (s : State) (q : ℕ) (x : TrainSet), q < 2 ∧ (s.spState q = spTraining ∨ s.spState q = spRestriping) ∧ x.lane < 8 ∧ s.laneLocked (spLane q x.lane) = true ∧ trainOk x = true ∧ x.flags = 1 ∧ (3 ≤ if (decide (0 < ((s.sp q).sets.at' x.lane (0, 0, 0)).1) && decide (((s.sp q).sets.at' x.lane (0, 0, 0)).2 = (x.mask, s.localMask q))) = true then ((s.sp q).sets.at' x.lane (0, 0, 0)).1 + 1 else 1) ∧ s.rn (spIdx q) 3 ≤ maskWidth ((s.localMask q).land x.mask) ∧ s.spState q = spTraining) ∧
    (∃ (s : State) (q : ℕ) (x : TrainSet), q < 2 ∧ (s.spState q = spTraining ∨ s.spState q = spRestriping) ∧ x.lane < 8 ∧ s.laneLocked (spLane q x.lane) = true ∧ trainOk x = true ∧ x.flags = 1 ∧ (3 ≤ if (decide (0 < ((s.sp q).sets.at' x.lane (0, 0, 0)).1) && decide (((s.sp q).sets.at' x.lane (0, 0, 0)).2 = (x.mask, s.localMask q))) = true then ((s.sp q).sets.at' x.lane (0, 0, 0)).1 + 1 else 1) ∧ s.rn (spIdx q) 3 ≤ maskWidth ((s.localMask q).land x.mask) ∧ s.spState q = spRestriping) ∧
    (∃ (s : State) (q : ℕ) (x : TrainSet) (p : ℕ), q < 2 ∧ (s.spState q = spTraining ∨ s.spState q = spRestriping) ∧ x.lane < 8 ∧ s.laneLocked (spLane q x.lane) = true ∧ trainOk x = true ∧ x.flags = 1 ∧ (3 ≤ if (decide (0 < ((s.sp q).sets.at' x.lane (0, 0, 0)).1) && decide (((s.sp q).sets.at' x.lane (0, 0, 0)).2 = (x.mask, s.localMask q))) = true then ((s.sp q).sets.at' x.lane (0, 0, 0)).1 + 1 else 1) ∧ s.rn (spIdx q) 3 ≤ maskWidth ((s.localMask q).land x.mask) ∧ p ≠ q) :=
  ⟨⟨(stateAt T10b.ww0 1), 0, Sys2Proof.Req.mailbox 3, by decide +kernel⟩,
   ⟨(stateAt T10b.ww0 0), 0, Sys2Proof.Req.mailbox 3, 1, by decide +kernel⟩,
   ⟨(stateAt T10b.ww0 30), 0, Sys2Proof.Req.mailbox 3, 1, by decide +kernel⟩,
   ⟨(stateAt T10b.ww0 45), 0, 0, 1, by decide +kernel⟩,
   ⟨(stateAt T10b.ww0 0), 0, 0, by decide +kernel⟩,
   ⟨(stateAt T10b.ww0 75), 0, ({ lane := 2, mask := 7, pkgPort := 3, flags := 1, check := 0 } : TrainSet), 1, by decide +kernel⟩,
   ⟨(stateAt TZ4.ZS 0), 0, ({ lane := 0, mask := 7, pkgPort := 3, flags := 1, check := 5 } : TrainSet), by decide +kernel⟩,
   ⟨(stateAt T10b.ww0 75), 0, ({ lane := 1, mask := 7, pkgPort := 3, flags := 1, check := 4 } : TrainSet), by decide +kernel⟩,
   ⟨(stateAt T10b.ww0 75), 0, ({ lane := 1, mask := 7, pkgPort := 3, flags := 1, check := 4 } : TrainSet), 1, by decide +kernel⟩,
   ⟨(stateAt T10b.ww0 75), 0, ({ lane := 0, mask := 7, pkgPort := 3, flags := 1, check := 5 } : TrainSet), by decide +kernel⟩,
   ⟨(stateAt T10b.ww0 135), 0, ({ lane := 0, mask := 7, pkgPort := 3, flags := 1, check := 5 } : TrainSet), by decide +kernel⟩,
   ⟨(stateAt T10b.ww0 75), 0, ({ lane := 0, mask := 7, pkgPort := 3, flags := 1, check := 5 } : TrainSet), 1, by decide +kernel⟩⟩

/-- The hypotheses of SpaydunPortsTrainAndDeliver are met (part 2). -/
theorem witness_SpaydunPortsTrainAndDeliver_2 :
    (∃ (s : State) (q : ℕ) (x : TrainSet), q < 2 ∧ (s.spState q = spTraining ∨ s.spState q = spRestriping) ∧ x.lane < 8 ∧ s.laneLocked (spLane q x.lane) = true ∧ trainOk x = true ∧ x.flags = 1 ∧ (3 ≤ if (decide (0 < ((s.sp q).sets.at' x.lane (0, 0, 0)).1) && decide (((s.sp q).sets.at' x.lane (0, 0, 0)).2 = (x.mask, s.localMask q))) = true then ((s.sp q).sets.at' x.lane (0, 0, 0)).1 + 1 else 1) ∧ maskWidth ((s.localMask q).land x.mask) < s.rn (spIdx q) 3 ∧ s.spState q = spTraining) ∧
    (∃ (s : State) (q : ℕ) (x : TrainSet), q < 2 ∧ (s.spState q = spTraining ∨ s.spState q = spRestriping) ∧ x.lane < 8 ∧ s.laneLocked (spLane q x.lane) = true ∧ trainOk x = true ∧ x.flags = 1 ∧ (3 ≤ if (decide (0 < ((s.sp q).sets.at' x.lane (0, 0, 0)).1) && decide (((s.sp q).sets.at' x.lane (0, 0, 0)).2 = (x.mask, s.localMask q))) = true then ((s.sp q).sets.at' x.lane (0, 0, 0)).1 + 1 else 1) ∧ maskWidth ((s.localMask q).land x.mask) < s.rn (spIdx q) 3 ∧ s.spState q = spRestriping) ∧
    (∃ (s : State) (q : ℕ) (x : TrainSet) (p : ℕ), q < 2 ∧ (s.spState q = spTraining ∨ s.spState q = spRestriping) ∧ x.lane < 8 ∧ s.laneLocked (spLane q x.lane) = true ∧ trainOk x = true ∧ x.flags = 1 ∧ (3 ≤ if (decide (0 < ((s.sp q).sets.at' x.lane (0, 0, 0)).1) && decide (((s.sp q).sets.at' x.lane (0, 0, 0)).2 = (x.mask, s.localMask q))) = true then ((s.sp q).sets.at' x.lane (0, 0, 0)).1 + 1 else 1) ∧ maskWidth ((s.localMask q).land x.mask) < s.rn (spIdx q) 3 ∧ p ≠ q) ∧
    (∃ (s : State) (q : ℕ) (p : ℕ), q < 2 ∧ s.spState q = spTraining ∧ (s.sp q).since + 10 * msTicks ≤ s.clock ∧ p ≠ q) ∧
    (∃ (s : State) (q : ℕ), q < 2 ∧ (s.spState q ≠ spTraining ∨ s.clock < (s.sp q).since + 10 * msTicks)) ∧
    (∃ (s : State) (q : ℕ) (p : ℕ), q < 2 ∧ s.spState q = spRestriping ∧ (s.sp q).lossAt + 2 * msTicks ≤ s.clock ∧ p ≠ q) ∧
    (∃ (s : State) (q : ℕ), q < 2 ∧ (s.spState q ≠ spRestriping ∨ s.clock < (s.sp q).lossAt + 2 * msTicks)) ∧
    (∃ (s : State) (q : ℕ) (j : ℕ) (p : ℕ), q < 2 ∧ j < 8 ∧ s.spState q = spUp ∧ s.laneLocked (spLane q j) = true ∧ bit (s.rn (spIdx q) 6) j = false ∧ (s.lanes.at' (spLane q j) { }).lockAt + s.rn 25856 4 * msTicks ≤ s.clock ∧ s.rn (spIdx q) 5 < maskWidth (s.localMask q) ∧ p ≠ q) ∧
    (∃ (s : State) (q : ℕ), q < 2 ∧ (s.spState q ≠ spUp ∨ maskWidth (s.localMask q) ≤ s.rn (spIdx q) 5)) ∧
    (∃ (s : State) (q : ℕ) (p : ℕ), q < 2 ∧ s.spState q = spUp ∧ (s.sp q).unacked ≠ [] ∧ (s.sp q).progress + s.rn 25856 2 * usTicks ≤ s.clock ∧ (s.sp q).rounds < s.rn 25856 3 ∧ p ≠ q) ∧
    (∃ (s : State) (q : ℕ) (p : ℕ), q < 2 ∧ s.spState q = spUp ∧ (s.sp q).unacked ≠ [] ∧ (s.sp q).progress + s.rn 25856 2 * usTicks ≤ s.clock ∧ s.rn 25856 3 ≤ (s.sp q).rounds ∧ p ≠ q) ∧
    (∃ (s : State) (q : ℕ), q < 2 ∧ (s.spState q ≠ spUp ∨ (s.sp q).unacked = [])) :=
  ⟨⟨(stateAt T10b.ww0 77), 0, ({ lane := 0, mask := 7, pkgPort := 3, flags := 1, check := 5 } : TrainSet), by decide +kernel⟩,
   ⟨(stateAt T10b.ww0 137), 0, ({ lane := 0, mask := 7, pkgPort := 3, flags := 1, check := 5 } : TrainSet), by decide +kernel⟩,
   ⟨(stateAt T10b.ww0 77), 0, ({ lane := 0, mask := 7, pkgPort := 3, flags := 1, check := 5 } : TrainSet), 1, by decide +kernel⟩,
   ⟨(stateAt T10b.ww0 60), 0, 1, by decide +kernel⟩,
   ⟨(stateAt T10b.ww0 0), 0, by decide +kernel⟩,
   ⟨(stateAt T10b.ww0 120), 0, 1, by decide +kernel⟩,
   ⟨(stateAt T10b.ww0 0), 0, by decide +kernel⟩,
   ⟨(stateAt TZ4.ZS 1), 0, 2, 1, by decide +kernel⟩,
   ⟨(stateAt T10b.ww0 0), 0, by decide +kernel⟩,
   ⟨(stateAt T10b.ww0 93), 0, 1, by decide +kernel⟩,
   ⟨(stateAt T10b.ww0 96), 0, 1, by decide +kernel⟩,
   ⟨(stateAt T10b.ww0 0), 0, by decide +kernel⟩⟩

/-- The hypotheses of SpaydunPortsTrainAndDeliver are met (part 3). -/
theorem witness_SpaydunPortsTrainAndDeliver_3 :
    (∃ (s : State) (q : ℕ) (a : ℕ) (p : ℕ), q < 2 ∧ (s.sp q).ackAt = some a ∧ s.spState q = spUp ∧ a + 20 * usTicks ≤ s.clock ∧ p ≠ q) ∧
    (∃ (s : State) (q : ℕ), q < 2 ∧ (s.sp q).ackAt = none) ∧
    (∃ (s : State) (q : ℕ) (x : SpWire) (f : SpFrame), q < 2 ∧ f = s.spFrame q x ∧ (spIsOp f 0 = false ∨ s.spState q ≠ spUp)) ∧
    (∃ (s : State) (q : ℕ) (x : SpWire) (f : SpFrame), q < 2 ∧ f = s.spFrame q x ∧ spIsOp f 0 = true ∧ s.spState q = spUp ∧ f.framingOk = true ∧ f.payload.length ≤ 8192 ∧ f.crcOk = false) ∧
    (∃ (s : State) (q : ℕ) (x : SpWire) (f : SpFrame) (p : ℕ), q < 2 ∧ f = s.spFrame q x ∧ spIsOp f 0 = true ∧ s.spState q = spUp ∧ f.framingOk = true ∧ f.payload.length ≤ 8192 ∧ f.crcOk = true ∧ spFormOk f = true ∧ s.standalone = false ∧ s.epochOk f = true ∧ bit f.flags 0 = true ∧ bit f.flags 1 = true ∧ bit f.flags 2 = false ∧ f.dst = s.pkgId ∧ serialAfter 16 f.ack ((s.sp q).seqOf ftControl) = false ∧ p ≠ q) ∧
    (∃ (s : State) (q : ℕ) (f : SpOut) (n : ℕ) (pl : List Byte), q < 2 ∧ s.spState q = spUp ∧ (s.sp q).pick = some f ∧ (n = if f.ftype = ftControl ∧ bit f.flags 1 = true then 0 else (s.sp q).seqOf f.ftype) ∧ (pl = if f.ftype = ftMark then stampMark f.payload (time96 (s.clockOf q).1 (s.clockOf q).2) else f.payload) ∧ f.ftype = ftControl ∧ bit f.flags 1 = false) ∧
    (∃ (s : State) (q : ℕ) (f : SpOut) (n : ℕ) (pl : List Byte), q < 2 ∧ s.spState q = spUp ∧ (s.sp q).pick = some f ∧ (n = if f.ftype = ftControl ∧ bit f.flags 1 = true then 0 else (s.sp q).seqOf f.ftype) ∧ (pl = if f.ftype = ftMark then stampMark f.payload (time96 (s.clockOf q).1 (s.clockOf q).2) else f.payload) ∧ f.ftype ≠ ftControl) ∧
    (∃ (s : State) (q : ℕ) (f : SpOut) (n : ℕ) (pl : List Byte), q < 2 ∧ s.spState q = spUp ∧ (s.sp q).pick = some f ∧ (n = if f.ftype = ftControl ∧ bit f.flags 1 = true then 0 else (s.sp q).seqOf f.ftype) ∧ (pl = if f.ftype = ftMark then stampMark f.payload (time96 (s.clockOf q).1 (s.clockOf q).2) else f.payload) ∧ f.ftype = ftControl ∧ bit f.flags 1 = true) ∧
    (∃ (s : State) (q : ℕ) (f : SpOut) (n : ℕ) (pl : List Byte) (p : ℕ), q < 2 ∧ s.spState q = spUp ∧ (s.sp q).pick = some f ∧ (n = if f.ftype = ftControl ∧ bit f.flags 1 = true then 0 else (s.sp q).seqOf f.ftype) ∧ (pl = if f.ftype = ftMark then stampMark f.payload (time96 (s.clockOf q).1 (s.clockOf q).2) else f.payload) ∧ p ≠ q) ∧
    (∃ (s : State) (q : ℕ), q < 2 ∧ (s.spState q ≠ spUp ∨ (s.sp q).pick = none)) :=
  ⟨⟨(stateAt T10b.ww0 93), 0, 0, 1, by decide +kernel⟩,
   ⟨(stateAt T10b.ww0 0), 0, by decide +kernel⟩,
   ⟨(stateAt T10b.ww0 0), 0, (frameAt T10b.fs 0), ({ framingOk := true, crcOk := true, ftype := 3, src := 1, dst := 0, flags := 3, hops := 0, epoch := 0, gen := 1, seq := 0, ack := 65535, payload := [0x00#8, 0x00#8], rxNs := 5 } : SpFrame), by decide +kernel⟩,
   ⟨(stateAt T10b.ww0 90), 0, (frameAt T10b.fs 2), ({ framingOk := true, crcOk := false, ftype := 3, src := 1, dst := 0, flags := 3, hops := 0, epoch := 0, gen := 119, seq := 30464, ack := 0, payload := [0x00#8, 0x00#8], rxNs := 5 } : SpFrame), by decide +kernel⟩,
   ⟨(stateAt T10b.ww0 90), 0, (frameAt T10b.fs 0), ({ framingOk := true, crcOk := true, ftype := 3, src := 1, dst := 0, flags := 3, hops := 0, epoch := 0, gen := 1, seq := 0, ack := 65535, payload := [0x00#8, 0x00#8], rxNs := 5 } : SpFrame), 1, by decide +kernel⟩,
   ⟨(stateAt T10b.ww0 93), 0, ({ ftype := 3, src := 0, dst := 1, flags := 0, hops := 0, epoch := 0, gen := 0, payload := [0x00#8, 0x03#8, 0x01#8] } : SpOut), 1, [0x00#8, 0x03#8, 0x01#8], by decide +kernel⟩,
   ⟨(stateAt T10b.ww0 99), 0, ({ ftype := 5, src := 0, dst := 1, flags := 0, hops := 0, epoch := 0, gen := 0, payload := [0x01#8, 0x00#8, 0x00#8, 0x00#8, 0x00#8, 0x00#8, 0x00#8, 0x00#8, 0x00#8, 0x00#8, 0x00#8, 0x00#8, 0x00#8, 0x00#8] } : SpOut), 0, [0x01#8, 0x00#8, 0x00#8, 0x00#8, 0x00#8, 0x00#8, 0x00#8, 0x00#8, 0x00#8, 0x00#8, 0x00#8, 0x00#8, 0x00#8, 0x00#8, 0x00#8, 0x00#8, 0x00#8, 0x00#8, 0x00#8, 0x00#8], by decide +kernel⟩,
   ⟨(stateAt T10b.ww0 96), 0, ({ ftype := 3, src := 0, dst := 1, flags := 3, hops := 0, epoch := 0, gen := 0, payload := [0x00#8, 0x00#8] } : SpOut), 0, [0x00#8, 0x00#8], by decide +kernel⟩,
   ⟨(stateAt T10b.ww0 93), 0, ({ ftype := 3, src := 0, dst := 1, flags := 0, hops := 0, epoch := 0, gen := 0, payload := [0x00#8, 0x03#8, 0x01#8] } : SpOut), 1, [0x00#8, 0x03#8, 0x01#8], 1, by decide +kernel⟩,
   ⟨(stateAt T10b.ww0 0), 0, by decide +kernel⟩⟩

end Sys2Proof.Tests
end

