-- ==== Sys2Proof/Tests/Witness3.lean ====
section
/-! SUPPORT. Witnesses: for every statement with hypotheses, clause by clause, a concrete state and operands that meet them together. -/

namespace Sys2Proof.Tests

open Sys2Proof Sys2Proof.Machine

set_option Elab.async false

/-- The hypotheses of FramesAreCheckedAndRelaysRun are met (part 1). -/
theorem witness_FramesAreCheckedAndRelaysRun_1 :
    (∃ (s : State) (q : ℕ) (x : SpWire) (mine : Bool), q < 2 ∧ (Instr.acknowledgement 0 q x, mine) ∈ [(Instr.acknowledgement 0 q x, spIsOp (s.spFrame q x) 0), (Instr.timeMark 0 q x, decide ((s.spFrame q x).ftype = ftMark)), (Instr.pixelStrip 0 q x, decide ((s.spFrame q x).ftype = ftPixel)), (Instr.streamRelay 0 q x, decide ((s.spFrame q x).ftype = ftStream)), (Instr.digestFrame 0 q x, decide ((s.spFrame q x).ftype = ftDigest)), (Instr.presence 0 q x, spIsOp (s.spFrame q x) 1), (Instr.stage 0 q x, spIsOp (s.spFrame q x) 2), (Instr.staged 0 q x, spIsOp (s.spFrame q x) 3), (Instr.arm 0 q x, spIsOp (s.spFrame q x) 4), (Instr.armed 0 q x, spIsOp (s.spFrame q x) 5), (Instr.abort 0 q x, spIsOp (s.spFrame q x) 6), (Instr.applied 0 q x, spIsOp (s.spFrame q x) 7), (Instr.relayOpen 0 q x, spIsOp (s.spFrame q x) 8), (Instr.relayResult 0 q x, spIsOp (s.spFrame q x) 9), (Instr.relayClose 0 q x, spIsOp (s.spFrame q x) 10), (Instr.relayResync 0 q x, spIsOp (s.spFrame q x) 11), (Instr.rejoinRequest 0 q x, spIsOp (s.spFrame q x) 12), (Instr.rejoinGrant 0 q x, spIsOp (s.spFrame q x) 13), (Instr.imagePart 0 q x, spIsOp (s.spFrame q x) 14)] ∧ mine = false) ∧
    (∃ (s : State) (q : ℕ) (x : SpWire) (mine : Bool), q < 2 ∧ (Instr.timeMark 0 q x, mine) ∈ [(Instr.acknowledgement 0 q x, spIsOp (s.spFrame q x) 0), (Instr.timeMark 0 q x, decide ((s.spFrame q x).ftype = ftMark)), (Instr.pixelStrip 0 q x, decide ((s.spFrame q x).ftype = ftPixel)), (Instr.streamRelay 0 q x, decide ((s.spFrame q x).ftype = ftStream)), (Instr.digestFrame 0 q x, decide ((s.spFrame q x).ftype = ftDigest)), (Instr.presence 0 q x, spIsOp (s.spFrame q x) 1), (Instr.stage 0 q x, spIsOp (s.spFrame q x) 2), (Instr.staged 0 q x, spIsOp (s.spFrame q x) 3), (Instr.arm 0 q x, spIsOp (s.spFrame q x) 4), (Instr.armed 0 q x, spIsOp (s.spFrame q x) 5), (Instr.abort 0 q x, spIsOp (s.spFrame q x) 6), (Instr.applied 0 q x, spIsOp (s.spFrame q x) 7), (Instr.relayOpen 0 q x, spIsOp (s.spFrame q x) 8), (Instr.relayResult 0 q x, spIsOp (s.spFrame q x) 9), (Instr.relayClose 0 q x, spIsOp (s.spFrame q x) 10), (Instr.relayResync 0 q x, spIsOp (s.spFrame q x) 11), (Instr.rejoinRequest 0 q x, spIsOp (s.spFrame q x) 12), (Instr.rejoinGrant 0 q x, spIsOp (s.spFrame q x) 13), (Instr.imagePart 0 q x, spIsOp (s.spFrame q x) 14)] ∧ mine = false) ∧
    (∃ (s : State) (q : ℕ) (x : SpWire) (mine : Bool), q < 2 ∧ (Instr.pixelStrip 0 q x, mine) ∈ [(Instr.acknowledgement 0 q x, spIsOp (s.spFrame q x) 0), (Instr.timeMark 0 q x, decide ((s.spFrame q x).ftype = ftMark)), (Instr.pixelStrip 0 q x, decide ((s.spFrame q x).ftype = ftPixel)), (Instr.streamRelay 0 q x, decide ((s.spFrame q x).ftype = ftStream)), (Instr.digestFrame 0 q x, decide ((s.spFrame q x).ftype = ftDigest)), (Instr.presence 0 q x, spIsOp (s.spFrame q x) 1), (Instr.stage 0 q x, spIsOp (s.spFrame q x) 2), (Instr.staged 0 q x, spIsOp (s.spFrame q x) 3), (Instr.arm 0 q x, spIsOp (s.spFrame q x) 4), (Instr.armed 0 q x, spIsOp (s.spFrame q x) 5), (Instr.abort 0 q x, spIsOp (s.spFrame q x) 6), (Instr.applied 0 q x, spIsOp (s.spFrame q x) 7), (Instr.relayOpen 0 q x, spIsOp (s.spFrame q x) 8), (Instr.relayResult 0 q x, spIsOp (s.spFrame q x) 9), (Instr.relayClose 0 q x, spIsOp (s.spFrame q x) 10), (Instr.relayResync 0 q x, spIsOp (s.spFrame q x) 11), (Instr.rejoinRequest 0 q x, spIsOp (s.spFrame q x) 12), (Instr.rejoinGrant 0 q x, spIsOp (s.spFrame q x) 13), (Instr.imagePart 0 q x, spIsOp (s.spFrame q x) 14)] ∧ mine = false) ∧
    (∃ (s : State) (q : ℕ) (x : SpWire) (mine : Bool), q < 2 ∧ (Instr.streamRelay 0 q x, mine) ∈ [(Instr.acknowledgement 0 q x, spIsOp (s.spFrame q x) 0), (Instr.timeMark 0 q x, decide ((s.spFrame q x).ftype = ftMark)), (Instr.pixelStrip 0 q x, decide ((s.spFrame q x).ftype = ftPixel)), (Instr.streamRelay 0 q x, decide ((s.spFrame q x).ftype = ftStream)), (Instr.digestFrame 0 q x, decide ((s.spFrame q x).ftype = ftDigest)), (Instr.presence 0 q x, spIsOp (s.spFrame q x) 1), (Instr.stage 0 q x, spIsOp (s.spFrame q x) 2), (Instr.staged 0 q x, spIsOp (s.spFrame q x) 3), (Instr.arm 0 q x, spIsOp (s.spFrame q x) 4), (Instr.armed 0 q x, spIsOp (s.spFrame q x) 5), (Instr.abort 0 q x, spIsOp (s.spFrame q x) 6), (Instr.applied 0 q x, spIsOp (s.spFrame q x) 7), (Instr.relayOpen 0 q x, spIsOp (s.spFrame q x) 8), (Instr.relayResult 0 q x, spIsOp (s.spFrame q x) 9), (Instr.relayClose 0 q x, spIsOp (s.spFrame q x) 10), (Instr.relayResync 0 q x, spIsOp (s.spFrame q x) 11), (Instr.rejoinRequest 0 q x, spIsOp (s.spFrame q x) 12), (Instr.rejoinGrant 0 q x, spIsOp (s.spFrame q x) 13), (Instr.imagePart 0 q x, spIsOp (s.spFrame q x) 14)] ∧ mine = false) ∧
    (∃ (s : State) (q : ℕ) (x : SpWire) (mine : Bool), q < 2 ∧ (Instr.digestFrame 0 q x, mine) ∈ [(Instr.acknowledgement 0 q x, spIsOp (s.spFrame q x) 0), (Instr.timeMark 0 q x, decide ((s.spFrame q x).ftype = ftMark)), (Instr.pixelStrip 0 q x, decide ((s.spFrame q x).ftype = ftPixel)), (Instr.streamRelay 0 q x, decide ((s.spFrame q x).ftype = ftStream)), (Instr.digestFrame 0 q x, decide ((s.spFrame q x).ftype = ftDigest)), (Instr.presence 0 q x, spIsOp (s.spFrame q x) 1), (Instr.stage 0 q x, spIsOp (s.spFrame q x) 2), (Instr.staged 0 q x, spIsOp (s.spFrame q x) 3), (Instr.arm 0 q x, spIsOp (s.spFrame q x) 4), (Instr.armed 0 q x, spIsOp (s.spFrame q x) 5), (Instr.abort 0 q x, spIsOp (s.spFrame q x) 6), (Instr.applied 0 q x, spIsOp (s.spFrame q x) 7), (Instr.relayOpen 0 q x, spIsOp (s.spFrame q x) 8), (Instr.relayResult 0 q x, spIsOp (s.spFrame q x) 9), (Instr.relayClose 0 q x, spIsOp (s.spFrame q x) 10), (Instr.relayResync 0 q x, spIsOp (s.spFrame q x) 11), (Instr.rejoinRequest 0 q x, spIsOp (s.spFrame q x) 12), (Instr.rejoinGrant 0 q x, spIsOp (s.spFrame q x) 13), (Instr.imagePart 0 q x, spIsOp (s.spFrame q x) 14)] ∧ mine = false) ∧
    (∃ (s : State) (q : ℕ) (x : SpWire) (mine : Bool), q < 2 ∧ (Instr.presence 0 q x, mine) ∈ [(Instr.acknowledgement 0 q x, spIsOp (s.spFrame q x) 0), (Instr.timeMark 0 q x, decide ((s.spFrame q x).ftype = ftMark)), (Instr.pixelStrip 0 q x, decide ((s.spFrame q x).ftype = ftPixel)), (Instr.streamRelay 0 q x, decide ((s.spFrame q x).ftype = ftStream)), (Instr.digestFrame 0 q x, decide ((s.spFrame q x).ftype = ftDigest)), (Instr.presence 0 q x, spIsOp (s.spFrame q x) 1), (Instr.stage 0 q x, spIsOp (s.spFrame q x) 2), (Instr.staged 0 q x, spIsOp (s.spFrame q x) 3), (Instr.arm 0 q x, spIsOp (s.spFrame q x) 4), (Instr.armed 0 q x, spIsOp (s.spFrame q x) 5), (Instr.abort 0 q x, spIsOp (s.spFrame q x) 6), (Instr.applied 0 q x, spIsOp (s.spFrame q x) 7), (Instr.relayOpen 0 q x, spIsOp (s.spFrame q x) 8), (Instr.relayResult 0 q x, spIsOp (s.spFrame q x) 9), (Instr.relayClose 0 q x, spIsOp (s.spFrame q x) 10), (Instr.relayResync 0 q x, spIsOp (s.spFrame q x) 11), (Instr.rejoinRequest 0 q x, spIsOp (s.spFrame q x) 12), (Instr.rejoinGrant 0 q x, spIsOp (s.spFrame q x) 13), (Instr.imagePart 0 q x, spIsOp (s.spFrame q x) 14)] ∧ mine = false) ∧
    (∃ (s : State) (q : ℕ) (x : SpWire) (mine : Bool), q < 2 ∧ (Instr.stage 0 q x, mine) ∈ [(Instr.acknowledgement 0 q x, spIsOp (s.spFrame q x) 0), (Instr.timeMark 0 q x, decide ((s.spFrame q x).ftype = ftMark)), (Instr.pixelStrip 0 q x, decide ((s.spFrame q x).ftype = ftPixel)), (Instr.streamRelay 0 q x, decide ((s.spFrame q x).ftype = ftStream)), (Instr.digestFrame 0 q x, decide ((s.spFrame q x).ftype = ftDigest)), (Instr.presence 0 q x, spIsOp (s.spFrame q x) 1), (Instr.stage 0 q x, spIsOp (s.spFrame q x) 2), (Instr.staged 0 q x, spIsOp (s.spFrame q x) 3), (Instr.arm 0 q x, spIsOp (s.spFrame q x) 4), (Instr.armed 0 q x, spIsOp (s.spFrame q x) 5), (Instr.abort 0 q x, spIsOp (s.spFrame q x) 6), (Instr.applied 0 q x, spIsOp (s.spFrame q x) 7), (Instr.relayOpen 0 q x, spIsOp (s.spFrame q x) 8), (Instr.relayResult 0 q x, spIsOp (s.spFrame q x) 9), (Instr.relayClose 0 q x, spIsOp (s.spFrame q x) 10), (Instr.relayResync 0 q x, spIsOp (s.spFrame q x) 11), (Instr.rejoinRequest 0 q x, spIsOp (s.spFrame q x) 12), (Instr.rejoinGrant 0 q x, spIsOp (s.spFrame q x) 13), (Instr.imagePart 0 q x, spIsOp (s.spFrame q x) 14)] ∧ mine = false) ∧
    (∃ (s : State) (q : ℕ) (x : SpWire) (mine : Bool), q < 2 ∧ (Instr.staged 0 q x, mine) ∈ [(Instr.acknowledgement 0 q x, spIsOp (s.spFrame q x) 0), (Instr.timeMark 0 q x, decide ((s.spFrame q x).ftype = ftMark)), (Instr.pixelStrip 0 q x, decide ((s.spFrame q x).ftype = ftPixel)), (Instr.streamRelay 0 q x, decide ((s.spFrame q x).ftype = ftStream)), (Instr.digestFrame 0 q x, decide ((s.spFrame q x).ftype = ftDigest)), (Instr.presence 0 q x, spIsOp (s.spFrame q x) 1), (Instr.stage 0 q x, spIsOp (s.spFrame q x) 2), (Instr.staged 0 q x, spIsOp (s.spFrame q x) 3), (Instr.arm 0 q x, spIsOp (s.spFrame q x) 4), (Instr.armed 0 q x, spIsOp (s.spFrame q x) 5), (Instr.abort 0 q x, spIsOp (s.spFrame q x) 6), (Instr.applied 0 q x, spIsOp (s.spFrame q x) 7), (Instr.relayOpen 0 q x, spIsOp (s.spFrame q x) 8), (Instr.relayResult 0 q x, spIsOp (s.spFrame q x) 9), (Instr.relayClose 0 q x, spIsOp (s.spFrame q x) 10), (Instr.relayResync 0 q x, spIsOp (s.spFrame q x) 11), (Instr.rejoinRequest 0 q x, spIsOp (s.spFrame q x) 12), (Instr.rejoinGrant 0 q x, spIsOp (s.spFrame q x) 13), (Instr.imagePart 0 q x, spIsOp (s.spFrame q x) 14)] ∧ mine = false) ∧
    (∃ (s : State) (q : ℕ) (x : SpWire) (mine : Bool), q < 2 ∧ (Instr.arm 0 q x, mine) ∈ [(Instr.acknowledgement 0 q x, spIsOp (s.spFrame q x) 0), (Instr.timeMark 0 q x, decide ((s.spFrame q x).ftype = ftMark)), (Instr.pixelStrip 0 q x, decide ((s.spFrame q x).ftype = ftPixel)), (Instr.streamRelay 0 q x, decide ((s.spFrame q x).ftype = ftStream)), (Instr.digestFrame 0 q x, decide ((s.spFrame q x).ftype = ftDigest)), (Instr.presence 0 q x, spIsOp (s.spFrame q x) 1), (Instr.stage 0 q x, spIsOp (s.spFrame q x) 2), (Instr.staged 0 q x, spIsOp (s.spFrame q x) 3), (Instr.arm 0 q x, spIsOp (s.spFrame q x) 4), (Instr.armed 0 q x, spIsOp (s.spFrame q x) 5), (Instr.abort 0 q x, spIsOp (s.spFrame q x) 6), (Instr.applied 0 q x, spIsOp (s.spFrame q x) 7), (Instr.relayOpen 0 q x, spIsOp (s.spFrame q x) 8), (Instr.relayResult 0 q x, spIsOp (s.spFrame q x) 9), (Instr.relayClose 0 q x, spIsOp (s.spFrame q x) 10), (Instr.relayResync 0 q x, spIsOp (s.spFrame q x) 11), (Instr.rejoinRequest 0 q x, spIsOp (s.spFrame q x) 12), (Instr.rejoinGrant 0 q x, spIsOp (s.spFrame q x) 13), (Instr.imagePart 0 q x, spIsOp (s.spFrame q x) 14)] ∧ mine = false) ∧
    (∃ (s : State) (q : ℕ) (x : SpWire) (mine : Bool), q < 2 ∧ (Instr.armed 0 q x, mine) ∈ [(Instr.acknowledgement 0 q x, spIsOp (s.spFrame q x) 0), (Instr.timeMark 0 q x, decide ((s.spFrame q x).ftype = ftMark)), (Instr.pixelStrip 0 q x, decide ((s.spFrame q x).ftype = ftPixel)), (Instr.streamRelay 0 q x, decide ((s.spFrame q x).ftype = ftStream)), (Instr.digestFrame 0 q x, decide ((s.spFrame q x).ftype = ftDigest)), (Instr.presence 0 q x, spIsOp (s.spFrame q x) 1), (Instr.stage 0 q x, spIsOp (s.spFrame q x) 2), (Instr.staged 0 q x, spIsOp (s.spFrame q x) 3), (Instr.arm 0 q x, spIsOp (s.spFrame q x) 4), (Instr.armed 0 q x, spIsOp (s.spFrame q x) 5), (Instr.abort 0 q x, spIsOp (s.spFrame q x) 6), (Instr.applied 0 q x, spIsOp (s.spFrame q x) 7), (Instr.relayOpen 0 q x, spIsOp (s.spFrame q x) 8), (Instr.relayResult 0 q x, spIsOp (s.spFrame q x) 9), (Instr.relayClose 0 q x, spIsOp (s.spFrame q x) 10), (Instr.relayResync 0 q x, spIsOp (s.spFrame q x) 11), (Instr.rejoinRequest 0 q x, spIsOp (s.spFrame q x) 12), (Instr.rejoinGrant 0 q x, spIsOp (s.spFrame q x) 13), (Instr.imagePart 0 q x, spIsOp (s.spFrame q x) 14)] ∧ mine = false) ∧
    (∃ (s : State) (q : ℕ) (x : SpWire) (mine : Bool), q < 2 ∧ (Instr.abort 0 q x, mine) ∈ [(Instr.acknowledgement 0 q x, spIsOp (s.spFrame q x) 0), (Instr.timeMark 0 q x, decide ((s.spFrame q x).ftype = ftMark)), (Instr.pixelStrip 0 q x, decide ((s.spFrame q x).ftype = ftPixel)), (Instr.streamRelay 0 q x, decide ((s.spFrame q x).ftype = ftStream)), (Instr.digestFrame 0 q x, decide ((s.spFrame q x).ftype = ftDigest)), (Instr.presence 0 q x, spIsOp (s.spFrame q x) 1), (Instr.stage 0 q x, spIsOp (s.spFrame q x) 2), (Instr.staged 0 q x, spIsOp (s.spFrame q x) 3), (Instr.arm 0 q x, spIsOp (s.spFrame q x) 4), (Instr.armed 0 q x, spIsOp (s.spFrame q x) 5), (Instr.abort 0 q x, spIsOp (s.spFrame q x) 6), (Instr.applied 0 q x, spIsOp (s.spFrame q x) 7), (Instr.relayOpen 0 q x, spIsOp (s.spFrame q x) 8), (Instr.relayResult 0 q x, spIsOp (s.spFrame q x) 9), (Instr.relayClose 0 q x, spIsOp (s.spFrame q x) 10), (Instr.relayResync 0 q x, spIsOp (s.spFrame q x) 11), (Instr.rejoinRequest 0 q x, spIsOp (s.spFrame q x) 12), (Instr.rejoinGrant 0 q x, spIsOp (s.spFrame q x) 13), (Instr.imagePart 0 q x, spIsOp (s.spFrame q x) 14)] ∧ mine = false) ∧
    (∃ (s : State) (q : ℕ) (x : SpWire) (mine : Bool), q < 2 ∧ (Instr.applied 0 q x, mine) ∈ [(Instr.acknowledgement 0 q x, spIsOp (s.spFrame q x) 0), (Instr.timeMark 0 q x, decide ((s.spFrame q x).ftype = ftMark)), (Instr.pixelStrip 0 q x, decide ((s.spFrame q x).ftype = ftPixel)), (Instr.streamRelay 0 q x, decide ((s.spFrame q x).ftype = ftStream)), (Instr.digestFrame 0 q x, decide ((s.spFrame q x).ftype = ftDigest)), (Instr.presence 0 q x, spIsOp (s.spFrame q x) 1), (Instr.stage 0 q x, spIsOp (s.spFrame q x) 2), (Instr.staged 0 q x, spIsOp (s.spFrame q x) 3), (Instr.arm 0 q x, spIsOp (s.spFrame q x) 4), (Instr.armed 0 q x, spIsOp (s.spFrame q x) 5), (Instr.abort 0 q x, spIsOp (s.spFrame q x) 6), (Instr.applied 0 q x, spIsOp (s.spFrame q x) 7), (Instr.relayOpen 0 q x, spIsOp (s.spFrame q x) 8), (Instr.relayResult 0 q x, spIsOp (s.spFrame q x) 9), (Instr.relayClose 0 q x, spIsOp (s.spFrame q x) 10), (Instr.relayResync 0 q x, spIsOp (s.spFrame q x) 11), (Instr.rejoinRequest 0 q x, spIsOp (s.spFrame q x) 12), (Instr.rejoinGrant 0 q x, spIsOp (s.spFrame q x) 13), (Instr.imagePart 0 q x, spIsOp (s.spFrame q x) 14)] ∧ mine = false) :=
  ⟨⟨(stateAt T11.S11 0), 0, (frameAt T11.fS 3), false, by decide +kernel⟩,
   ⟨(stateAt T11.S11 0), 0, (frameAt T11.fS 0), false, by decide +kernel⟩,
   ⟨(stateAt T11.S11 0), 0, (frameAt T11.fS 0), false, by decide +kernel⟩,
   ⟨(stateAt T11.S11 0), 0, (frameAt T11.fS 0), false, by decide +kernel⟩,
   ⟨(stateAt T11.S11 0), 0, (frameAt T11.fS 0), false, by decide +kernel⟩,
   ⟨(stateAt T11.S11 0), 0, (frameAt T11.fS 0), false, by decide +kernel⟩,
   ⟨(stateAt T11.S11 0), 0, (frameAt T11.fS 0), false, by decide +kernel⟩,
   ⟨(stateAt T11.S11 0), 0, (frameAt T11.fS 0), false, by decide +kernel⟩,
   ⟨(stateAt T11.S11 0), 0, (frameAt T11.fS 0), false, by decide +kernel⟩,
   ⟨(stateAt T11.S11 0), 0, (frameAt T11.fS 0), false, by decide +kernel⟩,
   ⟨(stateAt T11.S11 0), 0, (frameAt T11.fS 0), false, by decide +kernel⟩,
   ⟨(stateAt T11.S11 0), 0, (frameAt T11.fS 0), false, by decide +kernel⟩⟩

/-- The hypotheses of FramesAreCheckedAndRelaysRun are met (part 2). -/
theorem witness_FramesAreCheckedAndRelaysRun_2 :
    (∃ (s : State) (q : ℕ) (x : SpWire) (mine : Bool), q < 2 ∧ (Instr.relayOpen 0 q x, mine) ∈ [(Instr.acknowledgement 0 q x, spIsOp (s.spFrame q x) 0), (Instr.timeMark 0 q x, decide ((s.spFrame q x).ftype = ftMark)), (Instr.pixelStrip 0 q x, decide ((s.spFrame q x).ftype = ftPixel)), (Instr.streamRelay 0 q x, decide ((s.spFrame q x).ftype = ftStream)), (Instr.digestFrame 0 q x, decide ((s.spFrame q x).ftype = ftDigest)), (Instr.presence 0 q x, spIsOp (s.spFrame q x) 1), (Instr.stage 0 q x, spIsOp (s.spFrame q x) 2), (Instr.staged 0 q x, spIsOp (s.spFrame q x) 3), (Instr.arm 0 q x, spIsOp (s.spFrame q x) 4), (Instr.armed 0 q x, spIsOp (s.spFrame q x) 5), (Instr.abort 0 q x, spIsOp (s.spFrame q x) 6), (Instr.applied 0 q x, spIsOp (s.spFrame q x) 7), (Instr.relayOpen 0 q x, spIsOp (s.spFrame q x) 8), (Instr.relayResult 0 q x, spIsOp (s.spFrame q x) 9), (Instr.relayClose 0 q x, spIsOp (s.spFrame q x) 10), (Instr.relayResync 0 q x, spIsOp (s.spFrame q x) 11), (Instr.rejoinRequest 0 q x, spIsOp (s.spFrame q x) 12), (Instr.rejoinGrant 0 q x, spIsOp (s.spFrame q x) 13), (Instr.imagePart 0 q x, spIsOp (s.spFrame q x) 14)] ∧ mine = false) ∧
    (∃ (s : State) (q : ℕ) (x : SpWire) (mine : Bool), q < 2 ∧ (Instr.relayResult 0 q x, mine) ∈ [(Instr.acknowledgement 0 q x, spIsOp (s.spFrame q x) 0), (Instr.timeMark 0 q x, decide ((s.spFrame q x).ftype = ftMark)), (Instr.pixelStrip 0 q x, decide ((s.spFrame q x).ftype = ftPixel)), (Instr.streamRelay 0 q x, decide ((s.spFrame q x).ftype = ftStream)), (Instr.digestFrame 0 q x, decide ((s.spFrame q x).ftype = ftDigest)), (Instr.presence 0 q x, spIsOp (s.spFrame q x) 1), (Instr.stage 0 q x, spIsOp (s.spFrame q x) 2), (Instr.staged 0 q x, spIsOp (s.spFrame q x) 3), (Instr.arm 0 q x, spIsOp (s.spFrame q x) 4), (Instr.armed 0 q x, spIsOp (s.spFrame q x) 5), (Instr.abort 0 q x, spIsOp (s.spFrame q x) 6), (Instr.applied 0 q x, spIsOp (s.spFrame q x) 7), (Instr.relayOpen 0 q x, spIsOp (s.spFrame q x) 8), (Instr.relayResult 0 q x, spIsOp (s.spFrame q x) 9), (Instr.relayClose 0 q x, spIsOp (s.spFrame q x) 10), (Instr.relayResync 0 q x, spIsOp (s.spFrame q x) 11), (Instr.rejoinRequest 0 q x, spIsOp (s.spFrame q x) 12), (Instr.rejoinGrant 0 q x, spIsOp (s.spFrame q x) 13), (Instr.imagePart 0 q x, spIsOp (s.spFrame q x) 14)] ∧ mine = false) ∧
    (∃ (s : State) (q : ℕ) (x : SpWire) (mine : Bool), q < 2 ∧ (Instr.relayClose 0 q x, mine) ∈ [(Instr.acknowledgement 0 q x, spIsOp (s.spFrame q x) 0), (Instr.timeMark 0 q x, decide ((s.spFrame q x).ftype = ftMark)), (Instr.pixelStrip 0 q x, decide ((s.spFrame q x).ftype = ftPixel)), (Instr.streamRelay 0 q x, decide ((s.spFrame q x).ftype = ftStream)), (Instr.digestFrame 0 q x, decide ((s.spFrame q x).ftype = ftDigest)), (Instr.presence 0 q x, spIsOp (s.spFrame q x) 1), (Instr.stage 0 q x, spIsOp (s.spFrame q x) 2), (Instr.staged 0 q x, spIsOp (s.spFrame q x) 3), (Instr.arm 0 q x, spIsOp (s.spFrame q x) 4), (Instr.armed 0 q x, spIsOp (s.spFrame q x) 5), (Instr.abort 0 q x, spIsOp (s.spFrame q x) 6), (Instr.applied 0 q x, spIsOp (s.spFrame q x) 7), (Instr.relayOpen 0 q x, spIsOp (s.spFrame q x) 8), (Instr.relayResult 0 q x, spIsOp (s.spFrame q x) 9), (Instr.relayClose 0 q x, spIsOp (s.spFrame q x) 10), (Instr.relayResync 0 q x, spIsOp (s.spFrame q x) 11), (Instr.rejoinRequest 0 q x, spIsOp (s.spFrame q x) 12), (Instr.rejoinGrant 0 q x, spIsOp (s.spFrame q x) 13), (Instr.imagePart 0 q x, spIsOp (s.spFrame q x) 14)] ∧ mine = false) ∧
    (∃ (s : State) (q : ℕ) (x : SpWire) (mine : Bool), q < 2 ∧ (Instr.relayResync 0 q x, mine) ∈ [(Instr.acknowledgement 0 q x, spIsOp (s.spFrame q x) 0), (Instr.timeMark 0 q x, decide ((s.spFrame q x).ftype = ftMark)), (Instr.pixelStrip 0 q x, decide ((s.spFrame q x).ftype = ftPixel)), (Instr.streamRelay 0 q x, decide ((s.spFrame q x).ftype = ftStream)), (Instr.digestFrame 0 q x, decide ((s.spFrame q x).ftype = ftDigest)), (Instr.presence 0 q x, spIsOp (s.spFrame q x) 1), (Instr.stage 0 q x, spIsOp (s.spFrame q x) 2), (Instr.staged 0 q x, spIsOp (s.spFrame q x) 3), (Instr.arm 0 q x, spIsOp (s.spFrame q x) 4), (Instr.armed 0 q x, spIsOp (s.spFrame q x) 5), (Instr.abort 0 q x, spIsOp (s.spFrame q x) 6), (Instr.applied 0 q x, spIsOp (s.spFrame q x) 7), (Instr.relayOpen 0 q x, spIsOp (s.spFrame q x) 8), (Instr.relayResult 0 q x, spIsOp (s.spFrame q x) 9), (Instr.relayClose 0 q x, spIsOp (s.spFrame q x) 10), (Instr.relayResync 0 q x, spIsOp (s.spFrame q x) 11), (Instr.rejoinRequest 0 q x, spIsOp (s.spFrame q x) 12), (Instr.rejoinGrant 0 q x, spIsOp (s.spFrame q x) 13), (Instr.imagePart 0 q x, spIsOp (s.spFrame q x) 14)] ∧ mine = false) ∧
    (∃ (s : State) (q : ℕ) (x : SpWire) (mine : Bool), q < 2 ∧ (Instr.rejoinRequest 0 q x, mine) ∈ [(Instr.acknowledgement 0 q x, spIsOp (s.spFrame q x) 0), (Instr.timeMark 0 q x, decide ((s.spFrame q x).ftype = ftMark)), (Instr.pixelStrip 0 q x, decide ((s.spFrame q x).ftype = ftPixel)), (Instr.streamRelay 0 q x, decide ((s.spFrame q x).ftype = ftStream)), (Instr.digestFrame 0 q x, decide ((s.spFrame q x).ftype = ftDigest)), (Instr.presence 0 q x, spIsOp (s.spFrame q x) 1), (Instr.stage 0 q x, spIsOp (s.spFrame q x) 2), (Instr.staged 0 q x, spIsOp (s.spFrame q x) 3), (Instr.arm 0 q x, spIsOp (s.spFrame q x) 4), (Instr.armed 0 q x, spIsOp (s.spFrame q x) 5), (Instr.abort 0 q x, spIsOp (s.spFrame q x) 6), (Instr.applied 0 q x, spIsOp (s.spFrame q x) 7), (Instr.relayOpen 0 q x, spIsOp (s.spFrame q x) 8), (Instr.relayResult 0 q x, spIsOp (s.spFrame q x) 9), (Instr.relayClose 0 q x, spIsOp (s.spFrame q x) 10), (Instr.relayResync 0 q x, spIsOp (s.spFrame q x) 11), (Instr.rejoinRequest 0 q x, spIsOp (s.spFrame q x) 12), (Instr.rejoinGrant 0 q x, spIsOp (s.spFrame q x) 13), (Instr.imagePart 0 q x, spIsOp (s.spFrame q x) 14)] ∧ mine = false) ∧
    (∃ (s : State) (q : ℕ) (x : SpWire) (mine : Bool), q < 2 ∧ (Instr.rejoinGrant 0 q x, mine) ∈ [(Instr.acknowledgement 0 q x, spIsOp (s.spFrame q x) 0), (Instr.timeMark 0 q x, decide ((s.spFrame q x).ftype = ftMark)), (Instr.pixelStrip 0 q x, decide ((s.spFrame q x).ftype = ftPixel)), (Instr.streamRelay 0 q x, decide ((s.spFrame q x).ftype = ftStream)), (Instr.digestFrame 0 q x, decide ((s.spFrame q x).ftype = ftDigest)), (Instr.presence 0 q x, spIsOp (s.spFrame q x) 1), (Instr.stage 0 q x, spIsOp (s.spFrame q x) 2), (Instr.staged 0 q x, spIsOp (s.spFrame q x) 3), (Instr.arm 0 q x, spIsOp (s.spFrame q x) 4), (Instr.armed 0 q x, spIsOp (s.spFrame q x) 5), (Instr.abort 0 q x, spIsOp (s.spFrame q x) 6), (Instr.applied 0 q x, spIsOp (s.spFrame q x) 7), (Instr.relayOpen 0 q x, spIsOp (s.spFrame q x) 8), (Instr.relayResult 0 q x, spIsOp (s.spFrame q x) 9), (Instr.relayClose 0 q x, spIsOp (s.spFrame q x) 10), (Instr.relayResync 0 q x, spIsOp (s.spFrame q x) 11), (Instr.rejoinRequest 0 q x, spIsOp (s.spFrame q x) 12), (Instr.rejoinGrant 0 q x, spIsOp (s.spFrame q x) 13), (Instr.imagePart 0 q x, spIsOp (s.spFrame q x) 14)] ∧ mine = false) ∧
    (∃ (s : State) (q : ℕ) (x : SpWire) (mine : Bool), q < 2 ∧ (Instr.imagePart 0 q x, mine) ∈ [(Instr.acknowledgement 0 q x, spIsOp (s.spFrame q x) 0), (Instr.timeMark 0 q x, decide ((s.spFrame q x).ftype = ftMark)), (Instr.pixelStrip 0 q x, decide ((s.spFrame q x).ftype = ftPixel)), (Instr.streamRelay 0 q x, decide ((s.spFrame q x).ftype = ftStream)), (Instr.digestFrame 0 q x, decide ((s.spFrame q x).ftype = ftDigest)), (Instr.presence 0 q x, spIsOp (s.spFrame q x) 1), (Instr.stage 0 q x, spIsOp (s.spFrame q x) 2), (Instr.staged 0 q x, spIsOp (s.spFrame q x) 3), (Instr.arm 0 q x, spIsOp (s.spFrame q x) 4), (Instr.armed 0 q x, spIsOp (s.spFrame q x) 5), (Instr.abort 0 q x, spIsOp (s.spFrame q x) 6), (Instr.applied 0 q x, spIsOp (s.spFrame q x) 7), (Instr.relayOpen 0 q x, spIsOp (s.spFrame q x) 8), (Instr.relayResult 0 q x, spIsOp (s.spFrame q x) 9), (Instr.relayClose 0 q x, spIsOp (s.spFrame q x) 10), (Instr.relayResync 0 q x, spIsOp (s.spFrame q x) 11), (Instr.rejoinRequest 0 q x, spIsOp (s.spFrame q x) 12), (Instr.rejoinGrant 0 q x, spIsOp (s.spFrame q x) 13), (Instr.imagePart 0 q x, spIsOp (s.spFrame q x) 14)] ∧ mine = false) ∧
    (∃ (s : State) (q : ℕ) (x : SpWire) (mine : Bool), q < 2 ∧ (Instr.acknowledgement 0 q x, mine) ∈ [(Instr.acknowledgement 0 q x, spIsOp (s.spFrame q x) 0), (Instr.timeMark 0 q x, decide ((s.spFrame q x).ftype = ftMark)), (Instr.pixelStrip 0 q x, decide ((s.spFrame q x).ftype = ftPixel)), (Instr.streamRelay 0 q x, decide ((s.spFrame q x).ftype = ftStream)), (Instr.digestFrame 0 q x, decide ((s.spFrame q x).ftype = ftDigest)), (Instr.presence 0 q x, spIsOp (s.spFrame q x) 1), (Instr.stage 0 q x, spIsOp (s.spFrame q x) 2), (Instr.staged 0 q x, spIsOp (s.spFrame q x) 3), (Instr.arm 0 q x, spIsOp (s.spFrame q x) 4), (Instr.armed 0 q x, spIsOp (s.spFrame q x) 5), (Instr.abort 0 q x, spIsOp (s.spFrame q x) 6), (Instr.applied 0 q x, spIsOp (s.spFrame q x) 7), (Instr.relayOpen 0 q x, spIsOp (s.spFrame q x) 8), (Instr.relayResult 0 q x, spIsOp (s.spFrame q x) 9), (Instr.relayClose 0 q x, spIsOp (s.spFrame q x) 10), (Instr.relayResync 0 q x, spIsOp (s.spFrame q x) 11), (Instr.rejoinRequest 0 q x, spIsOp (s.spFrame q x) 12), (Instr.rejoinGrant 0 q x, spIsOp (s.spFrame q x) 13), (Instr.imagePart 0 q x, spIsOp (s.spFrame q x) 14)] ∧ mine = true ∧ (s.receive q (s.spFrame q x)).2 = false) ∧
    (∃ (s : State) (q : ℕ) (x : SpWire) (mine : Bool), q < 2 ∧ (Instr.timeMark 0 q x, mine) ∈ [(Instr.acknowledgement 0 q x, spIsOp (s.spFrame q x) 0), (Instr.timeMark 0 q x, decide ((s.spFrame q x).ftype = ftMark)), (Instr.pixelStrip 0 q x, decide ((s.spFrame q x).ftype = ftPixel)), (Instr.streamRelay 0 q x, decide ((s.spFrame q x).ftype = ftStream)), (Instr.digestFrame 0 q x, decide ((s.spFrame q x).ftype = ftDigest)), (Instr.presence 0 q x, spIsOp (s.spFrame q x) 1), (Instr.stage 0 q x, spIsOp (s.spFrame q x) 2), (Instr.staged 0 q x, spIsOp (s.spFrame q x) 3), (Instr.arm 0 q x, spIsOp (s.spFrame q x) 4), (Instr.armed 0 q x, spIsOp (s.spFrame q x) 5), (Instr.abort 0 q x, spIsOp (s.spFrame q x) 6), (Instr.applied 0 q x, spIsOp (s.spFrame q x) 7), (Instr.relayOpen 0 q x, spIsOp (s.spFrame q x) 8), (Instr.relayResult 0 q x, spIsOp (s.spFrame q x) 9), (Instr.relayClose 0 q x, spIsOp (s.spFrame q x) 10), (Instr.relayResync 0 q x, spIsOp (s.spFrame q x) 11), (Instr.rejoinRequest 0 q x, spIsOp (s.spFrame q x) 12), (Instr.rejoinGrant 0 q x, spIsOp (s.spFrame q x) 13), (Instr.imagePart 0 q x, spIsOp (s.spFrame q x) 14)] ∧ mine = true ∧ (s.receive q (s.spFrame q x)).2 = false) ∧
    (∃ (s : State) (q : ℕ) (x : SpWire) (mine : Bool), q < 2 ∧ (Instr.pixelStrip 0 q x, mine) ∈ [(Instr.acknowledgement 0 q x, spIsOp (s.spFrame q x) 0), (Instr.timeMark 0 q x, decide ((s.spFrame q x).ftype = ftMark)), (Instr.pixelStrip 0 q x, decide ((s.spFrame q x).ftype = ftPixel)), (Instr.streamRelay 0 q x, decide ((s.spFrame q x).ftype = ftStream)), (Instr.digestFrame 0 q x, decide ((s.spFrame q x).ftype = ftDigest)), (Instr.presence 0 q x, spIsOp (s.spFrame q x) 1), (Instr.stage 0 q x, spIsOp (s.spFrame q x) 2), (Instr.staged 0 q x, spIsOp (s.spFrame q x) 3), (Instr.arm 0 q x, spIsOp (s.spFrame q x) 4), (Instr.armed 0 q x, spIsOp (s.spFrame q x) 5), (Instr.abort 0 q x, spIsOp (s.spFrame q x) 6), (Instr.applied 0 q x, spIsOp (s.spFrame q x) 7), (Instr.relayOpen 0 q x, spIsOp (s.spFrame q x) 8), (Instr.relayResult 0 q x, spIsOp (s.spFrame q x) 9), (Instr.relayClose 0 q x, spIsOp (s.spFrame q x) 10), (Instr.relayResync 0 q x, spIsOp (s.spFrame q x) 11), (Instr.rejoinRequest 0 q x, spIsOp (s.spFrame q x) 12), (Instr.rejoinGrant 0 q x, spIsOp (s.spFrame q x) 13), (Instr.imagePart 0 q x, spIsOp (s.spFrame q x) 14)] ∧ mine = true ∧ (s.receive q (s.spFrame q x)).2 = false) ∧
    (∃ (s : State) (q : ℕ) (x : SpWire) (mine : Bool), q < 2 ∧ (Instr.streamRelay 0 q x, mine) ∈ [(Instr.acknowledgement 0 q x, spIsOp (s.spFrame q x) 0), (Instr.timeMark 0 q x, decide ((s.spFrame q x).ftype = ftMark)), (Instr.pixelStrip 0 q x, decide ((s.spFrame q x).ftype = ftPixel)), (Instr.streamRelay 0 q x, decide ((s.spFrame q x).ftype = ftStream)), (Instr.digestFrame 0 q x, decide ((s.spFrame q x).ftype = ftDigest)), (Instr.presence 0 q x, spIsOp (s.spFrame q x) 1), (Instr.stage 0 q x, spIsOp (s.spFrame q x) 2), (Instr.staged 0 q x, spIsOp (s.spFrame q x) 3), (Instr.arm 0 q x, spIsOp (s.spFrame q x) 4), (Instr.armed 0 q x, spIsOp (s.spFrame q x) 5), (Instr.abort 0 q x, spIsOp (s.spFrame q x) 6), (Instr.applied 0 q x, spIsOp (s.spFrame q x) 7), (Instr.relayOpen 0 q x, spIsOp (s.spFrame q x) 8), (Instr.relayResult 0 q x, spIsOp (s.spFrame q x) 9), (Instr.relayClose 0 q x, spIsOp (s.spFrame q x) 10), (Instr.relayResync 0 q x, spIsOp (s.spFrame q x) 11), (Instr.rejoinRequest 0 q x, spIsOp (s.spFrame q x) 12), (Instr.rejoinGrant 0 q x, spIsOp (s.spFrame q x) 13), (Instr.imagePart 0 q x, spIsOp (s.spFrame q x) 14)] ∧ mine = true ∧ (s.receive q (s.spFrame q x)).2 = false) ∧
    (∃ (s : State) (q : ℕ) (x : SpWire) (mine : Bool), q < 2 ∧ (Instr.digestFrame 0 q x, mine) ∈ [(Instr.acknowledgement 0 q x, spIsOp (s.spFrame q x) 0), (Instr.timeMark 0 q x, decide ((s.spFrame q x).ftype = ftMark)), (Instr.pixelStrip 0 q x, decide ((s.spFrame q x).ftype = ftPixel)), (Instr.streamRelay 0 q x, decide ((s.spFrame q x).ftype = ftStream)), (Instr.digestFrame 0 q x, decide ((s.spFrame q x).ftype = ftDigest)), (Instr.presence 0 q x, spIsOp (s.spFrame q x) 1), (Instr.stage 0 q x, spIsOp (s.spFrame q x) 2), (Instr.staged 0 q x, spIsOp (s.spFrame q x) 3), (Instr.arm 0 q x, spIsOp (s.spFrame q x) 4), (Instr.armed 0 q x, spIsOp (s.spFrame q x) 5), (Instr.abort 0 q x, spIsOp (s.spFrame q x) 6), (Instr.applied 0 q x, spIsOp (s.spFrame q x) 7), (Instr.relayOpen 0 q x, spIsOp (s.spFrame q x) 8), (Instr.relayResult 0 q x, spIsOp (s.spFrame q x) 9), (Instr.relayClose 0 q x, spIsOp (s.spFrame q x) 10), (Instr.relayResync 0 q x, spIsOp (s.spFrame q x) 11), (Instr.rejoinRequest 0 q x, spIsOp (s.spFrame q x) 12), (Instr.rejoinGrant 0 q x, spIsOp (s.spFrame q x) 13), (Instr.imagePart 0 q x, spIsOp (s.spFrame q x) 14)] ∧ mine = true ∧ (s.receive q (s.spFrame q x)).2 = false) :=
  ⟨⟨(stateAt T11.S11 0), 0, (frameAt T11.fS 0), false, by decide +kernel⟩,
   ⟨(stateAt T11.S11 0), 0, (frameAt T11.fS 0), false, by decide +kernel⟩,
   ⟨(stateAt T11.S11 0), 0, (frameAt T11.fS 0), false, by decide +kernel⟩,
   ⟨(stateAt T11.S11 0), 0, (frameAt T11.fS 0), false, by decide +kernel⟩,
   ⟨(stateAt T11.S11 0), 0, (frameAt T11.fS 0), false, by decide +kernel⟩,
   ⟨(stateAt T11.S11 0), 0, (frameAt T11.fS 0), false, by decide +kernel⟩,
   ⟨(stateAt T11.S11 0), 0, (frameAt T11.fS 0), false, by decide +kernel⟩,
   ⟨(stateAt T11.S11 0), 0, (frameAt T11.fS 0), true, by decide +kernel⟩,
   ⟨(stateAt T11.S11 22), 0, (frameAt T11.fS 22), true, by decide +kernel⟩,
   ⟨(stateAt T11.S11 22), 0, (frameAt T11.fS 14), true, by decide +kernel⟩,
   ⟨(stateAt T11.S11 22), 0, (frameAt T11.fS 18), true, by decide +kernel⟩,
   ⟨(stateAt T11b.ww0 0), 0, (frameAt T11b.fS 0), true, by decide +kernel⟩⟩

/-- The hypotheses of FramesAreCheckedAndRelaysRun are met (part 3). -/
theorem witness_FramesAreCheckedAndRelaysRun_3 :
    (∃ (s : State) (q : ℕ) (x : SpWire) (mine : Bool), q < 2 ∧ (Instr.presence 0 q x, mine) ∈ [(Instr.acknowledgement 0 q x, spIsOp (s.spFrame q x) 0), (Instr.timeMark 0 q x, decide ((s.spFrame q x).ftype = ftMark)), (Instr.pixelStrip 0 q x, decide ((s.spFrame q x).ftype = ftPixel)), (Instr.streamRelay 0 q x, decide ((s.spFrame q x).ftype = ftStream)), (Instr.digestFrame 0 q x, decide ((s.spFrame q x).ftype = ftDigest)), (Instr.presence 0 q x, spIsOp (s.spFrame q x) 1), (Instr.stage 0 q x, spIsOp (s.spFrame q x) 2), (Instr.staged 0 q x, spIsOp (s.spFrame q x) 3), (Instr.arm 0 q x, spIsOp (s.spFrame q x) 4), (Instr.armed 0 q x, spIsOp (s.spFrame q x) 5), (Instr.abort 0 q x, spIsOp (s.spFrame q x) 6), (Instr.applied 0 q x, spIsOp (s.spFrame q x) 7), (Instr.relayOpen 0 q x, spIsOp (s.spFrame q x) 8), (Instr.relayResult 0 q x, spIsOp (s.spFrame q x) 9), (Instr.relayClose 0 q x, spIsOp (s.spFrame q x) 10), (Instr.relayResync 0 q x, spIsOp (s.spFrame q x) 11), (Instr.rejoinRequest 0 q x, spIsOp (s.spFrame q x) 12), (Instr.rejoinGrant 0 q x, spIsOp (s.spFrame q x) 13), (Instr.imagePart 0 q x, spIsOp (s.spFrame q x) 14)] ∧ mine = true ∧ (s.receive q (s.spFrame q x)).2 = false) ∧
    (∃ (s : State) (q : ℕ) (x : SpWire) (mine : Bool), q < 2 ∧ (Instr.stage 0 q x, mine) ∈ [(Instr.acknowledgement 0 q x, spIsOp (s.spFrame q x) 0), (Instr.timeMark 0 q x, decide ((s.spFrame q x).ftype = ftMark)), (Instr.pixelStrip 0 q x, decide ((s.spFrame q x).ftype = ftPixel)), (Instr.streamRelay 0 q x, decide ((s.spFrame q x).ftype = ftStream)), (Instr.digestFrame 0 q x, decide ((s.spFrame q x).ftype = ftDigest)), (Instr.presence 0 q x, spIsOp (s.spFrame q x) 1), (Instr.stage 0 q x, spIsOp (s.spFrame q x) 2), (Instr.staged 0 q x, spIsOp (s.spFrame q x) 3), (Instr.arm 0 q x, spIsOp (s.spFrame q x) 4), (Instr.armed 0 q x, spIsOp (s.spFrame q x) 5), (Instr.abort 0 q x, spIsOp (s.spFrame q x) 6), (Instr.applied 0 q x, spIsOp (s.spFrame q x) 7), (Instr.relayOpen 0 q x, spIsOp (s.spFrame q x) 8), (Instr.relayResult 0 q x, spIsOp (s.spFrame q x) 9), (Instr.relayClose 0 q x, spIsOp (s.spFrame q x) 10), (Instr.relayResync 0 q x, spIsOp (s.spFrame q x) 11), (Instr.rejoinRequest 0 q x, spIsOp (s.spFrame q x) 12), (Instr.rejoinGrant 0 q x, spIsOp (s.spFrame q x) 13), (Instr.imagePart 0 q x, spIsOp (s.spFrame q x) 14)] ∧ mine = true ∧ (s.receive q (s.spFrame q x)).2 = false) ∧
    (∃ (s : State) (q : ℕ) (x : SpWire) (mine : Bool), q < 2 ∧ (Instr.staged 0 q x, mine) ∈ [(Instr.acknowledgement 0 q x, spIsOp (s.spFrame q x) 0), (Instr.timeMark 0 q x, decide ((s.spFrame q x).ftype = ftMark)), (Instr.pixelStrip 0 q x, decide ((s.spFrame q x).ftype = ftPixel)), (Instr.streamRelay 0 q x, decide ((s.spFrame q x).ftype = ftStream)), (Instr.digestFrame 0 q x, decide ((s.spFrame q x).ftype = ftDigest)), (Instr.presence 0 q x, spIsOp (s.spFrame q x) 1), (Instr.stage 0 q x, spIsOp (s.spFrame q x) 2), (Instr.staged 0 q x, spIsOp (s.spFrame q x) 3), (Instr.arm 0 q x, spIsOp (s.spFrame q x) 4), (Instr.armed 0 q x, spIsOp (s.spFrame q x) 5), (Instr.abort 0 q x, spIsOp (s.spFrame q x) 6), (Instr.applied 0 q x, spIsOp (s.spFrame q x) 7), (Instr.relayOpen 0 q x, spIsOp (s.spFrame q x) 8), (Instr.relayResult 0 q x, spIsOp (s.spFrame q x) 9), (Instr.relayClose 0 q x, spIsOp (s.spFrame q x) 10), (Instr.relayResync 0 q x, spIsOp (s.spFrame q x) 11), (Instr.rejoinRequest 0 q x, spIsOp (s.spFrame q x) 12), (Instr.rejoinGrant 0 q x, spIsOp (s.spFrame q x) 13), (Instr.imagePart 0 q x, spIsOp (s.spFrame q x) 14)] ∧ mine = true ∧ (s.receive q (s.spFrame q x)).2 = false) ∧
    (∃ (s : State) (q : ℕ) (x : SpWire) (mine : Bool), q < 2 ∧ (Instr.arm 0 q x, mine) ∈ [(Instr.acknowledgement 0 q x, spIsOp (s.spFrame q x) 0), (Instr.timeMark 0 q x, decide ((s.spFrame q x).ftype = ftMark)), (Instr.pixelStrip 0 q x, decide ((s.spFrame q x).ftype = ftPixel)), (Instr.streamRelay 0 q x, decide ((s.spFrame q x).ftype = ftStream)), (Instr.digestFrame 0 q x, decide ((s.spFrame q x).ftype = ftDigest)), (Instr.presence 0 q x, spIsOp (s.spFrame q x) 1), (Instr.stage 0 q x, spIsOp (s.spFrame q x) 2), (Instr.staged 0 q x, spIsOp (s.spFrame q x) 3), (Instr.arm 0 q x, spIsOp (s.spFrame q x) 4), (Instr.armed 0 q x, spIsOp (s.spFrame q x) 5), (Instr.abort 0 q x, spIsOp (s.spFrame q x) 6), (Instr.applied 0 q x, spIsOp (s.spFrame q x) 7), (Instr.relayOpen 0 q x, spIsOp (s.spFrame q x) 8), (Instr.relayResult 0 q x, spIsOp (s.spFrame q x) 9), (Instr.relayClose 0 q x, spIsOp (s.spFrame q x) 10), (Instr.relayResync 0 q x, spIsOp (s.spFrame q x) 11), (Instr.rejoinRequest 0 q x, spIsOp (s.spFrame q x) 12), (Instr.rejoinGrant 0 q x, spIsOp (s.spFrame q x) 13), (Instr.imagePart 0 q x, spIsOp (s.spFrame q x) 14)] ∧ mine = true ∧ (s.receive q (s.spFrame q x)).2 = false) ∧
    (∃ (s : State) (q : ℕ) (x : SpWire) (mine : Bool), q < 2 ∧ (Instr.armed 0 q x, mine) ∈ [(Instr.acknowledgement 0 q x, spIsOp (s.spFrame q x) 0), (Instr.timeMark 0 q x, decide ((s.spFrame q x).ftype = ftMark)), (Instr.pixelStrip 0 q x, decide ((s.spFrame q x).ftype = ftPixel)), (Instr.streamRelay 0 q x, decide ((s.spFrame q x).ftype = ftStream)), (Instr.digestFrame 0 q x, decide ((s.spFrame q x).ftype = ftDigest)), (Instr.presence 0 q x, spIsOp (s.spFrame q x) 1), (Instr.stage 0 q x, spIsOp (s.spFrame q x) 2), (Instr.staged 0 q x, spIsOp (s.spFrame q x) 3), (Instr.arm 0 q x, spIsOp (s.spFrame q x) 4), (Instr.armed 0 q x, spIsOp (s.spFrame q x) 5), (Instr.abort 0 q x, spIsOp (s.spFrame q x) 6), (Instr.applied 0 q x, spIsOp (s.spFrame q x) 7), (Instr.relayOpen 0 q x, spIsOp (s.spFrame q x) 8), (Instr.relayResult 0 q x, spIsOp (s.spFrame q x) 9), (Instr.relayClose 0 q x, spIsOp (s.spFrame q x) 10), (Instr.relayResync 0 q x, spIsOp (s.spFrame q x) 11), (Instr.rejoinRequest 0 q x, spIsOp (s.spFrame q x) 12), (Instr.rejoinGrant 0 q x, spIsOp (s.spFrame q x) 13), (Instr.imagePart 0 q x, spIsOp (s.spFrame q x) 14)] ∧ mine = true ∧ (s.receive q (s.spFrame q x)).2 = false) ∧
    (∃ (s : State) (q : ℕ) (x : SpWire) (mine : Bool), q < 2 ∧ (Instr.abort 0 q x, mine) ∈ [(Instr.acknowledgement 0 q x, spIsOp (s.spFrame q x) 0), (Instr.timeMark 0 q x, decide ((s.spFrame q x).ftype = ftMark)), (Instr.pixelStrip 0 q x, decide ((s.spFrame q x).ftype = ftPixel)), (Instr.streamRelay 0 q x, decide ((s.spFrame q x).ftype = ftStream)), (Instr.digestFrame 0 q x, decide ((s.spFrame q x).ftype = ftDigest)), (Instr.presence 0 q x, spIsOp (s.spFrame q x) 1), (Instr.stage 0 q x, spIsOp (s.spFrame q x) 2), (Instr.staged 0 q x, spIsOp (s.spFrame q x) 3), (Instr.arm 0 q x, spIsOp (s.spFrame q x) 4), (Instr.armed 0 q x, spIsOp (s.spFrame q x) 5), (Instr.abort 0 q x, spIsOp (s.spFrame q x) 6), (Instr.applied 0 q x, spIsOp (s.spFrame q x) 7), (Instr.relayOpen 0 q x, spIsOp (s.spFrame q x) 8), (Instr.relayResult 0 q x, spIsOp (s.spFrame q x) 9), (Instr.relayClose 0 q x, spIsOp (s.spFrame q x) 10), (Instr.relayResync 0 q x, spIsOp (s.spFrame q x) 11), (Instr.rejoinRequest 0 q x, spIsOp (s.spFrame q x) 12), (Instr.rejoinGrant 0 q x, spIsOp (s.spFrame q x) 13), (Instr.imagePart 0 q x, spIsOp (s.spFrame q x) 14)] ∧ mine = true ∧ (s.receive q (s.spFrame q x)).2 = false) ∧
    (∃ (s : State) (q : ℕ) (x : SpWire) (mine : Bool), q < 2 ∧ (Instr.applied 0 q x, mine) ∈ [(Instr.acknowledgement 0 q x, spIsOp (s.spFrame q x) 0), (Instr.timeMark 0 q x, decide ((s.spFrame q x).ftype = ftMark)), (Instr.pixelStrip 0 q x, decide ((s.spFrame q x).ftype = ftPixel)), (Instr.streamRelay 0 q x, decide ((s.spFrame q x).ftype = ftStream)), (Instr.digestFrame 0 q x, decide ((s.spFrame q x).ftype = ftDigest)), (Instr.presence 0 q x, spIsOp (s.spFrame q x) 1), (Instr.stage 0 q x, spIsOp (s.spFrame q x) 2), (Instr.staged 0 q x, spIsOp (s.spFrame q x) 3), (Instr.arm 0 q x, spIsOp (s.spFrame q x) 4), (Instr.armed 0 q x, spIsOp (s.spFrame q x) 5), (Instr.abort 0 q x, spIsOp (s.spFrame q x) 6), (Instr.applied 0 q x, spIsOp (s.spFrame q x) 7), (Instr.relayOpen 0 q x, spIsOp (s.spFrame q x) 8), (Instr.relayResult 0 q x, spIsOp (s.spFrame q x) 9), (Instr.relayClose 0 q x, spIsOp (s.spFrame q x) 10), (Instr.relayResync 0 q x, spIsOp (s.spFrame q x) 11), (Instr.rejoinRequest 0 q x, spIsOp (s.spFrame q x) 12), (Instr.rejoinGrant 0 q x, spIsOp (s.spFrame q x) 13), (Instr.imagePart 0 q x, spIsOp (s.spFrame q x) 14)] ∧ mine = true ∧ (s.receive q (s.spFrame q x)).2 = false) ∧
    (∃ (s : State) (q : ℕ) (x : SpWire) (mine : Bool), q < 2 ∧ (Instr.relayOpen 0 q x, mine) ∈ [(Instr.acknowledgement 0 q x, spIsOp (s.spFrame q x) 0), (Instr.timeMark 0 q x, decide ((s.spFrame q x).ftype = ftMark)), (Instr.pixelStrip 0 q x, decide ((s.spFrame q x).ftype = ftPixel)), (Instr.streamRelay 0 q x, decide ((s.spFrame q x).ftype = ftStream)), (Instr.digestFrame 0 q x, decide ((s.spFrame q x).ftype = ftDigest)), (Instr.presence 0 q x, spIsOp (s.spFrame q x) 1), (Instr.stage 0 q x, spIsOp (s.spFrame q x) 2), (Instr.staged 0 q x, spIsOp (s.spFrame q x) 3), (Instr.arm 0 q x, spIsOp (s.spFrame q x) 4), (Instr.armed 0 q x, spIsOp (s.spFrame q x) 5), (Instr.abort 0 q x, spIsOp (s.spFrame q x) 6), (Instr.applied 0 q x, spIsOp (s.spFrame q x) 7), (Instr.relayOpen 0 q x, spIsOp (s.spFrame q x) 8), (Instr.relayResult 0 q x, spIsOp (s.spFrame q x) 9), (Instr.relayClose 0 q x, spIsOp (s.spFrame q x) 10), (Instr.relayResync 0 q x, spIsOp (s.spFrame q x) 11), (Instr.rejoinRequest 0 q x, spIsOp (s.spFrame q x) 12), (Instr.rejoinGrant 0 q x, spIsOp (s.spFrame q x) 13), (Instr.imagePart 0 q x, spIsOp (s.spFrame q x) 14)] ∧ mine = true ∧ (s.receive q (s.spFrame q x)).2 = false) ∧
    (∃ (s : State) (q : ℕ) (x : SpWire) (mine : Bool), q < 2 ∧ (Instr.relayResult 0 q x, mine) ∈ [(Instr.acknowledgement 0 q x, spIsOp (s.spFrame q x) 0), (Instr.timeMark 0 q x, decide ((s.spFrame q x).ftype = ftMark)), (Instr.pixelStrip 0 q x, decide ((s.spFrame q x).ftype = ftPixel)), (Instr.streamRelay 0 q x, decide ((s.spFrame q x).ftype = ftStream)), (Instr.digestFrame 0 q x, decide ((s.spFrame q x).ftype = ftDigest)), (Instr.presence 0 q x, spIsOp (s.spFrame q x) 1), (Instr.stage 0 q x, spIsOp (s.spFrame q x) 2), (Instr.staged 0 q x, spIsOp (s.spFrame q x) 3), (Instr.arm 0 q x, spIsOp (s.spFrame q x) 4), (Instr.armed 0 q x, spIsOp (s.spFrame q x) 5), (Instr.abort 0 q x, spIsOp (s.spFrame q x) 6), (Instr.applied 0 q x, spIsOp (s.spFrame q x) 7), (Instr.relayOpen 0 q x, spIsOp (s.spFrame q x) 8), (Instr.relayResult 0 q x, spIsOp (s.spFrame q x) 9), (Instr.relayClose 0 q x, spIsOp (s.spFrame q x) 10), (Instr.relayResync 0 q x, spIsOp (s.spFrame q x) 11), (Instr.rejoinRequest 0 q x, spIsOp (s.spFrame q x) 12), (Instr.rejoinGrant 0 q x, spIsOp (s.spFrame q x) 13), (Instr.imagePart 0 q x, spIsOp (s.spFrame q x) 14)] ∧ mine = true ∧ (s.receive q (s.spFrame q x)).2 = false) ∧
    (∃ (s : State) (q : ℕ) (x : SpWire) (mine : Bool), q < 2 ∧ (Instr.relayClose 0 q x, mine) ∈ [(Instr.acknowledgement 0 q x, spIsOp (s.spFrame q x) 0), (Instr.timeMark 0 q x, decide ((s.spFrame q x).ftype = ftMark)), (Instr.pixelStrip 0 q x, decide ((s.spFrame q x).ftype = ftPixel)), (Instr.streamRelay 0 q x, decide ((s.spFrame q x).ftype = ftStream)), (Instr.digestFrame 0 q x, decide ((s.spFrame q x).ftype = ftDigest)), (Instr.presence 0 q x, spIsOp (s.spFrame q x) 1), (Instr.stage 0 q x, spIsOp (s.spFrame q x) 2), (Instr.staged 0 q x, spIsOp (s.spFrame q x) 3), (Instr.arm 0 q x, spIsOp (s.spFrame q x) 4), (Instr.armed 0 q x, spIsOp (s.spFrame q x) 5), (Instr.abort 0 q x, spIsOp (s.spFrame q x) 6), (Instr.applied 0 q x, spIsOp (s.spFrame q x) 7), (Instr.relayOpen 0 q x, spIsOp (s.spFrame q x) 8), (Instr.relayResult 0 q x, spIsOp (s.spFrame q x) 9), (Instr.relayClose 0 q x, spIsOp (s.spFrame q x) 10), (Instr.relayResync 0 q x, spIsOp (s.spFrame q x) 11), (Instr.rejoinRequest 0 q x, spIsOp (s.spFrame q x) 12), (Instr.rejoinGrant 0 q x, spIsOp (s.spFrame q x) 13), (Instr.imagePart 0 q x, spIsOp (s.spFrame q x) 14)] ∧ mine = true ∧ (s.receive q (s.spFrame q x)).2 = false) ∧
    (∃ (s : State) (q : ℕ) (x : SpWire) (mine : Bool), q < 2 ∧ (Instr.relayResync 0 q x, mine) ∈ [(Instr.acknowledgement 0 q x, spIsOp (s.spFrame q x) 0), (Instr.timeMark 0 q x, decide ((s.spFrame q x).ftype = ftMark)), (Instr.pixelStrip 0 q x, decide ((s.spFrame q x).ftype = ftPixel)), (Instr.streamRelay 0 q x, decide ((s.spFrame q x).ftype = ftStream)), (Instr.digestFrame 0 q x, decide ((s.spFrame q x).ftype = ftDigest)), (Instr.presence 0 q x, spIsOp (s.spFrame q x) 1), (Instr.stage 0 q x, spIsOp (s.spFrame q x) 2), (Instr.staged 0 q x, spIsOp (s.spFrame q x) 3), (Instr.arm 0 q x, spIsOp (s.spFrame q x) 4), (Instr.armed 0 q x, spIsOp (s.spFrame q x) 5), (Instr.abort 0 q x, spIsOp (s.spFrame q x) 6), (Instr.applied 0 q x, spIsOp (s.spFrame q x) 7), (Instr.relayOpen 0 q x, spIsOp (s.spFrame q x) 8), (Instr.relayResult 0 q x, spIsOp (s.spFrame q x) 9), (Instr.relayClose 0 q x, spIsOp (s.spFrame q x) 10), (Instr.relayResync 0 q x, spIsOp (s.spFrame q x) 11), (Instr.rejoinRequest 0 q x, spIsOp (s.spFrame q x) 12), (Instr.rejoinGrant 0 q x, spIsOp (s.spFrame q x) 13), (Instr.imagePart 0 q x, spIsOp (s.spFrame q x) 14)] ∧ mine = true ∧ (s.receive q (s.spFrame q x)).2 = false) ∧
    (∃ (s : State) (q : ℕ) (x : SpWire) (mine : Bool), q < 2 ∧ (Instr.rejoinRequest 0 q x, mine) ∈ [(Instr.acknowledgement 0 q x, spIsOp (s.spFrame q x) 0), (Instr.timeMark 0 q x, decide ((s.spFrame q x).ftype = ftMark)), (Instr.pixelStrip 0 q x, decide ((s.spFrame q x).ftype = ftPixel)), (Instr.streamRelay 0 q x, decide ((s.spFrame q x).ftype = ftStream)), (Instr.digestFrame 0 q x, decide ((s.spFrame q x).ftype = ftDigest)), (Instr.presence 0 q x, spIsOp (s.spFrame q x) 1), (Instr.stage 0 q x, spIsOp (s.spFrame q x) 2), (Instr.staged 0 q x, spIsOp (s.spFrame q x) 3), (Instr.arm 0 q x, spIsOp (s.spFrame q x) 4), (Instr.armed 0 q x, spIsOp (s.spFrame q x) 5), (Instr.abort 0 q x, spIsOp (s.spFrame q x) 6), (Instr.applied 0 q x, spIsOp (s.spFrame q x) 7), (Instr.relayOpen 0 q x, spIsOp (s.spFrame q x) 8), (Instr.relayResult 0 q x, spIsOp (s.spFrame q x) 9), (Instr.relayClose 0 q x, spIsOp (s.spFrame q x) 10), (Instr.relayResync 0 q x, spIsOp (s.spFrame q x) 11), (Instr.rejoinRequest 0 q x, spIsOp (s.spFrame q x) 12), (Instr.rejoinGrant 0 q x, spIsOp (s.spFrame q x) 13), (Instr.imagePart 0 q x, spIsOp (s.spFrame q x) 14)] ∧ mine = true ∧ (s.receive q (s.spFrame q x)).2 = false) :=
  ⟨⟨(stateAt T11b.ww0 0), 0, (frameAt T11b.fS 5), true, by decide +kernel⟩,
   ⟨(stateAt T11b.ww0 0), 0, (frameAt T11b.fS 6), true, by decide +kernel⟩,
   ⟨(stateAt T11b.ww0 0), 0, (frameAt T11b.fS 7), true, by decide +kernel⟩,
   ⟨(stateAt T11b.ww0 0), 0, (frameAt T11b.fS 8), true, by decide +kernel⟩,
   ⟨(stateAt T11b.ww0 0), 0, (frameAt T11b.fS 9), true, by decide +kernel⟩,
   ⟨(stateAt T11b.ww0 0), 0, (frameAt T11b.fS 10), true, by decide +kernel⟩,
   ⟨(stateAt T11b.ww0 0), 0, (frameAt T11b.fS 11), true, by decide +kernel⟩,
   ⟨(stateAt T11.S11 0), 0, (frameAt T11.fS 3), true, by decide +kernel⟩,
   ⟨(stateAt T11.S11 22), 0, (frameAt T11.fS 9), true, by decide +kernel⟩,
   ⟨(stateAt T11.S11 22), 0, (frameAt T11.fS 12), true, by decide +kernel⟩,
   ⟨(stateAt T11.S11 22), 0, (frameAt T11.fS 13), true, by decide +kernel⟩,
   ⟨(stateAt T11b.ww0 0), 0, (frameAt T11b.fS 16), true, by decide +kernel⟩⟩

/-- The hypotheses of FramesAreCheckedAndRelaysRun are met (part 4). -/
theorem witness_FramesAreCheckedAndRelaysRun_4 :
    (∃ (s : State) (q : ℕ) (x : SpWire) (mine : Bool), q < 2 ∧ (Instr.rejoinGrant 0 q x, mine) ∈ [(Instr.acknowledgement 0 q x, spIsOp (s.spFrame q x) 0), (Instr.timeMark 0 q x, decide ((s.spFrame q x).ftype = ftMark)), (Instr.pixelStrip 0 q x, decide ((s.spFrame q x).ftype = ftPixel)), (Instr.streamRelay 0 q x, decide ((s.spFrame q x).ftype = ftStream)), (Instr.digestFrame 0 q x, decide ((s.spFrame q x).ftype = ftDigest)), (Instr.presence 0 q x, spIsOp (s.spFrame q x) 1), (Instr.stage 0 q x, spIsOp (s.spFrame q x) 2), (Instr.staged 0 q x, spIsOp (s.spFrame q x) 3), (Instr.arm 0 q x, spIsOp (s.spFrame q x) 4), (Instr.armed 0 q x, spIsOp (s.spFrame q x) 5), (Instr.abort 0 q x, spIsOp (s.spFrame q x) 6), (Instr.applied 0 q x, spIsOp (s.spFrame q x) 7), (Instr.relayOpen 0 q x, spIsOp (s.spFrame q x) 8), (Instr.relayResult 0 q x, spIsOp (s.spFrame q x) 9), (Instr.relayClose 0 q x, spIsOp (s.spFrame q x) 10), (Instr.relayResync 0 q x, spIsOp (s.spFrame q x) 11), (Instr.rejoinRequest 0 q x, spIsOp (s.spFrame q x) 12), (Instr.rejoinGrant 0 q x, spIsOp (s.spFrame q x) 13), (Instr.imagePart 0 q x, spIsOp (s.spFrame q x) 14)] ∧ mine = true ∧ (s.receive q (s.spFrame q x)).2 = false) ∧
    (∃ (s : State) (q : ℕ) (x : SpWire) (mine : Bool), q < 2 ∧ (Instr.imagePart 0 q x, mine) ∈ [(Instr.acknowledgement 0 q x, spIsOp (s.spFrame q x) 0), (Instr.timeMark 0 q x, decide ((s.spFrame q x).ftype = ftMark)), (Instr.pixelStrip 0 q x, decide ((s.spFrame q x).ftype = ftPixel)), (Instr.streamRelay 0 q x, decide ((s.spFrame q x).ftype = ftStream)), (Instr.digestFrame 0 q x, decide ((s.spFrame q x).ftype = ftDigest)), (Instr.presence 0 q x, spIsOp (s.spFrame q x) 1), (Instr.stage 0 q x, spIsOp (s.spFrame q x) 2), (Instr.staged 0 q x, spIsOp (s.spFrame q x) 3), (Instr.arm 0 q x, spIsOp (s.spFrame q x) 4), (Instr.armed 0 q x, spIsOp (s.spFrame q x) 5), (Instr.abort 0 q x, spIsOp (s.spFrame q x) 6), (Instr.applied 0 q x, spIsOp (s.spFrame q x) 7), (Instr.relayOpen 0 q x, spIsOp (s.spFrame q x) 8), (Instr.relayResult 0 q x, spIsOp (s.spFrame q x) 9), (Instr.relayClose 0 q x, spIsOp (s.spFrame q x) 10), (Instr.relayResync 0 q x, spIsOp (s.spFrame q x) 11), (Instr.rejoinRequest 0 q x, spIsOp (s.spFrame q x) 12), (Instr.rejoinGrant 0 q x, spIsOp (s.spFrame q x) 13), (Instr.imagePart 0 q x, spIsOp (s.spFrame q x) 14)] ∧ mine = true ∧ (s.receive q (s.spFrame q x)).2 = false) ∧
    (∃ (s : State) (q : ℕ), q < 2 ∧ s.spState q ≠ spUp) ∧
    (∃ (s : State) (q : ℕ) (x : SpWire), q < 2 ∧ s.spState q = spUp ∧ ((s.spFrame q x).framingOk = false ∨ 8192 < (s.spFrame q x).payload.length)) ∧
    (∃ (s : State) (q : ℕ) (x : SpWire), q < 2 ∧ s.spState q = spUp ∧ (s.spFrame q x).framingOk = true ∧ (s.spFrame q x).payload.length ≤ 8192 ∧ (s.spFrame q x).crcOk = false) ∧
    (∃ (s : State) (q : ℕ) (x : SpWire), q < 2 ∧ s.spState q = spUp ∧ (s.spFrame q x).framingOk = true ∧ (s.spFrame q x).payload.length ≤ 8192 ∧ (s.spFrame q x).crcOk = true ∧ spFormOk (s.spFrame q x) = false) ∧
    (∃ (s : State) (q : ℕ) (x : SpWire), q < 2 ∧ s.spState q = spUp ∧ (s.spFrame q x).framingOk = true ∧ (s.spFrame q x).payload.length ≤ 8192 ∧ (s.spFrame q x).crcOk = true ∧ spFormOk (s.spFrame q x) = true ∧ s.standalone = true ∧ (s.spFrame q x).ftype ≠ ftMark) ∧
    (∃ (s : State) (q : ℕ) (x : SpWire) (a : ℕ), q < 2 ∧ s.spState q = spUp ∧ (s.spFrame q x).framingOk = true ∧ (s.spFrame q x).payload.length ≤ 8192 ∧ (s.spFrame q x).crcOk = true ∧ spFormOk (s.spFrame q x) = true ∧ s.standalone = false ∧ s.epochOk (s.spFrame q x) = false ∧ (s.sp q).replyAt = some a ∧ s.clock < a + 10 * msTicks) ∧
    (∃ (s : State) (q : ℕ) (x : SpWire), q < 2 ∧ s.spState q = spUp ∧ (s.spFrame q x).framingOk = true ∧ (s.spFrame q x).payload.length ≤ 8192 ∧ (s.spFrame q x).crcOk = true ∧ spFormOk (s.spFrame q x) = true ∧ s.standalone = false ∧ s.epochOk (s.spFrame q x) = false ∧ (∀ (a : ℕ), (s.sp q).replyAt = some a → a + 10 * msTicks ≤ s.clock)) ∧
    (∃ (s : State) (q : ℕ) (x : SpWire), q < 2 ∧ s.spState q = spUp ∧ (s.spFrame q x).framingOk = true ∧ (s.spFrame q x).payload.length ≤ 8192 ∧ (s.spFrame q x).crcOk = true ∧ spFormOk (s.spFrame q x) = true ∧ s.standalone = false ∧ s.epochOk (s.spFrame q x) = true ∧ (s.spFrame q x).ftype = ftControl ∧ bit (s.spFrame q x).flags 1 = false ∧ bit (s.spFrame q x).flags 2 = false ∧ (s.spFrame q x).dst = s.pkgId ∧ (s.spFrame q x).seq = (s.sp q).expects) ∧
    (∃ (s : State) (q : ℕ) (x : SpWire), q < 2 ∧ s.spState q = spUp ∧ (s.spFrame q x).framingOk = true ∧ (s.spFrame q x).payload.length ≤ 8192 ∧ (s.spFrame q x).crcOk = true ∧ spFormOk (s.spFrame q x) = true ∧ s.standalone = false ∧ s.epochOk (s.spFrame q x) = true ∧ (s.spFrame q x).ftype = ftControl ∧ bit (s.spFrame q x).flags 1 = false ∧ bit (s.spFrame q x).flags 2 = false ∧ (s.spFrame q x).dst = s.pkgId ∧ (s.spFrame q x).seq ≠ (s.sp q).expects) ∧
    (∃ (s : State) (q : ℕ) (p : ℕ), q < 2 ∧ s.spState q = spUp ∧ s.maySend ftMark 0 = true ∧ (∀ (a : ℕ), (s.sp q).markSent = some a → a + msTicks ≤ s.clock) ∧ p ≠ q) :=
  ⟨⟨(stateAt T11b.ww0 0), 0, (frameAt T11b.fS 17), true, by decide +kernel⟩,
   ⟨(stateAt T11b.ww0 0), 0, (frameAt T11b.fS 18), true, by decide +kernel⟩,
   ⟨(stateAt T11.S11 22), 0, by decide +kernel⟩,
   ⟨(stateAt T11.S11 0), 0, (frameAt T11.fS 0), by decide +kernel⟩,
   ⟨(stateAt T11.S11 0), 0, (frameAt T11.fS 1), by decide +kernel⟩,
   ⟨(stateAt T11.S11 0), 0, (frameAt T11.fS 2), by decide +kernel⟩,
   ⟨(stateAt TZ5.ZF 0), 0, (frameAt TZ5.fZ 0), by decide +kernel⟩,
   ⟨(stateAt T11.S11 15), 0, (frameAt T11.fS 3), 0, by decide +kernel⟩,
   ⟨(stateAt T11.S11 0), 0, (frameAt T11.fS 3), by decide +kernel⟩,
   ⟨(stateAt T11.S11 0), 0, (frameAt T11.fS 4), by decide +kernel⟩,
   ⟨(stateAt T11.S11 0), 0, (frameAt T11.fS 7), by decide +kernel⟩,
   ⟨(stateAt T11.S11 0), 0, 3, by decide +kernel⟩⟩

/-- The hypotheses of FramesAreCheckedAndRelaysRun are met (part 5). -/
theorem witness_FramesAreCheckedAndRelaysRun_5 :
    (∃ (s : State) (q : ℕ), q < 2 ∧ (s.spState q ≠ spUp ∨ s.maySend ftMark 0 = false ∨ ∃ a, (s.sp q).markSent = some a ∧ s.clock < a + msTicks)) ∧
    (∃ (s : State) (q : ℕ) (x : SpWire), q < 2 ∧ (s.spFrame q x).ftype = ftMark ∧ (s.receive q (s.spFrame q x)).2 = true ∧ byteAt (s.spFrame q x).payload 0 = 1) ∧
    (∃ (s : State) (q : ℕ) (x' : SpWire), q < 2 ∧ (s.spFrame q x').ftype = ftMark ∧ (s.receive q (s.spFrame q x')).2 = true ∧ byteAt (s.spFrame q x').payload 0 ≠ 1 ∧ (s.receive q (s.spFrame q x')).1.maySend ftMark 0 = true ∧ (s.receive q (s.spFrame q x')).1.spState q = spUp) ∧
    (∃ (s : State) (q : ℕ) (x : SpWire), q < 2 ∧ (s.spFrame q x).ftype = ftMark ∧ (s.receive q (s.spFrame q x)).2 = true ∧ byteAt (s.spFrame q x).payload 0 ≠ 1 ∧ beNat (List.take 4 (List.drop 4 (s.spFrame q x).payload)) ≠ 4294967295 ∧ byteAt (s.spFrame q x).payload 1 ≤ 15) ∧
    (∃ (s : State) (q : ℕ) (x : SpWire), q < 2 ∧ (s.spFrame q x).ftype = ftMark ∧ (s.receive q (s.spFrame q x)).2 = true ∧ byteAt (s.spFrame q x).payload 0 ≠ 1 ∧ beNat (List.take 4 (List.drop 4 (s.spFrame q x).payload)) ≠ 4294967295 ∧ 15 < byteAt (s.spFrame q x).payload 1) ∧
    (∃ (s : State) (q : ℕ) (x : SpWire), q < 2 ∧ (s.spFrame q x).ftype = ftMark ∧ (s.receive q (s.spFrame q x)).2 = true ∧ byteAt (s.spFrame q x).payload 0 ≠ 1 ∧ ((s.receive q (s.spFrame q x)).1.rn 10240 3 ≠ 2 ∨ beNat (List.take 4 (List.drop 4 (s.spFrame q x).payload)) = 4294967295 ∨ ((s.receive q (s.spFrame q x)).1.sp q).delay = none)) ∧
    (∃ (s : State) (q : ℕ) (x : SpWire), q < 2 ∧ (s.spFrame q x).ftype = ftPixel ∧ (s.receive q (s.spFrame q x)).2 = true ∧ (s.receive q (s.spFrame q x)).1.relayMine (fld (s.spFrame q x).payload 0 2) = none) ∧
    (∃ (s : State) (q : ℕ) (x : SpWire) (n : ℕ) (r : List Byte) (new : List (ℕ × Bool × List ℕ)), q < 2 ∧ (s.spFrame q x).ftype = ftPixel ∧ (s.receive q (s.spFrame q x)).2 = true ∧ (s.receive q (s.spFrame q x)).1.relayMine (fld (s.spFrame q x).payload 0 2) = some n ∧ (s.receive q (s.spFrame q x)).1.relayPixel n = true ∧ (s.receive q (s.spFrame q x)).1.sst n = sessRunning ∧ ((s.receive q (s.spFrame q x)).1.rin n).record = some r ∧ fld (s.spFrame q x).payload 2 4 = fld r 0 4 ∧ fld (s.spFrame q x).payload 8 2 + byteAt (s.spFrame q x).payload 10 ≤ ceilDiv (fld r 4 2) 16 ∧ fld (s.spFrame q x).payload 6 2 * ceilDiv (fld r 4 2) 16 + fld (s.spFrame q x).payload 8 2 < tilesOf (fld r 4 2) (fld r 6 2) ∧ (new = List.filter (fun p => !(List.range (byteAt (s.spFrame q x).payload 10)).any fun j => decide (fld (s.spFrame q x).payload 6 2 * ceilDiv (fld r 4 2) 16 + fld (s.spFrame q x).payload 8 2 + j = p.1)) ((s.receive q (s.spFrame q x)).1.rin n).tiles ++ List.map (fun j => (fld (s.spFrame q x).payload 6 2 * ceilDiv (fld r 4 2) 16 + fld (s.spFrame q x).payload 8 2 + j, bit (fld (s.spFrame q x).payload 12 2) j, bytesWords 144 (List.take 576 (List.drop (16 + 576 * j) (s.spFrame q x).payload)))) (List.range (byteAt (s.spFrame q x).payload 10))) ∧ new.length ≠ tilesOf (fld r 4 2) (fld r 6 2)) ∧
    (∃ (s : State) (q : ℕ) (x : SpWire) (n : ℕ) (r : List Byte) (new : List (ℕ × Bool × List ℕ)) (au : AuInfo) (rest : List AuInfo), q < 2 ∧ (s.spFrame q x).ftype = ftPixel ∧ (s.receive q (s.spFrame q x)).2 = true ∧ (s.receive q (s.spFrame q x)).1.relayMine (fld (s.spFrame q x).payload 0 2) = some n ∧ (s.receive q (s.spFrame q x)).1.relayPixel n = true ∧ (s.receive q (s.spFrame q x)).1.sst n = sessRunning ∧ ((s.receive q (s.spFrame q x)).1.rin n).record = some r ∧ fld (s.spFrame q x).payload 2 4 = fld r 0 4 ∧ fld (s.spFrame q x).payload 8 2 + byteAt (s.spFrame q x).payload 10 ≤ ceilDiv (fld r 4 2) 16 ∧ fld (s.spFrame q x).payload 6 2 * ceilDiv (fld r 4 2) 16 + fld (s.spFrame q x).payload 8 2 < tilesOf (fld r 4 2) (fld r 6 2) ∧ (new = List.filter (fun p => !(List.range (byteAt (s.spFrame q x).payload 10)).any fun j => decide (fld (s.spFrame q x).payload 6 2 * ceilDiv (fld r 4 2) 16 + fld (s.spFrame q x).payload 8 2 + j = p.1)) ((s.receive q (s.spFrame q x)).1.rin n).tiles ++ List.map (fun j => (fld (s.spFrame q x).payload 6 2 * ceilDiv (fld r 4 2) 16 + fld (s.spFrame q x).payload 8 2 + j, bit (fld (s.spFrame q x).payload 12 2) j, bytesWords 144 (List.take 576 (List.drop (16 + 576 * j) (s.spFrame q x).payload)))) (List.range (byteAt (s.spFrame q x).payload 10))) ∧ new.length = tilesOf (fld r 4 2) (fld r 6 2) ∧ (((s.receive q (s.spFrame q x)).1.ses n).queue = au :: rest)) ∧
    (∃ (s : State) (q : ℕ) (x : SpWire), q < 2 ∧ (s.spFrame q x).ftype = ftStream ∧ (s.receive q (s.spFrame q x)).2 = true ∧ (s.receive q (s.spFrame q x)).1.relayMine (fld (s.spFrame q x).payload 0 2) = none) ∧
    (∃ (s : State) (q : ℕ) (x : SpWire) (n : ℕ) (r : List Byte × List (ℕ × Byte) × List Byte × Bool) (next : ℕ), q < 2 ∧ (s.spFrame q x).ftype = ftStream ∧ (s.receive q (s.spFrame q x)).2 = true ∧ (s.receive q (s.spFrame q x)).1.relayMine (fld (s.spFrame q x).payload 0 2) = some n ∧ (s.receive q (s.spFrame q x)).1.sst n = sessRunning ∧ ((s.receive q (s.spFrame q x)).1.rin n).offset = fld (s.spFrame q x).payload 2 4 ∧ ((s.receive q (s.spFrame q x)).1.rin n).lost = false ∧ next = (fld (s.spFrame q x).payload 2 4 + (List.drop 6 (s.spFrame q x).payload).length) % 2 ^ 32 ∧ r = takeBlocks ((List.drop 6 (s.spFrame q x).payload).length + ((s.receive q (s.spFrame q x)).1.rin n).raw.length + 1) ((s.receive q (s.spFrame q x)).1.ctx n).learnt (((s.receive q (s.spFrame q x)).1.rin n).raw ++ List.drop 6 (s.spFrame q x).payload) ∧ r.2.2.2 = true ∧ (((s.receive q (s.spFrame q x)).1.rin n).data ++ r.1).length < 64 ∧ ((s.receive q (s.spFrame q x)).1.ctx n).await = false) ∧
    (∃ (s : State) (q : ℕ) (x : SpWire) (n : ℕ), q < 2 ∧ (s.spFrame q x).ftype = ftStream ∧ (s.receive q (s.spFrame q x)).2 = true ∧ (s.receive q (s.spFrame q x)).1.relayMine (fld (s.spFrame q x).payload 0 2) = some n ∧ (s.receive q (s.spFrame q x)).1.sst n = sessRunning ∧ ((s.receive q (s.spFrame q x)).1.rin n).offset ≠ fld (s.spFrame q x).payload 2 4 ∧ (s.receive q (s.spFrame q x)).1.isSurface n = false ∧ (s.receive q (s.spFrame q x)).1.relayResumes n (List.drop 6 (s.spFrame q x).payload) = false) :=
  ⟨⟨(stateAt T11.S11 22), 0, by decide +kernel⟩,
   ⟨(stateAt T11.S11 0), 0, (frameAt T11.fS 22), by decide +kernel⟩,
   ⟨(stateAt T11.S11 0), 0, (frameAt T11.fS 23), by decide +kernel⟩,
   ⟨(stateAt T11.S11 0), 0, (frameAt T11.fS 23), by decide +kernel⟩,
   ⟨(stateAt T11c.S11 0), 0, (frameAt T11c.ww0 3), by decide +kernel⟩,
   ⟨(stateAt T11.S11 0), 0, (frameAt T11.fS 23), by decide +kernel⟩,
   ⟨(stateAt T11.S11 0), 0, (frameAt T11.fS 15), by decide +kernel⟩,
   ⟨(stateAt T11.S11 1), 0, (frameAt T11.fS 14), 3, ([0x00#8, 0x00#8, 0x00#8, 0x09#8, 0x00#8, 0x20#8, 0x00#8, 0x10#8] ++ List.replicate 60 0 ++ []), [(0, true, (List.replicate 144 0))], by decide +kernel⟩,
   ⟨(stateAt T11.S11 1), 0, (frameAt T11.fS 16), 3, ([0x00#8, 0x00#8, 0x00#8, 0x09#8, 0x00#8, 0x20#8, 0x00#8, 0x10#8] ++ List.replicate 60 0 ++ []), [(0, true, (List.replicate 144 0)), (1, false, (List.replicate 144 0))], ({ ts := 0, grade := 2, alive := 0, cap := some 5, judge := Sys2Proof.Machine.Judge.fresh, heartbeat := false, crc := none, rows := [], avail := 0, coded := { sps := none, pps := none, slices := [], badSets := 0, irap := false, newSeq := false, start := none, lost := [], binds := [], waited := false } } : AuInfo), [], by decide +kernel⟩,
   ⟨(stateAt T11.S11 0), 0, (frameAt T11.fS 20), by decide +kernel⟩,
   ⟨(stateAt T11.S11 0), 0, (frameAt T11.fS 18), 3, ([], [], [], true), 0, by decide +kernel⟩,
   ⟨(stateAt T11.S11 0), 0, (frameAt T11.fS 19), 3, by decide +kernel⟩⟩

/-- The hypotheses of FramesAreCheckedAndRelaysRun are met (part 6). -/
theorem witness_FramesAreCheckedAndRelaysRun_6 :
    (∃ (s : State) (q : ℕ) (n : ℕ) (r : List Byte) (au : AuInfo) (rest : List AuInfo), q < 2 ∧ (s.rin n).record = some r ∧ ((s.ses n).queue = au :: rest) ∧ (s.rin n).start + 50 * msTicks ≤ s.clock) ∧
    (∃ (s : State) (q : ℕ) (n : ℕ), q < 2 ∧ ((s.rin n).record = none ∨ s.clock < (s.rin n).start + 50 * msTicks)) ∧
    (∃ (s : State) (q : ℕ) (x : SpWire) (k : ℕ), q < 2 ∧ spIsOp (s.spFrame q x) 8 = true ∧ (s.receive q (s.spFrame q x)).2 = true ∧ k ≠ fld (s.spFrame q x).payload 2 2) ∧
    (∃ (s : State) (q : ℕ) (x : SpWire), q < 2 ∧ spIsOp (s.spFrame q x) 8 = true ∧ (s.receive q (s.spFrame q x)).2 = true ∧ (s.receive q (s.spFrame q x)).1.prefer (s.receive q (s.spFrame q x)).1.pkgId (relayTo (fld (s.spFrame q x).payload 2 2)) = none) ∧
    (∃ (s : State) (q : ℕ) (x : SpWire) (p : ℕ) (cost : ℕ), q < 2 ∧ spIsOp (s.spFrame q x) 8 = true ∧ (s.receive q (s.spFrame q x)).2 = true ∧ (s.receive q (s.spFrame q x)).1.prefer (s.receive q (s.spFrame q x)).1.pkgId (relayTo (fld (s.spFrame q x).payload 2 2)) = some p ∧ byteAt (s.spFrame q x).payload 4 < 160 ∧ byteAt (s.spFrame q x).payload 5 = 0 ∧ (s.receive q (s.spFrame q x)).1.isVideo (byteAt (s.spFrame q x).payload 4) = true ∧ cost = ((s.receive q (s.spFrame q x)).1.relayCharge (byteAt (s.spFrame q x).payload 4) 0).1.1 ∧ ((s.receive q (s.spFrame q x)).1.rn (spIdx p) 8 * 1000000 * (s.receive q (s.spFrame q x)).1.rn 12544 4 < (relayTraffic (List.filter (fun r => decide (r.2.port = p)) ((s.receive q (s.spFrame q x)).1.sys.relays.cut (fld (s.spFrame q x).payload 2 2))) + cost) * 100)) ∧
    (∃ (s : State) (q : ℕ) (x : SpWire) (p : ℕ) (cost : ℕ), q < 2 ∧ spIsOp (s.spFrame q x) 8 = true ∧ (s.receive q (s.spFrame q x)).2 = true ∧ (s.receive q (s.spFrame q x)).1.prefer (s.receive q (s.spFrame q x)).1.pkgId (relayTo (fld (s.spFrame q x).payload 2 2)) = some p ∧ byteAt (s.spFrame q x).payload 4 < 160 ∧ byteAt (s.spFrame q x).payload 5 = 0 ∧ (s.receive q (s.spFrame q x)).1.isVideo (byteAt (s.spFrame q x).payload 4) = true ∧ cost = ((s.receive q (s.spFrame q x)).1.relayCharge (byteAt (s.spFrame q x).payload 4) 0).1.1 ∧ ((relayTraffic (List.filter (fun r => decide (r.2.port = p)) ((s.receive q (s.spFrame q x)).1.sys.relays.cut (fld (s.spFrame q x).payload 2 2))) + cost) * 100 ≤ (s.receive q (s.spFrame q x)).1.rn (spIdx p) 8 * 1000000 * (s.receive q (s.spFrame q x)).1.rn 12544 4) ∧ (s.receive q (s.spFrame q x)).1.isSurface (byteAt (s.spFrame q x).payload 4) = false) ∧
    (∃ (s : State) (q : ℕ) (x : SpWire), q < 2 ∧ spIsOp (s.spFrame q x) 9 = true ∧ (s.receive q (s.spFrame q x)).2 = true ∧ ((s.receive q (s.spFrame q x)).1.relayMine (fld (s.spFrame q x).payload 2 2) = none ∨ byteAt (s.spFrame q x).payload 4 = 0)) ∧
    (∃ (s : State) (q : ℕ) (x : SpWire) (n : ℕ), q < 2 ∧ spIsOp (s.spFrame q x) 9 = true ∧ (s.receive q (s.spFrame q x)).2 = true ∧ (s.receive q (s.spFrame q x)).1.relayMine (fld (s.spFrame q x).payload 2 2) = some n ∧ byteAt (s.spFrame q x).payload 4 ≠ 0) ∧
    (∃ (s : State) (q : ℕ) (x : SpWire), q < 2 ∧ spIsOp (s.spFrame q x) 10 = true ∧ (s.receive q (s.spFrame q x)).2 = true) ∧
    (∃ (s : State) (q : ℕ) (x : SpWire) (y : RelayS), q < 2 ∧ spIsOp (s.spFrame q x) 11 = true ∧ (s.receive q (s.spFrame q x)).2 = true ∧ ((s.receive q (s.spFrame q x)).1.sys.relays.look (fld (s.spFrame q x).payload 2 2) = none ∨ (s.receive q (s.spFrame q x)).1.sys.relays.look (fld (s.spFrame q x).payload 2 2) = some y ∧ (y.mode ≠ 1 ∨ y.shed = true))) ∧
    (∃ (s : State) (q : ℕ) (x : SpWire) (y : RelayS), q < 2 ∧ spIsOp (s.spFrame q x) 11 = true ∧ (s.receive q (s.spFrame q x)).2 = true ∧ (s.receive q (s.spFrame q x)).1.sys.relays.look (fld (s.spFrame q x).payload 2 2) = some y ∧ y.mode = 1 ∧ y.shed = false ∧ y.source < 160 ∧ (s.receive q (s.spFrame q x)).1.isSurface y.source = true ∧ (s.receive q (s.spFrame q x)).1.sst y.source = sessRunning) :=
  ⟨⟨(stateAt T11c.S11 0), 0, 3, ([0x00#8, 0x00#8, 0x00#8, 0x09#8, 0x00#8, 0x20#8, 0x00#8, 0x10#8] ++ List.replicate 60 0 ++ []), ({ ts := 0, grade := 2, alive := 0, cap := some 5, judge := Sys2Proof.Machine.Judge.fresh, heartbeat := false, crc := none, rows := [], avail := 0, coded := { sps := none, pps := none, slices := [], badSets := 0, irap := false, newSeq := false, start := none, lost := [], binds := [], waited := false } } : AuInfo), [], by decide +kernel⟩,
   ⟨(stateAt T11.S11 0), 0, 0, by decide +kernel⟩,
   ⟨(stateAt T11.S11 0), 0, (frameAt T11.fS 4), 0, by decide +kernel⟩,
   ⟨(stateAt T11.S11 0), 0, (frameAt T11.fS 8), by decide +kernel⟩,
   ⟨(stateAt T11.S11 0), 0, (frameAt T11.fS 4), 0, 2025455616, by decide +kernel⟩,
   ⟨(stateAt T11.S11 6), 0, (frameAt T11.fS 4), 0, 2025455616, by decide +kernel⟩,
   ⟨(stateAt T11.S11 0), 0, (frameAt T11.fS 9), by decide +kernel⟩,
   ⟨(stateAt T11.S11 0), 0, (frameAt T11.fS 10), 3, by decide +kernel⟩,
   ⟨(stateAt T11.S11 0), 0, (frameAt T11.fS 12), by decide +kernel⟩,
   ⟨(stateAt T11.S11 0), 0, (frameAt T11.fS 13), ({ source := 7, mode := 1, cost := 5, port := 0, ctx := none, load := 0, shed := false, number := 3, sent := 0, alive := 0 } : RelayS), by decide +kernel⟩,
   ⟨(stateAt T11.S11 12), 0, (frameAt T11.fS 13), ({ source := 7, mode := 1, cost := 5, port := 0, ctx := none, load := 0, shed := false, number := 3, sent := 0, alive := 0 } : RelayS), by decide +kernel⟩⟩

/-- The hypotheses of PackagesWatchEachOther are met (part 1). -/
theorem witness_PackagesWatchEachOther_1 :
    (∃ (s : State), (s.standalone = true ∨ s.power.phase ≠ Phase.running ∨ ∃ a, s.sys.presAt = some a ∧ s.clock < a + 10 * msTicks)) ∧
    (∃ (s : State) (f : SpOut), f = s.ownFrame ftControl 0 4 s.presenceBody ∧ s.standalone = false ∧ s.power.phase = Phase.running ∧ s.isFencedPkg = false ∧ s.sys.joined = true ∧ s.quorumNow = s.sys.quorum ∧ s.findSupervisor = s.rn 26624 11 ∧ s.supervisor = false ∧ (∀ (a : ℕ), s.sys.presAt = some a → a + 10 * msTicks ≤ s.clock)) ∧
    (∃ (s : State), s.standalone = false ∧ s.power.phase = Phase.running ∧ s.sys.joined = true ∧ s.quorumNow ≠ s.sys.quorum ∧ s.findSupervisor = s.rn 26624 11 ∧ s.supervisor = false ∧ (∀ (a : ℕ), s.sys.presAt = some a → a + 10 * msTicks ≤ s.clock)) ∧
    (∃ (s : State) (q : ℕ) (x : SpWire) (f : SpFrame), f = s.spFrame q x ∧ spIsOp f opPresence = true ∧ (s.receive q f).2 = true ∧ f.payload.length ≠ 328) ∧
    (∃ (s : State) (q : ℕ) (x : SpWire) (f : SpFrame), f = s.spFrame q x ∧ spIsOp f opPresence = true ∧ (s.receive q f).2 = true ∧ f.payload.length = 328 ∧ f.src < 16 ∧ ((s.receive q f).1.peer f.src).present = false) ∧
    (∃ (s : State) (p : ℕ), (s.standalone = true ∨ (s.peer p).present = false ∨ s.clock < (s.peer p).tick + s.rn 26624 5 * msTicks)) ∧
    (∃ (s : State) (p : ℕ), s.standalone = false ∧ (s.peer p).present = true ∧ (s.peer p).tick + s.rn 26624 5 * msTicks ≤ s.clock) ∧
    (∃ (s : State) (p : ℕ), (s.standalone = true ∨ s.maySupervise = false ∨ 16 ≤ p ∨ s.isSelf p = true ∨ bit s.sys.seen p = true)) ∧
    (∃ (s : State) (r : Req), s.takes r = true ∧ (s.standalone = true ∨ s.maySupervise = false ∨ s.isSelf (s.rn 26624 17) = true ∨ 16 ≤ s.rn 26624 17)) ∧
    (∃ (s : State) (p : ℕ) (head : Option Out), s.standalone = false ∧ s.maySupervise = true ∧ p < 16 ∧ s.isSelf p = false ∧ (∀ k < 16, k ≠ p → ¬((s.ent k).role = 2 ∧ s.isPresent k = true ∧ s.joinedOf k = true ∧ s.healthOf k = 0)) ∧ head = none ∧ ((s.ent p).role = 1 ∨ (s.ent p).role = 2 ∨ (s.ent p).role = 4) ∧ bit s.sys.seen p = false ∧ s.sys.genAt + s.rn 26624 6 * sTicks ≤ s.clock) ∧
    (∃ (s : State) (a : ℕ) (e : ℕ), s.sys.lostAt = some a ∧ s.standalone = false ∧ s.sys.joined = true ∧ s.rn 26624 9 = 1 ∧ s.sys.held = true ∧ s.sys.quorum = false ∧ s.spareMaskIds ≠ 0 ∧ s.rn 26624 15 = 1 ∧ a + 2 * s.rn 26624 5 * msTicks ≤ s.clock ∧ e < 16 ∧ s.encOn e = true) ∧
    (∃ (s : State), (s.sys.lostAt = none ∨ s.sys.quorum = true ∨ s.rn 26624 15 ≠ 1 ∨ s.spareMaskIds = 0)) :=
  ⟨⟨(stateAt T12.S12 8), by decide +kernel⟩,
   ⟨(stateAt TZ6.ZK 0), ({ ftype := 3, src := 2, dst := 0, flags := 4, hops := 0, epoch := 0, gen := 1, payload := ([0x00#8, 0x01#8, 0x00#8, 0x05#8, 0x31#8, 0x00#8, 0x00#8, 0x00#8, 0x00#8, 0x00#8, 0x01#8, 0x00#8, 0x00#8, 0x00#8, 0x00#8, 0x00#8, 0x00#8, 0x00#8, 0x00#8, 0x00#8, 0x00#8, 0x00#8, 0x00#8, 0x00#8, 0x00#8, 0x00#8, 0x00#8, 0x00#8, 0x00#8, 0x00#8, 0x01#8, 0x00#8, 0x00#8, 0x00#8, 0x00#8, 0x00#8, 0x00#8, 0x00#8, 0x00#8, 0x0b#8, 0x00#8, 0x00#8, 0x00#8, 0x00#8, 0x00#8, 0x00#8, 0x00#8, 0x00#8, 0x00#8, 0x00#8, 0x01#8, 0x00#8, 0x00#8, 0x00#8, 0x00#8, 0x00#8, 0x00#8, 0x00#8, 0x00#8, 0x00#8, 0x00#8, 0x00#8, 0x00#8, 0x00#8, 0x00#8, 0x00#8, 0x00#8, 0x00#8, 0x00#8, 0x00#8, 0x02#8, 0x00#8, 0x00#8, 0x00#8, 0x00#8, 0x00#8, 0x00#8, 0x00#8, 0x00#8, 0x0d#8] ++ List.replicate 248 0 ++ []) } : SpOut), by decide +kernel⟩,
   ⟨(stateAt TZ6.ZK 1), by decide +kernel⟩,
   ⟨(stateAt T12.S12 0), 0, (frameAt T12.fS 1), ({ framingOk := true, crcOk := true, ftype := 3, src := 1, dst := 0, flags := 7, hops := 0, epoch := 0, gen := 1, seq := 0, ack := 0, payload := ([0x00#8, 0x01#8, 0x00#8, 0x04#8, 0x21#8, 0x41#8] ++ List.replicate 294 0 ++ []), rxNs := 5 } : SpFrame), by decide +kernel⟩,
   ⟨(stateAt T12.S12 0), 0, (frameAt T12.fS 3), ({ framingOk := true, crcOk := true, ftype := 3, src := 3, dst := 0, flags := 7, hops := 0, epoch := 0, gen := 0, seq := 0, ack := 0, payload := ([0x00#8, 0x01#8, 0x00#8, 0x04#8, 0x21#8, 0x41#8] ++ List.replicate 322 0 ++ []), rxNs := 5 } : SpFrame), by decide +kernel⟩,
   ⟨(stateAt T12.S12 0), 0, by decide +kernel⟩,
   ⟨(stateAt T12d.S12 1), 1, by decide +kernel⟩,
   ⟨(stateAt T12.S12 0), 0, by decide +kernel⟩,
   ⟨(stateAt T12.S12 0), Sys2Proof.Req.mailbox 3, by decide +kernel⟩,
   ⟨(stateAt T12d.S12 2), 1, none, by decide +kernel⟩,
   ⟨(stateAt TZ6.ZK 2), 0, 2, by decide +kernel⟩,
   ⟨(stateAt T12.S12 0), by decide +kernel⟩⟩

/-- The hypotheses of PackagesWatchEachOther are met (part 2). -/
theorem witness_PackagesWatchEachOther_2 :
    (∃ (s : State), (s.standalone = true ∨ s.sys.joined = false ∨ s.power.phase ≠ Phase.running ∨ ∃ a, s.sys.digestAt = some a ∧ s.clock < a + 100 * msTicks)) ∧
    (∃ (s : State), s.standalone = false ∧ s.sys.joined = true ∧ s.power.phase = Phase.running ∧ (∀ (a : ℕ), s.sys.digestAt = some a → a + 100 * msTicks ≤ s.clock) ∧ s.rn 26624 9 ≠ 2) ∧
    (∃ (s : State), s.standalone = false ∧ s.sys.joined = true ∧ s.power.phase = Phase.running ∧ (∀ (a : ℕ), s.sys.digestAt = some a → a + 100 * msTicks ≤ s.clock) ∧ s.sys.suspended = true) ∧
    (∃ (s : State) (q : ℕ) (x : SpWire) (f : SpFrame), f = s.spFrame q x ∧ f.ftype = ftDigest ∧ (s.receive q f).2 = true ∧ (s.receive q f).1.supervisor = false) ∧
    (∃ (s : State) (q : ℕ) (x : SpWire) (f : SpFrame), f = s.spFrame q x ∧ f.ftype = ftDigest ∧ (s.receive q f).2 = true ∧ (s.receive q f).1.supervisor = true ∧ (Addr.ofNat (fld f.payload 0 4)).level = 4 ∧ (s.receive q f).1.sys.change = none ∧ fld f.payload 4 8 = ((s.receive q f).1.ent (Addr.ofNat (fld f.payload 0 4)).pkg).root) ∧
    (∃ (s : State) (q : ℕ) (x : SpWire) (f : SpFrame), f = s.spFrame q x ∧ f.ftype = ftDigest ∧ (s.receive q f).2 = true ∧ (s.receive q f).1.supervisor = true ∧ (Addr.ofNat (fld f.payload 0 4)).level = 4 ∧ (s.receive q f).1.sys.change = none ∧ fld f.payload 4 8 ≠ ((s.receive q f).1.ent (Addr.ofNat (fld f.payload 0 4)).pkg).root ∧ 16 * f.src + (Addr.ofNat (fld f.payload 0 4)).pkg ∉ (s.receive q f).1.sys.differ) ∧
    (∃ (s : State) (r : Req), s.takes r = true ∧ (s.standalone = true ∨ s.sys.change ≠ none ∨ s.sys.target ≠ none)) ∧
    (∃ (s : State) (r : Req), s.takes r = true ∧ s.standalone = false ∧ s.sys.change = none ∧ s.sys.target = none ∧ s.power.fail = false) ∧
    (∃ (s : State) (r : Req), s.takes r = true ∧ s.standalone = false ∧ s.sys.change = none ∧ s.sys.target = none ∧ s.power.fail = true) ∧
    (∃ (s : State) (r : Req), s.takes r = true ∧ s.standalone = false ∧ s.sys.change = none ∧ s.sys.target = none ∧ s.supervisor = true) ∧
    (∃ s : State, s.standalone = false ∧ s.sys.joined = true ∧ s.power.phase = Phase.running ∧ (∀ (a : ℕ), s.sys.digestAt = some a → a + 100 * msTicks ≤ s.clock) ∧ s.sys.suspended = false ∧ s.actualRoot = (s.ent s.pkgId).root) ∧
    (∃ s : State, s.standalone = false ∧ s.sys.joined = true ∧ s.power.phase = Phase.running ∧ (∀ (a : ℕ), s.sys.digestAt = some a → a + 100 * msTicks ≤ s.clock) ∧ s.sys.suspended = false ∧ s.actualRoot ≠ (s.ent s.pkgId).root ∧ s.actualRoot = rootOf s.sys.tree) :=
  ⟨⟨(stateAt T12.S12 3), by decide +kernel⟩,
   ⟨(stateAt T12.S12 0), by decide +kernel⟩,
   ⟨(stateAt T12.S12 5), by decide +kernel⟩,
   ⟨(stateAt T12.S12 2), 0, (frameAt T12.fS 5), ({ framingOk := true, crcOk := true, ftype := 4, src := 1, dst := 0, flags := 5, hops := 0, epoch := 0, gen := 1, seq := 0, ack := 0, payload := [0x00#8, 0x04#8, 0x10#8, 0x00#8, 0x00#8, 0x00#8, 0x00#8, 0x00#8, 0x00#8, 0x00#8, 0x00#8, 0x00#8, 0x00#8, 0x00#8, 0x00#8, 0x00#8], rxNs := 0 } : SpFrame), by decide +kernel⟩,
   ⟨(stateAt T12.S12 0), 0, (frameAt T12.fS 5), ({ framingOk := true, crcOk := true, ftype := 4, src := 1, dst := 0, flags := 5, hops := 0, epoch := 0, gen := 1, seq := 0, ack := 0, payload := [0x00#8, 0x04#8, 0x10#8, 0x00#8, 0x00#8, 0x00#8, 0x00#8, 0x00#8, 0x00#8, 0x00#8, 0x00#8, 0x00#8, 0x00#8, 0x00#8, 0x00#8, 0x00#8], rxNs := 0 } : SpFrame), by decide +kernel⟩,
   ⟨(stateAt T12.S12 0), 0, (frameAt T12.fS 6), ({ framingOk := true, crcOk := true, ftype := 4, src := 1, dst := 0, flags := 5, hops := 0, epoch := 0, gen := 1, seq := 0, ack := 0, payload := [0x00#8, 0x04#8, 0x10#8, 0x00#8, 0x00#8, 0x00#8, 0x00#8, 0x00#8, 0x00#8, 0x00#8, 0x00#8, 0x05#8, 0x00#8, 0x00#8, 0x00#8, 0x00#8], rxNs := 0 } : SpFrame), by decide +kernel⟩,
   ⟨(stateAt T12.S12 8), Sys2Proof.Req.mailbox 3, by decide +kernel⟩,
   ⟨(stateAt T12.S12 0), Sys2Proof.Req.mailbox 3, by decide +kernel⟩,
   ⟨(stateAt T12.S12 7), Sys2Proof.Req.mailbox 3, by decide +kernel⟩,
   ⟨(stateAt T12.S12 0), Sys2Proof.Req.mailbox 3, by decide +kernel⟩,
   ⟨rooted cas cas.actualRoot, by decide +kernel, by decide +kernel, by decide +kernel, forSome (by decide +kernel), by decide +kernel, rooted_same cas⟩,
   ⟨rooted cas (cas.actualRoot + 1), by decide +kernel, by decide +kernel, by decide +kernel, forSome (by decide +kernel), by decide +kernel, rooted_other cas, rooted_tree cas _⟩⟩

end Sys2Proof.Tests
end

