-- ==== Sys2Proof/Tests/Witness4.lean ====
section
/-! SUPPORT. Witnesses: for every statement with hypotheses, clause by clause, a concrete state and operands that meet them together. -/

namespace Sys2Proof.Tests

open Sys2Proof Sys2Proof.Machine

set_option Elab.async false

/-- The hypotheses of FencedPackagesRejoin are met. -/
theorem witness_FencedPackagesRejoin :
    (∃ (s : State), s.isFencedPkg = true ∧ (s.rn 26624 14 = 1 ∨ s.sys.rejoin = true) ∧ s.rn 26624 11 ≠ 255 ∧ (∀ (a : ℕ), s.sys.rejoinAt = some a → a + sTicks ≤ s.clock)) ∧
    (∃ (s : State), (s.isFencedPkg = false ∨ s.rn 26624 14 ≠ 1 ∧ s.sys.rejoin = false ∨ s.rn 26624 11 = 255 ∨ ∃ a, s.sys.rejoinAt = some a ∧ s.clock < a + sTicks)) ∧
    (∃ (s : State) (q : ℕ) (x : SpWire), spIsOp (s.spFrame q x) opRejoin = true ∧ (s.receive q (s.spFrame q x)).2 = true ∧ (s.receive q (s.spFrame q x)).1.supervisor = false) ∧
    (∃ (s : State) (q : ℕ) (x : SpWire) (home : ℕ) (serial : ℕ) (k : ℕ), spIsOp (s.spFrame q x) opRejoin = true ∧ (s.receive q (s.spFrame q x)).2 = true ∧ home = byteAt (s.spFrame q x).payload 2 ∧ serial = fld (s.spFrame q x).payload 4 8 ∧ (s.receive q (s.spFrame q x)).1.supervisor = true ∧ home < 16 ∧ ((s.receive q (s.spFrame q x)).1.ent home).role = 3 ∧ bit (s.receive q (s.spFrame q x)).1.memberMask home = true ∧ k ≠ home) ∧
    (∃ (s : State) (q : ℕ) (x : SpWire), spIsOp (s.spFrame q x) opRejoin = true ∧ (s.receive q (s.spFrame q x)).2 = true ∧ (s.receive q (s.spFrame q x)).1.supervisor = true ∧ (∀ k < 16, ((s.receive q (s.spFrame q x)).1.ent k).role ≠ 3)) ∧
    (∃ (s : State) (q : ℕ) (x : SpWire), spIsOp (s.spFrame q x) 13 = true ∧ (s.receive q (s.spFrame q x)).2 = true ∧ ((s.receive q (s.spFrame q x)).1.isFencedPkg = false ∨ fld (s.spFrame q x).payload 8 8 ≠ (s.receive q (s.spFrame q x)).1.otp.serial ∨ 15 < byteAt (s.spFrame q x).payload 2)) ∧
    (∃ (s : State) (q : ℕ) (x : SpWire) (id : ℕ) (role : ℕ) (k : ℕ), spIsOp (s.spFrame q x) 13 = true ∧ (s.receive q (s.spFrame q x)).2 = true ∧ id = byteAt (s.spFrame q x).payload 2 ∧ (role = if byteAt (s.spFrame q x).payload 3 = 2 then 4 else 1) ∧ (s.receive q (s.spFrame q x)).1.isFencedPkg = true ∧ fld (s.spFrame q x).payload 8 8 = (s.receive q (s.spFrame q x)).1.otp.serial ∧ id ≤ 15 ∧ k ≠ id) ∧
    (∃ (s : State) (q : ℕ) (x : SpWire) (id : ℕ) (role : ℕ), spIsOp (s.spFrame q x) 13 = true ∧ (s.receive q (s.spFrame q x)).2 = true ∧ id = byteAt (s.spFrame q x).payload 2 ∧ (role = if byteAt (s.spFrame q x).payload 3 = 2 then 4 else 1) ∧ (s.receive q (s.spFrame q x)).1.isFencedPkg = true ∧ fld (s.spFrame q x).payload 8 8 = (s.receive q (s.spFrame q x)).1.otp.serial ∧ id ≤ 15 ∧ role = 1 ∧ ((s.receive q (s.spFrame q x)).1.log.queues.at' (s.receive q (s.spFrame q x)).1.sysKey []).length < 12) ∧
    (∃ (s : State) (r : Req), s.takes r = true ∧ s.isFencedPkg = false) ∧
    (∃ (s : State) (r : Req), s.takes r = true ∧ s.isFencedPkg = true) ∧
    (∃ (s : State) (q : ℕ) (x : SpWire) (p : ℕ) (off : ℕ) (have' : List Byte), spIsOp (s.spFrame q x) 14 = true ∧ (s.receive q (s.spFrame q x)).2 = true ∧ p = byteAt (s.spFrame q x).payload 2 ∧ off = fld (s.spFrame q x).payload 4 4 ∧ (have' = if off = 0 then [] else (s.receive q (s.spFrame q x)).1.sys.parts.at' p []) ∧ (16 ≤ p ∨ off ≠ have'.length ∨ (s.receive q (s.spFrame q x)).1.rn 26624 9 ≠ 2 ∧ (s.receive q (s.spFrame q x)).1.rn 26624 9 ≠ 4)) ∧
    (∃ (s : State) (q : ℕ) (x : SpWire) (p : ℕ) (off : ℕ) (have' : List Byte), spIsOp (s.spFrame q x) 14 = true ∧ (s.receive q (s.spFrame q x)).2 = true ∧ p = byteAt (s.spFrame q x).payload 2 ∧ off = fld (s.spFrame q x).payload 4 4 ∧ (have' = if off = 0 then [] else (s.receive q (s.spFrame q x)).1.sys.parts.at' p []) ∧ p < 16 ∧ off = have'.length ∧ ((s.receive q (s.spFrame q x)).1.rn 26624 9 = 2 ∨ (s.receive q (s.spFrame q x)).1.rn 26624 9 = 4) ∧ bit (byteAt (s.spFrame q x).payload 3) 0 = false) ∧
    (∃ (s : State) (q : ℕ) (x : SpWire) (p : ℕ) (off : ℕ) (have' : List Byte), spIsOp (s.spFrame q x) 14 = true ∧ (s.receive q (s.spFrame q x)).2 = true ∧ p = byteAt (s.spFrame q x).payload 2 ∧ off = fld (s.spFrame q x).payload 4 4 ∧ (have' = if off = 0 then [] else (s.receive q (s.spFrame q x)).1.sys.parts.at' p []) ∧ p < 16 ∧ off = have'.length ∧ ((s.receive q (s.spFrame q x)).1.rn 26624 9 = 2 ∨ (s.receive q (s.spFrame q x)).1.rn 26624 9 = 4) ∧ bit (byteAt (s.spFrame q x).payload 3) 0 = true) :=
  ⟨⟨(stateAt T12b.S12 6), by decide +kernel⟩,
   ⟨(stateAt T12b.S12 0), by decide +kernel⟩,
   ⟨(stateAt T12b.S12 4), 0, (frameAt T12b.fS 0), by decide +kernel⟩,
   ⟨(stateAt T12b.S12 1), 0, (frameAt T12b.fS 3), 2, 5, 0, by decide +kernel⟩,
   ⟨(stateAt T12b.S12 0), 0, (frameAt T12b.fS 0), by decide +kernel⟩,
   ⟨(stateAt T12b.S12 0), 0, (frameAt T12b.fS 6), by decide +kernel⟩,
   ⟨(stateAt T12b.S12 6), 0, (frameAt T12b.fS 6), 2, 1, 0, by decide +kernel⟩,
   ⟨(stateAt T12b.S12 6), 0, (frameAt T12b.fS 6), 2, 1, by decide +kernel⟩,
   ⟨(stateAt T12b.S12 0), Sys2Proof.Req.mailbox 3, by decide +kernel⟩,
   ⟨(stateAt T12b.S12 6), Sys2Proof.Req.mailbox 3, by decide +kernel⟩,
   ⟨(stateAt T12b.S12 0), 0, (frameAt T12b.fS 18), 2, 2, [], by decide +kernel⟩,
   ⟨(stateAt T12b.S12 14), 0, (frameAt T12b.fS 18), 2, 2, [0x01#8, 0x02#8], by decide +kernel⟩,
   ⟨(stateAt T12b.S12 12), 0, (frameAt T12b.fS 24), 1, 0, [], by decide +kernel⟩⟩

/-- The hypotheses of PcieFunctionResetsAndLinks are met (part 1). -/
theorem witness_PcieFunctionResetsAndLinks_1 :
    (∃ (s : State), s.power.quietWait = false ∧ s.dieLost 0 = true) ∧
    (∃ (s : State) (kind : ℕ), s.power.quietWait = false ∧ (kind = 1 ∨ kind = 2 ∨ 3 ≤ kind) ∧ s.rn 26112 4 ≠ 2) ∧
    (∃ (s : State) (kind : ℕ) (q : ℕ), s.power.quietWait = false ∧ s.dieLost 0 = false ∧ (kind = 0 ∨ s.rn 26112 4 = 2) ∧ (∀ (q : ℕ), s.upd.owner ≠ some (Req.mailbox q)) ∧ q < 32) ∧
    (∃ (s : State) (kind : ℕ), s.power.quietWait = false ∧ s.dieLost 0 = false ∧ (kind = 0 ∨ s.rn 26112 4 = 2) ∧ (∀ (q : ℕ), s.upd.owner ≠ some (Req.mailbox q)) ∧ (kind = 1 ∨ kind = 2)) ∧
    (∃ (s : State) (kind : ℕ), s.power.quietWait = false ∧ s.dieLost 0 = false ∧ (kind = 0 ∨ s.rn 26112 4 = 2) ∧ (∀ (q : ℕ), s.upd.owner ≠ some (Req.mailbox q)) ∧ (kind = 0 ∨ 3 ≤ kind) ∧ s.rn 26112 4 = 2) ∧
    (∃ (s : State), (s.dieLost 0 = true ∨ s.pcie.reset = true)) ∧
    (∃ (s : State) (speed : ℕ) (width : ℕ), s.dieLost 0 = false ∧ s.pcie.reset = false ∧ s.pcieHeld = false ∧ (s.power.phase = Phase.booting ∨ s.power.phase = Phase.running) ∧ speed ≤ s.rn 26112 2 ∧ width ≤ s.rn 26112 3 ∧ (width = 1 ∨ width = 2 ∨ width = 4)) ∧
    (∃ (s : State) (speed : ℕ) (width : ℕ), (s.pcie.reset = true ∨ s.pcieHeld = true ∨ s.rn 26112 2 < speed ∨ s.rn 26112 3 < width)) :=
  ⟨⟨(stateAt T13.S13 4), by decide +kernel⟩,
   ⟨(stateAt T13.S13 4), 1, by decide +kernel⟩,
   ⟨(stateAt T13.S13 1), 0, 0, by decide +kernel, by decide +kernel, by decide +kernel, ownerNone (by decide +kernel), by decide +kernel⟩,
   ⟨(stateAt T13.S13 0), 1, by decide +kernel, by decide +kernel, by decide +kernel, ownerNone (by decide +kernel), by decide +kernel⟩,
   ⟨(stateAt T13.S13 0), 0, by decide +kernel, by decide +kernel, by decide +kernel, ownerNone (by decide +kernel), by decide +kernel⟩,
   ⟨(stateAt T13.S13 4), by decide +kernel⟩,
   ⟨(stateAt T13.S13 0), 0, 1, by decide +kernel⟩,
   ⟨(stateAt T13.S13 0), 0, 1000000, by decide +kernel⟩⟩

/-- The hypotheses of PcieFunctionResetsAndLinks are met (part 2). -/
theorem witness_PcieFunctionResetsAndLinks_2 :
    (∃ (s : State), s.pcieUp = false) ∧
    (∃ (s : State) (off : ℕ) (size : ℕ), s.pcieUp = true ∧ (size ≠ 4 ∧ size ≠ 8 ∨ off % size ≠ 0 ∨ 65536 < off + size)) ∧
    (∃ (s : State) (q : ℕ) (w : ℕ) (v : ℕ), s.pcieUp = true ∧ q < 32 ∧ (w ≤ 4 ∨ w = 6) ∧ v < 2 ^ 32 ∧ (s.ring q).state = 0) ∧
    (∃ (s : State) (q : ℕ) (w : ℕ) (v : ℕ), s.pcieUp = true ∧ q < 32 ∧ (w ≤ 4 ∨ w = 6) ∧ v < 2 ^ 32 ∧ (s.ring q).state ≠ 0) ∧
    (∃ (s : State) (q : ℕ) (w : ℕ), s.pcieUp = true ∧ q < 32 ∧ w < 8) ∧
    (∃ (s : State) (k : ℕ) (v : ℕ), s.pcieUp = true ∧ k < 256 ∧ v < 2 ^ 32 ∧ s.pcie.pending = 0) ∧
    (∃ (s : State) (q : ℕ) (p : ℕ), (s.ring q).intWait = true ∧ (∀ (a : ℕ), (s.ring q).lastInt = some a → a + (s.ring q).moderation * usTicks ≤ s.clock) ∧ p ≠ q) ∧
    (∃ (s : State) (q : ℕ), (s.ring q).intWait = false) :=
  ⟨⟨(stateAt T13.S13 4), by decide +kernel⟩,
   ⟨(stateAt T13.S13 0), 0, 0, by decide +kernel⟩,
   ⟨(stateAt T13.S13 0), 0, 0, 0, by decide +kernel⟩,
   ⟨(stateAt T13.S13 1), 3, 0, 0, by decide +kernel⟩,
   ⟨(stateAt T13.S13 0), 0, 0, by decide +kernel⟩,
   ⟨(stateAt T13.S13 0), 0, 0, by decide +kernel⟩,
   ⟨(stateAt T13.S13 16), 2, 0, by decide +kernel⟩,
   ⟨(stateAt T13.S13 0), 0, by decide +kernel⟩⟩

/-- The hypotheses of RingsRunAndAnswer are met (part 1). -/
theorem witness_RingsRunAndAnswer_1 :
    (∃ (s : State) (q : ℕ) (kind : ℕ), q < 32 ∧ (s.ring q).running = true ∧ (s.ring q).kind = kind ∧ serialAfter 32 (s.ring q).host (s.ring q).fetch = true) ∧
    (∃ (s : State) (q : ℕ) (kind : ℕ), q < 32 ∧ ((s.ring q).running = false ∨ (s.ring q).kind ≠ kind ∨ (s.ring q).host = (s.ring q).fetch)) ∧
    (∃ (s : State) (q : ℕ) (w : WriteBack), q < 32 ∧ w.desc ∈ (s.ring q).open' ∧ (s.ring q).space = true ∧ (s.ring q).waits = [] ∧ w.final = true ∧ w.status ≠ 8 ∧ (s.ring q).intOn = false) ∧
    (∃ (s : State) (q : ℕ), q < 32 ∧ s.pcieUp = false) ∧
    (∃ (s : State) (q : ℕ), q < 32 ∧ s.pcieUp = true ∧ (s.ring q).state ≠ 0) ∧
    (∃ (s : State) (q : ℕ) (x : RingS) (n : ℕ) (cause : ℕ) (p : ℕ), q < 32 ∧ s.pcieUp = true ∧ (s.ring q).state = 0 ∧ x = { cfg := setBit (s.ring q).cfg 160 true, fetch := (s.ring q).fetch, wb := (s.ring q).wb, cons := (s.ring q).cons, state := (s.ring q).state, cause := (s.ring q).cause, open' := (s.ring q).open', bufs := (s.ring q).bufs, waits := (s.ring q).waits, recs := (s.ring q).recs, recAt := (s.ring q).recAt, nextRec := (s.ring q).nextRec, gap := (s.ring q).gap, lastInt := (s.ring q).lastInt, intWait := (s.ring q).intWait } ∧ (n = (List.filter (fun p => (s.ring p).running && decide ((s.ring p).kind = (s.ring q).kind) && decide ((s.ring p).param = (s.ring q).param)) (List.range 32)).length) ∧ (x.configOk = false ∧ cause = 3 ∨ x.configOk = true ∧ kindLimit (s.ring q).kind ≤ n ∧ cause = 2) ∧ p ≠ q) ∧
    (∃ (s : State) (q : ℕ) (x : RingS) (n : ℕ) (p : ℕ), q < 32 ∧ s.pcieUp = true ∧ (s.ring q).state = 0 ∧ x = { cfg := setBit (s.ring q).cfg 160 true, fetch := (s.ring q).fetch, wb := (s.ring q).wb, cons := (s.ring q).cons, state := (s.ring q).state, cause := (s.ring q).cause, open' := (s.ring q).open', bufs := (s.ring q).bufs, waits := (s.ring q).waits, recs := (s.ring q).recs, recAt := (s.ring q).recAt, nextRec := (s.ring q).nextRec, gap := (s.ring q).gap, lastInt := (s.ring q).lastInt, intWait := (s.ring q).intWait } ∧ (n = (List.filter (fun p => (s.ring p).running && decide ((s.ring p).kind = (s.ring q).kind) && decide ((s.ring p).param = (s.ring q).param)) (List.range 32)).length) ∧ x.configOk = true ∧ n < kindLimit (s.ring q).kind ∧ p ≠ q) ∧
    (∃ (s : State) (q : ℕ), q < 32 ∧ s.pcieUp = true ∧ (s.ring q).running = false) ∧
    (∃ (s : State) (q : ℕ) (k : ℕ), q < 32 ∧ s.pcieUp = true ∧ k < 2 ^ 32 ∧ ((s.ring q).running = false ∨ (serialAfter 32 k (s.ring q).host = true ∨ k = (s.ring q).host) ∧ serialDiff 32 k (s.ring q).oldest ≤ (s.ring q).size)) ∧
    (∃ (s : State) (q : ℕ) (k : ℕ) (p : ℕ), q < 32 ∧ s.pcieUp = true ∧ k < 2 ^ 32 ∧ (s.ring q).running = true ∧ (serialAfter 32 k (s.ring q).host = false ∧ k ≠ (s.ring q).host ∨ (s.ring q).size < serialDiff 32 k (s.ring q).oldest) ∧ p ≠ q) ∧
    (∃ (s : State) (q : ℕ) (k : ℕ), q < 32 ∧ s.pcieUp = true ∧ k < 2 ^ 32 ∧ (s.ring q).waits = [] ∧ s.ringOf 5 0 = none) ∧
    (∃ (s : State) (q : ℕ) (i : ℕ), q < 32 ∧ (s.ring q).running = true ∧ i ∉ (s.ring q).open') :=
  ⟨⟨(stateAt T13b.S13 0), 3, 0, by decide +kernel⟩,
   ⟨(stateAt T13b.S13 0), 0, 3, by decide +kernel⟩,
   ⟨(stateAt T13b.S13 21), 3, ({ desc := 0, status := 0, final := true, timeValid := false, flag := false, fieldA := 0, length := 0, time := 0, fieldB := 0 } : WriteBack), by decide +kernel⟩,
   ⟨(stateAt T13b.S13 29), 0, by decide +kernel⟩,
   ⟨(stateAt T13b.S13 0), 3, by decide +kernel⟩,
   ⟨(stateAt T13b.S13 0), 0, ({ cfg := 1461501637330902918203684832716283019655932542976, fetch := 0, wb := 0, cons := 0, state := 0, cause := 0, open' := [], bufs := [], waits := [], recs := [], recAt := 0, nextRec := 0, gap := false, lastInt := none, intWait := false } : RingS), 1, 3, 3, by decide +kernel⟩,
   ⟨(stateAt T13b.S13 27), 3, ({ cfg := 1461501985780046645244671494769744755700904497152, fetch := 0, wb := 0, cons := 0, state := 0, cause := 0, open' := [], bufs := [], waits := [], recs := [], recAt := 0, nextRec := 0, gap := false, lastInt := none, intWait := false } : RingS), 0, 0, by decide +kernel⟩,
   ⟨(stateAt T13b.S13 0), 0, by decide +kernel⟩,
   ⟨(stateAt T13b.S13 0), 0, 0, by decide +kernel⟩,
   ⟨(stateAt T13b.S13 0), 3, 0, 0, by decide +kernel⟩,
   ⟨(stateAt T13b.S13 0), 0, 0, by decide +kernel⟩,
   ⟨(stateAt T13b.S13 0), 3, 3, by decide +kernel⟩⟩

/-- The hypotheses of RingsRunAndAnswer are met (part 2). -/
theorem witness_RingsRunAndAnswer_2 :
    (∃ (s : State) (q : ℕ) (i : ℕ), q < 32 ∧ (s.ring q).running = true ∧ i ∈ (s.ring q).open' ∧ (s.ring q).space = true ∧ (s.ring q).waits = []) ∧
    (∃ (s : State) (q : ℕ) (i : ℕ) (p : ℕ), q < 32 ∧ (s.ring q).running = true ∧ i ∈ (s.ring q).open' ∧ p ≠ q) ∧
    (∃ (s : State) (q : ℕ), q < 32 ∧ s.fetchDesc q 2 = none) ∧
    (∃ (s : State) (q : ℕ) (y : DescWire) (d : Desc) (i : ℕ) (w : State) (p : ℕ), q < 32 ∧ d = readDesc y ∧ s.fetchDesc q 2 = some (i, w) ∧ p = (s.ring q).param ∧ (plainDesc d = false ∨ d.lenA < 60 ∨ 9212 < d.lenA)) ∧
    (∃ (s : State) (q : ℕ) (y : DescWire) (d : Desc) (i : ℕ) (w : State) (p : ℕ), q < 32 ∧ d = readDesc y ∧ s.fetchDesc q 2 = some (i, w) ∧ p = (s.ring q).param ∧ plainDesc d = true ∧ 60 ≤ d.lenA ∧ d.lenA ≤ 9212 ∧ beNat (List.take 2 (List.drop 12 d.data)) = 34824) ∧
    (∃ (s : State) (q : ℕ) (y : DescWire) (d : Desc) (i : ℕ) (w : State) (p : ℕ), q < 32 ∧ d = readDesc y ∧ s.fetchDesc q 2 = some (i, w) ∧ p = (s.ring q).param ∧ plainDesc d = true ∧ 60 ≤ d.lenA ∧ d.lenA ≤ 9212 ∧ beNat (List.take 2 (List.drop 12 d.data)) ≠ 34824 ∧ (s.rn (10512 + p) 10 ≠ 1 ∨ s.isFencedPkg = true)) ∧
    (∃ (s : State) (q : ℕ) (y : DescWire) (d : Desc) (i : ℕ) (w : State) (p : ℕ), q < 32 ∧ d = readDesc y ∧ s.fetchDesc q 2 = some (i, w) ∧ p = (s.ring q).param ∧ plainDesc d = true ∧ 60 ≤ d.lenA ∧ d.lenA ≤ 9212 ∧ beNat (List.take 2 (List.drop 12 d.data)) ≠ 34824 ∧ s.rn (10512 + p) 10 = 1 ∧ s.isFencedPkg = false) ∧
    (∃ (s : State) (q : ℕ) (y : DescWire) (d : Desc) (kind : ℕ) (ok : Bool), q < 32 ∧ d = readDesc y ∧ kind = 3 ∧ ok = (decide (64 ≤ d.lenA) && decide (d.lenA ≤ 65536)) ∧ s.fetchDesc q kind = none) ∧
    (∃ (s : State) (q : ℕ) (y : DescWire) (d : Desc) (kind : ℕ) (ok : Bool), q < 32 ∧ d = readDesc y ∧ kind = 6 ∧ ok = (decide (192 ≤ d.lenA) && decide (d.lenA ≤ 65536)) ∧ s.fetchDesc q kind = none) ∧
    (∃ (s : State) (q : ℕ) (y : DescWire) (d : Desc) (kind : ℕ) (ok : Bool) (i : ℕ) (w : State), q < 32 ∧ d = readDesc y ∧ kind = 3 ∧ ok = (decide (64 ≤ d.lenA) && decide (d.lenA ≤ 65536)) ∧ s.fetchDesc q kind = some (i, w) ∧ plainDesc d = true ∧ d.stampReq = false ∧ ok = true) ∧
    (∃ (s : State) (q : ℕ) (y : DescWire) (d : Desc) (kind : ℕ) (ok : Bool) (i : ℕ) (w : State), q < 32 ∧ d = readDesc y ∧ kind = 3 ∧ ok = (decide (64 ≤ d.lenA) && decide (d.lenA ≤ 65536)) ∧ s.fetchDesc q kind = some (i, w) ∧ (plainDesc d = false ∨ d.stampReq = true ∨ ok = false)) ∧
    (∃ (s : State) (q : ℕ) (y : DescWire) (d : Desc) (kind : ℕ) (ok : Bool) (i : ℕ) (w : State), q < 32 ∧ d = readDesc y ∧ kind = 6 ∧ ok = (decide (192 ≤ d.lenA) && decide (d.lenA ≤ 65536)) ∧ s.fetchDesc q kind = some (i, w) ∧ plainDesc d = true ∧ d.stampReq = false ∧ ok = true) :=
  ⟨⟨(stateAt T13b.S13 21), 3, 0, by decide +kernel⟩,
   ⟨(stateAt T13b.S13 21), 3, 0, 0, by decide +kernel⟩,
   ⟨(stateAt T13b.S13 0), 0, by decide +kernel⟩,
   ⟨(stateAt T13b.S13 6), 3, ({ bytes := [0x00#8, 0x10#8, 0x00#8, 0x00#8, 0x00#8, 0x00#8, 0x00#8, 0x00#8, 0x40#8, 0x00#8, 0x00#8, 0x00#8, 0x06#8, 0x00#8, 0x00#8, 0x00#8, 0x00#8, 0x00#8, 0x00#8, 0x00#8, 0x00#8, 0x00#8, 0x00#8, 0x00#8, 0x00#8, 0x00#8, 0x00#8, 0x00#8, 0x00#8, 0x00#8, 0x00#8, 0x00#8], data := ([0x00#8] ++ List.replicate 63 0 ++ []) } : DescWire), ({ addrA := 4096, lenA := 64, stampReq := false, rsvdA := 3, addrB := 0, lenB := 0, rsvdB := 0, data := ([0x00#8] ++ List.replicate 63 0 ++ []) } : Desc), 0, (fetched (stateAt T13b.S13 6) 3 2), 0, by decide +kernel⟩,
   ⟨(stateAt T13b.S13 6), 3, ({ bytes := [0x00#8, 0x10#8, 0x00#8, 0x00#8, 0x00#8, 0x00#8, 0x00#8, 0x00#8, 0x40#8, 0x00#8, 0x00#8, 0x00#8, 0x00#8, 0x00#8, 0x00#8, 0x00#8, 0x00#8, 0x00#8, 0x00#8, 0x00#8, 0x00#8, 0x00#8, 0x00#8, 0x00#8, 0x00#8, 0x00#8, 0x00#8, 0x00#8, 0x00#8, 0x00#8, 0x00#8, 0x00#8], data := ([0x00#8, 0x00#8, 0x00#8, 0x00#8, 0x00#8, 0x00#8, 0x00#8, 0x00#8, 0x00#8, 0x00#8, 0x00#8, 0x00#8, 0x88#8, 0x08#8] ++ List.replicate 50 0 ++ []) } : DescWire), ({ addrA := 4096, lenA := 64, stampReq := false, rsvdA := 0, addrB := 0, lenB := 0, rsvdB := 0, data := ([0x00#8, 0x00#8, 0x00#8, 0x00#8, 0x00#8, 0x00#8, 0x00#8, 0x00#8, 0x00#8, 0x00#8, 0x00#8, 0x00#8, 0x88#8, 0x08#8] ++ List.replicate 50 0 ++ []) } : Desc), 0, (fetched (stateAt T13b.S13 6) 3 2), 0, by decide +kernel⟩,
   ⟨(stateAt T13b.S13 6), 3, ({ bytes := [0x00#8, 0x10#8, 0x00#8, 0x00#8, 0x00#8, 0x00#8, 0x00#8, 0x00#8, 0x40#8, 0x00#8, 0x00#8, 0x00#8, 0x00#8, 0x00#8, 0x00#8, 0x00#8, 0x00#8, 0x00#8, 0x00#8, 0x00#8, 0x00#8, 0x00#8, 0x00#8, 0x00#8, 0x00#8, 0x00#8, 0x00#8, 0x00#8, 0x00#8, 0x00#8, 0x00#8, 0x00#8], data := ([0x00#8] ++ List.replicate 63 0 ++ []) } : DescWire), ({ addrA := 4096, lenA := 64, stampReq := false, rsvdA := 0, addrB := 0, lenB := 0, rsvdB := 0, data := ([0x00#8] ++ List.replicate 63 0 ++ []) } : Desc), 0, (fetched (stateAt T13b.S13 6) 3 2), 0, by decide +kernel⟩,
   ⟨(stateAt T13b.S13 8), 3, ({ bytes := [0x00#8, 0x10#8, 0x00#8, 0x00#8, 0x00#8, 0x00#8, 0x00#8, 0x00#8, 0x40#8, 0x00#8, 0x00#8, 0x00#8, 0x00#8, 0x00#8, 0x00#8, 0x00#8, 0x00#8, 0x00#8, 0x00#8, 0x00#8, 0x00#8, 0x00#8, 0x00#8, 0x00#8, 0x00#8, 0x00#8, 0x00#8, 0x00#8, 0x00#8, 0x00#8, 0x00#8, 0x00#8], data := ([0x00#8] ++ List.replicate 63 0 ++ []) } : DescWire), ({ addrA := 4096, lenA := 64, stampReq := false, rsvdA := 0, addrB := 0, lenB := 0, rsvdB := 0, data := ([0x00#8] ++ List.replicate 63 0 ++ []) } : Desc), 0, (fetched (stateAt T13b.S13 8) 3 2), 0, by decide +kernel⟩,
   ⟨(stateAt T13b.S13 0), 0, ({ bytes := [0x00#8, 0x10#8, 0x00#8, 0x00#8, 0x00#8, 0x00#8, 0x00#8, 0x00#8, 0x40#8, 0x00#8, 0x00#8, 0x00#8, 0x00#8, 0x00#8, 0x00#8, 0x00#8, 0x00#8, 0x00#8, 0x00#8, 0x00#8, 0x00#8, 0x00#8, 0x00#8, 0x00#8, 0x00#8, 0x00#8, 0x00#8, 0x00#8, 0x00#8, 0x00#8, 0x00#8, 0x00#8], data := ([0x00#8] ++ List.replicate 63 0 ++ []) } : DescWire), ({ addrA := 4096, lenA := 64, stampReq := false, rsvdA := 0, addrB := 0, lenB := 0, rsvdB := 0, data := ([0x00#8] ++ List.replicate 63 0 ++ []) } : Desc), 3, true, by decide +kernel⟩,
   ⟨(stateAt T13b.S13 0), 0, ({ bytes := [0x00#8, 0x10#8, 0x00#8, 0x00#8, 0x00#8, 0x00#8, 0x00#8, 0x00#8, 0x40#8, 0x00#8, 0x00#8, 0x00#8, 0x00#8, 0x00#8, 0x00#8, 0x00#8, 0x00#8, 0x00#8, 0x00#8, 0x00#8, 0x00#8, 0x00#8, 0x00#8, 0x00#8, 0x00#8, 0x00#8, 0x00#8, 0x00#8, 0x00#8, 0x00#8, 0x00#8, 0x00#8], data := ([0x00#8] ++ List.replicate 63 0 ++ []) } : DescWire), ({ addrA := 4096, lenA := 64, stampReq := false, rsvdA := 0, addrB := 0, lenB := 0, rsvdB := 0, data := ([0x00#8] ++ List.replicate 63 0 ++ []) } : Desc), 6, false, by decide +kernel⟩,
   ⟨(stateAt T13b.S13 9), 3, ({ bytes := [0x00#8, 0x10#8, 0x00#8, 0x00#8, 0x00#8, 0x00#8, 0x00#8, 0x00#8, 0x40#8, 0x00#8, 0x00#8, 0x00#8, 0x00#8, 0x00#8, 0x00#8, 0x00#8, 0x00#8, 0x00#8, 0x00#8, 0x00#8, 0x00#8, 0x00#8, 0x00#8, 0x00#8, 0x00#8, 0x00#8, 0x00#8, 0x00#8, 0x00#8, 0x00#8, 0x00#8, 0x00#8], data := ([0x00#8] ++ List.replicate 63 0 ++ []) } : DescWire), ({ addrA := 4096, lenA := 64, stampReq := false, rsvdA := 0, addrB := 0, lenB := 0, rsvdB := 0, data := ([0x00#8] ++ List.replicate 63 0 ++ []) } : Desc), 3, true, 0, (fetched (stateAt T13b.S13 9) 3 3), by decide +kernel⟩,
   ⟨(stateAt T13b.S13 9), 3, ({ bytes := [0x00#8, 0x10#8, 0x00#8, 0x00#8, 0x00#8, 0x00#8, 0x00#8, 0x00#8, 0x40#8, 0x00#8, 0x00#8, 0x00#8, 0x06#8, 0x00#8, 0x00#8, 0x00#8, 0x00#8, 0x00#8, 0x00#8, 0x00#8, 0x00#8, 0x00#8, 0x00#8, 0x00#8, 0x00#8, 0x00#8, 0x00#8, 0x00#8, 0x00#8, 0x00#8, 0x00#8, 0x00#8], data := ([0x00#8] ++ List.replicate 63 0 ++ []) } : DescWire), ({ addrA := 4096, lenA := 64, stampReq := false, rsvdA := 3, addrB := 0, lenB := 0, rsvdB := 0, data := ([0x00#8] ++ List.replicate 63 0 ++ []) } : Desc), 3, true, 0, (fetched (stateAt T13b.S13 9) 3 3), by decide +kernel⟩,
   ⟨(stateAt T13b.S13 18), 3, ({ bytes := [0x00#8, 0x10#8, 0x00#8, 0x00#8, 0x00#8, 0x00#8, 0x00#8, 0x00#8, 0xc0#8, 0x00#8, 0x00#8, 0x00#8, 0x00#8, 0x00#8, 0x00#8, 0x00#8, 0x00#8, 0x00#8, 0x00#8, 0x00#8, 0x00#8, 0x00#8, 0x00#8, 0x00#8, 0x00#8, 0x00#8, 0x00#8, 0x00#8, 0x00#8, 0x00#8, 0x00#8, 0x00#8], data := ([0x00#8] ++ List.replicate 63 0 ++ []) } : DescWire), ({ addrA := 4096, lenA := 192, stampReq := false, rsvdA := 0, addrB := 0, lenB := 0, rsvdB := 0, data := ([0x00#8] ++ List.replicate 63 0 ++ []) } : Desc), 6, true, 0, (fetched (stateAt T13b.S13 18) 3 6), by decide +kernel⟩⟩

/-- The hypotheses of RingsRunAndAnswer are met (part 3). -/
theorem witness_RingsRunAndAnswer_3 :
    (∃ (s : State) (q : ℕ) (y : DescWire) (d : Desc) (kind : ℕ) (ok : Bool) (i : ℕ) (w : State), q < 32 ∧ d = readDesc y ∧ kind = 6 ∧ ok = (decide (192 ≤ d.lenA) && decide (d.lenA ≤ 65536)) ∧ s.fetchDesc q kind = some (i, w) ∧ (plainDesc d = false ∨ d.stampReq = true ∨ ok = false)) ∧
    (∃ (s : State) (q : ℕ) (y : DescWire) (d : Desc) (i : ℕ) (w : State), q < 32 ∧ d = readDesc y ∧ s.fetchDesc q 5 = some (i, w) ∧ s.ringOf 5 0 = some q ∧ (s.ring q).bufs = [] ∧ (s.ring q).recs = [] ∧ (s.ring q).nextRec = s.log.next ∧ plainDesc d = true ∧ d.stampReq = false ∧ 32 ≤ d.lenA ∧ d.lenA ≤ 1024 ∧ d.lenA % 32 = 0) ∧
    (∃ (s : State) (q : ℕ), q < 32 ∧ ((s.ring q).running = false ∨ (s.ring q).recs = [] ∨ s.clock < (s.ring q).recAt + 500 * usTicks)) ∧
    (∃ (s : State) (t : ℕ) (q : ℕ) (d : ℕ) (x : Desc), q < 32 ∧ ((s.tick t).ring q).running = true ∧ ((s.tick t).ring q).kind = 5 ∧ ((s.tick t).ring q).recs ≠ [] ∧ ((s.tick t).ring q).recAt + 500 * usTicks ≤ (s.tick t).clock ∧ ((s.tick t).ring q).bufs = [(d, x)] ∧ ((s.tick t).ring q).space = true ∧ ((s.tick t).ring q).waits = [] ∧ (s.tick t).ringOf 5 0 = some q ∧ (s.tick t).power.phase = Phase.running) ∧
    (∃ (s : State) (q : ℕ), q < 32 ∧ s.fetchDesc q 4 = none) ∧
    (∃ (s : State) (q : ℕ) (y : DescWire) (d : Desc) (i : ℕ) (w : State) (bad : Bool), q < 32 ∧ d = readDesc y ∧ s.fetchDesc q 4 = some (i, w) ∧ bad = (d.stampReq || decide (d.rsvdA ≠ 0) || decide (d.rsvdB ≠ 0) || decide (d.lenA < 8) || decide (65536 < d.lenA) || decide (d.lenB < 8) || decide (65536 < d.lenB)) ∧ bad = true) ∧
    (∃ (s : State) (q : ℕ) (y : DescWire) (d : Desc) (i : ℕ) (w : State) (bad : Bool) (b : List Byte), q < 32 ∧ d = readDesc y ∧ s.fetchDesc q 4 = some (i, w) ∧ bad = (d.stampReq || decide (d.rsvdA ≠ 0) || decide (d.rsvdB ≠ 0) || decide (d.lenA < 8) || decide (65536 < d.lenA) || decide (d.lenB < 8) || decide (65536 < d.lenB)) ∧ bad = false ∧ b = List.take d.lenA d.data ∧ bodyBad b = true) ∧
    (∃ (s : State) (q : ℕ) (y : DescWire) (d : Desc) (i : ℕ) (w : State) (bad : Bool) (b : List Byte) (st : ℕ) (v : List Byte), q < 32 ∧ d = readDesc y ∧ s.fetchDesc q 4 = some (i, w) ∧ bad = (d.stampReq || decide (d.rsvdA ≠ 0) || decide (d.rsvdB ≠ 0) || decide (d.lenA < 8) || decide (65536 < d.lenA) || decide (d.lenB < 8) || decide (65536 < d.lenB)) ∧ bad = false ∧ b = List.take d.lenA d.data ∧ bodyBad b = false ∧ byteAt b 0 = 1 ∧ st = (w.readBy (Req.mailbox q) (fld b 2 2) (byteAt b 4)).2.1 ∧ v = (w.readBy (Req.mailbox q) (fld b 2 2) (byteAt b 4)).2.2 ∧ st ≠ 0) ∧
    (∃ (s : State) (q : ℕ) (y : DescWire) (d : Desc) (i : ℕ) (w : State) (bad : Bool) (b : List Byte) (st : ℕ) (v : List Byte), q < 32 ∧ d = readDesc y ∧ s.fetchDesc q 4 = some (i, w) ∧ bad = (d.stampReq || decide (d.rsvdA ≠ 0) || decide (d.rsvdB ≠ 0) || decide (d.lenA < 8) || decide (65536 < d.lenA) || decide (d.lenB < 8) || decide (65536 < d.lenB)) ∧ bad = false ∧ b = List.take d.lenA d.data ∧ bodyBad b = false ∧ byteAt b 0 = 1 ∧ st = (w.readBy (Req.mailbox q) (fld b 2 2) (byteAt b 4)).2.1 ∧ v = (w.readBy (Req.mailbox q) (fld b 2 2) (byteAt b 4)).2.2 ∧ st = 0 ∧ v.length ≤ d.lenB - 24) ∧
    (∃ (s : State) (q : ℕ) (y : DescWire) (d : Desc) (i : ℕ) (w : State) (bad : Bool) (b : List Byte) (st : ℕ) (v : List Byte), q < 32 ∧ d = readDesc y ∧ s.fetchDesc q 4 = some (i, w) ∧ bad = (d.stampReq || decide (d.rsvdA ≠ 0) || decide (d.rsvdB ≠ 0) || decide (d.lenA < 8) || decide (65536 < d.lenA) || decide (d.lenB < 8) || decide (65536 < d.lenB)) ∧ bad = false ∧ b = List.take d.lenA d.data ∧ bodyBad b = false ∧ byteAt b 0 = 1 ∧ st = (w.readBy (Req.mailbox q) (fld b 2 2) (byteAt b 4)).2.1 ∧ v = (w.readBy (Req.mailbox q) (fld b 2 2) (byteAt b 4)).2.2 ∧ st = 0 ∧ d.lenB - 24 < v.length) ∧
    (∃ (s : State) (q : ℕ) (y : DescWire) (d : Desc) (i : ℕ) (w : State) (bad : Bool) (b : List Byte), q < 32 ∧ d = readDesc y ∧ s.fetchDesc q 4 = some (i, w) ∧ bad = (d.stampReq || decide (d.rsvdA ≠ 0) || decide (d.rsvdB ≠ 0) || decide (d.lenA < 8) || decide (65536 < d.lenA) || decide (d.lenB < 8) || decide (65536 < d.lenB)) ∧ bad = false ∧ b = List.take d.lenA d.data ∧ bodyBad b = false ∧ byteAt b 0 = 2) :=
  ⟨⟨(stateAt T13b.S13 18), 3, ({ bytes := [0x00#8, 0x10#8, 0x00#8, 0x00#8, 0x00#8, 0x00#8, 0x00#8, 0x00#8, 0x40#8, 0x00#8, 0x00#8, 0x00#8, 0x00#8, 0x00#8, 0x00#8, 0x00#8, 0x00#8, 0x00#8, 0x00#8, 0x00#8, 0x00#8, 0x00#8, 0x00#8, 0x00#8, 0x00#8, 0x00#8, 0x00#8, 0x00#8, 0x00#8, 0x00#8, 0x00#8, 0x00#8], data := ([0x00#8] ++ List.replicate 63 0 ++ []) } : DescWire), ({ addrA := 4096, lenA := 64, stampReq := false, rsvdA := 0, addrB := 0, lenB := 0, rsvdB := 0, data := ([0x00#8] ++ List.replicate 63 0 ++ []) } : Desc), 6, false, 0, (fetched (stateAt T13b.S13 18) 3 6), by decide +kernel⟩,
   ⟨(stateAt T13c.S13 0), 3, ({ bytes := [0x00#8, 0x10#8, 0x00#8, 0x00#8, 0x00#8, 0x00#8, 0x00#8, 0x00#8, 0x40#8, 0x00#8, 0x00#8, 0x00#8, 0x00#8, 0x00#8, 0x00#8, 0x00#8, 0x00#8, 0x00#8, 0x00#8, 0x00#8, 0x00#8, 0x00#8, 0x00#8, 0x00#8, 0x00#8, 0x00#8, 0x00#8, 0x00#8, 0x00#8, 0x00#8, 0x00#8, 0x00#8], data := ([0x00#8] ++ List.replicate 63 0 ++ []) } : DescWire), ({ addrA := 4096, lenA := 64, stampReq := false, rsvdA := 0, addrB := 0, lenB := 0, rsvdB := 0, data := ([0x00#8] ++ List.replicate 63 0 ++ []) } : Desc), 0, (fetched (stateAt T13c.S13 0) 3 5), by decide +kernel⟩,
   ⟨(stateAt T13b.S13 0), 0, by decide +kernel⟩,
   ⟨(stateAt T13b.S13 23), 1000000000, 3, 0, ({ addrA := 4096, lenA := 64, stampReq := false, rsvdA := 0, addrB := 0, lenB := 0, rsvdB := 0, data := ([0x00#8] ++ List.replicate 63 0 ++ []) } : Desc), by decide +kernel⟩,
   ⟨(stateAt T13b.S13 0), 0, by decide +kernel⟩,
   ⟨(stateAt T13b.S13 12), 3, ({ bytes := [0x00#8, 0x10#8, 0x00#8, 0x00#8, 0x00#8, 0x00#8, 0x00#8, 0x00#8, 0x40#8, 0x00#8, 0x00#8, 0x00#8, 0x00#8, 0x00#8, 0x00#8, 0x00#8, 0x00#8, 0x00#8, 0x00#8, 0x00#8, 0x00#8, 0x00#8, 0x00#8, 0x00#8, 0x00#8, 0x00#8, 0x00#8, 0x00#8, 0x00#8, 0x00#8, 0x00#8, 0x00#8], data := ([0x00#8] ++ List.replicate 63 0 ++ []) } : DescWire), ({ addrA := 4096, lenA := 64, stampReq := false, rsvdA := 0, addrB := 0, lenB := 0, rsvdB := 0, data := ([0x00#8] ++ List.replicate 63 0 ++ []) } : Desc), 0, (fetched (stateAt T13b.S13 12) 3 4), true, by decide +kernel⟩,
   ⟨(stateAt T13b.S13 12), 3, ({ bytes := [0x00#8, 0x10#8, 0x00#8, 0x00#8, 0x00#8, 0x00#8, 0x00#8, 0x00#8, 0x14#8, 0x00#8, 0x00#8, 0x00#8, 0x00#8, 0x00#8, 0x00#8, 0x00#8, 0x00#8, 0x20#8, 0x00#8, 0x00#8, 0x00#8, 0x00#8, 0x00#8, 0x00#8, 0x40#8, 0x00#8, 0x00#8, 0x00#8, 0x00#8, 0x00#8, 0x00#8, 0x00#8], data := [0x02#8, 0x00#8, 0x10#8, 0x17#8, 0x00#8, 0x00#8, 0x00#8, 0x00#8, 0x00#8, 0x00#8, 0x00#8, 0x04#8, 0x00#8, 0x00#8, 0x00#8, 0x00#8, 0x00#8, 0x00#8, 0x00#8, 0x05#8] } : DescWire), ({ addrA := 4096, lenA := 20, stampReq := false, rsvdA := 0, addrB := 8192, lenB := 64, rsvdB := 0, data := [0x02#8, 0x00#8, 0x10#8, 0x17#8, 0x00#8, 0x00#8, 0x00#8, 0x00#8, 0x00#8, 0x00#8, 0x00#8, 0x04#8, 0x00#8, 0x00#8, 0x00#8, 0x00#8, 0x00#8, 0x00#8, 0x00#8, 0x05#8] } : Desc), 0, (fetched (stateAt T13b.S13 12) 3 4), false, [0x02#8, 0x00#8, 0x10#8, 0x17#8, 0x00#8, 0x00#8, 0x00#8, 0x00#8, 0x00#8, 0x00#8, 0x00#8, 0x04#8, 0x00#8, 0x00#8, 0x00#8, 0x00#8, 0x00#8, 0x00#8, 0x00#8, 0x05#8], by decide +kernel⟩,
   ⟨(stateAt T13b.S13 12), 3, ({ bytes := [0x00#8, 0x10#8, 0x00#8, 0x00#8, 0x00#8, 0x00#8, 0x00#8, 0x00#8, 0x10#8, 0x00#8, 0x00#8, 0x00#8, 0x00#8, 0x00#8, 0x00#8, 0x00#8, 0x00#8, 0x20#8, 0x00#8, 0x00#8, 0x00#8, 0x00#8, 0x00#8, 0x00#8, 0x40#8, 0x00#8, 0x00#8, 0x00#8, 0x00#8, 0x00#8, 0x00#8, 0x00#8], data := [0x01#8, 0x00#8, 0x99#8, 0x99#8, 0x00#8, 0x00#8, 0x00#8, 0x00#8, 0x00#8, 0x00#8, 0x00#8, 0x00#8, 0x00#8, 0x00#8, 0x00#8, 0x00#8] } : DescWire), ({ addrA := 4096, lenA := 16, stampReq := false, rsvdA := 0, addrB := 8192, lenB := 64, rsvdB := 0, data := [0x01#8, 0x00#8, 0x99#8, 0x99#8, 0x00#8, 0x00#8, 0x00#8, 0x00#8, 0x00#8, 0x00#8, 0x00#8, 0x00#8, 0x00#8, 0x00#8, 0x00#8, 0x00#8] } : Desc), 0, (fetched (stateAt T13b.S13 12) 3 4), false, [0x01#8, 0x00#8, 0x99#8, 0x99#8, 0x00#8, 0x00#8, 0x00#8, 0x00#8, 0x00#8, 0x00#8, 0x00#8, 0x00#8, 0x00#8, 0x00#8, 0x00#8, 0x00#8], 1, [], by decide +kernel⟩,
   ⟨(stateAt T13b.S13 12), 3, ({ bytes := [0x00#8, 0x10#8, 0x00#8, 0x00#8, 0x00#8, 0x00#8, 0x00#8, 0x00#8, 0x10#8, 0x00#8, 0x00#8, 0x00#8, 0x00#8, 0x00#8, 0x00#8, 0x00#8, 0x00#8, 0x20#8, 0x00#8, 0x00#8, 0x00#8, 0x00#8, 0x00#8, 0x00#8, 0x40#8, 0x00#8, 0x00#8, 0x00#8, 0x00#8, 0x00#8, 0x00#8, 0x00#8], data := [0x01#8, 0x00#8, 0x10#8, 0x08#8, 0x00#8, 0x00#8, 0x00#8, 0x00#8, 0x00#8, 0x00#8, 0x00#8, 0x00#8, 0x00#8, 0x00#8, 0x00#8, 0x00#8] } : DescWire), ({ addrA := 4096, lenA := 16, stampReq := false, rsvdA := 0, addrB := 8192, lenB := 64, rsvdB := 0, data := [0x01#8, 0x00#8, 0x10#8, 0x08#8, 0x00#8, 0x00#8, 0x00#8, 0x00#8, 0x00#8, 0x00#8, 0x00#8, 0x00#8, 0x00#8, 0x00#8, 0x00#8, 0x00#8] } : Desc), 0, (fetched (stateAt T13b.S13 12) 3 4), false, [0x01#8, 0x00#8, 0x10#8, 0x08#8, 0x00#8, 0x00#8, 0x00#8, 0x00#8, 0x00#8, 0x00#8, 0x00#8, 0x00#8, 0x00#8, 0x00#8, 0x00#8, 0x00#8], 0, [0x5a#8, 0x4c#8, 0x4d#8, 0x2d#8, 0x32#8, 0x34#8, 0x31#8, 0x36#8], by decide +kernel⟩,
   ⟨(stateAt T13b.S13 12), 3, ({ bytes := [0x00#8, 0x10#8, 0x00#8, 0x00#8, 0x00#8, 0x00#8, 0x00#8, 0x00#8, 0x10#8, 0x00#8, 0x00#8, 0x00#8, 0x00#8, 0x00#8, 0x00#8, 0x00#8, 0x00#8, 0x20#8, 0x00#8, 0x00#8, 0x00#8, 0x00#8, 0x00#8, 0x00#8, 0x18#8, 0x00#8, 0x00#8, 0x00#8, 0x00#8, 0x00#8, 0x00#8, 0x00#8], data := [0x01#8, 0x00#8, 0x10#8, 0x08#8, 0x00#8, 0x00#8, 0x00#8, 0x00#8, 0x00#8, 0x00#8, 0x00#8, 0x00#8, 0x00#8, 0x00#8, 0x00#8, 0x00#8] } : DescWire), ({ addrA := 4096, lenA := 16, stampReq := false, rsvdA := 0, addrB := 8192, lenB := 24, rsvdB := 0, data := [0x01#8, 0x00#8, 0x10#8, 0x08#8, 0x00#8, 0x00#8, 0x00#8, 0x00#8, 0x00#8, 0x00#8, 0x00#8, 0x00#8, 0x00#8, 0x00#8, 0x00#8, 0x00#8] } : Desc), 0, (fetched (stateAt T13b.S13 12) 3 4), false, [0x01#8, 0x00#8, 0x10#8, 0x08#8, 0x00#8, 0x00#8, 0x00#8, 0x00#8, 0x00#8, 0x00#8, 0x00#8, 0x00#8, 0x00#8, 0x00#8, 0x00#8, 0x00#8], 0, [0x5a#8, 0x4c#8, 0x4d#8, 0x2d#8, 0x32#8, 0x34#8, 0x31#8, 0x36#8], by decide +kernel⟩,
   ⟨(stateAt T13c.S13 1), 3, ({ bytes := [0x00#8, 0x10#8, 0x00#8, 0x00#8, 0x00#8, 0x00#8, 0x00#8, 0x00#8, 0x14#8, 0x00#8, 0x00#8, 0x00#8, 0x00#8, 0x00#8, 0x00#8, 0x00#8, 0x00#8, 0x20#8, 0x00#8, 0x00#8, 0x00#8, 0x00#8, 0x00#8, 0x00#8, 0x40#8, 0x00#8, 0x00#8, 0x00#8, 0x00#8, 0x00#8, 0x00#8, 0x00#8], data := [0x02#8, 0x00#8, 0x10#8, 0x17#8, 0x00#8, 0x00#8, 0x00#8, 0x00#8, 0x00#8, 0x00#8, 0x00#8, 0x00#8, 0x00#8, 0x00#8, 0x00#8, 0x04#8, 0x00#8, 0x00#8, 0x00#8, 0x05#8] } : DescWire), ({ addrA := 4096, lenA := 20, stampReq := false, rsvdA := 0, addrB := 8192, lenB := 64, rsvdB := 0, data := [0x02#8, 0x00#8, 0x10#8, 0x17#8, 0x00#8, 0x00#8, 0x00#8, 0x00#8, 0x00#8, 0x00#8, 0x00#8, 0x00#8, 0x00#8, 0x00#8, 0x00#8, 0x04#8, 0x00#8, 0x00#8, 0x00#8, 0x05#8] } : Desc), 0, (fetched (stateAt T13c.S13 1) 3 4), false, [0x02#8, 0x00#8, 0x10#8, 0x17#8, 0x00#8, 0x00#8, 0x00#8, 0x00#8, 0x00#8, 0x00#8, 0x00#8, 0x00#8, 0x00#8, 0x00#8, 0x00#8, 0x04#8, 0x00#8, 0x00#8, 0x00#8, 0x05#8], by decide +kernel⟩⟩

/-- The hypotheses of PartsAndCanPorts are met (part 1). -/
theorem witness_PartsAndCanPorts_1 :
    (∃ (s : State) (r : Req) (idx : ℕ) (sub : ℕ) (e : ℕ), s.checkRead r idx sub = Except.error e) ∧
    (∃ (s : State) (r : Req) (idx : ℕ) (sub : ℕ) (o : Obj), s.checkRead r idx sub = Except.ok o ∧ partType o.ty = false) ∧
    (∃ (s : State) (r : Req) (idx : ℕ) (sub : ℕ) (off : ℕ) (o : Obj) (w : State) (b : List Byte), s.checkRead r idx sub = Except.ok o ∧ partType o.ty = true ∧ off = 0 ∧ s.readBy r idx sub = (w, 0, b)) ∧
    (∃ (s : State) (r : Req) (idx : ℕ) (sub : ℕ) (off : ℕ) (o : Obj) (p : PartS), s.checkRead r idx sub = Except.ok o ∧ partType o.ty = true ∧ off ≠ 0 ∧ s.partReads.look (Req.code r) = some p ∧ p.idx = idx ∧ p.sub = sub ∧ s.clock < p.last + 10 * sTicks) ∧
    (∃ (s : State) (r : Req) (idx : ℕ) (sub : ℕ) (off : ℕ) (o : Obj) (p : PartS), s.checkRead r idx sub = Except.ok o ∧ partType o.ty = true ∧ off ≠ 0 ∧ s.partReads.look (Req.code r) = some p ∧ (p.idx ≠ idx ∨ p.sub ≠ sub ∨ p.last + 10 * sTicks ≤ s.clock)) ∧
    (∃ (s : State) (r : Req) (idx : ℕ) (sub : ℕ) (off : ℕ) (o : Obj), s.checkRead r idx sub = Except.ok o ∧ partType o.ty = true ∧ off ≠ 0 ∧ s.partReads.look (Req.code r) = none) ∧
    (∃ (s : State) (r : Req) (idx : ℕ) (sub : ℕ), s.partCheck r idx sub ≠ 0) ∧
    (∃ (s : State) (r : Req) (idx : ℕ) (sub : ℕ) (off : ℕ) (last : Bool) (b : List Byte), s.partCheck r idx sub = 0 ∧ (off = 0 ∧ b = [] ∨ off ≠ 0 ∧ ∃ p, s.partWrites.look (partKey r idx sub) = some p ∧ s.clock < p.last + 10 * sTicks ∧ p.data = b ∧ b.length = off) ∧ last = false) ∧
    (∃ (s : State) (r : Req) (idx : ℕ) (sub : ℕ) (off : ℕ) (last : Bool) (data : List Byte) (b : List Byte) (p : State × ℕ), s.partCheck r idx sub = 0 ∧ (off = 0 ∧ b = [] ∨ off ≠ 0 ∧ ∃ p, s.partWrites.look (partKey r idx sub) = some p ∧ s.clock < p.last + 10 * sTicks ∧ p.data = b ∧ b.length = off) ∧ last = true ∧ p = (State.mk s.clock s.free s.od s.force s.otp s.log s.time s.ptp s.trigs s.caps s.units s.declared s.lvsTest s.lvsTestAt s.link s.procs s.primary s.power s.loaded s.checks s.tally s.conds s.cans s.tpdos s.zdp s.partReads (s.partWrites.cut (partKey r idx sub)) s.sess s.ports s.mcast s.cores s.segs s.active s.unpatched s.places s.layers s.screens s.commits s.receipts s.queued s.gfx s.ctxs s.zttQ s.engines s.engLast s.encs s.touch s.rings s.pcie s.lanes s.spay s.mem s.sys s.flash s.upd s.out s.pending).writeBy r idx sub (b ++ data)) ∧
    (∃ (s : State) (r : Req) (idx : ℕ) (sub : ℕ) (off : ℕ), s.partCheck r idx sub = 0 ∧ off ≠ 0 ∧ (∀ (p : PartS), s.partWrites.look (partKey r idx sub) = some p → p.last + 10 * sTicks ≤ s.clock ∨ p.data.length ≠ off)) ∧
    (∃ (s : State) (p : ℕ × PartS), p ∈ s.partReads ∧ s.clock < p.2.last + 10 * sTicks) ∧
    (∃ (s : State) (c : ℕ), c < 2 ∧ s.canTalks c = false) ∧
    (∃ (s : State) (c : ℕ) (idx : ℕ) (sub : ℕ) (p : State × ℕ × List Byte), c < 2 ∧ s.canTalks c = true ∧ p = (s.endTransfer c).readBy (Req.can c) idx sub) :=
  ⟨⟨(stateAt T14.S14 0), Sys2Proof.Req.mailbox 3, 0, 0, 1, by decide +kernel⟩,
   ⟨(stateAt T14c.S14 0), Sys2Proof.Req.mailbox 3, 8193, 0, ({ base := 8193, count := 1, lo := 0, hi := 0, ty := Sys2Proof.Machine.Ty.u8, acc := Sys2Proof.Machine.Acc.konst, stored := false, cfg := false, sat := false, dflt := Sys2Proof.Val.num 3, chk := Sys2Proof.Machine.Chk.any } : Obj), by decide +kernel⟩,
   ⟨(stateAt T14.S14 0), Sys2Proof.Req.mailbox 3, 4104, 0, 0, ({ base := 4104, count := 1, lo := 0, hi := 0, ty := Sys2Proof.Machine.Ty.str, acc := Sys2Proof.Machine.Acc.konst, stored := false, cfg := false, sat := false, dflt := Sys2Proof.Val.bytes [0x5a#8, 0x4c#8, 0x4d#8, 0x2d#8, 0x32#8, 0x34#8, 0x31#8, 0x36#8], chk := Sys2Proof.Machine.Chk.any } : Obj), (stateAt T14.S14 0), [0x5a#8, 0x4c#8, 0x4d#8, 0x2d#8, 0x32#8, 0x34#8, 0x31#8, 0x36#8], by decide +kernel⟩,
   ⟨(stateAt T14.S14 2), Sys2Proof.Req.mailbox 3, 4104, 0, 1, ({ base := 4104, count := 1, lo := 0, hi := 0, ty := Sys2Proof.Machine.Ty.str, acc := Sys2Proof.Machine.Acc.konst, stored := false, cfg := false, sat := false, dflt := Sys2Proof.Val.bytes [0x5a#8, 0x4c#8, 0x4d#8, 0x2d#8, 0x32#8, 0x34#8, 0x31#8, 0x36#8], chk := Sys2Proof.Machine.Chk.any } : Obj), ({ idx := 4104, sub := 0, data := [0x01#8, 0x02#8, 0x03#8, 0x04#8], last := 10000000000 } : PartS), by decide +kernel⟩,
   ⟨(stateAt T14.S14 2), Sys2Proof.Req.can 0, 4104, 0, 1, ({ base := 4104, count := 1, lo := 0, hi := 0, ty := Sys2Proof.Machine.Ty.str, acc := Sys2Proof.Machine.Acc.konst, stored := false, cfg := false, sat := false, dflt := Sys2Proof.Val.bytes [0x5a#8, 0x4c#8, 0x4d#8, 0x2d#8, 0x32#8, 0x34#8, 0x31#8, 0x36#8], chk := Sys2Proof.Machine.Chk.any } : Obj), ({ idx := 4104, sub := 0, data := [0x01#8, 0x02#8, 0x03#8, 0x04#8], last := 0 } : PartS), by decide +kernel⟩,
   ⟨(stateAt T14.S14 0), Sys2Proof.Req.mailbox 3, 4104, 0, 1, ({ base := 4104, count := 1, lo := 0, hi := 0, ty := Sys2Proof.Machine.Ty.str, acc := Sys2Proof.Machine.Acc.konst, stored := false, cfg := false, sat := false, dflt := Sys2Proof.Val.bytes [0x5a#8, 0x4c#8, 0x4d#8, 0x2d#8, 0x32#8, 0x34#8, 0x31#8, 0x36#8], chk := Sys2Proof.Machine.Chk.any } : Obj), by decide +kernel⟩,
   ⟨(stateAt T14.S14 0), Sys2Proof.Req.mailbox 3, 0, 0, by decide +kernel⟩,
   ⟨(stateAt T14c.S14 0), Sys2Proof.Req.mailbox 3, 8193, 2, 0, false, [], by decide +kernel⟩,
   ⟨(stateAt T14c.S14 0), Sys2Proof.Req.mailbox 3, 8193, 2, 0, true, [], [], ({ clock := 1000000000000, free := 0, od := [(2101505, Sys2Proof.Val.num 1), (2101508, Sys2Proof.Val.num 5)], force := [], otp := { variant := 0, serial := 0, uuid := [], mac := 0, revision := [], keys := [], revoked := 0 }, log := { queues := [], lost := [], records := [{ pos := 0, ev := { ty := 1, sev := 0, src := 0, sec := 0, ns := 0, pay := [(8, 0)], emcy := 0 } }], next := 1 }, time := { sec := 0, ns := 0, frac := 0, wSec := 0, wNs := 0, wFrac := 0, learnt := 10737418240, slewEnd := none, freeDue := false, offsets := [], run := 0, outRun := 0, lastValid := 0, u := none, hostUnc := 0, senderU := 0, dieExtra := 0 }, ptp := [], trigs := [], caps := [], units := [(10, { st := 3, epoch := 0, adv := 0, faults := 0, prior := 0, window := none, partner := none, sram := [], gate := false }), (332, { st := 3, epoch := 0, adv := 0, faults := 0, prior := 0, window := none, partner := none, sram := [], gate := false }), (333, { st := 3, epoch := 0, adv := 0, faults := 0, prior := 0, window := none, partner := none, sram := [], gate := false }), (334, { st := 3, epoch := 0, adv := 0, faults := 0, prior := 0, window := none, partner := none, sram := [], gate := false }), (335, { st := 3, epoch := 0, adv := 0, faults := 0, prior := 0, window := none, partner := none, sram := [], gate := false }), (1034, { st := 3, epoch := 0, adv := 0, faults := 0, prior := 0, window := none, partner := none, sram := [], gate := false }), (1356, { st := 3, epoch := 0, adv := 0, faults := 0, prior := 0, window := none, partner := none, sram := [], gate := false }), (1357, { st := 3, epoch := 0, adv := 0, faults := 0, prior := 0, window := none, partner := none, sram := [], gate := false }), (1358, { st := 3, epoch := 0, adv := 0, faults := 0, prior := 0, window := none, partner := none, sram := [], gate := false }), (1359, { st := 3, epoch := 0, adv := 0, faults := 0, prior := 0, window := none, partner := none, sram := [], gate := false })], declared := [], lvsTest := [], lvsTestAt := [], link := { fails := [], soft := [], hbE := 0, hbW := 0, lost := false, lostDie := none, reloading := false }, procs := [], primary := Sys2Proof.Die.e, power := { phase := Sys2Proof.Machine.Phase.running, vinGood := true, fail := false, resetN := false, trip := false, cold := false, scan := false, rail := false, noSlot := false, range := false, instr := 2, quietWait := false, overE := false, overW := false, tripNote := false, tripFull := false, wake := false }, loaded := true, checks := [], tally := { filled := false, pattern := false, heart := 0, checkAt := none, change := false, words := [], counts := [], snaps := [] }, conds := [], cans := [], tpdos := [], zdp := [], partReads := [], partWrites := [], sess := [], ports := [], mcast := [], cores := [], segs := [], active := [0, 1, 2, 3, 4, 5, 7, 8, 9, 10, 11, 12], unpatched := [], places := [], layers := [], screens := [], commits := [], receipts := [], queued := [], gfx := [], ctxs := [], zttQ := [], engines := [], engLast := [], encs := [], touch := [], rings := [], pcie := { answers := false, reset := true, ready := false, events := 0, vector := 0, enable := false, msix := [(12, 0x01#8), (28, 0x01#8), (44, 0x01#8), (60, 0x01#8), (76, 0x01#8), (92, 0x01#8), (108, 0x01#8), (124, 0x01#8), (140, 0x01#8), (156, 0x01#8), (172, 0x01#8), (188, 0x01#8), (204, 0x01#8), (220, 0x01#8), (236, 0x01#8), (252, 0x01#8), (268, 0x01#8), (284, 0x01#8), (300, 0x01#8), (316, 0x01#8), (332, 0x01#8), (348, 0x01#8), (364, 0x01#8), (380, 0x01#8), (396, 0x01#8), (412, 0x01#8), (428, 0x01#8), (444, 0x01#8), (460, 0x01#8), (476, 0x01#8), (492, 0x01#8), (508, 0x01#8), (524, 0x01#8), (540, 0x01#8), (556, 0x01#8), (572, 0x01#8), (588, 0x01#8), (604, 0x01#8), (620, 0x01#8), (636, 0x01#8), (652, 0x01#8), (668, 0x01#8), (684, 0x01#8), (700, 0x01#8), (716, 0x01#8), (732, 0x01#8), (748, 0x01#8), (764, 0x01#8), (780, 0x01#8), (796, 0x01#8), (812, 0x01#8), (828, 0x01#8), (844, 0x01#8), (860, 0x01#8), (876, 0x01#8), (892, 0x01#8), (908, 0x01#8), (924, 0x01#8), (940, 0x01#8), (956, 0x01#8), (972, 0x01#8), (988, 0x01#8), (1004, 0x01#8), (1020, 0x01#8)], pending := 0, mode := 0 }, lanes := [], spay := [], mem := { training := true, target := 0, want := none, queued := none, refreshing := false, bursts := [], next := 3900, cool := 0, demands := [], excess := none, order := [], ecc := [] }, sys := { table := [], peers := [], joined := false, quorum := false, held := false, lostAt := none, genAt := 0, seen := 0, rejoin := false, change := none, nextId := 0, target := none, relays := [], relayIn := [], images := [], parts := [], got := 0, tree := [], suspended := false, failed := 0, differ := [], presAt := none, digestAt := none, rejoinAt := none }, flash := { boot := { seq := 1, slotA := 4, slotB := 0, active := 0, booted := false, store := 1, oldHeld := false, result := 0, cause := 0, window := 600, lenA := 0, lenB := 0 }, copy0 := [{ seq := 0, slotA := 4, slotB := 0, active := 0, booted := false, store := 0, oldHeld := false, result := 0, cause := 0, window := 600, lenA := 0, lenB := 0 }], copy1 := [{ seq := 1, slotA := 4, slotB := 0, active := 0, booted := false, store := 1, oldHeld := false, result := 0, cause := 0, window := 600, lenA := 0, lenB := 0 }], slots := [], stores := [(1, [])], refs := [], images := [], tree := [] }, upd := { owner := none, last := 0, chunks := [], prev := none, slot := 0, trialAt := none, converted := false, finish := false, rom := false, back := false, since := 0 }, out := [], pending := [] }, 0), by decide +kernel⟩,
   ⟨(stateAt T14c.S14 0), Sys2Proof.Req.mailbox 3, 8193, 2, 2, by decide +kernel⟩,
   ⟨(stateAt TZ9.ZC 2), (19, { idx := 4104, sub := 0, data := [0x01#8, 0x02#8, 0x03#8, 0x04#8], last := 0 }), by decide +kernel⟩,
   ⟨(stateAt T14.S14 0), 1, by decide +kernel⟩,
   ⟨(stateAt T14.S14 0), 0, 0, 0, ({ clock := 10000000000, free := 0, od := [(2101505, Sys2Proof.Val.num 1), (2101508, Sys2Proof.Val.num 5)], force := [], otp := { variant := 0, serial := 0, uuid := [], mac := 0, revision := [], keys := [], revoked := 0 }, log := { queues := [], lost := [], records := [{ pos := 0, ev := { ty := 1, sev := 0, src := 0, sec := 0, ns := 0, pay := [(8, 0)], emcy := 0 } }], next := 1 }, time := { sec := 0, ns := 0, frac := 0, wSec := 0, wNs := 0, wFrac := 0, learnt := 10737418240, slewEnd := none, freeDue := false, offsets := [], run := 0, outRun := 0, lastValid := 0, u := none, hostUnc := 0, senderU := 0, dieExtra := 0 }, ptp := [], trigs := [], caps := [], units := [(10, { st := 3, epoch := 0, adv := 0, faults := 0, prior := 0, window := none, partner := none, sram := [], gate := false }), (332, { st := 3, epoch := 0, adv := 0, faults := 0, prior := 0, window := none, partner := none, sram := [], gate := false }), (333, { st := 3, epoch := 0, adv := 0, faults := 0, prior := 0, window := none, partner := none, sram := [], gate := false }), (334, { st := 3, epoch := 0, adv := 0, faults := 0, prior := 0, window := none, partner := none, sram := [], gate := false }), (335, { st := 3, epoch := 0, adv := 0, faults := 0, prior := 0, window := none, partner := none, sram := [], gate := false }), (1034, { st := 3, epoch := 0, adv := 0, faults := 0, prior := 0, window := none, partner := none, sram := [], gate := false }), (1356, { st := 3, epoch := 0, adv := 0, faults := 0, prior := 0, window := none, partner := none, sram := [], gate := false }), (1357, { st := 3, epoch := 0, adv := 0, faults := 0, prior := 0, window := none, partner := none, sram := [], gate := false }), (1358, { st := 3, epoch := 0, adv := 0, faults := 0, prior := 0, window := none, partner := none, sram := [], gate := false }), (1359, { st := 3, epoch := 0, adv := 0, faults := 0, prior := 0, window := none, partner := none, sram := [], gate := false })], declared := [], lvsTest := [], lvsTestAt := [], link := { fails := [], soft := [], hbE := 0, hbW := 0, lost := false, lostDie := none, reloading := false }, procs := [], primary := Sys2Proof.Die.e, power := { phase := Sys2Proof.Machine.Phase.running, vinGood := true, fail := false, resetN := false, trip := false, cold := false, scan := false, rail := false, noSlot := false, range := false, instr := 2, quietWait := false, overE := false, overW := false, tripNote := false, tripFull := false, wake := false }, loaded := true, checks := [], tally := { filled := false, pattern := false, heart := 0, checkAt := none, change := false, words := [], counts := [], snaps := [] }, conds := [], cans := [(0, { emcy := [], lastEmcy := none, beatAt := none, seg := none, node := 16, nominal := 2, data := 1 })], tpdos := [], zdp := [], partReads := [], partWrites := [], sess := [], ports := [], mcast := [], cores := [], segs := [], active := [0, 1, 2, 3, 4, 5, 7, 8, 9, 10, 11, 12], unpatched := [], places := [], layers := [], screens := [], commits := [], receipts := [], queued := [], gfx := [], ctxs := [], zttQ := [], engines := [], engLast := [], encs := [], touch := [], rings := [], pcie := { answers := false, reset := true, ready := false, events := 0, vector := 0, enable := false, msix := [(12, 0x01#8), (28, 0x01#8), (44, 0x01#8), (60, 0x01#8), (76, 0x01#8), (92, 0x01#8), (108, 0x01#8), (124, 0x01#8), (140, 0x01#8), (156, 0x01#8), (172, 0x01#8), (188, 0x01#8), (204, 0x01#8), (220, 0x01#8), (236, 0x01#8), (252, 0x01#8), (268, 0x01#8), (284, 0x01#8), (300, 0x01#8), (316, 0x01#8), (332, 0x01#8), (348, 0x01#8), (364, 0x01#8), (380, 0x01#8), (396, 0x01#8), (412, 0x01#8), (428, 0x01#8), (444, 0x01#8), (460, 0x01#8), (476, 0x01#8), (492, 0x01#8), (508, 0x01#8), (524, 0x01#8), (540, 0x01#8), (556, 0x01#8), (572, 0x01#8), (588, 0x01#8), (604, 0x01#8), (620, 0x01#8), (636, 0x01#8), (652, 0x01#8), (668, 0x01#8), (684, 0x01#8), (700, 0x01#8), (716, 0x01#8), (732, 0x01#8), (748, 0x01#8), (764, 0x01#8), (780, 0x01#8), (796, 0x01#8), (812, 0x01#8), (828, 0x01#8), (844, 0x01#8), (860, 0x01#8), (876, 0x01#8), (892, 0x01#8), (908, 0x01#8), (924, 0x01#8), (940, 0x01#8), (956, 0x01#8), (972, 0x01#8), (988, 0x01#8), (1004, 0x01#8), (1020, 0x01#8)], pending := 0, mode := 0 }, lanes := [], spay := [], mem := { training := true, target := 0, want := none, queued := none, refreshing := false, bursts := [], next := 3900, cool := 0, demands := [], excess := none, order := [], ecc := [] }, sys := { table := [], peers := [], joined := false, quorum := false, held := false, lostAt := none, genAt := 0, seen := 0, rejoin := false, change := none, nextId := 0, target := none, relays := [], relayIn := [], images := [], parts := [], got := 0, tree := [], suspended := false, failed := 0, differ := [], presAt := none, digestAt := none, rejoinAt := none }, flash := { boot := { seq := 0, slotA := 4, slotB := 0, active := 0, booted := false, store := 0, oldHeld := false, result := 0, cause := 0, window := 600, lenA := 0, lenB := 0 }, copy0 := [{ seq := 0, slotA := 4, slotB := 0, active := 0, booted := false, store := 0, oldHeld := false, result := 0, cause := 0, window := 600, lenA := 0, lenB := 0 }], copy1 := [], slots := [], stores := [], refs := [], images := [], tree := [] }, upd := { owner := none, last := 0, chunks := [], prev := none, slot := 0, trialAt := none, converted := false, finish := false, rom := false, back := false, since := 0 }, out := [], pending := [] }, 1, []), by decide +kernel⟩⟩

/-- The hypotheses of PartsAndCanPorts are met (part 2). -/
theorem witness_PartsAndCanPorts_2 :
    (∃ (s : State) (c : ℕ) (a : ℕ) (b : ℕ) (d : List Byte) (w : Bool) (x : ℕ) (e : ℕ), c < 2 ∧ (s.canP c).seg = some (a, b, d, w, x) ∧ x + sTicks ≤ s.clock ∧ e ≠ c) ∧
    (∃ (s : State) (c : ℕ), c < 2 ∧ (s.canP c).seg = none) ∧
    (∃ (s : State) (c : ℕ), c < 2 ∧ (s.canOn c = false ∨ s.nmt c = nmtOperational)) ∧
    (∃ (s : State) (c : ℕ) (k : ℕ), c < 2 ∧ s.canOn c = true ∧ s.nmt c ≠ nmtOperational ∧ s.tpdoEvent k = false) ∧
    (∃ (s : State) (c : ℕ), c < 2 ∧ s.canOn c = true ∧ s.nmt c ≠ nmtOperational ∧ (∀ k < 8, s.tpdoEvent k = false)) ∧
    (∃ (s : State) (c : ℕ), c < 2 ∧ s.canOn c = false) ∧
    (∃ (s : State) (c : ℕ) (j : ℕ), c < 2 ∧ s.canOn c = true ∧ j < 9) ∧
    (∃ (s : State) (c : ℕ) (x : ℕ) (y : ℕ), c < 2 ∧ s.canOn c = true ∧ (x = 8208 ∧ y = 1 ∨ x = 8209 + c ∧ (y = 2 ∨ y = 3))) ∧
    (∃ (s : State) (c : ℕ) (r : Req), c < 2 ∧ s.takes r = true ∧ s.canLostNow c = true ∧ s.canServes c = true) ∧
    (∃ (s : State) (c : ℕ) (r : Req), c < 2 ∧ s.takes r = true ∧ s.canLostNow c = false) ∧
    (∃ (s : State) (r : Req) (p : ℕ × PartS), p ∈ s.partReads ∧ p.1 = Req.code r) ∧
    (∃ (s : State) (r : Req) (p : ℕ × PartS), p ∈ s.partWrites ∧ p.1 / 2 ^ 24 = Req.code r) ∧
    (∃ (s : State) (p : ℕ × PartS), p ∈ s.partWrites ∧ s.clock < p.2.last + 10 * sTicks) :=
  ⟨⟨(stateAt T14.S14 1), 0, 4104, 0, [0x01#8], true, 0, 1, by decide +kernel⟩,
   ⟨(stateAt T14.S14 0), 0, by decide +kernel⟩,
   ⟨(stateAt T14.S14 0), 0, by decide +kernel⟩,
   ⟨(stateAt T14.S14 3), 0, 4104, by decide +kernel⟩,
   ⟨(stateAt TZ9.ZC 0), 0, by decide +kernel⟩,
   ⟨(stateAt T14.S14 0), 1, by decide +kernel⟩,
   ⟨(stateAt T14.S14 0), 0, 0, by decide +kernel⟩,
   ⟨(stateAt T14.S14 0), 0, 8208, 1, by decide +kernel⟩,
   ⟨(stateAt T14.S14 9), 0, Sys2Proof.Req.mailbox 3, by decide +kernel⟩,
   ⟨(stateAt T14.S14 0), 0, Sys2Proof.Req.mailbox 3, by decide +kernel⟩,
   ⟨parted 5, mb, (Req.code mb, ⟨0x1008, 0, [1, 2, 3, 4], 0⟩), by decide +kernel⟩,
   ⟨parted 5, mb, (partKey mb 0x2400 1, ⟨0x2400, 1, [7], 0⟩), by decide +kernel⟩,
   ⟨parted (10 * sTicks - 1), (partKey mb 0x2400 1, ⟨0x2400, 1, [7], 0⟩), by decide +kernel⟩⟩

/-- The hypotheses of CanSendsAndFollowsTheBus are met (part 1). -/
theorem witness_CanSendsAndFollowsTheBus_1 :
    (∃ (s : State) (c : ℕ), c < 2 ∧ s.canTalks c = false) ∧
    (∃ (s : State) (c : ℕ) (k : ℕ), c < 2 ∧ s.canTalks c = true ∧ k < 8 ∧ 240 < s.rn (6144 + k) 2) ∧
    (∃ (s : State) (c : ℕ) (k : ℕ), c < 2 ∧ s.canTalks c = true ∧ k < 8 ∧ 1 ≤ s.rn (6144 + k) 2 ∧ s.rn (6144 + k) 2 ≤ 240 ∧ (s.tpdo k).syncs + 1 < s.rn (6144 + k) 2) ∧
    (∃ (s : State) (c : ℕ) (k : ℕ), c < 2 ∧ s.canTalks c = true ∧ k < 8 ∧ 1 ≤ s.rn (6144 + k) 2 ∧ s.rn (6144 + k) 2 ≤ 240 ∧ s.rn (6144 + k) 2 ≤ (s.tpdo k).syncs + 1 ∧ s.tpdoOn k = true ∧ (s.canOn 0 = true ∧ s.nmt 0 = nmtOperational ∨ s.canOn 1 = true ∧ s.nmt 1 = nmtOperational)) ∧
    (∃ (s : State) (c : ℕ) (k : ℕ) (j : ℕ), c < 2 ∧ k < 8 ∧ s.tpdoEvent k = true ∧ s.rn (6144 + k) 5 ≠ 0 ∧ (s.tpdo k).timer + s.rn (6144 + k) 5 * msTicks ≤ s.clock ∧ s.tpdoOn k = true ∧ (s.canOn 0 = true ∧ s.nmt 0 = nmtOperational ∨ s.canOn 1 = true ∧ s.nmt 1 = nmtOperational) ∧ j ≠ k) ∧
    (∃ (s : State) (c : ℕ) (k : ℕ) (j : ℕ), c < 2 ∧ k < 8 ∧ s.tpdoEvent k = true ∧ s.tpdoSample k ≠ (s.tpdo k).sent ∧ (∀ (a : ℕ), (s.tpdo k).lastSent = some a → a + s.rn (6144 + k) 3 * (100 * usTicks) ≤ s.clock) ∧ s.tpdoOn k = true ∧ (s.canOn 0 = true ∧ s.nmt 0 = nmtOperational ∨ s.canOn 1 = true ∧ s.nmt 1 = nmtOperational) ∧ j ≠ k) ∧
    (∃ (s : State) (c : ℕ) (k : ℕ), c < 2 ∧ k < 8 ∧ s.tpdoEvent k = true ∧ s.rn (6144 + k) 5 ≠ 0 ∧ (s.tpdo k).timer + s.rn (6144 + k) 5 * msTicks ≤ s.clock ∧ (s.tpdoOn k = false ∨ ¬(s.canOn 0 = true ∧ s.nmt 0 = nmtOperational ∨ s.canOn 1 = true ∧ s.nmt 1 = nmtOperational))) ∧
    (∃ (s : State) (c : ℕ) (k : ℕ), c < 2 ∧ k < 8 ∧ s.tpdoEvent k = true ∧ s.tpdoSample k ≠ (s.tpdo k).sent ∧ (∀ (a : ℕ), (s.tpdo k).lastSent = some a → a + s.rn (6144 + k) 3 * (100 * usTicks) ≤ s.clock) ∧ (s.tpdoOn k = false ∨ ¬(s.canOn 0 = true ∧ s.nmt 0 = nmtOperational ∨ s.canOn 1 = true ∧ s.nmt 1 = nmtOperational))) ∧
    (∃ (s : State) (c : ℕ) (k : ℕ), c < 2 ∧ s.tpdoEvent k = false) ∧
    (∃ (s : State) (c : ℕ), c < 2 ∧ s.canOn c = true ∧ s.rn 4119 0 ≠ 0 ∧ (∀ (a : ℕ), (s.canP c).beatAt = some a → a + s.rn 4119 0 * msTicks ≤ s.clock)) ∧
    (∃ (s : State) (c : ℕ), c < 2 ∧ (s.canOn c = false ∨ s.rn 4119 0 = 0 ∨ ∃ a, (s.canP c).beatAt = some a ∧ s.clock < a + s.rn 4119 0 * msTicks)) :=
  ⟨⟨(stateAt T14b.S14 9), 0, by decide +kernel⟩,
   ⟨(stateAt T14b.S14 0), 0, 0, by decide +kernel⟩,
   ⟨(stateAt T14b.S14 1), 0, 0, by decide +kernel⟩,
   ⟨(stateAt T14b.S14 2), 0, 0, by decide +kernel⟩,
   ⟨(stateAt T14b.S14 0), 0, 0, 1, by decide +kernel⟩,
   ⟨(stateAt T14b.S14 0), 0, 0, 1, by decide +kernel⟩,
   ⟨(stateAt T14b.S14 0), 0, 4, by decide +kernel⟩,
   ⟨(stateAt T14b.S14 0), 0, 4, by decide +kernel⟩,
   ⟨(stateAt T14b.S14 0), 0, 1000000000, by decide +kernel⟩,
   ⟨(stateAt T14b.S14 0), 0, by decide +kernel⟩,
   ⟨(stateAt T14b.S14 9), 0, by decide +kernel⟩⟩

/-- The hypotheses of CanSendsAndFollowsTheBus are met (part 2). -/
theorem witness_CanSendsAndFollowsTheBus_2 :
    (∃ (s : State) (c : ℕ) (code : ℕ) (seq : ℕ) (rest : List (ℕ × ℕ)) (e : ℕ), c < 2 ∧ ((s.canP c).emcy = (code, seq) :: rest) ∧ s.canTalks c = true ∧ (∀ (a : ℕ), (s.canP c).lastEmcy = some a → a + 10 * msTicks ≤ s.clock) ∧ e ≠ c) ∧
    (∃ (s : State) (c : ℕ) (code : ℕ) (seq : ℕ) (rest : List (ℕ × ℕ)), c < 2 ∧ ((s.canP c).emcy = (code, seq) :: rest) ∧ (s.canTalks c = false ∨ ∃ a, (s.canP c).lastEmcy = some a ∧ s.clock < a + 10 * msTicks)) ∧
    (∃ (s : State) (c : ℕ), c < 2 ∧ (s.canP c).emcy = []) ∧
    (∃ (s : State) (c : ℕ), c < 2 ∧ s.rn (8209 + c) 5 = 0) ∧
    (∃ (s : State) (c : ℕ), c < 2 ∧ s.rn (8209 + c) 5 ≠ 0) ∧
    (∃ (s : State) (c : ℕ), c < 2 ∧ s.rn (8209 + c) 5 = 1) ∧
    (∃ (s : State) (c : ℕ), c < 2 ∧ s.rn (8209 + c) 5 ≠ 1) ∧
    (∃ (s : State) (c : ℕ), c < 2 ∧ s.rn (8209 + c) 5 < 2) ∧
    (∃ (s : State) (c : ℕ), c < 2 ∧ 2 ≤ s.rn (8209 + c) 5) ∧
    (∃ (s : State) (c : ℕ), c < 2 ∧ s.rn (8209 + c) 5 = 2) ∧
    (∃ (s : State) (c : ℕ), c < 2 ∧ s.rn (8209 + c) 5 ≠ 2) :=
  ⟨⟨(stateAt T14b.S14 3), 0, 4096, 7, [(8192, 8)], 1, by decide +kernel⟩,
   ⟨(stateAt T14b.S14 33), 0, 4096, 7, [(8192, 8)], by decide +kernel⟩,
   ⟨(stateAt T14b.S14 0), 0, by decide +kernel⟩,
   ⟨(stateAt T14b.S14 0), 0, by decide +kernel⟩,
   ⟨(stateAt T14b.S14 6), 0, by decide +kernel⟩,
   ⟨(stateAt T14b.S14 6), 0, by decide +kernel⟩,
   ⟨(stateAt T14b.S14 0), 0, by decide +kernel⟩,
   ⟨(stateAt T14b.S14 0), 0, by decide +kernel⟩,
   ⟨(stateAt T14b.S14 9), 0, by decide +kernel⟩,
   ⟨(stateAt T14b.S14 9), 0, by decide +kernel⟩,
   ⟨(stateAt T14b.S14 0), 0, by decide +kernel⟩⟩

end Sys2Proof.Tests
end

