-- ==== Sys2Proof/Tests/Witness5.lean ====
section
/-! SUPPORT. Witnesses: for every statement with hypotheses, clause by clause, a concrete state and operands that meet them together. -/

namespace Sys2Proof.Tests

open Sys2Proof Sys2Proof.Machine

set_option Elab.async false

/-- The hypotheses of ZdpSessionsFollowTheTable are met (part 1). -/
theorem witness_ZdpSessionsFollowTheTable_1 :
    (∃ (s : State) (f : ZdpFrame) (nonce : List Byte) (ty : ℕ), (Instr.zdpHello 0 f nonce, ty) ∈ [(Instr.zdpHello 0 f nonce, zdpTHello), (Instr.zdpRequest 0 f, zdpTRequest), (Instr.zdpClose 0 f, zdpTClose)] ∧ s.zdpHears f = false) ∧
    (∃ (s : State) (f : ZdpFrame) (nonce : List Byte) (ty : ℕ), (Instr.zdpRequest 0 f, ty) ∈ [(Instr.zdpHello 0 f nonce, zdpTHello), (Instr.zdpRequest 0 f, zdpTRequest), (Instr.zdpClose 0 f, zdpTClose)] ∧ s.zdpHears f = false) ∧
    (∃ (s : State) (f : ZdpFrame) (nonce : List Byte) (ty : ℕ), (Instr.zdpClose 0 f, ty) ∈ [(Instr.zdpHello 0 f nonce, zdpTHello), (Instr.zdpRequest 0 f, zdpTRequest), (Instr.zdpClose 0 f, zdpTClose)] ∧ s.zdpHears f = false) ∧
    (∃ (s : State) (f : ZdpFrame) (nonce : List Byte) (ty : ℕ), (Instr.zdpHello 0 f nonce, ty) ∈ [(Instr.zdpHello 0 f nonce, zdpTHello), (Instr.zdpRequest 0 f, zdpTRequest), (Instr.zdpClose 0 f, zdpTClose)] ∧ s.zdpHears f = true ∧ (s.zdpKeys = false ∨ zdpFormOk f.bytes = false)) ∧
    (∃ (s : State) (f : ZdpFrame) (nonce : List Byte) (ty : ℕ), (Instr.zdpRequest 0 f, ty) ∈ [(Instr.zdpHello 0 f nonce, zdpTHello), (Instr.zdpRequest 0 f, zdpTRequest), (Instr.zdpClose 0 f, zdpTClose)] ∧ s.zdpHears f = true ∧ (s.zdpKeys = false ∨ zdpFormOk f.bytes = false)) ∧
    (∃ (s : State) (f : ZdpFrame) (nonce : List Byte) (ty : ℕ), (Instr.zdpClose 0 f, ty) ∈ [(Instr.zdpHello 0 f nonce, zdpTHello), (Instr.zdpRequest 0 f, zdpTRequest), (Instr.zdpClose 0 f, zdpTClose)] ∧ s.zdpHears f = true ∧ (s.zdpKeys = false ∨ zdpFormOk f.bytes = false)) ∧
    (∃ (s : State) (f : ZdpFrame) (nonce : List Byte) (ty : ℕ), (Instr.zdpHello 0 f nonce, ty) ∈ [(Instr.zdpHello 0 f nonce, zdpTHello), (Instr.zdpRequest 0 f, zdpTRequest), (Instr.zdpClose 0 f, zdpTClose)] ∧ s.zdpHears f = true ∧ s.zdpKeys = true ∧ zdpFormOk f.bytes = true ∧ byteAt f.bytes 3 ≠ ty) ∧
    (∃ (s : State) (f : ZdpFrame) (nonce : List Byte) (ty : ℕ), (Instr.zdpRequest 0 f, ty) ∈ [(Instr.zdpHello 0 f nonce, zdpTHello), (Instr.zdpRequest 0 f, zdpTRequest), (Instr.zdpClose 0 f, zdpTClose)] ∧ s.zdpHears f = true ∧ s.zdpKeys = true ∧ zdpFormOk f.bytes = true ∧ byteAt f.bytes 3 ≠ ty) ∧
    (∃ (s : State) (f : ZdpFrame) (nonce : List Byte) (ty : ℕ), (Instr.zdpClose 0 f, ty) ∈ [(Instr.zdpHello 0 f nonce, zdpTHello), (Instr.zdpRequest 0 f, zdpTRequest), (Instr.zdpClose 0 f, zdpTClose)] ∧ s.zdpHears f = true ∧ s.zdpKeys = true ∧ zdpFormOk f.bytes = true ∧ byteAt f.bytes 3 ≠ ty) ∧
    (∃ (s : State) (f : ZdpFrame) (slot : ℕ) (k : List Byte), s.zdpHears f = true ∧ s.zdpKeys = true ∧ zdpFormOk f.bytes = true ∧ byteAt f.bytes 3 = zdpTHello ∧ slot = byteAt (zdpBody f.bytes) 0 ∧ k = s.rb 8224 (4 + slot) ∧ (k = [] ∨ zdpTagOk k f.bytes = false)) ∧
    (∃ (s : State) (f : ZdpFrame) (slot : ℕ) (k : List Byte) (why : ℕ), s.zdpHears f = true ∧ s.zdpKeys = true ∧ zdpFormOk f.bytes = true ∧ byteAt f.bytes 3 = zdpTHello ∧ slot = byteAt (zdpBody f.bytes) 0 ∧ k = s.rb 8224 (4 + slot) ∧ k ≠ [] ∧ zdpTagOk k f.bytes = true ∧ (s.sysBusy = true ∧ why = 2 ∨ s.sysBusy = false ∧ 8 ≤ List.length s.zdp ∧ why = 1)) ∧
    (∃ (s : State) (f : ZdpFrame) (slot : ℕ) (k : List Byte) (m : ℕ) (client : List Byte), s.zdpHears f = true ∧ s.zdpKeys = true ∧ zdpFormOk f.bytes = true ∧ byteAt f.bytes 3 = zdpTHello ∧ slot = byteAt (zdpBody f.bytes) 0 ∧ k = s.rb 8224 (4 + slot) ∧ k ≠ [] ∧ zdpTagOk k f.bytes = true ∧ s.sysBusy = false ∧ List.length s.zdp < 8 ∧ m = s.zdpFree ∧ client = List.drop 4 (zdpBody f.bytes)) :=
  ⟨⟨(stateAt T15.S15 0), ({ port := 0, v6 := false, dstAddr := [0x0a#8, 0x00#8, 0x00#8, 0x01#8], dstPort := 47220, srcAddr := [0x0a#8, 0x00#8, 0x00#8, 0x09#8], srcPort := 999, bytes := ([0x5a#8, 0x44#8, 0x01#8, 0x01#8, 0x00#8, 0x00#8, 0x00#8, 0x14#8, 0x00#8, 0x00#8, 0x00#8, 0x01#8] ++ List.replicate 24 0 ++ [0xd1#8, 0xba#8, 0x68#8, 0xa2#8, 0xa6#8, 0xcb#8, 0xf3#8, 0xa5#8, 0x67#8, 0x65#8, 0x26#8, 0xad#8, 0x94#8, 0x97#8, 0x72#8, 0x95#8, 0xe2#8, 0xbc#8, 0xcf#8, 0xf3#8, 0x09#8, 0x2e#8, 0xe8#8, 0x25#8, 0x58#8, 0x72#8, 0xbe#8, 0x7d#8, 0xbc#8, 0xe2#8, 0x07#8, 0x99#8]) } : ZdpFrame), [], 1, by decide +kernel⟩,
   ⟨(stateAt T15.S15 0), ({ port := 0, v6 := false, dstAddr := [0x0a#8, 0x00#8, 0x00#8, 0x01#8], dstPort := 47220, srcAddr := [0x0a#8, 0x00#8, 0x00#8, 0x09#8], srcPort := 999, bytes := ([0x5a#8, 0x44#8, 0x01#8, 0x01#8, 0x00#8, 0x00#8, 0x00#8, 0x14#8, 0x00#8, 0x00#8, 0x00#8, 0x01#8] ++ List.replicate 24 0 ++ [0xd1#8, 0xba#8, 0x68#8, 0xa2#8, 0xa6#8, 0xcb#8, 0xf3#8, 0xa5#8, 0x67#8, 0x65#8, 0x26#8, 0xad#8, 0x94#8, 0x97#8, 0x72#8, 0x95#8, 0xe2#8, 0xbc#8, 0xcf#8, 0xf3#8, 0x09#8, 0x2e#8, 0xe8#8, 0x25#8, 0x58#8, 0x72#8, 0xbe#8, 0x7d#8, 0xbc#8, 0xe2#8, 0x07#8, 0x99#8]) } : ZdpFrame), [], 3, by decide +kernel⟩,
   ⟨(stateAt T15.S15 0), ({ port := 0, v6 := false, dstAddr := [0x0a#8, 0x00#8, 0x00#8, 0x01#8], dstPort := 47220, srcAddr := [0x0a#8, 0x00#8, 0x00#8, 0x09#8], srcPort := 999, bytes := ([0x5a#8, 0x44#8, 0x01#8, 0x01#8, 0x00#8, 0x00#8, 0x00#8, 0x14#8, 0x00#8, 0x00#8, 0x00#8, 0x01#8] ++ List.replicate 24 0 ++ [0xd1#8, 0xba#8, 0x68#8, 0xa2#8, 0xa6#8, 0xcb#8, 0xf3#8, 0xa5#8, 0x67#8, 0x65#8, 0x26#8, 0xad#8, 0x94#8, 0x97#8, 0x72#8, 0x95#8, 0xe2#8, 0xbc#8, 0xcf#8, 0xf3#8, 0x09#8, 0x2e#8, 0xe8#8, 0x25#8, 0x58#8, 0x72#8, 0xbe#8, 0x7d#8, 0xbc#8, 0xe2#8, 0x07#8, 0x99#8]) } : ZdpFrame), [], 5, by decide +kernel⟩,
   ⟨(stateAt T15.S15 6), ({ port := 0, v6 := false, dstAddr := [0x0a#8, 0x00#8, 0x00#8, 0x01#8], dstPort := 47220, srcAddr := [0x0a#8, 0x00#8, 0x00#8, 0x09#8], srcPort := 999, bytes := [0x01#8, 0x02#8] } : ZdpFrame), [], 1, by decide +kernel⟩,
   ⟨(stateAt T15.S15 6), ({ port := 0, v6 := false, dstAddr := [0x0a#8, 0x00#8, 0x00#8, 0x01#8], dstPort := 47220, srcAddr := [0x0a#8, 0x00#8, 0x00#8, 0x09#8], srcPort := 999, bytes := [0x01#8, 0x02#8] } : ZdpFrame), [], 3, by decide +kernel⟩,
   ⟨(stateAt T15.S15 6), ({ port := 0, v6 := false, dstAddr := [0x0a#8, 0x00#8, 0x00#8, 0x01#8], dstPort := 47220, srcAddr := [0x0a#8, 0x00#8, 0x00#8, 0x09#8], srcPort := 999, bytes := [0x01#8, 0x02#8] } : ZdpFrame), [], 5, by decide +kernel⟩,
   ⟨(stateAt T15.S15 6), ({ port := 0, v6 := false, dstAddr := [0x0a#8, 0x00#8, 0x00#8, 0x01#8], dstPort := 47220, srcAddr := [0x0a#8, 0x00#8, 0x00#8, 0x09#8], srcPort := 999, bytes := [0x5a#8, 0x44#8, 0x01#8, 0x03#8, 0x00#8, 0x02#8, 0x00#8, 0x10#8, 0x00#8, 0x00#8, 0x00#8, 0x08#8, 0x00#8, 0x00#8, 0x00#8, 0x00#8, 0x01#8, 0x00#8, 0x10#8, 0x08#8, 0x00#8, 0x00#8, 0x00#8, 0x00#8, 0x00#8, 0x00#8, 0x00#8, 0x00#8, 0x00#8, 0x00#8, 0x00#8, 0x00#8, 0x72#8, 0xc7#8, 0xcc#8, 0xbe#8, 0x2a#8, 0x52#8, 0xe8#8, 0xb6#8, 0xf2#8, 0xd8#8, 0x93#8, 0xf7#8, 0xd0#8, 0xca#8, 0xee#8, 0x9f#8, 0x6c#8, 0xe7#8, 0x27#8, 0x41#8, 0xdc#8, 0xf9#8, 0x42#8, 0x6b#8, 0xb6#8, 0xe5#8, 0x7a#8, 0xba#8, 0x29#8, 0xb5#8, 0x90#8, 0x9d#8] } : ZdpFrame), [], 1, by decide +kernel⟩,
   ⟨(stateAt T15.S15 6), ({ port := 0, v6 := false, dstAddr := [0x0a#8, 0x00#8, 0x00#8, 0x01#8], dstPort := 47220, srcAddr := [0x0a#8, 0x00#8, 0x00#8, 0x09#8], srcPort := 999, bytes := ([0x5a#8, 0x44#8, 0x01#8, 0x01#8, 0x00#8, 0x00#8, 0x00#8, 0x14#8, 0x00#8, 0x00#8, 0x00#8, 0x01#8] ++ List.replicate 24 0 ++ [0xd1#8, 0xba#8, 0x68#8, 0xa2#8, 0xa6#8, 0xcb#8, 0xf3#8, 0xa5#8, 0x67#8, 0x65#8, 0x26#8, 0xad#8, 0x94#8, 0x97#8, 0x72#8, 0x95#8, 0xe2#8, 0xbc#8, 0xcf#8, 0xf3#8, 0x09#8, 0x2e#8, 0xe8#8, 0x25#8, 0x58#8, 0x72#8, 0xbe#8, 0x7d#8, 0xbc#8, 0xe2#8, 0x07#8, 0x99#8]) } : ZdpFrame), [], 3, by decide +kernel⟩,
   ⟨(stateAt T15.S15 6), ({ port := 0, v6 := false, dstAddr := [0x0a#8, 0x00#8, 0x00#8, 0x01#8], dstPort := 47220, srcAddr := [0x0a#8, 0x00#8, 0x00#8, 0x09#8], srcPort := 999, bytes := ([0x5a#8, 0x44#8, 0x01#8, 0x01#8, 0x00#8, 0x00#8, 0x00#8, 0x14#8, 0x00#8, 0x00#8, 0x00#8, 0x01#8] ++ List.replicate 24 0 ++ [0xd1#8, 0xba#8, 0x68#8, 0xa2#8, 0xa6#8, 0xcb#8, 0xf3#8, 0xa5#8, 0x67#8, 0x65#8, 0x26#8, 0xad#8, 0x94#8, 0x97#8, 0x72#8, 0x95#8, 0xe2#8, 0xbc#8, 0xcf#8, 0xf3#8, 0x09#8, 0x2e#8, 0xe8#8, 0x25#8, 0x58#8, 0x72#8, 0xbe#8, 0x7d#8, 0xbc#8, 0xe2#8, 0x07#8, 0x99#8]) } : ZdpFrame), [], 5, by decide +kernel⟩,
   ⟨(stateAt T15.S15 6), ({ port := 0, v6 := false, dstAddr := [0x0a#8, 0x00#8, 0x00#8, 0x01#8], dstPort := 47220, srcAddr := [0x0a#8, 0x00#8, 0x00#8, 0x09#8], srcPort := 999, bytes := [0x5a#8, 0x44#8, 0x01#8, 0x01#8, 0x00#8, 0x00#8, 0x00#8, 0x14#8, 0x00#8, 0x00#8, 0x00#8, 0x01#8, 0x00#8, 0x00#8, 0x00#8, 0x00#8, 0x01#8, 0x00#8, 0x00#8, 0x00#8, 0x00#8, 0x00#8, 0x00#8, 0x00#8, 0x00#8, 0x00#8, 0x00#8, 0x00#8, 0x00#8, 0x00#8, 0x00#8, 0x00#8, 0x00#8, 0x00#8, 0x00#8, 0x00#8, 0x4b#8, 0x1e#8, 0x05#8, 0x7f#8, 0xda#8, 0x54#8, 0x54#8, 0xc3#8, 0x26#8, 0xea#8, 0x0c#8, 0x8d#8, 0x9f#8, 0xfa#8, 0x21#8, 0xad#8, 0x40#8, 0x46#8, 0x4b#8, 0x8d#8, 0xfa#8, 0x7e#8, 0xb5#8, 0xc2#8, 0x45#8, 0x9f#8, 0x85#8, 0xc2#8, 0x7e#8, 0x1b#8, 0x42#8, 0x91#8] } : ZdpFrame), 1, [], by decide +kernel⟩,
   ⟨(stateAt T15.S15 10), ({ port := 0, v6 := false, dstAddr := [0x0a#8, 0x00#8, 0x00#8, 0x01#8], dstPort := 47220, srcAddr := [0x0a#8, 0x00#8, 0x00#8, 0x09#8], srcPort := 999, bytes := ([0x5a#8, 0x44#8, 0x01#8, 0x01#8, 0x00#8, 0x00#8, 0x00#8, 0x14#8, 0x00#8, 0x00#8, 0x00#8, 0x01#8] ++ List.replicate 24 0 ++ [0xd1#8, 0xba#8, 0x68#8, 0xa2#8, 0xa6#8, 0xcb#8, 0xf3#8, 0xa5#8, 0x67#8, 0x65#8, 0x26#8, 0xad#8, 0x94#8, 0x97#8, 0x72#8, 0x95#8, 0xe2#8, 0xbc#8, 0xcf#8, 0xf3#8, 0x09#8, 0x2e#8, 0xe8#8, 0x25#8, 0x58#8, 0x72#8, 0xbe#8, 0x7d#8, 0xbc#8, 0xe2#8, 0x07#8, 0x99#8]) } : ZdpFrame), 0, (bytesAt T15.ww0 2), 1, by decide +kernel⟩,
   ⟨(stateAt T15.S15 6), ({ port := 0, v6 := false, dstAddr := [0x0a#8, 0x00#8, 0x00#8, 0x01#8], dstPort := 47220, srcAddr := [0x0a#8, 0x00#8, 0x00#8, 0x09#8], srcPort := 999, bytes := ([0x5a#8, 0x44#8, 0x01#8, 0x01#8, 0x00#8, 0x00#8, 0x00#8, 0x14#8, 0x00#8, 0x00#8, 0x00#8, 0x01#8] ++ List.replicate 24 0 ++ [0xd1#8, 0xba#8, 0x68#8, 0xa2#8, 0xa6#8, 0xcb#8, 0xf3#8, 0xa5#8, 0x67#8, 0x65#8, 0x26#8, 0xad#8, 0x94#8, 0x97#8, 0x72#8, 0x95#8, 0xe2#8, 0xbc#8, 0xcf#8, 0xf3#8, 0x09#8, 0x2e#8, 0xe8#8, 0x25#8, 0x58#8, 0x72#8, 0xbe#8, 0x7d#8, 0xbc#8, 0xe2#8, 0x07#8, 0x99#8]) } : ZdpFrame), 0, (bytesAt T15.ww0 2), 1, [0x00#8, 0x00#8, 0x00#8, 0x00#8, 0x00#8, 0x00#8, 0x00#8, 0x00#8, 0x00#8, 0x00#8, 0x00#8, 0x00#8, 0x00#8, 0x00#8, 0x00#8, 0x00#8], by decide +kernel⟩⟩

/-- The hypotheses of ZdpSessionsFollowTheTable are met (part 2). -/
theorem witness_ZdpSessionsFollowTheTable_2 :
    (∃ (s : State) (f : ZdpFrame), s.zdpHears f = true ∧ s.zdpKeys = true ∧ zdpFormOk f.bytes = true ∧ byteAt f.bytes 3 = zdpTRequest ∧ s.zdp.look (fld f.bytes 4 2) = none) ∧
    (∃ (s : State) (f : ZdpFrame) (z : ZdpS), s.zdpHears f = true ∧ s.zdpKeys = true ∧ zdpFormOk f.bytes = true ∧ byteAt f.bytes 3 = zdpTRequest ∧ s.zdp.look (fld f.bytes 4 2) = some z ∧ zdpTagOk z.key f.bytes = false) ∧
    (∃ (s : State) (f : ZdpFrame) (z : ZdpS), s.zdpHears f = true ∧ s.zdpKeys = true ∧ zdpFormOk f.bytes = true ∧ byteAt f.bytes 3 = zdpTRequest ∧ s.zdp.look (fld f.bytes 4 2) = some z ∧ zdpTagOk z.key f.bytes = true ∧ serialEq 32 (fld f.bytes 8 4) z.seq = true ∧ z.held ≠ []) ∧
    (∃ (s : State) (f : ZdpFrame) (z : ZdpS), s.zdpHears f = true ∧ s.zdpKeys = true ∧ zdpFormOk f.bytes = true ∧ byteAt f.bytes 3 = zdpTRequest ∧ s.zdp.look (fld f.bytes 4 2) = some z ∧ zdpTagOk z.key f.bytes = true ∧ serialEq 32 (fld f.bytes 8 4) z.seq = false ∧ serialAfter 32 (fld f.bytes 8 4) z.seq = false) ∧
    (∃ (s : State) (f : ZdpFrame) (z : ZdpS), s.zdpHears f = true ∧ s.zdpKeys = true ∧ zdpFormOk f.bytes = true ∧ byteAt f.bytes 3 = zdpTRequest ∧ s.zdp.look (fld f.bytes 4 2) = some z ∧ zdpTagOk z.key f.bytes = true ∧ serialAfter 32 (fld f.bytes 8 4) z.seq = true) ∧
    (∃ (s : State) (f : ZdpFrame) (z : ZdpS), s.zdpHears f = true ∧ s.zdpKeys = true ∧ zdpFormOk f.bytes = true ∧ byteAt f.bytes 3 = zdpTClose ∧ s.zdp.look (fld f.bytes 4 2) = some z ∧ zdpTagOk z.key f.bytes = false) ∧
    (∃ (s : State) (f : ZdpFrame) (z : ZdpS), s.zdpHears f = true ∧ s.zdpKeys = true ∧ zdpFormOk f.bytes = true ∧ byteAt f.bytes 3 = zdpTClose ∧ s.zdp.look (fld f.bytes 4 2) = some z ∧ zdpTagOk z.key f.bytes = true ∧ s.upd.owner ≠ some (Req.zdp (fld f.bytes 4 2))) ∧
    (∃ (s : State) (t : ℕ) (m : ℕ) (z : ZdpS), (s.tick t).zdp.look m = some z ∧ z.last + (s.tick t).rn 8224 10 * sTicks ≤ (s.tick t).clock ∧ (s.tick t).upd.owner ≠ some (Req.zdp m)) ∧
    (∃ (s : State) (m : ℕ) (z : ZdpS), s.zdp.look m = some z ∧ s.clock < z.last + s.rn 8224 10 * sTicks) ∧
    (∃ (s : State) (m : ℕ), s.zdp.look m = none) ∧
    (∃ (s : State) (r : Req) (slot : ℕ) (k : List Byte), s.takes r = true ∧ slot < 4 ∧ k.length = 32 ∧ (∀ (m : ℕ), s.upd.owner ≠ some (Req.zdp m))) :=
  ⟨⟨(stateAt T15.S15 6), ({ port := 0, v6 := false, dstAddr := [0x0a#8, 0x00#8, 0x00#8, 0x01#8], dstPort := 47220, srcAddr := [0x0a#8, 0x00#8, 0x00#8, 0x09#8], srcPort := 999, bytes := [0x5a#8, 0x44#8, 0x01#8, 0x03#8, 0x00#8, 0x02#8, 0x00#8, 0x10#8, 0x00#8, 0x00#8, 0x00#8, 0x08#8, 0x00#8, 0x00#8, 0x00#8, 0x00#8, 0x01#8, 0x00#8, 0x10#8, 0x08#8, 0x00#8, 0x00#8, 0x00#8, 0x00#8, 0x00#8, 0x00#8, 0x00#8, 0x00#8, 0x00#8, 0x00#8, 0x00#8, 0x00#8, 0x72#8, 0xc7#8, 0xcc#8, 0xbe#8, 0x2a#8, 0x52#8, 0xe8#8, 0xb6#8, 0xf2#8, 0xd8#8, 0x93#8, 0xf7#8, 0xd0#8, 0xca#8, 0xee#8, 0x9f#8, 0x6c#8, 0xe7#8, 0x27#8, 0x41#8, 0xdc#8, 0xf9#8, 0x42#8, 0x6b#8, 0xb6#8, 0xe5#8, 0x7a#8, 0xba#8, 0x29#8, 0xb5#8, 0x90#8, 0x9d#8] } : ZdpFrame), by decide +kernel⟩,
   ⟨(stateAt T15.S15 8), ({ port := 0, v6 := false, dstAddr := [0x0a#8, 0x00#8, 0x00#8, 0x01#8], dstPort := 47220, srcAddr := [0x0a#8, 0x00#8, 0x00#8, 0x09#8], srcPort := 999, bytes := [0x5a#8, 0x44#8, 0x01#8, 0x03#8, 0x00#8, 0x02#8, 0x00#8, 0x10#8, 0x00#8, 0x00#8, 0x00#8, 0x06#8, 0x00#8, 0x00#8, 0x00#8, 0x00#8, 0x01#8, 0x00#8, 0x10#8, 0x08#8, 0x00#8, 0x00#8, 0x00#8, 0x00#8, 0x00#8, 0x00#8, 0x00#8, 0x00#8, 0x00#8, 0x00#8, 0x00#8, 0x00#8, 0xd8#8, 0x09#8, 0x19#8, 0x48#8, 0xf3#8, 0x15#8, 0xa1#8, 0xb0#8, 0x34#8, 0x9b#8, 0x5e#8, 0x11#8, 0x6e#8, 0x89#8, 0x57#8, 0xc7#8, 0xa8#8, 0x0e#8, 0x98#8, 0x67#8, 0xe8#8, 0x7c#8, 0x5f#8, 0x3f#8, 0x18#8, 0x66#8, 0x6f#8, 0x0c#8, 0xc5#8, 0x27#8, 0xb6#8, 0x01#8] } : ZdpFrame), ({ slot := 0, key := [0x05#8, 0x05#8, 0x05#8, 0x05#8, 0x05#8, 0x05#8, 0x05#8, 0x05#8, 0x05#8, 0x05#8, 0x05#8, 0x05#8, 0x05#8, 0x05#8, 0x05#8, 0x05#8, 0x05#8, 0x05#8, 0x05#8, 0x05#8, 0x05#8, 0x05#8, 0x05#8, 0x05#8, 0x05#8, 0x05#8, 0x05#8, 0x05#8, 0x05#8, 0x05#8, 0x05#8, 0x05#8], v6 := false, addr := [0x0a#8, 0x00#8, 0x00#8, 0x09#8], srcPort := 999, port := 0, seq := 7, held := [0x01#8, 0x02#8, 0x03#8], last := 0 } : ZdpS), by decide +kernel⟩,
   ⟨(stateAt T15.S15 8), ({ port := 0, v6 := false, dstAddr := [0x0a#8, 0x00#8, 0x00#8, 0x01#8], dstPort := 47220, srcAddr := [0x0a#8, 0x00#8, 0x00#8, 0x09#8], srcPort := 999, bytes := [0x5a#8, 0x44#8, 0x01#8, 0x03#8, 0x00#8, 0x02#8, 0x00#8, 0x10#8, 0x00#8, 0x00#8, 0x00#8, 0x07#8, 0x00#8, 0x00#8, 0x00#8, 0x00#8, 0x01#8, 0x00#8, 0x10#8, 0x08#8, 0x00#8, 0x00#8, 0x00#8, 0x00#8, 0x00#8, 0x00#8, 0x00#8, 0x00#8, 0x00#8, 0x00#8, 0x00#8, 0x00#8, 0x60#8, 0xb3#8, 0x0b#8, 0xcd#8, 0x9d#8, 0x69#8, 0x0d#8, 0x9d#8, 0xf1#8, 0x2e#8, 0xb3#8, 0x82#8, 0xff#8, 0xeb#8, 0xc1#8, 0x7a#8, 0xd8#8, 0x45#8, 0x28#8, 0xff#8, 0xed#8, 0x42#8, 0xda#8, 0xec#8, 0x34#8, 0x69#8, 0x7a#8, 0x12#8, 0xab#8, 0xa5#8, 0xba#8, 0x8f#8] } : ZdpFrame), ({ slot := 0, key := [0x05#8, 0x05#8, 0x05#8, 0x05#8, 0x05#8, 0x05#8, 0x05#8, 0x05#8, 0x05#8, 0x05#8, 0x05#8, 0x05#8, 0x05#8, 0x05#8, 0x05#8, 0x05#8, 0x05#8, 0x05#8, 0x05#8, 0x05#8, 0x05#8, 0x05#8, 0x05#8, 0x05#8, 0x05#8, 0x05#8, 0x05#8, 0x05#8, 0x05#8, 0x05#8, 0x05#8, 0x05#8], v6 := false, addr := [0x0a#8, 0x00#8, 0x00#8, 0x09#8], srcPort := 999, port := 0, seq := 7, held := [0x01#8, 0x02#8, 0x03#8], last := 0 } : ZdpS), by decide +kernel⟩,
   ⟨(stateAt T15.S15 8), ({ port := 0, v6 := false, dstAddr := [0x0a#8, 0x00#8, 0x00#8, 0x01#8], dstPort := 47220, srcAddr := [0x0a#8, 0x00#8, 0x00#8, 0x09#8], srcPort := 999, bytes := [0x5a#8, 0x44#8, 0x01#8, 0x03#8, 0x00#8, 0x02#8, 0x00#8, 0x10#8, 0x00#8, 0x00#8, 0x00#8, 0x06#8, 0x00#8, 0x00#8, 0x00#8, 0x00#8, 0x01#8, 0x00#8, 0x10#8, 0x08#8, 0x00#8, 0x00#8, 0x00#8, 0x00#8, 0x00#8, 0x00#8, 0x00#8, 0x00#8, 0x00#8, 0x00#8, 0x00#8, 0x00#8, 0x58#8, 0xbd#8, 0x1b#8, 0x3e#8, 0x3e#8, 0x99#8, 0x0a#8, 0xce#8, 0x90#8, 0xae#8, 0x68#8, 0x5b#8, 0xd4#8, 0xaa#8, 0xe4#8, 0x97#8, 0x04#8, 0xba#8, 0xb0#8, 0xb1#8, 0xcc#8, 0xd7#8, 0x53#8, 0x4e#8, 0xab#8, 0x4e#8, 0xa5#8, 0x1c#8, 0x0a#8, 0x6e#8, 0x7f#8, 0xca#8] } : ZdpFrame), ({ slot := 0, key := [0x05#8, 0x05#8, 0x05#8, 0x05#8, 0x05#8, 0x05#8, 0x05#8, 0x05#8, 0x05#8, 0x05#8, 0x05#8, 0x05#8, 0x05#8, 0x05#8, 0x05#8, 0x05#8, 0x05#8, 0x05#8, 0x05#8, 0x05#8, 0x05#8, 0x05#8, 0x05#8, 0x05#8, 0x05#8, 0x05#8, 0x05#8, 0x05#8, 0x05#8, 0x05#8, 0x05#8, 0x05#8], v6 := false, addr := [0x0a#8, 0x00#8, 0x00#8, 0x09#8], srcPort := 999, port := 0, seq := 7, held := [0x01#8, 0x02#8, 0x03#8], last := 0 } : ZdpS), by decide +kernel⟩,
   ⟨(stateAt T15.S15 8), ({ port := 0, v6 := false, dstAddr := [0x0a#8, 0x00#8, 0x00#8, 0x01#8], dstPort := 47220, srcAddr := [0x0a#8, 0x00#8, 0x00#8, 0x09#8], srcPort := 999, bytes := [0x5a#8, 0x44#8, 0x01#8, 0x03#8, 0x00#8, 0x02#8, 0x00#8, 0x10#8, 0x00#8, 0x00#8, 0x00#8, 0x08#8, 0x00#8, 0x00#8, 0x00#8, 0x00#8, 0x01#8, 0x00#8, 0x10#8, 0x08#8, 0x00#8, 0x00#8, 0x00#8, 0x00#8, 0x00#8, 0x00#8, 0x00#8, 0x00#8, 0x00#8, 0x00#8, 0x00#8, 0x00#8, 0x72#8, 0xc7#8, 0xcc#8, 0xbe#8, 0x2a#8, 0x52#8, 0xe8#8, 0xb6#8, 0xf2#8, 0xd8#8, 0x93#8, 0xf7#8, 0xd0#8, 0xca#8, 0xee#8, 0x9f#8, 0x6c#8, 0xe7#8, 0x27#8, 0x41#8, 0xdc#8, 0xf9#8, 0x42#8, 0x6b#8, 0xb6#8, 0xe5#8, 0x7a#8, 0xba#8, 0x29#8, 0xb5#8, 0x90#8, 0x9d#8] } : ZdpFrame), ({ slot := 0, key := [0x05#8, 0x05#8, 0x05#8, 0x05#8, 0x05#8, 0x05#8, 0x05#8, 0x05#8, 0x05#8, 0x05#8, 0x05#8, 0x05#8, 0x05#8, 0x05#8, 0x05#8, 0x05#8, 0x05#8, 0x05#8, 0x05#8, 0x05#8, 0x05#8, 0x05#8, 0x05#8, 0x05#8, 0x05#8, 0x05#8, 0x05#8, 0x05#8, 0x05#8, 0x05#8, 0x05#8, 0x05#8], v6 := false, addr := [0x0a#8, 0x00#8, 0x00#8, 0x09#8], srcPort := 999, port := 0, seq := 7, held := [0x01#8, 0x02#8, 0x03#8], last := 0 } : ZdpS), by decide +kernel⟩,
   ⟨(stateAt T15.S15 8), ({ port := 0, v6 := false, dstAddr := [0x0a#8, 0x00#8, 0x00#8, 0x01#8], dstPort := 47220, srcAddr := [0x0a#8, 0x00#8, 0x00#8, 0x09#8], srcPort := 999, bytes := [0x5a#8, 0x44#8, 0x01#8, 0x05#8, 0x00#8, 0x02#8, 0x00#8, 0x00#8, 0x00#8, 0x00#8, 0x00#8, 0x07#8, 0x00#8, 0x00#8, 0x00#8, 0x00#8, 0x50#8, 0x8f#8, 0xd5#8, 0x7d#8, 0x44#8, 0x88#8, 0x51#8, 0x99#8, 0xf3#8, 0xac#8, 0xb1#8, 0xc3#8, 0xd9#8, 0x9b#8, 0xb2#8, 0x26#8, 0x38#8, 0xcd#8, 0x75#8, 0xb1#8, 0x8b#8, 0x40#8, 0xd4#8, 0xd3#8, 0x9c#8, 0x0f#8, 0x8a#8, 0x62#8, 0x3f#8, 0x06#8, 0x0b#8, 0xae#8] } : ZdpFrame), ({ slot := 0, key := [0x05#8, 0x05#8, 0x05#8, 0x05#8, 0x05#8, 0x05#8, 0x05#8, 0x05#8, 0x05#8, 0x05#8, 0x05#8, 0x05#8, 0x05#8, 0x05#8, 0x05#8, 0x05#8, 0x05#8, 0x05#8, 0x05#8, 0x05#8, 0x05#8, 0x05#8, 0x05#8, 0x05#8, 0x05#8, 0x05#8, 0x05#8, 0x05#8, 0x05#8, 0x05#8, 0x05#8, 0x05#8], v6 := false, addr := [0x0a#8, 0x00#8, 0x00#8, 0x09#8], srcPort := 999, port := 0, seq := 7, held := [0x01#8, 0x02#8, 0x03#8], last := 0 } : ZdpS), by decide +kernel⟩,
   ⟨(stateAt T15.S15 8), ({ port := 0, v6 := false, dstAddr := [0x0a#8, 0x00#8, 0x00#8, 0x01#8], dstPort := 47220, srcAddr := [0x0a#8, 0x00#8, 0x00#8, 0x09#8], srcPort := 999, bytes := [0x5a#8, 0x44#8, 0x01#8, 0x05#8, 0x00#8, 0x02#8, 0x00#8, 0x00#8, 0x00#8, 0x00#8, 0x00#8, 0x07#8, 0x00#8, 0x00#8, 0x00#8, 0x00#8, 0x73#8, 0x73#8, 0x74#8, 0x80#8, 0x5a#8, 0x4f#8, 0xf8#8, 0x38#8, 0xaf#8, 0xe4#8, 0x5a#8, 0x42#8, 0x78#8, 0x17#8, 0xce#8, 0x91#8, 0x52#8, 0x9d#8, 0x8b#8, 0xc5#8, 0x1f#8, 0xbd#8, 0xb4#8, 0x17#8, 0x59#8, 0x2f#8, 0x03#8, 0xd2#8, 0x9a#8, 0xfa#8, 0x2d#8, 0xad#8] } : ZdpFrame), ({ slot := 0, key := [0x05#8, 0x05#8, 0x05#8, 0x05#8, 0x05#8, 0x05#8, 0x05#8, 0x05#8, 0x05#8, 0x05#8, 0x05#8, 0x05#8, 0x05#8, 0x05#8, 0x05#8, 0x05#8, 0x05#8, 0x05#8, 0x05#8, 0x05#8, 0x05#8, 0x05#8, 0x05#8, 0x05#8, 0x05#8, 0x05#8, 0x05#8, 0x05#8, 0x05#8, 0x05#8, 0x05#8, 0x05#8], v6 := false, addr := [0x0a#8, 0x00#8, 0x00#8, 0x09#8], srcPort := 999, port := 0, seq := 7, held := [0x01#8, 0x02#8, 0x03#8], last := 0 } : ZdpS), by decide +kernel⟩,
   ⟨(stateAt T15.S15 2), 100000000000, 2, ({ slot := 0, key := [0x05#8, 0x05#8, 0x05#8, 0x05#8, 0x05#8, 0x05#8, 0x05#8, 0x05#8, 0x05#8, 0x05#8, 0x05#8, 0x05#8, 0x05#8, 0x05#8, 0x05#8, 0x05#8, 0x05#8, 0x05#8, 0x05#8, 0x05#8, 0x05#8, 0x05#8, 0x05#8, 0x05#8, 0x05#8, 0x05#8, 0x05#8, 0x05#8, 0x05#8, 0x05#8, 0x05#8, 0x05#8], v6 := false, addr := [0x0a#8, 0x00#8, 0x00#8, 0x09#8], srcPort := 999, port := 0, seq := 7, held := [0x01#8, 0x02#8, 0x03#8], last := 0 } : ZdpS), by decide +kernel⟩,
   ⟨(stateAt T15.S15 2), 2, ({ slot := 0, key := [0x05#8, 0x05#8, 0x05#8, 0x05#8, 0x05#8, 0x05#8, 0x05#8, 0x05#8, 0x05#8, 0x05#8, 0x05#8, 0x05#8, 0x05#8, 0x05#8, 0x05#8, 0x05#8, 0x05#8, 0x05#8, 0x05#8, 0x05#8, 0x05#8, 0x05#8, 0x05#8, 0x05#8, 0x05#8, 0x05#8, 0x05#8, 0x05#8, 0x05#8, 0x05#8, 0x05#8, 0x05#8], v6 := false, addr := [0x0a#8, 0x00#8, 0x00#8, 0x09#8], srcPort := 999, port := 0, seq := 7, held := [0x01#8, 0x02#8, 0x03#8], last := 0 } : ZdpS), by decide +kernel⟩,
   ⟨(stateAt T15.S15 0), 0, by decide +kernel⟩,
   ⟨(stateAt T15.S15 0), Sys2Proof.Req.mailbox 3, 0, (bytesAt T15.ww0 2), by decide +kernel, by decide +kernel, by decide +kernel, ownerNone (by decide +kernel)⟩⟩

/-- The hypotheses of StoresLoadAndKeep are met (part 1). -/
theorem witness_StoresLoadAndKeep_1 :
    (∃ (s : State) (r : Req) (idx : ℕ) (sub : ℕ) (ok : Bool) (img : Tab Val), s.takes r = true ∧ (Instr.storeAll 0 r true, idx, sub, ok, img) ∈ [(Instr.storeAll 0 r true, 4112, 1, true, replaceGroup 1 s.image s.storeImage), (Instr.storeCommunication 0 r true, 4112, 2, true, replaceGroup 2 s.image s.storeImage), (Instr.storeApplication 0 r true, 4112, 3, true, replaceGroup 3 s.image s.storeImage), (Instr.storeAll 0 r false, 4112, 1, false, []), (Instr.storeCommunication 0 r false, 4112, 2, false, []), (Instr.storeApplication 0 r false, 4112, 3, false, []), (Instr.restoreDefaultsAll 0 r, 4113, 1, true, replaceGroup 1 s.image []), (Instr.restoreDefaultsCommunication 0 r, 4113, 2, true, replaceGroup 2 s.image []), (Instr.restoreDefaultsApplication 0 r, 4113, 3, true, replaceGroup 3 s.image [])] ∧ s.flash.boot.oldHeld = true) ∧
    (∃ (s : State) (r : Req) (idx : ℕ) (sub : ℕ) (ok : Bool) (img : Tab Val), s.takes r = true ∧ (Instr.storeCommunication 0 r true, idx, sub, ok, img) ∈ [(Instr.storeAll 0 r true, 4112, 1, true, replaceGroup 1 s.image s.storeImage), (Instr.storeCommunication 0 r true, 4112, 2, true, replaceGroup 2 s.image s.storeImage), (Instr.storeApplication 0 r true, 4112, 3, true, replaceGroup 3 s.image s.storeImage), (Instr.storeAll 0 r false, 4112, 1, false, []), (Instr.storeCommunication 0 r false, 4112, 2, false, []), (Instr.storeApplication 0 r false, 4112, 3, false, []), (Instr.restoreDefaultsAll 0 r, 4113, 1, true, replaceGroup 1 s.image []), (Instr.restoreDefaultsCommunication 0 r, 4113, 2, true, replaceGroup 2 s.image []), (Instr.restoreDefaultsApplication 0 r, 4113, 3, true, replaceGroup 3 s.image [])] ∧ s.flash.boot.oldHeld = true) ∧
    (∃ (s : State) (r : Req) (idx : ℕ) (sub : ℕ) (ok : Bool) (img : Tab Val), s.takes r = true ∧ (Instr.storeApplication 0 r true, idx, sub, ok, img) ∈ [(Instr.storeAll 0 r true, 4112, 1, true, replaceGroup 1 s.image s.storeImage), (Instr.storeCommunication 0 r true, 4112, 2, true, replaceGroup 2 s.image s.storeImage), (Instr.storeApplication 0 r true, 4112, 3, true, replaceGroup 3 s.image s.storeImage), (Instr.storeAll 0 r false, 4112, 1, false, []), (Instr.storeCommunication 0 r false, 4112, 2, false, []), (Instr.storeApplication 0 r false, 4112, 3, false, []), (Instr.restoreDefaultsAll 0 r, 4113, 1, true, replaceGroup 1 s.image []), (Instr.restoreDefaultsCommunication 0 r, 4113, 2, true, replaceGroup 2 s.image []), (Instr.restoreDefaultsApplication 0 r, 4113, 3, true, replaceGroup 3 s.image [])] ∧ s.flash.boot.oldHeld = true) ∧
    (∃ (s : State) (r : Req) (idx : ℕ) (sub : ℕ) (ok : Bool) (img : Tab Val), s.takes r = true ∧ (Instr.restoreDefaultsAll 0 r, idx, sub, ok, img) ∈ [(Instr.storeAll 0 r true, 4112, 1, true, replaceGroup 1 s.image s.storeImage), (Instr.storeCommunication 0 r true, 4112, 2, true, replaceGroup 2 s.image s.storeImage), (Instr.storeApplication 0 r true, 4112, 3, true, replaceGroup 3 s.image s.storeImage), (Instr.storeAll 0 r false, 4112, 1, false, []), (Instr.storeCommunication 0 r false, 4112, 2, false, []), (Instr.storeApplication 0 r false, 4112, 3, false, []), (Instr.restoreDefaultsAll 0 r, 4113, 1, true, replaceGroup 1 s.image []), (Instr.restoreDefaultsCommunication 0 r, 4113, 2, true, replaceGroup 2 s.image []), (Instr.restoreDefaultsApplication 0 r, 4113, 3, true, replaceGroup 3 s.image [])] ∧ s.flash.boot.oldHeld = true) ∧
    (∃ (s : State) (r : Req) (idx : ℕ) (sub : ℕ) (ok : Bool) (img : Tab Val), s.takes r = true ∧ (Instr.restoreDefaultsCommunication 0 r, idx, sub, ok, img) ∈ [(Instr.storeAll 0 r true, 4112, 1, true, replaceGroup 1 s.image s.storeImage), (Instr.storeCommunication 0 r true, 4112, 2, true, replaceGroup 2 s.image s.storeImage), (Instr.storeApplication 0 r true, 4112, 3, true, replaceGroup 3 s.image s.storeImage), (Instr.storeAll 0 r false, 4112, 1, false, []), (Instr.storeCommunication 0 r false, 4112, 2, false, []), (Instr.storeApplication 0 r false, 4112, 3, false, []), (Instr.restoreDefaultsAll 0 r, 4113, 1, true, replaceGroup 1 s.image []), (Instr.restoreDefaultsCommunication 0 r, 4113, 2, true, replaceGroup 2 s.image []), (Instr.restoreDefaultsApplication 0 r, 4113, 3, true, replaceGroup 3 s.image [])] ∧ s.flash.boot.oldHeld = true) ∧
    (∃ (s : State) (r : Req) (idx : ℕ) (sub : ℕ) (ok : Bool) (img : Tab Val), s.takes r = true ∧ (Instr.restoreDefaultsApplication 0 r, idx, sub, ok, img) ∈ [(Instr.storeAll 0 r true, 4112, 1, true, replaceGroup 1 s.image s.storeImage), (Instr.storeCommunication 0 r true, 4112, 2, true, replaceGroup 2 s.image s.storeImage), (Instr.storeApplication 0 r true, 4112, 3, true, replaceGroup 3 s.image s.storeImage), (Instr.storeAll 0 r false, 4112, 1, false, []), (Instr.storeCommunication 0 r false, 4112, 2, false, []), (Instr.storeApplication 0 r false, 4112, 3, false, []), (Instr.restoreDefaultsAll 0 r, 4113, 1, true, replaceGroup 1 s.image []), (Instr.restoreDefaultsCommunication 0 r, 4113, 2, true, replaceGroup 2 s.image []), (Instr.restoreDefaultsApplication 0 r, 4113, 3, true, replaceGroup 3 s.image [])] ∧ s.flash.boot.oldHeld = true) ∧
    (∃ (s : State) (r : Req) (idx : ℕ) (sub : ℕ) (ok : Bool) (img : Tab Val), s.takes r = true ∧ (Instr.storeAll 0 r true, idx, sub, ok, img) ∈ [(Instr.storeAll 0 r true, 4112, 1, true, replaceGroup 1 s.image s.storeImage), (Instr.storeCommunication 0 r true, 4112, 2, true, replaceGroup 2 s.image s.storeImage), (Instr.storeApplication 0 r true, 4112, 3, true, replaceGroup 3 s.image s.storeImage), (Instr.storeAll 0 r false, 4112, 1, false, []), (Instr.storeCommunication 0 r false, 4112, 2, false, []), (Instr.storeApplication 0 r false, 4112, 3, false, []), (Instr.restoreDefaultsAll 0 r, 4113, 1, true, replaceGroup 1 s.image []), (Instr.restoreDefaultsCommunication 0 r, 4113, 2, true, replaceGroup 2 s.image []), (Instr.restoreDefaultsApplication 0 r, 4113, 3, true, replaceGroup 3 s.image [])] ∧ s.flash.boot.oldHeld = false ∧ (ok = false ∨ s.power.fail = true)) ∧
    (∃ (s : State) (r : Req) (idx : ℕ) (sub : ℕ) (ok : Bool) (img : Tab Val), s.takes r = true ∧ (Instr.storeCommunication 0 r true, idx, sub, ok, img) ∈ [(Instr.storeAll 0 r true, 4112, 1, true, replaceGroup 1 s.image s.storeImage), (Instr.storeCommunication 0 r true, 4112, 2, true, replaceGroup 2 s.image s.storeImage), (Instr.storeApplication 0 r true, 4112, 3, true, replaceGroup 3 s.image s.storeImage), (Instr.storeAll 0 r false, 4112, 1, false, []), (Instr.storeCommunication 0 r false, 4112, 2, false, []), (Instr.storeApplication 0 r false, 4112, 3, false, []), (Instr.restoreDefaultsAll 0 r, 4113, 1, true, replaceGroup 1 s.image []), (Instr.restoreDefaultsCommunication 0 r, 4113, 2, true, replaceGroup 2 s.image []), (Instr.restoreDefaultsApplication 0 r, 4113, 3, true, replaceGroup 3 s.image [])] ∧ s.flash.boot.oldHeld = false ∧ (ok = false ∨ s.power.fail = true)) ∧
    (∃ (s : State) (r : Req) (idx : ℕ) (sub : ℕ) (ok : Bool) (img : Tab Val), s.takes r = true ∧ (Instr.storeApplication 0 r true, idx, sub, ok, img) ∈ [(Instr.storeAll 0 r true, 4112, 1, true, replaceGroup 1 s.image s.storeImage), (Instr.storeCommunication 0 r true, 4112, 2, true, replaceGroup 2 s.image s.storeImage), (Instr.storeApplication 0 r true, 4112, 3, true, replaceGroup 3 s.image s.storeImage), (Instr.storeAll 0 r false, 4112, 1, false, []), (Instr.storeCommunication 0 r false, 4112, 2, false, []), (Instr.storeApplication 0 r false, 4112, 3, false, []), (Instr.restoreDefaultsAll 0 r, 4113, 1, true, replaceGroup 1 s.image []), (Instr.restoreDefaultsCommunication 0 r, 4113, 2, true, replaceGroup 2 s.image []), (Instr.restoreDefaultsApplication 0 r, 4113, 3, true, replaceGroup 3 s.image [])] ∧ s.flash.boot.oldHeld = false ∧ (ok = false ∨ s.power.fail = true)) ∧
    (∃ (s : State) (r : Req) (idx : ℕ) (sub : ℕ) (ok : Bool) (img : Tab Val), s.takes r = true ∧ (Instr.restoreDefaultsAll 0 r, idx, sub, ok, img) ∈ [(Instr.storeAll 0 r true, 4112, 1, true, replaceGroup 1 s.image s.storeImage), (Instr.storeCommunication 0 r true, 4112, 2, true, replaceGroup 2 s.image s.storeImage), (Instr.storeApplication 0 r true, 4112, 3, true, replaceGroup 3 s.image s.storeImage), (Instr.storeAll 0 r false, 4112, 1, false, []), (Instr.storeCommunication 0 r false, 4112, 2, false, []), (Instr.storeApplication 0 r false, 4112, 3, false, []), (Instr.restoreDefaultsAll 0 r, 4113, 1, true, replaceGroup 1 s.image []), (Instr.restoreDefaultsCommunication 0 r, 4113, 2, true, replaceGroup 2 s.image []), (Instr.restoreDefaultsApplication 0 r, 4113, 3, true, replaceGroup 3 s.image [])] ∧ s.flash.boot.oldHeld = false ∧ (ok = false ∨ s.power.fail = true)) ∧
    (∃ (s : State) (r : Req) (idx : ℕ) (sub : ℕ) (ok : Bool) (img : Tab Val), s.takes r = true ∧ (Instr.restoreDefaultsCommunication 0 r, idx, sub, ok, img) ∈ [(Instr.storeAll 0 r true, 4112, 1, true, replaceGroup 1 s.image s.storeImage), (Instr.storeCommunication 0 r true, 4112, 2, true, replaceGroup 2 s.image s.storeImage), (Instr.storeApplication 0 r true, 4112, 3, true, replaceGroup 3 s.image s.storeImage), (Instr.storeAll 0 r false, 4112, 1, false, []), (Instr.storeCommunication 0 r false, 4112, 2, false, []), (Instr.storeApplication 0 r false, 4112, 3, false, []), (Instr.restoreDefaultsAll 0 r, 4113, 1, true, replaceGroup 1 s.image []), (Instr.restoreDefaultsCommunication 0 r, 4113, 2, true, replaceGroup 2 s.image []), (Instr.restoreDefaultsApplication 0 r, 4113, 3, true, replaceGroup 3 s.image [])] ∧ s.flash.boot.oldHeld = false ∧ (ok = false ∨ s.power.fail = true)) ∧
    (∃ (s : State) (r : Req) (idx : ℕ) (sub : ℕ) (ok : Bool) (img : Tab Val), s.takes r = true ∧ (Instr.restoreDefaultsApplication 0 r, idx, sub, ok, img) ∈ [(Instr.storeAll 0 r true, 4112, 1, true, replaceGroup 1 s.image s.storeImage), (Instr.storeCommunication 0 r true, 4112, 2, true, replaceGroup 2 s.image s.storeImage), (Instr.storeApplication 0 r true, 4112, 3, true, replaceGroup 3 s.image s.storeImage), (Instr.storeAll 0 r false, 4112, 1, false, []), (Instr.storeCommunication 0 r false, 4112, 2, false, []), (Instr.storeApplication 0 r false, 4112, 3, false, []), (Instr.restoreDefaultsAll 0 r, 4113, 1, true, replaceGroup 1 s.image []), (Instr.restoreDefaultsCommunication 0 r, 4113, 2, true, replaceGroup 2 s.image []), (Instr.restoreDefaultsApplication 0 r, 4113, 3, true, replaceGroup 3 s.image [])] ∧ s.flash.boot.oldHeld = false ∧ (ok = false ∨ s.power.fail = true)) :=
  ⟨⟨(stateAt T15b.S15 2), Sys2Proof.Req.mailbox 3, 4112, 1, true, [], by decide +kernel⟩,
   ⟨(stateAt T15b.S15 2), Sys2Proof.Req.mailbox 3, 4112, 2, true, [], by decide +kernel⟩,
   ⟨(stateAt T15b.S15 2), Sys2Proof.Req.mailbox 3, 4112, 3, true, [], by decide +kernel⟩,
   ⟨(stateAt T15b.S15 2), Sys2Proof.Req.mailbox 3, 4113, 1, true, [], by decide +kernel⟩,
   ⟨(stateAt T15b.S15 2), Sys2Proof.Req.mailbox 3, 4113, 2, true, [], by decide +kernel⟩,
   ⟨(stateAt T15b.S15 2), Sys2Proof.Req.mailbox 3, 4113, 3, true, [], by decide +kernel⟩,
   ⟨(stateAt T15b.S15 3), Sys2Proof.Req.mailbox 3, 4112, 1, true, [], by decide +kernel⟩,
   ⟨(stateAt T15b.S15 3), Sys2Proof.Req.mailbox 3, 4112, 2, true, [], by decide +kernel⟩,
   ⟨(stateAt T15b.S15 3), Sys2Proof.Req.mailbox 3, 4112, 3, true, [], by decide +kernel⟩,
   ⟨(stateAt T15b.S15 3), Sys2Proof.Req.mailbox 3, 4113, 1, true, [], by decide +kernel⟩,
   ⟨(stateAt T15b.S15 3), Sys2Proof.Req.mailbox 3, 4113, 2, true, [], by decide +kernel⟩,
   ⟨(stateAt T15b.S15 3), Sys2Proof.Req.mailbox 3, 4113, 3, true, [], by decide +kernel⟩⟩

/-- The hypotheses of StoresLoadAndKeep are met (part 2). -/
theorem witness_StoresLoadAndKeep_2 :
    (∃ (s : State) (r : Req) (idx : ℕ) (sub : ℕ) (ok : Bool) (img : Tab Val), s.takes r = true ∧ (Instr.storeAll 0 r true, idx, sub, ok, img) ∈ [(Instr.storeAll 0 r true, 4112, 1, true, replaceGroup 1 s.image s.storeImage), (Instr.storeCommunication 0 r true, 4112, 2, true, replaceGroup 2 s.image s.storeImage), (Instr.storeApplication 0 r true, 4112, 3, true, replaceGroup 3 s.image s.storeImage), (Instr.storeAll 0 r false, 4112, 1, false, []), (Instr.storeCommunication 0 r false, 4112, 2, false, []), (Instr.storeApplication 0 r false, 4112, 3, false, []), (Instr.restoreDefaultsAll 0 r, 4113, 1, true, replaceGroup 1 s.image []), (Instr.restoreDefaultsCommunication 0 r, 4113, 2, true, replaceGroup 2 s.image []), (Instr.restoreDefaultsApplication 0 r, 4113, 3, true, replaceGroup 3 s.image [])] ∧ s.flash.boot.oldHeld = false ∧ ok = true ∧ s.power.fail = false ∧ s.flash.boot.store ≤ 1) ∧
    (∃ (s : State) (r : Req) (idx : ℕ) (sub : ℕ) (ok : Bool) (img : Tab Val), s.takes r = true ∧ (Instr.storeCommunication 0 r true, idx, sub, ok, img) ∈ [(Instr.storeAll 0 r true, 4112, 1, true, replaceGroup 1 s.image s.storeImage), (Instr.storeCommunication 0 r true, 4112, 2, true, replaceGroup 2 s.image s.storeImage), (Instr.storeApplication 0 r true, 4112, 3, true, replaceGroup 3 s.image s.storeImage), (Instr.storeAll 0 r false, 4112, 1, false, []), (Instr.storeCommunication 0 r false, 4112, 2, false, []), (Instr.storeApplication 0 r false, 4112, 3, false, []), (Instr.restoreDefaultsAll 0 r, 4113, 1, true, replaceGroup 1 s.image []), (Instr.restoreDefaultsCommunication 0 r, 4113, 2, true, replaceGroup 2 s.image []), (Instr.restoreDefaultsApplication 0 r, 4113, 3, true, replaceGroup 3 s.image [])] ∧ s.flash.boot.oldHeld = false ∧ ok = true ∧ s.power.fail = false ∧ s.flash.boot.store ≤ 1) ∧
    (∃ (s : State) (r : Req) (idx : ℕ) (sub : ℕ) (ok : Bool) (img : Tab Val), s.takes r = true ∧ (Instr.storeApplication 0 r true, idx, sub, ok, img) ∈ [(Instr.storeAll 0 r true, 4112, 1, true, replaceGroup 1 s.image s.storeImage), (Instr.storeCommunication 0 r true, 4112, 2, true, replaceGroup 2 s.image s.storeImage), (Instr.storeApplication 0 r true, 4112, 3, true, replaceGroup 3 s.image s.storeImage), (Instr.storeAll 0 r false, 4112, 1, false, []), (Instr.storeCommunication 0 r false, 4112, 2, false, []), (Instr.storeApplication 0 r false, 4112, 3, false, []), (Instr.restoreDefaultsAll 0 r, 4113, 1, true, replaceGroup 1 s.image []), (Instr.restoreDefaultsCommunication 0 r, 4113, 2, true, replaceGroup 2 s.image []), (Instr.restoreDefaultsApplication 0 r, 4113, 3, true, replaceGroup 3 s.image [])] ∧ s.flash.boot.oldHeld = false ∧ ok = true ∧ s.power.fail = false ∧ s.flash.boot.store ≤ 1) ∧
    (∃ (s : State) (r : Req) (idx : ℕ) (sub : ℕ) (ok : Bool) (img : Tab Val), s.takes r = true ∧ (Instr.restoreDefaultsAll 0 r, idx, sub, ok, img) ∈ [(Instr.storeAll 0 r true, 4112, 1, true, replaceGroup 1 s.image s.storeImage), (Instr.storeCommunication 0 r true, 4112, 2, true, replaceGroup 2 s.image s.storeImage), (Instr.storeApplication 0 r true, 4112, 3, true, replaceGroup 3 s.image s.storeImage), (Instr.storeAll 0 r false, 4112, 1, false, []), (Instr.storeCommunication 0 r false, 4112, 2, false, []), (Instr.storeApplication 0 r false, 4112, 3, false, []), (Instr.restoreDefaultsAll 0 r, 4113, 1, true, replaceGroup 1 s.image []), (Instr.restoreDefaultsCommunication 0 r, 4113, 2, true, replaceGroup 2 s.image []), (Instr.restoreDefaultsApplication 0 r, 4113, 3, true, replaceGroup 3 s.image [])] ∧ s.flash.boot.oldHeld = false ∧ ok = true ∧ s.power.fail = false ∧ s.flash.boot.store ≤ 1) ∧
    (∃ (s : State) (r : Req) (idx : ℕ) (sub : ℕ) (ok : Bool) (img : Tab Val), s.takes r = true ∧ (Instr.restoreDefaultsCommunication 0 r, idx, sub, ok, img) ∈ [(Instr.storeAll 0 r true, 4112, 1, true, replaceGroup 1 s.image s.storeImage), (Instr.storeCommunication 0 r true, 4112, 2, true, replaceGroup 2 s.image s.storeImage), (Instr.storeApplication 0 r true, 4112, 3, true, replaceGroup 3 s.image s.storeImage), (Instr.storeAll 0 r false, 4112, 1, false, []), (Instr.storeCommunication 0 r false, 4112, 2, false, []), (Instr.storeApplication 0 r false, 4112, 3, false, []), (Instr.restoreDefaultsAll 0 r, 4113, 1, true, replaceGroup 1 s.image []), (Instr.restoreDefaultsCommunication 0 r, 4113, 2, true, replaceGroup 2 s.image []), (Instr.restoreDefaultsApplication 0 r, 4113, 3, true, replaceGroup 3 s.image [])] ∧ s.flash.boot.oldHeld = false ∧ ok = true ∧ s.power.fail = false ∧ s.flash.boot.store ≤ 1) ∧
    (∃ (s : State) (r : Req) (idx : ℕ) (sub : ℕ) (ok : Bool) (img : Tab Val), s.takes r = true ∧ (Instr.restoreDefaultsApplication 0 r, idx, sub, ok, img) ∈ [(Instr.storeAll 0 r true, 4112, 1, true, replaceGroup 1 s.image s.storeImage), (Instr.storeCommunication 0 r true, 4112, 2, true, replaceGroup 2 s.image s.storeImage), (Instr.storeApplication 0 r true, 4112, 3, true, replaceGroup 3 s.image s.storeImage), (Instr.storeAll 0 r false, 4112, 1, false, []), (Instr.storeCommunication 0 r false, 4112, 2, false, []), (Instr.storeApplication 0 r false, 4112, 3, false, []), (Instr.restoreDefaultsAll 0 r, 4113, 1, true, replaceGroup 1 s.image []), (Instr.restoreDefaultsCommunication 0 r, 4113, 2, true, replaceGroup 2 s.image []), (Instr.restoreDefaultsApplication 0 r, 4113, 3, true, replaceGroup 3 s.image [])] ∧ s.flash.boot.oldHeld = false ∧ ok = true ∧ s.power.fail = false ∧ s.flash.boot.store ≤ 1) ∧
    (∃ (s : State) (r : Req) (data : List Byte) (i : ℕ), s.takes r = true ∧ importBytes data = Sum.inl i ∧ data.length ≤ 4194304) ∧
    (∃ (s : State) (r : Req) (data : List Byte) (img : Tab Val), s.takes r = true ∧ importBytes data = Sum.inr img ∧ data.length ≤ 4194304 ∧ s.flash.boot.oldHeld = false ∧ s.power.fail = false ∧ s.flash.boot.store ≤ 1) ∧
    (∃ (s : State) (r : Req) (j : ℕ), s.takes r = true ∧ j < 9) ∧
    (∃ (s : State) (r : Req), s.answers r = true) ∧
    (∃ (s : State), s.power.phase = Phase.booting ∧ s.loaded = false ∧ s.upd.rom = false) ∧
    (∃ (s : State), (s.power.phase ≠ Phase.booting ∨ s.loaded = true ∨ s.upd.rom = true)) :=
  ⟨⟨(stateAt T15b.S15 0), Sys2Proof.Req.mailbox 3, 4112, 1, true, [], by decide +kernel⟩,
   ⟨(stateAt T15b.S15 0), Sys2Proof.Req.mailbox 3, 4112, 2, true, [], by decide +kernel⟩,
   ⟨(stateAt T15b.S15 0), Sys2Proof.Req.mailbox 3, 4112, 3, true, [], by decide +kernel⟩,
   ⟨(stateAt T15b.S15 0), Sys2Proof.Req.mailbox 3, 4113, 1, true, [], by decide +kernel⟩,
   ⟨(stateAt T15b.S15 0), Sys2Proof.Req.mailbox 3, 4113, 2, true, [], by decide +kernel⟩,
   ⟨(stateAt T15b.S15 0), Sys2Proof.Req.mailbox 3, 4113, 3, true, [], by decide +kernel⟩,
   ⟨(stateAt T15b.S15 0), Sys2Proof.Req.mailbox 3, [0x01#8], 1, by decide +kernel⟩,
   ⟨(stateAt T15b.S15 0), Sys2Proof.Req.mailbox 3, [], [], by decide +kernel⟩,
   ⟨(stateAt T15b.S15 0), Sys2Proof.Req.mailbox 3, 0, by decide +kernel⟩,
   ⟨(stateAt T15b.S15 0), Sys2Proof.Req.mailbox 3, by decide +kernel⟩,
   ⟨(stateAt T15b.S15 4), by decide +kernel⟩,
   ⟨(stateAt T15b.S15 0), by decide +kernel⟩⟩

/-- The hypotheses of EventsChecksAndTally are met (part 1). -/
theorem witness_EventsChecksAndTally_1 :
    (∃ (s : State) (k : ℕ), s.ringOf 5 0 = none ∧ s.log.queues.at' k [] = []) ∧
    (∃ (s : State) (k : ℕ) (e : Ev) (q : List Ev), s.ringOf 5 0 = none ∧ (s.log.queues.at' k [] = e :: q) ∧ s.log.lost.at' k 0 = 0) ∧
    (∃ (s : State) (k : ℕ) (e : Ev) (q : List Ev) (d : Ev), s.ringOf 5 0 = none ∧ (s.log.queues.at' k [] = e :: q) ∧ s.log.lost.at' k 0 ≠ 0 ∧ d = Ev.mk 2 2 (s.addrOf k) (s.clockOf (keyDie k)).1 (s.clockOf (keyDie k)).2 [(32, s.addrOf k), (16, s.log.lost.at' k 0)] 0) ∧
    (∃ (s : State) (k : ℕ) (e : Ev) (q : List Ev) (j : ℕ), s.ringOf 5 0 = none ∧ (s.log.queues.at' k [] = e :: q) ∧ e.emcy = 0 ∧ j ≠ k) ∧
    (∃ (s : State) (k : ℕ) (e : Ev) (q : List Ev) (j : ℕ), s.ringOf 5 0 = none ∧ (s.log.queues.at' k [] = e :: q) ∧ e.emcy ≠ 0 ∧ 1 ≤ j ∧ j ≤ 7 ∧ j ≤ s.rn 4099 0) ∧
    (∃ (s : State) (r : Req) (pos : ℕ), s.takes r = true ∧ pos < 2 ^ 64 ∧ serialAfter 48 (pos % 2 ^ 48) s.log.newest = true) ∧
    (∃ (s : State) (r : Req) (pos : ℕ), s.takes r = true ∧ pos < 2 ^ 64 ∧ serialAfter 48 (pos % 2 ^ 48) s.log.newest = false) ∧
    (∃ (s : State) (r : Req) (k : ℕ) (g : CheckS) (v : ℕ) (sub : ℕ), s.takes r = true ∧ k = s.checkSel ∧ g = s.check k ∧ v ≤ 3 ∧ sub = 3 ∧ lvsReserved k = true) ∧
    (∃ (s : State) (r : Req) (k : ℕ) (g : CheckS) (v : ℕ) (sub : ℕ), s.takes r = true ∧ k = s.checkSel ∧ g = s.check k ∧ v < 2 ^ 64 ∧ sub = 8 ∧ lvsReserved k = true) ∧
    (∃ (s : State) (r : Req) (k : ℕ) (g : CheckS) (sub : ℕ) (v : ℕ) (x : CheckS) (j : ℕ), s.takes r = true ∧ k = s.checkSel ∧ g = s.check k ∧ lvsReserved k = false ∧ (sub = 3 ∧ v ≤ 3 ∧ ¬(v = 3 ∧ g.point = 4) ∧ x = (CheckS.mk v g.alg g.point g.param g.window g.run g.last g.expected g.items g.mism g.repeats g.replays g.limit g.repRun g.alertAt).restart ∨ sub = 4 ∧ v ≤ 3 ∧ x = (CheckS.mk g.mode v g.point g.param g.window g.run g.last g.expected g.items g.mism g.repeats g.replays g.limit g.repRun g.alertAt).restart ∨ sub = 5 ∧ v ≤ 4 ∧ reaches k v g.param = true ∧ ¬(v = 4 ∧ g.mode = 3) ∧ x = (CheckS.mk g.mode g.alg v g.param g.window g.run g.last g.expected g.items g.mism g.repeats g.replays g.limit g.repRun g.alertAt).restart ∨ sub = 6 ∧ v < 2 ^ 32 ∧ reaches k g.point v = true ∧ x = (CheckS.mk g.mode g.alg g.point v g.window g.run g.last g.expected g.items g.mism g.repeats g.replays g.limit g.repRun g.alertAt).restart ∨ sub = 7 ∧ v < 2 ^ 64 ∧ x = (CheckS.mk g.mode g.alg g.point g.param v g.run g.last g.expected g.items g.mism g.repeats g.replays g.limit g.repRun g.alertAt).restart ∨ sub = 10 ∧ v < 2 ^ 64 ∧ x = CheckS.mk g.mode g.alg g.point g.param g.window g.run g.last v g.items g.mism g.repeats g.replays g.limit g.repRun g.alertAt ∨ sub = 15 ∧ v ≤ 255 ∧ x = CheckS.mk g.mode g.alg g.point g.param g.window g.run g.last g.expected g.items g.mism g.repeats g.replays v g.repRun g.alertAt) ∧ j ≠ k) ∧
    (∃ (s : State) (r : Req) (k : ℕ) (g : CheckS) (sub : ℕ) (v : ℕ), s.takes r = true ∧ k = s.checkSel ∧ g = s.check k ∧ lvsReserved k = false ∧ (sub = 3 ∧ v = 3 ∧ g.point = 4 ∨ sub = 5 ∧ v ≤ 4 ∧ (reaches k v g.param = false ∨ v = 4 ∧ g.mode = 3) ∨ sub = 6 ∧ v < 2 ^ 32 ∧ reaches k g.point v = false)) ∧
    (∃ (s : State) (r : Req) (k : ℕ) (g : CheckS) (v : ℕ) (j : ℕ), s.takes r = true ∧ k = s.checkSel ∧ g = s.check k ∧ lvsReserved k = false ∧ v < 2 ^ 64 ∧ j ≠ k) :=
  ⟨⟨(stateAt T16.S16a 0), 0, by decide +kernel⟩,
   ⟨(stateAt T16.S16a 1), 0, ({ ty := 2562, sev := 1, src := 0, sec := 0, ns := 0, pay := [(8, 1)], emcy := 0 } : Ev), [], by decide +kernel⟩,
   ⟨(stateAt T16.S16a 2), 0, ({ ty := 2562, sev := 1, src := 0, sec := 0, ns := 0, pay := [(8, 1)], emcy := 0 } : Ev), ([{ ty := 2562, sev := 1, src := 0, sec := 0, ns := 0, pay := [(8, 1)], emcy := 4096 }] : List Ev), ({ ty := 2, sev := 2, src := 0, sec := 0, ns := 0, pay := [(32, 0), (16, 5)], emcy := 0 } : Ev), by decide +kernel⟩,
   ⟨(stateAt T16.S16a 1), 0, ({ ty := 2562, sev := 1, src := 0, sec := 0, ns := 0, pay := [(8, 1)], emcy := 0 } : Ev), [], 5, by decide +kernel⟩,
   ⟨(stateAt T16.S16a 3), 0, ({ ty := 2562, sev := 1, src := 0, sec := 0, ns := 0, pay := [(8, 1)], emcy := 4096 } : Ev), [], 1, by decide +kernel⟩,
   ⟨(stateAt T16.S16a 0), Sys2Proof.Req.mailbox 3, 1, by decide +kernel⟩,
   ⟨(stateAt T16.S16a 0), Sys2Proof.Req.mailbox 3, 0, by decide +kernel⟩,
   ⟨(stateAt T16.S16a 7), Sys2Proof.Req.mailbox 3, 0, ({ mode := 0, alg := 0, point := 0, param := 0, window := 0, run := 4294967295, last := 0, expected := 18446744073709551615, items := 0, mism := 0, repeats := 0, replays := 0, limit := 3, repRun := 0, alertAt := none } : CheckS), 0, 3, by decide +kernel⟩,
   ⟨(stateAt T16.S16a 7), Sys2Proof.Req.mailbox 3, 0, ({ mode := 0, alg := 0, point := 0, param := 0, window := 0, run := 4294967295, last := 0, expected := 18446744073709551615, items := 0, mism := 0, repeats := 0, replays := 0, limit := 3, repRun := 0, alertAt := none } : CheckS), 0, 8, by decide +kernel⟩,
   ⟨(stateAt T16.S16a 0), Sys2Proof.Req.mailbox 3, 12, ({ mode := 0, alg := 0, point := 0, param := 0, window := 0, run := 4294967295, last := 0, expected := 18446744073709551615, items := 0, mism := 0, repeats := 0, replays := 0, limit := 3, repRun := 0, alertAt := none } : CheckS), 3, 0, ({ mode := 0, alg := 0, point := 0, param := 0, window := 0, run := 4294967295, last := 0, expected := 18446744073709551615, items := 0, mism := 0, repeats := 0, replays := 0, limit := 3, repRun := 0, alertAt := none } : CheckS), 0, by decide +kernel⟩,
   ⟨(stateAt T16.S16a 0), Sys2Proof.Req.mailbox 3, 12, ({ mode := 0, alg := 0, point := 0, param := 0, window := 0, run := 4294967295, last := 0, expected := 18446744073709551615, items := 0, mism := 0, repeats := 0, replays := 0, limit := 3, repRun := 0, alertAt := none } : CheckS), 5, 3, by decide +kernel⟩,
   ⟨(stateAt T16.S16a 0), Sys2Proof.Req.mailbox 3, 12, ({ mode := 0, alg := 0, point := 0, param := 0, window := 0, run := 4294967295, last := 0, expected := 18446744073709551615, items := 0, mism := 0, repeats := 0, replays := 0, limit := 3, repRun := 0, alertAt := none } : CheckS), 0, 0, by decide +kernel⟩⟩

/-- The hypotheses of EventsChecksAndTally are met (part 2). -/
theorem witness_EventsChecksAndTally_2 :
    (∃ (s : State) (r : Req) (data : List Byte), s.takes r = true ∧ data.length ≤ 1024 ∧ data.length % 4 = 0 ∧ (((mapEntries data).all fun e => decide (e = 0) || decide (e < 2 ^ 24) && mapOk (e % 65536) (e / 65536)) = false)) ∧
    (∃ (s : State) (r : Req) (data : List Byte), s.takes r = true ∧ data.length ≤ 1024 ∧ data.length % 4 = 0 ∧ (((mapEntries data).all fun e => decide (e = 0) || decide (e < 2 ^ 24) && mapOk (e % 65536) (e / 65536)) = true)) ∧
    (∃ (s : State) (k : ℕ) (i : Item), (48 ≤ k ∨ lvsReserved k = true ∨ s.serves (checkKey k) = false ∨ (s.check k).mode = 0 ∨ s.snoop (s.check k) i = none)) ∧
    (∃ (s : State) (k : ℕ) (i : Item) (x : Snoop) (j : ℕ), k < 48 ∧ lvsReserved k = false ∧ s.serves (checkKey k) = true ∧ (s.check k).mode ≠ 0 ∧ (s.check k).items < 4294967295 ∧ s.snoop (s.check k) i = some x ∧ j ≠ k) ∧
    (∃ (s : State) (k : ℕ) (i : Item) (x : Snoop) (a : CrcAlg), k < 48 ∧ lvsReserved k = false ∧ s.serves (checkKey k) = true ∧ (s.check k).mode ≠ 0 ∧ (s.check k).items < 4294967295 ∧ s.snoop (s.check k) i = some x ∧ a = crcAlg (s.check k).alg ∧ (s.check k).mode = 2) ∧
    (∃ (s : State) (k : ℕ) (i : Item) (x : Snoop) (a : CrcAlg) (run : ℕ), k < 48 ∧ lvsReserved k = false ∧ s.serves (checkKey k) = true ∧ (s.check k).mode ≠ 0 ∧ (s.check k).items < 4294967295 ∧ s.snoop (s.check k) i = some x ∧ a = crcAlg (s.check k).alg ∧ (s.check k).mode = 1 ∧ run = crcRun a a.init x.bytes ∧ ((s.check k).expected = 18446744073709551615 ∨ crcResult a run = (s.check k).expected)) ∧
    (∃ (s : State) (k : ℕ) (i : Item) (x : Snoop) (a : CrcAlg) (run : ℕ), k < 48 ∧ lvsReserved k = false ∧ s.serves (checkKey k) = true ∧ (s.check k).mode ≠ 0 ∧ (s.check k).items < 4294967295 ∧ s.snoop (s.check k) i = some x ∧ a = crcAlg (s.check k).alg ∧ (s.check k).mode = 1 ∧ run = crcRun a a.init x.bytes ∧ (s.check k).expected ≠ 18446744073709551615 ∧ crcResult a run ≠ (s.check k).expected ∧ (s.check k).mism < 4294967295 ∧ s.due (s.check k).alertAt sTicks = true) ∧
    (∃ (s : State) (k : ℕ) (i : Item) (x : Snoop) (a : CrcAlg) (run : ℕ), k < 48 ∧ lvsReserved k = false ∧ s.serves (checkKey k) = true ∧ (s.check k).mode ≠ 0 ∧ (s.check k).items < 4294967295 ∧ s.snoop (s.check k) i = some x ∧ a = crcAlg (s.check k).alg ∧ (s.check k).mode = 1 ∧ run = crcRun a a.init x.bytes ∧ (s.check k).expected ≠ 18446744073709551615 ∧ crcResult a run ≠ (s.check k).expected ∧ (s.check k).mism < 4294967295 ∧ s.due (s.check k).alertAt sTicks = false) ∧
    (∃ (s : State) (k : ℕ) (i : Item) (x : Snoop) (a : CrcAlg) (run : ℕ) (f : ℕ), k < 48 ∧ lvsReserved k = false ∧ s.serves (checkKey k) = true ∧ (s.check k).mode ≠ 0 ∧ (s.check k).items < 4294967295 ∧ s.snoop (s.check k) i = some x ∧ a = crcAlg (s.check k).alg ∧ (s.check k).mode = 1 ∧ run = crcRun a a.init x.bytes ∧ (s.check k).expected ≠ 18446744073709551615 ∧ crcResult a run ≠ (s.check k).expected ∧ (s.check k).mism < 4294967295 ∧ x.unit = some f ∧ isLvs f = false ∧ (s.unit f).st = 0 ∧ (s.unit f).window = none ∧ s.gone f = false) ∧
    (∃ (s : State) (k : ℕ) (i : Item) (x : Snoop) (v : ℕ) (y : ℕ), k < 48 ∧ lvsReserved k = false ∧ s.serves (checkKey k) = true ∧ (s.check k).mode ≠ 0 ∧ (s.check k).items < 4294967295 ∧ s.snoop (s.check k) i = some x ∧ (s.check k).mode = 3 ∧ x.alive = some v ∧ y = v % 2 ^ aliveBits (s.check k).point ∧ (bit (s.check k).run 63 = false ∨ serialAfter (aliveBits (s.check k).point) y (s.check k).run = true)) ∧
    (∃ (s : State) (k : ℕ) (i : Item) (x : Snoop) (v : ℕ) (y : ℕ), k < 48 ∧ lvsReserved k = false ∧ s.serves (checkKey k) = true ∧ (s.check k).mode ≠ 0 ∧ (s.check k).items < 4294967295 ∧ s.snoop (s.check k) i = some x ∧ (s.check k).mode = 3 ∧ x.alive = some v ∧ y = v % 2 ^ aliveBits (s.check k).point ∧ bit (s.check k).run 63 = true ∧ serialAfter (aliveBits (s.check k).point) y (s.check k).run = false ∧ serialEq (aliveBits (s.check k).point) y (s.check k).run = true ∧ (s.check k).repeats < 4294967295 ∧ (s.check k).repRun = (s.check k).limit ∧ s.due (s.check k).alertAt sTicks = true) ∧
    (∃ (s : State) (k : ℕ) (i : Item) (x : Snoop) (v : ℕ) (y : ℕ), k < 48 ∧ lvsReserved k = false ∧ s.serves (checkKey k) = true ∧ (s.check k).mode ≠ 0 ∧ (s.check k).items < 4294967295 ∧ s.snoop (s.check k) i = some x ∧ (s.check k).mode = 3 ∧ x.alive = some v ∧ y = v % 2 ^ aliveBits (s.check k).point ∧ bit (s.check k).run 63 = true ∧ serialAfter (aliveBits (s.check k).point) y (s.check k).run = false ∧ serialEq (aliveBits (s.check k).point) y (s.check k).run = false ∧ (s.check k).replays < 4294967295 ∧ s.due (s.check k).alertAt sTicks = true) :=
  ⟨⟨(stateAt T16.S16a 0), Sys2Proof.Req.mailbox 3, [0x00#8, 0x00#8, 0x10#8, 0x00#8], by decide +kernel⟩,
   ⟨(stateAt T16.S16a 0), Sys2Proof.Req.mailbox 3, [], by decide +kernel⟩,
   ⟨(stateAt T16.S16a 0), 0, Sys2Proof.Item.write 4119 0 [0x01#8, 0x02#8], by decide +kernel⟩,
   ⟨(stateAt T16b.S16b 1), 14, Sys2Proof.Item.picture (some 2), ({ bytes := [0x00#8, 0x4d#8, 0x00#8, 0x00#8, 0x00#8, 0x4d#8, 0x00#8, 0x00#8], alive := some 7, unit := some 6 } : Snoop), 0, by decide +kernel⟩,
   ⟨(stateAt T16b.S16b 2), 14, Sys2Proof.Item.picture (some 2), ({ bytes := [0x00#8, 0x4d#8, 0x00#8, 0x00#8, 0x00#8, 0x4d#8, 0x00#8, 0x00#8], alive := some 7, unit := some 6 } : Snoop), ({ width := 32, poly := 3988292384, init := 4294967295, reflected := true, xorOut := 4294967295 } : CrcAlg), by decide +kernel⟩,
   ⟨(stateAt T16b.S16b 4), 14, Sys2Proof.Item.picture (some 2), ({ bytes := [0x00#8, 0x4d#8, 0x00#8, 0x00#8, 0x00#8, 0x4d#8, 0x00#8, 0x00#8], alive := some 7, unit := some 6 } : Snoop), ({ width := 32, poly := 3988292384, init := 4294967295, reflected := true, xorOut := 4294967295 } : CrcAlg), 3343067836, by decide +kernel⟩,
   ⟨(stateAt T16b.S16b 1), 14, Sys2Proof.Item.picture (some 2), ({ bytes := [0x00#8, 0x4d#8, 0x00#8, 0x00#8, 0x00#8, 0x4d#8, 0x00#8, 0x00#8], alive := some 7, unit := some 6 } : Snoop), ({ width := 32, poly := 2197175160, init := 4294967295, reflected := true, xorOut := 4294967295 } : CrcAlg), 1309005373, by decide +kernel⟩,
   ⟨(stateAt T16b.S16b 5), 14, Sys2Proof.Item.picture (some 2), ({ bytes := [0x00#8, 0x4d#8, 0x00#8, 0x00#8, 0x00#8, 0x4d#8, 0x00#8, 0x00#8], alive := some 7, unit := some 6 } : Snoop), ({ width := 32, poly := 3988292384, init := 4294967295, reflected := true, xorOut := 4294967295 } : CrcAlg), 3343067836, by decide +kernel⟩,
   ⟨(stateAt T16b.S16b 1), 14, Sys2Proof.Item.picture (some 2), ({ bytes := [0x00#8, 0x4d#8, 0x00#8, 0x00#8, 0x00#8, 0x4d#8, 0x00#8, 0x00#8], alive := some 7, unit := some 6 } : Snoop), ({ width := 32, poly := 2197175160, init := 4294967295, reflected := true, xorOut := 4294967295 } : CrcAlg), 1309005373, 6, by decide +kernel⟩,
   ⟨(stateAt T16b.S16b 3), 14, Sys2Proof.Item.picture (some 2), ({ bytes := [0x00#8, 0x4d#8, 0x00#8, 0x00#8, 0x00#8, 0x4d#8, 0x00#8, 0x00#8], alive := some 7, unit := some 6 } : Snoop), 7, 7, by decide +kernel⟩,
   ⟨(stateAt T16b.S16b 6), 14, Sys2Proof.Item.picture (some 2), ({ bytes := [0x00#8, 0x4d#8, 0x00#8, 0x00#8, 0x00#8, 0x4d#8, 0x00#8, 0x00#8], alive := some 7, unit := some 6 } : Snoop), 7, 7, by decide +kernel⟩,
   ⟨(stateAt T16b.S16b 7), 14, Sys2Proof.Item.picture (some 2), ({ bytes := [0x00#8, 0x4d#8, 0x00#8, 0x00#8, 0x00#8, 0x4d#8, 0x00#8, 0x00#8], alive := some 7, unit := some 6 } : Snoop), 7, 7, by decide +kernel⟩⟩

/-- The hypotheses of EventsChecksAndTally are met (part 3). -/
theorem witness_EventsChecksAndTally_3 :
    (∃ (s : State) (k : ℕ) (i : Item) (x : Snoop), k < 48 ∧ lvsReserved k = false ∧ s.serves (checkKey k) = true ∧ (s.check k).mode ≠ 0 ∧ (s.check k).items < 4294967295 ∧ s.snoop (s.check k) i = some x ∧ x.unit = none) ∧
    (∃ (s : State) (k : ℕ), (s.check k).point = 0) ∧
    (∃ (s : State) (k : ℕ) (i : Item) (c : Option ℕ) (p : PicS), i = Item.picture c ∧ (s.check k).point = 1 ∧ s.isVideo (s.check k).param = true ∧ (s.ses (s.check k).param).disp = some p) ∧
    (∃ (s : State) (k : ℕ) (i : Item) (idx : ℕ) (sub : ℕ) (data : List Byte), i = Item.write idx sub data ∧ (s.check k).point = 4 ∧ (s.check k).param % 65536 ≤ idx ∧ idx ≤ (s.check k).param / 65536) ∧
    (∃ (s : State) (k : ℕ) (i : Item) (idx : ℕ) (sub : ℕ) (data : List Byte), i = Item.write idx sub data ∧ (s.check k).point = 4 ∧ (idx < (s.check k).param % 65536 ∨ (s.check k).param / 65536 < idx)) ∧
    (∃ (s : State) (k : ℕ) (i : Item) (w : SpWire), i = Item.frame w ∧ (s.check k).point = 3 ∧ ((s.spFrame ((s.check k).param / 256) w).crcOk = false ∨ (s.spFrame ((s.check k).param / 256) w).ftype ≠ (s.check k).param % 256)) ∧
    (∃ (s : State) (k : ℕ), (256 ≤ k ∨ s.tallyOn = false)) ∧
    (∃ (s : State) (k : ℕ), k < 256 ∧ s.tallyOn = true) ∧
    (∃ (s : State) (on : Bool), s.power.quietWait = false ∧ (∀ (a : ℕ), s.tally.checkAt = some a → a + msTicks ≤ s.clock) ∧ on = (decide (s.power.phase = Phase.running) && !s.lvsStopped s.primary.idx)) ∧
    (∃ (s : State) (a : ℕ), s.tally.checkAt = some a ∧ s.clock < a + msTicks ∧ s.power.quietWait = false) ∧
    (∃ (s : State), s.dictReady = false) ∧
    (∃ (s : State) (k : ℕ) (e : ℕ) (o : Obj), s.dictReady = true ∧ (mapEntries (s.rb 20736 2))[k]? = some e ∧ e ≠ 0 ∧ findObj (e % 65536) (e / 65536) = some o) :=
  ⟨⟨(stateAt T16b.S16b 1), 14, Sys2Proof.Item.picture none, ({ bytes := [0x00#8, 0x4d#8, 0x00#8, 0x00#8, 0x00#8, 0x4d#8, 0x00#8, 0x00#8], alive := some 7, unit := none } : Snoop), by decide +kernel⟩,
   ⟨(stateAt T16.S16a 0), 0, by decide +kernel⟩,
   ⟨(stateAt T16b.S16b 1), 14, Sys2Proof.Item.picture (some 2), some 2, ({ num := 0, poc := 0, w := 2, h := 2, confX := 0, confY := 0, codedW := 16, codedH := 16, matrix := 2, transfer := 2, primaries := 2, fullRange := false, taint := [], cap := none, alive := 7, grade := 0, exact := true, crcBad := false, graphics := false, surface := 0, words := (List.replicate 200 77), copy := [], depth := 10 } : PicS), by decide +kernel⟩,
   ⟨(stateAt T16b.S16b 9), 14, Sys2Proof.Item.write 4119 0 [0x01#8, 0x02#8], 4119, 0, [0x01#8, 0x02#8], by decide +kernel⟩,
   ⟨(stateAt T16b.S16b 9), 14, Sys2Proof.Item.write 16384 0 [0x01#8, 0x02#8], 16384, 0, [0x01#8, 0x02#8], by decide +kernel⟩,
   ⟨(stateAt T16b.S16b 10), 14, (Sys2Proof.Item.frame { cols := [], rxNs := 0 } : Item), ({ cols := [], rxNs := 0 } : SpWire), by decide +kernel⟩,
   ⟨(stateAt T16.S16a 0), 0, by decide +kernel⟩,
   ⟨(stateAt T16.S16a 5), 0, by decide +kernel⟩,
   ⟨(stateAt T16.S16a 0), true, by decide +kernel⟩,
   ⟨(stateAt T16.S16a 5), 5, by decide +kernel⟩,
   ⟨(stateAt T16.S16a 6), by decide +kernel⟩,
   ⟨(stateAt T16.S16a 4), 0, 4096, ({ base := 4096, count := 1, lo := 0, hi := 0, ty := Sys2Proof.Machine.Ty.u32, acc := Sys2Proof.Machine.Acc.konst, stored := false, cfg := false, sat := false, dflt := Sys2Proof.Val.num 0, chk := Sys2Proof.Machine.Chk.any } : Obj), by decide +kernel⟩⟩

/-- The hypotheses of ChangeSetsAreStaged are met (part 1). -/
theorem witness_ChangeSetsAreStaged_1 :
    (∃ (s : State) (r : Req) (data : List Byte) (es : List ChEntry) (ts : ℕ) (k : ℕ), s.takes r = true ∧ data.length ≤ 1048576 ∧ parseChange data = some es ∧ ts = s.changeTargets es ∧ s.supervisor = true ∧ s.sys.change = none ∧ (idsOf ts).all s.isPresent = true ∧ s.sys.quorum = true ∧ bit ts s.pkgId = false ∧ idsOf ts = [k] ∧ s.isSelf k = false ∧ data.length ≤ 8180) ∧
    (∃ (s : State) (r : Req) (data : List Byte) (result : ℕ) (st : ℕ) (pkg : ℕ), s.takes r = true ∧ data.length ≤ 1048576 ∧ (s.supervisor = false ∧ result = 2 ∧ st = 7 ∧ pkg = 255 ∨ s.supervisor = true ∧ s.sys.change ≠ none ∧ result = 1 ∧ st = 0 ∧ pkg = 255 ∨ s.supervisor = true ∧ s.sys.change = none ∧ parseChange data = none ∧ result = 3 ∧ st = 0 ∧ pkg = 255 ∨ s.supervisor = true ∧ s.sys.change = none ∧ st = 0 ∧ ∃ es, parseChange data = some es ∧ (result = 4 ∧ List.find? (fun p => !s.isPresent p) (idsOf (s.changeTargets es)) = some pkg ∨ result = 9 ∧ pkg = 255 ∧ (idsOf (s.changeTargets es)).all s.isPresent = true ∧ s.sys.quorum = false))) ∧
    (∃ (s : State) (q : ℕ) (x : SpWire), spIsOp (s.spFrame q x) 2 = true ∧ (s.receive q (s.spFrame q x)).2 = true ∧ ((s.spFrame q x).src ≠ (s.receive q (s.spFrame q x)).1.rn 26624 11 ∨ ∃ g, (s.receive q (s.spFrame q x)).1.sys.target = some g ∧ g.time ≠ none)) ∧
    (∃ (s : State) (q : ℕ) (x : SpWire) (had : List Byte), spIsOp (s.spFrame q x) 2 = true ∧ (s.receive q (s.spFrame q x)).2 = true ∧ (had = match (s.receive q (s.spFrame q x)).1.sys.target with | some g => if fld (s.spFrame q x).payload 8 4 = 0 ∨ g.id ≠ fld (s.spFrame q x).payload 2 2 ∨ g.from' ≠ (s.spFrame q x).src then [] else g.data | none => []) ∧ (s.spFrame q x).src = (s.receive q (s.spFrame q x)).1.rn 26624 11 ∧ (∀ (g : TargetS), (s.receive q (s.spFrame q x)).1.sys.target = some g → g.time = none) ∧ fld (s.spFrame q x).payload 8 4 ≠ had.length) ∧
    (∃ (s : State) (q : ℕ) (x : SpWire) (had : List Byte), spIsOp (s.spFrame q x) 2 = true ∧ (s.receive q (s.spFrame q x)).2 = true ∧ (had = match (s.receive q (s.spFrame q x)).1.sys.target with | some g => if fld (s.spFrame q x).payload 8 4 = 0 ∨ g.id ≠ fld (s.spFrame q x).payload 2 2 ∨ g.from' ≠ (s.spFrame q x).src then [] else g.data | none => []) ∧ (s.spFrame q x).src = (s.receive q (s.spFrame q x)).1.rn 26624 11 ∧ (∀ (g : TargetS), (s.receive q (s.spFrame q x)).1.sys.target = some g → g.time = none) ∧ fld (s.spFrame q x).payload 8 4 = had.length ∧ bit (byteAt (s.spFrame q x).payload 4) 0 = false) ∧
    (∃ (s : State) (q : ℕ) (x : SpWire) (had : List Byte), spIsOp (s.spFrame q x) 2 = true ∧ (s.receive q (s.spFrame q x)).2 = true ∧ (had = match (s.receive q (s.spFrame q x)).1.sys.target with | some g => if fld (s.spFrame q x).payload 8 4 = 0 ∨ g.id ≠ fld (s.spFrame q x).payload 2 2 ∨ g.from' ≠ (s.spFrame q x).src then [] else g.data | none => []) ∧ (s.spFrame q x).src = (s.receive q (s.spFrame q x)).1.rn 26624 11 ∧ (∀ (g : TargetS), (s.receive q (s.spFrame q x)).1.sys.target = some g → g.time = none) ∧ fld (s.spFrame q x).payload 8 4 = had.length ∧ bit (byteAt (s.spFrame q x).payload 4) 0 = true ∧ (s.receive q (s.spFrame q x)).1.isSelf (s.spFrame q x).src = false ∧ parseChange (had ++ List.drop 12 (s.spFrame q x).payload) = none) ∧
    (∃ (s : State) (q : ℕ) (x : SpWire), spIsOp (s.spFrame q x) 3 = true ∧ (s.receive q (s.spFrame q x)).2 = true ∧ (s.receive q (s.spFrame q x)).1.sys.change = none) ∧
    (∃ (s : State) (q : ℕ) (x : SpWire) (c : ChangeS), spIsOp (s.spFrame q x) 3 = true ∧ (s.receive q (s.spFrame q x)).2 = true ∧ (s.receive q (s.spFrame q x)).1.sys.change = some c ∧ (c.id ≠ fld (s.spFrame q x).payload 2 2 ∨ c.phase ≠ 0 ∨ bit c.targets (s.spFrame q x).src = false)) :=
  ⟨⟨(stateAt T17.S17 0), Sys2Proof.Req.mailbox 3, (bytesAt T17.ww0 1), ([{ targets := 2, idx := 8193, sub := 1, data := [0x05#8] }] : List ChEntry), 2, 1, by decide +kernel⟩,
   ⟨(stateAt T17.S17 0), Sys2Proof.Req.mailbox 3, [], 3, 0, 255, by decide +kernel⟩,
   ⟨(stateAt T17.S17 0), 0, (frameAt T17.F17 0), by decide +kernel⟩,
   ⟨(stateAt T17.S17 28), 0, (frameAt T17.F17 2), [], by decide +kernel⟩,
   ⟨(stateAt T17.S17 28), 0, (frameAt T17.F17 0), [], by decide +kernel⟩,
   ⟨(stateAt T17.S17 28), 0, (frameAt T17.F17 4), [], by decide +kernel⟩,
   ⟨(stateAt T17.S17 0), 0, (frameAt T17.F17 5), by decide +kernel⟩,
   ⟨(stateAt T17.S17 8), 0, (frameAt T17.F17 7), ({ id := 5, tag := 77, data := [0x5a#8, 0x43#8, 0x01#8, 0x00#8, 0x00#8, 0x4d#8, 0x00#8, 0x01#8, 0x00#8, 0x00#8, 0x00#8, 0x00#8, 0x00#8, 0x00#8, 0x00#8, 0x00#8, 0x00#8, 0x02#8, 0x20#8, 0x01#8, 0x01#8, 0x00#8, 0x00#8, 0x00#8, 0x00#8, 0x00#8, 0x00#8, 0x01#8, 0x05#8], targets := 6, phase := 0, start := 0, time := 0, staged := [], armed := 0, applied := 0, differs := false } : ChangeS), by decide +kernel⟩⟩

/-- The hypotheses of ChangeSetsAreStaged are met (part 2). -/
theorem witness_ChangeSetsAreStaged_2 :
    (∃ (s : State) (q : ℕ) (x : SpWire) (c : ChangeS), spIsOp (s.spFrame q x) 3 = true ∧ (s.receive q (s.spFrame q x)).2 = true ∧ (s.receive q (s.spFrame q x)).1.sys.change = some c ∧ c.id = fld (s.spFrame q x).payload 2 2 ∧ c.phase = 0 ∧ bit c.targets (s.spFrame q x).src = true ∧ byteAt (s.spFrame q x).payload 4 ≠ 0) ∧
    (∃ (s : State) (q : ℕ) (x : SpWire) (c : ChangeS) (n : Tab (ℕ × List (ℕ × ℕ))), spIsOp (s.spFrame q x) 3 = true ∧ (s.receive q (s.spFrame q x)).2 = true ∧ (s.receive q (s.spFrame q x)).1.sys.change = some c ∧ c.id = fld (s.spFrame q x).payload 2 2 ∧ c.phase = 0 ∧ bit c.targets (s.spFrame q x).src = true ∧ n = c.staged.put (s.spFrame q x).src (fld (s.spFrame q x).payload 8 8, parseRoles 16 (List.drop 16 (s.spFrame q x).payload)) ∧ byteAt (s.spFrame q x).payload 4 = 0 ∧ (((idsOf c.targets).all fun p => (n.look p).isSome) = false)) ∧
    (∃ (s : State) (q : ℕ) (x : SpWire) (c : ChangeS) (n : Tab (ℕ × List (ℕ × ℕ))), spIsOp (s.spFrame q x) 3 = true ∧ (s.receive q (s.spFrame q x)).2 = true ∧ (s.receive q (s.spFrame q x)).1.sys.change = some c ∧ c.id = fld (s.spFrame q x).payload 2 2 ∧ c.phase = 0 ∧ bit c.targets (s.spFrame q x).src = true ∧ n = c.staged.put (s.spFrame q x).src (fld (s.spFrame q x).payload 8 8, parseRoles 16 (List.drop 16 (s.spFrame q x).payload)) ∧ byteAt (s.spFrame q x).payload 4 = 0 ∧ (((idsOf c.targets).all fun p => (n.look p).isSome) = true)) ∧
    (∃ (s : State) (c : ChangeS), s.sys.change = some c ∧ (c.phase ≠ 0 ∨ s.clock < c.start + 500 * msTicks)) ∧
    (∃ (s : State) (c : ChangeS), s.sys.change = some c ∧ c.phase = 0 ∧ c.start + 500 * msTicks ≤ s.clock) ∧
    (∃ (s : State) (r : Req) (c : ChangeS), s.sys.change = some c ∧ s.takes r = true ∧ s.supervisor = true ∧ c.phase ≤ 1) ∧
    (∃ (s : State) (r : Req) (c : ChangeS), s.sys.change = some c ∧ s.takes r = true ∧ (s.supervisor = false ∨ 1 < c.phase)) :=
  ⟨⟨(stateAt T17.S17 8), 0, (frameAt T17.F17 6), ({ id := 5, tag := 77, data := [0x5a#8, 0x43#8, 0x01#8, 0x00#8, 0x00#8, 0x4d#8, 0x00#8, 0x01#8, 0x00#8, 0x00#8, 0x00#8, 0x00#8, 0x00#8, 0x00#8, 0x00#8, 0x00#8, 0x00#8, 0x02#8, 0x20#8, 0x01#8, 0x01#8, 0x00#8, 0x00#8, 0x00#8, 0x00#8, 0x00#8, 0x00#8, 0x01#8, 0x05#8], targets := 6, phase := 0, start := 0, time := 0, staged := [], armed := 0, applied := 0, differs := false } : ChangeS), by decide +kernel⟩,
   ⟨(stateAt T17.S17 8), 0, (frameAt T17.F17 5), ({ id := 5, tag := 77, data := [0x5a#8, 0x43#8, 0x01#8, 0x00#8, 0x00#8, 0x4d#8, 0x00#8, 0x01#8, 0x00#8, 0x00#8, 0x00#8, 0x00#8, 0x00#8, 0x00#8, 0x00#8, 0x00#8, 0x00#8, 0x02#8, 0x20#8, 0x01#8, 0x01#8, 0x00#8, 0x00#8, 0x00#8, 0x00#8, 0x00#8, 0x00#8, 0x01#8, 0x05#8], targets := 6, phase := 0, start := 0, time := 0, staged := [], armed := 0, applied := 0, differs := false } : ChangeS), [(1, 3, [])], by decide +kernel⟩,
   ⟨(stateAt T17.S17 16), 0, (frameAt T17.F17 5), ({ id := 5, tag := 77, data := [0x5a#8, 0x43#8, 0x01#8, 0x00#8, 0x00#8, 0x4d#8, 0x00#8, 0x01#8, 0x00#8, 0x00#8, 0x00#8, 0x00#8, 0x00#8, 0x00#8, 0x00#8, 0x00#8, 0x00#8, 0x02#8, 0x20#8, 0x01#8, 0x01#8, 0x00#8, 0x00#8, 0x00#8, 0x00#8, 0x00#8, 0x00#8, 0x01#8, 0x05#8], targets := 6, phase := 0, start := 0, time := 0, staged := [(2, 9, [])], armed := 4, applied := 0, differs := false } : ChangeS), [(1, 3, []), (2, 9, [])], by decide +kernel⟩,
   ⟨(stateAt T17.S17 8), ({ id := 5, tag := 77, data := [0x5a#8, 0x43#8, 0x01#8, 0x00#8, 0x00#8, 0x4d#8, 0x00#8, 0x01#8, 0x00#8, 0x00#8, 0x00#8, 0x00#8, 0x00#8, 0x00#8, 0x00#8, 0x00#8, 0x00#8, 0x02#8, 0x20#8, 0x01#8, 0x01#8, 0x00#8, 0x00#8, 0x00#8, 0x00#8, 0x00#8, 0x00#8, 0x01#8, 0x05#8], targets := 6, phase := 0, start := 0, time := 0, staged := [], armed := 0, applied := 0, differs := false } : ChangeS), by decide +kernel⟩,
   ⟨(stateAt T17x.S17 0), ({ id := 5, tag := 77, data := [], targets := 6, phase := 0, start := 0, time := 0, staged := [], armed := 0, applied := 0, differs := false } : ChangeS), by decide +kernel⟩,
   ⟨(stateAt T17.S17 8), Sys2Proof.Req.mailbox 3, ({ id := 5, tag := 77, data := [0x5a#8, 0x43#8, 0x01#8, 0x00#8, 0x00#8, 0x4d#8, 0x00#8, 0x01#8, 0x00#8, 0x00#8, 0x00#8, 0x00#8, 0x00#8, 0x00#8, 0x00#8, 0x00#8, 0x00#8, 0x02#8, 0x20#8, 0x01#8, 0x01#8, 0x00#8, 0x00#8, 0x00#8, 0x00#8, 0x00#8, 0x00#8, 0x01#8, 0x05#8], targets := 6, phase := 0, start := 0, time := 0, staged := [], armed := 0, applied := 0, differs := false } : ChangeS), by decide +kernel⟩,
   ⟨(stateAt T17.S17 24), Sys2Proof.Req.mailbox 3, ({ id := 5, tag := 77, data := [0x5a#8, 0x43#8, 0x01#8, 0x00#8, 0x00#8, 0x4d#8, 0x00#8, 0x01#8, 0x00#8, 0x00#8, 0x00#8, 0x00#8, 0x00#8, 0x00#8, 0x00#8, 0x00#8, 0x00#8, 0x02#8, 0x20#8, 0x01#8, 0x01#8, 0x00#8, 0x00#8, 0x00#8, 0x00#8, 0x00#8, 0x00#8, 0x01#8, 0x05#8], targets := 6, phase := 2, start := 0, time := 0, staged := [(1, 3, [])], armed := 6, applied := 0, differs := false } : ChangeS), by decide +kernel⟩⟩

end Sys2Proof.Tests
end

