-- ==== Sys2Proof/Tests/Witness6.lean ====
section
/-! SUPPORT. Witnesses: for every statement with hypotheses, clause by clause, a concrete state and operands that meet them together. -/

namespace Sys2Proof.Tests

open Sys2Proof Sys2Proof.Machine

set_option Elab.async false

/-- The hypotheses of ChangeSetsAreArmedAndApplied are met (part 1). -/
theorem witness_ChangeSetsAreArmedAndApplied_1 :
    (∃ (s : State) (q : ℕ) (x : SpWire), spIsOp (s.spFrame q x) 4 = true ∧ (s.receive q (s.spFrame q x)).2 = true ∧ (s.receive q (s.spFrame q x)).1.sys.target = none) ∧
    (∃ (s : State) (q : ℕ) (x : SpWire) (g : TargetS), spIsOp (s.spFrame q x) 4 = true ∧ (s.receive q (s.spFrame q x)).2 = true ∧ (s.receive q (s.spFrame q x)).1.sys.target = some g ∧ g.from' = (s.spFrame q x).src ∧ g.id = fld (s.spFrame q x).payload 2 2 ∧ g.staged = true ∧ g.time = none) ∧
    (∃ (s : State) (q : ℕ) (x : SpWire) (g : TargetS), spIsOp (s.spFrame q x) 4 = true ∧ (s.receive q (s.spFrame q x)).2 = true ∧ (s.receive q (s.spFrame q x)).1.sys.target = some g ∧ (g.from' ≠ (s.spFrame q x).src ∨ g.id ≠ fld (s.spFrame q x).payload 2 2 ∨ g.staged = false ∨ g.time ≠ none)) ∧
    (∃ (s : State) (q : ℕ) (x : SpWire), spIsOp (s.spFrame q x) 5 = true ∧ (s.receive q (s.spFrame q x)).2 = true ∧ (s.receive q (s.spFrame q x)).1.sys.change = none) ∧
    (∃ (s : State) (q : ℕ) (x : SpWire) (c : ChangeS), spIsOp (s.spFrame q x) 5 = true ∧ (s.receive q (s.spFrame q x)).2 = true ∧ (s.receive q (s.spFrame q x)).1.sys.change = some c ∧ c.id = fld (s.spFrame q x).payload 2 2 ∧ c.phase = 1 ∧ bit c.targets (s.spFrame q x).src = true) ∧
    (∃ (s : State) (q : ℕ) (x : SpWire) (c : ChangeS), spIsOp (s.spFrame q x) 5 = true ∧ (s.receive q (s.spFrame q x)).2 = true ∧ (s.receive q (s.spFrame q x)).1.sys.change = some c ∧ (c.id ≠ fld (s.spFrame q x).payload 2 2 ∨ c.phase ≠ 1 ∨ bit c.targets (s.spFrame q x).src = false)) ∧
    (∃ (s : State) (q : ℕ) (x : SpWire), spIsOp (s.spFrame q x) 6 = true ∧ (s.receive q (s.spFrame q x)).2 = true ∧ (s.receive q (s.spFrame q x)).1.sys.target = none) ∧
    (∃ (s : State) (q : ℕ) (x : SpWire) (g : TargetS), spIsOp (s.spFrame q x) 6 = true ∧ (s.receive q (s.spFrame q x)).2 = true ∧ (s.receive q (s.spFrame q x)).1.sys.target = some g ∧ g.from' = (s.spFrame q x).src ∧ g.id = fld (s.spFrame q x).payload 2 2 ∧ g.done = none) ∧
    (∃ (s : State) (q : ℕ) (x : SpWire) (g : TargetS), spIsOp (s.spFrame q x) 6 = true ∧ (s.receive q (s.spFrame q x)).2 = true ∧ (s.receive q (s.spFrame q x)).1.sys.target = some g ∧ (g.from' ≠ (s.spFrame q x).src ∨ g.id ≠ fld (s.spFrame q x).payload 2 2 ∨ g.done ≠ none)) ∧
    (∃ (s : State) (c : ChangeS), s.sys.change = some c ∧ (c.phase ≠ 1 ∨ c.allArmed = true ∨ s.nowNs + 20000000 < c.time)) ∧
    (∃ (s : State) (c : ChangeS), s.sys.change = some c ∧ c.time ≤ s.nowNs + 20000000 ∧ c.phase = 1 ∧ c.allArmed = false) ∧
    (∃ (s : State) (c : ChangeS), s.sys.change = some c ∧ c.time ≤ s.nowNs ∧ s.dictReady = true ∧ s.sys.target = none ∧ c.phase = 1 ∧ c.allArmed = false) ∧
    (∃ (s : State) (c : ChangeS), s.sys.change = some c ∧ c.phase = 1 ∧ c.allArmed = true ∧ c.time ≤ s.nowNs ∧ s.dictReady = true ∧ s.sys.target = none) ∧
    (∃ (s : State) (c : ChangeS), s.sys.change = some c ∧ s.sys.target = none ∧ (c.phase ≠ 1 ∨ s.nowNs < c.time)) :=
  ⟨⟨(stateAt T17b.S17 0), 0, (frameAt T17b.F17 0), by decide +kernel⟩,
   ⟨(stateAt T17b.S17 24), 0, (frameAt T17b.F17 0), ({ from' := 1, id := 5, data := [0x5a#8, 0x43#8, 0x01#8, 0x00#8, 0x00#8, 0x4d#8, 0x00#8, 0x02#8, 0x00#8, 0x00#8, 0x00#8, 0x00#8, 0x00#8, 0x00#8, 0x00#8, 0x00#8, 0x00#8, 0x01#8, 0x68#8, 0x00#8, 0x05#8, 0x00#8, 0x00#8, 0x00#8, 0x00#8, 0x00#8, 0x00#8, 0x02#8, 0x05#8, 0x00#8, 0x00#8, 0x02#8, 0x60#8, 0x10#8, 0x02#8, 0x00#8, 0x00#8, 0x00#8, 0x00#8, 0x00#8, 0x00#8, 0x01#8, 0x05#8], staged := true, time := none, done := none, late := false, tree := [], commits := [], screens := [] } : TargetS), by decide +kernel⟩,
   ⟨(stateAt T17b.S17 24), 0, (frameAt T17b.F17 1), ({ from' := 1, id := 5, data := [0x5a#8, 0x43#8, 0x01#8, 0x00#8, 0x00#8, 0x4d#8, 0x00#8, 0x02#8, 0x00#8, 0x00#8, 0x00#8, 0x00#8, 0x00#8, 0x00#8, 0x00#8, 0x00#8, 0x00#8, 0x01#8, 0x68#8, 0x00#8, 0x05#8, 0x00#8, 0x00#8, 0x00#8, 0x00#8, 0x00#8, 0x00#8, 0x02#8, 0x05#8, 0x00#8, 0x00#8, 0x02#8, 0x60#8, 0x10#8, 0x02#8, 0x00#8, 0x00#8, 0x00#8, 0x00#8, 0x00#8, 0x00#8, 0x01#8, 0x05#8], staged := true, time := none, done := none, late := false, tree := [], commits := [], screens := [] } : TargetS), by decide +kernel⟩,
   ⟨(stateAt T17b.S17 0), 0, (frameAt T17b.F17 2), by decide +kernel⟩,
   ⟨(stateAt T17b.S17 6), 0, (frameAt T17b.F17 2), ({ id := 5, tag := 77, data := [0x5a#8, 0x43#8, 0x01#8, 0x00#8, 0x00#8, 0x4d#8, 0x00#8, 0x01#8, 0x00#8, 0x00#8, 0x00#8, 0x00#8, 0x00#8, 0x00#8, 0x00#8, 0x00#8, 0x00#8, 0x02#8, 0x20#8, 0x01#8, 0x01#8, 0x00#8, 0x00#8, 0x00#8, 0x00#8, 0x00#8, 0x00#8, 0x01#8, 0x05#8], targets := 6, phase := 1, start := 0, time := 1000000000, staged := [], armed := 6, applied := 0, differs := false } : ChangeS), by decide +kernel⟩,
   ⟨(stateAt T17b.S17 3), 0, (frameAt T17b.F17 2), ({ id := 5, tag := 77, data := [0x5a#8, 0x43#8, 0x01#8, 0x00#8, 0x00#8, 0x4d#8, 0x00#8, 0x01#8, 0x00#8, 0x00#8, 0x00#8, 0x00#8, 0x00#8, 0x00#8, 0x00#8, 0x00#8, 0x00#8, 0x02#8, 0x20#8, 0x01#8, 0x01#8, 0x00#8, 0x00#8, 0x00#8, 0x00#8, 0x00#8, 0x00#8, 0x01#8, 0x05#8], targets := 6, phase := 0, start := 0, time := 0, staged := [], armed := 0, applied := 0, differs := false } : ChangeS), by decide +kernel⟩,
   ⟨(stateAt T17b.S17 0), 0, (frameAt T17b.F17 4), by decide +kernel⟩,
   ⟨(stateAt T17b.S17 24), 0, (frameAt T17b.F17 4), ({ from' := 1, id := 5, data := [0x5a#8, 0x43#8, 0x01#8, 0x00#8, 0x00#8, 0x4d#8, 0x00#8, 0x02#8, 0x00#8, 0x00#8, 0x00#8, 0x00#8, 0x00#8, 0x00#8, 0x00#8, 0x00#8, 0x00#8, 0x01#8, 0x68#8, 0x00#8, 0x05#8, 0x00#8, 0x00#8, 0x00#8, 0x00#8, 0x00#8, 0x00#8, 0x02#8, 0x05#8, 0x00#8, 0x00#8, 0x02#8, 0x60#8, 0x10#8, 0x02#8, 0x00#8, 0x00#8, 0x00#8, 0x00#8, 0x00#8, 0x00#8, 0x01#8, 0x05#8], staged := true, time := none, done := none, late := false, tree := [], commits := [], screens := [] } : TargetS), by decide +kernel⟩,
   ⟨(stateAt T17b.S17 24), 0, (frameAt T17b.F17 5), ({ from' := 1, id := 5, data := [0x5a#8, 0x43#8, 0x01#8, 0x00#8, 0x00#8, 0x4d#8, 0x00#8, 0x02#8, 0x00#8, 0x00#8, 0x00#8, 0x00#8, 0x00#8, 0x00#8, 0x00#8, 0x00#8, 0x00#8, 0x01#8, 0x68#8, 0x00#8, 0x05#8, 0x00#8, 0x00#8, 0x00#8, 0x00#8, 0x00#8, 0x00#8, 0x02#8, 0x05#8, 0x00#8, 0x00#8, 0x02#8, 0x60#8, 0x10#8, 0x02#8, 0x00#8, 0x00#8, 0x00#8, 0x00#8, 0x00#8, 0x00#8, 0x01#8, 0x05#8], staged := true, time := none, done := none, late := false, tree := [], commits := [], screens := [] } : TargetS), by decide +kernel⟩,
   ⟨(stateAt T17b.S17 3), ({ id := 5, tag := 77, data := [0x5a#8, 0x43#8, 0x01#8, 0x00#8, 0x00#8, 0x4d#8, 0x00#8, 0x01#8, 0x00#8, 0x00#8, 0x00#8, 0x00#8, 0x00#8, 0x00#8, 0x00#8, 0x00#8, 0x00#8, 0x02#8, 0x20#8, 0x01#8, 0x01#8, 0x00#8, 0x00#8, 0x00#8, 0x00#8, 0x00#8, 0x00#8, 0x01#8, 0x05#8], targets := 6, phase := 0, start := 0, time := 0, staged := [], armed := 0, applied := 0, differs := false } : ChangeS), by decide +kernel⟩,
   ⟨(stateAt T17b.S17 12), ({ id := 5, tag := 77, data := [0x5a#8, 0x43#8, 0x01#8, 0x00#8, 0x00#8, 0x4d#8, 0x00#8, 0x01#8, 0x00#8, 0x00#8, 0x00#8, 0x00#8, 0x00#8, 0x00#8, 0x00#8, 0x00#8, 0x00#8, 0x02#8, 0x20#8, 0x01#8, 0x01#8, 0x00#8, 0x00#8, 0x00#8, 0x00#8, 0x00#8, 0x00#8, 0x01#8, 0x05#8], targets := 6, phase := 1, start := 0, time := 1000000, staged := [], armed := 2, applied := 0, differs := false } : ChangeS), by decide +kernel⟩,
   ⟨(stateAt T17b.S17 13), ({ id := 5, tag := 77, data := [0x5a#8, 0x43#8, 0x01#8, 0x00#8, 0x00#8, 0x4d#8, 0x00#8, 0x01#8, 0x00#8, 0x00#8, 0x00#8, 0x00#8, 0x00#8, 0x00#8, 0x00#8, 0x00#8, 0x00#8, 0x02#8, 0x20#8, 0x01#8, 0x01#8, 0x00#8, 0x00#8, 0x00#8, 0x00#8, 0x00#8, 0x00#8, 0x01#8, 0x05#8], targets := 6, phase := 1, start := 0, time := 1000000, staged := [], armed := 2, applied := 0, differs := false } : ChangeS), by decide +kernel⟩,
   ⟨(stateAt T17b.S17 7), ({ id := 5, tag := 77, data := [0x5a#8, 0x43#8, 0x01#8, 0x00#8, 0x00#8, 0x4d#8, 0x00#8, 0x01#8, 0x00#8, 0x00#8, 0x00#8, 0x00#8, 0x00#8, 0x00#8, 0x00#8, 0x00#8, 0x00#8, 0x02#8, 0x20#8, 0x01#8, 0x01#8, 0x00#8, 0x00#8, 0x00#8, 0x00#8, 0x00#8, 0x00#8, 0x01#8, 0x05#8], targets := 6, phase := 1, start := 0, time := 1000000000, staged := [], armed := 6, applied := 0, differs := false } : ChangeS), by decide +kernel⟩,
   ⟨(stateAt T17b.S17 3), ({ id := 5, tag := 77, data := [0x5a#8, 0x43#8, 0x01#8, 0x00#8, 0x00#8, 0x4d#8, 0x00#8, 0x01#8, 0x00#8, 0x00#8, 0x00#8, 0x00#8, 0x00#8, 0x00#8, 0x00#8, 0x00#8, 0x00#8, 0x02#8, 0x20#8, 0x01#8, 0x01#8, 0x00#8, 0x00#8, 0x00#8, 0x00#8, 0x00#8, 0x00#8, 0x01#8, 0x05#8], targets := 6, phase := 0, start := 0, time := 0, staged := [], armed := 0, applied := 0, differs := false } : ChangeS), by decide +kernel⟩⟩

/-- The hypotheses of ChangeSetsAreArmedAndApplied are met (part 2). -/
theorem witness_ChangeSetsAreArmedAndApplied_2 :
    (∃ (s : State), s.dictReady = false) ∧
    (∃ (s : State) (g : TargetS) (due : ℕ), s.sys.change = none ∧ s.dictReady = true ∧ s.sys.target = some g ∧ g.time = some due ∧ (s.nowNs < due ∨ g.done ≠ none)) ∧
    (∃ (s : State) (g : TargetS) (due : ℕ) (es : List ChEntry) (w : State), s.sys.change = none ∧ s.dictReady = true ∧ s.sys.target = some g ∧ g.time = some due ∧ due ≤ s.nowNs ∧ g.done = none ∧ parseChange g.data = some es ∧ (w = List.foldl (fun s_1 e => if e.isFor s.pkgId = true then ((s_1.imageEntry e).runEntry e).1 else s_1.imageEntry e) s es) ∧ w.sys.target ≠ none) ∧
    (∃ (s : State) (g : TargetS), s.sys.target = some g ∧ (g.done = none ∨ s.changeOver g = false)) ∧
    (∃ (s : State) (g : TargetS), s.sys.target = some g ∧ g.done ≠ none ∧ s.changeOver g = true ∧ s.power.fail = false) ∧
    (∃ (s : State) (g : TargetS), s.sys.target = some g ∧ g.done ≠ none ∧ s.changeOver g = true ∧ s.power.fail = true) ∧
    (∃ (s : State) (g : TargetS), s.sys.target = some g ∧ g.done ≠ none ∧ s.changeOver g = true ∧ s.isSelf g.from' = false) ∧
    (∃ (s : State) (q : ℕ) (x : SpWire), spIsOp (s.spFrame q x) 7 = true ∧ (s.receive q (s.spFrame q x)).2 = true ∧ bit (byteAt (s.spFrame q x).payload 4) 1 = true ∧ (s.receive q (s.spFrame q x)).1.supervisor = true) ∧
    (∃ (s : State) (q : ℕ) (x : SpWire), spIsOp (s.spFrame q x) 7 = true ∧ (s.receive q (s.spFrame q x)).2 = true ∧ bit (byteAt (s.spFrame q x).payload 4) 1 = true ∧ (s.receive q (s.spFrame q x)).1.supervisor = false) ∧
    (∃ (s : State) (q : ℕ) (x : SpWire), spIsOp (s.spFrame q x) 7 = true ∧ (s.receive q (s.spFrame q x)).2 = true ∧ bit (byteAt (s.spFrame q x).payload 4) 1 = false ∧ (s.receive q (s.spFrame q x)).1.sys.change = none) ∧
    (∃ (s : State) (q : ℕ) (x : SpWire) (c : ChangeS) (want : ℕ × List (ℕ × ℕ)) (bad : Bool), spIsOp (s.spFrame q x) 7 = true ∧ (s.receive q (s.spFrame q x)).2 = true ∧ bit (byteAt (s.spFrame q x).payload 4) 1 = false ∧ (s.receive q (s.spFrame q x)).1.sys.change = some c ∧ want = c.staged.at' (s.spFrame q x).src (0, []) ∧ bad = (c.differs || decide (want ≠ (fld (s.spFrame q x).payload 8 8, parseRoles 16 (List.drop 16 (s.spFrame q x).payload)))) ∧ (c.id ≠ fld (s.spFrame q x).payload 2 2 ∨ c.phase = 0 ∨ bit c.targets (s.spFrame q x).src = false ∨ bit c.applied (s.spFrame q x).src = true)) ∧
    (∃ (s : State) (q : ℕ) (x : SpWire) (c : ChangeS) (want : ℕ × List (ℕ × ℕ)) (bad : Bool), spIsOp (s.spFrame q x) 7 = true ∧ (s.receive q (s.spFrame q x)).2 = true ∧ bit (byteAt (s.spFrame q x).payload 4) 1 = false ∧ (s.receive q (s.spFrame q x)).1.sys.change = some c ∧ want = c.staged.at' (s.spFrame q x).src (0, []) ∧ bad = (c.differs || decide (want ≠ (fld (s.spFrame q x).payload 8 8, parseRoles 16 (List.drop 16 (s.spFrame q x).payload)))) ∧ c.id = fld (s.spFrame q x).payload 2 2 ∧ c.phase ≠ 0 ∧ bit c.targets (s.spFrame q x).src = true ∧ bit c.applied (s.spFrame q x).src = false ∧ (idsOf c.targets).all (bit (setBit c.applied (s.spFrame q x).src true)) = false) ∧
    (∃ (s : State) (q : ℕ) (x : SpWire) (c : ChangeS) (want : ℕ × List (ℕ × ℕ)) (bad : Bool), spIsOp (s.spFrame q x) 7 = true ∧ (s.receive q (s.spFrame q x)).2 = true ∧ bit (byteAt (s.spFrame q x).payload 4) 1 = false ∧ (s.receive q (s.spFrame q x)).1.sys.change = some c ∧ want = c.staged.at' (s.spFrame q x).src (0, []) ∧ bad = (c.differs || decide (want ≠ (fld (s.spFrame q x).payload 8 8, parseRoles 16 (List.drop 16 (s.spFrame q x).payload)))) ∧ c.id = fld (s.spFrame q x).payload 2 2 ∧ c.phase ≠ 0 ∧ bit c.targets (s.spFrame q x).src = true ∧ bit c.applied (s.spFrame q x).src = false ∧ (idsOf c.targets).all (bit (setBit c.applied (s.spFrame q x).src true)) = true) :=
  ⟨⟨(stateAt T17x.S17b 0), by decide +kernel⟩,
   ⟨(stateAt T17b.S17 30), ({ from' := 1, id := 5, data := [0x5a#8, 0x43#8, 0x01#8, 0x00#8, 0x00#8, 0x4d#8, 0x00#8, 0x02#8, 0x00#8, 0x00#8, 0x00#8, 0x00#8, 0x00#8, 0x00#8, 0x00#8, 0x00#8, 0x00#8, 0x01#8, 0x68#8, 0x00#8, 0x05#8, 0x00#8, 0x00#8, 0x00#8, 0x00#8, 0x00#8, 0x00#8, 0x02#8, 0x05#8, 0x00#8, 0x00#8, 0x02#8, 0x60#8, 0x10#8, 0x02#8, 0x00#8, 0x00#8, 0x00#8, 0x00#8, 0x00#8, 0x00#8, 0x01#8, 0x05#8], staged := true, time := some 7, done := none, late := false, tree := [], commits := [], screens := [] } : TargetS), 7, by decide +kernel⟩,
   ⟨(stateAt T17b.S17 31), ({ from' := 1, id := 5, data := [0x5a#8, 0x43#8, 0x01#8, 0x00#8, 0x00#8, 0x4d#8, 0x00#8, 0x02#8, 0x00#8, 0x00#8, 0x00#8, 0x00#8, 0x00#8, 0x00#8, 0x00#8, 0x00#8, 0x00#8, 0x01#8, 0x68#8, 0x00#8, 0x05#8, 0x00#8, 0x00#8, 0x00#8, 0x00#8, 0x00#8, 0x00#8, 0x02#8, 0x05#8, 0x00#8, 0x00#8, 0x02#8, 0x60#8, 0x10#8, 0x02#8, 0x00#8, 0x00#8, 0x00#8, 0x00#8, 0x00#8, 0x00#8, 0x01#8, 0x05#8], staged := true, time := some 7, done := none, late := false, tree := [], commits := [], screens := [] } : TargetS), 7, ([{ targets := 1, idx := 26624, sub := 5, data := [0x05#8, 0x00#8] }, { targets := 2, idx := 24592, sub := 2, data := [0x05#8] }] : List ChEntry), (stateAt T17b.S17 31), by decide +kernel⟩,
   ⟨(stateAt T17b.S17 24), ({ from' := 1, id := 5, data := [0x5a#8, 0x43#8, 0x01#8, 0x00#8, 0x00#8, 0x4d#8, 0x00#8, 0x02#8, 0x00#8, 0x00#8, 0x00#8, 0x00#8, 0x00#8, 0x00#8, 0x00#8, 0x00#8, 0x00#8, 0x01#8, 0x68#8, 0x00#8, 0x05#8, 0x00#8, 0x00#8, 0x00#8, 0x00#8, 0x00#8, 0x00#8, 0x02#8, 0x05#8, 0x00#8, 0x00#8, 0x02#8, 0x60#8, 0x10#8, 0x02#8, 0x00#8, 0x00#8, 0x00#8, 0x00#8, 0x00#8, 0x00#8, 0x01#8, 0x05#8], staged := true, time := none, done := none, late := false, tree := [], commits := [], screens := [] } : TargetS), by decide +kernel⟩,
   ⟨(stateAt T17b.S17 33), ({ from' := 1, id := 5, data := [0x5a#8, 0x43#8, 0x01#8, 0x00#8, 0x00#8, 0x4d#8, 0x00#8, 0x02#8, 0x00#8, 0x00#8, 0x00#8, 0x00#8, 0x00#8, 0x00#8, 0x00#8, 0x00#8, 0x00#8, 0x01#8, 0x68#8, 0x00#8, 0x05#8, 0x00#8, 0x00#8, 0x00#8, 0x00#8, 0x00#8, 0x00#8, 0x02#8, 0x05#8, 0x00#8, 0x00#8, 0x02#8, 0x60#8, 0x10#8, 0x02#8, 0x00#8, 0x00#8, 0x00#8, 0x00#8, 0x00#8, 0x00#8, 0x01#8, 0x05#8], staged := true, time := some 7, done := some 0, late := false, tree := [], commits := [], screens := [] } : TargetS), by decide +kernel⟩,
   ⟨(stateAt T17b.S17 35), ({ from' := 1, id := 5, data := [0x5a#8, 0x43#8, 0x01#8, 0x00#8, 0x00#8, 0x4d#8, 0x00#8, 0x02#8, 0x00#8, 0x00#8, 0x00#8, 0x00#8, 0x00#8, 0x00#8, 0x00#8, 0x00#8, 0x00#8, 0x01#8, 0x68#8, 0x00#8, 0x05#8, 0x00#8, 0x00#8, 0x00#8, 0x00#8, 0x00#8, 0x00#8, 0x02#8, 0x05#8, 0x00#8, 0x00#8, 0x02#8, 0x60#8, 0x10#8, 0x02#8, 0x00#8, 0x00#8, 0x00#8, 0x00#8, 0x00#8, 0x00#8, 0x01#8, 0x05#8], staged := true, time := some 7, done := some 0, late := false, tree := [], commits := [], screens := [] } : TargetS), by decide +kernel⟩,
   ⟨(stateAt T17b.S17 33), ({ from' := 1, id := 5, data := [0x5a#8, 0x43#8, 0x01#8, 0x00#8, 0x00#8, 0x4d#8, 0x00#8, 0x02#8, 0x00#8, 0x00#8, 0x00#8, 0x00#8, 0x00#8, 0x00#8, 0x00#8, 0x00#8, 0x00#8, 0x01#8, 0x68#8, 0x00#8, 0x05#8, 0x00#8, 0x00#8, 0x00#8, 0x00#8, 0x00#8, 0x00#8, 0x02#8, 0x05#8, 0x00#8, 0x00#8, 0x02#8, 0x60#8, 0x10#8, 0x02#8, 0x00#8, 0x00#8, 0x00#8, 0x00#8, 0x00#8, 0x00#8, 0x01#8, 0x05#8], staged := true, time := some 7, done := some 0, late := false, tree := [], commits := [], screens := [] } : TargetS), by decide +kernel⟩,
   ⟨(stateAt T17b.S17 0), 0, (frameAt T17b.F17 8), by decide +kernel⟩,
   ⟨(stateAt T17b.S17 42), 0, (frameAt T17b.F17 8), by decide +kernel⟩,
   ⟨(stateAt T17b.S17 0), 0, (frameAt T17b.F17 6), by decide +kernel⟩,
   ⟨(stateAt T17b.S17 3), 0, (frameAt T17b.F17 6), ({ id := 5, tag := 77, data := [0x5a#8, 0x43#8, 0x01#8, 0x00#8, 0x00#8, 0x4d#8, 0x00#8, 0x01#8, 0x00#8, 0x00#8, 0x00#8, 0x00#8, 0x00#8, 0x00#8, 0x00#8, 0x00#8, 0x00#8, 0x02#8, 0x20#8, 0x01#8, 0x01#8, 0x00#8, 0x00#8, 0x00#8, 0x00#8, 0x00#8, 0x00#8, 0x01#8, 0x05#8], targets := 6, phase := 0, start := 0, time := 0, staged := [], armed := 0, applied := 0, differs := false } : ChangeS), (0, []), true, by decide +kernel⟩,
   ⟨(stateAt T17b.S17 6), 0, (frameAt T17b.F17 6), ({ id := 5, tag := 77, data := [0x5a#8, 0x43#8, 0x01#8, 0x00#8, 0x00#8, 0x4d#8, 0x00#8, 0x01#8, 0x00#8, 0x00#8, 0x00#8, 0x00#8, 0x00#8, 0x00#8, 0x00#8, 0x00#8, 0x00#8, 0x02#8, 0x20#8, 0x01#8, 0x01#8, 0x00#8, 0x00#8, 0x00#8, 0x00#8, 0x00#8, 0x00#8, 0x01#8, 0x05#8], targets := 6, phase := 1, start := 0, time := 1000000000, staged := [], armed := 6, applied := 0, differs := false } : ChangeS), (0, []), true, by decide +kernel⟩,
   ⟨(stateAt T17b.S17 15), 0, (frameAt T17b.F17 6), ({ id := 5, tag := 77, data := [0x5a#8, 0x43#8, 0x01#8, 0x00#8, 0x00#8, 0x4d#8, 0x00#8, 0x01#8, 0x00#8, 0x00#8, 0x00#8, 0x00#8, 0x00#8, 0x00#8, 0x00#8, 0x00#8, 0x00#8, 0x02#8, 0x20#8, 0x01#8, 0x01#8, 0x00#8, 0x00#8, 0x00#8, 0x00#8, 0x00#8, 0x00#8, 0x01#8, 0x05#8], targets := 6, phase := 2, start := 0, time := 0, staged := [(1, 3, [])], armed := 6, applied := 4, differs := false } : ChangeS), (3, []), false, by decide +kernel⟩⟩

/-- The hypotheses of UpdateCommandsFollowTheTable are met (part 1). -/
theorem witness_UpdateCommandsFollowTheTable_1 :
    (∃ (s : State) (r : Req), s.takes r = true ∧ s.power.quietWait = false ∧ s.upd.owner = none) ∧
    (∃ (s : State) (r : Req) (o : Req), s.takes r = true ∧ s.power.quietWait = false ∧ s.upd.owner = some o ∧ o ≠ r) ∧
    (∃ (s : State) (r : Req), s.takes r = true ∧ s.power.quietWait = false ∧ s.upd.owner ≠ some r ∧ Instr.updateClose 0 r ∈ [Instr.updateClose 0 r, Instr.updateFinish 0 r, Instr.updateActivate 0 r, Instr.updateConfirm 0 r, Instr.updateFallBack 0 r, Instr.updateAbandon 0 r, Instr.updateRevokeKey 0 r]) ∧
    (∃ (s : State) (r : Req), s.takes r = true ∧ s.power.quietWait = false ∧ s.upd.owner ≠ some r ∧ Instr.updateFinish 0 r ∈ [Instr.updateClose 0 r, Instr.updateFinish 0 r, Instr.updateActivate 0 r, Instr.updateConfirm 0 r, Instr.updateFallBack 0 r, Instr.updateAbandon 0 r, Instr.updateRevokeKey 0 r]) ∧
    (∃ (s : State) (r : Req), s.takes r = true ∧ s.power.quietWait = false ∧ s.upd.owner ≠ some r ∧ Instr.updateActivate 0 r ∈ [Instr.updateClose 0 r, Instr.updateFinish 0 r, Instr.updateActivate 0 r, Instr.updateConfirm 0 r, Instr.updateFallBack 0 r, Instr.updateAbandon 0 r, Instr.updateRevokeKey 0 r]) ∧
    (∃ (s : State) (r : Req), s.takes r = true ∧ s.power.quietWait = false ∧ s.upd.owner ≠ some r ∧ Instr.updateConfirm 0 r ∈ [Instr.updateClose 0 r, Instr.updateFinish 0 r, Instr.updateActivate 0 r, Instr.updateConfirm 0 r, Instr.updateFallBack 0 r, Instr.updateAbandon 0 r, Instr.updateRevokeKey 0 r]) ∧
    (∃ (s : State) (r : Req), s.takes r = true ∧ s.power.quietWait = false ∧ s.upd.owner ≠ some r ∧ Instr.updateFallBack 0 r ∈ [Instr.updateClose 0 r, Instr.updateFinish 0 r, Instr.updateActivate 0 r, Instr.updateConfirm 0 r, Instr.updateFallBack 0 r, Instr.updateAbandon 0 r, Instr.updateRevokeKey 0 r]) ∧
    (∃ (s : State) (r : Req), s.takes r = true ∧ s.power.quietWait = false ∧ s.upd.owner ≠ some r ∧ Instr.updateAbandon 0 r ∈ [Instr.updateClose 0 r, Instr.updateFinish 0 r, Instr.updateActivate 0 r, Instr.updateConfirm 0 r, Instr.updateFallBack 0 r, Instr.updateAbandon 0 r, Instr.updateRevokeKey 0 r]) ∧
    (∃ (s : State) (r : Req), s.takes r = true ∧ s.power.quietWait = false ∧ s.upd.owner ≠ some r ∧ Instr.updateRevokeKey 0 r ∈ [Instr.updateClose 0 r, Instr.updateFinish 0 r, Instr.updateActivate 0 r, Instr.updateConfirm 0 r, Instr.updateFallBack 0 r, Instr.updateAbandon 0 r, Instr.updateRevokeKey 0 r]) ∧
    (∃ (s : State) (r : Req), s.takes r = true ∧ s.power.quietWait = false ∧ s.upd.owner = some r ∧ (s.updState ≠ updTrial ∨ s.upd.converted = false)) :=
  ⟨⟨(stateAt T18.S18 0), Sys2Proof.Req.mailbox 3, by decide +kernel⟩,
   ⟨(stateAt T18.S18 270), Sys2Proof.Req.mailbox 3, Sys2Proof.Req.can 0, by decide +kernel⟩,
   ⟨(stateAt T18.S18 0), Sys2Proof.Req.mailbox 3, by decide +kernel⟩,
   ⟨(stateAt T18.S18 0), Sys2Proof.Req.mailbox 3, by decide +kernel⟩,
   ⟨(stateAt T18.S18 0), Sys2Proof.Req.mailbox 3, by decide +kernel⟩,
   ⟨(stateAt T18.S18 0), Sys2Proof.Req.mailbox 3, by decide +kernel⟩,
   ⟨(stateAt T18.S18 0), Sys2Proof.Req.mailbox 3, by decide +kernel⟩,
   ⟨(stateAt T18.S18 0), Sys2Proof.Req.mailbox 3, by decide +kernel⟩,
   ⟨(stateAt T18.S18 0), Sys2Proof.Req.mailbox 3, by decide +kernel⟩,
   ⟨(stateAt T18.S18 135), Sys2Proof.Req.mailbox 3, by decide +kernel⟩⟩

/-- The hypotheses of UpdateCommandsFollowTheTable are met (part 2). -/
theorem witness_UpdateCommandsFollowTheTable_2 :
    (∃ (s : State) (r : Req), s.takes r = true ∧ s.power.quietWait = false ∧ s.upd.owner = some r ∧ s.updState ≠ updTrial) ∧
    (∃ (s : State) (r : Req), s.takes r = true ∧ s.power.quietWait = false ∧ s.upd.owner = some r ∧ s.updState ≠ updDownloading ∧ s.updState ≠ updVerifying ∧ s.updState ≠ updStaged) ∧
    (∃ (s : State) (r : Req), s.takes r = true ∧ s.power.quietWait = false ∧ s.upd.owner = some r ∧ (s.keyValid (s.rn 9216 14) = false ∨ s.slotKey s.upd.slot = s.rn 9216 14 ∨ (s.flash.boot.slot s.inactive = slotStaged ∨ s.flash.boot.slot s.inactive = slotTrial) ∧ s.slotKey s.inactive = s.rn 9216 14 ∨ ∀ j < 4, j ≠ s.rn 9216 14 → s.keyValid j = false)) ∧
    (∃ (s : State) (r : Req) (own : Option Req), s.takes r = true ∧ s.power.quietWait = false ∧ s.upd.owner = some r ∧ own = none ∧ (s.updState = updDownloading ∨ s.updState = updVerifying) ∧ s.power.fail = false) ∧
    (∃ (s : State) (r : Req) (own : Option Req), s.takes r = true ∧ s.power.quietWait = false ∧ s.upd.owner = some r ∧ own = none ∧ (s.updState = updDownloading ∨ s.updState = updVerifying) ∧ s.power.fail = true) ∧
    (∃ (s : State) (r : Req) (own : Option Req), s.takes r = true ∧ s.power.quietWait = false ∧ s.upd.owner = some r ∧ own = some r ∧ (s.updState = updDownloading ∨ s.updState = updVerifying ∨ s.updState = updStaged) ∧ s.power.fail = false) ∧
    (∃ (s : State) (r : Req) (own : Option Req), s.takes r = true ∧ s.power.quietWait = false ∧ s.upd.owner = some r ∧ own = some r ∧ (s.updState = updDownloading ∨ s.updState = updVerifying ∨ s.updState = updStaged) ∧ s.power.fail = true) ∧
    (∃ (s : State) (r : Req) (new : ℕ) (boot : BootS), s.takes r = true ∧ s.power.quietWait = false ∧ s.upd.owner = some r ∧ s.updState = updStaged ∧ new = updActivating ∧ boot = { seq := (s.flash.boot.withSlot s.inactive slotTrial).seq, slotA := (s.flash.boot.withSlot s.inactive slotTrial).slotA, slotB := (s.flash.boot.withSlot s.inactive slotTrial).slotB, active := (s.flash.boot.withSlot s.inactive slotTrial).active, store := (s.flash.boot.withSlot s.inactive slotTrial).store, oldHeld := true, result := (s.flash.boot.withSlot s.inactive slotTrial).result, cause := (s.flash.boot.withSlot s.inactive slotTrial).cause, window := s.rn 9216 11, lenA := (s.flash.boot.withSlot s.inactive slotTrial).lenA, lenB := (s.flash.boot.withSlot s.inactive slotTrial).lenB } ∧ s.power.fail = false) ∧
    (∃ (s : State) (r : Req) (new : ℕ) (boot : BootS), s.takes r = true ∧ s.power.quietWait = false ∧ s.upd.owner = some r ∧ s.updState = updStaged ∧ new = updActivating ∧ boot = { seq := (s.flash.boot.withSlot s.inactive slotTrial).seq, slotA := (s.flash.boot.withSlot s.inactive slotTrial).slotA, slotB := (s.flash.boot.withSlot s.inactive slotTrial).slotB, active := (s.flash.boot.withSlot s.inactive slotTrial).active, store := (s.flash.boot.withSlot s.inactive slotTrial).store, oldHeld := true, result := (s.flash.boot.withSlot s.inactive slotTrial).result, cause := (s.flash.boot.withSlot s.inactive slotTrial).cause, window := s.rn 9216 11, lenA := (s.flash.boot.withSlot s.inactive slotTrial).lenA, lenB := (s.flash.boot.withSlot s.inactive slotTrial).lenB } ∧ s.power.fail = true) ∧
    (∃ (s : State) (r : Req) (new : ℕ) (boot : BootS), s.takes r = true ∧ s.power.quietWait = false ∧ s.upd.owner = some r ∧ s.updState = updTrial ∧ new = updStaged ∧ boot = { seq := ((s.flash.boot.withSlot s.inactive slotStaged).outcome 2 1).seq, slotA := ((s.flash.boot.withSlot s.inactive slotStaged).outcome 2 1).slotA, slotB := ((s.flash.boot.withSlot s.inactive slotStaged).outcome 2 1).slotB, active := ((s.flash.boot.withSlot s.inactive slotStaged).outcome 2 1).active, store := ((s.flash.boot.withSlot s.inactive slotStaged).outcome 2 1).store, result := ((s.flash.boot.withSlot s.inactive slotStaged).outcome 2 1).result, cause := ((s.flash.boot.withSlot s.inactive slotStaged).outcome 2 1).cause, window := ((s.flash.boot.withSlot s.inactive slotStaged).outcome 2 1).window, lenA := ((s.flash.boot.withSlot s.inactive slotStaged).outcome 2 1).lenA, lenB := ((s.flash.boot.withSlot s.inactive slotStaged).outcome 2 1).lenB } ∧ s.power.fail = false) :=
  ⟨⟨(stateAt T18.S18 135), Sys2Proof.Req.mailbox 3, by decide +kernel⟩,
   ⟨(stateAt T18.S18 135), Sys2Proof.Req.mailbox 3, by decide +kernel⟩,
   ⟨(stateAt T18.S18 135), Sys2Proof.Req.mailbox 3, by decide +kernel⟩,
   ⟨(stateAt T18.S18 162), Sys2Proof.Req.mailbox 3, none, by decide +kernel⟩,
   ⟨(stateAt T18.S18 165), Sys2Proof.Req.mailbox 3, none, by decide +kernel⟩,
   ⟨(stateAt T18.S18 162), Sys2Proof.Req.mailbox 3, some (Sys2Proof.Req.mailbox 3), by decide +kernel⟩,
   ⟨(stateAt T18.S18 165), Sys2Proof.Req.mailbox 3, some (Sys2Proof.Req.mailbox 3), by decide +kernel⟩,
   ⟨(stateAt T18.S18 216), Sys2Proof.Req.mailbox 3, 4, ({ seq := 1, slotA := 4, slotB := 3, active := 0, booted := false, store := 0, oldHeld := true, result := 0, cause := 0, window := 600, lenA := 0, lenB := 0 } : BootS), by decide +kernel⟩,
   ⟨(stateAt T18.S18 219), Sys2Proof.Req.mailbox 3, 4, ({ seq := 1, slotA := 4, slotB := 3, active := 0, booted := false, store := 0, oldHeld := true, result := 0, cause := 0, window := 600, lenA := 0, lenB := 0 } : BootS), by decide +kernel⟩,
   ⟨(stateAt T18.S18 243), Sys2Proof.Req.mailbox 3, 3, ({ seq := 1, slotA := 4, slotB := 2, active := 0, booted := false, store := 0, oldHeld := false, result := 2, cause := 1, window := 600, lenA := 0, lenB := 0 } : BootS), by decide +kernel⟩⟩

/-- The hypotheses of UpdateCommandsFollowTheTable are met (part 3). -/
theorem witness_UpdateCommandsFollowTheTable_3 :
    (∃ (s : State) (r : Req) (new : ℕ) (boot : BootS), s.takes r = true ∧ s.power.quietWait = false ∧ s.upd.owner = some r ∧ s.updState = updTrial ∧ new = updStaged ∧ boot = { seq := ((s.flash.boot.withSlot s.inactive slotStaged).outcome 2 1).seq, slotA := ((s.flash.boot.withSlot s.inactive slotStaged).outcome 2 1).slotA, slotB := ((s.flash.boot.withSlot s.inactive slotStaged).outcome 2 1).slotB, active := ((s.flash.boot.withSlot s.inactive slotStaged).outcome 2 1).active, store := ((s.flash.boot.withSlot s.inactive slotStaged).outcome 2 1).store, result := ((s.flash.boot.withSlot s.inactive slotStaged).outcome 2 1).result, cause := ((s.flash.boot.withSlot s.inactive slotStaged).outcome 2 1).cause, window := ((s.flash.boot.withSlot s.inactive slotStaged).outcome 2 1).window, lenA := ((s.flash.boot.withSlot s.inactive slotStaged).outcome 2 1).lenA, lenB := ((s.flash.boot.withSlot s.inactive slotStaged).outcome 2 1).lenB } ∧ s.power.fail = true) ∧
    (∃ (s : State) (r : Req), s.takes r = true ∧ s.power.quietWait = false ∧ s.upd.owner = some r ∧ s.updState = updTrial ∧ s.upd.converted = true ∧ s.power.fail = false) ∧
    (∃ (s : State) (r : Req), s.takes r = true ∧ s.power.quietWait = false ∧ s.upd.owner = some r ∧ s.updState = updTrial ∧ s.upd.converted = true ∧ s.power.fail = true) ∧
    (∃ (s : State) (r : Req) (x : ℕ), s.takes r = true ∧ s.power.quietWait = false ∧ s.upd.owner = some r ∧ x = s.rn 9216 14 ∧ s.keyValid x = true ∧ s.slotKey s.upd.slot ≠ x ∧ (¬((s.flash.boot.slot s.inactive = slotStaged ∨ s.flash.boot.slot s.inactive = slotTrial) ∧ s.slotKey s.inactive = x)) ∧ (∃ j < 4, j ≠ x ∧ s.keyValid j = true)) ∧
    (∃ (s : State) (r : Req) (data : List Byte) (off : ℕ) (d : List Byte) (next : ℕ), s.takes r = true ∧ s.power.quietWait = false ∧ 5 ≤ data.length ∧ data.length ≤ 65540 ∧ off = beNat (List.take 4 data) ∧ d = List.drop 4 data ∧ next = s.rn 9216 4 ∧ s.upd.owner ≠ some r) ∧
    (∃ (s : State) (r : Req) (data : List Byte) (off : ℕ) (d : List Byte) (next : ℕ), s.takes r = true ∧ s.power.quietWait = false ∧ 5 ≤ data.length ∧ data.length ≤ 65540 ∧ off = beNat (List.take 4 data) ∧ d = List.drop 4 data ∧ next = s.rn 9216 4 ∧ s.upd.owner = some r ∧ s.upd.prev = some (off, d)) ∧
    (∃ (s : State) (r : Req) (data : List Byte) (off : ℕ) (d : List Byte) (next : ℕ), s.takes r = true ∧ s.power.quietWait = false ∧ 5 ≤ data.length ∧ data.length ≤ 65540 ∧ off = beNat (List.take 4 data) ∧ d = List.drop 4 data ∧ next = s.rn 9216 4 ∧ s.upd.owner = some r ∧ s.upd.prev ≠ some (off, d) ∧ (off ≠ next ∨ slotSize < next + d.length ∨ ¬(s.updState = updDownloading ∨ (s.updState = updIdle ∨ s.updState = updStaged) ∧ off = 0))) ∧
    (∃ (s : State) (r : Req) (data : List Byte) (off : ℕ) (d : List Byte) (next : ℕ), s.takes r = true ∧ s.power.quietWait = false ∧ 5 ≤ data.length ∧ data.length ≤ 65540 ∧ off = beNat (List.take 4 data) ∧ d = List.drop 4 data ∧ next = s.rn 9216 4 ∧ s.upd.owner = some r ∧ s.upd.prev ≠ some (off, d) ∧ off = next ∧ next + d.length ≤ slotSize ∧ (s.updState = updDownloading ∨ (s.updState = updIdle ∨ s.updState = updStaged) ∧ off = 0) ∧ 4 ≤ s.upd.chunks.length) ∧
    (∃ (s : State) (r : Req) (data : List Byte) (off : ℕ) (d : List Byte) (next : ℕ), s.takes r = true ∧ s.power.quietWait = false ∧ 5 ≤ data.length ∧ data.length ≤ 65540 ∧ off = beNat (List.take 4 data) ∧ d = List.drop 4 data ∧ next = s.rn 9216 4 ∧ s.upd.owner = some r ∧ s.upd.prev ≠ some (off, d) ∧ off = next ∧ next + d.length ≤ slotSize ∧ (s.updState = updDownloading ∨ (s.updState = updIdle ∨ s.updState = updStaged) ∧ off = 0) ∧ s.upd.chunks.length < 4 ∧ s.updState = updDownloading) ∧
    (∃ (s : State) (r : Req) (data : List Byte) (off : ℕ) (d : List Byte) (next : ℕ), s.takes r = true ∧ s.power.quietWait = false ∧ 5 ≤ data.length ∧ data.length ≤ 65540 ∧ off = beNat (List.take 4 data) ∧ d = List.drop 4 data ∧ next = s.rn 9216 4 ∧ s.upd.owner = some r ∧ s.upd.prev ≠ some (off, d) ∧ off = next ∧ next + d.length ≤ slotSize ∧ (s.updState = updDownloading ∨ (s.updState = updIdle ∨ s.updState = updStaged) ∧ off = 0) ∧ s.upd.chunks.length < 4 ∧ s.updState ≠ updDownloading ∧ s.power.fail = false) :=
  ⟨⟨(stateAt T18.S18 246), Sys2Proof.Req.mailbox 3, 3, ({ seq := 1, slotA := 4, slotB := 2, active := 0, booted := false, store := 0, oldHeld := false, result := 2, cause := 1, window := 600, lenA := 0, lenB := 0 } : BootS), by decide +kernel⟩,
   ⟨(stateAt T18.S18 252), Sys2Proof.Req.mailbox 3, by decide +kernel⟩,
   ⟨(stateAt T18.S18 255), Sys2Proof.Req.mailbox 3, by decide +kernel⟩,
   ⟨(stateAt T18.S18 137), Sys2Proof.Req.mailbox 3, 2, by decide +kernel⟩,
   ⟨(stateAt T18.S18 0), Sys2Proof.Req.mailbox 3, [0x00#8, 0x00#8, 0x00#8, 0x00#8, 0x09#8], 0, [0x09#8], 0, by decide +kernel⟩,
   ⟨(stateAt T18.S18 144), Sys2Proof.Req.mailbox 3, [0x00#8, 0x00#8, 0x00#8, 0x00#8, 0x09#8], 0, [0x09#8], 0, by decide +kernel⟩,
   ⟨(stateAt T18.S18 135), Sys2Proof.Req.mailbox 3, [0x00#8, 0x00#8, 0x00#8, 0x03#8, 0x01#8, 0x02#8], 3, [0x01#8, 0x02#8], 0, by decide +kernel⟩,
   ⟨(stateAt T18.S18 180), Sys2Proof.Req.mailbox 3, [0x00#8, 0x00#8, 0x00#8, 0x03#8, 0x01#8, 0x02#8], 3, [0x01#8, 0x02#8], 3, by decide +kernel⟩,
   ⟨(stateAt T18.S18 162), Sys2Proof.Req.mailbox 3, [0x00#8, 0x00#8, 0x00#8, 0x00#8, 0x09#8], 0, [0x09#8], 0, by decide +kernel⟩,
   ⟨(stateAt T18.S18 135), Sys2Proof.Req.mailbox 3, [0x00#8, 0x00#8, 0x00#8, 0x00#8, 0x09#8], 0, [0x09#8], 0, by decide +kernel⟩⟩

/-- The hypotheses of UpdatesVerifyTryAndFallBack are met (part 1). -/
theorem witness_UpdatesVerifyTryAndFallBack_1 :
    (∃ (s : State), (s.upd.chunks = [] ∨ s.power.fail = true)) ∧
    (∃ (s : State) (d : List Byte) (l : List (List Byte)), (s.upd.chunks = d :: l) ∧ s.power.fail = false) ∧
    (∃ (s : State), (s.updState ≠ updVerifying ∨ s.upd.chunks ≠ [] ∨ s.power.fail = true)) ∧
    (∃ (s : State) (wrong : List (ℕ × Byte)) (c : ℕ), c = s.imageCause (slotRead (s.slotBytes s.inactive) wrong) ∧ s.updState = updVerifying ∧ s.upd.chunks = [] ∧ s.power.fail = false ∧ s.power.quietWait = false ∧ c ≠ 0) ∧
    (∃ (s : State) (wrong : List (ℕ × Byte)) (c : ℕ), c = s.imageCause (slotRead (s.slotBytes s.inactive) wrong) ∧ s.updState = updVerifying ∧ s.upd.chunks = [] ∧ s.power.fail = false ∧ s.power.quietWait = false ∧ c = 0) ∧
    (∃ (s : State), (s.upd.owner = none ∨ s.clock < s.upd.last + 120 * sTicks) ∧ s.power.quietWait = false) ∧
    (∃ (s : State), s.upd.owner ≠ none ∧ s.upd.last + 120 * sTicks ≤ s.clock ∧ s.power.quietWait = false ∧ s.updState ≠ updDownloading ∧ s.updState ≠ updVerifying) ∧
    (∃ (s : State), s.upd.owner ≠ none ∧ s.upd.last + 120 * sTicks ≤ s.clock ∧ s.power.quietWait = false ∧ (s.updState = updDownloading ∨ s.updState = updVerifying)) ∧
    (∃ (s : State), (s.upd.trialAt = none ∨ s.updState ≠ updTrial)) ∧
    (∃ (s : State) (a : ℕ), s.upd.trialAt = some a ∧ s.clock < a + s.flash.boot.window * sTicks) ∧
    (∃ (s : State) (a : ℕ), s.upd.trialAt = some a ∧ s.updState = updTrial ∧ a + s.flash.boot.window * sTicks ≤ s.clock ∧ s.power.fail = false) ∧
    (∃ (s : State), (s.updState ≠ updTrial ∨ s.upd.converted = true ∨ s.power.fail = true ∨ s.loaded = false)) :=
  ⟨⟨(stateAt T18b.S18b 0), by decide +kernel⟩,
   ⟨(stateAt T18b.S18b 9), [0x01#8], [[0x02#8]], by decide +kernel⟩,
   ⟨(stateAt T18b.S18b 0), by decide +kernel⟩,
   ⟨(stateAt T18b.S18b 72), [], 7, by decide +kernel⟩,
   ⟨(stateAt T18c.S18b 0), [], 0, by decide +kernel⟩,
   ⟨(stateAt T18b.S18b 0), by decide +kernel⟩,
   ⟨(stateAt T18b.S18b 360), by decide +kernel⟩,
   ⟨(stateAt T18b.S18b 396), by decide +kernel⟩,
   ⟨(stateAt T18b.S18b 0), by decide +kernel⟩,
   ⟨(stateAt T18b.S18b 27), 7, by decide +kernel⟩,
   ⟨(stateAt T18b.S18b 531), 7, by decide +kernel⟩,
   ⟨(stateAt T18b.S18b 0), by decide +kernel⟩⟩

/-- The hypotheses of UpdatesVerifyTryAndFallBack are met (part 2). -/
theorem witness_UpdatesVerifyTryAndFallBack_2 :
    (∃ (s : State), s.updState = updTrial ∧ s.upd.converted = false ∧ s.power.fail = false ∧ s.loaded = true) ∧
    (∃ (s : State), (s.updState ≠ updTrial ∨ s.upd.trialAt ≠ none ∨ s.clock < s.upd.since + 5 * sTicks)) ∧
    (∃ (s : State), s.updState = updTrial ∧ s.upd.trialAt = none ∧ s.upd.since + 5 * sTicks ≤ s.clock ∧ s.free' = true) ∧
    (∃ (s : State), (s.upd.rom = false ∨ s.power.phase ≠ Phase.booting)) ∧
    (∃ (s : State) (verdict : ℕ) (j : ℕ) (c : ℕ) (x : ℕ), s.upd.rom = true ∧ s.power.phase = Phase.booting ∧ s.flash.boot.active ≤ 1 ∧ s.flash.findRecord = s.flash ∧ (j = if s.flash.boot.slot s.inactive = slotTrial ∧ s.flash.boot.booted = false then s.inactive else s.flash.boot.active) ∧ c = s.romVerdict j verdict ∧ x ≠ slotTrial ∧ x ≠ slotPartial ∧ s.flash.boot.slot s.inactive = x ∧ c = 0 ∧ s.updState ≠ updTrial) ∧
    (∃ (s : State) (verdict : ℕ) (j : ℕ) (c : ℕ) (x : ℕ), s.upd.rom = true ∧ s.power.phase = Phase.booting ∧ s.flash.boot.active ≤ 1 ∧ s.flash.findRecord = s.flash ∧ (j = if s.flash.boot.slot s.inactive = slotTrial ∧ s.flash.boot.booted = false then s.inactive else s.flash.boot.active) ∧ c = s.romVerdict j verdict ∧ x ≠ slotTrial ∧ x ≠ slotPartial ∧ s.flash.boot.slot s.inactive = x ∧ c ≠ 0) ∧
    (∃ (s : State) (verdict : ℕ) (j : ℕ) (c : ℕ), s.upd.rom = true ∧ s.power.phase = Phase.booting ∧ s.flash.boot.active ≤ 1 ∧ s.flash.findRecord = s.flash ∧ (j = if s.flash.boot.slot s.inactive = slotTrial ∧ s.flash.boot.booted = false then s.inactive else s.flash.boot.active) ∧ c = s.romVerdict j verdict ∧ s.flash.boot.slot s.inactive = slotTrial ∧ s.flash.boot.booted = false ∧ c = 0 ∧ s.power.fail = false) ∧
    (∃ (s : State) (verdict : ℕ) (j : ℕ) (c : ℕ), s.upd.rom = true ∧ s.power.phase = Phase.booting ∧ s.flash.boot.active ≤ 1 ∧ s.flash.findRecord = s.flash ∧ (j = if s.flash.boot.slot s.inactive = slotTrial ∧ s.flash.boot.booted = false then s.inactive else s.flash.boot.active) ∧ c = s.romVerdict j verdict ∧ s.flash.boot.slot s.inactive = slotTrial ∧ s.flash.boot.booted = false ∧ c ≠ 0 ∧ s.power.fail = false) ∧
    (∃ (s : State) (verdict : ℕ) (j : ℕ) (c : ℕ) (f : ℕ), s.upd.rom = true ∧ s.power.phase = Phase.booting ∧ s.flash.boot.active ≤ 1 ∧ s.flash.findRecord = s.flash ∧ (j = if s.flash.boot.slot s.inactive = slotTrial ∧ s.flash.boot.booted = false then s.inactive else s.flash.boot.active) ∧ c = s.romVerdict j verdict ∧ f < 14 ∧ (s.unit (coreKey f)).st = 0) ∧
    (∃ (s : State) (j : ℕ), s.slotBytes j = []) ∧
    (∃ (s : State) (j : ℕ) (given : ℕ), s.slotBytes j ≠ [] ∧ given ≠ 6 ∧ s.keyValid (s.slotKey j) = false) ∧
    (∃ (s : State) (j : ℕ) (given : ℕ), s.slotBytes j ≠ [] ∧ given ≠ 6 ∧ s.keyValid (s.slotKey j) = true) :=
  ⟨⟨(stateAt T18b.S18b 144), by decide +kernel⟩,
   ⟨(stateAt T18b.S18b 0), by decide +kernel⟩,
   ⟨(stateAt T18b.S18b 504), by decide +kernel⟩,
   ⟨(stateAt T18b.S18b 0), by decide +kernel⟩,
   ⟨(stateAt T18b.S18b 3), 0, 0, 0, 0, by decide +kernel⟩,
   ⟨(stateAt T18b.S18b 3), 5, 0, 5, 0, by decide +kernel⟩,
   ⟨(stateAt T18b.S18b 147), 0, 1, 0, by decide +kernel⟩,
   ⟨(stateAt T18b.S18b 147), 5, 1, 5, by decide +kernel⟩,
   ⟨(stateAt T18b.S18b 3), 0, 0, 0, 0, by decide +kernel⟩,
   ⟨(stateAt T18b.S18b 0), 0, by decide +kernel⟩,
   ⟨(stateAt T18b.S18b 6), 0, 0, by decide +kernel⟩,
   ⟨(stateAt T18c.S18b 1), 0, 0, by decide +kernel⟩⟩

/-- The hypotheses of BootRecordsReadBack are met. -/
theorem witness_BootRecordsReadBack :
    (∃ b : BootS, b.seq < 2 ^ 32 ∧ b.slotA ≤ 4 ∧ b.slotB ≤ 4 ∧ b.active ≤ 1 ∧ b.store ≤ 1 ∧ b.result < 256 ∧ b.cause < 256 ∧
      b.window < 2 ^ 32 ∧ b.lenA < 2 ^ 32 ∧ b.lenB < 2 ^ 32) ∧
    (∃ p : List Byte, p.length ≠ 256) ∧
    (∃ p : List Byte, p.length = 256 ∧ leNat (p.take 4) ≠ 0x5A424F54) ∧
    (∃ p : List Byte, p.length = 256 ∧ leNat ((p.drop 8).take 1) ≠ 1) ∧
    (∃ p : List Byte, p.length = 256 ∧ leNat ((p.drop 252).take 4) ≠ crc 0 (p.take 252)) ∧
    (∃ f : FlashS, f.copy0 = [] ∧ f.copy1 = []) ∧
    (∃ f : FlashS, f.copy0.contains f.boot = true ∧ 256 ≤ f.copy1.length) ∧
    (∃ f : FlashS, f.copy0.contains f.boot = false ∧ 256 ≤ f.copy0.length) :=
  ⟨⟨({ seq := 2 ^ 32 - 1, active := 1, store := 1, slotB := 4, result := 255, cause := 255, window := 2 ^ 32 - 1, lenA := 2 ^ 32 - 1, lenB := 2 ^ 32 - 1 } : BootS), by decide +kernel⟩,
   ⟨List.replicate 257 0, by decide +kernel⟩,
   ⟨List.replicate 256 0, by decide +kernel⟩,
   ⟨({} : BootS).bytes.set 8 2, by decide +kernel⟩,
   ⟨List.replicate 252 0 ++ [0, 0, 0, 0], by decide +kernel⟩,
   ⟨{ copy0 := [] }, by decide +kernel⟩,
   ⟨{ copy1 := List.replicate 256 { seq := 1 } }, by decide +kernel⟩,
   ⟨{ copy0 := List.replicate 256 { seq := 1 } }, by decide +kernel⟩⟩

/-- The hypotheses of SupplyAndResetHoldOrBoot are met (part 1). -/
theorem witness_SupplyAndResetHoldOrBoot_1 :
    (∃ (s : State), (s.power.fail = false ∨ s.power.phase = Phase.off)) ∧
    (∃ (s : State), (s.power.trip = false ∨ s.power.phase = Phase.off)) ∧
    (∃ (s : State) (p : PowerS) (cause : ℕ) (free : Bool), s.power.phase = Phase.off ∧ cause = 0 ∧ p = PowerS.mk s.power.phase true false s.power.resetN s.power.trip s.power.cold s.power.scan false s.power.noSlot s.power.range s.power.instr s.power.quietWait s.power.overE s.power.overW s.power.tripNote s.power.tripFull s.power.wake ∧ free = (p.vinGood && !p.fail && !p.resetN && !p.trip && !p.cold && !p.scan) ∧ free = false) ∧
    (∃ (s : State) (p : PowerS) (cause : ℕ) (free : Bool), s.power.resetN = true ∧ s.power.phase ≠ Phase.off ∧ s.power.fail = false ∧ cause = 1 ∧ p = PowerS.mk s.power.phase s.power.vinGood s.power.fail false s.power.trip s.power.cold s.power.scan s.power.rail false s.power.range s.power.instr s.power.quietWait s.power.overE s.power.overW s.power.tripNote s.power.tripFull s.power.wake ∧ free = (p.vinGood && !p.fail && !p.resetN && !p.trip && !p.cold && !p.scan) ∧ free = false) ∧
    (∃ (s : State) (p : PowerS) (cause : ℕ) (free : Bool), s.power.trip = true ∧ s.power.phase ≠ Phase.off ∧ cause = 0 ∧ p = PowerS.mk s.power.phase s.power.vinGood s.power.fail s.power.resetN false s.power.cold s.power.scan s.power.rail s.power.noSlot s.power.range s.power.instr s.power.quietWait s.power.overE s.power.overW s.power.tripNote s.power.tripFull s.power.wake ∧ free = (p.vinGood && !p.fail && !p.resetN && !p.trip && !p.cold && !p.scan) ∧ free = false) ∧
    (∃ (s : State) (p : PowerS) (cause : ℕ) (free : Bool), s.power.cold = true ∧ s.power.phase ≠ Phase.off ∧ cause = 0 ∧ p = PowerS.mk s.power.phase s.power.vinGood s.power.fail s.power.resetN s.power.trip false s.power.scan s.power.rail s.power.noSlot s.power.range s.power.instr s.power.quietWait s.power.overE s.power.overW s.power.tripNote s.power.tripFull s.power.wake ∧ free = (p.vinGood && !p.fail && !p.resetN && !p.trip && !p.cold && !p.scan) ∧ free = false) ∧
    (∃ (s : State) (vA : ℕ) (vB : ℕ) (p : PowerS) (cause : ℕ) (free : Bool) (v : ℕ), s.power.phase = Phase.off ∧ cause = 0 ∧ p = PowerS.mk s.power.phase true false s.power.resetN s.power.trip s.power.cold s.power.scan false s.power.noSlot s.power.range s.power.instr s.power.quietWait s.power.overE s.power.overW s.power.tripNote s.power.tripFull s.power.wake ∧ free = (p.vinGood && !p.fail && !p.resetN && !p.trip && !p.cold && !p.scan) ∧ free = true ∧ s.flash.boot.slot s.inactive ≠ slotTrial ∧ s.flash.boot.slot s.inactive ≠ slotPartial ∧ s.flash.boot.active ≤ 1 ∧ s.flash.findRecord = s.flash ∧ (v = s.romVerdict s.flash.boot.active (if s.flash.boot.active = 0 then vA else vB)) ∧ v = 0) ∧
    (∃ (s : State) (vA : ℕ) (vB : ℕ) (p : PowerS) (cause : ℕ) (free : Bool) (v : ℕ), s.power.phase = Phase.off ∧ cause = 0 ∧ p = PowerS.mk s.power.phase true false s.power.resetN s.power.trip s.power.cold s.power.scan false s.power.noSlot s.power.range s.power.instr s.power.quietWait s.power.overE s.power.overW s.power.tripNote s.power.tripFull s.power.wake ∧ free = (p.vinGood && !p.fail && !p.resetN && !p.trip && !p.cold && !p.scan) ∧ free = true ∧ s.flash.boot.slot s.inactive ≠ slotTrial ∧ s.flash.boot.slot s.inactive ≠ slotPartial ∧ s.flash.boot.active ≤ 1 ∧ s.flash.findRecord = s.flash ∧ (v = s.romVerdict s.flash.boot.active (if s.flash.boot.active = 0 then vA else vB)) ∧ v ≠ 0) ∧
    (∃ (s : State) (vA : ℕ) (vB : ℕ) (p : PowerS) (cause : ℕ) (free : Bool) (v : ℕ), s.power.resetN = true ∧ s.power.phase ≠ Phase.off ∧ s.power.fail = false ∧ cause = 1 ∧ p = PowerS.mk s.power.phase s.power.vinGood s.power.fail false s.power.trip s.power.cold s.power.scan s.power.rail false s.power.range s.power.instr s.power.quietWait s.power.overE s.power.overW s.power.tripNote s.power.tripFull s.power.wake ∧ free = (p.vinGood && !p.fail && !p.resetN && !p.trip && !p.cold && !p.scan) ∧ free = true ∧ s.flash.boot.slot s.inactive ≠ slotTrial ∧ s.flash.boot.slot s.inactive ≠ slotPartial ∧ s.flash.boot.active ≤ 1 ∧ s.flash.findRecord = s.flash ∧ (v = s.romVerdict s.flash.boot.active (if s.flash.boot.active = 0 then vA else vB)) ∧ v = 0) ∧
    (∃ (s : State) (vA : ℕ) (vB : ℕ) (p : PowerS) (cause : ℕ) (free : Bool) (v : ℕ), s.power.resetN = true ∧ s.power.phase ≠ Phase.off ∧ s.power.fail = false ∧ cause = 1 ∧ p = PowerS.mk s.power.phase s.power.vinGood s.power.fail false s.power.trip s.power.cold s.power.scan s.power.rail false s.power.range s.power.instr s.power.quietWait s.power.overE s.power.overW s.power.tripNote s.power.tripFull s.power.wake ∧ free = (p.vinGood && !p.fail && !p.resetN && !p.trip && !p.cold && !p.scan) ∧ free = true ∧ s.flash.boot.slot s.inactive ≠ slotTrial ∧ s.flash.boot.slot s.inactive ≠ slotPartial ∧ s.flash.boot.active ≤ 1 ∧ s.flash.findRecord = s.flash ∧ (v = s.romVerdict s.flash.boot.active (if s.flash.boot.active = 0 then vA else vB)) ∧ v ≠ 0) ∧
    (∃ (s : State) (vA : ℕ) (vB : ℕ) (p : PowerS) (cause : ℕ) (free : Bool) (v : ℕ), s.power.trip = true ∧ s.power.phase ≠ Phase.off ∧ cause = 0 ∧ p = PowerS.mk s.power.phase s.power.vinGood s.power.fail s.power.resetN false s.power.cold s.power.scan s.power.rail s.power.noSlot s.power.range s.power.instr s.power.quietWait s.power.overE s.power.overW s.power.tripNote s.power.tripFull s.power.wake ∧ free = (p.vinGood && !p.fail && !p.resetN && !p.trip && !p.cold && !p.scan) ∧ free = true ∧ s.flash.boot.slot s.inactive ≠ slotTrial ∧ s.flash.boot.slot s.inactive ≠ slotPartial ∧ s.flash.boot.active ≤ 1 ∧ s.flash.findRecord = s.flash ∧ (v = s.romVerdict s.flash.boot.active (if s.flash.boot.active = 0 then vA else vB)) ∧ v = 0) ∧
    (∃ (s : State) (vA : ℕ) (vB : ℕ) (p : PowerS) (cause : ℕ) (free : Bool) (v : ℕ), s.power.trip = true ∧ s.power.phase ≠ Phase.off ∧ cause = 0 ∧ p = PowerS.mk s.power.phase s.power.vinGood s.power.fail s.power.resetN false s.power.cold s.power.scan s.power.rail s.power.noSlot s.power.range s.power.instr s.power.quietWait s.power.overE s.power.overW s.power.tripNote s.power.tripFull s.power.wake ∧ free = (p.vinGood && !p.fail && !p.resetN && !p.trip && !p.cold && !p.scan) ∧ free = true ∧ s.flash.boot.slot s.inactive ≠ slotTrial ∧ s.flash.boot.slot s.inactive ≠ slotPartial ∧ s.flash.boot.active ≤ 1 ∧ s.flash.findRecord = s.flash ∧ (v = s.romVerdict s.flash.boot.active (if s.flash.boot.active = 0 then vA else vB)) ∧ v ≠ 0) :=
  ⟨⟨(stateAt T19a.S19 0), by decide +kernel⟩,
   ⟨(stateAt T19a.S19 0), by decide +kernel⟩,
   ⟨(stateAt T19a.S19 114), ({ phase := Sys2Proof.Machine.Phase.off, vinGood := true, fail := false, resetN := true, trip := false, cold := false, scan := false, rail := false, noSlot := true, range := false, instr := 2, quietWait := false, overE := false, overW := false, tripNote := false, tripFull := false, wake := false } : PowerS), 0, false, by decide +kernel⟩,
   ⟨(stateAt TZ11.ZW 0), ({ phase := Sys2Proof.Machine.Phase.running, vinGood := true, fail := false, resetN := false, trip := true, cold := false, scan := false, rail := false, noSlot := false, range := false, instr := 2, quietWait := false, overE := false, overW := false, tripNote := false, tripFull := false, wake := false } : PowerS), 1, false, by decide +kernel⟩,
   ⟨(stateAt T19a.S19 48), ({ phase := Sys2Proof.Machine.Phase.running, vinGood := true, fail := true, resetN := false, trip := false, cold := false, scan := false, rail := false, noSlot := false, range := false, instr := 2, quietWait := false, overE := true, overW := false, tripNote := false, tripFull := false, wake := false } : PowerS), 0, false, by decide +kernel⟩,
   ⟨(stateAt T19a.S19 30), ({ phase := Sys2Proof.Machine.Phase.running, vinGood := true, fail := false, resetN := false, trip := false, cold := false, scan := true, rail := false, noSlot := false, range := false, instr := 2, quietWait := false, overE := false, overW := false, tripNote := false, tripFull := false, wake := false } : PowerS), 0, false, by decide +kernel⟩,
   ⟨(stateAt T19a.S19 108), 0, 0, ({ phase := Sys2Proof.Machine.Phase.off, vinGood := true, fail := false, resetN := false, trip := false, cold := false, scan := false, rail := false, noSlot := false, range := false, instr := 2, quietWait := false, overE := false, overW := false, tripNote := false, tripFull := false, wake := false } : PowerS), 0, true, 0, by decide +kernel⟩,
   ⟨(stateAt T19a.S19 108), 5, 0, ({ phase := Sys2Proof.Machine.Phase.off, vinGood := true, fail := false, resetN := false, trip := false, cold := false, scan := false, rail := false, noSlot := false, range := false, instr := 2, quietWait := false, overE := false, overW := false, tripNote := false, tripFull := false, wake := false } : PowerS), 0, true, 5, by decide +kernel⟩,
   ⟨(stateAt T19a.S19 6), 0, 0, ({ phase := Sys2Proof.Machine.Phase.running, vinGood := true, fail := false, resetN := false, trip := false, cold := false, scan := false, rail := false, noSlot := false, range := false, instr := 2, quietWait := false, overE := false, overW := false, tripNote := false, tripFull := false, wake := false } : PowerS), 1, true, 0, by decide +kernel⟩,
   ⟨(stateAt T19a.S19 6), 5, 0, ({ phase := Sys2Proof.Machine.Phase.running, vinGood := true, fail := false, resetN := false, trip := false, cold := false, scan := false, rail := false, noSlot := false, range := false, instr := 2, quietWait := false, overE := false, overW := false, tripNote := false, tripFull := false, wake := false } : PowerS), 1, true, 5, by decide +kernel⟩,
   ⟨(stateAt T19a.S19 12), 0, 0, ({ phase := Sys2Proof.Machine.Phase.running, vinGood := true, fail := false, resetN := false, trip := false, cold := false, scan := false, rail := false, noSlot := false, range := false, instr := 2, quietWait := false, overE := true, overW := false, tripNote := false, tripFull := false, wake := false } : PowerS), 0, true, 0, by decide +kernel⟩,
   ⟨(stateAt T19a.S19 12), 5, 0, ({ phase := Sys2Proof.Machine.Phase.running, vinGood := true, fail := false, resetN := false, trip := false, cold := false, scan := false, rail := false, noSlot := false, range := false, instr := 2, quietWait := false, overE := true, overW := false, tripNote := false, tripFull := false, wake := false } : PowerS), 0, true, 5, by decide +kernel⟩⟩

/-- The hypotheses of SupplyAndResetHoldOrBoot are met (part 2). -/
theorem witness_SupplyAndResetHoldOrBoot_2 :
    (∃ (s : State) (vA : ℕ) (vB : ℕ) (p : PowerS) (cause : ℕ) (free : Bool) (v : ℕ), s.power.cold = true ∧ s.power.phase ≠ Phase.off ∧ cause = 0 ∧ p = PowerS.mk s.power.phase s.power.vinGood s.power.fail s.power.resetN s.power.trip false s.power.scan s.power.rail s.power.noSlot s.power.range s.power.instr s.power.quietWait s.power.overE s.power.overW s.power.tripNote s.power.tripFull s.power.wake ∧ free = (p.vinGood && !p.fail && !p.resetN && !p.trip && !p.cold && !p.scan) ∧ free = true ∧ s.flash.boot.slot s.inactive ≠ slotTrial ∧ s.flash.boot.slot s.inactive ≠ slotPartial ∧ s.flash.boot.active ≤ 1 ∧ s.flash.findRecord = s.flash ∧ (v = s.romVerdict s.flash.boot.active (if s.flash.boot.active = 0 then vA else vB)) ∧ v = 0) ∧
    (∃ (s : State) (vA : ℕ) (vB : ℕ) (p : PowerS) (cause : ℕ) (free : Bool) (v : ℕ), s.power.cold = true ∧ s.power.phase ≠ Phase.off ∧ cause = 0 ∧ p = PowerS.mk s.power.phase s.power.vinGood s.power.fail s.power.resetN s.power.trip false s.power.scan s.power.rail s.power.noSlot s.power.range s.power.instr s.power.quietWait s.power.overE s.power.overW s.power.tripNote s.power.tripFull s.power.wake ∧ free = (p.vinGood && !p.fail && !p.resetN && !p.trip && !p.cold && !p.scan) ∧ free = true ∧ s.flash.boot.slot s.inactive ≠ slotTrial ∧ s.flash.boot.slot s.inactive ≠ slotPartial ∧ s.flash.boot.active ≤ 1 ∧ s.flash.findRecord = s.flash ∧ (v = s.romVerdict s.flash.boot.active (if s.flash.boot.active = 0 then vA else vB)) ∧ v ≠ 0) ∧
    (∃ (s : State) (f : ℕ), f < 14 ∧ s.power.phase = Phase.off ∧ s.power.resetN = false ∧ s.power.trip = false ∧ s.power.cold = false ∧ s.power.scan = false) ∧
    (∃ (s : State), s.power.fail = true ∧ s.power.phase ≠ Phase.off ∧ s.power.vinGood = false) ∧
    (∃ (s : State), s.power.fail = true ∧ s.power.phase ≠ Phase.off ∧ s.power.vinGood = true ∧ s.power.resetN = false ∧ s.power.cold = false) ∧
    (∃ (s : State) (n : ℕ), 10000 ≤ n ∧ (s.power.fail = true ∨ s.power.phase = Phase.off)) ∧
    (∃ (s : State) (n : ℕ), 10000 ≤ n ∧ s.power.fail = false ∧ s.power.phase ≠ Phase.off) ∧
    (∃ (s : State), (s.power.range = true ∨ s.power.phase = Phase.off ∨ s.power.phase = Phase.held)) ∧
    (∃ (s : State), (s.power.range = false ∨ s.power.phase = Phase.off ∨ s.power.phase = Phase.held)) ∧
    (∃ (s : State) (ty : ℕ) (sev : ℕ), s.power.range = false ∧ ty = 4609 ∧ sev = 2 ∧ s.power.phase ≠ Phase.off ∧ s.power.phase ≠ Phase.held) ∧
    (∃ (s : State) (ty : ℕ) (sev : ℕ), s.power.range = true ∧ ty = 4610 ∧ sev = 0 ∧ s.power.phase ≠ Phase.off ∧ s.power.phase ≠ Phase.held) ∧
    (∃ (c : Instr) (n : ℕ), n < 1000 ∧ c = .resetAssert 0 n) :=
  ⟨⟨(stateAt T19a.S19 18), 0, 0, ({ phase := Sys2Proof.Machine.Phase.running, vinGood := true, fail := false, resetN := false, trip := false, cold := false, scan := false, rail := false, noSlot := false, range := false, instr := 2, quietWait := false, overE := false, overW := false, tripNote := false, tripFull := false, wake := false } : PowerS), 0, true, 0, by decide +kernel⟩,
   ⟨(stateAt T19a.S19 18), 5, 0, ({ phase := Sys2Proof.Machine.Phase.running, vinGood := true, fail := false, resetN := false, trip := false, cold := false, scan := false, rail := false, noSlot := false, range := false, instr := 2, quietWait := false, overE := false, overW := false, tripNote := false, tripFull := false, wake := false } : PowerS), 0, true, 5, by decide +kernel⟩,
   ⟨(stateAt T19a.S19 108), 0, by decide +kernel⟩,
   ⟨(stateAt T19a.S19 60), by decide +kernel⟩,
   ⟨(stateAt T19a.S19 36), by decide +kernel⟩,
   ⟨(stateAt T19a.S19 36), 10000, by decide +kernel⟩,
   ⟨(stateAt T19a.S19 0), 10000, by decide +kernel⟩,
   ⟨(stateAt T19a.S19 24), by decide +kernel⟩,
   ⟨(stateAt T19a.S19 0), by decide +kernel⟩,
   ⟨(stateAt T19a.S19 0), 4609, 2, by decide +kernel⟩,
   ⟨(stateAt T19a.S19 24), 4610, 0, by decide +kernel⟩,
   ⟨.resetAssert 0 999, 999, by decide +kernel⟩⟩

/-- The hypotheses of QuietThermalAndScan are met (part 1). -/
theorem witness_QuietThermalAndScan_1 :
    (∃ (s : State) (r : Req), s.takes r = true ∧ s.mayQuiet = false) ∧
    (∃ (s : State) (cause : ℕ) (p : ℕ), s.power.phase = Phase.running ∧ s.rn 9472 11 ≠ 255 ∧ s.mayQuiet = true ∧ cause = 1 ∧ p < 16) ∧
    (∃ (s : State) (cause : ℕ) (x : ℕ), s.power.phase = Phase.running ∧ s.rn 9472 11 ≠ 255 ∧ s.mayQuiet = true ∧ cause = 1 ∧ x < 24) ∧
    (∃ (s : State), (s.power.phase ≠ Phase.running ∨ s.rn 9472 11 = 255)) ∧
    (∃ (s : State), s.power.phase = Phase.running ∧ s.rn 9472 11 ≠ 255 ∧ s.mayQuiet = false) ∧
    (∃ (s : State), s.rn 9472 11 = 255) ∧
    (∃ (s : State), s.rn 9472 11 ≠ 255 ∧ s.power.phase ≠ Phase.quiet) ∧
    (∃ (s : State), s.rn 9472 11 ≠ 255 ∧ s.power.phase = Phase.quiet) ∧
    (∃ (s : State) (d : Die) (temp : ℤ), (s.power.phase = Phase.off ∨ s.power.phase = Phase.held ∨ temp ≤ s.tempLimit ∨ s.dieLost d.idx = true)) ∧
    (∃ (s : State) (temp : ℤ), (s.power.phase = Phase.off ∨ s.power.phase = Phase.held ∨ s.rn 9472 7 = 0 ∨ s.tempLimit - 50 < temp)) :=
  ⟨⟨(stateAt T19.S19b 8), Sys2Proof.Req.mailbox 3, by decide +kernel⟩,
   ⟨(stateAt T19.S19b 2), 1, 0, by decide +kernel⟩,
   ⟨(stateAt T19.S19b 2), 1, 0, by decide +kernel⟩,
   ⟨(stateAt T19.S19b 0), by decide +kernel⟩,
   ⟨(stateAt T19.S19b 10), by decide +kernel⟩,
   ⟨(stateAt T19.S19b 0), by decide +kernel⟩,
   ⟨(stateAt T19.S19b 2), by decide +kernel⟩,
   ⟨(stateAt T19.S19b 434), by decide +kernel⟩,
   ⟨(stateAt T19.S19b 0), Sys2Proof.Die.e, 0, by decide +kernel⟩,
   ⟨(stateAt T19.S19b 0), 0, by decide +kernel⟩⟩

/-- The hypotheses of QuietThermalAndScan are met (part 2). -/
theorem witness_QuietThermalAndScan_2 :
    (∃ (s : State) (d : Die) (temp : ℤ), s.power.phase ≠ Phase.off ∧ s.power.phase ≠ Phase.held ∧ s.tempLimit < temp ∧ s.dieLost d.idx = false ∧ s.rn 9472 7 ≠ 1) ∧
    (∃ (s : State) (d : Die) (temp : ℤ), s.power.phase ≠ Phase.off ∧ s.power.phase ≠ Phase.held ∧ s.tempLimit < temp ∧ s.dieLost d.idx = false ∧ s.rn 9472 7 = 1) ∧
    (∃ (s : State) (temp : ℤ), s.power.phase ≠ Phase.off ∧ s.power.phase ≠ Phase.held ∧ s.rn 9472 7 ≠ 0 ∧ temp ≤ s.tempLimit - 50) ∧
    (∃ (s : State) (d : Die), (s.power.trip = true ∨ s.power.phase = Phase.off ∨ s.dieLost d.idx = true)) ∧
    (∃ (s : State) (d : Die) (n : ℕ), (n = match s.flash.refs.look (key 9472 8) with | some v => v.int.toNat | none => 0) ∧ s.power.trip = false ∧ s.power.phase ≠ Phase.off ∧ s.dieLost d.idx = false ∧ s.power.fail = false) ∧
    (∃ (s : State) (d : Die) (n : ℕ), (n = match s.flash.refs.look (key 9472 8) with | some v => v.int.toNat | none => 0) ∧ s.power.trip = false ∧ s.power.phase ≠ Phase.off ∧ s.dieLost d.idx = false ∧ s.power.fail = true) ∧
    (∃ (s : State) (code : ℕ), (s.power.phase = Phase.off ∨ 3 ≤ code ∧ s.power.scan = true ∨ code ≤ 2 ∧ s.power.scan = false)) ∧
    (∃ (s : State) (code : ℕ), s.power.phase ≠ Phase.off ∧ 3 ≤ code ∧ s.power.scan = false) ∧
    (∃ (s : State) (code : ℕ), s.power.phase ≠ Phase.off ∧ code ≤ 2 ∧ s.power.scan = true ∧ s.power.vinGood = true ∧ s.power.fail = false ∧ s.power.resetN = false ∧ s.power.trip = false ∧ s.power.cold = false) ∧
    (∃ (s : State) (r : Req) (c : Instr) (cause : ℕ), c = .quietCommand 0 r ∧ s.takes r = true ∧ s.mayQuiet = true ∧ cause = 0) :=
  ⟨⟨(stateAt T19.S19b 0), Sys2Proof.Die.e, 1001, by decide +kernel⟩,
   ⟨(stateAt T19.S19b 12), Sys2Proof.Die.e, 1001, by decide +kernel⟩,
   ⟨(stateAt T19.S19b 12), 0, by decide +kernel⟩,
   ⟨(stateAt T19.S19b 12), Sys2Proof.Die.e, by decide +kernel⟩,
   ⟨(stateAt T19.S19b 0), Sys2Proof.Die.e, 0, by decide +kernel⟩,
   ⟨(stateAt T19.S19b 48), Sys2Proof.Die.e, 0, by decide +kernel⟩,
   ⟨(stateAt T19.S19b 0), 0, by decide +kernel⟩,
   ⟨(stateAt T19.S19b 0), 3, by decide +kernel⟩,
   ⟨(stateAt T19.S19b 36), 0, by decide +kernel⟩,
   ⟨up, mb, .quietCommand 0 mb, 0, by decide +kernel⟩⟩

/-- The hypotheses of BallsCarryTheirSignals are met. -/
theorem witness_BallsCarryTheirSignals :
    (∃ x y h a p n : ℕ, x < 12 ∧ y = x ∧ h = 50 ∧ a = 51 ∧ p = 54 ∧ n = 55) ∧
    (∃ x y h a p n : ℕ, x < 12 ∧ y = 12 + x ∧ h = 6 ∧ a = 5 ∧ p = 2 ∧ n = 1) ∧
    (∃ n : ℕ, n < 6) ∧
    (∃ r c r' c' : ℕ, 1 ≤ r ∧ r ≤ 55 ∧ 1 ≤ c ∧ c ≤ 55 ∧ 1 ≤ r' ∧ r' ≤ 55 ∧ 1 ≤ c' ∧ c' ≤ 55 ∧ ballAt r c = ballAt r' c') ∧
    (∃ s : State, s.power.phase = .off) ∧
    (∃ s : State, s.power.phase = .held ∧ s.power.scan = false) ∧
    (∃ s : State, s.power.phase ≠ .off ∧ s.power.scan = true) :=
  ⟨⟨11, 11, 50, 51, 54, 55, by decide⟩,
   ⟨11, 23, 6, 5, 2, 1, by decide⟩,
   ⟨5, by decide⟩,
   ⟨55, 1, 55, 1, by decide +kernel⟩,
   ⟨pw (fun p => { p with phase := .off }) up, by decide +kernel⟩,
   ⟨pw (fun p => { p with phase := .held }) up, by decide +kernel⟩,
   ⟨pw (fun p => { p with scan := true }) up, by decide +kernel⟩⟩

end Sys2Proof.Tests
end

section
/-! SUPPORT. The scope chapter's statements: the step, serial order (R12), saturating counters and read-clears (R13), and the
writes of the dictionary that are refused or plain (R16, R17). The rules of the shared operations stand before the statements that
rest on them. -/

namespace Sys2Proof.Machine

/-! ### Serial numbers (R12) -/

/-- The model's difference of two counter values is the manual's (a − b) mod 2^n, taken of integers. -/
theorem serialDiff_eq_emod (n a b : Nat) :
    (serialDiff n a b : Int) = ((a : Int) - (b : Int)) % ((2 ^ n : Nat) : Int) := by
  have hb : b % 2 ^ n ≤ a % 2 ^ n + 2 ^ n := (Nat.mod_lt b (Nat.two_pow_pos n)).le.trans (Nat.le_add_left _ _)
  unfold serialDiff
  rw [Int.natCast_mod, Nat.cast_sub hb, Nat.cast_add, Int.natCast_mod, Int.natCast_mod, add_sub_right_comm,
    Int.add_emod_right, ← Int.sub_emod]

/-- The differences taken both ways round add up to a multiple of the counter's range. -/
theorem two_pow_dvd_serialDiff_add_swap (n a b : Nat) : 2 ^ n ∣ serialDiff n a b + serialDiff n b a := by
  rw [← Int.natCast_dvd_natCast, Nat.cast_add, serialDiff_eq_emod, serialDiff_eq_emod]
  apply Int.dvd_of_emod_eq_zero
  rw [← Int.add_emod]
  simp

/-- No value is both after another and before it. -/
theorem not_serialAfter_and_swap (n a b : Nat) (hn : 1 ≤ n) :
    ¬(serialAfter n a b = true ∧ serialAfter n b a = true) := by
  simp only [serialAfter, Bool.and_eq_true, decide_eq_true_eq]
  rintro ⟨⟨hab, hab'⟩, -, hba'⟩
  have hhalf : 2 ^ n = 2 * 2 ^ (n - 1) := by rw [← pow_succ', Nat.sub_add_cancel hn]
  have hle := Nat.le_of_dvd (by omega) (two_pow_dvd_serialDiff_add_swap n a b)
  omega

/-- Settles O8: the model's difference is the manual's, so its comparisons are, and two differences that both lie in the
lower half cannot add up to the range. -/
theorem serialOrderIsTheManuals : Obligations.SerialOrderIsTheManuals := by
  unfold Obligations.SerialOrderIsTheManuals
  intro n a b hn
  have hhalf : 1 ≤ 2 ^ (n - 1) := Nat.one_le_two_pow
  rw [← serialDiff_eq_emod]
  refine ⟨?_, ?_, ?_, not_serialAfter_and_swap n a b hn⟩
  · simp only [serialAfter, Bool.and_eq_true, decide_eq_true_eq]
    omega
  · simp only [serialEq, decide_eq_true_eq]
    omega
  · intro hd
    simp only [serialAfter, Bool.and_eq_false_iff, decide_eq_false_iff_not]
    omega

/-! ### Rows of the dictionary's table -/

/-- A page of the dictionary is one of those listed, or holds nothing. -/
theorem page_subset_objects (p : Nat) : page p ⊆ objects := by
  by_cases h : p ∈ pages
  · exact fun o ho => List.mem_flatMap.2 ⟨p, h, ho⟩
  · have hnil : page p = [] := by
      simp only [pages, List.mem_cons, List.not_mem_nil, or_false, not_or] at h
      unfold page
      split <;> simp_all
    simp [hnil]

/-- The row found is a row of the table, and covers the index and subindex asked for. -/
theorem findObj_spec {idx sub : Nat} {o : Obj} (h : findObj idx sub = some o) :
    o ∈ objects ∧ o.base ≤ idx ∧ idx < o.base + o.count ∧ o.lo ≤ sub ∧ sub ≤ o.hi := by
  have hcov := List.find?_some h
  simp only [Bool.and_eq_true, decide_eq_true_eq] at hcov
  obtain ⟨⟨⟨hb, hc⟩, hl⟩, hh⟩ := hcov
  exact ⟨page_subset_objects _ (List.mem_of_find?_eq_some h), hb, hc, hl, hh⟩

/-- An object is defined at an allocated index only. -/
theorem idxExists_of_findObj {idx sub : Nat} {o : Obj} (h : findObj idx sub = some o) : idxExists idx = true := by
  obtain ⟨-, hb, hc, -, -⟩ := findObj_spec h
  exact List.any_eq_true.2 ⟨o, List.mem_of_find?_eq_some h, by simp [hb, hc]⟩

/-- Every row ends at a subindex of one byte. -/
theorem objects_hi_lt : ∀ o ∈ objects, o.hi < 256 := by decide +kernel

/-- Subindices are bytes. -/
theorem sub_lt_of_findObj {idx sub : Nat} {o : Obj} (h : findObj idx sub = some o) : sub < 256 := by
  obtain ⟨hm, -, -, -, hh⟩ := findObj_spec h
  exact hh.trans_lt (objects_hi_lt o hm)

/-- Counters of code S are unsigned numbers. -/
theorem objects_counter_type : ∀ o ∈ objects, o.sat = true → o.ty = .u16 ∨ o.ty = .u32 ∨ o.ty = .u64 := by decide +kernel

/-! ### The step -/

/-- Every command has an effect: none faults and none is refused. -/
theorem exec_answers_next (i : Instr) (s : State) : ∃ s', exec i s = .next s' := by
  cases i <;> exact ⟨_, rfl⟩

/-- Settles O2: no arm of the dispatch faults or refuses, and the empty queue has a case of its own. -/
theorem stepNeverStops : Obligations.StepNeverStops := by
  unfold Obligations.StepNeverStops
  intro s
  constructor
  · cases h : s.pending with
    | nil => exact ⟨s, by simp only [step, h]⟩
    | cons c rest =>
      obtain ⟨s', hs'⟩ := exec_answers_next c { s with pending := rest }
      exact ⟨s', by simp only [step, h, hs']⟩
  · intro h
    simp only [step, h]

/-! ### Saturating counters (R13) -/

/-- A number read depends on the value listed at the object's key alone. -/
theorem State.rn_congr {s s' : State} {idx sub : Nat} (h : s'.od.look (key idx sub) = s.od.look (key idx sub)) :
    s'.rn idx sub = s.rn idx sub := by
  simp only [State.rn, State.rd, State.val, h]

/-- Only the counter of lost events can change when an event is raised. -/
theorem State.look_raise_other (s : State) (k ty sev : Nat) (pay : List (Nat × Nat)) {i : Nat} (h : i ≠ key 0x2200 0x05) :
    (s.raise k ty sev pay).od.look i = s.od.look i := by
  unfold State.raise State.enqueue
  split
  · rfl
  · unfold State.dropEv
    dsimp only
    split
    · rfl
    · split <;> exact Tab.look_put_other _ _ h

/-- With the counter of lost events at its maximum, an event raised changes no dictionary value. -/
theorem State.raise_od_of_lost_full (s : State) (k ty sev : Nat) (pay : List (Nat × Nat))
    (h : 0xFFFFFFFF ≤ s.rn 0x2200 0x05) : (s.raise k ty sev pay).od = s.od := by
  unfold State.raise State.enqueue
  split
  · rfl
  · simp only [State.dropEv, h, if_true]

/-- An event leaves every number as it was, but for a count of lost events that can still rise. -/
theorem State.rn_raise (s : State) (k ty sev : Nat) (pay : List (Nat × Nat)) {idx sub : Nat}
    (h : key idx sub = key 0x2200 0x05 → 0xFFFFFFFF ≤ s.rn 0x2200 0x05) :
    (s.raise k ty sev pay).rn idx sub = s.rn idx sub := by
  apply State.rn_congr
  by_cases hk : key idx sub = key 0x2200 0x05
  · rw [s.raise_od_of_lost_full k ty sev pay (h hk)]
  · exact s.look_raise_other k ty sev pay hk

section Bump
variable (s : State) (k : Nat) {idx sub n : Nat} {o : Obj} (ho : findObj idx sub = some o)
include ho

/-- An increment of nothing, or at the maximum, leaves the counter alone. -/
theorem State.bump_stays (h : n = 0 ∨ o.ty.maxNat ≤ s.rn idx sub) : s.bump k idx sub n = s := by
  simp [State.bump, ho, h]

/-- An increment that stays below the maximum is added. -/
theorem State.bump_adds (hn : n ≠ 0) (h : s.rn idx sub + n < o.ty.maxNat) :
    s.bump k idx sub n = s.wn idx sub (s.rn idx sub + n) := by
  have h1 : ¬(n = 0 ∨ o.ty.maxNat ≤ s.rn idx sub) := by omega
  simp [State.bump, ho, h1, Nat.not_le.2 h]

/-- The increment that reaches the maximum leaves the counter there and raises the counter saturated event. -/
theorem State.bump_saturates (hlt : s.rn idx sub < o.ty.maxNat) (h : o.ty.maxNat ≤ s.rn idx sub + n) :
    s.bump k idx sub n =
      (s.wn idx sub o.ty.maxNat).raise k 0x0003 1 [(16, idx), (8, sub), (8, instanceOf idx)] := by
  have h1 : ¬(n = 0 ∨ o.ty.maxNat ≤ s.rn idx sub) := by omega
  simp [State.bump, ho, h1, h]

end Bump

/-- The object at the counter of lost events' key is that counter. -/
theorem eq_lostCounter {idx sub : Nat} {o : Obj} (ho : findObj idx sub = some o) (h : key idx sub = key 0x2200 0x05) :
    idx = 0x2200 ∧ sub = 0x05 :=
  key_inj (sub_lt_of_findObj ho) (by decide) h

/-- The counter of lost events counts to 0xFFFFFFFF. -/
theorem maxNat_of_lostCounter {o : Obj} (ho : findObj 0x2200 0x05 = some o) : o.ty.maxNat = 0xFFFFFFFF := by
  have h : (findObj 0x2200 0x05).map (·.ty.maxNat) = some 0xFFFFFFFF := by decide +kernel
  simpa [ho] using h

/-- The increment that reaches the maximum leaves the counter there, also where its event is dropped and counted. -/
theorem State.rn_bump_saturates (s : State) (k : Nat) {idx sub n : Nat} {o : Obj} (ho : findObj idx sub = some o)
    (hlt : s.rn idx sub < o.ty.maxNat) (h : o.ty.maxNat ≤ s.rn idx sub + n) :
    (s.bump k idx sub n).rn idx sub = o.ty.maxNat := by
  rw [s.bump_saturates k ho hlt h, State.rn_raise, State.rn_wn_same]
  intro hk
  obtain ⟨rfl, rfl⟩ := eq_lostCounter ho hk
  rw [State.rn_wn_same, maxNat_of_lostCounter ho]

/-- Settles O9: an increment leaves the counter alone, adds, or stops at the maximum with its event. -/
theorem saturatingCountersSaturate : Obligations.SaturatingCountersSaturate := by
  unfold Obligations.SaturatingCountersSaturate
  intro s k idx sub n o ho hle
  refine ⟨?_, ?_, ?_⟩
  · by_cases hstay : n = 0 ∨ o.ty.maxNat ≤ s.rn idx sub
    · rw [s.bump_stays k ho hstay]
      omega
    · rcases Nat.lt_or_ge (s.rn idx sub + n) o.ty.maxNat with hadd | hsat
      · rw [s.bump_adds k ho (by omega) hadd, State.rn_wn_same]
        omega
      · rw [s.rn_bump_saturates k ho (by omega) hsat]
        omega
  · intro hquiet
    by_cases hstay : n = 0 ∨ o.ty.maxNat ≤ s.rn idx sub
    · rw [s.bump_stays k ho hstay]
    · rw [s.bump_adds k ho (by omega) (by omega), State.wn_log]
  · intro hlt hsat _ hroom
    rw [s.bump_saturates k ho hlt hsat, State.raise_room _ k _ _ _ (by simpa using hroom)]
    exact ⟨_, Tab.at'_put_same _ _ _ _, rfl, rfl⟩

/-! ### Refused writes (R16) -/

/-- The codes that the checks of Table 15.4 give a write; 6 is given for a value of the right size, out of its range. -/
theorem State.checkWrite_error_cases {s : State} {r : Req} {idx sub : Nat} {data : List Byte} {c : Nat}
    (h : s.checkWrite r idx sub data = .error c) :
    c ∈ [1, 2, 3, 5, 8, 11] ∨
      c = 6 ∧ ∃ o v, findObj idx sub = some o ∧ sizeOk o data.length = true ∧ decodeVal o.ty data = some v ∧
        (o.ty.valOk v && o.chk.ok v) = false := by
  unfold State.checkWrite at h
  repeat' split at h
  all_goals simp_all

/-- No check answers 7, the code of the objects' own rules. -/
theorem State.checkWrite_error_ne_seven {s : State} {r : Req} {idx sub : Nat} {data : List Byte} {c : Nat}
    (h : s.checkWrite r idx sub data = .error c) : c ≠ 7 := by
  rcases State.checkWrite_error_cases h with hc | ⟨rfl, -⟩
  · rintro rfl
    simp at hc
  · decide

/-- The row of CONFIG_IMPORT. -/
theorem findObj_import :
    findObj 0x2001 0x02 =
      some ⟨0x2001, 1, 0x02, 0x02, .domain, .wo, false, false, false, .bytes [], .size 0 4194304⟩ := by
  decide +kernel

/-- An import has no range but its size. -/
theorem State.checkWrite_import_ne_six {s : State} {r : Req} {data : List Byte} :
    s.checkWrite r 0x2001 0x02 data ≠ .error 6 := by
  intro h
  rcases State.checkWrite_error_cases h with hc | ⟨-, o, v, ho, hsize, hdec, hbad⟩
  · simp at hc
  · rw [findObj_import, Option.some.injEq] at ho
    subst ho
    obtain rfl : Val.bytes data = v := by simpa [decodeVal, Ty.isNum] using hdec
    have hrange : Chk.ok (.size 0 4194304) (.bytes data) = true := hsize
    simp [Ty.valOk, hrange] at hbad

/-- A refused write leaves the state as it was where no code, record number or change set's answer is kept with the
refusal. -/
theorem State.writeBy_refused {s : State} {r : Req} {idx sub st : Nat} {data : List Byte}
    (hw : s.write r idx sub data (writeEffect r idx sub) = (s, st))
    (htiming : 0x4800 ≤ idx → idx < 0x4818 → sub = 0x13 → st ≠ 7)
    (himport : idx = 0x2001 → sub = 0x02 → st ≠ 6)
    (hchange : idx = 0x6800 → sub = 0x0D → st ≠ 7) :
    s.writeBy r idx sub data = (s, st) := by
  have hnote : ∀ v, s.refusedNote idx sub st v = s := by
    intro v
    unfold State.refusedNote
    rw [if_neg (by simpa using htiming), if_neg (by simpa using himport)]
  have hsup : idx = 0x6800 → sub = 0x0D → s.notSupervisor st (.bytes data) = s := by
    intro hi hs
    simp [State.notSupervisor, hchange hi hs]
  unfold State.writeBy
  rw [hw]
  dsimp only
  split
  · rename_i h
    obtain ⟨hi, hs⟩ : idx = 0x6800 ∧ sub = 0x0D := by simpa using h
    rw [hsup hi hs]
  · split
    · split <;> simp only [hnote]
    · rfl

/-- A write that the checks refuse answers their code and changes nothing. -/
theorem State.writeBy_of_checkWrite_error {s : State} {r : Req} {idx sub c : Nat} {data : List Byte}
    (h : s.checkWrite r idx sub data = .error c) : s.writeBy r idx sub data = (s, c) := by
  have h7 := State.checkWrite_error_ne_seven h
  refine State.writeBy_refused (by simp only [State.write, h]) (fun _ _ _ => h7) ?_ (fun _ _ => h7)
  rintro rfl rfl rfl
  exact State.checkWrite_import_ne_six h

/-- The status of a whole write is that of its request. -/
theorem State.writeBy_status (s : State) (r : Req) (idx sub : Nat) (data : List Byte) :
    (s.writeBy r idx sub data).2 = (s.write r idx sub data (writeEffect r idx sub)).2 := by
  unfold State.writeBy
  repeat' split
  all_goals rfl

/-- A request that answers a code other than 0 leaves the state as it was. -/
theorem State.write_refused {s : State} {r : Req} {idx sub : Nat} {data : List Byte} {eff : State → Val → State × Nat}
    (h : (s.write r idx sub data eff).2 ≠ 0) :
    s.write r idx sub data eff = (s, (s.write r idx sub data eff).2) := by
  rcases s.write_cases r idx sub data eff with ⟨c, -, hw⟩ | ⟨o, v, -, -, hw⟩ | ⟨o, v, -, -, hw⟩
  · rw [hw]
  · rw [hw]
  · exact absurd (by rw [hw]) h

/-- An answer does not change what the checks say. -/
theorem State.checkWrite_respond (s : State) (r r' : Req) (idx sub i b st : Nat) (data v : List Byte) :
    (s.respond r' i b st v).checkWrite r idx sub data = s.checkWrite r idx sub data := by
  rw [s.respond_frame]
  rfl

/-- A write that the checks refuse is answered their code, and nothing else happens: where the answer leaves first, the
write that follows it meets the same refusal. -/
theorem dictionaryWrite_of_checkWrite_error {s : State} {t : Nat} {r : Req} {idx sub c : Nat} {data : List Byte}
    (h : (s.tick t).checkWrite r idx sub data = .error c) :
    exec (.dictionaryWrite t r idx sub data) s = .next ((s.tick t).respond r idx sub c []) := by
  simp only [exec, execDictionaryWrite, State.writeAnd, State.writeBy_of_checkWrite_error h]
  split
  · rw [State.writeBy_of_checkWrite_error (by rwa [State.checkWrite_respond])]
  · rfl

/-- Settles O13: both kinds of refusal answer the state as it was. -/
theorem refusedWriteChangesNothing : Obligations.RefusedWriteChangesNothing := by
  unfold Obligations.RefusedWriteChangesNothing
  intro t r idx sub data s
  refine ⟨fun c hc => dictionaryWrite_of_checkWrite_error hc, ?_⟩
  · intro hst hlater htiming himport hchange
    rw [State.writeBy_status] at hst
    have hw : (s.tick t).writeBy r idx sub data = (s.tick t, _) :=
      State.writeBy_refused (State.write_refused hst) (by omega) (by omega) (by omega)
    simp only [exec, execDictionaryWrite, State.writeAnd, hw, hlater, Bool.false_eq_true, if_false]

/-! ### Accepted writes -/

section Takes
variable {s : State} {r : Req} (ht : s.takes r = true)
include ht

/-- A requester that may write is answered: the package is up, and a response is no Ethernet output. -/
theorem State.respond_of_takes {s' : State} (hp : s'.power = s.power) (idx sub st : Nat) (v : List Byte) :
    s'.respond r idx sub st v = { s' with out := .resp r idx sub st v :: s'.out } := by
  simp only [State.takes, State.dictReady, Bool.and_eq_true, Bool.or_eq_true, decide_eq_true_eq] at ht
  obtain ⟨⟨⟨⟨⟨⟨-, hphase⟩, -⟩, -⟩, -⟩, -⟩, hr⟩ := ht
  have hsay : s'.say (.resp r idx sub st v) = { s' with out := .resp r idx sub st v :: s'.out } := by
    unfold State.say
    rw [if_neg]
    rcases hphase with h | h <;> simp [Out.always, Out.onEthernet, hp, h]
  cases r with
  | changeSet => exact absurd rfl hr
  | can | zdp | mailbox => exact hsay

/-- Of a requester that may write, a writable object of the right size is checked by its range alone. -/
theorem State.checkWrite_of_takes {idx sub : Nat} {o : Obj} {data : List Byte} {v : Val}
    (ho : findObj idx sub = some o) (hdec : decodeVal o.ty data = some v) (hsize : sizeOk o data.length = true)
    (hacc : o.acc = .rw ∨ o.sat = true ∧ v = .num 0) :
    s.checkWrite r idx sub data = if o.sat || (o.ty.valOk v && o.chk.ok v) then .ok (o, v) else .error 6 := by
  have hro : ((o.acc = .ro || o.acc = .konst) && !(o.sat && decodeVal o.ty data = some (.num 0))) = false := by
    rcases hacc with h | ⟨h, rfl⟩
    · simp [h]
    · simp [h, hdec]
  simp only [State.takes, Bool.and_eq_true, Bool.not_eq_true'] at ht
  obtain ⟨⟨⟨hready, hrole⟩, hoff⟩, -⟩ := ht
  simp only [State.checkWrite, idxExists_of_findObj ho, ho, hready, hrole, hoff, hro, hsize, Bool.not_true,
    Bool.false_eq_true, if_false]
  simp only [hdec]

end Takes

/-- An accepted write leaves no note of a refusal. -/
@[simp] theorem State.refusedNote_zero (s : State) (idx sub : Nat) (v : Val) : s.refusedNote idx sub 0 v = s := by
  simp [State.refusedNote]

/-- An accepted write of anything but a change set has its effect, and ends part writes of the object by others. -/
theorem State.writeBy_taken {s s' : State} {r : Req} {idx sub : Nat} {data : List Byte} {o : Obj} {v : Val}
    (hc : s.checkWrite r idx sub data = .ok (o, v)) (hset : ¬(idx = 0x6800 ∧ sub = 0x0D))
    (he : writeBase r idx sub s v = (s', 0)) :
    s.writeBy r idx sub data = (s'.abandonParts r idx sub, 0) := by
  have hset' : (decide (idx = 0x6800) && decide (sub = 0x0D)) = false := by simpa using hset
  have hw : s.write r idx sub data (writeEffect r idx sub) = (s'.abandonParts r idx sub, 0) := by
    simp [State.write, hc, writeEffect, hset', he]
  simp only [State.writeBy, hw, hset', Bool.false_eq_true, if_false, State.refusedNote_zero]
  repeat' split
  all_goals rfl

/-- An accepted write whose answer does not leave first, by a requester that may write: its effect, then status 0. -/
theorem State.writeAnd_taken {s s' : State} {r : Req} {idx sub : Nat} {data : List Byte} {o : Obj} {v : Val}
    (ht : s.takes r = true) (hc : s.checkWrite r idx sub data = .ok (o, v))
    (hlater : answeredFirst idx sub = false) (hset : ¬(idx = 0x6800 ∧ sub = 0x0D))
    (he : writeBase r idx sub s v = (s', 0)) (hp : s'.power = s.power) :
    s.writeAnd r idx sub data (fun s st => s.respond r idx sub st []) =
      { s' with out := .resp r idx sub 0 [] :: s'.out, partWrites := (s'.abandonParts r idx sub).partWrites } := by
  have hp' : (s'.abandonParts r idx sub).power = s.power := hp
  simp only [State.writeAnd, State.writeBy_taken hc hset he, hlater, Bool.false_eq_true, if_false,
    State.respond_of_takes ht hp']
  rfl

/-! ### Objects that do nothing else -/

/-- The objects of the statement whose write sets the value and does nothing else. -/
def PlainObject (idx sub : Nat) : Prop :=
  idx = 0x2100 ∧ sub = 0x0B ∨ (0x1004 ≤ idx ∧ idx < 0x1010) ∨ (0x1012 ≤ idx ∧ idx < 0x1A00) ∨
    (0x2840 ≤ idx ∧ idx < 0x2848 ∧ sub ≠ 2) ∨ (0x3420 ≤ idx ∧ idx < 0x3510) ∨ (0x4800 ≤ idx ∧ idx < 0x5000 ∧ sub ≠ 0x13) ∨
    (0x6010 < idx ∧ idx < 0x6400) ∨ (0x6440 ≤ idx ∧ idx < 0x6458 ∧ sub ≠ 1 ∧ sub ≠ 0x0B)

/-! Page by page, the dispatch passes the rules of the other objects by. -/

section Plain
variable (r : Req) {idx sub : Nat} (s : State) (v : Val)

theorem writeComm_plain (h : 0x1004 ≤ idx) (h' : idx < 0x1A00) (h10 : idx ≠ 0x1010) (h11 : idx ≠ 0x1011) :
    writeComm idx sub s v = (s.wv idx sub v, 0) := by
  simp (disch := omega) only [writeComm, Bool.and_eq_true, Bool.or_eq_true, decide_eq_true_eq, if_neg]

theorem writePackage_plain (h : idx = 0x2100 ∧ sub = 0x0B ∨ 0x2840 ≤ idx ∧ idx < 0x2848 ∧ sub ≠ 2) :
    writePackage r idx sub s v = (s.wv idx sub v, 0) := by
  rcases h with ⟨rfl, rfl⟩ | ⟨hlo, hhi, hsub⟩
  · rfl
  · simp (disch := omega) only [writePackage, Bool.and_eq_true, decide_eq_true_eq, if_pos, if_neg]

theorem writeMedia_plain (h : 0x3420 ≤ idx) (h' : idx < 0x3510) : writeMedia idx sub s v = (s.wv idx sub v, 0) := by
  simp (disch := omega) only [writeMedia, Bool.and_eq_true, decide_eq_true_eq, if_neg]

theorem writePicture_plain (h : 0x4800 ≤ idx) (hsub : sub ≠ 0x13) : writePicture idx sub s v = (s.wv idx sub v, 0) := by
  simp (disch := omega) only [writePicture, Bool.and_eq_true, decide_eq_true_eq, if_pos, if_neg]

theorem writeLink_plain
    (h : 0x6010 < idx ∧ idx < 0x6400 ∨ 0x6440 ≤ idx ∧ idx < 0x6458 ∧ sub ≠ 1 ∧ sub ≠ 0x0B) :
    writeLink idx sub s v = (s.wv idx sub v, 0) := by
  simp (disch := omega) only [writeLink, Bool.and_eq_true, decide_eq_true_eq, if_neg]

end Plain

/-- A plain object's write is answered after its effect. -/
theorem PlainObject.answeredFirst {idx sub : Nat} (h : PlainObject idx sub) : answeredFirst idx sub = false := by
  simp only [Machine.answeredFirst, Bool.or_eq_false_iff, Bool.and_eq_false_iff, decide_eq_false_iff_not]
  unfold PlainObject at h
  omega

/-- No lost port owns a plain object. -/
theorem PlainObject.portRefuses {idx sub : Nat} (h : PlainObject idx sub) (s : State) : s.portRefuses idx = false := by
  have h1 : ¬(0x2910 ≤ idx ∧ idx < 0x2920) := by unfold PlainObject at h; omega
  have h2 : ¬(0x6510 ≤ idx ∧ idx < 0x6512) := by unfold PlainObject at h; omega
  simp only [State.portRefuses, Bool.or_eq_false_iff, Bool.and_eq_false_iff, decide_eq_false_iff_not]
  omega

/-- The write of such an object sets its value. -/
theorem PlainObject.writeBase {idx sub : Nat} (h : PlainObject idx sub) {o : Obj} (ho : findObj idx sub = some o)
    (hsat : o.sat = false) (r : Req) (s : State) (v : Val) : writeBase r idx sub s v = (s.wv idx sub v, 0) := by
  simp only [Machine.writeBase, ho, h.portRefuses s, hsat, Bool.false_eq_true, if_false]
  unfold PlainObject at h
  split_ifs
  · exact writeComm_plain s v (by omega) (by omega) (by omega) (by omega)
  · exact writePackage_plain r s v (by omega)
  · exact writeMedia_plain s v (by omega) (by omega)
  · exact writePicture_plain s v (by omega) (by omega)
  · omega
  · exact writeLink_plain s v (by omega)

/-- A plain write of a legal value takes it and is answered 0; nothing else changes but part writes of the object. -/
theorem PlainObject.dictionaryWrite_taken {s : State} {t : Nat} {r : Req} {idx sub : Nat} {o : Obj} {v : Val}
    {data : List Byte} (h : PlainObject idx sub) (ht : (s.tick t).takes r = true) (ho : findObj idx sub = some o)
    (hsat : o.sat = false) (hacc : o.acc = .rw) (hdec : decodeVal o.ty data = some v)
    (hsize : sizeOk o data.length = true) (hval : o.ty.valOk v = true) (hchk : o.chk.ok v = true) :
    ∃ s', exec (.dictionaryWrite t r idx sub data) s = .next s' ∧ s'.val idx sub = v ∧
      s'.out = .resp r idx sub 0 [] :: (s.tick t).out ∧ (s.tick t).odSame s' [key idx sub] ∧
      s' = { s.tick t with od := s'.od, out := s'.out, partWrites := s'.partWrites } := by
  have hc : (s.tick t).checkWrite r idx sub data = .ok (o, v) := by
    rw [State.checkWrite_of_takes ht ho hdec hsize (.inl hacc), if_pos (by simp [hval, hchk])]
  have hset : ¬(idx = 0x6800 ∧ sub = 0x0D) := by unfold PlainObject at h; omega
  have heff := State.writeAnd_taken ht hc h.answeredFirst hset (h.writeBase ho hsat r _ v) rfl
  refine ⟨_, congrArg Host.Outcome.next heff, ?_, rfl, ?_, rfl⟩
  · exact State.val_wv_same _ idx sub v
  · intro i hi
    exact Tab.look_put_other _ _ (by simpa using hi)

/-! ### Read-clears (R13) -/

/-- Objects with a rule of their own in a whole write or a read-clear, none of which is a counter: those answered before
their effect, the change set, and the record of the read-clears. -/
def placesWithoutCounter : List (Nat × Nat) :=
  [(0x2500, 0x0A), (0x2400, 0x01), (0x2011, 0x01), (0x2012, 0x01), (0x2020, 0x01), (0x2020, 0x04), (0x2020, 0x05),
   (0x2020, 0x06), (0x2020, 0x07), (0x6800, 0x0D), (0x2000, 0x07)]

/-- Their rows are not of code S. -/
theorem placesWithoutCounter_not_sat : ∀ p ∈ placesWithoutCounter, (findObj p.1 p.2).any (·.sat) = false := by decide +kernel

section Counter
variable {idx sub : Nat} {o : Obj} (ho : findObj idx sub = some o) (hsat : o.sat = true)
include ho hsat

theorem counter_not_mem_placesWithoutCounter : (idx, sub) ∉ placesWithoutCounter := by
  intro hm
  have h := placesWithoutCounter_not_sat _ hm
  simp [ho, hsat] at h

/-- A read-clear is answered after its effect. -/
theorem counter_answeredFirst : answeredFirst idx sub = false := by
  have h := counter_not_mem_placesWithoutCounter ho hsat
  simp only [placesWithoutCounter, List.mem_cons, Prod.mk.injEq, List.not_mem_nil, or_false] at h
  simp only [answeredFirst, Bool.or_eq_false_iff, Bool.and_eq_false_iff, decide_eq_false_iff_not]
  omega

theorem counter_not_changeSet : ¬(idx = 0x6800 ∧ sub = 0x0D) := by
  rintro ⟨rfl, rfl⟩
  exact counter_not_mem_placesWithoutCounter ho hsat (by decide)

theorem counter_key_ne_record : key idx sub ≠ key 0x2000 0x07 := by
  intro hk
  obtain ⟨rfl, rfl⟩ := key_inj (sub_lt_of_findObj ho) (by decide) hk
  exact counter_not_mem_placesWithoutCounter ho hsat (by decide)

/-- The zero that a read-clear writes has the counter's size, and reads as 0. -/
theorem counter_zeroOf : sizeOk o (zeroOf idx sub).length = true ∧ decodeVal o.ty (zeroOf idx sub) = some (.num 0) := by
  obtain ⟨hm, -⟩ := findObj_spec ho
  rcases objects_counter_type o hm hsat with h | h | h <;> simp only [zeroOf, ho, sizeOk, h] <;> exact ⟨rfl, rfl⟩

/-- The write of a counter clears it into 0x2000:07, but for those kept elsewhere. -/
theorem counter_writeBase {s : State} (r : Req) (hport : s.portRefuses idx = false) (h21 : idx ≠ 0x2100)
    (h23 : idx ≠ 0x2300) (h25 : idx ≠ 0x2500) (v : Val) : writeBase r idx sub s v = (s.readClear idx sub, 0) := by
  simp [writeBase, ho, hport, hsat, counterClear, h21, h23, h25]

/-- A read-clear leaves the counter 0 and its record in 0x2000:07, and nothing else changes but part writes of the
object. -/
theorem counterReadClear_taken {s : State} {t : Nat} {r : Req} (ht : (s.tick t).takes r = true)
    (hport : (s.tick t).portRefuses idx = false) (h21 : idx ≠ 0x2100) (h23 : idx ≠ 0x2300) (h25 : idx ≠ 0x2500) :
    exec (.counterReadClear t r idx sub) s = .next
      { (s.tick t).readClear idx sub with
        out := .resp r idx sub 0 [] :: (s.tick t).out
        partWrites := ((s.tick t).abandonParts r idx sub).partWrites } := by
  obtain ⟨hsize, hdec⟩ := counter_zeroOf ho hsat
  have hc : (s.tick t).checkWrite r idx sub (zeroOf idx sub) = .ok (o, .num 0) := by
    rw [State.checkWrite_of_takes ht ho hdec hsize (.inr ⟨hsat, rfl⟩), if_pos (by simp [hsat])]
  exact congrArg Host.Outcome.next (State.writeAnd_taken ht hc (counter_answeredFirst ho hsat) (counter_not_changeSet ho hsat)
    (counter_writeBase ho hsat r hport h21 h23 h25 _) rfl)

end Counter

/-- A read-clear changes the counter and its record alone. -/
theorem State.look_readClear_other (s : State) (idx sub : Nat) {i : Nat} (h : i ≠ key idx sub) (h' : i ≠ key 0x2000 0x07) :
    (s.readClear idx sub).od.look i = s.od.look i := by
  unfold State.readClear
  dsimp only
  rw [State.wb_od, Tab.look_put_other _ _ h', State.wn_od, Tab.look_put_other _ _ h]

/-- The row of 0x2100:0B, the suspect window. -/
theorem findObj_suspectWindow :
    findObj 0x2100 0x0B =
      some ⟨0x2100, 1, 0x0B, 0x0B, .u16, .rw, true, true, false, .num 10000, .rng 100 60000⟩ := by
  decide +kernel

/-- Two bytes carry a number below 2^16. -/
theorem decodeVal_u16_leBytes {v : Nat} (h : v < 65536) : decodeVal .u16 (leBytes 2 v) = some (.num v) := by
  have hv : leNat (leBytes 2 v) = v := by
    simp only [leBytes, leNat, BitVec.toNat_ofNat]
    omega
  have hlen : (leBytes 2 v).length = 2 := rfl
  simp [decodeVal, Ty.isNum, Ty.signed, Ty.size, hlen, hv]

/-- A value of 0x2100:0B out of its range is answered 6 and changes nothing. -/
theorem suspectWindow_out_of_range {s : State} {t : Nat} {r : Req} {v : Nat} (ht : (s.tick t).takes r = true)
    (hv : v < 65536) (hr : v < 100 ∨ 60000 < v) :
    exec (.dictionaryWrite t r 0x2100 0x0B (leBytes 2 v)) s =
      .next { s.tick t with out := .resp r 0x2100 0x0B 6 [] :: (s.tick t).out } := by
  have hbad : ¬((100 : Int) ≤ v ∧ (v : Int) ≤ 60000) := by omega
  have hc : (s.tick t).checkWrite r 0x2100 0x0B (leBytes 2 v) = .error 6 := by
    rw [State.checkWrite_of_takes ht findObj_suspectWindow (decodeVal_u16_leBytes hv) rfl (.inl rfl), if_neg]
    simpa [Chk.ok, Ty.valOk] using hbad
  rw [dictionaryWrite_of_checkWrite_error hc, State.respond_of_takes ht rfl]

/-- Settles O14: plain objects take legal values, 0x2100:0B stands for the refusals, and the read-clear's state is
written out. -/
theorem plainWritesAndReadClears : Obligations.PlainWritesAndReadClears := by
  unfold Obligations.PlainWritesAndReadClears
  intro s t r u ht
  refine ⟨?_, ?_, ?_, ?_⟩
  · intro v hlo hhi
    have hrange : Chk.ok (.rng 100 60000) (.num v) = true := by
      simp only [Chk.ok, Bool.and_eq_true, decide_eq_true_eq]
      omega
    obtain ⟨s', hs', hval, hrest⟩ := PlainObject.dictionaryWrite_taken (.inl ⟨rfl, rfl⟩) ht findObj_suspectWindow rfl rfl
      (decodeVal_u16_leBytes (by omega)) rfl rfl hrange
    exact ⟨s', hs', by simp [State.rn, State.rd, hval, Val.int], hrest⟩
  · exact fun v hv hr => suspectWindow_out_of_range ht hv hr
  · intro idx sub o v data ho hsat hacc hdec hsize hval hchk hidx
    exact PlainObject.dictionaryWrite_taken (.inr hidx) ht ho hsat hacc hdec hsize hval hchk
  · intro idx sub o ho hsat hport h21 h23 h25
    refine ⟨_, counterReadClear_taken ho hsat ht hport h21 h23 h25, ?_, ?_, rfl, ?_, rfl⟩
    · exact State.readClear_rn u idx sub (counter_key_ne_record ho hsat)
    · exact State.rb_wb_same _ _ _ _
    · intro i hi
      obtain ⟨hc, hrec⟩ : i ≠ key idx sub ∧ i ≠ key 0x2000 0x07 := by simpa using hi
      exact u.look_readClear_other idx sub hc hrec

end Sys2Proof.Machine
end

section
/-! SUPPORT. The live promise's statements: what the shared operations leave alone, which dictionary values they change and what they
queue, said once for each; then LVS's faults and self-tests (R69, R79), LVS's moments and the latch in a frame (R25, R67 to R72, R272,
R288), and the decode and tone map commands (R188 to R212, R259). -/

namespace Sys2Proof.Machine

/-! ### What the shared operations leave alone -/

/-- A state without what counting and raising events change: dictionary values and the log. -/
def State.sansCounts (s : State) : State := { s with od := [], log := {} }

/-- A state without what judging layers changes: dictionary values, the log, the tally's latch and the layers' rows. -/
def State.sansJudged (s : State) : State := { s.sansCounts with tally := {}, layers := [] }

/-- A state without what beginning and ending EMCY conditions changes: dictionary values, the log, the conditions and the CAN
ports' queues. -/
def State.sansConds (s : State) : State := { s.sansCounts with conds := [], cans := [] }

/-- What every step of a fold leaves alone, the fold leaves alone. -/
theorem foldl_leaves {α β : Type} (m : State → β) (f : State → α → State) (h : ∀ s a, m (f s a) = m s) (s : State)
    (l : List α) : m (l.foldl f s) = m s :=
  List.foldlRecOn l f (motive := fun s' => m s' = m s) rfl (fun _ ih a _ => (h _ a).trans ih)

section Leaves
variable (s : State)

@[simp] theorem State.raise_sansCounts (k ty sev : Nat) (pay : List (Nat × Nat)) :
    (s.raise k ty sev pay).sansCounts = s.sansCounts := by
  rw [s.raise_frame]
  rfl

@[simp] theorem State.bump_sansCounts (k idx sub n : Nat) : (s.bump k idx sub n).sansCounts = s.sansCounts := by
  rw [s.bump_frame]
  rfl

/-! Judging a layer -/

@[simp] theorem State.wn_sansJudged (idx sub v : Nat) : (s.wn idx sub v).sansJudged = s.sansJudged := rfl
@[simp] theorem State.setLayer_sansJudged (n : Nat) (l : LayerS) : (s.setLayer n l).sansJudged = s.sansJudged := rfl

@[simp] theorem State.raise_sansJudged (k ty sev : Nat) (pay : List (Nat × Nat)) :
    (s.raise k ty sev pay).sansJudged = s.sansJudged := by
  rw [s.raise_frame]
  rfl

@[simp] theorem State.setLiveness_sansJudged (n st reason mask : Nat) :
    (s.setLiveness n st reason mask).sansJudged = s.sansJudged := by
  have hch : ∀ s' : State, { s' with tally := { s'.tally with change := true } }.sansJudged = s'.sansJudged := fun _ => rfl
  unfold State.setLiveness
  dsimp only
  split_ifs <;> simp only [State.raise_sansJudged, hch, State.setLayer_sansJudged, State.wn_sansJudged]

@[simp] theorem State.refreshSummary_sansJudged (x : Nat) : (s.refreshSummary x).sansJudged = s.sansJudged := by
  simp only [State.refreshSummary, State.wn_sansJudged]

@[simp] theorem State.firstUse_sansJudged (n : Nat) : (s.firstUse n).sansJudged = s.sansJudged := rfl

@[simp] theorem State.unfence_sansJudged (n : Nat) : (s.unfence n).sansJudged = s.sansJudged := by
  unfold State.unfence
  split <;> rfl

@[simp] theorem State.degrade_sansJudged (n : Nat) : (s.degrade n).sansJudged = s.sansJudged := by
  simp [State.degrade]

/-! A unit's health -/

@[simp] theorem State.wn_sansConds (idx sub v : Nat) : (s.wn idx sub v).sansConds = s.sansConds := rfl
@[simp] theorem State.setConds_sansConds (cs : List EmcyCond) : { s with conds := cs }.sansConds = s.sansConds := rfl

@[simp] theorem State.raise_sansConds (k ty sev : Nat) (pay : List (Nat × Nat)) :
    (s.raise k ty sev pay).sansConds = s.sansConds := by
  rw [s.raise_frame]
  rfl

@[simp] theorem State.bump_sansConds (k idx sub n : Nat) : (s.bump k idx sub n).sansConds = s.sansConds := by
  rw [s.bump_frame]
  rfl

@[simp] theorem State.enqueue_sansCounts (k : Nat) (e : Ev) : (s.enqueue k e).sansCounts = s.sansCounts := by
  unfold State.enqueue State.dropEv
  dsimp only
  split_ifs <;> rfl

@[simp] theorem State.enqueue_sansConds (k : Nat) (e : Ev) : (s.enqueue k e).sansConds = s.sansConds := by
  simp [State.sansConds]

@[simp] theorem State.emcyPort_sansConds (code seq c : Nat) : (s.emcyPort code seq c).sansConds = s.sansConds := by
  unfold State.emcyPort
  dsimp only
  split_ifs
  · rfl
  · simp
  · rfl

@[simp] theorem State.raiseCond_sansConds (c : EmcyCond) (code k ty sev : Nat) (pay : List (Nat × Nat)) :
    (s.raiseCond c code k ty sev pay).sansConds = s.sansConds := by
  unfold State.raiseCond
  split <;> simp

@[simp] theorem State.endCond_sansConds (c : EmcyCond) : (s.endCond c).sansConds = s.sansConds := by
  unfold State.endCond
  dsimp only
  split_ifs <;> simp [State.emcyAll]

@[simp] theorem State.refreshHealth_sansConds : s.refreshHealth.sansConds = s.sansConds := by
  unfold State.refreshHealth
  dsimp only
  split <;> simp

/-- A change of health writes the unit's row. -/
@[simp] theorem State.setHealth_sansConds (k : Nat) (u : UnitS) (old : Nat) :
    (s.setHealth k u old).sansConds = (s.setUnit k u).sansConds := by
  unfold State.setHealth
  dsimp only
  split_ifs <;> simp

@[simp] theorem State.bump_conds (k idx sub n : Nat) : (s.bump k idx sub n).conds = s.conds :=
  (congrArg State.conds (s.bump_sansCounts k idx sub n) :)

@[simp] theorem State.enqueue_conds (k : Nat) (e : Ev) : (s.enqueue k e).conds = s.conds :=
  (congrArg State.conds (s.enqueue_sansCounts k e) :)

@[simp] theorem State.emcyPort_conds (code seq c : Nat) : (s.emcyPort code seq c).conds = s.conds := by
  unfold State.emcyPort
  dsimp only
  split_ifs
  · rfl
  · simp
  · rfl

/-- A condition raised holds. -/
theorem State.mem_raiseCond_conds (c : EmcyCond) (code k ty sev : Nat) (pay : List (Nat × Nat)) :
    c ∈ (s.raiseCond c code k ty sev pay).conds := by
  unfold State.raiseCond
  split
  · rename_i h
    simpa [State.raise] using h
  · simp

/-- A condition ended holds no longer. -/
theorem State.notMem_endCond_conds (c : EmcyCond) : c ∉ (s.endCond c).conds := by
  unfold State.endCond
  dsimp only
  split_ifs with h
  · simp [State.emcyAll]
  · simp
  · simpa using h

end Leaves

/-! ### Which dictionary values a change of health leaves alone -/

/-- The objects that a change of health may write: the health counts and the package's health, the error register, and the
counters of lost events and of lost EMCYs. -/
def healthObjects : List Nat :=
  [key 0x2100 0x03, key 0x2100 0x0D, key 0x2100 0x0E, key 0x2100 0x0F, key 0x2100 0x10, key 0x1001 0, key 0x2200 0x05,
   key 0x2011 0x07, key 0x2012 0x07]

theorem State.look_wn_other (s : State) {idx sub i : Nat} (v : Nat) (h : i ≠ key idx sub) :
    (s.wn idx sub v).od.look i = s.od.look i :=
  Tab.look_put_other _ _ h

/-- A count changes its counter and the counter of lost events alone. -/
theorem State.look_bump_other (s : State) (k : Nat) {idx sub i : Nat} (n : Nat) (h : i ≠ key idx sub)
    (h' : i ≠ key 0x2200 0x05) : (s.bump k idx sub n).od.look i = s.od.look i := by
  unfold State.bump
  dsimp only
  split_ifs <;> simp only [State.look_raise_other _ _ _ _ _ h', State.look_wn_other _ _ h]

/-- An event changes the counter of lost events alone. -/
theorem State.look_enqueue_other (s : State) (k : Nat) (e : Ev) {i : Nat} (h : i ≠ key 0x2200 0x05) :
    (s.enqueue k e).od.look i = s.od.look i := by
  unfold State.enqueue State.dropEv
  dsimp only
  split_ifs
  · rfl
  · rfl
  · exact State.look_wn_other _ _ h
  · exact State.look_wn_other _ _ h

section Health
variable (s : State) {i : Nat} (hi : i ∉ healthObjects)
include hi

theorem ne_of_not_health {j : Nat} (hj : j ∈ healthObjects) : i ≠ j := by
  rintro rfl
  exact hi hj

theorem State.look_emcyPort_other (code seq : Nat) {c : Nat} (hc : key (0x2011 + c) 0x07 ∈ healthObjects) :
    (s.emcyPort code seq c).od.look i = s.od.look i := by
  unfold State.emcyPort
  dsimp only
  split_ifs
  · rfl
  · exact s.look_bump_other _ _ (ne_of_not_health hi hc) (ne_of_not_health hi (by decide))
  · rfl

theorem State.look_endCond_other (c : EmcyCond) : (s.endCond c).od.look i = s.od.look i := by
  have herr : i ≠ key 0x1001 0 := ne_of_not_health hi (by decide)
  unfold State.endCond State.emcyAll
  dsimp only
  split_ifs
  · rw [State.look_emcyPort_other _ hi _ _ (by decide), State.look_emcyPort_other _ hi _ _ (by decide),
      State.look_wn_other _ _ herr]
  · exact State.look_wn_other _ _ herr
  · rfl

theorem State.look_raiseCond_other (c : EmcyCond) (code k ty sev : Nat) (pay : List (Nat × Nat)) :
    (s.raiseCond c code k ty sev pay).od.look i = s.od.look i := by
  have hlost : i ≠ key 0x2200 0x05 := ne_of_not_health hi (by decide)
  unfold State.raiseCond
  split
  · exact s.look_raise_other _ _ _ _ hlost
  · rw [State.look_enqueue_other _ _ _ hlost, State.look_wn_other _ _ (ne_of_not_health hi (by decide))]

theorem State.look_refreshHealth_other : s.refreshHealth.od.look i = s.od.look i := by
  have hwn : ∀ (s : State) (idx sub v : Nat), key idx sub ∈ healthObjects → (s.wn idx sub v).od.look i = s.od.look i :=
    fun s _ _ v hj => s.look_wn_other v (ne_of_not_health hi hj)
  unfold State.refreshHealth
  dsimp only
  split <;> simp (disch := decide) only [hwn]

theorem State.look_setHealth_other (k : Nat) (u : UnitS) (old : Nat) : (s.setHealth k u old).od.look i = s.od.look i := by
  have hrow : (s.setUnit k u).refreshHealth.od.look i = s.od.look i := (s.setUnit k u).look_refreshHealth_other hi
  unfold State.setHealth
  dsimp only
  split
  · rw [State.look_raiseCond_other _ hi, hrow]
  · rw [State.look_endCond_other _ hi, State.look_raise_other _ _ _ _ _ (ne_of_not_health hi (by decide)), hrow]

end Health

/-! ### Which of them judging leaves alone -/

/-- The objects of a layer and of a screen that judging writes: state, reason, conditions and grades; summary. -/
def judgedSubs : List Nat := [0x2C, 0x2D, 0x2E, 0x2F, 0x35]

/-- Objects that judging leaves alone, whichever the layer: none of these, the package's summary, or the counter of lost
events. -/
def Unjudged (i : Nat) : Prop := i % 256 ∉ judgedSubs ∧ i ≠ key 0x5000 0x07 ∧ i ≠ key 0x2200 0x05

section Unjudged
variable (s : State) {i : Nat} (hi : Unjudged i)
include hi

theorem State.look_wn_unjudged (idx v : Nat) {sub : Nat} (hs : sub ∈ judgedSubs) (hlt : sub < 256) :
    (s.wn idx sub v).od.look i = s.od.look i := by
  refine s.look_wn_other v ?_
  rintro rfl
  refine hi.1 ?_
  rwa [key, Nat.mul_add_mod', Nat.mod_eq_of_lt hlt]

theorem State.look_setLiveness_unjudged (n st reason mask : Nat) :
    (s.setLiveness n st reason mask).od.look i = s.od.look i := by
  have hrow : ∀ (s : State) (n : Nat) (l : LayerS), (s.setLayer n l).od = s.od := fun _ _ _ => rfl
  unfold State.setLiveness
  dsimp only
  split_ifs <;>
    simp (disch := decide) only [State.look_raise_other _ _ _ _ _ hi.2.2, hrow, State.look_wn_unjudged _ hi]

theorem State.look_refreshSummary_unjudged (x : Nat) : (s.refreshSummary x).od.look i = s.od.look i := by
  unfold State.refreshSummary
  dsimp only
  rw [State.look_wn_other _ _ hi.2.1, State.look_wn_unjudged _ hi _ _ (by decide) (by decide)]

theorem State.look_degrade_unjudged (n : Nat) : (s.degrade n).od.look i = s.od.look i := by
  have hun : (s.unfence n).od = s.od := by
    unfold State.unfence
    split <;> rfl
  unfold State.degrade
  dsimp only
  rw [State.look_refreshSummary_unjudged _ hi, State.look_setLiveness_unjudged _ hi]
  exact congrArg (·.look i) hun

end Unjudged

/-! ### What the shared operations queue -/

/-- Every source's queue of events has grown at its end, by at most `n` events. -/
structure Grown (n : ℕ∞) (l l' : LogS) : Prop where
  append : ∀ k, ∃ es : List Ev, l'.queues.at' k [] = l.queues.at' k [] ++ es ∧ (es.length : ℕ∞) ≤ n

theorem Grown.of_eq {l l' : LogS} (h : l'.queues = l.queues) (n : ℕ∞) : Grown n l l' :=
  ⟨fun _ => ⟨[], by simp [h], by simp⟩⟩

theorem Grown.trans {l l' l'' : LogS} {m n : ℕ∞} (h : Grown m l l') (h' : Grown n l' l'') : Grown (m + n) l l'' := by
  refine ⟨fun k => ?_⟩
  obtain ⟨es, hes, hlen⟩ := h.append k
  obtain ⟨es', hes', hlen'⟩ := h'.append k
  refine ⟨es ++ es', by rw [hes', hes, List.append_assoc], ?_⟩
  rw [List.length_append, Nat.cast_add]
  exact add_le_add hlen hlen'

theorem Grown.mono {l l' : LogS} {m n : ℕ∞} (h : Grown m l l') (hmn : m ≤ n) : Grown n l l' := by
  refine ⟨fun k => ?_⟩
  obtain ⟨es, hes, hlen⟩ := h.append k
  exact ⟨es, hes, hlen.trans hmn⟩

theorem Grown.foldl {α : Type} {f : State → α → State} (h : ∀ s a, Grown ⊤ s.log (f s a).log) (s : State) (as : List α) :
    Grown ⊤ s.log (as.foldl f s).log :=
  List.foldlRecOn as f (motive := fun s' => Grown ⊤ s.log s'.log) (.of_eq rfl _)
    (fun _ ih a _ => (ih.trans (h _ a)).mono le_top)

/-- What was as before has grown from there. -/
theorem Grown.after {l l' l'' : LogS} {n : ℕ∞} (h : Grown n l' l'') (e : l'.queues = l.queues) : Grown n l l'' :=
  ((Grown.of_eq e 0).trans h).mono (by simp)

section Grown
variable (s : State)

theorem State.queueEv_grown (k : Nat) (e : Ev) : Grown 1 s.log (s.queueEv k e).log := by
  refine ⟨fun j => ?_⟩
  by_cases hj : j = k
  · subst hj
    exact ⟨[e], Tab.at'_put_same _ _ _ _, by simp⟩
  · exact ⟨[], (Tab.at'_put_other s.log.queues _ _ hj).trans (List.append_nil _).symm, by simp⟩

/-- An event is queued, or dropped; a count of lost events that reaches its maximum is one event. -/
theorem State.enqueue_grown (k : Nat) (e : Ev) : Grown 1 s.log (s.enqueue k e).log := by
  unfold State.enqueue State.dropEv
  dsimp only
  split_ifs
  · exact s.queueEv_grown k e
  · refine .of_eq ?_ _
    rfl
  · refine (State.queueEv_grown _ _ _).after ?_
    rfl
  · refine .of_eq ?_ _
    rfl

theorem State.raise_grown (k ty sev : Nat) (pay : List (Nat × Nat)) : Grown 1 s.log (s.raise k ty sev pay).log :=
  s.enqueue_grown k _

theorem State.bump_grown (k idx sub n : Nat) : Grown 1 s.log (s.bump k idx sub n).log := by
  unfold State.bump
  dsimp only
  split_ifs
  · exact .of_eq rfl _
  · exact (State.raise_grown _ _ _ _ _).after (by rw [State.wn_log])
  · exact .of_eq rfl _

theorem State.emcyPort_grown (code seq c : Nat) : Grown 1 s.log (s.emcyPort code seq c).log := by
  unfold State.emcyPort
  dsimp only
  split_ifs
  · exact .of_eq rfl _
  · exact s.bump_grown _ _ _ _
  · exact .of_eq rfl _

theorem State.emcyAll_grown (code seq : Nat) : Grown 2 s.log (s.emcyAll code seq).log :=
  ((s.emcyPort_grown code seq 0).trans (State.emcyPort_grown _ code seq 1)).mono (by norm_num)

theorem State.endCond_grown (c : EmcyCond) : Grown 2 s.log (s.endCond c).log := by
  unfold State.endCond
  dsimp only
  split_ifs
  · exact (State.emcyAll_grown _ _ _).after (by rw [State.wn_log])
  · exact .of_eq (by rw [State.wn_log]) _
  · exact .of_eq rfl _

theorem State.refreshHealth_log : s.refreshHealth.log = s.log := by
  unfold State.refreshHealth
  dsimp only
  split <;> simp only [State.wn_log]

/-- A change of health other than a loss queues its event, and the saturations of two counters of lost EMCYs. -/
theorem State.setHealth_grown (k : Nat) (u : UnitS) (old : Nat) (h2 : u.st ≠ 2) (h5 : u.st ≠ 5) :
    Grown 3 s.log (s.setHealth k u old).log := by
  have hrow : (s.setUnit k u).refreshHealth.log = s.log := State.refreshHealth_log _
  unfold State.setHealth
  dsimp only
  rw [if_neg (by simp [h2, h5])]
  exact (((State.raise_grown _ _ _ _ _).trans (State.endCond_grown _ _)).after (by rw [hrow])).mono (by norm_num)

theorem State.setLiveness_grown (n st reason mask : Nat) : Grown 1 s.log (s.setLiveness n st reason mask).log := by
  unfold State.setLiveness
  dsimp only
  split_ifs
  · exact .of_eq (by simp only [State.wn_log]) _
  · exact .of_eq (by simp only [State.setLayer_log, State.wn_log]) _
  · exact (State.raise_grown _ _ _ _ _).after (by simp only [State.wn_log])
  · exact (State.raise_grown _ _ _ _ _).after (by simp only [State.setLayer_log, State.wn_log])

theorem State.unfence_log (n : Nat) : (s.unfence n).log = s.log := by
  unfold State.unfence
  split <;> rfl

theorem State.degrade_grown (n : Nat) : Grown 1 s.log (s.degrade n).log := by
  unfold State.degrade State.refreshSummary
  dsimp only
  simp only [State.wn_log]
  exact (State.setLiveness_grown _ n _ _ _).after (by rw [State.setLayer_log, State.unfence_log])

end Grown

/-! ### LVS's faults (R69, R79) -/

/-- A saturating counter counted has gone up, or stands at its maximum. -/
theorem State.counted_bump (s : State) (k idx sub n : Nat) : s.counted (s.bump k idx sub n) idx sub n :=
  fun o ho hle => (saturatingCountersSaturate s k idx sub n o ho hle).1

theorem State.counted.congr {s s' t t' : State} {idx sub n : Nat} (h : s.counted s' idx sub n)
    (ht : t.rn idx sub = s.rn idx sub) (ht' : t'.rn idx sub = s'.rn idx sub) : t.counted t' idx sub n := by
  intro o ho hle
  rw [ht] at hle ⊢
  rw [ht']
  exact h o ho hle

/-- With room in its source's queue, an event is queued at the end. -/
theorem State.enqueue_queues (s : State) (k : Nat) (e : Ev) (h : (s.log.queues.at' k []).length < 16) :
    (s.enqueue k e).log.queues.at' k [] = s.log.queues.at' k [] ++ [e] := by
  rw [State.enqueue, if_pos h]
  exact Tab.at'_put_same _ _ _ _

/-- With room in its source's queue, a condition's event is queued at the end. -/
theorem State.raiseCond_queues (s : State) (c : EmcyCond) (code k ty sev : Nat) (pay : List (Nat × Nat))
    (h : (s.log.queues.at' k []).length < 16) :
    ∃ e : Ev, (s.raiseCond c code k ty sev pay).log.queues.at' k [] = s.log.queues.at' k [] ++ [e] ∧ e.ty = ty ∧ e.sev = sev ∧
      e.src = s.addrOf k ∧ (e.sec, e.ns) = s.clockOf (keyDie k) ∧ e.pay = pay := by
  unfold State.raiseCond
  split
  · exact ⟨_, s.enqueue_queues k _ h, rfl, rfl, rfl, rfl, rfl⟩
  · exact ⟨_, State.enqueue_queues _ k _ h, rfl, rfl, rfl, rfl, rfl⟩

/-- What a clock says depends on the time bases and the lost die. -/
theorem State.clockOf_congr {a b : State} (ht : a.time = b.time) (hl : a.link = b.link) (die : Nat) :
    a.clockOf die = b.clockOf die := by
  simp only [State.clockOf, State.dieLost, ht, hl]

/-- A unit's address depends on the package's ID. -/
theorem State.addrOf_congr {a b : State} (hf : a.force = b.force) (hr : a.rn 0x6800 0x0A = b.rn 0x6800 0x0A) (k : Nat) :
    a.addrOf k = b.addrOf k := by
  simp only [State.addrOf, State.pkgId, State.fn, State.fval, hf, hr]

/-- A state without what an LVS fault changes beside the self-tests and the units' rows. -/
def State.sansFault (s : State) : State := { s.sansJudged with conds := [], cans := [] }

section SansFault
variable {a b : State}

theorem State.time_of_sansFault (h : a.sansFault = b.sansFault) : a.time = b.time := (congrArg State.time h :)
theorem State.link_of_sansFault (h : a.sansFault = b.sansFault) : a.link = b.link := (congrArg State.link h :)
theorem State.force_of_sansFault (h : a.sansFault = b.sansFault) : a.force = b.force := (congrArg State.force h :)
theorem State.units_of_sansFault (h : a.sansFault = b.sansFault) : a.units = b.units := (congrArg State.units h :)
theorem State.lvsTest_of_sansFault (h : a.sansFault = b.sansFault) : a.lvsTest = b.lvsTest := (congrArg State.lvsTest h :)
theorem State.lvsTestAt_of_sansFault (h : a.sansFault = b.sansFault) : a.lvsTestAt = b.lvsTestAt :=
  (congrArg State.lvsTestAt h :)
theorem State.conds_of_sansJudged (h : a.sansJudged = b.sansJudged) : a.conds = b.conds := (congrArg State.conds h :)

/-- States that differ in what a fault changes alone: one is the other with those parts. -/
theorem State.eq_of_sansFault (h : a.sansFault = b.sansFault) :
    a = { b with od := a.od, log := a.log, tally := a.tally, conds := a.conds, cans := a.cans, layers := a.layers } :=
  congrArg (fun x : State => { x with
    od := a.od, log := a.log, tally := a.tally, conds := a.conds, cans := a.cans, layers := a.layers }) h

theorem State.sansFault_of_sansJudged (h : a.sansJudged = b.sansJudged) : a.sansFault = b.sansFault :=
  congrArg (fun x : State => { x with conds := [], cans := [] }) h

theorem State.sansFault_of_sansConds (h : a.sansConds = b.sansConds) : a.sansFault = b.sansFault :=
  congrArg (fun x : State => { x with tally := {}, layers := [] }) h

theorem State.sansFault_of_sansCounts (h : a.sansCounts = b.sansCounts) : a.sansFault = b.sansFault :=
  State.sansFault_of_sansConds (congrArg (fun x : State => { x with conds := [], cans := [] }) h)

end SansFault

/-! LVS_FAULT in its three parts -/

/-- The pair's health reads SUSPECT. -/
def State.lvsSuspect (s : State) (d : Die) : State :=
  s.setHealth (lvsKey d.idx) { s.unit (lvsKey d.idx) with st := 1, prior := (s.unit (lvsKey d.idx)).st } (s.unit (lvsKey d.idx)).st

/-- Its fault is latched and its self-test runs. -/
def State.lvsLatch (s : State) (d : Die) : State :=
  (s.wn 0x5000 0x08 (setBit (s.rn 0x5000 0x08) (2 + d.idx) true)).lvsTestStart d

/-- A pair stopped, counted, latched and under test: LVS_FAULT up to its event. -/
def State.lvsStop (s : State) (d : Die) : State :=
  ((s.lvsSuspect d).bump (lvsKey d.idx) 0x5000 0x14).lvsLatch d

/-- Its event, and the condition it begins. -/
def State.lvsNote (s : State) (d : Die) : State :=
  s.raiseCond (.lvs d.idx) 0xFF01 (lvsKey d.idx) 0x0105 3 [(8, d.idx), (16, s.rn 0x5000 0x14)]

/-- The layers of a die's screens are judged anew. -/
def State.degradeDie (s : State) (d : Die) : State := (s.layersOnDie d.idx).foldl (fun s n => s.degrade n) s

theorem State.lvsFault_eq {s : State} {d : Die} (h : s.lvsStopped d.idx = false) :
    s.lvsFault d = ((s.lvsStop d).lvsNote d).degradeDie d := by
  simp only [State.lvsFault, h, Bool.false_eq_true, if_false]
  rfl

section Parts
variable (s : State) (d : Die)

theorem State.degradeDie_sansJudged : (s.degradeDie d).sansJudged = s.sansJudged :=
  foldl_leaves State.sansJudged _ (fun _ _ => State.degrade_sansJudged _ _) s _

theorem State.look_degradeDie {i : Nat} (hi : Unjudged i) : (s.degradeDie d).od.look i = s.od.look i :=
  foldl_leaves (·.od.look i) _ (fun s n => s.look_degrade_unjudged hi n) s _

theorem State.degradeDie_grown : Grown ⊤ s.log (s.degradeDie d).log :=
  Grown.foldl (fun s n => (s.degrade_grown n).mono le_top) s _

theorem State.degradeDie_conds : (s.degradeDie d).conds = s.conds :=
  State.conds_of_sansJudged (s.degradeDie_sansJudged d)

theorem State.look_lvsLatch {i : Nat} (h : i ≠ key 0x5000 0x08) : (s.lvsLatch d).od.look i = s.od.look i :=
  s.look_wn_other _ h

theorem State.lvsLatch_log : (s.lvsLatch d).log = s.log := rfl

/-- The test starts from the same fields in states that differ in what a fault changes alone. -/
theorem State.lvsLatch_sansFault {a b : State} (h : a.sansFault = b.sansFault) (d : Die) :
    (a.lvsLatch d).sansFault = (b.lvsTestStart d).sansFault :=
  congrArg (fun x : State => x.lvsTestStart d) h

/-- Up to its event a fault queues at most four others: the change of health, and saturated counters. -/
theorem State.lvsStop_grown : Grown 4 s.log (s.lvsStop d).log := by
  rw [State.lvsStop, State.lvsLatch_log]
  exact ((s.setHealth_grown _ _ _ (by simp) (by simp)).trans (State.bump_grown _ _ _ _ _)).mono (by norm_num)

theorem State.look_lvsSuspect {i : Nat} (hi : i ∉ healthObjects) : (s.lvsSuspect d).od.look i = s.od.look i :=
  s.look_setHealth_other hi _ _ _

theorem State.lvsStop_counted : s.counted (s.lvsStop d) 0x5000 0x14 1 := by
  have h : (s.lvsSuspect d).counted ((s.lvsSuspect d).bump (lvsKey d.idx) 0x5000 0x14) 0x5000 0x14 1 :=
    State.counted_bump _ _ _ _ _
  exact h.congr (State.rn_congr (s.look_lvsSuspect d (by decide)).symm) (State.rn_congr (State.look_lvsLatch _ _ (by decide)))

theorem State.lvsStop_sansFault :
    (s.lvsStop d).sansFault = ((s.setUnit (lvsKey d.idx)
      { s.unit (lvsKey d.idx) with st := 1, prior := (s.unit (lvsKey d.idx)).st }).lvsTestStart d).sansFault := by
  refine State.lvsLatch_sansFault ?_ d
  rw [State.sansFault_of_sansCounts (State.bump_sansCounts _ _ _ _ _)]
  exact State.sansFault_of_sansConds (s.setHealth_sansConds _ _ _)

theorem State.lvsStop_addrOf (k : Nat) : (s.lvsStop d).addrOf k = s.addrOf k := by
  have hforce : (s.lvsStop d).force = s.force := (State.force_of_sansFault (s.lvsStop_sansFault d)).trans rfl
  refine State.addrOf_congr hforce (State.rn_congr ?_) k
  rw [State.lvsStop, State.look_lvsLatch _ _ (by decide), State.look_bump_other _ _ _ (by decide) (by decide),
    s.look_lvsSuspect d (by decide)]

theorem State.lvsStop_clockOf (die : Nat) : (s.lvsStop d).clockOf die = s.clockOf die :=
  State.clockOf_congr (State.time_of_sansFault (s.lvsStop_sansFault d)) (State.link_of_sansFault (s.lvsStop_sansFault d)) die

end Parts

section LvsFault
variable {s : State} {d : Die} (h : s.lvsStopped d.idx = false)
include h

theorem State.lvsFault_sansFault :
    (s.lvsFault d).sansFault = ((s.setUnit (lvsKey d.idx)
      { s.unit (lvsKey d.idx) with st := 1, prior := (s.unit (lvsKey d.idx)).st }).lvsTestStart d).sansFault := by
  rw [State.lvsFault_eq h, State.sansFault_of_sansJudged (State.degradeDie_sansJudged _ d), State.lvsNote,
    State.sansFault_of_sansConds (State.raiseCond_sansConds _ _ _ _ _ _ _), s.lvsStop_sansFault d]

/-- After the count a fault leaves it as it stands. -/
theorem State.lvsFault_rn : (s.lvsFault d).rn 0x5000 0x14 = (s.lvsStop d).rn 0x5000 0x14 := by
  refine State.rn_congr ?_
  rw [State.lvsFault_eq h, State.look_degradeDie _ _ (by unfold Unjudged; decide), State.lvsNote,
    State.look_raiseCond_other _ (by decide)]

/-- A fault raises its event with the count it reaches. -/
theorem State.lvsFault_raised :
    s.raised (s.lvsFault d) (lvsKey d.idx) 0x0105 3 [(8, d.idx), (16, (s.lvsFault d).rn 0x5000 0x14)] := by
  intro hroom
  obtain ⟨l, hl, hlen⟩ := (s.lvsStop_grown d).append (lvsKey d.idx)
  have hlen : l.length ≤ 4 := by exact_mod_cast hlen
  obtain ⟨e, he, hty, hsev, hsrc, hclock, hpay⟩ := (s.lvsStop d).raiseCond_queues (.lvs d.idx) 0xFF01 (lvsKey d.idx)
    0x0105 3 [(8, d.idx), (16, (s.lvsStop d).rn 0x5000 0x14)] (by rw [hl, List.length_append]; omega)
  obtain ⟨l', hl', -⟩ := (((s.lvsStop d).lvsNote d).degradeDie_grown d).append (lvsKey d.idx)
  rw [← State.lvsFault_eq h, State.lvsNote, he, hl] at hl'
  rw [s.lvsStop_clockOf d, Prod.ext_iff] at hclock
  rw [State.lvsFault_rn h]
  exact ⟨l ++ [e] ++ l', e, by rw [hl']; simp, by simp, hty, hsev, hsrc.trans (s.lvsStop_addrOf d _), hclock.1, hclock.2, hpay⟩

end LvsFault

/-- LVS_FAULT of a pair that runs. -/
theorem State.lvsFault_stops {s : State} {d : Die} (h : s.lvsStopped d.idx = false) :
    ∃ s', s.lvsFault d = s' ∧
      s'.lvsStopped d.idx = true ∧ (s'.unit (lvsKey d.idx)).prior = (s.unit (lvsKey d.idx)).st ∧ d.idx ∈ s'.lvsTest ∧
      s.counted s' 0x5000 0x14 1 ∧ .lvs d.idx ∈ s'.conds ∧
      s.raised s' (lvsKey d.idx) 0x0105 3 [(8, d.idx), (16, s'.rn 0x5000 0x14)] ∧
      s'.lvsTestAt.look d.idx = some s.clock ∧ (∀ k, k ≠ lvsKey d.idx → s'.unit k = s.unit k) ∧
      s' = { s with od := s'.od, log := s'.log, units := s'.units, lvsTest := s'.lvsTest, lvsTestAt := s'.lvsTestAt,
                    tally := s'.tally, conds := s'.conds, cans := s'.cans, layers := s'.layers } := by
  have hcounted := (s.lvsStop_counted d).congr rfl (State.lvsFault_rn h)
  have hraised := State.lvsFault_raised h
  have hcond : .lvs d.idx ∈ (s.lvsFault d).conds := by
    rw [State.lvsFault_eq h, State.degradeDie_conds]
    exact State.mem_raiseCond_conds _ _ _ _ _ _ _
  have hleaves := State.lvsFault_sansFault h
  generalize s.lvsFault d = s' at *
  have hunits : s'.units = s.units.put (lvsKey d.idx) _ := State.units_of_sansFault hleaves
  have htest : s'.lvsTest = d.idx :: s.lvsTest.filter (· ≠ d.idx) := State.lvsTest_of_sansFault hleaves
  have hat : s'.lvsTestAt = s.lvsTestAt.put d.idx s.clock := State.lvsTestAt_of_sansFault hleaves
  refine ⟨s', rfl, ?_, ?_, by simp [htest], hcounted, hcond, hraised, by simp [hat], ?_, ?_⟩
  · simp [State.lvsStopped, State.unit, hunits]
  · simp [State.unit, hunits]
  · intro k hk
    simp only [State.unit, hunits, Tab.at'_put_other _ _ _ hk]
  · have heq := State.eq_of_sansFault hleaves
    rw [hunits, htest, hat]
    exact heq

/-! ### Self-tests -/

/-- The layers of a die's screens are judged anew from first use. -/
def State.renewDie (s : State) (d : Die) : State := (s.layersOnDie d.idx).foldl (fun s n => (s.firstUse n).degrade n) s

theorem State.renewDie_sansJudged (s : State) (d : Die) : (s.renewDie d).sansJudged = s.sansJudged :=
  foldl_leaves State.sansJudged _ (fun _ _ => (State.degrade_sansJudged _ _).trans (State.firstUse_sansJudged _ _)) s _

/-- A self-test that passes: the pair's health reads OK, its condition ends, and its layers are judged anew. -/
theorem State.lvsTested_passed {s : State} {d : Die} (h : s.lvsStopped d.idx = true) (ht : d.idx ∈ s.lvsTest) :
    s.lvsTested d true = ((({ s with lvsTest := s.lvsTest.filter (· ≠ d.idx) }.setHealth (lvsKey d.idx)
      { s.unit (lvsKey d.idx) with st := 0 } 1)).endCond (.lvs d.idx)).renewDie d := by
  have hc : s.lvsTest.contains d.idx = true := by simpa using ht
  simp only [State.lvsTested, h, hc, Bool.not_true, Bool.or_self, Bool.false_eq_true, if_false]
  rfl

/-- What follows a pair's return to OK leaves its row, and ends its condition. -/
theorem State.lvsTested_resumes {s : State} {d : Die} (h : s.lvsStopped d.idx = true) (ht : d.idx ∈ s.lvsTest) :
    ∃ s', s.lvsTested d true = s' ∧ s'.lvsStopped d.idx = false ∧ d.idx ∉ s'.lvsTest ∧ .lvs d.idx ∉ s'.conds ∧
      s' = { s with od := s'.od, log := s'.log, units := s'.units, lvsTest := s'.lvsTest, tally := s'.tally,
                    conds := s'.conds, cans := s'.cans, layers := s'.layers } := by
  have hcond : .lvs d.idx ∉ (s.lvsTested d true).conds := by
    rw [State.lvsTested_passed h ht, State.conds_of_sansJudged (State.renewDie_sansJudged _ d)]
    exact State.notMem_endCond_conds _ _
  have hleaves : (s.lvsTested d true).sansFault = ({ s with lvsTest := s.lvsTest.filter (· ≠ d.idx) }.setUnit (lvsKey d.idx)
      { s.unit (lvsKey d.idx) with st := 0 }).sansFault := by
    rw [State.lvsTested_passed h ht, State.sansFault_of_sansJudged (State.renewDie_sansJudged _ d),
      State.sansFault_of_sansConds (State.endCond_sansConds _ _), State.sansFault_of_sansConds (State.setHealth_sansConds _ _ _ _)]
  generalize s.lvsTested d true = s' at *
  have hunits : s'.units = s.units.put (lvsKey d.idx) _ := State.units_of_sansFault hleaves
  have htest : s'.lvsTest = s.lvsTest.filter (· ≠ d.idx) := State.lvsTest_of_sansFault hleaves
  refine ⟨s', rfl, by simp [State.lvsStopped, State.unit, hunits], by simp [htest], hcond, ?_⟩
  rw [hunits, htest]
  exact State.eq_of_sansFault hleaves

/-! ### The status read -/

/-- A reader that is answered is given a response: the package is up, and a response is no Ethernet output. -/
theorem State.respond_of_answers {s s' : State} {r : Req} (ha : s.answers r = true) (hp : s'.power = s.power)
    (idx sub st : Nat) (v : List Byte) :
    s'.respond r idx sub st v = { s' with out := .resp r idx sub st v :: s'.out } := by
  simp only [State.answers, State.dictReady, Bool.and_eq_true, Bool.or_eq_true, decide_eq_true_eq] at ha
  obtain ⟨⟨⟨⟨-, hphase⟩, -⟩, -⟩, hr⟩ := ha
  have hsay : s'.say (.resp r idx sub st v) = { s' with out := .resp r idx sub st v :: s'.out } := by
    unfold State.say
    rw [if_neg]
    rcases hphase with h | h <;> simp [Out.always, Out.onEthernet, hp, h]
  cases r with
  | changeSet => exact absurd rfl hr
  | can | zdp | mailbox => exact hsay

/-- A read whose effect answers status 0 is answered with the value's image. -/
theorem State.readReq_taken {s s' : State} {r : Req} {idx sub : Nat} {ty : Ty} {v : Val} {eff : State → State × Nat × Val}
    (ha : s.answers r = true) (ho : (findObj idx sub).map (fun o => (o.ty, o.acc)) = some (ty, .ro))
    (he : eff s = (s', 0, v)) (hp : s'.power = s.power) :
    s.readReq r idx sub eff = { s' with out := .resp r idx sub 0 (encodeVal ty v) :: s'.out } := by
  have hready : s.dictReady = true := by
    simp only [State.answers, Bool.and_eq_true] at ha
    exact ha.1
  obtain ⟨o, hfound, hrow⟩ := Option.map_eq_some_iff.1 ho
  obtain ⟨rfl, hacc⟩ := Prod.mk.inj hrow
  have hc : s.checkRead r idx sub = .ok o := by
    simp [State.checkRead, idxExists_of_findObj hfound, hfound, hready, hacc]
  simp only [State.readReq, hc, he, if_true]
  exact State.respond_of_answers ha hp idx sub 0 _

/-- The row of the LVS status. -/
theorem findObj_lvsStatus : (findObj 0x5000 0x08).map (fun o => (o.ty, o.acc)) = some (.u8, .ro) := by decide +kernel

/-- One byte carries a number modulo 256. -/
theorem encodeVal_u8 (n : Nat) : encodeVal .u8 (.num n) = leBytes 1 n := by
  have h : wrapInt 1 n = n % 256 := by
    simp only [wrapInt]
    omega
  have hb : BitVec.ofNat 8 (n % 256) = BitVec.ofNat 8 n := by simp [BitVec.toNat_eq]
  simp [encodeVal, Ty.size, leBytes, h, hb]

/-- The status read answers the pairs and the latched faults, and clears them. -/
theorem lvsStatusRead_clears {s : State} {r : Req} (ha : s.answers r = true) :
    ∃ s', s.readReq r 0x5000 0x08 lvsStatus = s' ∧ s'.rn 0x5000 0x08 = 0 ∧
      s'.out = .resp r 0x5000 0x08 0 (leBytes 1 s.lvsWord) :: s.out ∧ s.odSame s' [key 0x5000 0x08] ∧
      s' = { s with od := s'.od, out := s'.out } := by
  refine ⟨_, s.readReq_taken ha findObj_lvsStatus rfl rfl, State.rn_wn_same s _ _ _, ?_, ?_, rfl⟩
  · rw [encodeVal_u8]
    rfl
  · exact fun i hi => Tab.look_put_other _ _ (by simpa using hi)

/-- Settles O17: a fault is a stop, its event and the layers' judgement; a test passed is a change of health, its condition's
end and the layers' judgement. -/
theorem lvsFaultsStopAndResume : Obligations.LvsFaultsStopAndResume := by
  unfold Obligations.LvsFaultsStopAndResume
  intro s t d u
  have hnext : ∀ {a b : State}, a = b → (.next a : Host.Outcome State Fault Refusal) = .next b := congrArg _
  refine ⟨?_, ?_, ?_, ?_, ?_⟩
  · intro h
    obtain ⟨s', hs', hrest⟩ := State.lvsFault_stops h
    exact ⟨s', hnext hs', hrest⟩
  · intro h ht
    obtain ⟨s', hs', hrest⟩ := State.lvsTested_resumes h ht
    have hc : u.lvsTest.contains d.idx = true := by simpa using ht
    refine ⟨⟨s', hnext hs', hrest⟩, hnext ?_⟩
    simp only [State.lvsTested, u, h, hc]
    rfl
  · intro h hdue
    refine ⟨u.lvsTestStart d, hnext ?_, by simp [State.lvsTestStart], by simp [State.lvsTestStart], rfl⟩
    rw [State.lvsRetry, if_pos (by simp [u, h, hdue])]
  · intro h
    refine hnext ?_
    rw [State.lvsRetry, if_neg]
    rcases h with h | h <;> simp [u, h]
  · intro r ha
    obtain ⟨s', hs', hrest⟩ := lvsStatusRead_clears ha
    exact ⟨s', hnext hs', hrest⟩

/-! ### A latch of a pressed layer (R288, R574) -/

/-- A screen whose one layer, a ZTT session's, is pressed, with an outgoing relay of the screen's pressed plane. -/
def pressedPlaneRelayed : State :=
  { od := [(key (sIdx 7) 0x02, .num 3), (key (sIdx 7) 0x04, .num 2), (key (lIdx 5) 0x01, .num 1)]
    force := [(key (lIdx 5) 0x01, .num 1), (key (lIdx 5) 0x03, .num 7), (key 0x4310 0x01, .num 1)]
    screens := [(0, { run := true, implicit := true })]
    sys := { relays := [(259, { source := 160, mode := 1, cost := 0, port := 0, ctx := none, load := 0 })] } }

/-- It meets the hypotheses on a latch of one layer. -/
theorem pressedPlaneRelayed_latches :
    let u := pressedPlaneRelayed.tick 0
    (u.screen 0).run = true ∧ (u.screen 0).latched = false ∧ (u.screen 0).implicit = true ∧ u.member 0 = false ∧ 0 < 24 ∧
      u.unavailable 0 = false ∧ u.restarting (0 / 12) .cmp = false ∧ u.idleSpare = false ∧ u.commits = [] ∧
      u.layersOn 0 = [5] := by
  decide +kernel

/-- Its latch sends the relay's heartbeat, which takes the relay's next number. -/
theorem pressedPlaneRelayed_relay_number :
    ((pressedPlaneRelayed.tick 0).relay 259).number = 0 ∧ (((pressedPlaneRelayed.tick 0).latch 0).relay 259).number = 1 := by
  decide +kernel

/-- Refutes O16: the statement's frame keeps `sys`, but where the one layer is pressed and an outgoing relay carries the
screen's pressed plane, its latch sends the relay's heartbeat (R574), and the relay's row of `sys` moves on. -/
theorem not_layersAreJudgedAtTheLatch : ¬ Obligations.LayersAreJudgedAtTheLatch := by
  unfold Obligations.LayersAreJudgedAtTheLatch
  intro h
  obtain ⟨hrun, hlatched, himplicit, hmember, hx, havail, hcmp, hspare, hcommits, hlayers⟩ := pressedPlaneRelayed_latches
  obtain ⟨s', hs', -, -, -, hframe⟩ :=
    h pressedPlaneRelayed 0 0 5 hrun hlatched himplicit hmember hx havail hcmp hspare hcommits hlayers
  obtain ⟨hbefore, hafter⟩ := pressedPlaneRelayed_relay_number
  have hlatch : (pressedPlaneRelayed.tick 0).latch 0 = s' := Host.Outcome.next.inj hs'
  have hsys : s'.sys = (pressedPlaneRelayed.tick 0).sys := (congrArg State.sys hframe :)
  rw [hlatch, State.relay, hsys] at hafter
  exact absurd (hbefore.symm.trans hafter) (by decide)

/-! ### LVS's moments in a frame (R25, R67, R68, R70 to R72) -/

/-- A mapping older than the limit stops being one. -/
theorem State.mappingExpiry_expires {s : State} {n : Nat} {v : Nat × Nat × Nat} (hsr : (s.ses n).sr = some v)
    (h : v.2.2 + s.rn 0x5000 0x06 * sTicks < s.clock) :
    s.mappingExpiry n = s.setSes n { s.ses n with mapOk := false } := by
  simp only [State.mappingExpiry, hsr, if_pos h]

/-- What states that differ in judging alone share. -/
theorem State.screens_of_sansJudged {a b : State} (h : a.sansJudged = b.sansJudged) : a.screens = b.screens :=
  (congrArg State.screens h :)

/-- States that differ in judging and in a screen's row alone: one is the other with those parts. -/
theorem State.eq_setScreen_of_sansJudged {a b : State} (h : a.sansJudged = b.sansJudged) (x : Nat) (c : ScreenS) :
    let a' := a.setScreen x c
    a' = { b with od := a'.od, log := a'.log, tally := a'.tally, layers := a'.layers, screens := a'.screens } :=
  congrArg (fun e : State => { e with
    od := a.od, log := a.log, tally := a.tally, layers := a.layers, screens := a.screens.put x c }) h

@[simp] theorem State.scanCheck_sansJudged (s : State) (n : Nat) : (s.scanCheck n).sansJudged = s.sansJudged := by
  unfold State.scanCheck
  dsimp only
  split_ifs <;> simp

@[simp] theorem State.markLayers_sansJudged (s : State) (ns : List Nat) (f : LayerS → LayerS) :
    (s.markLayers ns f).sansJudged = s.sansJudged := by
  refine foldl_leaves State.sansJudged _ (fun s n => ?_) s ns
  split <;> rfl

/-- A strip check judges the screen's layers, marks U's fault and creases LIVE segments, among them those too old or under the
fault. -/
theorem State.recheck_eq {s : State} {x : Nat} (k : Nat) (hrun : (s.screen x).run = true)
    (hservice : (s.screen x).service = false) (hlvs : s.lvsStopped (x / 12) = false) (hfence : s.screenFence x = none) :
    ∃ (s₁ : State) (bad : List Segm), s₁.sansJudged = s.sansJudged ∧
      s.recheck x k = s₁.setScreen x { s₁.screen x with
        uFault := !s.lockedFor (x / 12) || (s.screen x).uFault
        crease := (s.screen x).crease ++ bad.map (fun g => (k, g.xs, g.xe)) } ∧
      (∀ g ∈ bad, g ∈ ((s.screen x).ledger.at' k {}).segs ∧ g.state = 1) ∧
      (∀ g ∈ ((s.screen x).ledger.at' k {}).segs, g.state = 1 →
        (!s.lockedFor (x / 12) || (s.screen x).uFault) = true ∨
          s.tooOld (x / 12) ((s.screen x).start + s.linesNs x (s.stripEnd x k)) g.cap g.budget = true → g ∈ bad) := by
  unfold State.recheck
  rw [if_neg (by simp [hrun, hservice, hlvs, hfence])]
  refine ⟨_, _, ?_, rfl, ?_, ?_⟩
  · rw [foldl_leaves State.sansJudged _ (fun _ _ => State.scanCheck_sansJudged _ _), State.markLayers_sansJudged]
    split
    · exact State.markLayers_sansJudged _ _ _
    · rfl
  · intro g hg
    simp only [List.mem_filter, decide_eq_true_eq] at hg
    exact hg.1
  · intro g hg hlive hold
    simp only [List.mem_filter, decide_eq_true_eq, Bool.or_eq_true, List.contains_iff_mem]
    refine ⟨⟨hg, hlive⟩, .inl ?_⟩
    by_cases hf : (!s.lockedFor (x / 12) || (s.screen x).uFault) = true
    · exact .inl (by simpa using hf)
    · refine .inr ?_
      rw [if_neg (by simpa using hf)]
      exact List.mem_filter.2 ⟨List.mem_filter.2 ⟨hg, by simpa using hlive⟩, hold.resolve_left hf⟩

/-- LVS_STRIP_RECHECK of a screen in service that is not fenced. -/
theorem State.recheck_marks {s : State} {x : Nat} (k : Nat) (hrun : (s.screen x).run = true)
    (hservice : (s.screen x).service = false) (hlvs : s.lvsStopped (x / 12) = false) (hfence : s.screenFence x = none) :
    ∃ s', s.recheck x k = s' ∧
      (s'.screen x).uFault = (!s.lockedFor (x / 12) || (s.screen x).uFault) ∧
      (∀ e ∈ (s.screen x).crease, e ∈ (s'.screen x).crease) ∧
      (∀ e ∈ (s'.screen x).crease, e ∈ (s.screen x).crease ∨
        ∃ g ∈ ((s.screen x).ledger.at' k {}).segs, g.state = 1 ∧ e = (k, g.xs, g.xe)) ∧
      (∀ g ∈ ((s.screen x).ledger.at' k {}).segs, g.state = 1 →
        ((s'.screen x).uFault = true ∨
          s.tooOld (x / 12) ((s.screen x).start + s.linesNs x (s.stripEnd x k)) g.cap g.budget = true) →
        (k, g.xs, g.xe) ∈ (s'.screen x).crease) ∧
      (∀ y, y ≠ x → s'.screen y = s.screen y) ∧
      s' = { s with od := s'.od, log := s'.log, tally := s'.tally, layers := s'.layers, screens := s'.screens } := by
  obtain ⟨s₁, bad, hjudged, heq, hbad, hold⟩ := State.recheck_eq k hrun hservice hlvs hfence
  have hscreens := State.screens_of_sansJudged hjudged
  have hrow : (s.recheck x k).screen x = { s₁.screen x with
      uFault := !s.lockedFor (x / 12) || (s.screen x).uFault
      crease := (s.screen x).crease ++ bad.map (fun g => (k, g.xs, g.xe)) } := by rw [heq, State.screen_setScreen_same]
  refine ⟨_, rfl, by rw [hrow], ?_, ?_, ?_, ?_, ?_⟩
  · intro e he
    rw [hrow]
    exact List.mem_append_left _ he
  · intro e he
    rw [hrow] at he
    refine (List.mem_append.1 he).imp_right fun hmem => ?_
    obtain ⟨g, hg, rfl⟩ := List.mem_map.1 hmem
    exact ⟨g, (hbad g hg).1, (hbad g hg).2, rfl⟩
  · intro g hg hlive h
    rw [hrow] at h ⊢
    exact List.mem_append_right _ (List.mem_map_of_mem (hold g hg hlive h))
  · intro y hy
    rw [heq, State.screen_setScreen_other _ _ hy]
    simp only [State.screen, hscreens]
  · rw [heq]
    exact State.eq_setScreen_of_sansJudged hjudged x _

section ReadBack
variable {s : State} {n : Nat} (wrong : List LinkPx) (hon : s.layerOn n = true) (hhidden : (s.layer n).hidden = false)
  (hcompared : (s.layer n).compared = false) (hgone : s.gone (lvsUnit (s.fn (lIdx n) 0x02)) = false)
  (hsegs : s.stitchSegs (s.fn (lIdx n) 0x02) n ≠ [])
  (hpassed : s.platesPassed (s.fn (lIdx n) 0x02) (s.stitchSegs (s.fn (lIdx n) 0x02) n) = true)
  (haltered : s.platesAltered (s.fn (lIdx n) 0x02) (s.stitchSegs (s.fn (lIdx n) 0x02) n) = false)
include hon hhidden hcompared hgone hsegs hpassed haltered

/-- A stitch whose marks all arrived with its value. -/
theorem State.readBack_equal (h : ∀ g ∈ s.stitchSegs (s.fn (lIdx n) 0x02) n, ∃ p, g.plate = some p ∧
      marksValue (s.readMarks (s.fn (lIdx n) 0x02) p wrong) = some g.stitchVal) :
    ∃ s', s.readBack n wrong = s' ∧
      s'.layer n = { s.layer n with rbOk := decide (s.rn (lIdx n) 0x2C = 1), compared := true } ∧
      s' = { s with od := s'.od, layers := s'.layers } := by
  unfold State.readBack
  rw [if_neg (by simp [hon, hhidden, hcompared, hgone, hsegs, hpassed, haltered]), if_pos]
  · dsimp only
    split_ifs
    · exact ⟨_, rfl, State.layer_setLayer_same _ _ _, rfl⟩
    · exact ⟨_, rfl, State.layer_setLayer_same _ _ _, rfl⟩
  · refine List.all_eq_true.2 fun g hg => ?_
    obtain ⟨p, hp, hv⟩ := h g hg
    simp [hp, hv]

/-- A stitch of which some segment's marks arrived otherwise. -/
theorem State.readBack_mismatch (h : ∃ g ∈ s.stitchSegs (s.fn (lIdx n) 0x02) n, ∀ p, g.plate = some p →
      marksValue (s.readMarks (s.fn (lIdx n) 0x02) p wrong) ≠ some g.stitchVal) :
    s.readBack n wrong = (s.bump (lvsKey (s.fn (lIdx n) 0x02 / 12)) 0x5000 0x13).setLayer n
      { s.layer n with rback := true, rbOk := false, compared := true, run := 0 } := by
  obtain ⟨g, hg, hne⟩ := h
  unfold State.readBack
  rw [if_neg (by simp [hon, hhidden, hcompared, hgone, hsegs, hpassed, haltered]), if_neg]
  refine fun hall => ?_
  have hg := List.all_eq_true.1 hall g hg
  cases hp : g.plate with
  | none => simp [hp] at hg
  | some p => exact hne p hp (by simpa [hp] using hg)

end ReadBack

/-! ### What a latch leaves of the screens' rows (R272 to R276, R288, R291) -/

section Screens
variable (s : State)

@[simp] theorem State.bump_screens (k idx sub n : Nat) : (s.bump k idx sub n).screens = s.screens :=
  (congrArg State.screens (s.bump_sansCounts k idx sub n) :)

@[simp] theorem State.raise_screens (k ty sev : Nat) (pay : List (Nat × Nat)) : (s.raise k ty sev pay).screens = s.screens :=
  (congrArg State.screens (s.raise_sansCounts k ty sev pay) :)

@[simp] theorem State.say_screens (o : Out) : (s.say o).screens = s.screens := by
  rcases s.say_cases o with h | h <;> rw [h]

/-! Layers -/

@[simp] theorem State.bump_sansJudged (k idx sub n : Nat) : (s.bump k idx sub n).sansJudged = s.sansJudged := by
  rw [s.bump_frame]
  rfl

@[simp] theorem State.latchPipes_sansJudged (n : Nat) : (s.latchPipes n).sansJudged = s.sansJudged := by
  unfold State.latchPipes
  dsimp only
  split_ifs <;> simp only [State.wn_sansJudged, State.bump_sansJudged, State.setLayer_sansJudged]

@[simp] theorem State.latchTiles_sansJudged (n : Nat) : (s.latchTiles n).sansJudged = s.sansJudged := by
  simp only [State.latchTiles, State.wn_sansJudged, State.setLayer_sansJudged]

@[simp] theorem State.latchStitch_sansJudged (n : Nat) : (s.latchStitch n).sansJudged = s.sansJudged := by
  unfold State.latchStitch
  dsimp only
  split_ifs <;> simp only [State.raise_sansJudged, State.setLayer_sansJudged]

@[simp] theorem State.latchFloor_sansJudged (n : Nat) (set : List Nat) : (s.latchFloor n set).sansJudged = s.sansJudged := by
  unfold State.latchFloor
  dsimp only
  split_ifs <;> simp only [State.raise_sansJudged, State.wn_sansJudged]

@[simp] theorem State.evaluate_sansJudged (n : Nat) : (s.evaluate n).sansJudged = s.sansJudged := by
  unfold State.evaluate
  dsimp only
  split_ifs <;> simp only [State.setLiveness_sansJudged, State.setLayer_sansJudged, State.wn_sansJudged, State.unfence_sansJudged]

@[simp] theorem State.refreshPipes_sansJudged : s.refreshPipes.sansJudged = s.sansJudged := by
  simp only [State.refreshPipes, State.wn_sansJudged]

/-- A latch of a screen's layers is judging. -/
theorem State.latchLayers_sansJudged (x : Nat) (set : List Nat) : (s.latchLayers x set).sansJudged = s.sansJudged := by
  unfold State.latchLayers
  dsimp only
  rw [State.refreshSummary_sansJudged, State.refreshPipes_sansJudged, State.wn_sansJudged, State.wn_sansJudged,
    foldl_leaves State.sansJudged _ (fun _ _ => State.wn_sansJudged _ _ _ _),
    foldl_leaves State.sansJudged _ (fun _ _ => (State.latchFloor_sansJudged _ _ _).trans (State.evaluate_sansJudged _ _)),
    foldl_leaves State.sansJudged _ (fun _ _ => (State.latchStitch_sansJudged _ _).trans (State.latchTiles_sansJudged _ _)),
    foldl_leaves State.sansJudged _ (fun _ _ => State.latchPipes_sansJudged _ _)]

theorem State.latchLayers_screens (x : Nat) (set : List Nat) : (s.latchLayers x set).screens = s.screens :=
  State.screens_of_sansJudged (s.latchLayers_sansJudged x set)

/-! Commits -/

@[simp] theorem State.receipt_screens (r : Receipt) : (s.receipt r).screens = s.screens := by
  simp [State.receipt]

@[simp] theorem State.putCommit_screens (c : CommitS) : (s.putCommit c).screens = s.screens := rfl

@[simp] theorem State.dropPart_screens (x : Nat) : (s.dropPart x).screens = s.screens :=
  foldl_leaves State.screens _ (fun _ _ => (State.putCommit_screens _ _).trans (State.receipt_screens _ _)) s _

@[simp] theorem State.overlay_screens (vs : List (Nat × Val)) : (s.overlay vs).screens = s.screens := by
  unfold State.overlay
  refine foldl_leaves State.screens _ (fun s p => ?_) s vs
  rfl

@[simp] theorem State.landSlot_screens (n : Nat) (on : Bool) (src : Nat) : (s.landSlot n on src).screens = s.screens := by
  refine State.screens_of_sansJudged ?_
  unfold State.landSlot
  dsimp only
  split_ifs <;> simp

@[simp] theorem State.land_screens (c : CommitS) (x : Nat) : (s.land c x).screens = s.screens := by
  unfold State.land
  dsimp only
  simp only [State.putCommit_screens, State.bump_screens, State.wn_screens, State.receipt_screens]
  rw [foldl_leaves State.screens _ (fun _ _ => State.landSlot_screens _ _ _ _), State.overlay_screens]

theorem State.landAll_screens (ids : List Nat) (x : Nat) : (State.landAll ids x s).1.screens = s.screens := by
  induction ids generalizing s with
  | nil => rfl
  | cons id ids ih =>
    rw [State.landAll]
    split
    · exact ih s
    · split
      · exact s.putCommit_screens _
      · exact (ih _).trans (s.land_screens _ x)

/-! Encode contexts -/

@[simp] theorem State.encStopWith_screens (e reason : Nat) : (s.encStopWith e reason).screens = s.screens := by
  simp [State.encStopWith, State.refreshEncode, State.enterEnc]

@[simp] theorem State.encRecheck_screens (touched : Nat → Bool) : (s.encRecheck touched).screens = s.screens := by
  refine foldl_leaves State.screens _ (fun s e => ?_) s _
  split_ifs <;> simp

@[simp] theorem State.encLatch_screens (x : Nat) (p : Plan) : (s.encLatch x p).screens = s.screens := by
  refine foldl_leaves State.screens _ (fun s e => ?_) s _
  split
  · rfl
  · split <;> rfl

/-! Relays and leases -/

@[simp] theorem State.unicast_screens (ty op dst : Nat) (pay : List Byte) : (s.unicast ty op dst pay).screens = s.screens := by
  unfold State.unicast State.ready
  split
  · rfl
  · split
    · split <;> rfl
    · rfl

@[simp] theorem State.relayStream_screens (no : Nat) (b : List Byte) : (s.relayStream no b).screens = s.screens := by
  refine foldl_leaves State.screens _ (fun s p => ?_) s _
  exact (State.unicast_screens _ _ _ _ _).trans rfl

@[simp] theorem State.relayCoded_screens (no : Nat) (b : List Byte) : (s.relayCoded no b).screens = s.screens := by
  unfold State.relayCoded
  split
  · rfl
  · refine foldl_leaves State.screens _ (fun s i => ?_) s _
    dsimp only
    split_ifs <;> simp

@[simp] theorem State.relayPlane_screens (x w h : Nat) (cap : Option Nat) : (s.relayPlane x w h cap).screens = s.screens := by
  refine foldl_leaves State.screens _ (fun s no => ?_) s _
  exact (State.relayCoded_screens _ _ _).trans rfl

@[simp] theorem State.relayBeat_screens (x : Nat) (cap : Option Nat) (live : Bool) :
    (s.relayBeat x cap live).screens = s.screens := by
  refine foldl_leaves State.screens _ (fun s no => ?_) s _
  exact (State.relayCoded_screens _ _ _).trans rfl

@[simp] theorem State.relayRun_screens (x : Nat) (run : List PlanL) (new : Bool) : (s.relayRun x run new).screens = s.screens := by
  unfold State.relayRun
  dsimp only
  split_ifs <;> simp

@[simp] theorem State.leaseSelected_screens (ls : List PlanL) : (s.leaseSelected ls).screens = s.screens := by
  refine foldl_leaves State.screens _ (fun s l => ?_) s _
  dsimp only
  split <;> rfl

@[simp] theorem State.firstUse_screens (n : Nat) : (s.firstUse n).screens = s.screens := rfl

end Screens

/-! ### The latch -/

section Latch
variable (s : State) (x : Nat)

theorem State.screen_of_screens {a b : State} (h : a.screens = b.screens) (x : Nat) : a.screen x = b.screen x := by
  simp only [State.screen, h]

/-- A latch's press keeps that the frame is latched. -/
theorem State.latchPress_latched (run : List PlanL) : ((s.latchPress x run).screen x).latched = (s.screen x).latched := by
  unfold State.latchPress
  extract_lets i s₁ want old sc s₂ s₃
  have hwn : ∀ (a : State) (sub v : Nat), (a.wn i sub v).screen x = a.screen x := fun a _ _ =>
    State.screen_of_screens (a.wn_screens _ _ _) x
  split
  · rw [hwn, hwn]
  have hsc : sc.latched = (s.screen x).latched := by
    simp only [sc, old, s₁, hwn]
    split <;> rfl
  have h₂ : (s₂.screen x).latched = (s.screen x).latched := by rw [State.screen_setScreen_same, hsc]
  have h₃ : (s₃.screen x).latched = (s.screen x).latched := by
    simp only [s₃]
    split
    · exact h₂
    · rw [State.screen_setScreen_same, hsc]
  split
  · rw [hwn, h₂]
  · rw [State.screen_of_screens (State.bump_screens _ _ _ _ _), hwn, h₃]

/-- Putting the plan in place keeps that the frame is latched. -/
theorem State.openCompose_latched (p : Plan) : ((s.openCompose x p).screen x).latched = (s.screen x).latched := by
  unfold State.openCompose
  dsimp only
  split <;> rw [State.screen_setScreen_same]

theorem State.latchPlan_latched : ((s.latchPlan x).screen x).latched = (s.screen x).latched := by
  unfold State.latchPlan
  dsimp only
  rw [State.screen_of_screens (State.encLatch_screens _ _ _), State.screen_of_screens (State.leaseSelected_screens _ _),
    State.openCompose_latched, State.screen_of_screens (State.relayRun_screens _ _ _ _), State.latchPress_latched]

theorem State.latch_latched {s : State} {x : Nat} (hrun : (s.screen x).run = true) (hlatched : (s.screen x).latched = false)
    (hmember : s.member x = false) (hx : x < 24) : ((s.latch x).screen x).latched = true := by
  have hset : ((s.setScreen x { s.screen x with latched := true }).screen x).latched = true := by
    rw [State.screen_setScreen_same]
  unfold State.latch
  rw [if_neg (by simp [hrun, hlatched, hmember, hx])]
  dsimp only
  generalize s.setScreen x { s.screen x with latched := true } = a at *
  split
  · rwa [State.screen_of_screens (State.latchLayers_screens _ _ _), State.screen_of_screens (State.dropPart_screens _ _)]
  split
  · rwa [State.screen_of_screens (State.latchLayers_screens _ _ _)]
  rw [State.latchPlan_latched, State.screen_of_screens (State.latchLayers_screens _ _ _)]
  have hland : ((State.landAll ((a.commits.filter fun c => bit c.taken x).map (·.id)) x a).1.screen x).latched = true := by
    rwa [State.screen_of_screens (State.landAll_screens _ _ _)]
  generalize State.landAll _ x a = r at *
  have hfirst : ∀ (b : State) (l : List Nat), ((l.foldl (fun s n => s.firstUse n) b).screen x) = b.screen x := fun b l =>
    State.screen_of_screens (foldl_leaves State.screens _ (fun _ _ => State.firstUse_screens _ _) b l) x
  split_ifs <;> simp only [State.screen_of_screens (State.encRecheck_screens _ _), hfirst, State.screen_setScreen_same, hland]

end Latch

/-! ### A latch of a screen without layers (R272) -/

/-- A state without what a latch of a screen with no layers changes. -/
def State.sansLatch (s : State) : State := { s with od := [], screens := [], encs := [] }

/-- States that differ in what such a latch changes alone: one is the other with those parts. -/
theorem State.eq_of_sansLatch {a b : State} (h : a.sansLatch = b.sansLatch) :
    a = { b with od := a.od, screens := a.screens, encs := a.encs } :=
  congrArg (fun e : State => { e with od := a.od, screens := a.screens, encs := a.encs }) h

section Leaves
variable (s : State)

@[simp] theorem State.wn_sansLatch (idx sub v : Nat) : (s.wn idx sub v).sansLatch = s.sansLatch := rfl
@[simp] theorem State.setScreen_sansLatch (x : Nat) (c : ScreenS) : (s.setScreen x c).sansLatch = s.sansLatch := rfl
@[simp] theorem State.refreshLeases_sansLatch : s.refreshLeases.sansLatch = s.sansLatch := rfl

end Leaves

/-! Counting leaves the slots alone -/

theorem Tab.keys_put_filter {α : Type} (t : Tab α) (i : Nat) (v : α) (f : Nat → Nat) (p : Nat → Bool) (h : p (f i) = false) :
    ((t.put i v).map fun q => f q.1).filter p = (t.map fun q => f q.1).filter p := by
  induction t with
  | nil => simp [Tab.put, h]
  | cons q t ih =>
    obtain ⟨k, w⟩ := q
    unfold Tab.put
    split
    · simp [h]
    split
    · next hik => subst hik; simp [h]
    · simp only [List.map_cons, List.filter_cons, ih]

/-- A write outside the slots' objects leaves the enabled layers of a screen alone. -/
theorem State.layersOn_wn (s : State) {idx sub : Nat} (v x : Nat) (hidx : 0x4100 ≤ idx) (hsub : sub < 256) :
    (s.wn idx sub v).layersOn x = s.layersOn x := by
  have hslots : (s.wn idx sub v).slotsUsed = s.slotsUsed := by
    unfold State.slotsUsed
    rw [show (s.wn idx sub v).od = s.od.put (key idx sub) (.num v) from rfl,
      Tab.keys_put_filter s.od _ _ (fun k => k / 256) _ (by
        have hkey : key idx sub / 256 = idx := by simp only [key]; omega
        simp [hkey, hidx])]
  unfold State.layersOn
  rw [hslots]
  rfl

theorem State.layersOn_setScreen (s : State) (x y : Nat) (c : ScreenS) : (s.setScreen y c).layersOn x = s.layersOn x := rfl

/-- A write of another subindex leaves a number alone. -/
theorem State.rn_wn_sub (s : State) (idx v i : Nat) {sub b : Nat} (h : b ≠ sub) (hsub : sub < 256) (hb : b < 256) :
    (s.wn idx sub v).rn i b = s.rn i b :=
  State.rn_wn_other _ _ (by simp only [key]; omega)

section NoLayers
variable {s : State} {x : Nat} (hnone : s.layersOn x = [])
include hnone

theorem State.latchLayers_none : ∃ c, s.latchLayers x [] = c ∧ c.sansLatch = s.sansLatch ∧ c.screens = s.screens ∧
    c.layersOn x = [] ∧ c.rn (scrIdx x) 0x16 = s.rn (scrIdx x) 0x16 := by
  refine ⟨_, rfl, ?_, s.latchLayers_screens x [], ?_, ?_⟩
  · unfold State.latchLayers State.refreshSummary State.refreshPipes
    simp only [hnone, List.foldl_nil, State.wn_sansLatch]
  · unfold State.latchLayers State.refreshSummary State.refreshPipes
    simp only [hnone, List.foldl_nil]
    simp only [State.layersOn_wn, scrIdx, hnone, Nat.reduceLeDiff, Nat.reduceLT, Nat.le_add_right_of_le]
  · unfold State.latchLayers State.refreshSummary State.refreshPipes
    simp only [hnone, List.foldl_nil]
    simp only [State.rn_wn_sub, ne_eq, Nat.reduceEqDiff, not_false_eq_true, Nat.reduceLT]

/-- With no layers the plan is one of no layers. -/
theorem State.latchPlan_none : ∃ (c : State) (p : Plan), c.sansLatch = s.sansLatch ∧ c.screens = s.screens ∧
    s.latchPlan x = (c.openCompose x p).refreshLeases ∧ p.layers = [] ∧ p.frame = wrapInc 32 (s.rn (scrIdx x) 0x16) := by
  have henc : ∀ (a : State) (p : Plan), p.layers = [] → a.encLatch x p = a := by
    intro a p hp
    refine foldl_leaves id _ (fun b e => ?_) a _
    simp [hp]
  unfold State.latchPlan
  simp only [hnone, List.map_nil, List.foldl_nil, State.pressRun, List.filter_nil]
  rw [henc _ _ rfl]
  refine ⟨_, _, ?_, ?_, rfl, rfl, ?_⟩
  · rfl
  · rfl
  · exact congrArg (wrapInc 32) ((State.rn_wn_sub _ _ _ _ (by decide) (by decide) (by decide)).trans
      (State.rn_wn_sub _ _ _ _ (by decide) (by decide) (by decide)))

end NoLayers

theorem State.openCompose_row (s : State) (x : Nat) (p : Plan) : ∃ c, s.openCompose x p = s.setScreen x c ∧
    c.implicit = (s.screen x).implicit ∧ (if (s.screen x).plan = none then c.plan else c.next) = some p := by
  unfold State.openCompose
  dsimp only
  split
  · next h => exact ⟨_, rfl, rfl, if_pos h⟩
  · next h => exact ⟨_, rfl, rfl, if_neg (by simp [h])⟩

section NoCommits
variable {s : State} {x : Nat} (hrun : (s.screen x).run = true) (hlatched : (s.screen x).latched = false)
  (hmember : s.member x = false) (hx : x < 24) (havail : s.unavailable x = false)
  (hrestart : s.restarting (x / 12) .cmp = false) (hidle : s.idleSpare = false) (hnone : s.layersOn x = [])
  (hcommits : s.commits = [])
include hrun hlatched hmember hx havail hrestart hidle hnone hcommits

/-- With no layer and no commit a latch marks the frame latched and the screen's implicit set landed, and fixes a plan. -/
theorem State.latch_none_eq : ∃ c c', c'.implicit = true ∧ c'.plan = (s.screen x).plan ∧
    s.latch x = (((s.setScreen x c).setScreen x c').latchLayers x []).latchPlan x := by
  refine ⟨{ s.screen x with latched := true },
    { (s.setScreen x { s.screen x with latched := true }).screen x with implicit := true }, rfl,
    by rw [State.screen_setScreen_same], ?_⟩
  have havail : (s.setScreen x { s.screen x with latched := true }).unavailable x = false := havail
  have hrestart : (s.setScreen x { s.screen x with latched := true }).restarting (x / 12) .cmp = false := hrestart
  have hidle : (s.setScreen x { s.screen x with latched := true }).idleSpare = false := hidle
  have hnone : (s.setScreen x { s.screen x with latched := true }).layersOn x = [] := hnone
  have hcommits : (s.setScreen x { s.screen x with latched := true }).commits = [] := hcommits
  unfold State.latch
  rw [if_neg (by simp [hrun, hlatched, hmember, hx])]
  dsimp only
  generalize s.setScreen x { s.screen x with latched := true } = a at *
  rw [if_neg (by simp [havail]), if_neg (by simp [hrestart, hidle]), hcommits]
  simp only [List.filter_nil, List.map_nil, State.landAll, hnone, State.layersOn_setScreen, List.foldl_nil, ite_self,
    Bool.false_eq_true, if_false]

/-- The first latch of a frame of a screen with no layer and no commit. -/
theorem State.latch_none : ∃ s', s.latch x = s' ∧ (s'.screen x).implicit = true ∧ (∀ y, y ≠ x → s'.screen y = s.screen y) ∧
      (∃ p, (if (s.screen x).plan = none then (s'.screen x).plan else (s'.screen x).next) = some p ∧ p.layers = [] ∧
        p.frame = wrapInc 32 (s.rn (scrIdx x) 0x16)) ∧
      s' = { s with od := s'.od, screens := s'.screens, encs := s'.encs } := by
  obtain ⟨c, c', himplicit, hplan, heq⟩ := State.latch_none_eq hrun hlatched hmember hx havail hrestart hidle hnone hcommits
  obtain ⟨l, hl, hlmask, hlscreens, hlnone, hlframe⟩ :=
    State.latchLayers_none (s := (s.setScreen x c).setScreen x c') (x := x) hnone
  obtain ⟨m, p, hmmask, hmscreens, hm, hlayers, hframe⟩ := State.latchPlan_none hlnone
  obtain ⟨d, hd, hdimplicit, hdplan⟩ := m.openCompose_row x p
  have hrow : m.screen x = c' := by
    rw [State.screen_of_screens hmscreens, State.screen_of_screens hlscreens, State.screen_setScreen_same]
  have hother : ∀ y, y ≠ x → m.screen y = s.screen y := fun y hy => by
    rw [State.screen_of_screens hmscreens, State.screen_of_screens hlscreens, State.screen_setScreen_other _ _ hy,
      State.screen_setScreen_other _ _ hy]
  have hs' : s.latch x = (m.setScreen x d).refreshLeases := by rw [heq, hl, hm, hd]
  have hscreen : ∀ y, (s.latch x).screen y = (m.setScreen x d).screen y := fun y => by rw [hs']; rfl
  refine ⟨_, rfl, ?_, ?_, ⟨p, ?_, hlayers, ?_⟩, ?_⟩
  · rw [hscreen, State.screen_setScreen_same, hdimplicit, hrow, himplicit]
  · intro y hy
    rw [hscreen, State.screen_setScreen_other _ _ hy, hother y hy]
  · rwa [hscreen, State.screen_setScreen_same, ← hplan, ← hrow]
  · rw [hframe, hlframe]
    rfl
  · refine State.eq_of_sansLatch ?_
    rw [hs', State.refreshLeases_sansLatch, State.setScreen_sansLatch, hmmask, hlmask, State.setScreen_sansLatch,
      State.setScreen_sansLatch]

end NoCommits

/-- A count stands when a layer is marked after it. -/
theorem State.counted_bump_setLayer (s : State) (k idx sub n m : Nat) (l : LayerS) :
    s.counted ((s.bump k idx sub n).setLayer m l) idx sub n :=
  (s.counted_bump k idx sub n).congr rfl rfl

/-- States that differ in judging alone: one is the other with those parts. -/
theorem State.eq_of_sansJudged {a b : State} (h : a.sansJudged = b.sansJudged) :
    a = { b with od := a.od, log := a.log, tally := a.tally, layers := a.layers } :=
  congrArg (fun e : State => { e with od := a.od, log := a.log, tally := a.tally, layers := a.layers }) h

/-- Settles O15: LVS's moments each by what the operation does; a latch in each of its branches keeps the frame latched, and with
no layer it is the writes of the counts and the plan. -/
theorem liveChecksFollowTheScan : Obligations.LiveChecksFollowTheScan := by
  unfold Obligations.LiveChecksFollowTheScan
  intro s t u
  have hnext : ∀ {a b : State}, a = b → (.next a : Host.Outcome State Fault Refusal) = .next b := congrArg _
  refine ⟨?_, ?_, ?_, ?_, ?_⟩
  · intro n v hsr hage
    exact ⟨_, hnext (State.mappingExpiry_expires hsr hage), by rw [State.ses_setSes_same],
      fun m hm => State.ses_setSes_other _ _ hm, rfl⟩
  · intro x hrun hlatched hmember hx
    refine ⟨u.latch x, rfl, State.latch_latched hrun hlatched hmember hx, ?_⟩
    intro havail hrestart hidle hnone hcommits
    obtain ⟨s', hs', hrest⟩ := State.latch_none hrun hlatched hmember hx havail hrestart hidle hnone hcommits
    rwa [hs']
  · intro x hlatched
    refine hnext ?_
    unfold State.latch
    exact if_pos (by simp [u, hlatched])
  · intro x k hrun hservice hlvs hfence
    obtain ⟨s', hs', hrest⟩ := State.recheck_marks k hrun hservice hlvs hfence
    exact ⟨s', hnext hs', hrest⟩
  · intro n wrong x hx hon hhidden hcompared hgone hsegs hpassed haltered
    subst hx
    by_cases hall : ∀ g ∈ u.stitchSegs (u.fn (lIdx n) 0x02) n, ∃ p, g.plate = some p ∧
        marksValue (u.readMarks (u.fn (lIdx n) 0x02) p wrong) = some g.stitchVal
    · obtain ⟨s', hs', hrow, hframe⟩ :=
        State.readBack_equal wrong hon hhidden hcompared hgone hsegs hpassed haltered hall
      refine ⟨s', hnext hs', by rw [hrow], fun _ => ⟨by rw [hrow], by rw [hrow], hframe⟩, ?_⟩
      rintro ⟨g, hg, hne⟩
      obtain ⟨p, hp, hv⟩ := hall g hg
      exact absurd hv (hne p hp)
    · have hsome : ∃ g ∈ u.stitchSegs (u.fn (lIdx n) 0x02) n, ∀ p, g.plate = some p →
          marksValue (u.readMarks (u.fn (lIdx n) 0x02) p wrong) ≠ some g.stitchVal := by push Not at hall; exact hall
      refine ⟨_, hnext (State.readBack_mismatch wrong hon hhidden hcompared hgone hsegs hpassed haltered hsome), ?_, ?_, fun _ => ?_⟩
      · rw [State.layer_setLayer_same]
      · exact fun h => absurd h hall
      · rw [State.layer_setLayer_same]
        exact ⟨rfl, rfl, rfl, State.counted_bump_setLayer _ _ _ _ _ _ _,
          State.eq_of_sansJudged ((State.setLayer_sansJudged _ _ _).trans (State.bump_sansJudged _ _ _ _ _))⟩

/-! ### Dispatch (R188, R196 to R199) -/

/-- The commands on a core that is busy change nothing. -/
theorem State.dispatch_busy {s : State} {c : Nat} (h : (s.core' c).sess ≠ none) : s.dispatch c [] = s :=
  if_pos (by simp [Option.isSome_iff_ne_none.2 h])

section Free
variable {s : State} {c : Nat} (hactive : s.active.contains c = true) (hserves : s.serves (coreKey c) = true)
  (hfree : (s.core' c).sess = none) (hrestart : s.restarting (c / 7) .med = false)
include hactive hserves hfree hrestart

/-- A free core takes the first segment that may go. -/
theorem State.dispatch_starts {x : SegWait}
    (hfirst : (s.segs.filter (fun x => s.segReady x && s.shareFits c x)).head? = some x) (hheld : s.segHeld x = false) :
    s.dispatch c [] = s.startSeg c x := by
  obtain ⟨l, hl⟩ := List.head?_eq_some_iff.1 hfirst
  unfold State.dispatch
  dsimp only
  rw [List.foldl_nil, if_neg (by simpa [hserves, hfree, State.restarting] using ⟨List.contains_iff_mem.1 hactive, hrestart⟩), hl,
    List.takeWhile_cons_of_neg (by simp [hheld])]
  rfl

/-- With no segment that may go nothing changes. -/
theorem State.dispatch_none (h : s.segs.filter (fun x => s.segReady x && s.shareFits c x) = []) : s.dispatch c [] = s := by
  unfold State.dispatch
  dsimp only
  rw [List.foldl_nil, if_neg (by simpa [hserves, hfree, State.restarting] using ⟨List.contains_iff_mem.1 hactive, hrestart⟩), h]
  rfl

end Free

/-- The wait of a picture that ends is kept where it is the largest (R199). -/
def State.keepWait (s : State) (n wait : Nat) : State :=
  (s.wn (0x3440 + n) 0x0B (max (s.rn (0x3440 + n) 0x0B) wait)).wn 0x3400 0x0A (max (s.rn 0x3400 0x0A) wait)

/-- What the start of a segment does: the rows of the core, the segments and the picture, the wait of the picture's first, and
the core's session. -/
theorem State.startSeg_eq (s : State) (c : Nat) (x : SegWait) : ∃ (a : State) (first : Bool),
    a = { s with cores := a.cores, segs := s.segs.filter (· ≠ x), sess := a.sess } ∧
    a.cores = s.cores.put c
      { s.core' c with sess := some x.sess, pic := x.pic, seg := x.seg, share := x.share, at' := s.clock } ∧
    (∀ au, s.auOf x.sess x.pic = some au → first = au.coded.start.isNone) ∧
    s.startSeg c x = (if first then a.keepWait x.sess (min 0xFFFFFFFF ((s.clock - x.avail) / usTicks)) else a).wn
      (0x3410 + c) 0x03 x.sess := by
  refine ⟨_, _, ?_, ?_, ?_, rfl⟩
  · rfl
  · rfl
  · intro au hau
    rw [hau]

/-- A state without what the start of a segment changes. -/
def State.sansDispatch (s : State) : State := { s with od := [], cores := [], segs := [], sess := [] }

/-- States that differ in what the start of a segment changes alone: one is the other with those parts. -/
theorem State.eq_of_sansDispatch {a b : State} (h : a.sansDispatch = b.sansDispatch) :
    a = { b with od := a.od, cores := a.cores, segs := a.segs, sess := a.sess } :=
  congrArg (fun e : State => { e with od := a.od, cores := a.cores, segs := a.segs, sess := a.sess }) h

/-- A segment starts on a core. -/
theorem State.startSeg_starts (s : State) (c : Nat) (x : SegWait) :
    ∃ s', s.startSeg c x = s' ∧
      (s'.core' c).sess = some x.sess ∧ (s'.core' c).pic = x.pic ∧ (s'.core' c).seg = x.seg ∧ (s'.core' c).at' = s.clock ∧
      x ∉ s'.segs ∧ (∀ y, y ≠ x → (y ∈ s'.segs ↔ y ∈ s.segs)) ∧ s'.rn (0x3410 + c) 0x03 = x.sess ∧
      (∀ a, s.auOf x.sess x.pic = some a → a.coded.start = none →
        s'.rn 0x3400 0x0A = max (s.rn 0x3400 0x0A) (min 0xFFFFFFFF ((s.clock - x.avail) / usTicks))) ∧
      (∀ d, d ≠ c → s'.core' d = s.core' d) ∧ s.odSame s' [key (0x3410 + c) 0x03, key (0x3440 + x.sess) 0x0B, key 0x3400 0x0A] ∧
      s' = { s with od := s'.od, cores := s'.cores, segs := s'.segs, sess := s'.sess } := by
  obtain ⟨a, first, ha, hcores, hfirst, heq⟩ := s.startSeg_eq c x
  have hframe : s.startSeg c x = { a with od := (s.startSeg c x).od } := by
    rw [heq]
    cases first <;> rfl
  have hcore : ∀ d, (s.startSeg c x).core' d = a.core' d := fun d => (congrArg (fun e : State => e.core' d) hframe :)
  have hsegs : (s.startSeg c x).segs = s.segs.filter (· ≠ x) := (congrArg State.segs hframe).trans (congrArg State.segs ha :)
  have hrow : a.core' c = { s.core' c with sess := some x.sess, pic := x.pic, seg := x.seg, share := x.share, at' := s.clock } := by
    rw [State.core', hcores, Tab.at'_put_same]
  have hod : a.od = s.od := (congrArg State.od ha :)
  have hrn : ∀ idx sub, a.rn idx sub = s.rn idx sub := fun idx sub => by simp only [State.rn, State.rd, State.val, hod]
  refine ⟨_, rfl, ?_⟩
  rw [hcore, hrow]
  refine ⟨rfl, rfl, rfl, rfl, by simp [hsegs], fun y hy => by simp [hsegs, hy], ?_, ?_, ?_, ?_, ?_⟩
  · rw [heq, State.rn_wn_same]
  · intro au hau hstart
    have hf : first = true := by rw [hfirst au hau, hstart]; rfl
    rw [heq, hf, if_pos rfl, State.rn_wn_sub _ _ _ _ (by decide) (by decide) (by decide), State.keepWait, State.rn_wn_same, hrn]
  · intro d hd
    rw [hcore, State.core', hcores, Tab.at'_put_other _ _ _ hd]
    rfl
  · intro i hi
    simp only [List.mem_cons, List.not_mem_nil, or_false, not_or] at hi
    obtain ⟨hcoreKey, hsessKey, hmaxKey⟩ := hi
    rw [heq, State.look_wn_other _ _ hcoreKey, ← hod]
    cases first
    · rfl
    · exact (State.look_wn_other _ _ hmaxKey).trans (State.look_wn_other _ _ hsessKey)
  · exact State.eq_of_sansDispatch (b := s) ((congrArg State.sansDispatch hframe).trans (congrArg State.sansDispatch ha :))

/-! ### The end of a segment on a core -/

/-- A count of another subindex than a number's, and other than that of lost events, leaves it alone. -/
theorem State.rn_bump_sub (s : State) (k idx i n : Nat) {sub b : Nat} (h : b ≠ sub ∧ b ≠ 0x05) (hsub : sub < 256) (hb : b < 256) :
    (s.bump k idx sub n).rn i b = s.rn i b := by
  have hlook : (s.bump k idx sub n).od.look (key i b) = s.od.look (key i b) :=
    s.look_bump_other k n (by simp only [key]; omega) (by simp only [key]; omega)
  simp only [State.rn, State.rd, State.val, hlook]

/-- A core that finished is free, and counts its segment. -/
theorem State.coreEnd_frees {s : State} {e : Nat} (a : Nat) (hbusy : (s.core' e).sess ≠ none) (hserves : s.serves (coreKey e) = true) :
    ∃ s', s.coreEnd e a = s' ∧ (s'.core' e).sess = none ∧ s'.rn (0x3410 + e) 0x03 = 0xFF ∧
      s.counted s' (0x3410 + e) 0x04 1 ∧ (∀ d, d ≠ e → s'.core' d = s.core' d) ∧
      s' = { s with od := s'.od, log := s'.log, cores := s'.cores } := by
  have hend : s.coreEnd e a = (s.coreFreeAt e a).bump (coreKey e) (0x3410 + e) 0x04 :=
    if_pos (by simp [hserves, Option.isSome_iff_ne_none.2 hbusy])
  have hframe := (s.coreFreeAt e a).bump_frame (coreKey e) (0x3410 + e) 0x04 1
  rw [← hend] at hframe
  have hcore : ∀ d, (s.coreEnd e a).core' d = (s.coreFreeAt e a).core' d := fun d =>
    (congrArg (fun b : State => b.core' d) hframe :)
  refine ⟨_, rfl, ?_, ?_, ?_, ?_, ?_⟩
  · rw [hcore]
    unfold State.coreFreeAt
    exact congrArg CoreS.sess (Tab.at'_put_same _ _ _ _)
  · rw [hend, State.rn_bump_sub _ _ _ _ _ (by decide) (by decide) (by decide)]
    unfold State.coreFreeAt
    rw [State.rn_wn_same]
  · rw [hend]
    have hcount : (s.coreFreeAt e a).rn (0x3410 + e) 0x04 = s.rn (0x3410 + e) 0x04 := by
      unfold State.coreFreeAt
      rw [State.rn_wn_sub _ _ _ _ (by decide) (by decide) (by decide)]
      rfl
    exact (State.counted_bump _ _ _ _ _).congr hcount.symm rfl
  · intro d hd
    rw [hcore]
    unfold State.coreFreeAt
    exact Tab.at'_put_other _ _ _ hd
  · have hcores : (s.coreEnd e a).cores = (s.coreFreeAt e a).cores := (congrArg State.cores hframe :)
    rw [hcores]
    exact hframe

/-! ### What the completion of a picture leaves alone (R198, R209, R211, R226) -/

/-- A state without what sending by relays changes: the links' queues and the relays' rows. -/
def State.sansSent (s : State) : State := { s with spay := [], sys := {} }

/-- A state without what the completion of a picture changes. -/
def State.sansPicture (s : State) : State := { s.sansSent with free := 0, od := [], log := {}, sess := [] }

/-- States that differ in what the completion of a picture changes alone: one is the other with those parts. -/
theorem State.eq_of_sansPicture {a b : State} (h : a.sansPicture = b.sansPicture) :
    a = { b with free := a.free, od := a.od, log := a.log, sess := a.sess, spay := a.spay, sys := a.sys } :=
  congrArg (fun e : State => { e with
    free := a.free, od := a.od, log := a.log, sess := a.sess, spay := a.spay, sys := a.sys }) h

section Sent
variable (s : State)

@[simp] theorem State.unicast_sansSent (ty op dst : Nat) (pay : List Byte) : (s.unicast ty op dst pay).sansSent = s.sansSent := by
  unfold State.unicast State.ready
  split
  · rfl
  · split
    · split <;> rfl
    · rfl

@[simp] theorem State.relayStream_sansSent (no : Nat) (b : List Byte) : (s.relayStream no b).sansSent = s.sansSent := by
  refine foldl_leaves State.sansSent _ (fun s p => ?_) s _
  exact (State.unicast_sansSent _ _ _ _ _).trans rfl

theorem State.relayPicture_sansSent (n : Nat) (pic : PicS) (au : AuInfo) : (s.relayPicture n pic au).sansSent = s.sansSent := by
  refine foldl_leaves State.sansSent _ (fun s no => ?_) s _
  dsimp only
  rw [foldl_leaves State.sansSent _ (fun _ _ => foldl_leaves State.sansSent _ (fun _ _ => State.unicast_sansSent _ _ _ _ _) _ _),
    State.relayStream_sansSent]
  rfl

end Sent

/-- From state `a` to state `b` only what the completion of a picture changes has changed: of the sessions session `n` alone, and
of its row nothing that `f` reads. -/
structure State.Keeps {β : Type} (n : Nat) (f : SessS → β) (a b : State) : Prop where
  frame : b.sansPicture = a.sansPicture
  row : f (b.ses n) = f (a.ses n)
  other : ∀ m, m ≠ n → b.ses m = a.ses m

/-- What only the beginning of the completion changes of a session's row. -/
def SessS.held (g : SessS) : List AuInfo × List PicS × Nat := (g.queue, g.refs, g.nextPic)

/-- What only output changes of a session's row. -/
def SessS.shown (g : SessS) : List (PicS × AuInfo × Nat) × Option PicS := (g.waiting, g.disp)

section Keeps
variable {β : Type} {n : Nat} {f : SessS → β}

theorem State.Keeps.refl (a : State) : State.Keeps n f a a := ⟨rfl, rfl, fun _ _ => rfl⟩

theorem State.Keeps.trans {a b c : State} (h : State.Keeps n f a b) (h' : State.Keeps n f b c) : State.Keeps n f a c :=
  ⟨h'.frame.trans h.frame, h'.row.trans h.row, fun m hm => (h'.other m hm).trans (h.other m hm)⟩

theorem State.Keeps.of_sess {a b : State} (h : b.sansPicture = a.sansPicture) (hs : b.sess = a.sess) : State.Keeps n f a b :=
  have hses : ∀ m, b.ses m = a.ses m := fun m => by simp only [State.ses, hs]
  ⟨h, by rw [hses], fun m _ => hses m⟩

theorem State.Keeps.of_sansSent {a b : State} (h : b.sansSent = a.sansSent) : State.Keeps n f a b :=
  .of_sess (congrArg (fun s : State => { s with free := 0, od := [], log := {}, sess := [] }) h) (congrArg State.sess h :)

theorem State.Keeps.of_sansCounts {a b : State} (h : b.sansCounts = a.sansCounts) : State.Keeps n f a b :=
  .of_sess (congrArg State.sansPicture h :) (congrArg State.sess h :)

section Step
variable {a b : State} (h : State.Keeps n f a b)
include h

theorem State.Keeps.setSes {g : SessS} (hg : f g = f (b.ses n)) : State.Keeps n f a (b.setSes n g) :=
  h.trans ⟨rfl, by rw [State.ses_setSes_same, hg], fun _ hm => State.ses_setSes_other _ _ hm⟩

theorem State.Keeps.bump (k idx sub m : Nat) : State.Keeps n f a (b.bump k idx sub m) :=
  h.trans (.of_sansCounts (b.bump_sansCounts _ _ _ _))

theorem State.Keeps.raise (k ty sev : Nat) (pay : List (Nat × Nat)) : State.Keeps n f a (b.raise k ty sev pay) :=
  h.trans (.of_sansCounts (b.raise_sansCounts _ _ _ _))

theorem State.Keeps.wn (idx sub v : Nat) : State.Keeps n f a (b.wn idx sub v) := h.trans (.of_sansCounts rfl)

/-- What either of two states keeps, their choice keeps. -/
theorem State.Keeps.ite {c : State} (h' : State.Keeps n f a c) (p : Prop) [Decidable p] :
    State.Keeps n f a (if p then b else c) := by
  split
  · exact h
  · exact h'

end Step

end Keeps

/-! ### Counters and events -/

/-- What of a session's row counting a picture leaves alone. -/
def SessS.pictures (g : SessS) : (List AuInfo × List PicS × Nat) × List (PicS × AuInfo × Nat) × Option PicS := (g.held, g.shown)

theorem State.keeps_pictureCounts (s : State) (n : Nat) (c : CodedS) (p : ParamSet) (errors missRefs taint darned : Nat) :
    State.Keeps n SessS.pictures s (s.pictureCounts n c p errors missRefs taint darned) := by
  unfold State.pictureCounts
  dsimp only
  refine .wn (.wn (.wn (.wn (.setSes ?_ ?_) _ _ _) _ _ _) _ _ _) _ _ _
  · exact .bump (.bump (.bump (.bump (.bump (.bump (.refl s) _ _ _ _) _ _ _ _) _ _ _ _) _ _ _ _) _ _ _ _) _ _ _ _
  · simp only [SessS.pictures, SessS.held, SessS.shown]

theorem State.keeps_pictureEvents (s : State) (n errors segments drops : Nat) :
    State.Keeps n SessS.pictures s (s.pictureEvents n errors segments drops) := by
  unfold State.pictureEvents
  extract_lets k g errNow s₁ short s₂ g₂ s₃ s₄ g₄
  have h₁ : State.Keeps n SessS.pictures s s₁ := .ite (.raise (.setSes (.refl s) (by rfl)) _ _ _ _) (.refl s) _
  have h₂ : State.Keeps n SessS.pictures s s₂ := (h₁.bump _ _ _ _).ite h₁ _
  have h₃ : State.Keeps n SessS.pictures s s₃ := .ite (.raise (.setSes h₂ (by rfl)) _ _ _ _) h₂ _
  have h₄ : State.Keeps n SessS.pictures s s₄ := h₃.bump _ _ _ _
  exact .ite (.raise (.setSes h₄ (by rfl)) _ _ _ _) h₄ _

theorem State.keeps_enterSess (s : State) (n st reason : Nat) : State.Keeps n SessS.pictures s (s.enterSess n st reason) :=
  .setSes (.wn (.wn (.refl s) _ _ _) _ _ _) (by rfl)

theorem State.keeps_cleanPicture (s : State) (n : Nat) : State.Keeps n SessS.pictures s (s.cleanPicture n) :=
  .ite (.trans (.wn (.refl s) _ _ _) (State.keeps_enterSess _ _ _ _)) (.wn (.refl s) _ _ _) _

/-! ### Output -/

/-- Output of a picture displays it, and sends it. -/
theorem State.outputPic_sansSent (s : State) (n : Nat) (pic : PicS) (au : AuInfo) : ∃ q, (s.outputPic n pic au).sansSent =
    (s.setSes n { s.ses n with disp := display (s.ses n).disp q au true }).sansSent := by
  unfold State.outputPic
  extract_lets f q g s₁
  refine ⟨q, ?_⟩
  split
  · exact State.relayPicture_sansSent _ _ _ _
  · rfl

theorem State.od_of_sansSent {a b : State} (h : a.sansSent = b.sansSent) : a.od = b.od := (congrArg State.od h :)

theorem State.outputPic_od (s : State) (n : Nat) (pic : PicS) (au : AuInfo) : (s.outputPic n pic au).od = s.od := by
  obtain ⟨q, hq⟩ := s.outputPic_sansSent n pic au
  exact (State.od_of_sansSent hq).trans rfl

theorem State.keeps_outputPic (s : State) (n : Nat) (pic : PicS) (au : AuInfo) :
    State.Keeps n SessS.held s (s.outputPic n pic au) := by
  obtain ⟨q, hq⟩ := s.outputPic_sansSent n pic au
  exact .trans (.setSes (.refl s) (by rfl)) (.of_sansSent hq)

/-- Output of a replay changes nothing of the session's row. -/
theorem State.keeps_outputPic_replay (s : State) (n : Nat) (pic : PicS) {au : AuInfo} (h : au.judge = .replay) :
    State.Keeps n id s (s.outputPic n pic au) := by
  obtain ⟨q, hq⟩ := s.outputPic_sansSent n pic au
  have hd : display (s.ses n).disp q au true = (s.ses n).disp := by simp only [display, h]
  exact .trans (.setSes (.refl s) (by rw [hd])) (.of_sansSent hq)

theorem mem_of_firstOut {l : List (PicS × AuInfo × Nat)} {x : PicS × AuInfo × Nat} (h : firstOut l = some x) : x ∈ l := by
  refine List.foldlRecOn l _ (motive := fun b => ∀ y, b = some y → y ∈ l) (fun y hy => by simp at hy) (fun b ih a ha y hy => ?_) x h
  cases b with
  | none => exact Option.some.inj hy ▸ ha
  | some z =>
    dsimp only at hy
    split at hy
    · exact Option.some.inj hy ▸ ha
    · exact ih y hy

/-- The pictures that wait after one is output. -/
def State.unqueue (s : State) (n k : Nat) : State :=
  s.setSes n { s.ses n with waiting := (s.ses n).waiting.filter (fun y => y.1.num ≠ k) }

/-- One round of the bumping process: it ends, or outputs a waiting picture. -/
theorem State.bump'_cases (n : Nat) (p : ParamSet) (all : Bool) (k : Nat) (s : State) :
    State.bump' n p all (k + 1) s = s ∨ ∃ x ∈ (s.ses n).waiting,
      State.bump' n p all (k + 1) s = State.bump' n p all k ((s.unqueue n x.1.num).outputPic n x.1 x.2.1) := by
  rw [State.bump']
  split
  · exact .inl rfl
  · split
    · exact .inl rfl
    · next x hx => exact .inr ⟨x, mem_of_firstOut hx, rfl⟩

theorem State.bump'_od (n : Nat) (p : ParamSet) (all : Bool) (k : Nat) (s : State) : (State.bump' n p all k s).od = s.od := by
  induction k generalizing s with
  | zero => rfl
  | succ k ih =>
    rcases State.bump'_cases n p all k s with h | ⟨x, -, h⟩
    · rw [h]
    · rw [h, ih, State.outputPic_od]
      rfl

theorem State.keeps_bump' (n : Nat) (p : ParamSet) (all : Bool) (k : Nat) (s : State) :
    State.Keeps n SessS.held s (State.bump' n p all k s) := by
  induction k generalizing s with
  | zero => exact .refl s
  | succ k ih =>
    rcases State.bump'_cases n p all k s with h | ⟨x, -, h⟩
    · rw [h]
      exact .refl s
    · rw [h]
      exact .trans (.trans (.setSes (.refl s) (by rfl)) (State.keeps_outputPic _ _ _ _)) (ih _)

/-- The bumping process displays nothing new while only replays wait. -/
theorem State.bump'_disp (n : Nat) (p : ParamSet) (all : Bool) (k : Nat) (s : State)
    (h : ∀ x ∈ (s.ses n).waiting, x.2.1.judge = .replay) : ((State.bump' n p all k s).ses n).disp = (s.ses n).disp := by
  induction k generalizing s with
  | zero => rfl
  | succ k ih =>
    rcases State.bump'_cases n p all k s with heq | ⟨x, hx, heq⟩
    · rw [heq]
    · have hout : ((s.unqueue n x.1.num).outputPic n x.1 x.2.1).ses n =
          { s.ses n with waiting := (s.ses n).waiting.filter (fun y => y.1.num ≠ x.1.num) } :=
        ((s.unqueue n x.1.num).keeps_outputPic_replay n x.1 (h x hx)).row.trans (State.ses_setSes_same _ _ _)
      rw [heq, ih _ ?_, hout]
      rw [hout]
      exact fun y hy => h y (List.mem_filter.1 hy).1

/-- With no picture waiting the bumping process does nothing. -/
theorem State.bump'_none {n : Nat} {s : State} (p : ParamSet) (all : Bool) (k : Nat) (h : (s.ses n).waiting = []) :
    State.bump' n p all k s = s := by
  cases k with
  | zero => rfl
  | succ k =>
    rw [State.bump', h]
    exact if_pos rfl

theorem State.queueOut_od (s : State) (n : Nat) (p : ParamSet) (pic : PicS) (au : AuInfo) (output : Bool) :
    (s.queueOut n p pic au output).od = s.od := State.bump'_od _ _ _ _ _

theorem State.keeps_queueOut (s : State) (n : Nat) (p : ParamSet) (pic : PicS) (au : AuInfo) (output : Bool) :
    State.Keeps n SessS.held s (s.queueOut n p pic au output) :=
  .trans (.setSes (.refl s) (by rfl)) (State.keeps_bump' _ _ _ _ _)

/-- A replay that completes while no picture waits displays nothing new. -/
theorem State.queueOut_disp (s : State) (n : Nat) (p : ParamSet) (pic : PicS) {au : AuInfo} (output : Bool)
    (hwait : (s.ses n).waiting = []) (h : au.judge = .replay) : ((s.queueOut n p pic au output).ses n).disp = (s.ses n).disp := by
  unfold State.queueOut
  dsimp only
  rw [State.bump'_disp _ _ _ _ _ ?_, State.ses_setSes_same]
  rw [State.ses_setSes_same, hwait]
  split
  · simp [h]
  · simp

/-! ### The counters of a completed picture (Tables 5.6 and 5.8) -/

theorem State.rn_of_look {a b : State} {i sub : Nat} (h : a.od.look (key i sub) = b.od.look (key i sub)) : a.rn i sub = b.rn i sub := by
  simp only [State.rn, State.rd, State.val, h]

/-- An event leaves every number but that of lost events alone. -/
theorem State.rn_raise_sub (s : State) (k ty sev i : Nat) (pay : List (Nat × Nat)) {b : Nat} (h : b ≠ 0x05) (hb : b < 256) :
    (s.raise k ty sev pay).rn i b = s.rn i b :=
  State.rn_of_look (State.look_raise_other _ _ _ _ _ (by simp only [key]; omega))

theorem State.rn_setSes (s : State) (n i b : Nat) (g : SessS) : (s.setSes n g).rn i b = s.rn i b := rfl

/-- The events of a picture change its counts of short parallelism and of dropped references alone. -/
theorem State.rn_pictureEvents (s : State) (n errors segments drops i : Nat) {b : Nat} (h : b ∉ [0x0D, 0x07, 0x05]) (hb : b < 256) :
    (s.pictureEvents n errors segments drops).rn i b = s.rn i b := by
  simp only [List.mem_cons, List.not_mem_nil, or_false, not_or] at h
  obtain ⟨hshort, hdrop, hlost⟩ := h
  have hraise : ∀ (a : State) (g : SessS) (k ty sev : Nat) (pay : List (Nat × Nat)),
      ((a.setSes n g).raise k ty sev pay).rn i b = a.rn i b := fun a g k ty sev pay => State.rn_raise_sub _ _ _ _ _ _ hlost hb
  unfold State.pictureEvents
  dsimp only
  split_ifs <;> simp only [hraise, State.rn_bump_sub _ _ _ _ _ ⟨hshort, hlost⟩ (by decide : 0x0D < 256) hb,
    State.rn_bump_sub _ _ _ _ _ ⟨hdrop, hlost⟩ (by decide : 0x07 < 256) hb]

section Counts
variable (s : State) (n : Nat) (c : CodedS) (p : ParamSet) (errors missRefs taint darned : Nat)

theorem State.pictureCounts_size : (s.pictureCounts n c p errors missRefs taint darned).rn (0x3440 + n) 0x09 = p.width + 65536 * p.height :=
  State.rn_wn_same _ _ _ _

theorem State.pictureCounts_taint : (s.pictureCounts n c p errors missRefs taint darned).rn (0x3440 + n) 0x02 = taint := by
  unfold State.pictureCounts
  dsimp only
  rw [State.rn_wn_sub _ _ _ _ (by decide) (by decide) (by decide), State.rn_wn_sub _ _ _ _ (by decide) (by decide) (by decide),
    State.rn_wn_sub _ _ _ _ (by decide) (by decide) (by decide), State.rn_wn_same]

theorem State.pictureCounts_session : s.counted (s.pictureCounts n c p errors missRefs taint darned) (0x3440 + n) 0x04 1 := by
  refine (s.counted_bump (procKey 0 .med) (0x3440 + n) 0x04 1).congr rfl ?_
  unfold State.pictureCounts
  dsimp only
  simp only [State.rn_wn_sub, State.rn_setSes, State.rn_bump_sub, ne_eq, Nat.reduceEqDiff, not_false_eq_true, Nat.reduceLT, and_self]

theorem State.pictureCounts_package : s.counted (s.pictureCounts n c p errors missRefs taint darned) 0x3400 0x08 1 := by
  refine ((s.bump (procKey 0 .med) (0x3440 + n) 0x04).counted_bump (procKey 0 .med) 0x3400 0x08 1).congr ?_ ?_
  · exact (State.rn_bump_sub _ _ _ _ _ (by decide) (by decide) (by decide)).symm
  · unfold State.pictureCounts
    dsimp only
    rw [State.rn_wn_sub _ _ _ _ (by decide) (by decide) (by decide), State.rn_wn_sub _ _ _ _ (by decide) (by decide) (by decide),
      State.rn_wn_other _ _ (by simp only [key]; omega)]
    simp only [State.rn_wn_sub, State.rn_setSes, State.rn_bump_sub, ne_eq, Nat.reduceEqDiff, not_false_eq_true, Nat.reduceLT, and_self]

theorem State.pictureCounts_mismatches :
    (s.pictureCounts n c p errors missRefs taint darned).rn 0x5000 0x12 = s.rn 0x5000 0x12 := by
  unfold State.pictureCounts
  dsimp only
  simp only [State.rn_wn_sub, State.rn_setSes, State.rn_bump_sub, ne_eq, Nat.reduceEqDiff, not_false_eq_true, Nat.reduceLT, and_self]

end Counts

/-- A clean picture changes its flag and the session's state alone. -/
theorem State.rn_cleanPicture (s : State) (n i : Nat) {b : Nat}
    (h : key i b ∉ [key (0x3440 + n) 0x01, key (sIdx n) 0x02, key (sIdx n) 0x03]) :
    (s.cleanPicture n).rn i b = s.rn i b := by
  simp only [List.mem_cons, List.not_mem_nil, or_false, not_or] at h
  obtain ⟨hflag, hst, hreason⟩ := h
  unfold State.cleanPicture State.enterSess
  dsimp only
  split
  · rw [State.rn_setSes, State.rn_wn_other _ _ hreason, State.rn_wn_other _ _ hst, State.rn_wn_other _ _ hflag]
  · exact State.rn_wn_other _ _ hflag

/-! ### The completion of a picture (R198, R209, R212) -/

/-- The output of the pictures before a new sequence (R211), of at most `k`. -/
def State.endSequence (s : State) (n : Nat) (p : ParamSet) (c : CodedS) (d : PicDesc) (k : Nat) : State :=
  if c.irap && c.newSeq then
    (if d.noPrior then s.setSes n { s.ses n with waiting := [] } else State.bump' n p true k s)
  else s

/-- The completion of a picture from the references kept on: its counts, its events and its output. -/
def State.endPicture (s : State) (n : Nat) (p : ParamSet) (au : AuInfo) (d : PicDesc) (refs : List PicS) (pic : PicS)
    (next missing darned segments : Nat) (bad : Bool) : State :=
  let kept := keepRefs refs d pic (s.rn (sIdx n) 0x15)
  let errors := d.errors.length + au.coded.badSets
  let s := s.setSes n { s.ses n with refs := kept.1, nextPic := next }
  let s := if bad then s.bump (procKey 0 .med) 0x5000 0x12 else s
  let s := (s.pictureCounts n au.coded p errors missing pic.taint.length darned).pictureEvents n errors segments kept.2
  let s := s.queueOut n p pic au d.output
  if pic.taint.isEmpty then s.cleanPicture n else s

theorem foldl_fixed_of_mem {α β : Type} {f : α → β → α} {a : α} {l : List β} (h : ∀ b ∈ l, f a b = a) : l.foldl f a = a := by
  induction l with
  | nil => rfl
  | cons b l ih => rw [List.foldl_cons, h b List.mem_cons_self, ih fun c hc => h c (List.mem_cons_of_mem _ hc)]

section Complete
variable {s : State} {n : Nat} {d : PicDesc} {a : AuInfo} {rest : List AuInfo} {p : ParamSet}
  (hqueue : (s.ses n).queue = a :: rest) (hvideo : s.isVideo n = true) (hsps : a.coded.sps = some p) (hended : d.ended = [])
  (hwaits : ∀ x ∈ s.segs, ¬(x.sess = n ∧ x.pic = a.ts)) (hcores : ∀ c, c < 14 → (s.core' c).sess ≠ some n)
include hqueue hvideo hsps hended hwaits hcores

/-- The first picture in decode, none of whose segments waits or is on a core, is complete. -/
theorem State.pictureComplete_eq : ∃ (refs : List PicS) (pic : PicS) (missing darned segments : Nat) (bad : Bool),
    s.pictureComplete n d = ((s.setSes n { s.ses n with queue := rest }).endSequence n p a.coded d
      ((s.ses n).waiting.length + 1)).endPicture n p a d refs pic ((s.ses n).nextPic + 1) missing darned segments bad ∧
    (∀ v, a.crc = some v → v ≠ lumaCrc p.codedW p.confX p.confY p.width p.height d.y → a.coded.irap = false →
      pictureExact (s.ses n).refs a.coded p (a.coded.missing (decide (s.rn (sIdx n) 0x16 = 1)) d.errors) d = true →
      bad = true ∧ pic.taint.length = tilesOf p.codedW p.codedH) := by
  have hfree : s.freeCores n = s := foldl_fixed_of_mem fun c hc => if_neg (hcores c (List.mem_range.1 hc))
  have hau : (s.auOf n a.ts).getD a = a := by simp [State.auOf, hqueue]
  have hdecode : s.inDecode n a.ts = false := by
    simp only [State.inDecode, Bool.or_eq_false_iff, List.any_eq_false, Bool.and_eq_true, decide_eq_true_eq, List.mem_range]
    exact ⟨hwaits, fun c hc h => hcores c hc h.1⟩
  obtain ⟨r, hr⟩ : ∃ r, s.pictureComplete n d = r := ⟨_, rfl⟩
  rw [hr]
  unfold State.pictureComplete at hr
  rw [hended, List.foldl_nil] at hr
  extract_lets s₀ s₁ par g s₂ g₂ at hr
  rw [show (s₀.ses n).queue = a :: rest from hqueue] at hr
  dsimp -zeta only at hr
  have h₁ : s₁ = s := hfree
  rw [show (s₁.auOf n a.ts).getD a = a by rw [h₁, hau]] at hr
  extract_lets au c miss errors at hr
  rw [show c.sps = some p from hsps] at hr
  dsimp -zeta only at hr
  rw [if_neg (by simp [h₁, hvideo, show s.inDecode n au.ts = false from hdecode])] at hr
  extract_lets s₃ refs refs' exact' bad all darned taint pic kept s₄ at hr
  have hg : g = s.ses n := by simp only [g, h₁]
  have hpar : par = decide (s.rn (sIdx n) 0x16 = 1) := by simp only [par, h₁]
  have h₂ : s₂ = s.setSes n { s.ses n with queue := rest } := by
    simp only [s₂, h₁, hg, hqueue, List.drop_succ_cons, List.drop_zero]
  have h₃ : s₃ = (s.setSes n { s.ses n with queue := rest }).endSequence n p a.coded d ((s.ses n).waiting.length + 1) := by
    rw [← h₂, ← hg]
    rfl
  refine ⟨refs', pic, missingRefSlices refs' c p, darned.length, (c.segments par).length, bad, ?_, ?_⟩
  · rw [← h₃, ← hg]
    exact hr.symm
  · intro v hv hne hirap hexact
    have hrefs : refs' = (s.ses n).refs := by
      simp only [refs', refs, show c.irap = false from hirap, hg]
      rfl
    have hbad : bad = true := by
      simp only [bad, exact', miss, hrefs, hpar, show au.crc = some v from hv]
      exact Bool.and_eq_true_iff.2 ⟨hexact, decide_eq_true hne⟩
    refine ⟨hbad, ?_⟩
    change taint.length = _
    simp only [taint, hbad, if_true, all, List.length_range]

end Complete

theorem keepRefs_length (refs : List PicS) (d : PicDesc) (pic : PicS) (k : Nat) : (keepRefs refs d pic k).1.length ≤ k := by
  simp only [keepRefs, List.length_drop]
  omega

section EndPicture
variable (s : State) (n : Nat) (p : ParamSet) (au : AuInfo) (d : PicDesc) (refs : List PicS) (pic : PicS)
  (next missing darned segments : Nat) (bad : Bool)

/-- The session's row and the frame of a completion. -/
theorem State.endPicture_row : ∃ s', s.endPicture n p au d refs pic next missing darned segments bad = s' ∧
    (s'.ses n).queue = (s.ses n).queue ∧ (s'.ses n).nextPic = next ∧ (s'.ses n).refs.length ≤ s.rn (sIdx n) 0x15 ∧
    ((s.ses n).waiting = [] → au.judge = .replay → (s'.ses n).disp = (s.ses n).disp) ∧
    (∀ m, m ≠ n → s'.ses m = s.ses m) ∧ s'.sansPicture = s.sansPicture := by
  refine ⟨_, rfl, ?_⟩
  unfold State.endPicture
  extract_lets kept errors g s₁ s₂ s₃ s₄
  have hrow : s₁.ses n = { s.ses n with refs := kept.1, nextPic := next } := State.ses_setSes_same _ _ _
  have h₃ : State.Keeps n SessS.pictures s₁ s₃ :=
    .trans (.trans (.ite (.bump (.refl s₁) _ _ _ _) (.refl s₁) _) (State.keeps_pictureCounts _ _ _ _ _ _ _ _))
      (State.keeps_pictureEvents _ _ _ _ _)
  have h₅ : State.Keeps n SessS.pictures s₄ (if pic.taint.isEmpty then s₄.cleanPicture n else s₄) :=
    .ite (State.keeps_cleanPicture _ _) (.refl s₄) _
  have h₄ : State.Keeps n SessS.held s₃ s₄ := State.keeps_queueOut _ _ _ _ _ _
  generalize (if pic.taint.isEmpty then s₄.cleanPicture n else s₄) = s₅ at *
  obtain ⟨hheld₃, hshown₃⟩ := Prod.mk.inj h₃.row
  obtain ⟨hheld₅, hshown₅⟩ := Prod.mk.inj h₅.row
  have hheld : (s₅.ses n).held = (s₁.ses n).held := hheld₅.trans (h₄.row.trans hheld₃)
  rw [hrow] at hheld hshown₃
  simp only [SessS.held, Prod.mk.injEq] at hheld
  obtain ⟨hqueue, hrefs, hnext⟩ := hheld
  obtain ⟨hwaiting, hdisp⟩ := Prod.mk.inj hshown₃
  refine ⟨hqueue, hnext, ?_, ?_, ?_, ?_⟩
  · rw [hrefs]
    exact keepRefs_length _ _ _ _
  · intro hnone hreplay
    exact (congrArg Prod.snd hshown₅).trans ((State.queueOut_disp s₃ n p pic d.output (hwaiting.trans hnone) hreplay).trans hdisp)
  · intro m hm
    rw [h₅.other m hm, h₄.other m hm, h₃.other m hm]
    exact State.ses_setSes_other _ _ hm
  · exact h₅.frame.trans (h₄.frame.trans (h₃.frame.trans rfl))

/-- The counters of a completion. -/
theorem State.endPicture_counts : ∃ s', s.endPicture n p au d refs pic next missing darned segments bad = s' ∧
    s'.rn (0x3440 + n) 0x09 = p.width + 65536 * p.height ∧ s'.rn (0x3440 + n) 0x02 = pic.taint.length ∧
    (bad = true → s.counted s' 0x5000 0x12 1) ∧ s.counted s' (0x3440 + n) 0x04 1 ∧ s.counted s' 0x3400 0x08 1 := by
  refine ⟨_, rfl, ?_⟩
  unfold State.endPicture
  extract_lets kept errors g s₁ s₂ s₃ s₄
  have h₂ : ∀ {i b : Nat}, b ≠ 0x12 ∧ b ≠ 0x05 → b < 256 → s₂.rn i b = s.rn i b := fun h hb => by
    simp only [s₂]
    split
    · exact State.rn_bump_sub _ _ _ _ _ h (by decide) hb
    · rfl
  have hend : ∀ {i b : Nat}, b ∉ [0x0D, 0x07, 0x05] → b < 256 →
      key i b ∉ [key (0x3440 + n) 0x01, key (sIdx n) 0x02, key (sIdx n) 0x03] →
      (if pic.taint.isEmpty then s₄.cleanPicture n else s₄).rn i b =
        (s₂.pictureCounts n au.coded p errors missing pic.taint.length darned).rn i b := by
    intro i b hb hlt hk
    have hout : s₄.rn i b = s₃.rn i b := by simp only [State.rn, State.rd, State.val, s₄, State.queueOut_od]
    have hevents : s₃.rn i b = _ := State.rn_pictureEvents _ n errors segments kept.2 i hb hlt
    split
    · rw [State.rn_cleanPicture _ _ _ hk, hout, hevents]
    · rw [hout, hevents]
  generalize (if pic.taint.isEmpty then s₄.cleanPicture n else s₄) = s₅ at *
  refine ⟨?_, ?_, ?_, ?_, ?_⟩
  · rw [hend (by decide) (by decide) (by simp [key, sIdx]; omega), State.pictureCounts_size]
  · rw [hend (by decide) (by decide) (by simp [key, sIdx]; omega), State.pictureCounts_taint]
  · intro hbad
    refine (s₁.counted_bump (procKey 0 .med) 0x5000 0x12 1).congr rfl ?_
    rw [hend (by decide) (by decide) (by simp [key, sIdx]; omega), State.pictureCounts_mismatches]
    simp only [s₂, hbad, if_true]
  · refine (s₂.pictureCounts_session n au.coded p errors missing pic.taint.length darned).congr ?_ ?_
    · exact (h₂ (by decide) (by decide)).symm
    · exact hend (by decide) (by decide) (by simp [key, sIdx]; omega)
  · refine (s₂.pictureCounts_package n au.coded p errors missing pic.taint.length darned).congr ?_ ?_
    · exact (h₂ (by decide) (by decide)).symm
    · exact hend (by decide) (by decide) (by simp [key, sIdx]; omega)

end EndPicture

/-- The pictures output before a new sequence leave the rest of the session's row alone. -/
theorem State.keeps_endSequence (s : State) (n : Nat) (p : ParamSet) (c : CodedS) (d : PicDesc) (k : Nat) :
    State.Keeps n SessS.held s (s.endSequence n p c d k) :=
  .ite (.ite (.setSes (.refl s) (by rfl)) (State.keeps_bump' _ _ _ _ _) _) (.refl s) _

theorem State.endSequence_od (s : State) (n : Nat) (p : ParamSet) (c : CodedS) (d : PicDesc) (k : Nat) :
    (s.endSequence n p c d k).od = s.od := by
  unfold State.endSequence
  split_ifs
  · rfl
  · exact State.bump'_od _ _ _ _ _
  · rfl

/-- With no picture waiting none is output before a new sequence. -/
theorem State.endSequence_none {s : State} {n : Nat} (p : ParamSet) (c : CodedS) (d : PicDesc) (k : Nat)
    (h : (s.ses n).waiting = []) : ((s.endSequence n p c d k).ses n).shown = (s.ses n).shown := by
  unfold State.endSequence
  split_ifs
  · rw [State.ses_setSes_same, SessS.shown, SessS.shown, h]
  · rw [State.bump'_none p true k h]
  · rfl

/-! ### Start waits (R199) -/

theorem findObj_sessionWait : ∀ n < 160, (findObj (0x3440 + n) 0x0B).map (fun o => (o.ty, o.acc)) = some (.u32, .ro) := by
  decide +kernel

theorem findObj_packageWait : (findObj 0x3400 0x0A).map (fun o => (o.ty, o.acc)) = some (.u32, .ro) := by decide +kernel

/-- A read that clears answers the value and sets it to 0. -/
theorem State.clearRead_answered {s : State} {r : Req} {idx sub : Nat} {ty : Ty} {eff : State → State × Nat × Val}
    (ha : s.answers r = true) (ho : (findObj idx sub).map (fun o => (o.ty, o.acc)) = some (ty, .ro)) (he : eff s = clearRead idx sub s) :
    ∃ s', s.readReq r idx sub eff = s' ∧ s'.rn idx sub = 0 ∧
      s'.out = .resp r idx sub 0 (encodeVal ty (s.val idx sub)) :: s.out ∧
      s.odSame s' [key idx sub] ∧ s' = { s with od := s'.od, out := s'.out } :=
  ⟨_, s.readReq_taken ha ho he rfl, s.rn_wn_same _ _ _, rfl, fun i hi => Tab.look_put_other _ _ (by simpa using hi), rfl⟩

/-! ### Tone maps (R259) -/

/-- What puts a tone map's staged set in force. -/
def State.toneForce (s : State) (idx : Nat) (l : List Nat) : State :=
  l.foldl (fun s sub => s.setForce idx sub (s.val idx sub)) s

theorem State.toneForce_fval (s : State) (idx sub : Nat) (l : List Nat) :
    (s.toneForce idx l).fval idx sub = if sub ∈ l then s.val idx sub else s.fval idx sub := by
  induction l generalizing s with
  | nil => simp [State.toneForce]
  | cons b l ih =>
    have hval : (s.setForce idx b (s.val idx b)).val idx sub = s.val idx sub := rfl
    rw [show s.toneForce idx (b :: l) = (s.setForce idx b (s.val idx b)).toneForce idx l from rfl, ih, hval]
    by_cases hl : sub ∈ l
    · simp [hl]
    by_cases hb : sub = b
    · subst hb
      simp [hl, State.fval, State.setForce]
    · have hkey : key idx sub ≠ key idx b := by
        simp only [key]
        omega
      simp [hl, hb, State.fval, State.setForce, Tab.look_put_other _ _ hkey]

theorem State.toneForce_frame (s : State) (idx : Nat) (l : List Nat) : ∃ f, s.toneForce idx l = { s with force := f } := by
  induction l generalizing s with
  | nil => exact ⟨_, rfl⟩
  | cons b l ih =>
    obtain ⟨f, hf⟩ := ih (s.setForce idx b (s.val idx b))
    exact ⟨f, hf⟩

theorem findObj_toneApply : ∀ m < 64, (findObj (0x4210 + m) 0x0F).map (fun o =>
    (o.ty, o.acc, sizeOk o [(1 : Byte)].length, o.chk.ok (.num 1))) = some (.u8, .wo, true, true) := by
  decide +kernel

/-- Of a requester that may write, the write of a write-only object's legal value passes the checks. -/
theorem State.checkWrite_of_takes_wo {s : State} {r : Req} (ht : s.takes r = true) {idx sub : Nat} {data : List Byte} {ty : Ty}
    {v : Val} (ho : (findObj idx sub).map (fun o => (o.ty, o.acc, sizeOk o data.length, o.chk.ok v)) = some (ty, .wo, true, true))
    (hdec : decodeVal ty data = some v) (hval : ty.valOk v = true) : ∃ o, s.checkWrite r idx sub data = .ok (o, v) := by
  obtain ⟨o, hfound, hrow⟩ := Option.map_eq_some_iff.1 ho
  simp only [Prod.mk.injEq] at hrow
  obtain ⟨rfl, hacc, hsize, hok⟩ := hrow
  simp only [State.takes, Bool.and_eq_true, Bool.not_eq_true'] at ht
  obtain ⟨⟨⟨hready, hrole⟩, hoff⟩, -⟩ := ht
  refine ⟨o, ?_⟩
  simp [State.checkWrite, idxExists_of_findObj hfound, hfound, hready, hrole, hoff, hacc, hsize, hdec, hval, hok]

/-- The apply of a tone map puts its staged set in force whole. -/
theorem State.toneApply_applies {s : State} {r : Req} {m : Nat} (ht : s.takes r = true) (hm : m < 64) :
    ∃ s', s.request r (0x4210 + m) 0x0F [1] (toneApply m) = s' ∧
      (∀ sub, 1 ≤ sub → sub ≤ 14 → s'.fval (0x4210 + m) sub = s.val (0x4210 + m) sub) ∧
      s'.out = .resp r (0x4210 + m) 0x0F 0 [] :: s.out ∧
      s' = { s with force := s'.force, out := s'.out, partWrites := s'.partWrites } := by
  obtain ⟨o, ho⟩ := State.checkWrite_of_takes_wo ht (findObj_toneApply m hm) (v := .num 1) (by decide) (by decide)
  have happly : toneApply m s (.num 1) = (s.toneForce (0x4210 + m) ((List.range 14).map (· + 1)), 0) := rfl
  have hfval := fun sub => s.toneForce_fval (0x4210 + m) sub ((List.range 14).map (· + 1))
  obtain ⟨f, hf⟩ := s.toneForce_frame (0x4210 + m) ((List.range 14).map (· + 1))
  rw [s.request_taken r _ _ _ _ o _ ho (by rw [happly]), happly]
  rw [hf] at hfval ⊢
  refine ⟨_, State.respond_of_takes ht (s' := { s with force := f }.abandonParts r (0x4210 + m) 0x0F) rfl _ _ _ _, ?_, rfl, rfl⟩
  intro sub h1 h14
  refine (hfval sub).trans (if_pos ?_)
  simp only [List.mem_map, List.mem_range]
  exact ⟨sub - 1, by omega, by omega⟩

/-- A core that ended is freed before a core that is busy is asked for. -/
theorem State.dispatch_ended {s : State} {c e : Nat} (a : Nat) (hec : e ≠ c) (hc : (s.core' c).sess ≠ none)
    (he : (s.core' e).sess ≠ none) (hserves : s.serves (coreKey e) = true) : s.dispatch c [(e, a)] = s.coreEnd e a := by
  obtain ⟨s', hs', -, -, -, hother, -⟩ := State.coreEnd_frees a he hserves
  have hbusy : ((s.coreEnd e a).core' c).sess ≠ none := by rwa [hs', hother c hec.symm]
  exact State.dispatch_busy hbusy

section Complete
variable {s : State} {n : Nat} {d : PicDesc} {a : AuInfo} {rest : List AuInfo} {p : ParamSet}
  (hqueue : (s.ses n).queue = a :: rest) (hvideo : s.isVideo n = true) (hsps : a.coded.sps = some p) (hended : d.ended = [])
  (hwaits : ∀ x ∈ s.segs, ¬(x.sess = n ∧ x.pic = a.ts)) (hcores : ∀ c, c < 14 → (s.core' c).sess ≠ some n)
include hqueue hvideo hsps hended hwaits hcores

/-- The completion of a session's oldest picture. -/
theorem State.pictureComplete_completes : ∃ s', s.pictureComplete n d = s' ∧
    (s'.ses n).queue = rest ∧ (s'.ses n).nextPic = (s.ses n).nextPic + 1 ∧
    (s'.ses n).refs.length ≤ s.rn (sIdx n) 0x15 ∧ s'.rn (0x3440 + n) 0x09 = p.width + 65536 * p.height ∧
    ((s.ses n).waiting = [] → a.judge = .replay → (s'.ses n).disp = (s.ses n).disp) ∧
    (∀ v, a.crc = some v → v ≠ lumaCrc p.codedW p.confX p.confY p.width p.height d.y → a.coded.irap = false →
      pictureExact (s.ses n).refs a.coded p (a.coded.missing (decide (s.rn (sIdx n) 0x16 = 1)) d.errors) d = true →
      s.counted s' 0x5000 0x12 1 ∧ s'.rn (0x3440 + n) 0x02 = tilesOf p.codedW p.codedH) ∧
    s.counted s' (0x3440 + n) 0x04 1 ∧ s.counted s' 0x3400 0x08 1 ∧ (∀ m, m ≠ n → s'.ses m = s.ses m) ∧
    s' = { s with free := s'.free, od := s'.od, log := s'.log, sess := s'.sess, spay := s'.spay, sys := s'.sys } := by
  obtain ⟨refs, pic, missing, darned, segments, bad, heq, hcrc⟩ :=
    State.pictureComplete_eq hqueue hvideo hsps hended hwaits hcores
  have hfirst : (s.setSes n { s.ses n with queue := rest }).ses n = { s.ses n with queue := rest } := State.ses_setSes_same _ _ _
  have hfirstOther : ∀ m, m ≠ n → (s.setSes n { s.ses n with queue := rest }).ses m = s.ses m := fun m hm =>
    State.ses_setSes_other _ _ hm
  have hfirstOd : (s.setSes n { s.ses n with queue := rest }).od = s.od := rfl
  have hfirstFrame : (s.setSes n { s.ses n with queue := rest }).sansPicture = s.sansPicture := rfl
  generalize s.setSes n { s.ses n with queue := rest } = b at *
  have hseq := b.keeps_endSequence n p a.coded d ((s.ses n).waiting.length + 1)
  have hseqOd := b.endSequence_od n p a.coded d ((s.ses n).waiting.length + 1)
  have hseqNone := State.endSequence_none (s := b) (n := n) p a.coded d ((s.ses n).waiting.length + 1)
  generalize b.endSequence n p a.coded d ((s.ses n).waiting.length + 1) = e at *
  have hrn : ∀ idx sub, e.rn idx sub = s.rn idx sub := fun idx sub => State.rn_of_look (by rw [hseqOd, hfirstOd])
  obtain ⟨s', hs', hq, hnext, hrefs, hdisp, hother, hframe⟩ :=
    e.endPicture_row n p a d refs pic ((s.ses n).nextPic + 1) missing darned segments bad
  obtain ⟨s'', hs'', hsize, htaint, hbad, hcount, hpackage⟩ :=
    e.endPicture_counts n p a d refs pic ((s.ses n).nextPic + 1) missing darned segments bad
  obtain rfl := hs'.symm.trans hs''
  refine ⟨s', heq.trans hs', ?_, hnext, ?_, hsize, ?_, ?_, ?_, ?_, ?_, ?_⟩
  · rw [hq]
    exact (congrArg Prod.fst hseq.row).trans (congrArg SessS.queue hfirst)
  · rwa [← hrn]
  · intro hnone hreplay
    have hshown := hseqNone (by rw [hfirst, hnone])
    rw [hfirst] at hshown
    obtain ⟨hwaiting, hshownDisp⟩ := Prod.mk.inj hshown
    exact (hdisp (hwaiting.trans hnone) hreplay).trans hshownDisp
  · intro v hv hne hirap hexact
    obtain ⟨hb, hlen⟩ := hcrc v hv hne hirap hexact
    exact ⟨(hbad hb).congr (hrn _ _).symm rfl, htaint.trans hlen⟩
  · exact hcount.congr (hrn _ _).symm rfl
  · exact hpackage.congr (hrn _ _).symm rfl
  · intro m hm
    rw [hother m hm, hseq.other m hm, hfirstOther m hm]
  · exact State.eq_of_sansPicture (hframe.trans (hseq.frame.trans hfirstFrame))

end Complete

/-- Settles O30: dispatch by the start of the first segment that may go, the completion of a picture by its output before a new
sequence, its counts and its own output; reads that clear, and the fold that puts a tone map in force. -/
theorem decodeAndToneMaps : Obligations.DecodeAndToneMaps := by
  unfold Obligations.DecodeAndToneMaps
  intro s t u
  have hnext : ∀ {a b : State}, a = b → (.next a : Host.Outcome State Fault Refusal) = .next b := congrArg _
  refine ⟨?_, ?_, ?_, ?_, ?_, ?_, ?_⟩
  · intro c _ hactive hserves hfree hrestart
    refine ⟨fun x hfirst hheld => ?_, fun h => hnext (State.dispatch_none hactive hserves hfree hrestart h)⟩
    obtain ⟨s', hs', hrest⟩ := u.startSeg_starts c x
    exact ⟨s', hnext ((State.dispatch_starts hactive hserves hfree hrestart hfirst hheld).trans hs'), hrest⟩
  · exact fun c hbusy => hnext (State.dispatch_busy hbusy)
  · intro c e a _ hec hc he hserves
    obtain ⟨s', hs', hrest⟩ := State.coreEnd_frees a he hserves
    exact ⟨s', hnext ((State.dispatch_ended a hec hc he hserves).trans hs'), hrest⟩
  · intro n d a rest p _ hqueue hvideo hsps hended hwaits hcores
    obtain ⟨s', hs', hrest⟩ := State.pictureComplete_completes hqueue hvideo hsps hended hwaits hcores
    exact ⟨s', hnext hs', hrest⟩
  · intro n d hqueue hended
    refine hnext ?_
    unfold State.pictureComplete
    rw [hended, List.foldl_nil]
    simp only [u, hqueue]
  · intro r ha
    refine ⟨?_, ?_, ?_⟩
    · intro n hn hkind
      obtain ⟨s', hs', hrest⟩ := State.clearRead_answered (eff := sessWaitRead n) ha (findObj_sessionWait n hn)
        (if_neg (by omega))
      exact ⟨s', hnext hs', hrest⟩
    · intro n hn hkind
      have hread := u.readReq_taken (eff := sessWaitRead n) (v := .num 0) ha (findObj_sessionWait n hn) (if_pos hkind) rfl
      rw [show encodeVal .u32 (.num 0) = leBytes 4 0 by decide] at hread
      exact hnext hread
    · obtain ⟨s', hs', hrest⟩ := State.clearRead_answered ha findObj_packageWait rfl
      exact ⟨s', hnext hs', hrest⟩
  · intro r m ht hm
    obtain ⟨s', hs', hrest⟩ := State.toneApply_applies ht hm
    exact ⟨s', hnext hs', hrest⟩

end Sys2Proof.Machine
end

section
/-! SUPPORT. What the loss of a unit, of a region or of a die, and a rerun of admission, leave alone: one lemma for each operation that they
reach (R83, R84, R105 to R113, R155). -/

namespace Sys2Proof.Machine

/-! ### What the loss of a unit, a region or a die leaves alone -/

/-- What neither a unit's loss nor a rerun of admission changes: capture and check units, TPDOs, the values in force, the ports, the
link between the dies, and whether the dictionary is loaded; with them the units' rows, which the operations that no unit's health
depends on leave alone too. -/
structure Steady where
  caps : Tab CapS
  checks : Tab CheckS
  tpdos : Tab TpdoS
  force : Tab Val
  ports : Tab PortS
  link : LinkS
  loaded : Bool
  units : Tab UnitS

/-- The steady part of a state. -/
def State.steady (s : State) : Steady := ⟨s.caps, s.checks, s.tpdos, s.force, s.ports, s.link, s.loaded, s.units⟩

/-- An update of any other field leaves the steady part: one rule for `simp`, whichever of them an operation sets. -/
@[simp] theorem State.steady_update (s : State) (clock free : Nat) (od : Tab Val) (otp : Otp) (log : LogS) (time : TimeS)
    (ptp : Tab PtpS) (trigs : Tab TrigS) (declared lvsTest : List Nat) (lvsTestAt : Tab Nat) (procs : Tab ProcS) (primary : Die)
    (power : PowerS) (tally : TallyS) (conds : List EmcyCond) (cans : Tab CanS) (zdp : Tab ZdpS) (partReads partWrites : Tab PartS)
    (sess : Tab SessS) (mcast : List McastS) (cores : Tab CoreS) (segs : List SegWait) (active unpatched : List Nat)
    (places : Tab Nat) (layers : Tab LayerS) (screens : Tab ScreenS) (commits : List CommitS)
    (receipts : List (Nat × List Receipt)) (queued : List QWrite) (gfx : Tab GfxS) (ctxs : Tab CtxS) (zttQ : List ZttWait)
    (engines : Tab ZttWait) (engLast : Tab Nat) (encs : Tab EncS) (touch : Tab TouchS) (rings : Tab RingS) (pcie : PcieS)
    (lanes : Tab LaneS) (spay : Tab SpayS) (mem : MemS) (sys : SysS) (flash : FlashS) (upd : UpdS) (out : List Out)
    (pending : List Instr) :
    ({ s with
      clock := clock, free := free, od := od, otp := otp, log := log, time := time, ptp := ptp, trigs := trigs
      declared := declared, lvsTest := lvsTest, lvsTestAt := lvsTestAt, procs := procs, primary := primary, power := power
      tally := tally, conds := conds, cans := cans, zdp := zdp, partReads := partReads, partWrites := partWrites, sess := sess
      mcast := mcast, cores := cores, segs := segs, active := active, unpatched := unpatched, places := places
      layers := layers, screens := screens, commits := commits, receipts := receipts, queued := queued, gfx := gfx
      ctxs := ctxs, zttQ := zttQ, engines := engines, engLast := engLast, encs := encs, touch := touch, rings := rings
      pcie := pcie, lanes := lanes, spay := spay, mem := mem, sys := sys, flash := flash, upd := upd, out := out
      pending := pending } : State).steady = s.steady := rfl

@[simp] theorem State.steady_ite (p : Prop) [Decidable p] (a b : State) :
    (if p then a else b).steady = if p then a.steady else b.steady := apply_ite _ _ _ _

/-- What every step of a fold leaves, the fold leaves. -/
@[simp] theorem State.steady_foldl {α : Type} {f : State → α → State} (h : ∀ s a, (f s a).steady = s.steady) (s : State)
    (l : List α) : (l.foldl f s).steady = s.steady := foldl_leaves State.steady f h s l

theorem State.steady_of_sansConds {a b : State} (h : a.sansConds = b.sansConds) : a.steady = b.steady := (congrArg State.steady h :)
theorem State.steady_of_sansJudged {a b : State} (h : a.sansJudged = b.sansJudged) : a.steady = b.steady :=
  (congrArg State.steady h :)
theorem State.steady_of_sansFault {a b : State} (h : a.sansFault = b.sansFault) : a.steady = b.steady := (congrArg State.steady h :)

section Steady
variable (s : State)

/-! Rows and values -/

@[simp] theorem State.wn_steady (idx sub v : Nat) : (s.wn idx sub v).steady = s.steady := rfl
@[simp] theorem State.wi_steady (idx sub : Nat) (v : Int) : (s.wi idx sub v).steady = s.steady := rfl
@[simp] theorem State.setLayer_steady (n : Nat) (l : LayerS) : (s.setLayer n l).steady = s.steady := rfl
@[simp] theorem State.setScreen_steady (x : Nat) (c : ScreenS) : (s.setScreen x c).steady = s.steady := rfl
@[simp] theorem State.setSes_steady (n : Nat) (g : SessS) : (s.setSes n g).steady = s.steady := rfl
@[simp] theorem State.setEnc_steady (e : Nat) (g : EncS) : (s.setEnc e g).steady = s.steady := rfl
@[simp] theorem State.setGfx_steady (n : Nat) (g : GfxS) : (s.setGfx n g).steady = s.steady := rfl
@[simp] theorem State.setCtx_steady (n : Nat) (c : CtxS) : (s.setCtx n c).steady = s.steady := rfl
@[simp] theorem State.setRing_steady (q : Nat) (g : RingS) : (s.setRing q g).steady = s.steady := rfl
@[simp] theorem State.setTch_steady (p : Nat) (g : TouchS) : (s.setTch p g).steady = s.steady := rfl
@[simp] theorem State.setZone_steady (p z : Nat) (x : ZoneS) : (s.setZone p z x).steady = s.steady := rfl
@[simp] theorem State.setSp_steady (q : Nat) (g : SpayS) : (s.setSp q g).steady = s.steady := rfl

/-! Events, conditions and outputs -/

@[simp] theorem State.raise_steady (k ty sev : Nat) (pay : List (Nat × Nat)) : (s.raise k ty sev pay).steady = s.steady :=
  State.steady_of_sansConds (s.raise_sansConds _ _ _ _)
@[simp] theorem State.bump_steady (k idx sub n : Nat) : (s.bump k idx sub n).steady = s.steady :=
  State.steady_of_sansConds (s.bump_sansConds _ _ _ _)
@[simp] theorem State.endCond_steady (c : EmcyCond) : (s.endCond c).steady = s.steady :=
  State.steady_of_sansConds (s.endCond_sansConds c)
@[simp] theorem State.say_steady (o : Out) : (s.say o).steady = s.steady := by
  rw [s.say_frame]
  rfl

/-! Judging layers -/

@[simp] theorem State.firstUse_steady (n : Nat) : (s.firstUse n).steady = s.steady := rfl
@[simp] theorem State.degrade_steady (n : Nat) : (s.degrade n).steady = s.steady :=
  State.steady_of_sansJudged (s.degrade_sansJudged n)
@[simp] theorem State.refreshSummaries_steady : s.refreshSummaries.steady = s.steady := by
  have h (s : State) (x : Nat) : (s.refreshSummary x).steady = s.steady := State.steady_of_sansJudged (s.refreshSummary_sansJudged x)
  simp [State.refreshSummaries, h]

/-! Rings and the function -/

@[simp] theorem State.sendVector_steady (v : Nat) : (s.sendVector v).steady = s.steady := by simp [State.sendVector]
@[simp] theorem State.ringInt_steady (q : Nat) : (s.ringInt q).steady = s.steady := by simp [State.ringInt]
@[simp] theorem State.funcEvent_steady (i : Nat) : (s.funcEvent i).steady = s.steady := by simp [State.funcEvent]
@[simp] theorem State.setReady_steady (b : Bool) : (s.setReady b).steady = s.steady := by simp [State.setReady]
@[simp] theorem State.writeBack_steady (q : Nat) (w : WriteBack) : (s.writeBack q w).steady = s.steady := by simp [State.writeBack]
@[simp] theorem State.zttReply_steady (m : ZttWait) (lease err : Nat) (final more : Bool) :
    (s.zttReply m lease err final more).steady = s.steady := by
  unfold State.zttReply
  cases m.via <;> simp

/-! The servo and the ports' states -/

@[simp] theorem State.setU_steady (u : Option Nat) : (s.setU u).steady = s.steady := by cases u <;> rfl
@[simp] theorem State.setServo_steady (st : Nat) : (s.setServo st).steady = s.steady := by simp [State.setServo, State.armWaiting]
@[simp] theorem State.servoToFree_steady : s.servoToFree.steady = s.steady := by simp [State.servoToFree]
@[simp] theorem State.servoLocalCheck_steady : s.servoLocalCheck.steady = s.steady := by simp [State.servoLocalCheck]
@[simp] theorem State.bmca_steady : s.bmca.steady = s.steady := by simp [State.bmca]
@[simp] theorem State.portDown_steady (p : Nat) : (s.portDown p).steady = s.steady := by simp [State.portDown]

/-! Spaydun -/

@[simp] theorem State.setLock_steady (l : Nat) (b : Bool) : (s.setLock l b).steady = s.steady := by simp [State.setLock]
@[simp] theorem State.relayFrame_steady (n opcode : Nat) (body : List Byte) : (s.relayFrame n opcode body).steady = s.steady := by
  unfold State.relayFrame State.control State.unicast
  split
  · rfl
  · split
    · simp [State.ready]
    · rfl
@[simp] theorem State.spLeave_steady (q st : Nat) : (s.spLeave q st).steady = s.steady := rfl
@[simp] theorem State.spLinkDown_steady (q : Nat) : (s.spLinkDown q).steady = s.steady := by simp [State.spLinkDown]
@[simp] theorem State.sendTraining_steady (q : Nat) : (s.sendTraining q).steady = s.steady := by simp [State.sendTraining]
@[simp] theorem State.spLoss_steady (q : Nat) : (s.spLoss q).steady = s.steady := by simp [State.spLoss]
@[simp] theorem State.laneGone_steady (l : Nat) : (s.laneGone l).steady = s.steady := by simp [State.laneGone, State.spLaneLost]
@[simp] theorem State.laneUnitLost_steady (l : Nat) : (s.laneUnitLost l).steady = s.steady := by simp [State.laneUnitLost]

/-! Sessions and admission -/

@[simp] theorem State.enterSess_steady (n st reason : Nat) : (s.enterSess n st reason).steady = s.steady := rfl
@[simp] theorem State.putCharge_steady (n : Nat) (c : Nat × Nat × Nat × Nat) : (s.putCharge n c).steady = s.steady := rfl
@[simp] theorem State.refreshAdmission_steady : s.refreshAdmission.steady = s.steady := rfl
@[simp] theorem State.report_steady (e : McastS) : (s.report e).steady = s.steady := by simp [State.report]
@[simp] theorem State.join_steady (n : Nat) : (s.join n).steady = s.steady := by
  unfold State.join
  split
  · rfl
  · split <;> simp
@[simp] theorem State.leave_steady (n : Nat) : (s.leave n).steady = s.steady := by
  unfold State.leave
  split
  · rfl
  · simp
@[simp] theorem State.openSurface_steady (n : Nat) : (s.openSurface n).steady = s.steady := by
  simp [State.openSurface, State.primeCtx]
@[simp] theorem State.resetContinuity_steady (n : Nat) : (s.resetContinuity n).steady = s.steady := by
  refine (State.steady_foldl (fun _ _ => ?_) _ _).trans (s.setSes_steady _ _)
  rfl
@[simp] theorem State.freshSession_steady (n : Nat) : (s.freshSession n).steady = s.steady := by simp [State.freshSession]
@[simp] theorem State.toJoining_steady (n : Nat) : (s.toJoining n).steady = s.steady := by simp [State.toJoining]
@[simp] theorem State.dropQueued_steady (n : Nat) : (s.dropQueued n).steady = s.steady := by
  simp [State.dropQueued, State.dropWaiting, State.zttFail]
@[simp] theorem State.dropSegs_steady (n : Nat) : (s.dropSegs n).steady = s.steady := by simp [State.dropSegs]
@[simp] theorem State.closeSess_steady (n reason : Nat) : (s.closeSess n reason).steady = s.steady := by simp [State.closeSess]
@[simp] theorem State.rerunOne_steady (n was : Nat) : (s.rerunOne n was).steady = s.steady := by simp [State.rerunOne]
@[simp] theorem State.rerun_steady : s.rerun.steady = s.steady := by
  have hfold (l : List Nat) : (l.foldl (fun s n => (s.putCharge n (0, 0, 0, 0)).wn (sIdx n) 0x02 sessIdle) s).steady = s.steady := by
    refine State.steady_foldl (fun _ _ => ?_) s l
    rfl
  simp [State.rerun, hfold]
@[simp] theorem State.rejoinSessions_steady : s.rejoinSessions.steady = s.steady := by simp [State.rejoinSessions]

/-! The decode pool, the pipes and the encoders -/

@[simp] theorem State.refreshCores_steady : s.refreshCores.steady = s.steady := by simp [State.refreshCores]
@[simp] theorem State.coreGone_steady (c : Nat) : (s.coreGone c).steady = s.steady := by simp [State.coreGone]
@[simp] theorem State.coreDies_steady (c : Nat) : (s.coreDies c).steady = s.steady := by
  have hfree (s : State) : (s.coreFree c).steady = s.steady := rfl
  unfold State.coreDies
  simp only [hfree]
  split <;> rfl
@[simp] theorem State.refreshPipes_steady : s.refreshPipes.steady = s.steady := rfl
@[simp] theorem State.refreshEncode_steady : s.refreshEncode.steady = s.steady := rfl
@[simp] theorem State.refreshUnits_steady : s.refreshUnits.steady = s.steady := by simp [State.refreshUnits]
@[simp] theorem State.enterEnc_steady (e st reason : Nat) : (s.enterEnc e st reason).steady = s.steady := rfl
@[simp] theorem State.encStopWith_steady (e reason : Nat) : (s.encStopWith e reason).steady = s.steady := by
  simp [State.encStopWith]
@[simp] theorem State.encRecheck_steady (touched : Nat → Bool) : (s.encRecheck touched).steady = s.steady := by
  simp [State.encRecheck]
@[simp] theorem State.encRebind_steady (c : Nat) : (s.encRebind c).steady = s.steady := by
  unfold State.encRebind
  simp only [State.refreshEncode_steady]
  refine State.steady_foldl (fun s e => ?_) s _
  split <;> simp [State.encBind]

/-! Commits, screens and engines -/

@[simp] theorem State.dropPart_steady (x : Nat) : (s.dropPart x).steady = s.steady := by
  simp [State.dropPart, State.receipt, State.putCommit, State.refreshCommits]
@[simp] theorem State.screenLost_steady (x : Nat) : (s.screenLost x).steady = s.steady := by simp [State.screenLost]
@[simp] theorem State.engineLost_steady (z : Nat) : (s.engineLost z).steady = s.steady := by
  unfold State.engineLost
  split
  · rfl
  · simp only [State.setCtx_steady]
    unfold State.taintRect
    split <;> rfl

/-! Touch -/

@[simp] theorem State.zoneLatch_steady (p z reason : Nat) : (s.zoneLatch p z reason).steady = s.steady := by
  simp [State.zoneLatch, State.zoneSet, State.zoneHeld]
@[simp] theorem State.stopTouch_steady (p st : Nat) : (s.stopTouch p st).steady = s.steady := by
  simp [State.stopTouch, State.latchZones]

/-! Requesters and the PCIe function -/

@[simp] theorem State.record_steady (f : BootS → BootS) : (s.record f).steady = s.steady := by simp [State.record]
@[simp] theorem State.enterUpd_steady (st : Nat) : (s.enterUpd st).steady = s.steady := by simp [State.enterUpd]
@[simp] theorem State.dropImage_steady (result cause : Nat) : (s.dropImage result cause).steady = s.steady := by
  simp [State.dropImage, State.noDownload]
@[simp] theorem State.releaseLock_steady (why : Nat) : (s.releaseLock why).steady = s.steady := by
  unfold State.releaseLock
  split <;> simp
@[simp] theorem State.pathLost_steady (r : Req) : (s.pathLost r).steady = s.steady := by simp [State.pathLost]
@[simp] theorem State.canLost_steady (c : Nat) : (s.canLost c).steady = s.steady := by simp [State.canLost]
@[simp] theorem State.zdpCloseAll_steady : s.zdpCloseAll.steady = s.steady := by simp [State.zdpCloseAll, State.zdpClose]
@[simp] theorem State.sysFailover_steady : s.sysFailover.steady = s.steady := by
  unfold State.sysFailover
  simp only [State.steady_update, State.zdpCloseAll_steady]
  refine State.steady_foldl (fun s c => ?_) s _
  split
  · simp
  · rfl
@[simp] theorem State.pcieDown_steady (st : Nat) : (s.pcieDown st).steady = s.steady := by
  simp [State.pcieDown, State.functionReset, State.dropRing]
@[simp] theorem State.dramLost_steady : s.dramLost.steady = s.steady := by simp [State.dramLost]

end Steady

end Sys2Proof.Machine
end

section
/-! SUPPORT. What becomes of the units' rows in a loss, and what outlives it (R83, R105 to R107, R113). -/

namespace Sys2Proof.Machine

/-! ### Losses, step by step (R83, R105, R107, R113) -/

/-- What holds of a DEAD unit's state: the LVS pairs follow R69 and are left out. -/
def DeadRow (k st : Nat) : Prop := isLvs k = false ∧ st = 2

/-- What holds of the state of a unit that is there: neither DEAD nor FENCED. -/
def StandingRow (_k st : Nat) : Prop := st ≠ 2 ∧ st ≠ 5

/-- Of the steady part nothing but the units' rows has changed, and what held of a unit's state holds of it after. -/
structure State.Follows (P : Nat → Nat → Prop) (a b : State) : Prop where
  frame : b.steady = { a.steady with units := b.units }
  row : ∀ k, P k (a.unit k).st → P k (b.unit k).st

namespace State.Follows
variable {P : Nat → Nat → Prop} {a b c : State}

theorem of_steady (h : b.steady = a.steady) : State.Follows P a b := by
  have hunits : b.units = a.units := congrArg Steady.units h
  exact ⟨h.trans (by rw [hunits]; rfl), fun k hk => by simpa only [State.unit, hunits] using hk⟩

theorem refl (a : State) : State.Follows P a a := of_steady rfl

theorem trans (h : State.Follows P a b) (h' : State.Follows P b c) : State.Follows P a c :=
  ⟨h'.frame.trans (by rw [h.frame]), fun k hk => h'.row k (h.row k hk)⟩

/-- A steady operation after changes nothing of it. -/
theorem steady (h : State.Follows P a b) (hc : c.steady = b.steady) : State.Follows P a c := h.trans (of_steady hc)

theorem ite (hb : State.Follows P a b) (hc : State.Follows P a c) (p : Prop) [Decidable p] :
    State.Follows P a (if p then b else c) := by
  split
  · exact hb
  · exact hc

theorem foldl {α : Type} {f : State → α → State} (h : ∀ s x, State.Follows P s (f s x)) (s : State) (l : List α) :
    State.Follows P s (l.foldl f s) :=
  List.foldlRecOn l f (motive := fun s' => State.Follows P s s') (refl s) (fun _ ih x _ => ih.trans (h _ x))

/-- A unit's row is set to one of which the same holds. -/
theorem setUnit {k : Nat} {u : UnitS} (h : P k (a.unit k).st → P k u.st) : State.Follows P a (a.setUnit k u) := by
  refine ⟨rfl, fun j hj => ?_⟩
  by_cases hjk : j = k
  · subst hjk
    simpa using h hj
  · rwa [State.unit_setUnit_other _ _ hjk]

end State.Follows

@[simp] theorem State.setHealth_steady (s : State) (k : Nat) (u : UnitS) (old : Nat) :
    (s.setHealth k u old).steady = (s.setUnit k u).steady :=
  State.steady_of_sansConds (s.setHealth_sansConds k u old)

/-- With the steady part the units' rows are the same. -/
theorem State.unit_of_steady {a b : State} (h : a.steady = b.steady) (k : Nat) : a.unit k = b.unit k := by
  have hunits : a.units = b.units := congrArg Steady.units h
  simp only [State.unit, hunits]

section Losses
variable {P : Nat → Nat → Prop} (s : State)

theorem State.setHealth_follows {k : Nat} {u : UnitS} (h : P k (s.unit k).st → P k u.st) (old : Nat) :
    State.Follows P s (s.setHealth k u old) := by
  have hset : State.Follows P s (s.setUnit k u) := .setUnit h
  exact hset.steady (s.setHealth_steady k u old)

/-- A patch names the partners of both rows, and the spare's reads PATCHED. -/
theorem State.patch_follows (dead spare : Nat) (h : P spare (s.unit spare).st → P spare 4) :
    State.Follows P s (s.patch dead spare) := by
  have hdead : State.Follows P s (s.setUnit dead { s.unit dead with partner := some (s.addrOf spare) }) := .setUnit id
  unfold State.patch
  refine hdead.trans (State.setHealth_follows _ (k := spare) ?_ _)
  by_cases hk : spare = dead
  · subst hk
    simpa using h
  · simpa [State.unit_setUnit_other _ _ hk] using h

/-- The surviving pool: a SPARE core becomes OK. -/
theorem State.poolOf_follows (hP : ∀ k, P k 3 → P k 0) (die : Nat) : State.Follows P s (s.poolOf die) := by
  unfold State.poolOf
  dsimp only
  refine (State.Follows.foldl (fun s c => ?_) s _).steady ((State.refreshCores_steady _).trans (State.steady_update _ ..))
  split
  · rename_i hspare
    exact s.setHealth_follows (fun h => hP _ (hspare ▸ h)) _
  · exact .refl s

/-! The loss of a unit's function -/

theorem st_of_mem_spareCores {s : State} {c : Nat} (h : c ∈ s.spareCores) : (s.unit (coreKey c)).st = 3 := by
  simpa using (List.mem_filter.1 h).2

theorem State.coreLost_follows (hP : ∀ k, P k 3 → P k 4) (c : Nat) (whole : Bool) : State.Follows P s (s.coreLost c whole) := by
  unfold State.coreLost
  split
  · exact .of_steady (by simp)
  · split
    · rename_i sp rest hspares
      have hsp : (s.unit (coreKey sp)).st = 3 := st_of_mem_spareCores (by rw [hspares]; exact List.mem_cons_self)
      have hactive (l : List Nat) : State.Follows P s { s with active := l } := .of_steady rfl
      have hpatch (l : List Nat) : State.Follows P s ({ s with active := l }.patch (coreKey c) (coreKey sp)).refreshCores :=
        ((hactive l).trans (State.patch_follows _ _ _ (fun h => hP _ (hsp ▸ h)))).steady (State.refreshCores_steady _)
      exact .ite (hpatch _) (.of_steady (by simp)) _
    · exact .of_steady (by simp)

theorem State.pipeLost_follows (hP : ∀ k, P k 3 → P k 4) (x : Nat) (patchable : Bool) :
    State.Follows P s (s.pipeLost x patchable) := by
  unfold State.pipeLost
  dsimp only
  split
  · split
    · rename_i y hy
      have hspare : (s.unit (pipeKey y)).st = 3 := by simpa using List.find?_some hy
      have hplaces (t : Tab Nat) : State.Follows P s { s with places := t } := .of_steady rfl
      have hpatch (t : Tab Nat) : State.Follows P s ({ s with places := t }.patch (pipeKey x) (pipeKey y)).refreshPipes :=
        ((hplaces t).trans (State.patch_follows _ _ _ (fun h => hP _ (hspare ▸ h)))).steady (State.refreshPipes_steady _)
      exact .ite (hpatch _) (.of_steady (by simp)) _
    · exact .of_steady (by simp)
  · exact .of_steady (by simp)

theorem State.functionLost_follows (hP : ∀ k, P k 3 → P k 4) (k : Nat) (patchable : Bool) :
    State.Follows P s (s.functionLost k patchable) := by
  unfold State.functionLost
  dsimp only
  split
  · exact .of_steady (by simp)
  · split
    · rename_i core _
      have hdies : State.Follows P s (s.coreDies core) := .of_steady (s.coreDies_steady core)
      have hlost (w : Bool) : State.Follows P s ((s.coreDies core).coreLost core w) := hdies.trans (State.coreLost_follows _ hP _ _)
      exact .ite hdies (.ite (hlost _) (.ite (hlost _) (.of_steady (by simp)) _) _) _
    · exact .refl s
  · exact .ite (.foldl (fun s i => .of_steady (s.setScreen_steady _ _)) s _) (.of_steady (by simp)) _
  · refine .ite (.of_steady (by simp)) ?_ _
    split
    · exact s.pipeLost_follows hP _ _
    · exact .refl s
  · exact .of_steady (by simp)
  · exact .of_steady (by simp)
  · exact .refl s

/-! The death of units -/

/-- A unit that is SPARE is not DEAD. -/
theorem deadRow_of_spare {k st : Nat} : DeadRow k 3 → DeadRow k st := fun h => absurd h.2 (by decide)

theorem State.unitDead_follows (k : Nat) : State.Follows DeadRow s (s.unitDead k) := by
  have hpartner : State.Follows DeadRow s (match (s.unit k).partner with
      | some a => s.setUnit (a % 2048) { s.unit (a % 2048) with partner := none }
      | none => s) := by
    split
    · exact .setUnit id
    · exact .refl s
  unfold State.unitDead
  exact hpartner.trans (State.setHealth_follows _ (fun h => ⟨h.1, rfl⟩) _)

theorem State.unitDead_st (k : Nat) : ((s.unitDead k).unit k).st = 2 := by
  unfold State.unitDead
  simp only [State.unit_of_steady (State.setHealth_steady _ _ _ _), State.unit_setUnit_same, UnitS.dead]

theorem isLvs_lvsKey (d : Die) : isLvs (lvsKey d.idx) = true := by cases d <;> rfl

/-- An LVS pair's fault changes that pair's row alone. -/
theorem State.lvsFault_follows (d : Die) : State.Follows DeadRow s (s.lvsFault d) := by
  by_cases h : s.lvsStopped d.idx = true
  · refine .of_steady ?_
    simp [State.lvsFault, h]
  · have hset : State.Follows DeadRow s (s.setUnit (lvsKey d.idx)
        { s.unit (lvsKey d.idx) with st := 1, prior := (s.unit (lvsKey d.idx)).st }) :=
      .setUnit (fun hdead => absurd hdead.1 (by simp [isLvs_lvsKey]))
    exact hset.steady ((State.steady_of_sansFault (State.lvsFault_sansFault (Bool.eq_false_iff.2 h))).trans rfl)

theorem State.killAll_follows (ks : List Nat) : State.Follows DeadRow s (s.killAll ks) := by
  have hlost (s : State) (k : Nat) : State.Follows DeadRow s (match keyCore k with
      | some c => (s.coreDies c).coreGone c
      | none => s.functionLost k false) := by
    split
    · exact .of_steady (by simp)
    · exact s.functionLost_follows (fun _ => deadRow_of_spare) k false
  refine ((State.Follows.foldl (fun s k => s.unitDead_follows k) s _).trans (.foldl (fun s k => hlost s k) _ _)).trans
    (.foldl (fun s k => .ite (s.lvsFault_follows _) (.refl s) _) _ _)

/-! The loss of a die and of the link -/

/-- What is on record at once of a die lost. -/
def State.dieMarked (s : State) (d : Nat) : State :=
  let s := if s.primary.idx = d then s.sysFailover else s
  { s with
    link := { s.link with lostDie := some (dieOf d), reloading := true }
    declared := s.declared ++ [dieAddr d, regionAddr d 0, regionAddr d 1, regionAddr d 2]
    primary := (dieOf d).other, loaded := false
    mem := { s.mem with training := true, refreshing := false, bursts := [], queued := none } }

theorem State.dieMarked_steady (d : Nat) : (s.dieMarked d).steady =
    { s.steady with link := { s.link with lostDie := some (dieOf d), reloading := true }, loaded := false } := by
  have hfail : (if s.primary.idx = d then s.sysFailover else s).steady = s.steady := by simp
  unfold State.dieMarked
  generalize (if s.primary.idx = d then s.sysFailover else s) = a at *
  have hlink : a.link = s.link := (congrArg Steady.link hfail :)
  rw [← hfail, ← hlink]
  rfl

/-- What the health objects show at once of a die lost. -/
def State.dieNoted (s : State) (d : Nat) : State :=
  let s := s.wn 0x6000 0x0F (if d = 0 then 0xF0 else 0x0F)
  let s := s.wn 0x2100 0x01 (wrapInc 16 (s.rn 0x2100 0x01))
  let s := s.wn 0x2100 0x02 (setBit (s.rn 0x2100 0x02) d false)
  [0, 1, 2].foldl (fun s r => s.wn 0x2100 (0x12 + 3 * d + r) 0) s

/-- What is left to the survivor once the units of the lost die are DEAD. -/
def State.dieSettled (s : State) (d : Nat) : State :=
  let s := if spTraining ≤ s.spState d then (if s.spState d = spTraining then s.spLeave d spDown else s.spLinkDown d) else s
  let s := (s.poolOf (1 - d)).refreshEncode
  let s := if d = 0 then { s.pcieDown 0 with pcie := {} } else s.setReady false
  s.dramLost

/-- The loss of a die in its four parts. -/
theorem State.loseDie_eq {s : State} (h : s.link.lostDie = none) (d : Nat) :
    s.loseDie d = (((s.dieMarked d).dieNoted d).killAll (unitsOfDie d)).dieSettled d := by
  unfold State.loseDie
  rw [if_neg (by simp [h])]
  rfl

theorem State.dieSettled_follows (d : Nat) : State.Follows DeadRow s (s.dieSettled d) := by
  unfold State.dieSettled
  simp only
  generalize hlinks : (if spTraining ≤ s.spState d then (if s.spState d = spTraining then s.spLeave d spDown else s.spLinkDown d)
    else s) = a
  have ha : State.Follows DeadRow s a := .of_steady (by simp [← hlinks])
  exact (ha.trans (a.poolOf_follows (fun _ => deadRow_of_spare) (1 - d))).steady (by simp)

/-- A die lost is on record, and the rest follows from the record. -/
theorem State.loseDie_follows {s : State} (h : s.link.lostDie = none) (d : Nat) :
    State.Follows DeadRow (s.dieMarked d) (s.loseDie d) := by
  rw [State.loseDie_eq h]
  have hnoted : State.Follows DeadRow (s.dieMarked d) ((s.dieMarked d).dieNoted d) := .of_steady (by simp [State.dieNoted])
  exact (hnoted.trans (State.killAll_follows _ _)).trans (State.dieSettled_follows _ d)

/-- The link lost: its state, the die that yields, and the dictionary out of service. -/
theorem State.loseLink_link {s : State} (hlost : s.link.lost = false) (hdie : s.link.lostDie = none) :
    s.loseLink.loaded = false ∧ s.loseLink.link = { s.link with
      lost := true, lostDie := some (if s.declared.contains (regionAddr 0 2) then .e else .w), reloading := true } := by
  have h : s.loseLink = { s with link := { s.link with lost := true } }.loseDie
      (if s.declared.contains (regionAddr 0 2) then 0 else 1) := by
    simp [State.loseLink, hlost]
  have hframe := (State.loseDie_follows (s := { s with link := { s.link with lost := true } }) hdie
    (if s.declared.contains (regionAddr 0 2) then 0 else 1)).frame
  rw [State.dieMarked_steady, ← h] at hframe
  refine ⟨(congrArg Steady.loaded hframe :), ?_⟩
  have hlink : s.loseLink.link = _ := congrArg Steady.link hframe
  rw [hlink, apply_ite dieOf]
  rfl

/-! ### What outlives a loss -/

/-- Capture and check units, TPDOs, the values in force and the ports stay as they were. -/
def State.Kept (a b : State) : Prop :=
  b.caps = a.caps ∧ b.checks = a.checks ∧ b.tpdos = a.tpdos ∧ b.force = a.force ∧ b.ports = a.ports

/-- These are kept, and a unit DEAD before is DEAD after. -/
structure State.Outlives (a b : State) : Prop where
  kept : State.Kept a b
  dead : ∀ k, isLvs k = false → (a.unit k).st = 2 → (b.unit k).st = 2

theorem State.Follows.kept {P : Nat → Nat → Prop} {a b : State} (h : State.Follows P a b) : State.Kept a b :=
  ⟨(congrArg Steady.caps h.frame :), (congrArg Steady.checks h.frame :), (congrArg Steady.tpdos h.frame :),
    (congrArg Steady.force h.frame :), (congrArg Steady.ports h.frame :)⟩

theorem State.Follows.outlives {a b : State} (h : State.Follows DeadRow a b) : State.Outlives a b :=
  ⟨h.kept, fun k hk hst => (h.row k ⟨hk, hst⟩).2⟩

theorem State.Kept.trans {a b c : State} (h : State.Kept a b) (h' : State.Kept b c) : State.Kept a c := by
  obtain ⟨hcaps, hchecks, htpdos, hforce, hports⟩ := h
  obtain ⟨hcaps', hchecks', htpdos', hforce', hports'⟩ := h'
  exact ⟨hcaps'.trans hcaps, hchecks'.trans hchecks, htpdos'.trans htpdos, hforce'.trans hforce, hports'.trans hports⟩

theorem State.Outlives.trans {a b c : State} (h : State.Outlives a b) (h' : State.Outlives b c) : State.Outlives a c :=
  ⟨h.kept.trans h'.kept, fun k hk hst => h'.dead k hk (h.dead k hk hst)⟩

theorem State.Outlives.of_steady {a b : State} (h : b.steady = a.steady) : State.Outlives a b :=
  (State.Follows.of_steady h).outlives

/-- The record of a lost die outlives it. -/
theorem State.dieMarked_outlives (d : Nat) : State.Outlives s (s.dieMarked d) := by
  have h := s.dieMarked_steady d
  refine ⟨⟨(congrArg Steady.caps h :), (congrArg Steady.checks h :), (congrArg Steady.tpdos h :), (congrArg Steady.force h :),
    (congrArg Steady.ports h :)⟩, fun k _ hst => ?_⟩
  have hunits : (s.dieMarked d).units = s.units := (congrArg Steady.units h :)
  simpa only [State.unit, hunits] using hst

theorem State.loseDie_outlives (d : Nat) : State.Outlives s (s.loseDie d) := by
  rcases h : s.link.lostDie with _ | lost
  · exact (s.dieMarked_outlives d).trans (State.loseDie_follows h d).outlives
  · refine .of_steady ?_
    simp [State.loseDie, h]

theorem State.loseRegion_outlives (d r : Nat) : State.Outlives s (s.loseRegion d r) := by
  unfold State.loseRegion
  split
  · exact .of_steady rfl
  · split
    · exact s.loseDie_outlives d
    · have hnoted : State.Outlives s ({ s with declared := s.declared ++ [regionAddr d r] }.wn 0x2100 (0x12 + 3 * d + r) 0) :=
        .of_steady rfl
      have hkilled := hnoted.trans (State.killAll_follows _ (unitsOfRegion d r)).outlives
      dsimp only
      generalize State.killAll _ _ = a at hkilled ⊢
      split
      · exact hkilled.trans ((a.poolOf_follows (fun _ => deadRow_of_spare) (1 - d)).steady (by simp)).outlives
      · exact hkilled.trans (.of_steady (by simp))

theorem State.processorLost_outlives (d : Nat) (p : Proc) : State.Outlives s (s.processorLost d p) := by
  have hrow (t : Tab ProcS) : State.Outlives s { s with procs := t } := .of_steady rfl
  cases p with
  | sys => exact .of_steady (by simp [State.processorLost])
  | net => exact (hrow _).trans (State.loseRegion_outlives _ d 2)
  | med => exact (hrow _).trans (State.loseRegion_outlives _ d 0)
  | cmp => exact (hrow _).trans (State.loseRegion_outlives _ d 1)
  | tch => exact .of_steady (by simp [State.processorLost])

/-- A unit killed: nothing that outlives a loss is changed. -/
theorem State.kill_outlives (k : Nat) : State.Outlives s (s.kill k) := by
  unfold State.kill
  split
  · exact (s.lvsFault_follows _).outlives
  · split
    · exact .of_steady rfl
    · dsimp only
      refine (s.unitDead_follows k).outlives.trans ?_
      split
      · exact State.processorLost_outlives _ _ _
      · exact (State.functionLost_follows _ (fun _ => deadRow_of_spare) k _).outlives

/-- A unit that is there is DEAD once it is killed. -/
theorem State.kill_st {s : State} {k : Nat} (hlvs : isLvs k = false) (hgone : s.gone k = false) : ((s.kill k).unit k).st = 2 := by
  simp only [State.kill, hlvs, hgone, Bool.false_eq_true, if_false]
  split
  · exact (State.processorLost_outlives _ _ _).dead k hlvs (s.unitDead_st k)
  · exact (State.functionLost_follows _ (fun _ => deadRow_of_spare) k _).outlives.dead k hlvs (s.unitDead_st k)

end Losses

end Sys2Proof.Machine
end

section
/-! SUPPORT. The package architecture's statements on strips and health commands: what each command is refused for, and what it does (R90, R97,
R115, R116). -/

namespace Sys2Proof.Machine

/-- Settles O35: the ceiling of V ÷ 16 and the end of a strip, by division. -/
theorem stripsCutTheScreen : Obligations.StripsCutTheScreen := by
  unfold Obligations.StripsCutTheScreen
  intro s x v
  have hstrips : s.strips x = (v + 15) / 16 := rfl
  have hend (k : Nat) : s.stripEnd x k = min (16 * (k + 1)) v := rfl
  refine ⟨⟨?_, ?_⟩, ?_, ?_, ?_, ?_, ?_⟩
  · omega
  · omega
  · intro line hline
    omega
  · intro k hk
    rw [hend]
    omega
  · intro hv
    rw [hend]
    omega
  · omega
  · omega

/-! ### Requests for a health command (R16, R90, R115) -/

theorem findObj_healthCommand :
    findObj 0x2100 0x0A = some ⟨0x2100, 1, 0x0A, 0x0A, .u8, .wo, false, false, false, .num 0, .rng 1 3⟩ := by
  decide +kernel

/-- Of a requester that may write, the three health commands pass the checks. -/
theorem State.checkWrite_healthCommand {s : State} {r : Req} (ht : s.takes r = true) {c : Byte} (hc : c ∈ [(1 : Byte), 2, 3]) :
    ∃ o, s.checkWrite r 0x2100 0x0A [c] = .ok (o, .num c.toNat) := by
  have hrow : (findObj 0x2100 0x0A).map (fun o => (o.ty, o.acc, sizeOk o [c].length, o.chk.ok (.num c.toNat))) =
      some (.u8, .wo, true, true) := by
    rw [findObj_healthCommand]
    simp only [List.mem_cons, List.not_mem_nil, or_false] at hc
    rcases hc with rfl | rfl | rfl <;> rfl
  exact State.checkWrite_of_takes_wo ht hrow (by simp [decodeVal, Ty.isNum, Ty.signed, Ty.size, leNat]) rfl

section HealthRequest
variable {u a : State} {r : Req} (ht : u.takes r = true) {c : Byte} (hc : c ∈ [(1 : Byte), 2, 3]) {pass : Bool}
include ht hc

/-- A health command that is refused answers its code, and nothing else happens. -/
theorem State.healthRequest_turned {code : Nat} (h : healthCommand pass u (.num c.toNat) = (a, code)) (hcode : code ≠ 0) :
    u.request r 0x2100 0x0A [c] (healthCommand pass) = { u with out := .resp r 0x2100 0x0A code [] :: u.out } := by
  obtain ⟨o, ho⟩ := State.checkWrite_healthCommand ht hc
  rw [u.request_turned r _ _ _ _ o _ ho (by rw [h]; exact hcode), h]
  exact State.respond_of_takes ht rfl _ _ _ _

/-- A health command that is accepted has its effect and is answered. -/
theorem State.healthRequest_taken (h : healthCommand pass u (.num c.toNat) = (a, 0)) :
    u.request r 0x2100 0x0A [c] (healthCommand pass) = (a.abandonParts r 0x2100 0x0A).respond r 0x2100 0x0A 0 [] := by
  obtain ⟨o, ho⟩ := State.checkWrite_healthCommand ht hc
  rw [u.request_taken r _ _ _ _ o _ ho (by rw [h]), h]

end HealthRequest

/-- The units that no health command declares DEAD, and those that are DEAD or FENCED already. -/
theorem healthDead_refused {s : State} {k : Nat} (hsel : unitOf s.selected = some k)
    (hk : isLvs k = true ∨ k = procKey (keyDie k) .sys ∨ k = arbiterKey (keyDie k) ∨ s.gone k = true) : healthDead s = (s, 7) := by
  simp only [healthDead, hsel]
  rw [if_pos (by simpa [or_assoc] using hk)]

/-- A write that passes the checks is of an object of the table and carries a value of its type. -/
theorem State.checkWrite_ok {s : State} {r : Req} {idx sub : Nat} {data : List Byte} {o : Obj} {v : Val}
    (h : s.checkWrite r idx sub data = .ok (o, v)) : findObj idx sub = some o ∧ decodeVal o.ty data = some v := by
  unfold State.checkWrite at h
  repeat' split at h
  all_goals simp_all

/-- A write of 1 to 0x2100:0A that passes the checks carries the number 1. -/
theorem State.checkWrite_declareDead {s : State} {r : Req} {o : Obj} {v : Val}
    (h : s.checkWrite r 0x2100 0x0A [1] = .ok (o, v)) : v = .num 1 := by
  obtain ⟨ho, hdec⟩ := State.checkWrite_ok h
  rw [findObj_healthCommand, Option.some.injEq] at ho
  subst ho
  exact (Option.some.inj hdec).symm

section Keepers
variable {u : State} {r : Req} {k : Nat} (hsel : unitOf u.selected = some k)
  (hk : isLvs k = true ∨ k = procKey (keyDie k) .sys ∨ k = arbiterKey (keyDie k) ∨ u.gone k = true)
include hsel hk

/-- Where health command 1 is refused, the whole write of it is refused with code 7. -/
theorem State.writeBy_declareDead {o : Obj} {v : Val} (h : u.checkWrite r 0x2100 0x0A [1] = .ok (o, v)) :
    u.writeBy r 0x2100 0x0A [1] = (u, 7) := by
  obtain rfl := State.checkWrite_declareDead h
  have heff : writeEffect r 0x2100 0x0A u (.num 1) = (u.fresh.2, 7) := by
    rw [← healthDead_refused (s := u.fresh.2) hsel hk]
    simp [writeEffect, writeBase, findObj_healthCommand, State.portRefuses, writePackage, healthCommand, Val.int]
  have hw : u.write r 0x2100 0x0A [1] (writeEffect r 0x2100 0x0A) = (u, 7) := by
    simp only [State.write, h, heff]
    rfl
  exact State.writeBy_refused hw (by omega) (by omega) (by omega)

/-- The request for health command 1 is then answered code 7. -/
theorem State.request_declareDead {o : Obj} {v : Val} (h : u.checkWrite r 0x2100 0x0A [1] = .ok (o, v)) :
    u.request r 0x2100 0x0A [1] (healthCommand false) = u.respond r 0x2100 0x0A 7 [] := by
  obtain rfl := State.checkWrite_declareDead h
  have heff : healthCommand false u (.num 1) = (u, 7) := healthDead_refused hsel hk
  rw [u.request_turned r _ _ _ _ o _ h (by simp [heff]), heff]

end Keepers

/-- Settles O22: either row is refused by the checks, or by the command's own rule with code 7. -/
theorem healthCommandsKeepTheKeepers : Obligations.HealthCommandsKeepTheKeepers := by
  unfold Obligations.HealthCommandsKeepTheKeepers
  intro s t r k c hsel hk hc
  have hk' : isLvs k = true ∨ k = procKey (keyDie k) .sys ∨ k = arbiterKey (keyDie k) ∨ (s.tick t).gone k = true := by tauto
  rcases hcheck : (s.tick t).checkWrite r 0x2100 0x0A [1] with code | ⟨o, v⟩
  · refine ⟨code, ?_, ?_, ?_⟩
    · rcases State.checkWrite_error_cases hcheck with hcode | ⟨rfl, -⟩
      · simp only [List.mem_cons, List.not_mem_nil, or_false] at hcode
        omega
      · decide
    · simp only [List.mem_cons, List.not_mem_nil, or_false] at hc
      rcases hc with rfl | rfl
      · exact congrArg _ ((s.tick t).request_refused r _ _ _ _ code hcheck)
      · exact dictionaryWrite_of_checkWrite_error hcheck
    · intro ht
      obtain ⟨o, ho⟩ := State.checkWrite_healthCommand ht (c := 1) (by decide)
      exact absurd (hcheck.symm.trans ho) (by simp)
  · refine ⟨7, by decide, ?_, fun _ => rfl⟩
    simp only [List.mem_cons, List.not_mem_nil, or_false] at hc
    rcases hc with rfl | rfl
    · exact congrArg _ (State.request_declareDead hsel hk' hcheck)
    · have hwrite := State.writeBy_declareDead hsel hk' hcheck
      have hlater : answeredFirst 0x2100 0x0A = false := rfl
      simp only [exec, execDictionaryWrite, State.writeAnd, hwrite, hlater, Bool.false_eq_true, if_false]

/-! ### What a return to service follows (R110, R191, R241) -/

theorem standingRow_ok (k : Nat) : StandingRow k 0 := by simp [StandingRow]
theorem standingRow_patched (k : Nat) : StandingRow k 4 := by simp [StandingRow]

theorem State.coreReturned_follows (s : State) (c : Nat) : State.Follows StandingRow s (s.coreReturned c) := by
  have hpool (s : State) (d : Nat) : State.Follows StandingRow s (s.poolOf d) := s.poolOf_follows (fun k _ => standingRow_ok k) d
  unfold State.coreReturned
  split
  · unfold State.poolAgain
    exact .ite (hpool s _) ((hpool s _).steady (State.rerun_steady _)) _
  · split
    · rename_i d ds _
      have hactive : State.Follows StandingRow s { s with active := s.active ++ [c], unpatched := ds } := .of_steady rfl
      have hpatch := hactive.trans (State.patch_follows _ (coreKey d) (coreKey c) (fun _ => standingRow_patched _))
      have hplain := hactive.trans (State.setHealth_follows (P := StandingRow) _ (k := coreKey c)
        (u := { s.unit (coreKey c) with st := 4 }) (fun _ => standingRow_patched _) 3)
      dsimp only
      split
      · exact (hpatch.ite hplain _).steady ((State.rerun_steady _).trans (State.refreshCores_steady _))
      · exact .of_steady (by simp)
    · exact .of_steady (by simp)

theorem State.functionBack_follows (s : State) (k : Nat) : State.Follows StandingRow s (s.functionBack k) := by
  unfold State.functionBack
  split
  · exact s.coreReturned_follows _
  · split
    · exact .of_steady (by simp)
    · have hok := State.setHealth_follows (P := StandingRow) s (k := k) (u := { s.unit k with st := 0 })
        (fun _ => standingRow_ok k) 3
      dsimp only
      exact (hok.steady (State.rerun_steady _)).ite (hok.steady (State.refreshUnits_steady _)) _

/-! ### Address select and the health commands (R115, R116) -/

/-- The number that little-endian bytes of another carry. -/
theorem leNat_leBytes (n v : Nat) : leNat (leBytes n v) = v % 256 ^ n := by
  induction n generalizing v with
  | zero => simp [leBytes, leNat, Nat.mod_one]
  | succ n ih =>
    have hpow : 256 ^ (n + 1) = 2 ^ 8 * 256 ^ n := Nat.pow_succ'
    rw [leBytes, leNat, ih, BitVec.toNat_ofNat, hpow]
    exact Nat.mod_mul.symm

theorem leBytes_length (n v : Nat) : (leBytes n v).length = n := by
  induction n generalizing v with
  | zero => rfl
  | succ n ih => rw [leBytes, List.length_cons, ih]

theorem findObj_selectedAddress :
    findObj 0x2100 0x04 = some ⟨0x2100, 1, 0x04, 0x04, .u32, .rw, false, false, false, .num 0, .any⟩ := by
  decide +kernel

/-- Of a requester that may write, an address passes the checks of a write. -/
theorem State.checkWrite_addressSelect {s : State} {r : Req} (ht : s.takes r = true) {addr : Nat} (h : addr < 2 ^ 32) :
    ∃ o, s.checkWrite r 0x2100 0x04 (leBytes 4 addr) = .ok (o, .num addr) := by
  have hdec : decodeVal .u32 (leBytes 4 addr) = some (.num addr) := by
    have hv : leNat (leBytes 4 addr) = addr := (leNat_leBytes 4 addr).trans (Nat.mod_eq_of_lt (by omega))
    simp [decodeVal, Ty.isNum, Ty.signed, Ty.size, leBytes_length, hv]
  have hc := State.checkWrite_of_takes ht findObj_selectedAddress hdec (by simp [sizeOk, Ty.size, leBytes_length]) (.inl rfl)
  exact ⟨_, hc.trans (if_pos rfl)⟩

/-- The snapshot of a unit: its address, and its row in 0x2100:05 to :09. -/
def State.unitShown (s : State) (addr : Nat) (g : UnitS) : State :=
  (((((s.wn 0x2100 0x04 addr).wn 0x2100 0x05 g.st).wn 0x2100 0x06 g.epoch).wn 0x2100 0x07 (g.partner.getD 0xFFFFFFFF)).wn
    0x2100 0x08 g.faults).wn 0x2100 0x09 (min 1024 g.adv)

section AddressSelect
variable {s : State} {addr : Nat}

theorem addressSelect_unit (hok : addrOk addr = true) (hpkg : (Addr.ofNat addr).pkg = s.pkgId) (hlevel : (Addr.ofNat addr).level = 0) :
    addressSelect s (.num addr) = (s.unitShown addr (s.unit (addr % 2048)), 0) := by
  simp [addressSelect, Val.int, hok, hpkg, hlevel]
  rfl

theorem addressSelect_refused (h : addrOk addr = false ∨ (Addr.ofNat addr).pkg ≠ s.pkgId) : addressSelect s (.num addr) = (s, 6) := by
  have hbad : (!addrOk addr || decide ((Addr.ofNat addr).pkg ≠ s.pkgId)) = true := by
    rcases h with h | h <;> simp [h]
  exact if_pos hbad

/-- What the snapshot reads as. -/
theorem State.unitShown_reads (g : UnitS) : (s.unitShown addr g).selected = addr ∧
    (s.unitShown addr g).rn 0x2100 0x05 = g.st ∧ (s.unitShown addr g).rn 0x2100 0x06 = g.epoch ∧
    (s.unitShown addr g).rn 0x2100 0x07 = g.partner.getD 0xFFFFFFFF ∧ (s.unitShown addr g).rn 0x2100 0x08 = g.faults ∧
    (s.unitShown addr g).rn 0x2100 0x09 = min 1024 g.adv ∧ s.odSame (s.unitShown addr g) ([4, 5, 6, 7, 8, 9].map (key 0x2100)) := by
  have hlook (s : State) (a v : Nat) (i : Nat) (h : i ≠ key 0x2100 a) : (s.wn 0x2100 a v).od.look i = s.od.look i := s.look_wn_other v h
  refine ⟨?_, ?_, ?_, ?_, ?_, ?_, ?_⟩
  · simp [State.selected, State.unitShown, Tab.look_put_other, key, Val.int]
  · simp (disch := decide) only [State.unitShown, State.rn_wn_other, State.rn_wn_same]
  · simp (disch := decide) only [State.unitShown, State.rn_wn_other, State.rn_wn_same]
  · simp (disch := decide) only [State.unitShown, State.rn_wn_other, State.rn_wn_same]
  · simp (disch := decide) only [State.unitShown, State.rn_wn_other, State.rn_wn_same]
  · simp only [State.unitShown, State.rn_wn_same]
  · intro i hi
    simp only [List.map_cons, List.map_nil, List.mem_cons, List.not_mem_nil, or_false, not_or] at hi
    obtain ⟨h4, h5, h6, h7, h8, h9⟩ := hi
    rw [State.unitShown, hlook _ _ _ _ h9, hlook _ _ _ _ h8, hlook _ _ _ _ h7, hlook _ _ _ _ h6, hlook _ _ _ _ h5, hlook _ _ _ _ h4]

end AddressSelect

/-- The address of a unit selected: the snapshot is taken, and the write is answered. -/
theorem State.addressSelect_shows {u : State} {r : Req} (ht : u.takes r = true) {addr : Nat} (haddr : addr < 2 ^ 32)
    (hok : addrOk addr = true) (hpkg : (Addr.ofNat addr).pkg = u.pkgId) (hlevel : (Addr.ofNat addr).level = 0) :
    ∃ s', u.request r 0x2100 0x04 (leBytes 4 addr) addressSelect = s' ∧ s'.selected = addr ∧
      s'.rn 0x2100 0x05 = (u.unit (addr % 2048)).st ∧ s'.rn 0x2100 0x06 = (u.unit (addr % 2048)).epoch ∧
      s'.rn 0x2100 0x07 = (u.unit (addr % 2048)).partner.getD 0xFFFFFFFF ∧
      s'.rn 0x2100 0x08 = (u.unit (addr % 2048)).faults ∧ s'.rn 0x2100 0x09 = min 1024 (u.unit (addr % 2048)).adv ∧
      s'.out = .resp r 0x2100 0x04 0 [] :: u.out ∧ u.odSame s' ([4, 5, 6, 7, 8, 9].map (key 0x2100)) ∧
      s' = { u with od := s'.od, out := s'.out, partWrites := s'.partWrites } := by
  obtain ⟨o, ho⟩ := State.checkWrite_addressSelect ht haddr
  have heff := addressSelect_unit hok hpkg hlevel
  have hreads := u.unitShown_reads (addr := addr) (u.unit (addr % 2048))
  have hframe : u.unitShown addr (u.unit (addr % 2048)) = { u with od := (u.unitShown addr (u.unit (addr % 2048))).od } := rfl
  generalize u.unitShown addr (u.unit (addr % 2048)) = b at *
  obtain ⟨hsel, h5, h6, h7, h8, h9, hsame⟩ := hreads
  have htaken := u.request_taken r _ _ _ addressSelect o _ ho (by rw [heff])
  rw [heff] at htaken
  have hpower : (b.abandonParts r 0x2100 0x04).power = u.power := (congrArg State.power hframe :)
  have hout : b.out = u.out := (congrArg State.out hframe :)
  refine ⟨_, htaken.trans (State.respond_of_takes ht hpower _ _ _ _), hsel, h5, h6, h7, h8, h9, congrArg (_ :: ·) hout, hsame, ?_⟩
  rw [hframe]
  rfl

/-- States that differ in what changes of health alone do: one is the other with those parts. -/
theorem State.eq_of_sansConds {a b : State} (h : a.sansConds = b.sansConds) :
    a = { b with od := a.od, log := a.log, conds := a.conds, cans := a.cans } :=
  congrArg (fun x : State => { x with od := a.od, log := a.log, conds := a.conds, cans := a.cans }) h

/-- A change of health: the unit's row, dictionary values, the log, the conditions and the CAN ports' queues. -/
theorem State.setHealth_frame (s : State) (k : Nat) (u : UnitS) (old : Nat) : s.setHealth k u old =
    { s with od := (s.setHealth k u old).od, log := (s.setHealth k u old).log, units := (s.setHealth k u old).units,
             conds := (s.setHealth k u old).conds, cans := (s.setHealth k u old).cans } := by
  have hunits : (s.setHealth k u old).units = (s.setUnit k u).units := (congrArg State.units (s.setHealth_sansConds k u old) :)
  rw [hunits]
  exact State.eq_of_sansConds (s.setHealth_sansConds k u old)

theorem State.unit_setHealth_same (s : State) (k : Nat) (u : UnitS) (old : Nat) : (s.setHealth k u old).unit k = u :=
  (State.unit_of_steady (s.setHealth_steady k u old) k).trans (s.unit_setUnit_same k u)

/-- An answer and the end of part writes leave the steady part. -/
@[simp] theorem State.respond_steady (s : State) (r : Req) (idx sub st : Nat) (v : List Byte) :
    (s.respond r idx sub st v).steady = s.steady := by
  rw [s.respond_frame]
  rfl

@[simp] theorem State.abandonParts_steady (s : State) (r : Req) (idx sub : Nat) : (s.abandonParts r idx sub).steady = s.steady := rfl

theorem State.Kept.of_steady {a b : State} (h : b.steady = a.steady) : State.Kept a b :=
  (State.Follows.of_steady (P := DeadRow) h).kept

section Commands
variable {u : State} {r : Req} (ht : u.takes r = true) {k : Nat} (hsel : unitOf u.selected = some k)
include ht hsel

/-- Health command 1 of a unit that it may declare DEAD. -/
theorem State.declareDead_kills (hlvs : isLvs k = false) (hsys : k ≠ procKey (keyDie k) .sys) (harb : k ≠ arbiterKey (keyDie k))
    (hgone : u.gone k = false) :
    ∃ s', u.request r 0x2100 0x0A [1] (healthCommand false) = s' ∧ (s'.unit k).st = 2 ∧ State.Kept u s' := by
  have heff : healthCommand false u (.num 1) = ((u.kill k).refreshUnits, 0) := by
    simp [healthCommand, Val.int, healthDead, hsel, hlvs, hsys, harb, hgone]
  have hsteady : ∀ s', s' = (((u.kill k).refreshUnits).abandonParts r 0x2100 0x0A).respond r 0x2100 0x0A 0 [] →
      s'.steady = (u.kill k).steady := by
    rintro _ rfl
    simp
  refine ⟨_, State.healthRequest_taken ht (c := 1) (by decide) heff, ?_, ?_⟩
  · rw [State.unit_of_steady (hsteady _ rfl)]
    exact State.kill_st hlvs hgone
  · exact (u.kill_outlives k).kept.trans (.of_steady (hsteady _ rfl))

/-- Health command 2 of a unit that is DEAD or FENCED and passes its self-test. -/
theorem State.returned_stands (hgone : u.gone k = true) (hadv : (u.unit k).adv < 1024) (hdie : u.dieLost (keyDie k) = false) :
    ∃ s', u.request r 0x2100 0x0A [2] (healthCommand true) = s' ∧ State.Kept u s' ∧ s'.gone k = false := by
  let row : UnitS := { u.unit k with st := 3, gate := false, partner := none, window := none, sram := [] }
  have heff : healthCommand true u (.num 2) = ((u.setHealth k row (u.unit k).st).functionBack k, 0) := by
    simp [healthCommand, Val.int, healthReturn, hsel, hgone, hadv, hdie, row]
  have hback := (u.setHealth k row (u.unit k).st).functionBack_follows k
  have hspare : (u.setHealth k row (u.unit k).st).unit k = row := u.unit_setHealth_same k row _
  have hset := u.setHealth_follows (P := fun _ _ => True) (k := k) (u := row) (fun _ => trivial) (u.unit k).st
  generalize hb : (u.setHealth k row (u.unit k).st).functionBack k = b at *
  have hsteady : ((b.abandonParts r 0x2100 0x0A).respond r 0x2100 0x0A 0 []).steady = b.steady := by simp
  refine ⟨_, State.healthRequest_taken ht (c := 2) (by decide) heff, ?_, ?_⟩
  · exact (hset.kept.trans hback.kept).trans (.of_steady hsteady)
  · obtain ⟨h2, h5⟩ := hback.row k (by rw [hspare]; simp [StandingRow, row])
    simp [State.gone, State.unit_of_steady hsteady, h2, h5]

/-- Health command 2 of a unit that is DEAD or FENCED and fails its self-test. -/
theorem State.returned_fails (hgone : u.gone k = true) :
    ∃ s', u.request r 0x2100 0x0A [2] (healthCommand false) = s' ∧ (s'.unit k).st = 2 ∧
      s'.out = .resp r 0x2100 0x0A 0 [] :: u.out ∧
      s' = { u with od := s'.od, log := s'.log, units := s'.units, conds := s'.conds, cans := s'.cans,
                    out := s'.out, partWrites := s'.partWrites } := by
  by_cases h5 : (u.unit k).st = 5
  · let row : UnitS := { (u.unit k).dead with adv := min 1024 ((u.unit k).adv + 1) }
    have heff : healthCommand false u (.num 2) = (u.setHealth k row 5, 0) := by
      simp [healthCommand, Val.int, healthReturn, hsel, hgone, h5, row]
    have hframe := u.setHealth_frame k row 5
    have hrow := u.unit_setHealth_same k row 5
    generalize u.setHealth k row 5 = b at *
    have hpower : (b.abandonParts r 0x2100 0x0A).power = u.power := (congrArg State.power hframe :)
    refine ⟨_, (State.healthRequest_taken ht (c := 2) (by decide) heff).trans (State.respond_of_takes ht hpower _ _ _ _), ?_, ?_, ?_⟩
    · exact congrArg UnitS.st hrow
    · have hout : b.out = u.out := (congrArg State.out hframe :)
      exact congrArg (_ :: ·) hout
    · rw [hframe]
      rfl
  · have heff : healthCommand false u (.num 2) = (u, 0) := by
      simp [healthCommand, Val.int, healthReturn, hsel, hgone, h5]
    have h2 : (u.unit k).st = 2 := by simpa [State.gone, h5] using hgone
    refine ⟨_, (State.healthRequest_taken ht (c := 2) (by decide) heff).trans
      (State.respond_of_takes ht (s' := u.abandonParts r 0x2100 0x0A) rfl _ _ _ _), h2, rfl, rfl⟩

/-- Health command 3: the unit's count and the snapshot of it read 0, and the read-clear's record holds what it was. -/
theorem State.faults_cleared :
    ∃ s', u.request r 0x2100 0x0A [3] (healthCommand false) = s' ∧ (s'.unit k).faults = 0 ∧ s'.rn 0x2100 0x08 = 0 ∧
      s'.rb 0x2000 0x07 = leBytes 2 0x2100 ++ leBytes 1 8 ++ [0] ++
        leBytes 4 (wrapInc 32 (leNat ((u.rb 0x2000 0x07).drop 4 |>.take 4))) ++ leBytes 8 (u.unit k).faults ∧
      s'.out = .resp r 0x2100 0x0A 0 [] :: u.out ∧ (∀ j, j ≠ k → s'.unit j = u.unit j) ∧
      s' = { u with od := s'.od, units := s'.units, out := s'.out, partWrites := s'.partWrites } := by
  let b : State := ((u.wn 0x2100 0x08 (u.unit k).faults).readClear 0x2100 0x08).setUnit k { u.unit k with faults := 0 }
  have heff : healthCommand false u (.num 3) = (b, 0) := by
    simp [healthCommand, Val.int, clearFaults, hsel]
    rfl
  refine ⟨_, (State.healthRequest_taken ht (c := 3) (by decide) heff).trans
      (State.respond_of_takes ht (s' := b.abandonParts r 0x2100 0x0A) rfl _ _ _ _), ?_, ?_, ?_, rfl, ?_, rfl⟩
  · exact congrArg UnitS.faults (State.unit_setUnit_same _ k _)
  · exact State.readClear_rn _ _ _ (by decide)
  · have hheld := u.rn_wn_same 0x2100 0x08 (u.unit k).faults
    have hrecord : (u.wn 0x2100 0x08 (u.unit k).faults).rb 0x2000 0x07 = u.rb 0x2000 0x07 :=
      congrArg Val.bs (u.val_wv_other _ (by decide))
    refine (State.rb_wb_same _ _ _ _).trans ?_
    rw [hheld, hrecord]
  · exact fun j hj => State.unit_setUnit_other _ _ hj

end Commands

/-- Settles O21: a snapshot writes six values; each command is refused by the rule of its own, or has the effect that its lemma
gives. -/
theorem healthCommandsActOnTheSelectedUnit : Obligations.HealthCommandsActOnTheSelectedUnit := by
  unfold Obligations.HealthCommandsActOnTheSelectedUnit
  intro s t r u keeps refused ht
  have hnext : ∀ {a b : State}, a = b → (.next a : Host.Outcome State Fault Refusal) = .next b := congrArg _
  refine ⟨?_, ?_, ?_, ?_⟩
  · intro addr haddr hok hpkg hlevel
    obtain ⟨s', hs', hrest⟩ := State.addressSelect_shows ht haddr hok hpkg hlevel
    exact ⟨s', hnext hs', hrest⟩
  · intro addr haddr hbad
    obtain ⟨o, ho⟩ := State.checkWrite_addressSelect ht haddr
    have heff := addressSelect_refused hbad
    refine hnext ((u.request_turned r _ _ _ _ o _ ho (by simp [heff])).trans ?_)
    rw [heff]
    exact State.respond_of_takes ht rfl _ _ _ _
  · intro k hsel
    refine ⟨?_, ?_, ?_, ?_, ?_, ?_⟩
    · intro hlvs hsys harb hgone
      obtain ⟨s', hs', hrest⟩ := State.declareDead_kills ht hsel hlvs hsys harb hgone
      exact ⟨s', hnext hs', hrest⟩
    · intro hk
      exact hnext (State.healthRequest_turned ht (c := 1) (by decide) (healthDead_refused hsel hk) (by decide))
    · intro pass hgone
      have heff : healthCommand pass u (.num 2) = (u, 7) := by simp [healthCommand, Val.int, healthReturn, hsel, hgone]
      exact hnext (State.healthRequest_turned ht (c := 2) (by decide) heff (by decide))
    · intro hgone hadv hdown
      have hdie : u.dieLost (keyDie k) = false := by
        simp only [State.wholeDown, Bool.or_eq_false_iff] at hdown
        exact hdown.1.1
      obtain ⟨s', hs', hrest⟩ := State.returned_stands ht hsel hgone hadv hdie
      exact ⟨s', hnext hs', hrest⟩
    · intro hgone
      obtain ⟨s', hs', hrest⟩ := State.returned_fails ht hsel hgone
      exact ⟨s', hnext hs', hrest⟩
    · obtain ⟨s', hs', hrest⟩ := State.faults_cleared ht hsel
      exact ⟨s', hnext hs', hrest⟩
  · intro hsel
    refine ⟨?_, ?_, ?_⟩
    · have heff : healthCommand false u (.num 1) = (u, 7) := by simp [healthCommand, Val.int, healthDead, hsel]
      exact hnext (State.healthRequest_turned ht (c := 1) (by decide) heff (by decide))
    · intro pass
      have heff : healthCommand pass u (.num 2) = (u, 7) := by simp [healthCommand, Val.int, healthReturn, hsel]
      exact hnext (State.healthRequest_turned ht (c := 2) (by decide) heff (by decide))
    · have heff : healthCommand false u (.num 3) = (u, 7) := by simp [healthCommand, Val.int, hsel]
      exact hnext (State.healthRequest_turned ht (c := 3) (by decide) heff (by decide))

end Sys2Proof.Machine
end

section
/-! SUPPORT. The package architecture's statements on faults, processors and the two dies (R81 to R89, R95, R104, R113, R194, R637). -/

namespace Sys2Proof.Machine

/-! ### The dies watch each other (R81 to R84, R95, R113) -/

/-- The tick of the last heartbeat of a die. -/
def LinkS.beat (l : LinkS) : Die → Nat
  | .e => l.hbE
  | .w => l.hbW

/-- A die's heartbeat is recorded at its own side of the link and leaves on it. -/
theorem State.heartbeat_sends {s : State} {d : Die} (hdie : s.dieLost d.idx = false) (hlost : s.link.lost = false)
    (hphase : s.power.phase = .booting ∨ s.power.phase = .running) :
    ∃ s', s.heartbeat d = s' ∧ s'.out = .heartbeat d :: s.out ∧ s'.link.beat d = s.clock ∧
      s' = { s with link := s'.link, out := s'.out } := by
  have hsay (l : LinkS) : { s with link := l }.say (.heartbeat d) = { s with link := l, out := .heartbeat d :: s.out } := by
    unfold State.say
    rw [if_neg]
    rcases hphase with h | h <;> simp [Out.always, Out.onEthernet, h]
  have hbeats : (s.dieLost d.idx || s.link.lost) ≠ true := by simp [hdie, hlost]
  cases d with
  | e => exact ⟨_, (if_neg hbeats).trans (hsay { s.link with hbE := s.clock }), rfl, rfl, rfl⟩
  | w => exact ⟨_, (if_neg hbeats).trans (hsay { s.link with hbW := s.clock }), rfl, rfl, rfl⟩

/-- A die watches for the other's heartbeat. -/
theorem State.heartbeatTimeout_eq (s : State) (d : Die) : s.heartbeatTimeout d =
    if s.link.lost || s.dieLost d.idx || decide (s.clock < s.link.beat d.other + msTicks) then s else s.loseLink := by
  cases d <;> rfl

/-- A die that has received no heartbeat for 1 ms: the link is lost. -/
theorem State.heartbeatTimeout_loses {s : State} {d : Die} (hlost : s.link.lost = false) (hdie : s.dieLost d.idx = false)
    (hdue : s.link.beat d.other + msTicks ≤ s.clock) : s.heartbeatTimeout d = s.loseLink := by
  rw [State.heartbeatTimeout_eq, if_neg (by simpa [hlost, hdie] using hdue)]

theorem State.heartbeatTimeout_early {s : State} {d : Die} (hearly : s.clock < s.link.beat d.other + msTicks) :
    s.heartbeatTimeout d = s := by
  rw [State.heartbeatTimeout_eq, if_pos (by simp [hearly])]

/-! CRC failures (R81) -/

/-- The soft faults of the link in the last second. -/
def State.recentSoft (s : State) : List Nat := s.link.soft.filter (fun a => s.clock < a + sTicks)

/-- The record of a transfer's next CRC failure: the second is a soft fault. -/
def State.crcRecorded (s : State) (x : Nat) : State :=
  let n := s.link.fails.at' x 0 + 1
  { s with link := { s.link with
    fails := if 3 ≤ n then s.link.fails.cut x else s.link.fails.put x n
    soft := if n = 2 then s.recentSoft ++ [s.clock] else s.recentSoft } }

/-- A failure recorded and counted, with its event where it is not the first of its transfer. -/
def State.crcCounted (s : State) (x : Nat) : State :=
  let a := (s.crcRecorded x).bump (procKey s.primary.idx .sys) 0x2100 0x11
  if 2 ≤ s.link.fails.at' x 0 + 1 then
    a.raise (procKey s.primary.idx .sys) 0x0204 2 [(8, s.link.fails.at' x 0 + 1), (8, (s.crcRecorded x).link.soft.length)]
  else a

theorem State.linkCrc_eq {s : State} (hlost : s.link.lost = false) (hdie : s.link.lostDie = none) (x : Nat) :
    s.linkCrc x = if 3 ≤ s.link.fails.at' x 0 + 1 || 16 < (s.crcRecorded x).link.soft.length then (s.crcCounted x).loseLink
      else s.crcCounted x := by
  unfold State.linkCrc
  rw [if_neg (by simp [hlost, hdie])]
  rfl

section Crc
variable (s : State) (x : Nat)

theorem State.crcCounted_sansCounts : (s.crcCounted x).sansCounts = (s.crcRecorded x).sansCounts := by
  unfold State.crcCounted
  dsimp only
  split <;> simp

theorem State.crcCounted_link : (s.crcCounted x).link = (s.crcRecorded x).link :=
  (congrArg State.link (s.crcCounted_sansCounts x) :)

theorem State.crcCounted_counted : s.counted (s.crcCounted x) 0x2100 0x11 1 := by
  have h : (s.crcRecorded x).counted _ 0x2100 0x11 1 := State.counted_bump _ (procKey s.primary.idx .sys) 0x2100 0x11 1
  refine h.congr rfl (State.rn_congr ?_)
  unfold State.crcCounted
  dsimp only
  split
  · exact State.look_raise_other _ _ _ _ _ (by decide)
  · rfl

end Crc

/-- States that differ in dictionary values and the log alone: one is the other with those parts. -/
theorem State.eq_of_sansCounts {a b : State} (h : a.sansCounts = b.sansCounts) : a = { b with od := a.od, log := a.log } :=
  congrArg (fun x : State => { x with od := a.od, log := a.log }) h

/-- An event raised after a few others is the one the source would have raised before them, where address and clock are the same. -/
theorem State.raised_after {s a : State} {k : Nat} (ty sev : Nat) (pay : List (Nat × Nat)) (hgrown : Grown 4 s.log a.log)
    (haddr : a.addrOf k = s.addrOf k) (hclock : a.clockOf (keyDie k) = s.clockOf (keyDie k)) :
    s.raised (a.raise k ty sev pay) k ty sev pay := by
  intro hroom
  obtain ⟨l, hl, hlen⟩ := hgrown.append k
  have hlen : l.length ≤ 4 := by exact_mod_cast hlen
  let e : Ev := ⟨ty, sev, s.addrOf k, (s.clockOf (keyDie k)).1, (s.clockOf (keyDie k)).2, pay, 0⟩
  have hraise : a.raise k ty sev pay = a.enqueue k e := by rw [State.raise, haddr, hclock]
  have hqueue := a.enqueue_queues k e (by rw [hl, List.length_append]; omega)
  rw [hl, List.append_assoc, ← hraise] at hqueue
  exact ⟨l ++ [e], e, hqueue, List.mem_append_right l (List.mem_singleton_self e), rfl, rfl, rfl, rfl, rfl, rfl⟩

section FewFailures
variable {s : State} {x : Nat} (hlost : s.link.lost = false) (hdie : s.link.lostDie = none)
include hlost hdie

/-- A first or second failure, with fewer than 16 soft faults in the last second, costs the link nothing. -/
theorem State.linkCrc_few (hfails : s.link.fails.at' x 0 < 2) (hsoft : s.recentSoft.length < 16) :
    s.linkCrc x = s.crcCounted x := by
  rw [State.linkCrc_eq hlost hdie, if_neg]
  have hlen : (s.crcRecorded x).link.soft.length ≤ 16 := by
    simp only [State.crcRecorded]
    split
    · rw [List.length_append, List.length_singleton]
      omega
    · omega
  simp only [Bool.or_eq_true, decide_eq_true_eq]
  omega

/-- The third failure of a transfer loses the link. -/
theorem State.linkCrc_third (hfails : 2 ≤ s.link.fails.at' x 0) : (s.linkCrc x).link.lost = true := by
  have hlink := s.crcCounted_link x
  have hloses : s.linkCrc x = (s.crcCounted x).loseLink := by
    rw [State.linkCrc_eq hlost hdie, if_pos]
    simp only [Bool.or_eq_true, decide_eq_true_eq]
    omega
  rw [hloses, (State.loseLink_link (s := s.crcCounted x) (by rw [hlink]; exact hlost) (by rw [hlink]; exact hdie)).2]

end FewFailures

/-- The second failure of a transfer raises its event with the soft faults of the last second. -/
theorem State.crcCounted_raised {s : State} {x : Nat} (h : s.link.fails.at' x 0 = 1) :
    s.raised (s.crcCounted x) (procKey s.primary.idx .sys) 0x0204 2 [(8, 2), (8, s.recentSoft.length + 1)] := by
  have hsoft : (s.crcRecorded x).link.soft.length = s.recentSoft.length + 1 := by simp [State.crcRecorded, h]
  have hevent : s.crcCounted x = ((s.crcRecorded x).bump (procKey s.primary.idx .sys) 0x2100 0x11).raise (procKey s.primary.idx .sys)
      0x0204 2 [(8, 2), (8, s.recentSoft.length + 1)] := by
    simp [State.crcCounted, h, hsoft]
  have hgrown : Grown 1 s.log ((s.crcRecorded x).bump (procKey s.primary.idx .sys) 0x2100 0x11).log :=
    (State.bump_grown (s.crcRecorded x) _ _ _ _).after rfl
  rw [hevent]
  refine State.raised_after _ _ _ (hgrown.mono (by norm_num)) ?_ ?_
  · exact State.addrOf_congr (by rw [State.bump_frame])
      (State.rn_congr ((State.look_bump_other _ _ _ (by decide) (by decide)).trans rfl)) _
  · rw [State.bump_frame]
    rfl

/-! The comparison of the time bases (R95) -/

/-- A state without what triggers passed change: dictionary values, the log and the triggers' rows. -/
def State.sansTrigs (s : State) : State := { s.sansCounts with trigs := [] }

section StepTriggers
variable (s : State) (die now : Nat)

theorem State.stepTriggers_sansTrigs : (s.stepTriggers die now).sansTrigs = s.sansTrigs := by
  have hbump (s : State) (k idx sub n : Nat) : (s.bump k idx sub n).sansTrigs = s.sansTrigs :=
    congrArg (fun x : State => { x with trigs := [] }) (s.bump_sansCounts k idx sub n)
  have hrow (s : State) (t : Tab TrigS) : ({ s with trigs := t } : State).sansTrigs = s.sansTrigs := rfl
  refine foldl_leaves State.sansTrigs _ (fun s p => ?_) s s.trigs
  dsimp only
  split_ifs <;> simp only [hbump, hrow]

/-- Fire times missed are counted at the triggers, not at the comparison. -/
theorem State.stepTriggers_rn : (s.stepTriggers die now).rn 0x2800 0x14 = s.rn 0x2800 0x14 := by
  have hrow (s : State) (t : Tab TrigS) : ({ s with trigs := t } : State).rn 0x2800 0x14 = s.rn 0x2800 0x14 := rfl
  refine foldl_leaves (·.rn 0x2800 0x14) _ (fun s p => ?_) s s.trigs
  dsimp only
  split_ifs <;> simp (disch := decide) only [State.rn_bump_sub, hrow]

end StepTriggers

/-- The two time bases of a package with both dies. -/
theorem State.nowAt_zero {s : State} (h : s.dieLost 0 = false) : s.nowAt 0 = s.time.sec * 1000000000 + s.time.ns := by
  simp [State.nowAt, State.clockOf, h]

theorem State.nowAt_one {s : State} (h : s.dieLost 1 = false) : s.nowAt 1 = s.time.wSec * 1000000000 + s.time.wNs := by
  simp [State.nowAt, State.clockOf, h]

/-- W's time base loaded from E's, `d` ns away. -/
def TimeS.reload (t : TimeS) (d : Nat) : TimeS := { t with wSec := t.sec, wNs := t.ns, wFrac := t.frac, dieExtra := d }

/-- W's time base at `w` ns. -/
def TimeS.runOn (t : TimeS) (w : Nat) : TimeS := { t with wSec := w / 1000000000, wNs := w % 1000000000 }

/-- W reloaded from E: what is clocked on it moves by `o` ns with it, and its triggers passed fire late. -/
def State.reloadW (s : State) (d : Nat) (o : Int) : State :=
  ({ s.wn 0x2800 0x14 (min 0xFFFF d) with time := s.time.reload d }.shiftFrames 1 o).stepTriggers 1 (s.nowAt 0)

section Compare
variable {s : State} (h0 : s.dieLost 0 = false) (h1 : s.dieLost 1 = false)

/-- W reloaded reads what E reads. -/
theorem State.reloadW_reads (d : Nat) (o : Int) : (s.reloadW d o).rn 0x2800 0x14 = min 0xFFFF d ∧
    (s.reloadW d o).time = s.time.reload d ∧ (s.reloadW d o).link = s.link ∧
    s.reloadW d o = { s with
      od := (s.reloadW d o).od, log := (s.reloadW d o).log, time := (s.reloadW d o).time, screens := (s.reloadW d o).screens
      touch := (s.reloadW d o).touch, encs := (s.reloadW d o).encs, trigs := (s.reloadW d o).trigs } := by
  have hrn : (s.reloadW d o).rn 0x2800 0x14 = _ := State.stepTriggers_rn _ _ _
  have hsans : (s.reloadW d o).sansTrigs = _ := State.stepTriggers_sansTrigs _ _ _
  refine ⟨hrn.trans (s.rn_wn_same _ _ _), (congrArg State.time hsans :), (congrArg State.link hsans :), ?_⟩
  generalize s.reloadW d o = s' at *
  exact congrArg (fun x : State => { x with
    od := s'.od, log := s'.log, time := s'.time, screens := s'.screens, touch := s'.touch, encs := s'.encs, trigs := s'.trigs }) hsans

variable (hlost : s.link.lost = false) {drift w : Int} {d : Nat} (hw : w = (s.nowAt 1 : Int) + drift)
  (hd : d = (w - (s.nowAt 0 : Int)).natAbs)
include hlost h0 h1 hw hd

/-- Beyond 10 ns W is reloaded from E. -/
theorem State.dieCompare_far (hfar : 10 < d) : s.dieCompare drift = s.reloadW d (w - (s.nowAt 0 : Int)) := by
  rw [State.nowAt_one h1] at hw
  rw [State.reloadW, State.nowAt_zero h0]
  rw [State.nowAt_zero h0] at hd
  subst hw hd
  unfold State.dieCompare
  rw [if_neg (by simp [hlost])]
  exact if_pos hfar

/-- Within 10 ns W runs on with its drift. -/
theorem State.dieCompare_near (hnear : d ≤ 10) :
    s.dieCompare drift = { s.wn 0x2800 0x14 (min 0xFFFF d) with time := s.time.runOn w.toNat } := by
  rw [State.nowAt_one h1] at hw
  rw [State.nowAt_zero h0] at hd
  subst hw hd
  unfold State.dieCompare
  rw [if_neg (by simp [hlost])]
  exact if_neg (by omega)

/-- DIE_TIME_COMPARE of two dies. -/
theorem State.dieCompare_compares (hpos : 0 ≤ w) : ∃ s', s.dieCompare drift = s' ∧ s'.rn 0x2800 0x14 = min 0xFFFF d ∧
    s'.nowAt 0 = s.nowAt 0 ∧
    (10 < d → s'.nowAt 1 = s.nowAt 0 ∧ s'.time.wFrac = s.time.frac ∧ s'.time.dieExtra = d ∧
      s' = { s with od := s'.od, log := s'.log, time := s'.time, screens := s'.screens, touch := s'.touch, encs := s'.encs,
                    trigs := s'.trigs }) ∧
    (d ≤ 10 → (s'.nowAt 1 : Int) = w ∧ s'.time.dieExtra = s.time.dieExtra ∧ s.odSame s' [key 0x2800 0x14] ∧
      s' = { s with od := s'.od, time := s'.time }) := by
  have hdies {s' : State} (h : s'.link = s.link) : s'.dieLost 0 = false ∧ s'.dieLost 1 = false := by
    simp only [State.dieLost, h]
    exact ⟨h0, h1⟩
  rcases Nat.lt_or_ge 10 d with hfar | hnear
  · obtain ⟨hrn, htime, hlink, hframe⟩ := State.reloadW_reads (s := s) d (w - (s.nowAt 0 : Int))
    obtain ⟨h0', h1'⟩ := hdies hlink
    refine ⟨_, State.dieCompare_far h0 h1 hlost hw hd hfar, hrn, ?_, fun _ => ⟨?_, ?_, ?_, hframe⟩, fun h => absurd h (by omega)⟩
    · rw [State.nowAt_zero h0', htime, State.nowAt_zero h0]
      rfl
    · rw [State.nowAt_one h1', htime, State.nowAt_zero h0]
      rfl
    · rw [htime]
      rfl
    · rw [htime]
      rfl
  · have hnow1 (w : Nat) : (s.time.runOn w).wSec * 1000000000 + (s.time.runOn w).wNs = w := Nat.div_add_mod' w 1000000000
    have heq := State.dieCompare_near h0 h1 hlost hw hd hnear
    generalize s.dieCompare drift = s' at *
    have htime : s'.time = s.time.runOn w.toNat := (congrArg State.time heq :)
    obtain ⟨h0', h1'⟩ := hdies (congrArg State.link heq :)
    refine ⟨s', rfl, ?_, ?_, fun h => absurd h (by omega), fun _ => ⟨?_, ?_, ?_, ?_⟩⟩
    · rw [heq]
      exact s.rn_wn_same _ _ _
    · rw [State.nowAt_zero h0', State.nowAt_zero h0, htime]
      rfl
    · rw [State.nowAt_one h1', htime, hnow1, Int.toNat_of_nonneg hpos]
    · rw [htime]
      rfl
    · intro i hi
      rw [heq]
      exact Tab.look_put_other _ _ (by simpa using hi)
    · rw [heq]
      rfl

end Compare

/-! The survivor's reload (R113) -/

/-- The end of a reload: the dictionary is loaded, and what follows leaves that and the link. -/
theorem State.survivorLoaded_loads {s : State} (h : s.link.reloading = true) :
    s.survivorLoaded.loaded = true ∧ s.survivorLoaded.link.reloading = false := by
  have hsteady : s.survivorLoaded.steady = ({ s.loadStore true with
      loaded := true, link := { (s.loadStore true).link with reloading := false } } : State).steady := by
    unfold State.survivorLoaded
    rw [if_neg (by simp [h])]
    simp
  exact ⟨(congrArg Steady.loaded hsteady :), (congrArg (·.link.reloading) hsteady :)⟩

theorem State.survivorLoaded_idle {s : State} (h : s.link.reloading = false) : s.survivorLoaded = s := if_pos (by simp [h])

/-- Settles O18: a heartbeat is sent, its absence and a third CRC failure lose the link, the comparison reloads W or lets it drift,
and the end of the reload loads the dictionary. -/
theorem diesWatchEachOther : Obligations.DiesWatchEachOther := by
  unfold Obligations.DiesWatchEachOther
  intro s t u
  have hnext : ∀ {a b : State}, a = b → (.next a : Host.Outcome State Fault Refusal) = .next b := congrArg _
  refine ⟨?_, ?_, ?_, ?_, ?_, ?_, ?_⟩
  · intro d hdie hlost hphase
    obtain ⟨s', hs', hout, hbeat, hframe⟩ := State.heartbeat_sends hdie hlost hphase
    refine ⟨s', hnext hs', hout, ?_, hframe⟩
    cases d <;> exact hbeat
  · intro d hlost hdie hnone hdue
    have hdue' : u.link.beat d.other + msTicks ≤ u.clock := by cases d <;> exact hdue
    obtain ⟨hloaded, hlink⟩ := State.loseLink_link hlost hnone
    refine ⟨_, hnext (State.heartbeatTimeout_loses hlost hdie hdue'), ?_, ?_, ?_, hloaded⟩
    · rw [hlink]
    · rw [hlink]
    · rw [hlink]
  · intro d hearly
    have hearly' : u.clock < u.link.beat d.other + msTicks := by cases d <;> exact hearly
    exact hnext (State.heartbeatTimeout_early hearly')
  · intro x hlost hnone
    refine ⟨u.linkCrc x, rfl, ?_, fun hfails => State.linkCrc_third hlost hnone hfails⟩
    intro hfails hsoft
    have hlink := u.crcCounted_link x
    rw [State.linkCrc_few hlost hnone hfails hsoft]
    refine ⟨?_, ?_, u.crcCounted_counted x, fun h => State.crcCounted_raised h, ?_⟩
    · rw [hlink]
      simp [State.crcRecorded, show ¬3 ≤ u.link.fails.at' x 0 + 1 by omega]
    · rw [hlink]
      exact hlost
    · rw [hlink]
      exact State.eq_of_sansCounts (u.crcCounted_sansCounts x)
  · intro drift w d hlost h0 h1 hw hpos hd
    obtain ⟨s', hs', hrest⟩ := State.dieCompare_compares h0 h1 hlost hw hd hpos
    exact ⟨s', hnext hs', hrest⟩
  · exact fun h => ⟨_, rfl, State.survivorLoaded_loads h⟩
  · exact fun h => hnext (State.survivorLoaded_idle h)

/-! ### Refutations -/

/-- A package whose NET of die E restarts, while a write of the servo's source waits for it (R637). -/
def netRestartsServoWaits : State :=
  { procs := [(procKey 0 .net, { restarts := [0], restarting := true })], time := { freeDue := true } }

/-- At the end of the restart the write that waited takes effect: it waits no longer. -/
theorem netRestartsServoWaits_restarted :
    (netRestartsServoWaits.tick 0).restarting 0 .net = true ∧ (netRestartsServoWaits.tick 0).time.freeDue = true ∧
      ((netRestartsServoWaits.tick 0).restarted .net 0).time.freeDue = false := by
  decide +kernel

/-- Refutes O19: the statement keeps all but the processors' rows at the end of a NET's restart, but a write of the servo's source
that waited for that NET takes effect then (R637), and the servo's state moves on. -/
theorem not_processorsRestartAndPace : ¬ Obligations.ProcessorsRestartAndPace := by
  unfold Obligations.ProcessorsRestartAndPace
  intro h
  obtain ⟨-, -, hrestart, -⟩ := h netRestartsServoWaits 0
  obtain ⟨hrestarting, hbefore, hafter⟩ := netRestartsServoWaits_restarted
  obtain ⟨s', hs', -, -, hframe, -⟩ := hrestart .net .e hrestarting
  have hback : (netRestartsServoWaits.tick 0).restarted .net 0 = s' := Host.Outcome.next.inj hs'
  have htime : s'.time = (netRestartsServoWaits.tick 0).time := (congrArg State.time (hframe (by decide)) :)
  rw [hback, htime, hbefore] at hafter
  exact absurd hafter (by decide)

/-- A package whose region M of die W is DEAD, and whose spare core DC06 of die E is SUSPECT. -/
def spareSuspectAlone : State :=
  { declared := [regionAddr 1 0], units := spareUnits.put (coreKey 6) { st := 1, prior := 3 } }

/-- A retest that DC06 passes makes it OK: with one region M no core is kept SPARE (R194). -/
theorem spareSuspectAlone_retested :
    unitOf (coreKey 6) = some (coreKey 6) ∧ isLvs (coreKey 6) = false ∧
      ((spareSuspectAlone.tick 0).unit (coreKey 6)).st = 1 ∧ ((spareSuspectAlone.tick 0).unit (coreKey 6)).prior = 3 ∧
      (((spareSuspectAlone.tick 0).retested (coreKey 6) true).unit (coreKey 6)).st = 0 := by
  decide +kernel

/-- Refutes O20: the statement gives a unit that passes its retest its prior state back, but a core SPARE before, on the only die
whose region M is not DEAD, becomes OK and active (R194). -/
theorem not_unitFaultsFollowTheTable : ¬ Obligations.UnitFaultsFollowTheTable := by
  unfold Obligations.UnitFaultsFollowTheTable
  intro h
  obtain ⟨hunit, hlvs, hsuspect, hprior, hretested⟩ := spareSuspectAlone_retested
  obtain ⟨-, -, -, -, -, hretest, -⟩ := h spareSuspectAlone 0 (coreKey 6) (coreKey 6) hunit
  obtain ⟨⟨s', hs', hst, -⟩, -⟩ := hretest hlvs hsuspect
  have hexec : exec (.retestComplete 0 (coreKey 6) true) spareSuspectAlone =
      .next ((spareSuspectAlone.tick 0).retested (coreKey 6) true) := by
    simp only [exec, execRetestComplete, State.onUnit, hunit]
  have hback : (spareSuspectAlone.tick 0).retested (coreKey 6) true = s' := Host.Outcome.next.inj (hexec.symm.trans hs')
  rw [← hback, hretested, hprior] at hst
  exact absurd hst (by decide)

end Sys2Proof.Machine
end

section
/-! SUPPORT. The sources and sessions chapter's statement on answers for own addresses: what a package sends on Ethernet, the answers of a
port that hears, and its membership reports at a query (R121, R123, R568). -/

namespace Sys2Proof.Machine

/-! ### What leaves a package (R568, R616) -/

/-- What a running package sends is recorded, on Ethernet where it is not fenced. -/
theorem State.say_of_running {s : State} {o : Out} (hrun : s.power.phase = .running) (ho : o.onEthernet = false ∨ s.rn 0x6800 0x09 ≠ 3) :
    s.say o = { s with out := o :: s.out } := by
  unfold State.say
  rw [if_neg]
  rcases ho with ho | ho <;> simp [hrun, ho]

/-- A fenced package sends nothing on Ethernet. -/
theorem State.say_of_fenced {s : State} {o : Out} (ho : o.onEthernet = true) (hfenced : s.rn 0x6800 0x09 = 3) : s.say o = s := by
  unfold State.say
  rw [if_pos (by simp [ho, hfenced])]

/-! ### Answers for a port's own addresses (R121) -/

section Answers
variable {u : State} {p : Nat}

/-- What is answered under a condition leaves where it holds, and the package is neither held nor fenced. -/
theorem State.answer_sent {c : Bool} {o : Out} (hrun : u.power.phase = .running) (hfree : u.rn 0x6800 0x09 ≠ 3) (hc : c = true) :
    (if c then u.say o else u) = { u with out := o :: u.out } := by
  rw [if_pos hc, State.say_of_running hrun (.inr hfree)]

/-- Where the condition fails, or the package is fenced, nothing happens. -/
theorem State.answer_silent {c : Bool} {o : Out} (ho : o.onEthernet = true) (h : c = false ∨ u.rn 0x6800 0x09 = 3) :
    (if c then u.say o else u) = u := by
  split
  · next hc => exact State.say_of_fenced ho (h.resolve_left (by simp [hc]))
  · rfl

/-- A request for the port's own IPv4 address is answered. -/
theorem State.arpRequest_answered {target : Nat} (sender : List Byte) (hrun : u.power.phase = .running) (hfree : u.rn 0x6800 0x09 ≠ 3)
    (hhears : u.portHears p = true) (hset : target ≠ 0) (hown : target = u.rn (0x2910 + p) 0x03) :
    u.arpRequest p target sender = { u with out := .arp p target sender :: u.out } :=
  State.answer_sent hrun hfree (by simpa [hhears, hset] using hown)

theorem State.arpRequest_silent {target : Nat} (sender : List Byte)
    (h : u.portHears p = false ∨ target = 0 ∨ target ≠ u.rn (0x2910 + p) 0x03 ∨ u.rn 0x6800 0x09 = 3) :
    u.arpRequest p target sender = u :=
  State.answer_silent rfl (by simpa only [Bool.and_eq_false_iff, decide_eq_false_iff_not, not_not, ne_eq, or_assoc] using h)

/-- An echo request to an address of the port's own is answered. -/
theorem State.echoRequest_answered {v6 : Bool} {target : List Byte} (data : List Byte) (hrun : u.power.phase = .running)
    (hfree : u.rn 0x6800 0x09 ≠ 3) (hhears : u.portHears p = true) (hown : u.ownAddr p v6 target = true) :
    u.echoRequest p v6 target data = { u with out := .echo p v6 data :: u.out } :=
  State.answer_sent hrun hfree (by simp [hhears, hown])

theorem State.echoRequest_silent {v6 : Bool} {target : List Byte} (data : List Byte)
    (h : u.portHears p = false ∨ u.ownAddr p v6 target = false ∨ u.rn 0x6800 0x09 = 3) : u.echoRequest p v6 target data = u :=
  State.answer_silent rfl (by simpa only [Bool.and_eq_false_iff, decide_eq_false_iff_not, not_not, ne_eq, or_assoc] using h)

/-- A solicitation of the link-local address, or of another of the port's own, is answered. -/
theorem State.solicitation_answered {target : List Byte} (hrun : u.power.phase = .running) (hfree : u.rn 0x6800 0x09 ≠ 3)
    (hhears : u.portHears p = true) (hown : target = u.linkLocal p ∨ u.ownAddr p true target = true) :
    u.solicitation p target = { u with out := .neighbour p target :: u.out } := by
  have hmine : u.ownAddr p true target = true := by
    rcases hown with rfl | h
    · simp [State.ownAddr]
    · exact h
  exact State.answer_sent hrun hfree (by simp [hhears, hmine])

theorem State.solicitation_silent {target : List Byte}
    (h : u.portHears p = false ∨ u.ownAddr p true target = false ∨ u.rn 0x6800 0x09 = 3) : u.solicitation p target = u :=
  State.answer_silent rfl (by simpa only [Bool.and_eq_false_iff, decide_eq_false_iff_not, not_not, ne_eq, or_assoc] using h)

end Answers

/-! ### Group queries (R123) -/

/-- The membership report of a group. -/
def State.joinReport (s : State) (e : McastS) : Out :=
  .join e.port e.v6 (s.groupVersion e.port e.v6) e.group
    ((s.groupFilter e.users).1 && !decide (s.groupVersion e.port e.v6 < (if e.v6 then 2 else 3)))
    (if s.groupVersion e.port e.v6 < (if e.v6 then 2 else 3) then [] else (s.groupFilter e.users).2)

/-- A report records the membership report of the group. -/
theorem State.report_eq (s : State) (e : McastS) : s.report e = s.say (s.joinReport e) := by
  simp [State.report, State.joinReport]

/-- Reports change the outputs alone. -/
theorem State.reports_frame (s : State) (l : List McastS) :
    l.foldl State.report s = { s with out := (l.foldl State.report s).out } := by
  induction l generalizing s with
  | nil => rfl
  | cons e l ih =>
    have hsay : s.report e = { s with out := (s.report e).out } := by
      rw [State.report_eq]
      exact s.say_frame _
    rw [List.foldl_cons, ih (s.report e), hsay]

/-- A package that sends reports every group of a list, the last one last. -/
theorem State.reports_out {s : State} (hrun : s.power.phase = .running) (hfree : s.rn 0x6800 0x09 ≠ 3) (l : List McastS) :
    (l.foldl State.report s).out = (l.map s.joinReport).reverse ++ s.out := by
  induction l generalizing s with
  | nil => rfl
  | cons e l ih =>
    rw [List.foldl_cons, State.report_eq, State.say_of_running hrun (.inr hfree), ih (s := { s with out := _ :: s.out }) hrun hfree,
      List.map_cons, List.reverse_cons, List.append_assoc]
    rfl

/-- A port's row after a query: an older querier than the mode in use is recorded with the time. -/
def State.queried (s : State) (p : Nat) (v6 : Bool) (version : Nat) : PortS :=
  if version < (if v6 then 2 else 3) && version ≤ s.groupVersion p v6 then
    (if v6 then { s.port p with compat6 := version, old6 := s.clock } else { s.port p with compat4 := version, old4 := s.clock })
  else s.port p

/-- A port that hears a query records the querier, and reports its groups of that family. -/
theorem State.query_eq {s : State} {p : Nat} (hhears : s.portHears p = true) (v6 : Bool) (version : Nat) :
    s.query p v6 version = (s.mcast.filter (fun e => e.port = p && e.v6 = v6)).foldl State.report
      { s with ports := s.ports.put p (s.queried p v6 version) } := by
  unfold State.query
  rw [if_neg (by simp [hhears])]
  rfl

/-- The mode of an older querier just heard is its version. -/
theorem State.groupVersion_queried {s : State} {p : Nat} {v6 : Bool} {version : Nat}
    (hold : version < (if v6 then 2 else 3) ∧ version ≤ s.groupVersion p v6) :
    { s with ports := s.ports.put p (s.queried p v6 version) }.groupVersion p v6 = version := by
  have hkept : s.clock < s.clock + olderQuerier := by simp [olderQuerier, sTicks]
  have hrow : s.queried p v6 version = (if v6 then { s.port p with compat6 := version, old6 := s.clock }
      else { s.port p with compat4 := version, old4 := s.clock }) := if_pos (by simpa using hold)
  cases v6 <;> simp_all [State.groupVersion, State.port]

/-- A query that is not of an older querier leaves the port's row alone. -/
theorem State.queried_of_newer {s : State} {p : Nat} {v6 : Bool} {version : Nat}
    (hnew : ¬(version < (if v6 then 2 else 3) ∧ version ≤ s.groupVersion p v6)) : s.queried p v6 version = s.port p :=
  if_neg (by simpa using hnew)

/-- Settles O24: each answer is one output, said under its own condition; a query's reports are said in turn. -/
theorem netAnswersForItsOwnAddresses : Obligations.NetAnswersForItsOwnAddresses := by
  unfold Obligations.NetAnswersForItsOwnAddresses
  intro s t p u sends
  refine ⟨?_, ?_, ?_, ?_⟩
  · exact fun target sender => ⟨fun ⟨hrun, hfree⟩ hhears hset hown => congrArg _ (State.arpRequest_answered sender hrun hfree hhears hset hown),
      fun h => congrArg _ (State.arpRequest_silent sender h)⟩
  · exact fun v6 target data => ⟨fun ⟨hrun, hfree⟩ hhears hown => congrArg _ (State.echoRequest_answered data hrun hfree hhears hown),
      fun h => congrArg _ (State.echoRequest_silent data h)⟩
  · exact fun target => ⟨fun ⟨hrun, hfree⟩ hhears hown => congrArg _ (State.solicitation_answered hrun hfree hhears hown),
      fun h => congrArg _ (State.solicitation_silent h)⟩
  · intro v6 version hhears
    let a : State := { u with ports := u.ports.put p (u.queried p v6 version) }
    have hframe : u.query p v6 version = { a with out := (u.query p v6 version).out } := by
      rw [State.query_eq hhears]
      exact a.reports_frame _
    have hversion : (u.query p v6 version).groupVersion p v6 = a.groupVersion p v6 := by
      rw [hframe]
      rfl
    refine ⟨_, rfl, ?_, ?_, ?_, ?_⟩
    · intro hold
      exact hversion.trans (State.groupVersion_queried hold)
    · intro hnew
      rw [hframe, ← State.queried_of_newer hnew]
      exact Tab.at'_put_same _ _ _ _
    · rintro old rfl ⟨hrun, hfree⟩
      rw [hversion, State.query_eq hhears, State.reports_out (s := a) hrun hfree]
      congr 2
      refine List.map_congr_left fun e he => ?_
      obtain ⟨rfl, rfl⟩ : e.port = p ∧ e.v6 = v6 := by simpa using (List.mem_filter.1 he).2
      simp only [State.joinReport, decide_eq_true_eq]
      rfl
    · rw [hframe]

end Sys2Proof.Machine
end

section
/-! SUPPORT. The sources and sessions chapter's statement on Ethernet ports and frames: which dictionary values a rerun of admission leaves
alone, quad modes and their lanes (R117, R155), the counters of received frames and the frames for the host (R119, R120, R122, R501). -/

namespace Sys2Proof.Machine

/-! ### Folds of the state -/

/-- What every step of a fold over a list leaves alone, the fold leaves alone. -/
theorem foldl_leaves_mem {α β : Type} (m : State → β) {f : State → α → State} {l : List α} (h : ∀ s, ∀ a ∈ l, m (f s a) = m s)
    (s : State) : m (l.foldl f s) = m s :=
  List.foldlRecOn l f (motive := fun s' => m s' = m s) rfl (fun _ ih a ha => (h _ a ha).trans ih)

/-- What one step of a fold brings about and no step undoes, the fold brings about. -/
theorem foldl_brings {α : Type} {f : State → α → State} {I P : State → Prop} {l : List α} (hI : ∀ s, ∀ a ∈ l, I s → I (f s a))
    (hP : ∀ s, ∀ a ∈ l, I s → P s → P (f s a)) {x : α} (hmem : x ∈ l) (hx : ∀ s, I s → P (f s x)) {s : State} (hs : I s) :
    P (l.foldl f s) := by
  induction l generalizing s with
  | nil => simp at hmem
  | cons a l ih =>
    have hI' : ∀ s, ∀ b ∈ l, I s → I (f s b) := fun s b hb => hI s b (List.mem_cons_of_mem _ hb)
    have hP' : ∀ s, ∀ b ∈ l, I s → P s → P (f s b) := fun s b hb => hP s b (List.mem_cons_of_mem _ hb)
    have hIa : I (f s a) := hI s a List.mem_cons_self hs
    rw [List.foldl_cons]
    rcases List.mem_cons.1 hmem with rfl | hmem
    · exact (List.foldlRecOn l f (motive := fun s => I s ∧ P s) ⟨hIa, hx _ hs⟩
        fun s h b hb => ⟨hI' s b hb h.1, hP' s b hb h.1 h.2⟩).2
    · exact ih hI' hP' hmem hIa

/-! ### Which dictionary values a rerun of admission leaves alone (R155) -/

/-- The values of the objects below an index, but for the entries of the multicast table in use and the events lost, which change as
sessions join and leave and as events are raised. -/
def lowValues (lim : Nat) (t : Tab Val) (i : Nat) : Option Val :=
  if i < key lim 0 ∧ i ≠ key 0x2900 0x05 ∧ i ≠ key 0x2200 0x05 then t.look i else none

/-- A number below the limit is told by the low values. -/
theorem State.rn_of_low {a b : State} {lim idx sub : Nat} (h : lowValues lim a.od = lowValues lim b.od) (hidx : idx < lim) (hsub : sub < 256)
    (hmcast : key idx sub ≠ key 0x2900 0x05) (hlost : key idx sub ≠ key 0x2200 0x05) : a.rn idx sub = b.rn idx sub := by
  have hlow : ∀ s : State, lowValues lim s.od (key idx sub) = s.od.look (key idx sub) := fun s =>
    if_pos ⟨by simp only [key]; omega, hmcast, hlost⟩
  exact State.rn_of_look (by rw [← hlow, ← hlow, h])

/-- Tables that agree outside the objects at and above the limit have the same low values. -/
theorem lowValues_congr {t t' : Tab Val} {lim : Nat}
    (h : ∀ i, i < key lim 0 → i ≠ key 0x2900 0x05 → i ≠ key 0x2200 0x05 → t'.look i = t.look i) : lowValues lim t' = lowValues lim t := by
  funext i
  unfold lowValues
  split
  · next hi => exact h i hi.1 hi.2.1 hi.2.2
  · rfl

section Low
variable {lim : Nat}

@[simp] theorem lowValues_put_high (t : Tab Val) {idx : Nat} (h : lim ≤ idx) (sub : Nat) (v : Val) :
    lowValues lim (t.put (key idx sub) v) = lowValues lim t :=
  lowValues_congr fun i hi _ _ => Tab.look_put_other _ _ (by simp only [key] at hi ⊢; omega)

@[simp] theorem lowValues_put_mcast (t : Tab Val) (v : Val) : lowValues lim (t.put (key 0x2900 0x05) v) = lowValues lim t :=
  lowValues_congr fun _ _ h _ => Tab.look_put_other _ _ h

@[simp] theorem State.low_ite (p : Prop) [Decidable p] (a b : State) :
    lowValues lim (if p then a else b).od = if p then lowValues lim a.od else lowValues lim b.od :=
  apply_ite (fun s : State => lowValues lim s.od) p a b

@[simp] theorem State.low_foldl {α : Type} {f : State → α → State} (h : ∀ s a, lowValues lim (f s a).od = lowValues lim s.od) (s : State)
    (l : List α) : lowValues lim (l.foldl f s).od = lowValues lim s.od :=
  foldl_leaves (fun s : State => lowValues lim s.od) f h s l

variable (s : State)

@[simp] theorem State.say_od (o : Out) : (s.say o).od = s.od := by
  rw [s.say_frame]

@[simp] theorem State.raise_low (k ty sev : Nat) (pay : List (Nat × Nat)) : lowValues lim (s.raise k ty sev pay).od = lowValues lim s.od :=
  lowValues_congr fun _ _ _ h => s.look_raise_other _ _ _ _ h

@[simp] theorem State.bump_low (k : Nat) {idx : Nat} (h : lim ≤ idx) (sub n : Nat) :
    lowValues lim (s.bump k idx sub n).od = lowValues lim s.od :=
  lowValues_congr fun i hi _ hl => s.look_bump_other _ _ (by simp only [key] at hi ⊢; omega) hl

@[simp] theorem State.unicast_od (ty op dst : Nat) (pay : List Byte) : (s.unicast ty op dst pay).od = s.od :=
  State.od_of_sansSent (s.unicast_sansSent ty op dst pay)

end Low

section Rerun
variable (s : State)

theorem le_sIdx (n : Nat) : 0x3000 ≤ sIdx n := by simp [sIdx]

/-! Rings -/

@[simp] theorem State.sendVector_od (v : Nat) : (s.sendVector v).od = s.od := by
  unfold State.sendVector
  dsimp only
  split <;> simp

@[simp] theorem State.ringInt_od (q : Nat) : (s.ringInt q).od = s.od := by
  unfold State.ringInt
  dsimp only
  split_ifs <;> simp

@[simp] theorem State.funcEvent_od (i : Nat) : (s.funcEvent i).od = s.od := by
  unfold State.funcEvent
  dsimp only
  split <;> simp

@[simp] theorem State.writeBack_low (q : Nat) (w : WriteBack) : lowValues 0x3000 (s.writeBack q w).od = lowValues 0x3000 s.od := by
  simp [State.writeBack, Nat.le_add_right_of_le]

@[simp] theorem State.zttReply_low (m : ZttWait) (lease err : Nat) (final more : Bool) :
    lowValues 0x3000 (s.zttReply m lease err final more).od = lowValues 0x3000 s.od := by
  unfold State.zttReply
  cases m.via <;> simp

/-! Sessions -/

@[simp] theorem State.enterSess_low (n st reason : Nat) : lowValues 0x3000 (s.enterSess n st reason).od = lowValues 0x3000 s.od := by
  simp [State.enterSess, le_sIdx]
@[simp] theorem State.putCharge_low (n : Nat) (c : Nat × Nat × Nat × Nat) : lowValues 0x3000 (s.putCharge n c).od = lowValues 0x3000 s.od := by
  simp [State.putCharge, le_sIdx, Nat.le_add_right_of_le]
@[simp] theorem State.refreshAdmission_low : lowValues 0x3000 s.refreshAdmission.od = lowValues 0x3000 s.od := by
  simp [State.refreshAdmission]
@[simp] theorem State.report_low (e : McastS) : lowValues 0x3000 (s.report e).od = lowValues 0x3000 s.od := by
  simp [State.report]
@[simp] theorem State.join_low (n : Nat) : lowValues 0x3000 (s.join n).od = lowValues 0x3000 s.od := by
  unfold State.join
  split
  · rfl
  · split <;> simp
@[simp] theorem State.leave_low (n : Nat) : lowValues 0x3000 (s.leave n).od = lowValues 0x3000 s.od := by
  unfold State.leave
  split
  · rfl
  · simp
@[simp] theorem State.resetContinuity_od (n : Nat) : (s.resetContinuity n).od = s.od := by
  refine (foldl_leaves State.od _ (fun _ _ => ?_) _ _).trans (s.setSes_od _ _)
  rfl
@[simp] theorem State.openSurface_od (n : Nat) : (s.openSurface n).od = s.od := by
  unfold State.openSurface
  split <;> rfl
@[simp] theorem State.freshSession_low (n : Nat) : lowValues 0x3000 (s.freshSession n).od = lowValues 0x3000 s.od := by
  simp [State.freshSession, Nat.le_add_right_of_le]
@[simp] theorem State.relayFrame_od (n opcode : Nat) (body : List Byte) : (s.relayFrame n opcode body).od = s.od := by
  simp [State.relayFrame, State.control]
@[simp] theorem State.toJoining_low (n : Nat) : lowValues 0x3000 (s.toJoining n).od = lowValues 0x3000 s.od := by
  simp [State.toJoining]
@[simp] theorem State.zttFail_low (m : ZttWait) (err : Nat) : lowValues 0x3000 (s.zttFail m err).od = lowValues 0x3000 s.od := by
  simp [State.zttFail, Nat.le_add_right_of_le]
@[simp] theorem State.dropQueued_low (n : Nat) : lowValues 0x3000 (s.dropQueued n).od = lowValues 0x3000 s.od := by
  simp [State.dropQueued, State.dropWaiting]
@[simp] theorem State.dropSegs_low (n : Nat) : lowValues 0x3000 (s.dropSegs n).od = lowValues 0x3000 s.od := by
  refine (State.low_foldl (fun s c => ?_) _ _).trans rfl
  dsimp only
  split
  · exact lowValues_put_high _ (by omega) _ _
  · rfl
@[simp] theorem State.closeSess_low (n reason : Nat) : lowValues 0x3000 (s.closeSess n reason).od = lowValues 0x3000 s.od := by
  simp [State.closeSess]
@[simp] theorem State.rerunOne_low (n was : Nat) : lowValues 0x3000 (s.rerunOne n was).od = lowValues 0x3000 s.od := by
  simp [State.rerunOne, le_sIdx]
@[simp] theorem State.rerun_low : lowValues 0x3000 s.rerun.od = lowValues 0x3000 s.od := by
  simp [State.rerun, le_sIdx]

end Rerun

/-! ### Lanes and quad modes (R117) -/

/-- A state without what a quad's lanes and its ports change: dictionary values, the ports' and the lanes' rows, and outputs. -/
def State.sansPorts (s : State) : State := { s with od := [], ports := [], lanes := [], out := [] }

/-- States that differ in what a quad's lanes and its ports change alone: one is the other with those parts. -/
theorem State.eq_of_sansPorts {a b : State} (h : a.sansPorts = b.sansPorts) :
    a = { b with od := a.od, ports := a.ports, lanes := a.lanes, out := a.out } :=
  congrArg (fun x : State => { x with od := a.od, ports := a.ports, lanes := a.lanes, out := a.out }) h

section Lanes
variable (s : State)

/-- A lane's lock changes dictionary values and the lane's row. -/
theorem State.setLock_frame (l : Nat) (b : Bool) :
    s.setLock l b = { s with od := (s.setLock l b).od, lanes := (s.setLock l b).lanes } := by
  unfold State.setLock
  dsimp only
  split <;> rfl

/-- A lane's lock is told in the lane's objects and in the summary of all of them. -/
theorem State.look_setLock_other (l : Nat) (b : Bool) {i : Nat} (hlane : i ≠ key (laneIdx l) 0x0A) (hall : i ≠ key 0x6400 0x02) :
    (s.setLock l b).od.look i = s.od.look i := by
  have hod : (s.setLock l b).od = (((s.wn (laneIdx l) 0x0A (if s.inTest l then 2 else b2n b))).wn 0x6400 0x02
      (setBit ((s.wn (laneIdx l) 0x0A (if s.inTest l then 2 else b2n b)).rn 0x6400 0x02) l
        (b && !(s.wn (laneIdx l) 0x0A (if s.inTest l then 2 else b2n b)).inTest l))).od := by
    unfold State.setLock
    dsimp only
    split <;> rfl
  rw [hod, State.look_wn_other _ _ hall, State.look_wn_other _ _ hlane]

/-- Whether a lane is in test does not follow its lock. -/
@[simp] theorem State.setLock_inTest (l : Nat) (b : Bool) (m : Nat) : (s.setLock l b).inTest m = s.inTest m := by
  have hrn : ∀ sub, sub < 0x0A → sub ≠ 0x02 → (s.setLock l b).rn (laneIdx m) sub = s.rn (laneIdx m) sub := fun sub hlt hne =>
    State.rn_of_look (s.look_setLock_other l b (by simp only [key]; omega) (by simp only [key]; omega))
  simp only [State.inTest, hrn 4 (by decide) (by decide), hrn 5 (by decide) (by decide), hrn 6 (by decide) (by decide)]

/-- A lane set locked that is not in test holds lock. -/
theorem State.setLock_locks {l : Nat} (h : s.inTest l = false) : (s.setLock l true).laneLocked l = true := by
  have hlock : (s.setLock l true).rn (laneIdx l) 0x0A = 1 := by
    simp only [State.setLock, h]
    exact (State.rn_wn_sub _ _ _ _ (by decide) (by decide) (by decide)).trans (State.rn_wn_same _ _ _ _)
  simp [State.laneLocked, hlock]

theorem State.setLock_laneLocked_other {l m : Nat} (b : Bool) (h : m ≠ l) : (s.setLock l b).laneLocked m = s.laneLocked m := by
  have hrn : (s.setLock l b).rn (laneIdx m) 0x0A = s.rn (laneIdx m) 0x0A :=
    State.rn_of_look (s.look_setLock_other l b (by simp only [key, laneIdx]; omega) (by simp only [key]; omega))
  simp only [State.laneLocked, hrn]

/-! Ports come back -/

/-- One port of a quad whose lanes are back. -/
def State.portBack (s : State) (p : Nat) : State := { s with ports := s.ports.put p { s.port p with lanes := 0 } }.portUp p

/-- The lanes of a changed quad hold lock again, then its ports come back. -/
theorem State.quadUp_eq (q : Nat) : s.quadUp q =
    (List.range 4).foldl (fun s j => s.portBack (4 * q + j)) ((List.range 4).foldl (fun s j => s.setLock (4 * q + j) true) s) := rfl

/-- A port's link state is one object; a port that begins to negotiate advertises itself. -/
theorem State.portUp_cases (p : Nat) : ∃ v, s.portUp p = s.wn (0x2910 + p) 0x0A v ∨ s.portUp p = s ∨
    s.portUp p = (s.wn (0x2910 + p) 0x0A v).say (.advertise p true false false false) := by
  unfold State.portUp
  split
  · exact ⟨0, .inl rfl⟩
  split
  · split
    · exact ⟨0, .inr (.inl rfl)⟩
    · exact ⟨2, .inr (.inr rfl)⟩
  · exact ⟨1, .inl rfl⟩

theorem State.portUp_ports (p : Nat) : (s.portUp p).ports = s.ports := by
  obtain ⟨v, h | h | h⟩ := s.portUp_cases p <;> rw [h]
  · rfl
  · rw [State.say_frame]
    rfl

theorem State.look_portBack_other (p : Nat) {i : Nat} (h : i ≠ key (0x2910 + p) 0x0A) : (s.portBack p).od.look i = s.od.look i := by
  unfold State.portBack
  obtain ⟨v, hup | hup | hup⟩ := State.portUp_cases { s with ports := s.ports.put p { s.port p with lanes := 0 } } p <;> rw [hup]
  · exact State.look_wn_other _ _ h
  · rw [State.say_od]
    exact State.look_wn_other _ _ h

theorem State.portBack_ports (p : Nat) : (s.portBack p).ports = s.ports.put p { s.port p with lanes := 0 } := State.portUp_ports _ _

theorem State.portBack_sansPorts (p : Nat) : (s.portBack p).sansPorts = s.sansPorts := by
  unfold State.portBack
  obtain ⟨v, h | h | h⟩ := State.portUp_cases { s with ports := s.ports.put p { s.port p with lanes := 0 } } p <;> rw [h]
  · rfl
  · rfl
  · rw [State.say_frame]
    rfl

/-- Only a port that begins to negotiate says anything. -/
theorem State.mem_portBack_out (p : Nat) {o : Out} (h : o ∈ (s.portBack p).out) : o ∈ s.out ∨ o = .advertise p true false false false := by
  unfold State.portBack at h
  obtain ⟨v, hup | hup | hup⟩ := State.portUp_cases { s with ports := s.ports.put p { s.port p with lanes := 0 } } p <;> rw [hup] at h
  · exact .inl h
  · exact .inl h
  · rcases State.say_cases _ (.advertise p true false false false) with hsay | hsay <;> rw [hsay] at h
    · exact .inl h
    · exact (List.mem_cons.1 h).symm

/-- A port that the quad mode does not create stays down. -/
theorem State.portBack_down {p : Nat} (h : s.portExists p = false) : (s.portBack p).rn (0x2910 + p) 0x0A = 0 := by
  have hexists : State.portExists { s with ports := s.ports.put p { s.port p with lanes := 0 } } p = false := h
  unfold State.portBack State.portUp
  rw [if_pos (by simp [hexists])]
  exact State.rn_wn_same _ _ _ _

/-- Which ports a quad mode creates is told by the quad's mode. -/
theorem State.portExists_congr {a b : State} {p : Nat} (h : a.quadMode (p / 4) = b.quadMode (p / 4)) :
    a.portExists p = b.portExists p := by
  simp only [State.portExists, h]

theorem State.portBack_portExists (p : Nat) {m : Nat} (hm : m < 16) : (s.portBack p).portExists m = s.portExists m :=
  State.portExists_congr (State.rn_of_look (s.look_portBack_other p (by simp only [key]; omega)))

theorem State.setLock_portExists (l : Nat) (b : Bool) {m : Nat} (hm : m < 16) : (s.setLock l b).portExists m = s.portExists m :=
  State.portExists_congr (State.rn_of_look (s.look_setLock_other l b (by simp only [key, laneIdx]; omega) (by simp only [key]; omega)))

theorem State.portBack_laneLocked {p : Nat} (hp : p < 16) (m : Nat) : (s.portBack p).laneLocked m = s.laneLocked m := by
  have hrn : (s.portBack p).rn (laneIdx m) 0x0A = s.rn (laneIdx m) 0x0A :=
    State.rn_of_look (s.look_portBack_other p (by simp only [key, laneIdx]; omega))
  simp only [State.laneLocked, hrn]

/-- A port that comes back waits for no lanes. -/
theorem State.portBack_lanes (p : Nat) : ((s.portBack p).port p).lanes = 0 := by
  simp only [State.port, State.portBack_ports, Tab.at'_put_same]

theorem State.portBack_port_other {p m : Nat} (h : m ≠ p) : (s.portBack p).port m = s.port m := by
  simp only [State.port, State.portBack_ports, Tab.at'_put_other _ _ _ h]

/-! The quad as a whole -/

/-- What a return of a quad's lanes leaves to see of its ports. -/
theorem State.quadUp_brings {q : Nat} (hq : q < 4) {j : Nat} (hj : j < 4) : ((s.quadUp q).port (4 * q + j)).lanes = 0 ∧
    (s.inTest (4 * q + j) = false → (s.quadUp q).laneLocked (4 * q + j) = true) ∧
    (s.portExists (4 * q + j) = false → (s.quadUp q).rn (0x2910 + (4 * q + j)) 0x0A = 0) := by
  have hport : ∀ a ∈ List.range 4, 4 * q + a < 16 := fun a ha => by
    have := List.mem_range.1 ha
    omega
  have hmem : j ∈ List.range 4 := List.mem_range.2 hj
  rw [State.quadUp_eq]
  refine ⟨?_, fun htest => ?_, fun hnone => ?_⟩
  · refine foldl_brings (I := fun _ => True) (P := fun s => (s.port (4 * q + j)).lanes = 0) (fun _ _ _ _ => trivial)
      (fun s a _ _ h => ?_) hmem (fun s _ => s.portBack_lanes _) trivial
    by_cases ha : a = j
    · rw [ha]
      exact s.portBack_lanes _
    · rw [State.portBack_port_other _ (by omega), h]
  · rw [foldl_leaves_mem (fun s : State => s.laneLocked (4 * q + j)) fun s a ha => s.portBack_laneLocked (hport a ha) _]
    refine foldl_brings (I := fun s => s.inTest (4 * q + j) = false) (P := fun s => s.laneLocked (4 * q + j) = true)
      (fun s a _ h => (s.setLock_inTest _ _ _).trans h) (fun s a _ hI h => ?_) hmem (fun s h => s.setLock_locks h) htest
    by_cases ha : a = j
    · rw [ha]
      exact s.setLock_locks hI
    · rw [State.setLock_laneLocked_other _ _ (by omega), h]
  · have hlocked : ∀ l : List Nat, (l.foldl (fun s j => s.setLock (4 * q + j) true) s).portExists (4 * q + j) = false := fun l =>
      (foldl_leaves (fun s : State => s.portExists (4 * q + j)) _ (fun s a => s.setLock_portExists _ _ (hport j hmem)) s l).trans hnone
    refine foldl_brings (I := fun s => s.portExists (4 * q + j) = false) (P := fun s => s.rn (0x2910 + (4 * q + j)) 0x0A = 0)
      (fun s a _ h => (s.portBack_portExists _ (hport j hmem)).trans h) (fun s a _ hI h => ?_) hmem (fun s h => s.portBack_down h) (hlocked _)
    by_cases ha : a = j
    · rw [ha]
      exact s.portBack_down hI
    · rw [State.rn_of_look (s.look_portBack_other _ (by simp only [key]; omega)), h]

/-- Nothing but advertisements of the quad's ports leaves. -/
theorem State.mem_quadUp_out (q : Nat) {o : Out} (h : o ∈ (s.quadUp q).out) :
    o ∈ s.out ∨ ∃ j, j < 4 ∧ o = .advertise (4 * q + j) true false false false := by
  rw [State.quadUp_eq] at h
  have hlock : ((List.range 4).foldl (fun s j => s.setLock (4 * q + j) true) s).out = s.out :=
    foldl_leaves State.out _ (fun s j => by rw [State.setLock_frame]) s _
  refine List.foldlRecOn (List.range 4) _
    (motive := fun b : State => ∀ o ∈ b.out, o ∈ s.out ∨ ∃ j, j < 4 ∧ o = .advertise (4 * q + j) true false false false) ?_ ?_ o h
  · exact fun o ho => .inl (hlock ▸ ho)
  · intro b ih j hj o ho
    rcases b.mem_portBack_out _ ho with ho | ho
    · exact ih o ho
    · exact .inr ⟨j, List.mem_range.1 hj, ho⟩

theorem State.quadUp_sansPorts (q : Nat) : (s.quadUp q).sansPorts = s.sansPorts := by
  rw [State.quadUp_eq, foldl_leaves State.sansPorts _ (fun s j => s.portBack_sansPorts _)]
  refine foldl_leaves State.sansPorts _ (fun s j => ?_) s _
  rw [State.setLock_frame]
  rfl

end Lanes

/-! ### A change of quad mode (R117) -/

theorem findObj_quadMode : ∀ q < 4,
    findObj 0x2900 (q + 1) = some ⟨0x2900, 1, 0x01, 0x04, .u8, .rw, true, true, false, .num 1, .rng 0 3⟩ := by
  decide +kernel

/-- Of a requester that may write, a quad mode passes the checks. -/
theorem State.checkWrite_quadMode {s : State} {r : Req} (ht : s.takes r = true) {q mode : Nat} (hq : q < 4) (hm : mode < 4) :
    ∃ o, s.checkWrite r 0x2900 (q + 1) (leBytes 1 mode) = .ok (o, .num mode) := by
  have hdec : decodeVal .u8 (leBytes 1 mode) = some (.num mode) := by
    have hv : leNat (leBytes 1 mode) = mode := (leNat_leBytes 1 mode).trans (Nat.mod_eq_of_lt (by omega))
    simp [decodeVal, Ty.isNum, Ty.signed, Ty.size, leBytes_length, hv]
  have hrange : Chk.ok (.rng 0 3) (.num mode) = true := by
    simp only [Chk.ok, Bool.and_eq_true, decide_eq_true_eq]
    omega
  have hc := State.checkWrite_of_takes ht (findObj_quadMode q hq) hdec (by simp [sizeOk, Ty.size, leBytes_length]) (.inl rfl)
  exact ⟨_, hc.trans (if_pos (by simp [hrange, Ty.valOk]))⟩

/-- One port of a quad whose mode changes: down, its lane without lock, and back in 50 ms. -/
def State.portOff (s : State) (p : Nat) : State :=
  let a := (s.wn (0x2910 + p) 0x0A 0).setLock p false
  { a with ports := a.ports.put p { a.port p with lanes := a.clock + 50 * msTicks, negotiated := false } }

/-- A quad's mode set and its ports down, before admission is rerun. -/
def State.quadOff (s : State) (q mode : Nat) : State :=
  (List.range 4).foldl (fun s j => s.portOff (4 * q + j)) (s.wn 0x2900 (q + 1) mode)

/-- A change of quad mode sets it, takes the quad's ports down and reruns admission. -/
theorem quadMode_changes {s : State} {q mode : Nat} (h : s.quadMode q ≠ mode) :
    quadMode q s (.num mode) = ((s.quadOff q mode).rerun, 0) := by
  unfold quadMode
  rw [if_neg (by simpa [Val.int] using h)]
  rfl

theorem quadMode_stays {s : State} {q mode : Nat} (h : s.quadMode q = mode) : quadMode q s (.num mode) = (s, 0) := by
  unfold quadMode
  rw [if_pos (by simpa [Val.int] using h)]

section PortOff
variable (s : State) (p : Nat)

theorem State.look_portOff_other {i : Nat} (hport : i ≠ key (0x2910 + p) 0x0A) (hlane : i ≠ key (laneIdx p) 0x0A)
    (hall : i ≠ key 0x6400 0x02) : (s.portOff p).od.look i = s.od.look i :=
  (State.look_setLock_other _ _ _ hlane hall).trans (State.look_wn_other _ _ hport)

theorem State.portOff_clock : (s.portOff p).clock = s.clock := by
  unfold State.portOff
  rw [State.setLock_frame]
  rfl

theorem State.portOff_rn (hp : p < 16) : (s.portOff p).rn (0x2910 + p) 0x0A = 0 := by
  have hlook : (s.portOff p).rn (0x2910 + p) 0x0A = (s.wn (0x2910 + p) 0x0A 0).rn (0x2910 + p) 0x0A :=
    State.rn_of_look (State.look_setLock_other _ _ _ (by simp only [key, laneIdx]; omega) (by simp only [key]; omega))
  rw [hlook, State.rn_wn_same]

theorem State.portOff_port : ((s.portOff p).port p).lanes = s.clock + 50 * msTicks ∧ ((s.portOff p).port p).negotiated = false := by
  unfold State.portOff
  rw [State.setLock_frame]
  simp [State.port]

theorem State.portOff_port_other {m : Nat} (h : m ≠ p) : (s.portOff p).port m = s.port m := by
  unfold State.portOff
  rw [State.setLock_frame]
  simp [State.port, Tab.at'_put_other _ _ _ h]

end PortOff

/-- A quad's mode set and its ports down. -/
theorem State.quadOff_brings (s : State) {q : Nat} (mode : Nat) (hq : q < 4) : (s.quadOff q mode).quadMode q = mode ∧
    ∀ j, j < 4 → (s.quadOff q mode).rn (0x2910 + (4 * q + j)) 0x0A = 0 ∧
      ((s.quadOff q mode).port (4 * q + j)).lanes = s.clock + 50 * msTicks ∧
      ((s.quadOff q mode).port (4 * q + j)).negotiated = false := by
  have hport : ∀ j ∈ List.range 4, 4 * q + j < 16 := fun j hj => by
    have := List.mem_range.1 hj
    omega
  refine ⟨?_, fun j hj => ?_⟩
  · refine (foldl_leaves_mem (fun s : State => s.rn 0x2900 (q + 1)) (fun s j hj => ?_) _).trans (State.rn_wn_same _ _ _ _)
    exact State.rn_of_look (s.look_portOff_other _ (by simp only [key]; omega) (by simp only [key, laneIdx]; omega)
      (by simp only [key]; omega))
  · have hmem : j ∈ List.range 4 := List.mem_range.2 hj
    refine foldl_brings (I := fun b => b.clock = s.clock) (P := fun b => b.rn (0x2910 + (4 * q + j)) 0x0A = 0 ∧
      (b.port (4 * q + j)).lanes = s.clock + 50 * msTicks ∧ (b.port (4 * q + j)).negotiated = false)
      (fun b a _ h => (b.portOff_clock _).trans h) (fun b a ha hI h => ?_) hmem
      (fun b h => ⟨b.portOff_rn _ (hport j hmem), h ▸ b.portOff_port _⟩) rfl
    by_cases haj : a = j
    · rw [haj]
      exact ⟨b.portOff_rn _ (hport j hmem), hI ▸ b.portOff_port _⟩
    · have hlt := List.mem_range.1 ha
      rw [State.portOff_port_other _ _ (by omega), State.rn_of_look (b.look_portOff_other _ (by simp only [key]; omega)
        (by simp only [key, laneIdx]; omega) (by simp only [key]; omega))]
      exact h

/-- A rerun of admission leaves the ports, and the objects of the Ethernet chapter but the multicast table's. -/
theorem State.rerun_port (s : State) (p : Nat) : s.rerun.port p = s.port p := by
  have hports : s.rerun.ports = s.ports := (congrArg Steady.ports s.rerun_steady :)
  simp only [State.port, hports]

theorem State.rerun_rn (s : State) {idx sub : Nat} (hidx : 0x2900 ≤ idx ∧ idx < 0x3000) (hsub : sub < 256)
    (hmcast : key idx sub ≠ key 0x2900 0x05) : s.rerun.rn idx sub = s.rn idx sub :=
  State.rn_of_low s.rerun_low hidx.2 hsub hmcast (by simp only [key]; omega)

/-- The request for a quad mode is answered 0: nothing else where it stands so, and otherwise the quad's ports go down. -/
theorem State.quadModeChange_taken {u : State} {r : Req} (ht : u.takes r = true) {q mode : Nat} (hq : q < 4) (hm : mode < 4) :
    ∃ s', u.request r 0x2900 (q + 1) (leBytes 1 mode) (Machine.quadMode q) = s' ∧ s'.quadMode q = mode ∧
      (u.quadMode q = mode → s' = { u with out := .resp r 0x2900 (q + 1) 0 [] :: u.out, partWrites := s'.partWrites }) ∧
      (u.quadMode q ≠ mode → ∀ j, j < 4 → s'.rn (0x2910 + (4 * q + j)) 0x0A = 0 ∧
        (s'.port (4 * q + j)).lanes = u.clock + 50 * msTicks ∧ (s'.port (4 * q + j)).negotiated = false) := by
  obtain ⟨o, ho⟩ := State.checkWrite_quadMode ht hq hm
  by_cases hmode : u.quadMode q = mode
  · have htaken := u.request_taken r 0x2900 (q + 1) _ (Machine.quadMode q) o _ ho (by rw [quadMode_stays hmode])
    rw [quadMode_stays hmode] at htaken
    exact ⟨_, htaken.trans (State.respond_of_takes ht (by rfl) _ _ _ _), hmode, fun _ => rfl, fun h => absurd hmode h⟩
  · have htaken := u.request_taken r 0x2900 (q + 1) _ (Machine.quadMode q) o _ ho (by rw [quadMode_changes hmode])
    obtain ⟨hset, hdown⟩ := u.quadOff_brings mode hq
    have hset' : (u.quadOff q mode).rerun.quadMode q = mode :=
      (State.rerun_rn _ (by omega) (by omega) (by simp only [key]; omega)).trans hset
    have hdown' : ∀ j, j < 4 → (u.quadOff q mode).rerun.rn (0x2910 + (4 * q + j)) 0x0A = 0 ∧
        ((u.quadOff q mode).rerun.port (4 * q + j)).lanes = u.clock + 50 * msTicks ∧
        ((u.quadOff q mode).rerun.port (4 * q + j)).negotiated = false := fun j hj => by
      rw [State.rerun_rn _ (by omega) (by omega) (by simp only [key]; omega), State.rerun_port]
      exact hdown j hj
    rw [quadMode_changes hmode, State.respond_frame] at htaken
    generalize (u.quadOff q mode).rerun = b at *
    exact ⟨_, htaken, hset', fun h => absurd h hmode, fun _ => hdown'⟩

/-! ### Received frames (R120, R122, R501) -/

/-- A write outside the sessions' objects leaves the sessions in use alone. -/
theorem State.sessUsed_wn (s : State) {idx sub : Nat} (v : Nat) (hidx : idx < 0x3000 ∨ 0x30A0 ≤ idx) (hsub : sub < 256) :
    (s.wn idx sub v).sessUsed = s.sessUsed := by
  have hkey : key idx sub / 256 = idx := by simp only [key]; omega
  unfold State.sessUsed
  rw [State.wn_od, Tab.keys_put_filter s.od _ _ (fun k => k / 256) _ (by
    simp only [hkey, Bool.and_eq_false_iff, decide_eq_false_iff_not]
    omega)]

theorem State.sessUsed_raise (s : State) (k ty sev : Nat) (pay : List (Nat × Nat)) : (s.raise k ty sev pay).sessUsed = s.sessUsed := by
  have hlost : ∀ (a : State) (v : Nat), (a.wn 0x2200 0x05 v).sessUsed = a.sessUsed := fun a v =>
    a.sessUsed_wn v (by decide) (by decide)
  unfold State.raise State.enqueue State.dropEv
  dsimp only
  split_ifs
  · rfl
  · rfl
  · exact (hlost _ _).trans rfl
  · exact (hlost _ _).trans rfl

theorem State.sessUsed_bump (s : State) (k : Nat) {idx sub : Nat} (n : Nat) (hidx : idx < 0x3000 ∨ 0x30A0 ≤ idx) (hsub : sub < 256) :
    (s.bump k idx sub n).sessUsed = s.sessUsed := by
  unfold State.bump
  dsimp only
  split_ifs <;> simp only [State.sessUsed_raise, s.sessUsed_wn _ hidx hsub]

theorem State.linkLocal_of_otp {a s : State} (hotp : a.otp = s.otp) (p : Nat) : a.linkLocal p = s.linkLocal p := by
  simp only [State.linkLocal, State.portMac, hotp]

section Fate
variable {a s : State} (hval : ∀ i b, b ≠ 0x0C → b < 256 → i ≠ 0x2200 → a.val i b = s.val i b)
include hval

theorem State.rn_of_val {i b : Nat} (h : b ≠ 0x0C ∧ b < 256 ∧ i ≠ 0x2200) : a.rn i b = s.rn i b := by
  simp only [State.rn, State.rd, hval i b h.1 h.2.1 h.2.2]

theorem State.rb_of_val {i b : Nat} (h : b ≠ 0x0C ∧ b < 256 ∧ i ≠ 0x2200) : a.rb i b = s.rb i b := by
  simp only [State.rb, hval i b h.1 h.2.1 h.2.2]

theorem State.hasFamily_of_val (p : Nat) (v6 : Bool) : a.hasFamily p v6 = s.hasFamily p v6 := by
  simp only [State.hasFamily, State.rn_of_val hval (i := 0x2910 + p) (b := 0x03) (by omega)]

variable (hotp : a.otp = s.otp)
include hotp

theorem State.ownAddr_of_val (p : Nat) (v6 : Bool) (x : List Byte) : a.ownAddr p v6 x = s.ownAddr p v6 x := by
  unfold State.ownAddr
  rw [State.linkLocal_of_otp hotp, State.rn_of_val hval (by omega), State.rb_of_val hval (by omega)]

theorem State.destValid_of_val (n : Nat) : a.destValid n = s.destValid n := by
  have hrn : ∀ b ∈ [0x05, 0x07], a.rn (sIdx n) b = s.rn (sIdx n) b := fun b hb =>
    State.rn_of_val hval (by simp only [List.mem_cons, List.not_mem_nil, or_false] at hb; simp only [sIdx]; omega)
  simp (disch := decide) only [State.destValid, hrn, State.hasFamily_of_val hval, State.ownAddr_of_val hval hotp,
    State.rb_of_val hval (i := sIdx n) (b := 0x08) (by simp only [sIdx]; omega)]

theorem State.udpSession_of_val (hused : a.sessUsed = s.sessUsed) (p : Nat) (i : IpInfo) (rtcp : Bool) :
    a.udpSession p i rtcp = s.udpSession p i rtcp := by
  have hrn : ∀ n, ∀ b ∈ [0x02, 0x04, 0x05, 0x07, 0x0A, 0x0B], a.rn (sIdx n) b = s.rn (sIdx n) b := fun n b hb =>
    State.rn_of_val hval (by simp only [List.mem_cons, List.not_mem_nil, or_false] at hb; simp only [sIdx]; omega)
  have hrb : ∀ n, ∀ b ∈ [0x08, 0x09], a.rb (sIdx n) b = s.rb (sIdx n) b := fun n b hb =>
    State.rb_of_val hval (by simp only [List.mem_cons, List.not_mem_nil, or_false] at hb; simp only [sIdx]; omega)
  unfold State.udpSession State.admitted State.sst State.kind
  rw [hused]
  congr 1
  funext n
  dsimp only
  rw [hrn n 0x02 (by decide), hrn n 0x04 (by decide), hrn n 0x05 (by decide), hrn n 0x07 (by decide), hrn n 0x0A (by decide),
    hrn n 0x0B (by decide), hrb n 0x08 (by decide), hrb n 0x09 (by decide), State.destValid_of_val hval hotp]

/-- What becomes of a frame depends on no counter of frames received, and on no count of events lost. -/
theorem State.frameFate_of_val (hused : a.sessUsed = s.sessUsed) (hmcast : a.mcast = s.mcast) (p : Nat) (f : Frame) :
    a.frameFate p f = s.frameFate p f := by
  have hport : ∀ b, b ≠ 0x0C → b < 256 → a.rn (0x2910 + p) b = s.rn (0x2910 + p) b := fun b h hb => State.rn_of_val hval (by omega)
  have hip : ∀ i, a.ipFate p i = s.ipFate p i := fun i => by
    unfold State.ipFate
    rw [State.hasFamily_of_val hval, State.udpSession_of_val hval hotp hused, State.udpSession_of_val hval hotp hused,
      hport 0x11 (by decide) (by decide), State.rn_of_val hval (i := 0x2020) (b := 0x01) (by decide),
      State.rn_of_val hval (i := 0x2020) (b := 0x02) (by decide), State.rn_of_val hval (i := 0x2020) (b := 0x03) (by decide)]
  have hmac : a.macMine p f.dst = s.macMine p f.dst := by
    unfold State.macMine State.ownGroups State.ptpOn State.portMac
    rw [State.hasFamily_of_val hval, State.linkLocal_of_otp hotp, State.rb_of_val hval (by omega), hotp, hmcast,
      hport 0x0A (by decide) (by decide), State.rn_of_val hval (i := 0x2A00) (by decide)]
  unfold State.frameFate
  rw [hmac, hport 0x0B (by decide) (by decide), hport 0x11 (by decide) (by decide)]
  simp only [hip]

end Fate

/-- Counting a frame as received leaves what becomes of it alone. -/
theorem State.frameFate_received (s : State) (k : Nat) {p : Nat} (hp : p < 16) (f : Frame) :
    (s.bump k (0x2910 + p) 0x0C).frameFate p f = s.frameFate p f := by
  have hcounts := s.bump_sansCounts k (0x2910 + p) 0x0C 1
  have hotp : (s.bump k (0x2910 + p) 0x0C).otp = s.otp := (congrArg State.otp hcounts :)
  have hmcast : (s.bump k (0x2910 + p) 0x0C).mcast = s.mcast := (congrArg State.mcast hcounts :)
  refine State.frameFate_of_val (fun i b hb hlt hi => ?_) hotp (s.sessUsed_bump k 1 (by omega) (by decide)) hmcast p f
  simp only [State.val, s.look_bump_other k 1 (idx := 0x2910 + p) (sub := 0x0C) (i := key i b) (by simp only [key]; omega)
    (by simp only [key]; omega)]

/-- Whether a rejected frame counts in one of the counters that Tables 3.2 and 3.3 name. -/
def Fate.named : Fate → Bool
  | .count sub => sub ∈ [0x0D, 0x0E, 0x0F, 0x10, 0x12]
  | _ => true

theorem State.ipFate_named (s : State) (p : Nat) (i : IpInfo) : (s.ipFate p i).named = true := by
  unfold State.ipFate
  dsimp only
  repeat' split
  all_goals rfl

theorem State.frameFate_named (s : State) (p : Nat) (f : Frame) : (s.frameFate p f).named = true := by
  unfold State.frameFate
  dsimp only
  repeat' split
  case h_1 i _ => exact s.ipFate_named p i
  all_goals rfl

/-- A frame heard is counted as received. -/
def State.received (s : State) (p : Nat) : State := s.bump (ethKey p) (0x2910 + p) 0x0C

section Frames
variable {u : State} {p : Nat} {f : Frame}

/-- A frame discarded on a port that hears counts as received, and in the counter of its rejection. -/
theorem State.frameDiscard_counts (hhears : u.portHears p = true) (hp : p < 16) :
    u.counted (u.frameDiscard p f) (0x2910 + p) 0x0C 1 ∧
    (∀ sub, u.frameFate p f = .count sub → u.counted (u.frameDiscard p f) (0x2910 + p) sub 1) ∧
    (u.frameDiscard p f).sansCounts = u.sansCounts := by
  have hreceived : u.counted (u.received p) (0x2910 + p) 0x0C 1 := u.counted_bump _ _ _ _
  have hfate : u.frameDiscard p f = match u.frameFate p f with
      | .count sub => (u.received p).bump (ethKey p) (0x2910 + p) sub
      | _ => u.received p := by
    unfold State.frameDiscard
    rw [if_neg (by simp [hhears])]
    dsimp only
    rw [u.frameFate_received _ hp]
    rfl
  rw [hfate]
  split
  · next sub hsub =>
    have hnamed := u.frameFate_named p f
    have hne : sub ≠ 0x0C ∧ sub ≠ 0x05 ∧ sub < 256 := by
      simp only [hsub, Fate.named, List.mem_cons, List.not_mem_nil, or_false, decide_eq_true_eq] at hnamed
      omega
    refine ⟨hreceived.congr rfl (State.rn_bump_sub _ _ _ _ _ ⟨hne.1.symm, by decide⟩ hne.2.2 (by decide)), fun sub' h => ?_, ?_⟩
    · obtain rfl : sub = sub' := Fate.count.inj (hsub.symm.trans h)
      exact ((u.received p).counted_bump _ _ _ _).congr (State.rn_bump_sub _ _ _ _ _ ⟨hne.1, hne.2.1⟩ (by decide) hne.2.2).symm rfl
    · rw [State.bump_sansCounts]
      exact u.bump_sansCounts _ _ _ _
  · next hnone => exact ⟨hreceived, fun sub h => absurd h (hnone sub), u.bump_sansCounts _ _ _ _⟩

/-- A frame for the host on a port that hears counts as received and goes to the host. -/
theorem State.rawFrame_host (hhears : u.portHears p = true) (hp : p < 16) (hhost : u.frameFate p f = .host) :
    u.rawFrame p f = (u.received p).toHost p f.data := by
  unfold State.rawFrame
  rw [if_neg (by simp [hhears])]
  dsimp only
  rw [u.frameFate_received _ hp, hhost]
  rfl

theorem State.frameDiscard_deaf (hdeaf : u.portHears p = false) : u.frameDiscard p f = u := if_pos (by simp [hdeaf])
theorem State.rawFrame_deaf (hdeaf : u.portHears p = false) : u.rawFrame p f = u := if_pos (by simp [hdeaf])

/-- Counting leaves the host rings alone. -/
theorem State.received_rings (u : State) (p : Nat) : (u.received p).rings = u.rings := (congrArg State.rings (u.bump_sansCounts _ _ _ _) :)

theorem State.ringOf_of_rings {a b : State} (h : a.rings = b.rings) (kind param : Nat) : a.ringOf kind param = b.ringOf kind param := by
  unfold State.ringOf State.ring
  rw [h]

/-- A frame for a host without a ring counts as received and as lost to the host. -/
theorem State.rawFrame_lost (hhears : u.portHears p = true) (hp : p < 16) (hhost : u.frameFate p f = .host) (hring : u.ringOf 3 p = none) :
    u.counted (u.rawFrame p f) (0x2910 + p) 0x0C 1 ∧ u.counted (u.rawFrame p f) 0x6600 0x0C 1 ∧
    (u.rawFrame p f).sansCounts = u.sansCounts := by
  have hlost : u.rawFrame p f = (u.received p).bump (pcieKey 0) 0x6600 0x0C := by
    rw [State.rawFrame_host hhears hp hhost]
    unfold State.toHost
    dsimp only
    rw [State.ringOf_of_rings (u.received_rings p), hring]
  rw [hlost]
  refine ⟨(u.counted_bump (ethKey p) _ _ _).congr rfl ?_, ((u.received p).counted_bump _ _ _ _).congr ?_ rfl, ?_⟩
  · exact State.rn_of_look (State.look_bump_other _ _ _ (by simp only [key]; omega) (by simp only [key]; omega))
  · exact State.rn_of_look (State.look_bump_other _ _ _ (by simp only [key]; omega) (by decide)).symm
  · rw [State.bump_sansCounts]
    exact u.bump_sansCounts _ _ _ _

end Frames

/-! ### Delivery to the host (R501) -/

/-- A state without what a delivery on a host ring changes: dictionary values, the log, the rings, the function's row and outputs. -/
def State.sansRings (s : State) : State := { s with od := [], log := {}, rings := [], pcie := {}, out := [] }

/-- States that differ in what a delivery changes alone: one is the other with those parts. -/
theorem State.eq_of_sansRings {a b : State} (h : a.sansRings = b.sansRings) :
    a = { b with od := a.od, log := a.log, rings := a.rings, pcie := a.pcie, out := a.out } :=
  congrArg (fun x : State => { x with od := a.od, log := a.log, rings := a.rings, pcie := a.pcie, out := a.out }) h

/-- Rings and the function at work: a delivery's other parts stay, and outputs only join those recorded. -/
structure State.Delivers (a b : State) : Prop where
  frame : b.sansRings = a.sansRings
  out : a.out ⊆ b.out

section Delivers
variable {a b : State}

theorem State.Delivers.refl (a : State) : State.Delivers a a := ⟨rfl, List.Subset.refl _⟩

theorem State.Delivers.trans {c : State} (h : State.Delivers a b) (h' : State.Delivers b c) : State.Delivers a c :=
  ⟨h'.frame.trans h.frame, List.Subset.trans h.out h'.out⟩

theorem State.Delivers.say (h : State.Delivers a b) (o : Out) : State.Delivers a (b.say o) := by
  rcases b.say_cases o with hsay | hsay <;> rw [hsay]
  · exact h
  · exact h.trans ⟨rfl, List.subset_cons_self _ _⟩

theorem State.Delivers.bump (h : State.Delivers a b) (k idx sub n : Nat) : State.Delivers a (b.bump k idx sub n) := by
  have hcounts := b.bump_sansCounts k idx sub n
  exact h.trans ⟨(congrArg State.sansRings hcounts :), (congrArg State.out hcounts :) ▸ List.Subset.refl _⟩

theorem State.Delivers.setRing (h : State.Delivers a b) (q : Nat) (g : RingS) : State.Delivers a (b.setRing q g) :=
  h.trans ⟨rfl, List.Subset.refl _⟩

theorem State.Delivers.setPcie (h : State.Delivers a b) (x : PcieS) : State.Delivers a { b with pcie := x } :=
  h.trans ⟨rfl, List.Subset.refl _⟩

theorem State.Delivers.sendVector (h : State.Delivers a b) (v : Nat) : State.Delivers a (b.sendVector v) := by
  unfold State.sendVector
  dsimp only
  split
  · exact h.setPcie _
  · exact h.say _

theorem State.Delivers.ringInt (h : State.Delivers a b) (q : Nat) : State.Delivers a (b.ringInt q) := by
  unfold State.ringInt
  dsimp only
  split_ifs
  · exact h
  · exact h.setRing _ _
  · exact (h.setRing _ _).sendVector _

theorem State.Delivers.funcEvent (h : State.Delivers a b) (i : Nat) : State.Delivers a (b.funcEvent i) := by
  unfold State.funcEvent
  dsimp only
  split
  · exact (h.setPcie _).sendVector _
  · exact h.setPcie _

theorem State.Delivers.ite {c : State} (h : State.Delivers a b) (h' : State.Delivers a c) (p : Prop) [Decidable p] :
    State.Delivers a (if p then b else c) := by
  split
  · exact h
  · exact h'

/-- A write-back is written, waits, or is left out. -/
theorem State.Delivers.writeBack (h : State.Delivers a b) (q : Nat) (w : WriteBack) : State.Delivers a (b.writeBack q w) := by
  unfold State.writeBack
  extract_lets g ph s₁ s₂ s₃ s₄
  split
  · exact h
  split
  · have h₂ : State.Delivers a s₂ := (h.setRing _ _).say _
    have h₃ : State.Delivers a s₃ := .ite (h₂.bump _ _ _ _) h₂ _
    exact (State.Delivers.ite (h₃.funcEvent 2) h₃ _).ringInt q
  · exact h.setRing _ _

end Delivers

/-- With a buffer offered and space for its write-back, data for the host leaves into the oldest buffer. -/
theorem State.deliver_delivers {s : State} {q : Nat} {bs : List (Nat × Desc)} {d : Nat × Desc} (hbufs : (s.ring q).bufs = d :: bs)
    (hspace : (s.ring q).space = true) (hwaits : (s.ring q).waits = []) (hrun : s.power.phase = .running)
    (bytes : Desc → List Byte) (wb : Nat → Desc → WriteBack) :
    ∃ b, s.deliver q bytes wb = some b ∧ .dma q d.1 (bytes d.2) ∈ b.out ∧ b.sansRings = s.sansRings := by
  let a := s.setRing q { s.ring q with bufs := bs }
  have hdeliver : s.deliver q bytes wb = some ((a.say (.dma q d.1 (bytes d.2))).writeBack q (wb d.1 d.2)) := by
    unfold State.deliver
    dsimp only
    rw [hbufs]
    exact if_pos (by simp [hspace, hwaits])
  have hsay : a.say (.dma q d.1 (bytes d.2)) = { a with out := .dma q d.1 (bytes d.2) :: a.out } := State.say_of_running hrun (.inl rfl)
  have hwrite := (State.Delivers.refl (a.say (.dma q d.1 (bytes d.2)))).writeBack q (wb d.1 d.2)
  refine ⟨_, hdeliver, hwrite.out ?_, hwrite.frame.trans ?_⟩
  · rw [hsay]
    exact List.mem_cons_self
  · rw [hsay]
    rfl

/-- A frame for a host with a buffer and space goes into the oldest buffer. -/
theorem State.toHost_delivers {s : State} {p q : Nat} (data : List Byte) {bs : List (Nat × Desc)} {d : Nat × Desc}
    (hring : s.ringOf 3 p = some q) (hbufs : (s.ring q).bufs = d :: bs) (hspace : (s.ring q).space = true)
    (hwaits : (s.ring q).waits = []) (hrun : s.power.phase = .running) :
    .dma q d.1 (data.take d.2.lenA) ∈ (s.toHost p data).out ∧ (s.toHost p data).sansRings = s.sansRings := by
  unfold State.toHost
  dsimp only
  rw [hring]
  dsimp only
  obtain ⟨b, hb, hdma, hframe⟩ := State.deliver_delivers hbufs hspace hwaits hrun (fun d => data.take d.lenA) _
  rw [hb]
  exact ⟨hdma, hframe⟩

theorem State.rawFrame_delivered {u : State} {p q : Nat} {f : Frame} {bs : List (Nat × Desc)} {d : Nat × Desc}
    (hhears : u.portHears p = true) (hp : p < 16) (hhost : u.frameFate p f = .host) (hring : u.ringOf 3 p = some q)
    (hbufs : (u.ring q).bufs = d :: bs) (hspace : (u.ring q).space = true) (hwaits : (u.ring q).waits = [])
    (hrun : u.power.phase = .running) :
    .dma q d.1 (f.data.take d.2.lenA) ∈ (u.rawFrame p f).out ∧ (u.rawFrame p f).sansRings = u.sansRings := by
  have hrings := u.received_rings p
  have hcounts : (u.received p).sansCounts = u.sansCounts := u.bump_sansCounts _ _ _ _
  have hrow : (u.received p).ring q = u.ring q := by simp only [State.ring, hrings]
  have hpower : (u.received p).power = u.power := (congrArg State.power hcounts :)
  have hstart : (u.received p).sansRings = u.sansRings := (congrArg State.sansRings hcounts :)
  rw [State.rawFrame_host hhears hp hhost, ← hstart]
  exact State.toHost_delivers f.data ((State.ringOf_of_rings hrings 3 p).trans hring) (hrow ▸ hbufs) (hrow ▸ hspace) (hrow ▸ hwaits)
    (hpower ▸ hrun)

/-- A port that negotiates is up when clause 37 completes (R119). -/
theorem State.negotiated_up {u : State} {p : Nat} : ∃ s', u.negotiated p = s' ∧
    (u.rn (0x2910 + p) 0x0A = 2 → s'.rn (0x2910 + p) 0x0A = 1 ∧ (s'.port p).negotiated = true) ∧
    (u.rn (0x2910 + p) 0x0A ≠ 2 → s' = u) ∧ u.odSame s' [key (0x2910 + p) 0x0A] ∧ s' = { u with od := s'.od, ports := s'.ports } := by
  refine ⟨_, rfl, ?_⟩
  unfold State.negotiated
  split
  · next h =>
    refine ⟨fun _ => ⟨State.rn_wn_same _ _ _ _, ?_⟩, fun hne => absurd h hne, fun i hi => ?_, rfl⟩
    · simp [State.port]
    · exact State.look_wn_other _ _ (by simpa using hi)
  · next h => exact ⟨fun heq => absurd heq h, fun _ => rfl, fun _ _ => rfl, rfl⟩

/-- What a return of a quad's lanes brings about, and what it leaves. -/
theorem State.quadUp_returns {u : State} {q : Nat} (hq : q < 4) : ∃ s', u.quadUp q = s' ∧
    (∀ j, j < 4 → (s'.port (4 * q + j)).lanes = 0 ∧ (u.inTest (4 * q + j) = false → s'.laneLocked (4 * q + j) = true) ∧
      (u.portExists (4 * q + j) = false → s'.rn (0x2910 + (4 * q + j)) 0x0A = 0)) ∧
    (∀ o ∈ s'.out, o ∈ u.out ∨ ∃ j, j < 4 ∧ o = .advertise (4 * q + j) true false false false) ∧
    s' = { u with od := s'.od, ports := s'.ports, lanes := s'.lanes, out := s'.out } := by
  have hframe := u.quadUp_sansPorts q
  have hout := fun o (ho : o ∈ (u.quadUp q).out) => u.mem_quadUp_out q ho
  have hports := fun j (hj : j < 4) => u.quadUp_brings hq hj
  generalize u.quadUp q = b at hframe hout hports
  exact ⟨b, rfl, hports, hout, State.eq_of_sansPorts hframe⟩

/-- Settles O23: a quad's ports by what each step of the fold over them brings about, frames by their fate, and the host's ring by
the delivery. -/
theorem ethernetPortsAndFrames : Obligations.EthernetPortsAndFrames := by
  unfold Obligations.EthernetPortsAndFrames
  intro s t u
  refine ⟨?_, ?_, ?_, ?_, ?_, ?_, ?_⟩
  · intro r q mode ht hq hm
    obtain ⟨s', hs', hrest⟩ := State.quadModeChange_taken ht hq hm
    exact ⟨s', congrArg _ hs', hrest⟩
  · intro q hq
    obtain ⟨s', hs', hrest⟩ := u.quadUp_returns hq
    have htaken : (if q < 4 then u.quadUp q else u) = s' := (if_pos hq).trans hs'
    exact ⟨s', congrArg Host.Outcome.next htaken, hrest⟩
  · intro p f hhears hp
    obtain ⟨hreceived, hrejected, hframe⟩ := State.frameDiscard_counts (f := f) hhears hp
    exact ⟨_, rfl, hreceived, hrejected, State.eq_of_sansCounts hframe⟩
  · exact fun p f hdeaf => ⟨congrArg _ (State.frameDiscard_deaf hdeaf), congrArg _ (State.rawFrame_deaf hdeaf)⟩
  · intro p f hhears hp hhost hring
    obtain ⟨hreceived, hlost, hframe⟩ := State.rawFrame_lost hhears hp hhost hring
    exact ⟨_, rfl, hreceived, hlost, State.eq_of_sansCounts hframe⟩
  · intro p f q bs d hhears hp hhost hring hbufs hspace hwaits hrun
    obtain ⟨hdma, hframe⟩ := State.rawFrame_delivered hhears hp hhost hring hbufs hspace hwaits hrun
    exact ⟨_, rfl, hdma, State.eq_of_sansRings hframe⟩
  · intro p
    obtain ⟨s', hs', hrest⟩ := u.negotiated_up (p := p)
    exact ⟨s', congrArg _ hs', hrest⟩

end Sys2Proof.Machine
end

section
/-! SUPPORT. The sources and sessions chapter's statement on the reception of sessions: packets and their order (R125 to R128, R133), the
release of an access unit and its way to decode (R127, R132, R196), sender and receiver reports (R131, R141). -/

namespace Sys2Proof.Machine

/-! ### Sequence numbers (R12, R126) -/

theorem serialDiff_succ (h : Nat) : serialDiff 32 ((h + 1) % 2 ^ 32) h = 1 := by
  unfold serialDiff
  omega

theorem serialAfter_succ (h : Nat) : serialAfter 32 ((h + 1) % 2 ^ 32) h = true := by
  unfold serialAfter
  rw [serialDiff_succ]
  decide

/-- The next sequence number in order extends to the one after the extended highest. -/
theorem extendSeq_succ (h : Nat) : extendSeq h ((h + 1) % 2 ^ 16) = (h + 1) % 2 ^ 32 := by
  have hdiff : serialDiff 16 ((h + 1) % 2 ^ 16) h = 1 := by
    unfold serialDiff
    omega
  unfold extendSeq
  rw [hdiff]
  exact if_pos (by decide)

@[simp] theorem State.wn_sansCounts (s : State) (idx sub v : Nat) : (s.wn idx sub v).sansCounts = s.sansCounts := rfl

theorem State.ses_of_sansCounts {a b : State} (h : a.sansCounts = b.sansCounts) (n : Nat) : a.ses n = b.ses n :=
  (congrArg (fun s : State => s.ses n) h :)

theorem State.segs_of_sansCounts {a b : State} (h : a.sansCounts = b.sansCounts) : a.segs = b.segs := (congrArg State.segs h :)

/-! ### Received packets (R125 to R128, R133) -/

section Packets
variable {u : State} {n : Nat} {pkt : RtpPkt}

/-- A session of RTP whose port and destination hear its packets. -/
def State.hearsRtp (s : State) (n : Nat) : Prop :=
  s.admitted n = true ∧ s.kind n ≤ 1 ∧ s.portHears (s.rn (sIdx n) 0x05) = true ∧ s.destValid n = true

/-- Whether a packet is of the SSRC that its session takes packets of: a fixed one, any before the first, the one adopted. -/
def State.ssrcTaken (s : State) (n ssrc : Nat) : Bool :=
  if bit (s.rn (sIdx n) 0x0B) 3 then decide (ssrc = s.rn (sIdx n) 0x0D)
  else if s.sst n = sessJoining || s.sst n = sessStarved then true else decide ((s.ses n).ssrc = some ssrc)

/-- Whether a packet is within its session's declaration, and has room. -/
def State.packetDeclared (s : State) (n : Nat) (pkt : RtpPkt) : Bool :=
  !pkt.ringFull && pkt.version = 2 && pkt.pt = s.rn (sIdx n) 0x0C && s.ssrcTaken n pkt.ssrc

/-- A packet of a session that hears is discarded, closes the session, or goes by its sequence number. -/
theorem State.rtpPacket_heard (hhears : u.hearsRtp n) : u.rtpPacket n pkt =
    if u.packetDeclared n pkt = false then u.rtpDrop n 0x29
    else if isMode2 (u.kind n = 1) pkt.body.ptype then
      if u.sst n = sessAcquiring || u.sst n = sessRunning then (u.rtpDrop n 0x29).closeSess n 6 else u.rtpDrop n 0x29
    else if !payloadOk (u.kind n = 1) pkt.body.ptype then u.rtpDrop n 0x29
    else u.rtpSeq n pkt := by
  obtain ⟨hadmitted, hkind, hport, hdest⟩ := hhears
  have hheard : (!u.admitted n || decide (2 ≤ u.kind n) || !u.portHears (u.rn (sIdx n) 0x05) || !u.destValid n) = false := by
    simp [hadmitted, hport, hdest]
    omega
  unfold State.rtpPacket
  dsimp only
  rw [if_neg (by rw [hheard]; decide)]
  refine if_congr ?_ rfl rfl
  unfold State.packetDeclared State.ssrcTaken
  by_cases hfixed : bit (u.rn (sIdx n) 0x0B) 3 = true <;> simp [hfixed, or_assoc, and_assoc, imp_iff_not_or]

/-- A packet outside its session's declaration, without room, or of a type not supported is discarded. -/
theorem State.rtpPacket_discarded (hhears : u.hearsRtp n) (hbad : pkt.version ≠ 2 ∨ pkt.pt ≠ u.rn (sIdx n) 0x0C ∨ pkt.ringFull = true ∨
    (isMode2 (decide (u.kind n = 1)) pkt.body.ptype = false ∧ payloadOk (decide (u.kind n = 1)) pkt.body.ptype = false)) :
    u.rtpPacket n pkt = u.rtpDrop n 0x29 := by
  rw [State.rtpPacket_heard hhears]
  cases hdeclared : u.packetDeclared n pkt with
  | false => rfl
  | true =>
    simp only [State.packetDeclared, Bool.and_eq_true, Bool.not_eq_true', decide_eq_true_eq] at hdeclared
    obtain ⟨⟨⟨hroom, hversion⟩, hpt⟩, -⟩ := hdeclared
    obtain ⟨hmode, hpayload⟩ := ((hbad.resolve_left (not_not_intro hversion)).resolve_left (not_not_intro hpt)).resolve_left (by simp [hroom])
    rw [if_neg (by decide), if_neg (by rw [hmode]; decide), if_pos (by rw [hpayload]; rfl)]

/-- A packet counts in a counter of its session, and nothing else changes. -/
theorem State.rtpDrop_counted (s : State) (n sub : Nat) : s.counted (s.rtpDrop n sub) (sIdx n) sub 1 := s.counted_bump _ _ _ _

@[simp] theorem State.rtpDrop_sansCounts (s : State) (n sub : Nat) : (s.rtpDrop n sub).sansCounts = s.sansCounts :=
  s.bump_sansCounts _ _ _ _

/-- A packet within its session's declaration goes by its sequence number. -/
theorem State.rtpPacket_declared (hhears : u.hearsRtp n) (hversion : pkt.version = 2)
    (hpt : pkt.pt = u.rn (sIdx n) 0x0C) (hroom : pkt.ringFull = false) (hmode : isMode2 (decide (u.kind n = 1)) pkt.body.ptype = false)
    (hpayload : payloadOk (decide (u.kind n = 1)) pkt.body.ptype = true) (hssrc : (u.ses n).ssrc = some pkt.ssrc)
    (hfixed : bit (u.rn (sIdx n) 0x0B) 3 = true → pkt.ssrc = u.rn (sIdx n) 0x0D) : u.rtpPacket n pkt = u.rtpSeq n pkt := by
  have hdeclared : u.packetDeclared n pkt = true := by
    simp only [State.packetDeclared, State.ssrcTaken, hroom, hversion, hpt, hssrc]
    by_cases h : bit (u.rn (sIdx n) 0x0B) 3 = true
    · simp [h, hfixed h]
    · simp [h]
  rw [State.rtpPacket_heard hhears, if_neg (by rw [hdeclared]; decide), if_neg (by rw [hmode]; decide), if_neg (by rw [hpayload]; decide)]

/-- A packet that is the next one in order, not stamped at or before a released access unit, is taken. -/
theorem State.rtpSeq_next {h : Nat} (hssrc : (u.ses n).ssrc = some pkt.ssrc) (hext : (u.ses n).ext = some h)
    (hrestart : (u.ses n).restart ≠ some pkt.seq) (hseq : pkt.seq = (h + 1) % 2 ^ 16) (hnew : (h + 1) % 2 ^ 32 ∉ (u.ses n).seen)
    (hdone : ∀ d, (u.ses n).doneTs = some d → serialAfter 32 pkt.ts d = true) :
    u.rtpSeq n pkt = (u.setSes n { u.ses n with restart := none }).rtpTake n pkt ((h + 1) % 2 ^ 32) := by
  have hrow : (u.ses n).ofSsrc pkt.ssrc = u.ses n := if_pos hssrc
  unfold State.rtpSeq
  extract_lets g again g₁ s₁
  have hg : g = u.ses n := hrow
  have hext₁ : g₁.ext = some h := (congrArg SessS.ext hg).trans hext
  split
  · next hnone => exact absurd (hext₁.symm.trans hnone) (by simp)
  next h' hsome =>
  obtain rfl : h = h' := Option.some.inj (hext₁.symm.trans hsome)
  extract_lets e ahead top s₂ s₃
  have he : e = (h + 1) % 2 ^ 32 := by
    simp only [e, hseq, extendSeq_succ]
  have hahead : ahead = true := by
    simp only [ahead, he, serialAfter_succ]
  have hs₁ : s₁ = u.setSes n { u.ses n with restart := none } := by
    simp only [s₁, g₁, hg]
  have hseen : g₁.seen.contains e = false := by
    simpa [he, g₁, hg] using hnew
  have hagain : again = false := by
    simpa [again, hg] using hrestart
  have hnear : ((ahead && decide (3000 < serialDiff 32 e h)) || (!ahead && decide (100 < serialDiff 32 h e))) = false := by
    rw [hahead, he, serialDiff_succ]
    rfl
  have hs₃ : s₃ = s₁ := if_neg (by rw [hahead]; decide)
  rw [if_neg (by rw [hseen]; decide), if_neg (by rw [hagain]; decide), if_neg (by rw [hnear]; decide), if_neg]
  · rw [hs₃, hs₁, he]
  · split
    · next d hd => simp [hdone d ((congrArg SessS.doneTs hg).symm.trans hd)]
    · decide

/-- What accepting the next packet in order makes of its session's row: the packet joins its access unit, and the rest follows. -/
theorem State.rtpAccept_eq {h : Nat} (hext : (u.ses n).ext = some h) : ∃ (g : SessS) (j : Nat),
    u.rtpAccept n pkt ((h + 1) % 2 ^ 32) =
      (((u.setSes n g).rtpDrop n 0x24).wn (sIdx n) 0x2A j).wn (sIdx n) 0x2B ((h + 1) % 2 ^ 32) ∧
    g.ext = some ((h + 1) % 2 ^ 32) ∧ g.recv = (u.ses n).recv + 1 ∧ g.last = pkt.mac ∧
    g.aus = addPacket (u.ses n).aus ((h + 1) % 2 ^ 32) pkt := by
  unfold State.rtpAccept
  extract_lets g arr transit j top g₁ s₁ s₂
  have htop : top = (h + 1) % 2 ^ 32 := by
    simp only [top, g, hext, serialAfter_succ, if_true]
  have hrecv : g₁.recv = g.recv + 1 := by
    simp only [g₁, g, hext, Option.isSome_some, if_true]
  exact ⟨g₁, j / 16, by rw [htop], congrArg some htop, hrecv, rfl, rfl⟩

theorem State.rtpAccept_next {h : Nat} (hext : (u.ses n).ext = some h) : ∃ s', u.rtpAccept n pkt ((h + 1) % 2 ^ 32) = s' ∧
    (s'.ses n).ext = some ((h + 1) % 2 ^ 32) ∧ (s'.ses n).recv = (u.ses n).recv + 1 ∧ (s'.ses n).last = pkt.mac ∧
    (s'.ses n).aus = addPacket (u.ses n).aus ((h + 1) % 2 ^ 32) pkt ∧ u.counted s' (sIdx n) 0x24 1 ∧
    s'.rn (sIdx n) 0x2B = (h + 1) % 2 ^ 32 ∧ (∀ m, m ≠ n → s'.ses m = u.ses m) ∧
    s' = { u with od := s'.od, log := s'.log, sess := s'.sess } := by
  obtain ⟨g, j, haccept, hext', hrecv, hlast, haus⟩ := State.rtpAccept_eq (pkt := pkt) hext
  generalize u.rtpAccept n pkt ((h + 1) % 2 ^ 32) = b at haccept
  have hcounts : b.sansCounts = (u.setSes n g).sansCounts := by
    rw [haccept, State.wn_sansCounts, State.wn_sansCounts, State.rtpDrop_sansCounts]
  have hcounted : u.counted b (sIdx n) 0x24 1 := by
    refine State.counted.congr ((u.setSes n g).rtpDrop_counted n 0x24) rfl ?_
    rw [haccept, State.rn_wn_sub _ _ _ _ (by decide) (by decide) (by decide),
      State.rn_wn_sub _ _ _ _ (by decide) (by decide) (by decide)]
  have htop : b.rn (sIdx n) 0x2B = (h + 1) % 2 ^ 32 := by
    rw [haccept, State.rn_wn_same]
  have hrow : b.ses n = g := (State.ses_of_sansCounts hcounts n).trans (u.ses_setSes_same n g)
  refine ⟨b, rfl, by rw [hrow, hext'], by rw [hrow, hrecv], by rw [hrow, hlast], by rw [hrow, haus], hcounted, htop,
    fun m hm => (State.ses_of_sansCounts hcounts m).trans (State.ses_setSes_other _ _ hm), ?_⟩
  exact congrArg (fun x : State => { x with od := b.od, log := b.log, sess := b.sess }) hcounts

/-- A packet taken in RUNNING is accepted. -/
theorem State.rtpTake_running (ext : Nat) (hrun : u.sst n = sessRunning) : u.rtpTake n pkt ext = u.rtpAccept n pkt ext := by
  unfold State.rtpTake
  dsimp only
  rw [hrun, if_neg (by simp [sessRunning, sessStarved]), if_neg (by decide)]

end Packets

/-! ### What the checks of an access unit leave alone (R24 to R28, R35 to R38, R139) -/

/-- From state `a` to state `b` checks of an access unit of session `n` have been made: waiting segments stay, and of the dictionary
what stands below the layers' objects; of the session's row nothing that `f` reads has changed. -/
structure State.Checked {β : Type} (n : Nat) (f : SessS → β) (a b : State) : Prop where
  segs : b.segs = a.segs
  values : lowValues 0x4000 b.od = lowValues 0x4000 a.od
  row : f (b.ses n) = f (a.ses n)

/-- What the checks leave alone of a session's row. -/
def SessS.received (g : SessS) : List AuS × Option Nat × List AuInfo × Option ParamSet × Bool :=
  (g.aus, g.doneTs, g.queue, g.active, g.skipRasl)

/-- What the checks before the continuity check leave alone of the row of a session that has no alive value. -/
def SessS.fresh (g : SessS) : (List AuS × Option Nat × List AuInfo × Option ParamSet × Bool) × Option Nat := (g.received, g.alive)

section Checked
variable {β : Type} {n : Nat} {f : SessS → β} {a b : State}

theorem State.Checked.refl (a : State) : State.Checked n f a a := ⟨rfl, rfl, rfl⟩

theorem State.Checked.trans {c : State} (h : State.Checked n f a b) (h' : State.Checked n f b c) : State.Checked n f a c :=
  ⟨h'.segs.trans h.segs, h'.values.trans h.values, h'.row.trans h.row⟩

theorem State.Checked.map {γ : Type} (g : β → γ) (h : State.Checked n f a b) : State.Checked n (fun x => g (f x)) a b :=
  ⟨h.segs, h.values, congrArg g h.row⟩

theorem State.Checked.setSes (h : State.Checked n f a b) {g : SessS} (hg : f g = f (b.ses n)) : State.Checked n f a (b.setSes n g) :=
  h.trans ⟨rfl, rfl, by rw [State.ses_setSes_same, hg]⟩

theorem State.Checked.setLayer (h : State.Checked n f a b) (x : Nat) (l : LayerS) : State.Checked n f a (b.setLayer x l) :=
  h.trans ⟨rfl, rfl, rfl⟩

theorem State.Checked.wn (h : State.Checked n f a b) {idx : Nat} (hidx : 0x4000 ≤ idx) (sub v : Nat) :
    State.Checked n f a (b.wn idx sub v) :=
  h.trans ⟨rfl, lowValues_put_high _ hidx _ _, rfl⟩

theorem State.Checked.bump (h : State.Checked n f a b) (k : Nat) {idx : Nat} (hidx : 0x4000 ≤ idx) (sub v : Nat) :
    State.Checked n f a (b.bump k idx sub v) := by
  have hcounts := b.bump_sansCounts k idx sub v
  exact h.trans ⟨(congrArg State.segs hcounts :), b.bump_low k hidx sub v, (congrArg (fun s : State => f (s.ses n)) hcounts :)⟩

theorem State.Checked.ite {c : State} (h : State.Checked n f a b) (h' : State.Checked n f a c) (p : Prop) [Decidable p] :
    State.Checked n f a (if p then b else c) := by
  split
  · exact h
  · exact h'

theorem State.Checked.foldl {α : Type} {g : State → α → State} (hg : ∀ s x, State.Checked n f s (g s x)) (l : List α) (s : State) :
    State.Checked n f s (l.foldl g s) :=
  List.foldlRecOn l g (motive := fun s' => State.Checked n f s s') (.refl s) (fun s' ih x _ => ih.trans (hg s' x))

end Checked

section Checks
variable (s : State) {n : Nat}

theorem State.checked_layerAlive {β : Type} (f : SessS → β) (x v : Nat) : State.Checked n f s (s.layerAlive x v) := by
  have hlayer : 0x4000 ≤ 0x4000 + x := Nat.le_add_right _ _
  unfold State.layerAlive
  extract_lets l i k gap s₁
  split
  · have h₁ : State.Checked n f s s₁ := ((State.Checked.refl s).setLayer _ _).wn hlayer _ _
    exact .ite (h₁.bump _ hlayer _ _) h₁ _
  · exact ((State.Checked.refl s).setLayer _ _).bump _ hlayer _ _
  · exact (State.Checked.refl s).bump _ hlayer _ _

theorem State.checked_resetContinuity : State.Checked n SessS.received s (s.resetContinuity n) :=
  .trans (.setSes (.refl s) (by rfl)) (.foldl (fun s x => (State.Checked.refl s).setLayer x _) _ _)

theorem State.resetContinuity_alive : ((s.resetContinuity n).ses n).alive = none := by
  have hrow := foldl_leaves (fun s : State => s.ses n) (fun (s : State) x => s.setLayer x { s.layer x with alive := none, reps := 0 })
    (fun _ _ => rfl) (s.setSes n { s.ses n with alive := none, synthTs := none, replayFrom := none })
    (s.slotsUsed.filter (fun x => s.fn (0x4000 + x) 0x03 = n))
  exact (congrArg SessS.alive hrow).trans (by rw [State.ses_setSes_same])

/-- A change of grade gives a session without an alive value none. -/
theorem State.checked_gradeChange (grade : Nat) (hnone : (s.ses n).alive = none) : State.Checked n SessS.fresh s (s.gradeChange n grade) := by
  unfold State.gradeChange
  extract_lets old s₁
  have hreset : State.Checked n SessS.fresh s (s.resetContinuity n) :=
    ⟨s.checked_resetContinuity.segs, s.checked_resetContinuity.values,
      Prod.ext s.checked_resetContinuity.row (s.resetContinuity_alive.trans hnone.symm)⟩
  have h₁ : State.Checked n SessS.fresh s s₁ := .ite hreset (.refl s) _
  exact h₁.setSes (by rfl)

theorem State.checked_synthAlive (ts : Nat) : State.Checked n SessS.fresh s (s.synthAlive n ts).1 := by
  unfold State.synthAlive
  extract_lets g
  split
  · exact (State.Checked.refl s).setSes (by rfl)
  · split_ifs
    · exact (State.Checked.refl s).setSes (by rfl)
    · exact .refl s
    · exact .refl s

/-- The first alive value of a session is accepted as new (R38). -/
theorem State.checked_continuity (v : Nat) (hnone : (s.ses n).alive = none) : State.Checked n SessS.received s (s.continuity n v).1 := by
  unfold State.continuity
  simp only [hnone, judge]
  exact .setSes (.foldl (fun s x => s.checked_layerAlive _ x v) _ _) (by rfl)

/-- The checks of an access unit without a label, of a session without an alive value. -/
theorem State.checked_unlabelled (ts : Nat) (hnone : (s.ses n).alive = none) :
    State.Checked n SessS.received s (s.unlabelled n ts).1 ∧ (s.unlabelled n ts).2.ts = ts := by
  unfold State.unlabelled
  extract_lets grade s₁ p q cap late g g' s₂ s₃
  have hp : State.Checked n SessS.fresh s p.1 := (s.checked_gradeChange grade hnone).trans (s₁.checked_synthAlive ts)
  have hq : State.Checked n SessS.received s q.1 :=
    (hp.map Prod.fst).trans (p.1.checked_continuity _ ((congrArg Prod.snd hp.row).trans hnone))
  have hg : g'.received = (q.1.ses n).received := by
    simp only [g', g]
    split <;> rfl
  have h₂ : State.Checked n SessS.received s s₂ := hq.setSes hg
  exact ⟨.ite (h₂.bump _ (by decide) _ _) h₂ _, rfl⟩

end Checks

/-! ### The way to decode (R127, R132, R196) -/

theorem insertSeg_length (x : SegWait) (l : List SegWait) : (insertSeg x l).length = l.length + 1 := by
  induction l with
  | nil => rfl
  | cons y l ih =>
    unfold insertSeg
    dsimp only
    split
    · rfl
    · rw [List.length_cons, ih, List.length_cons]

theorem foldl_insertSeg_length {α : Type} (f : α → SegWait) (l : List α) (q : List SegWait) :
    (l.foldl (fun q x => insertSeg (f x) q) q).length = q.length + l.length := by
  induction l generalizing q with
  | nil => rfl
  | cons x l ih => rw [List.foldl_cons, ih, insertSeg_length, List.length_cons, Nat.add_assoc, Nat.add_comm 1]

/-- Cutting a picture adds its segments to those that wait. -/
theorem State.cut_segs (s : State) (n ts : Nat) (c : CodedS) : (s.cut n ts c).segs.length =
    s.segs.length + (c.shares (s.rn 0x3400 0x04) (decide (s.rn (sIdx n) 0x16 = 1))).length := by
  unfold State.cut
  exact (foldl_insertSeg_length _ _ _).trans (by rw [List.length_zipIdx])

/-- A state without what relaying an access unit changes: the links' queues, the relays' rows and free values taken. -/
def State.sansRelayed (s : State) : State := { s.sansSent with free := 0 }

@[simp] theorem State.relayUnit_sansRelayed (s : State) (n : Nat) (au : AuInfo) : (s.relayUnit n au).sansRelayed = s.sansRelayed := by
  refine foldl_leaves State.sansRelayed _ (fun s no => ?_) s _
  exact (congrArg (fun s : State => { s with free := 0 }) (State.relayStream_sansSent _ _ _)).trans rfl

/-- Of slice segments alone no parameter set comes. -/
theorem SessS.takeNals_slices (g : SessS) {nals : List Nal} (hvcl : ∀ x ∈ nals, ∃ y, x.body = .vcl y) :
    (g.takeNals nals).1 = g ∧ (g.takeNals nals).2.1.length = nals.length := by
  induction nals with
  | nil => exact ⟨rfl, rfl⟩
  | cons x l ih =>
    obtain ⟨y, hy⟩ := hvcl x List.mem_cons_self
    obtain ⟨hrow, hlength⟩ := ih fun z hz => hvcl z (List.mem_cons_of_mem _ hz)
    unfold SessS.takeNals
    rw [hy]
    exact ⟨hrow, congrArg (· + 1) hlength⟩

/-- Of NAL units that say nothing, nothing comes. -/
theorem SessS.takeNals_other (g : SessS) {nals : List Nal} (hother : ∀ x ∈ nals, x.body = .other) : g.takeNals nals = (g, [], none) := by
  induction nals with
  | nil => rfl
  | cons x l ih =>
    unfold SessS.takeNals
    rw [hother x List.mem_cons_self]
    exact ih fun z hz => hother z (List.mem_cons_of_mem _ hz)

/-- A picture whose size is known, and that is not skipped, is queued to decode and cut into its segments. -/
theorem State.toDecode_queues {s : State} {n : Nat} {au : AuInfo} {nals : List Nal} (hvcl : ∀ x ∈ nals, ∃ y, x.body = .vcl y)
    (hactive : (s.ses n).active.isSome = true) (hskip : (s.ses n).skipRasl = false) : ∃ s' i, s.toDecode n au nals = s' ∧
      (s'.ses n).queue = (s.ses n).queue ++ [i] ∧ (s'.ses n).aus = (s.ses n).aus ∧ (s'.ses n).doneTs = (s.ses n).doneTs ∧
      i.ts = au.ts ∧ i.coded.slices.length = nals.length ∧ s'.od = s.od ∧
      s'.segs.length = s.segs.length + (i.coded.shares (s.rn 0x3400 0x04) (decide (s.rn (sIdx n) 0x16 = 1))).length := by
  unfold State.toDecode
  extract_lets g r h264 nut irap newSeq sps c au' drop rest g' s₁
  obtain ⟨hrow, hlength⟩ : r.1 = g ∧ r.2.1.length = nals.length := g.takeNals_slices hvcl
  have hsps : sps.isNone = false := by
    simp only [sps]
    split
    · rfl
    · simpa using hactive
  have hdrop : drop = false := by
    simp only [drop, hsps, g, hskip]
    rfl
  have hqueue : g'.queue = g.queue ++ [au'] := if_neg (by rw [hdrop]; decide)
  have haus : g'.aus = g.aus := (congrArg SessS.aus hrow :)
  have hdone : g'.doneTs = g.doneTs := (congrArg SessS.doneTs hrow :)
  have hframe : ((s₁.cut n au'.ts c).relayUnit n au').sansRelayed = (s₁.cut n au'.ts c).sansRelayed := State.relayUnit_sansRelayed _ _ _
  have hses : ((s₁.cut n au'.ts c).relayUnit n au').ses n = g' :=
    ((congrArg (fun s : State => s.ses n) hframe :)).trans (s.ses_setSes_same n g')
  have hod : ((s₁.cut n au'.ts c).relayUnit n au').od = s.od := (congrArg State.od hframe :)
  have hsegs : ((s₁.cut n au'.ts c).relayUnit n au').segs = (s₁.cut n au'.ts c).segs := (congrArg State.segs hframe :)
  rw [if_neg (by rw [hdrop]; decide)]
  exact ⟨_, au', rfl, by rw [hses, hqueue], by rw [hses, haus], by rw [hses, hdone], rfl, hlength, hod, by rw [hsegs, State.cut_segs]; rfl⟩

/-! ### The release of an access unit (R127, R132) -/

/-- An access unit that leaves its session's queue is done, and its missing sequence numbers count as lost. -/
theorem State.takeAu_takes (s : State) (n : Nat) (a : AuS) (rest : List AuS) (lost : Nat) :
    ((s.takeAu n a rest lost).ses n).received = (rest, some a.ts, (s.ses n).queue, (s.ses n).active, (s.ses n).skipRasl) ∧
    ((s.takeAu n a rest lost).ses n).alive = (s.ses n).alive ∧ s.counted (s.takeAu n a rest lost) (sIdx n) 0x25 lost ∧
    s.takeAu n a rest lost =
      { s with od := (s.takeAu n a rest lost).od, log := (s.takeAu n a rest lost).log, sess := (s.takeAu n a rest lost).sess } := by
  unfold State.takeAu
  extract_lets g s₁
  have hcounts := s₁.bump_sansCounts (ethKey (s₁.rn (sIdx n) 0x05)) (sIdx n) 0x25 lost
  have hcounted : s.counted (s₁.bump (ethKey (s₁.rn (sIdx n) 0x05)) (sIdx n) 0x25 lost) (sIdx n) 0x25 lost := s₁.counted_bump _ _ _ _
  generalize s₁.bump _ _ _ _ = b at hcounts hcounted
  have hses : b.ses n = { g with aus := rest, doneSeq := some (((sortPkts a.pkts).getLast?.map (·.1)).getD 0), doneTs := some a.ts } :=
    ((congrArg (fun s : State => s.ses n) hcounts :)).trans (s.ses_setSes_same n _)
  refine ⟨by rw [hses]; rfl, by rw [hses], hcounted, ?_⟩
  exact congrArg (fun x : State => { x with od := b.od, log := b.log, sess := b.sess }) hcounts

/-- Taking an access unit leaves every number alone but those of packets and of events lost. -/
theorem State.rn_takeAu (s : State) (n : Nat) (a : AuS) (rest : List AuS) (lost i : Nat) {sub : Nat} (h : sub ≠ 0x25 ∧ sub ≠ 0x05)
    (hsub : sub < 256) : (s.takeAu n a rest lost).rn i sub = s.rn i sub := by
  unfold State.takeAu
  dsimp only
  rw [State.rn_bump_sub _ _ _ _ _ h (by decide) hsub, State.rn_setSes]

theorem SessS.received_startSeq (g : SessS) (b : Bool) : { g with startSeq := b }.received = g.received := rfl

/-- NAL units that say nothing make no picture. -/
theorem State.useAu_other (s : State) (n ts : Nat) {nals : List Nal} (hother : ∀ x ∈ nals, x.body = .other) :
    ∃ b, s.useAu n ts nals = s.setSes n { s.ses n with startSeq := b } := by
  have hkept : ∀ x ∈ nals.filter (fun x => x.layer = 0), x.body = .other := fun x hx => hother x (List.mem_filter.1 hx).1
  unfold State.useAu
  generalize nals.filter (fun x => x.layer = 0) = kept at hkept
  extract_lets kept' g row
  have hg : g = (s.ses n, [], none) := SessS.takeNals_other _ hkept
  have hrow : row = s.ses n := congrArg Prod.fst hg
  rw [if_neg, if_pos (by rw [hg]; rfl), hrow]
  · exact ⟨_, rfl⟩
  · rw [Bool.and_eq_true]
    rintro ⟨hset, -⟩
    obtain ⟨x, hx, h⟩ := List.any_eq_true.1 hset
    rw [hkept x hx] at h
    exact absurd h Bool.false_ne_true

/-- An access unit of slice segments without a label is checked as one, counted, and handed to decode. -/
theorem State.useAu_slices (s : State) (n ts : Nat) {nals : List Nal} (hvcl : ∀ x ∈ nals, x.layer = 0 ∧ ∃ y, x.body = .vcl y)
    (hne : nals ≠ []) (hlabels : rawLabels nals = []) : s.useAu n ts nals =
      ((s.unlabelled n ts).1.bump (ethKey ((s.unlabelled n ts).1.rn (sIdx n) 0x05)) (sIdx n) 0x2C).toDecode n
        (s.unlabelled n ts).2 nals := by
  have hkept : nals.filter (fun x => x.layer = 0) = nals := List.filter_eq_self.2 fun x hx => by simp [(hvcl x hx).1]
  have hlength := ((s.ses n).takeNals_slices fun x hx => (hvcl x hx).2).2
  have hslices : ((s.ses n).takeNals nals).2.1.isEmpty = false := by
    rw [List.isEmpty_eq_false_iff_exists_mem]
    exact List.exists_mem_of_length_pos (hlength ▸ List.length_pos_iff.2 hne)
  unfold State.useAu
  rw [hkept]
  extract_lets kept g row rows r
  have hr : r = s.unlabelled n ts := by
    simp only [r, kept, hlabels]
  rw [if_neg, if_neg (by rw [hslices]; decide), hr]
  rw [Bool.and_eq_true]
  rintro ⟨hset, -⟩
  obtain ⟨x, hx, h⟩ := List.any_eq_true.1 hset
  obtain ⟨-, y, hy⟩ := hvcl x hx
  rw [hy] at h
  exact absurd h Bool.false_ne_true

/-- A picture without a label of a session without an alive value is queued to decode, cut into its segments. -/
theorem State.useAu_picture {b : State} {n ts : Nat} {nals : List Nal} (hn : n < 160) (hlabels : rawLabels nals = [])
    (halive : (b.ses n).alive = none) (hactive : (b.ses n).active.isSome = true) (hskip : (b.ses n).skipRasl = false)
    (hvcl : ∀ x ∈ nals, x.layer = 0 ∧ ∃ y, x.body = .vcl y) (hne : nals ≠ []) : ∃ s' i, b.useAu n ts nals = s' ∧
      (s'.ses n).queue = (b.ses n).queue ++ [i] ∧ (s'.ses n).aus = (b.ses n).aus ∧ (s'.ses n).doneTs = (b.ses n).doneTs ∧
      i.ts = ts ∧ i.coded.slices.length = nals.length ∧ b.counted s' (sIdx n) 0x2C 1 ∧
      s'.segs.length = b.segs.length + (i.coded.shares (b.rn 0x3400 0x04) (decide (b.rn (sIdx n) 0x16 = 1))).length := by
  have hidx : sIdx n < 0x4000 := by simp only [sIdx]; omega
  rw [State.useAu_slices b n ts hvcl hne hlabels]
  obtain ⟨hchecked, hts⟩ := b.checked_unlabelled ts halive
  generalize b.unlabelled n ts = r at hchecked hts
  have hlow : ∀ i sub, i < 0x4000 → sub ≠ 0x05 → sub < 256 → r.1.rn i sub = b.rn i sub := fun i sub hi hsub hlt =>
    State.rn_of_low hchecked.values hi hlt (by simp only [key]; omega) (by simp only [key]; omega)
  have hcounts := r.1.bump_sansCounts (ethKey (r.1.rn (sIdx n) 0x05)) (sIdx n) 0x2C 1
  have hcounted := r.1.counted_bump (ethKey (r.1.rn (sIdx n) 0x05)) (sIdx n) 0x2C 1
  have hbumped : ∀ i sub, i < 0x4000 → sub ≠ 0x2C ∧ sub ≠ 0x05 → sub < 256 →
      (r.1.bump (ethKey (r.1.rn (sIdx n) 0x05)) (sIdx n) 0x2C).rn i sub = b.rn i sub := fun i sub hi hsub hlt =>
    (State.rn_bump_sub _ _ _ _ _ hsub (by decide) hlt).trans (hlow i sub hi hsub.2 hlt)
  generalize r.1.bump _ _ _ _ = c at hcounts hcounted hbumped
  have hrow : (c.ses n).received = (b.ses n).received := by
    rw [State.ses_of_sansCounts hcounts n]
    exact hchecked.row
  simp only [SessS.received, Prod.mk.injEq] at hrow
  obtain ⟨haus, hdone, hqueue, hactive', hskip'⟩ := hrow
  have hwaiting : c.segs = b.segs := (State.segs_of_sansCounts hcounts).trans hchecked.segs
  obtain ⟨s', i, hs', hqueue', haus', hdone', hi, hslices, hod, hlength⟩ := State.toDecode_queues (au := r.2) (nals := nals)
    (fun x hx => (hvcl x hx).2) (hactive' ▸ hactive) (hskip'.trans hskip)
  rw [hbumped 0x3400 0x04 (by decide) (by decide) (by decide), hbumped (sIdx n) 0x16 hidx (by decide) (by decide), hwaiting] at hlength
  refine ⟨s', i, hs', by rw [hqueue', hqueue], by rw [haus', haus], by rw [hdone', hdone], hi.trans hts, hslices, ?_, hlength⟩
  exact hcounted.congr (hlow (sIdx n) 0x2C hidx (by decide) (by decide)).symm (State.rn_of_look (by rw [hod]))

/-- The first sequence number of the access unit after one that leaves. -/
def nextSeq (rest : List AuS) : Option Nat := rest.head?.bind (fun b => (sortPkts b.pkts).head?.map (·.1))

section Release
variable {u : State} {n : Nat} {a : AuS} {rest : List AuS} (haus : (u.ses n).aus = a :: rest)
include haus

theorem State.releaseAu_waits (hwaits : a.ready (u.ses n).doneSeq (nextSeq rest) = false) :
    u.releaseAu n = u := by
  unfold State.releaseAu
  rw [haus]
  exact if_pos (congrArg (!·) hwaits)

/-- An access unit that is ready is taken and used. -/
theorem State.releaseAu_ready (hready : a.ready (u.ses n).doneSeq (nextSeq rest) = true) :
    u.releaseAu n = (u.takeAu n a rest (seqsMissing (u.ses n).doneSeq (sortPkts a.pkts))).useAu n a.ts
      (reassemble (decide (u.kind n = 1)) (sortPkts a.pkts) none) := by
  unfold State.releaseAu
  rw [haus]
  exact if_neg (ne_true_of_eq_false (congrArg (!·) hready))

/-- An access unit without a picture leaves its session's queue. -/
theorem State.releaseAu_other (hready : a.ready (u.ses n).doneSeq (nextSeq rest) = true)
    (hother : ∀ x ∈ reassemble (decide (u.kind n = 1)) (sortPkts a.pkts) none, x.body = .other) :
    ∃ s', u.releaseAu n = s' ∧ (s'.ses n).aus = rest ∧ (s'.ses n).doneTs = some a.ts ∧ (s'.ses n).queue = (u.ses n).queue ∧
      u.counted s' (sIdx n) 0x25 (seqsMissing (u.ses n).doneSeq (sortPkts a.pkts)) ∧
      s' = { u with od := s'.od, log := s'.log, sess := s'.sess } := by
  rw [State.releaseAu_ready haus hready]
  generalize seqsMissing _ _ = lost
  obtain ⟨hrow, -, hcounted, hframe⟩ := u.takeAu_takes n a rest lost
  generalize u.takeAu n a rest _ = b at hrow hcounted hframe
  obtain ⟨start, hused⟩ := b.useAu_other n a.ts hother
  have hrow' : ((b.setSes n { b.ses n with startSeq := start }).ses n).received =
      (rest, some a.ts, (u.ses n).queue, (u.ses n).active, (u.ses n).skipRasl) := by
    rw [State.ses_setSes_same, SessS.received_startSeq, hrow]
  have hframe' : b.setSes n { b.ses n with startSeq := start } = { u with
      od := (b.setSes n { b.ses n with startSeq := start }).od, log := (b.setSes n { b.ses n with startSeq := start }).log
      sess := (b.setSes n { b.ses n with startSeq := start }).sess } :=
    congrArg (fun x : State => { x with sess := (b.setSes n { b.ses n with startSeq := start }).sess }) hframe
  have hcounted' : u.counted (b.setSes n { b.ses n with startSeq := start }) (sIdx n) 0x25 lost :=
    hcounted.congr rfl (State.rn_setSes _ _ _ _ _)
  rw [hused]
  generalize b.setSes n _ = c at hrow' hframe' hcounted'
  simp only [SessS.received, Prod.mk.injEq] at hrow'
  obtain ⟨haus', hdone, hqueue, -⟩ := hrow'
  exact ⟨c, rfl, haus', hdone, hqueue, hcounted', hframe'⟩

/-- Such a picture's access unit leaves its session's queue for decode. -/
theorem State.releaseAu_picture (hready : a.ready (u.ses n).doneSeq (nextSeq rest) = true)
    (hn : n < 160) {nals : List Nal} (hnals : nals = reassemble (decide (u.kind n = 1)) (sortPkts a.pkts) none)
    (hlabels : rawLabels nals = []) (halive : (u.ses n).alive = none) (hactive : (u.ses n).active.isSome = true)
    (hskip : (u.ses n).skipRasl = false) (hvcl : ∀ x ∈ nals, x.layer = 0 ∧ ∃ y, x.body = .vcl y) (hne : nals ≠ []) :
    ∃ s' i, u.releaseAu n = s' ∧ (s'.ses n).queue = (u.ses n).queue ++ [i] ∧ (s'.ses n).aus = rest ∧ (s'.ses n).doneTs = some a.ts ∧
      i.ts = a.ts ∧ i.coded.slices.length = nals.length ∧ u.counted s' (sIdx n) 0x2C 1 ∧
      s'.segs.length = u.segs.length + (i.coded.shares (u.rn 0x3400 0x04) (decide (u.rn (sIdx n) 0x16 = 1))).length := by
  rw [State.releaseAu_ready haus hready, ← hnals]
  generalize seqsMissing _ _ = lost
  obtain ⟨hrow, hfirst, -, hframe⟩ := u.takeAu_takes n a rest lost
  have htaken : ∀ i {sub}, sub ≠ 0x25 ∧ sub ≠ 0x05 → sub < 256 → (u.takeAu n a rest lost).rn i sub = u.rn i sub :=
    fun i _ => u.rn_takeAu n a rest lost i
  have hsegs : (u.takeAu n a rest lost).segs = u.segs := (congrArg State.segs hframe :)
  generalize u.takeAu n a rest lost = b at hrow hfirst htaken hsegs
  simp only [SessS.received, Prod.mk.injEq] at hrow
  obtain ⟨haus', hdone, hqueue, hactive', hskip'⟩ := hrow
  obtain ⟨s', i, hs', hqueue', haus'', hdone', hi, hslices, hcounted, hlength⟩ := State.useAu_picture (ts := a.ts) hn hlabels
    (hfirst.trans halive) (hactive' ▸ hactive) (hskip'.trans hskip) hvcl hne
  rw [htaken 0x3400 (by decide) (by decide), htaken (sIdx n) (by decide) (by decide), hsegs] at hlength
  exact ⟨s', i, hs', by rw [hqueue', hqueue], by rw [haus'', haus'], by rw [hdone', hdone], hi, hslices,
    hcounted.congr (htaken (sIdx n) (by decide) (by decide)).symm rfl, hlength⟩

end Release

/-! ### The reorder window (R127) -/

theorem State.reorderExpiry_ends (u : State) (n : Nat) : ∃ s', u.reorderExpiry n = s' ∧
    (s'.ses n).aus = (u.ses n).aus.map (fun a =>
      if a.lastMac + u.rn (sIdx n) 0x1A * usTicks ≤ u.clock then { a with ended := true, expired := true } else a) ∧
    (∀ m, m ≠ n → s'.ses m = u.ses m) ∧ s' = { u with sess := s'.sess } := by
  refine ⟨_, rfl, ?_, fun m hm => State.ses_setSes_other _ _ hm, rfl⟩
  unfold State.reorderExpiry
  rw [State.ses_setSes_same]

/-! ### Packets in a session (R125 to R128) -/

/-- The next packet in order of a session that runs is accepted. -/
theorem State.rtpPacket_next {u : State} {n : Nat} {pkt : RtpPkt} {h : Nat} (hhears : u.hearsRtp n) (hrun : u.sst n = sessRunning)
    (hversion : pkt.version = 2) (hpt : pkt.pt = u.rn (sIdx n) 0x0C) (hroom : pkt.ringFull = false)
    (hmode : isMode2 (decide (u.kind n = 1)) pkt.body.ptype = false) (hpayload : payloadOk (decide (u.kind n = 1)) pkt.body.ptype = true)
    (hssrc : (u.ses n).ssrc = some pkt.ssrc) (hfixed : bit (u.rn (sIdx n) 0x0B) 3 = true → pkt.ssrc = u.rn (sIdx n) 0x0D)
    (hext : (u.ses n).ext = some h) (hrestart : (u.ses n).restart ≠ some pkt.seq) (hseq : pkt.seq = (h + 1) % 2 ^ 16)
    (hnew : (h + 1) % 2 ^ 32 ∉ (u.ses n).seen) (hdone : ∀ d, (u.ses n).doneTs = some d → serialAfter 32 pkt.ts d = true) :
    ∃ s', u.rtpPacket n pkt = s' ∧ (s'.ses n).ext = some ((h + 1) % 2 ^ 32) ∧ (s'.ses n).recv = (u.ses n).recv + 1 ∧
      (s'.ses n).last = pkt.mac ∧ (s'.ses n).aus = addPacket (u.ses n).aus ((h + 1) % 2 ^ 32) pkt ∧ u.counted s' (sIdx n) 0x24 1 ∧
      s'.rn (sIdx n) 0x2B = (h + 1) % 2 ^ 32 ∧ (∀ m, m ≠ n → s'.ses m = u.ses m) ∧
      s' = { u with od := s'.od, log := s'.log, sess := s'.sess } := by
  rw [State.rtpPacket_declared hhears hversion hpt hroom hmode hpayload hssrc hfixed,
    State.rtpSeq_next hssrc hext hrestart hseq hnew hdone, State.rtpTake_running (u := u.setSes n _) _ hrun]
  have hrow := u.ses_setSes_same n { u.ses n with restart := none }
  have hother : ∀ m, m ≠ n → (u.setSes n { u.ses n with restart := none }).ses m = u.ses m := fun m hm => State.ses_setSes_other _ _ hm
  have hrecv : ((u.setSes n { u.ses n with restart := none }).ses n).recv = (u.ses n).recv := (congrArg SessS.recv hrow :)
  have haus : ((u.setSes n { u.ses n with restart := none }).ses n).aus = (u.ses n).aus := (congrArg SessS.aus hrow :)
  have hext' : ((u.setSes n { u.ses n with restart := none }).ses n).ext = some h := (congrArg SessS.ext hrow :).trans hext
  obtain ⟨s', hs', hext'', hrecv', hlast, haus', hcounted, htop, hother', hframe⟩ := State.rtpAccept_next (pkt := pkt) hext'
  refine ⟨s', hs', hext'', hrecv'.trans (congrArg (· + 1) hrecv), hlast, haus'.trans (congrArg (addPacket · _ pkt) haus),
    hcounted.congr (State.rn_setSes _ _ _ _ _).symm rfl, htop, fun m hm => (hother' m hm).trans (hother m hm), hframe⟩

/-! ### Reports (R131, R141) -/

section Reports
variable {u : State} {n : Nat}

/-- A session that hears reads an RTCP packet's items. -/
theorem State.rtcpPacket_heard (hhears : u.hearsRtp n) (mac : Nat) (i : RtcpItem) : u.rtcpPacket n mac [i] = u.rtcpItem n mac i := by
  obtain ⟨hadmitted, hkind, hport, hdest⟩ := hhears
  exact if_pos (by simp [hadmitted, hkind, hport, hdest])

/-- A sender report of the session's SSRC fixes the mapping. -/
theorem State.senderReport_maps (mac : Nat) {ssrc : Nat} (sec frac ts : Nat) (hssrc : (u.ses n).ssrc = some ssrc) :
    ∃ s', u.senderReport n mac ssrc sec frac ts = s' ∧ (s'.ses n).sr = some (u.ntpToPtp n sec frac, ts, mac) ∧ (s'.ses n).mapOk = true ∧
      (∀ m, m ≠ n → s'.ses m = u.ses m) ∧ s' = { u with od := s'.od, log := s'.log, sess := s'.sess } := by
  refine ⟨_, rfl, ?_⟩
  unfold State.senderReport
  extract_lets g t jump s₁
  rw [if_neg (not_not_intro hssrc)]
  generalize hb : (if jump = true then _ else _ : State) = b
  have hcounts : b.sansCounts = s₁.sansCounts := by
    rw [← hb]
    split
    · rw [State.raise_sansCounts, State.bump_sansCounts]
    · rfl
  have hrow : b.ses n = _ := (State.ses_of_sansCounts hcounts n).trans (u.ses_setSes_same n _)
  refine ⟨congrArg SessS.sr hrow, congrArg SessS.mapOk hrow,
    fun m hm => (State.ses_of_sansCounts hcounts m).trans (State.ses_setSes_other _ _ hm), ?_⟩
  exact congrArg (fun x : State => { x with od := b.od, log := b.log, sess := b.sess }) hcounts

/-- A state entered: its code, and when. -/
theorem State.enterSess_enters (s : State) (n st reason : Nat) : (s.enterSess n st reason).sst n = st ∧
    ((s.enterSess n st reason).ses n).since = s.clock ∧ s.odSame (s.enterSess n st reason) [key (sIdx n) 0x02, key (sIdx n) 0x03] ∧
    s.enterSess n st reason = { s with od := (s.enterSess n st reason).od, sess := (s.enterSess n st reason).sess } := by
  unfold State.enterSess
  extract_lets s₁
  refine ⟨?_, congrArg SessS.since (s₁.ses_setSes_same n _), fun k hk => ?_, rfl⟩
  · exact (State.rn_wn_sub _ _ _ _ (by decide) (by decide) (by decide)).trans (State.rn_wn_same _ _ _ _)
  · simp only [List.mem_cons, List.not_mem_nil, or_false, not_or] at hk
    exact (State.look_wn_other _ _ hk.2).trans (State.look_wn_other _ _ hk.1)

/-- A BYE of the session's SSRC starves a session that runs. -/
theorem State.rtcpItem_bye (mac : Nat) {ssrc : Nat} (hssrc : (u.ses n).ssrc = some ssrc) (hrun : u.sst n = sessRunning) :
    ∃ s', u.rtcpItem n mac (.bye ssrc) = s' ∧ s'.sst n = sessStarved ∧ (s'.ses n).since = u.clock ∧
      u.odSame s' [key (sIdx n) 0x02, key (sIdx n) 0x03] ∧ s' = { u with od := s'.od, sess := s'.sess } := by
  have hbye : u.rtcpItem n mac (.bye ssrc) = (u.setSes n { u.ses n with was := 0 }).enterSess n sessStarved 0 :=
    if_pos (by simp [hssrc, hrun])
  obtain ⟨hst, hsince, hod, hframe⟩ := (u.setSes n { u.ses n with was := 0 }).enterSess_enters n sessStarved 0
  exact ⟨_, hbye, hst, hsince, hod, hframe⟩

/-- A receiver report of a session that has received leaves every 5 s. -/
theorem State.rrSend_reports {ssrc h : Nat} (hadmitted : u.admitted n = true) (hkind : u.kind n ≤ 1)
    (hflag : bit (u.rn (sIdx n) 0x0B) 2 = true) (hssrc : (u.ses n).ssrc = some ssrc) (hext : (u.ses n).ext = some h)
    (hdue : (u.ses n).rrAt + 5 * sTicks ≤ u.clock) (hrun : u.power.phase = .running) (hfree : u.rn 0x6800 0x09 ≠ 3) {delay : Nat}
    (hdelay : delay = (match (u.ses n).sr with | some r => (u.clock - r.2.2) * 65536 / sTicks | none => 0)) :
    ∃ s' frac, u.rrSend n = s' ∧
      s'.out = .rtcpRr n (u.rn (sIdx n) 0x1F) [ssrc, frac, serialDiff 32 h (u.ses n).base + 1 - (u.ses n).recv, h, (u.ses n).jitter / 16,
        (u.ses n).lastSr, delay] :: u.out ∧ frac < 257 ∧
      (s'.ses n).expPrior = serialDiff 32 h (u.ses n).base + 1 ∧ (s'.ses n).recvPrior = (u.ses n).recv ∧ (s'.ses n).rrAt = u.clock ∧
      s' = { u with sess := s'.sess, out := s'.out } := by
  unfold State.rrSend
  extract_lets g own ri delay'
  rw [if_pos (by simp [hadmitted, hkind, hflag, hdue, g])]
  split
  · next ssrc' h' hssrc' hext' =>
    obtain rfl : ssrc = ssrc' := Option.some.inj (hssrc.symm.trans hssrc')
    obtain rfl : h = h' := Option.some.inj (hext.symm.trans hext')
    extract_lets expected lost ei frac
    have hfrac : frac < 257 := by
      simp only [frac]
      split_ifs with hnone
      · decide
      · simp only [Bool.or_eq_true, decide_eq_true_eq, not_or] at hnone
        exact Nat.div_lt_of_lt_mul (by omega)
    have hdelay' : delay' = delay := hdelay.symm
    have hrow := u.ses_setSes_same n { g with expPrior := expected, recvPrior := g.recv, rrAt := u.clock }
    refine ⟨_, frac, State.say_of_running hrun (.inr hfree), ?_, hfrac, (congrArg SessS.expPrior hrow :),
      (congrArg SessS.recvPrior hrow :), (congrArg SessS.rrAt hrow :), rfl⟩
    rw [hdelay']
    rfl
  · next hnone => exact absurd hext (hnone ssrc h hssrc)

end Reports

/-- Settles O25: each clause is what one operation does to a session's row, its counters and the segments that wait. -/
theorem receptionOfSessions : Obligations.ReceptionOfSessions := by
  unfold Obligations.ReceptionOfSessions
  intro s t n hn u g hears h264
  refine ⟨?_, ?_, ?_, ?_, ?_, ?_, ?_⟩
  · intro pkt hhears hbad
    have hdropped := (State.rtpPacket_discarded hhears hbad)
    exact ⟨u.rtpDrop n 0x29, congrArg Host.Outcome.next hdropped, u.rtpDrop_counted n 0x29,
      State.eq_of_sansCounts (u.rtpDrop_sansCounts n 0x29)⟩
  · intro pkt h hhears hrun hversion hpt hroom hmode hpayload hssrc hfixed hext hrestart hseq hnew hdone
    obtain ⟨s', hs', hrest⟩ := State.rtpPacket_next hhears hrun hversion hpt hroom hmode hpayload hssrc hfixed hext hrestart hseq hnew hdone
    exact ⟨s', congrArg Host.Outcome.next hs', hrest⟩
  · obtain ⟨s', hs', hrest⟩ := u.reorderExpiry_ends n
    exact ⟨s', congrArg Host.Outcome.next hs', hrest⟩
  · rintro a rest next nals haus rfl rfl
    refine ⟨fun hwaits => congrArg Host.Outcome.next (State.releaseAu_waits haus hwaits), fun hready hother => ?_,
      fun hready hlabels halive hactive hskip hvcl hne => ?_⟩
    · obtain ⟨s', hs', hrest⟩ := State.releaseAu_other haus hready hother
      exact ⟨s', congrArg Host.Outcome.next hs', hrest⟩
    · obtain ⟨s', i, hs', hrest⟩ := State.releaseAu_picture haus hready hn rfl hlabels halive hactive hskip hvcl hne
      exact ⟨s', i, congrArg Host.Outcome.next hs', hrest⟩
  · intro mac ssrc sec frac ts hhears hssrc
    obtain ⟨s', hs', hrest⟩ := State.senderReport_maps mac sec frac ts hssrc
    exact ⟨s', congrArg Host.Outcome.next ((State.rtcpPacket_heard hhears mac _).trans hs'), hrest⟩
  · intro mac ssrc hhears hssrc hrun
    obtain ⟨s', hs', hrest⟩ := State.rtcpItem_bye mac hssrc hrun
    exact ⟨s', congrArg Host.Outcome.next ((State.rtcpPacket_heard hhears mac _).trans hs'), hrest⟩
  · intro ssrc h delay hadmitted hkind hflag hssrc hext hdue hrun hfree hdelay
    obtain ⟨s', frac, hs', hrest⟩ := State.rrSend_reports hadmitted hkind hflag hssrc hext hdue hrun hfree hdelay
    exact ⟨s', frac, congrArg Host.Outcome.next hs', hrest⟩

end Sys2Proof.Machine
end
section
/-! SUPPORT. What every step keeps: the queue, the clock, what is programmed once, and a time value that a TIME96 can carry (R160, R164,
R590, R591). Said once for each operation that leaves them alone, then for those few that do not, then for every command. -/

namespace Sys2Proof.Machine

/-! ### The part of the state that few operations change -/

/-- The queue, the clock, what is programmed once, and what a TIME96 bounds of the time value: only the passing of time, a load of the
time base, a restart and a key's revocation change any of it. -/
structure Fixed where
  pending : List Instr
  clock : Nat
  otp : Otp
  ns : Nat
  frac : Nat

/-- That part of a state. -/
def State.fixed (s : State) : Fixed := ⟨s.pending, s.clock, s.otp, s.time.ns, s.time.frac⟩

/-- A change of any other field leaves it alone. Proved by `(rfl)`, so that simp rewrites by the equation where a premise asks for it. -/
@[simp] theorem State.fixed_mk (s : State)
    {free od force log ptp trigs caps units declared lvsTest lvsTestAt link procs primary power loaded checks tally conds cans
    tpdos zdp partReads partWrites sess ports mcast cores segs active unpatched places layers screens commits receipts queued gfx
    ctxs zttQ engines engLast encs touch rings pcie lanes spay mem sys flash upd out} :
    State.fixed { s with
      free := free, od := od, force := force, log := log, ptp := ptp, trigs := trigs, caps := caps, units := units, declared :=
      declared, lvsTest := lvsTest, lvsTestAt := lvsTestAt, link := link, procs := procs, primary := primary, power := power,
      loaded := loaded, checks := checks, tally := tally, conds := conds, cans := cans, tpdos := tpdos, zdp := zdp, partReads :=
      partReads, partWrites := partWrites, sess := sess, ports := ports, mcast := mcast, cores := cores, segs := segs, active :=
      active, unpatched := unpatched, places := places, layers := layers, screens := screens, commits := commits, receipts :=
      receipts, queued := queued, gfx := gfx, ctxs := ctxs, zttQ := zttQ, engines := engines, engLast := engLast, encs := encs,
      touch := touch, rings := rings, pcie := pcie, lanes := lanes, spay := spay, mem := mem, sys := sys, flash := flash, upd :=
      upd, out := out } = s.fixed := (rfl)

/-- So does a change of the time base's other fields. -/
@[simp] theorem State.fixed_mk_time (s : State)
    {free od force log ptp trigs caps units declared lvsTest lvsTestAt link procs primary power loaded checks tally conds cans
    tpdos zdp partReads partWrites sess ports mcast cores segs active unpatched places layers screens commits receipts queued gfx
    ctxs zttQ engines engLast encs touch rings pcie lanes spay mem sys flash upd out t}
    (hns : t.ns = s.time.ns) (hfrac : t.frac = s.time.frac) :
    State.fixed { s with
      free := free, od := od, force := force, log := log, ptp := ptp, trigs := trigs, caps := caps, units := units, declared :=
      declared, lvsTest := lvsTest, lvsTestAt := lvsTestAt, link := link, procs := procs, primary := primary, power := power,
      loaded := loaded, checks := checks, tally := tally, conds := conds, cans := cans, tpdos := tpdos, zdp := zdp, partReads :=
      partReads, partWrites := partWrites, sess := sess, ports := ports, mcast := mcast, cores := cores, segs := segs, active :=
      active, unpatched := unpatched, places := places, layers := layers, screens := screens, commits := commits, receipts :=
      receipts, queued := queued, gfx := gfx, ctxs := ctxs, zttQ := zttQ, engines := engines, engLast := engLast, encs := encs,
      touch := touch, rings := rings, pcie := pcie, lanes := lanes, spay := spay, mem := mem, sys := sys, flash := flash, upd :=
      upd, out := out,
      time := t } = s.fixed := by
  simp only [State.fixed, hns, hfrac]

theorem State.fixed_ext {a b : State} (hpending : a.pending = b.pending) (hclock : a.clock = b.clock) (hotp : a.otp = b.otp)
    (hns : a.time.ns = b.time.ns) (hfrac : a.time.frac = b.time.frac) : a.fixed = b.fixed := by
  simp only [State.fixed, hpending, hclock, hotp, hns, hfrac]

@[simp] theorem State.fixed_ite (c : Prop) [Decidable c] (a b : State) :
    (if c then a else b).fixed = if c then a.fixed else b.fixed := apply_ite State.fixed c a b

@[simp] theorem State.fixed_ite_fst {β : Type} (c : Prop) [Decidable c] (a b : State × β) :
    (if c then a else b).1.fixed = if c then a.1.fixed else b.1.fixed := apply_ite (fun p => p.1.fixed) c a b

theorem State.fixed_ite_eq {c : Prop} [Decidable c] {a b : State} {x : Fixed} (ha : a.fixed = x) (hb : b.fixed = x) :
    (if c then a else b).fixed = x := by
  rw [State.fixed_ite, ha, hb, ite_self]

@[simp] theorem foldl_fixed {α : Type} {f : State → α → State} (h : ∀ s a, (f s a).fixed = s.fixed) (l : List α) (s : State) :
    (l.foldl f s).fixed = s.fixed := foldl_leaves State.fixed f h s l

theorem getD_fixed {o : Option State} {s : State} (h : ∀ s' ∈ o, s'.fixed = s.fixed) : (o.getD s).fixed = s.fixed := by
  cases o with
  | none => rfl
  | some s' => exact h s' rfl

/-! ### What leaves it alone, in the order of the model -/

section Fixed
variable (s : State)

/-! #### Dictionary values, units, events and requests (R13, R16, R537 to R542) -/

@[simp] theorem State.wv_fixed (idx sub : Nat) (v : Val) : (s.wv idx sub v).fixed = s.fixed := by
  simp [State.wv]

@[simp] theorem State.wn_fixed (idx sub v : Nat) : (s.wn idx sub v).fixed = s.fixed := by
  simp [State.wn]

@[simp] theorem State.wi_fixed (idx sub : Nat) (v : Int) : (s.wi idx sub v).fixed = s.fixed := by
  simp [State.wi]

@[simp] theorem State.wb_fixed (idx sub : Nat) (b : List Byte) : (s.wb idx sub b).fixed = s.fixed := by
  simp [State.wb]

@[simp] theorem State.setForce_fixed (idx sub : Nat) (v : Val) : (s.setForce idx sub v).fixed = s.fixed := by
  simp [State.setForce]

@[simp] theorem State.say_fixed (o : Out) : (s.say o).fixed = s.fixed := by
  simp [State.say]

@[simp] theorem State.fresh_fixed : s.fresh.2.fixed = s.fixed := by
  simp [State.fresh]

@[simp] theorem State.setUnit_fixed (k : Nat) (u : UnitS) : (s.setUnit k u).fixed = s.fixed := by
  simp [State.setUnit]

@[simp] theorem State.queueEv_fixed (k : Nat) (e : Ev) : (s.queueEv k e).fixed = s.fixed := by
  simp [State.queueEv]

@[simp] theorem State.dropEv_fixed (k : Nat) : (s.dropEv k).fixed = s.fixed := by
  simp [State.dropEv]

@[simp] theorem State.enqueue_fixed (k : Nat) (e : Ev) : (s.enqueue k e).fixed = s.fixed := by
  simp [State.enqueue]

@[simp] theorem State.raise_fixed (k ty sev : Nat) (pay : List (Nat × Nat)) : (s.raise k ty sev pay).fixed = s.fixed := by
  simp [State.raise]

@[simp] theorem State.bump_fixed (k idx sub : Nat) (n : Nat) : (s.bump k idx sub n).fixed = s.fixed := by
  simp [State.bump]

@[simp] theorem State.wrap_fixed (n idx sub : Nat) : (s.wrap n idx sub).fixed = s.fixed := by
  simp [State.wrap]

@[simp] theorem State.readClear_fixed (idx sub : Nat) : (s.readClear idx sub).fixed = s.fixed := by
  simp [State.readClear]

@[simp] theorem State.endSlew_fixed : s.endSlew.fixed = s.fixed := by
  simp [State.endSlew]

@[simp] theorem State.respond_fixed (r : Req) (idx sub st : Nat) (v : List Byte) :
    (s.respond r idx sub st v).fixed = s.fixed := by
  unfold State.respond
  split <;> simp

@[simp] theorem State.abandonParts_fixed (r : Req) (idx sub : Nat) : (s.abandonParts r idx sub).fixed = s.fixed := by
  simp [State.abandonParts]

theorem State.write_fixed (r : Req) (idx sub : Nat) (data : List Byte) {eff : State → Val → State × Nat}
    (h : ∀ s v, (eff s v).1.fixed = s.fixed) : (s.write r idx sub data eff).1.fixed = s.fixed := by
  obtain ⟨c, -, hw⟩ | ⟨o, v, -, -, hw⟩ | ⟨o, v, -, -, hw⟩ := s.write_cases r idx sub data eff <;> simp [hw, h]

theorem State.request_fixed (r : Req) (idx sub : Nat) (data : List Byte) {eff : State → Val → State × Nat}
    (h : ∀ s v, (eff s v).1.fixed = s.fixed) : (s.request r idx sub data eff).fixed = s.fixed := by
  simp [State.request, State.write_fixed, h]

theorem State.readReq_fixed (r : Req) (idx sub : Nat) {eff : State → State × Nat × Val}
    (h : ∀ s, (eff s).1.fixed = s.fixed) : (s.readReq r idx sub eff).fixed = s.fixed := by
  unfold State.readReq
  split <;> simp [h]

/-! #### The event arbiter and EMCY conditions (R523, R537 to R544) -/

@[simp] theorem State.emcyPort_fixed (code seq c : Nat) : (s.emcyPort code seq c).fixed = s.fixed := by
  simp [State.emcyPort]

@[simp] theorem State.emcyAll_fixed (code seq : Nat) : (s.emcyAll code seq).fixed = s.fixed := by
  simp [State.emcyAll]

@[simp] theorem State.pushError_fixed (code : Nat) : (s.pushError code).fixed = s.fixed := by
  simp [State.pushError]

@[simp] theorem State.raiseCond_fixed (c : EmcyCond) (code k ty sev : Nat) (pay : List (Nat × Nat)) :
    (s.raiseCond c code k ty sev pay).fixed = s.fixed := by
  simp [State.raiseCond]

@[simp] theorem State.endCond_fixed (c : EmcyCond) : (s.endCond c).fixed = s.fixed := by
  simp [State.endCond]

@[simp] theorem State.logEv_fixed (e : Ev) : (s.logEv e).fixed = s.fixed := by
  simp [State.logEv]

@[simp] theorem State.arbitrate_fixed (k : Nat) : (s.arbitrate k).fixed = s.fixed := by
  unfold State.arbitrate
  split <;> simp

@[simp] theorem recordSelect_fixed (v : Val) : (recordSelect s v).1.fixed = s.fixed := by
  simp [recordSelect]

/-! #### Host rings and ZTT status (R384, R489 to R505) -/

@[simp] theorem State.setRing_fixed (q : Nat) (g : RingS) : (s.setRing q g).fixed = s.fixed := by
  simp [State.setRing]

@[simp] theorem State.sendVector_fixed (v : Nat) : (s.sendVector v).fixed = s.fixed := by
  simp [State.sendVector]

@[simp] theorem State.ringInt_fixed (q : Nat) : (s.ringInt q).fixed = s.fixed := by
  simp [State.ringInt]

@[simp] theorem State.funcEvent_fixed (i : Nat) : (s.funcEvent i).fixed = s.fixed := by
  simp [State.funcEvent]

@[simp] theorem State.setReady_fixed (b : Bool) : (s.setReady b).fixed = s.fixed := by
  simp [State.setReady]

@[simp] theorem State.writeBack_fixed (q : Nat) (w : WriteBack) : (s.writeBack q w).fixed = s.fixed := by
  simp [State.writeBack]

@[simp] theorem State.drainWb_fixed (q n : Nat) : (State.drainWb q n s).fixed = s.fixed := by
  induction n generalizing s with
  | zero => rfl
  | succ n ih =>
    unfold State.drainWb
    dsimp only
    split <;> simp [ih]

@[simp] theorem State.stopRing_fixed (q cause : Nat) : (s.stopRing q cause).fixed = s.fixed := by
  simp [State.stopRing]

theorem State.fetchDesc_fixed {q kind i : Nat} {s' : State} (h : s.fetchDesc q kind = some (i, s')) : s'.fixed = s.fixed := by
  unfold State.fetchDesc at h
  dsimp only at h
  split at h
  · cases h
    exact State.setRing_fixed ..
  · cases h

theorem State.deliver_fixed (q : Nat) (bytes : Desc → List Byte) (wb : Nat → Desc → WriteBack) {lost : State}
    (h : lost.fixed = s.fixed) : ((s.deliver q bytes wb).getD lost).fixed = s.fixed := by
  unfold State.deliver
  dsimp only
  split
  · exact h
  · split
    · simp
    · exact h

@[simp] theorem State.toHost_fixed (p : Nat) (data : List Byte) : (s.toHost p data).fixed = s.fixed := by
  unfold State.toHost
  dsimp only
  split
  · simp
  · exact s.deliver_fixed _ _ _ (by simp)

@[simp] theorem State.setGfx_fixed (n : Nat) (g : GfxS) : (s.setGfx n g).fixed = s.fixed := by
  simp [State.setGfx]

@[simp] theorem State.setCtx_fixed (n : Nat) (c : CtxS) : (s.setCtx n c).fixed = s.fixed := by
  simp [State.setCtx]

@[simp] theorem State.zttReply_fixed (m : ZttWait) (lease err : Nat) (final more : Bool) :
    (s.zttReply m lease err final more).fixed = s.fixed := by
  unfold State.zttReply
  split <;> simp

/-! #### The servo, PTP, trigger and capture units (R160 to R185) -/

@[simp] theorem State.setLayer_fixed (n : Nat) (l : LayerS) : (s.setLayer n l).fixed = s.fixed := by
  simp [State.setLayer]

@[simp] theorem State.stepLayers_fixed : s.stepLayers.fixed = s.fixed := by
  simp [State.stepLayers]

@[simp] theorem State.setU_fixed (u : Option Nat) : (s.setU u).fixed = s.fixed := by
  unfold State.setU
  split <;> simp

@[simp] theorem State.refreshU_fixed : s.refreshU.fixed = s.fixed := by
  simp [State.refreshU]

@[simp] theorem State.slew_fixed (o : Int) : (s.slew o).fixed = s.fixed := by
  simp [State.slew]

@[simp] theorem State.stepTriggers_fixed (die now : Nat) : (s.stepTriggers die now).fixed = s.fixed := by
  simp [State.stepTriggers]

@[simp] theorem State.stepCommits_fixed (now : Nat) : (s.stepCommits now).fixed = s.fixed := by
  simp [State.stepCommits]

@[simp] theorem State.shiftFrames_fixed (die : Nat) (o : Int) : (s.shiftFrames die o).fixed = s.fixed := by
  simp [State.shiftFrames]

@[simp] theorem State.armWaiting_fixed : s.armWaiting.fixed = s.fixed := by
  simp [State.armWaiting]

@[simp] theorem State.setServo_fixed (st : Nat) : (s.setServo st).fixed = s.fixed := by
  simp [State.setServo]

@[simp] theorem State.servoToFree_fixed : s.servoToFree.fixed = s.fixed := by
  simp [State.servoToFree]

@[simp] theorem State.servoLocalCheck_fixed : s.servoLocalCheck.fixed = s.fixed := by
  simp [State.servoLocalCheck]

@[simp] theorem State.servoFreed_fixed : s.servoFreed.fixed = s.fixed := by
  simp [State.servoFreed]

@[simp] theorem servoSource_fixed (v : Val) : (servoSource s v).1.fixed = s.fixed := by
  simp [servoSource]

@[simp] theorem State.servoBack_fixed : s.servoBack.fixed = s.fixed := by
  simp [State.servoBack]

@[simp] theorem State.servoLoss_fixed : s.servoLoss.fixed = s.fixed := by
  simp [State.servoLoss]

@[simp] theorem State.uTick_fixed : s.uTick.fixed = s.fixed := by
  unfold State.uTick
  dsimp only
  split <;> simp

@[simp] theorem State.dieCompare_fixed (drift : Int) : (s.dieCompare drift).fixed = s.fixed := by
  simp [State.dieCompare]

@[simp] theorem State.bmca_fixed : s.bmca.fixed = s.fixed := by
  simp [State.bmca]

@[simp] theorem State.ptpSend_fixed (p kind seq time : Nat) (corr : Int) (follow : Bool) (gm : List Nat) :
    (s.ptpSend p kind seq time corr follow gm).fixed = s.fixed := by
  simp [State.ptpSend]

@[simp] theorem State.ptpRequest_fixed (p : Nat) : (s.ptpRequest p).fixed = s.fixed := by
  simp [State.ptpRequest]

@[simp] theorem State.setPathDelay_fixed (p : Nat) (d : Int) : (s.setPathDelay p d).fixed = s.fixed := by
  simp [State.setPathDelay]

@[simp] theorem State.announceTimeout_fixed (p : Nat) : (s.announceTimeout p).fixed = s.fixed := by
  simp [State.announceTimeout]

@[simp] theorem State.masterSend_fixed (p : Nat) : (s.masterSend p).fixed = s.fixed := by
  simp [State.masterSend]

@[simp] theorem trigMode_fixed (u : Nat) (v : Val) : (trigMode u s v).1.fixed = s.fixed := by
  simp [trigMode]

@[simp] theorem trigConfig_fixed (u sub : Nat) (v : Val) : (trigConfig u sub s v).1.fixed = s.fixed := by
  simp [trigConfig]

@[simp] theorem capPin_fixed (c : Nat) (v : Val) : (capPin c s v).1.fixed = s.fixed := by
  simp [capPin]

@[simp] theorem State.setScreen_fixed (x : Nat) (c : ScreenS) : (s.setScreen x c).fixed = s.fixed := by
  simp [State.setScreen]

@[simp] theorem State.trigFrames_fixed (u : Nat) : (s.trigFrames u).fixed = s.fixed := by
  simp [State.trigFrames]

@[simp] theorem State.trigCommits_fixed (u : Nat) : (s.trigCommits u).fixed = s.fixed := by
  simp [State.trigCommits]

@[simp] theorem State.trigFire_fixed (u : Nat) : (s.trigFire u).fixed = s.fixed := by
  simp [State.trigFire]

@[simp] theorem State.pulseEnd_fixed (u : Nat) : (s.pulseEnd u).fixed = s.fixed := by
  simp [State.pulseEnd]

@[simp] theorem clearRead_fixed (idx sub : Nat) : (clearRead idx sub s).1.fixed = s.fixed := by
  simp [clearRead]

@[simp] theorem State.captureEdge_fixed (c : Nat) (rising : Bool) : (s.captureEdge c rising).fixed = s.fixed := by
  simp [State.captureEdge]

@[simp] theorem capRead_fixed (c : Nat) : (capRead c s).1.fixed = s.fixed := by
  unfold capRead
  dsimp only
  split <;> simp

/-! #### Spaydun frames and routes (R465 to R473, R559, R560) -/

@[simp] theorem State.setSp_fixed (q : Nat) (g : SpayS) : (s.setSp q g).fixed = s.fixed := by
  simp [State.setSp]

@[simp] theorem State.setEnt_fixed (p : Nat) (e : EntS) : (s.setEnt p e).fixed = s.fixed := by
  simp [State.setEnt]

@[simp] theorem State.setLock_fixed (l : Nat) (b : Bool) : (s.setLock l b).fixed = s.fixed := by
  simp [State.setLock]

@[simp] theorem State.ready_fixed (q : Nat) (f : SpOut) : (s.ready q f).fixed = s.fixed := by
  simp [State.ready]

@[simp] theorem State.unicast_fixed (ftype opcode dst : Nat) (payload : List Byte) :
    (s.unicast ftype opcode dst payload).fixed = s.fixed := by
  unfold State.unicast
  split
  · rfl
  · split <;> simp

@[simp] theorem State.broadcast_fixed (ftype opcode : Nat) (payload : List Byte) :
    (s.broadcast ftype opcode payload).fixed = s.fixed := by
  simp [State.broadcast]

@[simp] theorem State.control_fixed (dst opcode : Nat) (body : List Byte) : (s.control dst opcode body).fixed = s.fixed := by
  simp [State.control]

@[simp] theorem State.emit_fixed (q : Nat) (f : SpOut) : (s.emit q f).fixed = s.fixed := by
  simp [State.emit]

@[simp] theorem State.ownPresence_fixed (q dst : Nat) : (s.ownPresence q dst).fixed = s.fixed := by
  simp [State.ownPresence]

@[simp] theorem State.acked_fixed (q : Nat) (f : SpFrame) : (s.acked q f).fixed = s.fixed := by
  simp [State.acked]

@[simp] theorem State.sequence_fixed (q : Nat) (f : SpFrame) : (s.sequence q f).1.fixed = s.fixed := by
  simp [State.sequence]

@[simp] theorem State.forwardOn_fixed (q : Nat) (f : SpFrame) : (s.forwardOn q f).fixed = s.fixed := by
  simp [State.forwardOn]

@[simp] theorem State.routed_fixed (q : Nat) (f : SpFrame) : (s.routed q f).1.fixed = s.fixed := by
  simp [State.routed]

@[simp] theorem State.receive_fixed (q : Nat) (f : SpFrame) : (s.receive q f).1.fixed = s.fixed := by
  simp [State.receive]

theorem State.onFrame_fixed (q : Nat) (f : SpFrame) (mine : Bool) {act : State → State} (h : ∀ s, (act s).fixed = s.fixed) :
    (s.onFrame q f mine act).fixed = s.fixed := by
  simp [State.onFrame, h]

/-! #### The coder (R375 to R386) -/

@[simp] theorem State.primeCtx_fixed (n : Nat) (await : Bool) : (s.primeCtx n await).fixed = s.fixed := by
  simp [State.primeCtx]

@[simp] theorem State.releaseCodes_fixed (c : Nat) : (s.releaseCodes c).fixed = s.fixed := by
  simp [State.releaseCodes]

@[simp] theorem State.compress_fixed (c : Nat) (input : List Byte) (mismatch : Bool) :
    (s.compress c input mismatch).fixed = s.fixed := by
  simp [State.compress]

@[simp] theorem State.compressResume_fixed (c space : Nat) : (s.compressResume c space).fixed = s.fixed := by
  simp [State.compressResume]

@[simp] theorem State.decompress_fixed (c : Nat) (input : List Byte) (space : Nat) :
    (s.decompress c input space).fixed = s.fixed := by
  simp [State.decompress]

/-! #### Admission, ports and networks (R118 to R138) -/

@[simp] theorem State.setSes_fixed (n : Nat) (x : SessS) : (s.setSes n x).fixed = s.fixed := by
  simp [State.setSes]

@[simp] theorem State.enterSess_fixed (n st reason : Nat) : (s.enterSess n st reason).fixed = s.fixed := by
  simp [State.enterSess]

@[simp] theorem State.putCharge_fixed (n : Nat) (c : Nat × Nat × Nat × Nat) : (s.putCharge n c).fixed = s.fixed := by
  simp [State.putCharge]

@[simp] theorem State.refreshAdmission_fixed : s.refreshAdmission.fixed = s.fixed := by
  simp [State.refreshAdmission]

@[simp] theorem State.report_fixed (e : McastS) : (s.report e).fixed = s.fixed := by
  simp [State.report]

@[simp] theorem State.join_fixed (n : Nat) : (s.join n).fixed = s.fixed := by
  unfold State.join
  dsimp only
  repeat' split
  all_goals simp

@[simp] theorem State.leave_fixed (n : Nat) : (s.leave n).fixed = s.fixed := by
  unfold State.leave
  split <;> simp

@[simp] theorem State.resetContinuity_fixed (n : Nat) : (s.resetContinuity n).fixed = s.fixed := by
  simp [State.resetContinuity]

@[simp] theorem State.openSurface_fixed (n : Nat) : (s.openSurface n).fixed = s.fixed := by
  simp [State.openSurface]

@[simp] theorem State.freshSession_fixed (n : Nat) : (s.freshSession n).fixed = s.fixed := by
  simp [State.freshSession]

@[simp] theorem State.relayFrame_fixed (n opcode : Nat) (body : List Byte) : (s.relayFrame n opcode body).fixed = s.fixed := by
  simp [State.relayFrame]

@[simp] theorem State.toJoining_fixed (n : Nat) : (s.toJoining n).fixed = s.fixed := by
  simp [State.toJoining]

@[simp] theorem State.zttFail_fixed (m : ZttWait) (err : Nat) : (s.zttFail m err).fixed = s.fixed := by
  simp [State.zttFail]

@[simp] theorem State.dropWaiting_fixed (n : Nat) : (s.dropWaiting n).fixed = s.fixed := by
  simp [State.dropWaiting]

@[simp] theorem State.dropQueued_fixed (n : Nat) : (s.dropQueued n).fixed = s.fixed := by
  simp [State.dropQueued]

@[simp] theorem State.dropSegs_fixed (n : Nat) : (s.dropSegs n).fixed = s.fixed := by
  simp [State.dropSegs]

@[simp] theorem State.closeSess_fixed (n reason : Nat) : (s.closeSess n reason).fixed = s.fixed := by
  simp [State.closeSess]

@[simp] theorem State.takeSets_fixed (n : Nat) : (s.takeSets n).fixed = s.fixed := by
  simp [State.takeSets]

@[simp] theorem State.starvationTimeout_fixed (n : Nat) : (s.starvationTimeout n).fixed = s.fixed := by
  simp [State.starvationTimeout]

@[simp] theorem State.joinTimeout_fixed (n : Nat) : (s.joinTimeout n).fixed = s.fixed := by
  simp [State.joinTimeout]

@[simp] theorem State.dueFirst_fixed (n : Nat) : (s.dueFirst n).fixed = s.fixed := by
  simp [State.dueFirst]

@[simp] theorem sessOpen_fixed (n rnd : Nat) (v : Val) : (sessOpen n rnd s v).1.fixed = s.fixed := by
  simp [sessOpen]

@[simp] theorem sessClose_fixed (n : Nat) (v : Val) : (sessClose n s v).1.fixed = s.fixed := by
  simp [sessClose]

@[simp] theorem sessRelease_fixed (n : Nat) (v : Val) : (sessRelease n s v).1.fixed = s.fixed := by
  simp [sessRelease]

@[simp] theorem State.resync_fixed (n : Nat) : (s.resync n).fixed = s.fixed := by
  simp [State.resync]

@[simp] theorem sessResync_fixed (n : Nat) (v : Val) : (sessResync n s v).1.fixed = s.fixed := by
  simp [sessResync]

@[simp] theorem State.rerunOne_fixed (n was : Nat) : (s.rerunOne n was).fixed = s.fixed := by
  simp [State.rerunOne]

@[simp] theorem State.rerun_fixed : s.rerun.fixed = s.fixed := by
  simp [State.rerun]

@[simp] theorem State.rejoinSessions_fixed : s.rejoinSessions.fixed = s.fixed := by
  simp [State.rejoinSessions]

@[simp] theorem State.autoOpen_fixed : s.autoOpen.fixed = s.fixed := by
  simp [State.autoOpen]

@[simp] theorem sessDecl_fixed (n sub : Nat) (v : Val) : (sessDecl n sub s v).1.fixed = s.fixed := by
  simp [sessDecl]

@[simp] theorem quadMode_fixed (q : Nat) (v : Val) : (quadMode q s v).1.fixed = s.fixed := by
  simp [quadMode]

@[simp] theorem State.portUp_fixed (p : Nat) : (s.portUp p).fixed = s.fixed := by
  simp [State.portUp]

@[simp] theorem State.quadUp_fixed (q : Nat) : (s.quadUp q).fixed = s.fixed := by
  simp [State.quadUp]

@[simp] theorem State.negotiated_fixed (p : Nat) : (s.negotiated p).fixed = s.fixed := by
  simp [State.negotiated]

/-! #### Outgoing relays (R570 to R574) -/

@[simp] theorem State.freeBytes_fixed (n : Nat) : (s.freeBytes n).2.fixed = s.fixed := by
  simp [State.freeBytes]

@[simp] theorem State.setRelay_fixed (no : Nat) (g : RelayS) : (s.setRelay no g).fixed = s.fixed := by
  simp [State.setRelay]

@[simp] theorem State.relayStream_fixed (no : Nat) (b : List Byte) : (s.relayStream no b).fixed = s.fixed := by
  simp [State.relayStream]

@[simp] theorem State.relayCoded_fixed (no : Nat) (b : List Byte) : (s.relayCoded no b).fixed = s.fixed := by
  unfold State.relayCoded
  split <;> simp

@[simp] theorem State.relayPrimed_fixed (no : Nat) (b : List Byte) : (s.relayPrimed no b).fixed = s.fixed := by
  unfold State.relayPrimed
  split <;> simp

@[simp] theorem State.relayNumber_fixed (no : Nat) : (s.relayNumber no).2.fixed = s.fixed := by
  simp [State.relayNumber]

@[simp] theorem State.relayPicture_fixed (n : Nat) (pic : PicS) (au : AuInfo) : (s.relayPicture n pic au).fixed = s.fixed := by
  unfold State.relayPicture
  exact foldl_fixed (fun s a => by simp) _ _

@[simp] theorem State.relayUnit_fixed (n : Nat) (au : AuInfo) : (s.relayUnit n au).fixed = s.fixed := by
  simp [State.relayUnit]

@[simp] theorem State.relayMessage_fixed (n : Nat) (h : ZttHdr) (px : List Byte) : (s.relayMessage n h px).fixed = s.fixed := by
  simp [State.relayMessage]

@[simp] theorem State.planeMessage_fixed (no w h : Nat) (cap : Option Nat) : (s.planeMessage no w h cap).2.fixed = s.fixed := by
  simp [State.planeMessage]

@[simp] theorem State.relayPlane_fixed (x w h : Nat) (cap : Option Nat) : (s.relayPlane x w h cap).fixed = s.fixed := by
  simp [State.relayPlane]

@[simp] theorem State.relayBeat_fixed (x : Nat) (cap : Option Nat) (live : Bool) : (s.relayBeat x cap live).fixed = s.fixed := by
  simp [State.relayBeat]

/-! #### Sessions (R124 to R158) -/

@[simp] theorem State.frameDiscard_fixed (p : Nat) (f : Frame) : (s.frameDiscard p f).fixed = s.fixed := by
  unfold State.frameDiscard
  dsimp only
  repeat' split
  all_goals simp

@[simp] theorem State.rawFrame_fixed (p : Nat) (f : Frame) : (s.rawFrame p f).fixed = s.fixed := by
  unfold State.rawFrame
  dsimp only
  repeat' split
  all_goals simp

@[simp] theorem State.arpRequest_fixed (p target : Nat) (sender : List Byte) :
    (s.arpRequest p target sender).fixed = s.fixed := by
  simp [State.arpRequest]

@[simp] theorem State.echoRequest_fixed (p : Nat) (v6 : Bool) (target data : List Byte) :
    (s.echoRequest p v6 target data).fixed = s.fixed := by
  simp [State.echoRequest]

@[simp] theorem State.solicitation_fixed (p : Nat) (target : List Byte) : (s.solicitation p target).fixed = s.fixed := by
  simp [State.solicitation]

@[simp] theorem State.query_fixed (p : Nat) (v6 : Bool) (version : Nat) : (s.query p v6 version).fixed = s.fixed := by
  simp [State.query]

@[simp] theorem State.acquire_fixed (n ssrc : Nat) : (s.acquire n ssrc).fixed = s.fixed := by
  simp [State.acquire]

@[simp] theorem State.rtpDrop_fixed (n sub : Nat) : (s.rtpDrop n sub).fixed = s.fixed := by
  simp [State.rtpDrop]

@[simp] theorem State.rtpAccept_fixed (n : Nat) (pkt : RtpPkt) (ext : Nat) : (s.rtpAccept n pkt ext).fixed = s.fixed := by
  simp [State.rtpAccept]

@[simp] theorem State.rtpTake_fixed (n : Nat) (pkt : RtpPkt) (ext : Nat) : (s.rtpTake n pkt ext).fixed = s.fixed := by
  simp [State.rtpTake]

@[simp] theorem State.rtpSeq_fixed (n : Nat) (pkt : RtpPkt) : (s.rtpSeq n pkt).fixed = s.fixed := by
  unfold State.rtpSeq
  dsimp only
  split <;> simp

@[simp] theorem State.rtpPacket_fixed (n : Nat) (pkt : RtpPkt) : (s.rtpPacket n pkt).fixed = s.fixed := by
  simp [State.rtpPacket]

@[simp] theorem State.reorderExpiry_fixed (n : Nat) : (s.reorderExpiry n).fixed = s.fixed := by
  simp [State.reorderExpiry]

@[simp] theorem State.layerAlive_fixed (x a : Nat) : (s.layerAlive x a).fixed = s.fixed := by
  unfold State.layerAlive
  dsimp only
  split <;> simp

@[simp] theorem State.replayRun_fixed (n : Nat) : (s.replayRun n).fixed = s.fixed := by
  unfold State.replayRun
  dsimp only
  split <;> simp

@[simp] theorem State.continuity_fixed (n a : Nat) : (s.continuity n a).1.fixed = s.fixed := by
  unfold State.continuity
  dsimp only
  split <;> simp

@[simp] theorem State.gradeChange_fixed (n grade : Nat) : (s.gradeChange n grade).fixed = s.fixed := by
  simp [State.gradeChange]

@[simp] theorem State.synthAlive_fixed (n ts : Nat) : (s.synthAlive n ts).1.fixed = s.fixed := by
  unfold State.synthAlive
  dsimp only
  split <;> simp

@[simp] theorem State.labelled_fixed (n ts : Nat) (l : Option Label) : (s.labelled n ts l).1.fixed = s.fixed := by
  unfold State.labelled
  split <;> simp

@[simp] theorem State.unlabelled_fixed (n ts : Nat) : (s.unlabelled n ts).1.fixed = s.fixed := by
  simp [State.unlabelled]

@[simp] theorem State.cut_fixed (n ts : Nat) (c : CodedS) : (s.cut n ts c).fixed = s.fixed := by
  simp [State.cut]

@[simp] theorem State.takeAu_fixed (n : Nat) (a : AuS) (rest : List AuS) (lost : Nat) :
    (s.takeAu n a rest lost).fixed = s.fixed := by
  simp [State.takeAu]

@[simp] theorem State.toDecode_fixed (n : Nat) (au : AuInfo) (nals : List Nal) : (s.toDecode n au nals).fixed = s.fixed := by
  simp [State.toDecode]

@[simp] theorem State.useAu_fixed (n ts : Nat) (nals : List Nal) : (s.useAu n ts nals).fixed = s.fixed := by
  unfold State.useAu
  dsimp only
  repeat' split
  all_goals simp

@[simp] theorem State.releaseAu_fixed (n : Nat) : (s.releaseAu n).fixed = s.fixed := by
  unfold State.releaseAu
  split <;> simp

@[simp] theorem State.senderReport_fixed (n mac ssrc sec frac ts : Nat) :
    (s.senderReport n mac ssrc sec frac ts).fixed = s.fixed := by
  simp [State.senderReport]

@[simp] theorem State.rtcpItem_fixed (n mac : Nat) (i : RtcpItem) : (s.rtcpItem n mac i).fixed = s.fixed := by
  unfold State.rtcpItem
  split <;> simp

@[simp] theorem State.rtcpPacket_fixed (n mac : Nat) (items : List RtcpItem) : (s.rtcpPacket n mac items).fixed = s.fixed := by
  simp [State.rtcpPacket]

@[simp] theorem State.rrSend_fixed (n : Nat) : (s.rrSend n).fixed = s.fixed := by
  unfold State.rrSend
  dsimp only
  repeat' split
  all_goals simp

@[simp] theorem State.mappingExpiry_fixed (n : Nat) : (s.mappingExpiry n).fixed = s.fixed := by
  unfold State.mappingExpiry
  split <;> simp

/-! #### Decoding (R196 to R212) -/

@[simp] theorem State.refreshHealth_fixed : s.refreshHealth.fixed = s.fixed := by
  simp [State.refreshHealth]

@[simp] theorem State.setHealth_fixed (k : Nat) (u : UnitS) (old : Nat) : (s.setHealth k u old).fixed = s.fixed := by
  simp [State.setHealth]

@[simp] theorem State.patch_fixed (dead spare : Nat) : (s.patch dead spare).fixed = s.fixed := by
  simp [State.patch]

@[simp] theorem State.refreshCores_fixed : s.refreshCores.fixed = s.fixed := by
  simp [State.refreshCores]

@[simp] theorem State.coreLost_fixed (c : Nat) (whole : Bool) : (s.coreLost c whole).fixed = s.fixed := by
  unfold State.coreLost
  dsimp only
  repeat' split
  all_goals simp

@[simp] theorem State.coreGone_fixed (c : Nat) : (s.coreGone c).fixed = s.fixed := by
  simp [State.coreGone]

@[simp] theorem State.poolOf_fixed (die : Nat) : (s.poolOf die).fixed = s.fixed := by
  simp [State.poolOf]

@[simp] theorem State.poolAgain_fixed (c : Nat) : (s.poolAgain c).fixed = s.fixed := by
  simp [State.poolAgain]

@[simp] theorem State.coreReturned_fixed (c : Nat) : (s.coreReturned c).fixed = s.fixed := by
  unfold State.coreReturned
  dsimp only
  repeat' split
  all_goals simp

@[simp] theorem State.setCoded_fixed (n pic : Nat) (f : CodedS → CodedS) : (s.setCoded n pic f).fixed = s.fixed := by
  simp [State.setCoded]

@[simp] theorem State.coreFreeAt_fixed (c at' : Nat) : (s.coreFreeAt c at').fixed = s.fixed := by
  simp [State.coreFreeAt]

@[simp] theorem State.coreFree_fixed (c : Nat) : (s.coreFree c).fixed = s.fixed := by
  simp [State.coreFree]

@[simp] theorem State.coreEnd_fixed (c at' : Nat) : (s.coreEnd c at').fixed = s.fixed := by
  simp [State.coreEnd]

@[simp] theorem State.coreDies_fixed (c : Nat) : (s.coreDies c).fixed = s.fixed := by
  unfold State.coreDies
  dsimp only
  split <;> simp

@[simp] theorem State.startSeg_fixed (c : Nat) (x : SegWait) : (s.startSeg c x).fixed = s.fixed := by
  simp [State.startSeg]

@[simp] theorem State.countHeld_fixed (x : SegWait) : (s.countHeld x).fixed = s.fixed := by
  unfold State.countHeld
  split <;> simp

@[simp] theorem State.dispatch_fixed (c : Nat) (ended : List (Nat × Nat)) : (s.dispatch c ended).fixed = s.fixed := by
  unfold State.dispatch
  dsimp only
  repeat' split
  all_goals simp

@[simp] theorem State.freeCores_fixed (n : Nat) : (s.freeCores n).fixed = s.fixed := by
  simp [State.freeCores]

@[simp] theorem State.pictureCounts_fixed (n : Nat) (c : CodedS) (p : ParamSet) (errors missRefs taint darned : Nat) :
    (s.pictureCounts n c p errors missRefs taint darned).fixed = s.fixed := by
  simp [State.pictureCounts]

@[simp] theorem State.pictureEvents_fixed (n : Nat) (errors segments drops : Nat) :
    (s.pictureEvents n errors segments drops).fixed = s.fixed := by
  simp [State.pictureEvents]

@[simp] theorem State.cleanPicture_fixed (n : Nat) : (s.cleanPicture n).fixed = s.fixed := by
  simp [State.cleanPicture]

@[simp] theorem State.outputPic_fixed (n : Nat) (pic : PicS) (au : AuInfo) : (s.outputPic n pic au).fixed = s.fixed := by
  simp [State.outputPic]

@[simp] theorem State.bump'_fixed (n : Nat) (p : ParamSet) (all : Bool) (k : Nat) :
    (State.bump' n p all k s).fixed = s.fixed := by
  induction k generalizing s with
  | zero => rfl
  | succ k ih =>
    unfold State.bump'
    dsimp only
    split
    · rfl
    · split <;> simp [ih]

@[simp] theorem State.queueOut_fixed (n : Nat) (p : ParamSet) (pic : PicS) (au : AuInfo) (output : Bool) :
    (s.queueOut n p pic au output).fixed = s.fixed := by
  simp [State.queueOut]

@[simp] theorem State.pictureComplete_fixed (n : Nat) (d : PicDesc) : (s.pictureComplete n d).fixed = s.fixed := by
  unfold State.pictureComplete
  dsimp only
  split
  · simp
  · split <;> simp

@[simp] theorem sessWaitRead_fixed (n : Nat) : (sessWaitRead n s).1.fixed = s.fixed := by
  simp [sessWaitRead]

@[simp] theorem spareMask_fixed (v : Val) : (spareMask s v).1.fixed = s.fixed := by
  simp [spareMask]

/-! #### Layers (R19 to R48) -/

@[simp] theorem State.refreshPipes_fixed : s.refreshPipes.fixed = s.fixed := by
  simp [State.refreshPipes]

@[simp] theorem State.setLiveness_fixed (n st reason mask : Nat) : (s.setLiveness n st reason mask).fixed = s.fixed := by
  simp [State.setLiveness]

@[simp] theorem State.refreshSummary_fixed (x : Nat) : (s.refreshSummary x).fixed = s.fixed := by
  simp [State.refreshSummary]

@[simp] theorem State.refreshSummaries_fixed : s.refreshSummaries.fixed = s.fixed := by
  simp [State.refreshSummaries]

@[simp] theorem State.firstUse_fixed (n : Nat) : (s.firstUse n).fixed = s.fixed := by
  simp [State.firstUse]

@[simp] theorem State.unfence_fixed (n : Nat) : (s.unfence n).fixed = s.fixed := by
  simp [State.unfence]

@[simp] theorem State.degrade_fixed (n : Nat) : (s.degrade n).fixed = s.fixed := by
  simp [State.degrade]

@[simp] theorem State.scanCheck_fixed (n : Nat) : (s.scanCheck n).fixed = s.fixed := by
  simp [State.scanCheck]

@[simp] theorem State.latchPipes_fixed (n : Nat) : (s.latchPipes n).fixed = s.fixed := by
  simp [State.latchPipes]

@[simp] theorem State.latchTiles_fixed (n : Nat) : (s.latchTiles n).fixed = s.fixed := by
  simp [State.latchTiles]

@[simp] theorem State.latchStitch_fixed (n : Nat) : (s.latchStitch n).fixed = s.fixed := by
  simp [State.latchStitch]

@[simp] theorem State.latchFloor_fixed (n : Nat) (set : List Nat) : (s.latchFloor n set).fixed = s.fixed := by
  unfold State.latchFloor
  dsimp only
  split <;> simp

@[simp] theorem State.evaluate_fixed (n : Nat) : (s.evaluate n).fixed = s.fixed := by
  simp [State.evaluate]

/-! #### Commits (R265 to R280) -/

@[simp] theorem State.overlay_fixed (vs : List (Nat × Val)) : (s.overlay vs).fixed = s.fixed := by
  simp [State.overlay]

@[simp] theorem State.receipt_fixed (r : Receipt) : (s.receipt r).fixed = s.fixed := by
  simp [State.receipt]

@[simp] theorem State.openReceipts_fixed (id : Nat) : (s.openReceipts id).fixed = s.fixed := by
  simp [State.openReceipts]

@[simp] theorem receiptSelect_fixed (v : Val) : (receiptSelect s v).1.fixed = s.fixed := by
  simp [receiptSelect]

@[simp] theorem State.readReceipts_fixed : s.readReceipts.1.fixed = s.fixed := by
  unfold State.readReceipts
  split <;> simp

@[simp] theorem State.hypothetical_fixed (c : CommitS) : (s.hypothetical c).fixed = s.fixed := by
  simp [State.hypothetical]

@[simp] theorem State.refreshCommits_fixed : s.refreshCommits.fixed = s.fixed := by
  simp [State.refreshCommits]

@[simp] theorem State.putCommit_fixed (c : CommitS) : (s.putCommit c).fixed = s.fixed := by
  simp [State.putCommit]

@[simp] theorem State.dropPart_fixed (x : Nat) : (s.dropPart x).fixed = s.fixed := by
  simp [State.dropPart]

@[simp] theorem commitRequest_fixed (v : Val) : (commitRequest s v).1.fixed = s.fixed := by
  simp [commitRequest]

@[simp] theorem State.discardStaged_fixed : s.discardStaged.fixed = s.fixed := by
  simp [State.discardStaged]

@[simp] theorem State.cancel_fixed : s.cancel.1.fixed = s.fixed := by
  simp [State.cancel]

@[simp] theorem stagingCommand_fixed (v : Val) : (stagingCommand s v).1.fixed = s.fixed := by
  simp [stagingCommand]

@[simp] theorem State.commitDue_fixed (id : Nat) : (s.commitDue id).fixed = s.fixed := by
  simp [State.commitDue]

@[simp] theorem State.samplePoint_fixed (x : Nat) : (s.samplePoint x).fixed = s.fixed := by
  simp [State.samplePoint]

@[simp] theorem State.landSlot_fixed (n : Nat) (wasOn : Bool) (wasSrc : Nat) : (s.landSlot n wasOn wasSrc).fixed = s.fixed := by
  simp [State.landSlot]

@[simp] theorem State.land_fixed (c : CommitS) (x : Nat) : (s.land c x).fixed = s.fixed := by
  simp [State.land]

@[simp] theorem State.landAll_fixed (ids : List Nat) (x : Nat) : (State.landAll ids x s).1.fixed = s.fixed := by
  induction ids generalizing s with
  | nil => rfl
  | cons id ids ih =>
    unfold State.landAll
    split <;> simp [ih]

@[simp] theorem toneMap_fixed (m sub : Nat) (v : Val) : (toneMap m sub s v).1.fixed = s.fixed := by
  simp [toneMap]

@[simp] theorem toneApply_fixed (m : Nat) (v : Val) : (toneApply m s v).1.fixed = s.fixed := by
  simp [toneApply]

@[simp] theorem slotWrite_fixed (n sub : Nat) (v : Val) : (slotWrite n sub s v).1.fixed = s.fixed := by
  simp [slotWrite]

/-! #### Encode contexts (chapter 9) -/

@[simp] theorem State.setEnc_fixed (e : Nat) (g : EncS) : (s.setEnc e g).fixed = s.fixed := by
  simp [State.setEnc]

@[simp] theorem State.refreshEncode_fixed : s.refreshEncode.fixed = s.fixed := by
  simp [State.refreshEncode]

@[simp] theorem State.enterEnc_fixed (e st reason : Nat) : (s.enterEnc e st reason).fixed = s.fixed := by
  simp [State.enterEnc]

@[simp] theorem State.encBind_fixed (e c : Nat) : (s.encBind e c).fixed = s.fixed := by
  simp [State.encBind]

@[simp] theorem State.encStopWith_fixed (e reason : Nat) : (s.encStopWith e reason).fixed = s.fixed := by
  simp [State.encStopWith]

@[simp] theorem encStart_fixed (e ssrc seq : Nat) (v : Val) : (encStart e ssrc seq s v).1.fixed = s.fixed := by
  unfold encStart
  dsimp only
  repeat' split
  all_goals simp

@[simp] theorem encStop_fixed (e : Nat) (v : Val) : (encStop e s v).1.fixed = s.fixed := by
  simp [encStop]

@[simp] theorem encWrite_fixed (e sub : Nat) (v : Val) : (encWrite e sub s v).1.fixed = s.fixed := by
  simp [encWrite]

@[simp] theorem State.encAutoStart_fixed : s.encAutoStart.fixed = s.fixed := by
  simp [State.encAutoStart]

@[simp] theorem State.encRecheck_fixed (touched : Nat → Bool) : (s.encRecheck touched).fixed = s.fixed := by
  simp [State.encRecheck]

@[simp] theorem State.encRebind_fixed (c : Nat) : (s.encRebind c).fixed = s.fixed := by
  unfold State.encRebind
  rw [State.refreshEncode_fixed]
  exact foldl_fixed (fun s e => by dsimp only; split <;> simp) _ _

@[simp] theorem State.encLayerStrip_fixed (x k : Nat) (p : Plan) (px : PlanL → Nat → Nat → Option Px) :
    (s.encLayerStrip x k p px).fixed = s.fixed := by
  unfold State.encLayerStrip
  exact foldl_fixed (fun s e => by split <;> simp) _ _

@[simp] theorem State.encSnap_fixed (e : Nat) : (s.encSnap e).fixed = s.fixed := by
  unfold State.encSnap
  dsimp only
  split <;> simp

@[simp] theorem State.encFrameEnd_fixed (x : Nat) : (s.encFrameEnd x).fixed = s.fixed := by
  simp [State.encFrameEnd]

@[simp] theorem State.encStrip_fixed (x k frame : Nat) : (s.encStrip x k frame).fixed = s.fixed := by
  unfold State.encStrip
  split
  · rfl
  · exact foldl_fixed (fun s e => by dsimp only; split <;> simp) _ _

@[simp] theorem State.encLatch_fixed (x : Nat) (p : Plan) : (s.encLatch x p).fixed = s.fixed := by
  unfold State.encLatch
  refine foldl_fixed (fun s e => ?_) _ _
  split
  · rfl
  · split <;> simp

@[simp] theorem State.encFrame_fixed (x : Nat) : (s.encFrame x).fixed = s.fixed := by
  simp [State.encFrame]

@[simp] theorem State.encCut_fixed (e first skipped : Nat) : (s.encCut e first skipped).fixed = s.fixed := by
  unfold State.encCut
  dsimp only
  split <;> simp

@[simp] theorem State.encDone_fixed (e : Nat) (i : EncInfo) : (s.encDone e i).fixed = s.fixed := by
  unfold State.encDone
  dsimp only
  split
  · simp
  · split <;> simp

@[simp] theorem State.mirrorSend_fixed (e : Nat) : (s.mirrorSend e).fixed = s.fixed := by
  unfold State.mirrorSend
  dsimp only
  split <;> simp

@[simp] theorem State.mirrorSr_fixed (e : Nat) : (s.mirrorSr e).fixed = s.fixed := by
  simp [State.mirrorSr]

@[simp] theorem State.hopResolve_fixed (e : Nat) : (s.hopResolve e).fixed = s.fixed := by
  unfold State.hopResolve
  split <;> simp

@[simp] theorem State.hopReply_fixed (p : Nat) (addr : List Byte) : (s.hopReply p addr).fixed = s.fixed := by
  simp [State.hopReply]

/-! #### The live promise (R67 to R79) -/

@[simp] theorem State.relayRun_fixed (x : Nat) (run : List PlanL) (new : Bool) : (s.relayRun x run new).fixed = s.fixed := by
  simp [State.relayRun]

@[simp] theorem State.latchPress_fixed (x : Nat) (run : List PlanL) : (s.latchPress x run).fixed = s.fixed := by
  simp [State.latchPress]

@[simp] theorem State.pressDone_fixed (x : Nat) : (s.pressDone x).fixed = s.fixed := by
  unfold State.pressDone
  dsimp only
  split <;> simp

@[simp] theorem State.refreshLeases_fixed : s.refreshLeases.fixed = s.fixed := by
  simp [State.refreshLeases]

@[simp] theorem State.leaseSelected_fixed (ls : List PlanL) : (s.leaseSelected ls).fixed = s.fixed := by
  unfold State.leaseSelected
  rw [State.refreshLeases_fixed]
  exact foldl_fixed (fun s l => by split <;> simp) _ _

@[simp] theorem State.clearFirst_fixed (written : List Nat) (l : PlanL) : (s.clearFirst written l).fixed = s.fixed := by
  simp [State.clearFirst]

@[simp] theorem State.endCompose_fixed (x : Nat) : (s.endCompose x).fixed = s.fixed := by
  unfold State.endCompose
  dsimp only
  split <;> simp

@[simp] theorem State.openCompose_fixed (x : Nat) (p : Plan) : (s.openCompose x p).fixed = s.fixed := by
  unfold State.openCompose
  dsimp only
  split <;> simp

@[simp] theorem State.latchLayers_fixed (x : Nat) (set : List Nat) : (s.latchLayers x set).fixed = s.fixed := by
  simp [State.latchLayers]

@[simp] theorem State.latchPlan_fixed (x : Nat) : (s.latchPlan x).fixed = s.fixed := by
  simp [State.latchPlan]

@[simp] theorem State.latch_fixed (x : Nat) : (s.latch x).fixed = s.fixed := by
  simp [State.latch]

@[simp] theorem State.markLayers_fixed (ns : List Nat) (f : LayerS → LayerS) : (s.markLayers ns f).fixed = s.fixed := by
  simp [State.markLayers]

@[simp] theorem State.recheck_fixed (x k : Nat) : (s.recheck x k).fixed = s.fixed := by
  simp [State.recheck]

@[simp] theorem State.readBack_fixed (n : Nat) (wrong : List LinkPx) : (s.readBack n wrong).fixed = s.fixed := by
  simp [State.readBack]

@[simp] theorem State.endReadBack_fixed (x : Nat) : (s.endReadBack x).fixed = s.fixed := by
  simp [State.endReadBack]

@[simp] theorem State.lvsTestStart_fixed (d : Die) : (s.lvsTestStart d).fixed = s.fixed := by
  simp [State.lvsTestStart]

@[simp] theorem State.lvsFault_fixed (d : Die) : (s.lvsFault d).fixed = s.fixed := by
  simp [State.lvsFault]

@[simp] theorem State.lvsTested_fixed (d : Die) (pass : Bool) : (s.lvsTested d pass).fixed = s.fixed := by
  simp [State.lvsTested]

@[simp] theorem State.lvsRetry_fixed (d : Die) : (s.lvsRetry d).fixed = s.fixed := by
  simp [State.lvsRetry]

@[simp] theorem lvsStatus_fixed : (lvsStatus s).1.fixed = s.fixed := by
  simp [lvsStatus]

@[simp] theorem ledgerSelect_fixed (v : Val) : (ledgerSelect s v).1.fixed = s.fixed := by
  simp [ledgerSelect]

/-! #### Scanout and DisplayPort (chapter 8) -/

@[simp] theorem State.outEvent_fixed (x bitNo : Nat) (extra : List (Nat × Nat)) : (s.outEvent x bitNo extra).fixed = s.fixed := by
  simp [State.outEvent]

@[simp] theorem State.setLink_fixed (x st link : Nat) : (s.setLink x st link).fixed = s.fixed := by
  simp [State.setLink]

@[simp] theorem State.bandStart_fixed (x : Nat) : (s.bandStart x).fixed = s.fixed := by
  simp [State.bandStart]

@[simp] theorem State.settleRepeat_fixed (x : Nat) : (s.settleRepeat x).fixed = s.fixed := by
  simp [State.settleRepeat]

@[simp] theorem State.frameStart_fixed (x : Nat) : (s.frameStart x).fixed = s.fixed := by
  simp [State.frameStart]

@[simp] theorem State.stripStart_fixed (x k : Nat) : (s.stripStart x k).fixed = s.fixed := by
  unfold State.stripStart
  dsimp only
  split <;> simp

@[simp] theorem State.stripWrite_fixed (x c k : Nat) : (s.stripWrite x c k).fixed = s.fixed := by
  unfold State.stripWrite
  dsimp only
  split <;> simp

@[simp] theorem State.stripDrop_fixed (x k : Nat) : (s.stripDrop x k).fixed = s.fixed := by
  unfold State.stripDrop
  dsimp only
  split <;> simp

@[simp] theorem State.sendInfoFrame_fixed (x : Nat) : (s.sendInfoFrame x).fixed = s.fixed := by
  simp [State.sendInfoFrame]

@[simp] theorem State.blanking_fixed (x : Nat) : (s.blanking x).fixed = s.fixed := by
  unfold State.blanking
  dsimp only
  repeat' split
  all_goals simp

@[simp] theorem State.lineMatch_fixed (x line : Nat) : (s.lineMatch x line).fixed = s.fixed := by
  simp [State.lineMatch]

@[simp] theorem timingApply_fixed (x : Nat) (v : Val) : (timingApply x s v).1.fixed = s.fixed := by
  simp [timingApply]

@[simp] theorem State.applyResult_fixed (x : Nat) (v : Val) : (s.applyResult x v).fixed = s.fixed := by
  simp [State.applyResult]

@[simp] theorem State.restartScreen_fixed (x : Nat) : (s.restartScreen x).fixed = s.fixed := by
  simp [State.restartScreen]

@[simp] theorem State.applyRunning_fixed (x : Nat) : (s.applyRunning x).fixed = s.fixed := by
  simp [State.applyRunning]

@[simp] theorem State.hpdRise_fixed (x : Nat) (k : Sink) : (s.hpdRise x k).fixed = s.fixed := by
  simp [State.hpdRise]

@[simp] theorem State.driveLanes_fixed (x : Nat) (reqs : List (Nat × Nat)) : (s.driveLanes x reqs).fixed = s.fixed := by
  simp [State.driveLanes]

@[simp] theorem State.tryLink_fixed (x : Nat) (k : Sink) (l : LinkTry) : (s.tryLink x k l).fixed = s.fixed := by
  simp [State.tryLink]

@[simp] theorem State.colorimetry_fixed (x : Nat) : (s.colorimetry x).fixed = s.fixed := by
  simp [State.colorimetry]

@[simp] theorem State.trained_fixed (x : Nat) (failed : List LinkTry) (last : Option LinkTry) (ok : Bool) :
    (s.trained x failed last ok).fixed = s.fixed := by
  unfold State.trained
  dsimp only
  generalize (if ok then last else none) = up
  generalize failed ++ last.toList = tries
  split
  · rfl
  · split
    · rfl
    · split <;> simp

@[simp] theorem State.retrain_fixed (x : Nat) : (s.retrain x).fixed = s.fixed := by
  simp [State.retrain]

@[simp] theorem State.hpdIrq_fixed (x status : Nat) : (s.hpdIrq x status).fixed = s.fixed := by
  simp [State.hpdIrq]

@[simp] theorem State.hpdUnplug_fixed (x : Nat) : (s.hpdUnplug x).fixed = s.fixed := by
  simp [State.hpdUnplug]

/-! #### ZTT messages (chapter 10) -/

@[simp] theorem State.zttAccept_fixed (n : Nat) : (s.zttAccept n).fixed = s.fixed := by
  simp [State.zttAccept]

@[simp] theorem State.showNewest_fixed (n : Nat) : (s.showNewest n).fixed = s.fixed := by
  simp [State.showNewest]

@[simp] theorem State.setBuf_fixed (n b : Nat) (u : BufS) : (s.setBuf n b u).fixed = s.fixed := by
  simp [State.setBuf]

@[simp] theorem State.taintBuf_fixed (n b : Nat) (taint : List Nat) : (s.taintBuf n b taint).fixed = s.fixed := by
  simp [State.taintBuf]

@[simp] theorem State.zttGap_fixed (n : Nat) : (s.zttGap n).fixed = s.fixed := by
  simp [State.zttGap]

@[simp] theorem State.zttArrive_fixed (n : Nat) (via : ZttVia) (desc : Nat) (b : List Byte) :
    (s.zttArrive n via desc b).fixed = s.fixed := by
  unfold State.zttArrive
  split <;> simp

@[simp] theorem State.zttMessage_fixed (m : ZttIn) (b : List Byte) : (s.zttMessage m b).fixed = s.fixed := by
  unfold State.zttMessage
  dsimp only
  split
  · split
    · rfl
    · split <;> simp
  · split
    · rfl
    · next h => simp [s.fetchDesc_fixed h]

@[simp] theorem State.zttDispatch_fixed (z : Nat) : (s.zttDispatch z).fixed = s.fixed := by
  unfold State.zttDispatch
  dsimp only
  repeat' split
  all_goals simp

@[simp] theorem State.taintRect_fixed (n : Nat) (h : ZttHdr) : (s.taintRect n h).fixed = s.fixed := by
  unfold State.taintRect
  split <;> simp

@[simp] theorem State.engineLost_fixed (z : Nat) : (s.engineLost z).fixed = s.fixed := by
  unfold State.engineLost
  split <;> simp

@[simp] theorem State.zttF_fixed (m : ZttWait) (err : Nat) : (s.zttF m err).fixed = s.fixed := by
  simp [State.zttF]

@[simp] theorem State.zttWrite_fixed (n : Nat) (h : ZttHdr) (px : List Byte) : (s.zttWrite n h px).fixed = s.fixed := by
  simp [State.zttWrite]

@[simp] theorem State.zttPresent_fixed (n : Nat) (h : ZttHdr) : (s.zttPresent n h).fixed = s.fixed := by
  simp [State.zttPresent]

@[simp] theorem State.zttEffect_fixed (m : ZttWait) (px : List Byte) : (s.zttEffect m px).fixed = s.fixed := by
  simp [State.zttEffect]

@[simp] theorem State.refreshQueue_fixed : s.refreshQueue.fixed = s.fixed := by
  simp [State.refreshQueue]

@[simp] theorem State.zttCount_fixed (n : Nat) : (s.zttCount n).fixed = s.fixed := by
  simp [State.zttCount]

@[simp] theorem State.zttLeased_fixed (m : ZttWait) (px : List Byte) : (s.zttLeased m px).fixed = s.fixed := by
  simp [State.zttLeased]

@[simp] theorem State.zttHeartbeat_fixed (m : ZttWait) : (s.zttHeartbeat m).fixed = s.fixed := by
  unfold State.zttHeartbeat
  dsimp only
  split <;> simp

@[simp] theorem State.zttDecode_fixed (m : ZttWait) (need : Nat) : (s.zttDecode m need).2.1.fixed = s.fixed := by
  unfold State.zttDecode
  dsimp only
  repeat' split
  all_goals simp

@[simp] theorem State.zttApply_fixed (m : ZttWait) : (s.zttApply m).fixed = s.fixed := by
  have hgap : (if m.defer then s.zttGap m.sess else s).fixed = s.fixed := by simp
  unfold State.zttApply
  dsimp only
  generalize (if m.defer then s.zttGap m.sess else s) = u at hgap ⊢
  have hprime : (if m.hdr.restart then u.primeCtx m.sess (u.ctx m.sess).await else u).fixed = s.fixed := by simp [hgap]
  generalize (if m.hdr.restart then u.primeCtx m.sess (u.ctx m.sess).await else u) = w at hprime ⊢
  have hdecode (need : Nat) : (if 0 < m.hdr.w then w.zttDecode m need else (0, w, [])).2.1.fixed = s.fixed := by
    split <;> simp [hprime]
  refine State.fixed_ite_eq (by simp [hgap]) ?_
  split
  · simp [hprime]
  · iterate 6 refine State.fixed_ite_eq (by simp [hprime]) ?_
    simp only [State.fixed_ite, State.zttF_fixed, State.taintRect_fixed, State.zttLeased_fixed, State.zttReply_fixed,
      State.zttEffect_fixed, State.zttCount_fixed, State.setCtx_fixed, hdecode, ite_self]

@[simp] theorem State.zttApplied_fixed (z : Nat) : (s.zttApplied z).fixed = s.fixed := by
  unfold State.zttApplied
  split <;> simp

@[simp] theorem State.applyQueued_fixed (qs : List QWrite) : (s.applyQueued qs).fixed = s.fixed := by
  simp [State.applyQueued]

@[simp] theorem State.leaseEnd_fixed (n b : Nat) : (s.leaseEnd n b).fixed = s.fixed := by
  simp [State.leaseEnd]

@[simp] theorem State.leaseLimit_fixed : s.leaseLimit.fixed = s.fixed := by
  simp [State.leaseLimit]

/-! #### Touch (chapter 11) -/

@[simp] theorem State.setTch_fixed (p : Nat) (g : TouchS) : (s.setTch p g).fixed = s.fixed := by
  simp [State.setTch]

@[simp] theorem State.setZone_fixed (p z : Nat) (x : ZoneS) : (s.setZone p z x).fixed = s.fixed := by
  simp [State.setZone]

@[simp] theorem State.zoneHeld_fixed (p z : Nat) : (s.zoneHeld p z).fixed = s.fixed := by
  simp [State.zoneHeld]

@[simp] theorem State.zoneSet_fixed (p z st reason : Nat) : (s.zoneSet p z st reason).fixed = s.fixed := by
  simp [State.zoneSet]

@[simp] theorem State.zoneLatch_fixed (p z reason : Nat) : (s.zoneLatch p z reason).fixed = s.fixed := by
  simp [State.zoneLatch]

@[simp] theorem State.latchZones_fixed (p reason : Nat) : (s.latchZones p reason).fixed = s.fixed := by
  simp [State.latchZones]

@[simp] theorem State.touchFlag_fixed (p b : Nat) (v : Bool) : (s.touchFlag p b v).fixed = s.fixed := by
  simp [State.touchFlag]

@[simp] theorem State.acquireTouch_fixed (p : Nat) (fresh : Bool) : (s.acquireTouch p fresh).fixed = s.fixed := by
  simp [State.acquireTouch]

@[simp] theorem State.stopTouch_fixed (p st : Nat) : (s.stopTouch p st).fixed = s.fixed := by
  simp [State.stopTouch]

@[simp] theorem touchEnable_fixed (p : Nat) (v : Val) : (touchEnable p s v).1.fixed = s.fixed := by
  simp [touchEnable]

@[simp] theorem touchWrite_fixed (p sub : Nat) (v : Val) : (touchWrite p sub s v).1.fixed = s.fixed := by
  simp [touchWrite]

@[simp] theorem State.setBases_fixed (p : Nat) (all : Bool) : (s.setBases p all).fixed = s.fixed := by
  simp [State.setBases]

@[simp] theorem State.persist_fixed (idx sub : Nat) (v : Val) : (s.persist idx sub v).fixed = s.fixed := by
  unfold State.persist
  dsimp only
  split <;> simp

@[simp] theorem touchCommand_fixed (p : Nat) (v : Val) : (touchCommand p s v).1.fixed = s.fixed := by
  simp [touchCommand]

@[simp] theorem zoneWrite_fixed (p z sub : Nat) (v : Val) : (zoneWrite p z sub s v).1.fixed = s.fixed := by
  simp [zoneWrite]

@[simp] theorem State.setEstimate_fixed (p j v : Nat) : (s.setEstimate p j v).fixed = s.fixed := by
  simp [State.setEstimate]

@[simp] theorem State.hop_fixed (p next : Nat) : (s.hop p next).fixed = s.fixed := by
  simp [State.hop]

@[simp] theorem State.touchStart_fixed (p : Nat) : (s.touchStart p).fixed = s.fixed := by
  unfold State.touchStart
  dsimp only
  refine State.fixed_ite_eq rfl ?_
  simp only [State.fixed_ite, State.setTch_fixed, State.acquireTouch_fixed, State.latchZones_fixed, ite_self]
  split <;> simp

@[simp] theorem State.measure_fixed (p j m : Nat) : (s.measure p j m).fixed = s.fixed := by
  simp [State.measure]

@[simp] theorem State.hopDecide_fixed (p : Nat) (f : TFrame) (m : Nat) : (s.hopDecide p f m).fixed = s.fixed := by
  simp [State.hopDecide]

@[simp] theorem State.nodeFaults_fixed (p : Nat) (counts : List Nat) : (s.nodeFaults p counts).fixed = s.fixed := by
  simp [State.nodeFaults]

@[simp] theorem State.reacquire_fixed (p : Nat) (counts : List Nat) : (s.reacquire p counts).fixed = s.fixed := by
  simp [State.reacquire]

@[simp] theorem State.acquireFrame_fixed (p : Nat) (counts : List Nat) : (s.acquireFrame p counts).fixed = s.fixed := by
  simp [State.acquireFrame]

@[simp] theorem State.film_fixed (p level : Nat) : (s.film p level).fixed = s.fixed := by
  simp [State.film]

@[simp] theorem State.driftNodes_fixed (p : Nat) (counts : List Nat) (sig : List Int) :
    (s.driftNodes p counts sig).fixed = s.fixed := by
  simp [State.driftNodes]

@[simp] theorem State.contactsStep_fixed (p : Nat) (sig : List Int) (f : TFrame) : (s.contactsStep p sig f).fixed = s.fixed := by
  simp [State.contactsStep]

@[simp] theorem State.absorb_fixed (p : Nat) (counts : List Nat) (sig : List Int) (f : TFrame) :
    (s.absorb p counts sig f).fixed = s.fixed := by
  simp [State.absorb]

@[simp] theorem State.zoneStep_fixed (p z : Nat) (sig : List Int) (f : TFrame) : (s.zoneStep p z sig f).fixed = s.fixed := by
  simp [State.zoneStep]

@[simp] theorem State.writeReport_fixed (p : Nat) (f : TFrame) : (s.writeReport p f).fixed = s.fixed := by
  unfold State.writeReport
  dsimp only
  split
  · simp
  · exact (State.deliver_fixed _ _ _ _ rfl).trans (by simp)

@[simp] theorem State.wakeStrokes_fixed (p : Nat) (f : TFrame) : (s.wakeStrokes p f).fixed = s.fixed := by
  simp [State.wakeStrokes]

@[simp] theorem State.usedFrame_fixed (p : Nat) (counts : List Nat) (f : TFrame) : (s.usedFrame p counts f).fixed = s.fixed := by
  simp [State.usedFrame]

@[simp] theorem State.discardFrame_fixed (p : Nat) : (s.discardFrame p).fixed = s.fixed := by
  simp [State.discardFrame]

@[simp] theorem State.touchFrame_fixed (p : Nat) (counts : List Nat) (mCur mCand : Nat) :
    (s.touchFrame p counts mCur mCand).fixed = s.fixed := by
  unfold State.touchFrame
  dsimp only
  split <;> simp

/-! #### Ownership of units -/

@[simp] theorem State.record_fixed (f : BootS → BootS) : (s.record f).fixed = s.fixed := by
  simp [State.record]

@[simp] theorem State.enterUpd_fixed (st : Nat) : (s.enterUpd st).fixed = s.fixed := by
  simp [State.enterUpd]

@[simp] theorem State.noDownload_fixed : s.noDownload.fixed = s.fixed := by
  simp [State.noDownload]

@[simp] theorem State.dropImage_fixed (result cause : Nat) : (s.dropImage result cause).fixed = s.fixed := by
  simp [State.dropImage]

@[simp] theorem State.releaseLock_fixed (why : Nat) : (s.releaseLock why).fixed = s.fixed := by
  unfold State.releaseLock
  split <;> simp

@[simp] theorem State.pathLost_fixed (r : Req) : (s.pathLost r).fixed = s.fixed := by
  simp [State.pathLost]

@[simp] theorem State.canLost_fixed (c : Nat) : (s.canLost c).fixed = s.fixed := by
  simp [State.canLost]

@[simp] theorem State.zdpClose_fixed (n : Nat) : (s.zdpClose n).fixed = s.fixed := by
  simp [State.zdpClose]

@[simp] theorem State.zdpCloseAll_fixed : s.zdpCloseAll.fixed = s.fixed := by
  simp [State.zdpCloseAll]

@[simp] theorem State.sysFailover_fixed : s.sysFailover.fixed = s.fixed := by
  unfold State.sysFailover
  simp only [State.fixed_mk, State.zdpCloseAll_fixed]
  exact foldl_fixed (fun s c => by split <;> simp) _ _

/-! #### PCIe (chapter 14) -/

@[simp] theorem State.eventFlush_fixed (q : Nat) : (s.eventFlush q).fixed = s.fixed := by
  unfold State.eventFlush
  dsimp only
  split <;> simp

@[simp] theorem State.eventPump_fixed (q n : Nat) : (State.eventPump q n s).fixed = s.fixed := by
  induction n generalizing s with
  | zero => rfl
  | succ n ih =>
    unfold State.eventPump
    dsimp only
    split
    · rfl
    · split
      · simp [ih]
      · split
        · rfl
        · split <;> simp [ih]

@[simp] theorem State.pumpEvents_fixed : s.pumpEvents.fixed = s.fixed := by
  unfold State.pumpEvents
  split <;> simp

@[simp] theorem State.eventTimeout_fixed (q : Nat) : (s.eventTimeout q).fixed = s.fixed := by
  simp [State.eventTimeout]

@[simp] theorem State.dropRing_fixed (q : Nat) : (s.dropRing q).fixed = s.fixed := by
  simp [State.dropRing]

@[simp] theorem State.functionReset_fixed : s.functionReset.fixed = s.fixed := by
  simp [State.functionReset]

@[simp] theorem State.pcieDown_fixed (st : Nat) : (s.pcieDown st).fixed = s.fixed := by
  simp [State.pcieDown]

@[simp] theorem State.pcieReset_fixed (kind : Nat) : (s.pcieReset kind).fixed = s.fixed := by
  unfold State.pcieReset
  dsimp only
  repeat' split
  all_goals simp

@[simp] theorem State.perst_fixed : s.perst.fixed = s.fixed := by
  simp [State.perst]

@[simp] theorem State.functionReady_fixed : s.functionReady.fixed = s.fixed := by
  simp [State.functionReady]

@[simp] theorem State.linkUp_fixed (speed width : Nat) : (s.linkUp speed width).fixed = s.fixed := by
  simp [State.linkUp]

@[simp] theorem State.refreshRings_fixed : s.refreshRings.fixed = s.fixed := by
  simp [State.refreshRings]

@[simp] theorem State.enableRing_fixed (q : Nat) : (s.enableRing q).fixed = s.fixed := by
  simp [State.enableRing]

@[simp] theorem State.disableRing_fixed (q : Nat) : (s.disableRing q).fixed = s.fixed := by
  simp [State.disableRing]

@[simp] theorem State.ringDoorbell_fixed (q index : Nat) : (s.ringDoorbell q index).fixed = s.fixed := by
  simp [State.ringDoorbell]

@[simp] theorem State.ringConsumer_fixed (q index : Nat) : (s.ringConsumer q index).fixed = s.fixed := by
  simp [State.ringConsumer]

@[simp] theorem State.clearEvents_fixed (v : Nat) : (s.clearEvents v).fixed = s.fixed := by
  simp [State.clearEvents]

@[simp] theorem State.unmask_fixed (v : Nat) : (s.unmask v).fixed = s.fixed := by
  simp [State.unmask]

theorem State.barWord_fixed (off v : Nat) : ((s.barWord off v).getD s).fixed = s.fixed := by
  refine getD_fixed fun s' h => ?_
  unfold State.barWord at h
  dsimp only at h
  split_ifs at h <;> cases h <;> simp

@[simp] theorem State.barWrite_fixed (off size v : Nat) : (s.barWrite off size v).fixed = s.fixed := by
  by_cases h : size = 8 <;> simp [State.barWrite, State.barWord_fixed, h]

@[simp] theorem State.rawTransmit_fixed (q : Nat) (d : Desc) (stamp : Nat) : (s.rawTransmit q d stamp).fixed = s.fixed := by
  unfold State.rawTransmit
  split
  · rfl
  · next h => simp [s.fetchDesc_fixed h]

@[simp] theorem State.offer_fixed (q kind : Nat) (d : Desc) (ok : Bool) : (s.offer q kind d ok).fixed = s.fixed := by
  unfold State.offer
  split
  · rfl
  · next h => simp [s.fetchDesc_fixed h]

@[simp] theorem State.busError_fixed (q : Nat) (desc : Option Nat) : (s.busError q desc).fixed = s.fixed := by
  unfold State.busError
  split <;> simp

@[simp] theorem State.moderated_fixed (q : Nat) : (s.moderated q).fixed = s.fixed := by
  simp [State.moderated]

/-! #### Lanes and the Spaydun Link (chapter 13) -/

@[simp] theorem State.spLeave_fixed (q st : Nat) : (s.spLeave q st).fixed = s.fixed := by
  simp [State.spLeave]

@[simp] theorem State.spLinkDown_fixed (q : Nat) : (s.spLinkDown q).fixed = s.fixed := by
  simp [State.spLinkDown]

@[simp] theorem State.spTestCheck_fixed (q : Nat) : (s.spTestCheck q).fixed = s.fixed := by
  simp [State.spTestCheck]

@[simp] theorem State.sendTraining_fixed (q : Nat) : (s.sendTraining q).fixed = s.fixed := by
  simp [State.sendTraining]

@[simp] theorem State.spLoss_fixed (q : Nat) : (s.spLoss q).fixed = s.fixed := by
  simp [State.spLoss]

@[simp] theorem State.spLaneLost_fixed (q j : Nat) : (s.spLaneLost q j).fixed = s.fixed := by
  simp [State.spLaneLost]

@[simp] theorem spEnable_fixed (q : Nat) (v : Val) : (spEnable q s v).1.fixed = s.fixed := by
  simp [spEnable]

@[simp] theorem State.lockHold_fixed (q j : Nat) : (s.lockHold q j).fixed = s.fixed := by
  simp [State.lockHold]

@[simp] theorem State.resend_fixed (q : Nat) : (s.resend q).fixed = s.fixed := by
  simp [State.resend]

@[simp] theorem State.shedRelays_fixed (q : Nat) : (s.shedRelays q).fixed = s.fixed := by
  simp [State.shedRelays]

@[simp] theorem State.agree_fixed (q mask pkgPort : Nat) : (s.agree q mask pkgPort).fixed = s.fixed := by
  simp [State.agree]

@[simp] theorem State.trainSet_fixed (q : Nat) (x : TrainSet) : (s.trainSet q x).fixed = s.fixed := by
  simp [State.trainSet]

@[simp] theorem State.trainTimeout_fixed (q : Nat) : (s.trainTimeout q).fixed = s.fixed := by
  simp [State.trainTimeout]

@[simp] theorem State.restripeTimeout_fixed (q : Nat) : (s.restripeTimeout q).fixed = s.fixed := by
  simp [State.restripeTimeout]

@[simp] theorem State.restoreHold_fixed (q j : Nat) : (s.restoreHold q j).fixed = s.fixed := by
  simp [State.restoreHold]

@[simp] theorem State.portDown_fixed (p : Nat) : (s.portDown p).fixed = s.fixed := by
  simp [State.portDown]

@[simp] theorem State.codeErrors_fixed (l n : Nat) : (s.codeErrors l n).fixed = s.fixed := by
  simp [State.codeErrors]

@[simp] theorem State.lockGain_fixed (l : Nat) (line : List (Sym × Nat)) : (s.lockGain l line).fixed = s.fixed := by
  simp [State.lockGain]

@[simp] theorem State.laneGone_fixed (l : Nat) : (s.laneGone l).fixed = s.fixed := by
  simp [State.laneGone]

@[simp] theorem State.lockLoss_fixed (l : Nat) (invalid : List Bool) : (s.lockLoss l invalid).fixed = s.fixed := by
  simp [State.lockLoss]

@[simp] theorem laneTest_fixed (l sub : Nat) (v : Val) : (laneTest l sub s v).1.fixed = s.fixed := by
  simp [laneTest]

@[simp] theorem State.prbsLock_fixed (l : Nat) (line : List Bool) : (s.prbsLock l line).fixed = s.fixed := by
  simp [State.prbsLock]

@[simp] theorem State.prbsLoss_fixed (l errors bits : Nat) : (s.prbsLoss l errors bits).fixed = s.fixed := by
  simp [State.prbsLoss]

@[simp] theorem dpPrbs_fixed (x : Nat) (v : Val) : (dpPrbs x s v).1.fixed = s.fixed := by
  simp [dpPrbs]

@[simp] theorem boardApply_fixed (v : Val) : (boardApply s v).1.fixed = s.fixed := by
  simp [boardApply]

@[simp] theorem State.lintReceive_fixed (q fill : Nat) : (s.lintReceive q fill).fixed = s.fixed := by
  simp [State.lintReceive]

@[simp] theorem State.elastic_fixed (q : Nat) : (s.elastic q).fixed = s.fixed := by
  simp [State.elastic]

@[simp] theorem State.frameSend_fixed (q : Nat) : (s.frameSend q).fixed = s.fixed := by
  unfold State.frameSend
  dsimp only
  repeat' split
  all_goals simp

@[simp] theorem State.retransmit_fixed (q : Nat) : (s.retransmit q).fixed = s.fixed := by
  simp [State.retransmit]

@[simp] theorem State.ackOnly_fixed (q : Nat) : (s.ackOnly q).fixed = s.fixed := by
  unfold State.ackOnly
  split <;> simp

@[simp] theorem State.markSend_fixed (q : Nat) : (s.markSend q).fixed = s.fixed := by
  simp [State.markSend]

/-! #### Health (R81 to R117) -/

@[simp] theorem State.screenLost_fixed (x : Nat) : (s.screenLost x).fixed = s.fixed := by
  simp [State.screenLost]

@[simp] theorem State.pipeLost_fixed (x : Nat) (patchable : Bool) : (s.pipeLost x patchable).fixed = s.fixed := by
  unfold State.pipeLost
  dsimp only
  repeat' split
  all_goals simp

@[simp] theorem State.laneUnitLost_fixed (l : Nat) : (s.laneUnitLost l).fixed = s.fixed := by
  simp [State.laneUnitLost]

@[simp] theorem State.functionLost_fixed (k : Nat) (patchable : Bool) : (s.functionLost k patchable).fixed = s.fixed := by
  unfold State.functionLost
  dsimp only
  repeat' split
  all_goals simp

@[simp] theorem State.unitDead_fixed (k : Nat) : (s.unitDead k).fixed = s.fixed := by
  unfold State.unitDead
  dsimp only
  split <;> simp

@[simp] theorem State.killAll_fixed (ks : List Nat) : (s.killAll ks).fixed = s.fixed := by
  unfold State.killAll
  dsimp only
  rw [foldl_fixed (fun s k => by simp), foldl_fixed (fun s k => by split <;> simp), foldl_fixed (fun s k => by simp)]

@[simp] theorem State.dramLost_fixed : s.dramLost.fixed = s.fixed := by
  simp [State.dramLost]

@[simp] theorem State.loseDie_fixed (d : Nat) : (s.loseDie d).fixed = s.fixed := by
  simp [State.loseDie]

@[simp] theorem State.loseLink_fixed : s.loseLink.fixed = s.fixed := by
  simp [State.loseLink]

@[simp] theorem State.loseRegion_fixed (d r : Nat) : (s.loseRegion d r).fixed = s.fixed := by
  simp [State.loseRegion]

@[simp] theorem State.processorLost_fixed (d : Nat) (p : Proc) : (s.processorLost d p).fixed = s.fixed := by
  unfold State.processorLost
  split <;> simp

@[simp] theorem State.kill_fixed (k : Nat) : (s.kill k).fixed = s.fixed := by
  unfold State.kill
  dsimp only
  repeat' split
  all_goals simp

@[simp] theorem State.countFault_fixed (k : Nat) : (s.countFault k).fixed = s.fixed := by
  simp [State.countFault]

@[simp] theorem State.refreshUnits_fixed : s.refreshUnits.fixed = s.fixed := by
  simp [State.refreshUnits]

@[simp] theorem State.softFault_fixed (k : Nat) : (s.softFault k).fixed = s.fixed := by
  simp [State.softFault]

theorem State.onUnit_fixed (addr : Nat) {f : State → Nat → State} (h : ∀ s k, (f s k).fixed = s.fixed) :
    (s.onUnit addr f).fixed = s.fixed := by
  unfold State.onUnit
  split <;> simp [h]

@[simp] theorem State.hardFault_fixed (k : Nat) : (s.hardFault k).fixed = s.fixed := by
  simp [State.hardFault]

@[simp] theorem State.sramCorrected_fixed (k : Nat) : (s.sramCorrected k).fixed = s.fixed := by
  simp [State.sramCorrected]

@[simp] theorem State.retested_fixed (k : Nat) (pass : Bool) : (s.retested k pass).fixed = s.fixed := by
  unfold State.retested
  dsimp only
  repeat' split
  all_goals simp

@[simp] theorem State.windowEnd_fixed (k : Nat) : (s.windowEnd k).fixed = s.fixed := by
  unfold State.windowEnd
  split <;> simp

@[simp] theorem State.staleTransfer_fixed (k epoch : Nat) : (s.staleTransfer k epoch).fixed = s.fixed := by
  simp [State.staleTransfer]

@[simp] theorem State.spareTest_fixed (k : Nat) (pass : Bool) : (s.spareTest k pass).fixed = s.fixed := by
  simp [State.spareTest]

@[simp] theorem State.resetTests_fixed (bad : List Nat) : (s.resetTests bad).fixed = s.fixed := by
  unfold State.resetTests
  rw [State.refreshUnits_fixed]
  refine foldl_fixed (fun s k => ?_) _ _
  split
  · simp
  · split
    · rfl
    · dsimp only
      split <;> simp

@[simp] theorem addressSelect_fixed (v : Val) : (addressSelect s v).1.fixed = s.fixed := by
  simp [addressSelect]

@[simp] theorem healthDead_fixed : (healthDead s).1.fixed = s.fixed := by
  unfold healthDead
  split <;> simp

@[simp] theorem State.functionBack_fixed (k : Nat) : (s.functionBack k).fixed = s.fixed := by
  unfold State.functionBack
  dsimp only
  repeat' split
  all_goals simp

@[simp] theorem healthReturn_fixed (pass : Bool) : (healthReturn pass s).1.fixed = s.fixed := by
  unfold healthReturn
  split <;> simp

@[simp] theorem clearFaults_fixed : (clearFaults s).fixed = s.fixed := by
  unfold clearFaults
  split <;> simp

@[simp] theorem healthCommand_fixed (pass : Bool) (v : Val) : (healthCommand pass s v).1.fixed = s.fixed := by
  unfold healthCommand
  split
  · simp
  · simp
  · split <;> simp

@[simp] theorem State.heartbeat_fixed (d : Die) : (s.heartbeat d).fixed = s.fixed := by
  simp [State.heartbeat]

@[simp] theorem State.heartbeatTimeout_fixed (d : Die) : (s.heartbeatTimeout d).fixed = s.fixed := by
  simp [State.heartbeatTimeout]

@[simp] theorem State.linkCrc_fixed (xfer : Nat) : (s.linkCrc xfer).fixed = s.fixed := by
  simp [State.linkCrc]

@[simp] theorem State.watchdog_fixed (p : Proc) (d : Nat) : (s.watchdog p d).fixed = s.fixed := by
  unfold State.watchdog
  split <;> simp

@[simp] theorem State.restarted_fixed (p : Proc) (d : Nat) : (s.restarted p d).fixed = s.fixed := by
  simp [State.restarted]

@[simp] theorem State.paceLow_fixed (r pace : Nat) : (s.paceLow r pace).fixed = s.fixed := by
  simp [State.paceLow]

@[simp] theorem State.paceBack_fixed (r pace : Nat) : (s.paceBack r pace).fixed = s.fixed := by
  simp [State.paceBack]

/-! #### Memory (chapter 12) -/

@[simp] theorem State.refreshDue_fixed (bursts : List (Nat × Nat)) : (s.refreshDue bursts).fixed = s.fixed := by
  simp [State.refreshDue]

@[simp] theorem State.refreshEnd_fixed : s.refreshEnd.fixed = s.fixed := by
  simp [State.refreshEnd]

@[simp] theorem State.tempPoll_fixed (temps : List Int) : (s.tempPoll temps).fixed = s.fixed := by
  unfold State.tempPoll
  split <;> simp

@[simp] theorem State.demandIn_fixed (d : Nat) : (s.demandIn d).fixed = s.fixed := by
  unfold State.demandIn
  dsimp only
  repeat' split
  all_goals simp

@[simp] theorem setPoint_fixed (v : Val) : (setPoint s v).1.fixed = s.fixed := by
  simp [setPoint]

@[simp] theorem State.spChange_fixed : s.spChange.fixed = s.fixed := by
  unfold State.spChange
  split <;> simp

@[simp] theorem State.trainingOver_fixed : s.trainingOver.fixed = s.fixed := by
  simp [State.trainingOver]

@[simp] theorem State.trainingFailed_fixed (sp : Nat) : (s.trainingFailed sp).fixed = s.fixed := by
  simp [State.trainingFailed]

@[simp] theorem State.spDone_fixed (ok : Bool) : (s.spDone ok).fixed = s.fixed := by
  simp [State.spDone]

@[simp] theorem State.memInit_fixed : s.memInit.fixed = s.fixed := by
  simp [State.memInit]

@[simp] theorem State.bootTrained_fixed (reached : List (Option Nat)) : (s.bootTrained reached).fixed = s.fixed := by
  unfold State.bootTrained
  dsimp only
  repeat' split
  all_goals simp

@[simp] theorem State.memEvent_fixed (w addr : Nat) : (s.memEvent w addr).fixed = s.fixed := by
  simp [State.memEvent]

@[simp] theorem State.scrub_fixed (errs : List Nat) : (s.scrub errs).fixed = s.fixed := by
  simp [State.scrub]

@[simp] theorem State.dramCorrected_fixed (w : Nat) : (s.dramCorrected w).fixed = s.fixed := by
  simp [State.dramCorrected]

@[simp] theorem State.dramHit_fixed (w : Nat) (hit : List Nat) : (s.dramHit w hit).fixed = s.fixed := by
  unfold State.dramHit
  split
  · exact foldl_fixed (fun s p => by split <;> simp) _ _
  · simp
  · simp
  · split
    · split <;> simp
    · simp
  · simp
  · simp
  · simp
  · split <;> simp
  · simp
  · rfl

@[simp] theorem State.dramError_fixed (w addr : Nat) (hit : List Nat) : (s.dramError w addr hit).fixed = s.fixed := by
  simp [State.dramError]

@[simp] theorem State.sramError_fixed (x k col : Nat) (ledger : Bool) : (s.sramError x k col ledger).fixed = s.fixed := by
  simp [State.sramError]

/-! #### Checks and the tally (chapter 16) -/

@[simp] theorem State.setCheck_fixed (u : Nat) (g : CheckS) : (s.setCheck u g).fixed = s.fixed := by
  simp [State.setCheck]

@[simp] theorem checkWrite_fixed (sub : Nat) (v : Val) : (checkWrite sub s v).1.fixed = s.fixed := by
  unfold checkWrite
  split <;> simp

@[simp] theorem checkClear_fixed (sub : Nat) : (checkClear sub s).fixed = s.fixed := by
  simp [checkClear]

@[simp] theorem State.checkAlert_fixed (u kind value : Nat) : (s.checkAlert u kind value).fixed = s.fixed := by
  simp [State.checkAlert]

@[simp] theorem State.checkCount_fixed (u sub old : Nat) (set : Nat → CheckS) : (s.checkCount u sub old set).fixed = s.fixed := by
  simp [State.checkCount]

@[simp] theorem State.checkBytes_fixed (u : Nat) (b : List Byte) (source : Option Nat) :
    (s.checkBytes u b source).fixed = s.fixed := by
  unfold State.checkBytes
  split <;> simp

@[simp] theorem State.checkAlive_fixed (u a : Nat) : (s.checkAlive u a).fixed = s.fixed := by
  simp [State.checkAlive]

@[simp] theorem State.checkItem_fixed (u : Nat) (i : Item) : (s.checkItem u i).fixed = s.fixed := by
  unfold State.checkItem
  dsimp only
  repeat' split
  all_goals simp

@[simp] theorem State.summaryRead_fixed : s.summaryRead.fixed = s.fixed := by
  simp [State.summaryRead]

@[simp] theorem State.snapshot_fixed (k : Nat) : (s.snapshot k).fixed = s.fixed := by
  simp [State.snapshot]

@[simp] theorem State.checkWords_fixed : s.checkWords.fixed = s.fixed := by
  simp [State.checkWords]

@[simp] theorem fastMap_fixed (v : Val) : (fastMap s v).1.fixed = s.fixed := by
  simp [fastMap]

/-! #### Reads of the dictionary -/

@[simp] theorem readEffect_fixed (idx sub : Nat) : (readEffect idx sub s).1.fixed = s.fixed := by
  unfold readEffect readEffect.readReceipts
  split
  · rfl
  split
  · exact clearRead_fixed ..
  split
  · exact capRead_fixed ..
  split
  · exact clearRead_fixed ..
  split
  · exact clearRead_fixed ..
  split
  · exact State.readReceipts_fixed ..
  split
  · exact lvsStatus_fixed ..
  · rfl

@[simp] theorem State.readBy_fixed (r : Req) (idx sub : Nat) : (s.readBy r idx sub).1.fixed = s.fixed := by
  unfold State.readBy
  split <;> simp

/-! #### Stores (R518 to R522) -/

@[simp] theorem State.putStore_fixed (img : Tab Val) : (s.putStore img).fixed = s.fixed := by
  simp [State.putStore]

@[simp] theorem State.writeImage_fixed (img : Tab Val) (ok : Bool) : (s.writeImage img ok).1.fixed = s.fixed := by
  simp [State.writeImage]

@[simp] theorem storeGroup_fixed (g : Nat) (ok : Bool) (v : Val) : (storeGroup g ok s v).1.fixed = s.fixed := by
  simp [storeGroup]

@[simp] theorem restoreGroup_fixed (g : Nat) (v : Val) : (restoreGroup g s v).1.fixed = s.fixed := by
  simp [restoreGroup]

@[simp] theorem importWrite_fixed (v : Val) : (importWrite s v).1.fixed = s.fixed := by
  unfold importWrite
  split <;> simp

@[simp] theorem State.importResult_fixed (v : Val) : (s.importResult v).fixed = s.fixed := by
  unfold State.importResult
  split <;> simp

/-! #### The cascade (R561 to R583) -/

@[simp] theorem State.refreshSources_fixed : s.refreshSources.fixed = s.fixed := by
  simp [State.refreshSources]

@[simp] theorem State.genBegins_fixed (g : Nat) : (s.genBegins g).fixed = s.fixed := by
  simp [State.genBegins]

@[simp] theorem State.sendImage_fixed (dst : Nat) : (s.sendImage dst).fixed = s.fixed := by
  simp [State.sendImage]

@[simp] theorem State.sendNewJoiners_fixed (old : Tab EntS) : (s.sendNewJoiners old).fixed = s.fixed := by
  simp [State.sendNewJoiners]

@[simp] theorem State.sysJoin_fixed : s.sysJoin.fixed = s.fixed := by
  simp [State.sysJoin]

@[simp] theorem State.sysFence_fixed (cause : Nat) : (s.sysFence cause).fixed = s.fixed := by
  simp [State.sysFence]

@[simp] theorem State.probe6_fixed (p : Nat) : (s.probe6 p).fixed = s.fixed := by
  simp [State.probe6]

@[simp] theorem State.announce_fixed (p : Nat) : (s.announce p).fixed = s.fixed := by
  simp [State.announce]

@[simp] theorem State.useImage_fixed (p : Nat) : (s.useImage p).fixed = s.fixed := by
  simp [State.useImage]

@[simp] theorem State.takeRole_fixed (p : Nat) : (s.takeRole p).fixed = s.fixed := by
  unfold State.takeRole
  extract_lets reset closed stopped used sys joined flash stored shown refreshed started judged
  have hused : used.fixed = s.fixed := by simp [used, stopped, closed, reset]
  have hjoined : joined.fixed = used.fixed := State.fixed_mk ..
  have hstored : stored.fixed = joined.fixed := State.fixed_ite_eq rfl (State.fixed_mk ..)
  have hjudged : judged.fixed = stored.fixed := by simp [judged, started, refreshed, shown]
  simp [hjudged, hstored, hjoined, hused]

@[simp] theorem State.quorumCheck_fixed : s.quorumCheck.fixed = s.fixed := by
  simp [State.quorumCheck]

@[simp] theorem State.startGeneration_fixed : s.startGeneration.fixed = s.fixed := by
  simp [State.startGeneration]

@[simp] theorem State.superCheck_fixed : s.superCheck.fixed = s.fixed := by
  simp [State.superCheck]

@[simp] theorem State.presenceOut_fixed : s.presenceOut.fixed = s.fixed := by
  simp [State.presenceOut]

@[simp] theorem State.declarePackage_fixed (p : Nat) : (s.declarePackage p).fixed = s.fixed := by
  unfold State.declarePackage
  dsimp only
  refine State.fixed_ite_eq ?_ ?_
  · simp only [State.takeRole_fixed, State.refreshSources_fixed, State.presenceOut_fixed, State.raise_fixed, State.bump_fixed,
      State.genBegins_fixed]
    split <;> simp
  · simp only [State.refreshSources_fixed, State.presenceOut_fixed, State.raise_fixed, State.bump_fixed, State.genBegins_fixed]
    split <;> simp

@[simp] theorem State.declareAbsent_fixed : s.declareAbsent.fixed = s.fixed := by
  simp [State.declareAbsent]

@[simp] theorem State.sysEval_fixed : s.sysEval.fixed = s.fixed := by
  simp [State.sysEval]

@[simp] theorem State.presenceSend_fixed : s.presenceSend.fixed = s.fixed := by
  simp [State.presenceSend]

@[simp] theorem State.afterAdopt_fixed : s.afterAdopt.fixed = s.fixed := by
  unfold State.afterAdopt
  split
  · rfl
  · dsimp only
    split <;> simp

@[simp] theorem State.adopt_fixed (gen : Nat) (b : List Byte) : (s.adopt gen b).fixed = s.fixed := by
  simp [State.adopt]

@[simp] theorem State.heard_fixed (src : Nat) (b : List Byte) (joined : Bool) : (s.heard src b joined).fixed = s.fixed := by
  simp [State.heard]

@[simp] theorem State.joinCheck_fixed (src : Nat) (b : List Byte) : (s.joinCheck src b).fixed = s.fixed := by
  simp [State.joinCheck]

@[simp] theorem State.presenceTake_fixed (f : SpFrame) : (s.presenceTake f).fixed = s.fixed := by
  simp [State.presenceTake]

@[simp] theorem State.packageAbsent_fixed (p : Nat) : (s.packageAbsent p).fixed = s.fixed := by
  simp [State.packageAbsent]

@[simp] theorem State.joinGrace_fixed (p : Nat) : (s.joinGrace p).fixed = s.fixed := by
  simp [State.joinGrace]

@[simp] theorem State.selfFence_fixed : s.selfFence.fixed = s.fixed := by
  unfold State.selfFence
  split <;> simp

@[simp] theorem State.rejoinSend_fixed : s.rejoinSend.fixed = s.fixed := by
  simp [State.rejoinSend]

@[simp] theorem State.rejoinAsked_fixed (b : List Byte) : (s.rejoinAsked b).fixed = s.fixed := by
  unfold State.rejoinAsked
  dsimp only
  repeat' split
  all_goals simp

@[simp] theorem State.rejoinGranted_fixed (f : SpFrame) : (s.rejoinGranted f).fixed = s.fixed := by
  simp [State.rejoinGranted]

@[simp] theorem State.joinedSpare_fixed : s.joinedSpare.fixed = s.fixed := by
  simp [State.joinedSpare]

@[simp] theorem State.imagePart_fixed (b : List Byte) : (s.imagePart b).fixed = s.fixed := by
  simp [State.imagePart]

@[simp] theorem State.setDigest_fixed (st node actual : Nat) : (s.setDigest st node actual).fixed = s.fixed := by
  simp [State.setDigest]

@[simp] theorem State.compareOwn_fixed : s.compareOwn.fixed = s.fixed := by
  simp [State.compareOwn]

@[simp] theorem State.digestOut_fixed : s.digestOut.fixed = s.fixed := by
  simp [State.digestOut]

@[simp] theorem State.digestIn_fixed (f : SpFrame) : (s.digestIn f).fixed = s.fixed := by
  simp [State.digestIn]

@[simp] theorem State.adoptTree_fixed : s.adoptTree.1.fixed = s.fixed := by
  simp [State.adoptTree]

@[simp] theorem State.declareNamed_fixed : s.declareNamed.1.fixed = s.fixed := by
  simp [State.declareNamed]

@[simp] theorem State.askRejoin_fixed : s.askRejoin.1.fixed = s.fixed := by
  simp [State.askRejoin]

/-! #### Incoming relays (R570 to R574) -/

@[simp] theorem State.relayCharge_fixed (source mode : Nat) : (s.relayCharge source mode).2.fixed = s.fixed := by
  unfold State.relayCharge
  dsimp only
  repeat' split
  all_goals simp

@[simp] theorem State.relayAdmit_fixed (no source mode : Nat) : (s.relayAdmit no source mode).1.fixed = s.fixed := by
  unfold State.relayAdmit
  dsimp only
  repeat' split
  all_goals simp

@[simp] theorem State.relayOpened_fixed (b : List Byte) : (s.relayOpened b).fixed = s.fixed := by
  simp [State.relayOpened]

@[simp] theorem State.relayClosed_fixed (b : List Byte) : (s.relayClosed b).fixed = s.fixed := by
  simp [State.relayClosed]

@[simp] theorem State.relayAgain_fixed (b : List Byte) : (s.relayAgain b).fixed = s.fixed := by
  unfold State.relayAgain
  dsimp only
  split <;> simp

@[simp] theorem State.setRin_fixed (n : Nat) (g : RelayInS) : (s.setRin n g).fixed = s.fixed := by
  simp [State.setRin]

@[simp] theorem State.relayAnswer_fixed (b : List Byte) : (s.relayAnswer b).fixed = s.fixed := by
  unfold State.relayAnswer
  split <;> simp

@[simp] theorem State.recordLabel_fixed (n : Nat) (r : List Byte) : (s.recordLabel n r).1.fixed = s.fixed := by
  simp [State.recordLabel]

@[simp] theorem State.relayDone_fixed (n : Nat) : (s.relayDone n).fixed = s.fixed := by
  unfold State.relayDone
  dsimp only
  repeat' split
  all_goals simp

@[simp] theorem State.relayTimeout_fixed (n : Nat) : (s.relayTimeout n).fixed = s.fixed := by
  simp [State.relayTimeout]

@[simp] theorem State.pixelStrip_fixed (b : List Byte) : (s.pixelStrip b).fixed = s.fixed := by
  unfold State.pixelStrip
  dsimp only
  repeat' split
  all_goals simp

@[simp] theorem State.relayUnitIn_fixed (n : Nat) (r unit : List Byte) : (s.relayUnitIn n r unit).fixed = s.fixed := by
  simp [State.relayUnitIn]

@[simp] theorem State.takeRecords_fixed (n k : Nat) : (State.takeRecords n k s).fixed = s.fixed := by
  induction k generalizing s with
  | zero => rfl
  | succ k ih => simp [State.takeRecords, ih]

@[simp] theorem State.takeMessages_fixed (n k : Nat) : (State.takeMessages n k s).fixed = s.fixed := by
  induction k generalizing s with
  | zero => rfl
  | succ k ih => simp [State.takeMessages, ih]

@[simp] theorem State.relayBreak_fixed (n next : Nat) : (s.relayBreak n next).fixed = s.fixed := by
  simp [State.relayBreak]

@[simp] theorem State.streamRelay_fixed (b : List Byte) : (s.streamRelay b).fixed = s.fixed := by
  unfold State.streamRelay
  split <;> simp

/-! #### Restarts and quiet mode (R588 to R602, R616 to R619) -/

@[simp] theorem State.lines_fixed (old : State) : (State.lines old s).fixed = s.fixed := by
  simp [State.lines]

@[simp] theorem State.bootActive_fixed (verdict : Nat) : (s.bootActive verdict).fixed = s.fixed := by
  simp [State.bootActive]

@[simp] theorem State.dropPartial_fixed : s.dropPartial.fixed = s.fixed := by
  simp [State.dropPartial]

@[simp] theorem State.fellBack_fixed (cause : Nat) : (s.fellBack cause).fixed = s.fixed := by
  simp [State.fellBack]

@[simp] theorem State.bootSlot_fixed (vA vB : Nat) : (s.bootSlot vA vB).fixed = s.fixed := by
  simp [State.bootSlot]

@[simp] theorem State.unverifyLayers_fixed : s.unverifyLayers.fixed = s.fixed := by
  simp [State.unverifyLayers]

@[simp] theorem State.serviceScreens_fixed : s.serviceScreens.fixed = s.fixed := by
  simp [State.serviceScreens]

@[simp] theorem State.stopTraffic_fixed : s.stopTraffic.fixed = s.fixed := by
  simp [State.stopTraffic]

@[simp] theorem State.pause_fixed (back : Bool) : (s.pause back).fixed = s.fixed := by
  have h : (([0, 1].foldl (fun s p => s.stopTouch p scanOff) ((s.releaseLock 4).unverifyLayers.stopTraffic)).serviceScreens).fixed =
      s.fixed := by simp
  unfold State.pause
  dsimp only
  generalize State.serviceScreens _ = z at h ⊢
  simp only [State.wn_fixed, State.memInit_fixed]
  rw [← h]
  exact State.fixed_ext rfl rfl rfl rfl rfl

@[simp] theorem State.romChecked_fixed (verdict : Nat) (bad : List Nat) : (s.romChecked verdict bad).fixed = s.fixed := by
  simp [State.romChecked]

@[simp] theorem State.drainLog_fixed : s.drainLog.fixed = s.fixed := by
  simp [State.drainLog]

@[simp] theorem State.quietTouch_fixed (p : Nat) : (s.quietTouch p).fixed = s.fixed := by
  simp [State.quietTouch]

@[simp] theorem State.enterQuiet_fixed (cause : Nat) : (s.enterQuiet cause).fixed = s.fixed := by
  simp [State.enterQuiet]

@[simp] theorem State.quietCheck_fixed : s.quietCheck.fixed = s.fixed := by
  simp [State.quietCheck]

@[simp] theorem State.wakeTouch_fixed (p : Nat) : (s.wakeTouch p).fixed = s.fixed := by
  simp [State.wakeTouch]

@[simp] theorem State.wakeUp_fixed : s.wakeUp.fixed = s.fixed := by
  have h : ((s.wakeTouch 0).wakeTouch 1).fixed = s.fixed := by simp
  unfold State.wakeUp
  split
  · rfl
  · dsimp only
    simp only [State.wn_fixed]
    exact Eq.trans (State.fixed_ext rfl rfl rfl rfl rfl) h

/-! #### Field updates (chapter 18) -/

@[simp] theorem State.updTouch_fixed (r : Req) : (s.updTouch r).fixed = s.fixed := by
  simp [State.updTouch]

@[simp] theorem State.updOpen_fixed (r : Req) : (s.updOpen r).1.fixed = s.fixed := by
  unfold State.updOpen
  split <;> simp

@[simp] theorem State.updClose_fixed (r : Req) : (s.updClose r).1.fixed = s.fixed := by
  simp [State.updClose]

@[simp] theorem State.updFinish_fixed : s.updFinish.1.fixed = s.fixed := by
  simp [State.updFinish]

@[simp] theorem State.updActivate_fixed : s.updActivate.1.fixed = s.fixed := by
  simp [State.updActivate]

@[simp] theorem State.updConfirm_fixed : s.updConfirm.1.fixed = s.fixed := by
  simp [State.updConfirm]

@[simp] theorem State.fallBack_fixed (cause : Nat) : (s.fallBack cause).fixed = s.fixed := by
  simp [State.fallBack]

@[simp] theorem State.updFallBack_fixed : s.updFallBack.1.fixed = s.fixed := by
  simp [State.updFallBack]

@[simp] theorem State.updAbandon_fixed : s.updAbandon.1.fixed = s.fixed := by
  simp [State.updAbandon]

@[simp] theorem updChunk_fixed (r : Req) (v : Val) : (updChunk r s v).1.fixed = s.fixed := by
  simp [updChunk]

@[simp] theorem State.chunkDone_fixed : s.chunkDone.fixed = s.fixed := by
  unfold State.chunkDone
  split <;> simp

@[simp] theorem State.verified_fixed (wrong : List (Nat × Byte)) : (s.verified wrong).fixed = s.fixed := by
  simp [State.verified]

@[simp] theorem State.lockTimeout_fixed : s.lockTimeout.fixed = s.fixed := by
  simp [State.lockTimeout]

@[simp] theorem State.windowOut_fixed : s.windowOut.fixed = s.fixed := by
  unfold State.windowOut
  split <;> simp

@[simp] theorem State.convertedWritten_fixed : s.convertedWritten.fixed = s.fixed := by
  simp [State.convertedWritten]

/-! #### Power (chapter 19) -/

@[simp] theorem State.vinFail_fixed : s.vinFail.fixed = s.fixed := by
  simp [State.vinFail]

@[simp] theorem State.supplyOut_fixed (mV : Nat) : (s.supplyOut mV).fixed = s.fixed := by
  simp [State.supplyOut]

@[simp] theorem State.supplyBack_fixed (mV : Nat) : (s.supplyBack mV).fixed = s.fixed := by
  simp [State.supplyBack]

@[simp] theorem quietWrite_fixed (v : Val) : (quietWrite s v).1.fixed = s.fixed := by
  simp [quietWrite]

theorem State.requestFirst_fixed (r : Req) (idx sub : Nat) (data : List Byte) {eff : State → Val → State × Nat}
    (h : ∀ s v, (eff s v).1.fixed = s.fixed) : (s.requestFirst r idx sub data eff).fixed = s.fixed := by
  simp [State.requestFirst, State.write_fixed, h]

@[simp] theorem State.pinLow_fixed : s.pinLow.fixed = s.fixed := by
  simp [State.pinLow]

@[simp] theorem State.pinRise_fixed : s.pinRise.fixed = s.fixed := by
  simp [State.pinRise]

@[simp] theorem State.putTemp_fixed (d : Die) (temp : Int) : (s.putTemp d temp).fixed = s.fixed := by
  simp [State.putTemp]

@[simp] theorem State.tempOver_fixed (d : Die) (temp : Int) : (s.tempOver d temp).fixed = s.fixed := by
  simp [State.tempOver]

@[simp] theorem State.tempBack_fixed (d : Die) (temp : Int) : (s.tempBack d temp).fixed = s.fixed := by
  simp [State.tempBack]

@[simp] theorem State.trialFrame_fixed (x : Nat) : (s.trialFrame x).fixed = s.fixed := by
  simp [State.trialFrame]

/-! #### Writes of the dictionary (R13 to R17) -/

@[simp] theorem State.changeResult_fixed (id tag result pkg : Nat) : (s.changeResult id tag result pkg).fixed = s.fixed := by
  simp [State.changeResult]

@[simp] theorem State.nextChange_fixed : s.nextChange.2.fixed = s.fixed := by
  simp [State.nextChange]

@[simp] theorem State.changeBusy_fixed (v : Val) : (s.changeBusy v).1.fixed = s.fixed := by
  simp [State.changeBusy]

@[simp] theorem State.dropTarget_fixed (src id : Nat) : (s.dropTarget src id).fixed = s.fixed := by
  unfold State.dropTarget
  split <;> simp

@[simp] theorem State.abortChange_fixed (result pkg : Nat) : (s.abortChange result pkg).fixed = s.fixed := by
  unfold State.abortChange
  split <;> simp

@[simp] theorem State.abortNamed_fixed : s.abortNamed.1.fixed = s.fixed := by
  unfold State.abortNamed
  split <;> simp

@[simp] theorem State.canReset_fixed (c : Nat) : (s.canReset c).fixed = s.fixed := by
  simp [State.canReset]

@[simp] theorem State.canStart_fixed (c : Nat) : (s.canStart c).fixed = s.fixed := by
  simp [State.canStart]

@[simp] theorem canEnable_fixed (c : Nat) (v : Val) : (canEnable c s v).1.fixed = s.fixed := by
  simp [canEnable]

@[simp] theorem mapWrite_fixed (k sub : Nat) (v : Val) : (mapWrite k sub s v).1.fixed = s.fixed := by
  simp [mapWrite]

@[simp] theorem keyWrite_fixed (sub : Nat) (v : Val) : (keyWrite sub s v).1.fixed = s.fixed := by
  simp [keyWrite]

@[simp] theorem zdpObject_fixed (sub : Nat) (v : Val) : (zdpObject sub s v).1.fixed = s.fixed := by
  simp [zdpObject]

@[simp] theorem errClear_fixed (v : Val) : (errClear s v).1.fixed = s.fixed := by
  simp [errClear]

@[simp] theorem portWrite_fixed (p sub : Nat) (v : Val) : (portWrite p sub s v).1.fixed = s.fixed := by
  simp [portWrite]

@[simp] theorem sessWrite_fixed (n sub : Nat) (v : Val) : (sessWrite n sub s v).1.fixed = s.fixed := by
  unfold sessWrite
  dsimp only
  repeat' split
  all_goals simp

@[simp] theorem zttDecl_fixed (n sub : Nat) (v : Val) : (zttDecl n sub s v).1.fixed = s.fixed := by
  simp [zttDecl]

@[simp] theorem admissionWrite_fixed (sub : Nat) (v : Val) : (admissionWrite sub s v).1.fixed = s.fixed := by
  simp [admissionWrite]

@[simp] theorem decodeWrite_fixed (sub : Nat) (v : Val) : (decodeWrite sub s v).1.fixed = s.fixed := by
  unfold decodeWrite
  split <;> simp

@[simp] theorem encodeWrite_fixed (e sub : Nat) (v : Val) : (encodeWrite e sub s v).1.fixed = s.fixed := by
  simp [encodeWrite]

@[simp] theorem powerWrite_fixed (sub : Nat) (v : Val) : (powerWrite sub s v).1.fixed = s.fixed := by
  simp [powerWrite]

@[simp] theorem systemWrite_fixed (sub : Nat) (v : Val) : (systemWrite sub s v).1.fixed = s.fixed := by
  unfold systemWrite
  dsimp only
  repeat' split
  all_goals simp

@[simp] theorem counterClear_fixed (idx sub : Nat) : (counterClear idx sub s).fixed = s.fixed := by
  simp [counterClear]

@[simp] theorem writeComm_fixed (idx sub : Nat) (v : Val) : (writeComm idx sub s v).1.fixed = s.fixed := by
  simp [writeComm]

@[simp] theorem writeMedia_fixed (idx sub : Nat) (v : Val) : (writeMedia idx sub s v).1.fixed = s.fixed := by
  simp [writeMedia]

@[simp] theorem writePicture_fixed (idx sub : Nat) (v : Val) : (writePicture idx sub s v).1.fixed = s.fixed := by
  simp [writePicture]

@[simp] theorem writeLive_fixed (idx sub : Nat) (v : Val) : (writeLive idx sub s v).1.fixed = s.fixed := by
  simp [writeLive]

@[simp] theorem writeLink_fixed (idx sub : Nat) (v : Val) : (writeLink idx sub s v).1.fixed = s.fixed := by
  simp [writeLink]

@[simp] theorem State.refusedNote_fixed (idx sub st : Nat) (v : Val) : (s.refusedNote idx sub st v).fixed = s.fixed := by
  simp [State.refusedNote]

/-! #### Change sets (R575 to R583) -/

@[simp] theorem State.imageEntry_fixed (e : ChEntry) : (s.imageEntry e).fixed = s.fixed := by
  unfold State.imageEntry
  dsimp only
  repeat' split
  all_goals simp

@[simp] theorem State.asLanded_fixed (old : State) : (s.asLanded old).fixed = s.fixed := by
  simp [State.asLanded]

@[simp] theorem State.takeStaged_fixed (src id result status entry root : Nat) (roles : List (Nat × Nat)) :
    (s.takeStaged src id result status entry root roles).fixed = s.fixed := by
  unfold State.takeStaged
  split <;> simp

@[simp] theorem State.takeApplied_fixed (src id root : Nat) (roles : List (Nat × Nat)) :
    (s.takeApplied src id root roles).fixed = s.fixed := by
  unfold State.takeApplied
  split <;> simp

@[simp] theorem State.stageWhole_fixed (g : TargetS) : (s.stageWhole g).fixed = s.fixed := by
  unfold State.stageWhole
  dsimp only
  exact State.fixed_ite_eq (by simp) (by simp)

@[simp] theorem State.stageTake_fixed (src : Nat) (b : List Byte) : (s.stageTake src b).fixed = s.fixed := by
  simp [State.stageTake]

@[simp] theorem State.stageOut_fixed (p id : Nat) (data : List Byte) : (s.stageOut p id data).fixed = s.fixed := by
  simp [State.stageOut]

@[simp] theorem State.beginChange_fixed (data : List Byte) (es : List ChEntry) : (s.beginChange data es).fixed = s.fixed := by
  simp [State.beginChange]

@[simp] theorem changeSet_fixed (v : Val) : (changeSet s v).1.fixed = s.fixed := by
  unfold changeSet
  dsimp only
  repeat' split
  all_goals simp

@[simp] theorem State.notSupervisor_fixed (st : Nat) (v : Val) : (s.notSupervisor st v).fixed = s.fixed := by
  simp [State.notSupervisor]

@[simp] theorem State.stageTimeout_fixed : s.stageTimeout.fixed = s.fixed := by
  unfold State.stageTimeout
  split <;> simp

@[simp] theorem State.armTake_fixed (src : Nat) (b : List Byte) : (s.armTake src b).fixed = s.fixed := by
  unfold State.armTake
  split <;> simp

@[simp] theorem State.armedTake_fixed (src : Nat) (b : List Byte) : (s.armedTake src b).fixed = s.fixed := by
  unfold State.armedTake
  split <;> simp

@[simp] theorem State.armTimeout_fixed : s.armTimeout.fixed = s.fixed := by
  unfold State.armTimeout
  split <;> simp

@[simp] theorem State.changeSettled_fixed : s.changeSettled.fixed = s.fixed := by
  unfold State.changeSettled
  split <;> simp

@[simp] theorem State.appliedTake_fixed (src : Nat) (b : List Byte) : (s.appliedTake src b).fixed = s.fixed := by
  simp [State.appliedTake]

/-! #### Part transfers and the dictionary (R514 to R518) -/

@[simp] theorem State.partRead_fixed (r : Req) (idx sub off cap : Nat) : (s.partRead r idx sub off cap).1.fixed = s.fixed := by
  unfold State.partRead
  dsimp only
  repeat' split
  all_goals simp

@[simp] theorem State.partTimeout_fixed (r : Req) : (s.partTimeout r).fixed = s.fixed := by
  simp [State.partTimeout]

@[simp] theorem State.fastEntry_fixed (k e : Nat) : (s.fastEntry k e).fixed = s.fixed := by
  unfold State.fastEntry
  dsimp only
  repeat' split
  all_goals simp

@[simp] theorem State.fastRefresh_fixed : s.fastRefresh.fixed = s.fixed := by
  simp [State.fastRefresh]

@[simp] theorem State.loadValues_fixed (img : Tab Val) : (s.loadValues img).fixed = s.fixed := by
  simp [State.loadValues]

@[simp] theorem State.dropConflicts_fixed (img : Tab Val) : (s.dropConflicts img).fixed = s.fixed := by
  simp [State.dropConflicts]

@[simp] theorem State.loadStore_fixed (readable : Bool) : (s.loadStore readable).fixed = s.fixed := by
  simp [State.loadStore]

@[simp] theorem State.bootSpares_fixed : s.bootSpares.fixed = s.fixed := by
  simp [State.bootSpares]

@[simp] theorem State.bootScreens_fixed (old : State) : (s.bootScreens old).fixed = s.fixed := by
  simp [State.bootScreens]

@[simp] theorem State.bootTriggers_fixed : s.bootTriggers.fixed = s.fixed := by
  simp [State.bootTriggers]

@[simp] theorem State.bootTouch_fixed (p : Nat) : (s.bootTouch p).fixed = s.fixed := by
  simp [State.bootTouch]

@[simp] theorem State.bootPorts_fixed : s.bootPorts.fixed = s.fixed := by
  simp [State.bootPorts]

@[simp] theorem State.bootCan_fixed (c : Nat) : (s.bootCan c).fixed = s.fixed := by
  simp [State.bootCan]

@[simp] theorem State.bootSystem_fixed : s.bootSystem.fixed = s.fixed := by
  simp [State.bootSystem]

@[simp] theorem State.dictLoad_fixed (readable : Bool) : (s.dictLoad readable).fixed = s.fixed := by
  simp [State.dictLoad]

@[simp] theorem State.survivorLoaded_fixed : s.survivorLoaded.fixed = s.fixed := by
  simp [State.survivorLoaded]

/-! #### CAN (R519 to R526) -/

@[simp] theorem State.setCan_fixed (c : Nat) (g : CanS) : (s.setCan c g).fixed = s.fixed := by
  simp [State.setCan]

@[simp] theorem State.endTransfer_fixed (c : Nat) : (s.endTransfer c).fixed = s.fixed := by
  simp [State.endTransfer]

@[simp] theorem State.segTimeout_fixed (c : Nat) : (s.segTimeout c).fixed = s.fixed := by
  unfold State.segTimeout
  split <;> simp

@[simp] theorem State.tpdoOut_fixed (k : Nat) (ports : List Nat) : (s.tpdoOut k ports).fixed = s.fixed := by
  simp [State.tpdoOut]

@[simp] theorem State.tpdoSync_fixed (k : Nat) : (s.tpdoSync k).fixed = s.fixed := by
  simp [State.tpdoSync]

@[simp] theorem State.tpdoTimer_fixed (k : Nat) : (s.tpdoTimer k).fixed = s.fixed := by
  simp [State.tpdoTimer]

@[simp] theorem State.tpdoChanged_fixed (k : Nat) : (s.tpdoChanged k).fixed = s.fixed := by
  simp [State.tpdoChanged]

@[simp] theorem State.nmtStart_fixed (c : Nat) : (s.nmtStart c).fixed = s.fixed := by
  simp [State.nmtStart]

@[simp] theorem State.nmtStop_fixed (c : Nat) : (s.nmtStop c).fixed = s.fixed := by
  simp [State.nmtStop]

@[simp] theorem State.nmtReset_fixed (c : Nat) : (s.nmtReset c).fixed = s.fixed := by
  simp [State.nmtReset]

@[simp] theorem State.canBeat_fixed (c : Nat) : (s.canBeat c).fixed = s.fixed := by
  simp [State.canBeat]

@[simp] theorem State.emcySend_fixed (c : Nat) : (s.emcySend c).fixed = s.fixed := by
  unfold State.emcySend
  dsimp only
  split <;> simp

@[simp] theorem State.canPassive_fixed (c tec recCount : Nat) : (s.canPassive c tec recCount).fixed = s.fixed := by
  simp [State.canPassive]

@[simp] theorem State.canActive_fixed (c : Nat) : (s.canActive c).fixed = s.fixed := by
  simp [State.canActive]

@[simp] theorem State.canBusOff_fixed (c : Nat) : (s.canBusOff c).fixed = s.fixed := by
  simp [State.canBusOff]

@[simp] theorem State.canRecovered_fixed (c : Nat) : (s.canRecovered c).fixed = s.fixed := by
  simp [State.canRecovered]

/-! #### ZDP (R527 to R530) -/

@[simp] theorem State.zdpReject_fixed : s.zdpReject.fixed = s.fixed := by
  simp [State.zdpReject]

@[simp] theorem State.zdpAnswer_fixed (f : ZdpFrame) (b : List Byte) : (s.zdpAnswer f b).fixed = s.fixed := by
  simp [State.zdpAnswer]

theorem State.zdpFrame_fixed (f : ZdpFrame) (ty : Nat) {act : State → State} (h : ∀ s, (act s).fixed = s.fixed) :
    (s.zdpFrame f ty act).fixed = s.fixed := by
  simp [State.zdpFrame, h]

@[simp] theorem State.zdpHello_fixed (f : ZdpFrame) (nonce : List Byte) : (s.zdpHello f nonce).fixed = s.fixed := by
  simp [State.zdpHello]

@[simp] theorem State.zdpCloseFrame_fixed (f : ZdpFrame) : (s.zdpCloseFrame f).fixed = s.fixed := by
  unfold State.zdpCloseFrame
  dsimp only
  split <;> simp

@[simp] theorem State.zdpIdle_fixed (n : Nat) : (s.zdpIdle n).fixed = s.fixed := by
  unfold State.zdpIdle
  split <;> simp

end Fixed

/-- What a command may do to that part once time has passed to its tick: the queue and the clock stay, what is programmed once stays
but for revoked bits, none of which clears (R590, R591), and a time value that a TIME96 can carry stays one (R164). -/
structure Fixed.Onward (a b : Fixed) : Prop where
  pending : b.pending = a.pending
  clock : b.clock = a.clock
  otp : b.otp = { a.otp with revoked := b.otp.revoked }
  revoked : ∀ k, a.otp.revoked.testBit k = true → b.otp.revoked.testBit k = true
  time : a.ns < 1000000000 ∧ a.frac < 4294967296 → b.ns < 1000000000 ∧ b.frac < 4294967296

@[simp] theorem Fixed.Onward.refl (a : Fixed) : a.Onward a := ⟨rfl, rfl, rfl, fun _ h => h, id⟩

theorem Fixed.Onward.trans {a b c : Fixed} (h : a.Onward b) (h' : b.Onward c) : a.Onward c where
  pending := h'.pending.trans h.pending
  clock := h'.clock.trans h.clock
  otp := by rw [h'.otp, h.otp]
  revoked k hk := h'.revoked k (h.revoked k hk)
  time ht := h'.time (h.time ht)

/-- A time base that is loaded with a legal time, its queue, clock and OTP kept. -/
theorem Fixed.Onward.load {a : Fixed} {ns frac : Nat} (hns : ns < 1000000000) (hfrac : frac = a.frac ∨ frac = 0) :
    a.Onward { a with ns := ns, frac := frac } :=
  ⟨rfl, rfl, rfl, fun _ h => h, fun ht => ⟨hns, by obtain h | h := hfrac <;> simp [h, ht.2]⟩⟩

theorem Fixed.Onward.ite {a : Fixed} {x y : State} {c : Prop} [Decidable c] (h : a.Onward x.fixed) (h' : a.Onward y.fixed) :
    a.Onward (if c then x else y).fixed := by
  split
  · exact h
  · exact h'

section Onward
variable {s : State} {a : Fixed}

/-! ### The servo (R161, R166 to R169) and PTP (R172 to R175) -/

theorem State.loadTime_onward (h : a.Onward s.fixed) (now : Nat) (o : Int) : a.Onward (s.loadTime now o).fixed := by
  unfold State.loadTime
  split
  · simpa using h
  · rw [State.shiftFrames_fixed]
    exact h.trans (.load (Nat.mod_lt _ (by decide)) (.inl rfl))

theorem State.stepTime_onward (h : a.Onward s.fixed) (o : Int) : a.Onward (s.stepTime o).fixed := by
  simp [State.stepTime, State.loadTime_onward, h]

theorem State.validUpdate_onward (h : a.Onward s.fixed) (o : Int) : a.Onward (s.validUpdate o).fixed := by
  unfold State.validUpdate
  simp only [State.refreshU_fixed, State.wn_fixed]
  refine .ite ?_ ?_
  · simp [State.stepTime_onward, h]
  · simp [TimeS.enter, h]

theorem State.servoUpdate_onward (h : a.Onward s.fixed) (o : Int) : a.Onward (s.servoUpdate o).fixed := by
  unfold State.servoUpdate
  split
  · exact h
  · split
    · simpa using h
    · exact State.validUpdate_onward h o

theorem hostOffset_onward (h : a.Onward s.fixed) (v : Val) : a.Onward (hostOffset s v).1.fixed := by
  unfold hostOffset
  split
  · exact State.servoUpdate_onward h _
  · exact h

theorem State.ptpOffset_onward (h : a.Onward s.fixed) (p : Nat) (delta : Int) : a.Onward (s.ptpOffset p delta).fixed := by
  unfold State.ptpOffset
  dsimp only
  split
  · exact State.servoUpdate_onward (by simpa using h) _
  · simpa using h

theorem State.ptpTake_onward (h : a.Onward s.fixed) (p : Nat) (m : PtpMsg) : a.Onward (s.ptpTake p m).fixed := by
  have hdrop : a.Onward (s.bump (ethKey p) (0x2A10 + p) 0x06).fixed := by simpa using h
  unfold State.ptpTake
  dsimp only
  refine .ite hdrop (.ite hdrop (.ite (by simpa using h) (.ite ?sync (.ite ?followUp (.ite ?delayResp (.ite ?pdelayResp
    (.ite ?pdelayFollowUp (.ite (by simpa using h) (.ite ?pdelayReq h)))))))))
  case sync => exact .ite h (.ite (by simpa using h) (State.ptpOffset_onward (by simpa using h) ..))
  case followUp =>
    split
    · exact .ite (State.ptpOffset_onward (by simpa using h) ..) h
    · exact h
  case delayResp =>
    split
    · exact .ite (by simpa using h) h
    · exact h
  case pdelayResp =>
    split
    · exact .ite h (.ite (by simpa using h) (by simpa using h))
    · exact h
  case pdelayFollowUp =>
    split
    · exact .ite (by simpa using h) h
    · exact h
  case pdelayReq => exact .ite (by simpa using h) (by simpa using h)

theorem State.ptpMessage_onward (h : a.Onward s.fixed) (p : Nat) (m : PtpMsg) (data : List Byte) :
    a.Onward (s.ptpMessage p m data).fixed := by
  unfold State.ptpMessage
  repeat' split
  all_goals simp [h, State.ptpTake_onward]

theorem State.markTake_onward (h : a.Onward s.fixed) (q : Nat) (f : SpFrame) : a.Onward (s.markTake q f).fixed := by
  unfold State.markTake
  dsimp only
  repeat' split
  all_goals simp [h, State.servoUpdate_onward]

/-! ### Restarts (R588, R590, R601, R602, R616 to R622, R634) -/

theorem State.restartAt_fixed (cause : Nat) : (s.restartAt cause).fixed = { s.fixed with ns := 0, frac := 0 } := rfl

theorem State.restartAt_onward (h : a.Onward s.fixed) (cause : Nat) : a.Onward (s.restartAt cause).fixed :=
  h.trans (by rw [State.restartAt_fixed]; exact .load (by decide) (.inr rfl))

theorem State.hold_onward (h : a.Onward s.fixed) : a.Onward s.hold.fixed := by
  simp [State.hold, State.restartAt_onward h]

theorem State.boot_onward (h : a.Onward s.fixed) (cause vA vB : Nat) (bad : List Nat) : a.Onward (s.boot cause vA vB bad).fixed := by
  unfold State.boot
  split
  · simp [State.restartAt_onward h]
  · exact State.hold_onward h

theorem State.bootLater_onward (h : a.Onward s.fixed) (cause : Nat) : a.Onward (s.bootLater cause).fixed := by
  unfold State.bootLater
  split
  · simp [State.restartAt_onward h]
  · exact State.hold_onward h

theorem State.romWatchdog_onward (h : a.Onward s.fixed) : a.Onward s.romWatchdog.fixed := by
  unfold State.romWatchdog
  split
  · exact State.bootLater_onward h 3
  · exact h

theorem State.vinIn_onward (h : a.Onward s.fixed) (vA vB : Nat) (bad : List Nat) : a.Onward (s.vinIn vA vB bad).fixed := by
  unfold State.vinIn
  split
  · simpa using h
  · exact State.boot_onward (by simpa using h) ..

theorem State.holdUpEnd_onward (h : a.Onward s.fixed) : a.Onward s.holdUpEnd.fixed := by
  unfold State.holdUpEnd
  dsimp only
  split
  · exact h
  · split
    · exact State.bootLater_onward (by simpa using State.restartAt_onward h 0) 0
    · simpa using State.restartAt_onward h 0

theorem State.resetIn_onward (h : a.Onward s.fixed) (lowNs : Nat) : a.Onward (s.resetIn lowNs).fixed := by
  unfold State.resetIn
  dsimp only
  repeat' split
  all_goals simp [h, State.hold_onward]

theorem State.resetOut_onward (h : a.Onward s.fixed) (vA vB : Nat) (bad : List Nat) : a.Onward (s.resetOut vA vB bad).fixed := by
  unfold State.resetOut
  dsimp only
  repeat' split
  all_goals simp [h, State.boot_onward]

theorem State.tripped_onward (h : a.Onward s.fixed) (d : Die) : a.Onward (s.tripped d).fixed := by
  unfold State.tripped
  dsimp only
  split
  · exact h
  · exact State.hold_onward (by simpa using h)

theorem State.tripEnd_onward (h : a.Onward s.fixed) (vA vB : Nat) (bad : List Nat) : a.Onward (s.tripEnd vA vB bad).fixed := by
  unfold State.tripEnd
  split
  · exact h
  · exact State.boot_onward (by simpa using h) ..

theorem State.warm_onward (h : a.Onward s.fixed) (rom : Option RomSlots) (bad : List Nat) : a.Onward (s.warm rom bad).fixed := by
  unfold State.warm
  dsimp only
  repeat' split
  all_goals simp [h, State.hold_onward, State.boot_onward]

theorem State.scanIn_onward (h : a.Onward s.fixed) (code : Nat) : a.Onward (s.scanIn code).fixed := by
  unfold State.scanIn
  dsimp only
  repeat' split
  all_goals simp [h, State.hold_onward, State.bootLater_onward]

theorem State.watchdogAll_onward (h : a.Onward s.fixed) (p : Proc) (d : Nat) : a.Onward (s.watchdogAll p d).fixed := by
  unfold State.watchdogAll
  dsimp only
  split
  · exact State.bootLater_onward (by simpa using h) 2
  · simpa using h

/-! ### Requests (R513 to R518) and what carries them -/

theorem State.write_onward (h : a.Onward s.fixed) (r : Req) (idx sub : Nat) (data : List Byte) {eff : State → Val → State × Nat}
    (heff : ∀ v, a.Onward (eff s v).1.fixed) : a.Onward (s.write r idx sub data eff).1.fixed := by
  obtain ⟨c, -, hw⟩ | ⟨o, v, -, -, hw⟩ | ⟨o, v, -, -, hw⟩ := s.write_cases r idx sub data eff <;> simp [hw, h, heff]

theorem State.request_onward (h : a.Onward s.fixed) (r : Req) (idx sub : Nat) (data : List Byte)
    {eff : State → Val → State × Nat} (heff : ∀ v, a.Onward (eff s v).1.fixed) : a.Onward (s.request r idx sub data eff).fixed := by
  simpa [State.request] using State.write_onward h r idx sub data heff

/-- A bit that is set leaves every bit set that was. -/
theorem testBit_setBit_true {n i k : Nat} (h : n.testBit k = true) : (setBit n i true).testBit k = true := by
  rw [setBit, if_pos rfl]
  change (n ||| 2 ^ i).testBit k = true
  rw [Nat.testBit_or, h, Bool.true_or]

theorem State.updRevoke_onward (h : a.Onward s.fixed) : a.Onward s.updRevoke.1.fixed := by
  unfold State.updRevoke
  dsimp only
  split
  · exact h
  · rw [State.raise_fixed]
    exact h.trans ⟨rfl, rfl, rfl, fun _ => testBit_setBit_true, id⟩

theorem updCommand_onward (h : a.Onward s.fixed) (r : Req) (v : Val) : a.Onward (updCommand r s v).1.fixed := by
  unfold updCommand
  dsimp only
  repeat' split
  all_goals simp [h, State.updRevoke_onward]

theorem timeWrite_onward (h : a.Onward s.fixed) (sub : Nat) (v : Val) : a.Onward (timeWrite sub s v).1.fixed := by
  unfold timeWrite
  split
  · simpa using h
  · simpa using h
  · exact hostOffset_onward h v
  · simpa using h

theorem writePackage_onward (h : a.Onward s.fixed) (r : Req) (idx sub : Nat) (v : Val) :
    a.Onward (writePackage r idx sub s v).1.fixed := by
  unfold writePackage
  dsimp only
  repeat' split
  all_goals simp [h, updCommand_onward, timeWrite_onward]

theorem writeBase_onward (h : a.Onward s.fixed) (r : Req) (idx sub : Nat) (v : Val) : a.Onward (writeBase r idx sub s v).1.fixed := by
  unfold writeBase
  split
  · exact h
  · repeat' split
    all_goals simp [h, writePackage_onward]

/-! ### Change sets (R575 to R583) -/

theorem State.runEntry_onward (h : a.Onward s.fixed) (e : ChEntry) : a.Onward (s.runEntry e).1.fixed :=
  State.write_onward h _ _ _ _ fun _ => writeBase_onward h ..

theorem foldl_onward {α : Type} {f : State → α → State} (hf : ∀ s x, a.Onward s.fixed → a.Onward (f s x).fixed)
    (h : a.Onward s.fixed) (l : List α) : a.Onward (l.foldl f s).fixed :=
  List.foldlRecOn l f (motive := fun u => a.Onward u.fixed) h fun u hu x _ => hf u x hu

theorem State.applyEntries_onward (h : a.Onward s.fixed) (g : TargetS) (due : Nat) : a.Onward (s.applyEntries g due).fixed := by
  have hrun (u : State) (e : ChEntry) (hu : a.Onward u.fixed) :
      a.Onward (if e.isFor s.pkgId then ((u.imageEntry e).runEntry e).1 else u.imageEntry e).fixed :=
    .ite (State.runEntry_onward (by simpa using hu) e) (by simpa using hu)
  have hentries := foldl_onward hrun h ((parseChange g.data).getD [])
  unfold State.applyEntries
  dsimp only
  split <;> simpa using hentries

theorem State.changeApply_onward (h : a.Onward s.fixed) : a.Onward s.changeApply.fixed := by
  unfold State.changeApply
  dsimp only
  repeat' split
  all_goals simp [h, State.applyEntries_onward]

/-! ### The paths of a request (R485, R514 to R518, R528) -/

theorem writeEffect_onward (h : a.Onward s.fixed) (r : Req) (idx sub : Nat) (v : Val) : a.Onward (writeEffect r idx sub s v).1.fixed := by
  unfold writeEffect
  split
  · simpa using h
  · exact writeBase_onward h ..

theorem State.writeBy_onward (h : a.Onward s.fixed) (r : Req) (idx sub : Nat) (data : List Byte) :
    a.Onward (s.writeBy r idx sub data).1.fixed := by
  have hwrite := State.write_onward h r idx sub data fun v => writeEffect_onward h r idx sub v
  unfold State.writeBy
  dsimp only
  repeat' split
  all_goals simpa using hwrite

theorem State.writeAnd_onward (h : a.Onward s.fixed) (r : Req) (idx sub : Nat) (data : List Byte) {answer : State → Nat → State}
    (hanswer : ∀ s n, (answer s n).fixed = s.fixed) : a.Onward (s.writeAnd r idx sub data answer).fixed := by
  unfold State.writeAnd
  dsimp only
  split
  · exact State.writeBy_onward (by rwa [hanswer]) ..
  · rw [hanswer]
    exact State.writeBy_onward h ..

theorem State.partWrite_onward (h : a.Onward s.fixed) (r : Req) (idx sub off : Nat) (last : Bool) (data : List Byte) :
    a.Onward (s.partWrite r idx sub off last data).1.fixed := by
  unfold State.partWrite
  dsimp only
  split
  · exact h
  · split
    · simpa using h
    · split
      · exact State.writeBy_onward (by simpa using h) ..
      · simpa using h

theorem State.runBody_onward (h : a.Onward s.fixed) (r : Req) (room : Nat) (b : List Byte) {answer : State → List Byte → State}
    (hanswer : ∀ s x, (answer s x).fixed = s.fixed) : a.Onward (s.runBody r room b answer).fixed := by
  unfold State.runBody
  dsimp only
  split
  · rwa [hanswer]
  · split
    · repeat' split
      all_goals simpa [hanswer] using h
    · exact State.writeAnd_onward h _ _ _ _ fun _ _ => hanswer _ _
    · simpa [hanswer] using h
    · rw [hanswer]
      exact State.partWrite_onward h ..

theorem State.mailbox_onward (h : a.Onward s.fixed) (q : Nat) (d : Desc) : a.Onward (s.mailbox q d).fixed := by
  unfold State.mailbox
  split
  · exact h
  · next hfetch =>
    rw [← s.fetchDesc_fixed hfetch] at h
    exact .ite (by simpa using h) (State.runBody_onward h _ _ _ fun _ _ => by simp)

theorem State.usdo_onward (h : a.Onward s.fixed) (c : Nat) (u : Usdo) : a.Onward (s.usdo c u).fixed := by
  unfold State.usdo
  dsimp only
  refine .ite h ?_
  split
  · simpa using h
  · exact State.writeAnd_onward (by simpa using h) _ _ _ _ fun _ _ => by simp
  · refine .ite ?_ ?_ <;> simp [State.partWrite_onward, h]
  · repeat' split
    all_goals simp [h]

theorem State.zdpRequest_onward (h : a.Onward s.fixed) (f : ZdpFrame) : a.Onward (s.zdpRequest f).fixed := by
  unfold State.zdpRequest
  dsimp only
  split
  · simpa using h
  · refine .ite (by simpa using h) (.ite ?_ (.ite (by simpa using h) ?_))
    · exact .ite (by simpa using h) (by simpa using h)
    · exact State.runBody_onward (by simpa using h) _ _ _ fun _ _ => by split <;> simp

/-! ### Every command -/

theorem State.onFrame_onward (h : a.Onward s.fixed) (q : Nat) (f : SpFrame) (mine : Bool) {act : State → State}
    (hact : ∀ {u : State}, a.Onward u.fixed → a.Onward (act u).fixed) : a.Onward (s.onFrame q f mine act).fixed := by
  have hreceive : a.Onward (s.receive q f).1.fixed := by simpa using h
  exact .ite h (.ite (hact hreceive) hreceive)

theorem State.zdpFrame_onward (h : a.Onward s.fixed) (f : ZdpFrame) (ty : Nat) {act : State → State}
    (hact : ∀ {u : State}, a.Onward u.fixed → a.Onward (act u).fixed) : a.Onward (s.zdpFrame f ty act).fixed :=
  .ite h (.ite (by simpa using h) (.ite (hact h) h))

theorem State.lines_onward (h : a.Onward s.fixed) (old : State) : a.Onward (State.lines old s).fixed := by
  simpa using h

/-- An outcome that goes on as a command may. -/
def Fixed.LeadsTo (a : Fixed) : Host.Outcome State Fault Refusal → Prop
  | .next s' => a.Onward s'.fixed
  | _ => False

theorem Fixed.Onward.of_eq {b c : Fixed} (h : a.Onward b) (e : c = b) : a.Onward c := e ▸ h

theorem Fixed.LeadsTo.of_fixed {s' : State} (h : s'.fixed = a) : a.LeadsTo (.next s') := h ▸ .refl a

end Onward

/-- Every command, at the tick it carries: most leave the part alone, and the others go through the few operations above. -/
theorem exec_onward (i : Instr) (s : State) : (s.tick i.at).fixed.LeadsTo (exec i s) := by
  cases i with
  | dictionaryWrite => exact State.writeAnd_onward (.refl _) _ _ _ _ fun _ _ => State.respond_fixed ..
  | counterReadClear => exact State.writeAnd_onward (.refl _) _ _ _ _ fun _ _ => State.respond_fixed ..
  | mappingAgeExpiry => exact .of_fixed (State.mappingExpiry_fixed ..)
  | layerLatch => exact .of_fixed (State.latch_fixed ..)
  | lvsStripRecheck => exact .of_fixed (State.recheck_fixed ..)
  | readBackCompare => exact .of_fixed (State.readBack_fixed ..)
  | lvsFault => exact .of_fixed (State.lvsFault_fixed ..)
  | lvsSelfTestDone => exact .of_fixed (State.lvsTested_fixed ..)
  | lvsSelfTestRetry => exact .of_fixed (State.lvsRetry_fixed ..)
  | lvsStatusRead => exact .of_fixed (State.readReq_fixed _ _ _ _ lvsStatus_fixed)
  | dieHeartbeatSend => exact .of_fixed (State.heartbeat_fixed ..)
  | dieHeartbeatTimeout => exact .of_fixed (State.heartbeatTimeout_fixed ..)
  | dieLinkCrcFailure => exact .of_fixed (State.linkCrc_fixed ..)
  | survivorReloadComplete => exact .of_fixed (State.survivorLoaded_fixed ..)
  | dieTimeCompare => exact .of_fixed (State.dieCompare_fixed ..)
  | processorWatchdogExpiry => exact State.watchdogAll_onward (.refl _) ..
  | processorRestartComplete => exact .of_fixed (State.restarted_fixed ..)
  | paceLow => exact .of_fixed (State.paceLow_fixed ..)
  | paceRestored => exact .of_fixed (State.paceBack_fixed ..)
  | unitSoftFault => exact .of_fixed (State.onUnit_fixed _ _ fun _ _ => State.softFault_fixed ..)
  | correctedSramError => exact .of_fixed (State.onUnit_fixed _ _ fun _ _ => State.sramCorrected_fixed ..)
  | unitHardFault => exact .of_fixed (State.onUnit_fixed _ _ fun _ _ => State.hardFault_fixed ..)
  | retestComplete => exact .of_fixed (State.onUnit_fixed _ _ fun _ _ => State.retested_fixed ..)
  | staleEpochTransfer => exact .of_fixed (State.onUnit_fixed _ _ fun _ _ => State.staleTransfer_fixed ..)
  | sparePeriodicTest => exact .of_fixed (State.onUnit_fixed _ _ fun _ _ => State.spareTest_fixed ..)
  | addressSelect => exact .of_fixed (State.request_fixed _ _ _ _ _ fun _ _ => addressSelect_fixed ..)
  | healthDeclareDead => exact .of_fixed (State.request_fixed _ _ _ _ _ fun _ _ => healthCommand_fixed ..)
  | healthReturnToService => exact .of_fixed (State.request_fixed _ _ _ _ _ fun _ _ => healthCommand_fixed ..)
  | healthClearFaultCount => exact .of_fixed (State.request_fixed _ _ _ _ _ fun _ _ => healthCommand_fixed ..)
  | quadModeChange => exact .of_fixed (State.request_fixed _ _ _ _ _ fun _ _ => quadMode_fixed ..)
  | quadLanesUp => exact .of_fixed (State.fixed_ite_eq (State.quadUp_fixed ..) rfl)
  | ethernetFrameDiscard => exact .of_fixed (State.frameDiscard_fixed ..)
  | arpRequest => exact .of_fixed (State.arpRequest_fixed ..)
  | icmpEchoRequest => exact .of_fixed (State.echoRequest_fixed ..)
  | neighbourSolicitation => exact .of_fixed (State.solicitation_fixed ..)
  | multicastQuery => exact .of_fixed (State.query_fixed ..)
  | rawFrameToHost => exact .of_fixed (State.rawFrame_fixed ..)
  | rtpPacket => exact .of_fixed (State.rtpPacket_fixed ..)
  | reorderWindowExpiry => exact .of_fixed (State.reorderExpiry_fixed ..)
  | accessUnitRelease => exact .of_fixed (State.releaseAu_fixed ..)
  | rtcpPacket => exact .of_fixed (State.rtcpPacket_fixed ..)
  | rtcpRrSend => exact .of_fixed (State.rrSend_fixed ..)
  | sessionOpen => exact .of_fixed (State.request_fixed _ _ _ _ _ fun _ _ => sessOpen_fixed ..)
  | sessionClose => exact .of_fixed (State.request_fixed _ _ _ _ _ fun _ _ => sessClose_fixed ..)
  | sessionRelease => exact .of_fixed (State.request_fixed _ _ _ _ _ fun _ _ => sessRelease_fixed ..)
  | sessionResync => exact .of_fixed (State.request_fixed _ _ _ _ _ fun _ _ => sessResync_fixed ..)
  | joinTimeout => exact .of_fixed (State.joinTimeout_fixed ..)
  | starvationTimeout => exact .of_fixed (State.starvationTimeout_fixed ..)
  | ptpMessage => exact State.ptpMessage_onward (.refl _) ..
  | ptpAnnounceTimeout => exact .of_fixed (State.announceTimeout_fixed ..)
  | ptpMasterSend => exact .of_fixed (State.masterSend_fixed ..)
  | hostOffsetWrite => exact State.request_onward (.refl _) _ _ _ _ (hostOffset_onward (.refl _))
  | servoSourceWrite => exact .of_fixed (State.request_fixed _ _ _ _ _ fun _ _ => servoSource_fixed ..)
  | servoLossTimeout => exact .of_fixed (State.servoLoss_fixed ..)
  | uRefresh => exact .of_fixed (State.uTick_fixed ..)
  | timeMarkSend => exact .of_fixed (State.markSend_fixed ..)
  | timeMark => exact State.onFrame_onward (.refl _) _ _ _ fun h => State.markTake_onward h ..
  | triggerArm => exact .of_fixed (State.request_fixed _ _ _ _ _ fun _ _ => trigMode_fixed ..)
  | triggerDisarm => exact .of_fixed (State.request_fixed _ _ _ _ _ fun _ _ => trigMode_fixed ..)
  | triggerFire => exact .of_fixed (State.trigFire_fixed ..)
  | triggerPulseEnd => exact .of_fixed (State.pulseEnd_fixed ..)
  | triggerLateRead => exact .of_fixed (State.readReq_fixed _ _ _ _ fun _ => clearRead_fixed ..)
  | captureEdge => exact .of_fixed (State.captureEdge_fixed ..)
  | captureRecordRead => exact .of_fixed (State.readReq_fixed _ _ _ _ fun _ => capRead_fixed ..)
  | segmentDispatch => exact .of_fixed (State.dispatch_fixed ..)
  | pictureComplete => exact .of_fixed (State.pictureComplete_fixed ..)
  | startWaitRead t r n =>
    cases n with
    | none => exact .of_fixed (State.readReq_fixed _ _ _ _ fun _ => clearRead_fixed ..)
    | some n => exact .of_fixed (State.readReq_fixed _ _ _ _ fun _ => sessWaitRead_fixed ..)
  | toneMapApply => exact .of_fixed (State.request_fixed _ _ _ _ _ fun _ _ => toneApply_fixed ..)
  | commitRequest => exact .of_fixed (State.request_fixed _ _ _ _ _ fun _ _ => commitRequest_fixed ..)
  | commitDiscardStaged => exact .of_fixed (State.request_fixed _ _ _ _ _ fun _ _ => stagingCommand_fixed ..)
  | commitCancel => exact .of_fixed (State.request_fixed _ _ _ _ _ fun _ _ => stagingCommand_fixed ..)
  | commitSamplePoint => exact .of_fixed (State.samplePoint_fixed ..)
  | scheduledCommitDue => exact .of_fixed (State.commitDue_fixed ..)
  | receiptSelect => exact .of_fixed (State.request_fixed _ _ _ _ _ fun _ _ => receiptSelect_fixed ..)
  | pressComplete => exact .of_fixed (State.pressDone_fixed ..)
  | leaseEnd => exact .of_fixed (State.leaseEnd_fixed ..)
  | leaseWaitLimit => exact .of_fixed (State.leaseLimit_fixed ..)
  | frameStart => exact .of_fixed ((State.trialFrame_fixed ..).trans (State.frameStart_fixed ..))
  | stripComposeStart => exact .of_fixed (State.stripStart_fixed ..)
  | stripWrite => exact .of_fixed (State.stripWrite_fixed ..)
  | stripDrop => exact .of_fixed (State.stripDrop_fixed ..)
  | blankingStart => exact .of_fixed (State.blanking_fixed ..)
  | lineMatch => exact .of_fixed (State.lineMatch_fixed ..)
  | timingApply t r x =>
    have hwrite := (s.tick t).write_fixed r (scrIdx x) 0x13 [1] (eff := timingApply x) fun _ _ => timingApply_fixed ..
    exact .of_fixed ((State.respond_fixed ..).trans (State.fixed_ite_eq ((State.applyResult_fixed ..).trans hwrite) hwrite))
  | timingApplyRunning => exact .of_fixed (State.applyRunning_fixed ..)
  | linkTrainingComplete => exact .of_fixed (State.trained_fixed ..)
  | hpdRise => exact .of_fixed (State.hpdRise_fixed ..)
  | hpdIrq => exact .of_fixed (State.hpdIrq_fixed ..)
  | hpdUnplug => exact .of_fixed (State.hpdUnplug_fixed ..)
  | dpPrbsGenerator => exact .of_fixed (State.request_fixed _ _ _ _ _ fun _ _ => dpPrbs_fixed ..)
  | encodeStart => exact .of_fixed (State.request_fixed _ _ _ _ _ fun _ _ => encStart_fixed ..)
  | encodeStop => exact .of_fixed (State.request_fixed _ _ _ _ _ fun _ _ => encStop_fixed ..)
  | encodePictureComplete => exact .of_fixed (State.encDone_fixed ..)
  | mirrorPacketSend => exact .of_fixed (State.mirrorSend_fixed ..)
  | mirrorSrSend => exact .of_fixed (State.mirrorSr_fixed ..)
  | nextHopResolve => exact .of_fixed (State.hopResolve_fixed ..)
  | zttMessage => exact .of_fixed (State.zttMessage_fixed ..)
  | zttMessageDispatch => exact .of_fixed (State.zttDispatch_fixed ..)
  | zttMessageApplied => exact .of_fixed (State.zttApplied_fixed ..)
  | blockCompress => exact .of_fixed (State.compress_fixed ..)
  | compressResume => exact .of_fixed (State.compressResume_fixed ..)
  | decompressResume => exact .of_fixed (State.decompress_fixed ..)
  | touchFrameStart => exact .of_fixed (State.touchStart_fixed ..)
  | touchFrameProcessed t p counts mCur mCand =>
    have hframe := (s.tick t).touchFrame_fixed p counts mCur mCand
    exact .of_fixed (State.fixed_ite_eq ((State.wakeUp_fixed _).trans hframe) hframe)
  | touchPortEnable => exact .of_fixed (State.request_fixed _ _ _ _ _ fun _ _ => touchEnable_fixed ..)
  | touchPortDisable => exact .of_fixed (State.request_fixed _ _ _ _ _ fun _ _ => touchEnable_fixed ..)
  | touchGeometryWrite => exact .of_fixed (State.request_fixed _ _ _ _ _ fun _ _ => by simp)
  | touchCaptureReference => exact .of_fixed (State.request_fixed _ _ _ _ _ fun _ _ => touchCommand_fixed ..)
  | touchAcquireBaselines => exact .of_fixed (State.request_fixed _ _ _ _ _ fun _ _ => touchCommand_fixed ..)
  | touchEraseReferences => exact .of_fixed (State.request_fixed _ _ _ _ _ fun _ _ => touchCommand_fixed ..)
  | zoneEnable => exact .of_fixed (State.request_fixed _ _ _ _ _ fun _ _ => zoneWrite_fixed ..)
  | zoneDisable => exact .of_fixed (State.request_fixed _ _ _ _ _ fun _ _ => zoneWrite_fixed ..)
  | refreshDue => exact .of_fixed (State.refreshDue_fixed ..)
  | refreshEnd => exact .of_fixed (State.refreshEnd_fixed ..)
  | dramTemperaturePoll => exact .of_fixed (State.tempPoll_fixed ..)
  | demandMeasure => exact .of_fixed (State.demandIn_fixed ..)
  | setPointRequest => exact .of_fixed (State.request_fixed _ _ _ _ _ fun _ _ => setPoint_fixed ..)
  | setPointChangeStart => exact .of_fixed (State.spChange_fixed ..)
  | setPointTrainingDone => exact .of_fixed (State.spDone_fixed ..)
  | dramTrainingComplete => exact .of_fixed (State.bootTrained_fixed ..)
  | scrubPass => exact .of_fixed (State.scrub_fixed ..)
  | dramCorrectedError => exact .of_fixed (State.dramCorrected_fixed ..)
  | dramUncorrectableError => exact .of_fixed (State.dramError_fixed ..)
  | sramUncorrectableError => exact .of_fixed (State.sramError_fixed ..)
  | laneLockGain => exact .of_fixed (State.lockGain_fixed ..)
  | laneLockLoss => exact .of_fixed (State.lockLoss_fixed ..)
  | boardTableApply => exact .of_fixed (State.request_fixed _ _ _ _ _ fun _ _ => boardApply_fixed ..)
  | lintSetSend => exact .of_fixed (State.fixed_ite_eq (State.say_fixed ..) rfl)
  | lintSetReceive => exact .of_fixed (State.lintReceive_fixed ..)
  | elasticError => exact .of_fixed (State.elastic_fixed ..)
  | laneTestMode => exact .of_fixed (State.request_fixed _ _ _ _ _ fun _ _ => laneTest_fixed ..)
  | prbsGenerator => exact .of_fixed (State.request_fixed _ _ _ _ _ fun _ _ => laneTest_fixed ..)
  | prbsChecker => exact .of_fixed (State.request_fixed _ _ _ _ _ fun _ _ => laneTest_fixed ..)
  | spaydunPortEnable => exact .of_fixed (State.request_fixed _ _ _ _ _ fun _ _ => spEnable_fixed ..)
  | spaydunPortDisable => exact .of_fixed (State.request_fixed _ _ _ _ _ fun _ _ => spEnable_fixed ..)
  | laneLockHold => exact .of_fixed (State.lockHold_fixed ..)
  | trainingSet => exact .of_fixed (State.trainSet_fixed ..)
  | spaydunTrainingTimeout => exact .of_fixed (State.trainTimeout_fixed ..)
  | restripeTimeout => exact .of_fixed (State.restripeTimeout_fixed ..)
  | restoreHoldExpiry => exact .of_fixed (State.restoreHold_fixed ..)
  | retransmitTimeout => exact .of_fixed (State.retransmit_fixed ..)
  | ackOnlySend => exact .of_fixed (State.ackOnly_fixed ..)
  | acknowledgement => exact .of_fixed (State.onFrame_fixed _ _ _ _ fun _ => rfl)
  | spaydunFrameSend => exact .of_fixed (State.frameSend_fixed ..)
  | pixelStrip => exact .of_fixed (State.onFrame_fixed _ _ _ _ fun _ => State.pixelStrip_fixed ..)
  | streamRelay => exact .of_fixed (State.onFrame_fixed _ _ _ _ fun _ => State.streamRelay_fixed ..)
  | relayPictureTimeout => exact .of_fixed (State.relayTimeout_fixed ..)
  | pcieFunctionReset => exact .of_fixed ((State.quietCheck_fixed _).trans (State.pcieReset_fixed ..))
  | pcieFunctionReady => exact .of_fixed (State.functionReady_fixed ..)
  | pcieLinkUp => exact .of_fixed (State.linkUp_fixed ..)
  | ringEnable => exact .of_fixed (State.fixed_ite_eq (State.enableRing_fixed ..) rfl)
  | ringDisable => exact .of_fixed (State.fixed_ite_eq (State.disableRing_fixed ..) rfl)
  | doorbell => exact .of_fixed (State.fixed_ite_eq (State.ringDoorbell_fixed ..) rfl)
  | writeBackConsumer => exact .of_fixed (State.fixed_ite_eq (State.ringConsumer_fixed ..) rfl)
  | functionEventClear => exact .of_fixed (State.fixed_ite_eq (State.clearEvents_fixed ..) rfl)
  | barRegisterWrite => exact .of_fixed (State.fixed_ite_eq (State.barWrite_fixed ..) rfl)
  | rawTransmit => exact .of_fixed (State.rawTransmit_fixed ..)
  | rawReceiveDescriptor => exact .of_fixed (State.offer_fixed ..)
  | mailboxRequest => exact State.mailbox_onward (.refl _) ..
  | eventBufferDescriptor => exact .of_fixed ((State.pumpEvents_fixed _).trans (State.offer_fixed ..))
  | eventBufferTimeout => exact .of_fixed (State.eventTimeout_fixed ..)
  | touchReportDescriptor => exact .of_fixed (State.offer_fixed ..)
  | busError => exact .of_fixed (State.busError_fixed ..)
  | interruptModerationExpiry => exact .of_fixed (State.moderated_fixed ..)
  | readPart => exact .of_fixed ((State.say_fixed ..).trans (State.partRead_fixed ..))
  | writePart => exact (State.partWrite_onward (.refl _) ..).of_eq (State.say_fixed ..)
  | partTransferTimeout => exact .of_fixed (State.partTimeout_fixed ..)
  | usdoRequest => exact State.usdo_onward (.refl _) ..
  | usdoSegmentTimeout => exact .of_fixed (State.segTimeout_fixed ..)
  | nmtStart => exact .of_fixed (State.nmtStart_fixed ..)
  | nmtStop => exact .of_fixed (State.nmtStop_fixed ..)
  | nmtEnterPreOperational => exact .of_fixed (State.fixed_ite_eq (State.wn_fixed ..) rfl)
  | nmtResetNode => exact .of_fixed (State.nmtReset_fixed ..)
  | nmtResetCommunication => exact .of_fixed (State.nmtReset_fixed ..)
  | sync => exact .of_fixed (State.fixed_ite_eq (foldl_fixed State.tpdoSync_fixed _ _) rfl)
  | tpdoEventTimer => exact .of_fixed (State.tpdoTimer_fixed ..)
  | tpdoChange => exact .of_fixed (State.tpdoChanged_fixed ..)
  | canHeartbeatSend => exact .of_fixed (State.canBeat_fixed ..)
  | emcySend => exact .of_fixed (State.emcySend_fixed ..)
  | canErrorPassive => exact .of_fixed (State.canPassive_fixed ..)
  | canBusOff => exact .of_fixed (State.canBusOff_fixed ..)
  | canBusOffRecovered => exact .of_fixed (State.canRecovered_fixed ..)
  | canPortEnable => exact .of_fixed (State.request_fixed _ _ _ _ _ fun _ _ => canEnable_fixed ..)
  | canPortDisable => exact .of_fixed (State.request_fixed _ _ _ _ _ fun _ _ => canEnable_fixed ..)
  | zdpHello => exact .of_fixed (State.zdpFrame_fixed _ _ _ fun _ => State.zdpHello_fixed ..)
  | zdpRequest => exact State.zdpFrame_onward (.refl _) _ _ fun h => State.zdpRequest_onward h _
  | zdpClose => exact .of_fixed (State.zdpFrame_fixed _ _ _ fun _ => State.zdpCloseFrame_fixed ..)
  | zdpIdleTimeout => exact .of_fixed (State.zdpIdle_fixed ..)
  | zdpKeyWrite => exact .of_fixed (State.request_fixed _ _ _ _ _ fun _ _ => zdpObject_fixed ..)
  | zdpDisable => exact .of_fixed (State.request_fixed _ _ _ _ _ fun _ _ => zdpObject_fixed ..)
  | storeAll => exact .of_fixed (State.request_fixed _ _ _ _ _ fun _ _ => storeGroup_fixed ..)
  | storeCommunication => exact .of_fixed (State.request_fixed _ _ _ _ _ fun _ _ => storeGroup_fixed ..)
  | storeApplication => exact .of_fixed (State.request_fixed _ _ _ _ _ fun _ _ => storeGroup_fixed ..)
  | restoreDefaultsAll => exact .of_fixed (State.request_fixed _ _ _ _ _ fun _ _ => restoreGroup_fixed ..)
  | restoreDefaultsCommunication => exact .of_fixed (State.request_fixed _ _ _ _ _ fun _ _ => restoreGroup_fixed ..)
  | restoreDefaultsApplication => exact .of_fixed (State.request_fixed _ _ _ _ _ fun _ _ => restoreGroup_fixed ..)
  | configExport => exact .of_fixed (State.readReq_fixed _ _ _ _ fun _ => rfl)
  | configImport t r data =>
    have hwrite := (s.tick t).write_fixed r 0x2001 0x02 data importWrite_fixed
    exact .of_fixed ((State.respond_fixed ..).trans (State.fixed_ite_eq ((State.importResult_fixed ..).trans hwrite) hwrite))
  | errorHistoryClear => exact .of_fixed (State.request_fixed _ _ _ _ _ fun _ _ => errClear_fixed ..)
  | dictionaryLoaded => exact .of_fixed (State.dictLoad_fixed ..)
  | eventArbitrate => exact .of_fixed ((State.pumpEvents_fixed _).trans (State.arbitrate_fixed ..))
  | recordSelect => exact .of_fixed (State.request_fixed _ _ _ _ _ fun _ _ => recordSelect_fixed ..)
  | checkItem => exact .of_fixed (State.checkItem_fixed ..)
  | checkUnitConfigure => exact .of_fixed (State.request_fixed _ _ _ _ _ fun _ _ => by simp)
  | checkRunningValueWrite => exact .of_fixed (State.request_fixed _ _ _ _ _ fun _ _ => checkWrite_fixed ..)
  | tallySummaryRead => exact .of_fixed (State.summaryRead_fixed ..)
  | fastReadSnapshot => exact .of_fixed (State.snapshot_fixed ..)
  | tallyCheckWordUpdate => exact .of_fixed ((State.quietCheck_fixed _).trans (State.checkWords_fixed _))
  | fastReadRefresh => exact .of_fixed (State.fastRefresh_fixed ..)
  | fastReadMapWrite => exact .of_fixed (State.request_fixed _ _ _ _ _ fun _ _ => fastMap_fixed ..)
  | presenceSend => exact .of_fixed (State.presenceSend_fixed ..)
  | presence => exact .of_fixed (State.onFrame_fixed _ _ _ _ fun _ => State.presenceTake_fixed ..)
  | packageAbsent => exact .of_fixed (State.packageAbsent_fixed ..)
  | joinGraceExpiry => exact .of_fixed (State.joinGrace_fixed ..)
  | selfFence => exact .of_fixed (State.selfFence_fixed ..)
  | rejoinRequestSend => exact .of_fixed (State.rejoinSend_fixed ..)
  | rejoinRequest => exact .of_fixed (State.onFrame_fixed _ _ _ _ fun _ => State.rejoinAsked_fixed ..)
  | rejoinGrant => exact .of_fixed (State.onFrame_fixed _ _ _ _ fun _ => State.rejoinGranted_fixed ..)
  | imagePart => exact .of_fixed (State.onFrame_fixed _ _ _ _ fun _ => State.imagePart_fixed ..)
  | relayOpen => exact .of_fixed (State.onFrame_fixed _ _ _ _ fun _ => State.relayOpened_fixed ..)
  | relayResult => exact .of_fixed (State.onFrame_fixed _ _ _ _ fun _ => State.relayAnswer_fixed ..)
  | relayClose => exact .of_fixed (State.onFrame_fixed _ _ _ _ fun _ => State.relayClosed_fixed ..)
  | relayResync => exact .of_fixed (State.onFrame_fixed _ _ _ _ fun _ => State.relayAgain_fixed ..)
  | changeSetWrite t r data =>
    have hwrite := (s.tick t).write_fixed r 0x6800 0x0D data changeSet_fixed
    exact .of_fixed ((State.respond_fixed ..).trans ((State.notSupervisor_fixed ..).trans hwrite))
  | stage => exact .of_fixed (State.onFrame_fixed _ _ _ _ fun _ => State.stageTake_fixed ..)
  | staged => exact .of_fixed (State.onFrame_fixed _ _ _ _ fun _ => State.takeStaged_fixed ..)
  | changeSetStageTimeout => exact .of_fixed (State.stageTimeout_fixed ..)
  | arm => exact .of_fixed (State.onFrame_fixed _ _ _ _ fun _ => State.armTake_fixed ..)
  | armed => exact .of_fixed (State.onFrame_fixed _ _ _ _ fun _ => State.armedTake_fixed ..)
  | changeSetArmTimeout => exact .of_fixed (State.armTimeout_fixed ..)
  | changeSetApply => exact State.changeApply_onward (.refl _)
  | changeSetSettled => exact .of_fixed (State.changeSettled_fixed ..)
  | applied => exact .of_fixed (State.onFrame_fixed _ _ _ _ fun _ => State.appliedTake_fixed ..)
  | abort => exact .of_fixed (State.onFrame_fixed _ _ _ _ fun _ => State.dropTarget_fixed ..)
  | systemAbortChange => exact .of_fixed (State.request_fixed _ _ _ _ _ fun _ _ => State.abortNamed_fixed _)
  | systemAdopt => exact .of_fixed (State.request_fixed _ _ _ _ _ fun _ _ => State.adoptTree_fixed _)
  | systemDeclareDead => exact .of_fixed (State.request_fixed _ _ _ _ _ fun _ _ => State.declareNamed_fixed _)
  | systemRejoin => exact .of_fixed (State.request_fixed _ _ _ _ _ fun _ _ => State.askRejoin_fixed _)
  | digestBroadcast => exact .of_fixed (State.digestOut_fixed ..)
  | digestFrame => exact .of_fixed (State.onFrame_fixed _ _ _ _ fun _ => State.digestIn_fixed ..)
  | updateOpen => exact State.request_onward (.refl _) _ _ _ _ (updCommand_onward (.refl _) _)
  | updateClose => exact State.request_onward (.refl _) _ _ _ _ (updCommand_onward (.refl _) _)
  | updateFinish => exact State.request_onward (.refl _) _ _ _ _ (updCommand_onward (.refl _) _)
  | updateActivate => exact State.request_onward (.refl _) _ _ _ _ (updCommand_onward (.refl _) _)
  | updateConfirm => exact State.request_onward (.refl _) _ _ _ _ (updCommand_onward (.refl _) _)
  | updateFallBack => exact State.request_onward (.refl _) _ _ _ _ (updCommand_onward (.refl _) _)
  | updateAbandon => exact State.request_onward (.refl _) _ _ _ _ (updCommand_onward (.refl _) _)
  | updateRevokeKey => exact State.request_onward (.refl _) _ _ _ _ (updCommand_onward (.refl _) _)
  | updateChunk => exact .of_fixed (State.request_fixed _ _ _ _ _ fun _ _ => updChunk_fixed ..)
  | chunkProgrammed => exact .of_fixed (State.chunkDone_fixed ..)
  | verifyComplete => exact .of_fixed (State.verified_fixed ..)
  | updateLockTimeout => exact .of_fixed (State.lockTimeout_fixed ..)
  | confirmWindowExpiry => exact .of_fixed (State.windowOut_fixed ..)
  | convertedStoreWritten => exact .of_fixed (State.convertedWritten_fixed ..)
  | romWatchdogExpiry => exact State.lines_onward (State.romWatchdog_onward (.refl _) ..) _
  | vinGood => exact State.lines_onward (State.vinIn_onward (.refl _) ..) _
  | powerFail => exact .of_fixed ((State.lines_fixed ..).trans (State.vinFail_fixed _))
  | holdUpEnd => exact State.lines_onward (State.holdUpEnd_onward (.refl _) ..) _
  | supplyOutOfRange => exact .of_fixed (State.supplyOut_fixed ..)
  | supplyRestored => exact .of_fixed (State.supplyBack_fixed ..)
  | resetAssert => exact State.lines_onward (State.resetIn_onward (.refl _) ..) _
  | resetRelease => exact State.lines_onward (State.resetOut_onward (.refl _) ..) _
  | quietCommand => exact .of_fixed (State.requestFirst_fixed _ _ _ _ _ quietWrite_fixed)
  | quietPinLow => exact .of_fixed (State.pinLow_fixed ..)
  | quietPinRise => exact .of_fixed (State.pinRise_fixed ..)
  | temperatureOverLimit => exact .of_fixed (State.tempOver_fixed ..)
  | temperatureRestored => exact .of_fixed (State.tempBack_fixed ..)
  | thermalTrip => exact State.lines_onward (State.tripped_onward (.refl _) ..) _
  | thermalTripRelease => exact State.lines_onward (State.tripEnd_onward (.refl _) ..) _
  | boundaryScanInstruction => exact State.lines_onward (State.scanIn_onward (.refl _) ..) _
  | autoNegotiationComplete => exact .of_fixed (State.negotiated_fixed ..)
  | arpOrNeighbourReply => exact .of_fixed (State.hopReply_fixed ..)
  | prbsCheckerLock => exact .of_fixed (State.prbsLock_fixed ..)
  | prbsCheckerLockLoss => exact .of_fixed (State.prbsLoss_fixed ..)
  | canErrorActive => exact .of_fixed (State.canActive_fixed ..)
  | suspectWindowExpiry => exact .of_fixed (State.onUnit_fixed _ _ fun _ _ => State.windowEnd_fixed ..)
  | romSlotCheckComplete => exact .of_fixed ((State.lines_fixed ..).trans (State.romChecked_fixed ..))
  | lowerJunctionLimitReached => exact State.lines_onward (State.warm_onward (.refl _) ..) _
  | internalRailOrResonatorFailure => exact .of_fixed ((State.lines_fixed ..).trans (State.fixed_mk ..))
  | pciePerstDeassert => exact .of_fixed (State.perst_fixed ..)

/-! ### Every step -/

/-- Time that passes up to a tick leaves the clock at the later of the two. -/
theorem State.tick_clock_eq (s : State) (t : Nat) : (s.tick t).clock = max s.clock t := by
  unfold State.tick
  split
  · split <;> simp only [State.endSlew, State.advance_clock, State.wn_clock] <;> omega
  · rw [State.advance_clock]
    omega

/-- The time base advances to a legal time value: the nanoseconds and the fraction are remainders (R160). -/
theorem State.advance_ok {s : State} (h : s.time.ok = true) (n : Nat) : (s.advance n).time.ok = true := by
  unfold State.advance
  split
  · exact h
  · simp [TimeS.ok, TimeS.after, ticked, Nat.mod_lt]

theorem State.tick_ok {s : State} (h : s.time.ok = true) (t : Nat) : (s.tick t).time.ok = true := by
  unfold State.tick
  split
  · next slewEnd _ =>
    split
    · have hslew : (s.advance (slewEnd - s.clock)).endSlew.time.ok = true := State.advance_ok h _
      exact State.advance_ok hslew _
    · exact State.advance_ok h _
  · exact State.advance_ok h _

@[simp] theorem State.tick_otp (s : State) (t : Nat) : (s.tick t).otp = s.otp := by rw [s.tick_frame t]

/-- A step with a command waiting goes on from the passing of time to that command's tick, the queue's rest waiting. -/
theorem step_onward {s s' : State} {c : Instr} {rest : List Instr} (hp : s.pending = c :: rest) (h : step s = .next s') :
    ({ s with pending := rest }.tick c.at).fixed.Onward s'.fixed := by
  have hexec : exec c { s with pending := rest } = .next s' := by rw [← h, step, hp]
  have hleads := exec_onward c { s with pending := rest }
  rwa [hexec] at hleads

/-- Settles O3: a command leaves the queue and the clock as the passing of time to its tick left them. -/
theorem stepKeepsQueueAndClock : Obligations.StepKeepsQueueAndClock := by
  unfold Obligations.StepKeepsQueueAndClock
  intro s s' c rest hp h
  obtain ⟨hpending, hclock, -⟩ := step_onward hp h
  exact ⟨hpending.trans (State.tick_pending _ _), hclock.trans (State.tick_clock_eq _ _)⟩

/-- Settles O5: the tick leaves a legal time value, and no command makes an illegal one of it. -/
theorem stepKeepsTimeValueLegal : Obligations.StepKeepsTimeValueLegal := by
  unfold Obligations.StepKeepsTimeValueLegal
  intro s s' hok h
  cases hp : s.pending with
  | nil =>
    rw [step, hp] at h
    cases h
    exact hok
  | cons c rest =>
    have htick : ({ s with pending := rest }.tick c.at).time.ok = true := State.tick_ok (s := { s with pending := rest }) hok _
    have htime := (step_onward hp h).time
    simp only [TimeS.ok, Bool.and_eq_true, decide_eq_true_eq] at htick ⊢
    exact htime htick

/-- Settles O6: by evaluating the reset state. -/
theorem resetStateIsSafe : Obligations.ResetStateIsSafe := by
  unfold Obligations.ResetStateIsSafe
  decide

end Sys2Proof.Machine
end

section
/-! SUPPORT. The trigger units and the capture units (R179 to R185): arming, firing, stamping, and the obligation about them. -/

namespace Sys2Proof.Machine

/-! ### Requests of small numbers -/

/-- Of a requester that may write, a number in the range of a byte object passes the checks. -/
theorem State.checkWrite_of_takes_u8 {s : State} {r : Req} (ht : s.takes r = true) {idx sub n base count lo hi top : Nat}
    {stored cfg : Bool} {dflt : Val} (ho : findObj idx sub = some ⟨base, count, lo, hi, .u8, .rw, stored, cfg, false, dflt, .rng 0 top⟩)
    (hn : n ≤ top) (hbyte : n < 256) : ∃ o, s.checkWrite r idx sub (leBytes 1 n) = .ok (o, .num n) := by
  have hdec : decodeVal .u8 (leBytes 1 n) = some (.num n) := by
    have hv : leNat (leBytes 1 n) = n := (leNat_leBytes 1 n).trans (Nat.mod_eq_of_lt (by omega))
    simp [decodeVal, Ty.isNum, Ty.signed, Ty.size, leBytes_length, hv]
  have hc := State.checkWrite_of_takes ht ho hdec (by simp [sizeOk, Ty.size, leBytes_length]) (.inl rfl)
  exact ⟨_, hc.trans (if_pos (by simp [Chk.ok, Ty.valOk, hn]))⟩

/-- A read whose effect answers another status is answered with it, and changes nothing else. -/
theorem State.readReq_turned {s : State} {r : Req} {idx sub : Nat} {ty : Ty} {eff : State → State × Nat × Val}
    (ha : s.answers r = true) (ho : (findObj idx sub).map (fun o => (o.ty, o.acc)) = some (ty, .ro)) (he : (eff s).2.1 ≠ 0) :
    s.readReq r idx sub eff = { s with out := .resp r idx sub (eff s).2.1 [] :: s.out } := by
  have hready : s.dictReady = true := by
    simp only [State.answers, Bool.and_eq_true] at ha
    exact ha.1
  obtain ⟨o, hfound, hrow⟩ := Option.map_eq_some_iff.1 ho
  obtain ⟨rfl, hacc⟩ := Prod.mk.inj hrow
  have hc : s.checkRead r idx sub = .ok o := by
    simp [State.checkRead, idxExists_of_findObj hfound, hfound, hready, hacc]
  simp only [State.readReq, hc, he, if_false]
  exact State.respond_of_answers ha rfl idx sub _ _

/-! ### Arming a trigger unit (R180, R183) -/

section Arm
variable {s : State} {k : Nat}

theorem findObj_trigMode : ∀ k < 16,
    findObj (0x2820 + k) 0x01 = some ⟨0x2820, 16, 0x01, 0x01, .u8, .rw, true, true, false, .num 0, .rng 0 3⟩ := by
  decide +kernel

/-- A unit armed in a mode: the mode and the first fire time are shown, and its row is armed. -/
def State.armTrig (s : State) (k mode : Nat) : State :=
  { (s.wn (0x2820 + k) 0x01 mode).wn (0x2820 + k) 0x09 (nsTime96 (s.trigStart k mode)) with
    trigs := s.trigs.put k { s.trig k with
      armed := true, spent := false, waitLock := false, nextNs := s.trigStart k mode
      late := decide (s.trigStart k mode < s.trigNow k) } }

/-- A unit disarmed. -/
def State.disarmTrig (s : State) (k : Nat) : State :=
  { s.wn (0x2820 + k) 0x01 0 with trigs := s.trigs.put k { s.trig k with armed := false, spent := false, waitLock := false } }

/-- A mode other than 0 arms a unit that is not spent. -/
theorem trigMode_arms {mode : Nat} (hmode : mode ≠ 0) (hspent : (s.trig k).spent = false)
    (hpulse : mode ≠ 2 ∨ s.rn (0x2820 + k) 0x06 < s.rn (0x2820 + k) 0x03) :
    trigMode k s (.num mode) = (s.armTrig k mode, 0) := by
  have hallowed : ¬(decide (mode = 2) && decide (s.rn (0x2820 + k) 0x03 ≤ s.rn (0x2820 + k) 0x06)) = true := by
    simp only [Bool.and_eq_true, decide_eq_true_eq]
    omega
  have hunspent : ¬(s.trig k).spent = true := by simp [hspent]
  exact (if_neg hallowed).trans ((if_neg hmode).trans (if_neg hunspent))

/-- Mode 2 with a pulse no shorter than the period is refused. -/
theorem trigMode_refuses (hpulse : s.rn (0x2820 + k) 0x03 ≤ s.rn (0x2820 + k) 0x06) : trigMode k s (.num (2 : Nat)) = (s, 6) :=
  if_pos (by simp [Val.int, hpulse])

/-- Mode 0 disarms. -/
theorem trigMode_disarms : trigMode k s (.num (0 : Nat)) = (s.disarmTrig k, 0) := by
  simp [trigMode, State.disarmTrig, State.wn, Val.int]

section Requests
variable {r : Req} (ht : s.takes r = true) (hk : k < 16)
include ht hk

/-- A write of the mode that the unit accepts is answered with status 0. -/
theorem State.trigMode_taken {s' : State} {mode : Nat} (hmode : mode ≤ 3) (he : trigMode k s (.num mode) = (s', 0))
    (hp : s'.power = s.power) :
    s.request r (0x2820 + k) 0x01 (leBytes 1 mode) (trigMode k) =
      { s'.abandonParts r (0x2820 + k) 0x01 with out := .resp r (0x2820 + k) 0x01 0 [] :: s'.out } := by
  obtain ⟨o, ho⟩ := State.checkWrite_of_takes_u8 ht (findObj_trigMode k hk) hmode (by omega)
  rw [s.request_taken r _ _ _ _ o _ ho (by rw [he]), he]
  exact State.respond_of_takes (s' := s'.abandonParts r (0x2820 + k) 0x01) ht hp ..

theorem State.triggerArm_arms {mode : Nat} (h1 : 1 ≤ mode) (h3 : mode ≤ 3) (hspent : (s.trig k).spent = false)
    (hpulse : mode ≠ 2 ∨ s.rn (0x2820 + k) 0x06 < s.rn (0x2820 + k) 0x03) :
    ∃ s', s.request r (0x2820 + k) 0x01 (leBytes 1 mode) (trigMode k) = s' ∧
      s'.rn (0x2820 + k) 0x01 = mode ∧ (s'.trig k).armed = true ∧ (s'.trig k).nextNs = s.trigStart k mode ∧
      (s'.trig k).late = decide (s.trigStart k mode < s.trigNow k) ∧ s'.rn (0x2820 + k) 0x09 = nsTime96 (s.trigStart k mode) ∧
      (∀ j, j ≠ k → s'.trig j = s.trig j) ∧ s'.out = .resp r (0x2820 + k) 0x01 0 [] :: s.out ∧
      s.odSame s' [key (0x2820 + k) 0x01, key (0x2820 + k) 0x09] ∧
      s' = { s with od := s'.od, trigs := s'.trigs, out := s'.out, partWrites := s'.partWrites } := by
  have hrow : (s.armTrig k mode).trig k = _ := Tab.at'_put_same ..
  refine ⟨_, State.trigMode_taken ht hk h3 (trigMode_arms (by omega) hspent hpulse) rfl, ?_, congrArg TrigS.armed hrow,
    congrArg TrigS.nextNs hrow, congrArg TrigS.late hrow, State.rn_wn_same .., fun j hj => Tab.at'_put_other _ _ _ hj, rfl, ?_, rfl⟩
  · exact (State.rn_wn_sub _ _ _ _ (by decide) (by decide) (by decide)).trans (State.rn_wn_same ..)
  · intro i hi
    simp only [List.mem_cons, List.not_mem_nil, or_false, not_or] at hi
    exact (Tab.look_put_other _ _ hi.2).trans (Tab.look_put_other _ _ hi.1)

theorem State.triggerArm_refused (hpulse : s.rn (0x2820 + k) 0x03 ≤ s.rn (0x2820 + k) 0x06) :
    s.request r (0x2820 + k) 0x01 (leBytes 1 2) (trigMode k) = { s with out := .resp r (0x2820 + k) 0x01 6 [] :: s.out } := by
  obtain ⟨o, ho⟩ := State.checkWrite_of_takes_u8 ht (findObj_trigMode k hk) (n := 2) (by decide) (by decide)
  rw [s.request_turned r _ _ _ _ o _ ho (by rw [trigMode_refuses hpulse]; exact (by decide : 6 ≠ 0)), trigMode_refuses hpulse]
  exact State.respond_of_takes ht rfl ..

theorem State.triggerDisarm_disarms :
    ∃ s', s.request r (0x2820 + k) 0x01 [0] (trigMode k) = s' ∧ s'.rn (0x2820 + k) 0x01 = 0 ∧ (s'.trig k).armed = false ∧
      (∀ j, j ≠ k → s'.trig j = s.trig j) ∧ s'.out = .resp r (0x2820 + k) 0x01 0 [] :: s.out ∧
      s.odSame s' [key (0x2820 + k) 0x01] ∧
      s' = { s with od := s'.od, trigs := s'.trigs, out := s'.out, partWrites := s'.partWrites } := by
  have hrow : (s.disarmTrig k).trig k = _ := Tab.at'_put_same ..
  exact ⟨_, State.trigMode_taken ht hk (by decide) trigMode_disarms rfl, State.rn_wn_same .., congrArg TrigS.armed hrow,
    fun j hj => Tab.at'_put_other _ _ _ hj, rfl, fun i hi => Tab.look_put_other _ _ (by simpa using hi), rfl⟩

end Requests
end Arm

/-! ### Firing (R181, R182) -/

section Fire
variable (s : State) (k : Nat)

/-- Whether a unit drives its pin. -/
def State.trigDrives : Bool := bit (s.rn (0x2820 + k) 0x04) 0 && s.rn (0x2820 + k) 0x05 ≠ 0xFF

/-- A unit that fires acts on its first three targets: its pin, the screens of its mask, and the commits that wait for it. -/
def State.trigActs : State :=
  let tg := s.rn (0x2820 + k) 0x04
  let a := if s.trigDrives k then s.say (.pin (s.rn (0x2820 + k) 0x05) (s.rn (0x2820 + k) 0x07 = 0)) else s
  let a := if bit tg 1 then a.trigFrames k else a
  if bit tg 2 then a.trigCommits k else a

/-- The last target: its event. -/
def State.trigTargets : State :=
  if bit (s.rn (0x2820 + k) 0x04) 3 then
    (s.trigActs k).raise (trigKey k) 0x0402 0 [(8, k), (56, nsTime96 (s.trig k).nextNs)]
  else s.trigActs k

/-- A unit's next fire time once it has fired. -/
def State.trigNext : Nat :=
  let g := s.trig k
  let m := s.rn (0x2820 + k) 0x01
  let per := s.trigPeriod k m
  if m = 1 || per = 0 then g.nextNs
  else if g.late then g.nextNs + ((s.trigNow k - g.nextNs) / per + 1) * per
  else g.nextNs + per

/-- A unit's row once it has fired. -/
def State.trigFired : TrigS :=
  let m := s.rn (0x2820 + k) 0x01
  let g := { s.trig k with armed := decide (m ≠ 1), spent := decide (m = 1), late := false, nextNs := s.trigNext k }
  if s.trigDrives k then
    { g with
      pinActive := true, pin := s.rn (0x2820 + k) 0x05, idle := decide (s.rn (0x2820 + k) 0x07 ≠ 0)
      until' := s.clock + ceilDiv (2 * s.rn (0x2820 + k) 0x06) 5 }
  else g

/-- A state without what the targets of a trigger unit change. -/
def State.sansTargets (s : State) : State := { s with od := [], log := {}, screens := [], commits := [], out := [] }

@[simp] theorem State.say_sansTargets (o : Out) : (s.say o).sansTargets = s.sansTargets := by
  rw [s.say_frame]
  rfl

@[simp] theorem State.raise_sansTargets (ty sev : Nat) (pay : List (Nat × Nat)) :
    (s.raise k ty sev pay).sansTargets = s.sansTargets := by
  rw [s.raise_frame]
  rfl

/-- A state without its screens' rows. -/
def State.sansScreens (s : State) : State := { s with screens := [] }

@[simp] theorem State.setScreen_sansScreens (x : Nat) (c : ScreenS) : (s.setScreen x c).sansScreens = s.sansScreens := rfl

theorem State.od_of_sansScreens {a b : State} (h : a.sansScreens = b.sansScreens) : a.od = b.od := (congrArg State.od h :)
theorem State.log_of_sansScreens {a b : State} (h : a.sansScreens = b.sansScreens) : a.log = b.log := (congrArg State.log h :)
theorem State.out_of_sansScreens {a b : State} (h : a.sansScreens = b.sansScreens) : a.out = b.out := (congrArg State.out h :)

theorem State.sansTargets_of_sansScreens {a b : State} (h : a.sansScreens = b.sansScreens) : a.sansTargets = b.sansTargets :=
  (congrArg State.sansTargets h :)

/-- The frame-start target asks the screens to align, and changes nothing else. -/
@[simp] theorem State.trigFrames_sansScreens : (s.trigFrames k).sansScreens = s.sansScreens := by
  refine foldl_leaves State.sansScreens _ (fun a x => ?_) s _
  split_ifs <;> simp

@[simp] theorem State.trigFrames_sansTargets : (s.trigFrames k).sansTargets = s.sansTargets :=
  State.sansTargets_of_sansScreens (s.trigFrames_sansScreens k)

@[simp] theorem State.trigCommits_sansTargets : (s.trigCommits k).sansTargets = s.sansTargets := rfl

theorem State.trigActs_sansTargets : (s.trigActs k).sansTargets = s.sansTargets := by
  unfold State.trigActs
  dsimp only
  split_ifs <;> simp

theorem State.trigTargets_sansTargets : (s.trigTargets k).sansTargets = s.sansTargets := by
  unfold State.trigTargets
  split_ifs <;> simp [State.trigActs_sansTargets]

theorem State.say_log (o : Out) : (s.say o).log = s.log := by
  rw [s.say_frame]

/-- The first three targets change no dictionary value. -/
theorem State.trigActs_od : (s.trigActs k).od = s.od := by
  unfold State.trigActs
  dsimp only
  split_ifs <;> simp [State.trigCommits, State.od_of_sansScreens (State.trigFrames_sansScreens _ _)]

/-- They raise no event. -/
theorem State.trigActs_log : (s.trigActs k).log = s.log := by
  unfold State.trigActs
  dsimp only
  split_ifs <;> simp [State.trigCommits, State.log_of_sansScreens (State.trigFrames_sansScreens _ _), State.say_log]

theorem State.look_trigTargets {i : Nat} (h : i ≠ key 0x2200 0x05) : (s.trigTargets k).od.look i = s.od.look i := by
  unfold State.trigTargets
  split_ifs
  · rw [State.look_raise_other _ _ _ _ _ h, s.trigActs_od k]
  · rw [s.trigActs_od k]

theorem State.rn_trigTargets (b : Nat) : (s.trigTargets k).rn (0x2820 + k) b = s.rn (0x2820 + k) b :=
  State.rn_of_look (s.look_trigTargets k (by simp only [key]; omega))

/-- The commits that wait for the unit are due. -/
theorem State.trigTargets_commits (h : bit (s.rn (0x2820 + k) 0x04) 2 = true) :
    ∀ c ∈ (s.trigTargets k).commits, c.timing = 2 → c.trig = k → c.due ≠ none := by
  have hcommits : (s.trigTargets k).commits = (s.trigActs k).commits := by
    unfold State.trigTargets
    split_ifs
    · rw [State.raise_frame]
    · rfl
  have hwait : ∀ a : State, ∀ c ∈ (a.trigCommits k).commits, c.timing = 2 → c.trig = k → c.due ≠ none := by
    intro a c hc htiming htrig
    obtain ⟨d, -, rfl⟩ := List.mem_map.1 hc
    by_cases hd : d.timing = 2 ∧ d.trig = k ∧ d.due = none
    · simp [hd]
    · split_ifs at htiming htrig ⊢ with hw <;> simp_all
  rw [hcommits, State.trigActs, if_pos h]
  exact hwait _

/-- A unit that drives its pin sends it, in a package that runs. -/
theorem State.trigTargets_out (hdrives : s.trigDrives k = true) (hrun : s.power.phase = .running) :
    (s.trigTargets k).out = .pin (s.rn (0x2820 + k) 0x05) (decide (s.rn (0x2820 + k) 0x07 = 0)) :: s.out := by
  have hacts : (s.trigTargets k).out = (s.trigActs k).out := by
    unfold State.trigTargets
    split_ifs
    · rw [State.raise_frame]
    · rfl
  rw [hacts, State.trigActs, if_pos hdrives, State.say_of_running hrun (.inl rfl)]
  split_ifs <;> simp [State.trigCommits, State.out_of_sansScreens (State.trigFrames_sansScreens _ _)]

/-- The event of a unit that fires carries its fire time. -/
theorem State.trigTargets_raised (h : bit (s.rn (0x2820 + k) 0x04) 3 = true) :
    s.raised (s.trigTargets k) (trigKey k) 0x0402 0 [(8, k), (56, nsTime96 (s.trig k).nextNs)] := by
  have hacts := s.trigActs_sansTargets k
  rw [State.trigTargets, if_pos h]
  refine State.raised_after _ _ _ (.of_eq (by rw [s.trigActs_log k]) _) (State.addrOf_congr ?_ ?_ _) (State.clockOf_congr ?_ ?_ _)
  · exact (congrArg State.force hacts :)
  · exact State.rn_of_look (by rw [s.trigActs_od k])
  · exact (congrArg State.time hacts :)
  · exact (congrArg State.link hacts :)

/-- The targets leave the time bases alone. -/
theorem State.trigTargets_now : (s.trigTargets k).trigNow k = s.trigNow k := by
  have htargets := s.trigTargets_sansTargets k
  have htime : (s.trigTargets k).time = s.time := (congrArg State.time htargets :)
  have hlink : (s.trigTargets k).link = s.link := (congrArg State.link htargets :)
  simp only [State.trigNow, State.nowAt, State.clockOf_congr htime hlink]

/-- A unit that reaches its fire time acts on its targets; then its row and what it shows change. -/
theorem State.trigFire_fires (harmed : (s.trig k).armed = true) (hdue : (s.trig k).nextNs ≤ s.trigNow k) :
    ∃ d, s.trigFire k = { s.trigTargets k with od := d, trigs := s.trigs.put k (s.trigFired k) } ∧
      (s.rn (0x2820 + k) 0x01 = 1 → (s.trig k).late = true → d.look (key (0x2820 + k) 0x0B) = some (.num 1)) := by
  have hwaits : ¬(!(s.trig k).armed || decide (s.trigNow k < (s.trig k).nextNs)) = true := by simp [harmed, hdue]
  have htrigs : (s.trigTargets k).trigs = s.trigs := (congrArg State.trigs (s.trigTargets_sansTargets k) :)
  have hclock : (s.trigTargets k).clock = s.clock := (congrArg State.clock (s.trigTargets_sansTargets k) :)
  have hread := s.rn_trigTargets k
  have hnow := s.trigTargets_now k
  unfold State.trigFire
  extract_lets g i m tg drives a1 a2 a3 a4 per next a5 g1 g2 a6 b
  have h4 : a4 = s.trigTargets k := rfl
  clear_value a4
  subst h4
  have hper : per = s.trigPeriod k m := by simp only [per, State.trigPeriod, hread]
  have hnext : next = s.trigNext k := by simp only [next, hper, hnow]; rfl
  have hrow : g2 = s.trigFired k := by
    have hread5 : ∀ b, b ≠ 0x0B → b < 256 → a5.rn i b = s.rn i b := fun b hb hlt => by
      simp only [a5]
      split_ifs
      · rw [State.rn_wn_sub _ _ _ _ hb (by decide) hlt, hread]
      · exact hread b
    have hclock5 : a5.clock = s.clock := by
      simp only [a5]
      split_ifs <;> exact hclock
    simp only [g2, g1, hnext, hclock5, hread5 5 (by decide) (by decide), hread5 6 (by decide) (by decide),
      hread5 7 (by decide) (by decide)]
    rfl
  have hshown : ∃ d, a5 = { s.trigTargets k with od := d } ∧
      (m = 1 → g.late = true → d.look (key i 0x0B) = some (.num 1)) := by
    refine ⟨a5.od, ?_, fun hm hlate => ?_⟩
    · simp only [a5]
      split_ifs <;> rfl
    · simp only [a5, hm, hlate, decide_true, Bool.and_self, if_true]
      exact Tab.look_put_same ..
  obtain ⟨d, hd, hlate⟩ := hshown
  have h6 : a6 = { s.trigTargets k with od := d, trigs := s.trigs.put k (s.trigFired k) } := by
    simp only [a6, hrow, hd, htrigs]
  rw [if_neg hwaits]
  by_cases hm : m = 1
  · exact ⟨d, (if_pos hm).trans h6, hlate⟩
  · refine ⟨_, (if_neg hm).trans (congrArg (State.wn · i 9 (nsTime96 next)) h6), fun h => absurd h hm⟩

section Row
variable {s : State} {k : Nat}

@[simp] theorem State.trigFired_armed : (s.trigFired k).armed = decide (s.rn (0x2820 + k) 0x01 ≠ 1) := by
  unfold State.trigFired
  dsimp only
  split_ifs <;> rfl

@[simp] theorem State.trigFired_spent : (s.trigFired k).spent = decide (s.rn (0x2820 + k) 0x01 = 1) := by
  unfold State.trigFired
  dsimp only
  split_ifs <;> rfl

@[simp] theorem State.trigFired_nextNs : (s.trigFired k).nextNs = s.trigNext k := by
  unfold State.trigFired
  dsimp only
  split_ifs <;> rfl

/-- A unit that drives its pin keeps it active for the pulse width. -/
theorem State.trigFired_pin (h : s.trigDrives k = true) :
    (s.trigFired k).pinActive = true ∧ (s.trigFired k).pin = s.rn (0x2820 + k) 0x05 ∧
      (s.trigFired k).until' = s.clock + ceilDiv (2 * s.rn (0x2820 + k) 0x06) 5 := by
  unfold State.trigFired
  dsimp only
  rw [if_pos h]
  exact ⟨rfl, rfl, rfl⟩

/-- A unit that fires again in time does so a period later. -/
theorem State.trigNext_period (hmode : s.rn (0x2820 + k) 0x01 ≠ 1) (hlate : (s.trig k).late = false) :
    s.trigNext k = (s.trig k).nextNs + s.trigPeriod k (s.rn (0x2820 + k) 0x01) := by
  unfold State.trigNext
  by_cases hper : s.trigPeriod k (s.rn (0x2820 + k) 0x01) = 0 <;> simp [hmode, hlate, hper]

end Row

theorem State.eq_of_sansTargets {a b : State} (h : a.sansTargets = b.sansTargets) :
    a = { b with od := a.od, log := a.log, screens := a.screens, commits := a.commits, out := a.out } :=
  congrArg (fun x : State => { x with od := a.od, log := a.log, screens := a.screens, commits := a.commits, out := a.out }) h

/-- An armed unit at its fire time fires. -/
theorem State.trigFire_acts (harmed : (s.trig k).armed = true) (hdue : (s.trig k).nextNs ≤ s.trigNow k) :
    ∃ s', s.trigFire k = s' ∧
      (s'.trig k).armed = decide (s.rn (0x2820 + k) 0x01 ≠ 1) ∧ (s'.trig k).spent = decide (s.rn (0x2820 + k) 0x01 = 1) ∧
      (s.rn (0x2820 + k) 0x01 ≠ 1 → (s.trig k).late = false →
        (s'.trig k).nextNs = (s.trig k).nextNs + s.trigPeriod k (s.rn (0x2820 + k) 0x01)) ∧
      (s.rn (0x2820 + k) 0x01 = 1 → (s.trig k).late = true → s'.rn (0x2820 + k) 0x0B = 1) ∧
      (bit (s.rn (0x2820 + k) 0x04) 0 = true → s.rn (0x2820 + k) 0x05 ≠ 0xFF → s.power.phase = .running →
        .pin (s.rn (0x2820 + k) 0x05) (decide (s.rn (0x2820 + k) 0x07 = 0)) ∈ s'.out ∧ (s'.trig k).pinActive = true ∧
        (s'.trig k).pin = s.rn (0x2820 + k) 0x05 ∧ (s'.trig k).until' = s.clock + ceilDiv (2 * s.rn (0x2820 + k) 0x06) 5) ∧
      (bit (s.rn (0x2820 + k) 0x04) 3 = true → s.raised s' (trigKey k) 0x0402 0 [(8, k), (56, nsTime96 (s.trig k).nextNs)]) ∧
      (bit (s.rn (0x2820 + k) 0x04) 2 = true → ∀ c ∈ s'.commits, c.timing = 2 → c.trig = k → c.due ≠ none) ∧
      (∀ j, j ≠ k → s'.trig j = s.trig j) ∧
      s' = { s with
        od := s'.od, log := s'.log, trigs := s'.trigs, screens := s'.screens, commits := s'.commits, out := s'.out } := by
  obtain ⟨d, hfire, hshown⟩ := s.trigFire_fires k harmed hdue
  have hrow : State.trig { s.trigTargets k with od := d, trigs := s.trigs.put k (s.trigFired k) } k = s.trigFired k :=
    Tab.at'_put_same ..
  refine ⟨_, hfire, ?_⟩
  rw [hrow]
  refine ⟨State.trigFired_armed, State.trigFired_spent, ?_, ?_, ?_, s.trigTargets_raised k, s.trigTargets_commits k,
    fun j hj => Tab.at'_put_other _ _ _ hj, ?_⟩
  · intro hmode hlate
    rw [State.trigFired_nextNs, State.trigNext_period hmode hlate]
  · intro hmode hlate
    simp only [State.rn, State.rd, State.val, hshown hmode hlate]
    rfl
  · intro hbit hpin hrun
    have hdrives : s.trigDrives k = true := by simp [State.trigDrives, hbit, hpin]
    refine ⟨?_, State.trigFired_pin hdrives⟩
    rw [s.trigTargets_out k hdrives hrun]
    exact List.mem_cons_self
  · exact congrArg (fun x : State => { x with od := d, trigs := s.trigs.put k (s.trigFired k) })
      (State.eq_of_sansTargets (s.trigTargets_sansTargets k))

/-- A unit that is not armed, or whose fire time has not come, does nothing. -/
theorem State.trigFire_waits (h : (s.trig k).armed = false ∨ s.trigNow k < (s.trig k).nextNs) : s.trigFire k = s :=
  if_pos (by rcases h with h | h <;> simp [h])

/-- Once the pulse width has run, the pin goes back to its inactive level. -/
theorem State.pulseEnd_ends (hactive : (s.trig k).pinActive = true) (hdue : (s.trig k).until' ≤ s.clock)
    (hrun : s.power.phase = .running) :
    ∃ s', s.pulseEnd k = s' ∧ (s'.trig k).pinActive = false ∧ (∀ j, j ≠ k → s'.trig j = s.trig j) ∧
      s'.out = .pin (s.trig k).pin (s.trig k).idle :: s.out ∧ s' = { s with trigs := s'.trigs, out := s'.out } := by
  have hdone : ((s.trig k).pinActive && decide ((s.trig k).until' ≤ s.clock)) = true := by simp [hactive, hdue]
  refine ⟨_, (if_pos hdone).trans (State.say_of_running hrun (.inl rfl)), congrArg TrigS.pinActive (Tab.at'_put_same ..),
    fun j hj => Tab.at'_put_other _ _ _ hj, rfl, rfl⟩

end Fire

/-! ### Capture units (R184, R185) -/

section Capture
variable {s : State} {c : Nat}

theorem findObj_lateShown : ∀ k < 16, (findObj (0x2820 + k) 0x0B).map (fun o => (o.ty, o.acc)) = some (.bool, .ro) := by
  decide +kernel

theorem findObj_captureRecord : ∀ c < 8, (findObj (0x2840 + c) 0x04).map (fun o => (o.ty, o.acc)) = some (.domain, .ro) := by
  decide +kernel

/-- An edge that the unit's mode does not stamp does nothing. -/
theorem State.captureEdge_ignored {rising : Bool} (h : edgeOn (s.rn (0x2840 + c) 0x01) rising = false) :
    s.captureEdge c rising = s :=
  if_pos (by simp [h])

section Stamped
variable {rising : Bool} (hedge : edgeOn (s.rn (0x2840 + c) 0x01) rising = true) (hpin : s.rn (0x2840 + c) 0x02 ≠ 0xFF)
include hedge hpin

/-- An edge less than 10 ns after the last stamped is counted alone. -/
theorem State.captureEdge_close {p : Nat} (hlast : (s.cap c).lastAt = some p) (h : s.clock < p + 4) :
    ∃ s', s.captureEdge c rising = s' ∧ s.counted s' (0x2840 + c) 0x06 1 ∧ s'.caps = s.caps ∧
      s' = { s with od := s'.od, log := s'.log, caps := s'.caps } := by
  have hcounts : s.captureEdge c rising = s.bump (capKey c) (0x2840 + c) 0x06 := by
    simp [State.captureEdge, hedge, hpin, hlast, h]
  have hsans := s.bump_sansCounts (capKey c) (0x2840 + c) 0x06 1
  have hcaps : (s.bump (capKey c) (0x2840 + c) 0x06).caps = s.caps := (congrArg State.caps hsans :)
  refine ⟨_, hcounts, s.counted_bump _ _ _ _, hcaps, ?_⟩
  rw [hcaps]
  exact State.eq_of_sansCounts hsans

/-- The record of an edge. -/
def State.capRecord (s : State) (c : Nat) (rising : Bool) : CapRec :=
  ⟨time96 (s.clockOf (c / 4)).1 (s.clockOf (c / 4)).2, s.rn (0x2840 + c) 0x07, s.rn 0x2800 0x0E, rising⟩

/-- A unit whose records are full takes the number and the time of an edge all the same. -/
def State.capMarked (s : State) (c : Nat) : State :=
  { s.wrap 16 (0x2840 + c) 0x07 with caps := s.caps.put c { s.cap c with lastAt := some s.clock, full := true } }

/-- It counts the edge. -/
def State.capMissed (s : State) (c : Nat) : State := (s.capMarked c).bump (capKey c) (0x2840 + c) 0x05

/-- Any other is stamped: it joins the records, or is missed where they are full. -/
theorem State.captureEdge_stamps (hfar : ∀ p, (s.cap c).lastAt = some p → p + 4 ≤ s.clock) :
    s.captureEdge c rising =
      if (s.cap c).recs.length < 16 then
        State.wn { s.wrap 16 (0x2840 + c) 0x07 with
            caps := s.caps.put c { s.cap c with recs := (s.cap c).recs ++ [s.capRecord c rising], lastAt := some s.clock } }
          (0x2840 + c) 0x03 ((s.cap c).recs.length + 1)
      else if (s.cap c).full then s.capMissed c
      else (s.capMissed c).raise (capKey c) 0x0403 1 [(8, c)] := by
  have hopen : ¬(!edgeOn (s.rn (0x2840 + c) 0x01) rising || decide (s.rn (0x2840 + c) 0x02 = 0xFF)) = true := by simp [hedge, hpin]
  have hnear : ¬(match (s.cap c).lastAt with | some p => decide (s.clock < p + 4) | none => false) = true := by
    cases hlast : (s.cap c).lastAt with
    | none => simp
    | some p => simp [hfar p hlast]
  exact (if_neg hopen).trans (if_neg hnear)

/-- An edge stamped where the records have room joins them, with the unit's next number. -/
theorem State.captureEdge_records (hfar : ∀ p, (s.cap c).lastAt = some p → p + 4 ≤ s.clock) (hroom : (s.cap c).recs.length < 16) :
    ∃ s', s.captureEdge c rising = s' ∧ (s'.cap c).recs = (s.cap c).recs ++ [s.capRecord c rising] ∧
      s'.rn (0x2840 + c) 0x03 = (s.cap c).recs.length + 1 ∧ s'.rn (0x2840 + c) 0x07 = wrapInc 16 (s.rn (0x2840 + c) 0x07) ∧
      s' = { s with od := s'.od, log := s'.log, caps := s'.caps } := by
  refine ⟨_, (State.captureEdge_stamps hedge hpin hfar).trans (if_pos hroom), congrArg CapS.recs (Tab.at'_put_same ..),
    State.rn_wn_same .., ?_, rfl⟩
  exact (State.rn_wn_sub _ _ _ _ (by decide) (by decide) (by decide)).trans (State.rn_wn_same ..)

/-- A missed edge leaves the records as they are, counts, and is an event where it is the first missed. -/
theorem State.captureEdge_misses (hfar : ∀ p, (s.cap c).lastAt = some p → p + 4 ≤ s.clock) (hfull : 16 ≤ (s.cap c).recs.length) :
    ∃ s', s.captureEdge c rising = s' ∧ (s'.cap c).recs = (s.cap c).recs ∧ s.counted s' (0x2840 + c) 0x05 1 ∧
      ((s.cap c).full = false → s.raised s' (capKey c) 0x0403 1 [(8, c)]) ∧
      s' = { s with od := s'.od, log := s'.log, caps := s'.caps } := by
  have hstamps := (State.captureEdge_stamps hedge hpin hfar).trans (if_neg (by omega))
  have hcount : (s.capMarked c).rn (0x2840 + c) 0x05 = s.rn (0x2840 + c) 0x05 :=
    State.rn_wn_sub _ _ _ _ (by decide) (by decide) (by decide)
  have hcounted : s.counted (s.capMissed c) (0x2840 + c) 0x05 1 := (State.counted_bump _ _ _ _ _).congr hcount.symm rfl
  have hmissed : (s.capMissed c).sansCounts = (s.capMarked c).sansCounts := State.bump_sansCounts ..
  have hrest : ∀ a : State, a.sansCounts = (s.capMarked c).sansCounts →
      (a.cap c).recs = (s.cap c).recs ∧ a = { s with od := a.od, log := a.log, caps := a.caps } := by
    intro a ha
    have hcaps : a.caps = (s.capMarked c).caps := (congrArg State.caps ha :)
    refine ⟨?_, ?_⟩
    · have hrow : (s.capMarked c).caps.at' c {} = { s.cap c with lastAt := some s.clock, full := true } := Tab.at'_put_same ..
      rw [State.cap, hcaps, hrow]
    · rw [hcaps]
      exact State.eq_of_sansCounts ha
  refine ⟨_, hstamps, ?_⟩
  by_cases hf : (s.cap c).full = true
  · rw [if_pos hf]
    obtain ⟨hrecs, hframe⟩ := hrest _ hmissed
    exact ⟨hrecs, hcounted, fun h => absurd (hf.symm.trans h) (by decide), hframe⟩
  · rw [if_neg hf]
    obtain ⟨hrecs, hframe⟩ := hrest _ ((State.raise_sansCounts _ _ _ _ _).trans hmissed)
    refine ⟨hrecs, hcounted.congr rfl (State.rn_of_look ?_), fun _ => ?_, hframe⟩
    · exact State.look_raise_other _ _ _ _ _ (by simp only [key]; omega)
    · refine State.raised_after _ _ _ ?_ (State.addrOf_congr ?_ ?_ _) (State.clockOf_congr ?_ ?_ _)
      · exact (State.bump_grown (s := s.capMarked c) (capKey c) (0x2840 + c) 0x05 1).mono (by norm_num)
      · exact (congrArg State.force hmissed :)
      · exact State.rn_of_look ((State.look_bump_other _ _ _ (by simp only [key]; omega) (by decide)).trans
          (State.look_wn_other _ _ (by simp only [key]; omega)))
      · exact (congrArg State.time hmissed :)
      · exact (congrArg State.link hmissed :)

end Stamped

/-- The oldest record is given up. -/
theorem State.captureRecordRead_gives {r : Req} (ha : s.answers r = true) (hc : c < 8) {v : CapRec} {vs : List CapRec}
    (hrecs : (s.cap c).recs = v :: vs) :
    ∃ s', s.readReq r (0x2840 + c) 0x04 (capRead c) = s' ∧ (s'.cap c).recs = vs ∧ s'.rn (0x2840 + c) 0x03 = vs.length ∧
      s'.out = .resp r (0x2840 + c) 0x04 0 v.bytes :: s.out ∧ s.odSame s' [key (0x2840 + c) 0x03] ∧
      s' = { s with od := s'.od, caps := s'.caps, out := s'.out } := by
  have heff : capRead c s =
      (State.wn { s with caps := s.caps.put c { s.cap c with recs := vs, full := false } } (0x2840 + c) 0x03 vs.length, 0,
        .bytes v.bytes) := by
    simp only [capRead, hrecs]
  exact ⟨_, s.readReq_taken ha (findObj_captureRecord c hc) heff rfl, congrArg CapS.recs (Tab.at'_put_same ..), State.rn_wn_same ..,
    rfl, fun i hi => Tab.look_put_other _ _ (by simpa using hi), rfl⟩

/-- With no record held the read answers status 9. -/
theorem State.captureRecordRead_empty {r : Req} (ha : s.answers r = true) (hc : c < 8) (hrecs : (s.cap c).recs = []) :
    s.readReq r (0x2840 + c) 0x04 (capRead c) = { s with out := .resp r (0x2840 + c) 0x04 9 [] :: s.out } := by
  have heff : capRead c s = (s, 9, .bytes []) := by simp only [capRead, hrecs]
  rw [State.readReq_turned ha (findObj_captureRecord c hc) (by simp [heff]), heff]

end Capture
/-- Settles O29: each command is one operation on its unit's row, and a unit that fires acts on its targets first. -/
theorem triggersAndCaptures : Obligations.TriggersAndCaptures := by
  unfold Obligations.TriggersAndCaptures
  intro s t u
  have hnext : ∀ {a b : State}, a = b → (.next a : Host.Outcome State Fault Refusal) = .next b := congrArg _
  refine ⟨?_, ?_, ?_, ?_, ?_, ?_, ?_, ?_, ?_⟩
  · intro r k mode ht hk h1 h3 hspent
    refine ⟨fun hpulse => ?_, ?_⟩
    · obtain ⟨s', hs', hrest⟩ := State.triggerArm_arms ht hk h1 h3 hspent hpulse
      exact ⟨s', hnext hs', hrest⟩
    · rintro rfl hpulse
      exact hnext (State.triggerArm_refused ht hk hpulse)
  · intro r k ht hk
    obtain ⟨s', hs', hrest⟩ := State.triggerDisarm_disarms ht hk
    exact ⟨s', hnext hs', hrest⟩
  · intro k harmed hdue
    obtain ⟨s', hs', hrest⟩ := u.trigFire_acts k harmed hdue
    exact ⟨s', hnext hs', hrest⟩
  · exact fun k h => hnext (u.trigFire_waits k h)
  · intro k hactive hdue hrun
    obtain ⟨s', hs', hrest⟩ := u.pulseEnd_ends k hactive hdue hrun
    exact ⟨s', hnext hs', hrest⟩
  · intro r k ha hk
    obtain ⟨s', hs', hrest⟩ := State.clearRead_answered ha (findObj_lateShown k hk) rfl
    exact ⟨s', hnext hs', hrest⟩
  · intro c rising hc hedge hpin
    by_cases hclose : ∃ p, (u.cap c).lastAt = some p ∧ u.clock < p + 4
    · obtain ⟨p, hlast, hclose⟩ := hclose
      obtain ⟨s', hs', hcounted, hcaps, hframe⟩ := State.captureEdge_close hedge hpin hlast hclose
      have hnear : ¬∀ q, (u.cap c).lastAt = some q → q + 4 ≤ u.clock := fun hfar => by
        have := hfar p hlast
        omega
      exact ⟨s', hnext hs', fun _ _ _ => ⟨hcounted, hcaps⟩, fun hfar => absurd hfar hnear, fun hfar => absurd hfar hnear, hframe⟩
    · have hfar : ∀ p, (u.cap c).lastAt = some p → p + 4 ≤ u.clock := fun p hp => by
        by_contra h
        exact hclose ⟨p, hp, by omega⟩
      have hapart : ∀ p, (u.cap c).lastAt = some p → ¬u.clock < p + 4 := fun p hp => by
        have := hfar p hp
        omega
      by_cases hroom : (u.cap c).recs.length < 16
      · obtain ⟨s', hs', hrecs, hcount, hnum, hframe⟩ := State.captureEdge_records hedge hpin hfar hroom
        exact ⟨s', hnext hs', fun p hp h => absurd h (hapart p hp), fun _ _ => ⟨hrecs, hcount, hnum⟩, fun _ h => by omega, hframe⟩
      · obtain ⟨s', hs', hrecs, hcounted, hraised, hframe⟩ := State.captureEdge_misses hedge hpin hfar (by omega)
        exact ⟨s', hnext hs', fun p hp h => absurd h (hapart p hp), fun _ h => absurd h hroom,
          fun _ _ => ⟨hrecs, hcounted, hraised⟩, hframe⟩
  · exact fun c rising h => hnext (State.captureEdge_ignored h)
  · intro r c ha hc
    refine ⟨fun v vs hrecs => ?_, fun hrecs => hnext (State.captureRecordRead_empty ha hc hrecs)⟩
    obtain ⟨s', hs', hrest⟩ := State.captureRecordRead_gives ha hc hrecs
    exact ⟨s', hnext hs', hrest⟩

end Sys2Proof.Machine
end

section
/-! SUPPORT. Counterexamples about PTP (R172, R174) and about time marks (R169, R177). -/

namespace Sys2Proof.Machine

/-! ### A refutation: the transmission mode no write stores (R172, R174) -/

/-- A running package whose PTP port 0 is a MASTER, and whose dictionary holds 2 in 0x2A00:07. -/
def transmissionModeTwo : State :=
  { power := { phase := .running }
    od := [(key 0x2910 0x0A, .num 1), (key 0x2A00 0x01, .num 1), (key 0x2A00 0x07, .num 2), (key 0x2A10 0x03, .num 6)] }

/-- It meets the hypotheses on a MASTER port's sending, and 2 is not the mode of two steps. -/
theorem transmissionModeTwo_sends :
    let u := transmissionModeTwo.tick 0
    u.ptpOn 0 = true ∧ u.rn 0x2A10 0x03 = portMaster ∧ u.power.phase = .running ∧ u.rn 0x6800 0x09 ≠ 3 ∧
      u.rn 0x2A00 0x07 = 2 ∧ u.rn 0x2A00 0x02 = 0 ∧ u.rn 0x2A10 0x01 = 0 := by
  decide +kernel

/-- How an output's UDP checksum is treated, where it is a PTP message. -/
def Out.ptpSum : Out → Option Nat
  | .ptp _ m => some m.sum
  | _ => none

/-- What it sends: an Announce and a Sync, of which neither has its checksum touched. -/
theorem transmissionModeTwo_sums : ((transmissionModeTwo.tick 0).masterSend 0).out.map Out.ptpSum = [some 0, some 0] := by
  decide +kernel

/-- Refutes O28: the statement calls every mode but 1 of 0x2A00:07 one-step, and so clears a Sync's checksum in mode 2, which the
model does in mode 0 alone. The range of 0x2A00:07 ends at 1: no write stores the 2 that tells the two apart. -/
theorem not_ptpPortsFollowTheMaster : ¬ Obligations.PtpPortsFollowTheMaster := by
  unfold Obligations.PtpPortsFollowTheMaster
  intro h
  obtain ⟨hon, hmaster, hrun, hfenced, hmode, hdelay, htransport⟩ := transmissionModeTwo_sends
  obtain ⟨-, -, -, -, hsend, -⟩ := h transmissionModeTwo 0 0 (by decide)
  obtain ⟨s', hs', -, hout, -⟩ := hsend hon hmaster hrun hfenced
  have hback : (transmissionModeTwo.tick 0).masterSend 0 = s' := Host.Outcome.next.inj hs'
  have hsums := transmissionModeTwo_sums
  rw [hback, hout _ _ _ rfl rfl rfl] at hsums
  simp [hmode, hdelay, htransport, Out.ptpSum] at hsums

/-! ### A refutation: a time mark that steps the time base (R169, R177) -/

/-- A time mark, sent at the epoch with U = 0 and no hops, as it comes in on one lane ten seconds later. -/
def markLate : SpWire :=
  let b := List.replicate 44 0
  { cols := frameCols 1 (SpOut.bytes ⟨ftMark, 0, 0, 0, 0, 0, 0, b⟩ 0 0 b), rxNs := 10000000000 }

/-- A standalone package whose servo follows time marks, whose port A is up on one lane with its link's delay known, and whose screen 0
started its frame at second 20, which it is now. -/
def marksFollowed : State :=
  { od := [(key 0x2800 0x03, .num 2), (key (spIdx 0) 0x04, .num 3), (key (spIdx 0) 0x05, .num 1)]
    spay := [(0, { delay := some 0 })], time := { sec := 20 }, screens := [(0, { start := 20000000000 })] }

/-- The mark is taken, and it is no reply. -/
theorem marksFollowed_takes :
    let u := marksFollowed.tick 0
    let f := u.spFrame 0 markLate
    f.ftype = ftMark ∧ (u.receive 0 f).2 = true ∧ byteAt f.payload 0 ≠ 1 := by
  decide +kernel

/-- The step it makes moves the start of the screen's frame with the time base. -/
theorem marksFollowed_shifts :
    let u := marksFollowed.tick 0
    let f := u.spFrame 0 markLate
    let v := (u.receive 0 f).1
    (v.screen 0).start = 20000000000 ∧ ((v.markTake 0 f).screen 0).start = 10000000000 := by
  decide +kernel

/-- Refutes O42: the statement keeps the screens, the touch ports and the encoders when a time mark comes in, but a mark whose offset
reaches 0x2800:05 steps the time base (R169), and the times they count from move with it. -/
theorem not_framesAreCheckedAndRelaysRun : ¬ Obligations.FramesAreCheckedAndRelaysRun := by
  unfold Obligations.FramesAreCheckedAndRelaysRun
  intro h
  obtain ⟨htype, htaken, hkind⟩ := marksFollowed_takes
  obtain ⟨hbefore, hafter⟩ := marksFollowed_shifts
  obtain ⟨-, -, -, -, -, hmark, -⟩ := h marksFollowed 0 0 markLate (by decide)
  obtain ⟨s', hs', -, -, -, -, hframe⟩ := (hmark htype htaken).2 hkind
  have hexec : exec (.timeMark 0 0 markLate) marksFollowed = .next
      (((marksFollowed.tick 0).receive 0 ((marksFollowed.tick 0).spFrame 0 markLate)).1.markTake 0
        ((marksFollowed.tick 0).spFrame 0 markLate)) := by
    have hwire : marksFollowed.spFrame 0 markLate = (marksFollowed.tick 0).spFrame 0 markLate := rfl
    simp only [exec, execTimeMark, State.onFrame, hwire, htype, htaken, decide_true, Bool.not_true, if_true,
      Bool.false_eq_true, if_false]
  have hback := Host.Outcome.next.inj (hexec.symm.trans hs')
  have hscreens := (congrArg State.screens hframe :)
  rw [hback, State.screen, hscreens] at hafter
  exact absurd (hbefore.symm.trans hafter) (by decide)

end Sys2Proof.Machine
end

section
/-! SUPPORT. The statement about commits: requests, what submitting and cancelling commits leaves alone, receipts, staging commands
(R265 to R280). -/

namespace Sys2Proof.Machine

/-! ### Requests by a requester that may write (R16) -/

section Requests
variable {s a : State} {r : Req} {idx sub : Nat} {data : List Byte} {o : Obj} {v : Val} {eff : State → Val → State × Nat}
  (ht : s.takes r = true) (hc : s.checkWrite r idx sub data = .ok (o, v))
include ht hc

/-- A request that passes the checks and is accepted has its effect and is answered with status 0. -/
theorem State.request_accepted (he : eff s v = (a, 0)) (hp : a.power = s.power) :
    s.request r idx sub data eff = { a.abandonParts r idx sub with out := .resp r idx sub 0 [] :: a.out } := by
  rw [s.request_taken r _ _ _ _ o v hc (by rw [he]), he]
  exact State.respond_of_takes (s' := a.abandonParts r idx sub) ht hp ..

/-- A request that passes the checks and whose effect refuses it is answered with the effect's code, and nothing else happens. -/
theorem State.request_declined {code : Nat} (he : eff s v = (a, code)) (hcode : code ≠ 0) :
    s.request r idx sub data eff = { s with out := .resp r idx sub code [] :: s.out } := by
  rw [s.request_turned r _ _ _ _ o v hc (by rw [he]; exact hcode), he]
  exact State.respond_of_takes ht rfl ..

end Requests

/-! ### What commits leave alone (R267 to R280) -/

/-- A state without what submitting and cancelling commits changes: dictionary values, the log, the commits and their receipts. -/
def State.sansCommits (s : State) : State := { s.sansCounts with commits := [], receipts := [] }

/-- Whether a screen is available does not depend on commits. -/
theorem State.unavailable_of_sansCommits {a b : State} (h : a.sansCommits = b.sansCommits) (x : Nat) :
    a.unavailable x = b.unavailable x := (congrArg (State.unavailable · x) h :)

section Commits
variable (s : State)

@[simp] theorem State.wn_sansCommits (idx sub v : Nat) : (s.wn idx sub v).sansCommits = s.sansCommits := rfl
@[simp] theorem State.openReceipts_sansCommits (id : Nat) : (s.openReceipts id).sansCommits = s.sansCommits := by
  unfold State.openReceipts
  rfl

@[simp] theorem State.putCommit_sansCommits (c : CommitS) : (s.putCommit c).sansCommits = s.sansCommits := rfl

@[simp] theorem State.bump_sansCommits (k idx sub n : Nat) : (s.bump k idx sub n).sansCommits = s.sansCommits := by
  rw [s.bump_frame]
  rfl

@[simp] theorem State.receipt_sansCommits (r : Receipt) : (s.receipt r).sansCommits = s.sansCommits := by
  unfold State.receipt
  dsimp only
  rw [State.raise_frame]
  rfl

@[simp] theorem State.bump_commits (k idx sub n : Nat) : (s.bump k idx sub n).commits = s.commits :=
  (congrArg State.commits (s.bump_sansCounts k idx sub n) :)

@[simp] theorem State.bump_receipts (k idx sub n : Nat) : (s.bump k idx sub n).receipts = s.receipts :=
  (congrArg State.receipts (s.bump_sansCounts k idx sub n) :)

@[simp] theorem State.openReceipts_commits (id : Nat) : (s.openReceipts id).commits = s.commits := by
  unfold State.openReceipts
  rfl

@[simp] theorem State.putCommit_receipts (c : CommitS) : (s.putCommit c).receipts = s.receipts := rfl

@[simp] theorem State.receipt_commits (r : Receipt) : (s.receipt r).commits = s.commits :=
  (congrArg State.commits (State.raise_sansCounts _ _ _ _ _) :)

theorem State.rn_putCommit (c : CommitS) {sub : Nat} (h : sub ≠ 0x09) (hsub : sub < 256) :
    (s.putCommit c).rn 0x4300 sub = s.rn 0x4300 sub :=
  State.rn_wn_sub _ _ _ _ h (by decide) hsub

/-! Receipts (R278, R279) -/

/-- A receipt raised is held by its id, and no other receipt is. -/
theorem State.receipt_receipts (r : Receipt) : (s.receipt r).receipts =
    s.receipts.map (fun (p : Nat × List Receipt) => if p.1 = r.id then (p.1, p.2 ++ [r]) else p) :=
  (congrArg State.receipts (State.raise_sansCounts _ _ _ _ _) :)

/-- A new id stands among the 64 most recent, without a receipt. -/
theorem State.mem_openReceipts (id : Nat) : (id, []) ∈ (s.openReceipts id).receipts := by
  have hlast (l : List (Nat × List Receipt)) : (id, []) ∈ (l ++ [(id, [])]).drop ((l ++ [(id, [])]).length - 64) := by
    rw [List.drop_append_of_le_length (by simp only [List.length_append, List.length_singleton]; omega)]
    exact List.mem_append_right _ List.mem_cons_self
  exact hlast _

/-- The first receipt of an id is the only one it holds. -/
theorem State.mem_receipt {r : Receipt} {id : Nat} (hid : r.id = id) (h : (id, []) ∈ s.receipts) :
    (id, [r]) ∈ (s.receipt r).receipts := by
  rw [State.receipt_receipts]
  exact List.mem_map.2 ⟨_, h, if_pos hid.symm⟩

/-- A receipt's event leaves every number but the count of lost events. -/
theorem State.rn_receipt (r : Receipt) (idx : Nat) {sub : Nat} (h : sub ≠ 0x05) (hsub : sub < 256) :
    (s.receipt r).rn idx sub = s.rn idx sub :=
  State.rn_raise_sub _ _ _ _ _ _ h hsub

end Commits

/-! ### Submission (R266 to R270, R278) -/

/-- The screens of a mask make up the mask. -/
theorem foldl_screensIn (mask : Nat) : (screensIn mask).foldl (fun m x => m + 2 ^ x) 0 = mask % 2 ^ 24 := by
  have hsum (n : Nat) : ((List.range n).filter (bit mask)).foldl (fun m x => m + 2 ^ x) 0 = mask % 2 ^ n := by
    induction n with
    | zero => simp [Nat.mod_one]
    | succ n ih =>
      rw [List.range_succ, List.filter_append, List.foldl_append, ih, Nat.mod_pow_succ, ← Nat.toNat_testBit]
      cases hbit : mask.testBit n <;> simp [bit, hbit]
  exact hsum 24

theorem mem_screensIn {mask x : Nat} : x ∈ screensIn mask ↔ x < 24 ∧ bit mask x = true := by
  simp [screensIn]

/-- A bit within the screens outlasts the cut to them. -/
theorem bit_mod_screens (m : Nat) {x : Nat} (hx : x < 24) : bit (m % 2 ^ 24) x = bit m x :=
  (Nat.testBit_mod_two_pow ..).trans (by simp [hx, bit])

/-- A mask with a screen in it is not empty within the screens. -/
theorem mod_ne_zero_of_screensIn {mask : Nat} (h : screensIn mask ≠ []) : mask % 2 ^ 24 ≠ 0 := by
  obtain ⟨x, hx⟩ := List.exists_mem_of_ne_nil _ h
  obtain ⟨hlt, hbit⟩ := mem_screensIn.1 hx
  intro hzero
  rw [← bit_mod_screens mask hlt, hzero, bit, Nat.zero_testBit] at hbit
  exact absurd hbit (by decide)

theorem findObj_commitRequest :
    findObj 0x4300 0x01 = some ⟨0x4300, 1, 0x01, 0x01, .domain, .wo, false, false, false, .bytes [], .size 24 24⟩ := by
  decide +kernel

/-- Of a requester that may write, 24 bytes of a commit request pass the checks. -/
theorem State.checkWrite_commitRequest {s : State} {r : Req} (ht : s.takes r = true) {d : List Byte} (hd : d.length = 24) :
    ∃ o, s.checkWrite r 0x4300 0x01 d = .ok (o, .bytes d) := by
  refine State.checkWrite_of_takes_wo ht (ty := .domain) ?_ rfl rfl
  rw [findObj_commitRequest, hd]
  simp [sizeOk, Ty.size, Chk.ok, hd]

/-- The state that has given a request its id, with the id's receipts open. -/
def State.numbered (s : State) (id : Nat) : State := (s.wn 0x4300 0x08 id).openReceipts id

@[simp] theorem State.numbered_sansCommits (s : State) (id : Nat) : (s.numbered id).sansCommits = s.sansCommits := by
  simp [State.numbered]

@[simp] theorem State.numbered_commits (s : State) (id : Nat) : (s.numbered id).commits = s.commits := by
  simp [State.numbered]

@[simp] theorem State.numbered_od (s : State) (id : Nat) : (s.numbered id).od = (s.wn 0x4300 0x08 id).od := by
  unfold State.numbered State.openReceipts
  rfl

theorem State.mem_numbered (s : State) (id : Nat) : (id, []) ∈ (s.numbered id).receipts :=
  State.mem_openReceipts (s.wn 0x4300 0x08 id) id

theorem State.rn_numbered (s : State) (id : Nat) : (s.numbered id).rn 0x4300 0x08 = id :=
  (State.rn_of_look (by rw [State.numbered_od])).trans (s.rn_wn_same 0x4300 0x08 id)

theorem State.rn_numbered_other (s : State) (id : Nat) {sub : Nat} (h : sub ≠ 0x08) (hsub : sub < 256) :
    (s.numbered id).rn 0x4300 sub = s.rn 0x4300 sub :=
  (State.rn_of_look (by rw [State.numbered_od])).trans (s.rn_wn_sub 0x4300 id 0x4300 h (by decide) hsub)

section Submission
variable {s : State} {d : List Byte}

/-- Fields that do not stand are refused. -/
theorem commitRequest_malformed (h : requestOk d = false) : commitRequest s (.bytes d) = (s, 6) := by
  simp [commitRequest, Val.bs, h]

variable (hok : requestOk d = true)
include hok

/-- A full list of commits is the first reason for a rejection (Table 7.2), which its receipt tells. -/
theorem commitRequest_full (hfull : 32 ≤ s.commits.length) :
    commitRequest s (.bytes d) =
      (((s.numbered (wrapInc 16 (s.rn 0x4300 0x08))).bump (procKey 0 .cmp) 0x4300 0x0A).receipt
        { id := wrapInc 16 (s.rn 0x4300 0x08), tag := (s.commitOf (wrapInc 16 (s.rn 0x4300 0x08)) d).tag, kind := 1, reason := 1 },
       0) := by
  have hchk (c : CommitS) : s.commitCheck c = (1, 0, 0xFFFF) := by
    simp only [State.commitCheck, hfull, if_true]
  simp [commitRequest, Val.bs, hok, hchk, State.numbered]

end Submission

/-- What its acceptance makes of a commit: without a time or a trigger it is due at once. -/
def CommitS.accepted (c : CommitS) (s : State) : CommitS :=
  if c.timing = 0 then { c with due := some s.nowNs, unlocked := !s.lockedFor 0 } else c

section Accepted
variable (s : State) (c : CommitS)

theorem CommitS.accepted_of_timing_zero (h : c.timing = 0) :
    c.accepted s = { c with due := some s.nowNs, unlocked := !s.lockedFor 0 } := if_pos h

theorem CommitS.accepted_of_timing_ne_zero (h : c.timing ≠ 0) : c.accepted s = c := if_neg h

/-- Acceptance sets when a commit is due, and keeps what was asked for. -/
theorem CommitS.accepted_keeps : (c.accepted s).id = c.id ∧ (c.accepted s).vals = c.vals ∧ (c.accepted s).tag = c.tag ∧
    (c.accepted s).left = c.left := by
  unfold CommitS.accepted
  split <;> exact ⟨rfl, rfl, rfl, rfl⟩

/-- The accepted commit whose screens are all available. -/
def CommitS.whole (c : CommitS) (s : State) : CommitS := { c.accepted s with left := c.left % 2 ^ 24 }

/-- The state with a commit added, and its first receipt held. -/
def State.pend (s : State) (c : CommitS) : State :=
  ({ s with commits := s.commits ++ [c] }.refreshCommits).receipt
    { id := c.id, tag := c.tag, kind := 0,
      time := if c.timing = 0 then nsTime96 s.nowNs else if c.timing = 1 then c.time else 0, unlocked := c.unlocked }

@[simp] theorem State.pend_sansCommits : (s.pend c).sansCommits = s.sansCommits := State.receipt_sansCommits _ _

@[simp] theorem State.pend_commits : (s.pend c).commits = s.commits ++ [c] := State.receipt_commits _ _

theorem State.rn_pend {sub : Nat} (h : sub ≠ 0x05 ∧ sub ≠ 0x09) (hsub : sub < 256) :
    (s.pend c).rn 0x4300 sub = s.rn 0x4300 sub :=
  (State.rn_receipt _ _ _ h.1 hsub).trans (State.rn_wn_sub _ _ _ _ h.2 (by decide) hsub)

/-- An accepted commit's receipt is the first of its id. -/
theorem State.mem_pend {id : Nat} (hid : c.id = id) (h : (id, []) ∈ s.receipts) :
    ∃ v, (id, [v]) ∈ (s.pend c).receipts ∧ v.kind = 0 := by
  unfold State.pend
  exact ⟨_, State.mem_receipt _ hid h, rfl⟩

/-- Screens that are available keep their parts. -/
theorem State.dropPart_none {l : List Nat} (h : ∀ x ∈ l, s.unavailable x = false) :
    l.foldl (fun s x => if s.unavailable x then s.dropPart x else s) s = s := by
  induction l with
  | nil => rfl
  | cons x l ih =>
    rw [List.foldl_cons, if_neg (by simp [h x])]
    exact ih fun y hy => h y (List.mem_cons_of_mem _ hy)

end Accepted

section Pends
variable {s : State} {d : List Byte} {id : Nat} {c : CommitS} (hok : requestOk d = true)
  (hid : id = wrapInc 16 (s.rn 0x4300 0x08)) (hc : c = s.commitOf id d) (hchk : (s.commitCheck c).1 = 0)
include hok hid hc hchk

/-- A commit that passes every check pends, and the parts on screens that are unavailable are dropped from it. -/
theorem commitRequest_checked : ∃ p, p = (s.numbered id).pend (c.accepted (s.numbered id)) ∧
    commitRequest s (.bytes d) =
      (((screensIn c.left).foldl (fun s x => if s.unavailable x then s.dropPart x else s) p).putCommit
        { c.accepted (s.numbered id) with
          left := (screensIn c.left).foldl (fun m x => if p.unavailable x then m else m + 2 ^ x) 0 }, 0) := by
  obtain ⟨hsame, -, -, hleft⟩ := c.accepted_keeps (s.numbered id)
  have hown : c.id = id := by rw [hc]; rfl
  generalize hacc : c.accepted (s.numbered id) = e at *
  refine ⟨_, rfl, ?_⟩
  rw [← hleft]
  generalize hpend : (s.numbered id).pend e = p
  generalize hres : ((_, 0) : State × Nat) = q
  unfold commitRequest
  extract_lets bs id' c' chk s₁ s₂ s₃ s₄ now c₁ s₅ due s₆
  have hid' : id' = id := hid.symm
  have hc' : c' = c := by rw [hc, hid]; rfl
  have hchk' : chk.1 = 0 := by rw [← hchk, ← hc']
  have hs₂ : s₂ = s.numbered id := (if_neg (by simp [hchk'])).trans (by rw [hid]; rfl)
  have hc₁ : c₁ = e := by rw [← hacc, ← hs₂, ← hc']; rfl
  have hs₆ : s₆ = p := by
    have hown' : c₁.id = id' := by rw [hc₁, hid', hsame, hown]
    rw [← hpend, ← hs₂, ← hc₁]
    simp only [s₆, s₅, due, now, State.pend, hown']
  rw [if_neg (by simp [bs, Val.bs, hok]), if_neg (by simp [hchk']), hs₆, hc₁, ← hres]

/-- A commit that passes every check and whose screens are all available pends whole. -/
theorem commitRequest_pends (hserve : ∀ x ∈ screensIn c.left, s.unavailable x = false) :
    commitRequest s (.bytes d) =
      (((s.numbered id).pend (c.accepted (s.numbered id))).putCommit (c.whole (s.numbered id)), 0) := by
  obtain ⟨p, hp, hcheck⟩ := commitRequest_checked hok hid hc hchk
  have hsame : p.sansCommits = s.sansCommits := by
    rw [hp, State.pend_sansCommits, State.numbered_sansCommits]
  have hthere : ∀ x ∈ screensIn c.left, p.unavailable x = false := fun x hx =>
    (State.unavailable_of_sansCommits hsame x).trans (hserve x hx)
  have hmask : (screensIn c.left).foldl (fun m x => if p.unavailable x then m else m + 2 ^ x) 0 = c.left % 2 ^ 24 := by
    rw [← foldl_screensIn]
    exact List.foldl_ext _ _ _ fun m x hx => by simp [hthere x hx]
  rw [hcheck, State.dropPart_none _ hthere, hmask, ← hp]
  rfl

end Pends

/-! Commits put back -/

/-- A commit put back stands for those of its id, and no commit without screens left stays. -/
theorem State.mem_putCommit {s : State} {c e : CommitS} : e ∈ (s.putCommit c).commits ↔
    (e = c ∧ (∃ d ∈ s.commits, d.id = c.id) ∨ e ∈ s.commits ∧ e.id ≠ c.id) ∧ e.left ≠ 0 := by
  have hrows : (s.putCommit c).commits =
      (s.commits.map (fun (d : CommitS) => if d.id = c.id then c else d)).filter (fun (d : CommitS) => d.left ≠ 0) := rfl
  rw [hrows, List.mem_filter, List.mem_map, decide_eq_true_eq]
  refine and_congr_left fun _ => ⟨?_, ?_⟩
  · rintro ⟨d, hd, hput⟩
    by_cases hid : d.id = c.id
    · exact .inl ⟨(hput.symm.trans (if_pos hid)), d, hd, hid⟩
    · obtain rfl : d = e := (if_neg hid).symm.trans hput
      exact .inr ⟨hd, hid⟩
  · rintro (⟨rfl, d, hd, hid⟩ | ⟨he, hid⟩)
    · exact ⟨d, hd, if_pos hid⟩
    · exact ⟨e, he, if_neg hid⟩

section Answered
variable {s a : State} {r : Req} {idx sub : Nat} {data : List Byte} {o : Obj} {v : Val} {eff : State → Val → State × Nat}

/-- A request whose effect changes commits alone has that effect, and is answered. -/
theorem State.request_commits (ht : s.takes r = true) (hc : s.checkWrite r idx sub data = .ok (o, v)) (he : eff s v = (a, 0))
    (hsame : a.sansCommits = s.sansCommits) :
    ∃ s', s.request r idx sub data eff = s' ∧ s'.commits = a.commits ∧ s'.receipts = a.receipts ∧ (∀ i b, s'.rn i b = a.rn i b) ∧
      s'.out = .resp r idx sub 0 [] :: s.out ∧
      s' = { s with od := s'.od, log := s'.log, commits := s'.commits, receipts := s'.receipts, out := s'.out,
                    partWrites := s'.partWrites } := by
  have hout : a.out = s.out := (congrArg State.out hsame :)
  refine ⟨_, State.request_accepted ht hc he (congrArg State.power hsame :), rfl, rfl, fun _ _ => rfl, congrArg _ hout, ?_⟩
  exact congrArg (fun x : State => { x with
    od := a.od, log := a.log, commits := a.commits, receipts := a.receipts, out := .resp r idx sub 0 [] :: a.out,
    partWrites := (a.abandonParts r idx sub).partWrites }) hsame

end Answered

section SubmissionRequests
variable {u : State} {r : Req} {d : List Byte} (ht : u.takes r = true) (hd : d.length = 24)
include ht hd

theorem State.commitRequest_refused (hbad : requestOk d = false) :
    u.request r 0x4300 0x01 d commitRequest = { u with out := .resp r 0x4300 0x01 6 [] :: u.out } := by
  obtain ⟨o, ho⟩ := State.checkWrite_commitRequest ht hd
  exact State.request_declined ht ho (commitRequest_malformed hbad) (by decide)

variable {id : Nat} (hok : requestOk d = true) (hid : id = wrapInc 16 (u.rn 0x4300 0x08))
include hok hid

/-- With 32 commits pending a request is rejected for reason 1. -/
theorem State.commitRequest_rejected (hfull : 32 ≤ u.commits.length) :
    ∃ s', u.request r 0x4300 0x01 d commitRequest = s' ∧ s'.commits = u.commits ∧ s'.rn 0x4300 0x08 = id ∧
      u.counted s' 0x4300 0x0A 1 ∧ (∃ v, (id, [v]) ∈ s'.receipts ∧ v.kind = 1 ∧ v.reason = 1) ∧
      s'.out = .resp r 0x4300 0x01 0 [] :: u.out ∧
      s' = { u with od := s'.od, log := s'.log, receipts := s'.receipts, out := s'.out, partWrites := s'.partWrites } := by
  obtain ⟨o, ho⟩ := State.checkWrite_commitRequest ht hd
  have heff := commitRequest_full hok hfull
  rw [← hid] at heff
  generalize hcount : (u.numbered id).bump (procKey 0 .cmp) 0x4300 0x0A = b at heff
  generalize hv : ({ id := id, tag := (u.commitOf id d).tag, kind := 1, reason := 1 } : Receipt) = v at heff
  have hsame : (b.receipt v).sansCommits = u.sansCommits := by
    rw [State.receipt_sansCommits, ← hcount, State.bump_sansCommits, State.numbered_sansCommits]
  have hheld : (id, [v]) ∈ (b.receipt v).receipts := by
    refine State.mem_receipt _ (by rw [← hv]) ?_
    rw [← hcount, State.bump_receipts]
    exact State.mem_numbered _ _
  obtain ⟨s', hs', hcommits, hreceipts, hrn, hout, hframe⟩ := State.request_commits ht ho heff hsame
  have hsameCommits : s'.commits = u.commits := by
    rw [hcommits, State.receipt_commits, ← hcount, State.bump_commits, State.numbered_commits]
  refine ⟨s', hs', hsameCommits, ?_, ?_, ⟨v, hreceipts ▸ hheld, by rw [← hv], by rw [← hv]⟩, hout, ?_⟩
  · rw [hrn, State.rn_receipt _ _ _ (by decide) (by decide), ← hcount,
      State.rn_bump_sub _ _ _ _ _ (by decide) (by decide) (by decide), State.rn_numbered]
  · refine (State.counted_bump (u.numbered id) (procKey 0 .cmp) 0x4300 0x0A 1).congr ?_ ?_
    · exact (u.rn_numbered_other id (by decide) (by decide)).symm
    · rw [hcount, hrn, State.rn_receipt _ _ _ (by decide) (by decide)]
  · rwa [hsameCommits] at hframe

/-- A request that passes every check, with every screen of it available, pends with its receipt. -/
theorem State.commitRequest_accepted {c : CommitS} (hc : c = u.commitOf id d) (hchk : (u.commitCheck c).1 = 0)
    (hsome : screensIn c.left ≠ []) (hserve : ∀ x ∈ screensIn c.left, u.unavailable x = false) :
    ∃ s', u.request r 0x4300 0x01 d commitRequest = s' ∧ s'.rn 0x4300 0x08 = id ∧
      (∃ e ∈ s'.commits, e.id = id ∧ e.vals = c.vals ∧ e.tag = c.tag ∧ (∀ x, x < 24 → bit e.left x = bit c.left x) ∧
        (c.timing = 0 → e.due = some u.nowNs) ∧ (c.timing ≠ 0 → e.due = none)) ∧
      (∃ v, (id, [v]) ∈ s'.receipts ∧ v.kind = 0) ∧ s'.out = .resp r 0x4300 0x01 0 [] :: u.out ∧
      s' = { u with od := s'.od, log := s'.log, commits := s'.commits, receipts := s'.receipts, out := s'.out,
                    partWrites := s'.partWrites } := by
  obtain ⟨o, ho⟩ := State.checkWrite_commitRequest ht hd
  obtain ⟨hsameId, hvals, htag, -⟩ := c.accepted_keeps (u.numbered id)
  have hown : (c.accepted (u.numbered id)).id = id := by rw [hsameId, hc]; rfl
  have hnow : (u.numbered id).nowNs = u.nowNs := (congrArg State.nowNs (u.numbered_sansCommits id) :)
  obtain ⟨s', hs', hcommits, hreceipts, hrn, hout, hframe⟩ := State.request_commits ht ho
    (commitRequest_pends hok hid hc hchk hserve)
    (by rw [State.putCommit_sansCommits, State.pend_sansCommits, State.numbered_sansCommits])
  refine ⟨s', hs', ?_, ⟨c.whole (u.numbered id), ?_, hown, hvals, htag, fun x hx => bit_mod_screens _ hx, ?_, ?_⟩, ?_, hout, hframe⟩
  · rw [hrn, State.rn_putCommit _ _ (by decide) (by decide), State.rn_pend _ _ (by decide) (by decide), State.rn_numbered]
  · rw [hcommits]
    refine State.mem_putCommit.2 ⟨.inl ⟨rfl, c.accepted (u.numbered id), ?_, rfl⟩, mod_ne_zero_of_screensIn hsome⟩
    rw [State.pend_commits]
    exact List.mem_append_right _ List.mem_cons_self
  · intro h
    rw [CommitS.whole, CommitS.accepted_of_timing_zero _ _ h, ← hnow]
  · intro h
    rw [CommitS.whole, CommitS.accepted_of_timing_ne_zero _ _ h, hc]
    rfl
  · rw [hreceipts, State.putCommit_receipts]
    exact State.mem_pend _ _ hown (State.mem_numbered _ _)

end SubmissionRequests

/-! ### Staging commands (R265, R271) -/

theorem findObj_stagingCommand : ∀ c ∈ [(2 : Byte), 3], (findObj 0x4300 0x02).map (fun o =>
    (o.ty, o.acc, sizeOk o [c].length, o.chk.ok (.num c.toNat))) = some (.u8, .wo, true, true) := by
  decide +kernel

/-- Of a requester that may write, the two staging commands pass the checks. -/
theorem State.checkWrite_stagingCommand {s : State} {r : Req} (ht : s.takes r = true) {c : Byte} (hc : c ∈ [(2 : Byte), 3]) :
    ∃ o, s.checkWrite r 0x4300 0x02 [c] = .ok (o, .num c.toNat) :=
  State.checkWrite_of_takes_wo ht (findObj_stagingCommand c hc) (by simp [decodeVal, Ty.isNum, Ty.signed, Ty.size, leNat]) rfl

/-! Back to the values in force -/

/-- The state with the staged values at some keys set to those in force. -/
def State.unstage (s : State) (ks : List Nat) : State := ks.foldl (fun s k => s.wv (k / 256) (k % 256) (s.fkey k)) s

/-- The keys of the committed set of the slots and the screens that a mask selects. -/
def State.committedKeys (s : State) (mask : Nat) : List Nat :=
  (s.slotsIn mask).flatMap slotKeys ++ (screensIn mask).flatMap screenKeys

theorem key_div_mod (k : Nat) : key (k / 256) (k % 256) = k := by
  simp only [key]
  omega

theorem State.fkey_key (s : State) (idx : Nat) {sub : Nat} (h : sub < 256) : s.fkey (key idx sub) = s.fval idx sub := by
  have hidx : key idx sub / 256 = idx := by simp only [key]; omega
  have hsub : key idx sub % 256 = sub := by simp only [key]; omega
  rw [State.fkey, hidx, hsub]

section Unstage
variable (s : State) (ks : List Nat)

theorem State.unstage_frame : s.unstage ks = { s with od := (s.unstage ks).od } :=
  congrArg (fun x : State => { x with od := (s.unstage ks).od })
    (foldl_leaves (fun a : State => { a with od := [] }) (fun (s : State) k => s.wv (k / 256) (k % 256) (s.fkey k))
      (fun _ _ => rfl) s ks)

theorem State.look_unstage_other {k : Nat} (h : k ∉ ks) : (s.unstage ks).od.look k = s.od.look k := by
  induction ks generalizing s with
  | nil => rfl
  | cons j ks ih =>
    rw [List.mem_cons, not_or] at h
    exact (ih _ h.2).trans (Tab.look_put_other _ _ (by rw [key_div_mod]; exact h.1))

theorem State.look_unstage {k : Nat} (h : k ∈ ks) : (s.unstage ks).od.look k = some (s.fkey k) := by
  induction ks generalizing s with
  | nil => exact absurd h List.not_mem_nil
  | cons j ks ih =>
    by_cases hk : k ∈ ks
    · exact ih _ hk
    · obtain rfl : k = j := (List.mem_cons.1 h).resolve_right hk
      refine (State.look_unstage_other _ _ hk).trans ?_
      rw [State.wv_od, key_div_mod, Tab.look_put_same]

/-- A value unstaged is the value in force. -/
theorem State.val_unstage {idx sub : Nat} (hsub : sub < 256) (h : key idx sub ∈ ks) :
    (s.unstage ks).val idx sub = s.fval idx sub := by
  rw [State.val, s.look_unstage ks h]
  exact s.fkey_key idx hsub

end Unstage

theorem slotSubs_lt : ∀ sub ∈ slotSubs, sub < 256 := by decide
theorem screenSubs_lt : ∀ sub ∈ screenSubs, sub < 256 := by decide

theorem stagingCommand_discard (s : State) :
    stagingCommand s (.num 2) = (s.unstage (s.committedKeys (s.rn 0x4300 0x03)), 0) := rfl

theorem stagingCommand_cancel (s : State) : stagingCommand s (.num 3) = s.cancel := rfl

/-- Staging command 2 brings back what is in force. -/
theorem State.commitDiscardStaged_discards {u : State} {r : Req} (ht : u.takes r = true) :
    ∃ s', u.request r 0x4300 0x02 [2] stagingCommand = s' ∧
      (∀ n ∈ u.slotsIn (u.rn 0x4300 0x03), ∀ sub ∈ slotSubs, s'.val (lIdx n) sub = u.fval (lIdx n) sub) ∧
      (∀ x ∈ screensIn (u.rn 0x4300 0x03), ∀ sub ∈ screenSubs, s'.val (scrIdx x) sub = u.fval (scrIdx x) sub) ∧
      s'.out = .resp r 0x4300 0x02 0 [] :: u.out ∧ s' = { u with od := s'.od, out := s'.out, partWrites := s'.partWrites } := by
  obtain ⟨o, ho⟩ := State.checkWrite_stagingCommand ht (c := 2) (by decide)
  have hframe := u.unstage_frame (u.committedKeys (u.rn 0x4300 0x03))
  have hval {idx sub : Nat} := u.val_unstage (u.committedKeys (u.rn 0x4300 0x03)) (idx := idx) (sub := sub)
  have htaken := State.request_accepted ht ho (stagingCommand_discard u) (congrArg State.power hframe :)
  generalize u.unstage (u.committedKeys (u.rn 0x4300 0x03)) = a at *
  refine ⟨_, htaken, fun n hn sub hsub => hval (slotSubs_lt sub hsub) ?_, fun x hx sub hsub => hval (screenSubs_lt sub hsub) ?_,
    congrArg _ (congrArg State.out hframe :), ?_⟩
  · exact List.mem_append_left _ (List.mem_flatMap.2 ⟨n, hn, List.mem_map_of_mem hsub⟩)
  · exact List.mem_append_right _ (List.mem_flatMap.2 ⟨x, hx, List.mem_append_left _ (List.mem_map_of_mem hsub)⟩)
  · exact congrArg (fun x : State => { x with
      out := .resp r 0x4300 0x02 0 [] :: a.out, partWrites := (a.abandonParts r 0x4300 0x02).partWrites }) hframe

/-! Cancelled commits -/

/-- A pending commit cancelled: each screen left to it has its receipt, and its row goes. -/
def State.cancelOne (s : State) (c : CommitS) : State :=
  ((screensIn c.left).foldl (fun s x =>
    s.receipt { id := c.id, tag := c.tag, kind := 3, screen := x, unlocked := c.unlocked, late := c.late }) s).putCommit
      { c with left := 0 }

section Cancel
variable (s : State) (c : CommitS)

@[simp] theorem State.cancelOne_sansCommits : (s.cancelOne c).sansCommits = s.sansCommits :=
  foldl_leaves State.sansCommits _ (fun _ _ => State.receipt_sansCommits _ _) s (screensIn c.left)

/-- What stays was there before, under another id. -/
theorem State.mem_cancelOne {d : CommitS} (h : d ∈ (s.cancelOne c).commits) : d ∈ s.commits ∧ d.id ≠ c.id := by
  obtain ⟨⟨rfl, -⟩ | ⟨hd, hid⟩, hleft⟩ := State.mem_putCommit.1 h
  · exact absurd rfl hleft
  · rw [foldl_leaves State.commits _ (fun _ _ => State.receipt_commits _ _)] at hd
    exact ⟨hd, hid⟩

theorem State.mem_foldl_cancelOne {cs : List CommitS} {d : CommitS} (h : d ∈ (cs.foldl State.cancelOne s).commits) :
    d ∈ s.commits ∧ ∀ c ∈ cs, d.id ≠ c.id := by
  induction cs generalizing s with
  | nil => exact ⟨h, fun _ hc => absurd hc List.not_mem_nil⟩
  | cons c cs ih =>
    obtain ⟨hthere, hrest⟩ := ih _ h
    obtain ⟨hd, hid⟩ := s.mem_cancelOne c hthere
    exact ⟨hd, List.forall_mem_cons.2 ⟨hid, hrest⟩⟩

end Cancel

section CancelRequests
variable {u : State} {r : Req} (ht : u.takes r = true)
include ht

/-- A pending commit is cancelled with every later one that shares a screen, if none has landed or been taken. -/
theorem State.commitCancel_cancels (hpending : u.commits.any (fun c => c.id = u.rn 0x4300 0x04) = true)
    (hfree : (cancelSet (u.rn 0x4300 0x04) [] u.commits).any (fun c => c.landed || c.taken ≠ 0) = false) :
    ∃ s', u.request r 0x4300 0x02 [3] stagingCommand = s' ∧
      (∀ c ∈ cancelSet (u.rn 0x4300 0x04) [] u.commits, ∀ d ∈ s'.commits, d.id ≠ c.id) ∧
      s'.out = .resp r 0x4300 0x02 0 [] :: u.out ∧
      s' = { u with od := s'.od, log := s'.log, commits := s'.commits, receipts := s'.receipts, out := s'.out,
                    partWrites := s'.partWrites } := by
  obtain ⟨o, ho⟩ := State.checkWrite_stagingCommand ht (c := 3) (by decide)
  have heff : stagingCommand u (.num 3) = ((cancelSet (u.rn 0x4300 0x04) [] u.commits).foldl State.cancelOne u, 0) := by
    rw [stagingCommand_cancel]
    dsimp only [State.cancel]
    rw [hpending, hfree]
    rfl
  obtain ⟨s', hs', hcommits, -, -, hout, hframe⟩ := State.request_commits ht ho heff
    (foldl_leaves State.sansCommits _ State.cancelOne_sansCommits _ _)
  refine ⟨s', hs', fun c hc d hd => ?_, hout, hframe⟩
  rw [hcommits] at hd
  exact (u.mem_foldl_cancelOne hd).2 c hc

/-- A commit that is not pending is not cancelled. -/
theorem State.commitCancel_refused (hnone : u.commits.any (fun c => c.id = u.rn 0x4300 0x04) = false) :
    u.request r 0x4300 0x02 [3] stagingCommand = { u with out := .resp r 0x4300 0x02 7 [] :: u.out } := by
  obtain ⟨o, ho⟩ := State.checkWrite_stagingCommand ht (c := 3) (by decide)
  have heff : stagingCommand u (.num 3) = (u, 7) := by
    rw [stagingCommand_cancel]
    dsimp only [State.cancel]
    rw [hnone]
    rfl
  exact State.request_declined ht ho heff (by decide)

end CancelRequests

/-! ### Receipts selected (R279) -/

section ReceiptSelect
variable {u : State} {r : Req} {id : Nat} (ht : u.takes r = true) (hid : id < 65536)
include ht hid

theorem State.checkWrite_receiptSelect : ∃ o, u.checkWrite r 0x4300 0x05 (leBytes 2 id) = .ok (o, .num id) := by
  have hrow : findObj 0x4300 0x05 = some ⟨0x4300, 1, 0x05, 0x05, .u16, .rw, false, false, false, .num 0, .any⟩ := by decide +kernel
  have hc := State.checkWrite_of_takes ht hrow (decodeVal_u16_leBytes hid) rfl (.inl rfl)
  exact ⟨_, hc.trans (if_pos rfl)⟩

theorem State.receiptSelect_selects (hheld : u.receipts.any (fun p => p.1 = id) = true) :
    ∃ s', u.request r 0x4300 0x05 (leBytes 2 id) receiptSelect = s' ∧ s'.rn 0x4300 0x05 = id ∧
      s'.out = .resp r 0x4300 0x05 0 [] :: u.out ∧ u.odSame s' [key 0x4300 0x05] ∧
      s' = { u with od := s'.od, out := s'.out, partWrites := s'.partWrites } := by
  obtain ⟨o, ho⟩ := State.checkWrite_receiptSelect ht hid
  have heff : receiptSelect u (.num id) = (u.wn 0x4300 0x05 id, 0) := if_pos hheld
  exact ⟨_, State.request_accepted ht ho heff rfl, State.rn_wn_same .., rfl,
    fun k hk => Tab.look_put_other _ _ (by simpa using hk), rfl⟩

theorem State.receiptSelect_refused (hnone : u.receipts.any (fun p => p.1 = id) = false) :
    u.request r 0x4300 0x05 (leBytes 2 id) receiptSelect = { u with out := .resp r 0x4300 0x05 9 [] :: u.out } := by
  obtain ⟨o, ho⟩ := State.checkWrite_receiptSelect ht hid
  have heff : receiptSelect u (.num id) = (u, 9) := if_neg (ne_true_of_eq_false hnone)
  exact State.request_declined ht ho heff (by decide)

end ReceiptSelect

/-! ### Due and taken (R273, R280) -/

section Due
variable (u : State)

/-- Scheduled commits of the id are due once their time is reached; all others stay as they are. -/
theorem State.commitDue_dues (id : Nat) :
    (∀ c ∈ (u.commitDue id).commits, c.id = id → c.timing = 1 → time96Ns c.time ≤ u.nowNs → c.due ≠ none) ∧
      (∀ c ∈ u.commits, c.id ≠ id ∨ c.timing ≠ 1 ∨ u.nowNs < time96Ns c.time → c ∈ (u.commitDue id).commits) := by
  refine ⟨fun c hc hid htiming htime => ?_, fun c hc hother => ?_⟩
  · obtain ⟨d, -, hput⟩ := List.mem_map.1 hc
    split at hput
    · rw [← hput]
      exact Option.some_ne_none _
    · next hnot =>
      subst hput
      intro hnone
      exact hnot (by simp [hid, htiming, hnone, htime])
  · refine List.mem_map.2 ⟨c, hc, if_neg ?_⟩
    simp only [Bool.and_eq_true, decide_eq_true_eq]
    rintro ⟨⟨⟨hid, htiming⟩, -⟩, htime⟩
    rcases hother with h | h | h
    · exact h hid
    · exact h htiming
    · omega

/-- A screen's sample point takes what is due before it; all others stay as they are. -/
theorem State.samplePoint_takes (x : Nat) :
    (∀ c ∈ u.commits, bit c.left x = true → ∀ d, c.due = some d → d < u.nowNs →
        { c with taken := setBit c.taken x true } ∈ (u.samplePoint x).commits) ∧
      (∀ c ∈ u.commits, c.due = none ∨ bit c.left x = false → c ∈ (u.samplePoint x).commits) := by
  refine ⟨fun c hc hleft d hdue hpast => ?_, fun c hc hother => ?_⟩
  · exact List.mem_map.2 ⟨c, hc, if_pos (by simp [hleft, hdue, hpast])⟩
  · refine List.mem_map.2 ⟨c, hc, if_neg ?_⟩
    rcases hother with h | h <;> simp [h]

end Due

/-- Settles O31: a request is refused, rejected or pends; the staging commands fold over the committed keys and over the commits
cancelled; what comes due or is taken keeps its place in the list. -/
theorem commitsPendAndCancel : Obligations.CommitsPendAndCancel := by
  unfold Obligations.CommitsPendAndCancel
  intro s t u
  have hnext : ∀ {a b : State}, a = b → (.next a : Host.Outcome State Fault Refusal) = .next b := congrArg _
  refine ⟨fun r ht => ⟨?_, ?_, ?_, ?_, ?_, ?_, ?_⟩, ?_, ?_⟩
  · exact fun d hd hbad => hnext (State.commitRequest_refused ht hd hbad)
  · intro d id hd hok hid hfull
    obtain ⟨s', hs', hrest⟩ := State.commitRequest_rejected ht hd hok hid hfull
    exact ⟨s', hnext hs', hrest⟩
  · intro d id c hd hok hid hc hchk hsome hserve
    obtain ⟨s', hs', hrest⟩ := State.commitRequest_accepted ht hd hok hid hc hchk hsome hserve
    exact ⟨s', hnext hs', hrest⟩
  · obtain ⟨s', hs', hrest⟩ := State.commitDiscardStaged_discards ht
    exact ⟨s', hnext hs', hrest⟩
  · intro hpending hfree
    obtain ⟨s', hs', hrest⟩ := State.commitCancel_cancels ht hpending hfree
    exact ⟨s', hnext hs', hrest⟩
  · exact fun hnone => hnext (State.commitCancel_refused ht hnone)
  · intro id hid
    refine ⟨fun hheld => ?_, fun hnone => hnext (State.receiptSelect_refused ht hid hnone)⟩
    obtain ⟨s', hs', hrest⟩ := State.receiptSelect_selects ht hid hheld
    exact ⟨s', hnext hs', hrest⟩
  · intro id
    obtain ⟨hdue, hstay⟩ := u.commitDue_dues id
    exact ⟨u.commitDue id, rfl, hdue, hstay, List.length_map _, rfl⟩
  · intro x
    obtain ⟨htaken, hstay⟩ := u.samplePoint_takes x
    exact ⟨u.samplePoint x, rfl, htaken, hstay, List.length_map _, rfl⟩

end Sys2Proof.Machine
end

section
/-! SUPPORT. The statement about presses and leases (R290 to R294): what an answer to a ZTT message leaves alone, and what becomes of
the writes that wait for a lease. -/

namespace Sys2Proof.Machine

/-! ### The end of a press (R290) -/

section Press
variable {s : State} {x a : Nat} (hpress : (s.screen x).pressing = some a)
include hpress

/-- A press that is not done and has none before it completes its plane. -/
theorem State.pressDone_eq (hdone : (s.screen x).planeDone = false) (hfirst : s.pressBefore x a = false) :
    s.pressDone x = ((s.setScreen x { s.screen x with planeDone := true, pressMs := [] }).bump (procKey (x / 12) .cmp)
      (0x4310 + x) 0x04).wn (0x4310 + x) 0x06 (min 0xFFFFFFFF ((s.clock - a) / usTicks)) := by
  unfold State.pressDone
  dsimp only
  rw [hpress]
  exact if_neg (by simp [hdone, hfirst])

theorem State.pressDone_completes (hdone : (s.screen x).planeDone = false) (hfirst : s.pressBefore x a = false) :
    ∃ s', s.pressDone x = s' ∧ (s'.screen x).planeDone = true ∧ (s'.screen x).pressMs = [] ∧
      (s'.screen x).planeCur = (s.screen x).planeCur ∧ s.counted s' (0x4310 + x) 0x04 1 ∧
      s'.rn (0x4310 + x) 0x06 = min 0xFFFFFFFF ((s.clock - a) / usTicks) ∧ (∀ y, y ≠ x → s'.screen y = s.screen y) ∧
      s' = { s with od := s'.od, log := s'.log, screens := s'.screens } := by
  generalize hrow : ({ s.screen x with planeDone := true, pressMs := [] } : ScreenS) = g
  have heq := State.pressDone_eq hpress hdone hfirst
  rw [hrow] at heq
  have hsame : (s.pressDone x).sansCounts = (s.setScreen x g).sansCounts := by
    rw [heq]
    exact State.bump_sansCounts _ _ _ _ _
  have hscreen (y : Nat) : (s.pressDone x).screen y = (s.setScreen x g).screen y :=
    State.screen_of_screens (congrArg State.screens hsame :) y
  have hown : (s.pressDone x).screen x = g := (hscreen x).trans (s.screen_setScreen_same x g)
  have hcounted : s.counted (s.pressDone x) (0x4310 + x) 0x04 1 := by
    refine (State.counted_bump (s.setScreen x g) (procKey (x / 12) .cmp) (0x4310 + x) 0x04 1).congr rfl ?_
    rw [heq]
    exact State.rn_wn_sub _ _ _ _ (by decide) (by decide) (by decide)
  refine ⟨_, rfl, ?_, ?_, ?_, hcounted, ?_, fun y hy => (hscreen y).trans (s.screen_setScreen_other _ hy), ?_⟩
  · rw [hown, ← hrow]
  · rw [hown, ← hrow]
  · rw [hown, ← hrow]
  · rw [heq, State.rn_wn_same]
  · exact congrArg (fun e : State => { e with
      od := (s.pressDone x).od, log := (s.pressDone x).log, screens := (s.pressDone x).screens }) hsame

/-- A press behind an earlier one waits. -/
theorem State.pressDone_waits (hbehind : s.pressBefore x a = true) : s.pressDone x = s := by
  unfold State.pressDone
  dsimp only
  rw [hpress]
  exact if_pos (by simp [hbehind])

end Press

/-- With no press under way there is none to complete. -/
theorem State.pressDone_none {s : State} {x : Nat} (hnone : (s.screen x).pressing = none) : s.pressDone x = s := by
  unfold State.pressDone
  dsimp only
  rw [hnone]

/-! ### Answers to ZTT messages (R384, R494) -/

section Answers
variable (s : State)

/-- The answer to a ZTT message is at most an output or a write-back. -/
theorem State.zttReply_delivers (m : ZttWait) (lease err : Nat) (final more : Bool) :
    State.Delivers s (s.zttReply m lease err final more) := by
  unfold State.zttReply
  dsimp only
  split
  · exact .ite ((State.Delivers.refl s).say _) (.refl s) _
  · exact (State.Delivers.refl s).writeBack _ _

/-- A write-back leaves every number but those of counters of write-backs and of lost events. -/
theorem State.rn_writeBack (q : Nat) (w : WriteBack) (i : Nat) {b : Nat} (h : b ≠ 0x0B ∧ b ≠ 0x05) (hb : b < 256) :
    (s.writeBack q w).rn i b = s.rn i b := by
  unfold State.writeBack
  extract_lets g ph s₁ s₂ s₃ s₄
  have h₂ : s₂.rn i b = s.rn i b := State.rn_of_look (by rw [State.say_od]; rfl)
  have h₃ : s₃.rn i b = s.rn i b := by
    rw [← h₂]
    by_cases hf : w.final = true
    · rw [show s₃ = _ from if_pos hf, State.rn_bump_sub _ _ _ _ _ h (by decide) hb]
    · rw [show s₃ = _ from if_neg hf]
  have h₄ : s₄.rn i b = s.rn i b := by
    rw [← h₃]
    exact State.rn_of_look (by rw [show s₄.od = s₃.od by simp only [s₄]; split <;> simp])
  split
  · rfl
  split
  · exact (State.rn_of_look (by rw [State.ringInt_od])).trans h₄
  · rfl

theorem State.rn_zttReply (m : ZttWait) (lease err : Nat) (final more : Bool) (i : Nat) {b : Nat} (h : b ≠ 0x0B ∧ b ≠ 0x05)
    (hb : b < 256) : (s.zttReply m lease err final more).rn i b = s.rn i b := by
  unfold State.zttReply
  dsimp only
  split
  · split
    · exact State.rn_of_look (by rw [State.say_od])
    · rfl
  · exact s.rn_writeBack _ _ i h hb

end Answers

/-! ### The limit of a wait (R293) -/

/-- Counts add up. -/
theorem State.counted.add {a b c : State} {idx sub m n : Nat} (h : a.counted b idx sub m) (h' : b.counted c idx sub n) :
    a.counted c idx sub (m + n) := by
  intro o ho hle
  have hb := h o ho hle
  have hc := h' o ho (by omega)
  omega

theorem State.counted.refl (s : State) (idx sub : Nat) : s.counted s idx sub 0 := by
  intro o _ hle
  omega

/-- A queued write whose wait has run is counted and answered with status 4. -/
def State.discardLate (s : State) (q : QWrite) : State := (s.bump (coderKey 0) 0x4300 0x12).zttReply q.msg 4 0 true true

/-- Whether a queued write has waited for the limit. -/
def State.waitedOut (s : State) (q : QWrite) : Bool := decide (q.msg.arrived + s.rn 0x4300 0x07 * msTicks ≤ s.clock)

section Limit
variable (s : State)

theorem State.discardLate_delivers (q : QWrite) : State.Delivers s (s.discardLate q) :=
  ((State.Delivers.refl s).bump _ _ _ _).trans (State.zttReply_delivers _ _ _ _ _ _)

theorem State.discardLate_counted (q : QWrite) : s.counted (s.discardLate q) 0x4300 0x12 1 :=
  (State.counted_bump s (coderKey 0) 0x4300 0x12 1).congr rfl (State.rn_zttReply _ _ _ _ _ _ _ (by decide) (by decide))

theorem State.foldl_discardLate_frame (qs : List QWrite) : (qs.foldl State.discardLate s).sansRings = s.sansRings :=
  foldl_leaves State.sansRings _ (fun s q => (s.discardLate_delivers q).frame) s qs

/-- Each write discarded is counted. -/
theorem State.foldl_discardLate_counted (qs : List QWrite) : s.counted (qs.foldl State.discardLate s) 0x4300 0x12 qs.length := by
  induction qs generalizing s with
  | nil => exact .refl s _ _
  | cons q qs ih =>
    rw [List.length_cons, Nat.add_comm]
    exact (s.discardLate_counted q).add (ih _)

theorem State.refreshQueue_queued : s.refreshQueue.queued = s.queued := rfl

theorem State.rn_refreshQueue_length : s.refreshQueue.rn 0x4300 0x0E = s.queued.length :=
  (State.rn_wn_sub _ _ _ _ (by decide) (by decide) (by decide)).trans (State.rn_wn_same ..)

theorem State.rn_refreshQueue_other {b : Nat} (h : b ≠ 0x0E ∧ b ≠ 0x0F) (hb : b < 256) :
    s.refreshQueue.rn 0x4300 b = s.rn 0x4300 b :=
  (State.rn_wn_sub _ _ _ _ h.2 (by decide) hb).trans (State.rn_wn_sub _ _ _ _ h.1 (by decide) hb)

/-- Writes that have waited for the limit leave the queue, counted and answered. -/
theorem State.leaseLimit_discards :
    ∃ s', s.leaseLimit = s' ∧ s'.queued = s.queued.filter (fun q => !s.waitedOut q) ∧
      s.counted s' 0x4300 0x12 (s.queued.filter s.waitedOut).length ∧ s'.rn 0x4300 0x0E = s'.queued.length ∧
      s' = { s with od := s'.od, log := s'.log, queued := s'.queued, rings := s'.rings, pcie := s'.pcie, out := s'.out } := by
  generalize hkept : ({ s with queued := s.queued.filter (fun q => !s.waitedOut q) } : State) = k
  generalize hfold : (s.queued.filter s.waitedOut).foldl State.discardLate k = d
  have heq : s.leaseLimit = d.refreshQueue := by
    rw [← hfold, ← hkept]
    rfl
  have hsame : d.sansRings = k.sansRings := by
    rw [← hfold]
    exact k.foldl_discardLate_frame _
  have hqueued : d.refreshQueue.queued = s.queued.filter (fun q => !s.waitedOut q) := by
    have hsameQueue : d.queued = k.queued := (congrArg State.queued hsame :)
    rw [State.refreshQueue_queued, hsameQueue, ← hkept]
  refine ⟨_, heq, hqueued, ?_, d.rn_refreshQueue_length, ?_⟩
  · refine (k.foldl_discardLate_counted (s.queued.filter s.waitedOut)).congr (by rw [← hkept]; rfl) ?_
    rw [hfold]
    exact d.rn_refreshQueue_other (by decide) (by decide)
  · rw [hqueued]
    subst hkept
    exact congrArg (fun e : State => { e with
      od := d.refreshQueue.od, log := d.log, rings := d.rings, pcie := d.pcie, out := d.out }) hsame

end Limit

/-! ### What becomes of the queue while queued writes take effect (R145, R293, R366 to R374) -/

section Queue
variable (s : State)

@[simp] theorem State.raise_queued (k ty sev : Nat) (pay : List (Nat × Nat)) : (s.raise k ty sev pay).queued = s.queued :=
  (congrArg State.queued (s.raise_sansCounts k ty sev pay) :)

@[simp] theorem State.bump_queued (k idx sub n : Nat) : (s.bump k idx sub n).queued = s.queued :=
  (congrArg State.queued (s.bump_sansCounts k idx sub n) :)

@[simp] theorem State.say_queued (o : Out) : (s.say o).queued = s.queued := by
  rw [s.say_frame]

@[simp] theorem State.zttReply_queued (m : ZttWait) (lease err : Nat) (final more : Bool) :
    (s.zttReply m lease err final more).queued = s.queued :=
  (congrArg State.queued (s.zttReply_delivers m lease err final more).frame :)

/-! Relays -/

@[simp] theorem State.unicast_queued (ty op dst : Nat) (pay : List Byte) : (s.unicast ty op dst pay).queued = s.queued :=
  (congrArg State.queued (s.unicast_sansSent ty op dst pay) :)

@[simp] theorem State.relayStream_queued (no : Nat) (b : List Byte) : (s.relayStream no b).queued = s.queued :=
  (congrArg State.queued (s.relayStream_sansSent no b) :)

@[simp] theorem State.relayCoded_queued (no : Nat) (b : List Byte) : (s.relayCoded no b).queued = s.queued := by
  unfold State.relayCoded
  split
  · rfl
  · refine foldl_leaves State.queued _ (fun s i => ?_) s _
    dsimp only
    split_ifs <;> simp

@[simp] theorem State.relayMessage_queued (n : Nat) (h : ZttHdr) (px : List Byte) : (s.relayMessage n h px).queued = s.queued := by
  refine foldl_leaves State.queued _ (fun s no => ?_) s _
  exact (State.relayCoded_queued _ _ _).trans rfl

@[simp] theorem State.relayFrame_queued (n opcode : Nat) (body : List Byte) : (s.relayFrame n opcode body).queued = s.queued :=
  State.unicast_queued _ _ _ _ _

/-! Sessions -/

@[simp] theorem State.enterSess_queued (n st reason : Nat) : (s.enterSess n st reason).queued = s.queued := rfl

@[simp] theorem State.leave_queued (n : Nat) : (s.leave n).queued = s.queued := by
  unfold State.leave
  split
  · rfl
  · dsimp only
    split_ifs <;> simp [State.report]

@[simp] theorem State.dropSegs_queued (n : Nat) : (s.dropSegs n).queued = s.queued := by
  refine foldl_leaves State.queued _ (fun s c => ?_) _ _
  dsimp only
  split <;> rfl

@[simp] theorem State.dropWaiting_queued (n : Nat) : (s.dropWaiting n).queued = s.queued := by
  refine foldl_leaves State.queued _ (fun s m => ?_) _ _
  simp [State.zttFail]

/-- The queued writes of a session are dropped. -/
theorem State.dropQueued_queued (n : Nat) : (s.dropQueued n).queued = s.queued.filter (fun q => q.msg.sess ≠ n) := by
  unfold State.dropQueued
  extract_lets s₁ mine s₂ s₃
  rw [State.wn_queued, State.wn_queued,
    foldl_leaves State.queued _ (fun s q => (State.bump_queued _ _ _ _ _).trans (State.zttReply_queued _ _ _ _ _ _)) s₂ mine]
  simp only [s₂, s₁, State.dropWaiting_queued]

/-- A session that closes drops its queued writes alone. -/
theorem State.closeSess_queued (n reason : Nat) : (s.closeSess n reason).queued = s.queued.filter (fun q => q.msg.sess ≠ n) := by
  rw [← s.dropQueued_queued n]
  unfold State.closeSess
  dsimp only [State.refreshAdmission, State.putCharge]
  split_ifs <;> simp

@[simp] theorem State.resetContinuity_queued (n : Nat) : (s.resetContinuity n).queued = s.queued := by
  refine foldl_leaves State.queued _ (fun s x => ?_) _ _
  rfl

theorem State.takeSets_queued (n : Nat) : (s.takeSets n).queued ⊆ s.queued := by
  unfold State.takeSets
  extract_lets l s₁
  split
  · rw [State.closeSess_queued]
    exact List.filter_sublist.subset
  · exact List.Subset.refl _

theorem State.resync_queued (n : Nat) : (s.resync n).queued ⊆ s.queued := by
  refine List.Subset.trans (State.takeSets_queued _ n) ?_
  simp

/-! The checks of a label (Table 1.3) -/

@[simp] theorem State.layerAlive_queued (x a : Nat) : (s.layerAlive x a).queued = s.queued := by
  unfold State.layerAlive
  extract_lets l i k gap s₁
  split
  · split
    · exact (State.bump_queued _ _ _ _ _).trans rfl
    · rfl
  · exact (State.bump_queued _ _ _ _ _).trans rfl
  · exact State.bump_queued _ _ _ _ _

theorem State.replayRun_queued (n : Nat) : (s.replayRun n).queued ⊆ s.queued := by
  unfold State.replayRun
  dsimp only
  split
  · exact List.Subset.refl _
  · split
    · rw [State.raise_queued]
      exact s.resync_queued n
    · exact List.Subset.refl _

theorem State.continuity_queued (n a : Nat) : (s.continuity n a).1.queued ⊆ s.queued := by
  unfold State.continuity
  have hlayers := foldl_leaves State.queued _ (fun s x => State.layerAlive_queued s x a) s (s.layersOf n)
  dsimp only
  split
  · exact hlayers ▸ List.Subset.refl _
  · exact hlayers ▸ List.Subset.refl _
  · exact List.Subset.trans (State.replayRun_queued _ n) (by rw [State.bump_queued, hlayers]; exact List.Subset.refl _)

@[simp] theorem State.gradeChange_queued (n grade : Nat) : (s.gradeChange n grade).queued = s.queued := by
  unfold State.gradeChange
  dsimp only
  split <;> simp

theorem State.labelled_queued (n ts : Nat) (l : Option Label) : (s.labelled n ts l).1.queued ⊆ s.queued := by
  have hgrade : (s.gradeChange n 2).queued ⊆ s.queued := (s.gradeChange_queued n 2) ▸ List.Subset.refl _
  unfold State.labelled
  extract_lets want s₁ g s₂ s₃
  split
  · rw [State.bump_queued]
    exact hgrade
  · split
    · exact hgrade
    · extract_lets s₂ p cap late g g' s₃ s₄
      have hp : p.1.queued ⊆ s.queued := List.Subset.trans (s₂.continuity_queued n _) hgrade
      have h₄ : s₄.queued = p.1.queued := by
        simp only [s₄]
        split
        · exact State.bump_queued _ _ _ _ _
        · rfl
      exact h₄ ▸ hp

/-! A write's effect -/

@[simp] theorem State.setBuf_queued (n b : Nat) (g : BufS) : (s.setBuf n b g).queued = s.queued := rfl
@[simp] theorem State.showNewest_queued (n : Nat) : (s.showNewest n).queued = s.queued := rfl

@[simp] theorem State.cleanPicture_queued (n : Nat) : (s.cleanPicture n).queued = s.queued := by
  unfold State.cleanPicture
  dsimp only
  split <;> simp

@[simp] theorem State.zttWrite_queued (n : Nat) (h : ZttHdr) (px : List Byte) : (s.zttWrite n h px).queued = s.queued := by
  simp [State.zttWrite]

theorem State.zttPresent_queued (n : Nat) (h : ZttHdr) : (s.zttPresent n h).queued ⊆ s.queued := by
  have hp := s.labelled_queued n 0 h.parsed
  unfold State.zttPresent
  extract_lets g p s₁ au u w ht bad taint old cap pic u' g' s₂ s₃ s₄
  have h₄ : s₄.queued = p.1.queued := by
    rw [State.showNewest_queued]
    simp only [s₃]
    split
    · exact State.bump_queued _ _ _ _ _
    · rfl
  split
  · rw [State.cleanPicture_queued, h₄]
    exact hp
  · rw [h₄]
    exact hp

/-- A write that takes effect adds nothing to the queue; a replay that resyncs its session may close it, and so empty it. -/
theorem State.zttEffect_queued (m : ZttWait) (px : List Byte) : (s.zttEffect m px).queued ⊆ s.queued := by
  unfold State.zttEffect
  extract_lets s₁ s₂
  rw [State.relayMessage_queued]
  have h₁ : s₁.queued = s.queued := by
    simp only [s₁]
    split <;> simp
  have h₂ : s₂.queued ⊆ s₁.queued := by
    simp only [s₂]
    split
    · exact s₁.zttPresent_queued _ _
    · exact List.Subset.refl _
  exact h₁ ▸ h₂

theorem State.applyQueued_queued (qs : List QWrite) : (s.applyQueued qs).queued ⊆ s.queued := by
  refine List.foldlRecOn qs _ (motive := fun a => a.queued ⊆ s.queued) (List.Subset.refl _) fun (a : State) ih q _ => ?_
  rw [State.zttReply_queued]
  exact List.Subset.trans (a.zttEffect_queued _ _) ih

end Queue

/-! ### The end of a lease (R291, R294) -/

/-- Whether a queued write goes to a buffer. -/
def QWrite.into (n b : Nat) (q : QWrite) : Bool := decide (q.msg.sess = n) && decide (q.msg.hdr.buf = b)

theorem QWrite.into_eq_false_iff {n b : Nat} {q : QWrite} : q.into n b = false ↔ ¬(q.msg.sess = n ∧ q.msg.hdr.buf = b) := by
  simp [QWrite.into]

/-- The state with a buffer's lease ended and its queued writes taken out. -/
def State.unlease (s : State) (n b : Nat) : State :=
  { s.setBuf n b { (s.gfxOf n).bufs.at' b {} with leased := false } with queued := s.queued.filter (fun q => !q.into n b) }

theorem State.buf_setBuf_same (s : State) (n b : Nat) (u : BufS) : ((s.setBuf n b u).gfxOf n).bufs.at' b {} = u := by
  rw [State.setBuf, State.gfxOf_setGfx_same, Tab.at'_put_same]

/-- Refreshing the counts of leases and of the queue changes those counts alone, and leaves the length of the queue to read. -/
theorem State.refreshed (a : State) :
    a.refreshQueue.refreshLeases = { a with od := a.refreshQueue.refreshLeases.od } ∧
      a.refreshQueue.refreshLeases.rn 0x4300 0x0E = a.queued.length ∧
      a.odSame a.refreshQueue.refreshLeases [key 0x4300 0x0D, key 0x4300 0x0E, key 0x4300 0x0F] := by
  refine ⟨rfl, (State.rn_wn_sub _ _ _ _ (by decide) (by decide) (by decide)).trans a.rn_refreshQueue_length, fun k hk => ?_⟩
  simp only [List.mem_cons, List.not_mem_nil, or_false, not_or] at hk
  obtain ⟨hleases, hlength, hbytes⟩ := hk
  exact (Tab.look_put_other _ _ hleases).trans ((Tab.look_put_other _ _ hbytes).trans (Tab.look_put_other _ _ hlength))

section LeaseEnd
variable {s : State} {n b : Nat}

/-- A buffer that something still reads keeps its lease. -/
theorem State.leaseEnd_waits (hread : s.bufRead n b = true) : s.leaseEnd n b = s :=
  if_pos (by simp [hread])

/-- A lease that nothing reads ends: the buffer's queued writes take effect. -/
theorem State.leaseEnd_eq (hleased : ((s.gfxOf n).bufs.at' b {}).leased = true) (hread : s.bufRead n b = false) :
    s.leaseEnd n b = (((s.unlease n b).applyQueued (s.queued.filter (QWrite.into n b))).refreshQueue).refreshLeases :=
  if_neg (by simp [hleased, hread])

theorem State.leaseEnd_ends (hleased : ((s.gfxOf n).bufs.at' b {}).leased = true) (hread : s.bufRead n b = false) :
    ∃ s', s.leaseEnd n b = s' ∧ (∀ q ∈ s'.queued, ¬(q.msg.sess = n ∧ q.msg.hdr.buf = b)) ∧
      (∀ q ∈ s'.queued, q ∈ s.queued) ∧ s'.rn 0x4300 0x0E = s'.queued.length ∧
      ((∀ q ∈ s.queued, ¬(q.msg.sess = n ∧ q.msg.hdr.buf = b)) →
        (s'.gfxOf n).bufs.at' b {} = { (s.gfxOf n).bufs.at' b {} with leased := false } ∧
        s.odSame s' [key 0x4300 0x0D, key 0x4300 0x0E, key 0x4300 0x0F] ∧
        s' = { s with od := s'.od, gfx := s'.gfx, queued := s'.queued }) := by
  have hsub := (s.unlease n b).applyQueued_queued (s.queued.filter (QWrite.into n b))
  have hnone (h : ∀ q ∈ s.queued, ¬(q.msg.sess = n ∧ q.msg.hdr.buf = b)) : s.queued.filter (QWrite.into n b) = [] :=
    List.filter_eq_nil_iff.2 fun q hq => by simp [QWrite.into_eq_false_iff.2 (h q hq)]
  rw [State.leaseEnd_eq hleased hread]
  generalize s.queued.filter (QWrite.into n b) = qs at *
  generalize happly : (s.unlease n b).applyQueued qs = a at *
  obtain ⟨hframe, hlength, hsame⟩ := a.refreshed
  generalize a.refreshQueue.refreshLeases = e at *
  have hqueued : e.queued = a.queued := (congrArg State.queued hframe :)
  rw [← hqueued] at hsub
  refine ⟨e, rfl, ?_, ?_, hqueued ▸ hlength, fun h => ?_⟩
  · exact fun q hq => QWrite.into_eq_false_iff.1 (by simpa using (List.mem_filter.1 (hsub hq)).2)
  · exact fun q hq => (List.mem_filter.1 (hsub hq)).1
  · rw [hnone h] at happly
    obtain rfl : s.unlease n b = a := happly
    have hgfx : e.gfx = (s.unlease n b).gfx := (congrArg State.gfx hframe :)
    refine ⟨?_, hsame, ?_⟩
    · rw [State.gfxOf, hgfx]
      exact s.buf_setBuf_same n b _
    · rw [hgfx, hqueued]
      exact hframe

end LeaseEnd

/-- Settles O32: a press completes its plane; a lease's end applies its queued writes, which only shortens the queue; each write that
waited for the limit is counted and answered. -/
theorem pressesAndLeases : Obligations.PressesAndLeases := by
  unfold Obligations.PressesAndLeases
  intro s t u
  have hnext : ∀ {a b : State}, a = b → (.next a : Host.Outcome State Fault Refusal) = .next b := congrArg _
  refine ⟨?_, ?_, ?_, ?_, ?_, ?_⟩
  · intro x a _ hpress hdone hfirst
    obtain ⟨s', hs', hrest⟩ := State.pressDone_completes hpress hdone hfirst
    exact ⟨s', hnext hs', hrest⟩
  · exact fun x hnone => hnext (State.pressDone_none hnone)
  · exact fun x a hpress hbehind => hnext (State.pressDone_waits hpress hbehind)
  · intro n b hleased hread
    obtain ⟨s', hs', hrest⟩ := State.leaseEnd_ends hleased hread
    exact ⟨s', hnext hs', hrest⟩
  · exact fun n b hread => hnext (State.leaseEnd_waits hread)
  · obtain ⟨s', hs', hrest⟩ := u.leaseLimit_discards
    exact ⟨s', hnext hs', hrest⟩

end Sys2Proof.Machine
end

section
/-! SUPPORT. The output operations of scan-out and of the DisplayPort link (R310, R315, R330 to R332): what an output event, a change of
link and the judgement of a frame leave alone, which dictionary values they change and what they queue. -/

namespace Sys2Proof.Machine

/-! ### One subindex of every object -/

/-- The values that a subindex of every object holds. -/
def State.column (s : State) (b : Nat) : Nat → Option Val := fun i => s.od.look (key i b)

theorem State.rn_of_column {a s : State} {b : Nat} (h : a.column b = s.column b) (i : Nat) : a.rn i b = s.rn i b :=
  State.rn_of_look (congrFun h i)

theorem State.rb_of_column {a s : State} {b : Nat} (h : a.column b = s.column b) (i : Nat) : a.rb i b = s.rb i b := by
  have hlook : a.od.look (key i b) = s.od.look (key i b) := congrFun h i
  simp only [State.rb, State.val, hlook]

theorem State.column_of_od {a s : State} (h : a.od = s.od) (b : Nat) : a.column b = s.column b :=
  funext fun i => congrArg (·.look (key i b)) h

section Column
variable (s : State) {b : Nat} (hb : b < 256)
include hb

theorem State.wv_column (idx : Nat) {sub : Nat} (v : Val) (h : b ≠ sub) (hsub : sub < 256) : (s.wv idx sub v).column b = s.column b :=
  funext fun i => Tab.look_put_other _ _ (by simp only [key]; omega)

theorem State.wn_column (idx v : Nat) {sub : Nat} (h : b ≠ sub) (hsub : sub < 256) : (s.wn idx sub v).column b = s.column b :=
  s.wv_column hb idx _ h hsub

theorem State.wb_column (idx : Nat) {sub : Nat} (v : List Byte) (h : b ≠ sub) (hsub : sub < 256) :
    (s.wb idx sub v).column b = s.column b :=
  s.wv_column hb idx _ h hsub

theorem State.raise_column (k ty sev : Nat) (pay : List (Nat × Nat)) (h : b ≠ 0x05) : (s.raise k ty sev pay).column b = s.column b :=
  funext fun i => s.look_raise_other _ _ _ _ (by simp only [key]; omega)

theorem State.bump_column (k idx n : Nat) {sub : Nat} (h : b ≠ sub) (h5 : b ≠ 0x05) (hsub : sub < 256) :
    (s.bump k idx sub n).column b = s.column b :=
  funext fun i => s.look_bump_other _ _ (by simp only [key]; omega) (by simp only [key]; omega)

end Column

/-! ### What scan-out and the link leave alone -/

/-- A state without what scan-out and the link change: dictionary values, the log and the screens' rows. -/
def State.sansScan (s : State) : State := { s.sansCounts with screens := [] }

/-- States that differ in these alone: one is the other with those parts. -/
theorem State.eq_of_sansScan {a b : State} (h : a.sansScan = b.sansScan) :
    a = { b with od := a.od, log := a.log, screens := a.screens } :=
  congrArg (fun s : State => { s with od := a.od, log := a.log, screens := a.screens }) h

theorem State.sansScan_of_sansCounts {a b : State} (h : a.sansCounts = b.sansCounts) : a.sansScan = b.sansScan :=
  congrArg State.sansScreens h

theorem State.screens_of_sansCounts {a b : State} (h : a.sansCounts = b.sansCounts) : a.screens = b.screens :=
  (congrArg State.screens h :)

theorem State.force_of_sansScan {a b : State} (h : a.sansScan = b.sansScan) : a.force = b.force := (congrArg State.force h :)
theorem State.out_of_sansScan {a b : State} (h : a.sansScan = b.sansScan) : a.out = b.out := (congrArg State.out h :)
theorem State.power_of_sansScan {a b : State} (h : a.sansScan = b.sansScan) : a.power = b.power := (congrArg State.power h :)
theorem State.nowAt_of_sansScan {a b : State} (h : a.sansScan = b.sansScan) (die : Nat) : a.nowAt die = b.nowAt die :=
  (congrArg (State.nowAt · die) h :)
theorem State.clockOf_of_sansScan {a b : State} (h : a.sansScan = b.sansScan) (die : Nat) : a.clockOf die = b.clockOf die :=
  (congrArg (State.clockOf · die) h :)
theorem State.fn_of_sansScan {a b : State} (h : a.sansScan = b.sansScan) (i sub : Nat) : a.fn i sub = b.fn i sub :=
  (congrArg (fun s : State => s.fn i sub) h :)
theorem State.linesNs_of_sansScan {a b : State} (h : a.sansScan = b.sansScan) (x n : Nat) : a.linesNs x n = b.linesNs x n :=
  (congrArg (fun s : State => s.linesNs x n) h :)

section Scan
variable (s : State) (x : Nat)

@[simp] theorem State.wn_sansScan (idx sub v : Nat) : (s.wn idx sub v).sansScan = s.sansScan := rfl
@[simp] theorem State.wb_sansScan (idx sub : Nat) (v : List Byte) : (s.wb idx sub v).sansScan = s.sansScan := rfl
@[simp] theorem State.setScreen_sansScan (c : ScreenS) : (s.setScreen x c).sansScan = s.sansScan := rfl

@[simp] theorem State.raise_sansScan (k ty sev : Nat) (pay : List (Nat × Nat)) : (s.raise k ty sev pay).sansScan = s.sansScan :=
  State.sansScan_of_sansCounts (s.raise_sansCounts _ _ _ _)

@[simp] theorem State.bump_sansScan (k idx sub n : Nat) : (s.bump k idx sub n).sansScan = s.sansScan :=
  State.sansScan_of_sansCounts (s.bump_sansCounts _ _ _ _)

/-! Output events (R315) -/

section OutEvent
variable (bitNo : Nat) (extra : List (Nat × Nat))

@[simp] theorem State.outEvent_sansCounts : (s.outEvent x bitNo extra).sansCounts = s.sansCounts := by
  unfold State.outEvent
  split
  · exact s.raise_sansCounts _ _ _ _
  · rfl

@[simp] theorem State.outEvent_sansScan : (s.outEvent x bitNo extra).sansScan = s.sansScan :=
  State.sansScan_of_sansCounts (s.outEvent_sansCounts x bitNo extra)

@[simp] theorem State.outEvent_screens : (s.outEvent x bitNo extra).screens = s.screens :=
  State.screens_of_sansCounts (s.outEvent_sansCounts x bitNo extra)

theorem State.look_outEvent_other {i : Nat} (h : i ≠ key 0x2200 0x05) : (s.outEvent x bitNo extra).od.look i = s.od.look i := by
  unfold State.outEvent
  split
  · exact s.look_raise_other _ _ _ _ h
  · rfl

theorem State.outEvent_column {b : Nat} (hb : b < 256) (h : b ≠ 0x05) : (s.outEvent x bitNo extra).column b = s.column b :=
  funext fun i => s.look_outEvent_other _ _ _ (by simp only [key]; omega)

theorem State.outEvent_grown : Grown 1 s.log (s.outEvent x bitNo extra).log := by
  unfold State.outEvent
  split
  · exact s.raise_grown _ _ _ _
  · exact .of_eq rfl _

end OutEvent

/-! A change of output status and link (Table 8.8, R332) -/

section SetLink
variable (st link : Nat)

/-- The stream stops with any status but 2. -/
def State.stopStream : State := if st = 2 then s else s.setScreen x { s.screen x with sending := false }

theorem State.stopStream_od : (s.stopStream x st).od = s.od := by
  unfold State.stopStream
  split <;> rfl

theorem State.stopStream_log : (s.stopStream x st).log = s.log := by
  unfold State.stopStream
  split <;> rfl

theorem State.stopStream_column (b : Nat) : (s.stopStream x st).column b = s.column b := State.column_of_od (s.stopStream_od x st) b

/-- A change of link writes status and link, with its event, or finds them there. -/
theorem State.setLink_cases :
    s.setLink x st link = s.stopStream x st ∧ s.rn (scrIdx x) 0x14 = st ∧ s.rn (scrIdx x) 0x15 = link ∨
    s.setLink x st link =
      (((s.stopStream x st).wn (scrIdx x) 0x14 st).wn (scrIdx x) 0x15 link).outEvent x 5 [(8, st), (16, link)] := by
  have hset : s.setLink x st link =
      if (s.stopStream x st).rn (scrIdx x) 0x14 = st && (s.stopStream x st).rn (scrIdx x) 0x15 = link then s.stopStream x st
      else (((s.stopStream x st).wn (scrIdx x) 0x14 st).wn (scrIdx x) 0x15 link).outEvent x 5 [(8, st), (16, link)] := rfl
  simp only [State.rn_of_column (s.stopStream_column x st _)] at hset
  by_cases h : s.rn (scrIdx x) 0x14 = st ∧ s.rn (scrIdx x) 0x15 = link
  · exact .inl ⟨hset.trans (if_pos (by simpa using h)), h⟩
  · exact .inr (hset.trans (if_neg (by simpa using h)))

theorem State.stopStream_sansScan : (s.stopStream x st).sansScan = s.sansScan := by
  unfold State.stopStream
  split <;> rfl

@[simp] theorem State.setLink_sansScan : (s.setLink x st link).sansScan = s.sansScan := by
  rcases s.setLink_cases x st link with ⟨h, -⟩ | h
  · rw [h, State.stopStream_sansScan]
  · rw [h, State.outEvent_sansScan, State.wn_sansScan, State.wn_sansScan, State.stopStream_sansScan]

theorem State.setLink_screens : (s.setLink x st link).screens = (s.stopStream x st).screens := by
  rcases s.setLink_cases x st link with ⟨h, -⟩ | h
  · rw [h]
  · rw [h, State.outEvent_screens, State.wn_screens, State.wn_screens]

theorem State.setLink_screen_other {y : Nat} (h : y ≠ x) : (s.setLink x st link).screen y = s.screen y := by
  rw [State.screen_of_screens (s.setLink_screens x st link)]
  unfold State.stopStream
  split
  · rfl
  · exact State.screen_setScreen_other _ _ h

theorem State.setLink_screen_up : (s.setLink x 2 link).screen x = s.screen x :=
  State.screen_of_screens (s.setLink_screens x 2 link) x

theorem State.setLink_screen_down {st : Nat} (h : st ≠ 2) : (s.setLink x st link).screen x = { s.screen x with sending := false } := by
  rw [State.screen_of_screens (s.setLink_screens x st link), State.stopStream, if_neg h, State.screen_setScreen_same]

/-- After a change of link status and link are those. -/
theorem State.setLink_status : (s.setLink x st link).rn (scrIdx x) 0x14 = st ∧ (s.setLink x st link).rn (scrIdx x) 0x15 = link := by
  rcases s.setLink_cases x st link with ⟨h, hst, hlink⟩ | h
  · rw [h]
    exact ⟨(State.rn_of_column (s.stopStream_column x st _) _).trans hst, (State.rn_of_column (s.stopStream_column x st _) _).trans hlink⟩
  · rw [h, State.rn_of_column (State.outEvent_column _ _ _ _ (by decide) (by decide)),
      State.rn_of_column (State.outEvent_column _ _ _ _ (by decide) (by decide)), State.rn_wn_same,
      State.rn_wn_sub _ _ _ _ (by decide) (by decide) (by decide), State.rn_wn_same]
    exact ⟨rfl, rfl⟩

theorem State.setLink_column {b : Nat} (hb : b < 256) (h : b ≠ 0x14 ∧ b ≠ 0x15 ∧ b ≠ 0x05) :
    (s.setLink x st link).column b = s.column b := by
  obtain ⟨h14, h15, h05⟩ := h
  rcases s.setLink_cases x st link with ⟨heq, -⟩ | heq
  · rw [heq, State.stopStream_column]
  · rw [heq, State.outEvent_column _ _ _ _ hb h05, State.wn_column _ hb _ _ h15 (by decide), State.wn_column _ hb _ _ h14 (by decide),
      State.stopStream_column]

theorem State.setLink_grown : Grown 1 s.log (s.setLink x st link).log := by
  rcases s.setLink_cases x st link with ⟨h, -⟩ | h
  · exact .of_eq (by rw [h, State.stopStream_log]) _
  · rw [h]
    exact (State.outEvent_grown _ _ _ _).after (by rw [State.wn_log, State.wn_log, State.stopStream_log])

end SetLink
end Scan

/-- An event raised stays in its queue while the queue grows. -/
theorem State.raised.grown {s a b : State} {k ty sev : Nat} {pay : List (Nat × Nat)} {n : ℕ∞} (h : s.raised a k ty sev pay)
    (hgrown : Grown n a.log b.log) : s.raised b k ty sev pay := by
  intro hroom
  obtain ⟨l, e, hl, he, hevent⟩ := h hroom
  obtain ⟨es, hes, -⟩ := hgrown.append k
  exact ⟨l ++ es, e, by rw [hes, hl, List.append_assoc], List.mem_append_left es he, hevent⟩

end Sys2Proof.Machine
end

section
/-! SUPPORT. The statement about timing applies, DisplayPort links, sinks and test patterns: the sink comes, interrupts and goes (R306,
R325, R329, R330). -/

namespace Sys2Proof.Machine

/-! ### The sink comes (R306, R325) -/

section Sink
variable (s : State) (x : Nat)

/-- A sink is there, and what was read of it is shown. -/
def State.sinkNoted (k : Sink) : State :=
  (((s.setScreen x { s.screen x with hpd := true, sink := some k, fixed := !bit (sinkCap k 7) 6, from' := none }).wb
    (0x4910 + x) 0x01 (k.dpcd.take 16)).wb (0x4910 + x) 0x02 k.edid).wn (0x4910 + x) 0x03 (b2n (bit (sinkCap k 7) 6))

/-- With the event of a sink that fixes the timing. -/
def State.sinkRead (k : Sink) : State :=
  if bit (sinkCap k 7) 6 then s.sinkNoted x k else (s.sinkNoted x k).raise (txKey x) 0x0707 1 [(8, x)]

variable (k : Sink)

theorem State.sinkRead_sansCounts : (s.sinkRead x k).sansCounts = (s.sinkNoted x k).sansCounts := by
  unfold State.sinkRead
  split
  · rfl
  · exact State.raise_sansCounts _ _ _ _ _

theorem State.sinkRead_column {b : Nat} (hb : b < 256) (h : b ≠ 0x05) : (s.sinkRead x k).column b = (s.sinkNoted x k).column b := by
  unfold State.sinkRead
  split
  · rfl
  · exact State.raise_column _ hb _ _ _ _ h

theorem State.sinkRead_screens : (s.sinkRead x k).screens = (s.sinkNoted x k).screens :=
  State.screens_of_sansCounts (s.sinkRead_sansCounts x k)

theorem State.sinkNoted_screen : (s.sinkNoted x k).screen x =
    { s.screen x with hpd := true, sink := some k, fixed := !bit (sinkCap k 7) 6, from' := none } :=
  Tab.at'_put_same _ _ _ _

/-- A sink that must follow the MSA timing parameters raises its event. -/
theorem State.sinkRead_raised (h : bit (sinkCap k 7) 6 = false) : s.raised (s.sinkRead x k) (txKey x) 0x0707 1 [(8, x)] := by
  rw [State.sinkRead, if_neg (by simp [h])]
  refine State.raised_after _ _ _ (.of_eq rfl _) (State.addrOf_congr (a := s.sinkNoted x k) (b := s) rfl ?_ _) rfl
  refine State.rn_of_column ?_ _
  unfold State.sinkNoted
  rw [State.wn_column _ (by decide) _ _ (by decide) (by decide), State.wb_column _ (by decide) _ _ (by decide) (by decide),
    State.wb_column _ (by decide) _ _ (by decide) (by decide)]
  rfl

/-- What was read of the sink is shown. -/
theorem State.sinkNoted_reads : (s.sinkNoted x k).rb (0x4910 + x) 0x01 = k.dpcd.take 16 ∧
    (s.sinkNoted x k).rb (0x4910 + x) 0x02 = k.edid ∧ (s.sinkNoted x k).rn (0x4910 + x) 0x03 = b2n (bit (sinkCap k 7) 6) := by
  unfold State.sinkNoted
  refine ⟨?_, ?_, State.rn_wn_same _ _ _ _⟩
  · rw [State.rb_of_column (State.wn_column _ (by decide) _ _ (by decide) (by decide)),
      State.rb_of_column (State.wb_column _ (by decide) _ _ (by decide) (by decide)), State.rb_wb_same]
  · rw [State.rb_of_column (State.wn_column _ (by decide) _ _ (by decide) (by decide)), State.rb_wb_same]

/-- The sink of an output that is no gang's member comes. -/
theorem State.hpdRise_comes (hmember : s.member x = false) (hx : x < 24) :
    ∃ s', s.hpdRise x k = s' ∧
      s'.screen x = { s.screen x with
        hpd := true, sink := some k, fixed := !bit (sinkCap k 7) 6, from' := none, sending := false } ∧
      s'.rb (0x4910 + x) 0x01 = k.dpcd.take 16 ∧ s'.rb (0x4910 + x) 0x02 = k.edid ∧
      s'.rn (0x4910 + x) 0x03 = b2n (bit (sinkCap k 7) 6) ∧
      s'.rn (scrIdx x) 0x14 = (if s.fn (scrIdx x) 0x01 = 0 then 0 else 1) ∧
      (bit (sinkCap k 7) 6 = false → s.raised s' (txKey x) 0x0707 1 [(8, x)]) ∧ (∀ y, y ≠ x → s'.screen y = s.screen y) ∧
      s' = { s with od := s'.od, log := s'.log, screens := s'.screens } := by
  have hscreen : (s.sinkRead x k).screen x = _ := (State.screen_of_screens (s.sinkRead_screens x k) x).trans (s.sinkNoted_screen x k)
  have hscan : (s.sinkRead x k).sansScan = s.sansScan := (State.sansScan_of_sansCounts (s.sinkRead_sansCounts x k)).trans rfl
  obtain ⟨hcap, hedid, hmsa⟩ := s.sinkNoted_reads x k
  have hst : (s.sinkRead x k).idleStatus x = if s.fn (scrIdx x) 0x01 = 0 then 0 else 1 := by
    simp only [State.idleStatus, State.fn_of_sansScan hscan, hscreen, if_true]
  have hdown : (if s.fn (scrIdx x) 0x01 = 0 then 0 else 1) ≠ 2 := by split <;> decide
  have heq : s.hpdRise x k = (s.sinkRead x k).setLink x (if s.fn (scrIdx x) 0x01 = 0 then 0 else 1) 0xFFFF := by
    rw [← hst, State.hpdRise, if_neg (by simpa [hmember] using hx)]
    rfl
  have hcolumn : ∀ b, b < 256 → b ≠ 0x14 ∧ b ≠ 0x15 ∧ b ≠ 0x05 → (s.hpdRise x k).column b = (s.sinkNoted x k).column b :=
    fun b hb h => by rw [heq, State.setLink_column _ _ _ _ hb h, State.sinkRead_column _ _ _ hb h.2.2]
  refine ⟨_, rfl, ?_, ?_, ?_, ?_, ?_, ?_, ?_, ?_⟩
  · rw [heq, State.setLink_screen_down _ _ _ hdown, hscreen]
  · rw [State.rb_of_column (hcolumn _ (by decide) (by decide)), hcap]
  · rw [State.rb_of_column (hcolumn _ (by decide) (by decide)), hedid]
  · rw [State.rn_of_column (hcolumn _ (by decide) (by decide)), hmsa]
  · rw [heq]
    exact (State.setLink_status _ _ _ _).1
  · intro hfixed
    rw [heq]
    exact (s.sinkRead_raised x k hfixed).grown (State.setLink_grown _ _ _ _)
  · intro y hy
    rw [heq, State.setLink_screen_other _ _ _ _ hy, State.screen_of_screens (s.sinkRead_screens x k)]
    exact State.screen_setScreen_other _ _ hy
  · exact State.eq_of_sansScan (by rw [heq, State.setLink_sansScan, hscan])

end Sink

/-! ### The sink interrupts (R329, R330) -/

section Irq
variable (s : State) (x : Nat)

/-- An interrupt counted, with the link status read. -/
def State.irqNoted (status : Nat) : State := (s.bump (txKey x) (0x4910 + x) 0x08).wn (0x4910 + x) 0x0B status

/-- The link that a retrain starts from is kept. -/
def State.retrainKept : State :=
  s.setScreen x { s.screen x with from' := some (s.rn (scrIdx x) 0x15 % 256, s.rn (scrIdx x) 0x15 / 256) }

/-- The retrain is counted. -/
def State.retrainNoted : State := (s.retrainKept x).bump (txKey x) (scrIdx x) 0x1E

/-- A link that runs is retrained from the link in use. -/
theorem State.retrain_up (h : s.rn (scrIdx x) 0x14 = 2) : s.retrain x = (s.retrainNoted x).setLink x 1 0xFFFF := if_pos h

theorem State.retrain_idle (h : s.rn (scrIdx x) 0x14 ≠ 2) : s.retrain x = s := if_neg h

variable (status : Nat)

theorem State.irqNoted_sansCounts : (s.irqNoted x status).sansCounts = s.sansCounts := s.bump_sansCounts _ _ _ _

theorem State.irqNoted_screen (y : Nat) : (s.irqNoted x status).screen y = s.screen y :=
  State.screen_of_screens (State.screens_of_sansCounts (s.irqNoted_sansCounts x status)) y

theorem State.irqNoted_column {b : Nat} (hb : b < 256) (h : b ≠ 0x08 ∧ b ≠ 0x0B ∧ b ≠ 0x05) :
    (s.irqNoted x status).column b = s.column b := by
  obtain ⟨h08, h0B, h05⟩ := h
  rw [State.irqNoted, State.wn_column _ hb _ _ h0B (by decide), State.bump_column _ hb _ _ _ h08 h05 (by decide)]

theorem State.irqNoted_counted : s.counted (s.irqNoted x status) (0x4910 + x) 0x08 1 :=
  (s.counted_bump _ _ _ _).congr rfl (State.rn_wn_sub _ _ _ _ (by decide) (by decide) (by decide))

theorem State.retrainNoted_sansScan : (s.retrainNoted x).sansScan = s.sansScan := State.bump_sansScan _ _ _ _ _

theorem State.retrainNoted_screens : (s.retrainNoted x).screens = (s.retrainKept x).screens :=
  State.bump_screens _ _ _ _ _

theorem State.retrainNoted_counted : s.counted (s.retrainNoted x) (scrIdx x) 0x1E 1 :=
  ((s.retrainKept x).counted_bump (txKey x) (scrIdx x) 0x1E 1).congr rfl rfl

theorem State.retrainNoted_column {b : Nat} (hb : b < 256) (h : b ≠ 0x1E ∧ b ≠ 0x05) : (s.retrainNoted x).column b = s.column b :=
  State.bump_column _ hb _ _ _ h.1 h.2 (by decide)

/-- After a training that failed, another is tried. -/
def State.trainAgain : State := if s.rn (scrIdx x) 0x14 = 3 then s.setLink x 1 0xFFFF else s

variable {s x status}

section Outcomes
variable (hmember : s.member x = false) (hhpd : (s.screen x).hpd = true) (hstatus : status < 2 ^ 24)
include hmember hhpd hstatus

/-- An interrupt is noted; a training that failed is tried again, a link that is lost is retrained. -/
theorem State.hpdIrq_eq {a : State} (ha : (s.irqNoted x status).trainAgain x = a) :
    s.hpdIrq x status = if linkLost (a.rn (scrIdx x) 0x15 / 256) status then a.retrain x else a := by
  rw [State.hpdIrq, if_neg (by simp [hmember, hhpd]), Nat.mod_eq_of_lt hstatus, ← ha]
  rfl

theorem State.hpdIrq_failed (hfailed : s.rn (scrIdx x) 0x14 = 3) :
    s.hpdIrq x status = (s.irqNoted x status).setLink x 1 0xFFFF := by
  have hst : (s.irqNoted x status).rn (scrIdx x) 0x14 = 3 := by
    rw [State.rn_of_column (s.irqNoted_column _ _ (by decide) (by decide)), hfailed]
  rw [State.hpdIrq_eq hmember hhpd hstatus (if_pos hst), State.retrain_idle _ _ (by rw [(State.setLink_status _ _ _ _).1]; decide),
    ite_self]

theorem State.hpdIrq_notFailed (hfailed : s.rn (scrIdx x) 0x14 ≠ 3) : s.hpdIrq x status =
    if linkLost (s.rn (scrIdx x) 0x15 / 256) status then (s.irqNoted x status).retrain x else s.irqNoted x status := by
  have hrn : ∀ b, b < 256 → b ≠ 0x08 ∧ b ≠ 0x0B ∧ b ≠ 0x05 → (s.irqNoted x status).rn (scrIdx x) b = s.rn (scrIdx x) b :=
    fun b hb h => State.rn_of_column (s.irqNoted_column x status hb h) _
  rw [State.hpdIrq_eq hmember hhpd hstatus (if_neg (by rwa [hrn _ (by decide) (by decide)])), hrn _ (by decide) (by decide)]

/-- A link that is lost while it runs is retrained. -/
theorem State.hpdIrq_lost (hup : s.rn (scrIdx x) 0x14 = 2) (hlost : linkLost (s.rn (scrIdx x) 0x15 / 256) status = true) :
    s.hpdIrq x status = ((s.irqNoted x status).retrainNoted x).setLink x 1 0xFFFF := by
  rw [State.hpdIrq_notFailed hmember hhpd hstatus (by rw [hup]; decide), if_pos hlost, State.retrain_up]
  rw [State.rn_of_column (s.irqNoted_column x status (by decide) (by decide)), hup]

/-- A link that stands, or does not run, is left as it is. -/
theorem State.hpdIrq_kept (hfailed : s.rn (scrIdx x) 0x14 ≠ 3)
    (hkept : s.rn (scrIdx x) 0x14 = 2 → linkLost (s.rn (scrIdx x) 0x15 / 256) status = false) :
    s.hpdIrq x status = s.irqNoted x status := by
  rw [State.hpdIrq_notFailed hmember hhpd hstatus hfailed]
  by_cases hup : s.rn (scrIdx x) 0x14 = 2
  · rw [hkept hup]
    rfl
  · rw [State.retrain_idle, ite_self]
    rwa [State.rn_of_column (s.irqNoted_column x status (by decide) (by decide))]

end Outcomes

/-- What an interrupt that starts a training leaves; `a` is the state before the training starts. -/
theorem State.hpdIrq_trains {a : State} (heq : s.hpdIrq x status = a.setLink x 1 0xFFFF) (hscan : a.sansScan = s.sansScan)
    (hcolumn : ∀ b, b = 0x08 ∨ b = 0x0B → a.column b = (s.irqNoted x status).column b) (hother : ∀ y, y ≠ x → a.screen y = s.screen y) :
    (s.hpdIrq x status).rn (0x4910 + x) 0x0B = status ∧ s.counted (s.hpdIrq x status) (0x4910 + x) 0x08 1 ∧
      (s.hpdIrq x status).rn (scrIdx x) 0x14 = 1 ∧ (∀ y, y ≠ x → (s.hpdIrq x status).screen y = s.screen y) ∧
      (s.hpdIrq x status).sansScan = s.sansScan := by
  have hnoted : ∀ b, b = 0x08 ∨ b = 0x0B → (s.hpdIrq x status).column b = (s.irqNoted x status).column b := by
    rintro b hb
    rw [heq, State.setLink_column _ _ _ _ (by omega) (by omega), hcolumn b hb]
  refine ⟨?_, ?_, ?_, ?_, ?_⟩
  · rw [State.rn_of_column (hnoted _ (.inr rfl))]
    exact State.rn_wn_same _ _ _ _
  · exact (s.irqNoted_counted x status).congr rfl (State.rn_of_column (hnoted _ (.inl rfl)) _)
  · rw [heq]
    exact (State.setLink_status _ _ _ _).1
  · intro y hy
    rw [heq, State.setLink_screen_other _ _ _ _ hy, hother y hy]
  · rw [heq, State.setLink_sansScan, hscan]

/-- The sink of an output with a sink interrupts. -/
theorem State.hpdIrq_interrupts (hmember : s.member x = false) (hhpd : (s.screen x).hpd = true) (hstatus : status < 2 ^ 24) :
    ∃ s', s.hpdIrq x status = s' ∧ s'.rn (0x4910 + x) 0x0B = status ∧ s.counted s' (0x4910 + x) 0x08 1 ∧
      (linkLost (s.rn (scrIdx x) 0x15 / 256) status = true → s.rn (scrIdx x) 0x14 = 2 →
        s'.rn (scrIdx x) 0x14 = 1 ∧ s.counted s' (scrIdx x) 0x1E 1 ∧
        (s'.screen x).from' = some (s.rn (scrIdx x) 0x15 % 256, s.rn (scrIdx x) 0x15 / 256)) ∧
      (linkLost (s.rn (scrIdx x) 0x15 / 256) status = false → s.rn (scrIdx x) 0x14 ≠ 3 →
        s'.rn (scrIdx x) 0x14 = s.rn (scrIdx x) 0x14 ∧ s'.screen x = s.screen x) ∧
      (s.rn (scrIdx x) 0x14 = 3 → s'.rn (scrIdx x) 0x14 = 1) ∧ (∀ y, y ≠ x → s'.screen y = s.screen y) ∧
      s' = { s with od := s'.od, log := s'.log, screens := s'.screens } := by
  have hrn : ∀ b, b < 256 → b ≠ 0x08 ∧ b ≠ 0x0B ∧ b ≠ 0x05 → (s.irqNoted x status).rn (scrIdx x) b = s.rn (scrIdx x) b :=
    fun b hb h => State.rn_of_column (s.irqNoted_column x status hb h) _
  by_cases hfailed : s.rn (scrIdx x) 0x14 = 3
  · obtain ⟨hread, hcount, htrain, hother, hscan⟩ := State.hpdIrq_trains (State.hpdIrq_failed hmember hhpd hstatus hfailed)
      (State.sansScan_of_sansCounts (s.irqNoted_sansCounts x status)) (fun _ _ => rfl) (fun y _ => s.irqNoted_screen x status y)
    exact ⟨_, rfl, hread, hcount, fun _ hup => absurd (hup.symm.trans hfailed) (by decide), fun _ h => absurd hfailed h,
      fun _ => htrain, hother, State.eq_of_sansScan hscan⟩
  by_cases hlost : s.rn (scrIdx x) 0x14 = 2 ∧ linkLost (s.rn (scrIdx x) 0x15 / 256) status = true
  · have heq := State.hpdIrq_lost hmember hhpd hstatus hlost.1 hlost.2
    have hcolumn : ∀ b, b = 0x08 ∨ b = 0x0B → ((s.irqNoted x status).retrainNoted x).column b = (s.irqNoted x status).column b :=
      fun b hb => State.retrainNoted_column _ _ (by omega) (by omega)
    have hscreen : ∀ y, ((s.irqNoted x status).retrainNoted x).screen y = ((s.irqNoted x status).retrainKept x).screen y :=
      State.screen_of_screens (State.retrainNoted_screens _ x)
    obtain ⟨hread, hcount, htrain, hother, hscan⟩ := State.hpdIrq_trains heq
      ((State.retrainNoted_sansScan _ _).trans (State.sansScan_of_sansCounts (s.irqNoted_sansCounts x status))) hcolumn
      (fun y hy => by rw [hscreen, State.retrainKept, State.screen_setScreen_other _ _ hy, s.irqNoted_screen x status y])
    refine ⟨_, rfl, hread, hcount, fun _ _ => ⟨htrain, ?_, ?_⟩, fun h => absurd (h.symm.trans hlost.2) (by decide),
      fun h => absurd h hfailed, hother, State.eq_of_sansScan hscan⟩
    · refine ((s.irqNoted x status).retrainNoted_counted x).congr (hrn _ (by decide) (by decide)).symm ?_
      rw [heq, State.rn_of_column (State.setLink_column _ _ _ _ (by decide) (by decide))]
    · rw [heq, State.setLink_screen_down _ _ _ (by decide), hscreen, State.retrainKept, State.screen_setScreen_same,
        hrn _ (by decide) (by decide)]
  · have heq := State.hpdIrq_kept hmember hhpd hstatus hfailed (fun hup => by simpa [hup] using hlost)
    rw [heq]
    exact ⟨_, rfl, State.rn_wn_same _ _ _ _, s.irqNoted_counted x status, fun h hup => absurd ⟨hup, h⟩ hlost,
      fun _ _ => ⟨hrn _ (by decide) (by decide), s.irqNoted_screen x status x⟩, fun h => absurd h hfailed,
      fun y _ => s.irqNoted_screen x status y, State.eq_of_sansScan (State.sansScan_of_sansCounts (s.irqNoted_sansCounts x status))⟩

end Irq

/-! ### The sink goes (R330) -/

/-- The sink of an output that is no gang's member goes. -/
theorem State.hpdUnplug_goes {s : State} {x : Nat} (hmember : s.member x = false) (hhpd : (s.screen x).hpd = true) :
    ∃ s', s.hpdUnplug x = s' ∧ s'.screen x = { s.screen x with hpd := false, sink := none, sending := false } ∧
      s.counted s' (0x4910 + x) 0x09 1 ∧ s'.rn (scrIdx x) 0x14 = (if s.fn (scrIdx x) 0x01 = 0 then 0 else 4) ∧
      (∀ y, y ≠ x → s'.screen y = s.screen y) ∧ s' = { s with od := s'.od, log := s'.log, screens := s'.screens } := by
  let c : ScreenS := { s.screen x with hpd := false, sink := none }
  have hcount : s.counted ((s.setScreen x c).bump (txKey x) (0x4910 + x) 0x09) (0x4910 + x) 0x09 1 :=
    (State.counted_bump (s.setScreen x c) _ _ _ _).congr rfl rfl
  have hscan : ((s.setScreen x c).bump (txKey x) (0x4910 + x) 0x09).sansScan = s.sansScan := State.bump_sansScan _ _ _ _ _
  have hscreen : ∀ y, ((s.setScreen x c).bump (txKey x) (0x4910 + x) 0x09).screen y = (s.setScreen x c).screen y :=
    State.screen_of_screens (State.bump_screens _ _ _ _ _)
  have heq : s.hpdUnplug x = let a := (s.setScreen x c).bump (txKey x) (0x4910 + x) 0x09
      a.setLink x (a.idleStatus x) 0xFFFF := if_neg (by simp [hmember, hhpd])
  dsimp only at heq
  generalize (s.setScreen x c).bump (txKey x) (0x4910 + x) 0x09 = a at *
  have hst : a.idleStatus x = if s.fn (scrIdx x) 0x01 = 0 then 0 else 4 := by
    simp only [State.idleStatus, State.fn_of_sansScan hscan, hscreen, State.screen_setScreen_same, c, Bool.false_eq_true, if_false]
  have hdown : a.idleStatus x ≠ 2 := by rw [hst]; split <;> decide
  refine ⟨_, rfl, ?_, ?_, ?_, ?_, ?_⟩
  · rw [heq, State.setLink_screen_down _ _ _ hdown, hscreen, State.screen_setScreen_same]
  · refine hcount.congr rfl ?_
    rw [heq, State.rn_of_column (State.setLink_column _ _ _ _ (by decide) (by decide))]
  · rw [heq, (State.setLink_status _ _ _ _).1, hst]
  · intro y hy
    rw [heq, State.setLink_screen_other _ _ _ _ hy, hscreen, State.screen_setScreen_other _ _ hy]
  · exact State.eq_of_sansScan (by rw [heq, State.setLink_sansScan, hscan])

end Sys2Proof.Machine
end

section
/-! SUPPORT. The statement about timing applies, DisplayPort links, sinks and test patterns: trainings (R306, R326, R327, R329), the
requests to apply a timing (R321, R323) and to send a test pattern (R464). -/

namespace Sys2Proof.Machine

/-! ### Training (R306, R326, R327, R329) -/

/-- A state without its outputs. -/
def State.sansOut (s : State) : State := { s with out := [] }

/-- A state without what a training changes: dictionary values, the log, the screens' rows and outputs. -/
def State.sansTrain (s : State) : State := { s.sansScan with out := [] }

theorem State.eq_of_sansTrain {a b : State} (h : a.sansTrain = b.sansTrain) :
    a = { b with od := a.od, log := a.log, screens := a.screens, out := a.out } :=
  congrArg (fun s : State => { s with od := a.od, log := a.log, screens := a.screens, out := a.out }) h

theorem State.sansTrain_of_sansScan {a b : State} (h : a.sansScan = b.sansScan) : a.sansTrain = b.sansTrain :=
  congrArg State.sansOut h

theorem State.sansTrain_of_sansOut {a b : State} (h : a.sansOut = b.sansOut) : a.sansTrain = b.sansTrain :=
  congrArg State.sansScan h

section Train
variable (s : State) (x : Nat)

@[simp] theorem State.say_sansOut (o : Out) : (s.say o).sansOut = s.sansOut := by
  rw [s.say_frame]
  rfl

@[simp] theorem State.driveLanes_sansOut (reqs : List (Nat × Nat)) : (s.driveLanes x reqs).sansOut = s.sansOut :=
  (State.say_sansOut _ _).trans (foldl_leaves State.sansOut _ (fun _ _ => State.say_sansOut _ _) s _)

@[simp] theorem State.tryLink_sansOut (k : Sink) (l : LinkTry) : (s.tryLink x k l).sansOut = s.sansOut :=
  (foldl_leaves State.sansOut _ (fun _ _ => State.driveLanes_sansOut _ _ _) _ _).trans (s.say_sansOut _)

/-- The colorimetry at link up writes its register, with the event where it is not signalled. -/
theorem State.colorimetry_sansCounts : (s.colorimetry x).sansCounts = s.sansCounts := by
  unfold State.colorimetry
  dsimp only
  split
  · exact State.raise_sansCounts _ _ _ _ _
  · rfl

theorem State.colorimetry_column {b : Nat} (hb : b < 256) (h : b ≠ 0x0C ∧ b ≠ 0x05) : (s.colorimetry x).column b = s.column b := by
  unfold State.colorimetry
  dsimp only
  split
  · rw [State.raise_column _ hb _ _ _ _ h.2, State.wn_column _ hb _ _ h.1 (by decide)]
  · exact s.wn_column hb _ _ h.1 (by decide)

variable (k : Sink) (tries : List LinkTry)

/-- The links tried: the sink is told how it is driven. -/
def State.trainTried : State := tries.foldl (fun s l => s.tryLink x k l) (s.say (.aux x 0x107 [s.downspread x k]))

/-- And the training noted, which ends a retrain. -/
def State.trainNoted : State :=
  (s.trainTried x k tries).setScreen x { (s.trainTried x k tries).screen x with tries := tries, from' := none }

theorem State.trainTried_sansOut : (s.trainTried x k tries).sansOut = s.sansOut :=
  (foldl_leaves State.sansOut _ (fun _ _ => State.tryLink_sansOut _ _ _ _) _ _).trans (s.say_sansOut _)

theorem State.trainNoted_sansTrain : (s.trainNoted x k tries).sansTrain = s.sansTrain :=
  (State.sansTrain_of_sansScan (State.setScreen_sansScan _ _ _)).trans (State.sansTrain_of_sansOut (s.trainTried_sansOut x k tries))

theorem State.trainNoted_column (b : Nat) : (s.trainNoted x k tries).column b = s.column b :=
  State.column_of_od (a := s.trainTried x k tries) (congrArg State.od (s.trainTried_sansOut x k tries) :) b

theorem State.trainNoted_screen : ((s.trainNoted x k tries).screen x).tries = tries ∧
    ((s.trainNoted x k tries).screen x).from' = none := by
  rw [State.trainNoted, State.screen_setScreen_same]
  exact ⟨rfl, rfl⟩

theorem State.trainNoted_screen_other {y : Nat} (h : y ≠ x) : (s.trainNoted x k tries).screen y = s.screen y :=
  (State.screen_setScreen_other _ _ h).trans (State.screen_of_screens (congrArg State.screens (s.trainTried_sansOut x k tries) :) y)

end Train

section Trained
variable {s : State} {x : Nat} {k : Sink} {failed : List LinkTry} {last : Option LinkTry} {ok : Bool}

/-- A change of link after a training keeps what the training noted. -/
theorem State.trainNoted_setLink (s : State) (x : Nat) (k : Sink) (tries : List LinkTry) (st link : Nat) :
    (((s.trainNoted x k tries).setLink x st link).screen x).tries = tries ∧
    (((s.trainNoted x k tries).setLink x st link).screen x).from' = none ∧
    (∀ y, y ≠ x → ((s.trainNoted x k tries).setLink x st link).screen y = s.screen y) ∧
    ((s.trainNoted x k tries).setLink x st link).sansTrain = s.sansTrain := by
  obtain ⟨htries, hfrom⟩ := s.trainNoted_screen x k tries
  refine ⟨?_, ?_, fun y hy => ?_, ?_⟩
  · by_cases h : st = 2
    · rw [h, State.setLink_screen_up, htries]
    · rw [State.setLink_screen_down _ _ _ h, htries]
  · by_cases h : st = 2
    · rw [h, State.setLink_screen_up, hfrom]
    · rw [State.setLink_screen_down _ _ _ h, hfrom]
  · rw [State.setLink_screen_other _ _ _ _ hy, s.trainNoted_screen_other x k tries hy]
  · rw [State.sansTrain_of_sansScan (State.setLink_sansScan _ _ _ _), State.trainNoted_sansTrain]

/-- A training without a sink, of an output that does not train, or against the rules changes nothing. -/
theorem State.trained_ignored (h : s.rn (scrIdx x) 0x14 ≠ 1 ∨ (s.screen x).sink = none ∨
    s.trainingOk x (failed ++ last.toList) (ok && last.isSome) = false) : s.trained x failed last ok = s := by
  have hup : (if ok then last else none).isSome = (ok && last.isSome) := by cases ok <;> rfl
  unfold State.trained
  dsimp only
  cases hsink : (s.screen x).sink with
  | none => rfl
  | some k =>
    refine if_pos ?_
    rw [hup]
    rcases h with h | h | h
    · simp [h]
    · simp [hsink] at h
    · simp [h]

section Allowed
variable (htrain : s.rn (scrIdx x) 0x14 = 1) (hsink : (s.screen x).sink = some k)
  (hok : s.trainingOk x (failed ++ last.toList) (ok && last.isSome) = true)
include htrain hsink hok

/-- A training that brings a link up runs it. -/
theorem State.trained_up {l : LinkTry} (hlast : last = some l) (hup : ok = true) : s.trained x failed last ok =
    ((s.trainNoted x k (failed ++ last.toList)).setLink x 2 (l.rate + 256 * l.lanes)).colorimetry x := by
  subst hlast hup
  simp only [State.trained, hsink, if_true]
  exact if_neg (by simpa [htrain] using hok)

/-- A training of which no link came up fails, and counts. -/
theorem State.trained_failed (hfail : ok = false ∨ last = none) : s.trained x failed last ok =
    ((s.trainNoted x k (failed ++ last.toList)).setLink x 3 0xFFFF).bump (txKey x) (0x4910 + x) 0x0A := by
  have hnone : (if ok then last else none) = none := by rcases hfail with rfl | rfl <;> simp
  have hsome : (ok && last.isSome) = false := by rcases hfail with rfl | rfl <;> simp
  rw [hsome] at hok
  simp only [State.trained, hsink, hnone]
  exact if_neg (by simpa [htrain] using hok)

/-- A training within its rules. -/
theorem State.trained_trains : ∃ s', s.trained x failed last ok = s' ∧
    (s'.screen x).tries = failed ++ last.toList ∧ (s'.screen x).from' = none ∧
    (∀ l, last = some l → ok = true → s'.rn (scrIdx x) 0x14 = 2 ∧ s'.rn (scrIdx x) 0x15 = l.rate + 256 * l.lanes) ∧
    (ok = false ∨ last = none →
      s'.rn (scrIdx x) 0x14 = 3 ∧ s'.rn (scrIdx x) 0x15 = 0xFFFF ∧ s.counted s' (0x4910 + x) 0x0A 1) ∧
    (∀ y, y ≠ x → s'.screen y = s.screen y) ∧
    s' = { s with od := s'.od, log := s'.log, screens := s'.screens, out := s'.out } := by
  by_cases hfail : ok = false ∨ last = none
  · have heq := State.trained_failed htrain hsink hok hfail
    obtain ⟨htries, hfrom, hother, hframe⟩ := s.trainNoted_setLink x k (failed ++ last.toList) 3 0xFFFF
    obtain ⟨hst, hlink⟩ := (s.trainNoted x k (failed ++ last.toList)).setLink_status x 3 0xFFFF
    have hcount : s.counted (s.trained x failed last ok) (0x4910 + x) 0x0A 1 := by
      rw [heq]
      refine (State.counted_bump _ _ _ _ _).congr (Eq.symm (State.rn_of_column ?_ _)) rfl
      rw [State.setLink_column _ _ _ _ (by decide) (by decide), State.trainNoted_column]
    have hscreen : ∀ y, (s.trained x failed last ok).screen y = _ := fun y =>
      (congrArg (State.screen · y) heq).trans (State.screen_of_screens (State.bump_screens _ _ _ _ _) y)
    have hrn : ∀ b, b < 256 → b ≠ 0x0A ∧ b ≠ 0x05 → (s.trained x failed last ok).rn (scrIdx x) b = _ := fun b hb h =>
      (congrArg (State.rn · (scrIdx x) b) heq).trans (State.rn_bump_sub _ _ _ _ _ h (by decide) hb)
    refine ⟨_, rfl, by rw [hscreen, htries], by rw [hscreen, hfrom], fun l hl hup => ?_, fun _ => ⟨?_, ?_, hcount⟩,
      fun y hy => by rw [hscreen, hother y hy], ?_⟩
    · simp [hl, hup] at hfail
    · rw [hrn _ (by decide) (by decide), hst]
    · rw [hrn _ (by decide) (by decide), hlink]
    · exact State.eq_of_sansTrain (by rw [heq, State.sansTrain_of_sansScan (State.bump_sansScan _ _ _ _ _), hframe])
  · obtain ⟨l, hlast⟩ : ∃ l, last = some l := Option.ne_none_iff_exists'.1 fun h => hfail (.inr h)
    have hup : ok = true := by simpa using fun h => hfail (.inl h)
    have heq := State.trained_up htrain hsink hok hlast hup
    obtain ⟨htries, hfrom, hother, hframe⟩ := s.trainNoted_setLink x k (failed ++ last.toList) 2 (l.rate + 256 * l.lanes)
    obtain ⟨hst, hlink⟩ := (s.trainNoted x k (failed ++ last.toList)).setLink_status x 2 (l.rate + 256 * l.lanes)
    generalize (s.trainNoted x k (failed ++ last.toList)).setLink x 2 (l.rate + 256 * l.lanes) = a at *
    have hscreen : ∀ y, (s.trained x failed last ok).screen y = a.screen y := fun y => by
      rw [heq, State.screen_of_screens (State.screens_of_sansCounts (a.colorimetry_sansCounts x))]
    have hrn : ∀ b, b < 256 → b ≠ 0x0C ∧ b ≠ 0x05 → (s.trained x failed last ok).rn (scrIdx x) b = a.rn (scrIdx x) b := fun b hb h => by
      rw [heq, State.rn_of_column (a.colorimetry_column x hb h)]
    refine ⟨_, rfl, by rw [hscreen, htries], by rw [hscreen, hfrom], fun l' hl' _ => ?_, fun h => absurd h hfail,
      fun y hy => by rw [hscreen, hother y hy], ?_⟩
    · obtain rfl : l = l' := Option.some.inj (hlast.symm.trans hl')
      exact ⟨by rw [hrn _ (by decide) (by decide), hst], by rw [hrn _ (by decide) (by decide), hlink]⟩
    · refine State.eq_of_sansTrain ?_
      rw [heq, State.sansTrain_of_sansScan (State.sansScan_of_sansCounts (a.colorimetry_sansCounts x)), hframe]

end Allowed
end Trained

/-! ### Timing applies (R321, R323) -/

theorem findObj_timingApply : ∀ x < 24, (findObj (scrIdx x) 0x13).map (fun o =>
    (o.ty, o.acc, sizeOk o [(1 : Byte)].length, o.chk.ok (.num 1))) = some (.u8, .wo, true, true) := by
  decide +kernel

/-- A timing that passes its checks is to be applied, and the stream stops for it. -/
def State.timingTaken (s : State) (x : Nat) : State :=
  let a := (s.wn (scrIdx x) 0x1F 0).setScreen x { s.screen x with applying := true }
  if s.rn (scrIdx x) 0x14 = 1 ∨ s.rn (scrIdx x) 0x14 = 2 then a.setLink x 1 0xFFFF else a

/-- A request to apply a timing, with its response. -/
def State.timingRequest (s : State) (r : Req) (x : Nat) : State :=
  let p := s.write r (scrIdx x) 0x13 [1] (timingApply x)
  (if p.2 = 7 then p.1.applyResult x (.num 1) else p.1).respond r (scrIdx x) 0x13 p.2 []

theorem execTimingApply_eq (s : State) (t : Nat) (r : Req) (x : Nat) : execTimingApply t r x s = .next ((s.tick t).timingRequest r x) := rfl

section TimingApply
variable {s : State} {x : Nat}

theorem timingApply_refused (h : s.timingCheck x ≠ 0) : timingApply x s (.num 1) = (s, 7) := by
  simp [timingApply, Val.int, h]

theorem timingApply_taken (h : s.timingCheck x = 0) : timingApply x s (.num 1) = (s.timingTaken x, 0) := by
  have hrn : ∀ c, ((s.wn (scrIdx x) 0x1F 0).setScreen x c).rn (scrIdx x) 0x14 = s.rn (scrIdx x) 0x14 := fun c =>
    State.rn_wn_sub _ _ _ _ (by decide) (by decide) (by decide)
  unfold timingApply
  rw [if_neg (by simp [Val.int])]
  dsimp only
  rw [if_neg (by simpa using h)]
  simp only [hrn]
  refine congrArg (·, 0) ?_
  unfold State.timingTaken
  by_cases h2 : s.rn (scrIdx x) 0x14 = 2
  · simp only [h2]
    rfl
  · by_cases h1 : s.rn (scrIdx x) 0x14 = 1
    · simp only [h1]
      rfl
    · simp only [h1, h2]
      rfl

/-- A timing taken. -/
theorem State.timingTaken_takes (s : State) (x : Nat) : ∃ s', s.timingTaken x = s' ∧ s'.rn (scrIdx x) 0x1F = 0 ∧
    s'.screen x = { s.screen x with
      applying := true
      sending := if s.rn (scrIdx x) 0x14 = 1 ∨ s.rn (scrIdx x) 0x14 = 2 then false else (s.screen x).sending } ∧
    (∀ y, y ≠ x → s'.screen y = s.screen y) ∧ (s.rn (scrIdx x) 0x14 = 2 → s'.rn (scrIdx x) 0x14 = 1) ∧ s'.sansScan = s.sansScan := by
  have hcode : ∀ c, ((s.wn (scrIdx x) 0x1F 0).setScreen x c).rn (scrIdx x) 0x1F = 0 := fun c => State.rn_wn_same _ _ _ _
  have hother : ∀ c y, y ≠ x → ((s.wn (scrIdx x) 0x1F 0).setScreen x c).screen y = s.screen y := fun c y hy =>
    State.screen_setScreen_other _ _ hy
  by_cases h : s.rn (scrIdx x) 0x14 = 1 ∨ s.rn (scrIdx x) 0x14 = 2
  · refine ⟨_, if_pos h, ?_, ?_, fun y hy => ?_, fun _ => (State.setLink_status _ _ _ _).1, State.setLink_sansScan _ _ _ _⟩
    · rw [State.rn_of_column (State.setLink_column _ _ _ _ (by decide) (by decide)), hcode]
    · rw [State.setLink_screen_down _ _ _ (by decide), State.screen_setScreen_same, if_pos h]
    · rw [State.setLink_screen_other _ _ _ _ hy, hother _ _ hy]
  · refine ⟨_, if_neg h, hcode _, ?_, hother _, fun h2 => absurd (.inr h2) h, rfl⟩
    rw [State.screen_setScreen_same, if_neg h]

section Requests
variable {r : Req} (ht : s.takes r = true) (hx : x < 24)
include ht hx

/-- Of a requester that may write, the command passes the checks. -/
theorem State.checkWrite_timingApply : ∃ o, s.checkWrite r (scrIdx x) 0x13 [1] = .ok (o, .num 1) :=
  State.checkWrite_of_takes_wo ht (findObj_timingApply x hx) (by decide) (by decide)

/-- A timing that fails a check is refused, with the check's code in 0x4800+s:1F. -/
theorem State.timingRequest_refused (hcheck : s.timingCheck x ≠ 0) :
    ∃ s', s.timingRequest r x = s' ∧
      s'.rn (scrIdx x) 0x1F = s.timingCheck x ∧ s'.out = .resp r (scrIdx x) 0x13 7 [] :: s.out ∧
      s.odSame s' [key (scrIdx x) 0x1F] ∧ s' = { s with od := s'.od, out := s'.out } := by
  obtain ⟨o, hc⟩ := State.checkWrite_timingApply ht hx
  have hwrite : s.write r (scrIdx x) 0x13 [1] (timingApply x) = (s, 7) := by
    unfold State.write
    rw [hc]
    simp [timingApply_refused hcheck]
  have hresult : s.applyResult x (.num 1) = s.wn (scrIdx x) 0x1F (s.timingCheck x) := if_pos (by simp [Val.int, hcheck])
  rw [State.timingRequest, hwrite]
  dsimp only
  rw [if_pos rfl, hresult, State.respond_of_takes ht (State.wn_power _ _ _ _)]
  exact ⟨_, rfl, State.rn_wn_same _ _ _ _, rfl, fun i hi => State.look_wn_other _ _ (by simpa using hi), rfl⟩

/-- A timing that passes every check is answered done, and taken. -/
theorem State.timingRequest_taken (hcheck : s.timingCheck x = 0) :
    ∃ s', s.timingRequest r x = s' ∧
      s'.rn (scrIdx x) 0x1F = 0 ∧
      s'.screen x = { s.screen x with
        applying := true
        sending := if s.rn (scrIdx x) 0x14 = 1 ∨ s.rn (scrIdx x) 0x14 = 2 then false else (s.screen x).sending } ∧
      (∀ y, y ≠ x → s'.screen y = s.screen y) ∧ s'.out = .resp r (scrIdx x) 0x13 0 [] :: s.out ∧
      (s.rn (scrIdx x) 0x14 = 2 → s'.rn (scrIdx x) 0x14 = 1) ∧
      s' = { s with od := s'.od, log := s'.log, screens := s'.screens, out := s'.out, partWrites := s'.partWrites } := by
  obtain ⟨o, hc⟩ := State.checkWrite_timingApply ht hx
  obtain ⟨a, ha, hcode, hrow, hother, hst, hscan⟩ := s.timingTaken_takes x
  have hwrite : s.write r (scrIdx x) 0x13 [1] (timingApply x) = (a.abandonParts r (scrIdx x) 0x13, 0) := by
    unfold State.write
    rw [hc]
    simp [timingApply_taken hcheck, ha]
  have hpower : (a.abandonParts r (scrIdx x) 0x13).power = s.power := (State.power_of_sansScan hscan :)
  have hout : (a.abandonParts r (scrIdx x) 0x13).out = s.out := (State.out_of_sansScan hscan :)
  rw [State.timingRequest, hwrite]
  dsimp only
  rw [if_neg (by decide), State.respond_of_takes ht hpower]
  refine ⟨_, rfl, hcode, hrow, hother, congrArg (_ :: ·) hout, hst, ?_⟩
  rw [State.eq_of_sansScan hscan]
  rfl

end Requests
end TimingApply

/-! ### Test patterns (R464) -/

theorem findObj_dpPrbs : ∀ x < 24, findObj (0x6440 + x) 0x0B =
    some ⟨0x6440, 24, 0x0B, 0x0B, .u8, .rw, false, false, false, .num 0, .rng 0 4⟩ := by
  decide +kernel

section Prbs
variable {s : State} {r : Req} {x code : Nat} (ht : s.takes r = true) (hx : x < 24) (hcode : code ≤ 4)
include ht hx hcode

/-- An output that is disabled takes the pattern. -/
theorem State.dpPrbs_taken (hoff : s.fn (scrIdx x) 0x01 = 0) :
    ∃ s', s.request r (0x6440 + x) 0x0B (leBytes 1 code) (dpPrbs x) = s' ∧ s'.rn (0x6440 + x) 0x0B = code ∧
      s'.out = .resp r (0x6440 + x) 0x0B 0 [] :: s.out ∧ s.odSame s' [key (0x6440 + x) 0x0B] ∧
      s' = { s with od := s'.od, out := s'.out, partWrites := s'.partWrites } := by
  obtain ⟨o, hc⟩ := State.checkWrite_of_takes_u8 ht (findObj_dpPrbs x hx) hcode (by omega)
  have heff : dpPrbs x s (.num code) = (s.wn (0x6440 + x) 0x0B code, 0) := if_neg (fun hon => hon hoff)
  exact ⟨_, State.request_accepted ht hc heff rfl, State.rn_wn_same s _ _ _, rfl,
    fun i hi => s.look_wn_other _ (by simpa using hi), rfl⟩

/-- An output that is enabled refuses it. -/
theorem State.dpPrbs_refused (hon : s.fn (scrIdx x) 0x01 ≠ 0) :
    s.request r (0x6440 + x) 0x0B (leBytes 1 code) (dpPrbs x) = { s with out := .resp r (0x6440 + x) 0x0B 7 [] :: s.out } := by
  obtain ⟨o, hc⟩ := State.checkWrite_of_takes_u8 ht (findObj_dpPrbs x hx) hcode (by omega)
  exact State.request_declined ht hc (if_pos hon) (by decide)

end Prbs
end Sys2Proof.Machine
end

section
/-! SUPPORT. The statement about timing applies, DisplayPort links, sinks and test patterns: the timing that runs (R317, R323), and the
statement itself. -/

namespace Sys2Proof.Machine

/-! ### A timing taken runs (R317, R323) -/

/-- A state without what a timing that runs changes. -/
def State.sansApply (s : State) : State := { s.sansScan with force := [], encs := [], out := [] }

theorem State.eq_of_sansApply {a b : State} (h : a.sansApply = b.sansApply) :
    a = { b with od := a.od, force := a.force, log := a.log, screens := a.screens, encs := a.encs, out := a.out } :=
  congrArg (fun s : State =>
    { s with od := a.od, force := a.force, log := a.log, screens := a.screens, encs := a.encs, out := a.out }) h

theorem State.sansApply_of_sansScan {a b : State} (h : a.sansScan = b.sansScan) : a.sansApply = b.sansApply :=
  congrArg (fun s : State => { s with force := [], encs := [], out := [] }) h

/-! Encode contexts that stop -/

section Encode
variable (s : State)

theorem State.say_column (o : Out) (b : Nat) : (s.say o).column b = s.column b := State.column_of_od (s.say_od o) b

theorem State.refreshEncode_column {b : Nat} (hb : b < 256) (h : 4 < b) : s.refreshEncode.column b = s.column b := by
  unfold State.refreshEncode
  dsimp only
  rw [State.wn_column _ hb _ _ (by omega) (by decide), State.wn_column _ hb _ _ (by omega) (by decide),
    State.wn_column _ hb _ _ (by omega) (by decide), State.wn_column _ hb _ _ (by omega) (by decide)]

theorem State.enterEnc_column (e st reason : Nat) {b : Nat} (hb : b < 256) (h : 4 < b) :
    (s.enterEnc e st reason).column b = s.column b := by
  rw [State.enterEnc, State.wn_column _ hb _ _ (by omega) (by decide), State.wn_column _ hb _ _ (by omega) (by decide)]

theorem State.encStopWith_column (e reason : Nat) {b : Nat} (hb : b < 256) (h : 4 < b ∧ b ≠ 0x1E ∧ b ≠ 0x1F) :
    (s.encStopWith e reason).column b = s.column b := by
  obtain ⟨h4, h1E, h1F⟩ := h
  unfold State.encStopWith
  dsimp only
  rw [State.refreshEncode_column _ hb h4, State.wn_column _ hb _ _ h1F (by decide), State.wn_column _ hb _ _ h1E (by decide)]
  exact (State.say_column _ _ b).trans (s.enterEnc_column e _ _ hb h4)

theorem State.encRecheck_column (touched : Nat → Bool) {b : Nat} (hb : b < 256) (h : 4 < b ∧ b ≠ 0x1E ∧ b ≠ 0x1F) :
    (s.encRecheck touched).column b = s.column b := by
  refine foldl_leaves (·.column b) _ (fun s e => ?_) s _
  split_ifs <;> simp only [State.encStopWith_column _ _ _ hb h]

theorem State.wn_sansApply (idx sub v : Nat) : (s.wn idx sub v).sansApply = s.sansApply := rfl

theorem State.refreshEncode_sansApply : s.refreshEncode.sansApply = s.sansApply := rfl

theorem State.say_sansApply (o : Out) : (s.say o).sansApply = s.sansApply := by
  rw [s.say_frame]
  rfl

theorem State.setEnc_sansApply (e : Nat) (g : EncS) : (s.setEnc e g).sansApply = s.sansApply := rfl

theorem State.enterEnc_sansApply (e st reason : Nat) : (s.enterEnc e st reason).sansApply = s.sansApply := rfl

theorem State.encStopWith_sansApply (e reason : Nat) : (s.encStopWith e reason).sansApply = s.sansApply := by
  unfold State.encStopWith
  dsimp only
  rw [State.refreshEncode_sansApply, State.wn_sansApply, State.wn_sansApply, State.setEnc_sansApply, State.say_sansApply,
    State.enterEnc_sansApply]

theorem State.encRecheck_sansApply (touched : Nat → Bool) : (s.encRecheck touched).sansApply = s.sansApply := by
  refine foldl_leaves State.sansApply _ (fun s e => ?_) s _
  split_ifs <;> simp only [State.encStopWith_sansApply]

theorem State.force_of_steady {a b : State} (h : a.steady = b.steady) : a.force = b.force := (congrArg Steady.force h :)

theorem State.encRecheck_force (touched : Nat → Bool) : (s.encRecheck touched).force = s.force :=
  State.force_of_steady (s.encRecheck_steady touched)

end Encode

/-! Screens that start again -/

section Restart
variable (s : State) (x : Nat)

theorem State.wn_screen (idx sub v y : Nat) : (s.wn idx sub v).screen y = s.screen y := rfl

theorem State.idleStatus_down : s.idleStatus x ≠ 2 := by
  unfold State.idleStatus
  split_ifs <;> decide

theorem State.restartScreen_sansScan : (s.restartScreen x).sansScan = s.sansScan :=
  State.setLink_sansScan _ _ _ _

/-- The row of a screen that starts again. -/
theorem State.restartScreen_screen : ((s.restartScreen x).screen x).applying = false ∧ ((s.restartScreen x).screen x).run = true ∧
    ((s.restartScreen x).screen x).service = true ∧ ((s.restartScreen x).screen x).start = s.nowAt (x / 12) ∧
    ((s.restartScreen x).screen x).ledger = [] := by
  unfold State.restartScreen
  dsimp only
  rw [State.setLink_screen_down _ _ _ (State.idleStatus_down _ _), State.wn_screen, State.wn_screen, State.screen_setScreen_same]
  exact ⟨rfl, rfl, rfl, rfl, rfl⟩

theorem State.restartScreen_number : (s.restartScreen x).rn (scrIdx x) 0x16 = 0 := by
  unfold State.restartScreen
  dsimp only
  rw [State.rn_of_column (State.setLink_column _ _ _ _ (by decide) (by decide)),
    State.rn_wn_sub _ _ _ _ (by decide) (by decide) (by decide),
    State.rn_wn_same]

variable {x} {o : Nat} (h : o ≠ x)
include h

theorem State.restartScreen_screen_other : (s.restartScreen o).screen x = s.screen x := by
  unfold State.restartScreen
  dsimp only
  rw [State.setLink_screen_other _ _ _ _ h.symm, State.wn_screen, State.wn_screen, State.screen_setScreen_other _ _ h.symm]

theorem State.restartScreen_number_other : (s.restartScreen o).rn (scrIdx x) 0x16 = s.rn (scrIdx x) 0x16 := by
  unfold State.restartScreen
  dsimp only
  rw [State.rn_of_column (State.setLink_column _ _ _ _ (by decide) (by decide)),
    State.rn_wn_sub _ _ _ _ (by decide) (by decide) (by decide)]
  have hkey : key (scrIdx x) 0x16 ≠ key (scrIdx o) 0x16 := by
    simp only [key, scrIdx]
    omega
  exact State.rn_wn_other _ 0 hkey

end Restart

/-- A member of a gang stops. -/
def State.memberStop (s : State) (o : Nat) : State :=
  (s.setScreen o { s.screen o with run := false, service := true }).setLink o 5 0xFFFF

/-- What a timing that runs does to the gang of a screen: the members of one that begins stop, of one that ends start again. -/
def State.gangFollows (s : State) (x : Nat) (was now : Bool) : State :=
  if now && !was then [x + 1, x + 2, x + 3].foldl State.memberStop s
  else if was && !now then [x + 1, x + 2, x + 3].foldl State.restartScreen s
  else s

section Gang
variable (s : State) (x : Nat) (was now : Bool)

/-- What no change of another screen touches, a gang leaves alone. -/
theorem State.gangFollows_leaves {β : Type} (m : State → β) (hstop : ∀ s o, o ≠ x → m (s.memberStop o) = m s)
    (hstart : ∀ s o, o ≠ x → m (s.restartScreen o) = m s) : m (s.gangFollows x was now) = m s := by
  have hne : ∀ o ∈ [x + 1, x + 2, x + 3], o ≠ x := by
    intro o ho
    simp only [List.mem_cons, List.not_mem_nil, or_false] at ho
    omega
  unfold State.gangFollows
  split
  · exact foldl_leaves_mem m (fun s o ho => hstop s o (hne o ho)) s
  · split
    · exact foldl_leaves_mem m (fun s o ho => hstart s o (hne o ho)) s
    · rfl

theorem State.gangFollows_sansScan : (s.gangFollows x was now).sansScan = s.sansScan :=
  s.gangFollows_leaves x was now State.sansScan (fun _ _ _ => State.setLink_sansScan _ _ _ _) (fun s o _ => s.restartScreen_sansScan o)

theorem State.gangFollows_screen : (s.gangFollows x was now).screen x = s.screen x :=
  s.gangFollows_leaves x was now (·.screen x)
    (fun _ _ ho => (State.setLink_screen_other _ _ _ _ ho.symm).trans (State.screen_setScreen_other _ _ ho.symm))
    (fun s _ ho => s.restartScreen_screen_other ho)

theorem State.gangFollows_number : (s.gangFollows x was now).rn (scrIdx x) 0x16 = s.rn (scrIdx x) 0x16 :=
  s.gangFollows_leaves x was now (·.rn (scrIdx x) 0x16)
    (fun _ _ _ => State.rn_of_column (State.setLink_column _ _ _ _ (by decide) (by decide)) _)
    (fun s _ ho => s.restartScreen_number_other ho)

end Gang

section Running
variable (s : State) (x : Nat)

/-- The timing in force, the screen started again with it, and its gang following. -/
def State.timingRuns : State :=
  let a := (s.toneForce (scrIdx x) timingSubs).restartScreen x
  a.gangFollows x (s.fn (scrIdx x) 0x02 = 1) (a.fn (scrIdx x) 0x02 = 1)

theorem State.applyRunning_eq (h : (s.screen x).applying = true) :
    s.applyRunning x = (s.timingRuns x).encRecheck (fun e => (s.timingRuns x).encScreen e = x) :=
  if_neg (by simp [h])

/-- A timing that is not to be applied does not run. -/
theorem State.applyRunning_idle (h : (s.screen x).applying = false) : s.applyRunning x = s := if_pos (by simp [h])

/-- A timing that is to be applied runs. -/
theorem State.applyRunning_runs (h : (s.screen x).applying = true) : ∃ s', s.applyRunning x = s' ∧
    (∀ k ∈ timingSubs, s'.fval (scrIdx x) k = s.val (scrIdx x) k) ∧ (s'.screen x).applying = false ∧ (s'.screen x).run = true ∧
    (s'.screen x).service = true ∧ (s'.screen x).start = s.nowAt (x / 12) ∧ (s'.screen x).ledger = [] ∧ s'.rn (scrIdx x) 0x16 = 0 ∧
    s' = { s with od := s'.od, force := s'.force, log := s'.log, screens := s'.screens, encs := s'.encs, out := s'.out } := by
  obtain ⟨f, hf⟩ := s.toneForce_frame (scrIdx x) timingSubs
  have hfval := fun k => s.toneForce_fval (scrIdx x) k timingSubs
  have hscan : (s.timingRuns x).sansScan = ({ s with force := f } : State).sansScan :=
    (State.gangFollows_sansScan _ _ _ _).trans ((State.restartScreen_sansScan _ _).trans (by rw [hf]))
  have hscreen : (s.applyRunning x).screen x = ((s.toneForce (scrIdx x) timingSubs).restartScreen x).screen x := by
    rw [s.applyRunning_eq x h, State.screen_of_screens (State.encRecheck_screens _ _)]
    exact State.gangFollows_screen _ _ _ _
  have hnumber : (s.applyRunning x).rn (scrIdx x) 0x16 = 0 := by
    rw [s.applyRunning_eq x h, State.rn_of_column (State.encRecheck_column _ _ (by decide) (by decide))]
    exact (State.gangFollows_number _ _ _ _).trans (State.restartScreen_number _ _)
  have hforce : (s.applyRunning x).force = (s.toneForce (scrIdx x) timingSubs).force := by
    rw [s.applyRunning_eq x h, State.encRecheck_force, State.force_of_sansScan hscan, hf]
  obtain ⟨happlying, hrun, hservice, hstart, hledger⟩ := (s.toneForce (scrIdx x) timingSubs).restartScreen_screen x
  rw [← hscreen] at happlying hrun hservice hstart hledger
  refine ⟨_, rfl, fun k hk => ?_, happlying, hrun, hservice, hstart.trans (by rw [hf]; rfl), hledger, hnumber, State.eq_of_sansApply ?_⟩
  · have hsame : (s.applyRunning x).fval (scrIdx x) k = (s.toneForce (scrIdx x) timingSubs).fval (scrIdx x) k := by
      simp only [State.fval, hforce]
    rw [hsame, hfval, if_pos hk]
  · rw [s.applyRunning_eq x h, State.encRecheck_sansApply, State.sansApply_of_sansScan hscan]
    rfl

end Running

/-! ### The statement -/

/-- Settles O34, command by command: what each does to the state at its tick. -/
theorem timingsAndLinks : Obligations.TimingsAndLinks := by
  unfold Obligations.TimingsAndLinks
  intro s t x hx u c
  have hnext {a b : State} : a = b → (Host.Outcome.next a : Host.Outcome State Fault Refusal) = .next b := congrArg _
  refine ⟨fun r ht => ⟨fun hcheck => ?_, fun hcheck => ?_, fun code hcode => ⟨fun hoff => ?_, fun hon => ?_⟩⟩, fun happlying => ?_,
    fun hidle => ?_, fun k failed last ok htrain hsink hok => ?_, fun failed last ok h => ?_, fun hmember k => ?_,
    fun hmember hhpd => ⟨fun lane align status halign hstatus => ?_, ?_⟩, fun h => ⟨fun lane align => ?_, ?_⟩⟩
  case refine_1 =>
    obtain ⟨s', hs', hrest⟩ := State.timingRequest_refused ht hx hcheck
    exact ⟨s', hnext hs', hrest⟩
  case refine_2 =>
    obtain ⟨s', hs', hrest⟩ := State.timingRequest_taken ht hx hcheck
    exact ⟨s', hnext hs', hrest⟩
  case refine_3 =>
    obtain ⟨s', hs', hrest⟩ := State.dpPrbs_taken ht hx hcode hoff
    exact ⟨s', hnext hs', hrest⟩
  case refine_4 => exact hnext (State.dpPrbs_refused ht hx hcode hon)
  case refine_5 =>
    obtain ⟨s', hs', hrest⟩ := u.applyRunning_runs x happlying
    exact ⟨s', hnext hs', hrest⟩
  case refine_6 => exact hnext (u.applyRunning_idle x hidle)
  case refine_7 =>
    obtain ⟨s', hs', hrest⟩ := State.trained_trains htrain hsink hok
    exact ⟨s', hnext hs', hrest⟩
  case refine_8 => exact hnext (State.trained_ignored h)
  case refine_9 =>
    obtain ⟨s', hs', hrest⟩ := u.hpdRise_comes x k hmember hx
    exact ⟨s', hnext hs', hrest⟩
  case refine_10 =>
    obtain ⟨s', hs', hrest⟩ := State.hpdIrq_interrupts (status := status) hmember hhpd (by omega)
    exact ⟨s', hnext (by rw [← hs', hstatus]), hrest⟩
  case refine_11 =>
    obtain ⟨s', hs', hrest⟩ := State.hpdUnplug_goes hmember hhpd
    exact ⟨s', hnext hs', hrest⟩
  case refine_12 => exact hnext (if_pos (by simpa using h))
  case refine_13 => exact hnext (if_pos (by simpa using h))

end Sys2Proof.Machine
end

section
/-! SUPPORT. The statement about frames and strips: a strip composed, written or dropped (R307 to R309, R318), and what encode contexts and
the end of a composition leave alone. -/

namespace Sys2Proof.Machine

/-! ### Encode contexts at a strip -/

/-- A state without its encode contexts. -/
def State.sansEncs (s : State) : State := { s with encs := [] }

section Encs
variable {a b : State} (h : a.sansEncs = b.sansEncs)
include h

theorem State.eq_of_sansEncs : a = { b with encs := a.encs } := congrArg (fun s : State => { s with encs := a.encs }) h
theorem State.screens_of_sansEncs : a.screens = b.screens := (congrArg State.screens h :)
theorem State.od_of_sansEncs : a.od = b.od := (congrArg State.od h :)
theorem State.va_of_sansEncs (x : Nat) : a.va x = b.va x := (congrArg (State.va · x) h :)
theorem State.strips_of_sansEncs (x : Nat) : a.strips x = b.strips x := (congrArg (State.strips · x) h :)

end Encs

section EncStrip
variable (s : State) (x k : Nat)

@[simp] theorem State.setEnc_sansEncs (e : Nat) (g : EncS) : (s.setEnc e g).sansEncs = s.sansEncs := rfl

/-- The entry about to be replaced counts for the pictures being coded alone. -/
theorem State.encStrip_sansEncs (frame : Nat) : (s.encStrip x k frame).sansEncs = s.sansEncs := by
  unfold State.encStrip
  split
  · rfl
  · refine foldl_leaves State.sansEncs _ (fun s e => ?_) s _
    dsimp only
    split
    · split <;> rfl
    · rfl

/-- The lines that a strip leaves for layer sources are the contexts' alone. -/
theorem State.encLayerStrip_sansEncs (p : Plan) (px : PlanL → Nat → Nat → Option Px) :
    (s.encLayerStrip x k p px).sansEncs = s.sansEncs := by
  refine foldl_leaves State.sansEncs _ (fun s e => ?_) s _
  split <;> rfl

end EncStrip

/-! ### The end of a composition (R43, R307, R308) -/

/-- A state without what the end of a composition changes. -/
def State.sansComposed (s : State) : State := { s.sansJudged with screens := [] }

theorem State.eq_of_sansComposed {a b : State} (h : a.sansComposed = b.sansComposed) :
    a = { b with od := a.od, log := a.log, tally := a.tally, layers := a.layers, screens := a.screens } :=
  congrArg (fun s : State => { s with od := a.od, log := a.log, tally := a.tally, layers := a.layers, screens := a.screens }) h

theorem State.sansComposed_of_sansJudged {a b : State} (h : a.sansJudged = b.sansJudged) : a.sansComposed = b.sansComposed :=
  congrArg State.sansScreens h

@[simp] theorem State.setScreen_sansComposed (s : State) (x : Nat) (c : ScreenS) : (s.setScreen x c).sansComposed = s.sansComposed := rfl

/-- The row of a screen after the end of a composition. -/
def State.endedRow (s : State) (x : Nat) (p : Plan) : ScreenS :=
  let c := s.screen x
  if s.composed x then
    { c with done := some (p.frame, c.written), plan := c.next, next := none, composing := none, written := [], dropped := [] }
  else c

section EndCompose
variable (s : State) (x : Nat)

theorem State.clearFirst_sansJudged (written : List Nat) (l : PlanL) : (s.clearFirst written l).sansJudged = s.sansJudged := by
  unfold State.clearFirst
  dsimp only
  split_ifs <;> simp

variable {p : Plan} (hplan : (s.screen x).plan = some p)
include hplan

/-- The composition's end is the row's, but for what judging changes. -/
theorem State.endCompose_cases : s.composed x = true ∧ (s.endCompose x).sansJudged = (s.setScreen x (s.endedRow x p)).sansJudged ∨
    s.composed x = false ∧ s.endCompose x = s := by
  unfold State.endCompose
  simp only [hplan]
  by_cases hc : s.composed x = true
  · refine .inl ⟨hc, ?_⟩
    rw [if_pos hc, State.endedRow, if_pos hc]
    exact foldl_leaves State.sansJudged _ (fun _ _ => State.clearFirst_sansJudged _ _ _) _ _
  · exact .inr ⟨by simpa using hc, if_neg hc⟩

theorem State.endCompose_screen : (s.endCompose x).screen x = s.endedRow x p := by
  rcases s.endCompose_cases x hplan with ⟨-, h⟩ | ⟨hc, h⟩
  · rw [State.screen_of_screens (State.screens_of_sansJudged h), State.screen_setScreen_same]
  · rw [h, State.endedRow, if_neg (by simp [hc])]

theorem State.endCompose_screen_other {y : Nat} (hy : y ≠ x) : (s.endCompose x).screen y = s.screen y := by
  rcases s.endCompose_cases x hplan with ⟨-, h⟩ | ⟨-, h⟩
  · rw [State.screen_of_screens (State.screens_of_sansJudged h), State.screen_setScreen_other _ _ hy]
  · rw [h]

theorem State.endCompose_sansComposed : (s.endCompose x).sansComposed = s.sansComposed := by
  rcases s.endCompose_cases x hplan with ⟨-, h⟩ | ⟨-, h⟩
  · rw [State.sansComposed_of_sansJudged h, State.setScreen_sansComposed]
  · rw [h]

end EndCompose

/-- What a composition that ends at a row leaves of it: nothing more than its strips and its plans. -/
theorem State.endCompose_row (s : State) (x : Nat) (row : ScreenS) {p : Plan} (hplan : row.plan = some p) :
    ∃ s', (s.setScreen x row).endCompose x = s' ∧
      (if (List.range (s.strips x)).all (fun j => row.written.contains j || row.dropped.contains j)
        then (s'.screen x).done = some (p.frame, row.written) ∧ (s'.screen x).plan = row.next ∧ (s'.screen x).composing = none
        else s'.screen x = row) ∧
      (s'.screen x).buffer = row.buffer ∧ (s'.screen x).ledger = row.ledger ∧ (∀ y, y ≠ x → s'.screen y = s.screen y) ∧
      s'.sansComposed = s.sansComposed := by
  have hrow : (s.setScreen x row).screen x = row := State.screen_setScreen_same _ _ _
  have hplan' : ((s.setScreen x row).screen x).plan = some p := by rw [hrow, hplan]
  have hcomposed : (s.setScreen x row).composed x =
      (List.range (s.strips x)).all (fun j => row.written.contains j || row.dropped.contains j) := by
    simp only [State.composed, hrow]
    rfl
  refine ⟨_, rfl, ?_, ?_, ?_, fun y hy => ?_, State.endCompose_sansComposed _ x hplan'⟩
  · rw [State.endCompose_screen _ x hplan', State.endedRow, hcomposed, hrow]
    by_cases hall : (List.range (s.strips x)).all (fun j => row.written.contains j || row.dropped.contains j) = true
    · rw [if_pos hall, if_pos hall]
      exact ⟨rfl, rfl, rfl⟩
    · rw [if_neg hall, if_neg hall]
  · rw [State.endCompose_screen _ x hplan', State.endedRow, hrow]
    split <;> rfl
  · rw [State.endCompose_screen _ x hplan', State.endedRow, hrow]
    split <;> rfl
  · rw [State.endCompose_screen_other _ x hplan' hy, State.screen_setScreen_other _ _ hy]

/-! ### A strip begun (R307) -/

section Start
variable {s : State} {x k : Nat}

/-- A strip that may be composed is begun. -/
theorem State.stripStart_begins {p : Plan} (hplan : (s.screen x).plan = some p) (hrun : (s.screen x).run = true)
    (hidle : (s.screen x).composing = none) (hnext : s.nextStrip x = some k) (hscan : s.scanning x p.frame = false)
    (hbefore : s.scanning x (wrapDec 32 p.frame) = true)
    (hread : (s.screen x).start + s.linesNs x (s.stripEnd x k) ≤ s.nowAt (x / 12))
    (hserves : s.serves (compKey (s.stripOutput x k)) = true) (hcmp : s.restarting (x / 12) .cmp = false)
    (hpipes : s.pipesServe p k = true) : s.stripStart x k = s.setScreen x { s.screen x with composing := some k } := by
  simp only [State.stripStart, hplan]
  exact if_pos (by simp [hrun, hidle, hnext, hscan, hbefore, hread, hserves, hcmp, hpipes])

/-- A strip that is not next is not begun. -/
theorem State.stripStart_notNext (h : s.nextStrip x ≠ some k) : s.stripStart x k = s := by
  unfold State.stripStart
  dsimp only
  cases (s.screen x).plan with
  | none => rfl
  | some p => exact if_neg (by simp [h])

end Start

/-! ### A strip written (R308, R309, R318) -/

/-- The row of a screen with a strip written; `a` is the state whose timing in force and pixels are taken. -/
def State.writtenRow (s a : State) (x k : Nat) (p : Plan) : ScreenS :=
  let sc := s.screen x
  let ha := s.ha x
  let fmt := s.fn (scrIdx x) 0x03
  let now := a.scanning x p.frame
  let old := sc.ledger.at' k {}
  let at0 := 16 * k * ha * bytesPerPixel fmt
  { sc with
    composing := none, written := k :: sc.written, fresh := k :: sc.fresh.filter (· ≠ k),
    scanWritten := if now then k :: sc.scanWritten else sc.scanWritten,
    band := sc.band && !(now && sc.bandNew), bandNew := sc.bandNew && !now,
    sig := if now then p.sig else sc.sig, sigNext := if now then sc.sigNext else some p.sig,
    snoop := if !now && old.segs.any (·.stitch) then
        sc.snoop.put k (old, cellsRead sc.buffer at0 ((a.stripEnd x k - 16 * k) * ha * bytesPerPixel fmt))
      else sc.snoop,
    ledger := sc.ledger.put k (p.entry (ceilDiv ha 16) k),
    buffer := cellsWrite sc.buffer at0 (p.stripBytes fmt ha (a.va x) k (s.contentAt p)) }

section Write
variable {s : State} {x k : Nat} {p : Plan}

/-- A strip under way that is in time is written. -/
theorem State.stripWrite_eq (hplan : (s.screen x).plan = some p) (hwait : (s.screen x).composing = some k)
    (hscan : s.scanning x p.frame = false) : s.stripWrite x (s.stripOutput x k) k =
      let a := (s.encStrip x k p.frame).encLayerStrip x k p (s.contentAt p)
      (a.setScreen x (s.writtenRow a x k p)).endCompose x := by
  unfold State.stripWrite
  dsimp only
  split
  next hnone => simp [hplan] at hnone
  next q hq =>
    obtain rfl : p = q := Option.some.inj (hplan.symm.trans hq)
    exact if_neg (by simp [hwait, hscan])

/-- A strip written. -/
theorem State.stripWrite_writes (hplan : (s.screen x).plan = some p) (hwait : (s.screen x).composing = some k)
    (hscan : s.scanning x p.frame = false) : ∃ s', s.stripWrite x (s.stripOutput x k) k = s' ∧ (s'.screen x).composing = none ∧
      (s'.screen x).ledger.at' k {} = p.entry (ceilDiv (s.ha x) 16) k ∧
      (s'.screen x).buffer = cellsWrite (s.screen x).buffer (16 * k * s.ha x * bytesPerPixel (s.fn (scrIdx x) 0x03))
        (p.stripBytes (s.fn (scrIdx x) 0x03) (s.ha x) (s.va x) k (s.contentAt p)) ∧
      (if (List.range (s.strips x)).all (fun j => (k :: (s.screen x).written).contains j || (s.screen x).dropped.contains j)
        then (s'.screen x).done = some (p.frame, k :: (s.screen x).written) ∧ (s'.screen x).plan = (s.screen x).next
        else (s'.screen x).written = k :: (s.screen x).written ∧ (s'.screen x).plan = (s.screen x).plan) ∧
      (∀ y, y ≠ x → s'.screen y = s.screen y) ∧
      s' = { s with od := s'.od, log := s'.log, tally := s'.tally, layers := s'.layers, screens := s'.screens, encs := s'.encs } := by
  have henc : ((s.encStrip x k p.frame).encLayerStrip x k p (s.contentAt p)).sansEncs = s.sansEncs :=
    (State.encLayerStrip_sansEncs _ _ _ _ _).trans (State.encStrip_sansEncs _ _ _ _)
  have heq := State.stripWrite_eq hplan hwait hscan
  dsimp only at heq
  generalize (s.encStrip x k p.frame).encLayerStrip x k p (s.contentAt p) = a at *
  obtain ⟨s', hs', hrow, hbuffer, hledger, hother, hframe⟩ := a.endCompose_row x (s.writtenRow a x k p) hplan
  rw [State.strips_of_sansEncs henc] at hrow
  refine ⟨s', heq.trans hs', ?_, ?_, ?_, ?_, fun y hy => ?_, ?_⟩
  · split_ifs at hrow with hall
    · obtain ⟨-, -, hcomposing⟩ := hrow
      exact hcomposing
    · rw [hrow]
      rfl
  · rw [hledger]
    exact Tab.at'_put_same _ _ _ _
  · rw [hbuffer, ← State.va_of_sansEncs henc]
    rfl
  · split_ifs at hrow ⊢ with hall hall' hall'
    · obtain ⟨hdone, hnext, -⟩ := hrow
      exact ⟨hdone, hnext⟩
    · exact absurd hall hall'
    · exact absurd hall' hall
    · rw [hrow]
      exact ⟨rfl, rfl⟩
  · rw [hother y hy, State.screen_of_screens (State.screens_of_sansEncs henc)]
  · rw [State.eq_of_sansEncs henc] at hframe
    exact congrArg (fun e : State => { e with
      od := s'.od, log := s'.log, tally := s'.tally, layers := s'.layers, screens := s'.screens, encs := s'.encs }) hframe

/-- A strip that is not under way, or is another compositor's, is not written. -/
theorem State.stripWrite_notUnderWay {y : Nat} (h : (s.screen x).composing ≠ some k ∨ y ≠ s.stripOutput x k) :
    s.stripWrite x y k = s := by
  unfold State.stripWrite
  dsimp only
  cases (s.screen x).plan with
  | none => rfl
  | some p =>
    refine if_pos ?_
    rcases h with h | h <;> simp [h]

/-- Past its deadline a strip is not written. -/
theorem State.stripWrite_late (hplan : (s.screen x).plan = some p) (hscan : s.scanning x p.frame = true)
    (hlate : s.pastDeadline x k = true) (y : Nat) : s.stripWrite x y k = s := by
  simp only [State.stripWrite, hplan]
  exact if_pos (by simp [hscan, hlate])

/-! ### A strip dropped (R308) -/

/-- A strip not written by its deadline is dropped. -/
theorem State.stripDrop_drops (hplan : (s.screen x).plan = some p) (hscan : s.scanning x p.frame = true)
    (hlate : s.pastDeadline x k = true) (hnext : s.nextStrip x = some k) : ∃ s', s.stripDrop x k = s' ∧
      (if (List.range (s.strips x)).all (fun j => (s.screen x).written.contains j || (k :: (s.screen x).dropped).contains j)
        then (s'.screen x).done = some (p.frame, (s.screen x).written) ∧ (s'.screen x).plan = (s.screen x).next
        else (s'.screen x).dropped = k :: (s.screen x).dropped ∧ (s'.screen x).plan = (s.screen x).plan) ∧
      (s'.screen x).buffer = (s.screen x).buffer ∧ (s'.screen x).ledger = (s.screen x).ledger ∧
      (∀ y, y ≠ x → s'.screen y = s.screen y) ∧
      s' = { s with od := s'.od, log := s'.log, tally := s'.tally, layers := s'.layers, screens := s'.screens } := by
  let row : ScreenS := { s.screen x with
    composing := if (s.screen x).composing = some k then none else (s.screen x).composing, dropped := k :: (s.screen x).dropped }
  have heq : s.stripDrop x k = (s.setScreen x row).endCompose x := by
    unfold State.stripDrop
    dsimp only
    split
    next hnone => simp [hplan] at hnone
    next q hq =>
      obtain rfl : p = q := Option.some.inj (hplan.symm.trans hq)
      exact if_pos (by simp [hscan, hlate, hnext])
  obtain ⟨s', hs', hrow, hbuffer, hledger, hother, hframe⟩ := s.endCompose_row x row hplan
  refine ⟨s', heq.trans hs', ?_, hbuffer, hledger, hother, State.eq_of_sansComposed hframe⟩
  split_ifs at hrow ⊢
  · obtain ⟨hdone, hplan', -⟩ := hrow
    exact ⟨hdone, hplan'⟩
  · rw [hrow]
    exact ⟨rfl, rfl⟩

/-- No strip of a frame that is not being scanned is dropped. -/
theorem State.stripDrop_early (hplan : (s.screen x).plan = some p) (hscan : s.scanning x p.frame = false) : s.stripDrop x k = s := by
  simp only [State.stripDrop, hplan]
  exact if_neg (by simp [hscan])

end Write

end Sys2Proof.Machine
end

section
/-! SUPPORT. The statement about frames and strips: a frame that starts (R302 to R305, R312, R331). -/

namespace Sys2Proof.Machine

/-! ### What a frame that starts leaves alone -/

/-- A state without what a frame that starts changes. -/
def State.sansFrame (s : State) : State := { s.sansScan with layers := [], encs := [], upd := {} }

theorem State.eq_of_sansFrame {a b : State} (h : a.sansFrame = b.sansFrame) :
    a = { b with od := a.od, log := a.log, layers := a.layers, screens := a.screens, encs := a.encs, upd := a.upd } :=
  congrArg (fun s : State =>
    { s with od := a.od, log := a.log, layers := a.layers, screens := a.screens, encs := a.encs, upd := a.upd }) h

theorem State.sansFrame_of_sansScan {a b : State} (h : a.sansScan = b.sansScan) : a.sansFrame = b.sansFrame :=
  congrArg (fun s : State => { s with layers := [], encs := [], upd := {} }) h

theorem State.sansFrame_of_sansEncs {a b : State} (h : a.sansEncs = b.sansEncs) : a.sansFrame = b.sansFrame :=
  congrArg (fun s : State => { s.sansScan with layers := [], upd := {} }) h

section Congr
variable {a b : State} (h : a.sansFrame = b.sansFrame) (x : Nat)
include h

theorem State.linesNs_of_sansFrame (n : Nat) : a.linesNs x n = b.linesNs x n :=
  (congrArg (fun s : State => s.linesNs x n) h :)

theorem State.strips_of_sansFrame : a.strips x = b.strips x := (congrArg (fun s : State => s.strips x) h :)

/-- The lines of a frame are a matter of its start and of whether the sink fixes the timing. -/
theorem State.frameLines_of_sansFrame (hstart : (a.screen x).start = (b.screen x).start)
    (hfixed : (a.screen x).fixed = (b.screen x).fixed) : a.frameLines x = b.frameLines x := by
  have hmin : a.vmin x = b.vmin x := (congrArg (fun s : State => s.vmin x) h :)
  have hfn : ∀ sub, a.fn (scrIdx x) sub = b.fn (scrIdx x) sub := fun sub => (congrArg (fun s : State => s.fn (scrIdx x) sub) h :)
  have htotal : a.htotal x = b.htotal x := (congrArg (fun s : State => s.htotal x) h :)
  have hnow : a.nowAt (x / 12) = b.nowAt (x / 12) := (congrArg (fun s : State => s.nowAt (x / 12)) h :)
  simp only [State.frameLines, State.vmax, hmin, hfn, htotal, hnow, hstart, hfixed]

end Congr

/-! ### The judgement of a frame scanned (R73, R74) -/

/-- The row of a screen whose frame has been judged. -/
def State.settledRow (s : State) (x : Nat) : ScreenS :=
  let sc := s.screen x
  if sc.prev = sc.start then sc
  else if sc.scanWritten.isEmpty then { sc with repeats := min 256 (sc.repeats + 1), bandNew := false }
  else { sc with repeats := 0, bandNew := false, band := sc.band && !sc.bandNew && !s.allStrips x sc.scanWritten }

section Settle
variable (s : State) (x : Nat)

/-- Of a screen whose frame has been judged the repeats and the crease band alone have changed. -/
theorem State.settledRow_eq : ∃ n b bn, s.settledRow x = { s.screen x with repeats := n, band := b, bandNew := bn } := by
  unfold State.settledRow
  dsimp only
  split_ifs
  · exact ⟨_, _, _, rfl⟩
  · exact ⟨_, _, _, rfl⟩
  · exact ⟨_, _, _, rfl⟩

/-- The row, and the counts of an output repeat. -/
theorem State.settleRepeat_cases :
    (s.screen x).prev = (s.screen x).start ∧ s.settleRepeat x = s ∨
    (s.screen x).prev ≠ (s.screen x).start ∧ (s.screen x).scanWritten.isEmpty = true ∧ s.settleRepeat x =
      (let a := (s.setScreen x (s.settledRow x)).bump (scanKey x) (scrIdx x) 0x36
       if (s.screen x).bandNew then a.bump (scanKey x) (scrIdx x) 0x37 else a) ∨
    (s.screen x).prev ≠ (s.screen x).start ∧ (s.screen x).scanWritten.isEmpty = false ∧
      s.settleRepeat x = s.setScreen x (s.settledRow x) := by
  unfold State.settleRepeat State.settledRow
  dsimp only
  by_cases hprev : (s.screen x).prev = (s.screen x).start
  · exact .inl ⟨hprev, if_pos hprev⟩
  · rw [if_neg hprev, if_neg hprev]
    cases hempty : (s.screen x).scanWritten.isEmpty
    · exact .inr (.inr ⟨hprev, rfl, rfl⟩)
    · exact .inr (.inl ⟨hprev, rfl, rfl⟩)

/-- Two counts, the second of them under a condition, leave what each leaves. -/
theorem State.repeatCounted_sansCounts (c : Bool) (a : State) :
    (let b := a.bump (scanKey x) (scrIdx x) 0x36
     if c then b.bump (scanKey x) (scrIdx x) 0x37 else b).sansCounts = a.sansCounts := by
  cases c
  · exact a.bump_sansCounts _ _ _ _
  · exact (State.bump_sansCounts _ _ _ _ _).trans (a.bump_sansCounts _ _ _ _)

theorem State.settleRepeat_sansScan : (s.settleRepeat x).sansScan = s.sansScan := by
  rcases s.settleRepeat_cases x with ⟨-, h⟩ | ⟨-, -, h⟩ | ⟨-, -, h⟩
  · rw [h]
  · rw [h, State.sansScan_of_sansCounts (State.repeatCounted_sansCounts _ _ _), State.setScreen_sansScan]
  · rw [h, State.setScreen_sansScan]

theorem State.settleRepeat_screen : (s.settleRepeat x).screen x = s.settledRow x := by
  rcases s.settleRepeat_cases x with ⟨hprev, h⟩ | ⟨-, -, h⟩ | ⟨-, -, h⟩
  · rw [h, State.settledRow, if_pos hprev]
  · rw [h, State.screen_of_screens (State.screens_of_sansCounts (State.repeatCounted_sansCounts _ _ _)), State.screen_setScreen_same]
  · rw [h, State.screen_setScreen_same]

theorem State.settleRepeat_screen_other {y : Nat} (hy : y ≠ x) : (s.settleRepeat x).screen y = s.screen y := by
  rcases s.settleRepeat_cases x with ⟨-, h⟩ | ⟨-, -, h⟩ | ⟨-, -, h⟩
  · rw [h]
  · rw [h, State.screen_of_screens (State.screens_of_sansCounts (State.repeatCounted_sansCounts _ _ _)),
      State.screen_setScreen_other _ _ hy]
  · rw [h, State.screen_setScreen_other _ _ hy]

theorem State.look_settleRepeat_other {i : Nat} (h36 : i ≠ key (scrIdx x) 0x36) (h37 : i ≠ key (scrIdx x) 0x37)
    (h05 : i ≠ key 0x2200 0x05) : (s.settleRepeat x).od.look i = s.od.look i := by
  rcases s.settleRepeat_cases x with ⟨-, h⟩ | ⟨-, -, h⟩ | ⟨-, -, h⟩
  · rw [h]
  · rw [h]
    dsimp only
    split
    · rw [State.look_bump_other _ _ _ h37 h05, State.look_bump_other _ _ _ h36 h05]
      rfl
    · rw [State.look_bump_other _ _ _ h36 h05]
      rfl
  · rw [h]
    rfl

theorem State.settleRepeat_column {b : Nat} (hb : b < 256) (h : b ≠ 0x36 ∧ b ≠ 0x37 ∧ b ≠ 0x05) :
    (s.settleRepeat x).column b = s.column b :=
  funext fun i => s.look_settleRepeat_other x (by simp only [key]; omega) (by simp only [key]; omega) (by simp only [key]; omega)

end Settle

/-! ### The frame that ends -/

section Ends
variable (s : State) (x : Nat)

theorem State.encSnap_sansEncs (e : Nat) : (s.encSnap e).sansEncs = s.sansEncs := by
  unfold State.encSnap
  dsimp only
  split
  · rfl
  · split <;> rfl

theorem State.encFrameEnd_sansEncs : (s.encFrameEnd x).sansEncs = s.sansEncs := by
  refine foldl_leaves State.sansEncs _ (fun s e => ?_) s _
  dsimp only
  split
  · exact s.encSnap_sansEncs e
  · exact s.encSnap_sansEncs e

/-- The end of the read-back of a frame changes a layer's row and its subindex 0x2F alone. -/
theorem State.endReadBack_leaves {β : Type} (m : State → β) (hlayer : ∀ (s : State) n l, m (s.setLayer n l) = m s)
    (hword : ∀ (s : State) n v, m (s.wn (lIdx n) 0x2F v) = m s) : m (s.endReadBack x) = m s := by
  refine foldl_leaves m _ (fun s n => ?_) s _
  dsimp only
  split_ifs
  · exact hlayer _ _ _
  · rfl
  · exact (hword _ _ _).trans (hlayer _ _ _)
  · exact hlayer _ _ _

theorem State.endReadBack_screens : (s.endReadBack x).screens = s.screens :=
  s.endReadBack_leaves x State.screens (fun _ _ _ => rfl) (fun _ _ _ => rfl)

theorem State.endReadBack_sansFrame : (s.endReadBack x).sansFrame = s.sansFrame :=
  s.endReadBack_leaves x State.sansFrame (fun _ _ _ => rfl) (fun _ _ _ => rfl)

theorem State.endReadBack_column {b : Nat} (hb : b < 256) (h : b ≠ 0x2F) : (s.endReadBack x).column b = s.column b :=
  s.endReadBack_leaves x (·.column b) (fun _ _ _ => rfl) (fun _ _ _ => State.wn_column _ hb _ _ h (by decide))

/-- The frame that ends: labels and read-back are closed, and a frame that no blanking judged is judged. -/
def State.frameEnded : State :=
  let a := (s.encFrameEnd x).endReadBack x
  if (s.screen x).blanked then a else a.settleRepeat x

theorem State.frameClosed_screens : ((s.encFrameEnd x).endReadBack x).screens = s.screens :=
  (State.endReadBack_screens _ x).trans (State.screens_of_sansEncs (s.encFrameEnd_sansEncs x))

theorem State.frameEnded_sansFrame : (s.frameEnded x).sansFrame = s.sansFrame := by
  have hclosed : ((s.encFrameEnd x).endReadBack x).sansFrame = s.sansFrame :=
    (State.endReadBack_sansFrame _ x).trans (State.sansFrame_of_sansEncs (s.encFrameEnd_sansEncs x))
  unfold State.frameEnded
  dsimp only
  split
  · exact hclosed
  · exact (State.sansFrame_of_sansScan (State.settleRepeat_sansScan _ x)).trans hclosed

theorem State.frameEnded_column {b : Nat} (hb : b < 256) (h : b ≠ 0x2F ∧ b ≠ 0x36 ∧ b ≠ 0x37 ∧ b ≠ 0x05) :
    (s.frameEnded x).column b = s.column b := by
  obtain ⟨h2F, hsettle⟩ := h
  have hclosed : ((s.encFrameEnd x).endReadBack x).column b = s.column b :=
    (State.endReadBack_column _ x hb h2F).trans (State.column_of_od (State.od_of_sansEncs (s.encFrameEnd_sansEncs x)) b)
  unfold State.frameEnded
  dsimp only
  split
  · exact hclosed
  · exact (State.settleRepeat_column _ x hb hsettle).trans hclosed

theorem State.frameEnded_screen_other {y : Nat} (hy : y ≠ x) : (s.frameEnded x).screen y = s.screen y := by
  have hclosed := State.screen_of_screens (s.frameClosed_screens x) y
  unfold State.frameEnded
  dsimp only
  split
  · exact hclosed
  · exact (State.settleRepeat_screen_other _ x hy).trans hclosed

/-- The frame that ends keeps its start, and the sink what it says of the timing. -/
theorem State.frameEnded_timing : ((s.frameEnded x).screen x).start = (s.screen x).start ∧
    ((s.frameEnded x).screen x).fixed = (s.screen x).fixed := by
  have hclosed := State.screen_of_screens (s.frameClosed_screens x) x
  unfold State.frameEnded
  dsimp only
  split
  · rw [hclosed]
    exact ⟨rfl, rfl⟩
  · obtain ⟨n, b, bn, hrow⟩ := ((s.encFrameEnd x).endReadBack x).settledRow_eq x
    rw [State.settleRepeat_screen, hrow, hclosed]
    exact ⟨rfl, rfl⟩

theorem State.frameEnded_frameLines : (s.frameEnded x).frameLines x = s.frameLines x :=
  State.frameLines_of_sansFrame (s.frameEnded_sansFrame x) x (s.frameEnded_timing x).1 (s.frameEnded_timing x).2

end Ends

/-! ### The frame that begins -/

section Begins
variable (s : State) (x : Nat)

/-- Frame done, and the number of lines and of the frame that begins; a frame begun by Vmax without its request is counted. -/
def State.frameCounted (lines : Nat) (miss : Bool) : State :=
  let a := s.outEvent x 3 [(16, lines % 65536)]
  let a := (a.wn (scrIdx x) 0x1D (min 65535 lines)).wn (scrIdx x) 0x16 (wrapInc 32 (a.rn (scrIdx x) 0x16))
  if miss then a.bump (scanKey x) (scrIdx x) 0x1C else a

section Counted
variable (lines : Nat) (miss : Bool)

theorem State.frameCounted_sansCounts : (s.frameCounted x lines miss).sansCounts = s.sansCounts := by
  cases miss
  · exact s.outEvent_sansCounts _ _ _
  · exact (State.bump_sansCounts _ _ _ _ _).trans (s.outEvent_sansCounts _ _ _)

/-- The numbers of the frame that begins. -/
theorem State.frameCounted_numbers : (s.frameCounted x lines miss).rn (scrIdx x) 0x16 = wrapInc 32 (s.rn (scrIdx x) 0x16) ∧
    (s.frameCounted x lines miss).rn (scrIdx x) 0x1D = min 65535 lines := by
  have hnumber : (s.outEvent x 3 [(16, lines % 65536)]).rn (scrIdx x) 0x16 = s.rn (scrIdx x) 0x16 :=
    State.rn_of_column (s.outEvent_column _ _ _ (by decide) (by decide)) _
  cases miss
  · refine ⟨(State.rn_wn_same _ _ _ _).trans (by rw [hnumber]), ?_⟩
    exact (State.rn_wn_sub _ _ _ _ (by decide) (by decide) (by decide)).trans (State.rn_wn_same _ _ _ _)
  · refine ⟨(State.rn_bump_sub _ _ _ _ _ (by decide) (by decide) (by decide)).trans
      ((State.rn_wn_same _ _ _ _).trans (by rw [hnumber])), ?_⟩
    exact (State.rn_bump_sub _ _ _ _ _ (by decide) (by decide) (by decide)).trans
      ((State.rn_wn_sub _ _ _ _ (by decide) (by decide) (by decide)).trans (State.rn_wn_same _ _ _ _))

theorem State.frameCounted_column {b : Nat} (hb : b < 256) (h : b ≠ 0x16 ∧ b ≠ 0x1C ∧ b ≠ 0x1D ∧ b ≠ 0x05) :
    (s.frameCounted x lines miss).column b = s.column b := by
  obtain ⟨h16, h1C, h1D, h05⟩ := h
  unfold State.frameCounted
  dsimp only
  split
  · rw [State.bump_column _ hb _ _ _ h1C h05 (by decide), State.wn_column _ hb _ _ h16 (by decide),
      State.wn_column _ hb _ _ h1D (by decide), State.outEvent_column _ _ _ _ hb h05]
  · rw [State.wn_column _ hb _ _ h16 (by decide), State.wn_column _ hb _ _ h1D (by decide), State.outEvent_column _ _ _ _ hb h05]

end Counted

/-- The row of a screen whose frame begins: `sc` is its row before, `wr` the strips written for the frame. -/
def State.begunRow (sc : ScreenS) (lines : Nat) (wr : List Nat) : ScreenS :=
  { s.screen x with
    prev := sc.start, start := sc.start + s.linesNs x lines, latched := false, blanked := false, crease := [], uFault := false,
    align := false, scanWritten := wr, snoop := [], sending := s.rn (scrIdx x) 0x14 = 2,
    sig := sc.sigNext.getD sc.sig, sigNext := none, service := sc.service && !s.allStrips x sc.fresh }

/-- The colorimetry of a stream that reaches the connector. -/
def State.colourShown : State :=
  if s.rn (scrIdx x) 0x14 = 2 then s.wn (0x4910 + x) 0x0C (s.colorWord x (s.screen x).sig.2) else s

theorem State.colourShown_sansCounts : (s.colourShown x).sansCounts = s.sansCounts := by
  unfold State.colourShown
  split <;> rfl

theorem State.colourShown_column {b : Nat} (hb : b < 256) (h : b ≠ 0x0C) : (s.colourShown x).column b = s.column b := by
  unfold State.colourShown
  split
  · exact s.wn_column hb _ _ h (by decide)
  · rfl

theorem State.bandStart_sansScreens : (s.bandStart x).sansScreens = s.sansScreens := by
  unfold State.bandStart
  dsimp only
  split_ifs <;> rfl

theorem State.bandStart_screen : ∃ b bn, (s.bandStart x).screen x = { s.screen x with band := b, bandNew := bn } := by
  unfold State.bandStart
  dsimp only
  split_ifs
  · exact ⟨_, _, State.screen_setScreen_same _ _ _⟩
  · exact ⟨_, _, State.screen_setScreen_same _ _ _⟩
  · exact ⟨_, _, rfl⟩

theorem State.bandStart_screen_other {y : Nat} (hy : y ≠ x) : (s.bandStart x).screen y = s.screen y := by
  unfold State.bandStart
  dsimp only
  split_ifs
  · exact State.screen_setScreen_other _ _ hy
  · exact State.screen_setScreen_other _ _ hy
  · rfl

end Begins

/-! The encode contexts take a frame that begins (R346) -/

/-- One context takes a frame: its number, its start, and what its layer's latch left for it. -/
def State.encTake (s : State) (x n start : Nat) (lay : Option (Bool × Option Nat × Nat)) (e : Nat) : State :=
  let g := s.enc e
  if !s.encEligible e start || (s.rn (eIdx e) 0x04 ≠ 0 && lay.isNone) then s
  else if g.coding.isSome || s.restarting (x / 12) .med || !s.encActive (s.rn (eIdx e) 0x1E) then
    (s.bump (encKey (s.rn (eIdx e) 0x1E)) (eIdx e) 0x25).bump (encKey (s.rn (eIdx e) 0x1E)) 0x3500 0x07
  else
    let c : CodeS := { frame := n, start := start, layer := lay, fault := s.stage45 x, test := (s.screen x).service }
    let s := s.setEnc e { g with coding := some c, last := some (n, start) }
    if s.rn (eIdx e) 0x02 = encWaiting then (s.enterEnc e encRunning 0).refreshEncode else s

section EncFrame
variable {β : Type} (m : State → β) (henc : ∀ (s : State) e g, m (s.setEnc e g) = m s)
  (hcount : ∀ (s : State) k i, m (s.bump k i 0x25) = m s) (hcount' : ∀ (s : State) k, m (s.bump k 0x3500 0x07) = m s)
  (henter : ∀ (s : State) e st reason, m (s.enterEnc e st reason) = m s) (hrefresh : ∀ s : State, m s.refreshEncode = m s)
include henc hcount hcount' henter hrefresh

theorem State.encTake_leaves (s : State) (x n start : Nat) (lay : Option (Bool × Option Nat × Nat)) (e : Nat) :
    m (s.encTake x n start lay e) = m s := by
  unfold State.encTake
  dsimp only
  split_ifs
  · rfl
  · exact (hcount' _ _).trans (hcount _ _ _)
  · exact (hrefresh _).trans ((henter _ _ _ _).trans (henc _ _ _))
  · exact henc _ _ _

/-- What no part of a context's taking changes, the frame leaves alone. -/
theorem State.encFrame_leaves (s : State) (x : Nat) : m (s.encFrame x) = m s :=
  foldl_leaves m _ (fun a e => State.encTake_leaves m henc hcount hcount' henter hrefresh a x _ _ _ e) s _

end EncFrame

section EncFrame
variable (s : State) (x : Nat)

theorem State.encFrame_screens : (s.encFrame x).screens = s.screens :=
  State.encFrame_leaves State.screens (fun _ _ _ => rfl) (fun _ _ _ => State.bump_screens _ _ _ _ _)
    (fun _ _ => State.bump_screens _ _ _ _ _) (fun _ _ _ _ => rfl) (fun _ => rfl) s x

theorem State.encFrame_sansFrame : (s.encFrame x).sansFrame = s.sansFrame :=
  State.encFrame_leaves State.sansFrame (fun _ _ _ => rfl) (fun _ _ _ => State.sansFrame_of_sansScan (State.bump_sansScan _ _ _ _ _))
    (fun _ _ => State.sansFrame_of_sansScan (State.bump_sansScan _ _ _ _ _)) (fun _ _ _ _ => rfl) (fun _ => rfl) s x

theorem State.encFrame_column {b : Nat} (hb : b < 256) (h : 7 < b ∧ b ≠ 0x25) : (s.encFrame x).column b = s.column b :=
  State.encFrame_leaves (·.column b) (fun _ _ _ => rfl)
    (fun _ _ _ => State.bump_column _ hb _ _ _ h.2 (by omega) (by decide))
    (fun _ _ => State.bump_column _ hb _ _ _ (by omega) (by omega) (by decide))
    (fun _ _ _ _ => State.enterEnc_column _ _ _ _ hb (by omega)) (fun _ => State.refreshEncode_column _ hb (by omega)) s x

end EncFrame

/-! ### The frame as a whole -/

section FrameStart
variable (s : State) (x : Nat)

/-- The frame that ends, counted. -/
def State.frameTurned : State :=
  (s.frameEnded x).frameCounted x (s.frameLines x) ((s.aligner x).isSome && !(s.screen x).align)

/-- The row of the frame that begins, with its colorimetry. -/
def State.frameBegun : State :=
  let a := s.frameTurned x
  (a.setScreen x (a.begunRow x (s.screen x) (s.frameLines x)
    ((s.screen x).writtenFor (wrapInc 32 (s.rn (scrIdx x) 0x16))))).colourShown x

variable {s x} in
/-- A frame that may start. -/
theorem State.frameStart_eq (hrun : (s.screen x).run = true) (hmember : s.member x = false) (hmay : s.mayStart x = true) :
    s.frameStart x = ((s.frameBegun x).bandStart x).encFrame x := by
  have hnumber : ((s.frameEnded x).outEvent x 3 [(16, s.frameLines x % 65536)]).rn (scrIdx x) 0x16 = s.rn (scrIdx x) 0x16 := by
    rw [State.rn_of_column (State.outEvent_column _ _ _ _ (by decide) (by decide)),
      State.rn_of_column (s.frameEnded_column x (by decide) (by decide))]
  unfold State.frameBegun State.frameTurned
  rw [← hnumber, ← s.frameEnded_frameLines x]
  exact if_neg (by simp [hrun, hmember, hmay])

/-- A frame that may not start does not. -/
theorem State.frameStart_notYet (hmay : s.mayStart x = false) : s.frameStart x = s := if_pos (by simp [hmay])

theorem State.frameTurned_sansFrame : (s.frameTurned x).sansFrame = s.sansFrame :=
  (State.sansFrame_of_sansScan (State.sansScan_of_sansCounts (State.frameCounted_sansCounts _ _ _ _))).trans (s.frameEnded_sansFrame x)

theorem State.frameTurned_screen_other {y : Nat} (hy : y ≠ x) : (s.frameTurned x).screen y = s.screen y :=
  (State.screen_of_screens (State.screens_of_sansCounts (State.frameCounted_sansCounts _ _ _ _)) y).trans
    (s.frameEnded_screen_other x hy)

/-- Number and lines of the frame that begins, and the link as it was. -/
theorem State.frameTurned_numbers : (s.frameTurned x).rn (scrIdx x) 0x16 = wrapInc 32 (s.rn (scrIdx x) 0x16) ∧
    (s.frameTurned x).rn (scrIdx x) 0x1D = min 65535 (s.frameLines x) ∧
    (s.frameTurned x).rn (scrIdx x) 0x14 = s.rn (scrIdx x) 0x14 := by
  have hended : ∀ b, b < 256 → b ≠ 0x2F ∧ b ≠ 0x36 ∧ b ≠ 0x37 ∧ b ≠ 0x05 → (s.frameEnded x).rn (scrIdx x) b = s.rn (scrIdx x) b :=
    fun b hb h => State.rn_of_column (s.frameEnded_column x hb h) _
  obtain ⟨hnumber, hlines⟩ := (s.frameEnded x).frameCounted_numbers x (s.frameLines x) ((s.aligner x).isSome && !(s.screen x).align)
  refine ⟨hnumber.trans (by rw [hended _ (by decide) (by decide)]), hlines, ?_⟩
  exact (State.rn_of_column (State.frameCounted_column _ _ _ _ (by decide) (by decide)) _).trans (hended _ (by decide) (by decide))

theorem State.frameBegun_sansFrame : (s.frameBegun x).sansFrame = s.sansFrame :=
  (State.sansFrame_of_sansScan (State.sansScan_of_sansCounts (State.colourShown_sansCounts _ x))).trans (s.frameTurned_sansFrame x)

theorem State.frameBegun_screens : (s.frameBegun x).screens = ((s.frameTurned x).setScreen x ((s.frameTurned x).begunRow x (s.screen x)
    (s.frameLines x) ((s.screen x).writtenFor (wrapInc 32 (s.rn (scrIdx x) 0x16))))).screens :=
  State.screens_of_sansCounts (State.colourShown_sansCounts _ x)

theorem State.frameBegun_column {b : Nat} (hb : b < 256) (h : b ≠ 0x0C) : (s.frameBegun x).column b = (s.frameTurned x).column b :=
  State.colourShown_column _ x hb h

variable {s x}

/-- A frame that may start starts; a trial's window may begin with it. -/
theorem State.frameStart_starts (hrun : (s.screen x).run = true) (hmember : s.member x = false) (hmay : s.mayStart x = true) :
    ∃ s', (s.frameStart x).trialFrame x = s' ∧
      s'.rn (scrIdx x) 0x16 = wrapInc 32 (s.rn (scrIdx x) 0x16) ∧
      (s'.screen x).start = (s.screen x).start + s.linesNs x (s.frameLines x) ∧
      s'.rn (scrIdx x) 0x1D = min 65535 (s.frameLines x) ∧ (s'.screen x).prev = (s.screen x).start ∧
      (s'.screen x).latched = false ∧ (s'.screen x).blanked = false ∧ (s'.screen x).crease = [] ∧ (s'.screen x).align = false ∧
      (s'.screen x).service =
        ((s.screen x).service && !(List.range (s.strips x)).all (fun k => (s.screen x).fresh.contains k)) ∧
      (s'.screen x).sending = decide (s.rn (scrIdx x) 0x14 = 2) ∧ (s'.screen x).snoop = [] ∧ (s'.screen x).uFault = false ∧
      (∀ y, y ≠ x → s'.screen y = s.screen y) ∧
      s' = { s with od := s'.od, log := s'.log, layers := s'.layers, screens := s'.screens, encs := s'.encs, upd := s'.upd } := by
  have htrial : ∀ a : State, (a.trialFrame x).screens = a.screens ∧ (a.trialFrame x).od = a.od ∧
      (a.trialFrame x).sansFrame = a.sansFrame := by
    intro a
    unfold State.trialFrame
    split
    · exact ⟨rfl, rfl, rfl⟩
    · exact ⟨rfl, rfl, rfl⟩
  obtain ⟨hscreens, hod, hframe⟩ := htrial (s.frameStart x)
  have hscreen : ∀ y, ((s.frameStart x).trialFrame x).screen y = ((s.frameBegun x).bandStart x).screen y := fun y => by
    rw [State.screen_of_screens hscreens, State.frameStart_eq hrun hmember hmay, State.screen_of_screens (State.encFrame_screens _ x)]
  have hrn : ∀ b, b < 256 → 7 < b ∧ b ≠ 0x25 → b ≠ 0x0C →
      ((s.frameStart x).trialFrame x).rn (scrIdx x) b = (s.frameTurned x).rn (scrIdx x) b := fun b hb h hC => by
    rw [State.rn_of_column (State.column_of_od hod b), State.frameStart_eq hrun hmember hmay,
      State.rn_of_column (State.encFrame_column _ x hb h),
      State.rn_of_column (State.column_of_od (State.od_of_sansScreens (State.bandStart_sansScreens _ x)) b),
      State.rn_of_column (s.frameBegun_column x hb hC)]
  obtain ⟨hnumber, hlines, hlink⟩ := s.frameTurned_numbers x
  have hturned := s.frameTurned_sansFrame x
  obtain ⟨b, bn, hband⟩ := (s.frameBegun x).bandStart_screen x
  have hrow := (hscreen x).trans hband
  rw [State.screen_of_screens (s.frameBegun_screens x), State.screen_setScreen_same] at hrow
  refine ⟨_, rfl, ?_, ?_, ?_, congrArg ScreenS.prev hrow, congrArg ScreenS.latched hrow, congrArg ScreenS.blanked hrow,
    congrArg ScreenS.crease hrow, congrArg ScreenS.align hrow, ?_, ?_, congrArg ScreenS.snoop hrow, congrArg ScreenS.uFault hrow,
    fun y hy => ?_, ?_⟩
  · rw [hrn _ (by decide) (by decide) (by decide), hnumber]
  · rw [hrow, ← State.linesNs_of_sansFrame hturned]
    rfl
  · rw [hrn _ (by decide) (by decide) (by decide), hlines]
  · rw [hrow, ← State.strips_of_sansFrame hturned]
    rfl
  · rw [hrow, ← hlink]
    rfl
  · rw [hscreen, State.bandStart_screen_other _ _ hy, State.screen_of_screens (s.frameBegun_screens x),
      State.screen_setScreen_other _ _ hy, s.frameTurned_screen_other x hy]
  · refine State.eq_of_sansFrame (hframe.trans ?_)
    rw [State.frameStart_eq hrun hmember hmay, State.encFrame_sansFrame]
    exact (congrArg (fun a : State => { a.sansCounts with layers := [], encs := [], upd := {} })
      ((s.frameBegun x).bandStart_sansScreens x)).trans (s.frameBegun_sansFrame x)

/-- Where no frame may start and the service pattern stands, nothing changes. -/
theorem State.frameStart_waits (hmay : s.mayStart x = false) (hservice : (s.screen x).service = true) :
    (s.frameStart x).trialFrame x = s := by
  rw [s.frameStart_notYet x hmay]
  exact if_neg (by simp [hservice])

end FrameStart

end Sys2Proof.Machine
end

section
/-! SUPPORT. The statement about frames and strips: blanking with its underruns and its InfoFrame (R310, R334), line matches (R315, R316),
and the statement itself. -/

namespace Sys2Proof.Machine

/-! ### Line matches (R315, R316) -/

/-- An output event whose bit is set is raised. -/
theorem State.outEvent_raised (s : State) (x bitNo : Nat) (extra : List (Nat × Nat)) (h : bit (s.rn (scrIdx x) 0x17) bitNo = true) :
    s.raised (s.outEvent x bitNo extra) (scanKey x) (0x0701 + bitNo) (if bitNo = 4 then 2 else 0)
      ([(8, x), (32, s.rn (scrIdx x) 0x16)] ++ extra) := by
  rw [State.outEvent, if_pos h]
  exact State.raised_after _ _ _ (.of_eq rfl _) rfl rfl

section Match
variable (s : State) (x line : Nat)

/-- The event of a line that one of the two compares (0x4800+s:18 and :19) matches. -/
def State.lineEvent (sub bitNo : Nat) : State := if s.rn (scrIdx x) sub = line then s.outEvent x bitNo [(16, line)] else s

section LineEvent
variable (sub bitNo : Nat)

theorem State.lineEvent_sansCounts : (s.lineEvent x line sub bitNo).sansCounts = s.sansCounts := by
  unfold State.lineEvent
  split
  · exact s.outEvent_sansCounts _ _ _
  · rfl

theorem State.look_lineEvent_other {i : Nat} (h : i ≠ key 0x2200 0x05) :
    (s.lineEvent x line sub bitNo).od.look i = s.od.look i := by
  unfold State.lineEvent
  split
  · exact s.look_outEvent_other _ _ _ h
  · rfl

theorem State.lineEvent_grown : Grown 1 s.log (s.lineEvent x line sub bitNo).log := by
  unfold State.lineEvent
  split
  · exact s.outEvent_grown _ _ _
  · exact .of_eq rfl _

end LineEvent

variable {s x line}

/-- A line whose start is due raises its events. -/
theorem State.lineMatch_matches (hrun : (s.screen x).run = true) (hmember : s.member x = false) (hline : line < 0xFFFF)
    (hmax : line < s.vmax x) (hdue : (s.screen x).start + s.linesNs x line ≤ s.nowAt (x / 12)) : ∃ s', s.lineMatch x line = s' ∧
      (s.rn (scrIdx x) 0x18 = line → bit (s.rn (scrIdx x) 0x17) 1 = true →
        s.raised s' (scanKey x) 0x0702 0 [(8, x), (32, s.rn (scrIdx x) 0x16), (16, line)]) ∧
      (s.rn (scrIdx x) 0x18 ≠ line → s.rn (scrIdx x) 0x19 = line → bit (s.rn (scrIdx x) 0x17) 2 = true →
        s.raised s' (scanKey x) 0x0703 0 [(8, x), (32, s.rn (scrIdx x) 0x16), (16, line)]) ∧
      (s.rn (scrIdx x) 0x18 ≠ line → s.rn (scrIdx x) 0x19 ≠ line → s' = s) ∧
      s.odSame s' [key 0x2200 0x05] ∧ s' = { s with od := s'.od, log := s'.log } := by
  have heq : s.lineMatch x line = (s.lineEvent x line 0x18 1).lineEvent x line 0x19 2 := if_neg (by simp [hrun, hmember]; omega)
  refine ⟨_, heq, fun hfirst hbit => ?_, fun hfirst hsecond hbit => ?_, fun hfirst hsecond => ?_, fun i hi => ?_, ?_⟩
  · refine State.raised.grown ?_ (State.lineEvent_grown _ x line 0x19 2)
    rw [State.lineEvent, if_pos hfirst]
    exact s.outEvent_raised x 1 _ hbit
  · have hnone : s.lineEvent x line 0x18 1 = s := if_neg hfirst
    rw [hnone, State.lineEvent, if_pos hsecond]
    exact s.outEvent_raised x 2 _ hbit
  · have hnone : s.lineEvent x line 0x18 1 = s := if_neg hfirst
    rw [hnone, State.lineEvent, if_neg hsecond]
  · have hi5 : i ≠ key 0x2200 0x05 := by simpa using hi
    rw [State.look_lineEvent_other _ _ _ _ _ hi5, State.look_lineEvent_other _ _ _ _ _ hi5]
  · exact State.eq_of_sansCounts ((State.lineEvent_sansCounts _ x line 0x19 2).trans (s.lineEvent_sansCounts x line 0x18 1))

/-- A line that the frame does not have matches nothing. -/
theorem State.lineMatch_beyond (h : s.vmax x ≤ line) : s.lineMatch x line = s := if_pos (by simp [h])

end Match

/-! ### Blanking (R310, R334) -/

section Blanking
variable (s : State) (x : Nat)

/-- An output repeat is counted. -/
theorem State.settleRepeat_counted (hprev : (s.screen x).prev ≠ (s.screen x).start) (hnone : (s.screen x).scanWritten = []) :
    s.counted (s.settleRepeat x) (scrIdx x) 0x36 1 := by
  have hcount := ((s.setScreen x (s.settledRow x)).counted_bump (scanKey x) (scrIdx x) 0x36 1).congr (t := s) rfl rfl
  rcases s.settleRepeat_cases x with ⟨h, -⟩ | ⟨-, -, h⟩ | ⟨-, h, -⟩
  · exact absurd h hprev
  · rw [h]
    dsimp only
    split
    · exact hcount.congr rfl (State.rn_bump_sub _ _ _ _ _ (by decide) (by decide) (by decide))
    · exact hcount
  · simp [hnone] at h

/-- The blanking begins, with its event. -/
def State.blankingBegun (under : List Nat) : State :=
  (s.setScreen x { s.screen x with blanked := true, under := !under.isEmpty }).outEvent x 0 [(24, 0)]

/-- The frame is judged and its InfoFrame sent. -/
def State.blankingJudged (under : List Nat) : State := ((s.blankingBegun x under).settleRepeat x).sendInfoFrame x

/-- Underruns are counted, with their event. -/
def State.underrun (under : List Nat) : State :=
  match under with
  | [] => s
  | k :: _ => ((s.bump (scanKey x) (scrIdx x) 0x1A).bump (scanKey x) (scrIdx x) 0x1B under.length).outEvent x 4 [(8, k), (8, under.length)]

/-- A blanking that is due. -/
theorem State.blanking_eq (hrun : (s.screen x).run = true) (hblanked : (s.screen x).blanked = false) (hmember : s.member x = false)
    (hdue : (s.screen x).start + s.linesNs x (s.va x) ≤ s.nowAt (x / 12)) : s.blanking x =
      (s.blankingJudged x ((List.range (s.strips x)).filter (fun k => !(s.screen x).scanWritten.contains k))).underrun x
        ((List.range (s.strips x)).filter (fun k => !(s.screen x).scanWritten.contains k)) := by
  unfold State.blanking
  dsimp only
  rw [if_neg (by simpa [hrun, hblanked, hmember] using hdue)]
  cases (List.range (s.strips x)).filter (fun k => !(s.screen x).scanWritten.contains k) with
  | nil => rfl
  | cons k l => rfl

/-- A frame whose blanking has begun begins none. -/
theorem State.blanking_again (h : (s.screen x).blanked = true) : s.blanking x = s := if_pos (by simp [h])

section InfoFrame

theorem State.sendInfoFrame_sansOut : (s.sendInfoFrame x).sansOut = s.sansOut := by
  unfold State.sendInfoFrame
  split
  · exact s.say_sansOut _
  · rfl

/-- While the package runs, a PQ screen whose stream reaches the connector sends its InfoFrame. -/
theorem State.sendInfoFrame_out (hrun : s.power.phase = .running) : (s.sendInfoFrame x).out =
    (if (s.screen x).sending = true ∧ (s.screen x).sig.1 = 1 then [Out.infoFrame x (s.infoFrameBytes x)] else []) ++ s.out := by
  unfold State.sendInfoFrame
  by_cases h : (s.screen x).sending = true ∧ (s.screen x).sig.1 = 1
  · rw [if_pos (by simpa using h), if_pos h, State.say_of_running hrun (.inl rfl)]
    rfl
  · rw [if_neg (by simpa using h), if_neg h]
    rfl

end InfoFrame

section Under
variable (under : List Nat)

theorem State.underrun_sansCounts : (s.underrun x under).sansCounts = s.sansCounts := by
  cases under with
  | nil => rfl
  | cons k l => exact (State.outEvent_sansCounts _ _ _ _).trans ((State.bump_sansCounts _ _ _ _ _).trans (s.bump_sansCounts _ _ _ _))

theorem State.underrun_column {b : Nat} (hb : b < 256) (h : b ≠ 0x1A ∧ b ≠ 0x1B ∧ b ≠ 0x05) :
    (s.underrun x under).column b = s.column b := by
  obtain ⟨h1A, h1B, h05⟩ := h
  cases under with
  | nil => rfl
  | cons k l =>
    exact (State.outEvent_column _ _ _ _ hb h05).trans
      ((State.bump_column _ hb _ _ _ h1B h05 (by decide)).trans (s.bump_column hb _ _ _ h1A h05 (by decide)))

/-- Underruns count one frame and their strips. -/
theorem State.underrun_counted (h : under ≠ []) : s.counted (s.underrun x under) (scrIdx x) 0x1A 1 ∧
    s.counted (s.underrun x under) (scrIdx x) 0x1B under.length := by
  cases under with
  | nil => exact absurd rfl h
  | cons k l =>
    have hframe := s.counted_bump (scanKey x) (scrIdx x) 0x1A 1
    have hstrips := (s.bump (scanKey x) (scrIdx x) 0x1A).counted_bump (scanKey x) (scrIdx x) 0x1B (k :: l).length
    refine ⟨hframe.congr rfl ?_, hstrips.congr (State.rn_bump_sub _ _ _ _ _ (by decide) (by decide) (by decide)).symm ?_⟩
    · exact (State.rn_of_column (State.outEvent_column _ _ _ _ (by decide) (by decide)) _).trans
        (State.rn_bump_sub _ _ _ _ _ (by decide) (by decide) (by decide))
    · exact State.rn_of_column (State.outEvent_column _ _ _ _ (by decide) (by decide)) _

theorem State.blankingBegun_screens : (s.blankingBegun x under).screens =
    (s.setScreen x { s.screen x with blanked := true, under := !under.isEmpty }).screens :=
  State.outEvent_screens _ _ _ _

theorem State.blankingBegun_screen :
    (s.blankingBegun x under).screen x = { s.screen x with blanked := true, under := !under.isEmpty } := by
  rw [State.screen_of_screens (s.blankingBegun_screens x under), State.screen_setScreen_same]

theorem State.blankingBegun_sansScan : (s.blankingBegun x under).sansScan = s.sansScan :=
  State.outEvent_sansScan _ _ _ _

theorem State.look_blankingBegun_other {i : Nat} (h : i ≠ key 0x2200 0x05) : (s.blankingBegun x under).od.look i = s.od.look i :=
  State.look_outEvent_other _ _ _ _ h

theorem State.blankingJudged_screens : (s.blankingJudged x under).screens = ((s.blankingBegun x under).settleRepeat x).screens :=
  (congrArg State.screens (State.sendInfoFrame_sansOut _ x) :)

theorem State.blankingJudged_od : (s.blankingJudged x under).od = ((s.blankingBegun x under).settleRepeat x).od :=
  (congrArg State.od (State.sendInfoFrame_sansOut _ x) :)

theorem State.blankingJudged_sansTrain : (s.blankingJudged x under).sansTrain = s.sansTrain :=
  (State.sansTrain_of_sansOut (State.sendInfoFrame_sansOut _ x)).trans (State.sansTrain_of_sansScan
    ((State.settleRepeat_sansScan _ x).trans (s.blankingBegun_sansScan x under)))

theorem State.blankingJudged_column {b : Nat} (hb : b < 256) (h : b ≠ 0x36 ∧ b ≠ 0x37 ∧ b ≠ 0x05) :
    (s.blankingJudged x under).column b = s.column b :=
  (State.column_of_od (s.blankingJudged_od x under) b).trans ((State.settleRepeat_column _ x hb h).trans
    (funext fun i => s.look_blankingBegun_other x under (by simp only [key]; omega)))

/-- The InfoFrame's bytes are those before the blanking. -/
theorem State.blankingBegun_infoFrameBytes (hx : x < 24) :
    ((s.blankingBegun x under).settleRepeat x).infoFrameBytes x = s.infoFrameBytes x := by
  have hrn : ∀ b, b < 0x36 → ((s.blankingBegun x under).settleRepeat x).rn (0x4910 + x) b = s.rn (0x4910 + x) b := fun b hb =>
    State.rn_of_look ((State.look_settleRepeat_other _ x (by simp only [key]; omega) (by simp only [key]; omega)
      (by simp only [key]; omega)).trans (s.look_blankingBegun_other x under (by simp only [key]; omega)))
  obtain ⟨n, b, bn, hrow⟩ := (s.blankingBegun x under).settledRow_eq x
  have hsig : (((s.blankingBegun x under).settleRepeat x).screen x).sig = (s.screen x).sig := by
    rw [State.settleRepeat_screen, hrow, State.blankingBegun_screen]
  simp only [State.infoFrameBytes, hsig, hrn _ (show 4 < 0x36 by decide), hrn _ (show 5 < 0x36 by decide),
    hrn _ (show 6 < 0x36 by decide), hrn _ (show 7 < 0x36 by decide)]

theorem State.blankingJudged_out (hx : x < 24) (hrun : s.power.phase = .running) : (s.blankingJudged x under).out =
    (if (s.screen x).sending = true ∧ (s.screen x).sig.1 = 1 then [Out.infoFrame x (s.infoFrameBytes x)] else []) ++ s.out := by
  have hscan : ((s.blankingBegun x under).settleRepeat x).sansScan = s.sansScan :=
    (State.settleRepeat_sansScan _ x).trans (s.blankingBegun_sansScan x under)
  obtain ⟨n, b, bn, hrow⟩ := (s.blankingBegun x under).settledRow_eq x
  have hscreen := (State.settleRepeat_screen (s.blankingBegun x under) x).trans hrow
  rw [State.blankingJudged, State.sendInfoFrame_out _ _ (by rw [State.power_of_sansScan hscan, hrun]), hscreen,
    s.blankingBegun_infoFrameBytes x under hx, State.out_of_sansScan hscan, State.blankingBegun_screen]

end Under

variable {s x}

/-- A blanking that is due begins. -/
theorem State.blanking_begins (hx : x < 24) (hrun : (s.screen x).run = true) (hblanked : (s.screen x).blanked = false)
    (hmember : s.member x = false) (hdue : (s.screen x).start + s.linesNs x (s.va x) ≤ s.nowAt (x / 12)) {under : List Nat}
    (hunder : under = (List.range (s.strips x)).filter (fun k => !(s.screen x).scanWritten.contains k)) :
    ∃ s', s.blanking x = s' ∧ (s'.screen x).blanked = true ∧ (s'.screen x).under = !under.isEmpty ∧
      (s'.screen x).start = (s.screen x).start ∧
      ((s.screen x).prev ≠ (s.screen x).start → (s.screen x).scanWritten = [] →
        (s'.screen x).repeats = min 256 ((s.screen x).repeats + 1) ∧ s.counted s' (scrIdx x) 0x36 1) ∧
      ((s.screen x).prev ≠ (s.screen x).start → (s.screen x).scanWritten ≠ [] → (s'.screen x).repeats = 0) ∧
      (∀ y, y ≠ x → s'.screen y = s.screen y) ∧
      (under ≠ [] → s.counted s' (scrIdx x) 0x1A 1 ∧ s.counted s' (scrIdx x) 0x1B under.length) ∧
      (s.power.phase = .running → s'.out =
        (if (s.screen x).sending = true ∧ (s.screen x).sig.1 = 1 then [Out.infoFrame x (s.infoFrameBytes x)] else []) ++ s.out) ∧
      s' = { s with od := s'.od, log := s'.log, screens := s'.screens, out := s'.out } := by
  have heq : s.blanking x = (s.blankingJudged x under).underrun x under := by
    rw [hunder]
    exact s.blanking_eq x hrun hblanked hmember hdue
  have hcounts := (s.blankingJudged x under).underrun_sansCounts x under
  have hscreen : ∀ y, ((s.blankingJudged x under).underrun x under).screen y =
      ((s.blankingBegun x under).settleRepeat x).screen y := fun y => by
    rw [State.screen_of_screens (State.screens_of_sansCounts hcounts), State.screen_of_screens (s.blankingJudged_screens x under)]
  have hbegun := s.blankingBegun_screen x under
  have hrow := (hscreen x).trans (State.settleRepeat_screen _ x)
  obtain ⟨n, b, bn, hsettled⟩ := (s.blankingBegun x under).settledRow_eq x
  rw [hbegun] at hsettled
  have hkept := hrow.trans hsettled
  have hrn : ∀ b, b < 256 → b ≠ 0x36 ∧ b ≠ 0x37 ∧ b ≠ 0x05 → (s.blankingJudged x under).rn (scrIdx x) b = s.rn (scrIdx x) b :=
    fun b hb h => State.rn_of_column (s.blankingJudged_column x under hb h) _
  refine ⟨_, heq, congrArg ScreenS.blanked hkept, congrArg ScreenS.under hkept, (congrArg ScreenS.start hkept :),
    fun hprev hnone => ⟨?_, ?_⟩, fun hprev hsome => ?_, fun y hy => ?_, fun hne => ?_, fun hphase => ?_, ?_⟩
  · rw [hrow, State.settledRow, hbegun, if_neg hprev, if_pos (by simp [hnone])]
  · refine ((s.blankingBegun x under).settleRepeat_counted x (by rwa [hbegun]) (by rwa [hbegun])).congr ?_ ?_
    · exact (State.rn_of_look (s.look_blankingBegun_other x under (by simp only [key]; omega))).symm
    · rw [State.rn_of_column (State.underrun_column _ x under (by decide) (by decide)),
        State.rn_of_column (State.column_of_od (s.blankingJudged_od x under) _)]
  · rw [hrow, State.settledRow, hbegun, if_neg hprev, if_neg (by simpa using hsome)]
  · rw [hscreen, State.settleRepeat_screen_other _ x hy, State.screen_of_screens (s.blankingBegun_screens x under),
      State.screen_setScreen_other _ _ hy]
  · obtain ⟨hframe, hstrips⟩ := (s.blankingJudged x under).underrun_counted x under hne
    exact ⟨hframe.congr (hrn _ (by decide) (by decide)).symm rfl, hstrips.congr (hrn _ (by decide) (by decide)).symm rfl⟩
  · exact (State.out_of_sansScan (State.sansScan_of_sansCounts hcounts)).trans (s.blankingJudged_out x under hx hphase)
  · exact State.eq_of_sansTrain ((State.sansTrain_of_sansScan (State.sansScan_of_sansCounts hcounts)).trans
      (s.blankingJudged_sansTrain x under))

end Blanking

/-! ### The statement -/

/-- Settles O33, command by command: what each does to the state at its tick. -/
theorem framesAndStrips : Obligations.FramesAndStrips := by
  unfold Obligations.FramesAndStrips
  intro s t x hx u c
  have hnext {a b : State} : a = b → (Host.Outcome.next a : Host.Outcome State Fault Refusal) = .next b := congrArg _
  refine ⟨fun hrun hmember hmay => ?_, fun hmay hservice => hnext (State.frameStart_waits hmay hservice),
    fun k p hplan hrun hidle hstrip hscan hbefore hread hserves hcmp hpipes => ?_,
    fun k h => hnext (State.stripStart_notNext h), fun k p hplan hwait hscan => ?_,
    fun k y h => hnext (State.stripWrite_notUnderWay h), fun k p hplan hscan hlate y => hnext (State.stripWrite_late hplan hscan hlate y),
    fun k p hplan hscan hlate hstrip => ?_, fun k p hplan hscan => hnext (State.stripDrop_early hplan hscan),
    fun under hrun hblanked hmember hdue hunder => ?_, fun h => hnext (u.blanking_again x h),
    fun line hrun hmember hline hmax hdue => ?_, fun line h => hnext (State.lineMatch_beyond h)⟩
  case refine_1 =>
    obtain ⟨s', hs', hrest⟩ := State.frameStart_starts hrun hmember hmay
    exact ⟨s', hnext hs', hrest⟩
  case refine_2 =>
    exact ⟨_, hnext (State.stripStart_begins hplan hrun hidle hstrip hscan hbefore hread hserves hcmp hpipes),
      State.screen_setScreen_same _ _ _, fun y hy => State.screen_setScreen_other _ _ hy, rfl⟩
  case refine_3 =>
    obtain ⟨s', hs', hrest⟩ := State.stripWrite_writes hplan hwait hscan
    exact ⟨s', hnext hs', hrest⟩
  case refine_4 =>
    obtain ⟨s', hs', hrest⟩ := State.stripDrop_drops hplan hscan hlate hstrip
    exact ⟨s', hnext hs', hrest⟩
  case refine_5 =>
    obtain ⟨s', hs', hrest⟩ := State.blanking_begins hx hrun hblanked hmember hdue hunder
    exact ⟨s', hnext hs', hrest⟩
  case refine_6 =>
    obtain ⟨s', hs', hrest⟩ := State.lineMatch_matches hrun hmember hline hmax hdue
    exact ⟨s', hnext hs', hrest⟩

end Sys2Proof.Machine
end

section
/-! SUPPORT. Counterexample about mirror streams: a report of a package that has lost die E (R359, R637). -/

namespace Sys2Proof.Machine

/-- A running package that has lost die E and whose servo has since stepped W's time base to second 20, where E's stands at 10. Encode
context 0 is RUNNING: it mirrors screen 12 of W from port 8, which is up and has an address, to the group 239.0.0.9. -/
def mirrorOnWAlone : State :=
  { power := { phase := .running }, clock := sTicks, link := { lost := true, lostDie := some .e }, time := { sec := 10, wSec := 20 }
    od := [(key 0x2918 0x03, .num 0x0A000001), (key 0x2918 0x0A, .num 1), (key (eIdx 0) 0x02, .num encRunning),
      (key (eIdx 0) 0x05, .num 12), (key (eIdx 0) 0x15, .num 8), (key (eIdx 0) 0x17, .bytes ([239, 0, 0, 9] ++ List.replicate 12 0))] }

/-- Its report is due and can leave. -/
theorem mirrorOnWAlone_reports :
    let u := mirrorOnWAlone.tick 0
    u.encOn 0 = true ∧ (u.enc 0).srAt + sTicks ≤ u.clock ∧ u.encCanSend 0 = true := by
  decide +kernel

/-- The NTP seconds of an output, where it is a mirror's report. -/
def Out.mirrorSeconds : Out → Option Nat
  | .mirrorSr _ _ sec _ _ _ => some sec
  | _ => none

/-- The report it sends carries W's second, not E's; the UTC offset is 37 s. -/
theorem mirrorOnWAlone_seconds :
    ((mirrorOnWAlone.tick 0).mirrorSr 0).out.map Out.mirrorSeconds = [some (20 + 2208988800 - 37)] := by
  decide +kernel

/-- The state it reports from: E's second, the UTC offset, and that what it says is recorded. -/
theorem mirrorOnWAlone_time :
    let u := mirrorOnWAlone.tick 0
    u.power.phase = .running ∧ u.rn 0x6800 0x09 ≠ 3 ∧ u.out = [] ∧ u.time.sec = 10 ∧ u.rd 0x2800 0x0A = 37 ∧
      bit (u.rn (eIdx 0) 0x1C) 1 = false := by
  decide +kernel

/-- Refutes O36: the statement gives a mirror's report the seconds of E's time base, but once E is lost W's stands for the package's
(R637), and the report carries W's. -/
theorem not_mirrorsEncodeAndSend : ¬ Obligations.MirrorsEncodeAndSend := by
  unfold Obligations.MirrorsEncodeAndSend
  intro h
  obtain ⟨hon, hdue, hsend⟩ := mirrorOnWAlone_reports
  obtain ⟨hrun, hfree, hout, hsec, hutc, hscale⟩ := mirrorOnWAlone_time
  obtain ⟨-, -, -, -, -, hreport, -⟩ := h mirrorOnWAlone 0 0 (by decide)
  obtain ⟨s', hs', -, -, -, hsays, -⟩ := hreport hon hdue
  have hback : (mirrorOnWAlone.tick 0).mirrorSr 0 = s' := Host.Outcome.next.inj hs'
  have hseconds := mirrorOnWAlone_seconds
  rw [hback, hsays hsend, State.say_of_running hrun (.inr hfree), hout, hsec, hutc, hscale] at hseconds
  exact absurd hseconds (by decide)

end Sys2Proof.Machine
end

section
/-! SUPPORT. The statement about the dictionary coder (R375 to R380): the strings that codes stand for, and the decoder's dictionary, which
follows the encoder's one entry behind. -/

namespace Sys2Proof.Machine

/-! ### Codes as bits -/

@[simp] theorem bitsOf_length (w v : Nat) : (bitsOf w v).length = w := by
  induction w with
  | zero => rfl
  | succ w ih => simp [bitsOf, ih]

/-- A number written in enough bits reads back. -/
theorem bitsNat_bitsOf {w v : Nat} (h : v < 2 ^ w) : bitsNat (bitsOf w v) = v := by
  suffices hrun : ∀ (w a : Nat), (bitsOf w v).foldl (fun a b => 2 * a + b2n b) a = a * 2 ^ w + v % 2 ^ w by
    rw [bitsNat, hrun, Nat.mod_eq_of_lt h, Nat.zero_mul, Nat.zero_add]
  intro w
  induction w with
  | zero => simp [bitsOf, Nat.mod_one]
  | succ w ih =>
    intro a
    have hbit : b2n (v.testBit w) = v / 2 ^ w % 2 := by
      rw [Nat.testBit_eq_decide_div_mod_eq, b2n]
      rcases Nat.mod_two_eq_zero_or_one (v / 2 ^ w) with h | h <;> simp [h]
    rw [bitsOf, List.foldl_cons, ih, hbit, Nat.pow_succ, Nat.mod_mul]
    ring

/-- The highest entry fits its own width of code (R378). -/
theorem lt_two_pow_codeWidth {e : Nat} (h : e < 65536) : e < 2 ^ codeWidth e := by
  unfold codeWidth
  split_ifs <;> omega

theorem nine_le_codeWidth (e : Nat) : 9 ≤ codeWidth e := by
  unfold codeWidth
  split_ifs <;> omega

/-! ### The strings of a dictionary (R375, R376) -/

/-- A code of a dictionary with `n` entries learnt: a byte's, or an entry's. -/
def IsCode (n c : Nat) : Prop := c < 256 ∨ 258 ≤ c ∧ c < 258 + n

/-- Every entry extends a code assigned before it. -/
def Linked (l : List (Nat × Byte)) : Prop := ∀ i e, l[i]? = some e → IsCode i e.1

theorem IsCode.mono {m n c : Nat} (h : IsCode m c) (hle : m ≤ n) : IsCode n c := by
  unfold IsCode at *
  omega

theorem IsCode.le_topEntry {l : List (Nat × Byte)} {c : Nat} (h : IsCode l.length c) : c ≤ topEntry l := by
  unfold IsCode at h
  unfold topEntry
  omega

theorem isCode_byte (n : Nat) (b : Byte) : IsCode n b.toNat := .inl b.isLt

section Strings
variable {l : List (Nat × Byte)}

/-- More fuel than the chain of entries is long makes no difference. -/
theorem stringOf_fuel (hl : Linked l) {f g c : Nat} (hf : IsCode f c) (hg : IsCode g c) :
    stringOf l (f + 1) c = stringOf l (g + 1) c := by
  induction f generalizing g c with
  | zero =>
    have hc : c < 256 := by
      unfold IsCode at hf
      omega
    rw [stringOf, stringOf, if_pos hc, if_pos hc]
  | succ f ih =>
    unfold stringOf
    split
    · rfl
    · next hc =>
      unfold IsCode at hf hg
      obtain ⟨g, rfl⟩ : ∃ k, g = k + 1 := ⟨g - 1, by omega⟩
      split
      · next p b he =>
        have hp := hl _ _ he
        rw [ih (hp.mono (by omega)) (hp.mono (n := g) (by omega))]
      · rfl

theorem codeString_byte (l : List (Nat × Byte)) (b : Byte) : codeString l b.toNat = [b] := by
  simp [codeString, stringOf, b.isLt]

theorem codeString_entry (hl : Linked l) {i p : Nat} {b : Byte} (he : l[i]? = some (p, b)) :
    codeString l (258 + i) = codeString l p ++ [b] := by
  have hi : i < l.length := (List.getElem?_eq_some_iff.1 he).1
  obtain ⟨k, hk⟩ : ∃ k, l.length = k + 1 := ⟨l.length - 1, by omega⟩
  rw [codeString, stringOf, if_neg (by omega), Nat.add_sub_cancel_left, he, codeString, hk]
  exact congrArg (· ++ [b]) (stringOf_fuel hl ((hl _ _ he).mono (by omega)) ((hl _ _ he).mono (by omega)))

/-- Entries learnt later leave the string of a code as it is. -/
theorem codeString_append (hl : Linked l) (t : List (Nat × Byte)) {c : Nat} (hc : IsCode l.length c) :
    codeString (l ++ t) c = codeString l c := by
  have hsame (f : Nat) : stringOf (l ++ t) f c = stringOf l f c := by
    induction f generalizing c with
    | zero => rfl
    | succ f ih =>
      unfold stringOf
      split
      · rfl
      · have hi : c - 258 < l.length := by
          unfold IsCode at hc
          omega
        rw [List.getElem?_append_left hi]
        split
        · next he => rw [ih ((hl _ _ he).mono hi.le)]
        · rfl
  rw [codeString, hsame, codeString]
  exact stringOf_fuel hl (hc.mono (by simp)) hc

/-- An entry that extends a code assigned before it may be added. -/
theorem Linked.concat (hl : Linked l) {p : Nat} (hp : IsCode l.length p) (b : Byte) : Linked (l ++ [(p, b)]) := by
  intro i e he
  rcases Nat.lt_or_ge i l.length with hi | hi
  · exact hl i e (by rwa [List.getElem?_append_left hi] at he)
  · rw [List.getElem?_append_right hi] at he
    obtain rfl : e = (p, b) := List.mem_singleton.1 (List.mem_of_getElem? he)
    exact hp.mono hi

theorem codeString_ne_nil {c : Nat} (hc : IsCode l.length c) : codeString l c ≠ [] := by
  unfold IsCode at hc
  unfold codeString stringOf
  split
  · simp
  · rw [List.getElem?_eq_getElem (show c - 258 < l.length by omega)]
    simp

theorem head_codeString_append {c : Nat} (hc : IsCode l.length c) (t : List Byte) (d : Byte) :
    (codeString l c ++ t).head?.getD d = (codeString l c).head?.getD d := by
  rw [List.head?_append_of_ne_nil _ (codeString_ne_nil hc)]

theorem findEntry_some {p d : Nat} {b : Byte} (h : findEntry l p b = some d) : ∃ i, d = 258 + i ∧ l[i]? = some (p, b) := by
  unfold findEntry at h
  obtain ⟨i, hi, rfl⟩ := Option.map_eq_some_iff.1 h
  obtain ⟨hlt, he, -⟩ := List.findIdx?_eq_some_iff_getElem.1 hi
  exact ⟨i, Nat.add_comm _ _, List.getElem?_eq_some_iff.2 ⟨hlt, by simpa using he⟩⟩

end Strings

/-! ### Learning (R376, R377) -/

/-- A dictionary within its bound whose entries extend codes assigned before them. -/
abbrev DictSound (l : List (Nat × Byte)) : Prop := Linked l ∧ l.length ≤ learntMax

theorem DictSound.linked {l : List (Nat × Byte)} (h : DictSound l) : Linked l := h.1

/-- What the decoder learns when the first byte of the next string is known. -/
def learn (l : List (Nat × Byte)) (prev : Option Nat) (b : Byte) : List (Nat × Byte) :=
  match prev with
  | none => l
  | some p => addEntry l p b

section Learning
variable {l : List (Nat × Byte)} {p c : Nat} {prev : Option Nat}

theorem dictFull_iff (l : List (Nat × Byte)) : dictFull l = true ↔ learntMax ≤ l.length := by simp [dictFull]

theorem addEntry_full (h : dictFull l = true) (p : Nat) (b : Byte) : addEntry l p b = l :=
  if_neg (Nat.not_lt.2 ((dictFull_iff l).1 h))

theorem addEntry_room (h : dictFull l = false) (p : Nat) (b : Byte) : addEntry l p b = l ++ [(p, b)] := by
  refine if_pos (Nat.lt_of_not_le fun hle => ?_)
  simp [(dictFull_iff l).2 hle] at h

theorem DictSound.topEntry_lt (h : DictSound l) : topEntry l < 65536 := by
  have hb := h.2
  unfold learntMax at hb
  unfold topEntry
  omega

theorem DictSound.addEntry (h : DictSound l) (hp : IsCode l.length p) (b : Byte) : DictSound (addEntry l p b) := by
  cases hfull : dictFull l with
  | true => rwa [addEntry_full hfull]
  | false =>
    rw [addEntry_room hfull]
    refine ⟨h.linked.concat hp b, ?_⟩
    have hroom : ¬learntMax ≤ l.length := by rw [← dictFull_iff, hfull]; exact Bool.false_ne_true
    simp
    omega

/-- The width the decoder reads with is the one the next code is written with (R378). -/
theorem decWidth_eq (l : List (Nat × Byte)) (prev : Option Nat) (b : Byte) :
    decWidth l prev = codeWidth (topEntry (learn l prev b)) := by
  cases prev with
  | none => simp [decWidth, learn]
  | some p =>
    cases hfull : dictFull l with
    | true => simp [decWidth, learn, hfull, addEntry_full hfull]
    | false => simp [decWidth, learn, hfull, addEntry_room hfull, topEntry, Nat.add_assoc]

theorem decWidth_none (l : List (Nat × Byte)) : decWidth l none = codeWidth (topEntry l) := decWidth_eq l none 0

/-- Where the next entry does not widen the codes, the decoder reads FLUSH with the width the encoder writes it with (R378). -/
theorem decWidth_same (h : dictFull l = true ∨ codeWidth (topEntry l + 1) = codeWidth (topEntry l)) (prev : Option Nat) :
    decWidth l prev = codeWidth (topEntry l) := by
  unfold decWidth
  split
  · next hroom => exact h.resolve_left (by simp at hroom; simp [hroom])
  · rfl

/-- The decoder gives the string of a code of the encoder's dictionary, its newest entry's among them, and learns what the encoder
has learnt (R377). -/
theorem decCode_learn (h : Linked l) (hprev : ∀ p ∈ prev, IsCode l.length p) {L : List (Nat × Byte)} (hc : IsCode L.length c)
    (hL : L = learn l prev ((codeString L c).head?.getD 0)) : decCode l prev c = some (codeString L c, L) := by
  cases prev with
  | none =>
    obtain rfl : L = l := hL
    simp [decCode, hc.le_topEntry]
  | some p =>
    have hp : IsCode l.length p := hprev p rfl
    generalize hb : (codeString L c).head?.getD 0 = b at hL
    change L = addEntry l p b at hL
    cases hfull : dictFull l with
    | true =>
      rw [addEntry_full hfull] at hL
      subst hL
      simp [decCode, hfull, hc.le_topEntry, addEntry_full hfull]
    | false =>
      rw [addEntry_room hfull] at hL
      have hle : c ≤ topEntry l + 1 := by
        have := hc.le_topEntry
        simpa [hL, topEntry, Nat.add_assoc] using this
      have hstr : (if c ≤ topEntry l then codeString l c else codeString l p ++ (codeString l p).take 1) = codeString L c := by
        unfold IsCode at hc
        unfold topEntry at *
        rw [hL, List.length_append, List.length_singleton] at hc
        split
        · rw [hL, codeString_append h _ (by unfold IsCode; omega)]
        · obtain rfl : c = 258 + l.length := by omega
          have hnew : codeString L (258 + l.length) = codeString l p ++ [b] := by
            rw [hL, codeString_entry (h.concat hp b) (p := p) (b := b) (by simp), codeString_append h _ hp]
          rw [hnew, head_codeString_append hp] at hb
          rw [hnew, ← hb]
          cases hs : codeString l p with
          | nil => exact absurd hs (codeString_ne_nil hp)
          | cons x xs => simp
      simp only [decCode, hfull, Option.isSome_some, Bool.not_false, Bool.and_self, if_true, if_neg (Nat.not_lt.2 hle), hstr, hb,
        addEntry_room hfull]
      rw [hL]

end Learning

/-! ### The encoder (R376) -/

/-- The encoder's dictionary is sound, and its current string has a code. -/
abbrev EncState.Sound (e : EncState) : Prop := DictSound e.learnt ∧ ∀ c ∈ e.cur, IsCode e.learnt.length c

theorem EncState.Sound.learnt {e : EncState} (h : e.Sound) : DictSound e.learnt := h.1
theorem EncState.Sound.cur {e : EncState} (h : e.Sound) : ∀ c ∈ e.cur, IsCode e.learnt.length c := h.2

theorem DictSound.nil : DictSound [] := ⟨fun i e he => by simp at he, Nat.zero_le _⟩

theorem EncState.Sound.encByte {e : EncState} (h : e.Sound) (b : Byte) : (encByte e b).Sound := by
  unfold Machine.encByte
  split
  · exact ⟨h.learnt, fun c hc => by obtain rfl := Option.mem_some.1 hc; exact isCode_byte _ b⟩
  · next c hc =>
    split
    · next d hd =>
      obtain ⟨i, rfl, hi⟩ := findEntry_some hd
      refine ⟨h.learnt, fun c hc => ?_⟩
      obtain rfl := Option.mem_some.1 hc
      exact .inr ⟨by omega, Nat.add_lt_add_left (List.getElem?_eq_some_iff.1 hi).1 _⟩
    · refine ⟨h.learnt.addEntry (h.cur c hc) b, fun c hc => ?_⟩
      obtain rfl := Option.mem_some.1 hc
      exact isCode_byte _ b

/-- The encoder starts with no string. -/
theorem DictSound.start {l : List (Nat × Byte)} (h : DictSound l) : EncState.Sound ⟨l, none, []⟩ := ⟨h, fun _ hc => by simp at hc⟩

theorem EncState.Sound.foldl {e : EncState} (h : e.Sound) (input : List Byte) : (input.foldl Machine.encByte e).Sound :=
  List.foldlRecOn input _ h fun _ h b _ => h.encByte b

/-- A primed dictionary is sound (R375). -/
theorem sound_primed (primer : List Byte) : DictSound (primed primer) :=
  (DictSound.nil.start.foldl primer).learnt

/-! ### The decoder behind the encoder (R377, R378) -/

/-- The code of a sound dictionary, and what follows it, read by a decoder that has learnt all but its newest entry. -/
theorem decodeRun_emit {prime l L : List (Nat × Byte)} {prev : Option Nat} {c need : Nat} (hl : Linked l) (hL : DictSound L)
    (hprev : ∀ p ∈ prev, IsCode l.length p) (hc : IsCode L.length c) (hlearn : L = learn l prev ((codeString L c).head?.getD 0))
    {out : List Byte} (hneed : (out ++ codeString L c).length ≤ need) (f : Nat) (rest : List Bool) :
    decodeRun prime need (f + 1) l prev (emit L c ++ rest) out = decodeRun prime need f L (some c) rest (out ++ codeString L c) := by
  have hw : decWidth l prev = (emit L c).length := by
    rw [decWidth_eq l prev ((codeString L c).head?.getD 0), ← hlearn, emit, bitsOf_length]
  have hread : bitsNat (emit L c) = c :=
    bitsNat_bitsOf ((lt_two_pow_codeWidth hL.topEntry_lt).trans_le' hc.le_topEntry)
  have hplain : c ≠ 257 ∧ c ≠ 256 := by
    unfold IsCode at hc
    omega
  rw [List.length_append] at hneed
  rw [decodeRun, hw]
  simp only [List.length_append, List.take_left, List.drop_left, hread, if_neg hplain.1, if_neg hplain.2,
    decCode_learn hl hprev hc hlearn, if_neg (Nat.not_lt.2 hneed), if_neg (Nat.not_lt.2 (Nat.le_add_right _ _))]

/-- FLUSH with its padding, read where the input is complete (R376, R380). -/
theorem decodeRun_flush {prime l : List (Nat × Byte)} {prev : Option Nat} {need : Nat} (hl : DictSound l)
    (hw : decWidth l prev = codeWidth (topEntry l)) {out : List Byte} (hneed : out.length = need) (f : Nat) {pad : List Bool}
    (hpad : pad.length < 8) : decodeRun prime need (f + 1) l prev (emit l 257 ++ pad) out = ⟨0, l, none, out⟩ := by
  have hread : bitsNat (emit l 257) = 257 :=
    bitsNat_bitsOf ((lt_two_pow_codeWidth hl.topEntry_lt).trans_le' (Nat.le_add_right _ _))
  have hlen : decWidth l prev = (emit l 257).length := by rw [hw, emit, bitsOf_length]
  rw [decodeRun, hlen]
  simp [hread, hpad, hneed]

/-- The decoder, having read the codes that the encoder has emitted of the input so far, has learnt and given what comes before the
encoder's current string, with code `c`. -/
abbrev Trails (prime : List (Nat × Byte)) (need : Nat) (e : EncState) (c : Nat) (input : List Byte) (l : List (Nat × Byte))
    (prev : Option Nat) (out : List Byte) : Prop :=
  Linked l ∧ (∀ p ∈ prev, IsCode l.length p) ∧ e.learnt = learn l prev ((codeString e.learnt c).head?.getD 0) ∧
    out ++ codeString e.learnt c = input ∧
    ∀ f rest, decodeRun prime need (f + e.codes.length) prime none (e.codes.reverse.flatten ++ rest) [] =
      decodeRun prime need f l prev rest out

section Trails
variable {prime l : List (Nat × Byte)} {need c : Nat} {e : EncState} {input : List Byte} {prev : Option Nat} {out : List Byte}

/-- The code of the current string brings the decoder level with the encoder. -/
theorem Trails.emit (h : Trails prime need e c input l prev out) (hs : DictSound e.learnt) (hc : IsCode e.learnt.length c)
    (hneed : input.length ≤ need) (f : Nat) (rest : List Bool) :
    decodeRun prime need (f + (e.codes.length + 1)) prime none ((emit e.learnt c :: e.codes).reverse.flatten ++ rest) [] =
      decodeRun prime need f e.learnt (some c) rest input := by
  obtain ⟨hlinked, hprev, hlearnt, hgiven, hreads⟩ := h
  have hstep := decodeRun_emit (prime := prime) hlinked hs hprev hc hlearnt (out := out) (need := need) (by rwa [hgiven]) f rest
  rw [hgiven] at hstep
  rw [← hstep, ← hreads, Nat.add_assoc, Nat.add_comm 1]
  simp

/-- The next byte extends the current string or begins the next one, once the code of the current one is emitted. -/
theorem Trails.encByte (h : Trails prime need e c input l prev out) (hs : e.Sound) (hcur : e.cur = some c)
    (hneed : input.length ≤ need) (b : Byte) :
    ∃ d l prev out, (encByte e b).cur = some d ∧ Trails prime need (encByte e b) d (input ++ [b]) l prev out := by
  have hc := hs.cur c hcur
  have hemit := h.emit hs.learnt hc hneed
  obtain ⟨hlinked, hprev, hlearnt, hgiven, hreads⟩ := h
  unfold Machine.encByte
  rw [hcur]
  dsimp only
  split
  · next d hd =>
    obtain ⟨i, rfl, hi⟩ := findEntry_some hd
    have hstr := codeString_entry hs.learnt.linked hi
    refine ⟨258 + i, l, prev, out, rfl, hlinked, hprev, ?_, ?_, hreads⟩
    · dsimp only
      rw [hstr, head_codeString_append hc]
      exact hlearnt
    · dsimp only
      rw [hstr, ← List.append_assoc, hgiven]
  · refine ⟨b.toNat, e.learnt, some c, input, rfl, hs.learnt.linked, fun p hp => ?_, ?_, ?_, hemit⟩
    · obtain rfl := Option.mem_some.1 hp
      exact hc
    · simp [codeString_byte, learn]
    · simp [codeString_byte]

end Trails

/-- Over a whole input the decoder stays one entry behind. -/
theorem trails_foldl {prime : List (Nat × Byte)} (hprime : DictSound prime) {need : Nat} {input : List Byte} (hne : input ≠ [])
    (hneed : input.length ≤ need) :
    ∃ c l prev out, (input.foldl encByte ⟨prime, none, []⟩).cur = some c ∧
      Trails prime need (input.foldl encByte ⟨prime, none, []⟩) c input l prev out := by
  induction input using List.reverseRecOn with
  | nil => exact absurd rfl hne
  | append_singleton input b ih =>
    rw [List.foldl_append, List.foldl_cons, List.foldl_nil]
    rcases List.eq_nil_or_concat input with rfl | ⟨_, _, hcons⟩
    · refine ⟨b.toNat, prime, none, [], rfl, hprime.linked, fun p hp => by simp at hp, rfl, ?_, fun f rest => rfl⟩
      exact codeString_byte prime b
    · rw [List.length_append] at hneed
      have hshort : input.length ≤ need := by omega
      obtain ⟨c, l, prev, out, hcur, htrail⟩ := ih (by simp [hcons]) hshort
      exact htrail.encByte (hprime.start.foldl input) hcur hshort b

/-! ### FLUSH (R376) -/

/-- The bits that fill the last byte. -/
def padBits (n : Nat) : List Bool := List.replicate ((8 - n % 8) % 8) false

theorem padBits_length_lt (n : Nat) : (padBits n).length < 8 := by
  simp [padBits, Nat.mod_lt]

theorem flushed_flatten (e : EncState) :
    (flushed e).flatten = (encSpecial e 257).codes.reverse.flatten ++ padBits (encSpecial e 257).codes.reverse.flatten.length := by
  unfold flushed
  dsimp only
  split
  · next h => rw [h]; rfl
  · next x xs h =>
    rw [h, ← List.sum_eq_foldl, ← List.length_flatten, padBits]
    simp only [List.reverse_cons, List.flatten_append, List.flatten_cons, List.flatten_nil, List.append_nil, List.length_append,
      List.append_assoc]
    simp [List.length_flatten, List.sum_reverse, Nat.add_comm]

/-- A code stream is whole bytes. -/
theorem flushed_length_mod (e : EncState) : (flushed e).flatten.length % 8 = 0 := by
  rw [flushed_flatten, List.length_append]
  simp only [padBits, List.length_replicate]
  omega

theorem encByte_codes (e : EncState) (b : Byte) :
    (encByte e b).codes = e.codes ∨ ∃ c, (encByte e b).codes = emit e.learnt c :: e.codes := by
  unfold encByte
  split
  · exact .inl rfl
  · split
    · exact .inl rfl
    · exact .inr ⟨_, rfl⟩

/-- No code is empty: there are at least as many bits as codes. -/
theorem codes_length_le (prime : List (Nat × Byte)) (input : List Byte) :
    (input.foldl encByte ⟨prime, none, []⟩).codes.length ≤ (input.foldl encByte ⟨prime, none, []⟩).codes.reverse.flatten.length := by
  refine List.foldlRecOn input _ (motive := fun e : EncState => e.codes.length ≤ e.codes.reverse.flatten.length) le_rfl
    fun e ih b _ => ?_
  rcases encByte_codes e b with h | ⟨c, h⟩
  · rwa [h]
  · have hw := nine_le_codeWidth (topEntry e.learnt)
    rw [h]
    simp only [List.length_cons, List.reverse_cons, List.flatten_append, List.flatten_cons, List.flatten_nil, List.append_nil,
      List.length_append, emit, bitsOf_length]
    omega

/-! ### The statement -/

/-- The whole code stream of an input gives the input back, and leaves the decoder with the encoder's dictionary. -/
theorem decodeRun_encoded {prime : List (Nat × Byte)} (hprime : DictSound prime) (input : List Byte) {e : EncState}
    (he : input.foldl encByte ⟨prime, none, []⟩ = e)
    (hwidth : e.cur = none ∨ dictFull e.learnt = true ∨ codeWidth (topEntry e.learnt + 1) = codeWidth (topEntry e.learnt))
    {pad : List Bool} (hpad : pad.length < 8) {code : List Bool} (hcode : (encSpecial e 257).codes.reverse.flatten ++ pad = code) :
    decodeRun prime input.length (code.length + 1) prime none code [] = ⟨0, e.learnt, none, input⟩ := by
  subst hcode
  rcases eq_or_ne input [] with rfl | hne
  · subst he
    simpa [encSpecial] using decodeRun_flush hprime (decWidth_none prime) List.length_nil _ hpad
  · obtain ⟨c, l, prev, out, hcur, htrail⟩ := trails_foldl hprime hne le_rfl
    have hs := hprime.start.foldl input
    have hlen := codes_length_le prime input
    rw [he] at hcur htrail hs hlen
    have hsame := decWidth_same (hwidth.resolve_left (by simp [hcur])) (some c)
    have hlast := htrail.emit hs.learnt (hs.cur c hcur) le_rfl
    have hbits : (encSpecial e 257).codes.reverse.flatten ++ pad =
        (emit e.learnt c :: e.codes).reverse.flatten ++ (emit e.learnt 257 ++ pad) := by
      simp [encSpecial, hcur]
    have hlong : e.codes.length + 1 ≤ ((encSpecial e 257).codes.reverse.flatten ++ pad).length := by
      have hw := nine_le_codeWidth (topEntry e.learnt)
      rw [hbits]
      simp only [List.reverse_cons, List.flatten_append, List.flatten_cons, List.flatten_nil, List.append_nil, List.length_append,
        emit, bitsOf_length]
      omega
    obtain ⟨f, hf⟩ := Nat.exists_eq_add_of_le' hlong
    rw [hf, Nat.add_right_comm, hbits, hlast, decodeRun_flush hs.learnt hsame rfl f hpad]

/-- Settles O7: over the codes of the input the decoder trails the encoder by one entry, which the code of the last string gives it, and
FLUSH has one width for both. -/
theorem decoderUndoesEncoder : Obligations.DecoderUndoesEncoder := by
  unfold Obligations.DecoderUndoesEncoder
  intro primer input e code hwidth
  exact ⟨flushed_length_mod e,
    decodeRun_encoded (sound_primed primer) input rfl hwidth (padBits_length_lt _) (flushed_flatten e).symm⟩

end Sys2Proof.Machine
end

section
/-! SUPPORT. The statement about ZTT messages: how one arrives, is dispatched to an engine and fails (R371 to R373, R381, R386, R497). -/

namespace Sys2Proof.Machine

/-! ### Numbers that an answer leaves alone (R384, R494) -/

section Answers
variable (s : State)

/-- A count of another object, other than that of lost events, leaves a number alone. -/
theorem State.rn_bump_other (k n : Nat) {idx sub i b : Nat} (h : key i b ≠ key idx sub) (hlost : key i b ≠ key 0x2200 0x05) :
    (s.bump k idx sub n).rn i b = s.rn i b :=
  State.rn_of_look (s.look_bump_other k n h hlost)

/-- A write-back counts itself, and may lose an event, but leaves every other number. -/
theorem State.rn_writeBack_other (q : Nat) (w : WriteBack) {i b : Nat} (h : b ≠ 0x0B) (hb : b < 256)
    (hlost : key i b ≠ key 0x2200 0x05) : (s.writeBack q w).rn i b = s.rn i b := by
  unfold State.writeBack
  extract_lets g ph s₁ s₂ s₃ s₄
  have h₂ : s₂.rn i b = s.rn i b := State.rn_of_look (by rw [State.say_od]; rfl)
  have h₃ : s₃.rn i b = s.rn i b := by
    simp only [s₃]
    split
    · rw [State.rn_bump_other _ _ _ (by simp only [key]; omega) hlost, h₂]
    · exact h₂
  have h₄ : s₄.od = s₃.od := by
    simp only [s₄]
    split <;> simp
  split
  · rfl
  split
  · exact (State.rn_of_look (by rw [State.ringInt_od, h₄])).trans h₃
  · rfl

theorem State.rn_zttReply_other (m : ZttWait) (lease err : Nat) (final more : Bool) {i b : Nat} (h : b ≠ 0x0B) (hb : b < 256)
    (hlost : key i b ≠ key 0x2200 0x05) : (s.zttReply m lease err final more).rn i b = s.rn i b := by
  unfold State.zttReply
  dsimp only
  split
  · split
    · exact State.rn_of_look (by rw [State.say_od])
    · rfl
  · exact s.rn_writeBack_other _ _ h hb hlost

end Answers

/-! ### Messages that fail (R381) -/

/-- A state without what counts, events and outputs change. -/
def State.sansSaid (s : State) : State := { s.sansCounts with out := [] }

/-- States that differ in these alone: one is the other with those parts. -/
theorem State.eq_of_sansSaid {a b : State} (h : a.sansSaid = b.sansSaid) : a = { b with od := a.od, log := a.log, out := a.out } :=
  congrArg (fun x : State => { x with od := a.od, log := a.log, out := a.out }) h

theorem State.sansSaid_of_sansCounts {a b : State} (h : a.sansCounts = b.sansCounts) : a.sansSaid = b.sansSaid :=
  congrArg (fun x : State => { x with out := [] }) h

theorem State.Delivers.wn {a b : State} (h : State.Delivers a b) (idx sub v : Nat) : State.Delivers a (b.wn idx sub v) :=
  h.trans ⟨rfl, List.Subset.refl _⟩

section Fails
variable (s : State) (m : ZttWait) (err : Nat)

theorem State.wn_sansSaid (idx sub v : Nat) : (s.wn idx sub v).sansSaid = s.sansSaid := rfl
theorem State.bump_sansSaid (k idx sub n : Nat) : (s.bump k idx sub n).sansSaid = s.sansSaid :=
  State.sansSaid_of_sansCounts (s.bump_sansCounts k idx sub n)
theorem State.say_sansSaid (o : Out) : (s.say o).sansSaid = s.sansSaid := by
  rw [s.say_frame]
  rfl

theorem State.zttFail_delivers : State.Delivers s (s.zttFail m err) := by
  have hcounted := (((State.Delivers.refl s).bump (coderKey 0) (0x5810 + m.sess) 0x0E 1).bump (coderKey 0) 0x5800 0x05 1).wn
    (0x5810 + m.sess) 0x11 err
  exact hcounted.trans (State.zttReply_delivers _ m 0 err true false)

/-- A failed message is counted in its session's object and the package's, with its error. -/
theorem State.zttFail_counts : s.counted (s.zttFail m err) (0x5810 + m.sess) 0x0E 1 ∧ s.counted (s.zttFail m err) 0x5800 0x05 1 ∧
    (s.zttFail m err).rn (0x5810 + m.sess) 0x11 = err := by
  unfold State.zttFail
  extract_lets i s₁
  have hreply {j b : Nat} (hb : b ≠ 0x0B ∧ b < 256) (hlost : key j b ≠ key 0x2200 0x05) :
      (s₁.zttReply m 0 err true false).rn j b = s₁.rn j b := State.rn_zttReply_other _ _ _ _ _ _ hb.1 hb.2 hlost
  refine ⟨?_, ?_, ?_⟩
  · refine (s.counted_bump (coderKey 0) i 0x0E 1).congr rfl ?_
    rw [hreply (by decide) (by simp only [key]; omega), State.rn_wn_sub _ _ _ _ (by decide) (by decide) (by decide),
      State.rn_bump_sub _ _ _ _ _ (by decide) (by decide) (by decide)]
  · refine (State.counted_bump (s.bump (coderKey 0) i 0x0E) (coderKey 0) 0x5800 0x05 1).congr ?_ ?_
    · rw [State.rn_bump_other _ _ _ (by simp only [key]; omega) (by decide)]
    · rw [hreply (by decide) (by decide), State.rn_wn_sub _ _ _ _ (by decide) (by decide) (by decide)]
  · rw [hreply (by decide) (by simp only [key]; omega), State.rn_wn_same]

/-- A message from UDP is answered, if at all, by an output. -/
theorem State.zttFail_sansSaid {p dport sport : Nat} {dst src : List Byte} (hvia : m.via = .udp p dst src dport sport) :
    (s.zttFail m err).sansSaid = s.sansSaid := by
  unfold State.zttFail State.zttReply
  rw [hvia]
  extract_lets i s₁ n
  have hsaid : s₁.sansSaid = s.sansSaid := by simp only [s₁, State.wn_sansSaid, State.bump_sansSaid]
  dsimp only
  split
  · rw [State.say_sansSaid, hsaid]
  · exact hsaid

end Fails

/-! ### Arrival (R371, R372, R381) -/

section Arrival
variable {s : State} {n p dport sport : Nat} {dst src b : List Byte}

/-- A message over UDP comes to the session that its port and destination map to. -/
theorem State.zttMessage_udp (hears : s.portHears p = true) (hses : s.zttSession (.udp p dst src dport sport) = some n) (b : List Byte) :
    s.zttMessage (.udp p dst src dport sport) b = s.zttArrive n (.udp p dst src dport sport) 0 b := by
  unfold State.zttMessage
  dsimp only [ZttIn.via]
  rw [hses]
  exact if_neg (by simp [hears])

theorem State.zttMessage_deaf (hdeaf : s.portHears p = false) (b : List Byte) : s.zttMessage (.udp p dst src dport sport) b = s :=
  if_pos (by simp [hdeaf])

/-- A malformed message fails with error 1. -/
theorem State.zttArrive_malformed (via : ZttVia) (desc : Nat) (hbad : b.length < 64 ∨ (zttHeader b).ok (b.length - 64) = false) :
    s.zttArrive n via desc b = s.zttFail ⟨n, via, desc, zttHeader b, b.drop 64, s.clock, false, false⟩ 1 :=
  if_pos (by simpa using hbad)

theorem State.zttMessage_malformed (hears : s.portHears p = true) (hses : s.zttSession (.udp p dst src dport sport) = some n)
    (hbad : b.length < 64 ∨ (zttHeader b).ok (b.length - 64) = false) :
    ∃ s', s.zttMessage (.udp p dst src dport sport) b = s' ∧ s.counted s' (0x5810 + n) 0x0E 1 ∧ s.counted s' 0x5800 0x05 1 ∧
      s'.rn (0x5810 + n) 0x11 = 1 ∧ s' = { s with od := s'.od, log := s'.log, out := s'.out } := by
  have heq := (State.zttMessage_udp hears hses b).trans (State.zttArrive_malformed _ 0 hbad)
  generalize hm : (⟨n, .udp p dst src dport sport, 0, zttHeader b, b.drop 64, s.clock, false, false⟩ : ZttWait) = m at heq
  refine ⟨_, heq, ?_⟩
  obtain ⟨hown, hall, herr⟩ := s.zttFail_counts m 1
  have hsess : m.sess = n := hm ▸ rfl
  rw [hsess] at hown herr
  have hvia : m.via = .udp p dst src dport sport := hm ▸ rfl
  exact ⟨hown, hall, herr, State.eq_of_sansSaid (s.zttFail_sansSaid m 1 hvia)⟩

/-- A wrapping counter's value comes after the one before it (R12). -/
theorem serialAfter_wrapDec {n x : Nat} (hn : 2 ≤ n) (h : x < 2 ^ n) : serialAfter n x (wrapDec n x) = true := by
  have hhalf : 2 ^ 1 ≤ 2 ^ (n - 1) := Nat.pow_le_pow_right (by decide) (by omega)
  have hfull : 2 ^ 1 ≤ 2 ^ n := Nat.pow_le_pow_right (by decide) (by omega)
  have hone : serialDiff n x (wrapDec n x) = 1 := by
    unfold serialDiff wrapDec
    generalize 2 ^ n = N at h hfull ⊢
    rw [Nat.mod_mod, Nat.mod_eq_of_lt h]
    cases x with
    | zero =>
      have hprev : (0 + N - 1) % N = N - 1 := by rw [Nat.zero_add, Nat.mod_eq_of_lt (by omega)]
      rw [hprev, show 0 + N - (N - 1) = 1 by omega, Nat.mod_eq_of_lt (by omega)]
    | succ y =>
      have hprev : (y + 1 + N - 1) % N = y := by
        rw [show y + 1 + N - 1 = y + N by omega, Nat.add_mod_right, Nat.mod_eq_of_lt (by omega)]
      rw [hprev, show y + 1 + N - y = 1 + N by omega, Nat.add_mod_right, Nat.mod_eq_of_lt (by omega)]
  unfold serialAfter
  simp [hone]
  omega
/-- In a session that runs, the packet is the last one received. -/
theorem State.zttAccept_running (hrun : s.sst n = sessRunning) : s.zttAccept n = s.setSes n { s.ses n with last := s.clock } := by
  unfold State.zttAccept
  rw [hrun]
  rfl

/-- The message expected, or the first one of a session, waits for an engine. -/
theorem State.zttArrive_expected {via : ZttVia} {desc : Nat} (hlen : 64 ≤ b.length) (hok : (zttHeader b).ok (b.length - 64) = true)
    (hsess : (zttHeader b).sess = n) (hopen : s.zttOpen via n = true) (hrun : s.sst n = sessRunning)
    (hseq : (s.gfxOf n).expected = none ∨ (s.gfxOf n).expected = some (zttHeader b).seq)
    (hrange : ∀ x, (s.gfxOf n).expected = some x → x < 2 ^ 32) :
    s.zttArrive n via desc b =
      { (s.setGfx n { s.gfxOf n with expected := some (((zttHeader b).seq + 1) % 2 ^ 32) }).setSes n
          { s.ses n with last := s.clock } with
        zttQ := s.zttQ ++ [⟨n, via, desc, zttHeader b, b.drop 64, s.clock, false, false⟩] } := by
  unfold State.zttArrive
  extract_lets h i g m prev dup gap sDup ahead s₁ s₂ s₃ s₄
  have hdup : dup = false := by
    simp only [dup, prev, g]
    rcases hseq with hnone | hnext
    · rw [hnone]
      rfl
    · rw [hnext]
      exact (Bool.not_eq_false' ..).mpr (serialAfter_wrapDec (by decide) (hrange _ hnext))
  have hgap : gap = false := by
    simp only [gap, g]
    rcases hseq with hnone | hnext
    · rw [hnone]
    · rw [hnext]
      exact decide_eq_false (not_not_intro rfl)
  refine (if_neg (by simp [h, hok, hlen])).trans ((if_neg (by simp [h, hsess, hopen])).trans ?_)
  refine (if_neg (by simp [hdup])).trans ?_
  have hs₂ : s₂ = s₁.setSes n { s.ses n with last := s.clock } := State.zttAccept_running hrun
  have hs₄ : s₄ = s₂ := (if_neg (by simp [hgap])).trans (if_neg (by simp [hgap]))
  rw [hs₄, hs₂, hgap]
  rfl

theorem State.zttMessage_expected (hears : s.portHears p = true) (hses : s.zttSession (.udp p dst src dport sport) = some n)
    (hlen : 64 ≤ b.length) (hok : (zttHeader b).ok (b.length - 64) = true) (hsess : (zttHeader b).sess = n)
    (hopen : s.zttOpen (.udp p dst src dport sport) n = true) (hrun : s.sst n = sessRunning)
    (hseq : (s.gfxOf n).expected = none ∨ (s.gfxOf n).expected = some (zttHeader b).seq)
    (hrange : ∀ x, (s.gfxOf n).expected = some x → x < 2 ^ 32) :
    ∃ s', s.zttMessage (.udp p dst src dport sport) b = s' ∧
      s'.zttQ = s.zttQ ++ [⟨n, .udp p dst src dport sport, 0, zttHeader b, b.drop 64, s.clock, false, false⟩] ∧
      s'.gfxOf n = { s.gfxOf n with expected := some (((zttHeader b).seq + 1) % 2 ^ 32) } ∧
      s'.ses n = { s.ses n with last := s.clock } ∧ (∀ m, m ≠ n → s'.ses m = s.ses m) ∧
      s' = { s with sess := s'.sess, gfx := s'.gfx, zttQ := s'.zttQ } :=
  ⟨_, (State.zttMessage_udp hears hses b).trans (State.zttArrive_expected hlen hok hsess hopen hrun hseq hrange), rfl,
    Tab.at'_put_same _ _ _ _, Tab.at'_put_same _ _ _ _, fun _ hm => Tab.at'_put_other _ _ _ hm, rfl⟩

end Arrival

/-! ### Descriptors (R497, R498) -/

/-- Bits of a word from parts of it. -/
theorem bits_split (v : Nat) {hi mid lo : Nat} (hlo : lo ≤ mid + 1) (hhi : mid ≤ hi) :
    bits v hi lo = bits v mid lo + 2 ^ (mid + 1 - lo) * bits v hi (mid + 1) := by
  unfold bits
  rw [show hi + 1 - lo = (mid + 1 - lo) + (hi + 1 - (mid + 1)) by omega, Nat.pow_add, Nat.mod_mul,
    ← Nat.shiftRight_eq_div_pow, ← Nat.shiftRight_add, show lo + (mid + 1 - lo) = mid + 1 by omega]

/-- R497, by the fields. -/
theorem plainDesc_iff {d : Desc} : plainDesc d = true ↔ d.rsvdA = 0 ∧ d.addrB = 0 ∧ d.lenB = 0 ∧ d.rsvdB = 0 := by
  simp [plainDesc, and_assoc]

section Rings
variable {s : State} {q : Nat}

/-- A descriptor that breaks R497 for a ring of ZTT messages is answered as invalid. -/
theorem State.zttMessage_invalid {i : Nat} {v : State} (hfetch : s.fetchDesc q 1 = some (i, v)) {w : List Byte} (b : List Byte)
    (hbad : bits (leNat w) 95 64 < 64 ∨ 37748800 < bits (leNat w) 95 64 ∨ bit (leNat w) 96 = true ∨ bits (leNat w) 255 97 ≠ 0) :
    s.zttMessage (.ring q w) b = v.writeBack q (invalidDesc i) := by
  have hplain : bits (leNat w) 255 97 ≠ 0 → plainDesc (readDesc ⟨w, b⟩) = false := by
    intro h
    rw [bits_split _ (mid := 127) (by decide) (by decide), bits_split _ (mid := 191) (lo := 127 + 1) (by decide) (by decide),
      bits_split _ (mid := 223) (lo := 191 + 1) (by decide) (by decide)] at h
    by_contra hzero
    have hzero' : bits (leNat w) 127 97 = 0 ∧ bits (leNat w) 191 128 = 0 ∧ bits (leNat w) 223 192 = 0 ∧
        bits (leNat w) 255 224 = 0 := plainDesc_iff.1 (Bool.not_eq_false _ ▸ hzero)
    obtain ⟨ha, hb, hc, hd⟩ := hzero'
    exact h (by simp only [ha, hb, hc, hd, Nat.mul_zero, Nat.add_zero])
  unfold State.zttMessage
  dsimp only
  rw [hfetch]
  refine if_pos ?_
  simp only [Bool.or_eq_true, Bool.not_eq_true', decide_eq_true_eq]
  rcases hbad with hshort | hlong | hstamp | hrest
  · exact .inl (.inr hshort)
  · exact .inr hlong
  · exact .inl (.inl (.inr hstamp))
  · exact .inl (.inl (.inl (hplain hrest)))

theorem State.zttMessage_unfetched (hnone : s.fetchDesc q 1 = none) (w b : List Byte) : s.zttMessage (.ring q w) b = s := by
  unfold State.zttMessage
  dsimp only
  rw [hnone]

/-- A ring that runs gives the next descriptor that its doorbell covers (R493). -/
theorem State.fetchDesc_some {kind : Nat} (hq : q < 32) (hrun : (s.ring q).running = true) (hkind : (s.ring q).kind = kind)
    (hnew : serialAfter 32 (s.ring q).host (s.ring q).fetch = true) : ∃ v, s.fetchDesc q kind = some ((s.ring q).fetch, v) :=
  ⟨_, if_pos (by simp [hq, hrun, hkind, hnew])⟩

end Rings

/-! ### Engines (R386) -/

section Engines
variable {s : State} {z : Nat}

/-- A free engine that serves takes the first message whose session has none on an engine. -/
theorem State.zttDispatch_takes {m : ZttWait} (hz : z < 4) (hfree : s.engines.look z = none) (hserves : s.serves (coderKey z) = true)
    (hdie : s.dieLost (z / 2) = false) (hfirst : s.zttQ.find? (fun m => !s.engines.any (fun p => p.2.sess = m.sess)) = some m) :
    ∃ s', s.zttDispatch z = s' ∧ s'.engines.look z = some m ∧ s'.zttQ = s.zttQ.filter (· ≠ m) ∧
      s'.engLast.look z = some m.sess ∧
      (∀ y, y ≠ z → s'.engines.look y = s.engines.look y) ∧
      (s.engLast.look z ≠ some m.sess → s.counted s' (0x5810 + m.sess) 0x12 1) ∧
      s' = { s with od := s'.od, log := s'.log, zttQ := s'.zttQ, engines := s'.engines, engLast := s'.engLast } := by
  let c := if s.engLast.look z = some m.sess then s else s.bump (coderKey z) (0x5810 + m.sess) 0x12
  have hc : c = { s with od := c.od, log := c.log } := by
    simp only [c]
    split
    · rfl
    · exact s.bump_frame _ _ _ _
  have heq : s.zttDispatch z =
      { c with zttQ := s.zttQ.filter (· ≠ m), engines := s.engines.put z m, engLast := s.engLast.put z m.sess } := by
    unfold State.zttDispatch
    rw [if_neg (by simp [hz, hfree, hserves, hdie]), hfirst]
    have hgoal : (if s.engLast.look z = some m.sess then s else s.bump (coderKey z) (0x5810 + m.sess) 0x12) = c := rfl
    simp only [hgoal]
    rw [hc]
  refine ⟨_, heq, Tab.look_put_same _ _ _, rfl, Tab.look_put_same _ _ _, fun y hy => Tab.look_put_other _ _ hy,
    fun hnew => ?_, ?_⟩
  · refine (s.counted_bump (coderKey z) (0x5810 + m.sess) 0x12 1).congr rfl ?_
    rw [← show c = _ from if_neg hnew]
    rfl
  · dsimp only
    rw [hc]

theorem State.zttDispatch_idle (h : 4 ≤ z ∨ (s.engines.look z).isSome = true ∨ s.zttQ = []) : s.zttDispatch z = s := by
  unfold State.zttDispatch
  rcases h with hz | hbusy | hempty
  · exact if_pos (by simp [hz])
  · exact if_pos (by simp [hbusy])
  · rw [hempty]
    split <;> rfl

theorem State.zttApplied_free (hfree : s.engines.look z = none) : s.zttApplied z = s := by
  unfold State.zttApplied
  rw [hfree]

end Engines

end Sys2Proof.Machine
end

section
/-! SUPPORT. The statement about ZTT messages: a write applied to its buffer (R366, R367, R381, R574). -/

namespace Sys2Proof.Machine

/-! ### What a relay of a message leaves alone (R574) -/

/-- A state without what relaying a message changes: dictionary values, the log, contexts, the links' queues and the relays' rows. -/
def State.sansRelayedMessage (s : State) : State := { s.sansSent with od := [], log := {}, ctxs := [] }

section Relay
variable (s : State)

theorem State.relayStream_sansRelayedMessage (no : Nat) (b : List Byte) :
    (s.relayStream no b).sansRelayedMessage = s.sansRelayedMessage :=
  congrArg (fun x : State => { x with od := [], log := {}, ctxs := [] }) (s.relayStream_sansSent no b)

theorem State.bump_sansRelayedMessage (k idx sub n : Nat) : (s.bump k idx sub n).sansRelayedMessage = s.sansRelayedMessage := by
  rw [s.bump_frame]
  rfl

theorem State.relayCoded_sansRelayedMessage (no : Nat) (b : List Byte) :
    (s.relayCoded no b).sansRelayedMessage = s.sansRelayedMessage := by
  unfold State.relayCoded
  split
  · rfl
  · refine foldl_leaves State.sansRelayedMessage _ (fun s i => ?_) s _
    dsimp only
    split_ifs
    · rw [State.relayStream_sansRelayedMessage, State.bump_sansRelayedMessage]
    · rw [State.relayStream_sansRelayedMessage]
      rfl
    · rw [State.relayStream_sansRelayedMessage, State.bump_sansRelayedMessage]
    · rw [State.relayStream_sansRelayedMessage]
      rfl

theorem State.relayMessage_sansRelayedMessage (n : Nat) (h : ZttHdr) (px : List Byte) :
    (s.relayMessage n h px).sansRelayedMessage = s.sansRelayedMessage := by
  refine foldl_leaves State.sansRelayedMessage _ (fun s no => ?_) s _
  exact (State.relayCoded_sansRelayedMessage _ _ _).trans rfl

/-! Its counts are of stored blocks and of lost events -/

@[simp] theorem State.relayStream_od (no : Nat) (b : List Byte) : (s.relayStream no b).od = s.od :=
  (congrArg State.od (s.relayStream_sansSent no b) :)

theorem State.relayCoded_column {b : Nat} (h : b ≠ 0x07 ∧ b ≠ 0x05) (hb : b < 256) (no : Nat) (bytes : List Byte) :
    (s.relayCoded no bytes).column b = s.column b := by
  unfold State.relayCoded
  split
  · rfl
  · refine foldl_leaves (State.column · b) _ (fun s i => ?_) s _
    have hstream (s : State) (p : List Byte) : (s.relayStream no p).column b = s.column b := State.column_of_od (by simp) b
    have hbump := s.bump_column hb (coderKey 0) 0x5800 1 h.1 h.2 (by decide)
    dsimp only
    split_ifs
    · rw [hstream, hbump]
    · rw [hstream]
      rfl
    · rw [hstream, hbump]
    · rw [hstream]
      rfl

theorem State.relayMessage_column {b : Nat} (h : b ≠ 0x07 ∧ b ≠ 0x05) (hb : b < 256) (n : Nat) (hdr : ZttHdr) (px : List Byte) :
    (s.relayMessage n hdr px).column b = s.column b := by
  refine foldl_leaves (State.column · b) _ (fun s no => ?_) s _
  exact (State.relayCoded_column _ h hb _ _).trans rfl

end Relay

/-! ### A write into its buffer (R366, R368) -/

/-- The stride of a surface's rows in bytes. -/
def State.stride (s : State) (n : Nat) (h : ZttHdr) : Nat := s.rn (sIdx n) 0x10 * bytesPerPixel h.fmt

/-- The bytes of a buffer with a rectangle of pixels in its place. -/
def State.dataWritten (s : State) (n : Nat) (h : ZttHdr) (data : List Host.Cell) (px : List Byte) : List Host.Cell :=
  putRows (s.stride n h) (h.y * s.stride n h + h.x * bytesPerPixel h.fmt) (h.w * bytesPerPixel h.fmt) h.h data px

theorem State.gfxOf_of_gfx {a b : State} (h : a.gfx = b.gfx) (k : Nat) : a.gfxOf k = b.gfxOf k := by
  simp only [State.gfxOf, h]

section Write
variable (s : State) (n : Nat) (h : ZttHdr) (px : List Byte)

theorem State.showNewest_bufs : ((s.showNewest n).gfxOf n).bufs = (s.gfxOf n).bufs := by
  unfold State.showNewest
  extract_lets g live best s₁
  have hrow : s₁.gfxOf n = { g with newest := best.map (·.1) } := s.gfxOf_setGfx_same n _
  exact (congrArg GfxS.bufs hrow :)

theorem State.showNewest_gfxOf {k : Nat} (hk : k ≠ n) : (s.showNewest n).gfxOf k = s.gfxOf k := s.gfxOf_setGfx_other _ hk

theorem State.setBuf_bufs (b : Nat) (u : BufS) : ((s.setBuf n b u).gfxOf n).bufs = (s.gfxOf n).bufs.put b u :=
  (congrArg GfxS.bufs (s.gfxOf_setGfx_same n { s.gfxOf n with bufs := (s.gfxOf n).bufs.put b u }) :)

/-- A write puts one buffer of its session's surface, incomplete and without a picture; where it has the write's format, its bytes
are those of before with the rectangle in its place. -/
theorem State.zttWrite_bufs : ∃ u, ((s.zttWrite n h px).gfxOf n).bufs = (s.gfxOf n).bufs.put h.buf u ∧ u.complete = false ∧
    u.pic = none ∧ (((s.gfxOf n).bufs.at' h.buf {}).fmt = some h.fmt →
      u.data = s.dataWritten n h ((s.gfxOf n).bufs.at' h.buf {}).data px) := by
  unfold State.zttWrite
  extract_lets u bpp stride other taint cov data
  refine ⟨_, (State.showNewest_bufs _ n).trans (s.setBuf_bufs n h.buf _), rfl, rfl, fun hfmt => ?_⟩
  have hsame : other = false := decide_eq_false (not_not_intro hfmt)
  simp only [data, hsame]
  rfl

theorem State.zttWrite_gfxOf {k : Nat} (hk : k ≠ n) : (s.zttWrite n h px).gfxOf k = s.gfxOf k := by
  unfold State.zttWrite
  exact (State.showNewest_gfxOf _ n hk).trans (s.gfxOf_setGfx_other _ hk)

theorem State.zttWrite_engines : (s.zttWrite n h px).engines = s.engines := rfl

end Write

/-! ### A message applied (R366, R367, R381) -/

section Applied
variable {s : State} {m : ZttWait}

/-- A message to a buffer that is not open fails with error 4 (R381). -/
theorem State.zttApply_closed (hdefer : m.defer = false) (hcoded : m.hdr.coded = false) (hrestart : m.hdr.restart = false)
    (hnone : (s.gfxOf m.sess).bufs.look m.hdr.buf = none) : s.zttApply m = s.zttFail m 4 := by
  unfold State.zttApply
  simp only [hdefer, hcoded, hrestart, Bool.false_eq_true, if_false, Bool.and_false, Bool.false_and, hnone, State.zttF]

/-- An uncoded DATA message that presents nothing, without RESTART and without a gap's effects to take first (R371, R383). -/
abbrev ZttWait.Plain (m : ZttWait) : Prop :=
  m.defer = false ∧ m.hdr.coded = false ∧ m.hdr.restart = false ∧ m.hdr.typ = 1 ∧ m.hdr.present = false

/-- The rectangle lies on the session's surface, and its pixels are as many as the message carries, within the budget (R381). -/
abbrev State.Fits (s : State) (m : ZttWait) : Prop :=
  0 < m.hdr.w ∧ m.hdr.x + m.hdr.w ≤ s.rn (sIdx m.sess) 0x10 ∧ m.hdr.y + m.hdr.h ≤ s.rn (sIdx m.sess) 0x11 ∧
    m.hdr.cls = s.rn (0x5810 + m.sess) 0x02 ∧ m.payload.length = m.hdr.w * m.hdr.h * bytesPerPixel m.hdr.fmt ∧
    m.payload.length ≤ s.rn (0x5810 + m.sess) 0x03

/-- The message's buffer has its format, and neither a lease nor a queued write holds it back (R292, R368). -/
abbrev State.Admits (s : State) (m : ZttWait) (v : BufS) : Prop :=
  (s.gfxOf m.sess).bufs.look m.hdr.buf = some v ∧ v.fmt = some m.hdr.fmt ∧ m.hdr.fmt ≤ 3 ∧ v.leased = false ∧
    s.queued.any (fun q => q.msg.sess = m.sess && q.msg.hdr.buf = m.hdr.buf) = false

/-- The pixels of an uncoded message (R379). -/
def ZttWait.pixels (m : ZttWait) : List Byte :=
  if m.hdr.delta then undoDelta (bytesPerPixel m.hdr.fmt) (m.hdr.w * bytesPerPixel m.hdr.fmt) m.hdr.h m.payload else m.payload

/-- Such a message is counted, takes effect and is answered. -/
theorem State.zttApply_writes {v : BufS} (hplain : m.Plain) (hfits : s.Fits m) (hadmits : s.Admits m v) :
    s.zttApply m = (((s.zttCount m.sess).zttWrite m.sess m.hdr m.pixels).relayMessage m.sess m.hdr m.pixels).zttReply m 0
      (gapErr m) true false := by
  obtain ⟨hdefer, hcoded, hrestart, htyp, hpresent⟩ := hplain
  obtain ⟨hwide, hright, hbottom, hcls, hlength, hbudget⟩ := hfits
  obtain ⟨hheld, hfmt, hknown, hleased, hqueued⟩ := hadmits
  rw [hlength] at hbudget
  have hdecode : s.zttDecode m (m.hdr.w * m.hdr.h * bytesPerPixel m.hdr.fmt) = (0, s, m.pixels) := by
    unfold State.zttDecode
    simp only [hcoded, hlength, Bool.false_eq_true, if_false, if_true, ZttWait.pixels]
  have heffect (a : State) : a.zttEffect m m.pixels =
      (a.zttWrite m.sess m.hdr m.pixels).relayMessage m.sess m.hdr m.pixels := by
    simp only [State.zttEffect, hwide, hpresent, if_true, Bool.false_eq_true, if_false]
  unfold State.zttApply
  simp only [hdefer, hcoded, hrestart, Bool.false_eq_true, if_false, Bool.and_false, Bool.false_and, hheld]
  rw [if_neg (by simp [hright, hbottom]), if_neg (by simp [hcls]), if_neg (by simp [htyp]), if_neg (by simp [hknown, hfmt]),
    if_neg (by simp [hbudget])]
  simp only [hwide, if_true, hdecode, ne_eq, not_true_eq_false, if_false, hleased, hqueued, Bool.or_self, Bool.false_eq_true,
    heffect]

theorem State.zttCount_counts (s : State) (n : Nat) :
    s.counted (s.zttCount n) (0x5810 + n) 0x0D 1 ∧ s.counted (s.zttCount n) 0x5800 0x04 1 :=
  ⟨(s.counted_bump (coderKey 0) (0x5810 + n) 0x0D 1).congr rfl (State.rn_bump_sub _ _ _ _ _ (by decide) (by decide) (by decide)),
    (State.counted_bump (s.bump (coderKey 0) (0x5810 + n) 0x0D) (coderKey 0) 0x5800 0x04 1).congr
      (State.rn_bump_sub _ _ _ _ _ (by decide) (by decide) (by decide)).symm rfl⟩

theorem State.zttCount_sansCounts (s : State) (n : Nat) : (s.zttCount n).sansCounts = s.sansCounts :=
  (State.bump_sansCounts _ _ _ _ _).trans (s.bump_sansCounts _ _ _ _)

/-- Relaying a message that took effect and answering it leave the surfaces and the engines, and but few counts change. -/
theorem State.relayed_answered (s : State) (m : ZttWait) (px : List Byte) (err : Nat) :
    ∃ r, (s.relayMessage m.sess m.hdr px).zttReply m 0 err true false = r ∧ r.gfx = s.gfx ∧ r.engines = s.engines ∧
      ∀ i b, b ≠ 0x0B ∧ b ≠ 0x07 ∧ b ≠ 0x05 → b < 256 → r.rn i b = s.rn i b := by
  have hrelay := s.relayMessage_sansRelayedMessage m.sess m.hdr px
  have hreply := (State.zttReply_delivers (s.relayMessage m.sess m.hdr px) m 0 err true false).frame
  refine ⟨_, rfl, ?_, ?_, fun i b hb hlt => ?_⟩
  · exact (congrArg State.gfx hreply :).trans (congrArg State.gfx hrelay :)
  · exact (congrArg State.engines hreply :).trans (congrArg State.engines hrelay :)
  · rw [State.rn_zttReply _ _ _ _ _ _ _ ⟨hb.1, hb.2.2⟩ hlt]
    exact State.rn_of_column (s.relayMessage_column ⟨hb.2.1, hb.2.2⟩ hlt _ _ _) i

variable {z : Nat}

theorem State.zttApplied_eq (hbusy : s.engines.look z = some m) : s.zttApplied z = { s with engines := s.engines.cut z }.zttApply m := by
  unfold State.zttApplied
  rw [hbusy]

theorem State.zttApplied_closed (hbusy : s.engines.look z = some m) (hdefer : m.defer = false) (hcoded : m.hdr.coded = false)
    (hrestart : m.hdr.restart = false) (hnone : (s.gfxOf m.sess).bufs.look m.hdr.buf = none) :
    ∃ s', s.zttApplied z = s' ∧ s'.engines = s.engines.cut z ∧ s.counted s' (0x5810 + m.sess) 0x0E 1 ∧
      s.counted s' 0x5800 0x05 1 ∧ s'.rn (0x5810 + m.sess) 0x11 = 4 ∧ s'.gfx = s.gfx := by
  generalize ha : ({ s with engines := s.engines.cut z } : State) = a
  have hfail : a.zttApply m = a.zttFail m 4 := State.zttApply_closed hdefer hcoded hrestart (ha ▸ hnone)
  obtain ⟨hown, hall, herr⟩ := a.zttFail_counts m 4
  have hframe := (a.zttFail_delivers m 4).frame
  have hrn (i b : Nat) : s.rn i b = a.rn i b := ha ▸ rfl
  refine ⟨_, (State.zttApplied_eq hbusy).trans ((congrArg (State.zttApply · m) ha).trans hfail), ?_, hown.congr (hrn _ _) rfl,
    hall.congr (hrn _ _) rfl, herr, ?_⟩
  · exact (congrArg State.engines hframe :).trans (ha ▸ rfl)
  · exact (congrArg State.gfx hframe :).trans (ha ▸ rfl)

/-- A write that its buffer takes lands there alone, and is counted (R366, R367). -/
theorem State.zttApplied_writes {v : BufS} (hplain : m.Plain) (hfits : s.Fits m) (hadmits : s.Admits m v)
    (hbusy : s.engines.look z = some m) :
    ∃ s', s.zttApplied z = s' ∧ s'.engines = s.engines.cut z ∧ s.counted s' (0x5810 + m.sess) 0x0D 1 ∧
      s.counted s' 0x5800 0x04 1 ∧ ((s'.gfxOf m.sess).bufs.at' m.hdr.buf {}).complete = false ∧
      ((s'.gfxOf m.sess).bufs.at' m.hdr.buf {}).pic = none ∧
      ((s'.gfxOf m.sess).bufs.at' m.hdr.buf {}).data = s.dataWritten m.sess m.hdr v.data m.pixels ∧
      (∀ b, b ≠ m.hdr.buf → (s'.gfxOf m.sess).bufs.look b = (s.gfxOf m.sess).bufs.look b) ∧
      ∀ k, k ≠ m.sess → s'.gfxOf k = s.gfxOf k := by
  have heq := State.zttApply_writes (s := { s with engines := s.engines.cut z }) hplain hfits hadmits
  have happlied := (State.zttApplied_eq hbusy).trans heq
  generalize ha : ({ s with engines := s.engines.cut z } : State) = a at happlied
  obtain ⟨hown, hall⟩ := a.zttCount_counts m.sess
  have hsame := a.zttCount_sansCounts m.sess
  have hwidth : (a.zttCount m.sess).rn (sIdx m.sess) 0x10 = s.rn (sIdx m.sess) 0x10 :=
    (State.rn_bump_sub _ _ _ _ _ (by decide) (by decide) (by decide)).trans
      ((a.rn_bump_sub _ _ _ _ (by decide) (by decide) (by decide)).trans (ha ▸ rfl))
  generalize a.zttCount m.sess = c at happlied hown hall hsame hwidth
  have hcgfx (k : Nat) : c.gfxOf k = s.gfxOf k := State.gfxOf_of_gfx ((congrArg State.gfx hsame :).trans (ha ▸ rfl)) k
  obtain ⟨u, hbufs, hcomplete, hpic, hdata⟩ := c.zttWrite_bufs m.sess m.hdr m.pixels
  obtain ⟨r, hr, hgfx, heng, hrn⟩ := (c.zttWrite m.sess m.hdr m.pixels).relayed_answered m m.pixels (gapErr m)
  have hrgfx (k : Nat) : r.gfxOf k = (c.zttWrite m.sess m.hdr m.pixels).gfxOf k := State.gfxOf_of_gfx hgfx k
  have hrbufs : (r.gfxOf m.sess).bufs = (s.gfxOf m.sess).bufs.put m.hdr.buf u := by rw [hrgfx, hbufs, hcgfx]
  have hat : (r.gfxOf m.sess).bufs.at' m.hdr.buf {} = u := by rw [hrbufs, Tab.at'_put_same]
  obtain ⟨hheld, hfmt, -, -, -⟩ := hadmits
  have hbefore : (s.gfxOf m.sess).bufs.at' m.hdr.buf {} = v := by rw [Tab.at', hheld, Option.getD_some]
  refine ⟨r, ?_, ?_, ?_, ?_, ?_, ?_, ?_, fun b hb => ?_, fun k hk => ?_⟩
  · rw [happlied, hr]
  · rw [heng, State.zttWrite_engines]
    exact (congrArg State.engines hsame :).trans (ha ▸ rfl)
  · exact hown.congr (ha ▸ rfl) (hrn _ _ (by decide) (by decide))
  · exact hall.congr (ha ▸ rfl) (hrn _ _ (by decide) (by decide))
  · rw [hat, hcomplete]
  · rw [hat, hpic]
  · rw [hat, hdata (by rw [hcgfx, hbefore, hfmt]), hcgfx, hbefore, State.dataWritten, State.dataWritten, State.stride, hwidth,
      State.stride]
  · rw [hrbufs, Tab.look_put_other _ _ hb]
  · rw [hrgfx, State.zttWrite_gfxOf _ _ _ _ hk, hcgfx]

end Applied

end Sys2Proof.Machine
end

section
/-! SUPPORT. The statement about ZTT messages: blocks coded and verified, and both directions of the coder that go on where they stopped
(R389 to R392). -/

namespace Sys2Proof.Machine

/-! ### One context at work -/

/-- A state without what the coder changes: dictionary values, the log, contexts and outputs. -/
def State.sansCoded (s : State) : State := { s with od := [], log := {}, ctxs := [], out := [] }

/-- States that differ in these alone: one is the other with those parts. -/
theorem State.eq_of_sansCoded {a b : State} (h : a.sansCoded = b.sansCoded) :
    a = { b with od := a.od, log := a.log, ctxs := a.ctxs, out := a.out } :=
  congrArg (fun x : State => { x with od := a.od, log := a.log, ctxs := a.ctxs, out := a.out }) h

/-- One context at work: the others stay, and so does the rest of the state but for counts, events and outputs. -/
abbrev State.CodesIn (c : Nat) (a b : State) : Prop := b.sansCoded = a.sansCoded ∧ ∀ d, d ≠ c → b.ctx d = a.ctx d

theorem State.CodesIn.frame {c : Nat} {a b : State} (h : State.CodesIn c a b) : b.sansCoded = a.sansCoded := h.1
theorem State.CodesIn.others {c : Nat} {a b : State} (h : State.CodesIn c a b) : ∀ d, d ≠ c → b.ctx d = a.ctx d := h.2

theorem State.ctx_of_sansCounts {a b : State} (h : a.sansCounts = b.sansCounts) (c : Nat) : a.ctx c = b.ctx c := by
  have hctxs : a.ctxs = b.ctxs := (congrArg State.ctxs h :)
  rw [State.ctx, hctxs, State.ctx]

section Codes
variable {a b : State} {c : Nat}

theorem State.CodesIn.refl (c : Nat) (a : State) : State.CodesIn c a a := ⟨rfl, fun _ _ => rfl⟩

theorem State.CodesIn.setCtx (h : State.CodesIn c a b) (x : CtxS) : State.CodesIn c a (b.setCtx c x) :=
  ⟨h.frame, fun d hd => (b.ctx_setCtx_other x hd).trans (h.others d hd)⟩

theorem State.CodesIn.of_sansCounts {b' : State} (h : State.CodesIn c a b) (hsame : b'.sansCounts = b.sansCounts) :
    State.CodesIn c a b' :=
  ⟨(congrArg (fun x : State => { x with ctxs := [], out := [] }) hsame).trans h.frame, fun d hd =>
    (State.ctx_of_sansCounts hsame d).trans (h.others d hd)⟩

theorem State.CodesIn.say (h : State.CodesIn c a b) (o : Out) : State.CodesIn c a (b.say o) := by
  rcases b.say_cases o with hsay | hsay <;> rw [hsay]
  · exact h
  · exact ⟨h.frame, h.others⟩

/-- Released codes leave the compressor's context without them, and are an output. -/
theorem State.CodesIn.releaseCodes (h : State.CodesIn c a b) : State.CodesIn c a (b.releaseCodes c) := by
  unfold State.releaseCodes
  extract_lets x f s₁
  split
  · exact h.setCtx _
  · exact (h.setCtx _).say _

end Codes

section Resume
variable (s : State) (c : Nat)

theorem State.say_setCtx (x : CtxS) (o : Out) : (s.setCtx c x).say o = (s.say o).setCtx c x := by
  unfold State.say
  rw [apply_ite (fun b : State => b.setCtx c x)]
  rfl

/-- What a compressor writes of its codes, and what it keeps (R391). -/
theorem State.releaseCodes_eq : ∃ f, f = fitCodes (s.ctx c).space (s.ctx c).resid (s.ctx c).pend ∧
    s.releaseCodes c = (if f.1.isEmpty then s else s.say (.coded c f.1)).setCtx c
      { s.ctx c with resid := f.2.1, pend := f.2.2.1, space := f.2.2.2 } := by
  refine ⟨_, rfl, ?_⟩
  unfold State.releaseCodes
  extract_lets x f s₁
  rw [apply_ite (fun b : State => b.setCtx c _), ← State.say_setCtx]

/-- A compressor goes on into the space it is given. -/
theorem State.compressResume_goes (space : Nat) :
    ∃ s' f, s.compressResume c space = s' ∧ f = fitCodes space (s.ctx c).resid (s.ctx c).pend ∧
      s'.ctx c = { s.ctx c with resid := f.2.1, pend := f.2.2.1, space := f.2.2.2 } ∧ (∀ d, d ≠ c → s'.ctx d = s.ctx d) ∧
      s'.out = (if f.1.isEmpty then s.out else (s.say (.coded c f.1)).out) ∧ s' = { s with ctxs := s'.ctxs, out := s'.out } := by
  obtain ⟨f, hf, heq⟩ := (s.setCtx c { s.ctx c with space := space }).releaseCodes_eq c
  rw [State.ctx_setCtx_same] at hf heq
  have hcodes : State.CodesIn c s (s.compressResume c space) := ((State.CodesIn.refl c s).setCtx _).releaseCodes
  refine ⟨_, f, rfl, hf, ?_, hcodes.others, ?_, ?_⟩
  · rw [State.compressResume, heq, State.ctx_setCtx_same]
  · rw [State.compressResume, heq, State.setCtx_out, State.say_setCtx]
    split <;> rfl
  · rw [State.compressResume, heq, State.say_setCtx, State.say_frame]
    split <;> rfl

/-- A decompressor gives no more bytes than it has space for (R392). -/
theorem expand_length_le (prime : List (Nat × Byte)) (f : Nat) (x : CtxS) (bits : List Bool) (space : Nat) (out : List Byte) :
    (expand prime f x bits space out).2.2.length ≤ out.length + space := by
  induction f generalizing x bits space out with
  | zero => exact Nat.le_add_right _ _
  | succ f ih =>
    unfold expand
    extract_lets n out' x' w code rest
    have hout : out'.length + (space - n) ≤ out.length + space := by
      simp only [out', n, List.length_append, List.length_take]
      omega
    have hstop : out'.length ≤ out.length + space := Nat.le_trans (Nat.le_add_right _ _) hout
    split
    · exact hstop
    split
    · exact hstop
    split
    · exact (ih _ _ _ _).trans hout
    split
    · exact (ih _ _ _ _).trans hout
    split
    · exact hstop
    · exact (ih _ _ _ _).trans hout

/-- A decompressor goes on with the input and the space it is given (R392). -/
theorem State.decompress_goes (input : List Byte) (space : Nat) :
    ∃ s', s.decompress c input space = s' ∧ (∀ d, d ≠ c → s'.ctx d = s.ctx d) ∧
      (∃ l, s'.out = (if l = [] then s.out else (s.say (.decoded c l)).out) ∧ l.length ≤ space) ∧
      s' = { s with ctxs := s'.ctxs, out := s'.out } := by
  unfold State.decompress
  extract_lets x bits r odd part x₁ s₁
  have hlen : r.2.2.length ≤ space := by simpa using expand_length_le _ _ _ bits space []
  by_cases hempty : r.2.2 = []
  · rw [hempty]
    exact ⟨s₁, rfl, fun d hd => s.ctx_setCtx_other _ hd, ⟨[], rfl, Nat.zero_le _⟩, rfl⟩
  · refine ⟨_, if_neg (by simpa using hempty), fun d hd => ?_, ⟨r.2.2, ?_, hlen⟩, ?_⟩
    · rw [State.say_setCtx, State.ctx_setCtx_other _ _ hd, State.say_frame]
      rfl
    · rw [if_neg hempty, State.say_setCtx]
      rfl
    · rw [State.say_setCtx, State.say_frame]
      rfl

end Resume

/-! ### Blocks (R389, R390) -/

section Blocks
variable {s : State} {c : Nat} {input : List Byte}

theorem State.releaseCodes_od (s : State) (c : Nat) : (s.releaseCodes c).od = s.od := by
  obtain ⟨f, -, heq⟩ := s.releaseCodes_eq c
  rw [heq, State.setCtx_od]
  split
  · rfl
  · exact s.say_od _

theorem State.releaseCodes_log (s : State) (c : Nat) : (s.releaseCodes c).log = s.log := by
  obtain ⟨f, -, heq⟩ := s.releaseCodes_eq c
  rw [heq, State.setCtx_log]
  split
  · rfl
  · exact s.say_log _

theorem State.releaseCodes_learnt (s : State) (c : Nat) : ((s.releaseCodes c).ctx c).learnt = (s.ctx c).learnt := by
  obtain ⟨f, -, heq⟩ := s.releaseCodes_eq c
  rw [heq, State.ctx_setCtx_same]

/-- A block works on its own context. -/
theorem State.compress_codesIn (s : State) (c : Nat) (input : List Byte) (mismatch : Bool) :
    State.CodesIn c s (s.compress c input mismatch) := by
  unfold State.compress
  split
  · exact .refl c s
  · extract_lets x k start e codes len stored s₁ s₂
    refine State.CodesIn.releaseCodes ?_
    have hctx (y : CtxS) : State.CodesIn c s (s.setCtx c y) := (State.CodesIn.refl c s).setCtx y
    simp only [s₂]
    split_ifs
    · exact (hctx _).of_sansCounts
        (((State.raise_sansCounts _ _ _ _ _).trans (State.bump_sansCounts _ _ _ _ _)).trans (State.bump_sansCounts _ _ _ _ _))
    · exact (hctx _).of_sansCounts (State.bump_sansCounts _ _ _ _ _)
    · exact hctx _

theorem State.compress_refused (hbad : input = [] ∨ 16384 < input.length ∨ outContext c = false) (mismatch : Bool) :
    s.compress c input mismatch = s := by
  refine if_pos ?_
  rcases hbad with rfl | hlong | hctx
  · rfl
  · simp [hlong]
  · simp [hctx]

/-- The counts and the event of a block whose shadow decode differed (R390). -/
def State.mismatched (s : State) (c : Nat) : State :=
  ((s.bump (coderKey 0) 0x5800 0x06).bump (coderKey 0) 0x5800 0x07).raise (coderKey 0) 0x0902 2 [(8, c)]

theorem State.mismatched_ctx (s : State) (c d : Nat) : (s.mismatched c).ctx d = s.ctx d :=
  State.ctx_of_sansCounts (by simp only [State.mismatched, State.raise_sansCounts, State.bump_sansCounts]) d

theorem State.mismatched_spec (s : State) (c : Nat) :
    s.counted (s.mismatched c) 0x5800 0x06 1 ∧ s.counted (s.mismatched c) 0x5800 0x07 1 ∧
      s.raised (s.mismatched c) (coderKey 0) 0x0902 2 [(8, c)] := by
  have hsix := s.counted_bump (coderKey 0) 0x5800 0x06 1
  have hgrown := s.bump_grown (coderKey 0) 0x5800 0x06 1
  have hsame := s.bump_sansCounts (coderKey 0) 0x5800 0x06 1
  have hrn (i j : Nat) (hj : (j ≠ 0x06 ∧ j ≠ 0x05) ∧ j < 256) := s.rn_bump_sub (coderKey 0) 0x5800 i 1 hj.1 (by decide) hj.2
  unfold State.mismatched
  generalize s.bump (coderKey 0) 0x5800 0x06 = a at hsix hgrown hsame hrn ⊢
  have hseven := a.counted_bump (coderKey 0) 0x5800 0x07 1
  have hgrown' := hgrown.trans (a.bump_grown (coderKey 0) 0x5800 0x07 1)
  have hsame' := (a.bump_sansCounts (coderKey 0) 0x5800 0x07 1).trans hsame
  have hrn' (i j : Nat) (hj : (j ≠ 0x07 ∧ j ≠ 0x05) ∧ j < 256) := a.rn_bump_sub (coderKey 0) 0x5800 i 1 hj.1 (by decide) hj.2
  generalize a.bump (coderKey 0) 0x5800 0x07 = b at hseven hgrown' hsame' hrn' ⊢
  have hraise (j : Nat) (hj : j ≠ 0x05 ∧ j < 256) := b.rn_raise_sub (coderKey 0) 0x0902 2 0x5800 [(8, c)] hj.1 hj.2
  have hid : b.rn 0x6800 0x0A = s.rn 0x6800 0x0A := (hrn' _ _ (by decide)).trans (hrn _ _ (by decide))
  have hforce : b.force = s.force := (congrArg State.force hsame' :)
  have htime : b.time = s.time := (congrArg State.time hsame' :)
  have hlink : b.link = s.link := (congrArg State.link hsame' :)
  exact ⟨hsix.congr rfl ((hraise _ (by decide)).trans (hrn' _ _ (by decide))),
    hseven.congr (hrn _ _ (by decide)).symm (hraise _ (by decide)),
    State.raised_after _ _ _ (hgrown'.mono (by norm_num)) (State.addrOf_congr hforce hid _) (State.clockOf_congr htime hlink _)⟩

/-- A block whose shadow decode differed leaves its context unprimed, is counted, and raises its event (R390). -/
theorem State.compress_mismatch (hctx : outContext c = true) (hne : input ≠ []) (hlen : input.length ≤ 16384) :
    ∃ s', s.compress c input true = s' ∧ (s'.ctx c).learnt = [] ∧ (∀ d, d ≠ c → s'.ctx d = s.ctx d) ∧
      s.counted s' 0x5800 0x06 1 ∧ s.counted s' 0x5800 0x07 1 ∧ s.raised s' (coderKey 0) 0x0902 2 [(8, c)] ∧
      s' = { s with od := s'.od, log := s'.log, ctxs := s'.ctxs, out := s'.out } := by
  have hcodes := s.compress_codesIn c input true
  obtain ⟨x, hx, heq⟩ : ∃ x : CtxS, x.learnt = [] ∧ s.compress c input true = ((s.setCtx c x).mismatched c).releaseCodes c := by
    unfold State.compress
    rw [if_neg (by simp [hctx, hne, hlen])]
    extract_lets x k start e codes len stored s₁ s₂
    exact ⟨{ x with learnt := [], pend := x.pend ++ stored 2 }, rfl, congrArg (State.releaseCodes · c) (if_pos rfl)⟩
  generalize s.compress c input true = r at hcodes heq ⊢
  generalize ha : s.setCtx c x = a at heq
  obtain ⟨hsix, hseven, hevent⟩ := a.mismatched_spec c
  have hrn (i b : Nat) : r.rn i b = (a.mismatched c).rn i b := by
    rw [heq]
    exact State.rn_of_look (by rw [State.releaseCodes_od])
  have hrn' (i b : Nat) : s.rn i b = a.rn i b := ha ▸ rfl
  refine ⟨_, rfl, ?_, hcodes.others, ?_, ?_, ?_, State.eq_of_sansCoded hcodes.frame⟩
  · rw [heq, State.releaseCodes_learnt, State.mismatched_ctx, ← ha, State.ctx_setCtx_same, hx]
  · exact hsix.congr (hrn' _ _) (hrn _ _)
  · exact hseven.congr (hrn' _ _) (hrn _ _)
  · intro hroom
    rw [heq, State.releaseCodes_log]
    subst ha
    exact hevent hroom

end Blocks

/-! ### The statement -/

/-- Settles O37, command by command: what each does to the state at its tick. -/
theorem messagesAreCheckedAndApplied : Obligations.MessagesAreCheckedAndApplied := by
  unfold Obligations.MessagesAreCheckedAndApplied
  intro s t u
  have hnext : ∀ {a b : State}, a = b → (.next a : Host.Outcome State Fault Refusal) = .next b := congrArg _
  refine ⟨?_, ?_, ?_, ?_, ?_, ?_, ?_, ?_, ?_, ?_, ?_, ?_⟩
  · exact fun p dst src dport sport b hdeaf => hnext (State.zttMessage_deaf hdeaf b)
  · intro p dst src dport sport b n hears hses _
    refine ⟨fun hbad => ?_, fun hlen hok hsess hopen hrun hseq hrange => ?_⟩
    · obtain ⟨s', hs', hrest⟩ := State.zttMessage_malformed hears hses hbad
      exact ⟨s', hnext hs', hrest⟩
    · obtain ⟨s', hs', hrest⟩ := State.zttMessage_expected hears hses hlen hok hsess hopen hrun hseq hrange
      exact ⟨s', hnext hs', hrest⟩
  · exact fun q w b hnone => hnext (State.zttMessage_unfetched hnone w b)
  · intro q w b hq hrun hkind hnew _ hbad
    obtain ⟨v, hfetch⟩ := State.fetchDesc_some hq hrun hkind hnew
    exact ⟨v, hfetch, hnext (State.zttMessage_invalid hfetch b hbad)⟩
  · intro z m hz hfree hserves hdie hfirst
    obtain ⟨s', hs', hrest⟩ := State.zttDispatch_takes hz hfree hserves hdie hfirst
    exact ⟨s', hnext hs', hrest⟩
  · exact fun z hidle => hnext (State.zttDispatch_idle hidle)
  · exact fun z hfree => hnext (State.zttApplied_free hfree)
  · intro z m hbusy hdefer hcoded hrestart
    refine ⟨fun hnone => ?_, ?_⟩
    · obtain ⟨s', hs', hrest⟩ := State.zttApplied_closed hbusy hdefer hcoded hrestart hnone
      exact ⟨s', hnext hs', hrest⟩
    · rintro v n h hheld rfl rfl htyp hpresent hwide hright hbottom hcls hknown hfmt hlength hbudget hleased hqueued
      obtain ⟨s', hs', hrest⟩ := State.zttApplied_writes ⟨hdefer, hcoded, hrestart, htyp, hpresent⟩
        ⟨hwide, hright, hbottom, hcls, hlength, hbudget⟩ ⟨hheld, hfmt, hknown, hleased, hqueued⟩ hbusy
      exact ⟨s', hnext hs', hrest⟩
  · intro c input hlow hhigh hne hlen
    have hctx : outContext c = true := by simp [outContext, hlow, hhigh]
    have hcodes := u.compress_codesIn c input false
    refine ⟨⟨u.compress c input false, rfl, hcodes.others, State.eq_of_sansCoded hcodes.frame⟩, ?_⟩
    obtain ⟨s', hs', hrest⟩ := State.compress_mismatch hctx hne hlen
    exact ⟨s', hnext hs', hrest⟩
  · exact fun c input bad hbad => hnext (State.compress_refused hbad bad)
  · intro c space
    obtain ⟨s', f, hs', hrest⟩ := u.compressResume_goes c space
    exact ⟨s', f, hnext hs', hrest⟩
  · intro c input space
    obtain ⟨s', hs', hrest⟩ := u.decompress_goes c input space
    exact ⟨s', hnext hs', hrest⟩

end Sys2Proof.Machine
end
